-- ==== Sys2Proof/Word.lean ====
section
/-! DEFINITION. The words and bytes of the GV-940 (00_scope R1-R4): the byte of host memory, the 64-bit payload of
an internal word, and byte strings written with the byte at the lowest address first. -/

namespace Sys2Proof

/-- A byte of host memory or of a record (R1). -/
abbrev Byte := BitVec 8

/-- The 64-bit payload of an internal word, as software sees it (R3, R4). -/
abbrev Word := BitVec 64

/-- A byte string; the head is the byte at the lowest address (R1). -/
abbrev Bytes := List Byte

end Sys2Proof
end

