-- ==== Sys2Proof/Syntax.lean ====
section
/-! DEFINITION. The commands the block takes: one constructor of `Instr` for each row of the table of operations and
events. A row of the GVCMD set (R10) names the submission it acts on; its operands are the operand bytes latched with
that submission. An event row carries what its occasion brings from outside. -/

namespace Sys2Proof

/-- A host port (02). -/
inductive PortId | a | b
  deriving DecidableEq, Repr

/-- The other port. -/
def PortId.other : PortId → PortId
  | .a => .b
  | .b => .a

/-- 0 for port A, 1 for port B (MBX_INFO.PORT). -/
def PortId.num : PortId → Nat
  | .a => 0
  | .b => 1

/-- Port A for 0, port B otherwise. -/
def PortId.ofNum : Nat → PortId
  | 0 => .a
  | _ => .b

/-- A binding (R29): PF0 binding slot `n` (0 is the owner's), or VF `n`, of a port. -/
structure BindId where
  port : PortId
  vf : Bool
  n : Nat
  deriving DecidableEq, Repr

/-- The function number of a binding's DMA and MSI-X: 0 is PF0 (HPT_ERR_FUNC). -/
def BindId.func (b : BindId) : Nat := if b.vf then b.n else 0

/-- The table key of a binding within its port: binding slot n, or 4096 + k for VF k. -/
def BindId.key (b : BindId) : Nat := if b.vf then 4096 + b.n else b.n

/-- The owner binding, slot 0 of a port (R31). -/
def BindId.isOwner (b : BindId) : Bool := !b.vf && b.n == 0

/-- Which submission a command belongs to: the one a mailbox runs, one fetched from a queue pair (`seq` numbers the
entries fetched), or internal work of the device (R23; `seq` numbers the requests). -/
inductive Origin
  | mailbox (b : BindId)
  | queue (qpn seq : Nat)
  | internal (seq : Nat)
  deriving DecidableEq, Repr

/-- An error of an arith engine's operand memory, which no SECDED covers (R213): a word, and the bits of it that are inverted. -/
abbrev MemError := Nat × Nat

/-- How an arith engine's run ends: the errors in the result's words of its operand memory, and the error pattern on the
ARITH→VAULT data path that the wrapped output crosses (R213, R218); without either, both are empty. -/
structure ArithEnd where
  errs : List MemError := []
  wire : Bytes := []
  deriving DecidableEq, Repr

/-- How a host DMA read ends (R44). -/
inductive DmaResult
  | data (bs : Bytes)
  | ur
  | ca
  | poisoned
  deriving DecidableEq, Repr

/-- The binding a management message comes by (R447): the management port, or PCIe VDM on PF0 of a port. -/
inductive MgmtConn
  | port
  | vdm (p : PortId)
  deriving DecidableEq, Repr

/-- A request of Quartz firmware to a dispatcher (R444), or one of a type that R444 does not list. -/
inductive QuartzReq
  | signAttest | signFail | signSpdm | cosignSpdm | verifyImage | verifyWard | other
  deriving DecidableEq, Repr

/-- A Swivawa frame (R402): its header fields and payload. `lineOk`: no FEC or coding error falls in it, HCRC, VERSION,
RSVD bits, delimited length and FCS are good; `mac`: the tag that follows a sealed payload; `fec`: codewords corrected and
uncorrectable. -/
structure Frame where
  ty : Nat
  cls : Nat := 1
  sealed : Bool := false
  keyPhase : Bool := false
  hops : Nat := 0
  dst : Nat := 0
  src : Nat := 0
  tag : Nat := 0
  lseq : Nat := 0
  payload : Bytes := []
  lineOk : Bool := true
  mac : Bytes := []
  fec : Nat × Nat := (0, 0)
  deriving DecidableEq, Repr

/-- What arrives from a card (R374, R375): the field of a short response, the CID[127:8] of a long one, a data block, a CRC
status, or a frame or block whose check fails. -/
inductive CardResp
  | short (v : Nat)
  | long (cid : Nat)
  | block (bs : Bytes)
  | crcStatus (ok : Bool)
  | bad
  deriving DecidableEq, Repr

/-- What a start brings from outside the model (R299 to R310): the trim shadow's CRC, the ROM words and digests, the SRAM
PUF's cells, the self-tests with the units that failed, the images whose header or body does not read, HBM training and
the rails, the islands a clock monitor would stop. -/
structure StartInput where
  trimShadowOk : Bool := true
  romOk : Bool := true
  romDigests : Bytes := []
  cells : Bytes := []
  pufProgramOk : Bool := true
  testsOk : Bool := true
  dguFailed : Nat := 0
  routeFailed : Nat := 0
  sealFailed : List Nat := []
  arithFailed : List Nat := []
  badHeader : List Nat := []
  badBody : List Nat := []
  hbmOk : Bool := true
  /-- The lowest VHOLD reading of the last 1 ms, in mV (R321). -/
  vhold : Nat := 0
  deriving DecidableEq, Repr

/-- What the re-run of the control plane does next (R489 to R491). `done`: it produces a completion entry, or a mailbox's DONE, with
the SHA-384 of the result; `secret` where a byte of that result comes from an engine, the key-wrap unit or vault key
material. `needs`: a job needs the OUTCOME of a unit of a block. -/
inductive ReplayEvent
  | done (qpn : Nat) (words : List Nat) (digest : List Nat) (secret : Bool)
  | needs (block unit qpn tag : Nat)
  deriving DecidableEq, Repr

/-- A winner recorded at a position that is not among the candidates that wait: the position, and the candidates waiting (R490). -/
abbrev AbsentWinner := Nat × Nat

/-- Where a host write to a register goes (R34, R35): the control-block region of a port's PF0 BAR, a mailbox page, a
doorbell region, a function's MSI-X table, an offset of a function's whole BAR0; in configuration space, the MSI-X Message
Control, Device Control and Device Control 2 of a function (R41, R44, R46). -/
inductive RegTarget
  | control (p : PortId)
  | mailbox (b : BindId)
  | doorbell (b : BindId)
  | msixTable (p : PortId) (fn : Nat)
  | bar (p : PortId) (fn : Nat)
  | msixControl (p : PortId) (fn : Nat)
  | devControl (p : PortId) (fn : Nat)
  | devControl2 (p : PortId) (fn : Nat)
  deriving DecidableEq, Repr
/-- The commands of the block: one constructor for each row of the table of operations and events. -/
inductive Instr
  /-- A write to MBX_CMD or the operand area is latched in IDLE or DONE, and in BUSY is ignored and sets WRITE_WHILE_BUSY. (R48) -/
  | mbxCmdWrite (b : BindId) (off : Nat) (bs : Bytes)
  /-- GO in IDLE latches MBX_CMD and the operands and passes the command to the scheduler; in BUSY or DONE it sets GO_NOT_IDLE. (R48) -/
  | mbxGo (b : BindId) (ack abort irqEn : Bool)
  /-- ACK in DONE clears the result area and returns the mailbox to IDLE; otherwise it sets ACK_NOT_DONE. (R48) -/
  | mbxAck (b : BindId) (abort irqEn : Bool)
  /-- ABORT in BUSY requests that the running command end at its next abort point; in other states it is ignored. (R50) -/
  | mbxAbort (b : BindId) (irqEn : Bool)
  /-- An aborted command reaches its next abort point before its commit point, ends with E_ABORTED and sets ABORTED. (R50) -/
  | abortPointReached (o : Origin)
  /-- A mailbox or queue entry whose command code is 0x0000 or unassigned completes with E_CMD_UNKNOWN and no action. (R11) -/
  | cmdUnknown (o : Origin)
  /-- A submission tail doorbell write sets SQ_TAIL, or is ignored and counted in DB_BAD_COUNT. (R64) -/
  | sqTailDoorbell (b : BindId) (q : Nat) (v : Nat)
  /-- A completion head doorbell write sets CQ_HEAD and releases CQ space, or is ignored and counted in DB_BAD_COUNT. (R64) -/
  | cqHeadDoorbell (b : BindId) (q : Nat) (v : Nat)
  /-- A fetched submission entry arrives whole and passes the checks of R72 in order, or ends with the first failing status. (R72) -/
  | sqEntryFetch (qpn : Nat) (r : DmaResult)
  /-- When SPOOF_COUNT reaches SPOOF_LIMIT, the tenant is quiesced as by TENANT_QUIESCE with MODE ABORT. (R269) -/
  | spoofLimitReached (t : Nat)
  /-- Once resources are free and CQ space is held, the scheduler starts the next eligible job by class, deficit and weight. (R80) -/
  | schedJobStart (o : Origin)
  /-- A tenant's operation or byte bucket refills at its rate, making jobs of classes 1 to 3 eligible again once it is no longer below zero. (R81) -/
  | tenantBucketRefill (t us : Nat)
  /-- COAL_TIME microseconds after the first uncoalesced completion, the CQ's vector is raised. (R78) -/
  | coalTimeExpire (qpn : Nat)
  /-- Unmasking an MSI-X vector sends the message whose PBA bit is pending. (R46) -/
  | msixUnmask (p : PortId) (fn vec : Nat)
  /-- A DMA read completion returns data, or UR, CA or poisoned data that ends the job with E_HOST_DMA. (R44) -/
  | hostDmaReadCompletion (o : Origin) (r : DmaResult)
  /-- A DMA read that is not answered within the completion timeout ends its job with E_HOST_DMA. (R44) -/
  | cplTimeout (o : Origin)
  /-- The zero-length read on the non-completing port returns, and the completion entry or the mailbox DONE is then written. (R43) -/
  | orderingReadCompletion (o : Origin) (ok : Bool)
  /-- A port's link enters L0; BELOW_RATED is set and an event recorded when the rate is below 16 GT/s. (R28) -/
  | pcieLinkUp (p : PortId) (rate width : Nat) (flit : Bool)
  /-- DL_UP clears, and every outstanding read and pending DMA on that port ends its job with E_HOST_DMA. (R44) -/
  | pcieLinkDown (p : PortId)
  /-- A Function Level Reset of a VF or PF0 stops fetching, aborts uncommitted jobs, resets the mailbox and moves the tenant to QUIESCING. (R55) -/
  | flr (p : PortId) (fn : Nat)
  /-- A conventional reset by PERST applies R55 to every binding of its port. (R56) -/
  | perstAssert (p : PortId)
  /-- PERST deassertion retrains the link; in DORMANT, after an assertion of at least 100 µs, it is a wake source. (R56) -/
  | perstDeassert (p : PortId)
  /-- Clearing Bus Master Enable stops all further DMA for the function, and jobs that need DMA end as R44 gives. (R57) -/
  | bmeClear (p : PortId) (fn : Nat)
  /-- Owner command that instantiates the DRBG instance, makes or restores the tenant root and writes the tenant record. (R262) -/
  | tenantCreate (o : Origin)
  /-- Owner command that writes a tenant's grant block, which takes effect at the record write. (R261) -/
  | tenantSetGrant (o : Origin)
  /-- Owner command that binds a VF or PF binding slot to a QUIESCED tenant as primary or twin. (R263) -/
  | tenantBind (o : Origin)
  /-- Owner command that removes a binding from a QUIESCED tenant. (R264) -/
  | tenantUnbind (o : Origin)
  /-- Owner command that stops fetching for a tenant and drains or aborts its work in flight. (R265) -/
  | tenantQuiesce (o : Origin)
  /-- The last job in flight of a QUIESCING tenant ends; the tenant becomes QUIESCED and a waiting TENANT_QUIESCE completes. (R255) -/
  | tenantQuiesced (t : Nat)
  /-- Owner command that moves a QUIESCED tenant with a primary binding to ACTIVE and resumes its queue pairs. (R266) -/
  | tenantEnable (o : Origin)
  /-- Owner command that shreds every tree of the tenant, clears its slots and state, and keeps its root, grants and bindings. (R267) -/
  | tenantReset (o : Origin)
  /-- Owner command that shreds every tree of the tenant, clears all its state and frees its context. (R267) -/
  | tenantDestroy (o : Origin)
  /-- One second after a tombstone failed both attempts during RESET or DESTROY, it is written again at a new position. (R267) -/
  | tombstoneRetry (t : Nat)
  /-- Command that returns the state, counts, balances and grant of a tenant context. (R258) -/
  | tenantInfo (o : Origin)
  /-- Command that returns the verdict that the vault's checks would give for a delivery, together with the tenant's state flags. (R268) -/
  | policyQuery (o : Origin)
  /-- Command that checks and creates a queue pair context for the issuing binding. (R68) -/
  | qpCreate (o : Origin)
  /-- Command that frees an idle queue pair owned by the issuing binding. (R70) -/
  | qpDelete (o : Origin)
  /-- Command that generates a symmetric or asymmetric key into an empty slot or a pending half. (R162) -/
  | keyGenerate (o : Origin)
  /-- Command that derives an AES or SECRET key from a parent slot by the KDF into a slot. (R153) -/
  | keyDerive (o : Origin)
  /-- Command that wraps the active half of a slot into a blob of the requested KIND. (R165) -/
  | keyWrap (o : Origin)
  /-- Command that checks a blob and unwraps it into an empty slot or a pending half. (R167) -/
  | keyUnwrap (o : Origin)
  /-- Command that validates a public key and imports it into a slot. (R148) -/
  | keyImportPublic (o : Origin)
  /-- Command that tests a pending half and sets PROVEN, or clears the half on failure. (R172) -/
  | keyProve (o : Origin)
  /-- Command that flips a PROVEN pending half to active when VERSION equals EXPECT_VERSION. (R173) -/
  | keyCommit (o : Origin)
  /-- Command that clears a pending half and its records. (R168) -/
  | keyDiscard (o : Origin)
  /-- Destroy order that clears both halves of a slot and revokes every engine copy; on an AGATE_ROOT slot it is the whole-epoch shred. (R161) -/
  | keyDestroy (o : Origin)
  /-- Command that returns the active and pending attribute words of a slot. (R147) -/
  | keyAttrRead (o : Origin)
  /-- Command that narrows DEST, USAGE and EXPORTABLE and may set LOCKED. (R147) -/
  | keyAttrSet (o : Origin)
  /-- Command that writes the public encoding of a slot's active or pending half. (R149) -/
  | keyPublic (o : Origin)
  /-- An engine holding a revoked key reaches its next 256-byte boundary, clears the key and ends its job with E_SUPERSEDED. (R161) -/
  | engineRevokeStop (o : Origin)
  /-- Command that draws a tree root and top node, writes the BATCH 0 anchor and returns the one-page blob. (R189) -/
  | agateTreeCreate (o : Origin)
  /-- Command that checks a blob set against the anchor, CURRENT or ADVANCE, and makes the tree READY. (R195) -/
  | agateLoad (o : Origin)
  /-- Command that writes the blob set of the current BATCH and may unload the tree. (R193) -/
  | agateExport (o : Origin)
  /-- Destroy order that enters a range into the tree's staged set and blocks its leaves. (R206) -/
  | shredStage (o : Origin)
  /-- Destroy order that punctures the frontier by the staged snapshot, writes the anchor and returns the new blob set. (R207) -/
  | shredCommit (o : Origin)
  /-- Command that returns the tree's BATCH, state and anchor from the on-chip copy. (R197) -/
  | anchorStatus (o : Origin)
  /-- A program of an anchor entry's body or MARK completes and is read back; when MARK reads 0xA5 the command commits, and otherwise the entry is killed and retried. (R198) -/
  | anchorProgramDone (ok : Bool)
  /-- The device-wide journal bucket gains a token and serves the oldest waiting journal write. (R205) -/
  | journalTokenRefill
  /-- Before the head enters the last erased sector, live entries of the oldest sector are copied forward and that sector is erased. (R201) -/
  | journalCarryForward (eraseOk : Bool)
  /-- Queue command that checks, derives a data key and seals an extent into ciphertext and a seal record. (R96) -/
  | seal (o : Origin)
  /-- Queue command that decrypts an extent to DST in one pass and checks its tag and, optionally, its digest. (R101) -/
  | recall (o : Origin)
  /-- Queue command that performs the reads and checks of RECALL without writing plaintext. (R105) -/
  | verify (o : Origin)
  /-- Queue command that digests a host buffer on a seal engine without a key. (R89) -/
  | digestOnly (o : Origin)
  /-- A seal engine finishes an extent, writes the record or result and the completion, and clears its keys. (R97) -/
  | sealEngineJobDone (o : Origin)
  /-- At a slice boundary, a RESERVED engine with class 0 orders waiting parks its class 1 to 3 job. (R121) -/
  | reservedSlicePark (n : Nat)
  /-- Once no class 0 order is waiting, the engine resumes its parked job from the boundary. (R121) -/
  | parkedJobResume (n : Nat)
  /-- A seal engine detects an attempt failure, clears its keys, enters QUARANTINED and the extent is rerun or ends with E_ENGINE_FAIL. (R125) -/
  | engineAttemptFail (n cause : Nat)
  /-- No microsequence progress for 16 µs while input is available fails the attempt. (R124) -/
  | sealEngineWatchdog (n : Nat)
  /-- The last job of a DRAINING seal engine ends and the engine becomes QUARANTINED. (R129) -/
  | engineDrained (n : Nat)
  /-- A seal engine's readmission tests end, and it returns to IN_SERVICE or goes to QUARANTINED or RETIRED. (R129) -/
  | engineTestDone (n failed : Nat)
  /-- Owner command that starts the known-answer tests of a QUARANTINED seal engine. (R129) -/
  | engineReadmit (o : Origin)
  /-- Owner command that drains an IN_SERVICE seal engine and takes it out of service. (R129) -/
  | engineQuarantine (o : Origin)
  /-- Command that assigns a manifest handle and draws its MANIFEST_ID. (R115) -/
  | manifestOpen (o : Origin)
  /-- Command that moves a manifest to CLOSING and waits for its assigned jobs. (R115) -/
  | manifestClose (o : Origin)
  /-- When every job assigned to a CLOSING manifest has ended, the header is formed, signed and written, or the manifest is abandoned. (R114) -/
  | manifestHeaderForm (h : Nat)
  /-- Command that computes a digest, HMAC or KMAC on a guard digest unit. (R136) -/
  | digestMac (o : Origin)
  /-- A standalone digest unit's count reaches DECL_LEN, it pads and finishes the digest. (R132) -/
  | digestJobDone (o : Origin)
  /-- A feeder ends input before DECL_LEN; the unit reports SHORT and clears the job. (R133) -/
  | digestShort (w : Nat)
  /-- At a 65,536-byte boundary a DIGEST_MAC job yields its context to a waiting ward job. (R134) -/
  | dguContextYield (o : Origin)
  /-- Command that returns both banks and EXTEND_COUNT of a measurement register. (R138) -/
  | measRead (o : Origin)
  /-- Owner command that digests data on DGU_Q and extends MR_28 to MR_31. (R138) -/
  | measExtend (o : Origin)
  /-- Command that returns stored measurement log entries. (R142) -/
  | measLogRead (o : Origin)
  /-- A write to DGT_MR_SEL latches a snapshot of the selected register and bank. (R143) -/
  | dgtMrSelWrite (v : Nat)
  /-- Command that signs a message with a slot key on an arith engine. (R214) -/
  | sign (o : Origin)
  /-- Command that checks a signature with a slot or supplied public key. (R227) -/
  | sigVerify (o : Origin)
  /-- Command that performs ECDH or X448 and returns Z or stores a derived key. (R224) -/
  | deriveShared (o : Origin)
  /-- Command that performs ML-KEM-1024 encapsulation. (R215) -/
  | encaps (o : Origin)
  /-- Command that performs ML-KEM-1024 decapsulation with implicit rejection. (R225) -/
  | decaps (o : Origin)
  /-- An arith job ends: invariant check, release of the output only when it passes, wipe of the operand memory, engine free. (R219) -/
  | arithJobDone (o : Origin) (r : ArithEnd)
  /-- After 1,048,576 consecutive jobs without an invariant failure, INV_STRIKES returns to 0. (R228) -/
  | invStrikesClear (n : Nat)
  /-- An arith engine fault stops and wipes the engine, quarantines it and reruns the job. (R233) -/
  | arithEngineFault (n cause : Nat)
  /-- No sequencer step completes for 16 µs, which is an engine fault. (R233) -/
  | arithWatchdog (n : Nat)
  /-- An arith engine's readmission tests end and decide its state. (R235) -/
  | ariTestDone (n failed : Nat)
  /-- The last job of a DRAINING arith engine ends and it becomes QUARANTINED. (R234) -/
  | ariDrained (n : Nat)
  /-- Owner command that starts the readmission tests of a QUARANTINED arith engine. (R234) -/
  | ariReadmit (o : Origin)
  /-- Owner command that drains an IN_SERVICE arith engine out of service. (R234) -/
  | ariQuarantine (o : Origin)
  /-- Command that draws random bytes from the caller's DRBG instance. (R245) -/
  | rngGenerate (o : Origin)
  /-- The conditioner produces a 384-bit block into the entropy queue, serving any instantiation or reseed that waits. (R239) -/
  | conditionerBlock (raw : Bytes)
  /-- A draw that waited 100 µs for a queue block ends with E_RNG_STARVED. (R248) -/
  | rngStarvedTimeout (o : Origin)
  /-- A noise source's 4,096-sample start-up test ends and the source becomes HEALTHY or fails. (R237) -/
  | noiseStartupTestDone (n : Nat) (samples : Bytes)
  /-- A health test fails; the source goes OFFLINE and its conditioning block is discarded. (R237) -/
  | noiseSourceFail (n : Nat) (samples : Bytes)
  /-- One second after a failure, the source repeats its start-up test, or is RETIRED at its third failure. (R237) -/
  | noiseSourceRetest (n : Nat) (samples : Bytes)
  /-- A change of RNG_TEST.MODE in FACTORY empties the queue and uninstantiates every instance. (R251) -/
  | rngTestWrite (v : Nat)
  /-- A read of RNG_RAW in BLANK or FACTORY consumes the next 64 raw bits of the selected source. (R251) -/
  | rngRawRead (samples : Nat)
  /-- Owner command that waits up to WAIT_MS for the HUSH condition. (R283) -/
  | pwrHush (o : Origin)
  /-- The HUSH condition is found to hold at the merge point for a waiting PWR_HUSH; the command completes and HUSH is entered. (R283) -/
  | hushConditionMet (o : Origin)
  /-- WAIT_MS passes without the HUSH condition and PWR_HUSH ends with I_HUSH_ABANDONED. (R283) -/
  | hushWaitExpire (o : Origin)
  /-- The HUSH condition has held for AUTO_HUSH milliseconds and the device enters HUSH. (R283) -/
  | autoHushTimer
  /-- Owner command that writes the dormant image, stores its digest in MOONSTONE and prepares DORMANT. (R288) -/
  | pwrDormant (o : Origin)
  /-- 100 ms after DONE of PWR_DORMANT, FW_ACTIVATE or AMB_REPLAY without an ACK, the deferred power-down or restart proceeds. (R288) -/
  | doneTimeout
  /-- Owner command that checks the dormant image against the MOONSTONE record and restores its slots. (R297) -/
  | pwrImageRestore (o : Origin)
  /-- Owner command that clears the dormant image record. (R290) -/
  | pwrImageDiscard (o : Origin)
  /-- WAKE_IN_N held low for 100 µs wakes the device from DORMANT when enabled. (R293) -/
  | wakeInAssert
  /-- PWR_RTC reaches a non-zero ALARM and wakes the device when enabled. (R293) -/
  | rtcAlarm
  /-- A private write of 0x57 to the static address in DORMANT wakes the device when enabled. (R293) -/
  | i3cWakeCommand
  /-- VDD_CORE and VDD_AON have been good for 1 ms; STARTUP begins. (R522) -/
  | powerGood (inp : StartInput)
  /-- A STARTUP draw that has waited 100 ms halts the start with BOOT_CODE 0x9. (R546) -/
  | startupEntropyTimeout
  /-- VDD_CORE falls below 0.66 V with VHOLD low; islands are held in reset and the device drops to DORMANT without an image. (R280) -/
  | vddCoreLoss
  /-- VDD_AON falls below 0.72 V and MOONSTONE switches to VBAT. (R281) -/
  | vddAonLoss (vbat : Bool)
  /-- VBAT below 2.3 V on VBAT power clears the root salt and the dormant image record. (R334) -/
  | vbatSaltClear
  /-- VBAT reads below 2.5 V with VDD_AON present; VBAT_LOW is set and ALERT_N asserted. (R335) -/
  | vbatLow (mv : Nat)
  /-- The 32.768 kHz crystal has stopped for 10 ms; XTAL_FAIL is set and an event recorded. (R335) -/
  | xtalFail
  /-- Owner command that draws a new 32-byte challenge. (R327) -/
  | lcsChallenge (o : Origin)
  /-- 300 s after it is drawn, the outstanding challenge expires. (R327) -/
  | challengeExpire
  /-- Owner command that checks authority and VHOLD and programs the next lifecycle codeword, floor and wipes. (R322) -/
  | lcsTransition (o : Origin) (vhold : Nat) (cells : Bytes)
  /-- TAP instruction that shifts out the challenge, DEVICE_ID and state. (R328) -/
  | dbgChallenge
  /-- TAP instruction whose token is checked at Update-DR and may unlock debug or transition to SCRAPPED. (R326) -/
  | dbgToken (t : Bytes)
  /-- The mismatch periods of the Onyx mesh among the last W reach N and raise an alarm. (R330) -/
  | meshAlarm
  /-- An enabled tamper loop's mismatch periods reach N within W and raise an alarm. (R337) -/
  | tloopAlarm (k : Nat)
  /-- A voltage or temperature monitor crosses its threshold and raises an alarm. (R332) -/
  | envAlarm (bit : Nat)
  /-- A clocked island's frequency leaves ±5 % and raises a clock-frequency tamper event. (R14) -/
  | clockAlarm (island : Nat)
  /-- A TAMP_IN_N input reads low for FILTER samples; when enabled, it raises an alarm. (R336) -/
  | tampInAssert (n : Nat)
  /-- Owner command that asserts ZEROISE without latching or helper destruction and enters LOCKDOWN. (R346) -/
  | tmpZeroise (o : Origin)
  /-- A write to TMP_MESH_CFG raises N or W only, or sets LOCK. (R331) -/
  | tmpMeshCfgWrite (v : Nat)
  /-- A write to TMP_IN_CFG sets enables, FILTER or LOCK until MOONSTONE power loss. (R338) -/
  | tmpInCfgWrite (v : Nat)
  /-- A MOONSTONE comparator above 130 °C drives THERMTRIP_N low. (R526) -/
  | thermtripAssert
  /-- A ward's WPG rises and the ward, after settling, begins verification or becomes DISABLED. (R361) -/
  | wpgRise (w : Nat)
  /-- A ward's WPG falls; flash-side work ends and the port goes OFF. (R361) -/
  | wpgFall (w : Nat)
  /-- WPG_SETTLE_MS after WPG rose, verification starts its first flash access. (R361) -/
  | wardSettleDone (w : Nat)
  /-- A ward verification ends, releasing the ward, recovering it, or marking it FAILED. (R362) -/
  | wardVerifyDone (w : Nat) (sfdp : Bytes) (contents : List Bytes)
  /-- A recovery's erase and program end, and verification follows. (R366) -/
  | wardRecoveryDone (w : Nat) (golden : List Bytes) (ok : Bool)
  /-- WIP fails to clear within its time limit and the verification or recovery fails. (R362) -/
  | wardFlashTimeout (w : Nat)
  /-- A ward SPI command's opcode and address are decided by the filter and passed to the flash or refused. (R353) -/
  | wardSpiCommand (w op addr len : Nat) (bs : Bytes)
  /-- Owner command that checks and stores a ward manifest. (R360) -/
  | wardManifestSet (o : Origin)
  /-- Owner command that holds a ward in reset and verifies its flash again. (R362) -/
  | wardVerify (o : Origin)
  /-- Owner command that rewrites a ward's flash from the golden flash, host or fabric, and then verifies it. (R366) -/
  | wardRecover (o : Origin)
  /-- Owner command that asserts WRST_N and WAUX_N and holds the ward. (R361) -/
  | wardHold (o : Origin)
  /-- Owner command that asserts or releases WAUX_N of a RUNNING ward. (R365) -/
  | wardAux (o : Origin)
  /-- Command that returns the state and counts of a ward port. (R361) -/
  | wardInfo (o : Origin)
  /-- DET_N has been low for 50 ms; the socket is powered and its card identified and resolved. (R373) -/
  | cardInsert (n : Nat)
  /-- DET_N has been high for 20 µs; the bus command ends, the socket may be marked UNCERTAIN and the command ends with E_TKN_REMOVED. (R382) -/
  | cardRemove (n : Nat)
  /-- A card's short or long response, or a data block, arrives on the bus. (R374) -/
  | cardResponse (bus : Nat) (r : CardResp)
  /-- A card releases DAT0 at the end of its busy phase. (R375) -/
  | cardBusyEnd (bus : Nat)
  /-- A socket has carried no command for IDLE_OFF_S seconds and its power is removed. (R381) -/
  | socketIdleOff (n : Nat)
  /-- One second after the last failed UNLOCK, a waiting UNLOCK is sent. (R388) -/
  | unlockDelay (n : Nat)
  /-- Owner command that identifies the escrow bus again and returns the serials. (R380) -/
  | tknScan (o : Origin)
  /-- Owner command that starts a ceremony, drawing SET_ID and forming the polynomial. (R391) -/
  | ceremonyBegin (o : Origin)
  /-- Owner command that unlocks a card, reads and checks its share and counts it toward the quorum. (R387) -/
  | ceremonyPresent (o : Origin)
  /-- Owner command that writes a share to a blank card and confirms it. (R393) -/
  | ceremonyEnrol (o : Origin)
  /-- Owner command that returns the ceremony state, confirmed and uncertain indices and SET_ID. (R391) -/
  | ceremonyStatus (o : Origin)
  /-- Owner command that clears the ceremony store. (R394) -/
  | ceremonyEnd (o : Origin)
  /-- A ceremony window or the validity of a DONE ceremony passes, and the ceremony ends. (R390) -/
  | ceremonyExpire
  /-- Owner command that sends FORCE_ERASE to a socket's card. (R379) -/
  | cardForceErase (o : Origin)
  /-- Owner command that writes a tenant root blob to an escrow cartridge block. (R396) -/
  | escrowStore (o : Origin)
  /-- Owner command that reads a tenant root blob from an escrow cartridge. (R396) -/
  | escrowFetch (o : Origin)
  /-- Signal is detected on a DOWN link and full training begins. (R400) -/
  | swlSignalDetect (l : Nat)
  /-- Full or fast training ends with FEC lock, and the link enters TRAINED or resumes its state. (R400) -/
  | swlTrainingDone (l : Nat)
  /-- Training does not end within 200 ms; the link returns to DOWN and retries after 1 s. (R400) -/
  | swlTrainingTimeout (l : Nat)
  /-- Every 1 ms a BEACON is sent on each link from TRAINED onward. (R404) -/
  | swlBeaconTimer
  /-- A BEACON is received; the partner's state, ID_HASH and network fields are taken and a handshake may start. (R404) -/
  | beacon (l : Nat) (f : Frame)
  /-- A handshake fragment of INIT, RESP or AUTH is received and the session is keyed or authenticated. (R406) -/
  | hs (l : Nat) (f : Frame)
  /-- A handshake message does not arrive within 1 s, and the handshake fails. (R406) -/
  | swlHsTimeout (l : Nat)
  /-- The handshake backoff delay after a failure expires and a new attempt starts. (R410) -/
  | swlHsRetry (l : Nat)
  /-- LSEQ reaches 2^40, or 24 h pass, and a session renewal starts. (R412) -/
  | swlRenewal (l : Nat)
  /-- 10 ms after the key phase toggles, the previous receive key is dropped. (R412) -/
  | swlOldKeyExpire (l : Nat)
  /-- A RATE frame requests or acknowledges a change between FULL and KEEP_ALIVE. (R401) -/
  | rate (l : Nat) (f : Frame)
  /-- A KA_BEACON from the partner ends the session and moves the link to PEER_DORMANT. (R414) -/
  | kaBeacon (l : Nat) (f : Frame)
  /-- A WAKE frame with DST equal to NODE_ADDR is received in DORMANT and qualifies as a wake source. (R418) -/
  | wake (l : Nat) (f : Frame)
  /-- A DORMANT_NOTICE is received and a LATE_NAK with REASON DORMANT is sent to the frame's SRC. (R440) -/
  | dormantNotice (l : Nat) (f : Frame)
  /-- An UNREACH frame reaches the originator, which completes the command with E_FAB_UNREACHABLE. (R417) -/
  | unreach (l : Nat) (f : Frame)
  /-- A link loses signal and retrains, keeping its session. (R413) -/
  | swlSignalLoss (l : Nat)
  /-- A loss of signal lasts more than 1 s and the session ends. (R413) -/
  | swlSessionTimeout (l : Nat)
  /-- 50 ms without a good sealed frame while clear beacons arrive ends the session. (R413) -/
  | swlPartnerRestart (l : Nat)
  /-- 1 s after entry to QUARANTINED, the link is fully trained with its session kept. (R414) -/
  | swlQuarantineRetrain (l : Nat)
  /-- Owner command that enables, disables, retrains or rekeys a link, or clears its counts. (R419) -/
  | swlLinkCtrl (o : Origin)
  /-- Owner command that returns a link's state, partner and counters. (R419) -/
  | swlLinkInfo (o : Origin)
  /-- Every 1 s, or within 1 ms of a change, the node originates an LSA. (R424) -/
  | lsaTimer
  /-- A received LSA newer than that held is stored and flooded, and routes are recomputed. (R425) -/
  | lsa (l : Nat) (f : Frame)
  /-- An LSA not refreshed within 3 s is deleted, with its holder entries. (R425) -/
  | lsaExpire (id : Nat)
  /-- 20 ms after a TENTATIVE claim, the address becomes OWNED. (R420) -/
  | addrOwned
  /-- No good frame on any link for 50 ms; the node becomes ISOLATED and asserts ALERT_N. (R439) -/
  | isolationEnter
  /-- A HOLD adds a holder entry for a tree on the originator. (R436) -/
  | hold (l : Nat) (f : Frame)
  /-- A HOLD_DROP removes a holder entry. (R436) -/
  | holdDrop (l : Nat) (f : Frame)
  /-- A holder enters the noticed range into its staged set and answers class 0 notices. (R437) -/
  | stageNotice (l : Nat) (f : Frame)
  /-- A STAGE_ACK answers a class 0 notice, and SHRED_STAGE completes when all are answered. (R437) -/
  | stageAck (l : Nat) (f : Frame)
  /-- No answer to a class 0 notice within 18 µs ends SHRED_STAGE with E_FAB_UNREACHABLE. (R437) -/
  | stageNoticeTimeout (tag : Nat)
  /-- A received anchor replica is checked under AK and applied as R203 gives. (R431) -/
  | anchorPush (l : Nat) (f : Frame)
  /-- A received wrapped tenant root is checked and stored in the root replica store. (R432) -/
  | rootPush (l : Nat) (f : Frame)
  /-- A ROOT_DROP deletes the root replica record of its ROOT_ID. (R432) -/
  | rootDrop (l : Nat) (f : Frame)
  /-- A LATE_NAK is logged in the replication log and counted. (R435) -/
  | lateNak (l : Nat) (f : Frame)
  /-- A peer answers a ROOT_FETCH with ROOT_DATA or a LATE_NAK of NOT_HELD. (R438) -/
  | rootFetch (l : Nat) (f : Frame)
  /-- ROOT_DATA arrives and the waiting FAB_ROOT_FETCH writes the blob. (R438) -/
  | rootData (l : Nat) (f : Frame)
  /-- A peer streams a staged recovery image in IMAGE_DATA frames or answers NOT_HELD. (R438) -/
  | imageFetch (l : Nat) (f : Frame)
  /-- An IMAGE_DATA frame carries part of a fetched recovery image to the requester. (R438) -/
  | imageData (l : Nat) (f : Frame)
  /-- A fetch that gets no answer within 100 ms, or no frame within 1 s, ends with E_FAB_TIMEOUT. (R438) -/
  | fabFetchTimeout (tag : Nat)
  /-- The donor checks an ENROL_REQ against its grant and answers with the wrapped CDK or a refusal. (R441) -/
  | enrolReq (l : Nat) (f : Frame)
  /-- The requester unwraps and checks the CDK and commits re-enrolment. (R441) -/
  | enrolResp (l : Nat) (f : Frame)
  /-- No ENROL_RESP within 1 s ends FAB_ENROL with E_FAB_TIMEOUT. (R441) -/
  | fabEnrolTimeout
  /-- The donor's grant lapses 600 s after it was stored. (R441) -/
  | fabEnrolGrantExpire
  /-- Owner command that stores the peer list and quorum Q. (R429) -/
  | fabDomainSet (o : Origin)
  /-- Owner command that pushes current anchors and roots to peers again, paced. (R430) -/
  | fabReplResend (o : Origin)
  /-- Owner command that returns replication log entries. (R435) -/
  | fabReplLogRead (o : Origin)
  /-- Owner command that fetches a wrapped tenant root from a peer. (R438) -/
  | fabRootFetch (o : Origin)
  /-- Owner command that stores a grant for a requester to re-enrol from this donor. (R441) -/
  | fabEnrolGrant (o : Origin)
  /-- Owner command that requests the CDK from a neighbour over a link. (R441) -/
  | fabEnrol (o : Origin)
  /-- Owner command that sends one WAKE to a dormant direct neighbour. (R440) -/
  | fabWake (o : Origin)
  /-- Command that builds and signs an attestation statement. (R450) -/
  | attestGet (o : Origin)
  /-- Owner command that returns the failure statement in LOCKDOWN or REPLAY. (R453) -/
  | failStatement (o : Origin) (mctp : Option Bytes)
  /-- Owner command that schedules a device restart onto a preferred STAGED image. (R456) -/
  | fwActivate (o : Origin)
  /-- Owner command that blows SVN counter and revocation fuses up to the running image. (R457) -/
  | fwCommit (o : Origin)
  /-- The Quartz watchdog expires after 2 s; the core is reset and its resident image checked and restarted. (R445) -/
  | quartzWatchdog (unreadable : Bool)
  /-- Every 1 ms each sensor is sampled and checked against its enabled limits. (R446) -/
  | sensorSample (values : List Int)
  /-- MCTP control request that sets the endpoint ID. (R447) -/
  | setEndpointId (c : MgmtConn) (req : Bytes)
  /-- SPDM request for the supported versions. (R447) -/
  | getVersion (c : MgmtConn) (req : Bytes)
  /-- SPDM request for the responder's capabilities. (R447) -/
  | getCapabilities (c : MgmtConn) (req : Bytes)
  /-- SPDM request that selects the algorithms. (R447) -/
  | negotiateAlgorithms (c : MgmtConn) (req : Bytes)
  /-- SPDM request for the certificate chain digests. (R447) -/
  | getDigests (c : MgmtConn) (req : Bytes)
  /-- SPDM request for the P-384 certificate chain in slot 0. (R447) -/
  | getCertificate (c : MgmtConn) (req : Bytes)
  /-- SPDM request answered with a signed CHALLENGE_AUTH. (R447) -/
  | challenge (c : MgmtConn) (req : Bytes)
  /-- SPDM request answered with measurement registers, signed when asked. (R447) -/
  | getMeasurements (c : MgmtConn) (req : Bytes)
  /-- Vendor-defined SPDM operation returning the ML-DSA-87 certificate chain. (R448) -/
  | getPqCert (c : MgmtConn) (req : Bytes)
  /-- Vendor-defined SPDM operation returning an ML-DSA-87 co-signature over the last signed response. (R448) -/
  | cosign (c : MgmtConn) (req : Bytes)
  /-- Vendor-defined SPDM operation returning the signed attestation statement. (R448) -/
  | attest (c : MgmtConn) (req : Bytes)
  /-- PLDM type 0 request for the terminus ID. (R454) -/
  | getTid (c : MgmtConn) (req : Bytes)
  /-- PLDM type 0 request that sets the terminus ID. (R454) -/
  | setTid (c : MgmtConn) (req : Bytes)
  /-- PLDM type 0 request for versions. (R454) -/
  | getPldmVersion (c : MgmtConn) (req : Bytes)
  /-- PLDM type 0 request for supported types. (R454) -/
  | getPldmTypes (c : MgmtConn) (req : Bytes)
  /-- PLDM type 0 request for supported commands. (R454) -/
  | getPldmCommands (c : MgmtConn) (req : Bytes)
  /-- PLDM platform request for the terminus UID. (R454) -/
  | getTerminusUid (c : MgmtConn) (req : Bytes)
  /-- PLDM platform request for repository information. (R454) -/
  | getPdrRepositoryInfo (c : MgmtConn) (req : Bytes)
  /-- PLDM platform request for a PDR. (R454) -/
  | getPdr (c : MgmtConn) (req : Bytes)
  /-- PLDM platform request for a sensor reading. (R454) -/
  | getSensorReading (c : MgmtConn) (req : Bytes)
  /-- PLDM platform request for a sensor's thresholds. (R454) -/
  | getSensorThresholds (c : MgmtConn) (req : Bytes)
  /-- PLDM platform request that writes SNS_LIMIT and sets EN. (R454) -/
  | setSensorThresholds (c : MgmtConn) (req : Bytes)
  /-- PLDM platform request that sets the event receiver, polling mode only. (R454) -/
  | setEventReceiver (c : MgmtConn) (req : Bytes)
  /-- PLDM platform request for event message support. (R454) -/
  | eventMessageSupported (c : MgmtConn) (req : Bytes)
  /-- PLDM platform request that returns a platform-visible event. (R454) -/
  | pollForPlatformEventMessage (c : MgmtConn) (req : Bytes)
  /-- PLDM firmware update request for device identifiers. (R317) -/
  | queryDeviceIdentifiers (c : MgmtConn) (req : Bytes)
  /-- PLDM firmware update request for component parameters. (R317) -/
  | getFirmwareParameters (c : MgmtConn) (req : Bytes)
  /-- PLDM request that starts an update, or is answered ALREADY_IN_UPDATE_MODE. (R455) -/
  | requestUpdate (c : MgmtConn) (req : Bytes)
  /-- PLDM request passing the component table. (R317) -/
  | passComponentTable (c : MgmtConn) (req : Bytes)
  /-- PLDM request that erases the inactive partition and begins receiving the image. (R456) -/
  | updateComponent (c : MgmtConn) (req : Bytes)
  /-- A piece of image data answering RequestFirmwareData arrives and is programmed. (R456) -/
  | firmwareDataReceived (c : MgmtConn) (req : Bytes) (unreadable : Bool)
  /-- PLDM request answered that a restart is needed. (R456) -/
  | activateFirmware (c : MgmtConn) (req : Bytes)
  /-- PLDM firmware update status request. (R317) -/
  | getStatus (c : MgmtConn) (req : Bytes)
  /-- PLDM request that cancels an update, leaving the inactive image INVALID. (R456) -/
  | cancelUpdate (c : MgmtConn) (req : Bytes)
  /-- PLDM request answered with no data. (R455) -/
  | getPackageData (c : MgmtConn) (req : Bytes)
  /-- PLDM request answered with no data. (R455) -/
  | getDeviceMetaData (c : MgmtConn) (req : Bytes)
  /-- Owner command, or MCTP operation 0x11 in the halt loop, that returns event records from START. (R474) -/
  | evrRead (o : Origin) (mctp : Option Bytes)
  /-- Owner command that returns the active control sector's header and configuration. (R466) -/
  | evrConfigRead (o : Origin)
  /-- Owner command that erases the event log and installs a new format and configuration. (R476) -/
  | evrClear (o : Origin)
  /-- A record's body or MARK program completes and is read back, and the next FIFO entry is written. (R472) -/
  | evrRecordWriteDone (ok : Bool)
  /-- REFILL_S seconds pass and a code's bucket gains a token. (R468) -/
  | evrTokenRefill (c : Nat)
  /-- After every 230,400 ticks of operating time a CHECKPOINT entry is written. (R462) -/
  | evrCheckpointTimer
  /-- A write to LEVEL or SIZE_GIB discards the ring and starts a new capture. (R482) -/
  | ambCfgWrite (wide : Bool) (v : Nat)
  /-- A write of FREEZE stops the capture at once. (R485) -/
  | ambCtrlFreeze
  /-- A write of REARM discards the ring and resumes capture. (R485) -/
  | ambCtrlRearm
  /-- POST_MS after a trigger, every stream writes FREEZE and the capture stops. (R485) -/
  | ambFreeze
  /-- Owner command that writes the frozen window sealed under AJK. (R487) -/
  | ambExport (o : Origin)
  /-- Owner command that loads a checkpoint and re-runs the control plane in REPLAY. (R488) -/
  | ambReplay (o : Origin)
  /-- Replay reaches STOP_POS, the window end, a divergence limit or ABORT; report and trace are written and DONE is reached. (R492) -/
  | replayEnd (pos : Nat) (run : List ReplayEvent) (absent : Option AbsentWinner)
  /-- Firmware program of up to one page through NVM_CMD, refused in the executing bank. (R507) -/
  | nvmProgram (addr src : Nat) (data : Bytes)
  /-- Firmware sector erase through NVM_CMD, refused in the executing bank. (R507) -/
  | nvmErase (addr : Nat)
  /-- Firmware-ordered refresh of one sector through a spare. (R513) -/
  | nvmRefresh (addr : Nat)
  /-- Firmware read at the program-verify level. (R505) -/
  | nvmReadProgramVerify (addr len src : Nat)
  /-- Firmware read at the erase-verify level. (R505) -/
  | nvmReadEraseVerify (addr len src : Nat)
  /-- A NOR program or erase completes and is verified, or fails and is remapped or reported. (R507) -/
  | norOpDone (bank : Nat) (ok : Bool)
  /-- A suspended program or erase resumes when no read of its bank has waited for 2 µs. (R503) -/
  | norResume (bank : Nat)
  /-- Once each second EQ_HOURS and LIFE advance by the weight of the hottest reading. (R511) -/
  | norRefreshTick
  /-- EQ_HOURS reaches 43,800 and a refresh pass starts. (R512) -/
  | refreshPassStart
  /-- Every PACE_S seconds of a pass, the next programmed sector is refreshed through a spare. (R513) -/
  | refreshSector
  /-- A write of CLR_STATS clears the Diamond counters and MAX_LAT. (R83) -/
  | schClrStats
  /-- Setting SCH_CTRL.LOCK freezes the class weights and is extended into MR_24 to MR_27. (R140) -/
  | schLock
  /-- Setting CLR_CTRL.LOCK freezes owner colour rules 16 to 63 and is extended into the measurements. (R276) -/
  | clrLock
  /-- A write to any register without a row of its own takes effect as its access code gives. (R5) -/
  | registerWrite (t : RegTarget) (off size v : Nat)
  /-- Host software sets Bus Master Enable of a function again, and fetching and DMA that waited for it resume. (R57) -/
  | busMasterEnableSet (p : PortId) (fn : Nat)
  /-- Host software sets VF Enable, and a VF bound while it was clear begins to serve its tenant. (R263) -/
  | vfEnableSet (p : PortId) (numVfs : Nat)
  /-- A link training attempt fails to reach x4 or wider; the port stays out of L0 and counts the attempt in RETRAIN_COUNT. (R28) -/
  | pcieFailedTraining (p : PortId)
  /-- A card gives no response within 64 clocks, no data block within 100 ms, or no end of busy within its limit, which ends the loop or the command with E_TKN_CARD. (R374) -/
  | cardResponseTimeout (bus : Nat)
  /-- 1 ms after card power and every 10 ms after it, SEND_OP_COND is sent again, until READY or 1 s has passed and the card is FAILED. (R380) -/
  | sendOpCondPoll (bus : Nat)
  /-- 1 s after a link returned to DOWN without training, full training is tried again. (R400) -/
  | swlTrainingRetry (l : Nat)
  /-- An I3C broadcast CCC, ENTDAA or SETDASA arrives on the management port, which switches from SMBus target to I3C target and takes a dynamic address. (R447) -/
  | i3cBroadcastCcc (ccc addr : Nat)
  /-- Quartz firmware submits an internal request to a dispatcher, which runs it under colour 0xF002, or ends it with E_COLOUR and records an event when the type or format is not accepted. (R444) -/
  | quartzInternalRequest (n : Nat) (req : QuartzReq) (data : Bytes) (unreadable : Bool)
  /-- Quartz firmware raises an event code, which is admitted with FIRMWARE set when it lies in 0x8EC0 to 0x8EFF and otherwise counted in WRITE_FAIL. (R458) -/
  | quartzFirmwareEvent (code p0 p1 p2 p3 : Nat)
  /-- One fuse blow of 2 ms ends and is read back, and the next counter or revocation bit is blown until the commit is complete. (R457) -/
  | fuseBlowDone
  /-- At the end of each mesh pattern period, mismatches of the mesh and loops are counted into the windows, TMP_MESH_COUNT, TMP_LOOP_COUNT and LOOP_OK. (R330) -/
  | onyxPatternPeriod (mesh loop0 loop1 : Bool)
  /-- A TAMP_IN_N input returns high and its bit in TMP_STATUS.IN_LEVEL clears. (R336) -/
  | tampInDeassert (n : Nat)
  /-- The 32.768 kHz crystal runs again after a stop, and the RTC resumes counting. (R335) -/
  | crystalRunsAgain
  /-- A rail that must be present in DORMANT is removed, which is treated as a power loss, so that the next start is a cold start with POWER_GOOD set. (R518) -/
  | dormantRailLoss
  /-- At the pace of 8 per second per peer, the next anchor of a running FAB_REPL_RESEND is pushed. (R430) -/
  | fabReplResendPace
  deriving DecidableEq, Repr

end Sys2Proof
end

