-- ==== Sys2Proof/Decode.lean ====
section
/-! DEFINITION. The table of operations and events gives none of its rows any bits, so no word spells a command. -/

namespace Sys2Proof

/-- The command that a word spells by the table's bits: none, for the table gives no row a field. -/
def decodeTableWord (_nbits _w : Nat) : Option Instr := none

end Sys2Proof
end

