-- ==== Sys2Proof/Machine/Status.lean ====
section
/-! DEFINITION. The status values of the status code index (23, R7) and the GVCMD command codes (R10). -/

namespace Sys2Proof.Machine.S

/-- Success -/
abbrev OK : Nat := 0x0000
/-- Success after a rerun on another engine (R126) -/
abbrev I_RETRIED : Nat := 0x0001
/-- Committed; the blob set was not written, and AGATE_EXPORT fetches it -/
abbrev I_AGATE_EXPORT_NEEDED : Nat := 0x0030
/-- PWR_HUSH waited WAIT_MS without the HUSH condition; the device stayed in SERVICE -/
abbrev I_HUSH_ABANDONED : Nat := 0x0040
/-- Ward RUNNING after an automatic recovery -/
abbrev I_WARD_RECOVERED : Nat := 0x0050
/-- Replay ended with one or more divergences -/
abbrev I_REPLAY_DIVERGED : Nat := 0x0060
/-- TENANT field differs from the owning binding's tenant (R269) -/
abbrev E_SPOOF : Nat := 0x8101
/-- The tenant is not QUIESCED, or has work in flight -/
abbrev E_NOT_QUIESCED : Nat := 0x8102
/-- ENABLE while the tenant is QUIESCING -/
abbrev E_QUIESCING : Nat := 0x8103
/-- The tenant state does not allow the command (R255, R257, R262) -/
abbrev E_TENANT_STATE : Nat := 0x8104
/-- The named context is FREE -/
abbrev E_NO_TENANT : Nat := 0x8105
/-- No FREE context -/
abbrev E_TENANT_LIMIT : Nat := 0x8106
/-- Binding refused (R263, R264) -/
abbrev E_BIND_CONFLICT : Nat := 0x8107
/-- Owner command or object -/
abbrev E_NOT_OWNER : Nat := 0x8110
/-- Other port unavailable -/
abbrev E_PORT_DENIED : Nat := 0x8111
/-- Host DMA failed -/
abbrev E_HOST_DMA : Nat := 0x8112
/-- Queue pairs exhausted -/
abbrev E_QP_QUOTA : Nat := 0x8120
/-- Queue pair state -/
abbrev E_QP_STATE : Nat := 0x8121
/-- Class not allowed -/
abbrev E_CLASS : Nat := 0x8122
/-- Ring or vector invalid -/
abbrev E_RING : Nat := 0x8123
/-- A colour unit faulted an access of the command (R275) -/
abbrev E_COLOUR : Nat := 0x8130
/-- Slot out of range, reserved, or of a kind the issuer may not name -/
abbrev E_SLOT_RANGE : Nat := 0x8201
/-- The named half is not ACTIVE -/
abbrev E_SLOT_EMPTY : Nat := 0x8202
/-- The slot belongs to another colour -/
abbrev E_SLOT_ACCESS : Nat := 0x8203
/-- Tenant quota reached or pool empty -/
abbrev E_SLOT_QUOTA : Nat := 0x8204
/-- Half or replacement state does not allow the command -/
abbrev E_SLOT_STATE : Nat := 0x8205
/-- The slot is LOCKED -/
abbrev E_SLOT_LOCKED : Nat := 0x8206
/-- Class, size or attributes do not suit the command -/
abbrev E_SLOT_CLASS : Nat := 0x8207
/-- DEST lacks the receiving engine class -/
abbrev E_DEST_DENIED : Nat := 0x8208
/-- USAGE lacks the operation -/
abbrev E_USAGE_DENIED : Nat := 0x8209
/-- EXPORT wrap of a slot without EXPORTABLE -/
abbrev E_NOT_EXPORTABLE : Nat := 0x820A
/-- Blob failed authentication -/
abbrev E_UNWRAP_FAIL : Nat := 0x820B
/-- WRAP_KCV does not match the wrapping key -/
abbrev E_WRAP_KEY : Nat := 0x820C
/-- Pending key failed KEY_PROVE -/
abbrev E_PROVE_FAIL : Nat := 0x820D
/-- No extended or public-key record free -/
abbrev E_RECORD_SPACE : Nat := 0x820E
/-- Custody keys are absent (R156) -/
abbrev E_UNKEYED : Nat := 0x820F
/-- Blob header malformed or inconsistent -/
abbrev E_BLOB_FORMAT : Nat := 0x8212
/-- Extended record failed its hash or unwrap check -/
abbrev E_RECORD_FAIL : Nat := 0x8213
/-- Imported public key failed validation -/
abbrev E_KEY_INVALID : Nat := 0x8214
/-- A conflicting order prevailed (R175, R176) -/
abbrev E_SUPERSEDED : Nat := 0x8220
/-- No tree for the tenant and EPOCH -/
abbrev E_AGATE_NO_TREE : Nat := 0x8301
/-- The tree is UNLOADED -/
abbrev E_AGATE_NOT_LOADED : Nat := 0x8302
/-- The index lies in a staged range -/
abbrev E_AGATE_STAGED : Nat := 0x8303
/-- The index is shredded, or the anchor is a tombstone -/
abbrev E_AGATE_SHREDDED : Nat := 0x8304
/-- The tree is STALE, or a blob set is older than the anchor -/
abbrev E_AGATE_STALE : Nat := 0x8305
/-- The tree is in FAULT -/
abbrev E_AGATE_ANCHOR_FAULT : Nat := 0x8306
/-- A blob set is newer than the local anchor -/
abbrev E_AGATE_ANCHOR_BEHIND : Nat := 0x8307
/-- The tenant already has a tree for EPOCH -/
abbrev E_AGATE_EPOCH_USED : Nat := 0x8308
/-- Tree quota or device tree limit reached -/
abbrev E_AGATE_TREE_QUOTA : Nat := 0x8309
/-- Range malformed (R204) -/
abbrev E_AGATE_RANGE : Nat := 0x830A
/-- Staged-range limit reached -/
abbrev E_AGATE_STAGE_FULL : Nat := 0x830B
/-- Commit with no staged range -/
abbrev E_AGATE_NONE_STAGED : Nat := 0x830C
/-- EXPECT_BATCH differs from the anchor -/
abbrev E_AGATE_BATCH : Nat := 0x830D
/-- Frontier page limit reached (R187) -/
abbrev E_AGATE_FRONTIER_FULL : Nat := 0x830E
/-- No anchor held for the TREE_UID -/
abbrev E_AGATE_NO_ANCHOR : Nat := 0x830F
/-- Blob set malformed or failed authentication -/
abbrev E_AGATE_BLOB : Nat := 0x8310
/-- The ranges do not reproduce the anchored frontier -/
abbrev E_AGATE_ADVANCE : Nat := 0x8311
/-- The tree is already READY -/
abbrev E_AGATE_LOADED : Nat := 0x8312
/-- Anchor limit of the journal reached (R202) -/
abbrev E_AGATE_JOURNAL_FULL : Nat := 0x8313
/-- Recall or verify: the tag did not match (R103) -/
abbrev E_TAG_FAIL : Nat := 0x8401
/-- Recall or verify: the plaintext digest did not match the record (R104) -/
abbrev E_DIGEST_MISMATCH : Nat := 0x8402
/-- The supplied seal record is malformed, or disagrees with the buffers -/
abbrev E_RECORD_FORMAT : Nat := 0x8403
/-- Buffers overlap against R106 -/
abbrev E_OVERLAP : Nat := 0x8404
/-- GCM-SIV seal: source changed between passes (R110) -/
abbrev E_SOURCE_CHANGED : Nat := 0x8405
/-- Manifest handle free or not the tenant's -/
abbrev E_MANIFEST : Nat := 0x8410
/-- No free position -/
abbrev E_MANIFEST_FULL : Nat := 0x8411
/-- The manifest is closing -/
abbrev E_MANIFEST_CLOSED : Nat := 0x8412
/-- Device or tenant manifest limit reached -/
abbrev E_MANIFEST_QUOTA : Nat := 0x8413
/-- Three attempts failed, or no usable engine remained (R126) -/
abbrev E_ENGINE_FAIL : Nat := 0x8420
/-- Engine not in the state the command requires -/
abbrev E_ENGINE_STATE : Nat := 0x8421
/-- Readmission tests failed (R129) -/
abbrev E_KAT_FAIL : Nat := 0x8422
/-- SIG_VERIFY: the signature is not valid -/
abbrev E_SIG_INVALID : Nat := 0x8501
/-- The peer point failed validation, or the X448 result was all zero (R224) -/
abbrev E_POINT_INVALID : Nat := 0x8502
/-- Three attempts faulted, or no usable engine remained (R233) -/
abbrev E_ARI_ENGINE_FAIL : Nat := 0x8503
/-- The end-of-job check failed; nothing released (R228) -/
abbrev E_INVARIANT : Nat := 0x8504
/-- A rejection loop reached its bound (R222) -/
abbrev E_ITER_LIMIT : Nat := 0x8505
/-- KEY_TYPE does not suit the scheme or operation -/
abbrev E_SCHEME : Nat := 0x8506
/-- Engine not in the state the command requires -/
abbrev E_ARI_ENGINE_STATE : Nat := 0x8521
/-- Readmission tests failed -/
abbrev E_ARI_KAT_FAIL : Nat := 0x8522
/-- No queue block within the wait allowed (R248) -/
abbrev E_RNG_STARVED : Nat := 0x8601
/-- Entropy source FAILED and a seed was required (R249) -/
abbrev E_RNG_FAIL : Nat := 0x8602
/-- The instance is not instantiated (R244) -/
abbrev E_RNG_UNINST : Nat := 0x8603
/-- The ward has no valid manifest -/
abbrev E_WARD_NO_MANIFEST : Nat := 0x8701
/-- Manifest malformed (R360) -/
abbrev E_WARD_MANIFEST : Nat := 0x8702
/-- Manifest signature failed -/
abbrev E_WARD_MANIFEST_SIG : Nat := 0x8703
/-- SEQ not greater than that of the current manifest -/
abbrev E_WARD_MANIFEST_OLD : Nat := 0x8704
/-- The ward's state or a running command does not allow the command (R370) -/
abbrev E_WARD_STATE : Nat := 0x8705
/-- A MEASURE region did not match its DIGEST -/
abbrev E_WARD_DIGEST : Nat := 0x8706
/-- Flash unreadable, no SFDP, or input ended short (R363) -/
abbrev E_WARD_READ : Nat := 0x8707
/-- Program or erase failed or timed out during recovery -/
abbrev E_WARD_FLASH : Nat := 0x8708
/-- Recovery image malformed, unsigned or not matching the manifest -/
abbrev E_WARD_IMAGE : Nat := 0x8709
/-- WPG is low -/
abbrev E_WARD_NO_POWER : Nat := 0x870A
/-- No golden flash, or its content does not match the manifest -/
abbrev E_WARD_GOLDEN : Nat := 0x870B
/-- No card of the needed kind is present -/
abbrev E_TKN_NO_CARD : Nat := 0x8801
/-- Identification failed, a frame timed out or failed its CRC, or a resolution found foreign content -/
abbrev E_TKN_CARD : Nat := 0x8802
/-- UNLOCK refused the password derived from the PIN -/
abbrev E_TKN_PIN : Nat := 0x8803
/-- The card is BLOCKED; only FORCE_ERASE restores it -/
abbrev E_TKN_BLOCKED : Nat := 0x8804
/-- Share record malformed, unopenable, or of another set -/
abbrev E_TKN_SHARE : Nat := 0x8805
/-- The card or INDEX has already counted in this ceremony -/
abbrev E_TKN_DUPLICATE : Nat := 0x8806
/-- No ceremony, another ceremony, or the wrong purpose or state -/
abbrev E_CEREMONY_STATE : Nat := 0x8807
/-- The ceremony's window had passed (R390) -/
abbrev E_CEREMONY_TIMEOUT : Nat := 0x8808
/-- The card was removed during the command (R382) -/
abbrev E_TKN_REMOVED : Nat := 0x8809
/-- The escrow block holds no record -/
abbrev E_ESCROW_EMPTY : Nat := 0x880A
/-- The escrow record failed its layout or DIGEST check -/
abbrev E_ESCROW_RECORD : Nat := 0x880B
/-- The rebuilt CDK failed its check (R389) -/
abbrev E_TKN_COMBINE : Nat := 0x880C
/-- A command is already running on the bus (R395) -/
abbrev E_TKN_BUSY : Nat := 0x880D
/-- Enrolment on a card whose block 1 is not blank -/
abbrev E_TKN_NOT_BLANK : Nat := 0x880E
/-- The link's state does not allow the action (R419) -/
abbrev E_SWL_STATE : Nat := 0x8901
/-- No path carried the class 0 frame (R417) -/
abbrev E_FAB_UNREACHABLE : Nat := 0x8910
/-- The peer did not answer in time (R438, R441) -/
abbrev E_FAB_TIMEOUT : Nat := 0x8911
/-- The peer holds no such root or image -/
abbrev E_FAB_NOT_HELD : Nat := 0x8912
/-- No route to the peer, or no dormant neighbour with that address -/
abbrev E_FAB_NO_ROUTE : Nat := 0x8913
/-- The peer is dormant -/
abbrev E_FAB_DORMANT : Nat := 0x8914
/-- Fewer than Q − 1 listed peers reachable (R429) -/
abbrev E_QUORUM : Nat := 0x8920
/-- Re-enrolment refused or not possible (R441) -/
abbrev E_FAB_ENROL : Nat := 0x8921
/-- Peer list or index invalid -/
abbrev E_FAB_PEER_LIST : Nat := 0x8922
/-- No identity keys formed -/
abbrev E_NO_IDENTITY : Nat := 0x8A01
/-- A claimed slot may not be named or is not ACTIVE -/
abbrev E_ATTEST_CLAIM : Nat := 0x8A02
/-- The commit would make the other image unbootable (R457) -/
abbrev E_FW_COMMIT : Nat := 0x8A10
/-- Nothing to commit, or no preferred STAGED image to activate -/
abbrev E_FW_STATE : Nat := 0x8A11
/-- START is not below HEAD -/
abbrev E_EVR_RANGE : Nat := 0x8A20
/-- Configuration block invalid (R476) -/
abbrev E_EVR_CONFIG : Nat := 0x8A21
/-- A clear is in progress -/
abbrev E_EVR_CLEARING : Nat := 0x8A22
/-- Register not extendable by the owner (R140) -/
abbrev E_MEAS_INDEX : Nat := 0x8A30
/-- START beyond the stored log -/
abbrev E_MEAS_LOG_RANGE : Nat := 0x8A31
/-- The journal is not in the state the command requires -/
abbrev E_AMB_STATE : Nat := 0x8A40
/-- No whole checkpoint in the window -/
abbrev E_AMB_NO_CHECKPOINT : Nat := 0x8A41
/-- The export is not this device's, or fails authentication -/
abbrev E_AMB_IMPORT : Nat := 0x8A42
/-- Firmware program or erase aimed at the executing bank (R504) -/
abbrev E_NVM_SAME_BANK : Nat := 0x8A50
/-- Program read-back failed (R507) -/
abbrev E_NVM_PROGRAM : Nat := 0x8A51
/-- Erase failed verify and could not be remapped (R508) -/
abbrev E_NVM_ERASE : Nat := 0x8A52
/-- Target bytes not erased (R507) -/
abbrev E_NVM_NOT_BLANK : Nat := 0x8A53
/-- Configuration area full (R510) -/
abbrev E_NVM_FULL : Nat := 0x8A54
/-- Uncorrectable image read (R506) -/
abbrev E_NVM_READ : Nat := 0x8A55
/-- TARGET is not the next state -/
abbrev E_LCS_TRANSITION : Nat := 0x8B01
/-- VHOLD below threshold (R321) -/
abbrev E_HOLDUP : Nat := 0x8B02
/-- Token malformed, or not allowed in this state -/
abbrev E_TOKEN_FORMAT : Nat := 0x8B03
/-- Token key or signature check failed -/
abbrev E_TOKEN_SIG : Nat := 0x8B04
/-- No matching, unexpired challenge, or DEVICE_ID differs -/
abbrev E_TOKEN_CHALLENGE : Nat := 0x8B05
/-- Required quorum ceremony absent or outside its window -/
abbrev E_CEREMONY : Nat := 0x8B06
/-- ISSUED → IN_SERVICE with no owner key in slots 32–63 -/
abbrev E_OWNER_KEY : Nat := 0x8B07
/-- The mailbox command was ended by ZEROISE (R342) -/
abbrev E_ZEROISED : Nat := 0x8B10
/-- Mode refuses command -/
abbrev E_MODE : Nat := 0x8B20
/-- A dormant image awaits restore or discard (R296) -/
abbrev E_IMAGE_PENDING : Nat := 0x8B21
/-- Image digest or DSEQ does not match the image record -/
abbrev E_IMAGE_STALE : Nat := 0x8B22
/-- Image malformed, or written under another custody root -/
abbrev E_IMAGE_FORMAT : Nat := 0x8B23
/-- No image can be restored -/
abbrev E_NO_IMAGE : Nat := 0x8B24
/-- Code unassigned -/
abbrev E_CMD_UNKNOWN : Nat := 0x8F01
/-- Length out of range -/
abbrev E_BAD_LENGTH : Nat := 0x8F02
/-- Aborted -/
abbrev E_ABORTED : Nat := 0x8F03
/-- Not by mailbox -/
abbrev E_QUEUE_ONLY : Nat := 0x8F04
/-- Operand invalid -/
abbrev E_BAD_OPERAND : Nat := 0x8F05
/-- An HBM line failed its integrity check (R497) -/
abbrev E_MEM_INTEGRITY : Nat := 0x8F10

end Sys2Proof.Machine.S

namespace Sys2Proof.Machine.C

abbrev TENANT_CREATE : Nat := 0x0101
abbrev TENANT_SET_GRANT : Nat := 0x0102
abbrev TENANT_BIND : Nat := 0x0103
abbrev TENANT_UNBIND : Nat := 0x0104
abbrev TENANT_QUIESCE : Nat := 0x0105
abbrev TENANT_ENABLE : Nat := 0x0106
abbrev TENANT_RESET : Nat := 0x0107
abbrev TENANT_DESTROY : Nat := 0x0108
abbrev TENANT_INFO : Nat := 0x0110
abbrev POLICY_QUERY : Nat := 0x0111
abbrev QP_CREATE : Nat := 0x0140
abbrev QP_DELETE : Nat := 0x0141
abbrev KEY_GENERATE : Nat := 0x0201
abbrev KEY_DERIVE : Nat := 0x0203
abbrev KEY_WRAP : Nat := 0x0204
abbrev KEY_UNWRAP : Nat := 0x0205
abbrev KEY_IMPORT_PUBLIC : Nat := 0x0206
abbrev KEY_PROVE : Nat := 0x0207
abbrev KEY_COMMIT : Nat := 0x0208
abbrev KEY_DISCARD : Nat := 0x0209
abbrev KEY_DESTROY : Nat := 0x020A
abbrev KEY_ATTR_READ : Nat := 0x020B
abbrev KEY_ATTR_SET : Nat := 0x020C
abbrev KEY_PUBLIC : Nat := 0x020D
abbrev AGATE_TREE_CREATE : Nat := 0x0301
abbrev AGATE_LOAD : Nat := 0x0302
abbrev AGATE_EXPORT : Nat := 0x0303
abbrev SHRED_STAGE : Nat := 0x0310
abbrev SHRED_COMMIT : Nat := 0x0311
abbrev ANCHOR_STATUS : Nat := 0x0320
abbrev SEAL : Nat := 0x0401
abbrev RECALL : Nat := 0x0402
abbrev VERIFY : Nat := 0x0403
abbrev DIGEST_ONLY : Nat := 0x0404
abbrev MANIFEST_OPEN : Nat := 0x0410
abbrev MANIFEST_CLOSE : Nat := 0x0411
abbrev DIGEST_MAC : Nat := 0x0420
abbrev ENGINE_READMIT : Nat := 0x0430
abbrev ENGINE_QUARANTINE : Nat := 0x0431
abbrev SIGN : Nat := 0x0501
abbrev SIG_VERIFY : Nat := 0x0502
abbrev DERIVE_SHARED : Nat := 0x0504
abbrev ENCAPS : Nat := 0x0505
abbrev DECAPS : Nat := 0x0506
abbrev ARI_READMIT : Nat := 0x0530
abbrev ARI_QUARANTINE : Nat := 0x0531
abbrev RNG_GENERATE : Nat := 0x0601
abbrev WARD_MANIFEST_SET : Nat := 0x0701
abbrev WARD_VERIFY : Nat := 0x0702
abbrev WARD_RECOVER : Nat := 0x0703
abbrev WARD_HOLD : Nat := 0x0704
abbrev WARD_AUX : Nat := 0x0705
abbrev WARD_INFO : Nat := 0x0710
abbrev TKN_SCAN : Nat := 0x0801
abbrev CEREMONY_BEGIN : Nat := 0x0810
abbrev CEREMONY_PRESENT : Nat := 0x0811
abbrev CEREMONY_ENROL : Nat := 0x0812
abbrev CEREMONY_STATUS : Nat := 0x0813
abbrev CEREMONY_END : Nat := 0x0814
abbrev CARD_FORCE_ERASE : Nat := 0x0820
abbrev ESCROW_STORE : Nat := 0x0830
abbrev ESCROW_FETCH : Nat := 0x0831
abbrev SWL_LINK_CTRL : Nat := 0x0901
abbrev SWL_LINK_INFO : Nat := 0x0902
abbrev FAB_DOMAIN_SET : Nat := 0x0910
abbrev FAB_REPL_RESEND : Nat := 0x0920
abbrev FAB_REPL_LOG_READ : Nat := 0x0921
abbrev FAB_ROOT_FETCH : Nat := 0x0922
abbrev FAB_ENROL_GRANT : Nat := 0x0930
abbrev FAB_ENROL : Nat := 0x0931
abbrev FAB_WAKE : Nat := 0x0940
abbrev ATTEST_GET : Nat := 0x0A01
abbrev FAIL_STATEMENT : Nat := 0x0A02
abbrev FW_COMMIT : Nat := 0x0A10
abbrev FW_ACTIVATE : Nat := 0x0A11
abbrev EVR_READ : Nat := 0x0A20
abbrev EVR_CONFIG_READ : Nat := 0x0A21
abbrev EVR_CLEAR : Nat := 0x0A22
abbrev MEAS_READ : Nat := 0x0A30
abbrev MEAS_EXTEND : Nat := 0x0A31
abbrev MEAS_LOG_READ : Nat := 0x0A32
abbrev AMB_EXPORT : Nat := 0x0A40
abbrev AMB_REPLAY : Nat := 0x0A41
abbrev PWR_HUSH : Nat := 0x0A50
abbrev PWR_DORMANT : Nat := 0x0A51
abbrev PWR_IMAGE_RESTORE : Nat := 0x0A52
abbrev PWR_IMAGE_DISCARD : Nat := 0x0A53
abbrev LCS_CHALLENGE : Nat := 0x0A60
abbrev LCS_TRANSITION : Nat := 0x0A61
abbrev TMP_ZEROISE : Nat := 0x0A70

end Sys2Proof.Machine.C
end

