-- ==== Sys2Proof/Machine/Commands.lean ====
section
/-! DEFINITION. The GVCMD command set (R10): for every command its code, the class row of its chapter, whether it is an
owner command (R32), its operand length (R51) and its largest result (R72). -/

namespace Sys2Proof.Machine

/-- One command of the GVCMD set. `fixed` is the fixed part of the operand length; `var` gives, for a command whose
length takes in a field of its operands, the field's offset, its width in bytes and the bytes each unit adds. -/
structure CmdInfo where
  code : Nat
  mailbox : Bool
  classes : List Nat
  owner : Bool
  fixed : Nat
  var : Option (Nat × Nat × Nat) := none
  maxResult : Nat

/-- The commands of the table of operations, in order of their codes. -/
def cmdTable : List CmdInfo :=
  [{ code := C.TENANT_CREATE, mailbox := true, classes := [], owner := true, fixed := 64, maxResult := 16 },
   { code := C.TENANT_SET_GRANT, mailbox := true, classes := [], owner := true, fixed := 40, maxResult := 0 },
   { code := C.TENANT_BIND, mailbox := true, classes := [], owner := true, fixed := 16, maxResult := 0 },
   { code := C.TENANT_UNBIND, mailbox := true, classes := [], owner := true, fixed := 16, maxResult := 0 },
   { code := C.TENANT_QUIESCE, mailbox := true, classes := [], owner := true, fixed := 8, maxResult := 8 },
   { code := C.TENANT_ENABLE, mailbox := true, classes := [], owner := true, fixed := 8, maxResult := 0 },
   { code := C.TENANT_RESET, mailbox := true, classes := [], owner := true, fixed := 8, maxResult := 8 },
   { code := C.TENANT_DESTROY, mailbox := true, classes := [], owner := true, fixed := 8, maxResult := 8 },
   { code := C.TENANT_INFO, mailbox := true, classes := [1, 2, 3], owner := false, fixed := 8, maxResult := 64 },
   { code := C.POLICY_QUERY, mailbox := true, classes := [0, 1, 2, 3], owner := false, fixed := 8, maxResult := 16 },
   { code := C.QP_CREATE, mailbox := true, classes := [], owner := false, fixed := 32, maxResult := 8 },
   { code := C.QP_DELETE, mailbox := true, classes := [], owner := false, fixed := 8, maxResult := 0 },
   { code := C.KEY_GENERATE, mailbox := true, classes := [1, 2, 3], owner := false, fixed := 16, maxResult := 8 },
   { code := C.KEY_DERIVE, mailbox := true, classes := [0, 1, 2, 3], owner := false, fixed := 80, maxResult := 8 },
   { code := C.KEY_WRAP, mailbox := true, classes := [1, 2], owner := false, fixed := 32, maxResult := 8 },
   { code := C.KEY_UNWRAP, mailbox := true, classes := [1, 2], owner := false, fixed := 32, maxResult := 8 },
   { code := C.KEY_IMPORT_PUBLIC, mailbox := true, classes := [1, 2], owner := false, fixed := 32, maxResult := 8 },
   { code := C.KEY_PROVE, mailbox := true, classes := [1, 2], owner := false, fixed := 16, maxResult := 8 },
   { code := C.KEY_COMMIT, mailbox := true, classes := [1, 2], owner := false, fixed := 8, maxResult := 8 },
   { code := C.KEY_DISCARD, mailbox := true, classes := [1, 2], owner := false, fixed := 8, maxResult := 0 },
   { code := C.KEY_DESTROY, mailbox := true, classes := [1, 2], owner := false, fixed := 8, maxResult := 0 },
   { code := C.KEY_ATTR_READ, mailbox := true, classes := [1, 2, 3], owner := false, fixed := 8, maxResult := 16 },
   { code := C.KEY_ATTR_SET, mailbox := true, classes := [], owner := false, fixed := 8, maxResult := 8 },
   { code := C.KEY_PUBLIC, mailbox := true, classes := [1, 2, 3], owner := false, fixed := 32, maxResult := 8 },
   { code := C.AGATE_TREE_CREATE, mailbox := true, classes := [1, 2], owner := false, fixed := 32, maxResult := 16 },
   { code := C.AGATE_LOAD, mailbox := true, classes := [1, 2], owner := false, fixed := 48, maxResult := 16 },
   { code := C.AGATE_EXPORT, mailbox := true, classes := [1, 2, 3], owner := false, fixed := 32, maxResult := 16 },
   { code := C.SHRED_STAGE, mailbox := true, classes := [0, 1, 2, 3], owner := false, fixed := 32, maxResult := 16 },
   { code := C.SHRED_COMMIT, mailbox := true, classes := [1, 2], owner := false, fixed := 32, maxResult := 16 },
   { code := C.ANCHOR_STATUS, mailbox := true, classes := [0, 1, 2, 3], owner := false, fixed := 8, maxResult := 80 }]
  ++ [{ code := C.SEAL, mailbox := false, classes := [0, 1, 2, 3], owner := false, fixed := 64, maxResult := 128 },
   { code := C.RECALL, mailbox := false, classes := [0, 1, 2, 3], owner := false, fixed := 192, maxResult := 64 },
   { code := C.VERIFY, mailbox := false, classes := [1, 2, 3], owner := false, fixed := 192, maxResult := 64 },
   { code := C.DIGEST_ONLY, mailbox := false, classes := [1, 2, 3], owner := false, fixed := 32, maxResult := 64 },
   { code := C.MANIFEST_OPEN, mailbox := true, classes := [1, 2], owner := false, fixed := 8, maxResult := 16 },
   { code := C.MANIFEST_CLOSE, mailbox := true, classes := [1, 2], owner := false, fixed := 32, maxResult := 16 },
   { code := C.DIGEST_MAC, mailbox := true, classes := [1, 2, 3], owner := false, fixed := 32, var := some (20, 2, 1), maxResult := 64 },
   { code := C.ENGINE_READMIT, mailbox := true, classes := [], owner := true, fixed := 8, maxResult := 8 },
   { code := C.ENGINE_QUARANTINE, mailbox := true, classes := [], owner := true, fixed := 8, maxResult := 0 },
   { code := C.SIGN, mailbox := true, classes := [1, 2, 3], owner := false, fixed := 48, var := some (4, 1, 1), maxResult := 8 },
   { code := C.SIG_VERIFY, mailbox := true, classes := [1, 2, 3], owner := false, fixed := 64, var := some (4, 1, 1), maxResult := 0 },
   { code := C.DERIVE_SHARED, mailbox := true, classes := [1, 2, 3], owner := false, fixed := 96, maxResult := 66 },
   { code := C.ENCAPS, mailbox := true, classes := [1, 2, 3], owner := false, fixed := 64, maxResult := 32 },
   { code := C.DECAPS, mailbox := true, classes := [1, 2, 3], owner := false, fixed := 48, maxResult := 32 },
   { code := C.ARI_READMIT, mailbox := true, classes := [], owner := true, fixed := 8, maxResult := 8 },
   { code := C.ARI_QUARANTINE, mailbox := true, classes := [], owner := true, fixed := 8, maxResult := 0 },
   { code := C.RNG_GENERATE, mailbox := true, classes := [1, 2, 3], owner := false, fixed := 32, maxResult := 8 },
   { code := C.WARD_MANIFEST_SET, mailbox := true, classes := [], owner := true, fixed := 32, maxResult := 8 },
   { code := C.WARD_VERIFY, mailbox := true, classes := [], owner := true, fixed := 8, maxResult := 8 },
   { code := C.WARD_RECOVER, mailbox := true, classes := [], owner := true, fixed := 48, maxResult := 8 },
   { code := C.WARD_HOLD, mailbox := true, classes := [], owner := true, fixed := 8, maxResult := 0 },
   { code := C.WARD_AUX, mailbox := true, classes := [], owner := true, fixed := 8, maxResult := 0 },
   { code := C.WARD_INFO, mailbox := true, classes := [1], owner := true, fixed := 8, maxResult := 32 },
   { code := C.TKN_SCAN, mailbox := true, classes := [], owner := true, fixed := 8, maxResult := 64 },
   { code := C.CEREMONY_BEGIN, mailbox := true, classes := [], owner := true, fixed := 8, maxResult := 8 },
   { code := C.CEREMONY_PRESENT, mailbox := true, classes := [], owner := true, fixed := 24, maxResult := 8 },
   { code := C.CEREMONY_ENROL, mailbox := true, classes := [], owner := true, fixed := 24, maxResult := 8 },
   { code := C.CEREMONY_STATUS, mailbox := true, classes := [], owner := true, fixed := 8, maxResult := 32 },
   { code := C.CEREMONY_END, mailbox := true, classes := [], owner := true, fixed := 8, maxResult := 0 },
   { code := C.CARD_FORCE_ERASE, mailbox := true, classes := [], owner := true, fixed := 8, maxResult := 0 }]
  ++ [{ code := C.ESCROW_STORE, mailbox := true, classes := [], owner := true, fixed := 32, maxResult := 8 },
   { code := C.ESCROW_FETCH, mailbox := true, classes := [], owner := true, fixed := 32, maxResult := 8 },
   { code := C.SWL_LINK_CTRL, mailbox := true, classes := [], owner := true, fixed := 8, maxResult := 0 },
   { code := C.SWL_LINK_INFO, mailbox := true, classes := [1], owner := true, fixed := 8, maxResult := 48 },
   { code := C.FAB_DOMAIN_SET, mailbox := true, classes := [], owner := true, fixed := 128, maxResult := 0 },
   { code := C.FAB_REPL_RESEND, mailbox := true, classes := [], owner := true, fixed := 8, maxResult := 8 },
   { code := C.FAB_REPL_LOG_READ, mailbox := true, classes := [1], owner := true, fixed := 32, maxResult := 8 },
   { code := C.FAB_ROOT_FETCH, mailbox := true, classes := [], owner := true, fixed := 32, maxResult := 8 },
   { code := C.FAB_ENROL_GRANT, mailbox := true, classes := [], owner := true, fixed := 8, maxResult := 0 },
   { code := C.FAB_ENROL, mailbox := true, classes := [], owner := true, fixed := 16, maxResult := 16 },
   { code := C.FAB_WAKE, mailbox := true, classes := [], owner := true, fixed := 8, maxResult := 8 },
   { code := C.ATTEST_GET, mailbox := true, classes := [1], owner := false, fixed := 64, var := some (4, 1, 2), maxResult := 8 },
   { code := C.FAIL_STATEMENT, mailbox := true, classes := [], owner := true, fixed := 48, maxResult := 8 },
   { code := C.FW_COMMIT, mailbox := true, classes := [], owner := true, fixed := 8, maxResult := 8 },
   { code := C.FW_ACTIVATE, mailbox := true, classes := [], owner := true, fixed := 8, maxResult := 0 },
   { code := C.EVR_READ, mailbox := true, classes := [1], owner := true, fixed := 32, maxResult := 16 },
   { code := C.EVR_CONFIG_READ, mailbox := true, classes := [], owner := true, fixed := 32, maxResult := 8 },
   { code := C.EVR_CLEAR, mailbox := true, classes := [], owner := true, fixed := 32, maxResult := 8 },
   { code := C.MEAS_READ, mailbox := true, classes := [1], owner := false, fixed := 8, maxResult := 128 },
   { code := C.MEAS_EXTEND, mailbox := true, classes := [], owner := true, fixed := 32, maxResult := 8 },
   { code := C.MEAS_LOG_READ, mailbox := true, classes := [1], owner := false, fixed := 32, maxResult := 16 },
   { code := C.AMB_EXPORT, mailbox := true, classes := [], owner := true, fixed := 32, maxResult := 24 },
   { code := C.AMB_REPLAY, mailbox := true, classes := [], owner := true, fixed := 64, maxResult := 16 },
   { code := C.PWR_HUSH, mailbox := true, classes := [], owner := true, fixed := 8, maxResult := 0 },
   { code := C.PWR_DORMANT, mailbox := true, classes := [], owner := true, fixed := 32, maxResult := 16 },
   { code := C.PWR_IMAGE_RESTORE, mailbox := true, classes := [], owner := true, fixed := 32, maxResult := 16 },
   { code := C.PWR_IMAGE_DISCARD, mailbox := true, classes := [], owner := true, fixed := 8, maxResult := 0 },
   { code := C.LCS_CHALLENGE, mailbox := true, classes := [], owner := true, fixed := 8, maxResult := 48 },
   { code := C.LCS_TRANSITION, mailbox := true, classes := [], owner := true, fixed := 32, maxResult := 8 },
   { code := C.TMP_ZEROISE, mailbox := true, classes := [], owner := true, fixed := 8, maxResult := 0 }]

/-- The entry of a command code; none for an unassigned code (R11). -/
def cmdInfo? (code : Nat) : Option CmdInfo := cmdTable.find? (fun c => c.code == code)

end Sys2Proof.Machine
end

