-- ==== Sys2Proof/Config.lean ====
section
/-! DEFINITION. What the manual leaves open, and the primitives it takes from named standards, as constants with no
body: nothing can be proved about a value they give. -/

namespace Sys2Proof.Config

/-- The free value numbered `i`: a random byte (09), or a byte the manual leaves undefined (R43, R44, R108). -/
opaque freeByte : Nat → Byte

/-- The eight SECDED check bits of a payload word (R3); the manual gives no code. -/
opaque checkBits : Nat → Byte

/-- SHA-384 (FIPS 180-4). -/
opaque sha384 : Bytes → BitVec 384

/-- SHA-512 (FIPS 180-4). -/
opaque sha512 : Bytes → BitVec 512

/-- SHA3-512 (FIPS 202). -/
opaque sha3_512 : Bytes → BitVec 512

/-- SHA3-256 (FIPS 202). -/
opaque sha3_256 : Bytes → BitVec 256

/-- CTR_DRBG instantiate (SP 800-90A, AES-256, no derivation function): the working state from seed and
personalisation. -/
opaque drbgInstantiate : Bytes → Bytes → BitVec 384

/-- CTR_DRBG reseed. -/
opaque drbgReseed : BitVec 384 → Bytes → BitVec 384

/-- Byte `i` of the output of one CTR_DRBG request of `n` bytes. -/
opaque drbgOut : BitVec 384 → Nat → Nat → Byte

/-- The working state after one CTR_DRBG request of `n` bytes. -/
opaque drbgNext : BitVec 384 → Nat → BitVec 384

/-- CMAC-AES-256 of a message under a 32-byte key (SP 800-38B). -/
opaque cmac : Bytes → Bytes → BitVec 128

/-- Byte `i` of AES-256-KWP wrapping (SP 800-38F) of a string under a key. -/
opaque kwpWrap : Bytes → Bytes → Nat → Byte

/-- AES-256-KWP unwrapping: the string, or nothing when the integrity check fails. -/
opaque kwpUnwrap : Bytes → Bytes → Option Bytes

/-- Byte `i` of the private key that key generation gives for a CLASS, SIZE and random input (R226). -/
opaque keyPriv : Nat → Nat → Bytes → Nat → Byte

/-- Byte `i` of the public key of a private key (R149). -/
opaque keyPub : Nat → Nat → Bytes → Nat → Byte

/-- Whether a public key passes the checks of its standard (KEY_IMPORT_PUBLIC). -/
opaque pubValid : Nat → Nat → Bytes → Bool

/-- Prime candidates that an RSA key generation tries before it succeeds (R222). -/
opaque rsaCandidates : Nat → Bytes → Nat

/-- Byte `i` of a signature: SCHEME, PREHASH, private key, context, message, random input (R214). -/
opaque sign : Nat → Bool → Bytes → Bytes → Bytes → Bytes → Nat → Byte

/-- Signing iterations of ML-DSA-87 (R222). -/
opaque signIterations : Bytes → Bytes → Bytes → Bytes → Nat

/-- Whether a signature is valid: SCHEME, PREHASH, public key, context, message, signature. -/
opaque verify : Nat → Bool → Bytes → Bytes → Bytes → Bytes → Bool

/-- Byte `i` of the shared secret of a private key and a peer key, or nothing where R224 gives E_POINT_INVALID. -/
opaque sharedValid : Nat → Nat → Bytes → Bytes → Bool
@[inherit_doc sharedValid] opaque shared : Nat → Nat → Bytes → Bytes → Nat → Byte

/-- Byte `i` of the ML-KEM-1024 ciphertext, and of the key, for an encapsulation key and a message (FIPS 203). -/
opaque kemCipher : Bytes → Bytes → Nat → Byte
@[inherit_doc kemCipher] opaque kemKey : Bytes → Bytes → Nat → Byte

/-- Byte `i` of the key that ML-KEM-1024 decapsulation gives (FIPS 203). -/
opaque kemDecaps : Bytes → Bytes → Nat → Byte

/-- AES-256 of one 16-byte block under a key (FIPS 197). -/
opaque aes256 : Bytes → Bytes → BitVec 128

/-- GHASH under a hash key of a byte string (SP 800-38D). -/
opaque ghash : Bytes → Bytes → BitVec 128

/-- Byte `i` of KMAC256 (SP 800-185): key, message, output length in bytes, customisation string. -/
opaque kmac256 : Bytes → Bytes → Nat → Bytes → Nat → Byte

/-- Byte `i` of SHAKE256 of a message (FIPS 202). -/
opaque shake256 : Bytes → Nat → Byte

/-- Coefficient `j` of the first polynomial of a lattice private key's encoding (FIPS 203, FIPS 204): CLASS, key. -/
opaque keyCoeff : Nat → Bytes → Nat → Nat

/-- The choices of the operation ROM that the manual leaves open (R211): operation, CLASS, SIZE, index. -/
opaque romLayout : Nat → Nat → Nat → Nat → Nat

/-- Whether an agreed secret is the coordinate of a point on the curve that is not the identity (R227): CLASS, SIZE, Z. -/
opaque onCurve : Nat → Nat → Bytes → Bool

/-- The message, or ML-KEM message, of the pairwise consistency test (R227), which the manual leaves open. -/
opaque pairwiseInput : Bytes

/-- Byte `i` of the AES-256-GCM keystream of a key and IV (SP 800-38D). -/
opaque gcmStream : Bytes → Bytes → Nat → Byte

/-- Byte `i` of the AES-256-GCM ciphertext of a plaintext: key, IV, plaintext (SP 800-38D); GCM decrypts with the same
function. -/
def gcmCrypt (k iv m : Bytes) (i : Nat) : Byte := m.getD i 0 ^^^ gcmStream k iv i

/-- The AES-256-GCM tag: key, IV, associated data, ciphertext. -/
opaque gcmTag : Bytes → Bytes → Bytes → Bytes → BitVec 128

/-- Byte `i` of the AES-256-GCM-SIV keystream (RFC 8452): key, nonce, tag. -/
opaque sivStream : Bytes → Bytes → Bytes → Nat → Byte

/-- Byte `i` of the AES-256-GCM-SIV counter-mode output (RFC 8452): key, nonce, tag, input. -/
def sivCrypt (k iv t m : Bytes) (i : Nat) : Byte := m.getD i 0 ^^^ sivStream k iv t i

/-- The AES-256-GCM-SIV tag: key, nonce, associated data, plaintext. -/
opaque sivTag : Bytes → Bytes → Bytes → Bytes → BitVec 128

/-- POLYVAL of a GCM-SIV pass: key, nonce, plaintext. -/
opaque polyval : Bytes → Bytes → Bytes → BitVec 128

/-- DEST and USAGE of the keys in the system slots, by slot (R146); the manual gives none. -/
opaque systemDest : Nat → Nat
@[inherit_doc systemDest] opaque systemUsage : Nat → Nat

/-- The 8-byte records that a ward's release and hold extend (R364), whose field widths the manual leaves open: ward,
manifest SEQ, verifications; ward, cause. -/
opaque releaseRecord : Nat → Nat → Nat → Bytes
@[inherit_doc releaseRecord] opaque holdRecord : Nat → Nat → Bytes

/-- The input streams of the boot ROM's extends whose layout the manual leaves open (R311): lifecycle state, floor and
debug state. -/
opaque lcsStream : Nat → Nat → Nat → Bytes

/-- The public key of a DER certificate that parses and chains to the Mortiyx roots (R410), by algorithm: 1 P-384, 2
ML-DSA-87. -/
opaque certKey : Nat → Bytes → Option Bytes

/-- Mortiyx's PCI-SIG vendor identifier (R448), which the manual does not give. -/
opaque vendorId : BitVec 16

/-- SHA-384 of the P-384 root certificate in the route firmware ROM (R410). -/
opaque rootHash : BitVec 384

/-- CTExponent of the SPDM CAPABILITIES response; DMTFSpecMeasurementValueType of each measurement index (DSP0274). -/
opaque spdmCtExponent : Byte
@[inherit_doc spdmCtExponent] opaque measKind : Nat → BitVec 7

/-- The version of a PLDM type, and the terminus UID for a DEVICE_ID (DSP0240, DSP0248). -/
opaque pldmVersion : Nat → BitVec 32
@[inherit_doc pldmVersion] opaque terminusUid : Nat → BitVec 128

/-- The fields of a PDR after its sensor ID, and the event class of a recorder entry, which the manual leaves open
(R454). -/
opaque pdrRest : Nat → Bytes
@[inherit_doc pdrRest] opaque eventClass : Byte

/-- The registers of colour rules 0 to 15, from mask ROM (R276): CLR_RULE_RANGE and CLR_RULE_MATCH. -/
opaque romRuleRange : Nat → BitVec 64
@[inherit_doc romRuleRange] opaque romRuleMatch : Nat → BitVec 64

/-- BCH(511, 259) decoding of 511 bits (R305): the message and the bits corrected, or nothing beyond 30 errors. -/
opaque bchDecode : List Bool → Option (List Bool × Nat)

/-- The 4,088-bit encoding of a 256-bit secret, as bytes: the BCH codeword with each bit eight times (R305). -/
opaque pufEncode : Bytes → Bytes

end Sys2Proof.Config
end

