-- ==== Sys2Proof/Machine/RegAddr.lean ====
section
/-! DEFINITION. The address of every register in the control-block region (R36), by its name; of an indexed
register, the address of its first instance. -/

namespace Sys2Proof.Machine.R

/-- HPT_LINK_STATUS (02). -/
abbrev HPT_LINK_STATUS : Nat := 0x10
/-- HPT_ERR_STATUS (02). -/
abbrev HPT_ERR_STATUS : Nat := 0x18
/-- HPT_ERR_FUNC (02). -/
abbrev HPT_ERR_FUNC : Nat := 0x20
/-- QP_SEL (03). -/
abbrev QP_SEL : Nat := 0x20000
/-- QP_CTX0 (03). -/
abbrev QP_CTX0 : Nat := 0x20008
/-- QP_CTX1 (03). -/
abbrev QP_CTX1 : Nat := 0x20010
/-- QP_CTX2 (03). -/
abbrev QP_CTX2 : Nat := 0x20018
/-- QP_CTX3 (03). -/
abbrev QP_CTX3 : Nat := 0x20020
/-- SCH_CLASS_WEIGHT (03). -/
abbrev SCH_CLASS_WEIGHT : Nat := 0x28000
/-- SCH_CTRL (03). -/
abbrev SCH_CTRL : Nat := 0x28008
/-- SCH_DMD_STAT (03). -/
abbrev SCH_DMD_STAT : Nat := 0x28010
/-- SEAL_CAP (04). -/
abbrev SEAL_CAP : Nat := 0x30000
/-- SEAL_MAN_POOL (04). -/
abbrev SEAL_MAN_POOL : Nat := 0x30008
/-- SEAL_ERR_COUNT (04). -/
abbrev SEAL_ERR_COUNT : Nat := 0x30010
/-- SEP_POOL_STATUS (05). -/
abbrev SEP_POOL_STATUS : Nat := 0x38000
/-- SEP_ENG_SEL (05). -/
abbrev SEP_ENG_SEL : Nat := 0x38008
/-- SEP_ENG_INFO (05). -/
abbrev SEP_ENG_INFO : Nat := 0x38010
/-- SEP_RERUN_COUNT (05). -/
abbrev SEP_RERUN_COUNT : Nat := 0x38018
/-- DGT_UNIT_STATUS (05). -/
abbrev DGT_UNIT_STATUS : Nat := 0x40000
/-- DGT_TRUNC_COUNT (05). -/
abbrev DGT_TRUNC_COUNT : Nat := 0x40008
/-- DGT_MR_SEL (05). -/
abbrev DGT_MR_SEL : Nat := 0x40010
/-- DGT_MR_WORD_k (05). -/
abbrev DGT_MR_WORD_k : Nat := 0x40018
/-- DGT_MR_INFO (05). -/
abbrev DGT_MR_INFO : Nat := 0x40058
/-- DGT_MLOG_STATUS (05). -/
abbrev DGT_MLOG_STATUS : Nat := 0x40060
/-- VLT_STATUS (06). -/
abbrev VLT_STATUS : Nat := 0x48000
/-- VLT_SLOT_SEL (06). -/
abbrev VLT_SLOT_SEL : Nat := 0x48008
/-- VLT_SLOT_ATTR (06). -/
abbrev VLT_SLOT_ATTR : Nat := 0x48010
/-- VLT_SLOT_PEND (06). -/
abbrev VLT_SLOT_PEND : Nat := 0x48018
/-- VLT_ARB_STAT (06). -/
abbrev VLT_ARB_STAT : Nat := 0x48020
/-- VLT_CDK_INFO (06). -/
abbrev VLT_CDK_INFO : Nat := 0x48028
/-- AGT_STATUS (07). -/
abbrev AGT_STATUS : Nat := 0x50000
/-- AGT_JOURNAL (07). -/
abbrev AGT_JOURNAL : Nat := 0x50008
/-- AGT_JOURNAL_LIVE (07). -/
abbrev AGT_JOURNAL_LIVE : Nat := 0x50010
/-- AGT_RATE (07). -/
abbrev AGT_RATE : Nat := 0x50018
/-- AGT_TREE_SEL (07). -/
abbrev AGT_TREE_SEL : Nat := 0x50020
/-- AGT_TREE_INFO (07). -/
abbrev AGT_TREE_INFO : Nat := 0x50028
/-- AGT_TREE_INFO2 (07). -/
abbrev AGT_TREE_INFO2 : Nat := 0x50030
/-- AGT_TREE_UID (07). -/
abbrev AGT_TREE_UID : Nat := 0x50038
/-- ARI_POOL_STATUS (08). -/
abbrev ARI_POOL_STATUS : Nat := 0x58000
/-- ARI_ENG_SEL (08). -/
abbrev ARI_ENG_SEL : Nat := 0x58008
/-- ARI_ENG_INFO (08). -/
abbrev ARI_ENG_INFO : Nat := 0x58010
/-- ARI_ERR_COUNT (08). -/
abbrev ARI_ERR_COUNT : Nat := 0x58018
/-- RNG_STATUS (09). -/
abbrev RNG_STATUS : Nat := 0x60000
/-- RNG_HEALTH_COUNT (09). -/
abbrev RNG_HEALTH_COUNT : Nat := 0x60008
/-- RNG_DRBG_SEL (09). -/
abbrev RNG_DRBG_SEL : Nat := 0x60010
/-- RNG_DRBG_INFO (09). -/
abbrev RNG_DRBG_INFO : Nat := 0x60018
/-- RNG_TEST (09). -/
abbrev RNG_TEST : Nat := 0x60020
/-- RNG_RAW (09). -/
abbrev RNG_RAW : Nat := 0x60028
/-- RNG_PATTERN_k (09). -/
abbrev RNG_PATTERN_k : Nat := 0x60030
/-- TEN_STATUS (10). -/
abbrev TEN_STATUS : Nat := 0x68000
/-- TEN_SEL (10). -/
abbrev TEN_SEL : Nat := 0x68008
/-- TEN_INFO (10). -/
abbrev TEN_INFO : Nat := 0x68010
/-- TEN_BUCKET (10). -/
abbrev TEN_BUCKET : Nat := 0x68018
/-- TEN_SPOOF (10). -/
abbrev TEN_SPOOF : Nat := 0x68020
/-- CLR_CTRL (10). -/
abbrev CLR_CTRL : Nat := 0x70000
/-- CLR_FAULT_COUNT (10). -/
abbrev CLR_FAULT_COUNT : Nat := 0x70008
/-- CLR_FAULT_INFO (10). -/
abbrev CLR_FAULT_INFO : Nat := 0x70010
/-- CLR_FAULT_LINE (10). -/
abbrev CLR_FAULT_LINE : Nat := 0x70018
/-- CLR_RULE_RANGE_n (10). -/
abbrev CLR_RULE_RANGE_n : Nat := 0x70100
/-- CLR_RULE_MATCH_n (10). -/
abbrev CLR_RULE_MATCH_n : Nat := 0x70108
/-- PWR_STATUS (11). -/
abbrev PWR_STATUS : Nat := 0x78000
/-- PWR_CTRL (11). -/
abbrev PWR_CTRL : Nat := 0x78008
/-- PWR_WAKE_CFG (11). -/
abbrev PWR_WAKE_CFG : Nat := 0x78010
/-- PWR_WAKE_CAUSE (11). -/
abbrev PWR_WAKE_CAUSE : Nat := 0x78018
/-- PWR_RTC (11). -/
abbrev PWR_RTC : Nat := 0x78020
/-- PWR_RTC_ALARM (11). -/
abbrev PWR_RTC_ALARM : Nat := 0x78028
/-- PWR_KEEPALIVE (11). -/
abbrev PWR_KEEPALIVE : Nat := 0x78030
/-- PWR_IMAGE (11). -/
abbrev PWR_IMAGE : Nat := 0x78038
/-- PWR_IMAGE_SIZE (11). -/
abbrev PWR_IMAGE_SIZE : Nat := 0x78040
/-- BOOT_STATUS (12). -/
abbrev BOOT_STATUS : Nat := 0x80000
/-- BOOT_IMAGE (12). -/
abbrev BOOT_IMAGE : Nat := 0x80008
/-- BOOT_IMAGE_BUILD (12). -/
abbrev BOOT_IMAGE_BUILD : Nat := 0x80010
/-- BOOT_FUSE (12). -/
abbrev BOOT_FUSE : Nat := 0x80018
/-- BOOT_DEVICE_ID (12). -/
abbrev BOOT_DEVICE_ID : Nat := 0x80020
/-- BOOT_PUF (12). -/
abbrev BOOT_PUF : Nat := 0x80028
/-- BOOT_SELFTEST (12). -/
abbrev BOOT_SELFTEST : Nat := 0x80030
/-- LCS_STATUS (12). -/
abbrev LCS_STATUS : Nat := 0x88000
/-- LCS_VHOLD (12). -/
abbrev LCS_VHOLD : Nat := 0x88008
/-- DBG_STATUS (12). -/
abbrev DBG_STATUS : Nat := 0x90000
/-- TMP_STATUS (13). -/
abbrev TMP_STATUS : Nat := 0x98000
/-- TMP_MESH_CFG (13). -/
abbrev TMP_MESH_CFG : Nat := 0x98008
/-- TMP_IN_CFG (13). -/
abbrev TMP_IN_CFG : Nat := 0x98010
/-- TMP_LATCH (13). -/
abbrev TMP_LATCH : Nat := 0x98018
/-- TMP_MESH_COUNT (13). -/
abbrev TMP_MESH_COUNT : Nat := 0x98020
/-- TMP_LOOP_COUNT (13). -/
abbrev TMP_LOOP_COUNT : Nat := 0x98028
/-- WRD_STATUS (14). -/
abbrev WRD_STATUS : Nat := 0xa0000
/-- WRD_SEL (14). -/
abbrev WRD_SEL : Nat := 0xa0008
/-- WRD_INFO (14). -/
abbrev WRD_INFO : Nat := 0xa0010
/-- WRD_BLOCK_COUNT (14). -/
abbrev WRD_BLOCK_COUNT : Nat := 0xa0018
/-- WRD_LAST_BLOCK (14). -/
abbrev WRD_LAST_BLOCK : Nat := 0xa0020
/-- TKN_CFG (15). -/
abbrev TKN_CFG : Nat := 0xa8000
/-- TKN_STATUS (15). -/
abbrev TKN_STATUS : Nat := 0xa8008
/-- TKN_SOCKET_s (15). -/
abbrev TKN_SOCKET_s : Nat := 0xa8010
/-- TKN_CEREMONY (15). -/
abbrev TKN_CEREMONY : Nat := 0xa8020
/-- SWL_STATUS (16). -/
abbrev SWL_STATUS : Nat := 0xb0000
/-- SWL_SEL (16). -/
abbrev SWL_SEL : Nat := 0xb0008
/-- SWL_INFO (16). -/
abbrev SWL_INFO : Nat := 0xb0010
/-- SWL_PARTNER (16). -/
abbrev SWL_PARTNER : Nat := 0xb0018
/-- SWL_SESSION (16). -/
abbrev SWL_SESSION : Nat := 0xb0020
/-- SWL_FRAME_COUNT (16). -/
abbrev SWL_FRAME_COUNT : Nat := 0xb0028
/-- SWL_FEC_COUNT (16). -/
abbrev SWL_FEC_COUNT : Nat := 0xb0030
/-- FAB_STATUS (17). -/
abbrev FAB_STATUS : Nat := 0xb8000
/-- FAB_DOMAIN (17). -/
abbrev FAB_DOMAIN : Nat := 0xb8008
/-- FAB_PEER_SEL (17). -/
abbrev FAB_PEER_SEL : Nat := 0xb8010
/-- FAB_PEER_ID (17). -/
abbrev FAB_PEER_ID : Nat := 0xb8018
/-- FAB_PEER_INFO (17). -/
abbrev FAB_PEER_INFO : Nat := 0xb8020
/-- FAB_ROUTE_SEL (17). -/
abbrev FAB_ROUTE_SEL : Nat := 0xb8028
/-- FAB_ROUTE_INFO (17). -/
abbrev FAB_ROUTE_INFO : Nat := 0xb8030
/-- FAB_ROUTE_ID (17). -/
abbrev FAB_ROUTE_ID : Nat := 0xb8038
/-- FAB_REPL_COUNT (17). -/
abbrev FAB_REPL_COUNT : Nat := 0xb8040
/-- FAB_REPL_STORE (17). -/
abbrev FAB_REPL_STORE : Nat := 0xb8048
/-- QTZ_STATUS (18). -/
abbrev QTZ_STATUS : Nat := 0xc0000
/-- QTZ_ALERT (18). -/
abbrev QTZ_ALERT : Nat := 0xc0008
/-- QTZ_ALERT_EN (18). -/
abbrev QTZ_ALERT_EN : Nat := 0xc0010
/-- SNS_SEL (18). -/
abbrev SNS_SEL : Nat := 0xe8000
/-- SNS_VALUE (18). -/
abbrev SNS_VALUE : Nat := 0xe8008
/-- SNS_LIMIT (18). -/
abbrev SNS_LIMIT : Nat := 0xe8010
/-- SNS_STATUS (18). -/
abbrev SNS_STATUS : Nat := 0xe8018
/-- EVR_STATUS (19). -/
abbrev EVR_STATUS : Nat := 0xc8000
/-- EVR_CFG (19). -/
abbrev EVR_CFG : Nat := 0xc8008
/-- EVR_DROP_COUNT (19). -/
abbrev EVR_DROP_COUNT : Nat := 0xc8010
/-- EVR_CKPT (19). -/
abbrev EVR_CKPT : Nat := 0xc8018
/-- EVR_CODE_SEL (19). -/
abbrev EVR_CODE_SEL : Nat := 0xc8020
/-- EVR_CODE_INFO (19). -/
abbrev EVR_CODE_INFO : Nat := 0xc8028
/-- AMB_CFG (20). -/
abbrev AMB_CFG : Nat := 0xd0000
/-- AMB_CTRL (20). -/
abbrev AMB_CTRL : Nat := 0xd0008
/-- AMB_STATUS (20). -/
abbrev AMB_STATUS : Nat := 0xd0010
/-- AMB_WINDOW_START (20). -/
abbrev AMB_WINDOW_START : Nat := 0xd0018
/-- AMB_WINDOW_HEAD (20). -/
abbrev AMB_WINDOW_HEAD : Nat := 0xd0020
/-- AMB_TRIG_n (20). -/
abbrev AMB_TRIG_n : Nat := 0xd0040
/-- NVM_STATUS (21). -/
abbrev NVM_STATUS : Nat := 0xe0000
/-- NVM_CMD (21). -/
abbrev NVM_CMD : Nat := 0xe0008
/-- NVM_SRC (21). -/
abbrev NVM_SRC : Nat := 0xe0010
/-- NVM_REFRESH (21). -/
abbrev NVM_REFRESH : Nat := 0xe0018
/-- NVM_REFRESH_CFG (21). -/
abbrev NVM_REFRESH_CFG : Nat := 0xe0020
/-- NVM_ERR_COUNT (21). -/
abbrev NVM_ERR_COUNT : Nat := 0xe0028
/-- NVM_CFG_AREA (21). -/
abbrev NVM_CFG_AREA : Nat := 0xe0030
/-- MEM_STATUS (21). -/
abbrev MEM_STATUS : Nat := 0xd8000
/-- MEM_ERR_COUNT (21). -/
abbrev MEM_ERR_COUNT : Nat := 0xd8008
/-- MEM_ERR_INFO (21). -/
abbrev MEM_ERR_INFO : Nat := 0xd8010
/-- MEM_POOL (21). -/
abbrev MEM_POOL : Nat := 0xd8018
/-- PWR_LIFE (22). -/
abbrev PWR_LIFE : Nat := 0x78048

end Sys2Proof.Machine.R
end

