-- ==== Sys2Proof/Machine/RegTable.lean ====
section
/-! DEFINITION. The register map: every register of the control-block region with the fields its chapter gives
(name, most and least significant bit, access code of R5, reset value, whether MOONSTONE holds it (R298)).
Fields marked RSVD are left out: they read as 0 and ignore writes (R6). The mailbox pages, and the MBX_ summary,
are in the mailbox operations. -/

namespace Sys2Proof.Machine

/-- The access codes of R5. -/
inductive Acc | ro | rw | rw1c | wo | rwl | rws
  deriving DecidableEq, Repr

/-- A field of a register. -/
structure RegField where
  name : String
  msb : Nat
  lsb : Nat
  acc : Acc
  reset : Nat := 0
  aon : Bool := false

/-- A register, or `count` registers `stride` bytes apart. -/
structure RegDef where
  name : String
  addr : Nat
  count : Nat := 1
  stride : Nat := 0
  fields : List RegField

/-- Block HPT_ (02_host_ports_and_mailboxes.md). -/
def regsHpt : List RegDef :=
  [{ name := "HPT_LINK_STATUS", addr := 0x10, fields := [
        ⟨"RETRAIN_COUNT", 31, 24, .rws, 0, false⟩,
        ⟨"IN_L1", 17, 17, .ro, 0, false⟩,
        ⟨"BELOW_RATED", 16, 16, .ro, 0, false⟩,
        ⟨"WIDTH", 12, 8, .ro, 0, false⟩,
        ⟨"FLIT", 4, 4, .ro, 0, false⟩,
        ⟨"RATE", 3, 1, .ro, 0, false⟩,
        ⟨"DL_UP", 0, 0, .ro, 0, false⟩] },
   { name := "HPT_ERR_STATUS", addr := 0x18, fields := [
        ⟨"LINK_DOWN", 9, 9, .rw1c, 0, false⟩,
        ⟨"CPL_LOST", 8, 8, .rw1c, 0, false⟩,
        ⟨"FLUSH_FAIL", 7, 7, .rw1c, 0, false⟩,
        ⟨"BME_BLOCKED", 6, 6, .rw1c, 0, false⟩,
        ⟨"CPL_TIMEOUT", 5, 5, .rw1c, 0, false⟩,
        ⟨"POISONED", 4, 4, .rw1c, 0, false⟩,
        ⟨"UR_CA", 3, 3, .rw1c, 0, false⟩,
        ⟨"DB_STRAY", 2, 2, .rw1c, 0, false⟩,
        ⟨"SIZE_ERR", 1, 1, .rw1c, 0, false⟩] },
   { name := "HPT_ERR_FUNC", addr := 0x20, fields := [
        ⟨"FUNC", 11, 0, .ro, 0, false⟩] }]

/-- Block QP_ (03_queues_and_service_classes.md). -/
def regsQp : List RegDef :=
  [{ name := "QP_SEL", addr := 0x20000, fields := [
        ⟨"QPN", 15, 0, .rw, 0, false⟩] },
   { name := "QP_CTX0", addr := 0x20008, fields := [
        ⟨"SQ_BASE", 63, 12, .ro, 0, false⟩,
        ⟨"DB_BAD_COUNT", 7, 0, .ro, 0, false⟩] },
   { name := "QP_CTX1", addr := 0x20010, fields := [
        ⟨"CQ_BASE", 63, 12, .ro, 0, false⟩,
        ⟨"COAL_TIME", 11, 4, .ro, 0, false⟩] },
   { name := "QP_CTX2", addr := 0x20018, fields := [
        ⟨"SQ_TAIL", 63, 48, .ro, 0, false⟩,
        ⟨"SQ_HEAD", 47, 32, .ro, 0, false⟩,
        ⟨"CQ_TAIL", 31, 16, .ro, 0, false⟩,
        ⟨"CQ_HEAD", 15, 0, .ro, 0, false⟩] },
   { name := "QP_CTX3", addr := 0x20020, fields := [
        ⟨"STATE", 63, 61, .ro, 0, false⟩,
        ⟨"CQ_PHASE", 60, 60, .ro, 0, false⟩,
        ⟨"CLASS", 59, 58, .ro, 0, false⟩,
        ⟨"PORT", 57, 57, .ro, 0, false⟩,
        ⟨"SQ_LOG2", 56, 52, .ro, 0, false⟩,
        ⟨"CQ_LOG2", 51, 47, .ro, 0, false⟩,
        ⟨"VECTOR", 46, 36, .ro, 0, false⟩,
        ⟨"LOCAL_INDEX", 35, 26, .ro, 0, false⟩,
        ⟨"TENANT", 25, 14, .ro, 0, false⟩,
        ⟨"COAL_COUNT", 13, 6, .ro, 0, false⟩] }]

/-- Block SCH_ (03_queues_and_service_classes.md). -/
def regsSch : List RegDef :=
  [{ name := "SCH_CLASS_WEIGHT", addr := 0x28000, fields := [
        ⟨"W_BACKGROUND", 23, 16, .rwl, 1, false⟩,
        ⟨"W_BULK", 15, 8, .rwl, 11, false⟩,
        ⟨"W_RECALL", 7, 0, .rwl, 4, false⟩] },
   { name := "SCH_CTRL", addr := 0x28008, fields := [
        ⟨"CLR_STATS", 1, 1, .wo, 0, false⟩,
        ⟨"LOCK", 0, 0, .rwl, 0, false⟩] },
   { name := "SCH_DMD_STAT", addr := 0x28010, fields := [
        ⟨"LATE_COUNT", 63, 48, .ro, 0, false⟩,
        ⟨"OOB_COUNT", 47, 32, .ro, 0, false⟩,
        ⟨"MAX_LAT", 31, 8, .ro, 0, false⟩,
        ⟨"OUTSTANDING", 6, 0, .ro, 0, false⟩] }]

/-- Block SEAL_ (04_sealing_and_recall.md). -/
def regsSeal : List RegDef :=
  [{ name := "SEAL_CAP", addr := 0x30000, fields := [
        ⟨"FORMAT", 47, 40, .ro, 1, false⟩,
        ⟨"MAX_AAD", 39, 16, .ro, 65536, false⟩,
        ⟨"DGST", 11, 8, .ro, 14, false⟩,
        ⟨"MODES", 1, 0, .ro, 3, false⟩] },
   { name := "SEAL_MAN_POOL", addr := 0x30008, fields := [
        ⟨"HIGH_WATER", 31, 16, .rws, 0, false⟩,
        ⟨"OPEN_COUNT", 12, 0, .ro, 0, false⟩] },
   { name := "SEAL_ERR_COUNT", addr := 0x30010, fields := [
        ⟨"TAG_FAIL", 63, 32, .rws, 0, false⟩,
        ⟨"DIGEST_MISMATCH", 31, 16, .rws, 0, false⟩,
        ⟨"SRC_CHANGED", 15, 0, .rws, 0, false⟩] }]

/-- Block SEP_ (05_seal_engine_pool_and_digests.md). -/
def regsSep : List RegDef :=
  [{ name := "SEP_POOL_STATUS", addr := 0x38000, fields := [
        ⟨"DMD_DEGRADED", 40, 40, .ro, 0, false⟩,
        ⟨"RETIRED", 39, 32, .ro, 0, false⟩,
        ⟨"OUT_OF_SERVICE", 31, 24, .ro, 0, false⟩,
        ⟨"RESERVED_IN_SERVICE", 23, 16, .ro, 0, false⟩,
        ⟨"IN_SERVICE", 15, 8, .ro, 0, false⟩] },
   { name := "SEP_ENG_SEL", addr := 0x38008, fields := [
        ⟨"ENGINE", 7, 0, .rw, 0, false⟩] },
   { name := "SEP_ENG_INFO", addr := 0x38010, fields := [
        ⟨"FAIL_COUNT", 63, 32, .ro, 0, false⟩,
        ⟨"LAST_CAUSE", 23, 16, .ro, 0, false⟩,
        ⟨"READMIT_FAILS", 11, 10, .ro, 0, false⟩,
        ⟨"PARKED", 7, 7, .ro, 0, false⟩,
        ⟨"BUSY", 6, 6, .ro, 0, false⟩,
        ⟨"ROLE", 5, 4, .ro, 0, false⟩,
        ⟨"STATE", 2, 0, .ro, 0, false⟩] },
   { name := "SEP_RERUN_COUNT", addr := 0x38018, fields := [
        ⟨"RERUNS", 63, 32, .rws, 0, false⟩,
        ⟨"EXHAUSTED", 31, 0, .rws, 0, false⟩] }]

/-- Block DGT_ (05_seal_engine_pool_and_digests.md). -/
def regsDgt : List RegDef :=
  [{ name := "DGT_UNIT_STATUS", addr := 0x40000, fields := [
        ⟨"DGU_Q_CTX", 39, 32, .ro, 0, false⟩,
        ⟨"DGU_3_CTX", 31, 24, .ro, 0, false⟩,
        ⟨"DGU_2_CTX", 23, 16, .ro, 0, false⟩,
        ⟨"DGU_1_CTX", 15, 8, .ro, 0, false⟩,
        ⟨"DGU_0_CTX", 7, 0, .ro, 0, false⟩] },
   { name := "DGT_TRUNC_COUNT", addr := 0x40008, fields := [
        ⟨"TRUNC", 63, 32, .rws, 0, false⟩,
        ⟨"SHORT", 31, 0, .rws, 0, false⟩] },
   { name := "DGT_MR_SEL", addr := 0x40010, fields := [
        ⟨"BANK", 5, 5, .rw, 0, false⟩,
        ⟨"INDEX", 4, 0, .rw, 0, false⟩] },
   { name := "DGT_MR_WORD_k", addr := 0x40018, count := 8, stride := 0x8, fields := [
        ⟨"VALUE", 63, 0, .ro, 0, false⟩] },
   { name := "DGT_MR_INFO", addr := 0x40058, fields := [
        ⟨"EXTEND_COUNT", 31, 0, .ro, 0, false⟩] },
   { name := "DGT_MLOG_STATUS", addr := 0x40060, fields := [
        ⟨"OVERFLOW", 48, 48, .ro, 0, false⟩,
        ⟨"STORED", 47, 32, .ro, 0, false⟩,
        ⟨"NEXT_SEQ", 31, 0, .ro, 0, false⟩] }]

/-- Block VLT_ (06_key_vault.md). -/
def regsVlt : List RegDef :=
  [{ name := "VLT_STATUS", addr := 0x48000, fields := [
        ⟨"ZEROISED", 41, 41, .ro, 0, false⟩,
        ⟨"UNKEYED", 40, 40, .ro, 1, false⟩,
        ⟨"CDK_LOADED", 39, 39, .ro, 0, false⟩,
        ⟨"RECORDS_USED", 31, 16, .ro, 0, false⟩,
        ⟨"POOL_FREE", 13, 0, .ro, 0, false⟩] },
   { name := "VLT_SLOT_SEL", addr := 0x48008, fields := [
        ⟨"SLOT", 13, 0, .rw, 0, false⟩] },
   { name := "VLT_SLOT_ATTR", addr := 0x48010, fields := [
        ⟨"ATTR", 63, 0, .ro, 0, false⟩] },
   { name := "VLT_SLOT_PEND", addr := 0x48018, fields := [
        ⟨"ATTR", 63, 0, .ro, 0, false⟩] },
   { name := "VLT_ARB_STAT", addr := 0x48020, fields := [
        ⟨"SUPERSEDED", 63, 32, .rws, 0, false⟩,
        ⟨"REVOKES", 31, 0, .rws, 0, false⟩] },
   { name := "VLT_CDK_INFO", addr := 0x48028, fields := [
        ⟨"CDK_KCV", 63, 0, .ro, 0, false⟩] }]

/-- Block AGT_ (07_agate_tree_and_shredding.md). -/
def regsAgt : List RegDef :=
  [{ name := "AGT_STATUS", addr := 0x50000, fields := [
        ⟨"TREES_USED", 57, 41, .ro, 0, false⟩,
        ⟨"STAGED_RANGES", 40, 26, .ro, 0, false⟩,
        ⟨"PAGES_FREE", 20, 0, .ro, 0, false⟩] },
   { name := "AGT_JOURNAL", addr := 0x50008, fields := [
        ⟨"JSEQ", 63, 32, .ro, 0, false⟩,
        ⟨"HEAD", 31, 14, .ro, 0, false⟩] },
   { name := "AGT_JOURNAL_LIVE", addr := 0x50010, fields := [
        ⟨"LIVE", 49, 32, .ro, 0, false⟩,
        ⟨"TOMBSTONES", 16, 0, .ro, 0, false⟩] },
   { name := "AGT_RATE", addr := 0x50018, fields := [
        ⟨"CARRIED", 63, 48, .rws, 0, false⟩,
        ⟨"WRITES", 47, 16, .rws, 0, false⟩,
        ⟨"TOKENS", 5, 0, .ro, 32, false⟩] },
   { name := "AGT_TREE_SEL", addr := 0x50020, fields := [
        ⟨"TREE_NUM", 15, 0, .rw, 0, false⟩] },
   { name := "AGT_TREE_INFO", addr := 0x50028, fields := [
        ⟨"BATCH", 63, 16, .ro, 0, false⟩,
        ⟨"STATE", 15, 13, .ro, 0, false⟩,
        ⟨"STAGED", 12, 4, .ro, 0, false⟩,
        ⟨"EPOCH", 3, 0, .ro, 0, false⟩] },
   { name := "AGT_TREE_INFO2", addr := 0x50030, fields := [
        ⟨"TENANT", 43, 32, .ro, 0, false⟩,
        ⟨"PAGES", 12, 0, .ro, 0, false⟩] },
   { name := "AGT_TREE_UID", addr := 0x50038, fields := [
        ⟨"TREE_UID", 63, 0, .ro, 0, false⟩] }]

/-- Block ARI_ (08_arith_engines.md). -/
def regsAri : List RegDef :=
  [{ name := "ARI_POOL_STATUS", addr := 0x58000, fields := [
        ⟨"RETIRED", 31, 24, .ro, 0, false⟩,
        ⟨"OUT_OF_SERVICE", 23, 16, .ro, 0, false⟩,
        ⟨"BUSY", 15, 8, .ro, 0, false⟩,
        ⟨"IN_SERVICE", 7, 0, .ro, 0, false⟩] },
   { name := "ARI_ENG_SEL", addr := 0x58008, fields := [
        ⟨"ENGINE", 4, 0, .rw, 0, false⟩] },
   { name := "ARI_ENG_INFO", addr := 0x58010, fields := [
        ⟨"FAIL_COUNT", 63, 48, .ro, 0, false⟩,
        ⟨"LAST_CAUSE", 47, 40, .ro, 0, false⟩,
        ⟨"READMIT_FAILS", 39, 38, .ro, 0, false⟩,
        ⟨"INV_STRIKES", 37, 36, .ro, 0, false⟩,
        ⟨"SLOTS_USED", 35, 29, .ro, 0, false⟩,
        ⟨"WORDS_USED", 28, 16, .ro, 0, false⟩,
        ⟨"OPERATION", 15, 8, .ro, 0, false⟩,
        ⟨"BUSY", 6, 6, .ro, 0, false⟩,
        ⟨"STATE", 2, 0, .ro, 0, false⟩] },
   { name := "ARI_ERR_COUNT", addr := 0x58018, fields := [
        ⟨"INVARIANT", 63, 48, .rws, 0, false⟩,
        ⟨"RERUNS", 47, 32, .rws, 0, false⟩,
        ⟨"EXHAUSTED", 31, 16, .rws, 0, false⟩,
        ⟨"ITER_LIMIT", 15, 0, .rws, 0, false⟩] }]

/-- Block RNG_ (09_random_bits.md). -/
def regsRng : List RegDef :=
  [{ name := "RNG_STATUS", addr := 0x60000, fields := [
        ⟨"QUEUE_BYTES", 48, 32, .ro, 0, false⟩,
        ⟨"SRC_RETIRED", 31, 24, .ro, 0, false⟩,
        ⟨"SRC_HEALTHY", 23, 16, .ro, 0, false⟩,
        ⟨"TEST_PATTERN", 2, 2, .ro, 0, false⟩,
        ⟨"STATE", 1, 0, .ro, 0, false⟩] },
   { name := "RNG_HEALTH_COUNT", addr := 0x60008, fields := [
        ⟨"RCT_FAILS", 63, 48, .rws, 0, false⟩,
        ⟨"APT_FAILS", 47, 32, .rws, 0, false⟩,
        ⟨"STARVED", 31, 16, .rws, 0, false⟩,
        ⟨"DISCARDED_BLOCKS", 15, 0, .rws, 0, false⟩] },
   { name := "RNG_DRBG_SEL", addr := 0x60010, fields := [
        ⟨"INSTANCE", 12, 0, .rw, 0, false⟩] },
   { name := "RNG_DRBG_INFO", addr := 0x60018, fields := [
        ⟨"STATE", 63, 62, .ro, 0, false⟩,
        ⟨"RESEEDS", 52, 21, .ro, 0, false⟩,
        ⟨"REQUESTS", 20, 0, .ro, 0, false⟩] },
   { name := "RNG_TEST", addr := 0x60020, fields := [
        ⟨"SRC", 6, 4, .rwl, 0, false⟩,
        ⟨"MODE", 1, 0, .rwl, 0, false⟩] },
   { name := "RNG_RAW", addr := 0x60028, fields := [
        ⟨"SAMPLES", 63, 0, .ro, 0, false⟩] },
   { name := "RNG_PATTERN_k", addr := 0x60030, count := 6, stride := 0x8, fields := [
        ⟨"VALUE", 63, 0, .rwl, 0, false⟩] }]

/-- Block TEN_ (10_tenancy_and_isolation.md). -/
def regsTen : List RegDef :=
  [{ name := "TEN_STATUS", addr := 0x68000, fields := [
        ⟨"IN_USE", 44, 32, .ro, 0, false⟩,
        ⟨"ACTIVE", 28, 16, .ro, 0, false⟩,
        ⟨"QUIESCING", 12, 0, .ro, 0, false⟩] },
   { name := "TEN_SEL", addr := 0x68008, fields := [
        ⟨"TENANT", 11, 0, .rw, 0, false⟩] },
   { name := "TEN_INFO", addr := 0x68010, fields := [
        ⟨"STATE", 63, 62, .ro, 0, false⟩,
        ⟨"PRIMARY", 61, 61, .ro, 0, false⟩,
        ⟨"TWIN", 60, 60, .ro, 0, false⟩,
        ⟨"PRIMARY_PORT", 59, 59, .ro, 0, false⟩,
        ⟨"RESET_PENDING", 58, 58, .ro, 0, false⟩,
        ⟨"QP_USED", 57, 47, .ro, 0, false⟩,
        ⟨"SLOTS_USED", 46, 33, .ro, 0, false⟩,
        ⟨"TREES_USED", 32, 28, .ro, 0, false⟩,
        ⟨"DMD_OUTSTANDING", 27, 21, .ro, 0, false⟩,
        ⟨"SPOOF_COUNT", 20, 5, .ro, 0, false⟩] },
   { name := "TEN_BUCKET", addr := 0x68018, fields := [
        ⟨"OP_BALANCE", 63, 32, .ro, 0, false⟩,
        ⟨"BYTE_BALANCE", 31, 0, .ro, 0, false⟩] },
   { name := "TEN_SPOOF", addr := 0x68020, fields := [
        ⟨"COUNT", 63, 48, .rws, 0, false⟩,
        ⟨"PORT", 44, 44, .ro, 0, false⟩,
        ⟨"QPN", 43, 28, .ro, 0, false⟩,
        ⟨"CLAIMED", 23, 12, .ro, 0, false⟩,
        ⟨"ACTUAL", 11, 0, .ro, 0, false⟩] }]

/-- Block CLR_ (10_tenancy_and_isolation.md). -/
def regsClr : List RegDef :=
  [{ name := "CLR_CTRL", addr := 0x70000, fields := [
        ⟨"LOCK", 0, 0, .rwl, 0, false⟩] },
   { name := "CLR_FAULT_COUNT", addr := 0x70008, fields := [
        ⟨"TENANT_MODE", 63, 32, .rws, 0, false⟩,
        ⟨"PRIVILEGED", 31, 0, .rws, 0, false⟩] },
   { name := "CLR_FAULT_INFO", addr := 0x70010, fields := [
        ⟨"INIT_COLOUR", 63, 48, .ro, 0, false⟩,
        ⟨"TARGET_COLOUR", 47, 32, .ro, 0, false⟩,
        ⟨"MEM", 31, 28, .ro, 0, false⟩,
        ⟨"WRITE", 1, 1, .ro, 0, false⟩,
        ⟨"PRIVILEGED", 0, 0, .ro, 0, false⟩] },
   { name := "CLR_FAULT_LINE", addr := 0x70018, fields := [
        ⟨"LINE", 31, 0, .ro, 0, false⟩] },
   { name := "CLR_RULE_RANGE_n", addr := 0x70100, count := 64, stride := 0x10, fields := [
        ⟨"END_LINE", 63, 32, .rwl, 0, false⟩,
        ⟨"START_LINE", 31, 0, .rwl, 0, false⟩] },
   { name := "CLR_RULE_MATCH_n", addr := 0x70108, count := 64, stride := 0x10, fields := [
        ⟨"INIT_COLOUR", 63, 48, .rwl, 0, false⟩,
        ⟨"INIT_MASK", 47, 32, .rwl, 0, false⟩,
        ⟨"TARGET_COLOUR", 31, 16, .rwl, 0, false⟩,
        ⟨"MEM", 15, 12, .rwl, 0, false⟩,
        ⟨"PERM", 3, 2, .rwl, 0, false⟩,
        ⟨"ENABLE", 0, 0, .rwl, 0, false⟩] }]

/-- Block PWR_ (11_modes_and_power.md). -/
def regsPwr : List RegDef :=
  [{ name := "PWR_STATUS", addr := 0x78000, fields := [
        ⟨"KEEPALIVE_UP", 39, 32, .ro, 0, false⟩,
        ⟨"VBAT_SEEN", 9, 9, .rw1c, 0, true⟩,
        ⟨"SALT_LOST", 8, 8, .ro, 0, false⟩,
        ⟨"MODE", 2, 0, .ro, 1, false⟩] },
   { name := "PWR_CTRL", addr := 0x78008, fields := [
        ⟨"AUTO_HUSH", 7, 0, .rw, 0, false⟩] },
   { name := "PWR_WAKE_CFG", addr := 0x78010, fields := [
        ⟨"SWL_LIMIT", 15, 8, .rw, 4, true⟩,
        ⟨"PERST_B", 5, 5, .rw, 1, true⟩,
        ⟨"PERST_A", 4, 4, .rw, 1, true⟩,
        ⟨"I3C", 3, 3, .rw, 1, true⟩,
        ⟨"RTC", 2, 2, .rw, 1, true⟩,
        ⟨"WAKE_IN", 1, 1, .rw, 1, true⟩,
        ⟨"SWL", 0, 0, .rw, 0, true⟩] },
   { name := "PWR_WAKE_CAUSE", addr := 0x78018, fields := [
        ⟨"SWL_REFUSED", 63, 48, .ro, 0, true⟩,
        ⟨"SWL_LINK", 39, 32, .ro, 0, true⟩,
        ⟨"POWER_GOOD", 6, 6, .rw1c, 1, true⟩,
        ⟨"PERST_B", 5, 5, .rw1c, 0, true⟩,
        ⟨"PERST_A", 4, 4, .rw1c, 0, true⟩,
        ⟨"I3C", 3, 3, .rw1c, 0, true⟩,
        ⟨"RTC", 2, 2, .rw1c, 0, true⟩,
        ⟨"WAKE_IN", 1, 1, .rw1c, 0, true⟩,
        ⟨"SWL", 0, 0, .rw1c, 0, true⟩] },
   { name := "PWR_RTC", addr := 0x78020, fields := [
        ⟨"TICKS", 63, 0, .rw, 0, true⟩] },
   { name := "PWR_RTC_ALARM", addr := 0x78028, fields := [
        ⟨"ALARM", 63, 0, .rw, 0, true⟩] },
   { name := "PWR_KEEPALIVE", addr := 0x78030, fields := [
        ⟨"NODE_ADDR", 23, 8, .ro, 0, true⟩,
        ⟨"LINKS", 7, 0, .rw, 0, true⟩] },
   { name := "PWR_IMAGE", addr := 0x78038, fields := [
        ⟨"DSEQ", 63, 32, .ro, 0, true⟩,
        ⟨"VALID", 0, 0, .ro, 0, true⟩] },
   { name := "PWR_IMAGE_SIZE", addr := 0x78040, fields := [
        ⟨"BYTES", 39, 0, .ro, 64, false⟩] },
   { name := "PWR_LIFE", addr := 0x78048, fields := [
        ⟨"OVER_RATED", 48, 48, .ro, 0, false⟩,
        ⟨"PERCENT", 47, 40, .ro, 0, false⟩,
        ⟨"LIFE", 30, 0, .ro, 0, false⟩] }]

/-- Block BOOT_ (12_startup_boot_and_lifecycle.md). -/
def regsBoot : List RegDef :=
  [{ name := "BOOT_STATUS", addr := 0x80000, fields := [
        ⟨"FIRST_CODE", 23, 20, .ro, 0, false⟩,
        ⟨"CODE", 19, 16, .ro, 0, false⟩,
        ⟨"STEP", 15, 11, .ro, 1, false⟩,
        ⟨"APPROVED_MODE", 10, 10, .ro, 0, false⟩,
        ⟨"FALLBACK", 9, 9, .ro, 0, false⟩,
        ⟨"IMAGE", 8, 8, .ro, 0, false⟩,
        ⟨"GATE_OPEN", 7, 7, .ro, 0, false⟩,
        ⟨"HALTED", 6, 6, .ro, 0, false⟩,
        ⟨"TRIM_ONE_BAD", 2, 2, .ro, 0, false⟩,
        ⟨"TRIM_COPY", 1, 1, .ro, 0, false⟩,
        ⟨"LOAD_DONE", 0, 0, .ro, 0, false⟩] },
   { name := "BOOT_IMAGE", addr := 0x80008, fields := [
        ⟨"BODY_LEN", 63, 32, .ro, 0, false⟩,
        ⟨"KEY_INDEX", 17, 16, .ro, 0, false⟩,
        ⟨"SVN", 8, 0, .ro, 0, false⟩] },
   { name := "BOOT_IMAGE_BUILD", addr := 0x80010, fields := [
        ⟨"BUILD", 63, 0, .ro, 0, false⟩] },
   { name := "BOOT_FUSE", addr := 0x80018, fields := [
        ⟨"KEY_REVOKE", 19, 16, .ro, 0, false⟩,
        ⟨"LCS_FLOOR", 15, 13, .ro, 0, false⟩,
        ⟨"SVN_COUNTER", 8, 0, .ro, 0, false⟩] },
   { name := "BOOT_DEVICE_ID", addr := 0x80020, fields := [
        ⟨"DEVICE_ID", 63, 0, .ro, 0, false⟩] },
   { name := "BOOT_PUF", addr := 0x80028, fields := [
        ⟨"HELPER_SEQ", 63, 32, .ro, 0, false⟩,
        ⟨"ABSENT", 15, 15, .ro, 0, false⟩,
        ⟨"REENROLLED", 14, 14, .ro, 0, false⟩,
        ⟨"COPY", 13, 13, .ro, 0, false⟩,
        ⟨"CORRECTED", 5, 0, .ro, 0, false⟩] },
   { name := "BOOT_SELFTEST", addr := 0x80030, fields := [
        ⟨"ROUTE_FAILED", 15, 8, .ro, 0, false⟩,
        ⟨"DGU_FAILED", 7, 4, .ro, 0, false⟩] }]

/-- Block LCS_ (12_startup_boot_and_lifecycle.md). -/
def regsLcs : List RegDef :=
  [{ name := "LCS_STATUS", addr := 0x88000, fields := [
        ⟨"CHALLENGE_VALID", 15, 15, .ro, 0, false⟩,
        ⟨"TRANSITION_BUSY", 14, 14, .ro, 0, false⟩,
        ⟨"WIPE_PENDING", 13, 13, .ro, 0, false⟩,
        ⟨"B_COMPLETED", 12, 12, .ro, 0, false⟩,
        ⟨"COPY_B", 11, 9, .ro, 0, false⟩,
        ⟨"COPY_A", 8, 6, .ro, 0, false⟩,
        ⟨"FLOOR", 5, 3, .ro, 0, false⟩,
        ⟨"STATE", 2, 0, .ro, 0, false⟩] },
   { name := "LCS_VHOLD", addr := 0x88008, fields := [
        ⟨"OK", 32, 32, .ro, 0, false⟩,
        ⟨"MIN_MV", 31, 16, .ro, 800, false⟩,
        ⟨"MV", 15, 0, .ro, 0, false⟩] }]

/-- Block DBG_ (12_startup_boot_and_lifecycle.md). -/
def regsDbg : List RegDef :=
  [{ name := "DBG_STATUS", addr := 0x90000, fields := [
        ⟨"LAST_STATUS", 31, 16, .ro, 0, false⟩,
        ⟨"AUTH_FAILS", 15, 8, .ro, 0, false⟩,
        ⟨"CLOSED", 2, 2, .ro, 0, false⟩,
        ⟨"UNLOCKED", 1, 1, .ro, 0, false⟩,
        ⟨"OPEN", 0, 0, .ro, 0, false⟩] }]

/-- Block TMP_ (13_tamper_and_zeroisation.md). -/
def regsTmp : List RegDef :=
  [{ name := "TMP_STATUS", addr := 0x98000, fields := [
        ⟨"VBAT_ABSENT", 16, 16, .ro, 0, true⟩,
        ⟨"XTAL_FAIL", 15, 15, .ro, 0, false⟩,
        ⟨"VBAT_LOW", 14, 14, .ro, 0, true⟩,
        ⟨"ALARMED", 13, 13, .ro, 0, false⟩,
        ⟨"LOOP_OK", 7, 6, .ro, 0, false⟩,
        ⟨"IN_LEVEL", 3, 0, .ro, 0, false⟩] },
   { name := "TMP_MESH_CFG", addr := 0x98008, fields := [
        ⟨"LOCK", 16, 16, .rwl, 0, true⟩,
        ⟨"W", 15, 8, .rwl, 8, true⟩,
        ⟨"N", 7, 0, .rwl, 4, true⟩] },
   { name := "TMP_IN_CFG", addr := 0x98010, fields := [
        ⟨"LOCK", 16, 16, .rwl, 0, true⟩,
        ⟨"FILTER", 15, 8, .rwl, 1, true⟩,
        ⟨"LOOP_EN", 5, 4, .rwl, 0, true⟩,
        ⟨"IN_EN", 3, 0, .rwl, 0, true⟩] },
   { name := "TMP_LATCH", addr := 0x98018, fields := [
        ⟨"MODE", 47, 45, .ro, 0, true⟩,
        ⟨"ISLAND", 44, 40, .ro, 0, true⟩,
        ⟨"HELPER_DONE", 33, 33, .ro, 0, true⟩,
        ⟨"ON_VBAT", 32, 32, .ro, 0, true⟩,
        ⟨"CLOCK", 13, 13, .ro, 0, true⟩,
        ⟨"TEMP_HIGH", 12, 12, .ro, 0, true⟩,
        ⟨"TEMP_LOW", 11, 11, .ro, 0, true⟩,
        ⟨"VBAT_OV", 10, 10, .ro, 0, true⟩,
        ⟨"AON_OV", 9, 9, .ro, 0, true⟩,
        ⟨"CORE_OV", 8, 8, .ro, 0, true⟩,
        ⟨"CORE_UV", 7, 7, .ro, 0, true⟩,
        ⟨"LOOP", 6, 5, .ro, 0, true⟩,
        ⟨"TAMP_IN", 4, 1, .ro, 0, true⟩,
        ⟨"MESH", 0, 0, .ro, 0, true⟩] },
   { name := "TMP_MESH_COUNT", addr := 0x98020, fields := [
        ⟨"MISMATCHES", 63, 8, .ro, 0, true⟩,
        ⟨"PEAK", 7, 0, .rws, 0, false⟩] },
   { name := "TMP_LOOP_COUNT", addr := 0x98028, fields := [
        ⟨"LOOP_1", 63, 32, .rws, 0, false⟩,
        ⟨"LOOP_0", 31, 0, .rws, 0, false⟩] }]

/-- Block WRD_ (14_platform_guard.md). -/
def regsWrd : List RegDef :=
  [{ name := "WRD_STATUS", addr := 0xa0000, fields := [
        ⟨"FAILED", 63, 48, .ro, 0, false⟩,
        ⟨"BUSY", 47, 32, .ro, 0, false⟩,
        ⟨"RUNNING", 31, 16, .ro, 0, false⟩,
        ⟨"WPG", 15, 0, .ro, 0, false⟩] },
   { name := "WRD_SEL", addr := 0xa0008, fields := [
        ⟨"WARD", 3, 0, .rw, 0, false⟩] },
   { name := "WRD_INFO", addr := 0xa0010, fields := [
        ⟨"SEQ", 63, 32, .ro, 0, false⟩,
        ⟨"LAST_STATUS", 31, 16, .ro, 0, false⟩,
        ⟨"VERIFICATIONS", 15, 8, .ro, 0, false⟩,
        ⟨"STAGED", 7, 7, .ro, 0, false⟩,
        ⟨"ADDR4", 6, 6, .ro, 0, false⟩,
        ⟨"AUX_HIGH", 5, 5, .ro, 0, false⟩,
        ⟨"RST_HIGH", 4, 4, .ro, 0, false⟩,
        ⟨"STATE", 2, 0, .ro, 0, false⟩] },
   { name := "WRD_BLOCK_COUNT", addr := 0xa0018, fields := [
        ⟨"OTHER", 63, 32, .rws, 0, false⟩,
        ⟨"MODIFY", 31, 0, .rws, 0, false⟩] },
   { name := "WRD_LAST_BLOCK", addr := 0xa0020, fields := [
        ⟨"OPCODE", 47, 40, .ro, 0, false⟩,
        ⟨"ADDR_VALID", 32, 32, .ro, 0, false⟩,
        ⟨"ADDRESS", 31, 0, .ro, 0, false⟩] }]

/-- Block TKN_ (15_custodian_token_port.md). -/
def regsTkn : List RegDef :=
  [{ name := "TKN_CFG", addr := 0xa8000, fields := [
        ⟨"IDLE_OFF_S", 15, 8, .rw, 30, false⟩,
        ⟨"DATA_MHZ", 4, 0, .rw, 25, false⟩] },
   { name := "TKN_STATUS", addr := 0xa8008, fields := [
        ⟨"ESC_OVERFLOW", 16, 16, .ro, 0, false⟩,
        ⟨"CARTS", 15, 8, .ro, 0, false⟩,
        ⟨"UNCERTAIN", 5, 4, .ro, 0, false⟩,
        ⟨"FAILED", 3, 2, .ro, 0, false⟩,
        ⟨"PRESENT", 1, 0, .ro, 0, false⟩] },
   { name := "TKN_SOCKET_s", addr := 0xa8010, count := 2, stride := 0x8, fields := [
        ⟨"LAST_STATUS", 63, 48, .ro, 0, false⟩,
        ⟨"RESOLVED", 47, 46, .ro, 0, false⟩,
        ⟨"SERIAL_LOW", 31, 0, .ro, 0, false⟩] },
   { name := "TKN_CEREMONY", addr := 0xa8020, fields := [
        ⟨"EXPIRED", 48, 48, .ro, 0, false⟩,
        ⟨"REMAINING_S", 47, 32, .ro, 0, false⟩,
        ⟨"N", 31, 28, .ro, 0, false⟩,
        ⟨"K", 27, 24, .ro, 0, false⟩,
        ⟨"COUNT", 23, 16, .ro, 0, false⟩,
        ⟨"PURPOSE", 10, 8, .ro, 0, false⟩,
        ⟨"STATE", 1, 0, .ro, 0, false⟩] }]

/-- Block SWL_ (16_fabric_links.md). -/
def regsSwl : List RegDef :=
  [{ name := "SWL_STATUS", addr := 0xb0000, fields := [
        ⟨"DOMAIN", 47, 40, .ro, 0, false⟩,
        ⟨"FULL", 39, 32, .ro, 0, false⟩,
        ⟨"STATE", 31, 0, .ro, 0, false⟩] },
   { name := "SWL_SEL", addr := 0xb0008, fields := [
        ⟨"LINK", 2, 0, .rw, 0, false⟩] },
   { name := "SWL_INFO", addr := 0xb0010, fields := [
        ⟨"ERR_COUNT", 55, 47, .ro, 0, false⟩,
        ⟨"GOOD_BEACONS", 46, 39, .ro, 0, false⟩,
        ⟨"HS_FAILS", 38, 32, .ro, 0, false⟩,
        ⟨"QUARANTINES", 31, 24, .ro, 0, false⟩,
        ⟨"PARTNER_STATE", 15, 12, .ro, 0, false⟩,
        ⟨"LEVEL", 11, 10, .ro, 0, false⟩,
        ⟨"KEY_PHASE", 9, 9, .ro, 0, false⟩,
        ⟨"RATE", 8, 8, .ro, 0, false⟩,
        ⟨"STATE", 3, 0, .ro, 0, false⟩] },
   { name := "SWL_PARTNER", addr := 0xb0018, fields := [
        ⟨"ID_HASH", 63, 0, .ro, 0, false⟩] },
   { name := "SWL_SESSION", addr := 0xb0020, fields := [
        ⟨"AGE_S", 63, 40, .ro, 0, false⟩,
        ⟨"TX_LSEQ", 39, 0, .ro, 0, false⟩] },
   { name := "SWL_FRAME_COUNT", addr := 0xb0028, fields := [
        ⟨"BAD", 63, 32, .rws, 0, false⟩,
        ⟨"REFUSED", 31, 16, .rws, 0, false⟩,
        ⟨"HANDED_BACK", 15, 0, .rws, 0, false⟩] },
   { name := "SWL_FEC_COUNT", addr := 0xb0030, fields := [
        ⟨"CORRECTED", 63, 32, .rws, 0, false⟩,
        ⟨"UNCORRECTABLE", 31, 0, .rws, 0, false⟩] }]

/-- Block FAB_ (17_custody_fabric_and_replication.md). -/
def regsFab : List RegDef :=
  [{ name := "FAB_STATUS", addr := 0xb8000, fields := [
        ⟨"LATE_NAK", 35, 35, .rw1c, 0, false⟩,
        ⟨"TABLE_FULL", 34, 34, .ro, 0, false⟩,
        ⟨"ISOLATED", 33, 33, .ro, 0, false⟩,
        ⟨"NODES", 28, 18, .ro, 0, false⟩,
        ⟨"ADDR_STATE", 17, 16, .ro, 0, false⟩,
        ⟨"NODE_ADDR", 15, 0, .ro, 0, false⟩] },
   { name := "FAB_DOMAIN", addr := 0xb8008, fields := [
        ⟨"REACHABLE", 63, 48, .ro, 0, false⟩,
        ⟨"LISTED", 47, 32, .ro, 0, false⟩,
        ⟨"Q", 3, 0, .ro, 1, false⟩] },
   { name := "FAB_PEER_SEL", addr := 0xb8010, fields := [
        ⟨"PEER", 3, 0, .rw, 0, false⟩] },
   { name := "FAB_PEER_ID", addr := 0xb8018, fields := [
        ⟨"ID_HASH", 63, 0, .ro, 0, false⟩] },
   { name := "FAB_PEER_INFO", addr := 0xb8020, fields := [
        ⟨"ADDR", 63, 48, .ro, 0, false⟩,
        ⟨"NAKS", 47, 32, .ro, 0, false⟩,
        ⟨"PUSHES", 31, 0, .ro, 0, false⟩] },
   { name := "FAB_ROUTE_SEL", addr := 0xb8028, fields := [
        ⟨"ADDR", 15, 0, .rw, 0, false⟩] },
   { name := "FAB_ROUTE_INFO", addr := 0xb8030, fields := [
        ⟨"VALID", 63, 63, .ro, 0, false⟩,
        ⟨"COST123", 55, 48, .ro, 0, false⟩,
        ⟨"COST0", 47, 40, .ro, 0, false⟩,
        ⟨"NH123", 39, 36, .ro, 0, false⟩,
        ⟨"NH0", 35, 32, .ro, 0, false⟩,
        ⟨"HOPS", 31, 24, .ro, 0, false⟩] },
   { name := "FAB_ROUTE_ID", addr := 0xb8038, fields := [
        ⟨"ID_HASH", 63, 0, .ro, 0, false⟩] },
   { name := "FAB_REPL_COUNT", addr := 0xb8040, fields := [
        ⟨"PUSHES", 63, 32, .rws, 0, false⟩,
        ⟨"LATE_NAKS", 31, 16, .rws, 0, false⟩,
        ⟨"NOTICES", 15, 0, .rws, 0, false⟩] },
   { name := "FAB_REPL_STORE", addr := 0xb8048, fields := [
        ⟨"HOLDERS", 44, 32, .ro, 0, false⟩,
        ⟨"ROOTS", 28, 16, .ro, 0, false⟩,
        ⟨"LOG_STORED", 8, 0, .ro, 0, false⟩] }]

/-- Block QTZ_ (18_quartz_management_and_attestation.md). -/
def regsQtz : List RegDef :=
  [{ name := "QTZ_STATUS", addr := 0xc0000, fields := [
        ⟨"EID", 39, 32, .ro, 0, false⟩,
        ⟨"WDT_RESETS", 31, 24, .ro, 0, false⟩,
        ⟨"IMAGE_OTHER", 19, 18, .ro, 0, false⟩,
        ⟨"MGMT_MODE", 17, 16, .ro, 0, false⟩,
        ⟨"FW_RUNNING", 8, 8, .ro, 0, false⟩,
        ⟨"DYN_ADDR", 6, 0, .ro, 0, false⟩] },
   { name := "QTZ_ALERT", addr := 0xc0008, fields := [
        ⟨"FW_STAGED", 5, 5, .rw1c, 0, false⟩,
        ⟨"ISOLATED", 4, 4, .ro, 0, false⟩,
        ⟨"VBAT_LOW", 3, 3, .ro, 0, false⟩,
        ⟨"RNG_FAILED", 2, 2, .ro, 0, false⟩,
        ⟨"WATCHDOG", 1, 1, .rw1c, 0, false⟩,
        ⟨"SENSOR", 0, 0, .rw1c, 0, false⟩] },
   { name := "QTZ_ALERT_EN", addr := 0xc0010, fields := [
        ⟨"FW_STAGED", 5, 5, .rw, 1, false⟩,
        ⟨"WATCHDOG", 1, 1, .rw, 1, false⟩,
        ⟨"SENSOR", 0, 0, .rw, 1, false⟩] }]

/-- Block SNS_ (18_quartz_management_and_attestation.md). -/
def regsSns : List RegDef :=
  [{ name := "SNS_SEL", addr := 0xe8000, fields := [
        ⟨"SENSOR", 5, 0, .rw, 0, false⟩] },
   { name := "SNS_VALUE", addr := 0xe8008, fields := [
        ⟨"MAX", 63, 40, .ro, 0, false⟩,
        ⟨"VALUE", 39, 16, .ro, 0, false⟩,
        ⟨"OUT", 7, 7, .ro, 0, false⟩,
        ⟨"AGE_MS", 6, 0, .ro, 0, false⟩] },
   { name := "SNS_LIMIT", addr := 0xe8010, fields := [
        ⟨"HIGH", 63, 40, .rw, 0, false⟩,
        ⟨"LOW", 39, 16, .rw, 0, false⟩,
        ⟨"EN", 0, 0, .rw, 0, false⟩] },
   { name := "SNS_STATUS", addr := 0xe8018, fields := [
        ⟨"OUT", 56, 0, .ro, 0, false⟩] }]

/-- Block EVR_ (19_event_recorder.md). -/
def regsEvr : List RegDef :=
  [{ name := "EVR_STATUS", addr := 0xc8000, fields := [
        ⟨"CLEAR_SEQ", 51, 36, .ro, 0, false⟩,
        ⟨"FIFO_LEVEL", 35, 29, .ro, 0, false⟩,
        ⟨"CLEARING", 28, 28, .ro, 0, false⟩,
        ⟨"LOG_FULL", 26, 26, .ro, 0, false⟩,
        ⟨"FORMAT", 25, 25, .ro, 0, false⟩,
        ⟨"HEAD", 19, 0, .ro, 0, false⟩] },
   { name := "EVR_CFG", addr := 0xc8008, fields := [
        ⟨"REFILL_S", 15, 8, .rw, 1, false⟩,
        ⟨"BURST", 5, 0, .rw, 8, false⟩] },
   { name := "EVR_DROP_COUNT", addr := 0xc8010, fields := [
        ⟨"SUPPRESSED", 63, 32, .rws, 0, false⟩,
        ⟨"FIFO_FULL", 31, 20, .rws, 0, false⟩,
        ⟨"LOG_FULL", 19, 8, .rws, 0, false⟩,
        ⟨"WRITE_FAIL", 7, 0, .rws, 0, false⟩] },
   { name := "EVR_CKPT", addr := 0xc8018, fields := [
        ⟨"TIME", 63, 0, .ro, 0, false⟩] },
   { name := "EVR_CODE_SEL", addr := 0xc8020, fields := [
        ⟨"CODE", 15, 0, .rw, 0, false⟩] },
   { name := "EVR_CODE_INFO", addr := 0xc8028, fields := [
        ⟨"SUPPRESSED", 63, 48, .ro, 0, false⟩,
        ⟨"DROPPED", 47, 32, .ro, 0, false⟩,
        ⟨"TOKENS", 5, 0, .ro, 0, false⟩] }]

/-- Block AMB_ (20_amber_journal_and_replay.md). -/
def regsAmb : List RegDef :=
  [{ name := "AMB_CFG", addr := 0xd0000, fields := [
        ⟨"POST_MS", 47, 32, .rw, 0, false⟩,
        ⟨"SIZE_GIB", 8, 4, .rw, 1, false⟩,
        ⟨"LEVEL", 1, 0, .rw, 0, false⟩] },
   { name := "AMB_CTRL", addr := 0xd0008, fields := [
        ⟨"REARM", 1, 1, .wo, 0, false⟩,
        ⟨"FREEZE", 0, 0, .wo, 0, false⟩] },
   { name := "AMB_STATUS", addr := 0xd0010, fields := [
        ⟨"FREEZE_CODE", 63, 48, .ro, 0, false⟩,
        ⟨"CKPT_COUNT", 47, 32, .ro, 0, false⟩,
        ⟨"OVERRUN", 5, 5, .ro, 0, false⟩,
        ⟨"WRAPPED", 4, 4, .ro, 0, false⟩,
        ⟨"REPLAYABLE", 3, 3, .ro, 0, false⟩,
        ⟨"REPLAYING", 2, 2, .ro, 0, false⟩,
        ⟨"TRIGGERED", 1, 1, .ro, 0, false⟩,
        ⟨"FROZEN", 0, 0, .ro, 0, false⟩] },
   { name := "AMB_WINDOW_START", addr := 0xd0018, fields := [
        ⟨"POS", 63, 0, .ro, 0, false⟩] },
   { name := "AMB_WINDOW_HEAD", addr := 0xd0020, fields := [
        ⟨"POS", 63, 0, .ro, 0, false⟩] },
   { name := "AMB_TRIG_n", addr := 0xd0040, count := 8, stride := 0x8, fields := [
        ⟨"VALID", 32, 32, .rw, 0, false⟩,
        ⟨"MASK", 31, 16, .rw, 0, false⟩,
        ⟨"CODE", 15, 0, .rw, 0, false⟩] }]

/-- Block NVM_ (21_package_memories.md). -/
def regsNvm : List RegDef :=
  [{ name := "NVM_STATUS", addr := 0xe0000, fields := [
        ⟨"LAST", 31, 16, .ro, 0, false⟩,
        ⟨"REMAP_FULL", 10, 10, .ro, 0, false⟩,
        ⟨"EXEC_BANK", 9, 8, .ro, 0, false⟩,
        ⟨"SUSPENDED", 7, 4, .ro, 0, false⟩,
        ⟨"BUSY", 3, 0, .ro, 0, false⟩] },
   { name := "NVM_CMD", addr := 0xe0008, fields := [
        ⟨"OP", 63, 60, .ro, 0, false⟩,
        ⟨"LEN", 34, 26, .ro, 0, false⟩,
        ⟨"ADDR", 25, 0, .ro, 0, false⟩] },
   { name := "NVM_SRC", addr := 0xe0010, fields := [
        ⟨"SRAM_ADDR", 18, 0, .ro, 0, false⟩] },
   { name := "NVM_REFRESH", addr := 0xe0018, fields := [
        ⟨"EQ_HOURS", 63, 32, .ro, 0, false⟩,
        ⟨"PASSES", 31, 24, .ro, 0, false⟩,
        ⟨"ACTIVE", 21, 21, .ro, 0, false⟩,
        ⟨"NEXT_SECTOR", 14, 0, .ro, 0, false⟩] },
   { name := "NVM_REFRESH_CFG", addr := 0xe0020, fields := [
        ⟨"PACE_S", 7, 0, .rw, 1, false⟩] },
   { name := "NVM_ERR_COUNT", addr := 0xe0028, fields := [
        ⟨"PROGRAM", 63, 48, .rws, 0, false⟩,
        ⟨"ERASE", 47, 32, .rws, 0, false⟩,
        ⟨"ECC_CORRECTED", 31, 16, .rws, 0, false⟩,
        ⟨"UNCORRECTABLE", 15, 8, .rws, 0, false⟩,
        ⟨"REMAPPED", 7, 0, .ro, 0, false⟩] },
   { name := "NVM_CFG_AREA", addr := 0xe0030, fields := [
        ⟨"FREE_SECTORS", 42, 32, .ro, 0, false⟩,
        ⟨"RECORDS", 13, 0, .ro, 0, false⟩] }]

/-- Block MEM_ (21_package_memories.md). -/
def regsMem : List RegDef :=
  [{ name := "MEM_STATUS", addr := 0xd8000, fields := [
        ⟨"POISONED", 63, 32, .ro, 0, false⟩,
        ⟨"SELF_REFRESH", 2, 2, .ro, 0, false⟩,
        ⟨"KEYS", 1, 1, .ro, 0, false⟩,
        ⟨"TRAINED", 0, 0, .ro, 0, false⟩] },
   { name := "MEM_ERR_COUNT", addr := 0xd8008, fields := [
        ⟨"ECC_CORRECTED", 63, 32, .rws, 0, false⟩,
        ⟨"INTEGRITY", 31, 0, .rws, 0, false⟩] },
   { name := "MEM_ERR_INFO", addr := 0xd8010, fields := [
        ⟨"NODE", 63, 63, .ro, 0, false⟩,
        ⟨"LEVEL", 62, 60, .ro, 0, false⟩,
        ⟨"INDEX", 28, 0, .ro, 0, false⟩] },
   { name := "MEM_POOL", addr := 0xd8018, fields := [
        ⟨"RING_GIB", 47, 32, .ro, 0, false⟩,
        ⟨"FRONTIER_HIGH", 20, 0, .ro, 0, false⟩] }]

/-- Every register of the control-block region. -/
def allRegs : List RegDef :=
  regsHpt ++ regsQp ++ regsSch ++ regsSeal ++ regsSep ++ regsDgt ++ regsVlt ++ regsAgt ++ regsAri ++ regsRng ++ regsTen ++ regsClr ++ regsPwr ++ regsBoot ++ regsLcs ++ regsDbg ++ regsTmp ++ regsWrd ++ regsTkn ++ regsSwl ++ regsFab ++ regsQtz ++ regsSns ++ regsEvr ++ regsAmb ++ regsNvm ++ regsMem

end Sys2Proof.Machine
end

