-- ==== Sys2Proof/Machine/Bytes.lean ====
section
/-! DEFINITION. Byte strings and bit fields (00_scope R1, R2): little-endian values, slices at a byte offset, and
bit fields of a word. -/

namespace Sys2Proof.Machine

/-- The little-endian value of a byte string (R1). -/
def leNat : Bytes → Nat
  | [] => 0
  | b :: bs => b.toNat + 256 * leNat bs

/-- `n` bytes of the value `v`, least significant first (R1). -/
def leBytes : Nat → Nat → Bytes
  | 0, _ => []
  | n + 1, v => BitVec.ofNat 8 v :: leBytes n (v / 256)

/-- `n` bytes of the value `v`, most significant first (the be16 and be32 of the constructions of 04 and 06). -/
def beBytes (n v : Nat) : Bytes := (leBytes n v).reverse

/-- The big-endian value of a byte string. -/
def beNat (bs : Bytes) : Nat := leNat bs.reverse

/-- A string of `n` zero bytes. -/
def zeros (n : Nat) : Bytes := List.replicate n 0

/-- The `n` bytes at offset `off`; bytes past the end read as 0. -/
def slice (bs : Bytes) (off n : Nat) : Bytes :=
  let t := (bs.drop off).take n
  t ++ zeros (n - t.length)

/-- `bs` cut or zero-extended to exactly `n` bytes. -/
def fit (n : Nat) (bs : Bytes) : Bytes := slice bs 0 n

/-- The byte at offset `off`. -/
def u8 (bs : Bytes) (off : Nat) : Nat := leNat (slice bs off 1)
/-- The 16-bit value at byte offset `off`. -/
def u16 (bs : Bytes) (off : Nat) : Nat := leNat (slice bs off 2)
/-- The 32-bit value at byte offset `off`. -/
def u32 (bs : Bytes) (off : Nat) : Nat := leNat (slice bs off 4)
/-- The 48-bit value at byte offset `off`. -/
def u48 (bs : Bytes) (off : Nat) : Nat := leNat (slice bs off 6)
/-- The 64-bit value at byte offset `off`. -/
def u64 (bs : Bytes) (off : Nat) : Nat := leNat (slice bs off 8)

/-- Whether every byte of a string is 0 (the test of an RSVD field). -/
def allZero (bs : Bytes) : Bool := bs.all (· == 0)

/-- Whether the `n` bytes at `off` are all 0. -/
def zeroAt (bs : Bytes) (off n : Nat) : Bool := allZero (slice bs off n)

/-- Bit `i` of a number. -/
def bitOf (v i : Nat) : Bool := v.testBit i

/-- The field `v[msb:lsb]` (R2). -/
def field (v msb lsb : Nat) : Nat := (v / 2 ^ lsb) % 2 ^ (msb + 1 - lsb)

/-- A field value placed at bit `lsb`, cut to the field's width. -/
def place (msb lsb v : Nat) : Nat := (v % 2 ^ (msb + 1 - lsb)) * 2 ^ lsb

/-- 1 for true, 0 for false. -/
def b2n (b : Bool) : Nat := if b then 1 else 0

/-- The value of a counter field of `bits` bits that saturates (for example R64, R83). -/
def satInc (bits v : Nat) : Nat := if v + 1 < 2 ^ bits then v + 1 else 2 ^ bits - 1

/-- `v + n` in a counter of `bits` bits that saturates. -/
def satAdd (bits v n : Nat) : Nat := if v + n < 2 ^ bits then v + n else 2 ^ bits - 1

/-- `bs` with `new` written over it at offset `off`; the string keeps its length. -/
def patch (bs : Bytes) (off : Nat) (new : Bytes) : Bytes :=
  fit bs.length ((slice bs 0 off) ++ new ++ bs.drop (off + new.length))

/-- One bit of a reflected CRC-32 (polynomial 0xEDB88320). -/
def crcBit (c : BitVec 32) : BitVec 32 := if c.getLsbD 0 then (c >>> 1) ^^^ 0xEDB88320#32 else c >>> 1

/-- CRC-32 of IEEE 802.3 over a byte string (R400, R402). -/
def crc32 (bs : Bytes) : Nat :=
  (~~~(bs.foldl (fun c b => crcBit (crcBit (crcBit (crcBit (crcBit (crcBit (crcBit (crcBit
    (c ^^^ b.setWidth 32))))))))) 0xFFFFFFFF#32)).toNat

end Sys2Proof.Machine
end

