-- ==== Sys2Proof/Machine/Maps.lean ====
section
/-! DEFINITION. Sparse tables: a list of (key, value) pairs with the keys strictly rising, in which no entry holds the
value that an unlisted key reads as. Equal tables are equal lists. -/

namespace Sys2Proof.Machine

/-- A sparse table from numbers to `α`. -/
abbrev NMap (α : Type) := List (Nat × α)

/-- The entry at a key, if one is listed. -/
def NMap.look? {α : Type} (m : NMap α) (k : Nat) : Option α :=
  match m with
  | [] => none
  | (k', v) :: r => if k = k' then some v else NMap.look? r k

/-- The value at a key; an unlisted key reads as `d`. -/
def NMap.get {α : Type} (d : α) (m : NMap α) (k : Nat) : α := (m.look? k).getD d

/-- The table without the key. -/
def NMap.erase {α : Type} (m : NMap α) (k : Nat) : NMap α :=
  match m with
  | [] => []
  | (k', v) :: r => if k = k' then NMap.erase r k else (k', v) :: NMap.erase r k

/-- The table with the entry `(k, v)` in its place in key order. -/
def NMap.insert {α : Type} (m : NMap α) (k : Nat) (v : α) : NMap α :=
  match m with
  | [] => [(k, v)]
  | (k', v') :: r =>
    if k < k' then (k, v) :: (k', v') :: r
    else if k = k' then (k, v) :: r
    else (k', v') :: NMap.insert r k v

/-- The table with `v` at `k`; writing the value `d` of an unlisted key removes the entry. -/
def NMap.put {α : Type} [DecidableEq α] (d : α) (m : NMap α) (k : Nat) (v : α) : NMap α :=
  if v = d then m.erase k else m.insert k v

/-- The canonical form: keys strictly rising, no entry equal to `d`. -/
def NMap.wf {α : Type} [DecidableEq α] (d : α) (m : NMap α) : Bool :=
  (m.map (·.1)).Pairwise (· < ·) && m.all (fun e => decide (e.2 ≠ d))

/-- Write the values of consecutive keys from `k` on. -/
def NMap.putList {α : Type} [DecidableEq α] (d : α) (m : NMap α) (k : Nat) : List α → NMap α
  | [] => m
  | v :: vs => NMap.putList d (m.put d k v) (k + 1) vs

/-- The values of `n` consecutive keys from `k` on. -/
def NMap.getList {α : Type} (d : α) (m : NMap α) (k : Nat) : Nat → List α
  | 0 => []
  | n + 1 => m.get d k :: NMap.getList d m (k + 1) n

/-- Apply a change to every listed value of a table, keeping its form. -/
def NMap.mapVal {α : Type} [DecidableEq α] (d : α) (f : α → α) (m : NMap α) : NMap α :=
  (m.map (fun e => (e.1, f e.2))).filter (fun e => decide (e.2 ≠ d))

/-- Entry `i` of a fixed array held as a list; past the end it reads as `d`. -/
def listGet {α : Type} (d : α) (l : List α) (i : Nat) : α := l.getD i d

end Sys2Proof.Machine
end

