-- ==== Sys2Proof/Machine/State.lean ====
section
/-! DEFINITION. The state of the GV-940: every register, table, queue, engine, timer and pin the manual gives it, as
plain data, and the queue of commands that wait. One structure per chapter; `State` at the end holds them all. -/

namespace Sys2Proof.Machine

/-! ### Host ports, functions, mailboxes (02) -/

/-- One entry of a port's binding table, FN_BIND_n or FN_VFBIND_k (R58). -/
structure BindEntry where
  valid : Bool := false
  twin : Bool := false
  owner : Bool := false
  tenant : Nat := 0
  pasid : Nat := 0
  deriving DecidableEq, Repr

/-- MBX_STATUS.STATE (R47, R48). -/
inductive MbxState | idle | busy | done
  deriving DecidableEq, Repr

/-- One binding's 4 KiB mailbox page (R47 to R49). -/
structure Mailbox where
  /-- MBX_CMD: CODE, TAG, OPLEN as last written. -/
  code : Nat := 0
  tag : Nat := 0
  oplen : Nat := 0
  /-- MBX_CTRL.IRQ_EN. -/
  irqEn : Bool := false
  /-- The operand area, 2,048 bytes by offset from 0x100. -/
  opArea : NMap Byte := []
  /-- MBX_STATUS: TAG, STATUS, APPROVED, ABORTED, STATE; RESLEN is the length of `result`. -/
  stTag : Nat := 0
  status : Nat := 0
  approved : Bool := false
  aborted : Bool := false
  state : MbxState := .idle
  /-- The result area. -/
  result : Bytes := []
  /-- MBX_SEQ.DONE_COUNT. -/
  doneCount : Nat := 0
  /-- MBX_PROTO. -/
  writeWhileBusy : Bool := false
  goNotIdle : Bool := false
  ackNotDone : Bool := false
  deriving DecidableEq, Repr

/-- Bus Master Enable, Device Control, Device Control 2 and MSI-X state of one PCIe function (R41, R44, R46, R57): `unmasked`
and `pba` list vectors, `table` holds the address and data dwords of the MSI-X table by their offset. -/
structure FuncState where
  bme : Bool := false
  /-- Max Payload Size and Max Read Request Size: 128 B × 2ⁿ; the Completion Timeout Value. -/
  mps : Nat := 0
  mrrs : Nat := 2
  cplValue : Nat := 0
  msixEnable : Bool := false
  funcMask : Bool := false
  unmasked : List Nat := []
  table : NMap Nat := []
  pba : List Nat := []
  deriving DecidableEq, Repr

/-- One host port: HPT_LINK_STATUS, HPT_ERR_STATUS, HPT_ERR_FUNC, its functions (0 is PF0), its binding table and
mailboxes (keys: binding slot n, or 4096 + k for VF k). -/
structure HostPort where
  /-- PERST_x_N asserted. -/
  perst : Bool := false
  dlUp : Bool := false
  rate : Nat := 0
  width : Nat := 0
  flit : Bool := false
  inL1 : Bool := false
  /-- The link has been in L0 since power-up. -/
  everUp : Bool := false
  belowRated : Bool := false
  retrainCount : Nat := 0
  errStatus : BitVec 10 := 0
  errFunc : Nat := 0
  /-- VFs enabled by SR-IOV: VF 1 to VF `numVfs`; 0 with VF Enable clear. -/
  numVfs : Nat := 0
  funcs : NMap FuncState := []
  binds : NMap BindEntry := [(0, { valid := true, owner := true })]
  mailboxes : NMap Mailbox := []
  deriving DecidableEq, Repr

/-! ### Commands in flight (02, 03 R545) -/

/-- A host buffer reference (R39). -/
structure HostRef where
  rsvd : Bool := false
  port : Nat := 0
  len : Nat := 0
  addr : Nat := 0
  deriving DecidableEq, Repr

/-- What a command in flight is doing or waits for (R545). -/
inductive Phase
  | queued      -- handed to the scheduler, not started (R80)
  | started     -- started, or returned to the scheduler by what it waited for
  | order       -- its order waits at the vault arbiter (R175)
  | hostRead    -- waits for host DMA reads
  | engine      -- waits for a seal engine or digest unit
  | arith       -- waits for an arith engine
  | rng         -- waits for the entropy source (R248)
  | nor         -- waits for a NOR record or sector
  | anchor      -- waits for an anchor write
  | quorum      -- waits for peers' answers
  | peer        -- waits for a peer's data
  | quiesce     -- waits for a tenant, tree or engine to drain
  | ward        -- waits for a ward
  | card        -- waits for a card
  | hush        -- waits for the HUSH condition
  | engineTest  -- waits for engine tests
  | ordering    -- waits for the cross-port ordering read (R43)
  | replay      -- AMB_REPLAY runs
  | fuse        -- waits for a fuse blow
  deriving DecidableEq, Repr

/-- The inputs of a signature: SCHEME, SIZE and PREHASH, the keys delivered (R217), context and message. -/
structure SignReq where
  scheme : Nat
  size : Nat := 0
  prehash : Bool := false
  priv : Bytes := []
  pub : Bytes := []
  ctx : Bytes := []
  msg : Bytes := []
  deriving DecidableEq, Repr

/-- What a command asks of an arith engine (R211, R216, R233): the operation and its use of the operand memory, the
attempt, whether an earlier job of the command was rerun, the host buffers it reads once it is placed, a signature's inputs. -/
structure ArithReq where
  op : Nat
  slots : Nat := 0
  words : Nat := 0
  attempt : Nat := 1
  retried : Bool := false
  reads : List HostRef := []
  sign : Option SignReq := none
  deriving DecidableEq, Repr

/-- A command in flight: fetched from a submission ring, or started by GO, and not ended (R256). -/
structure Job where
  origin : Origin
  bind : BindId := { port := .a, vf := false, n := 0 }
  code : Nat := 0
  tag : Nat := 0
  /-- The operand bytes latched (R48, R73). -/
  ops : Bytes := []
  owner : Bool := false
  tenant : Nat := 0
  cls : Nat := 1
  fence : Bool := false
  result : HostRef := {}
  phase : Phase := .queued
  abortReq : Bool := false
  committed : Bool := false
  /-- The MARK of the configuration record it waits for is its commit point. -/
  markCommits : Bool := false
  /-- The completion is discarded (R55 step 4, R66). -/
  discard : Bool := false
  /-- Buffers whose host reads are outstanding, in order; the bytes read so far; the reads' results by buffer. -/
  reads : List HostRef := []
  data : List Bytes := []
  /-- A byte was written through the port that does not carry the completion (R43). -/
  wroteOther : Bool := false
  /-- Device time of the doorbell or GO; the time the outstanding read was issued; OUT_OF_BOUND (R82, R83). -/
  arrival : Nat := 0
  readSince : Nat := 0
  oob : Bool := false
  /-- The front read of `reads` waits for a non-posted tag of its port (R84). -/
  unsent : Bool := false
  /-- The phase entered when the last outstanding read returns (R545). -/
  afterReads : Phase := .started
  /-- Progress of a command of several steps, and what it keeps meanwhile. -/
  stage : Nat := 0
  args : List Nat := []
  keep : List Bytes := []
  /-- Slots whose keys an engine holds for the command (R160); what it is bound to at the vault arbiter, with the
  version and state seen (R175); the code of the destroy order whose revoke it received (R161). -/
  holds : List Nat := []
  names : List (Nat × Nat) := []
  revokedBy : Option Nat := none
  /-- The slot and half reserved for its key (R544). -/
  target : Option (Nat × Nat) := none
  /-- A colour other than its submitter's that a fault inside the device put on its orders (R158). -/
  badColour : Option Nat := none
  /-- The number of its order at the vault arbiter, from 1; 0 while none is taken (R175). The code of an earlier order that has
  changed what it is bound to (R176). -/
  seq : Nat := 0
  overtaken : Option Nat := none
  arith : Option ArithReq := none
  /-- The cluster in whose class 0 lane the command waits (R119). -/
  lane : Option Nat := none
  /-- Final status, result and APPROVED, held while the ordering read of R43 is outstanding. -/
  final : Option (Nat × Bytes × Bool) := none
  deriving DecidableEq, Repr

/-- What the device sends out, in order of sending. -/
inductive Msg
  /-- A posted write, in packets of at most `mps` bytes of payload (R41). -/
  | hostWrite (b : BindId) (addr : Nat) (data : Bytes) (relaxed : Bool) (mps : Nat)
  /-- A read of a buffer, in requests of at most `mrrs` bytes (R41). -/
  | hostRead (b : BindId) (addr len mrrs : Nat)
  | msix (port : PortId) (func vector : Nat)
  | frame (link : Nat) (f : Frame)
  | mctp (conn : MgmtConn) (msgType : Nat) (bs : Bytes)
  | spi (ward : Nat) (bs : Bytes)
  /-- The guard erases a block, or programs a page, of a ward's working or golden flash: WREN first, WIP polled after (R366). -/
  | flashErase (ward : Nat) (golden : Bool) (op addr : Nat)
  | flashProgram (ward : Nat) (golden : Bool) (addr : Nat) (page : Bytes)
  /-- The guard sets the quad-enable bit in the way that the table's requirement names (R352). -/
  | flashQuad (ward requirement : Nat)
  /-- The flash side of a refused command: FCS_N rises after so many cycles (R351). -/
  | spiCut (ward op cycles : Nat)
  | wardData (ward : Nat) (bs : Bytes)
  | card (bus : Nat) (bs : Bytes)
  | readData (v : Nat)
  | aer (port : PortId) (func : Nat)
  | tap (bs : Bytes)
  deriving DecidableEq, Repr

/-! ### Queue pairs and the scheduler (03) -/

/-- QP_CTX3.STATE (R66). -/
inductive QpState | free | active | stopped | faulted
  deriving DecidableEq, Repr

/-- A tail write whose entries are not all fetched (R82, R83): the SQ_TAIL it set, its device time, whether it came in HUSH,
whether a condition of R82 failed since, whether an entry fetched was counted as its arrival. -/
structure Arrival where
  tail : Nat
  time : Nat
  hush : Bool := false
  oob : Bool := false
  taken : Bool := false
  deriving DecidableEq, Repr

/-- A queue pair context (R61 to R78), shown in QP_CTX0 to QP_CTX3. -/
structure QueuePair where
  state : QpState := .free
  bind : BindId := { port := .a, vf := false, n := 0 }
  localIndex : Nat := 0
  cls : Nat := 0
  sqLog2 : Nat := 0
  cqLog2 : Nat := 0
  sqBase : Nat := 0
  cqBase : Nat := 0
  vector : Nat := 0
  coalCount : Nat := 0
  coalTime : Nat := 0
  sqHead : Nat := 0
  sqTail : Nat := 0
  cqHead : Nat := 0
  cqTail : Nat := 0
  cqPhase : Bool := false
  dbBad : Nat := 0
  tenant : Nat := 0
  /-- The header kept of an entry whose slots SQ_TAIL does not all show yet (R71). -/
  keptHeader : Option Bytes := none
  /-- Completions posted since the last interrupt, and when the first of them was (R78). -/
  uncoalesced : Nat := 0
  coalSince : Nat := 0
  /-- Number given to the next entry fetched. -/
  nextSeq : Nat := 0
  /-- Tail writes not yet fetched past, oldest first. -/
  arrivals : List Arrival := []
  /-- Device time at which the outstanding SQ read was issued (R62). -/
  reading : Option Nat := none
  /-- The next entry was held back by the Diamond allowance (R83). -/
  held : Bool := false
  deriving DecidableEq, Repr

/-- A merge point of the class 0 path (R85). -/
inductive MergePoint
  | doorbells
  | vault
  | frontier
  | keys (cluster : Nat)
  | work (cluster : Nat)
  | dmaWrites (p : PortId)
  | dmaReads (p : PortId)
  | completions
  | interrupts
  deriving DecidableEq, Repr

/-- The scheduler's deficit counters, by class and by 4097 × class + participant (4096 is the owner) (R79, R80). -/
structure Scheduler where
  classDeficit : NMap Int := []
  tenantDeficit : NMap Int := []
  /-- The submission ring or mailbox last served of each class and participant (R80). -/
  turn : NMap Nat := []
  /-- The dispatchers at work: number, 0 and 1 for class 0 only, and the command each acts on (R84, R545). -/
  dispatchers : List (Nat × Origin) := []
  /-- Class 0 messages that hold a credit at a merge point (R85). -/
  credits : List (MergePoint × Origin) := []
  /-- The vault arbiter: orders taken so far, and the orders that wait, in the order received (R175). -/
  orderSeq : Nat := 0
  orders : List Origin := []
  /-- Times of recent class 0 arrivals, newest first (R82). -/
  arrivals : List Nat := []
  deriving DecidableEq, Repr

/-! ### Sealing (04) -/

/-- State of a manifest handle (R115). -/
inductive ManState | free | opened | closing
  deriving DecidableEq, Repr

/-- A manifest handle (R114 to R117): positions filled (SHA-384 of each record) and the header kept after the commit
point of MANIFEST_CLOSE. -/
structure Manifest where
  state : ManState := .free
  tenant : Nat := 0
  id : Nat := 0
  p384Slot : Nat := 0xFFFF
  mldsaSlot : Nat := 0xFFFF
  capacity : Nat := 0
  /-- HIGH_POS: positions assigned. -/
  highPos : Nat := 0
  entries : NMap Bytes := []
  /-- The running MANIFEST_CLOSE. -/
  closer : Option Origin := none
  abandon : Bool := false
  header : Option Bytes := none
  deriving DecidableEq, Repr

/-! ### Seal engines, digest units, measurement registers (05) -/

/-- STATE of a seal or arith engine (R129, R234). -/
inductive EngState | inService | draining | quarantined | testing | retired
  deriving DecidableEq, Repr

/-- A work order of a seal engine: the job, the attempt (R126), the nonce (R91), the key delivered. -/
structure SealWork where
  origin : Origin
  attempt : Nat := 1
  nonce : Bytes := []
  dk : Bytes := []
  tree : Nat := 0
  extent : Nat := 0
  cls : Nat := 1
  /-- The slice boundary at which it was parked last (R120, R121). -/
  slice : Nat := 0
  deriving DecidableEq, Repr

/-- A seal engine (R118 to R131). -/
structure SealEngine where
  state : EngState := .inService
  /-- ROLE is RESERVED. -/
  reserved : Bool := false
  /-- It takes the RESERVED role when its job ends (R123). -/
  takesRole : Bool := false
  work : Option SealWork := none
  /-- A class 1 to 3 job parked at a slice boundary (R121). -/
  parked : Option SealWork := none
  failCount : Nat := 0
  lastCause : Nat := 0
  readmitFails : Nat := 0
  deriving DecidableEq, Repr

/-- A job context of a digest unit (R132 to R134). -/
structure DigestCtx where
  origin : Origin
  alg : Nat := 0
  declLen : Nat := 0
  yielded : Bool := false
  ward : Option Nat := none
  deriving DecidableEq, Repr

/-- A measurement register (R137, R138). -/
structure MeasReg where
  sha384 : Bytes := []
  sha3 : Bytes := []
  count : Nat := 0
  deriving DecidableEq, Repr

/-- A measurement log entry (R142). -/
structure MeasLogEntry where
  index : Nat
  source : Nat
  trunc : Bool := false
  seq : Nat
  eventType : Nat
  d384 : Bytes
  d512 : Bytes
  deriving DecidableEq, Repr

/-! ### The key vault (06) -/

/-- What a slot holds of a key record in sealed HBM (R150): its handle, the length of the bytes stored, their SHA-384. -/
structure KeyRecord where
  handle : Nat
  len : Nat
  hash : Bytes := []
  deriving DecidableEq, Repr

/-- One half of a slot: its material (the active words or the extended record it names), its attribute word (R147)
and its public-key record (R149). -/
structure SlotHalf where
  /-- The inline material; of slots 0 and 1 the material and public key that the identity store holds (R152). -/
  material : Bytes := []
  pubKey : Bytes := []
  /-- The extended key record and the public-key record in sealed HBM (R149, R150). -/
  record : Option KeyRecord := none
  pubRecord : Option KeyRecord := none
  /-- COLOUR, DEST, USAGE, CLASS, SIZE, ORIGIN, EXPORTABLE, LOCKED, PENDING, ACTIVE, EXTENDED, PROVEN, VERSION. -/
  colour : Nat := 0
  dest : Nat := 0
  usage : Nat := 0
  cls : Nat := 0
  size : Nat := 0
  origin : Nat := 0
  exportable : Bool := false
  locked : Bool := false
  proven : Bool := false
  version : Nat := 0
  /-- ACTIVE: cleared when the extended record fails its check (R150). -/
  act : Bool := true
  deriving DecidableEq, Repr

/-- A vault slot (R145): the active half, the pending half, the half the pointer names, and halves reserved for a
running order (R544). -/
structure Slot where
  active : Option SlotHalf := none
  pending : Option SlotHalf := none
  ptr : Bool := false
  resActive : Option Origin := none
  resPending : Option Origin := none
  /-- Code of the order that last changed the slot's VERSION or state, which an event of E_SUPERSEDED names (R177, R459), and
  how often that happened (R175). -/
  lastOrder : Nat := 0
  changes : Nat := 0
  deriving DecidableEq, Repr

/-! ### The Agate unit and the anchor journal (07) -/

/-- State of a tree (R189). -/
inductive TreeState | free | unloaded | ready | stale | fault
  deriving DecidableEq, Repr

/-- A frontier node: depth, prefix, key (R180). -/
structure Node where
  depth : Nat
  pfx : Nat
  key : Bytes
  deriving DecidableEq, Repr

/-- A range of extent indices (R204). -/
structure IdxRange where
  first : Nat
  count : Nat
  /-- Entered by a STAGE_NOTICE (R437). -/
  noticed : Bool := false
  deriving DecidableEq, Repr

/-- A tree (R188, R189): epoch e of tenant t is tree 16 t + e. -/
structure Tree where
  state : TreeState := .free
  uid : Nat := 0
  rootSlot : Nat := 0
  frontier : List Node := []
  /-- The frontier pages that hold the nodes, in order (R186). -/
  pages : List Nat := []
  staged : List IdxRange := []
  /-- Index of the last derived leaf kept in the path cache (R182). -/
  pathCache : Option Nat := none
  deriving DecidableEq, Repr

/-- The 64 bytes of one journal position (R196): 63 body bytes and MARK. -/
structure Anchor where
  flags : Nat := 0
  epoch : Nat := 0
  treeNum : Nat := 0
  batch : Nat := 0
  uid : Nat := 0
  root : Bytes := []
  jseq : Nat := 0
  mac : Bytes := []
  mark : Nat := 0xFF
  deriving DecidableEq, Repr

/-- Why an anchor is written (R198, R205). -/
inductive AnchorPurpose | create | commit | tombstone | replica | carry
  deriving DecidableEq, Repr

/-- An anchor write (R198, R205): it waits for a token, then for its contents (`ready`), then for its position; its body
and then its MARK are programmed. `attempt` 2: both attempts failed, and it waits for its retry (R267). -/
structure AnchorWrite where
  purpose : AnchorPurpose
  origin : Option Origin := none
  anchor : Anchor := {}
  token : Bool := false
  ready : Bool := false
  attempt : Nat := 0
  pos : Option Nat := none
  marking : Bool := false
  tree : Nat := 0
  /-- The number of its order at the vault arbiter (R205). -/
  seq : Nat := 0
  /-- The new frontier of a commit or a creation, and the pages it holds (R186, R207). -/
  frontier : List Node := []
  pages : List Nat := []
  /-- The originator of a replica: ID_HASH and address; the frame it came in (R431, R433). -/
  source : Nat × Nat := (0, 0)
  frame : Option Frame := none
  deriving DecidableEq, Repr

/-- The Agate unit and its journal (07). -/
structure Agate where
  trees : NMap Tree := []
  /-- Journal positions that are not erased. -/
  journal : NMap Anchor := []
  /-- The on-chip copy of every tree's anchor, by TREE_UID (R197). -/
  anchors : NMap Anchor := []
  head : Nat := 0
  jseq : Nat := 0
  tokens : Nat := 32
  writes : List AnchorWrite := []
  deriving DecidableEq, Repr

/-! ### Arith engines (08) -/

/-- The job an arith engine runs. -/
structure ArithWork where
  origin : Origin
  /-- ARI_ENG_INFO.OPERATION. -/
  operation : Nat := 0
  slots : Nat := 0
  words : Nat := 0
  deriving DecidableEq, Repr

/-- An arith engine (R210 to R235). -/
structure ArithEngine where
  state : EngState := .inService
  work : Option ArithWork := none
  /-- The operand memory, 4,096 words of 72 bits, by word; the operand slot table, base and length in words (R211). -/
  mem : NMap Nat := []
  table : List (Nat × Nat) := []
  /-- The return key, the key registers, the states of the SHA-512 and Keccak cores, the sequencer's step (R210, R218, R220). -/
  rk : Bytes := []
  keys : Bytes := []
  sha : Bytes := []
  keccak : Bytes := []
  step : Nat := 0
  invStrikes : Nat := 0
  goodJobs : Nat := 0
  failCount : Nat := 0
  lastCause : Nat := 0
  readmitFails : Nat := 0
  deriving DecidableEq, Repr

/-! ### Random numbers (09) -/

/-- State of a noise source (R237). -/
inductive SrcState | healthy | offline | retired
  deriving DecidableEq, Repr

/-- The running state of a source's health tests (R236): the last bit and how often it was repeated, the position in the window
of the adaptive proportion test, the window's first bit and its count. -/
structure HealthTest where
  last : Bool := false
  run : Nat := 0
  pos : Nat := 0
  first : Bool := false
  count : Nat := 0
  deriving DecidableEq, Repr

/-- A noise source. -/
structure NoiseSource where
  state : SrcState := .offline
  fails : Nat := 0
  retestDue : Bool := false
  /-- The start-up test that follows power-up of VAULT or an exit from HUSH has not ended (R237). -/
  testing : Bool := false
  health : HealthTest := {}
  deriving DecidableEq, Repr

/-- A DRBG instance (R242 to R247). -/
structure Drbg where
  inst : Bool := false
  /-- It instantiates again when a block is at hand (R244, R251). -/
  wanted : Bool := false
  requests : Nat := 0
  reseeds : Nat := 0
  /-- The working state, Key and V (SP 800-90A). -/
  kv : BitVec 384 := 0
  deriving DecidableEq, Repr

/-! ### Tenancy (10) -/

/-- TEN_INFO.STATE (R255). -/
inductive TenState | free | active | quiescing | quiesced
  deriving DecidableEq, Repr

/-- The PENDING mark of a tenant record (R253). -/
inductive PendingMark | none | reset | destroy
  deriving DecidableEq, Repr

/-- A grant block (R259). -/
structure Grant where
  qpQuota : Nat := 0
  slotQuota : Nat := 0
  treeQuota : Nat := 0
  dmdAllow : Nat := 0
  sealWeight : Nat := 1
  arithShare : Nat := 1
  arithMax : Nat := 1
  spoofLimit : Nat := 0
  opRate : Nat := 0
  opDepth : Nat := 0
  byteRate : Nat := 0
  byteDepth : Nat := 0
  deriving DecidableEq, Repr

/-- A tenant context (R252). Balances: operations, and bytes. -/
structure Tenant where
  state : TenState := .free
  grant : Grant := {}
  primary : Option BindId := Option.none
  twin : Option BindId := Option.none
  /-- The PASIDs of the primary and the twin binding (R30, R263). -/
  pasid : Nat := 0
  twinPasid : Nat := 0
  rootSlot : Nat := 0
  opBalance : Int := 0
  byteBalance : Int := 0
  spoofCount : Nat := 0
  jobsEnded : Nat := 0
  jobsAborted : Nat := 0
  pendingMark : PendingMark := PendingMark.none
  deriving DecidableEq, Repr

/-- A tree attachment kept in a tenant record (R253): epoch, TREE_UID, attribute word and tree root key. -/
structure Attachment where
  epoch : Nat
  uid : Nat
  slot : Nat
  half : SlotHalf
  deriving DecidableEq, Repr

/-! ### Records of the NOR configuration area (21 R509) -/

/-- A configuration record (R509): TYPE, KEY, SEQ, CR_KCV, the ciphertext of its BODY and its tag; its first page in the
area and its pages, and MARK valid. `gone` is the TYPE that a tombstone deletes, which the header does not hold. -/
structure CfgRecord where
  ty : Nat
  key : Nat
  seq : Nat
  crKcv : Bytes := []
  cipher : Bytes := []
  tag : Bytes := []
  gone : Nat := 0
  page : Nat := 0
  pages : Nat := 1
  valid : Bool := true
  deriving DecidableEq, Repr

/-! ### Modes and power (11) -/

/-- The operating mode (R277). -/
inductive Mode | startup | service | hush | replay | lockdown | dormant
  deriving DecidableEq, Repr

/-- What waits for the ACK of a finished command (R288, R300, R492). -/
inductive AfterDone | dormant | restart
  deriving DecidableEq, Repr

/-- The Moonstone domain (R282, R290) and the power state. -/
structure Moonstone where
  salt : Option Bytes := none
  opTime : Nat := 0
  powerCycles : Nat := 0
  imageValid : Bool := false
  dseq : Nat := 0
  imageDigest : Bytes := []
  saltLost : Bool := false
  /-- MOONSTONE runs from VBAT (R281). -/
  onVbat : Bool := false
  /-- Entries left in the recorder's FIFO at the entry to DORMANT (R469). -/
  fifoLost : Nat := 0
  /-- Wake sources latched before MODE read DORMANT (R294), as PWR_WAKE_CAUSE bits. -/
  wakeLatched : Nat := 0
  /-- The node's ID_HASH, for the keep-alive frames (R418). -/
  idHash : Nat := 0
  /-- Times of the SWL wakes honoured in the last 3,600 s (R293). -/
  swlWakes : List Nat := []
  /-- SWL_n ran at keep-alive rate during the last HUSH or DORMANT. -/
  keepaliveUp : Nat := 0
  /-- VDD_CORE and VDD_AON good. -/
  corePower : Bool := true
  aonPower : Bool := true
  /-- A deferral until ACK or DONE_TIMEOUT, with the mailbox it belongs to. -/
  deferred : Option (BindId × AfterDone) := none
  /-- From the commit point of PWR_DORMANT on, other mailboxes end with E_MODE (R287). -/
  dormantTaken : Bool := false
  /-- Bytes of the Amber staging buffer used in HUSH (R286). -/
  staging : Nat := 0
  deriving DecidableEq, Repr

/-! ### Start-up, boot and lifecycle (12) -/

/-- The antifuse array (R301, R302). -/
structure Fuses where
  deviceId : Nat := 0
  vkhP384 : List Bytes := []
  vkhMldsa : List Bytes := []
  keyRevoke : Nat := 0
  floor : Nat := 0
  /-- Consecutive blown bits of SVN_COUNTER. -/
  svn : Nat := 0
  options : Nat := 0
  deriving DecidableEq, Repr

/-- A copy of the options and trim sector (R303). -/
structure TrimCopy where
  valid : Bool := true
  seq : Nat := 0
  trims : List Nat := []
  opts : List Nat := []
  deriving DecidableEq, Repr

/-- A copy of the PUF helper record (R305). -/
structure PufCopy where
  crcGood : Bool := false
  seq : Nat := 0
  offset : Bytes := []
  check : Bytes := []
  deriving DecidableEq, Repr

/-- State of a Quartz image (R309, R456). -/
inductive ImageState | invalid | valid | staged
  deriving DecidableEq, Repr

/-- A Quartz image partition; its bytes are the NOR partition's. -/
structure QImage where
  state : ImageState := .invalid
  deriving DecidableEq, Repr

/-- What BOOT_STATUS, BOOT_PUF and BOOT_SELFTEST show, the trim and PUF copies, the images. -/
structure Boot where
  step : Nat := 1
  code : Nat := 0
  firstCode : Nat := 0
  fallback : Bool := false
  /-- The running image is B. -/
  imageB : Bool := false
  gateOpen : Bool := false
  halted : Bool := false
  /-- The halt loop of R316 runs. -/
  haltLoop : Bool := false
  loadDone : Bool := false
  trimOneBad : Bool := false
  trimCopyB : Bool := false
  trimA : TrimCopy := {}
  trimB : TrimCopy := {}
  /-- The shadow registers of trims and options, 72-bit words (R303). -/
  shadow : List Nat := []
  selftestOk : Bool := false
  routeFailed : Nat := 0
  dguFailed : Nat := 0
  pufA : PufCopy := {}
  pufB : PufCopy := {}
  pufAbsent : Bool := false
  reenrolled : Bool := false
  pufOther : Bool := false
  corrected : Nat := 0
  helperSeq : Nat := 0
  /-- The identity certificates and their intermediates, P-384 and ML-DSA-87 of each (R449). -/
  certs : List Bytes := []
  imgA : QImage := {}
  imgB : QImage := {}
  /-- What the start under way brought. -/
  input : Option StartInput := none
  deriving DecidableEq, Repr

/-- A lifecycle copy: the 128 bits it reads as (R318), or a partial copy, whose reads differ (R320). -/
inductive LcsCopy
  | word (bits : BitVec 128)
  | part
  deriving DecidableEq, Repr

/-- The codeword of a state code (R318): all ones but for the 24-bit fields of the transitions made. -/
def codeword (k : Nat) : BitVec 128 := BitVec.allOnes 128 <<< (24 * k)

/-- A wipe that a transition owes (R322). -/
inductive Wipe | journal | wardsAndConfig | helpers | everything
  deriving DecidableEq, Repr

/-- Lifecycle and debug (R318 to R328). -/
structure Lcs where
  state : Nat := 0
  copyA : LcsCopy := .word (codeword 0)
  copyB : LcsCopy := .word (codeword 0)
  wipes : List Wipe := []
  busy : Bool := false
  bCompleted : Bool := false
  challenge : Option Bytes := none
  vholdMv : Nat := 0
  vholdOk : Bool := false
  unlocked : Bool := false
  authFails : Nat := 0
  lastStatus : Nat := 0
  deriving DecidableEq, Repr

/-- Output pins driven by hardware: HALT_N, BOOT_CODE, THERMTRIP_N (true is high). ALERT_N is a function of QTZ_ALERT. -/
structure Pins where
  haltN : Bool := true
  bootCode : Nat := 0
  thermtripN : Bool := true
  deriving DecidableEq, Repr


/-! ### Package memories (21) -/

/-- What a NOR program or erase in progress is for (R503, R507): a configuration record's body or MARK (by SEQ) with the
command that waits for it, a firmware program or erase, a step of a sector's refresh (R513), a program or erase that a
command waits for. -/
inductive NorJob
  | cfg (seq : Nat) (waiter : Option Origin) (mark second : Bool)
  | fwProgram (addr : Nat) (data : Bytes)
  | fwErase (sector : Nat)
  | refresh (sector spare step : Nat) (firmware : Bool)
  | command (o : Origin) (sector : Nat) (erase : Bool)
  deriving DecidableEq, Repr

/-- A NOR operation under way in a bank. -/
structure NorOp where
  bank : Nat
  job : NorJob
  suspended : Bool := false
  deriving DecidableEq, Repr

/-- An entry of the refresh log (R514): 1 PASS_BEGIN, 2 COPY_DONE, 3 SECTOR_DONE, 4 PASS_END, 5 AGE, 6 REMAP. -/
structure RefreshEntry where
  kind : Nat
  sector : Nat := 0
  spare : Nat := 0
  value : Nat := 0
  deriving DecidableEq, Repr

/-- The NOR die and its controller (R500 to R514). `raw` holds programmed bytes of the partitions kept as bytes; an
unlisted byte reads 0xFF (R501). -/
structure Nor where
  raw : NMap Byte := []
  ops : List NorOp := []
  /-- Sectors whose erase power interrupted (R505). -/
  broken : List Nat := []
  /-- Remapped sectors and the spares that serve them (R508). -/
  remap : List (Nat × Nat) := []
  remapFull : Bool := false
  /-- Spare sectors that do not read fully erased. -/
  dirty : List Nat := []
  /-- Status of the last firmware command. -/
  last : Nat := 0
  /-- Quartz SRAM behind NVM_SRC. -/
  sram : NMap Byte := []
  /-- Head of the configuration area, in pages; first page of its oldest sector in use; SEQ of the next record. -/
  cfgHead : Nat := 0
  cfgTail : Nat := 0
  cfgSeq : Nat := 1
  /-- Refresh (R511 to R514): EQ_HOURS in 1/3,600,000 h, passes, the pass under way, the spare pointer, pending copies. -/
  eqAge : Nat := 0
  passes : Nat := 0
  passActive : Bool := false
  passDue : Bool := false
  nextSector : Nat := 0
  spare : Nat := 6168
  copies : List (Nat × Nat) := []
  log : List RefreshEntry := []
  /-- Seconds of operation since the last AGE entry. -/
  ageSecs : Nat := 0
  /-- LIFE in 1/36,000 h, and OVER_RATED (R539). -/
  life : Nat := 0
  overRated : Bool := false
  deriving DecidableEq, Repr

/-- A data line of the stack with its metadata word (R495): ciphertext, MAC, colour tag. -/
structure HbmLine where
  cipher : Bytes := []
  mac : Nat := 0
  tag : Nat := 0
  deriving DecidableEq, Repr

/-- A leaf node of the counter tree (R496). -/
structure LeafNode where
  major : Nat := 0
  minors : NMap Nat := []
  mac : Nat := 0
  deriving DecidableEq, Repr

/-- An upper node of the counter tree (R496): the counters of the nodes below it. -/
structure UpperNode where
  counters : NMap Nat := []
  mac : Nat := 0
  deriving DecidableEq, Repr

/-- Lines allocated to one holder, with their colour tag (R272, R498). -/
structure LineRun where
  first : Nat
  count : Nat
  tag : Nat
  deriving DecidableEq, Repr

/-- The HBM stack and MEM (R494 to R499). `lines` lists the data lines written since the stack was trained or the line was
freed; `nodes` lists the upper nodes by 2²⁰ × level + index. -/
structure Mem where
  trained : Bool := false
  selfRefresh : Bool := false
  /-- The line-sealing keys K_ENC and K_MAC (R494). -/
  keys : Option (Bytes × Bytes) := none
  lines : NMap HbmLine := []
  leaves : NMap LeafNode := []
  nodes : NMap UpperNode := []
  /-- The root register: the counters of the nodes of the seventh upper level. -/
  root : NMap Nat := []
  runs : List LineRun := []
  /-- Poisoned lines, as ranges (R497): first line and count. -/
  poisoned : List (Nat × Nat) := []
  deriving DecidableEq, Repr

/-! ### Swivawa links (16) -/

/-- State of a link (R414), in the order of SWL_INFO.STATE. -/
inductive LinkState
  | disabled | down | training | trained | handshake | active | degraded | quarantined | peerDormant | loopback
  deriving DecidableEq, Repr

/-- A handshake in progress on a link (R406, R408): the local ephemeral keys, the messages INIT and RESP, the fragments
of the message being received, and the steps passed. -/
structure Handshake where
  initiator : Bool := false
  x448 : Bytes := []
  kem : Bytes := []
  init : Bytes := []
  resp : Bytes := []
  okm : Bytes := []
  partMsg : Nat := 0
  parts : List Bytes := []
  /-- The partner's AUTH was accepted; the own AUTH was sent. -/
  accepted : Bool := false
  authSent : Bool := false
  level : Nat := 0
  /-- A renewal on a live session (R412). -/
  renewal : Bool := false
  /-- LSEQ last sent and last accepted under the new keys. -/
  tx : Nat := 0
  rx : Nat := 0
  deriving DecidableEq, Repr

/-- A Swivawa link (R397 to R419). -/
structure Link where
  state : LinkState := .disabled
  /-- The state a link with a held session resumes after training. -/
  former : LinkState := .down
  signal : Bool := false
  /-- Fast retraining runs (R400); the training of quarantine runs (R414). -/
  fast : Bool := false
  retraining : Bool := false
  err : Nat := 0
  goodBeacons : Nat := 0
  /-- The training that follows quarantine has ended (R414). -/
  quarTrained : Bool := false
  hsFails : Nat := 0
  /-- The delay after a failed handshake runs (R410). -/
  hsWait : Bool := false
  quarantines : Nat := 0
  /-- From the partner's last good beacon: ID_HASH, LINK_STATE, address, FLAGS. -/
  partner : Nat := 0
  partnerState : Nat := 0
  partnerAddr : Nat := 0
  partnerKcv : Nat := 0
  partnerUnkeyed : Bool := false
  /-- 0 no session, 1 IDENTITY, 2 DOMAIN. -/
  level : Nat := 0
  keyPhase : Bool := false
  keepAlive : Bool := false
  /-- RATE frames: a request sent and not answered; the partner asks for KEEP_ALIVE. -/
  rateAsked : Bool := false
  /-- The device itself asks for KEEP_ALIVE. -/
  ownKa : Bool := false
  partnerKa : Bool := false
  txLseq : Nat := 0
  rxLseq : Nat := 0
  /-- The previous receive key while the route engine keeps it; the last LSEQ accepted under it (R412). -/
  oldKey : Option Bytes := none
  oldRxLseq : Nat := 0
  /-- Device time at which the keys took effect. -/
  keysSince : Nat := 0
  hs : Option Handshake := none
  /-- The partner's certified P-384 and ML-DSA-87 keys from the handshake (R410, R441). -/
  partnerKeys : Bytes × Bytes := ([], [])
  /-- The fragments of an ENROL_REQ and of an ENROL_RESP that have arrived (R441). -/
  enrolReq : List Bytes := []
  enrolResp : List Bytes := []
  queue : List Frame := []
  /-- Network frames sent last, newest first, by which a DORMANT_NOTICE is answered (R440). -/
  sent : List Frame := []
  /-- Device time of the last DORMANT_NOTICE sent (R418). -/
  noticeAt : Option Nat := none
  bad : Nat := 0
  refused : Nat := 0
  handedBack : Nat := 0
  fecCorrected : Nat := 0
  fecUncorrectable : Nat := 0
  deriving DecidableEq, Repr

/-! ### The custody fabric (17) -/

/-- A link in a link-state advertisement (R424). -/
structure LsaLink where
  partner : Nat
  num : Nat
  state : Nat
  level : Nat
  rate : Nat
  deriving DecidableEq, Repr

/-- An entry of the link-state database, keyed by ORIGIN (R425). -/
structure LsaEntry where
  addr : Nat := 0
  addrState : Nat := 0
  seq : Nat := 0
  kcv : Nat := 0
  unkeyed : Bool := false
  links : List LsaLink := []
  deriving DecidableEq, Repr

/-- A listed peer (R429). -/
structure Peer where
  id : Nat
  naks : Nat := 0
  pushes : Nat := 0
  deriving DecidableEq, Repr

/-- An entry of the replication status log (R435): the LATE_NAK payload, time stamp, STATE, and the peer of the push. -/
structure ReplEntry where
  payload : Bytes
  time : Nat
  state : Nat
  peer : Nat
  deriving DecidableEq, Repr

/-- A class 0 STAGE_NOTICE that waits for its answer (R437). -/
structure Notice where
  tag : Nat
  origin : Origin
  deriving DecidableEq, Repr

/-- A fetch from a peer that waits (R438): the command, its TAG, TYPE, item, the ward, the bytes received. -/
structure Fetch where
  origin : Origin
  tag : Nat
  ty : Nat
  item : Nat
  ward : Nat := 0
  got : Bytes := []
  deriving DecidableEq, Repr

/-- FAB_ENROL in progress (R441): the command, the link, the request sent and the ephemeral private keys. -/
structure Enrol where
  origin : Origin
  link : Nat
  req : Bytes
  x448 : Bytes
  kem : Bytes
  deriving DecidableEq, Repr

/-- A running FAB_REPL_RESEND (R430): the command, the pushes left as (peer index, TREE_UID), the counts sent. -/
structure Resend where
  origin : Origin
  left : List (Nat × Nat)
  anchors : Nat := 0
  roots : Nat := 0
  deriving DecidableEq, Repr

/-- The fabric state of the node. -/
structure Fabric where
  addr : Nat := 0
  /-- 0 none, 1 TENTATIVE, 2 OWNED. -/
  addrState : Nat := 0
  lsaSeq : Nat := 0
  db : NMap LsaEntry := []
  tableFull : Bool := false
  q : Nat := 1
  peers : List Peer := []
  tagSeq : Nat := 0
  /-- TAG of each push sent, with its peer's index (R434, R435). -/
  pushTags : List (Nat × Nat) := []
  replLog : List ReplEntry := []
  overwritten : Nat := 0
  /-- Holder table: TREE_UID and the holder's ID_HASH (R436). -/
  holders : List (Nat × Nat) := []
  /-- Originator of each accepted replica, by TREE_UID: ID_HASH and address (R431). -/
  originators : NMap (Nat × Nat) := []
  notices : List Notice := []
  fetches : List Fetch := []
  grant : Option Nat := none
  enrol : Option Enrol := none
  resend : Option Resend := none
  isolated : Bool := false
  deriving DecidableEq, Repr
/-! ### Tamper (13) -/

/-- The Moonstone monitors (R329 to R338). Histories list the last periods, newest first: true for a mismatch period. -/
structure Tamper where
  meshKey : Bytes := []
  meshHist : List Bool := []
  loop0Hist : List Bool := []
  loop1Hist : List Bool := []
  /-- TMP_STATUS.IN_LEVEL: inputs asserted. -/
  inLevel : Nat := 0
  vbatLow : Bool := false
  vbatAbsent : Bool := false
  xtalFail : Bool := false
  deriving DecidableEq, Repr

/-! ### Wards (14) -/

/-- State of a ward port (R361), in the order of WRD_INFO.STATE. -/
inductive WardState | off | disabled | verifying | recovering | running | failed | held
  deriving DecidableEq, Repr

/-- A ward port (R347 to R370). Its two manifest records are bytes of the NOR partition. -/
structure Ward where
  state : WardState := .off
  /-- WPG taken as high. -/
  wpg : Bool := false
  /-- WPG_SETTLE_MS runs, or a recovery waits for its image. -/
  settling : Bool := false
  rstHigh : Bool := false
  auxHigh : Bool := false
  /-- The manifest of the verification under way, of the filter of a RUNNING ward, or last in force. -/
  manifest : Bytes := []
  addr4 : Bool := false
  /-- 0x66 was the last command. -/
  resetArmed : Bool := false
  sfdp : Bytes := []
  lastStatus : Nat := 0
  verifications : Nat := 0
  /-- Bit n: the n-th MEASURE region failed. -/
  failedRegions : Nat := 0
  modify : Nat := 0
  other : Nat := 0
  blockOp : Nat := 0
  blockValid : Bool := false
  blockAddr : Nat := 0
  /-- The staging area (R367). -/
  staged : Option Bytes := none
  /-- A recovery ran since WPG rose; the last one was automatic. -/
  recovered : Bool := false
  automatic : Bool := false
  holdPending : Bool := false
  /-- Status of a recovery that failed, until the verification that follows it ends. -/
  recStatus : Nat := 0
  /-- The command in progress for the ward (R370). -/
  cmd : Option Origin := none
  /-- SOURCE and TARGET of the recovery under way. -/
  source : Nat := 0
  target : Nat := 0
  deriving DecidableEq, Repr

/-! ### The token port (15) -/

/-- A step of a bus script: the CTP commands of R378 that a command needs. -/
inductive CardOp
  | select (rca : Nat)
  | sleep (rca : Nat)
  | wakeUp (rca : Nat)
  | unlock (pw : Bytes)
  | lock (pw : Bytes)
  | write (block : Nat) (bs : Bytes)
  | read (block : Nat)
  | forceErase
  deriving DecidableEq, Repr

/-- What a bus waits for (R374, R375, R380): a poll, a response of identification, the response, block, CRC status or end
of busy of the command sent, or the unlock delay. -/
inductive BusStep | idle | poll | opCond | allId | relAddr | response | block | crc | busy | delay
  deriving DecidableEq, Repr

/-- A token bus (R371): sockets 0 and 1, and the escrow bus 2. -/
structure TknBus where
  present : Bool := false
  power : Bool := false
  failed : Bool := false
  /-- The identified CIDs in address order: one for a socket, up to eight for the escrow bus. -/
  cids : List Nat := []
  overflow : Bool := false
  step : BusStep := .idle
  polls : Nat := 0
  script : List CardOp := []
  cur : Option CardOp := none
  /-- The last short response, and the last block read. -/
  status : Nat := 0
  data : Bytes := []
  /-- The command that uses the bus. -/
  owner : Option Origin := none
  /-- The last command was 1 UNLOCK or 2 LOCK, whose outcome the next response shows. -/
  lockOp : Nat := 0
  /-- A mark is being resolved: 1 before the card's status, 2 before its block. -/
  resolving : Nat := 0
  /-- Less than 1 s has passed since the last failed UNLOCK (R388). -/
  failWait : Bool := false
  lastStatus : Nat := 0
  resolved : Nat := 0
  deriving DecidableEq, Repr

/-- An UNCERTAIN mark (R383): the bus, the card, whether the write was a LOCK, the block, the DIGEST fields of the old and
the new block, the password of the card and the INDEX enrolled. -/
structure CardMark where
  bus : Nat
  cid : Nat
  lock : Bool
  block : Nat
  oldDigest : Bytes := []
  newDigest : Bytes := []
  hadPassword : Bool := false
  cpw : Bytes := []
  index : Nat := 0
  deriving DecidableEq, Repr

/-- The ceremony store and TKN_CEREMONY (R389 to R394). STATE: 0 IDLE, 1 GATHERING, 2 WRITING, 3 DONE. -/
structure Ceremony where
  state : Nat := 0
  purpose : Nat := 0
  k : Nat := 0
  n : Nat := 0
  setId : Nat := 0
  expired : Bool := false
  cdk : Bytes := []
  /-- The higher coefficients a₁ to a₍k−1₎, 32 bytes each (R384). -/
  coeffs : List Bytes := []
  /-- Presented shares: INDEX, CID, share. -/
  shares : List (Nat × Nat × Bytes) := []
  /-- Confirmed enrolments: INDEX, CID. -/
  enrolled : List (Nat × Nat) := []
  /-- K, CDK_KCV of the set of the first presentation. -/
  setK : Nat := 0
  setKcv : Bytes := []
  /-- Device time at which the running window ends. -/
  until_ : Option Nat := none
  deriving DecidableEq, Repr

/-- The token port. -/
structure Tkn where
  buses : NMap TknBus := []
  marks : List CardMark := []
  ceremony : Ceremony := {}
  deriving DecidableEq, Repr

/-! ### Quartz management (18) -/

/-- A sensor (R446): the latest sample, the largest since STARTUP, the device time of the sample, the limits in force,
the state of the sample before it. Values are in the units of R446. -/
structure Sensor where
  value : Int := 0
  max : Int := 0
  sampled : Bool := false
  taken : Nat := 0
  high : Int := 0
  low : Int := 0
  en : Bool := false
  out : Bool := false
  prev : Nat := 0
  deriving DecidableEq, Repr

/-- An SPDM connection (R447): how far it is negotiated (1 VERSION, 2 CAPABILITIES, 3 ALGORITHMS were sent), its version
byte, its MeasurementHashAlgo, the transcripts of DSP0274 (A, B, L), the signed message kept, the statement of ATTEST. -/
structure SpdmConn where
  stage : Nat := 0
  version : Nat := 0x10
  sha3 : Bool := false
  msgA : Bytes := []
  msgB : Bytes := []
  msgL : Bytes := []
  kept : Option Bytes := none
  stmt : Bytes := []
  deriving DecidableEq, Repr

/-- The firmware device of DSP0267 (R317, R455): its state as GetStatus shows it (0 IDLE, 1 LEARN COMPONENTS, 2 READY XFER,
3 DOWNLOAD, 4 VERIFY, 5 APPLY, 6 ACTIVATE), the state before, the partition, the image's size and the bytes programmed. -/
structure FwDevice where
  state : Nat := 0
  prev : Nat := 0
  failed : Bool := false
  img : Nat := 0
  size : Nat := 0
  got : Nat := 0
  maxPiece : Nat := 0
  deriving DecidableEq, Repr

/-- Quartz: QTZ_STATUS, the RW1C bits of QTZ_ALERT, the sensors, MCTP, SPDM and PLDM state. -/
structure Quartz where
  fwRunning : Bool := false
  wdtResets : Nat := 0
  eid : Nat := 0
  i3c : Bool := false
  dynAddr : Nat := 0
  alertSensor : Bool := false
  alertWatchdog : Bool := false
  alertStaged : Bool := false
  sensors : NMap Sensor := []
  /-- The PLDM terminus ID; the event receiver is enabled by polling; the next record to offer as a platform event. -/
  tid : Nat := 0
  polling : Bool := false
  nextEvent : Nat := 0
  conns : NMap SpdmConn := []
  fd : FwDevice := {}
  deriving DecidableEq, Repr

/-! ### The event recorder (19) -/

/-- One event on its way to the log, or the body of a native record (R459, R463). -/
structure EvEntry where
  code : Nat
  time : Nat := 0
  params : List Nat := []
  profile : Nat := 0
  /-- The snapshots: 72-bit register words (R463). -/
  snaps : List Nat := []
  suppressed : Nat := 0
  dropped : Nat := 0
  firmware : Bool := false
  late : Bool := false
  deriving DecidableEq, Repr

/-- A position of the log that is not erased (R470 to R474). -/
structure LogPos where
  entry : EvEntry
  mark : Nat := 0xFF
  crcGood : Bool := true
  deriving DecidableEq, Repr

/-- An entry of the active control sector (R470): TYPE 1 CHECKPOINT, 2 CLEAR_BEGIN, 3 SWITCH. -/
structure CtlEntry where
  kind : Nat
  value : Nat := 0
  time : Nat := 0
  deriving DecidableEq, Repr

/-- Admission counts of one event code (R468). -/
structure CodeCount where
  used : Nat := 0
  suppressed : Nat := 0
  dropped : Nat := 0
  deriving DecidableEq, Repr

/-- The event recorder (19). A code's bucket holds BURST less `used` tokens. -/
structure Recorder where
  fifo : List EvEntry := []
  counts : NMap CodeCount := []
  log : NMap LogPos := []
  head : Nat := 0
  /-- The record being written has had its body programmed; second attempt (R472). -/
  bodyDone : Bool := false
  retried : Bool := false
  logFull : Bool := false
  clearing : Bool := false
  /-- The active control sector. -/
  cseq : Nat := 0
  clearSeq : Nat := 0
  compat : Bool := false
  config : Bytes := []
  ctl : List CtlEntry := []
  ckpt : Nat := 0
  /-- The counters are settled; earlier events wait to be stamped (R462). -/
  settled : Bool := false
  deriving DecidableEq, Repr

/-! ### The Amber journal (20) -/

/-- An entry of the journal (R480, R481): TYPE, stream, capture time, body words (64-bit payloads), position of its
header word. -/
structure AmbEntry where
  ty : Nat
  island : Nat
  time : Nat
  body : List Nat
  pos : Nat
  deriving DecidableEq, Repr

/-- The control state a checkpoint holds (R484): keys, shares and tags of key material are empty in it. -/
structure Ckpt where
  portA : HostPort := {}
  portB : HostPort := {}
  qps : NMap QueuePair := []
  sched : Scheduler := {}
  manifests : NMap Manifest := []
  nextManifest : Nat := 1
  tenants : NMap Tenant := []
  slots : NMap Slot := []
  keyed : Bool := false
  trees : NMap Tree := []
  anchors : NMap Anchor := []
  tokens : Nat := 32
  drbgs : NMap Drbg := []
  entropy : List Bytes := []
  sources : NMap NoiseSource := []
  sealEngines : NMap SealEngine := []
  arith : NMap ArithEngine := []
  links : NMap Link := []
  fabric : Fabric := {}
  wards : NMap Ward := []
  tkn : Tkn := {}
  meas : NMap MeasReg := []
  measLog : List MeasLogEntry := []
  measNext : Nat := 0
  counts : NMap CodeCount := []
  /-- The colour rules and the other registers of block CLR_. -/
  colours : NMap Nat := []
  deriving DecidableEq, Repr

/-- The Amber journal and replay (20). -/
structure Amber where
  /-- The entries in the ring, oldest first, and the position of the next word. -/
  ring : List AmbEntry := []
  head : Nat := 0
  /-- Device time at the start of the capture; bits 63:36 of each stream's last TIME entry. -/
  start : Nat := 0
  high : NMap Nat := []
  /-- Checkpoints begun in this capture, and those whole, by the position of CHECKPOINT_BEGIN. -/
  ckpts : Nat := 0
  whole : NMap Ckpt := []
  wrapped : Bool := false
  overrun : Bool := false
  triggered : Bool := false
  frozen : Bool := false
  freezeCode : Nat := 0
  freezeTime : Nat := 0
  /-- The capture at LEVEL 0 is off; the level in force after an overrun (R482). -/
  forcedOff : Bool := false
  /-- In a replay: the position of its checkpoint, and the positions of the DRBG_SEED entries taken since (R489). -/
  replayFrom : Nat := 0
  taken : List Nat := []
  deriving DecidableEq, Repr

/-! ### The whole state -/

/-- The state of the device (R282, R542 and every chapter), and the queue of waiting commands. -/
structure State where
  /-- Device time in 10 ns units, the resolution of SCH_DMD_STAT.MAX_LAT. -/
  clk : Nat := 0
  mode : Mode := .startup
  portA : HostPort := {}
  portB : HostPort := {}
  jobs : List Job := []
  /-- Mailbox commands latched while a command of the same mailbox, reset by R55 past its commit point, still runs inside the
  device. -/
  heldJobs : List Job := []
  qps : NMap QueuePair := []
  sched : Scheduler := {}
  manifests : NMap Manifest := []
  nextManifest : Nat := 1
  sealEngines : NMap SealEngine := []
  digests : NMap DigestCtx := []
  meas : NMap MeasReg := []
  measLog : List MeasLogEntry := []
  measNext : Nat := 0
  measOverflow : Bool := false
  /-- Bytes offered for the last result with TRUNC (R133). -/
  truncOffered : Nat := 0
  slots : NMap Slot := []
  /-- PUF secret register P (R154), the CDK, and VLT_STATUS.ZEROISED. -/
  pufSecret : Option Bytes := none
  keyed : Bool := false
  cdk : Option Bytes := none
  zeroised : Bool := false
  agate : Agate := {}
  arith : NMap ArithEngine := []
  sources : NMap NoiseSource := []
  entropy : List Bytes := []
  filling : Bool := true
  /-- The LFSR of RNG_TEST.MODE 1 (R250). -/
  lfsr : Nat := 1
  drbgs : NMap Drbg := []
  tenants : NMap Tenant := []
  cfg : List CfgRecord := []
  moon : Moonstone := {}
  fuses : Fuses := {}
  boot : Boot := {}
  lcs : Lcs := {}
  tamper : Tamper := {}
  pins : Pins := {}
  wards : NMap Ward := []
  tkn : Tkn := {}
  /-- Results of internal requests, for Quartz (R23): number, status, result. -/
  internalDone : List (Nat × Nat × Bytes) := []
  recorder : Recorder := {}
  amber : Amber := {}
  links : NMap Link := []
  fabric : Fabric := {}
  nor : Nor := {}
  mem : Mem := {}
  quartz : Quartz := {}
  /-- Writeable and latched register contents, by address in the control-block region (R36). -/
  regs : NMap Nat := []
  /-- Messages sent, oldest first. -/
  out : List Msg := []
  /-- Index of the next free value (Config.freeByte). The model's own field. -/
  freeIdx : Nat := 0
  /-- Commands that wait, first in first out. The model's own field. -/
  pending : List Instr := []
  deriving DecidableEq, Repr

/-- The reasons a step could stop with a fault. There are none: every row of the table has an effect in every state. -/
inductive Fault
  deriving DecidableEq, Repr

/-- The reasons a command could be refused by the model. -/
inductive Refusal
  /-- Raised by the dispatch for a command that has no meaning yet; safe, since the run stops. -/
  | notModelled (mnemonic : String)
  deriving DecidableEq, Repr

/-- The state right after a cold reset (R5: every field at its Reset value; R298: MOONSTONE's fields too). -/
def State.reset : State :=
  { regs := [(0x28000, 0x010B04), (0x78010, 0x43E), (0x78018, 0x40), (0x98008, 0x804), (0x98010, 0x100),
      (0xA8000, 0x1E19), (0xC0010, 0x23), (0xC8008, 0x108), (0xD0000, 0x10), (0xE0020, 0x1)]
    moon := { corePower := false, aonPower := false } }

end Sys2Proof.Machine
end

