-- ==== Sys2Proof/Machine/Base.lean ====
section
/-! DEFINITION. The named accessors of the state: registers, ports, functions, bindings, mailboxes, queue pairs,
slots, trees, engines, tenants, free values. -/

namespace Sys2Proof.Machine

/-- A register word of the control-block region, as stored. -/
def State.reg (s : State) (a : Nat) : Nat := s.regs.get 0 a

/-- Load a register word. -/
def State.setReg (s : State) (a v : Nat) : State := { s with regs := s.regs.put 0 a (v % 2 ^ 64) }

/-- The field `msb:lsb` of a register. -/
def State.regField (s : State) (a msb lsb : Nat) : Nat := field (s.reg a) msb lsb

/-- A word with its field `msb:lsb` replaced. -/
def withField (w msb lsb v : Nat) : Nat := w - field w msb lsb * 2 ^ lsb + place msb lsb v

/-- Load the field `msb:lsb` of a register. -/
def State.setRegField (s : State) (a msb lsb v : Nat) : State := s.setReg a (withField (s.reg a) msb lsb v)

/-- Count one more in the saturating field `msb:lsb` of a register. -/
def State.incRegField (s : State) (a msb lsb : Nat) : State :=
  s.setRegField a msb lsb (satInc (msb + 1 - lsb) (s.regField a msb lsb))

/-- The next `n` free bytes. -/
def State.freeBytes (s : State) (n : Nat) : Bytes := (List.range n).map (fun i => Config.freeByte (s.freeIdx + i))

/-- The state after `n` free bytes were taken. -/
def State.tookFree (s : State) (n : Nat) : State := { s with freeIdx := s.freeIdx + n }

/-- A host port's state. -/
def State.port (s : State) : PortId → HostPort
  | .a => s.portA
  | .b => s.portB

/-- Replace a host port's state. -/
def State.setPort (s : State) (p : PortId) (h : HostPort) : State :=
  match p with
  | .a => { s with portA := h }
  | .b => { s with portB := h }

/-- A binding's entry in its port's table (R58). -/
def State.bindOf (s : State) (b : BindId) : BindEntry := (s.port b.port).binds.get {} b.key

/-- Replace a binding's entry. -/
def State.setBind (s : State) (b : BindId) (e : BindEntry) : State :=
  let h := s.port b.port
  s.setPort b.port { h with binds := h.binds.put {} b.key e }

/-- A binding's mailbox (R47). -/
def State.mbx (s : State) (b : BindId) : Mailbox := (s.port b.port).mailboxes.get {} b.key

/-- Replace a binding's mailbox. -/
def State.setMbx (s : State) (b : BindId) (m : Mailbox) : State :=
  let h := s.port b.port
  s.setPort b.port { h with mailboxes := h.mailboxes.put {} b.key m }

/-- A PCIe function of a port. -/
def State.fn (s : State) (p : PortId) (f : Nat) : FuncState := (s.port p).funcs.get {} f

/-- Replace a PCIe function. -/
def State.setFn (s : State) (p : PortId) (f : Nat) (v : FuncState) : State :=
  let h := s.port p
  s.setPort p { h with funcs := h.funcs.put {} f v }

/-- A queue pair context. -/
def State.qp (s : State) (n : Nat) : QueuePair := s.qps.get {} n

/-- Replace a queue pair context. -/
def State.setQp (s : State) (n : Nat) (q : QueuePair) : State := { s with qps := s.qps.put {} n q }

/-- A tenant context. -/
def State.ten (s : State) (n : Nat) : Tenant := s.tenants.get {} n

/-- Replace a tenant context. -/
def State.setTen (s : State) (n : Nat) (t : Tenant) : State := { s with tenants := s.tenants.put {} n t }

/-- A vault slot. -/
def State.slot (s : State) (n : Nat) : Slot := s.slots.get {} n

/-- Replace a vault slot. -/
def State.setSlot (s : State) (n : Nat) (v : Slot) : State := { s with slots := s.slots.put {} n v }

/-- A tree of the Agate unit. -/
def State.tree (s : State) (n : Nat) : Tree := s.agate.trees.get {} n

/-- Replace a tree. -/
def State.setTree (s : State) (n : Nat) (t : Tree) : State :=
  { s with agate := { s.agate with trees := s.agate.trees.put {} n t } }

/-- A seal engine. -/
def State.seng (s : State) (n : Nat) : SealEngine := s.sealEngines.get {} n

/-- Replace a seal engine. -/
def State.setSeng (s : State) (n : Nat) (e : SealEngine) : State :=
  { s with sealEngines := s.sealEngines.put {} n e }

/-- An arith engine. -/
def State.aeng (s : State) (n : Nat) : ArithEngine := s.arith.get {} n

/-- Replace an arith engine. -/
def State.setAeng (s : State) (n : Nat) (e : ArithEngine) : State := { s with arith := s.arith.put {} n e }

/-- A manifest handle. -/
def State.man (s : State) (n : Nat) : Manifest := s.manifests.get {} n

/-- Replace a manifest handle. -/
def State.setMan (s : State) (n : Nat) (m : Manifest) : State := { s with manifests := s.manifests.put {} n m }

/-- A measurement register (R137). -/
def State.mr (s : State) (n : Nat) : MeasReg := s.meas.get {} n

/-- A link. -/
def State.link (s : State) (l : Nat) : Link := s.links.get {} l

/-- Replace a link. -/
def State.setLink (s : State) (l : Nat) (v : Link) : State := { s with links := s.links.put {} l v }

/-- A ward port. -/
def State.ward (s : State) (w : Nat) : Ward := s.wards.get {} w

/-- Replace a ward port. -/
def State.setWard (s : State) (w : Nat) (v : Ward) : State := { s with wards := s.wards.put {} w v }

/-- A token bus. -/
def State.bus (s : State) (b : Nat) : TknBus := s.tkn.buses.get {} b

/-- Replace a token bus. -/
def State.setBus (s : State) (b : Nat) (v : TknBus) : State :=
  { s with tkn := { s.tkn with buses := s.tkn.buses.put {} b v } }

/-- Replace the ceremony store. -/
def State.setCer (s : State) (c : Ceremony) : State := { s with tkn := { s.tkn with ceremony := c } }

/-- Send a message. -/
def State.send (s : State) (m : Msg) : State := { s with out := s.out ++ [m] }

/-- The device's time stamp (R461). -/
def State.time (s : State) : Nat := (s.moon.powerCycles % 2 ^ 24) * 2 ^ 40 + s.moon.opTime % 2 ^ 40

/-- The command in flight of a submission. -/
def State.job? (s : State) (o : Origin) : Option Job := s.jobs.find? (fun j => j.origin == o)

/-- A command enters flight. -/
def State.addJob (s : State) (j : Job) : State := { s with jobs := s.jobs ++ [j] }

/-- Replace the command in flight of the same submission. -/
def State.setJob (s : State) (j : Job) : State :=
  { s with jobs := s.jobs.map (fun k => if k.origin == j.origin then j else k) }

/-- Remove a command in flight. -/
def State.dropJob (s : State) (o : Origin) : State := { s with jobs := s.jobs.filter (fun k => k.origin != o) }

/-- PWR_STATUS.MODE (R277); 0 stands for DORMANT in event 0x8C01. -/
def Mode.num : Mode → Nat
  | .startup => 1
  | .service => 2
  | .hush => 3
  | .replay => 4
  | .lockdown => 5
  | .dormant => 0

end Sys2Proof.Machine
end

