-- ==== Sys2Proof/Machine/Derived.lean ====
section
/-! DEFINITION. Values derived from the state that several chapters and the registers share: digests and key derivation,
attribute words, pool and journal counts, routes, image headers. -/

namespace Sys2Proof.Machine

/-- A digest as bytes, most significant byte first. -/
def digestBytes {n : Nat} (k : Nat) (d : BitVec n) : Bytes := beBytes k d.toNat

/-- SHA-384 of a byte string. -/
def sha384 (b : Bytes) : Bytes := digestBytes 48 (Config.sha384 b)

/-- SHA-512 of a byte string. -/
def sha512 (b : Bytes) : Bytes := digestBytes 64 (Config.sha512 b)

/-- SHA3-512 of a byte string. -/
def sha3_512 (b : Bytes) : Bytes := digestBytes 64 (Config.sha3_512 b)

/-- SHA3-256 of a byte string. -/
def sha3_256 (b : Bytes) : Bytes := digestBytes 32 (Config.sha3_256 b)

/-- APPROVED_MODE (R308). -/
def State.approvedMode (s : State) : Bool :=
  (s.lcs.state == 2 || s.lcs.state == 3) && s.boot.selftestOk && s.regField R.RNG_TEST 1 0 == 0

/-- The ASCII bytes of a label. -/
def ascii (t : String) : Bytes := t.toList.map fun c => BitVec.ofNat 8 c.toNat

/-- The attribute word of a half (R147). `pend` is PENDING, shown in the active half only; ACTIVE reads 0 in the pending half
(DESIGN CHOICE, assumption 168). -/
def attrWord (h : SlotHalf) (isActive pend : Bool) : Nat :=
  place 63 48 h.colour + place 47 40 h.dest + place 39 32 h.usage + place 31 28 h.cls + place 27 24 h.size
    + place 23 22 h.origin + place 21 21 (b2n h.exportable) + place 20 20 (b2n h.locked)
    + place 19 19 (b2n (isActive && pend)) + place 18 18 (b2n (isActive && h.act)) + place 17 17 (b2n h.record.isSome)
    + place 16 16 (b2n (!isActive && h.proven)) + place 15 0 h.version

/-- The active attribute word of a slot; system slots read their colour (R147). -/
def activeWord (s : State) (n : Nat) : Nat :=
  match (s.slot n).active with
  | some h => attrWord h true (s.slot n).pending.isSome
  | none => 0

/-- The pending attribute word of a slot; 0 when none. -/
def pendingWord (s : State) (n : Nat) : Nat :=
  match (s.slot n).pending with
  | some h => attrWord h false false
  | none => 0

/-- The 32-byte CMAC key of a key (R153): a longer one is reduced. -/
def cmacKey (k : Bytes) : Bytes := if k.length > 32 then sha3_256 (ascii "GV-KR" ++ k) else k

/-- CMAC-AES-256. -/
def cmac (k m : Bytes) : Bytes := digestBytes 16 (Config.cmac (cmacKey k) m)

/-- The KDF of R153. -/
def kdf (k label ctx : Bytes) (bits : Nat) : Bytes :=
  ((List.range (bits / 128)).map fun i =>
    cmac k (leBytes 1 (i + 1) ++ label ++ zeros 1 ++ ctx ++ beBytes 2 bits)).flatten

/-- The KCV of a key (R155). -/
def kcv (k : Bytes) : Bytes := (cmac k (zeros 16)).take 8

/-- Private or secret material length of a CLASS and SIZE without PUBLIC (R148); 0 for a value the table lacks. -/
def privLen (cls size : Nat) : Nat :=
  if cls = 1 ∧ size = 0 then 32
  else if cls = 2 ∧ size ≤ 2 then [32, 48, 64].getD size 0
  else if 3 ≤ cls ∧ cls ≤ 5 ∧ size = 0 then 32
  else if cls = 6 ∧ size ≤ 1 then [48, 66].getD size 0
  else if cls = 7 ∧ size = 0 then 57
  else if cls = 8 ∧ size = 0 then 56
  else if cls = 9 ∧ size ≤ 1 then [1352, 1800].getD size 0
  else if cls = 10 ∧ size = 0 then 4896
  else if cls = 11 ∧ size = 0 then 3168
  else 0

/-- Public encoding length of a CLASS and SIZE, bit 3 of SIZE apart (R148). -/
def pubLen (cls size : Nat) : Nat :=
  let z := size % 8
  if cls = 6 ∧ z ≤ 1 then [96, 132].getD z 0
  else if cls = 7 ∧ z = 0 then 57
  else if cls = 8 ∧ z = 0 then 56
  else if cls = 9 ∧ z ≤ 1 then [392, 520].getD z 0
  else if cls = 10 ∧ z = 0 then 2592
  else if cls = 11 ∧ z = 0 then 1568
  else 0

/-- MAT_LEN of a CLASS and SIZE (R148). -/
def matLen (cls size : Nat) : Nat := if size ≥ 8 then pubLen cls size else privLen cls size

/-- The records that a half holds (R149, R150): an extended record, a public-key record. -/
def halfRecords (h : SlotHalf) : List KeyRecord := h.record.toList ++ h.pubRecord.toList

/-- The records that a slot holds. -/
def slotRecords (v : Slot) : List KeyRecord :=
  ((v.active.map halfRecords).getD []) ++ ((v.pending.map halfRecords).getD [])

/-- VLT_STATUS.RECORDS_USED (R151). -/
def recordsUsed (s : State) : Nat := s.slots.foldl (fun a e => a + (slotRecords e.2).length) 0

/-- BLOB_LEN for a material length (R166). -/
def blobLen (m : Nat) : Nat := 32 + 8 * ((32 + m + 7) / 8) + 8

/-- The material a blob of a half wraps, once its records are read: the public encoding of a PUBLIC slot (R148). -/
def blobMaterial (h : SlotHalf) : Bytes := if h.size ≥ 8 then h.pubKey else h.material

/-- The capture level in force (R479, R482): 3 acts as 2; an overrun capture reads OFF. -/
def State.ambLevel (s : State) : Nat :=
  if s.amber.forcedOff then 0 else min 2 (s.regField R.AMB_CFG 1 0)

/-- Words the ring holds: SIZE_GIB GiB in lines of 7 words (R482). -/
def State.ambCapacity (s : State) : Nat :=
  let g := s.regField R.AMB_CFG 8 4
  let gib := if g = 0 then 1 else if g > 16 then 16 else g
  gib * 2 ^ 30 / 64 * 7

/-- A code that only Quartz firmware raises (R458). -/
def fwCode (c : Nat) : Bool := decide (0x8EC0 ≤ c ∧ c ≤ 0x8EFF)

/-- A code of the table of R458. -/
def codeListed (c : Nat) : Bool :=
  decide ((0x0001 ≤ c ∧ c ≤ 0x00FF) ∨ (0x8100 ≤ c ∧ c ≤ 0x8BFF) ∨ (0x8F00 ≤ c ∧ c ≤ 0x8FFF) ∨ (0x8C00 ≤ c ∧ c ≤ 0x8EFF))

/-- Whether the recorder accepts a code from a source (R458). -/
def codeAccepted (firmware : Bool) (c : Nat) : Bool := codeListed c && (fwCode c == firmware)

/-- Bucket depth in force (EVR_CFG.BURST: 0 acts as 1, values above 32 act as 32). -/
def State.evrBurst (s : State) : Nat :=
  let b := s.regField R.EVR_CFG 5 0
  if b = 0 then 1 else if b > 32 then 32 else b

/-- Tokens in a code's bucket (R468). -/
def State.evrTokens (s : State) (c : Nat) : Nat := s.evrBurst - (s.recorder.counts.get {} c).used

/-- Record positions of the log in its format (R471). -/
def State.logSize (s : State) : Nat := if s.recorder.compat then 524032 else 65504

/-- Sources in HEALTHY. -/
def healthyCount (s : State) : Nat := ((List.range 8).filter (fun n => (s.sources.get {} n).state == .healthy)).length

/-- RNG_STATUS.STATE (R238): 0 NORMAL, 1 DEGRADED, 2 FAILED. -/
def entropyState (s : State) : Nat := if healthyCount s = 8 then 0 else if healthyCount s ≥ 2 then 1 else 2

/-- SRC_HEALTHY of RNG_STATUS. -/
def healthyMask (s : State) : Nat :=
  (List.range 8).foldl (fun a n => a + if (s.sources.get {} n).state = .healthy then 2 ^ n else 0) 0

/-- The executing bank (R504). -/
def execBank (s : State) : Nat := b2n s.boot.imageB

/-- The byte of a partition kept as bytes; an erased byte reads 0xFF (R501). -/
def norByte (s : State) (a : Nat) : Byte := s.nor.raw.get 0xFF a

/-- The `n` bytes from an address. -/
def norBytes (s : State) (a n : Nat) : Bytes := s.nor.raw.getList 0xFF a n

/-- The key in a slot. -/
def slotKey (s : State) (n : Nat) : Bytes := ((s.slot n).active.map (·.material)).getD []

/-- The clear header of a configuration record, bytes 31:0 (R509). -/
def cfgHeader (r : CfgRecord) : Bytes :=
  leBytes 1 1 ++ leBytes 1 r.ty ++ leBytes 2 r.pages ++ leBytes 8 r.key ++ leBytes 8 r.seq ++ fit 8 r.crKcv
    ++ leBytes 4 r.cipher.length

/-- The tag that a record's header and ciphertext have under slot 7 (R509). -/
def cfgTag (s : State) (r : CfgRecord) : Bytes :=
  digestBytes 16 (Config.gcmTag (slotKey s 7) (leBytes 8 r.seq ++ zeros 4) (cfgHeader r) r.cipher)

/-- Whether a record's tag passes. Without a key in slot 7 no tag is checked: MARK alone decides (R510). -/
def cfgTagOk (s : State) (r : CfgRecord) : Bool := slotKey s 7 == [] || r.tag == cfgTag s r

/-- Whether a record is a tombstone. -/
def isTombstone (r : CfgRecord) : Bool := r.ty == 4

/-- The TYPE that a record, or a tombstone of it, stands for. -/
def recTy (r : CfgRecord) : Nat := if isTombstone r then r.gone else r.ty

/-- The standing records: for each TYPE and KEY the valid one with the greatest SEQ, tombstones apart (R510). -/
def cfgStanding (s : State) : List CfgRecord :=
  s.cfg.filter fun r => r.valid && cfgTagOk s r && !isTombstone r &&
    !(s.cfg.any fun q => q.valid && cfgTagOk s q && recTy q == recTy r && q.key == r.key && decide (q.seq > r.seq))

/-- Erased sectors ahead of the head (NVM_CFG_AREA.FREE_SECTORS). -/
def cfgFree (s : State) : Nat :=
  let h := s.nor.cfgHead
  1920 - ((h / 16 + 1920 - s.nor.cfgTail / 16) % 1920 + b2n (decide (h % 16 ≠ 0)))

/-- Pages of a frontier (R186). -/
def pagesOf (f : List Node) : Nat := max 1 ((f.length + 83) / 84)

/-- Frontier pages a device can hold beside the Amber ring (R187, R499). -/
def pageLimit (s : State) : Nat :=
  min 1048576 ((19912 - (if s.regField R.AMB_CFG 1 0 = 0 then 0 else s.ambCapacity / 117440512)) * 256)

/-- The frontier pages in use: of the trees, and of commits and creations under way. -/
def framePages (s : State) : List Nat := (s.agate.trees.map (·.2.pages)).flatten ++ (s.agate.writes.map (·.pages)).flatten

/-- Frontier pages in use. -/
def pagesUsed (s : State) : Nat := (framePages s).length

/-- The highest frontier page in use, plus one (R499). -/
def pageHigh (s : State) : Nat := (framePages s).foldl (fun a p => max a (p + 1)) 0

/-- FLAGS bits: SHREDDED, CARRIED, REPLICA. -/
def isShredded (a : Anchor) : Bool := bitOf a.flags 0

def isReplica (a : Anchor) : Bool := bitOf a.flags 2

/-- Staged ranges of the device (R206). -/
def stagedTotal (s : State) : Nat := s.agate.trees.foldl (fun a e => a + e.2.staged.length) 0

/-- The encoding of a tree's state in AGT_TREE_INFO. -/
def TreeState.num : TreeState → Nat
  | .free => 0 | .unloaded => 1 | .ready => 2 | .stale => 3 | .fault => 4

/-- An arith engine's state code (R234). -/
def EngState.num : EngState → Nat
  | .inService => 0
  | .draining => 1
  | .quarantined => 2
  | .testing => 3
  | .retired => 4

/-- The encoding of SWL_INFO.STATE. -/
def LinkState.num : LinkState → Nat
  | .disabled => 0 | .down => 1 | .training => 2 | .trained => 3 | .handshake => 4
  | .active => 5 | .degraded => 6 | .quarantined => 7 | .peerDormant => 8 | .loopback => 9

/-- DEVICE_FP (R114): SHA-384 of the identity P-384 public key of slot 0. -/
def deviceFp (s : State) : Bytes := sha384 (((s.slot 0).active.map (·.pubKey)).getD [])

/-- ID_HASH (R407). -/
def idHash (s : State) : Nat := u64 (deviceFp s) 0

/-- DOMAIN_KCV: KCV of the CDK in slot 3, 0 when UNKEYED (R404). -/
def domainKcv (s : State) : Nat :=
  if s.keyed then (s.cdk.map fun k => leNat (kcv k)).getD 0 else 0

/-- The node's own advertisement: its links with a session. -/
def ownLsa (s : State) : LsaEntry :=
  { addr := s.fabric.addr, addrState := s.fabric.addrState, seq := s.fabric.lsaSeq, kcv := domainKcv s,
    unkeyed := !s.keyed,
    links := (s.links.filter (fun e => e.1 < 8 && e.2.level != 0)).map fun e =>
      { partner := e.2.partner, num := e.1, state := e.2.state.num, level := e.2.level, rate := b2n e.2.keepAlive } }

/-- A node's advertisement: its own, or the one held of another. -/
def lsaOf (s : State) (id : Nat) : LsaEntry := if id = idHash s then ownLsa s else s.fabric.db.get {} id

/-- Cost of one end of a link in the graph of classes 1 to 3, or in that of class 0 (R426). -/
def endCost (cls0 : Bool) (e : LsaLink) : Option Nat :=
  if e.level ≠ 2 then none
  else if cls0 then (if e.state = 5 ∧ e.rate = 0 then some 1 else none)
  else if e.state = 5 ∨ e.state = 6 then
    some (if e.rate = 1 then 8 else if e.state = 6 then 4 else 1)
  else none

/-- The usable links from node `a` to node `b`: link number at `a` and cost; the worse end decides (R426). Parallel
links pair in the order in which both ends list them. -/
def edges (s : State) (cls0 : Bool) (a b : Nat) : List (Nat × Nat) :=
  let la := lsaOf s a
  let lb := lsaOf s b
  if la.kcv ≠ domainKcv s ∨ lb.kcv ≠ domainKcv s ∨ s.keyed = false then []
  else ((la.links.filter (·.partner == b)).zip (lb.links.filter (·.partner == a))).filterMap fun e =>
    match endCost cls0 e.1, endCost cls0 e.2 with
    | some x, some y => some (e.1.num, max x y)
    | _, _ => none

/-- A route: cost, the first partner's ID_HASH, the first link, hops; the least in this order is taken (R426). -/
structure Route where
  cost : Nat
  partner : Nat
  link : Nat
  hops : Nat
  deriving DecidableEq, Repr

/-- The order of routes. -/
def Route.lt (x y : Route) : Bool :=
  x.cost < y.cost || (x.cost == y.cost && (x.partner < y.partner || (x.partner == y.partner &&
    (x.link < y.link || (x.link == y.link && x.hops < y.hops)))))

/-- The better of two routes. -/
def bestOf (x y : Option Route) : Option Route :=
  match x, y with
  | some a, some b => if b.lt a then y else x
  | none, _ => y
  | _, none => x

/-- The candidate routes to node `b` through node `a`. -/
def through (s : State) (cls0 : Bool) (tab : NMap Route) (a b : Nat) : Option Route :=
  (edges s cls0 a b).foldl (fun best e =>
    let r : Option Route :=
      if a = idHash s then some { cost := e.2, partner := b, link := e.1, hops := 1 }
      else (tab.look? a).map fun t => { t with cost := t.cost + e.2, hops := t.hops + 1 }
    bestOf best r) none

/-- One round of relaxation over every other node of the database. -/
def relax (s : State) (cls0 : Bool) (tab : NMap Route) : NMap Route :=
  let ids := s.fabric.db.map (·.1)
  ids.foldl (fun t b =>
    match (idHash s :: ids).foldl (fun r a => if a = b then r else bestOf r (through s cls0 tab a b)) (tab.look? b) with
    | some r => t.insert b r
    | none => t) tab

/-- `n` rounds. -/
def relaxN (s : State) (cls0 : Bool) : Nat → NMap Route → NMap Route
  | 0, t => t
  | n + 1, t => relaxN s cls0 n (relax s cls0 t)

/-- The shortest routes by ID_HASH; one of more hops than the graph allows is not installed (R426). -/
def routes (s : State) (cls0 : Bool) : NMap Route :=
  (relaxN s cls0 s.fabric.db.length []).filter fun e => decide (e.2.hops ≤ if cls0 then 8 else 16)

/-- The node that holds an address. -/
def nodeAt (s : State) (addr : Nat) : Option Nat :=
  (s.fabric.db.find? fun e => e.2.addr == addr && e.2.addrState != 0).map (·.1)

/-- The route to an address in the graph of a class (R427). -/
def routeTo (s : State) (cls addr : Nat) : Option Route :=
  (nodeAt s addr).bind fun id => (routes s (cls == 0)).look? id

/-- Whether a listed peer is reachable (R429, R439). -/
def reachable (s : State) (id : Nat) : Bool :=
  !s.fabric.isolated && s.keyed && (s.fabric.db.look? id).isSome && (lsaOf s id).kcv == domainKcv s &&
    ((routes s false).look? id).isSome

/-- Class 0 commands in flight, of one participant or of all (R81, R82). -/
def dmdJobs (s : State) : List Job := s.jobs.filter (fun j => j.cls == 0)

/-- A participant's outstanding class 0 commands. -/
def dmdOutstanding (s : State) (owner : Bool) (t : Nat) : Nat :=
  ((dmdJobs s).filter (fun j => j.owner == owner && (owner || j.tenant == t))).length

/-- SEP_POOL_STATUS.DMD_DEGRADED: fewer than twelve RESERVED engines in service (R123). -/
def dmdDegraded (s : State) : Bool :=
  ((List.range 144).filter (fun n => (s.seng n).state == .inService && (s.seng n).reserved)).length < 12

/-- The halves a dormant image carries (R288 step 2), by slot. -/
def imageSlots (s : State) : List (Nat × SlotHalf) :=
  s.slots.filterMap fun e =>
    if ((32 ≤ e.1 && e.1 < 192) || e.1 ≥ 256) && s.keyed then
      match e.2.active with
      | some h => if h.act && h.cls != 3 && h.cls != 4 then some (e.1, h) else none
      | none => none
    else none

/-- Bytes up to a multiple of 8. -/
def pad8 (n : Nat) : Nat := 8 * ((n + 7) / 8)

/-- PWR_IMAGE_SIZE. -/
def imageSize (s : State) : Nat := (imageSlots s).foldl (fun a e => a + 16 + pad8 (blobLen (matLen e.2.cls e.2.size))) 64

/-- Base address of a Quartz image. -/
def imgBase (img : Nat) : Nat := if img = 0 then 0 else 0x1000000

/-- The header of an image (R309). -/
def imgHeader (s : State) (img : Nat) : Bytes := norBytes s (imgBase img) 12288

/-- The header of the running image. -/
def runningHeader (s : State) : Bytes := imgHeader s (b2n s.boot.imageB)

/-- Whether an engine holds no job. -/
def sealIdle (e : SealEngine) : Bool := e.work.isNone && e.parked.isNone

/-- TEN_INFO.STATE (R255). -/
def TenState.num : TenState → Nat
  | .free => 0 | .active => 1 | .quiescing => 2 | .quiesced => 3

/-- The encoding of WRD_INFO.STATE. -/
def WardState.num : WardState → Nat
  | .off => 0 | .disabled => 1 | .verifying => 2 | .recovering => 3 | .running => 4 | .failed => 5 | .held => 6

/-- The state code a copy reads; 7 for no codeword. -/
def LcsCopy.num : LcsCopy → Nat
  | .word b => ((List.range 6).find? fun k => codeword k == b).getD 7
  | .part => 7

/-- A copy after the transition to a state programs it: one 24-bit field is cleared, and no bit is set (R318, R319). -/
def LcsCopy.program (c : LcsCopy) (t : Nat) : LcsCopy :=
  match c with
  | .word b => .word (b &&& ~~~(0xFFFFFF#128 <<< (24 * (t - 1))))
  | .part => .part

/-- Quartz firmware executes (QTZ_STATUS.FW_RUNNING); in the halt loop the core runs boot ROM. -/
def fwRuns (s : State) : Bool := s.quartz.fwRunning && !s.boot.haltLoop

/-- The state of an image. -/
def imgState (s : State) (img : Nat) : ImageState := if img = 0 then s.boot.imgA.state else s.boot.imgB.state

/-- A 24-bit two's complement field. -/
def int24 (v : Int) : Nat := (v % 2 ^ 24).toNat

/-- A sensor. -/
def State.sensor (s : State) (n : Nat) : Sensor := s.quartz.sensors.get {} n

/-- LIFE in 1/16 h with OVER_RATED above it, the VALUE of a CHECKPOINT (R539). -/
def lifeValue (s : State) : Nat := s.nor.life / 2250 % 2 ^ 31 + b2n s.nor.overRated * 2 ^ 31

/-- The tenant an order in flight belongs to, as a holder of a reserved slot. -/
def reservedBy (s : State) (o : Origin) (t : Nat) : Bool :=
  match s.job? o with
  | some j => !j.owner && j.tenant == t
  | none => false

/-- Pool slots a tenant holds, its root slot and `skip`'s reservations apart (R259, R544). -/
def slotsHeld (s : State) (t : Nat) (skip : Origin) : Nat :=
  (s.slots.filter fun e => e.1 ≥ 256 && e.1 != (s.ten t).rootSlot &&
    (match e.2.active with
     | some h => h.colour == t
     | none => match e.2.resActive with
       | some o => o != skip && reservedBy s o t
       | none => false)).length

/-- The tree of a tenant's epoch: tree number 16 × tenant + epoch. -/
def treeNum (t epoch : Nat) : Nat := 16 * t + epoch

/-- The trees attached to a tenant, with their numbers. -/
def tenantTrees (s : State) (t : Nat) : List (Nat × Tree) :=
  s.agate.trees.filter fun e => e.1 / 16 == t && e.2.state != .free

/-- The queue pairs of a tenant. -/
def qpsOfTenant (s : State) (t : Nat) : List Nat :=
  (s.qps.filter fun e => !e.2.bind.isOwner && e.2.tenant == t && e.2.state != .free).map (·.1)

/-- A balance as 32 bits, two's complement. -/
def signed32 (x : Int) : Nat := (x % 2 ^ 32).toNat

/-- SERIAL of a CID[127:8] (R376). -/
def cidSerial (c : Nat) : Nat := c / 2 ^ 56

end Sys2Proof.Machine
end

