-- ==== Sys2Proof/Machine/RegView.lean ====
section
/-! DEFINITION. What a host read of a register returns (00 R5, and the register tables of every chapter), without the side
effects a read has: a field that shows a part of the state is computed from it, and the others are the words held. -/

namespace Sys2Proof.Machine

/-- TKN_CEREMONY (15). -/
def ceremonyWord (s : State) : Nat :=
  let c := s.tkn.ceremony
  let left := match c.until_ with | some t => (t - s.clk) / 100000000 | none => 0
  let count := if c.purpose = 1 ∨ (c.purpose = 3 ∧ c.state = 2) then c.enrolled.length else c.shares.length
  place 48 48 (b2n c.expired) + place 47 32 left + place 31 28 c.n + place 27 24 c.k + place 23 16 count
    + place 10 8 c.purpose + place 1 0 c.state

/-- SWL_INFO of a link (16). -/
def swlInfo (k : Link) : Nat :=
  place 55 47 k.err + place 46 39 k.goodBeacons + place 38 32 k.hsFails + place 31 24 k.quarantines + place 15 12 k.partnerState
    + place 11 10 k.level + place 9 9 (b2n k.keyPhase) + place 8 8 (b2n k.keepAlive) + place 3 0 k.state.num

/-- SWL_SESSION of a link. -/
def swlSession (s : State) (k : Link) : Nat :=
  if k.level = 0 then 0 else place 63 40 (min ((s.clk - k.keysSince) / 100000000) (2 ^ 24 - 1)) + place 39 0 k.txLseq

/-- SWL_FRAME_COUNT and SWL_FEC_COUNT of a link. -/
def swlFrames (k : Link) : Nat := place 63 32 k.bad + place 31 16 k.refused + place 15 0 k.handedBack
@[inherit_doc swlFrames] def swlFec (k : Link) : Nat := place 63 32 k.fecCorrected + place 31 0 k.fecUncorrectable

/-! ### Host ports (02) -/

/-- HPT_LINK_STATUS of a port. -/
def hptLink (h : HostPort) : Nat :=
  place 31 24 h.retrainCount + place 17 17 (b2n h.inL1) + place 16 16 (b2n h.belowRated) + place 12 8 h.width + place 4 4 (b2n h.flit)
    + place 3 1 h.rate + place 0 0 (b2n h.dlUp)

/-- The HPT_ block. -/
def viewHpt (h : HostPort) (off : Nat) : Nat :=
  if off = 0x10 then hptLink h else if off = 0x18 then h.errStatus.toNat else if off = 0x20 then place 11 0 h.errFunc else 0

/-- 64 mailbox states of PF0 binding slots, from slot 64k (R60). -/
def mbxBits (h : HostPort) (k : Nat) (st : MbxState) : Nat :=
  (List.range 64).foldl (fun a i =>
    let n := 64 * k + i
    a + b2n ((h.binds.get {} n).valid && (h.mailboxes.get {} n).state == st) * 2 ^ i) 0

/-- The MBX_ block. -/
def viewMbx (h : HostPort) (off : Nat) : Nat :=
  if off < 0x100 then mbxBits h (off / 8) .done else if off < 0x200 then mbxBits h ((off - 0x100) / 8) .busy else 0

/-- An entry of the FN_ block (R58). -/
def bindWord (e : BindEntry) : Nat :=
  place 63 63 (b2n e.valid) + place 62 62 (b2n e.twin) + place 61 61 (b2n e.owner) + place 31 20 e.tenant + place 19 0 e.pasid

/-- The FN_ block. -/
def viewFn (h : HostPort) (off : Nat) : Nat :=
  if off < 0x4000 then bindWord (h.binds.get {} (off / 8))
  else if 0x4008 ≤ off ∧ off < 0xC000 then bindWord (h.binds.get {} (4096 + (off - 0x4000) / 8)) else 0

/-- MBX_STATUS of a mailbox page (R47). -/
def mbxStatus (m : Mailbox) : Nat :=
  let st := match m.state with | .idle => 0 | .busy => 1 | .done => 2
  place 63 48 m.stTag + place 47 32 m.result.length + place 31 16 m.status + place 5 5 (b2n m.approved) + place 4 4 (b2n m.aborted)
    + place 1 0 st

/-- MBX_INFO of a binding's page (R47); an unassigned or a twin binding's page reads 0 (R30, R36). -/
def mbxInfo (s : State) (b : BindId) : Nat :=
  let e := s.bindOf b
  if e.valid = false ∨ e.twin then 0 else
  let twin := !e.owner && e.valid && (s.ten e.tenant).twin.isSome
  place 32 32 (b2n twin) + place 31 30 (if !e.valid then 0 else if e.owner then 1 else 2) + place 29 29 b.port.num
    + place 11 0 e.tenant

/-! ### Queues, sealing, engines (03 to 05, 08) -/

/-- QP_CTX3.STATE. -/
def QpState.num : QpState → Nat
  | .free => 0 | .active => 1 | .stopped => 2 | .faulted => 3

/-- QP_CTX0 to QP_CTX3 of a queue pair. -/
def qpWord (q : QueuePair) (k : Nat) : Nat :=
  if k = 0 then place 63 12 (q.sqBase / 4096) + place 7 0 q.dbBad
  else if k = 1 then place 63 12 (q.cqBase / 4096) + place 11 4 q.coalTime
  else if k = 2 then place 63 48 q.sqTail + place 47 32 q.sqHead + place 31 16 q.cqTail + place 15 0 q.cqHead
  else place 63 61 q.state.num + place 60 60 (b2n q.cqPhase) + place 59 58 q.cls + place 57 57 q.bind.port.num + place 56 52 q.sqLog2
    + place 51 47 q.cqLog2 + place 46 36 q.vector + place 35 26 q.localIndex + place 25 14 q.tenant + place 13 6 q.coalCount

/-- Seal engines in a state that a test selects. -/
def sealCount (s : State) (f : SealEngine → Bool) : Nat := ((List.range 144).filter fun n => f (s.seng n)).length

/-- SEP_POOL_STATUS. -/
def sepPool (s : State) : Nat :=
  place 40 40 (b2n (dmdDegraded s)) + place 39 32 (sealCount s fun e => e.state == .retired)
    + place 31 24 (sealCount s fun e => e.state == .draining || e.state == .quarantined || e.state == .testing)
    + place 23 16 (sealCount s fun e => e.state == .inService && e.reserved) + place 15 8 (sealCount s fun e => e.state == .inService)

/-- SEP_ENG_INFO of an engine. -/
def sepEngInfo (e : SealEngine) : Nat :=
  place 63 32 e.failCount + place 23 16 e.lastCause + place 11 10 e.readmitFails + place 7 7 (b2n e.parked.isSome)
    + place 6 6 (b2n e.work.isSome) + place 5 4 (b2n e.reserved) + place 2 0 e.state.num

/-- Arith engines in a state that a test selects. -/
def arithCount (s : State) (f : ArithEngine → Bool) : Nat := ((List.range 24).filter fun n => f (s.aeng n)).length

/-- ARI_POOL_STATUS. -/
def ariPool (s : State) : Nat :=
  place 31 24 (arithCount s fun e => e.state == .retired)
    + place 23 16 (arithCount s fun e => e.state == .draining || e.state == .quarantined || e.state == .testing)
    + place 15 8 (arithCount s fun e => e.work.isSome) + place 7 0 (arithCount s fun e => e.state == .inService)

/-- ARI_ENG_INFO of an engine. -/
def ariEngInfo (e : ArithEngine) : Nat :=
  let w := e.work.getD { origin := .internal 0 }
  place 63 48 e.failCount + place 47 40 e.lastCause + place 39 38 e.readmitFails + place 37 36 e.invStrikes + place 35 29 w.slots
    + place 28 16 w.words + place 15 8 w.operation + place 6 6 (b2n e.work.isSome) + place 2 0 e.state.num

/-- DGT_UNIT_STATUS (R134): contexts in use, 8 of each unit. -/
def dgtUnits (s : State) : Nat :=
  (List.range 5).foldl (fun a u => a + place (8 * u + 7) (8 * u) (s.digests.filter fun e => e.1 / 8 == u).length) 0

/-! ### Vault, Agate unit, randomness, tenancy (06, 07, 09, 10) -/

/-- VLT_STATUS. -/
def vltStatus (s : State) : Nat :=
  let used := (s.slots.filter fun e => e.1 ≥ 256 && (e.2.active.isSome || e.2.resActive.isSome)).length
  place 41 41 (b2n s.zeroised) + place 40 40 (b2n !s.keyed) + place 39 39 (b2n s.cdk.isSome) + place 31 16 (recordsUsed s)
    + place 13 0 (16128 - used)

/-- AGT_STATUS. -/
def agtStatus (s : State) : Nat :=
  place 57 41 (s.agate.trees.filter fun e => e.2.state != .free).length + place 40 26 (stagedTotal s)
    + place 20 0 (pageLimit s - pagesUsed s)

/-- AGT_TREE_INFO and AGT_TREE_INFO2 of a tree. -/
def treeInfo (s : State) (n : Nat) : Nat :=
  let k := s.tree n
  let batch := ((s.agate.anchors.look? k.uid).map (·.batch)).getD 0
  if k.state = .free then 0
  else place 63 16 batch + place 15 13 k.state.num + place 12 4 k.staged.length + place 3 0 n
@[inherit_doc treeInfo] def treeInfo2 (s : State) (n : Nat) : Nat :=
  let k := s.tree n
  if k.state = .free then 0 else place 43 32 (n / 16) + place 12 0 k.pages.length

/-- Sources in a state, as a mask. -/
def sourceMask (s : State) (st : SrcState) : Nat :=
  (List.range 8).foldl (fun a n => a + b2n ((s.sources.get {} n).state == st) * 2 ^ n) 0

/-- RNG_STATUS. -/
def rngStatus (s : State) : Nat :=
  place 48 32 (48 * s.entropy.length) + place 31 24 (sourceMask s .retired) + place 23 16 (sourceMask s .healthy)
    + place 2 2 (b2n (s.regField R.RNG_TEST 1 0 != 0)) + place 1 0 (entropyState s)

/-- RNG_DRBG_INFO of an instance. -/
def drbgInfo (d : Drbg) : Nat :=
  place 63 62 (if d.inst = false then 0 else if d.requests ≥ 2 ^ 20 then 2 else 1) + place 52 21 d.reseeds + place 20 0 d.requests

/-- TEN_STATUS. -/
def tenStatus (s : State) : Nat :=
  let count := fun (f : TenState → Bool) => (s.tenants.filter fun e => f e.2.state).length
  place 44 32 (count (· != .free)) + place 28 16 (count (· == .active)) + place 12 0 (count (· == .quiescing))

/-- TEN_INFO of a tenant. -/
def tenInfo (s : State) (t : Nat) : Nat :=
  let c := s.ten t
  place 63 62 c.state.num + place 61 61 (b2n c.primary.isSome) + place 60 60 (b2n c.twin.isSome)
    + place 59 59 ((c.primary.map (·.port.num)).getD 0) + place 58 58 (b2n (c.pendingMark != .none))
    + place 57 47 (qpsOfTenant s t).length + place 46 33 (slotsHeld s t (.internal 0)) + place 32 28 (tenantTrees s t).length
    + place 27 21 (dmdOutstanding s false t) + place 20 5 c.spoofCount

/-- TEN_BUCKET of a tenant. -/
def tenBucket (c : Tenant) : Nat := place 63 32 (signed32 c.opBalance) + place 31 0 (signed32 (c.byteBalance / 1024))

/-! ### Power, boot, lifecycle, tamper (11 to 13, 22) -/

/-- PWR_STATUS. -/
def pwrStatus (s : State) : Nat :=
  place 39 32 s.moon.keepaliveUp + place 9 9 (s.regField R.PWR_STATUS 9 9) + place 8 8 (b2n s.moon.saltLost) + place 2 0 s.mode.num

/-- PWR_LIFE (R538, R539). -/
def pwrLife (s : State) : Nat :=
  let l := s.nor.life / 2250 % 2 ^ 31
  place 48 48 (b2n s.nor.overRated) + place 47 40 (min 255 (l * 100 / (350400 * 16))) + place 30 0 l

/-- BOOT_STATUS. -/
def bootStatus (s : State) : Nat :=
  let b := s.boot
  place 23 20 b.firstCode + place 19 16 b.code + place 15 11 b.step + place 10 10 (b2n s.approvedMode) + place 9 9 (b2n b.fallback)
    + place 8 8 (b2n b.imageB) + place 7 7 (b2n b.gateOpen) + place 6 6 (b2n b.halted) + place 2 2 (b2n b.trimOneBad)
    + place 1 1 (b2n b.trimCopyB) + place 0 0 (b2n b.loadDone)

/-- BOOT_IMAGE and BOOT_IMAGE_BUILD, from the header of the running image (R309). -/
def bootImage (s : State) : Nat :=
  let h := runningHeader s
  if fwRuns s then place 63 32 (u32 h 0x10) + place 17 16 (u8 h 5) + place 8 0 (u16 h 6) else 0
@[inherit_doc bootImage] def bootBuild (s : State) : Nat := if fwRuns s then u64 (runningHeader s) 8 else 0

/-- BOOT_PUF. -/
def bootPuf (s : State) : Nat :=
  let b := s.boot
  place 63 32 b.helperSeq + place 15 15 (b2n b.pufAbsent) + place 14 14 (b2n b.reenrolled) + place 13 13 (b2n b.pufOther)
    + place 5 0 b.corrected

/-- LCS_STATUS. -/
def lcsStatus (s : State) : Nat :=
  let l := s.lcs
  place 15 15 (b2n l.challenge.isSome) + place 14 14 (b2n l.busy) + place 13 13 (b2n (l.wipes != [])) + place 12 12 (b2n l.bCompleted)
    + place 11 9 l.copyB.num + place 8 6 l.copyA.num + place 5 3 s.fuses.floor + place 2 0 l.state

/-- DBG_STATUS. -/
def dbgStatus (s : State) : Nat :=
  let l := s.lcs
  place 31 16 l.lastStatus + place 15 8 l.authFails + place 2 2 (b2n (l.state == 5 || l.state == 7)) + place 1 1 (b2n l.unlocked)
    + place 0 0 (b2n (l.state ≤ 1))

/-- TMP_STATUS. -/
def tmpStatus (s : State) : Nat :=
  let t := s.tamper
  let w := s.regField R.TMP_MESH_CFG 15 8
  let ok := fun (h : List Bool) => (h.take w).all (!·)
  place 16 16 (b2n t.vbatAbsent) + place 15 15 (b2n t.xtalFail) + place 14 14 (b2n t.vbatLow)
    + place 13 13 (b2n (s.regField R.TMP_LATCH 13 0 != 0)) + place 7 7 (b2n (ok t.loop1Hist)) + place 6 6 (b2n (ok t.loop0Hist))
    + place 3 0 t.inLevel

/-! ### Wards, tokens, links, fabric (14 to 17) -/

/-- A mask of the wards that a test selects. -/
def wardMask (s : State) (f : Ward → Bool) : Nat := (List.range 16).foldl (fun a w => a + b2n (f (s.ward w)) * 2 ^ w) 0

/-- WRD_STATUS. -/
def wrdStatus (s : State) : Nat :=
  place 63 48 (wardMask s fun w => w.state == .failed) + place 47 32 (wardMask s fun w => w.state == .verifying || w.state == .recovering)
    + place 31 16 (wardMask s fun w => w.state == .running) + place 15 0 (wardMask s (·.wpg))

/-- WRD_INFO of a ward. -/
def wrdInfo (w : Ward) : Nat :=
  place 63 32 (if w.manifest = [] then 0 else u32 w.manifest 8) + place 31 16 w.lastStatus + place 15 8 (min 255 w.verifications)
    + place 7 7 (b2n w.staged.isSome) + place 6 6 (b2n w.addr4) + place 5 5 (b2n w.auxHigh) + place 4 4 (b2n w.rstHigh)
    + place 2 0 w.state.num

/-- WRD_BLOCK_COUNT and WRD_LAST_BLOCK of a ward. -/
def wrdBlocks (w : Ward) : Nat := place 63 32 w.other + place 31 0 w.modify
@[inherit_doc wrdBlocks] def wrdLast (w : Ward) : Nat :=
  place 47 40 w.blockOp + place 32 32 (b2n w.blockValid) + place 31 0 w.blockAddr

/-- TKN_STATUS. -/
def tknStatus (s : State) : Nat :=
  let two := fun (f : Nat → Bool) => b2n (f 0) + 2 * b2n (f 1)
  place 16 16 (b2n (s.bus 2).overflow) + place 15 8 (2 ^ (s.bus 2).cids.length - 1)
    + place 5 4 (two fun b => s.tkn.marks.any (·.bus == b)) + place 3 2 (two fun b => (s.bus b).failed)
    + place 1 0 (two fun b => (s.bus b).present)

/-- TKN_SOCKET_s. -/
def tknSocket (b : TknBus) : Nat :=
  place 63 48 b.lastStatus + place 47 46 b.resolved + place 31 0 ((b.cids.head?.map cidSerial).getD 0)

/-- SWL_STATUS. -/
def swlStatus (s : State) : Nat :=
  (List.range 8).foldl (fun a l =>
    let k := s.link l
    a + b2n (k.level == 2) * 2 ^ (40 + l) + b2n (k.level != 0 && !k.keepAlive) * 2 ^ (32 + l) + k.state.num * 2 ^ (4 * l)) 0

/-- FAB_STATUS. -/
def fabStatus (s : State) : Nat :=
  let f := s.fabric
  place 35 35 (s.regField R.FAB_STATUS 35 35) + place 34 34 (b2n f.tableFull) + place 33 33 (b2n f.isolated)
    + place 28 18 f.db.length + place 17 16 f.addrState + place 15 0 f.addr

/-- FAB_DOMAIN. -/
def fabDomain (s : State) : Nat :=
  let ps := (List.range s.fabric.peers.length).zip s.fabric.peers
  place 63 48 (ps.foldl (fun a e => a + b2n (reachable s e.2.id) * 2 ^ e.1) 0) + place 47 32 (2 ^ ps.length - 1) + place 3 0 s.fabric.q

/-- FAB_PEER_INFO of a listed peer. -/
def peerInfo (s : State) (p : Peer) : Nat :=
  place 63 48 ((s.fabric.db.look? p.id).map (·.addr) |>.getD 0) + place 47 32 p.naks + place 31 0 p.pushes

/-- FAB_ROUTE_INFO of an address. -/
def routeInfo (s : State) (addr : Nat) : Nat :=
  let r := routeTo s 1 addr
  let r0 := routeTo s 0 addr
  place 63 63 (b2n r.isSome) + place 55 48 ((r.map (·.cost)).getD 0) + place 47 40 ((r0.map (·.cost)).getD 0xFF)
    + place 39 36 ((r.map (·.link)).getD 0xF) + place 35 32 ((r0.map (·.link)).getD 0xF) + place 31 24 ((r.map (·.hops)).getD 0)

/-! ### Quartz, recorder, journal, memories (18 to 21) -/

/-- QTZ_STATUS. -/
def qtzStatus (s : State) : Nat :=
  let q := s.quartz
  let other := match imgState s (1 - b2n s.boot.imageB) with | .invalid => 0 | .valid => 1 | .staged => 2
  place 39 32 q.eid + place 31 24 q.wdtResets + place 19 18 other + place 17 16 (b2n q.i3c) + place 8 8 (b2n (fwRuns s)) + place 6 0 q.dynAddr

/-- QTZ_ALERT. -/
def qtzAlert (s : State) : Nat :=
  let q := s.quartz
  place 5 5 (b2n q.alertStaged) + place 4 4 (b2n s.fabric.isolated) + place 3 3 (b2n s.tamper.vbatLow)
    + place 2 2 (b2n (entropyState s == 2)) + place 1 1 (b2n q.alertWatchdog) + place 0 0 (b2n q.alertSensor)

/-- The level of ALERT_N, low when asserted (R446): level bits whatever the enables hold. -/
def alertN (s : State) : Bool :=
  let a := qtzAlert s
  !(s.boot.gateOpen && (field a 4 2 != 0 || (a &&& s.reg R.QTZ_ALERT_EN) != 0))

/-- SNS_VALUE and SNS_LIMIT of a sensor. -/
def snsValue (s : State) (x : Sensor) : Nat :=
  place 63 40 (int24 x.max) + place 39 16 (int24 x.value) + place 7 7 (b2n x.out) + place 6 0 (min 127 ((s.clk - x.taken) / 100000))
@[inherit_doc snsValue] def snsLimit (x : Sensor) : Nat :=
  place 63 40 (int24 x.high) + place 39 16 (int24 x.low) + place 0 0 (b2n x.en)

/-- SNS_STATUS. -/
def snsStatus (s : State) : Nat := (List.range 57).foldl (fun a n => a + b2n (s.sensor n).out * 2 ^ n) 0

/-- EVR_STATUS. -/
def evrStatus (s : State) : Nat :=
  let r := s.recorder
  place 51 36 r.clearSeq + place 35 29 r.fifo.length + place 28 28 (b2n r.clearing) + place 26 26 (b2n r.logFull)
    + place 25 25 (b2n r.compat) + place 19 0 r.head

/-- EVR_CODE_INFO of a code. -/
def evrCode (s : State) (c : Nat) : Nat :=
  let k := s.recorder.counts.get {} c
  if codeListed c then place 63 48 k.suppressed + place 47 32 k.dropped + place 5 0 (s.evrTokens c) else 0

/-- Positions of the whole checkpoints in the ring. -/
def wholeCkpts (s : State) : List Nat :=
  (s.amber.ring.filter fun e => e.ty == 1 && (s.amber.whole.look? e.pos).isSome).map (·.pos)

/-- GiB of sealed memory that the ring takes: none while LEVEL is OFF (R482, R499). -/
def ringGib (s : State) : Nat := if s.regField R.AMB_CFG 1 0 = 0 then 0 else s.ambCapacity / 117440512

/-- Whether a line of the ring is poisoned, or lies below a node that failed (R497). -/
def ringPoisoned (s : State) : Bool :=
  s.mem.poisoned.any fun e => decide (352321536 - 16777216 * ringGib s < e.1 + e.2 ∧ e.1 < 352321536)

/-- AMB_STATUS. -/
def ambStatus (s : State) : Nat :=
  let a := s.amber
  place 63 48 a.freezeCode + place 47 32 a.ckpts + place 5 5 (b2n a.overrun) + place 4 4 (b2n a.wrapped)
    + place 3 3 (b2n (wholeCkpts s != [] && !ringPoisoned s)) + place 2 2 (b2n (s.mode == .replay)) + place 1 1 (b2n a.triggered) + place 0 0 (b2n a.frozen)

/-- A mask of the banks whose operations a test selects. -/
def bankMask (s : State) (f : NorOp → Bool) : Nat :=
  (List.range 4).foldl (fun a b => a + b2n (s.nor.ops.any fun p => p.bank == b && f p) * 2 ^ b) 0

/-- NVM_STATUS. -/
def nvmStatus (s : State) : Nat :=
  place 31 16 s.nor.last + place 10 10 (b2n s.nor.remapFull) + place 9 8 (execBank s) + place 7 4 (bankMask s (·.suspended))
    + place 3 0 (bankMask s fun p => !p.suspended)

/-- NVM_REFRESH. -/
def nvmRefresh (s : State) : Nat :=
  place 63 32 (s.nor.eqAge / 3600000) + place 31 24 s.nor.passes + place 21 21 (b2n s.nor.passActive) + place 14 0 s.nor.nextSector

/-- MEM_STATUS. -/
def memStatus (s : State) : Nat :=
  place 63 32 (min (2 ^ 32 - 1) (s.mem.poisoned.foldl (fun a e => a + e.2) 0)) + place 2 2 (b2n s.mem.selfRefresh) + place 1 1 (b2n s.mem.keys.isSome) + place 0 0 (b2n s.mem.trained)

/-- MEM_POOL (R499). -/
def memPool (s : State) : Nat :=
  place 47 32 (if s.ambLevel = 0 then 0 else s.ambCapacity / 117440512) + place 20 0 (pageHigh s)

/-! ### The whole map -/

/-- A list of (address, value) views looked up at an address; an address not listed shows the word held. -/
def lookView (s : State) (a : Nat) : List (Nat × (Unit → Nat)) → Nat
  | [] => s.reg a
  | (k, v) :: r => if a = k then v () else lookView s a r

/-- The registers of blocks QP_ to TEN_. -/
def viewLow (s : State) (a : Nat) : Nat :=
  let q := s.qp (s.reg R.QP_SEL)
  let eng := s.reg R.SEP_ENG_SEL
  let ari := s.reg R.ARI_ENG_SEL
  let tree := s.reg R.AGT_TREE_SEL
  let slot := s.reg R.VLT_SLOT_SEL
  let t := s.reg R.TEN_SEL
  lookView s a
    [(R.QP_CTX0, fun _ => qpWord q 0), (R.QP_CTX1, fun _ => qpWord q 1), (R.QP_CTX2, fun _ => qpWord q 2), (R.QP_CTX3, fun _ => qpWord q 3),
     (R.SCH_DMD_STAT, fun _ => withField (s.reg a) 6 0 (min 64 (dmdJobs s).length)),
     (R.SEAL_CAP, fun _ => place 47 40 1 + place 39 16 65536 + place 11 8 14 + place 1 0 3),
     (R.SEAL_MAN_POOL, fun _ => withField (s.reg a) 12 0 s.manifests.length),
     (R.SEP_POOL_STATUS, fun _ => sepPool s), (R.SEP_ENG_INFO, fun _ => if eng > 143 then 0 else sepEngInfo (s.seng eng)),
     (R.DGT_UNIT_STATUS, fun _ => dgtUnits s),
     (R.DGT_MLOG_STATUS, fun _ => place 48 48 (b2n s.measOverflow) + place 47 32 s.measLog.length + place 31 0 s.measNext),
     (R.VLT_STATUS, fun _ => vltStatus s), (R.VLT_SLOT_ATTR, fun _ => activeWord s slot), (R.VLT_SLOT_PEND, fun _ => pendingWord s slot),
     (R.VLT_CDK_INFO, fun _ => (s.cdk.map fun k => leNat (kcv k)).getD 0),
     (R.AGT_STATUS, fun _ => agtStatus s), (R.AGT_JOURNAL, fun _ => place 63 32 s.agate.jseq + place 31 14 s.agate.head),
     (R.AGT_JOURNAL_LIVE, fun _ => place 49 32 s.agate.anchors.length + place 16 0 (s.agate.anchors.filter fun e => isShredded e.2).length),
     (R.AGT_RATE, fun _ => withField (s.reg a) 5 0 s.agate.tokens), (R.AGT_TREE_INFO, fun _ => treeInfo s tree),
     (R.AGT_TREE_INFO2, fun _ => treeInfo2 s tree), (R.AGT_TREE_UID, fun _ => (s.tree tree).uid),
     (R.ARI_POOL_STATUS, fun _ => ariPool s), (R.ARI_ENG_INFO, fun _ => if ari > 23 then 0 else ariEngInfo (s.aeng ari)),
     (R.RNG_STATUS, fun _ => rngStatus s),
     (R.RNG_DRBG_INFO, fun _ => let n := s.reg R.RNG_DRBG_SEL; if n > 4159 then 0 else drbgInfo (s.drbgs.get {} n)),
     (R.TEN_STATUS, fun _ => tenStatus s), (R.TEN_INFO, fun _ => tenInfo s t), (R.TEN_BUCKET, fun _ => tenBucket (s.ten t))]

/-- The registers of blocks PWR_ to FAB_. -/
def viewMid (s : State) (a : Nat) : Nat :=
  let w := s.ward (s.reg R.WRD_SEL)
  let k := s.link (s.reg R.SWL_SEL)
  let peer := s.fabric.peers[s.reg R.FAB_PEER_SEL]?
  let addr := s.reg R.FAB_ROUTE_SEL
  lookView s a
    [(R.PWR_STATUS, fun _ => pwrStatus s), (R.PWR_IMAGE, fun _ => place 63 32 s.moon.dseq + place 0 0 (b2n s.moon.imageValid)),
     (R.PWR_IMAGE_SIZE, fun _ => imageSize s), (R.PWR_LIFE, fun _ => pwrLife s),
     (R.BOOT_STATUS, fun _ => bootStatus s), (R.BOOT_IMAGE, fun _ => bootImage s), (R.BOOT_IMAGE_BUILD, fun _ => bootBuild s),
     (R.BOOT_FUSE, fun _ => place 19 16 s.fuses.keyRevoke + place 15 13 s.fuses.floor + place 8 0 s.fuses.svn),
     (R.BOOT_DEVICE_ID, fun _ => s.fuses.deviceId), (R.BOOT_PUF, fun _ => bootPuf s),
     (R.BOOT_SELFTEST, fun _ => place 15 8 s.boot.routeFailed + place 7 4 s.boot.dguFailed),
     (R.LCS_STATUS, fun _ => lcsStatus s),
     (R.LCS_VHOLD, fun _ => place 32 32 (b2n s.lcs.vholdOk) + place 31 16 800 + place 15 0 s.lcs.vholdMv),
     (R.DBG_STATUS, fun _ => dbgStatus s), (R.TMP_STATUS, fun _ => tmpStatus s),
     (R.WRD_STATUS, fun _ => wrdStatus s), (R.WRD_INFO, fun _ => wrdInfo w), (R.WRD_BLOCK_COUNT, fun _ => wrdBlocks w),
     (R.WRD_LAST_BLOCK, fun _ => wrdLast w), (R.TKN_STATUS, fun _ => tknStatus s), (R.TKN_SOCKET_s, fun _ => tknSocket (s.bus 0)),
     (R.TKN_SOCKET_s + 8, fun _ => tknSocket (s.bus 1)), (R.TKN_CEREMONY, fun _ => ceremonyWord s),
     (R.SWL_STATUS, fun _ => swlStatus s), (R.SWL_INFO, fun _ => swlInfo k), (R.SWL_PARTNER, fun _ => k.partner),
     (R.SWL_SESSION, fun _ => swlSession s k), (R.SWL_FRAME_COUNT, fun _ => swlFrames k), (R.SWL_FEC_COUNT, fun _ => swlFec k),
     (R.FAB_STATUS, fun _ => fabStatus s), (R.FAB_DOMAIN, fun _ => fabDomain s), (R.FAB_PEER_ID, fun _ => (peer.map (·.id)).getD 0),
     (R.FAB_PEER_INFO, fun _ => (peer.map (peerInfo s)).getD 0), (R.FAB_ROUTE_INFO, fun _ => routeInfo s addr),
     (R.FAB_ROUTE_ID, fun _ => (nodeAt s addr).getD 0),
     (R.FAB_REPL_STORE, fun _ => place 44 32 s.fabric.holders.length
        + place 28 16 ((cfgStanding s).filter fun r => r.ty == 3).length + place 8 0 s.fabric.replLog.length)]

/-- The registers of blocks QTZ_ to SNS_. -/
def viewHigh (s : State) (a : Nat) : Nat :=
  let n := s.reg R.SNS_SEL
  let x := s.sensor n
  lookView s a
    [(R.QTZ_STATUS, fun _ => qtzStatus s), (R.QTZ_ALERT, fun _ => qtzAlert s),
     (R.SNS_VALUE, fun _ => if n > 56 then 0 else snsValue s x), (R.SNS_LIMIT, fun _ => if n > 56 then 0 else snsLimit x),
     (R.SNS_STATUS, fun _ => snsStatus s), (R.EVR_STATUS, fun _ => evrStatus s), (R.EVR_CKPT, fun _ => s.recorder.ckpt),
     (R.EVR_CODE_INFO, fun _ => evrCode s (s.reg R.EVR_CODE_SEL)), (R.AMB_STATUS, fun _ => ambStatus s),
     (R.AMB_CFG, fun _ => if s.amber.forcedOff then withField (s.reg a) 1 0 0 else s.reg a),
     (R.AMB_WINDOW_START, fun _ => (wholeCkpts s).headD 0), (R.AMB_WINDOW_HEAD, fun _ => if s.mode = .replay then s.amber.replayFrom else s.amber.head),
     (R.NVM_STATUS, fun _ => nvmStatus s), (R.NVM_REFRESH, fun _ => nvmRefresh s),
     (R.NVM_ERR_COUNT, fun _ => withField (s.reg a) 7 0 (min 255 s.nor.remap.length)),
     (R.NVM_CFG_AREA, fun _ => place 42 32 (cfgFree s) + place 13 0 (cfgStanding s).length),
     (R.MEM_STATUS, fun _ => memStatus s), (R.MEM_POOL, fun _ => memPool s)]

/-- The value a read of a register returns at an offset of the control-block region of a port (R34, R36, R37), without the
read's side effects. -/
def readDev (s : State) (portB : Bool) (a : Nat) : Nat :=
  let h := if portB then s.portB else s.portA
  if a < 0x8000 then viewHpt h a
  else if a < 0x10000 then viewMbx h (a - 0x8000)
  else if a < 0x20000 then viewFn h (a - 0x10000)
  else if 0x70100 ≤ a ∧ a < 0x70200 then
    (if a % 16 = 0 then (Config.romRuleRange ((a - 0x70100) / 16)).toNat else (Config.romRuleMatch ((a - 0x70100) / 16)).toNat)
  else if a < 0x78000 then viewLow s a
  else if a < 0xC0000 then viewMid s a
  else if a < 0xF0000 then viewHigh s a
  else 0

end Sys2Proof.Machine
end

