-- ==== Sys2Proof/Machine/Events.lean ====
section
/-! DEFINITION. The Amber journal's capture of an entry (20 R479 to R482, R485) and the event recorder's admission of
an event (19 R458, R465 to R468). Every rule that "records an event" goes through `recordEvent`. -/

namespace Sys2Proof.Machine

/-! ### Amber capture -/

/-- Drop the oldest whole entries until the ring fits its capacity (R482). -/
def ambTrim (cap head : Nat) : List AmbEntry → List AmbEntry
  | [] => []
  | e :: r => if head - e.pos > cap then ambTrim cap head r else e :: r

/-- Append one entry at the head of the ring, with the TIME entry that a stream writes before it when bits above 35
of the capture clock changed (R480, R481). In HUSH its 72-bit words take their place in the staging buffer (R286). -/
def ambAppend (s : State) (ty island : Nat) (body : List Nat) : State :=
  let a := s.amber
  let t := s.clk - a.start
  let hi := t / 2 ^ 36
  let low := t % 2 ^ 36
  let tEntry : List AmbEntry :=
    if a.high.get 0 island = hi then [] else [{ ty := 0x04, island := island, time := low, body := [hi], pos := a.head }]
  let h1 := a.head + 2 * tEntry.length
  let e : AmbEntry := { ty := ty, island := island, time := low, body := body, pos := h1 }
  let h2 := h1 + 1 + body.length
  let ring := a.ring ++ tEntry ++ [e]
  let ring' := ambTrim s.ambCapacity h2 ring
  { s with amber := { a with ring := ring', head := h2, high := a.high.put 0 island hi,
                             wrapped := a.wrapped || ring'.length < ring.length }
           moon := { s.moon with staging := if s.mode = .hush then s.moon.staging + 9 * (h2 - a.head) else s.moon.staging } }

/-- Capture an entry when the level asks for it and the capture has not stopped (R479, R485). -/
def capture (s : State) (ty island : Nat) (body : List Nat) : State :=
  if s.ambLevel = 0 ∨ s.amber.frozen ∨ s.mode = .replay ∨ (ty = 0x13 ∧ s.ambLevel < 2) then s
  else ambAppend s ty island body

/-- The stream of a merge point's crossing tokens: the island that takes the messages (R477, R478). -/
def mpIsland (mp inst : Nat) : Nat :=
  if mp = 0x01 ∨ mp = 0x0F then 16
  else if mp = 0x06 ∨ mp = 0x07 then 13
  else if mp = 0x08 ∨ mp = 0x0E then inst
  else if mp = 0x09 then 12
  else if mp = 0x0A ∨ mp = 0x0C then 18
  else if mp = 0x0B then 19
  else if mp = 0x0D ∨ mp = 0x10 then 15
  else 14

/-- Record an arbitration outcome as a crossing token (R18, R477, R481): the merge point, its instance, the winning input and
the candidates that waited. Inputs are numbered in the order in which R477 names them, or by the number of what they come
from; the candidates are a count (DESIGN CHOICE, assumption 171). -/
def crossing (s : State) (mp inst input cands : Nat) : State :=
  capture s 0x30 (mpIsland mp inst) [place 63 56 mp + place 55 48 inst + place 47 32 input + place 31 16 cands]

/-- A timer of an island expires and is taken as a candidate (R477). -/
def timerTaken (s : State) (island : Nat) : State := crossing s 0x0E island 0 1

/-- Discard the ring and start a new capture with its clock at 0 (R482, R485). -/
def ambRestart (s : State) : State := { s with amber := { start := s.clk } }

/-- Stop the capture: every stream writes FREEZE (R485). -/
def ambFreeze (s : State) (code : Nat) : State :=
  if s.amber.frozen then s else
  let s1 := (List.range 21).foldl (fun t i => capture t 0x3F i [code]) s
  { s1 with amber := { s1.amber with frozen := true, freezeTime := s.time } }

/-- Whether a valid trigger matches an event code (R485). -/
def ambTriggerHit (s : State) (code : Nat) : Bool :=
  (List.range 8).any fun n =>
    let w := s.reg (R.AMB_TRIG_n + 8 * n)
    w.testBit 32 && (code &&& field w 31 16) == (field w 15 0 &&& field w 31 16)

/-- The trigger check of R485, made when the recorder takes an event. -/
def ambTrigger (s : State) (code : Nat) : State :=
  if s.amber.triggered = false ∧ s.ambLevel ≠ 0 ∧ ambTriggerHit s code = true then
    { s with amber := { s.amber with triggered := true, freezeCode := code } }
  else s

/-! ### Event codes and profiles -/

/-- The exempt codes (R467). -/
def codeExempt (c : Nat) : Bool := [0x8C01, 0x8C02, 0x8C06, 0x8C07, 0x8C0E].contains c

/-- A selector of a trigger profile (R465): PORT_B, INDEXED, the register's address. -/
structure Selector where
  portB : Bool
  indexed : Bool
  addr : Nat

/-- Profiles 0 to 3, in mask ROM (R465). -/
def romProfile : Nat → List Selector
  | 1 => [⟨false, false, R.HPT_LINK_STATUS⟩, ⟨false, false, R.HPT_ERR_STATUS⟩, ⟨true, false, R.HPT_LINK_STATUS⟩,
      ⟨true, false, R.HPT_ERR_STATUS⟩, ⟨false, false, R.TEN_STATUS⟩, ⟨false, false, R.TEN_SPOOF⟩,
      ⟨false, false, R.SCH_DMD_STAT⟩, ⟨false, false, R.CLR_FAULT_INFO⟩, ⟨false, false, R.CLR_FAULT_LINE⟩]
  | 2 => [⟨false, false, R.SEP_POOL_STATUS⟩, ⟨false, true, R.SEP_ENG_INFO⟩, ⟨false, false, R.SEP_RERUN_COUNT⟩,
      ⟨false, false, R.ARI_POOL_STATUS⟩, ⟨false, true, R.ARI_ENG_INFO⟩, ⟨false, false, R.ARI_ERR_COUNT⟩,
      ⟨false, false, R.RNG_STATUS⟩]
  | 3 => [R.PWR_STATUS, R.PWR_WAKE_CAUSE, R.BOOT_STATUS, R.LCS_STATUS, R.TMP_STATUS, R.TMP_LATCH, R.TMP_MESH_COUNT,
      R.RNG_STATUS, R.VLT_STATUS, R.SWL_STATUS, R.FAB_STATUS, R.WRD_STATUS, R.SNS_STATUS].map (fun a => ⟨false, false, a⟩)
  | _ => []

/-- The valid selectors of a profile of the owner's configuration block (R465, R470). -/
def ownerProfile (cfg : Bytes) (p : Nat) : List Selector :=
  (((List.range 24).map fun k => u32 cfg ((p - 4) * 96 + 4 * k)).filter (fun v => v.testBit 31)).map fun v =>
    ⟨v.testBit 18, v.testBit 17, field v 16 0 * 8⟩

/-- The selectors of a profile. -/
def profileSel (cfg : Bytes) (p : Nat) : List Selector := if p < 4 then romProfile p else ownerProfile cfg p

/-- The ROM map (R466). -/
def romMap (c : Nat) : Nat :=
  let h := c / 256
  if h = 0x81 ∨ h = 0x89 ∨ h = 0x8E then 1
  else if h = 0x84 ∨ h = 0x85 ∨ h = 0x86 ∨ h = 0x8D then 2
  else if h = 0x8B ∨ h = 0x8C then 3 else 0

/-- The profile of an event: the first valid owner map entry that matches, else the ROM map (R466). -/
def profileOf (cfg : Bytes) (c : Nat) : Nat :=
  match (List.range 64).find? (fun k =>
      let e := slice cfg (1152 + 8 * k) 8
      bitOf (u8 e 5) 0 && (c &&& u16 e 2) == (u16 e 0 &&& u16 e 2)) with
  | some k => u8 cfg (1152 + 8 * k + 4)
  | none => romMap c

/-- The _SEL register that indexes a register, if any. -/
def selOf (a : Nat) : Option Nat :=
  if a = R.QP_CTX0 ∨ a = R.QP_CTX1 ∨ a = R.QP_CTX2 ∨ a = R.QP_CTX3 then some R.QP_SEL
  else if a = R.SEP_ENG_INFO then some R.SEP_ENG_SEL
  else if a = R.DGT_MR_INFO ∨ (R.DGT_MR_WORD_k ≤ a ∧ a < R.DGT_MR_WORD_k + 64) then some R.DGT_MR_SEL
  else if a = R.VLT_SLOT_ATTR ∨ a = R.VLT_SLOT_PEND then some R.VLT_SLOT_SEL
  else if a = R.AGT_TREE_INFO ∨ a = R.AGT_TREE_INFO2 ∨ a = R.AGT_TREE_UID then some R.AGT_TREE_SEL
  else if a = R.ARI_ENG_INFO then some R.ARI_ENG_SEL
  else if a = R.RNG_DRBG_INFO then some R.RNG_DRBG_SEL
  else if a = R.TEN_INFO ∨ a = R.TEN_BUCKET then some R.TEN_SEL
  else if a = R.WRD_INFO ∨ a = R.WRD_BLOCK_COUNT ∨ a = R.WRD_LAST_BLOCK then some R.WRD_SEL
  else if a = R.SWL_INFO ∨ a = R.SWL_PARTNER ∨ a = R.SWL_SESSION ∨ a = R.SWL_FRAME_COUNT ∨ a = R.SWL_FEC_COUNT then
    some R.SWL_SEL
  else if a = R.FAB_PEER_ID ∨ a = R.FAB_PEER_INFO then some R.FAB_PEER_SEL
  else if a = R.FAB_ROUTE_INFO ∨ a = R.FAB_ROUTE_ID then some R.FAB_ROUTE_SEL
  else if a = R.EVR_CODE_INFO then some R.EVR_CODE_SEL
  else if a = R.SNS_VALUE ∨ a = R.SNS_LIMIT then some R.SNS_SEL
  else none

/-- The subject of an event, which an INDEXED selector reads (R465). -/
def subjectOf (c : Nat) (params : List Nat) : Nat :=
  if 0x8C00 ≤ c ∧ c ≤ 0x8EFF then params.getD 0 0 else params.getD 3 0

/-- A snapshot word: the payload with its check bits above it (R4, R463). -/
def word72 (v : Nat) : Nat := v + (Config.checkBits v).toNat * 2 ^ 64

/-- Whether a 72-bit word carries the check bits of its payload. -/
def wordClean (w : Nat) : Bool := Config.checkBits (w % 2 ^ 64) == BitVec.ofNat 8 (w / 2 ^ 64)

/-- What the block that reads a 72-bit word gets (R3): its payload, with one wrong bit put right; none is the uncorrectable
fault of that block. No row of the table flips a stored bit, so the words the model keeps as payloads read clean; the rows
that report such a fault from outside are ENGINE_ATTEMPT_FAIL and ARITH_ENGINE_FAULT (assumption 192). -/
def readWord72 (w : Nat) : Option Nat :=
  if wordClean w then some (w % 2 ^ 64)
  else ((List.range 72).find? fun i => wordClean (w ^^^ 2 ^ i)).map fun i => (w ^^^ 2 ^ i) % 2 ^ 64

/-- The snapshots of an event (R465). -/
def snapshots (s : State) (c : Nat) (params : List Nat) (p : Nat) : List Nat :=
  (profileSel s.recorder.config p).map fun sel =>
    let s' := match (if sel.indexed then selOf sel.addr else none) with
      | some r => s.setReg r (subjectOf c params)
      | none => s
    word72 (if sel.addr = R.RNG_RAW then 0 else readDev s' sel.portB sel.addr)

/-! ### Admission -/

/-- First record index of the last record sector (R471, R473). -/
def State.logLast (s : State) : Nat := if s.recorder.compat then 524032 - 128 else 65504 - 16

/-- Count an event of a code as dropped. -/
def evrDrop (s : State) (c : Nat) : State :=
  let k := s.recorder.counts.get {} c
  { s with recorder := { s.recorder with counts := s.recorder.counts.put {} c { k with dropped := satInc 16 k.dropped } } }

/-- Count an event of a code as suppressed. -/
def evrSuppress (s : State) (c : Nat) : State :=
  let k := s.recorder.counts.get {} c
  { s with recorder :=
      { s.recorder with counts := s.recorder.counts.put {} c { k with suppressed := satInc 16 k.suppressed } } }

/-- Append an admitted event to the FIFO, with the counts it carries (R467). -/
def evrAppend (s : State) (c : Nat) (params : List Nat) (firmware late : Bool) : State :=
  let k := s.recorder.counts.get {} c
  let p := profileOf s.recorder.config c
  let e : EvEntry := { code := c, time := s.time, params := params, profile := p, snaps := snapshots s c params p,
                       suppressed := k.suppressed, dropped := k.dropped, firmware := firmware, late := late }
  let used := if codeExempt c then k.used else k.used + 1
  { s with recorder := { s.recorder with
      counts := s.recorder.counts.put {} c { used := used, suppressed := 0, dropped := 0 }
      fifo := s.recorder.fifo ++ [e] } }

/-- The admission of R467, in its order. -/
def evrAdmit (s : State) (c : Nat) (params : List Nat) (firmware late : Bool) : State :=
  let n := s.recorder.fifo.length
  if (s.recorder.logFull ∧ codeExempt c = false) ∨ s.recorder.head ≥ s.logSize then
    (evrDrop s c).incRegField R.EVR_DROP_COUNT 19 8
  else if codeExempt c = false ∧ s.evrTokens c = 0 then
    (evrSuppress s c).incRegField R.EVR_DROP_COUNT 63 32
  else if n ≥ 64 ∨ (n ≥ 60 ∧ codeExempt c = false) then
    (evrDrop s c).incRegField R.EVR_DROP_COUNT 31 20
  else evrAppend s c params firmware late

/-- Take one event at the recorder's merge point: the code check of R458, the journalled outcome (R467), the trigger
check (R485), then admission. -/
def takeEvent (s : State) (c : Nat) (params : List Nat) (firmware late : Bool) : State :=
  if codeAccepted firmware c = false then s.incRegField R.EVR_DROP_COUNT 7 0
  else evrAdmit (ambTrigger (crossing s 0x0B 0 (c / 256 % 256) 1) c) c params firmware late

/-- Whether an event raised now is recorded only at the next start, and carries LATE (R461). -/
def raisedLate (s : State) : Bool := s.mode == .dormant

/-- Record a hardware event with PARAM0 to PARAM2 (R460). -/
def recordEvent (s : State) (c : Nat) (p0 p1 p2 : Nat) : State :=
  takeEvent s c [p0 % 2 ^ 32, p1 % 2 ^ 32, p2 % 2 ^ 32, 0] false (raisedLate s)

/-- PARAM1 of a status event: the tenant, the owner, or internal work (R459). -/
def whoParam (o : Origin) (owner : Bool) (tenant : Nat) : Nat :=
  match o with
  | .internal _ => 0xF002
  | _ => if owner then 0xF001 else tenant

/-- PARAM2 of a status event (R459). -/
def whereParam (o : Origin) (b : BindId) : Nat :=
  match o with
  | .mailbox m => m.n % 2 ^ 16 + m.port.num * 2 ^ 16 + 2 ^ 31
  | .queue q _ => q % 2 ^ 16 + b.port.num * 2 ^ 16
  | .internal _ => 0

/-- Record the event of a status for a command (R459). -/
def recordStatus (s : State) (st : Nat) (j : Job) (p3 : Nat) : State :=
  takeEvent s st [j.code, whoParam j.origin j.owner j.tenant, whereParam j.origin j.bind, p3 % 2 ^ 32] false (raisedLate s)

/-- Record the event of a status that belongs to no command (R459). -/
def recordStatusFree (s : State) (st who p3 : Nat) : State := takeEvent s st [0, who, 0, p3 % 2 ^ 32] false (raisedLate s)

end Sys2Proof.Machine
end

