-- ==== Sys2Proof/Machine/OperandMem.lean ====
section
/-! DEFINITION. The operand memory of an arith engine (08 R211 to R213, R218 to R220): limbs with guard bits, lanes of
coefficients, the operand slot table, the wipe, and the return wrap of a key bound for the vault. -/

namespace Sys2Proof.Machine

/-! ### Limb mode (R212) -/

/-- The `n` digits of an integer, least significant first. -/
def limbs (n v : Nat) : List Nat := (List.range n).map fun k => v / 2 ^ (64 * k) % 2 ^ 64

/-- The value of a run of words, guard bits included. -/
def limbValue : List Nat → Nat
  | [] => 0
  | w :: r => w + 2 ^ 64 * limbValue r

/-- One step of a multiply-accumulate chain: a partial product's digit is added into each column. -/
def addColumns (acc ps : List Nat) : List Nat := List.zipWith (fun w p => (w + p) % 2 ^ 72) acc ps

/-- The guard bits of each word move into the digit above and are cleared; `c` comes from below. -/
def normaliseFrom (c : Nat) : List Nat → List Nat
  | [] => []
  | w :: r => (w + c) % 2 ^ 64 :: normaliseFrom ((w + c) / 2 ^ 64) r

/-- Normalisation of a run of words. -/
def normalise (ws : List Nat) : List Nat := normaliseFrom 0 ws

/-- A chain of partial products, normalised before a 256th would be added into a column; `k` counts those added since. -/
def columnChain (acc : List Nat) : Nat → List (List Nat) → List Nat
  | _, [] => normalise acc
  | k, p :: ps => if k < 255 then columnChain (addColumns acc p) (k + 1) ps else columnChain (addColumns (normalise acc) p) 1 ps

/-- Digits of the integers of a CLASS and SIZE. -/
def limbCount (cls size : Nat) : Nat :=
  if cls = 6 then (if size = 0 then 6 else 9) else if cls = 9 then (if size = 0 then 48 else 64) else 7

/-! ### Lane mode (R213) -/

/-- Whether a CLASS is computed in lane mode. -/
def laneClass (cls : Nat) : Bool := cls == 10 || cls == 11

/-- Lanes per word, bits per lane and words per polynomial of a CLASS; q. -/
def laneCount (cls : Nat) : Nat := if cls = 10 then 3 else 6
@[inherit_doc laneCount] def laneBits (cls : Nat) : Nat := if cls = 10 then 24 else 12
@[inherit_doc laneCount] def polyWordCount (cls : Nat) : Nat := if cls = 10 then 86 else 43
@[inherit_doc laneCount] def laneModulus (cls : Nat) : Nat := if cls = 10 then 8380417 else 3329

/-- A word of coefficients: lane 0 in the low bits, lanes without a coefficient 0. -/
def packLanes (bits : Nat) : List Nat → Nat
  | [] => 0
  | c :: r => c % 2 ^ bits + 2 ^ bits * packLanes bits r

/-- The words of a polynomial of 256 coefficients, each reduced to [0, q). -/
def polyWords (cls : Nat) (coeff : Nat → Nat) : List Nat :=
  (List.range (polyWordCount cls)).map fun w =>
    packLanes (laneBits cls) (((List.range (laneCount cls)).map (laneCount cls * w + ·)).filter (· < 256) |>.map fun j => coeff j % laneModulus cls)

/-- Coefficient `j` of a polynomial in words: word ⌊j ÷ lanes⌋, lane j mod lanes. -/
def polyCoeff (cls : Nat) (ws : List Nat) (j : Nat) : Nat :=
  listGet 0 ws (j / laneCount cls) / 2 ^ (laneBits cls * (j % laneCount cls)) % 2 ^ laneBits cls

/-! ### The operand slot table (R211) -/

/-- The lengths of `n` operand slots that share `u` units of 8 words, each of 1 to 64 units and the first of at least `need`;
`pick` makes the choices that the manual leaves to the operation ROM. -/
def slotUnits (pick : Nat → Nat) : Nat → Nat → Nat → List Nat
  | 0, _, _ => []
  | n + 1, u, need =>
    let lo := max need (u - 64 * n)
    let k := lo + pick n % (min 64 (u - n) - lo + 1)
    k :: slotUnits pick n (u - k) 1

/-- The bases and lengths, in words, of slots laid one after another. -/
def slotTable (base : Nat) : List Nat → List (Nat × Nat)
  | [] => []
  | k :: r => (base, 8 * k) :: slotTable (base + 8 * k) r

/-- Whether a sequencer access of a word stays inside the operand slot it names; one that does not is an engine fault with
LAST_CAUSE 0x09. -/
def inOperandSlot (e : ArithEngine) (os word : Nat) : Bool :=
  let r := listGet (0, 0) e.table os
  decide (r.1 ≤ word ∧ word < r.1 + r.2)

/-- The words that the private key delivered takes in the first operand slot: the integer's digits, or a polynomial. -/
def keyWords (cls size : Nat) (priv : Bytes) : List Nat :=
  if laneClass cls then polyWords cls (Config.keyCoeff cls priv)
  else if cls = 9 then limbs (limbCount 9 size) (beNat (priv.take (8 * limbCount 9 size)))
  else limbs (limbCount cls size) (if cls = 6 then beNat priv else leNat priv)

/-! ### The wipe (R220) -/

/-- The wipe of an engine: every word, the slot table, RK, the key registers, the hash states; its sequencer rests. -/
def wiped (e : ArithEngine) : ArithEngine :=
  { e with mem := [], table := [], rk := [], keys := [], sha := [], keccak := [], step := 0 }

/-- The engine without its job, wiped. -/
def restArith (e : ArithEngine) : ArithEngine := { wiped e with work := none }

/-! ### Release (R213, R219) -/

/-- Bytes of a result in one word: a digit of 8, or in lane mode the whole word. -/
def wordBytes (lane : Bool) : Nat := if lane then 9 else 8

/-- The words of a result. -/
def resultWords (lane : Bool) (out : Bytes) : List Nat :=
  (List.range ((out.length + wordBytes lane - 1) / wordBytes lane)).map fun k => leNat (slice out (wordBytes lane * k) (wordBytes lane))

/-- Words with errors of the operand memory, which no SECDED covers: a mask for each word hit. -/
def withErrors (errs : List MemError) (ws : List Nat) : List Nat :=
  (List.range ws.length).map fun k => errs.foldl (fun v e => if e.1 = k then (v ^^^ (e.2 % 2 ^ 72)) % 2 ^ 72 else v) (listGet 0 ws k)

/-- A result as the release path reads it, word by word: `n` bytes. -/
def readWords (lane : Bool) (n : Nat) (ws : List Nat) : Bytes :=
  (((if lane then ws else normalise ws).map (leBytes (wordBytes lane))).flatten).take n

/-- A result read back from an operand memory with errors; without any it is the result. -/
def readResult (lane : Bool) (errs : List MemError) (out : Bytes) : Bytes :=
  if errs = [] then out else readWords lane out.length (withErrors errs (resultWords lane out))

/-! ### The return wrap (R218) -/

/-- The handle of a job: its origin, as a 64-bit value (DESIGN CHOICE, assumption 177). -/
def jobHandle : Origin → Nat
  | .mailbox b => 2 ^ 63 + 2 ^ 32 * b.port.num + 2 ^ 16 * b2n b.vf + b.n % 2 ^ 16
  | .queue q n => 2 ^ 32 * (q % 2 ^ 16) + n % 2 ^ 32
  | .internal n => 2 ^ 62 + n % 2 ^ 32

/-- The mask of the wrap: the first bytes of SHAKE256(RK ‖ "GV-RW" ‖ JOB). -/
def wrapMask (rk : Bytes) (o : Origin) (n : Nat) : Bytes :=
  (List.range n).map (Config.shake256 (rk ++ ascii "GV-RW" ++ leBytes 8 (jobHandle o)))

/-- The tag of wrapped bytes. -/
def wrapTag (rk w : Bytes) : Bytes := (List.range 32).map (Config.kmac256 rk w 32 (ascii "GV-RW"))

/-- The bytewise exclusive or of two strings. -/
def xorBytes (a b : Bytes) : Bytes := List.zipWith (· ^^^ ·) a b

/-- Material in the wrapped form in which it leaves the engine, with its tag. -/
def returnWrap (rk : Bytes) (o : Origin) (m : Bytes) : Bytes × Bytes :=
  let w := xorBytes m (wrapMask rk o m.length)
  (w, wrapTag rk w)

/-- The vault's side: the material, when the tag stands. -/
def returnOpen (rk : Bytes) (o : Origin) (m : Bytes × Bytes) : Option Bytes :=
  if m.2 = wrapTag rk m.1 then some (xorBytes m.1 (wrapMask rk o m.1.length)) else none

/-- Wrapped material after the handshake channel, with an error pattern over its bytes. -/
def onWire (err : Bytes) (m : Bytes × Bytes) : Bytes × Bytes :=
  if err = [] then m else (xorBytes m.1 (fit m.1.length err), m.2)

end Sys2Proof.Machine
end

