-- ==== Sys2Proof/Machine/Hbm.lean ====
section
/-! DEFINITION. The sealed memory of the HBM stack (21 R494 to R498, 10 R272): data lines with their metadata word, the counter
tree, the check of every line read, poisoned lines, and the key records of the vault (06 R149 to R151). -/

namespace Sys2Proof.Machine

/-! ### Line sealing (R494, R495) -/

/-- The counter block CB(L, c, j). -/
def ctrBlock (l c j : Nat) : Bytes := leBytes 5 l ++ leBytes 8 c ++ zeros 1 ++ leBytes 1 j ++ zeros 1

/-- AES-256 of a block. -/
def aesBlock (k b : Bytes) : Bytes := digestBytes 16 (Config.aes256 k b)

/-- The ciphertext of a line's 64 bytes, or their plaintext again: four blocks under the line's counter. -/
def cryptLine (kEnc : Bytes) (l c : Nat) (p : Bytes) : Bytes :=
  ((List.range 4).map fun j => xorBytes (slice p (16 * j) 16) (aesBlock kEnc (ctrBlock l c j))).flatten

/-- The MAC of a line or a tree node: `n` bytes. -/
def macOf (keys : Bytes × Bytes) (n l c tag : Nat) (content : Bytes) : Nat :=
  let h := aesBlock keys.2 (zeros 16)
  leNat ((xorBytes (digestBytes 16 (Config.ghash h (leBytes 2 tag ++ zeros 14 ++ content))) (aesBlock keys.1 (ctrBlock l c 0x80))).take n)

/-! ### The counter tree (R496) -/

/-- A line's counter: 64 × major + minor. -/
def lineCounter (m : Mem) (l : Nat) : Nat :=
  let leaf := m.leaves.get {} (l / 64)
  64 * leaf.major + leaf.minors.get 0 (l % 64)

/-- The key of an upper node in `Mem.nodes`; levels 1 to 7. -/
def nodeKey (level i : Nat) : Nat := 2 ^ 20 * level + i

/-- The counter that a node's parent holds for it: of a leaf at level 0, of an upper node at levels 1 to 7, where the root
register holds those of level 7. -/
def parentCounter (m : Mem) (level i : Nat) : Nat :=
  if level = 7 then m.root.get 0 i else (m.nodes.get {} (nodeKey (level + 1) (i / 8))).counters.get 0 (i % 8)

/-- The bytes of a leaf under its MAC: the major counter, then 64 minor counters of 6 bits. -/
def leafBytes (n : LeafNode) : Bytes :=
  leBytes 7 n.major ++ leBytes 48 ((List.range 64).foldl (fun a k => a + n.minors.get 0 k * 2 ^ (6 * k)) 0) ++ zeros 1

/-- The bytes of an upper node under its MAC: 8 counters of 56 bits. -/
def upperBytes (n : UpperNode) : Bytes := ((List.range 8).map fun k => leBytes 7 (n.counters.get 0 k)).flatten

/-- The MAC of a leaf and of an upper node: as of a line, of 8 bytes, with no tag (DEDUCED, assumption 169). -/
def leafMac (m : Mem) (keys : Bytes × Bytes) (i : Nat) : Nat :=
  macOf keys 8 i (parentCounter m 0 i) 0 (leafBytes (m.leaves.get {} i))
@[inherit_doc leafMac] def upperMac (m : Mem) (keys : Bytes × Bytes) (level i : Nat) : Nat :=
  macOf keys 8 i (parentCounter m level i) 0 (upperBytes (m.nodes.get {} (nodeKey level i)))

/-- The index at a level of the node above a leaf. -/
def nodeAbove (level leaf : Nat) : Nat := leaf / 8 ^ level

/-! ### The check of a line (R497) -/

/-- Where a check failed: a tree node, with its level and index, or the data line. -/
structure LineFault where
  node : Bool
  level : Nat := 0
  index : Nat
  deriving DecidableEq, Repr

/-- Whether a node that was written passes its check; one never written is as the training of the stack left it. -/
def upperOk (m : Mem) (keys : Bytes × Bytes) (level i : Nat) : Bool :=
  match m.nodes.look? (nodeKey level i) with
  | some n => n.mac == upperMac m keys level i
  | none => true
@[inherit_doc upperOk] def leafOk (m : Mem) (keys : Bytes × Bytes) (i : Nat) : Bool :=
  match m.leaves.look? i with
  | some n => n.mac == leafMac m keys i
  | none => true
@[inherit_doc upperOk] def dataOk (m : Mem) (keys : Bytes × Bytes) (l : Nat) : Bool :=
  match m.lines.look? l with
  | some d => d.mac == macOf keys 6 l (lineCounter m l) d.tag d.cipher
  | none => true

/-- The first failure on the way from the root register to a data line. -/
def lineFault (m : Mem) (l : Nat) : Option LineFault :=
  match m.keys with
  | none => none
  | some k =>
    if m.poisoned.any fun e => decide (e.1 ≤ l ∧ l < e.1 + e.2) then some { node := false, index := l }
    else match (List.range 7).find? fun x => !upperOk m k (7 - x) (nodeAbove (7 - x) (l / 64)) with
      | some x => some { node := true, level := 7 - x, index := nodeAbove (7 - x) (l / 64) }
      | none =>
        if leafOk m k (l / 64) = false then some { node := true, index := l / 64 }
        else if dataOk m k l = false then some { node := false, index := l }
        else none

/-- The first line of a range that fails, with its failure. -/
def rangeFault (m : Mem) (first count : Nat) : Option (Nat × LineFault) :=
  if m.poisoned = [] ∧ m.lines = [] ∧ m.leaves = [] ∧ m.nodes = [] then none
  else (List.range count).findSome? fun k => (lineFault m (first + k)).map fun f => (first + k, f)

/-- The lines that a failure poisons: the data line, or every line below the node. -/
def LineFault.lines (f : LineFault) : Nat × Nat :=
  if f.node then (f.index * 64 * 8 ^ f.level, 64 * 8 ^ f.level) else (f.index, 1)

/-- A line failed its check: it is poisoned, the failure is counted, MEM_ERR_INFO is loaded, and the command's event is recorded
with the line index (R497). -/
def memError (s : State) (j : Job) (l : Nat) (f : LineFault) : State :=
  let info := place 63 63 (b2n f.node) + place 62 60 f.level + place 28 0 f.index
  let ps := if s.mem.poisoned.contains f.lines then s.mem.poisoned else s.mem.poisoned ++ [f.lines]
  recordStatus (({ s with mem := { s.mem with poisoned := ps } }.incRegField R.MEM_ERR_COUNT 31 0).setReg R.MEM_ERR_INFO info)
    S.E_MEM_INTEGRITY j l

/-! ### Reads and writes of lines -/

/-- The plaintext of a line; one not written since it was allocated or freed reads as zeros (R272). -/
def linePlain (m : Mem) (l : Nat) : Bytes :=
  match m.keys, m.lines.look? l with
  | some k, some d => cryptLine k.1 l (lineCounter m l) d.cipher
  | _, _ => zeros 64

/-- The leaf with a data line's counter advanced: a minor counter that would pass 63 advances the major counter and resets
every minor counter. -/
def bumpLeaf (n : LeafNode) (k : Nat) : LeafNode :=
  if n.minors.get 0 k < 63 then { n with minors := n.minors.put 0 k (n.minors.get 0 k + 1) } else { n with major := n.major + 1, minors := [] }

/-- A data line sealed under its counter in force. -/
def sealLine (m : Mem) (keys : Bytes × Bytes) (l tag : Nat) (p : Bytes) : HbmLine :=
  let c := cryptLine keys.1 l (lineCounter m l) p
  { cipher := c, mac := macOf keys 6 l (lineCounter m l) tag c, tag := tag }

/-- The counters of every node on the path from a leaf to the root advance. -/
def bumpPath (m : Mem) (leaf : Nat) : Mem :=
  let up := (List.range 7).foldl (fun t x =>
    let key := nodeKey (x + 1) (nodeAbove (x + 1) leaf)
    let n := t.get {} key
    let i := nodeAbove x leaf % 8
    t.put {} key { n with counters := n.counters.put 0 i (n.counters.get 0 i + 1) }) m.nodes
  let top := nodeAbove 7 leaf
  { m with nodes := up, root := m.root.put 0 top (m.root.get 0 top + 1) }

/-- Every node on the path from a leaf to the root takes its MAC under the counters in force. -/
def macPath (m : Mem) (keys : Bytes × Bytes) (leaf : Nat) : Mem :=
  let m1 := { m with leaves := m.leaves.put {} leaf { m.leaves.get {} leaf with mac := leafMac m keys leaf } }
  (List.range 7).foldl (fun t x =>
    let i := nodeAbove (x + 1) leaf
    let key := nodeKey (x + 1) i
    { t with nodes := t.nodes.put {} key { t.nodes.get {} key with mac := upperMac t keys (x + 1) i } }) m1

/-- Write one data line (R495, R496). At an overflow of its minor counter the other lines of the leaf are read and written again
under the new counters. -/
def writeLine (m : Mem) (l tag : Nat) (p : Bytes) : Mem :=
  match m.keys with
  | none => m
  | some k =>
    let leaf := l / 64
    let m1 := bumpPath { m with leaves := m.leaves.put {} leaf (bumpLeaf (m.leaves.get {} leaf) (l % 64)) } leaf
    let again := fun (e : Nat × HbmLine) =>
      if e.1 / 64 = leaf ∧ lineCounter m1 e.1 ≠ lineCounter m e.1 then (e.1, sealLine m1 k e.1 e.2.tag (linePlain m e.1)) else e
    macPath { m1 with lines := NMap.insert (m1.lines.map again) l (sealLine m1 k l tag p) } k leaf

/-- Write consecutive lines, the last one zero-filled. -/
def writeLines (m : Mem) (first tag : Nat) : Nat → Bytes → Mem
  | 0, _ => m
  | n + 1, p => writeLines (writeLine m first tag (fit 64 (p.take 64))) (first + 1) tag n (p.drop 64)

/-- A dispatcher in system mode allocates lines to a holder, and tags them (R272). -/
def allocLines (m : Mem) (first count tag : Nat) : Mem := { m with runs := m.runs ++ [{ first := first, count := count, tag := tag }] }

/-- Lines are freed: zeroed, then tagged 0xF008 (R272). -/
def freeLines (m : Mem) (first count : Nat) : Mem :=
  { m with runs := m.runs.filter (fun r => !(r.first == first && r.count == count)),
           lines := m.lines.filter fun e => !decide (first ≤ e.1 ∧ e.1 < first + count) }

/-- Every line of a colour is freed (R267 step 6). -/
def freeColour (m : Mem) (tag : Nat) : Mem :=
  { (m.runs.filter (·.tag == tag)).foldl (fun t r => freeLines t r.first r.count) m with
    runs := m.runs.filter (·.tag != tag) }

/-- The colour tag of a line (R270, R272): a free line has 0xF008. -/
def lineTag (m : Mem) (l : Nat) : Nat :=
  match m.lines.look? l with
  | some d => d.tag
  | none => ((m.runs.find? fun r => decide (r.first ≤ l ∧ l < r.first + r.count)).map (·.tag)).getD 0xF008

/-! ### The map of the data space (R498): first line and line count of each item -/

/-- Queue pair contexts, 128 bytes each; then the other regions of the map. -/
def qpLines (n : Nat) : Nat × Nat := (2 * n, 2)
@[inherit_doc qpLines] def tenantLines (t : Nat) : Nat × Nat := (0x800000 / 64 + 64 * t, 64)
@[inherit_doc qpLines] def manifestLines (h : Nat) : Nat × Nat := (0x1800000 / 64 + 1024 * h, 1024)
@[inherit_doc qpLines] def recordLines (h : Nat) : Nat × Nat := (0x11800000 / 64 + 128 * h, 128)
@[inherit_doc qpLines] def routeLines : Nat × Nat := (0x21800000 / 64, 524288)
@[inherit_doc qpLines] def stagingLines (w : Nat) : Nat × Nat := (0x23800000 / 64 + 1048576 * w, 1048576)
@[inherit_doc qpLines] def poolFirst : Nat := 0x63800000 / 64
@[inherit_doc qpLines] def pageLines (p : Nat) : Nat × Nat := (poolFirst + 64 * p, 64)

/-- The lines of frontier pages are freed. -/
def pagesFree (m : Mem) (ps : List Nat) : Mem := ps.foldl (fun t p => freeLines t (pageLines p).1 (pageLines p).2) m

/-- The first line of frontier pages that fails its check. -/
def pagesFault (m : Mem) (ps : List Nat) : Option (Nat × LineFault) :=
  ps.findSome? fun p => rangeFault m (pageLines p).1 (pageLines p).2

/-- The Amber ring: `gib` GiB from the top of the pool down (R499). -/
def ringLines (gib : Nat) : Nat × Nat := (352321536 - 16777216 * gib, 16777216 * gib)

/-! ### Key records (R149 to R151) -/

/-- The handles in use. -/
def handlesUsed (s : State) : List Nat := (s.slots.map fun e => (slotRecords e.2).map (·.handle)).flatten

/-- The lowest free handle among `fuel` from `n` on. -/
def freeHandle (used : List Nat) : Nat → Nat → Nat
  | 0, n => n
  | fuel + 1, n => if used.contains n then freeHandle used fuel (n + 1) else n

/-- The bytes of a record, read line by line; none when a line fails its check. -/
def recordRead (m : Mem) (r : KeyRecord) : Option Bytes :=
  if (rangeFault m (recordLines r.handle).1 ((r.len + 63) / 64)).isSome then none
  else some ((((List.range ((r.len + 63) / 64)).map fun k => linePlain m ((recordLines r.handle).1 + k)).flatten).take r.len)

/-- Store the bytes of a record in the lines of a free handle, colour 0xF000 (R498). -/
def recordWrite (s : State) (skip : List Nat) (bs : Bytes) (hash : Bytes) : State × KeyRecord :=
  let h := freeHandle (handlesUsed s ++ skip) 32768 0
  let (first, count) := recordLines h
  ({ s with mem := writeLines (allocLines s.mem first count 0xF000) first 0xF000 ((bs.length + 63) / 64) bs },
   { handle := h, len := bs.length, hash := hash })

/-- Records are cleared (R161, R170). -/
def recordsFree (s : State) (rs : List KeyRecord) : State :=
  { s with mem := rs.foldl (fun m r => freeLines m (recordLines r.handle).1 (recordLines r.handle).2) s.mem }

/-- The record wrap key: the key in slot 4 (R146). -/
def recordKey (s : State) : Bytes := ((s.slot 4).active.map (·.material)).getD []

/-- AES-256-KWP wrapping. -/
def kwpWrap (k p : Bytes) : Bytes := (List.range (8 * ((p.length + 7) / 8) + 8)).map (Config.kwpWrap k p)

/-- The material of a half for a use (R150): the inline words, or the extended record, unwrapped after its hash is checked. -/
def openMaterial (s : State) (h : SlotHalf) : Option Bytes :=
  match h.record with
  | none => some h.material
  | some r => (recordRead s.mem r).bind fun w => if sha384 w = r.hash then Config.kwpUnwrap (recordKey s) w else none

/-- The public key of a half: from the identity store, or its public-key record (R149, R152). -/
def openPublic (s : State) (h : SlotHalf) : Option Bytes :=
  match h.pubRecord with
  | none => some h.pubKey
  | some r => recordRead s.mem r

/-- A half with the material and public key that its records hold, for a use; none when a record fails (R150, R497). -/
def openHalf (s : State) (h : SlotHalf) : Option SlotHalf :=
  match openMaterial s h, openPublic s h with
  | some m, some p => some { h with material := m, pubKey := p }
  | _, _ => none

/-- The records that a new half takes (R149 to R151): material of more than 64 bytes is wrapped under slot 4 and stored, and so
is a public key. -/
def storeRecords (s : State) (h : SlotHalf) : State × SlotHalf :=
  let (s1, r1) := if h.material.length > 64 then
      let w := kwpWrap (recordKey s) h.material
      let (t, r) := recordWrite s [] w (sha384 w)
      (t, some r)
    else (s, none)
  let (s2, r2) := if h.pubKey = [] then (s1, none)
    else
      let (t, r) := recordWrite s1 (r1.toList.map (·.handle)) h.pubKey []
      (t, some r)
  (s2, { h with material := if r1.isSome then [] else h.material, pubKey := [], record := r1, pubRecord := r2 })

/-- Records that a new half takes, before it is stored. -/
def recordsNeeded (h : SlotHalf) : Nat := b2n (decide (h.material.length > 64)) + b2n (h.pubKey != [])

end Sys2Proof.Machine
end

