-- ==== Sys2Proof/Machine/Ops.lean ====
section
/-! DEFINITION. The shared operations of every command: interrupts, host DMA, the end of a command with its mailbox
result or completion entry, and aborts (02 R41 to R50, 03 R75 to R83). -/

namespace Sys2Proof.Machine

/-- The 64-bit words of a byte string, little-endian, the last one zero-filled. -/
def wordsOf (b : Bytes) : List Nat := (List.range ((b.length + 7) / 8)).map fun k => u64 b (8 * k)

/-! ### Interrupts -/

/-- Raise an MSI-X vector: sent when MSI-X is enabled and the vector unmasked, else held in the PBA (R46). Nothing is
issued on a port whose link is down, or for a function without Bus Master Enable (R44). -/
def raiseVector (s : State) (p : PortId) (f v : Nat) : State :=
  let e := s.fn p f
  if e.msixEnable = false ∨ (s.port p).dlUp = false ∨ e.bme = false then s
  else if e.funcMask || !e.unmasked.contains v then s.setFn p f { e with pba := if e.pba.contains v then e.pba else v :: e.pba }
  else crossing (s.send (.msix p f v)) 0x0F p.num 1 1

/-- The vector of a binding's mailbox: PF0 vector n for binding slot n, vector 0 of a VF (R46). -/
def mbxVector (b : BindId) : Nat := if b.vf then 0 else b.n

/-! ### Host DMA -/

/-- Bit numbers of HPT_ERR_STATUS. -/
def errUrCa : Nat := 3
def errPoisoned : Nat := 4
def errCplTimeout : Nat := 5
def errBme : Nat := 6
def errFlushFail : Nat := 7
def errCplLost : Nat := 8
def errLinkDown : Nat := 9
def errDbStray : Nat := 2
def errSize : Nat := 1

/-- Record an error in HPT_ERR_STATUS and HPT_ERR_FUNC of a port. -/
def setErr (s : State) (p : PortId) (bit f : Nat) : State :=
  let h := s.port p
  s.setPort p { h with errStatus := h.errStatus ||| (1#10 <<< bit), errFunc := f }

/-- The binding whose routing ID and PASID serve a buffer (R41): the submitter's on its own port, the twin's or the
other PF0 on the other port. -/
def dmaBind (s : State) (j : Job) (portField : Nat) : BindId :=
  if portField = 0 then j.bind
  else if j.owner then { port := j.bind.port.other, vf := false, n := 0 }
  else ((s.ten j.tenant).twin).getD j.bind

/-- Whether a binding's function can issue DMA now (R44): the link is up and Bus Master Enable is set. -/
def canDma (s : State) (b : BindId) : Bool := (s.port b.port).dlUp && (s.fn b.port b.func).bme

/-- Record why DMA could not be issued (R44). -/
def noteBlocked (s : State) (b : BindId) : State :=
  if (s.port b.port).dlUp = false then setErr s b.port errLinkDown b.func else setErr s b.port errBme b.func

/-- A port's Max Payload Size and Max Read Request Size in bytes, from the Device Control of PF0 (R41). -/
def maxPayload (s : State) (p : PortId) : Nat := 128 * 2 ^ (s.fn p 0).mps
@[inherit_doc maxPayload] def maxRead (s : State) (p : PortId) : Nat := 128 * 2 ^ (s.fn p 0).mrrs

/-- A write of a binding as its port issues it (R41). -/
def writeMsg (s : State) (b : BindId) (addr : Nat) (bs : Bytes) (relaxed : Bool) : Msg :=
  .hostWrite b addr bs relaxed (maxPayload s b.port)

/-- A read of a binding as its port issues it (R41). -/
def readMsg (s : State) (b : BindId) (addr len : Nat) : Msg := .hostRead b addr len (maxRead s b.port)

/-- The pieces of a range that no multiple of `size` lies inside: at most `fuel` + 1 of them. -/
def pieces (size : Nat) : Nat → Nat → Nat → List (Nat × Nat)
  | 0, a, n => [(a, n)]
  | fuel + 1, a, n =>
    let k := size - a % size
    if n ≤ k then [(a, n)] else (a, k) :: pieces size fuel (a + k) (n - k)

/-- The packets of a message: the address and length of each memory write or memory read request (R41). -/
def Msg.packets : Msg → List (Nat × Nat)
  | .hostWrite _ a bs _ mps => pieces mps bs.length a bs.length
  | .hostRead _ a n mrrs => pieces mrrs n a n
  | _ => []

/-- Write bytes to a host buffer at an offset (R41, R42). None when the write cannot be issued (R44). -/
def hostWrite (s : State) (j : Job) (r : HostRef) (off : Nat) (bs : Bytes) (relaxed : Bool) : Option (State × Job) :=
  if bs = [] then some (s, j)
  else
    let b := dmaBind s j r.port
    if canDma s b = false then none
    else
      let j' := if b.port = j.bind.port then j else { j with wroteOther := true }
      some (s.send (writeMsg s b (r.addr + off) bs relaxed), j')

/-! ### Non-posted tags (R27, R84) -/

/-- The port on which a command has a read outstanding. -/
def readPort (s : State) (j : Job) : Option PortId :=
  match j.phase with
  | .hostRead => if j.unsent then none else j.reads.head?.map fun r => (dmaBind s j r.port).port
  | .ordering => some (dmaBind s j (if j.final.isNone then u8 j.ops 13 % 4 else 1)).port
  | _ => none

/-- Reads outstanding on a port, of the classes that a test selects. -/
def openReads (s : State) (p : PortId) (sel : Nat → Bool) : Nat :=
  (s.jobs.filter fun j => sel j.cls && readPort s j == some p).length
    + (s.qps.filter fun e => sel e.2.cls && e.2.reading.isSome && e.2.bind.port == p).length

/-- Whether a read of a class finds a tag on a port: 1,024 in all, 64 of them for class 0 only (R27, R84). -/
def tagFree (s : State) (p : PortId) (cls : Nat) : Bool :=
  openReads s p (fun _ => true) < 1024 && (cls == 0 || openReads s p (· != 0) < 960)

/-- Issue the job's next host reads: the buffers in `refs`, answered one after another (R44); with no tag free the read
waits for one (R17, R84). None when the first cannot be issued. -/
def issueReads (s : State) (j : Job) (refs : List HostRef) : Option (State × Job) :=
  match refs with
  | [] => some (s, { j with reads := [] })
  | r :: _ =>
    let b := dmaBind s j r.port
    if canDma s b = false then none
    else if tagFree s b.port j.cls = false then some (s, { j with reads := refs, phase := .hostRead, unsent := true })
    else some (s.send (readMsg s b r.addr r.len), { j with reads := refs, readSince := s.clk, phase := .hostRead, unsent := false })

/-- A read that waits for a tag is issued when one is free and its port can carry it. -/
def issueWaiting (s : State) (o : Origin) : State :=
  match s.job? o with
  | some j =>
    match j.phase, j.unsent, j.reads with
    | .hostRead, true, r :: _ =>
      let b := dmaBind s j r.port
      if canDma s b && tagFree s b.port j.cls then
        (s.send (readMsg s b r.addr r.len)).setJob { j with readSince := s.clk, unsent := false }
      else s
    | _, _, _ => s
  | none => s

/-- A tag was freed: the reads that wait are issued, class 0 first (R79, R84). -/
def readsGo (s : State) : State :=
  let w := s.jobs.filter (·.unsent)
  ((w.filter (·.cls == 0)) ++ (w.filter (·.cls != 0))).foldl (fun t j => issueWaiting t j.origin) s

/-! ### Dispatchers and class 0 credits (R84, R85, R545) -/

/-- The class 0 credits of a merge point (R85), in messages. -/
def MergePoint.credits : MergePoint → Nat
  | .doorbells => 8
  | .vault => 4
  | .frontier => 2
  | .keys _ => 2
  | .work _ => 2
  | .dmaWrites _ => 16
  | .dmaReads _ => 4
  | .completions => 4
  | .interrupts => 4

/-- Whether a class 0 message finds a credit at a merge point. -/
def creditFree (s : State) (m : MergePoint) : Bool := (s.sched.credits.filter (·.1 == m)).length < m.credits

/-- A class 0 command's message waits at a merge point, on one of its credits. -/
def takeCredit (s : State) (m : MergePoint) (o : Origin) : State :=
  if s.sched.credits.contains (m, o) then s else { s with sched := { s.sched with credits := s.sched.credits ++ [(m, o)] } }

/-- A message that waited at a merge point is taken, and its credit returns. -/
def giveCredit (s : State) (m : MergePoint) (o : Origin) : State :=
  { s with sched := { s.sched with credits := s.sched.credits.filter (· != (m, o)) } }

/-- Whether another class 0 message waits at a merge point: it is taken before any message of another class (R19). -/
def class0Waits (s : State) (m : MergePoint) (o : Origin) : Bool :=
  s.sched.credits.any fun e => e.1 == m && e.2 != o

/-- Whether a dispatcher acts on a command. -/
def dispatched (s : State) (o : Origin) : Bool := s.sched.dispatchers.any (·.2 == o)

/-- The free dispatchers that may serve a class: 0 and 1 serve class 0 only (R84). -/
def freeDispatchers (s : State) (cls : Nat) : List Nat :=
  (List.range 16).filter fun d => (cls == 0 || 2 ≤ d) && !s.sched.dispatchers.any (·.1 == d)

/-- A dispatcher takes a command (R545). -/
def holdDispatcher (s : State) (d : Nat) (o : Origin) : State :=
  { s with sched := { s.sched with dispatchers := s.sched.dispatchers ++ [(d, o)] } }

/-- The dispatcher of a command is free again: it has acted, and the command waits or has ended (R545). -/
def freeDispatcher (s : State) (o : Origin) : State :=
  { s with sched := { s.sched with dispatchers := s.sched.dispatchers.filter (·.2 != o) } }

/-- What a command holds of the scheduler's resources is free. -/
def freeSched (s : State) (o : Origin) : State :=
  { s with sched := { s.sched with dispatchers := s.sched.dispatchers.filter (·.2 != o),
                                   credits := s.sched.credits.filter (·.2 != o) } }

/-! ### Class 0 conditions (R82, R83) -/

/-- A condition of R82 fails: every class 0 command in flight, and every class 0 entry not yet fetched, is out of bound
(R83). -/
def flagClass0 (s : State) : State :=
  { s with jobs := s.jobs.map fun j => if j.cls = 0 then { j with oob := true } else j
           qps := s.qps.mapVal {} fun q =>
             if q.cls = 0 then { q with arrivals := q.arrivals.map fun a => { a with oob := true } } else q }

/-- Put an arrival time among the recent ones, newest first; its place. -/
def putArrival (t : Nat) : List Nat → List Nat × Nat
  | [] => ([t], 0)
  | x :: r => if x ≤ t then (t :: x :: r, 0) else let (l, k) := putArrival t r; (x :: l, k + 1)

/-- Whether an interval that holds the arrival at place `k` holds more arrivals than R82 allows: more than ⌊t⌋ + 1 in
t µs. Times are in 10 ns units, newest first. -/
def overRate (ts : List Nat) (k : Nat) : Bool :=
  (List.range (k + 1)).any fun i => (List.range (ts.length - k)).any fun d =>
    decide (k + d - i > (listGet 0 ts i - listGet 0 ts (k + d)) / 100)

/-- A class 0 entry arrives at a device time (R82). -/
def class0Arrives (s : State) (t : Nat) : State :=
  let (ts, k) := putArrival t s.sched.arrivals
  let s1 := { s with sched := { s.sched with arrivals := ts.take 128 } }
  if overRate ts k then flagClass0 s1 else s1

/-! ### SQ reads (R62, R66, R67, R71) -/

/-- Occupied slots between a head and a tail of a ring of `size` slots. -/
def ringCount (head tail size : Nat) : Nat := (tail + size - head) % size

/-- Commands in flight of a queue pair. -/
def qpJobs (s : State) (n : Nat) : List Job :=
  s.jobs.filter (fun j => match j.origin with | .queue m _ => m == n | _ => false)

/-- Whether CQ space can be held for one more completion (R67). -/
def cqSpace (s : State) (n : Nat) : Bool :=
  let q := s.qp n
  (qpJobs s n).length + ringCount q.cqHead q.cqTail (2 ^ q.cqLog2) < 2 ^ q.cqLog2 - 1

/-- A participant's Diamond allowance (R69, R81). -/
def dmdAllow (s : State) (owner : Bool) (t : Nat) : Nat := if owner then 64 else (s.ten t).grant.dmdAllow

/-- Whether a queue pair's next entry is beyond its tenant's Diamond allowance (R81). -/
def atAllowance (s : State) (q : QueuePair) : Bool :=
  q.cls == 0 && dmdOutstanding s q.bind.isOwner q.tenant ≥ dmdAllow s q.bind.isOwner q.tenant

/-- Whether the scheduler may fetch from a queue pair now (R54, R65 to R67). -/
def canFetch (s : State) (n : Nat) : Bool :=
  let q := s.qp n
  q.state == .active && s.mode == .service && !s.moon.dormantTaken && q.sqHead != q.sqTail && canDma s q.bind && cqSpace s n

/-- Slots that an entry with a given header occupies (R71). -/
def entrySlots (h : Bytes) : Nat := 1 + (u16 h 4 + 63) / 64

/-- The ring slots of the next SQ read: those SQ_TAIL shows, at most the 33 of the longest entry; of an entry whose header
is kept, the remaining ones once SQ_TAIL shows them all (R71). First slot and count. -/
def fetchSlots (q : QueuePair) : Nat × Nat :=
  let size := 2 ^ q.sqLog2
  let avail := ringCount q.sqHead q.sqTail size
  match q.keptHeader with
  | some h => if entrySlots h ≤ avail then ((q.sqHead + 1) % size, entrySlots h - 1) else (0, 0)
  | none => (q.sqHead, min avail 33)

/-- The reads of a run of ring slots: two where it wraps (R62, R71). -/
def slotReads (s : State) (q : QueuePair) (first count : Nat) : List Msg :=
  let size := 2 ^ q.sqLog2
  let a := min count (size - first)
  (if a = 0 then [] else [readMsg s q.bind (q.sqBase + 64 * first) (64 * a)])
    ++ (if count ≤ a then [] else [readMsg s q.bind q.sqBase (64 * (count - a))])

/-- The SQ read of a queue pair is issued with its binding's routing ID and PASID (R62). -/
def issueFetch (s : State) (n : Nat) : State :=
  let q := s.qp n
  (slotReads s q (fetchSlots q).1 (fetchSlots q).2).foldl State.send (s.setQp n { q with reading := some s.clk })

/-- The next SQ read of a queue pair, when it may fetch and none is outstanding: an entry beyond the Diamond allowance stays
unfetched (R81, R83); a read needs a tag. -/
def fetchStart (s : State) (n : Nat) : State :=
  let q := s.qp n
  if q.reading.isSome ∨ canFetch s n = false ∨ (fetchSlots q).2 = 0 then s
  else if atAllowance s q then s.setQp n { q with held := true }
  else if tagFree s q.bind.port q.cls = false then s
  else issueFetch s n

/-- Every queue pair that may fetch does so, class 0 first (R79). -/
def fetchAll (s : State) : State :=
  let go := fun (t : State) (sel : Nat → Bool) => ((t.qps.filter fun e => sel e.2.cls).map (·.1)).foldl fetchStart t
  go (go s (· == 0)) (· != 0)

/-! ### The end of a command -/

/-- The mailbox enters DONE (R48). -/
def mailboxDone (s : State) (b : BindId) (st : Nat) (res : Bytes) (appr : Bool) : State :=
  let m := s.mbx b
  let m' := { m with result := res.take 1792, status := st, approved := appr && s.approvedMode,
                     aborted := st == S.E_ABORTED, state := .done, doneCount := (m.doneCount + 1) % 2 ^ 32 }
  let s1 := s.setMbx b m'
  let s2 := capture s1 0x14 14 ([mbxStatus m', 0, 0, 0] ++ wordsOf (sha384 res))
  if m.irqEn then raiseVector s2 b.port b.func (mbxVector b) else s2

/-- The 32 bytes of a completion entry (R75). -/
def completionEntry (q : QueuePair) (j : Job) (st : Nat) (res : Bytes) (resLen : Nat) (appr phase : Bool) : Bytes :=
  zeros 3 ++ leBytes 1 (b2n phase + 2 * b2n appr + 4 * b2n (j.oob && j.cls == 0)) ++ leBytes 2 q.localIndex ++ leBytes 2 st
    ++ leBytes 2 j.tag ++ leBytes 2 q.sqHead ++ leBytes 4 resLen ++ fit 16 (res.take 16)

/-- Raise the CQ's vector when COAL_COUNT completions are posted since the last interrupt (R78). -/
def coalesce (s : State) (qpn : Nat) : State :=
  let q := s.qp qpn
  let n := q.uncoalesced + 1
  let lim := if q.coalCount = 0 then 1 else q.coalCount
  if n ≥ lim then raiseVector (s.setQp qpn { q with uncoalesced := 0 }) q.bind.port q.bind.func q.vector
  else s.setQp qpn { q with uncoalesced := n, coalSince := if q.uncoalesced = 0 then s.clk else q.coalSince }

/-- The counters of R83 for a class 0 completion. -/
def dmdStats (s : State) (qpn : Nat) (j : Job) : State :=
  if j.cls ≠ 0 then s else
  let lat := s.clk - j.arrival
  let s1 := if lat > s.regField R.SCH_DMD_STAT 31 8 then s.setRegField R.SCH_DMD_STAT 31 8 (min lat (2 ^ 24 - 1)) else s
  if j.oob then s1.incRegField R.SCH_DMD_STAT 47 32
  else if lat > 2500 then recordEvent (s1.incRegField R.SCH_DMD_STAT 63 48) 0x8D03 qpn j.tenant lat
  else s1

/-- Write the completion entry of a queue command, or discard it where it cannot be written (R44, R66, R75 to R78). A CQ write
to an address that no port can carry is refused, and the queue pair is FAULTED (R66). -/
def postCompletion (s : State) (qpn : Nat) (j : Job) (st : Nat) (res : Bytes) (resLen : Nat) (appr : Bool) : State :=
  let q := s.qp qpn
  if q.state = .faulted ∨ q.state = .free then s
  else if canDma s q.bind = false then setErr s q.bind.port errCplLost q.bind.func
  else if q.cqBase + 32 * q.cqTail + 32 > 2 ^ 64 then s.setQp qpn { q with state := .faulted }
  else
    let e := completionEntry q j st res resLen (appr && s.approvedMode) q.cqPhase
    let size := 2 ^ q.cqLog2
    let wrap := q.cqTail + 1 ≥ size
    let q' := { q with cqTail := if wrap then 0 else q.cqTail + 1, cqPhase := q.cqPhase != wrap }
    let s1 := crossing ((s.send (writeMsg s q.bind (q.cqBase + 32 * q.cqTail) e false)).setQp qpn q') 0x0F q.bind.port.num 0 1
    let s2 := capture s1 0x14 14 (wordsOf e ++ wordsOf (sha384 res))
    coalesce (dmdStats s2 qpn j) qpn

/-- Commands that a QUIESCING or QUIESCED tenant may still issue (R257), not counted as its work in flight (R256). -/
def quietCommand (c : Nat) : Bool :=
  [C.TENANT_INFO, C.POLICY_QUERY, C.KEY_ATTR_READ, C.KEY_PUBLIC, C.ANCHOR_STATUS, C.MEAS_READ, C.MEAS_LOG_READ,
   C.QP_DELETE].contains c

/-- Whether a command in flight is work of a tenant (R256). -/
def isTenantWork (t : Nat) (j : Job) : Bool :=
  !j.owner && j.tenant == t && !quietCommand j.code && (match j.origin with | .internal _ => false | _ => true)

/-- Count a job that ends while its tenant is QUIESCING (R265). -/
def countEnded (s : State) (j : Job) (st : Nat) : State :=
  if isTenantWork j.tenant j = true ∧ (s.ten j.tenant).state = .quiescing then
    let t := s.ten j.tenant
    s.setTen j.tenant { t with jobsEnded := t.jobsEnded + 1,
                               jobsAborted := t.jobsAborted + (if st = S.E_ABORTED then 1 else 0) }
  else s

/-- Count a failure in SEAL_ERR_COUNT (04). -/
def countSealErr (s : State) (st : Nat) : State :=
  if st = S.E_TAG_FAIL then s.incRegField R.SEAL_ERR_COUNT 63 32
  else if st = S.E_DIGEST_MISMATCH then s.incRegField R.SEAL_ERR_COUNT 31 16
  else if st = S.E_SOURCE_CHANGED then s.incRegField R.SEAL_ERR_COUNT 15 0 else s

/-- A command latched while its mailbox's former command still ran (R55 step 4) is handed to the scheduler. -/
def takeHeld (s : State) (o : Origin) : State :=
  match s.heldJobs.find? (·.origin == o) with
  | some k => { s with jobs := s.jobs ++ [k], heldJobs := s.heldJobs.filter (·.origin != o) }
  | none => s

/-- The entry of a SEAL that completes in its manifest: `keep` holds the digest of its record (R113, R115). -/
def manifestEntry (s : State) (j : Job) (st : Nat) : State :=
  if j.code = C.SEAL ∧ (st = S.OK ∨ st = S.I_RETRIED) ∧ bitOf (u8 j.ops 58) 0 = true ∧ j.discard = false then
    let m := s.man (u16 j.ops 56)
    s.setMan (u16 j.ops 56) { m with entries := m.entries.put [] (listGet 0 j.args 3 - 1) (j.keep.headD []) }
  else s

/-- The command leaves the device: its mailbox result or completion entry is written, unless it is discarded. A queue pair
whose CQ space or Diamond allowance is free again fetches (R67, R81). -/
def finishJob (s : State) (j : Job) (st : Nat) (res : Bytes) (resLen : Nat) (appr : Bool) : State :=
  let s1 := (freeSched (countSealErr (countEnded (manifestEntry s j st) j st) st) j.origin).dropJob j.origin
  if j.discard then takeHeld s1 j.origin else
  match j.origin with
  | .mailbox b => mailboxDone s1 b st res appr
  | .queue qpn _ =>
    let s2 := postCompletion s1 qpn { j with oob := j.oob || (j.cls == 0 && dmdDegraded s) } st res resLen appr
    if j.cls = 0 then fetchAll s2 else fetchStart s2 qpn
  | .internal n => { s1 with internalDone := s1.internalDone ++ [(n, st, res)] }

/-- Begin the ordering read of R43, or finish at once when no byte went through the other port. -/
def orderAndFinish (s : State) (j : Job) (st : Nat) (res : Bytes) (resLen : Nat) (appr : Bool) : State :=
  if j.wroteOther = false ∨ j.discard = true then finishJob s j st res resLen appr
  else
    let b := dmaBind s j 1
    if canDma s b = false then
      finishJob (setErr (noteBlocked s b) b.port errFlushFail b.func) j S.E_HOST_DMA [] 0 appr
    else (s.send (readMsg s b 0 0)).setJob
      { j with phase := .ordering, readSince := s.clk, final := some (st, leBytes 4 resLen ++ res, appr) }

/-- The body of a DATA_DIGEST entry: the buffer's number (0 SRC, 1 DST, 2 AAD, 3 RESULT) and the length, then the digest of the
bytes read or written (R481). -/
def digestBody (buf : Nat) (bs : Bytes) : List Nat := (buf * 2 ^ 56 + bs.length) :: wordsOf (sha384 bs)

/-- A command ends with a status and its result (R48, R76). A result of more than 16 bytes of a queue command goes to
its RESULT buffer first. -/
def endJob (s : State) (j : Job) (st : Nat) (res : Bytes) (appr : Bool) : State :=
  match j.origin with
  | .queue _ _ =>
    if res.length > 16 ∧ j.discard = false then
      match hostWrite s j j.result 0 res false with
      | some (s1, j1) => orderAndFinish (capture s1 0x13 14 (digestBody 3 res)) j1 st res res.length appr
      | none => orderAndFinish (noteBlocked s (dmaBind s j j.result.port)) j S.E_HOST_DMA [] 0 appr
    else orderAndFinish s j st res res.length appr
  | _ => orderAndFinish s j st res res.length appr

/-- APPROVED as the service's own chapter gives it, whatever the status (R308): SEAL, RECALL and VERIFY by their MODE,
DIGEST_ONLY always (R90), DIGEST_MAC for every ALG (05), SIGN, SIG_VERIFY, ENCAPS and DECAPS always, DERIVE_SHARED
for an EC_NIST key (R214, R215), RNG_GENERATE (09). -/
def serviceApproved (s : State) (j : Job) : Bool :=
  if j.code = C.SEAL then 54 < j.ops.length && u8 j.ops 54 == 0
  else if j.code = C.RECALL ∨ j.code = C.VERIFY then 75 < j.ops.length && u8 j.ops 75 == 0
  else if j.code = C.DERIVE_SHARED then
    1 < j.ops.length && (match (s.slot (u16 j.ops 0)).active with | some h => h.cls == 6 | none => false)
  else [C.DIGEST_ONLY, C.DIGEST_MAC, C.SIGN, C.SIG_VERIFY, C.ENCAPS, C.DECAPS, C.RNG_GENERATE].contains j.code

/-- A command ends with a failure status and no result. -/
def failJob (s : State) (j : Job) (st : Nat) : State := endJob s j st [] (serviceApproved s j)

/-- A command ends with OK. -/
def okJob (s : State) (j : Job) (res : Bytes) : State := endJob s j S.OK res false

/-- A command ends because its DMA could not be issued (R44). -/
def blockedJob (s : State) (j : Job) (r : HostRef) : State :=
  failJob (noteBlocked s (dmaBind s j r.port)) j S.E_HOST_DMA

/-- Write a command's output buffer and end it with OK and a result; a write that cannot be issued ends it with
E_HOST_DMA (R44). -/
def writeAndEnd (s : State) (j : Job) (r : HostRef) (bs : Bytes) (st : Nat) (res : Bytes) (appr : Bool) : State :=
  match hostWrite s j r 0 bs true with
  | some (s1, j1) => endJob s1 j1 st res appr
  | none => blockedJob s j r

/-- Ask for a command's host reads, or end it with E_HOST_DMA (R44). -/
def readOrEnd (s : State) (j : Job) (refs : List HostRef) : State :=
  match issueReads s j refs with
  | some (s1, j1) => s1.setJob j1
  | none => match refs with
    | r :: _ => blockedJob s j r
    | [] => s.setJob j

end Sys2Proof.Machine
end

