-- ==== Sys2Proof/Machine/Operands.lean ====
section
/-! DEFINITION. The operand forms of a command: host buffer references and their checks (R39, R40), the checks every
command passes before its own (R51, R54, R257), the release of what a command holds, and the frame in which a command's
own row runs. -/

namespace Sys2Proof.Machine

/-! ### Host buffer references -/

/-- The host buffer reference at an operand offset (R39). -/
def hostRef (ops : Bytes) (off : Nat) : HostRef :=
  { rsvd := u16 ops (off + 14) ≠ 0 ∨ u8 ops (off + 13) / 4 ≠ 0, port := u8 ops (off + 13) % 4,
    len := leNat (slice ops (off + 8) 5), addr := u64 ops off }

/-- Whether the other port cannot be used by the submitter (R40, last check). -/
def otherPortDenied (s : State) (j : Job) : Bool :=
  if j.owner then !(s.fn j.bind.port.other 0).bme else (s.ten j.tenant).twin.isNone

/-- The checks of R40 on one reference, in order, with the length range the command allows. -/
def refCheck (s : State) (j : Job) (r : HostRef) (lo hi : Nat) : Option Nat :=
  if r.rsvd ∨ r.port ≥ 2 then some S.E_BAD_OPERAND
  else if r.addr + r.len > 2 ^ 64 then some S.E_BAD_OPERAND
  else if r.len < lo ∨ r.len > hi then some S.E_BAD_LENGTH
  else if r.port = 1 ∧ otherPortDenied s j = true then some S.E_PORT_DENIED
  else none

/-- The longest buffer a reference can name. -/
def maxLen : Nat := 2 ^ 40 - 1

/-- The first failing status of a list of checks. -/
def firstFail : List (Option Nat) → Option Nat
  | [] => none
  | some st :: _ => some st
  | none :: r => firstFail r

/-- A check that fails with a status when its condition holds. -/
def failIf (c : Bool) (st : Nat) : Option Nat := if c then some st else none

/-! ### Checks before a command's own -/

/-- The operand length a command requires, in the two steps of R51; AMB_REPLAY has a trace buffer at TRACE_LEVEL 1 and
2. -/
def oplenOk (c : CmdInfo) (ops : Bytes) : Bool :=
  if c.code = C.AMB_REPLAY then
    let l := u8 ops 1 / 2 % 4
    ops.length ≥ 64 && decide ((l = 0 ∧ ops.length = 64) ∨ ((l = 1 ∨ l = 2) ∧ ops.length = 80))
  else match c.var with
  | none => ops.length == c.fixed
  | some (off, width, unit) => ops.length ≥ c.fixed && ops.length == c.fixed + unit * leNat (slice ops off width)

/-- The log commands (R54). -/
def logCommand (c : Nat) : Bool :=
  [C.EVR_READ, C.EVR_CONFIG_READ, C.MEAS_LOG_READ, C.FAB_REPL_LOG_READ, C.FAIL_STATEMENT].contains c

/-- Whether the mode lets a mailbox run a command (R54, R287). -/
def modeAllows (s : State) (b : BindId) (c : Nat) : Bool :=
  match s.mode with
  | .service | .hush => !s.moon.dormantTaken || c == C.PWR_DORMANT
  | .replay => b.isOwner && (logCommand c || c == C.AMB_REPLAY)
  | .lockdown => b.isOwner && logCommand c
  | .startup | .dormant => false

/-- The tenant-state check (R257). -/
def tenantAllows (s : State) (j : Job) : Bool :=
  j.owner || (match (s.ten j.tenant).state with
    | .active => true
    | .quiescing | .quiesced => quietCommand j.code
    | .free => false)

/-- Commands that name a target slot of the owner's range 32 to 191, and write or clear it (R296). -/
def slotWriters : List Nat :=
  [C.KEY_GENERATE, C.KEY_UNWRAP, C.KEY_IMPORT_PUBLIC, C.KEY_COMMIT, C.KEY_DISCARD, C.KEY_DESTROY, C.KEY_ATTR_SET,
   C.KEY_PROVE]

/-- A target that lies in 32 to 191, or 0xFFFF, which picks an owner slot of 64 to 191. -/
def ownerTarget (n : Nat) : Bool := n == 0xFFFF || (32 ≤ n && n < 192)

/-- Whether a command must wait for PWR_IMAGE_RESTORE or PWR_IMAGE_DISCARD (R296): the target slot stands first in the
operands of a slot writer; 0xFFFF picks an owner slot of 64 to 191. -/
def imagePending (s : State) (j : Job) : Bool :=
  s.moon.imageValid &&
    ([C.TENANT_CREATE, C.TENANT_ENABLE, C.TENANT_RESET, C.TENANT_DESTROY].contains j.code ||
     (j.owner && slotWriters.contains j.code && ownerTarget (u16 j.ops 0)) ||
     (j.owner && j.code == C.KEY_DERIVE && ownerTarget (u16 j.ops 2)) ||
     (j.owner && (j.code == C.DERIVE_SHARED || j.code == C.ENCAPS || j.code == C.DECAPS) && u8 j.ops 2 == 1 && ownerTarget (u16 j.ops 4)))

/-- The checks of R51 for a mailbox command, in order; a queue entry passed those of R72 when it was fetched, and
meets here the owner check of R32. -/
def commandCheck (s : State) (j : Job) : Option Nat :=
  match cmdInfo? j.code with
  | none => some S.E_CMD_UNKNOWN
  | some c =>
    match j.origin with
    | .mailbox b => firstFail [failIf (!c.mailbox) S.E_QUEUE_ONLY, failIf (!modeAllows s b j.code) S.E_MODE,
        failIf (c.owner && !j.owner) S.E_NOT_OWNER, failIf (!oplenOk c j.ops) S.E_BAD_LENGTH,
        failIf (!tenantAllows s j) S.E_TENANT_STATE,
        failIf (imagePending s j) S.E_IMAGE_PENDING]
    | .queue _ _ => firstFail [failIf (c.owner && !j.owner) S.E_NOT_OWNER, failIf (imagePending s j) S.E_IMAGE_PENDING]
    | .internal _ => none

/-! ### What a command holds -/

/-- Take a command's work off a seal engine; its keys are cleared (R113). An engine that was to take the RESERVED role
takes it at the end of its job (R123). -/
def freeSeng (o : Origin) (e : SealEngine) : SealEngine :=
  let w := if (e.work.map (·.origin)) = some o then none else e.work
  let p := if (e.parked.map (·.origin)) = some o then none else e.parked
  let role := e.takesRole && w.isNone && e.state == .inService
  { e with work := w, parked := p, reserved := e.reserved || role, takesRole := e.takesRole && !role }

/-- Take a command's work off an arith engine; the operand memory is wiped (R220, R230). -/
def freeAeng (o : Origin) (e : ArithEngine) : ArithEngine :=
  if (e.work.map (·.origin)) = some o then restArith e else e

/-- Lift a command's reservations of a slot's halves (R544). -/
def freeSlot (o : Origin) (v : Slot) : Slot :=
  { v with resActive := if v.resActive = some o then none else v.resActive,
           resPending := if v.resPending = some o then none else v.resPending }

/-- A MANIFEST_CLOSE ends early: without a header the manifest is OPEN again; a header formed is kept, for another close (R115). -/
def freeMan (o : Origin) (m : Manifest) : Manifest :=
  if m.closer = some o then { m with closer := none, state := if m.header = none ∧ m.state = .closing then .opened else m.state } else m

/-- Anchor writes are dropped: the frontier pages that they hold are freed, and the token of a position not written returns to the
bucket (R205, R207). -/
def dropWrites (s : State) (p : AnchorWrite → Bool) : State :=
  let gone := s.agate.writes.filter p
  let back := (gone.filter fun w => w.token && w.pos.isNone).length
  { s with mem := pagesFree s.mem (gone.map (·.pages)).flatten,
           agate := { s.agate with writes := s.agate.writes.filter (fun w => !p w), tokens := min 32 (s.agate.tokens + back) } }

/-- Stop the readmission tests that a command waits for: the engine is QUARANTINED again (R129). -/
def stopTests (s : State) (o : Origin) : State :=
  match s.job? o with
  | none => s
  | some j =>
    let n := listGet 0 j.args 0
    if j.phase ≠ .engineTest then s
    else if j.code = C.ARI_READMIT then s.setAeng n { wiped (s.aeng n) with state := .quarantined }
    else if j.code = C.ENGINE_READMIT then s.setSeng n { s.seng n with state := .quarantined }
    else s

/-- Whether a NOR operation is a command's own: an unmarked configuration record, or a program it waits for. -/
def norFor (o : Origin) (p : NorOp) : Bool :=
  match p.job with
  | .cfg _ w _ _ => w == some o
  | .command w _ _ => w == o
  | _ => false

/-- The journal with the entries that a command's anchor write has started killed: MARK 0x00 (R198, R207). -/
def killEntries (s : State) (o : Origin) : NMap Anchor :=
  let ps := (s.agate.writes.filter (fun w => w.origin == some o)).filterMap (·.pos)
  s.agate.journal.map fun e => if ps.contains e.1 then (e.1, { e.2 with mark := 0 }) else e

/-- A TENANT_CREATE that ends before its commit point clears the DRBG instance it made (R262): its first argument is the
index, its second tells that the instance stands. -/
def undoCreate (s : State) (o : Origin) : State :=
  match s.job? o with
  | some j =>
    if j.code = C.TENANT_CREATE ∧ j.committed = false ∧ listGet 0 j.args 1 = 1 then
      { s with drbgs := s.drbgs.erase (listGet 0 j.args 0) }
    else s
  | none => s

/-- The refusals of R287 lapse when PWR_DORMANT ends before its commit point (R288). -/
def undoDormant (s : State) (o : Origin) : State :=
  match s.job? o with
  | some j =>
    if j.code = C.PWR_DORMANT ∧ j.committed = false then { s with moon := { s.moon with dormantTaken := false } } else s
  | none => s

/-- A ward whose command ends (R370): a recovery that had not erased yet is over, and verification follows. -/
def freeWard (o : Origin) (w : Ward) : Ward :=
  if w.cmd = some o then
    if w.state = .recovering then { w with cmd := none, state := .verifying, settling := false } else { w with cmd := none }
  else w

/-- A token bus whose command ends: its script is dropped (R382). -/
def freeBus (o : Origin) (b : TknBus) : TknBus :=
  if b.owner = some o ∧ b.resolving ≠ 0 then { b with owner := none }
  else if b.owner = some o then { b with owner := none, script := [], cur := none, step := if b.cur.isSome then .idle else b.step } else b

/-- What a command that ends early has under way in the fabric is dropped. -/
def freeFabric (o : Origin) (f : Fabric) : Fabric :=
  { f with fetches := f.fetches.filter (·.origin != o), notices := f.notices.filter (·.origin != o)
           enrol := if (f.enrol.map (·.origin)) = some o then none else f.enrol
           resend := if (f.resend.map (·.origin)) = some o then none else f.resend }

/-- Release everything a command that ends early holds: engines, digest units, reservations, an unfinished close or
commit, NOR operations and anchor writes of its own. -/
def releaseJob (s0 : State) (o : Origin) : State :=
  let s1 := undoDormant (undoCreate (stopTests (freeSched s0 o) o) o) o
  let killed := killEntries s1 o
  let s := dropWrites s1 fun w => w.origin == some o
  { s with
    sealEngines := s.sealEngines.mapVal {} (freeSeng o)
    arith := s.arith.mapVal {} (freeAeng o)
    digests := s.digests.filter (fun e => e.2.origin != o)
    nor := { s.nor with ops := s.nor.ops.filter (fun p => !norFor o p) }
    slots := s.slots.mapVal {} (freeSlot o)
    wards := s.wards.mapVal {} (freeWard o)
    fabric := freeFabric o s.fabric
    tkn := { s.tkn with buses := s.tkn.buses.mapVal {} (freeBus o) }
    manifests := s.manifests.mapVal {} (freeMan o)
    agate := { s.agate with journal := killed } }

/-- A command ends early with a status; what it holds is released first. -/
def dropWith (s : State) (j : Job) (st : Nat) : State := failJob (releaseJob s j.origin) j st

/-! ### The frame of a command's row -/

/-- Whether a command can be acted on now: a dispatcher has it, or one that may serve its class is free (R84, R545). -/
def canAct (s : State) (j : Job) : Bool := dispatched s j.origin || !(freeDispatchers s j.cls).isEmpty

/-- The first line of the tenant's context that fails its check (R497): a command of a tenant needs its context. -/
def contextFault (s : State) (j : Job) : Option (Nat × LineFault) :=
  match j.origin with
  | .internal _ => none
  | _ => if j.owner then none else rangeFault s.mem (tenantLines j.tenant).1 (tenantLines j.tenant).2

/-- A line that a command needed failed its check (R497): the command ends with E_MEM_INTEGRITY. -/
def memFail (s : State) (j : Job) (l : Nat) (f : LineFault) : State := dropWith (memError s j l f) j S.E_MEM_INTEGRITY

/-- Go on with a command that needs lines of sealed memory, unless one of them fails its check (R497). -/
def withLines (s : State) (j : Job) (lines : Nat × Nat) (k : State) : State :=
  match rangeFault s.mem lines.1 lines.2 with
  | some (l, f) => memFail s j l f
  | none => k

/-- Run a command's own effect: the submission is in flight with this code, a dispatcher acts on it, and the device is
in a mode in which commands run; the common checks come first, once. The dispatcher acts and is free again, and a credit
the command's order held at the vault arbiter returns (R85, R545). In any other state the row's occasion does not hold and
nothing changes. -/
def runCommand (code : Nat) (o : Origin) (s : State) (body : Job → State → State) : State :=
  match s.job? o with
  | none => s
  | some j =>
    if j.code ≠ code ∨ (j.phase ≠ .started ∧ j.phase ≠ .order) ∨ s.mode = .startup ∨ s.mode = .dormant ∨ canAct s j = false then s
    else match (if j.stage = 0 then commandCheck s j else none) with
      | some st => failJob s j st
      | none => match (if j.stage = 0 then contextFault s j else none) with
        | some (l, f) => memFail s j l f
        | none => body j (freeSched s o)

/-- A command's own checks, then its effect. -/
def checked (c : Option Nat) (j : Job) (s : State) (effect : State) : State :=
  match c with
  | some st => dropWith s j st
  | none => effect

end Sys2Proof.Machine
end

