-- ==== Sys2Proof/Machine/CfgRecords.lean ====
section
/-! DEFINITION. The contents of the NOR configuration records (21 R509, 10 R253, 15 R391, 17 R429 and R432): their bytes, sealed with
AES-256-GCM under slot 7, and opened again. -/

namespace Sys2Proof.Machine

/-- AES-256-GCM of a whole string. -/
def gcmSeal (k iv aad pt : Bytes) : Bytes × Bytes :=
  let ct := (List.range pt.length).map (Config.gcmCrypt k iv pt)
  (ct, digestBytes 16 (Config.gcmTag k iv aad ct))

/-- The grant block at an operand offset (R259). -/
def grantAt (o : Bytes) (k : Nat) : Grant :=
  { qpQuota := u16 o k, slotQuota := u16 o (k + 2), treeQuota := u8 o (k + 4), dmdAllow := u8 o (k + 5),
    sealWeight := u8 o (k + 6), arithShare := u8 o (k + 7), arithMax := u8 o (k + 8), spoofLimit := u8 o (k + 9),
    opRate := u32 o (k + 16), opDepth := u32 o (k + 20), byteRate := u32 o (k + 24), byteDepth := u32 o (k + 28) }

/-- The 32 bytes of a grant block. -/
def grantBytes (g : Grant) : Bytes :=
  leBytes 2 g.qpQuota ++ leBytes 2 g.slotQuota ++ leBytes 1 g.treeQuota ++ leBytes 1 g.dmdAllow ++ leBytes 1 g.sealWeight
    ++ leBytes 1 g.arithShare ++ leBytes 1 g.arithMax ++ leBytes 1 g.spoofLimit ++ zeros 6 ++ leBytes 4 g.opRate
    ++ leBytes 4 g.opDepth ++ leBytes 4 g.byteRate ++ leBytes 4 g.byteDepth

/-! ### Bodies -/

/-- What a record holds: the CDK record; a tenant record; a root replica; a tombstone, with the TYPE it deletes. The manual gives the
contents of the first two and no layout (DESIGN CHOICE, assumption 190). -/
inductive CfgBody
  | cdk (key : Bytes) (setId : Nat) (crKcv : Bytes) (peers : List Nat) (q : Nat)
  | tenant (t : Tenant) (root : SlotHalf) (atts : List Attachment)
  | replica (bs : Bytes)
  | tombstone (ty : Nat)

/-- A key half: its attribute word and its 32 bytes. -/
def halfBytes (h : SlotHalf) : Bytes := leBytes 8 (attrWord h true false) ++ fit 32 h.material
@[inherit_doc halfBytes] def halfAt (b : Bytes) (k : Nat) : SlotHalf :=
  let w := u64 b k
  { material := slice b (k + 8) 32, colour := field w 63 48, dest := field w 47 40, usage := field w 39 32, cls := field w 31 28,
    size := field w 27 24, origin := field w 23 22, exportable := w.testBit 21, locked := w.testBit 20, version := field w 15 0 }

/-- A binding with its PASID. -/
def bindBytes (b : Option BindId) (pasid : Nat) : Bytes :=
  match b with
  | none => zeros 8
  | some b => leBytes 1 (1 + 2 * b2n (b.port == .b) + 4 * b2n b.vf) ++ leBytes 3 b.n ++ leBytes 4 pasid
@[inherit_doc bindBytes] def bindAt (b : Bytes) (k : Nat) : Option BindId :=
  let w := u32 b k
  if w % 2 = 0 then none else some { port := if w.testBit 1 then .b else .a, vf := w.testBit 2, n := w / 256 }

/-- PENDING of a tenant record. -/
def PendingMark.num : PendingMark → Nat
  | .none => 0 | .reset => 1 | .destroy => 2
@[inherit_doc PendingMark.num] def pendingAt (n : Nat) : PendingMark := if n = 1 then .reset else if n = 2 then .destroy else .none

/-- An attachment: epoch, TREE_UID, slot, attribute word and tree root key (R253). -/
def attBytes (a : Attachment) : Bytes := leBytes 1 a.epoch ++ leBytes 8 a.uid ++ leBytes 2 a.slot ++ halfBytes a.half
@[inherit_doc attBytes] def attAt (b : Bytes) (k : Nat) : Attachment :=
  { epoch := u8 b k, uid := u64 b (k + 1), slot := u16 b (k + 9), half := halfAt b (k + 11) }

/-- The BODY of a record. -/
def CfgBody.bytes : CfgBody → Bytes
  | .cdk key setId _ peers q => fit 32 key ++ leBytes 8 setId ++ leBytes 1 q ++ leBytes 1 peers.length ++ (peers.map (leBytes 8)).flatten
  | .tenant t root atts =>
    leBytes 2 t.rootSlot ++ leBytes 1 t.pendingMark.num ++ leBytes 1 atts.length ++ bindBytes t.primary t.pasid
      ++ bindBytes t.twin t.twinPasid ++ grantBytes t.grant ++ halfBytes root ++ (atts.map attBytes).flatten
  | .replica bs => bs
  | .tombstone _ => []

/-- CR_KCV of a record's header. -/
def CfgBody.kcv : CfgBody → Bytes
  | .cdk _ _ k _ _ => k
  | _ => zeros 8

/-- The TYPE that a tombstone deletes. -/
def CfgBody.deletes : CfgBody → Nat
  | .tombstone ty => ty
  | _ => 0

/-- The contents of a BODY of a TYPE. -/
def bodyAt (r : CfgRecord) (b : Bytes) : CfgBody :=
  match r.ty with
  | 1 => .cdk (slice b 0 32) (u64 b 32) r.crKcv ((List.range (u8 b 41)).map fun i => u64 b (42 + 8 * i)) (u8 b 40)
  | 2 => .tenant { primary := bindAt b 4, pasid := u32 b 8, twin := bindAt b 12, twinPasid := u32 b 16, grant := grantAt b 20,
                   rootSlot := u16 b 0, pendingMark := pendingAt (u8 b 2) }
      (halfAt b 52) ((List.range (u8 b 3)).map fun i => attAt b (92 + 51 * i))
  | 3 => .replica b
  | _ => .tombstone r.gone

/-! ### Sealing -/

/-- Pages a record takes (R509): 32 header bytes, the body, the tag and MARK. -/
def cfgPages (pt : Bytes) : Nat := (32 + pt.length + 16 + 1 + 255) / 256

/-- A record with its BODY sealed under slot 7 (R509). -/
def cfgSeal (s : State) (r : CfgRecord) (pt : Bytes) : CfgRecord :=
  let r1 := { r with cipher := (List.range pt.length).map (Config.gcmCrypt (slotKey s 7) (leBytes 8 r.seq ++ zeros 4) pt) }
  { r1 with tag := cfgTag s r1 }

/-- The BODY of a record under slot 7. -/
def cfgPlain (s : State) (r : CfgRecord) : Bytes :=
  (List.range r.cipher.length).map (Config.gcmCrypt (slotKey s 7) (leBytes 8 r.seq ++ zeros 4) r.cipher)

/-- The contents of a record. -/
def cfgBody (s : State) (r : CfgRecord) : CfgBody := bodyAt r (cfgPlain s r)

end Sys2Proof.Machine
end

