-- ==== Sys2Proof/Machine/Nor.lean ====
section
/-! DEFINITION. The NOR die (21 R500 to R514): partitions, operations under way in a bank, configuration records, and
the steps of a sector's refresh. -/

namespace Sys2Proof.Machine

/-! ### Sectors -/

/-- The bank of a sector (R500). -/
def bankOf (sector : Nat) : Nat := sector / 4096

/-- Program bytes (R501): bits are only cleared. -/
def norProgram (s : State) (a : Nat) (bs : Bytes) : State :=
  let old := norBytes s a bs.length
  { s with nor := { s.nor with raw := s.nor.raw.putList 0xFF a (List.zipWith (· &&& ·) old bs) } }

/-- Add operations to a bank's queue. -/
def norQueue (s : State) (ops : List NorOp) : State := { s with nor := { s.nor with ops := s.nor.ops ++ ops } }

/-- Remove the bytes of a sector: every byte reads 0xFF (R501). -/
def dropRaw (s : State) (sector : Nat) : State :=
  { s with nor := { s.nor with raw := s.nor.raw.filter (fun e => e.1 / 4096 != sector),
                               broken := s.nor.broken.filter (· != sector) } }

/-- The record of the event log that a record sector's first position holds, and positions per sector (R471). -/
def logPerSector (s : State) : Nat := if s.recorder.compat then 128 else 16

/-- First page of the configuration area and its sectors (R502). -/
def cfgSector (page : Nat) : Nat := 2176 + page / 16

/-- Erase a sector (R501): the bytes it holds, and the journal entries, event records and configuration records that lie
in it. -/
def eraseSector (s : State) (sector : Nat) : State :=
  let s1 := dropRaw s sector
  if 8192 ≤ sector ∧ sector < 12288 then
    { s1 with agate := { s1.agate with journal := s1.agate.journal.filter (fun e => e.1 / 64 + 8192 != sector) } }
  else if 12290 ≤ sector then
    let l := s1.recorder.log.filter (fun e => e.1 / logPerSector s + 12290 != sector)
    { s1 with recorder := { s1.recorder with log := l } }
  else if 2176 ≤ sector ∧ sector < 4096 then { s1 with cfg := s1.cfg.filter (fun r => cfgSector r.page != sector) }
  else s1

/-- Bits that a program could not leave at 1 (R507): the target is not blank, or lies in an undefined sector (R505). -/
def notBlank (s : State) (a : Nat) (bs : Bytes) : Bool :=
  s.nor.broken.contains (a / 4096) ||
    (List.zipWith (fun (o n : Byte) => n &&& ~~~o) (norBytes s a bs.length) bs).any (· != 0)

/-- A decoded entry that a firmware program changes no longer passes its own check (R506: CRC, tag or MAC). -/
def damageAt (s : State) (a n : Nat) : State :=
  let hit := fun (lo len : Nat) => decide (lo < a + n ∧ a < lo + len)
  let size := 4096 / logPerSector s
  let j := s.agate.journal.map fun e =>
    if hit (0x2000000 + 64 * e.1) 64 then (e.1, { e.2 with mac := [] }) else e
  let c := s.cfg.map fun r => if hit (0x880000 + 256 * r.page) (256 * r.pages) then { r with tag := [] } else r
  let l := s.recorder.log.map fun e =>
    if hit (0x3002000 + size * e.1) size then (e.1, { e.2 with crcGood := false }) else e
  { s with agate := { s.agate with journal := j }, cfg := c, recorder := { s.recorder with log := l } }

/-! ### Configuration area (R509, R510) -/

/-- The standing record of a TYPE and KEY. -/
def cfgFind (s : State) (ty key : Nat) : Option CfgRecord := (cfgStanding s).find? fun r => r.ty == ty && r.key == key

/-- Put a record with a BODY at the head, sealed under slot 7; it never crosses a sector (R509). -/
def cfgPut (s : State) (h : CfgRecord) (pt : Bytes) (valid : Bool) : State :=
  let n := cfgPages pt
  let at_ := s.nor.cfgHead
  let p := (if at_ % 16 + n > 16 then (at_ / 16 + 1) * 16 else at_) % 30720
  let r := cfgSeal s { h with seq := s.nor.cfgSeq, page := p, pages := n, valid := valid } pt
  { s with cfg := s.cfg ++ [r], nor := { s.nor with cfgHead := (p + n) % 30720, cfgSeq := s.nor.cfgSeq + 1 } }

/-- Put a record at the head. -/
def cfgAppend (s : State) (ty key : Nat) (body : CfgBody) (valid : Bool) : State :=
  cfgPut s { ty := ty, key := key, seq := 0, crKcv := body.kcv, gone := body.deletes } body.bytes valid

/-- Copy the standing records of the oldest sector to the head and erase that sector (R510). -/
def cfgCompactOne (s : State) : State :=
  let t := s.nor.cfgTail / 16
  let live := (cfgStanding s).filter (fun r => r.page / 16 == t)
  let s1 := live.foldl (fun u r => cfgPut u r (cfgPlain s r) true) s
  let s2 := eraseSector s1 (2176 + t)
  { s2 with nor := { s2.nor with cfgTail := ((t + 1) % 1920) * 16 } }

/-- Compaction while fewer than 16 sectors lie erased ahead of the head (R510). -/
def cfgCompact : Nat → State → State
  | 0, s => s
  | n + 1, s => if cfgFree s < 16 then cfgCompact n (cfgCompactOne s) else s

/-- Begin the write of a record (R509): its body is being programmed. None when the area is full (R510). -/
def startCfg (s : State) (waiter : Option Origin) (ty key : Nat) (body : CfgBody) : Option State :=
  let pages := (cfgStanding s).foldl (fun a r => a + r.pages) 0
  if pages + cfgPages body.bytes > (1920 - 16) * 16 then none
  else
    let s1 := cfgCompact 1920 s
    some (norQueue (cfgAppend s1 ty key body false)
      [{ bank := 0, job := .cfg s1.nor.cfgSeq waiter false false }])

/-- A command waits for a configuration record; its own row goes on at the next stage when MARK is programmed. -/
def cfgThen (s : State) (j : Job) (ty key : Nat) (body : CfgBody) (commits : Bool) : State :=
  match startCfg s (some j.origin) ty key body with
  | none => if j.committed = true ∧ j.code = C.KEY_DESTROY then okJob s j [] else dropWith s j S.E_NVM_FULL
  | some s1 => s1.setJob { j with phase := .nor, markCommits := commits }

/-- The waiter of a finished program goes on. -/
def norWake (s : State) (o : Origin) : State :=
  match s.job? o with
  | some j =>
    if j.phase = .nor then
      s.setJob { j with phase := .started, stage := j.stage + 1, committed := j.committed || j.markCommits,
                        markCommits := false }
    else s
  | none => s

/-- The waiter of a failed program or erase ends. A whole-epoch shred stands without its record (R253). -/
def norFail (s : State) (o : Origin) (st : Nat) : State :=
  match s.job? o with
  | some j =>
    if j.phase ≠ .nor then s
    else if j.committed = true ∧ j.code = C.KEY_DESTROY then okJob s j []
    else dropWith s j st
  | none => s

/-- Count an E_NVM_PROGRAM result. -/
def countProgram (s : State) : State := s.incRegField R.NVM_ERR_COUNT 63 48

/-- A program of a configuration record ends (R509): after the body, MARK; after MARK the record stands. A failed
read-back kills the MARK and writes the record once more at the next position. -/
def cfgDone (s : State) (seq : Nat) (w : Option Origin) (mark second ok : Bool) : State :=
  if ok then
    if mark then
      let s1 := { s with cfg := s.cfg.map fun r => if r.seq = seq then { r with valid := true } else r }
      match w with
      | some o => norWake s1 o
      | none => s1
    else { s with nor := { s.nor with ops := { bank := 0, job := .cfg seq w true second } :: s.nor.ops } }
  else
    let s1 := countProgram { s with cfg := s.cfg.filter (fun r => r.seq != seq || r.valid) }
    match second, s.cfg.find? (fun r => r.seq == seq) with
    | false, some r =>
      let s2 := cfgPut s1 r (cfgPlain s r) false
      { s2 with nor := { s2.nor with ops := { bank := 0, job := .cfg s1.nor.cfgSeq w false true } :: s2.nor.ops } }
    | _, _ => match w with
      | some o => norFail s1 o S.E_NVM_PROGRAM
      | none => s1

/-- Count an E_NVM_READ result (R506). -/
def countUnread (s : State) (unreadable : Bool) : State := if unreadable then s.incRegField R.NVM_ERR_COUNT 15 8 else s

/-! ### Refresh (R511 to R514) -/

/-- Write an entry of the refresh log; its ring keeps three of its four sectors (R514). -/
def refreshLog (s : State) (e : RefreshEntry) : State :=
  let l := s.nor.log ++ [e]
  { s with nor := { s.nor with log := if l.length > 1024 then l.drop 256 else l } }

/-- Retire a sector onto a spare (R508): the remap list, or REMAP_FULL. -/
def remapSector (s : State) (sector spare : Nat) : State :=
  if s.nor.remap.length ≥ 256 then { s with nor := { s.nor with remapFull := true } }
  else
    let s1 := { s with nor := { s.nor with remap := (sector, spare) :: s.nor.remap.filter (·.1 != sector) } }
    refreshLog s1 { kind := 6, sector := sector, spare := spare, value := s.nor.eqAge / 56250 }

/-- A spare that may be taken: not retired and not remapping (R513). -/
def spareFree (s : State) (x : Nat) : Bool :=
  !(s.nor.remap.any fun e => e.1 == x || e.2 == x) && !(s.nor.copies.any fun e => e.2 == x)

/-- The next spare in ring order. -/
def nextSpare (s : State) : Nat → Nat → Nat
  | 0, x => x
  | n + 1, x => if spareFree s x then x else nextSpare s n (if x + 1 ≥ 8192 then 6168 else x + 1)

/-- Take a spare: the ring pointer moves past it. -/
def takeSpare (s : State) : Nat × State :=
  let x := nextSpare s 2024 s.nor.spare
  (x, { s with nor := { s.nor with spare := if x + 1 ≥ 8192 then 6168 else x + 1,
                                   dirty := if s.nor.dirty.contains x then s.nor.dirty else x :: s.nor.dirty } })

/-- A sector whose erase failed under R507 is served from a spare; false when the remap list is full (R508). -/
def retireSector (s : State) (sector : Nat) : Bool × State :=
  let s1 := s.setRegField R.NVM_ERR_COUNT 47 32 (satAdd 16 (s.regField R.NVM_ERR_COUNT 47 32) 3)
  if s1.nor.remap.length ≥ 256 then (false, { s1 with nor := { s1.nor with remapFull := true } })
  else
    let (x, s2) := takeSpare s1
    (true, remapSector s2 sector x)

/-- Whether a sector does not read fully erased. -/
def sectorUsed (s : State) (n : Nat) : Bool :=
  (s.nor.raw.any fun e => e.1 / 4096 == n) || s.nor.broken.contains n ||
    (if 8192 ≤ n ∧ n < 12288 then s.agate.journal.any fun e => e.1 / 64 + 8192 == n
     else if n = 12288 ∨ n = 12289 then n == 12288 + s.recorder.cseq % 2
     else if 12290 ≤ n then s.recorder.log.any fun e => e.1 / logPerSector s + 12290 == n
     else if 2176 ≤ n ∧ n < 4096 then s.cfg.any fun r => cfgSector r.page == n
     else if 6144 ≤ n ∧ n ≤ 6147 then true
     else if n = 6148 then s.boot.pufA.crcGood else if n = 6149 then s.boot.pufB.crcGood
     else s.nor.dirty.contains n)

/-- The next sector at or after `n` that a pass refreshes (R512): 16,384 when none is left. -/
def nextRefresh (s : State) : Nat → Nat → Nat
  | 0, n => n
  | k + 1, n =>
    if n ≥ 16384 then 16384
    else if sectorUsed s n && !(decide (6164 ≤ n ∧ n ≤ 6167)) then n else nextRefresh s k (n + 1)

/-- A pass starts (R512). -/
def passStart (s : State) : State :=
  refreshLog { s with nor := { s.nor with passActive := true, passDue := false, nextSector := 0, eqAge := 0 } } { kind := 1 }

/-- A pass ends, and one that fell due starts (R512). -/
def passEnd (s : State) : State :=
  let s1 := refreshLog { s with nor := { s.nor with passActive := false, passes := satInc 8 s.nor.passes } } { kind := 4 }
  if s1.nor.passDue then passStart s1 else s1

/-- Begin the refresh of a sector through a spare (R513, step 1). -/
def refreshBegin (s : State) (sector : Nat) (firmware : Bool) : State :=
  let (x, s1) := takeSpare s
  norQueue s1 [{ bank := 1, job := .refresh sector x 1 firmware }]

/-- Status of the last firmware command. -/
def setNvmLast (s : State) (st : Nat) : State := { s with nor := { s.nor with last := st } }

/-- A step of a sector's refresh ends (R513). A copy that cannot be programmed leaves the sector in use, to be refreshed
again; a sector that cannot be erased is served from its copy for good (R508), and with the remap list full the pass
stops. -/
def refreshDone (s : State) (sector spare step : Nat) (fw ok : Bool) : State :=
  let eq := s.nor.eqAge / 56250
  let next := fun (t : State) (b k : Nat) => { t with nor := { t.nor with
    ops := { bank := b, job := .refresh sector spare k fw } :: t.nor.ops } }
  let fin := fun (t : State) (st : Nat) => if fw then setNvmLast t st
    else { t with nor := { t.nor with nextSector := sector + 1 } }
  if ok then
    if step = 1 then next s 1 2
    else if step = 2 then
      let s1 := refreshLog s { kind := 2, sector := sector, spare := spare, value := eq }
      next { s1 with nor := { s1.nor with copies := (sector, spare) :: s1.nor.copies } } (bankOf sector) 3
    else if step = 3 then next s 1 4
    else
      let s1 := refreshLog s { kind := 3, sector := sector, spare := spare, value := eq }
      fin { s1 with nor := { s1.nor with copies := s1.nor.copies.filter (·.1 != sector) } } S.OK
  else if step = 3 then
    let s1 := s.setRegField R.NVM_ERR_COUNT 47 32 (satAdd 16 (s.regField R.NVM_ERR_COUNT 47 32) 3)
    if s1.nor.remap.length ≥ 256 then
      let s2 := { s1 with nor := { s1.nor with remapFull := true, passActive := fw && s1.nor.passActive } }
      if fw then setNvmLast s2 S.E_NVM_ERASE else s2
    else
      let s2 := remapSector s1 sector spare
      fin { s2 with nor := { s2.nor with copies := s2.nor.copies.filter (·.1 != sector) } } S.OK
  else
    let s1 := countProgram s
    if fw then setNvmLast s1 S.E_NVM_PROGRAM else s1

/-! ### The end of an operation -/

/-- A firmware program ends (R507). -/
def fwProgramDone (s : State) (a : Nat) (bs : Bytes) (ok : Bool) : State :=
  if ok then setNvmLast (norProgram (damageAt s a bs.length) a bs) S.OK
  else
    let got := List.zipWith (· ||| ·) bs (s.freeBytes bs.length)
    setNvmLast (countProgram (norProgram (damageAt (s.tookFree bs.length) a bs.length) a got)) S.E_NVM_PROGRAM

/-- A firmware erase ends (R507, R508). -/
def fwEraseDone (s : State) (sector : Nat) (ok : Bool) : State :=
  if ok then setNvmLast (eraseSector s sector) S.OK
  else
    let (done, s1) := retireSector s sector
    if done then setNvmLast (eraseSector s1 sector) S.OK
    else setNvmLast { s1 with nor := { s1.nor with broken := sector :: s1.nor.broken } } S.E_NVM_ERASE

/-- A lifecycle copy whose program fails is a partial copy (R320). -/
def copyFail (s : State) (sector : Nat) : State :=
  if sector = 6144 then { s with lcs := { s.lcs with copyA := .part, busy := false } }
  else if sector = 6145 then { s with lcs := { s.lcs with copyB := .part, busy := false } } else s

/-- A program or erase that a command waits for ends; a failed erase is remapped where it can be (R508). -/
def commandNorDone (s : State) (o : Origin) (sector : Nat) (erase ok : Bool) : State :=
  if ok then norWake s o
  else if erase then
    let (done, s1) := retireSector s sector
    if done then norWake s1 o else norFail s1 o S.E_NVM_ERASE
  else norFail (countProgram (copyFail s sector)) o S.E_NVM_PROGRAM

/-- Whether a sector is being refreshed (R513). -/
def refreshing (s : State) (n : Nat) : Bool :=
  s.nor.ops.any fun p => match p.job with | .refresh m _ _ _ => m == n | _ => false

/-- Whether a write that the hardware orders waits, because its sector is being refreshed (R513). -/
def heldByRefresh (s : State) (p : NorOp) : Bool :=
  match p.job with
  | .cfg seq _ _ _ => s.cfg.any fun r => r.seq == seq && refreshing s (cfgSector r.page)
  | .command _ n _ => refreshing s n
  | _ => false

/-- The status of an operation that ended: of an erase and of a program (R507). -/
def norStatus (p : NorOp) (ok : Bool) : Nat :=
  if ok then S.OK
  else match p.job with
    | .fwErase _ | .command _ _ true | .refresh _ _ 3 _ => S.E_NVM_ERASE
    | _ => S.E_NVM_PROGRAM

/-- The oldest operation of a bank that is neither suspended nor waits for a refresh ends (R503, R507, R513). -/
def norOpDone (s : State) (bank : Nat) (ok : Bool) : State :=
  match s.nor.ops.find? (fun p => p.bank == bank && !heldByRefresh s p) with
  | none => s
  | some p =>
    if p.suspended then s
    else
      let s1 := capture { s with nor := { s.nor with ops := s.nor.ops.erase p } } 0x15 19
        [4 * 2 ^ 56 + bank * 2 ^ 40 + norStatus p ok * 2 ^ 24, 0]
      match p.job with
      | .cfg seq w mark second => cfgDone s1 seq w mark second ok
      | .fwProgram a bs => fwProgramDone s1 a bs ok
      | .fwErase n => fwEraseDone s1 n ok
      | .refresh n x k fw => refreshDone s1 n x k fw ok
      | .command o n erase => commandNorDone s1 o n erase ok

/-- A NOR program or erase completes and is verified, or fails (R507). -/
def execNorOpDone (bank : Nat) (ok : Bool) (s : State) : Host.Outcome State Fault Refusal := .next (norOpDone s bank ok)

/-- A command waits for a program or an erase of its own in a sector. -/
def norThen (s : State) (j : Job) (sector : Nat) (erase commits : Bool) : State :=
  (norQueue s [{ bank := bankOf sector, job := .command j.origin sector erase }]).setJob { j with phase := .nor, markCommits := commits }

/-- A suspended operation resumes (R503). -/
def norResume (s : State) (bank : Nat) : State :=
  { s with nor := { s.nor with ops := s.nor.ops.map fun p => if p.bank = bank then { p with suspended := false } else p } }

/-- A suspended program or erase resumes when no read of its bank has waited for 2 µs (R503). -/
def execNorResume (bank : Nat) (s : State) : Host.Outcome State Fault Refusal := .next (norResume s bank)

end Sys2Proof.Machine
end

