-- ==== Sys2Proof/Machine/Colour.lean ====
section
/-! DEFINITION. The colour units (10 R270 to R276): the decision on an access of a tagged memory, and a fault. -/

namespace Sys2Proof.Machine

/-- A colour rule's registers: the owner's for 16 to 63, ROM values below (R276). -/
def ruleRange (s : State) (n : Nat) : Nat :=
  if n < 16 then (Config.romRuleRange n).toNat else s.reg (R.CLR_RULE_RANGE_n + 16 * n)
@[inherit_doc ruleRange] def ruleMatch (s : State) (n : Nat) : Nat :=
  if n < 16 then (Config.romRuleMatch n).toNat else s.reg (R.CLR_RULE_MATCH_n + 16 * n)

/-- An access that a colour unit checks: memory, line, the initiator's colour and mode, the line's tag, direction. -/
structure Access where
  mem : Nat
  line : Nat
  init : Nat
  priv : Bool
  tag : Nat
  write : Bool

/-- Whether an enabled rule matches an access (R273). -/
def ruleHits (s : State) (n : Nat) (a : Access) : Bool :=
  let r := ruleRange s n
  let m := ruleMatch s n
  m.testBit 0 && field m 15 12 == a.mem && decide (field r 31 0 ≤ a.line ∧ a.line ≤ field r 63 32)
    && (a.init &&& field m 47 32) == (field m 63 48 &&& field m 47 32)
    && (field m 31 16 == 0xFFFF || field m 31 16 == a.tag)

/-- Whether a rule's PERM lets an access through: 1 read, 3 read and write, 0 and 2 none. -/
def rulePermits (s : State) (n : Nat) (a : Access) : Bool :=
  let p := field (ruleMatch s n) 3 2
  p == 3 || (p == 1 && !a.write)

/-- A tenant colour. -/
def tenantColour (c : Nat) : Bool := decide (c < 0x1000)

/-- The default map (R274): the Quartz core in machine mode, colour 0xF003, or a dispatcher in system mode. -/
def defaultMap (a : Access) : Bool :=
  if a.init = 0xF003 then a.tag == 0xF003 || a.tag == 0xF007 || (!a.write && (a.tag == 0xF004 || a.tag == 0xF005))
  else tenantColour a.tag || [0xF001, 0xF002, 0xF004, 0xF005, 0xF007, 0xF008].contains a.tag

/-- The decision of R273: whether an access is allowed. No ROM rule grants a tenant colour access to another, and none names
MEM 6 (R276). -/
def colourAllows (s : State) (a : Access) : Bool :=
  let owner := ((List.range 48).map (· + 16)).filter fun n => ruleHits s n a
  let rom := (List.range 16).filter fun n => ruleHits s n a
  if owner.any fun n => !rulePermits s n a then false
  else if a.init = a.tag then true
  else if rom ≠ [] ∧ a.mem ≠ 6 ∧ !(tenantColour a.init && tenantColour a.tag) then rom.any fun n => rulePermits s n a
  else a.priv && defaultMap a

/-- A faulted access (R275): the counter, CLR_FAULT_INFO, CLR_FAULT_LINE and the event; the command ends with E_COLOUR. -/
def colourFault (s : State) (j : Job) (a : Access) : State :=
  let info := place 63 48 a.init + place 47 32 a.tag + place 31 28 a.mem + place 1 1 (b2n a.write) + place 0 0 (b2n a.priv)
  let s1 := if a.priv then s.incRegField R.CLR_FAULT_COUNT 31 0 else s.incRegField R.CLR_FAULT_COUNT 63 32
  let s2 := (s1.setReg R.CLR_FAULT_INFO info).setReg R.CLR_FAULT_LINE (a.line % 2 ^ 32)
  dropWith (recordStatus s2 S.E_COLOUR j (info / 2 ^ 32)) j S.E_COLOUR

/-- A command's write of its manifest in sealed HBM (R498): the first line of the manifest's 64 KiB, in TENANT mode. The lines have
the holder's tag while the handle is in use (R272). -/
def manifestAccess (j : Job) (h : Nat) : Access :=
  let c := if j.owner then 0xF001 else j.tenant
  { mem := 5, line := (manifestLines (h - 1)).1, init := c, priv := false, tag := c, write := true }

/-- Go on with a command that writes its manifest, unless the colour unit faults the access (R275) or a line of the manifest fails its
check (R497). -/
def withManifest (s : State) (j : Job) (h : Nat) (k : State) : State :=
  let a := manifestAccess j h
  if colourAllows s a then withLines s j (manifestLines (h - 1)) k else colourFault s j a

/-- A manifest handle is FREE, and its lines are freed (R115, R272). -/
def manFree (s : State) (h : Nat) : State :=
  { s.setMan h {} with mem := freeLines s.mem (manifestLines (h - 1)).1 (manifestLines (h - 1)).2 }

end Sys2Proof.Machine
end

