-- ==== Sys2Proof/Machine/LinkFrames.lean ====
section
/-! DEFINITION. The frames of a link (16 R402, R405, R411): the header's bytes, padding, sealing and opening. -/

namespace Sys2Proof.Machine

/-- The 32-byte header of a frame (R402). -/
def headerBytes (f : Frame) : Bytes :=
  let h := leBytes 1 1 ++ leBytes 1 f.ty ++ leBytes 1 (f.cls * 64 + b2n f.keyPhase * 32 + b2n f.sealed * 16) ++ leBytes 1 f.hops
    ++ leBytes 2 f.dst ++ leBytes 2 f.src ++ leBytes 2 f.payload.length ++ zeros 2 ++ leBytes 8 f.lseq ++ leBytes 8 f.tag
  h ++ leBytes 4 (crc32 h)

/-- A payload padded with zero bytes to a multiple of 8, at least 32 (R402). -/
def padPayload (p : Bytes) : Bytes := p ++ zeros (max 32 (8 * ((p.length + 7) / 8)) - p.length)

/-- Whether PAYLOAD_LEN is in its range. -/
def lenOk (f : Frame) : Bool := decide (32 ≤ f.payload.length ∧ f.payload.length ≤ 2048 ∧ f.payload.length % 8 = 0)

/-- Whether an RSVD byte of a frame's payload is set (R403, R404, R405, R408, R418, R422, R424, R432, R434, R438). -/
def rsvdSet (f : Frame) : Bool :=
  let p := f.payload
  if f.ty = 1 then !(zeroAt p 12 4 && zeroAt p 24 8 && zeroAt p 42 22)
  else if f.ty = 0x10 then !zeroAt p 25 7 else if f.ty = 0x21 then !zeroAt p 18 6 else if f.ty = 0x23 then !zeroAt p 26 6
  else if f.ty = 0x26 then !zeroAt p 9 7 else if f.ty = 2 then !zeroAt p 3 1 else if f.ty = 3 then !zeroAt p 2 30
  else if f.ty = 4 then !zeroAt p 11 21 else if f.ty = 5 then !zeroAt p 10 22
  else if f.ty = 6 then !(zeroAt p 11 1 && zeroAt p 20 12) else false

/-- The IV of a sealed frame (R411): LSEQ and four zero bytes. -/
def frameIv (f : Frame) : Bytes := leBytes 8 f.lseq ++ zeros 4

/-- A frame sealed under a direction key (R411). -/
def sealFrame (key : Bytes) (f : Frame) : Frame :=
  let c := gcmSeal key (frameIv f) (headerBytes f) f.payload
  { f with payload := c.1, mac := c.2 }

/-- A sealed frame opened under a direction key, when its tag stands. -/
def unsealFrame (key : Bytes) (f : Frame) : Option Frame :=
  if f.mac = digestBytes 16 (Config.gcmTag key (frameIv f) (headerBytes f) f.payload) then
    some { f with payload := (List.range f.payload.length).map (Config.gcmCrypt key (frameIv f) f.payload), mac := [] }
  else none

/-- A frame on a link without a session that the keep-alive controller takes for good (R418). -/
def clearGood (f : Frame) : Bool := f.lineOk && lenOk f && !f.sealed && !rsvdSet f

/-- A link seals its next frame under the transmit key, with the next LSEQ (R411), and sends it. -/
def sendSealed (s : State) (l : Nat) (f : Frame) : State :=
  let k := s.link l
  (s.setLink l { k with txLseq := k.txLseq + 1 }).send
    (.frame l (sealFrame (slotKey s (16 + 2 * l)) { f with sealed := true, lseq := k.txLseq + 1, keyPhase := k.keyPhase }))

end Sys2Proof.Machine
end

