-- ==== Sys2Proof/Machine/Modes.lean ====
section
/-! DEFINITION. Mode changes shared by several chapters: the change itself with its event (R277), entry to HUSH and the
exit from it (R278, R285, R401, R483). -/

/-- The words that a stream writes for its part of a checkpoint, whose layout the manual leaves open (R481, R484), and the
control state that imported words stand for. -/
opaque Sys2Proof.Config.ckptWords : Sys2Proof.Machine.Ckpt → Nat → List Nat
@[inherit_doc Sys2Proof.Config.ckptWords] opaque Sys2Proof.Config.ckptOf : List Nat → Option Sys2Proof.Machine.Ckpt

namespace Sys2Proof.Machine

/-- Change the mode and record event 0x8C01 (R277, R460). -/
def setMode (s : State) (m : Mode) : State :=
  if s.mode = m then s
  else recordEvent { s with mode := m } 0x8C01 m.num s.mode.num (s.regField R.PWR_WAKE_CAUSE 6 0)

/-- Send a RATE frame on a link that holds a session (R401): REQUEST 0 FULL, 1 KEEP_ALIVE. -/
def sendRate (s : State) (l req ack : Nat) : State :=
  let k := s.link l
  let own := if ack = 0 then req == 1 else k.ownKa
  sendSealed (s.setLink l { k with rateAsked := k.rateAsked || ack == 0, ownKa := own }) l
    { ty := 3, payload := leBytes 1 req ++ leBytes 1 ack ++ zeros 30 }

/-- Ask for a rate on every link whose session is held (R401). -/
def askRate (s : State) (req : Nat) : State :=
  (s.links.filter (fun e => e.2.level != 0)).foldl (fun t e => sendRate t e.1 req 0) s

/-- A half without its key material (R484). -/
def bareHalf (h : SlotHalf) : SlotHalf := { h with material := [] }

/-- A slot as a checkpoint holds it: both attribute words and the public-key records. -/
def bareSlot (v : Slot) : Slot := { v with active := v.active.map bareHalf, pending := v.pending.map bareHalf }

/-- An engine as a checkpoint holds it: its state, role and counters, without the job and what it works on. -/
def bareSeng (e : SealEngine) : SealEngine := { e with work := none, parked := none }
@[inherit_doc bareSeng] def bareAeng (e : ArithEngine) : ArithEngine := restArith e

/-- A tree as a checkpoint holds it: its frontier entries without their keys. -/
def bareTree (t : Tree) : Tree := { t with frontier := t.frontier.map fun n => { n with key := [] } }

/-- The token port as a checkpoint holds it: without shares, secrets and passwords. -/
def bareTkn (t : Tkn) : Tkn :=
  { t with
    buses := t.buses.mapVal {} fun b => { b with script := [], cur := none, data := [] }
    marks := t.marks.map fun m => { m with cpw := [] }
    ceremony := { t.ceremony with cdk := [], coeffs := [], shares := t.ceremony.shares.map fun e => (e.1, e.2.1, []) } }

/-- The control state of every island (R484). -/
def checkpointOf (s : State) : Ckpt :=
  { portA := s.portA, portB := s.portB, qps := s.qps, sched := s.sched, manifests := s.manifests, nextManifest := s.nextManifest,
    tenants := s.tenants, slots := s.slots.mapVal {} bareSlot, keyed := s.keyed, trees := s.agate.trees.mapVal {} bareTree,
    anchors := s.agate.anchors, tokens := s.agate.tokens, drbgs := s.drbgs, entropy := s.entropy, sources := s.sources,
    sealEngines := s.sealEngines.mapVal {} bareSeng, arith := s.arith.mapVal {} bareAeng,
    links := s.links.mapVal {} (fun k => { k with hs := none, oldKey := none }), fabric := { s.fabric with enrol := none },
    wards := s.wards, tkn := bareTkn s.tkn, meas := s.meas, measLog := s.measLog, measNext := s.measNext,
    counts := s.recorder.counts, colours := s.regs.filter fun e => e.1 / 0x8000 == 0x70000 / 0x8000 }

/-- The body of a stream's part in entries of at most 4,095 words (R480). -/
def partBodies : Nat → List Nat → List (List Nat)
  | 0, ws => [ws]
  | n + 1, ws => if ws.length ≤ 4095 then [ws] else ws.take 4095 :: partBodies n (ws.drop 4095)

/-- The digest in CHECKPOINT_END, over the bodies of the parts. -/
def partsDigest (bodies : List (List Nat)) : Bytes := sha384 ((bodies.flatten.map (leBytes 8)).flatten)

/-- A checkpoint of the Amber journal (R483), written whole: while the level is not OFF and the capture runs. -/
def ambCheckpoint (s : State) : State :=
  if s.ambLevel = 0 ∨ s.amber.frozen = true then s
  else
    let n := s.amber.ckpts
    let c := checkpointOf s
    let parts := ((List.range 21).map fun i => let ws := Config.ckptWords c i; (partBodies ws.length ws).map fun b => (i, b)).flatten
    let total := 3 + parts.foldl (fun a e => a + 1 + e.2.length) 0 + 8
    let s1 := capture s 0x01 14 [n, total]
    let pos := s1.amber.head - 3
    let s2 := capture (parts.foldl (fun t e => capture t 0x02 e.1 e.2) s1) 0x03 14 (n :: wordsOf (partsDigest (parts.map (·.2))))
    let live := fun (p : Nat) => s2.amber.ring.any fun e => e.pos == p
    { s2 with amber := { s2.amber with ckpts := satInc 16 n, whole := (s2.amber.whole.insert pos c).filter fun e => live e.1 } }

/-- Entry to HUSH (R278): links ask for KEEP_ALIVE, ports enter L1, a checkpoint is written, then the stack enters
self-refresh. -/
def hushEnter (s : State) : State :=
  let s1 := ambCheckpoint (askRate (setMode s .hush) 1)
  let up := fun (l : NMap Link) => (l.filter (fun e => e.2.level != 0)).foldl (fun a e => a ||| 2 ^ e.1) 0
  { s1 with mem := { s1.mem with selfRefresh := true }, moon := { s1.moon with keepaliveUp := up s1.links },
            portA := { s1.portA with inL1 := s1.portA.dlUp }, portB := { s1.portB with inL1 := s1.portB.dlUp } }

/-- A token bus is powered, and its cards will be identified (R373, R380). -/
def identBus (s : State) (b : Nat) : State :=
  s.setBus b { s.bus b with power := true, failed := false, cids := [], overflow := false, step := .poll, polls := 0,
                            script := [], cur := none, resolving := 0, lockOp := 0 }

/-- The escrow bus is identified at each entry to SERVICE (R380); a command that uses it is not disturbed. -/
def serviceEntered (s : State) : State := if (s.bus 2).owner.isSome then s else identBus s 2

/-- The noise sources that run their start-up tests at the exit from HUSH (R237): all but a RETIRED one and one whose second
after a failure has not ended. -/
def testSources (m : NMap NoiseSource) : NMap NoiseSource :=
  m.mapVal {} fun v => if v.state = .retired ∨ v.retestDue = true then v else { v with testing := true }

/-- The exit from HUSH to SERVICE (R285): islands clocked, HBM out of self-refresh, PCIe ports out of L1, links asked for
FULL. Doorbells and mailbox commands that wait are then served. -/
def hushExit (s : State) : State :=
  if s.mode ≠ .hush then s
  else
    let s1 := serviceEntered (askRate (setMode s .service) 0)
    fetchAll { s1 with portA := { s1.portA with inL1 := false }, portB := { s1.portB with inL1 := false },
                       mem := { s1.mem with selfRefresh := false }, sources := testSources s1.sources,
                       moon := { s1.moon with staging := 0 } }

/-- The 4 KiB staging buffer fills during HUSH, and the device leaves HUSH as though a wake event had arrived (R286). -/
def stagingCheck (s : State) : State := if s.mode = .hush ∧ s.moon.staging > 4096 then hushExit s else s

end Sys2Proof.Machine
end

