-- ==== Sys2Proof/Machine/Host.lean ====
section
/-! DEFINITION. Host ports, functions and mailboxes (02): the mailbox rows, host DMA completions, link and reset
events. -/

namespace Sys2Proof.Machine

/-! ### Mailbox page writes -/

/-- Whether a binding's mailbox and doorbells answer: assigned, not a twin, its VF enabled (R30, R36, R263). -/
def bindLive (s : State) (b : BindId) : Bool :=
  let e := s.bindOf b
  e.valid && !e.twin && (!b.vf || decide (b.n ≤ (s.port b.port).numVfs)) && s.mode != .dormant

/-- An aligned 32-bit or 64-bit access (R38). -/
def aligned (off len : Nat) : Bool := (len == 4 && off % 4 == 0) || (len == 8 && off % 8 == 0)

/-- Whether a binding's function exists for the host: PF0, or an enabled VF (R36, R263). -/
def fnThere (s : State) (b : BindId) : Bool := s.mode != .dormant && (!b.vf || decide (b.n ≤ (s.port b.port).numVfs))

/-- An access of a bad size or alignment is ignored and counted (R36, R38). -/
def sizeError (s : State) (b : BindId) : State := if fnThere s b then setErr s b.port errSize b.func else s

/-- The MMIO journal entry of a write (R481). -/
def mmio (s : State) (p : PortId) (f off len v : Nat) : State :=
  capture s 0x10 16 [off / 4 * 2 ^ 40 + f * 2 ^ 28 + p.num * 2 ^ 27 + (if len = 8 then 2 ^ 26 else 0), v]

/-- A doorbell, GO or mailbox write is taken at the HOST→DISPATCH merge (R477): inputs are numbered by port and function. -/
def dispatchMerge (s : State) (b : BindId) : State := crossing s 0x02 0 (4096 * b.port.num + b.func) 1

/-- MBX_CMD after a write of bytes at an offset below 8 (R47). -/
def cmdWrite (m : Mailbox) (off : Nat) (bs : Bytes) : Mailbox :=
  let w := patch (leBytes 8 (m.code + m.tag * 2 ^ 16 + m.oplen * 2 ^ 32)) off bs
  { m with code := u16 w 0, tag := u16 w 2, oplen := u16 w 4 }

/-- The operand area after a write of bytes at a page offset. -/
def areaWrite (m : Mailbox) (off : Nat) (bs : Bytes) : Mailbox :=
  { m with opArea := m.opArea.putList 0 (off - 0x100) (bs.take (0x900 - off)) }

/-- A write to MBX_CMD or the operand area (R38, R48): taken in IDLE or DONE, ignored in BUSY. -/
def mbxCmdWrite (s : State) (b : BindId) (off : Nat) (bs : Bytes) : State :=
  if bs = [] then s
  else if off < 8 ∧ aligned off bs.length = false then sizeError s b
  else if bindLive s b = false then s
  else if off < 8 ∨ (0x100 ≤ off ∧ off < 0x900) then
    let s1 := dispatchMerge (mmio s b.port b.func off bs.length (leNat (bs.take 8))) b
    let m := s1.mbx b
    if m.state = .busy then s1.setMbx b { m with writeWhileBusy := true }
    else s1.setMbx b (if off < 8 then cmdWrite m off bs else areaWrite m off bs)
  else s

/-- A write to MBX_CMD or the operand area (R48). -/
def execMbxCmdWrite (b : BindId) (off : Nat) (bs : Bytes) (s : State) : Host.Outcome State Fault Refusal :=
  .next (mbxCmdWrite s b off bs)

/-- The command that GO latches (R48, R52): MBX_CMD and the first OPLEN operand bytes. -/
def latchJob (s : State) (b : BindId) (m : Mailbox) : Job :=
  { origin := .mailbox b, bind := b, code := m.code, tag := m.tag, ops := m.opArea.getList 0 0 m.oplen,
    owner := b.isOwner, tenant := (s.bindOf b).tenant, cls := 1, arrival := s.clk }

/-- A latched mailbox command is handed to the scheduler; while a former command of the mailbox, reset by R55 past its
commit point, still runs inside the device, it is held back (DESIGN CHOICE, assumption 162). -/
def passJob (s : State) (j : Job) : State :=
  if (s.job? j.origin).isSome then { s with heldJobs := s.heldJobs ++ [j] } else s.addJob j

/-- GO in a mailbox (R48). In IDLE the command is latched and handed to the scheduler; a GO in HUSH starts the exit to
SERVICE (R54). -/
def goAct (s : State) (b : BindId) : State :=
  let m := s.mbx b
  if m.state = .idle then
    let s1 := s.setMbx b { m with stTag := m.tag, aborted := false, approved := false, state := .busy }
    hushExit (passJob s1 (latchJob s b m))
  else s.setMbx b { m with goNotIdle := true }

/-- A wait that an abort ends although the command is past its commit point: TENANT_QUIESCE (R265), WARD_VERIFY. -/
def waitOnly (j : Job) : Bool :=
  (j.phase == .quiesce && j.code == C.TENANT_QUIESCE) || (j.phase == .ward && j.code == C.WARD_VERIFY)

/-- ABORT in a mailbox (R48, R50): in BUSY it requests the abort; otherwise it is ignored. A command held back before it
starts ends at once. A waiting TENANT_QUIESCE may
be aborted past its commit point (R265), and a replay ends by it (R492). -/
def abortAct (s : State) (b : BindId) : State :=
  if (s.mbx b).state ≠ .busy then s
  else if s.heldJobs.any (·.origin == .mailbox b) then
    mailboxDone { s with heldJobs := s.heldJobs.filter (·.origin != .mailbox b) } b S.E_ABORTED [] false
  else
    match s.job? (.mailbox b) with
    | some j =>
      if j.committed = false ∨ waitOnly j = true ∨ j.phase = .replay then s.setJob { j with abortReq := true } else s
    | none => s

/-- What waits for the ACK of a finished command begins (R288 step 6, R300, R492): the islands other than MOONSTONE are
switched off. The row's own meaning is completed by the power operations. -/
def ackClear (s : State) (b : BindId) : State :=
  let m := s.mbx b
  if m.state = .done then s.setMbx b { m with result := [], state := .idle }
  else s.setMbx b { m with ackNotDone := true }

/-- IRQ_EN takes its value from the write before the acts of R48. -/
def setIrq (s : State) (b : BindId) (irqEn : Bool) : State := s.setMbx b { s.mbx b with irqEn := irqEn }

/-! ### Ends of a command in flight -/

/-- The commands a binding has in flight. -/
def State.jobsOf (s : State) (b : BindId) : List Job := s.jobs.filter (fun j => decide (j.bind = b))

/-- An aborted command reaches its abort point (R50): it ends with E_ABORTED unless it has passed its commit point.
What it holds is released; an aborted wait of TENANT_QUIESCE ends only the wait (R265). -/
def abortPoint (s : State) (o : Origin) : State :=
  match s.job? o with
  | some j =>
    if j.abortReq = true ∧ (j.committed = false ∨ waitOnly j = true) then
      dropWith s j S.E_ABORTED
    else s
  | none => s

/-- A command reaches its abort point (R50, R230). -/
def execAbortPointReached (o : Origin) (s : State) : Host.Outcome State Fault Refusal := .next (abortPoint s o)

/-- A started command with an unassigned code ends with E_CMD_UNKNOWN and does nothing else (R11). -/
def cmdUnknown (s : State) (o : Origin) : State :=
  match s.job? o with
  | some j =>
    if (cmdInfo? j.code).isNone ∧ s.mode ≠ .startup ∧ s.mode ≠ .dormant then failJob s j S.E_CMD_UNKNOWN else s
  | none => s

/-- A command with an unassigned code (R11). -/
def execCmdUnknown (o : Origin) (s : State) : Host.Outcome State Fault Refusal := .next (cmdUnknown s o)

/-! ### Host DMA completions -/

/-- The binding whose function issued a command's outstanding read: the ordering read's, or the front buffer's. -/
def readBind (s : State) (j : Job) : Option BindId :=
  if j.phase = .ordering then some (dmaBind s j (if j.final.isNone then (hostRef j.ops 0).port else 1))
  else if j.phase = .hostRead then j.reads.head?.map (fun r => dmaBind s j r.port) else none

/-- A read of a command fails: the cause is recorded, what it holds is released, it ends with E_HOST_DMA (R44). A
failed ordering read also sets FLUSH_FAIL (R43). -/
def readFailed (s : State) (j : Job) (bit : Nat) : State :=
  match readBind s j with
  | none => s
  | some b =>
    let s1 := setErr s b.port bit b.func
    if j.phase = .ordering then
      readsGo (finishJob (releaseJob (setErr s1 b.port errFlushFail b.func) j.origin) j S.E_HOST_DMA [] 0
        ((j.final.map (·.2.2)).getD false))
    else readsGo (failJob (releaseJob s1 j.origin) { j with reads := [] } S.E_HOST_DMA)

/-- The SQ read of a queue pair fails or is lost: the cause is recorded and the queue pair is FAULTED (R44, R66). -/
def fetchFailed (s : State) (n : Nat) (bit : Nat) : State :=
  let q := s.qp n
  readsGo (setErr (s.setQp n { q with state := .faulted, reading := none }) q.bind.port bit q.bind.func)

/-- The journal entry of a control read (R481). -/
def controlRead (s : State) (b : BindId) (bs : Bytes) : State :=
  capture s 0x11 16 ((bs.length * 2 ^ 40 + b.func * 2 ^ 28 + b.port.num * 2 ^ 27) :: wordsOf bs)

/-- The journal's JOB and DATA_DIGEST entries of a payload read (R481). -/
def journalPayload (s : State) (j : Job) (src : Bytes) : State :=
  let who := match j.origin with | .queue n _ => n | .mailbox b => b.n | .internal n => n
  let s1 := capture s 0x12 14 ([who * 2 ^ 16 + j.tag, src.length] ++ wordsOf (sha384 src))
  capture s1 0x13 14 (digestBody 0 src)

/-- The journal entries of a buffer read: an operand buffer of 64 KiB or less is a control read, another a payload read
(R481). The sealing commands journal their payload when the job ends. -/
def journalRead (s : State) (j : Job) (b : BindId) (bs : Bytes) : State :=
  if [C.SEAL, C.RECALL, C.VERIFY, C.DIGEST_ONLY].contains j.code then s
  else if bs.length ≤ 65536 then controlRead s b bs else journalPayload s j bs

/-- A buffer of a command arrives; the next one is read, or the command goes on (R44, R545). A read slower than 2 µs
puts a class 0 command out of bound (R83). Its tag serves the reads that wait. -/
def readArrived (s : State) (j : Job) (r : HostRef) (rest : List HostRef) (bs : Bytes) : State :=
  let b := dmaBind s j r.port
  let slow := decide (s.clk - j.readSince > 200)
  let j1 := { j with data := j.data ++ [bs], oob := j.oob || slow }
  let s1 := journalRead s j b bs
  match rest with
  | [] => readsGo (s1.setJob { j1 with reads := [], phase := j.afterReads, stage := j.stage + 1 })
  | _ => match issueReads (s1.setJob { j1 with reads := [] }) j1 rest with
    | some (s2, j2) => readsGo (s2.setJob j2)
    | none => match rest with
      | q :: _ =>
        readsGo (failJob (releaseJob (noteBlocked s1 (dmaBind s1 j1 q.port)) j.origin) { j1 with reads := [] } S.E_HOST_DMA)
      | [] => s1

/-- A command's outstanding host read completes (R44). -/
def hostDmaReadCompletion (s : State) (o : Origin) (r : DmaResult) : State :=
  match s.job? o with
  | none => s
  | some j =>
    match j.phase, j.unsent, j.reads with
    | .hostRead, false, q :: rest =>
      match r with
      | .data bs => if bs.length = q.len then readArrived s j q rest bs else s
      | .ur | .ca => readFailed s j errUrCa
      | .poisoned => readFailed s j errPoisoned
    | _, _, _ => s

/-- A host DMA read returns (R44). -/
def execHostDmaReadCompletion (o : Origin) (r : DmaResult) (s : State) : Host.Outcome State Fault Refusal :=
  .next (hostDmaReadCompletion s o r)

/-- An outstanding host read times out (R44): a command's, or the SQ read of the entry that would be `o`. -/
def cplTimeout (s : State) (o : Origin) : State :=
  match s.job? o with
  | some j => if j.unsent = true ∨ readBind s j = none then s else readFailed (timerTaken s 16) j errCplTimeout
  | none =>
    match o with
    | .queue n q => if (s.qp n).reading.isSome ∧ (s.qp n).nextSeq = q then fetchFailed (timerTaken s 16) n errCplTimeout else s
    | _ => s

/-- The DMA completion timeout expires (R44). -/
def execCplTimeout (o : Origin) (s : State) : Host.Outcome State Fault Refusal := .next (cplTimeout s o)

/-- The cross-port ordering read returns (R43): the completion is written, or the command ends with E_HOST_DMA. One slower
than 2 µs puts a class 0 command out of bound (R83). -/
def orderingRead (s : State) (o : Origin) (ok : Bool) : State :=
  match s.job? o with
  | some j =>
    match j.phase, j.final with
    | .ordering, some (st, bs, appr) =>
      if ok then
        readsGo (finishJob s { j with oob := j.oob || decide (s.clk - j.readSince > 200) } st (bs.drop 4) (leNat (bs.take 4)) appr)
      else readFailed s j errUrCa
    | .ordering, none =>
      if ok then s.setJob { j with phase := .started, stage := j.stage + 1 } else readFailed s j errUrCa
    | _, _ => s
  | none => s

/-- The zero-length ordering read completes (R43, R288 step 3). -/
def execOrderingReadCompletion (o : Origin) (ok : Bool) (s : State) : Host.Outcome State Fault Refusal :=
  .next (orderingRead s o ok)

/-- End every command whose outstanding read a binding test selects (R44); a queue pair whose SQ read is lost is FAULTED
(R66). -/
def endReaders (s : State) (sel : BindId → Bool) (bit : Nat) : State :=
  let s1 := (s.jobs.filter (fun j => match readBind s j with | some b => sel b | none => false)).foldl
    (fun t j => match t.job? j.origin with | some k => readFailed t k bit | none => t) s
  (s.qps.filter fun e => e.2.reading.isSome && sel e.2.bind).foldl (fun t e => fetchFailed t e.1 bit) s1

/-! ### Links -/

/-- A port's link enters L0 (R28): rate code and width as HPT_LINK_STATUS shows them; 64 GT/s in FLIT mode only (R27). -/
def linkUp (s : State) (p : PortId) (rate width : Nat) (flit : Bool) : State :=
  let h := s.port p
  if h.perst = true ∨ s.mode = .dormant ∨ rate = 0 ∨ rate > 6 ∨ (rate = 6 ∧ flit = false) ∨
      ¬ (width = 4 ∨ width = 8 ∨ width = 16) then s
  else
    let below := decide (rate < 4)
    let h' := { h with dlUp := true, rate := rate, width := width, flit := flit, inL1 := false, belowRated := below,
                       everUp := true, retrainCount := if h.everUp then satInc 8 h.retrainCount else h.retrainCount }
    let s1 := s.setPort p h'
    fetchAll (if below then recordEvent s1 0x8C0D p.num rate width else s1)

/-- A host link enters L0 (R28). -/
def execPcieLinkUp (p : PortId) (rate width : Nat) (flit : Bool) (s : State) : Host.Outcome State Fault Refusal :=
  .next (linkUp s p rate width flit)

/-- A port's link goes down (R44): reads outstanding on it end their commands at that moment. -/
def linkDown (s : State) (p : PortId) : State :=
  let h := s.port p
  let s1 := s.setPort p { h with dlUp := false, rate := 0, width := 0, flit := false, inL1 := false, belowRated := false }
  endReaders s1 (fun b => b.port == p) errLinkDown

/-- A host link goes down (R44). -/
def execPcieLinkDown (p : PortId) (s : State) : Host.Outcome State Fault Refusal := .next (linkDown s p)

/-- A training that does not reach x4 or wider: the port stays out of L0 and RETRAIN_COUNT counts it (R28); reads still
outstanding on it end as at a link-down (R44). -/
def failedTraining (s : State) (p : PortId) : State :=
  let h := s.port p
  let s1 := s.setPort p { h with dlUp := false, rate := 0, width := 0, flit := false, inL1 := false, belowRated := false,
                                 retrainCount := satInc 8 h.retrainCount }
  endReaders s1 (fun b => b.port == p) errLinkDown

/-- A host link fails to train (R28). -/
def execPcieFailedTraining (p : PortId) (s : State) : Host.Outcome State Fault Refusal := .next (failedTraining s p)

/-! ### Function enables -/

/-- Bus Master Enable of a function is set, and fetching goes on (R57, R66). -/
def bmeSet (s : State) (p : PortId) (f : Nat) : State := fetchAll (s.setFn p f { s.fn p f with bme := true })

/-- Host software sets Bus Master Enable (R57). -/
def execBusMasterEnableSet (p : PortId) (fn : Nat) (s : State) : Host.Outcome State Fault Refusal := .next (bmeSet s p fn)

/-- Bus Master Enable of a function is cleared: no further DMA; its outstanding reads end their commands (R44, R57). -/
def bmeClear (s : State) (p : PortId) (f : Nat) : State :=
  endReaders (s.setFn p f { s.fn p f with bme := false }) (fun b => b.port == p && b.func == f) errBme

/-- Host software clears Bus Master Enable (R57). -/
def execBmeClear (p : PortId) (fn : Nat) (s : State) : Host.Outcome State Fault Refusal := .next (bmeClear s p fn)

/-- VF Enable of a port is set for VFs 1 to `n`, at most 4,095 (R29, R263). -/
def vfEnable (s : State) (p : PortId) (n : Nat) : State := s.setPort p { s.port p with numVfs := min n 4095 }

/-- Host software sets VF Enable (R263). -/
def execVfEnableSet (p : PortId) (numVfs : Nat) (s : State) : Host.Outcome State Fault Refusal :=
  .next (vfEnable s p numVfs)

/-- A vector is unmasked: its pending message is sent (R46). -/
def msixUnmask (s : State) (p : PortId) (f v : Nat) : State :=
  let e := s.fn p f
  let e1 := { e with unmasked := if e.unmasked.contains v then e.unmasked else v :: e.unmasked }
  if e.pba.contains v && e.msixEnable && !e.funcMask then
    (s.setFn p f { e1 with pba := e.pba.filter (· != v) }).send (.msix p f v)
  else s.setFn p f e1

/-- An MSI-X vector is unmasked (R46). -/
def execMsixUnmask (p : PortId) (fn vec : Nat) (s : State) : Host.Outcome State Fault Refusal :=
  .next (msixUnmask s p fn vec)

/-! ### Resets -/

/-- A queue pair after a reset of its binding (R55 step 5, R66): heads, tails and what is known of entries not fetched return
to 0, the CQ phase to 1; an ACTIVE one stops. -/
def resetQp (q : QueuePair) : QueuePair :=
  if q.state = .free then q
  else { q with state := if q.state = .active then .stopped else q.state, sqHead := 0, sqTail := 0, cqHead := 0, cqTail := 0,
                cqPhase := true, keptHeader := none, arrivals := [], reading := none, held := false, uncoalesced := 0 }

/-- Change every queue pair that a test on its binding selects. -/
def mapQps (s : State) (sel : QueuePair → Bool) (f : QueuePair → QueuePair) : State :=
  { s with qps := s.qps.mapVal {} (fun q => if sel q then f q else q) }

/-- R55 steps 1 to 4 for one command: an uncommitted one, or one of which an abort ends only a wait (R265), is aborted and
its engines wiped; another committed one goes on with its completion discarded. -/
def resetJob (s : State) (j : Job) : State :=
  if j.committed && !waitOnly j then s.setJob { j with discard := true } else (releaseJob s j.origin).dropJob j.origin

/-- R55 step 5: the mailbox page returns to its reset values; DONE_COUNT and the operand area stay. -/
def resetMailbox (m : Mailbox) : Mailbox := { doneCount := m.doneCount, opArea := m.opArea }

/-- R55 step 6: an ACTIVE tenant moves to QUIESCING. -/
def resetTenant (s : State) (t : Nat) : State :=
  let c := s.ten t
  if c.state = .active then s.setTen t { c with state := .quiescing, jobsEnded := 0, jobsAborted := 0 } else s

/-- A function-level reset of a primary or owner binding (R55). -/
def resetPrimary (s : State) (b : BindId) : State :=
  let s1 := mapQps s (fun q => decide (q.bind = b)) resetQp
  let s2 := (s1.jobsOf b).foldl resetJob { s1 with heldJobs := s1.heldJobs.filter fun j => decide (j.bind ≠ b) }
  let s3 := readsGo (s2.setMbx b (resetMailbox (s2.mbx b)))
  if b.isOwner then s3 else resetTenant s3 (s.bindOf b).tenant

/-- A function-level reset of a twin binding (R55): the tenant's commands with DMA outstanding on it end. -/
def resetTwin (s : State) (b : BindId) : State := endReaders s (fun c => decide (c = b)) errBme

/-- A function-level reset of one binding. -/
def resetBinding (s : State) (b : BindId) : State :=
  let e := s.bindOf b
  if e.valid = false then s else if e.twin then resetTwin s b else resetPrimary s b

/-- The assigned bindings of a port. -/
def portBindings (s : State) (p : PortId) : List BindId :=
  (s.port p).binds.map fun e => if e.1 ≥ 4096 then { port := p, vf := true, n := e.1 - 4096 } else { port := p, vf := false, n := e.1 }

/-- The bindings that a reset of a function covers (R55, R56). -/
def covered (s : State) (p : PortId) (f : Nat) : List BindId :=
  if f = 0 then portBindings s p else [{ port := p, vf := true, n := f }]

/-- The registers a warm reset of a port returns to their Reset values (R542): the RW1C fields of HPT_. -/
def resetPortRegs (s : State) (p : PortId) : State := s.setPort p { s.port p with errStatus := 0, errFunc := 0 }

/-- Reset of a function's bindings, its MSI-X state and enables (R55, R56). -/
def resetFunction (s : State) (p : PortId) (f : Nat) : State :=
  let s1 := (covered s p f).foldl resetBinding s
  let s2 := if f = 0 then s1.setPort p { s1.port p with funcs := [], numVfs := 0 } else s1.setFn p f {}
  resetPortRegs s2 p

/-- The owner's queue pairs return to ACTIVE when the reset ends (R66). -/
def ownerResume (s : State) (p : PortId) : State :=
  mapQps s (fun q => decide (q.bind = { port := p, vf := false, n := 0 }))
    (fun q => if q.state = .stopped then { q with state := .active } else q)

/-- A function-level reset, complete (R55, R56). -/
def flr (s : State) (p : PortId) (f : Nat) : State :=
  let s1 := resetFunction s p f
  if f = 0 then ownerResume s1 p else s1

/-- A function-level reset (R55). -/
def execFlr (p : PortId) (fn : Nat) (s : State) : Host.Outcome State Fault Refusal := .next (flr s p fn)

/-- PERST of a port is asserted (R56): PF0 with every binding of the port is reset, and its link goes down. R44 and R55 give
no order for a command with a read outstanding: the link goes down first, so that such a command ends with E_HOST_DMA
(DESIGN CHOICE, assumption 164). -/
def perstAssert (s : State) (p : PortId) : State :=
  let s1 := resetFunction (linkDown s p) p 0
  s1.setPort p { s1.port p with perst := true }

/-- PERST_A_N or PERST_B_N is asserted (R56). -/
def execPerstAssert (p : PortId) (s : State) : Host.Outcome State Fault Refusal :=
  .next (capture (perstAssert s p) 0x22 16 [p.num * 2 + 8])

end Sys2Proof.Machine
end

