-- ==== Sys2Proof/Machine/Queues.lean ====
section
/-! DEFINITION. Queue pairs and the scheduler (03): doorbells, the fetch of a submission entry, the start of a job,
coalescing, QP_CREATE and QP_DELETE. -/

namespace Sys2Proof.Machine

/-! ### Doorbells -/

/-- The queue pair of a binding's local index (R45). -/
def qpnOf (s : State) (b : BindId) (q : Nat) : Option Nat :=
  (s.qps.find? (fun e => decide (e.2.bind = b ∧ e.2.localIndex = q ∧ e.2.state ≠ .free))).map (·.1)

/-- Count an ignored doorbell value (R64). -/
def dbBad (s : State) (n : Nat) : State := s.setQp n { s.qp n with dbBad := satInc 8 (s.qp n).dbBad }

/-- The doorbell page's common part: journalled, a stray one counted (R45), none where no binding answers; in HUSH every
doorbell write starts the exit to SERVICE (R54, R285). -/
def doorbell (s : State) (b : BindId) (q off v : Nat) (act : State → Nat → State) : State :=
  if bindLive s b = false then s
  else
    let s1 := dispatchMerge (mmio s b.port b.func (0x1000 + 8 * q + off) 4 v) b
    match qpnOf s1 b q with
    | none => hushExit (setErr s1 b.port errDbStray b.func)
    | some n => if (s1.qp n).state = .faulted then hushExit s1 else fetchStart (hushExit (act s1 n)) n

/-- A tail write makes entries of a queue pair available; on a class 0 queue pair an entry arrives (R82), out of bound when
the write came in HUSH or while DMD_DEGRADED is set (R83). -/
def tailArrives (s : State) (n v : Nat) : State :=
  let c := s.qp n
  let s1 := s.setQp n { c with sqTail := v,
                               arrivals := c.arrivals ++ [{ tail := v, time := s.clk, hush := s.mode == .hush, oob := dmdDegraded s }] }
  if c.cls = 0 ∧ v ≠ c.sqTail then class0Arrives s1 s.clk else s1

/-- A submission tail doorbell (R64, R65). -/
def sqTail (s : State) (b : BindId) (q v : Nat) : State :=
  doorbell s b q 0 v fun s1 n => if v ≥ 2 ^ (s1.qp n).sqLog2 then dbBad s1 n else tailArrives s1 n v

/-- A submission tail doorbell (R64). -/
def execSqTailDoorbell (b : BindId) (q v : Nat) (s : State) : Host.Outcome State Fault Refusal := .next (sqTail s b q v)

/-- A completion head doorbell (R64): a head that would pass entries not posted is ignored and counted. -/
def cqHead (s : State) (b : BindId) (q v : Nat) : State :=
  doorbell s b q 4 v fun s1 n =>
    let c := s1.qp n
    let size := 2 ^ c.cqLog2
    if v ≥ size ∨ ringCount c.cqHead v size > ringCount c.cqHead c.cqTail size then dbBad s1 n
    else s1.setQp n { c with cqHead := v }

/-- A completion head doorbell (R64). -/
def execCqHeadDoorbell (b : BindId) (q v : Nat) (s : State) : Host.Outcome State Fault Refusal := .next (cqHead s b q v)

/-! ### The fetch of an entry -/

/-- The tail write that made an entry of `slots` slots at SQ_HEAD available: the first that shows all of them (R82). -/
def arrivalOf (q : QueuePair) (slots : Nat) : Arrival :=
  (q.arrivals.find? fun a => ringCount q.sqHead a.tail (2 ^ q.sqLog2) ≥ slots).getD { tail := q.sqTail, time := 0 }

/-- The tail writes not fetched past once an entry of `slots` slots is taken; the one that released it is marked. -/
def arrivalsAfter (q : QueuePair) (slots : Nat) : List Arrival :=
  let a := arrivalOf q slots
  (q.arrivals.filter fun x => ringCount q.sqHead x.tail (2 ^ q.sqLog2) > slots).map fun x => if x = a then { x with taken := true } else x

/-- Header fields of a submission entry (R71). -/
def hdrCode (h : Bytes) : Nat := u16 h 0
def hdrFence (h : Bytes) : Bool := bitOf (u8 h 2) 0
def hdrOplen (h : Bytes) : Nat := u16 h 4
def hdrTag (h : Bytes) : Nat := u16 h 6
def hdrTenant (h : Bytes) : Nat := u16 h 8 % 4096

/-- Whether every RSVD field of a header is 0 (R71). -/
def hdrRsvdOk (h : Bytes) : Bool :=
  zeroAt h 32 32 && zeroAt h 10 6 && u16 h 8 / 4096 == 0 && u8 h 3 == 0 && u8 h 2 / 2 == 0

/-- Whether the header's claim breaks the framing of the ring (R71). -/
def framingBad (q : QueuePair) (h : Bytes) : Bool := hdrOplen h > 2048 || decide (entrySlots h > 2 ^ q.sqLog2 - 1)

/-- The command an entry submits. A class 0 command is out of bound from the start when its doorbell came in HUSH, a condition
failed since, it was held back by the allowance, its SQ read took more than 2 µs, DMD_DEGRADED is set, or 64 others are
outstanding (R83). -/
def entryJob (s : State) (n : Nat) (q : QueuePair) (entry : Bytes) : Job :=
  let a := arrivalOf q (entrySlots entry)
  let slow := match q.reading with | some t => decide (s.clk - t > 200) | none => false
  { origin := .queue n q.nextSeq, bind := q.bind, code := hdrCode entry, tag := hdrTag entry,
    ops := slice entry 64 (hdrOplen entry), owner := q.bind.isOwner, tenant := q.tenant, cls := q.cls,
    fence := hdrFence entry, result := hostRef entry 16, arrival := a.time,
    oob := q.cls == 0 && (a.hush || a.oob || slow || q.held || dmdDegraded s || (dmdJobs s).length ≥ 64) }

/-- The RESULT check of R72. -/
def resultCheck (s : State) (j : Job) (c : CmdInfo) : Option Nat :=
  match refCheck s j j.result 0 maxLen with
  | some st => some st
  | none => failIf (c.maxResult > 16 && j.result.len < c.maxResult) S.E_BAD_LENGTH

/-- Whether the class row of a command lists a class; SEAL and RECALL only up to 4,096 bytes in class 0. The limit is checked
here, with the Class row of R72, ahead of the command's own rows of R96 and R100 (DESIGN CHOICE, assumption 165). -/
def classOk (c : CmdInfo) (j : Job) : Bool :=
  c.classes.contains j.cls &&
    !(j.cls == 0 && (j.code == C.SEAL || j.code == C.RECALL) && (hostRef j.ops 0).len > 4096)

/-- The checks of R72, in order. -/
def entryCheck (s : State) (j : Job) (entry : Bytes) : Option Nat :=
  match cmdInfo? j.code with
  | none => some S.E_CMD_UNKNOWN
  | some c => firstFail [failIf (!hdrRsvdOk entry) S.E_BAD_OPERAND, failIf (hdrTenant entry != j.tenant) S.E_SPOOF,
      failIf (!classOk c j) S.E_CLASS, failIf (!oplenOk c j.ops) S.E_BAD_LENGTH, resultCheck s j c,
      failIf (!tenantAllows s j) S.E_TENANT_STATE]

/-- What a spoof leaves (R269): the tenant's count, TEN_SPOOF, the event. -/
def noteSpoof (s : State) (n : Nat) (j : Job) (claimed : Nat) : State :=
  let s1 := if j.owner then s else
    s.setTen j.tenant { s.ten j.tenant with spoofCount := satInc 16 (s.ten j.tenant).spoofCount }
  let s2 := (s1.incRegField R.TEN_SPOOF 63 48).setRegField R.TEN_SPOOF 44 44 j.bind.port.num
  let s3 := ((s2.setRegField R.TEN_SPOOF 43 28 n).setRegField R.TEN_SPOOF 23 12 claimed).setRegField R.TEN_SPOOF 11 0 j.tenant
  recordStatus s3 S.E_SPOOF j claimed

/-- The arrival of a class 0 entry is counted (R82): the first of a tail write was counted with the write, every further one
at the same moment; with more than 64 outstanding the others are out of bound too (R83). -/
def countArrival (s : State) (j : Job) (a : Arrival) : State :=
  if j.cls ≠ 0 then s
  else
    let s1 := if a.taken then class0Arrives s a.time else s
    if (dmdJobs s1).length > 64 then flagClass0 s1 else s1

/-- Take a whole entry: SQ_HEAD moves past it; the checks of R72 pass it to the scheduler or end it; the next entry is
fetched. -/
def takeEntry (s : State) (n : Nat) (entry : Bytes) : State :=
  let q := s.qp n
  let slots := entrySlots entry
  let j := entryJob s n q entry
  let q' := { q with sqHead := (q.sqHead + slots) % 2 ^ q.sqLog2, keptHeader := none, nextSeq := q.nextSeq + 1, held := false,
                     reading := none, arrivals := arrivalsAfter q slots }
  let s1 := controlRead (s.setQp n q') q.bind (entry.take 65536)
  let s2 := countArrival (s1.addJob j) j (arrivalOf q slots)
  let s3 := fetchStart s2 n
  match entryCheck s j entry with
  | none => s3
  | some st => failJob (if st = S.E_SPOOF then noteSpoof s3 n j (hdrTenant entry) else s3) ((s3.job? j.origin).getD j) st

/-- A framing error (R71): one completion with E_BAD_LENGTH, then FAULTED. -/
def framingError (s : State) (n : Nat) (h : Bytes) : State :=
  let q := s.qp n
  let j := entryJob s n q (h.take 64)
  let q' := { q with sqHead := (q.sqHead + 1) % 2 ^ q.sqLog2, keptHeader := none, nextSeq := q.nextSeq + 1, reading := none }
  let s1 := s.setQp n q'
  let s2 := failJob (s1.addJob { j with ops := [] }) { j with ops := [] } S.E_BAD_LENGTH
  s2.setQp n { s2.qp n with state := .faulted }

/-- The bytes of an SQ read arrive: the whole entry, its header alone when SQ_TAIL does not show the rest, or the
remaining slots of an entry whose header was kept (R71). -/
def sqBytes (s : State) (n : Nat) (bs : Bytes) : State :=
  let q := s.qp n
  let avail := ringCount q.sqHead q.sqTail (2 ^ q.sqLog2)
  match q.keptHeader with
  | some h =>
    if entrySlots h ≤ avail ∧ bs.length = 64 * (entrySlots h - 1) then takeEntry s n (h ++ bs) else s
  | none =>
    let h := bs.take 64
    if h.length < 64 then s
    else if framingBad q h then framingError s n h
    else if entrySlots h > avail then s.setQp n { q with keptHeader := some h, reading := none }
    else if bs.length = 64 * entrySlots h then takeEntry s n bs
    else s

/-- Whether a class 0 queue pair other than `n` has an SQ read to issue: at a choice of the scheduler it goes first (R79). -/
def class0Fetches (s : State) (n : Nat) : Bool :=
  s.qps.any fun e => e.1 != n && e.2.cls == 0 && e.2.reading.isNone && canFetch s e.1 && (fetchSlots e.2).2 != 0 && !atAllowance s e.2

/-- The outcome of an SQ read. -/
def fetchArrives (s : State) (n : Nat) (r : DmaResult) : State :=
  match r with
  | .data bs => readsGo (sqBytes s n bs)
  | .ur | .ca => fetchFailed s n errUrCa
  | .poisoned => fetchFailed s n errPoisoned

/-- A queue pair whose context line fails its check is FAULTED (R497). -/
def contextLost (s : State) (n l : Nat) (f : LineFault) : State :=
  let q := s.qp n
  let j : Job := { origin := .queue n q.nextSeq, bind := q.bind, owner := q.bind.isOwner, tenant := q.tenant }
  readsGo ((memError s j l f).setQp n { q with state := .faulted, reading := none })

/-- A fetched submission entry arrives, or its read fails and the queue pair is FAULTED (R66). Where the read is not
outstanding yet, it is issued first: class 0 ahead of other classes (R79); an entry beyond the Diamond allowance stays
unfetched (R81). A read that returns to a queue pair that may no longer fetch is dropped. -/
def sqFetch (s : State) (n : Nat) (r : DmaResult) : State :=
  let q := s.qp n
  match rangeFault s.mem (qpLines n).1 (qpLines n).2 with
  | some (l, f) => if q.state = .active then contextLost s n l f else s
  | none =>
  if canFetch s n = false then (if q.reading.isSome then readsGo (s.setQp n { q with reading := none }) else s)
  else if q.reading.isSome then fetchArrives s n r
  else if q.cls ≠ 0 ∧ class0Fetches s n = true then s
  else
    let s1 := fetchStart s n
    if (s1.qp n).reading.isSome then fetchArrives s1 n r else s1

/-- A fetched submission entry arrives (R71, R72). -/
def execSqEntryFetch (qpn : Nat) (r : DmaResult) (s : State) : Host.Outcome State Fault Refusal := .next (sqFetch s qpn r)

/-! ### Starting a job -/

/-- Commands whose work includes an arith job (R80). -/
def arithWeighted (s : State) (j : Job) : Bool :=
  [C.SIGN, C.SIG_VERIFY, C.DERIVE_SHARED, C.ENCAPS, C.DECAPS, C.MANIFEST_CLOSE].contains j.code ||
  (j.code == C.KEY_GENERATE && 6 ≤ u8 j.ops 8 / 16) ||
  (j.code == C.KEY_PROVE && 6 ≤ ((s.slot (u16 j.ops 0)).pending.map (·.cls)).getD 0)

/-- A participant's scheduling weight for a job (R69, R80). -/
def weightOf (s : State) (j : Job) : Nat :=
  if j.owner then 16
  else if arithWeighted s j then (s.ten j.tenant).grant.arithShare else (s.ten j.tenant).grant.sealWeight

/-- A job's cost (R80). -/
def costOf (j : Job) : Nat :=
  if j.code = C.SEAL ∨ j.code = C.RECALL ∨ j.code = C.VERIFY ∨ j.code = C.DIGEST_ONLY then (hostRef j.ops 0).len else 4096

/-- A scheduler participant: tenant index, 4,096 for the owner and for internal work. -/
def participant (j : Job) : Nat := if j.owner then 4096 else j.tenant

/-- The weight of a class (R79): 0 acts as 1. -/
def classWeight (s : State) (c : Nat) : Nat :=
  let w := s.regField R.SCH_CLASS_WEIGHT (8 * (c - 1) + 7) (8 * (c - 1))
  if w = 0 then 1 else w

/-- Whether a tenant's buckets let a job start (R81). -/
def bucketsOk (s : State) (j : Job) : Bool :=
  j.owner || j.cls == 0 || (match j.origin with | .internal _ => true | _ => false) ||
    (((s.ten j.tenant).grant.opRate == 0 || (s.ten j.tenant).opBalance ≥ 0) &&
     ((s.ten j.tenant).grant.byteRate == 0 || (s.ten j.tenant).byteBalance ≥ 0))

/-- Whether a queue entry is next in its ring: entries start in ring order, and a FENCE waits for every earlier entry to
have completed (R71, R73). -/
def inOrder (s : State) (j : Job) : Bool :=
  match j.origin with
  | .queue n q => (qpJobs s n).all fun k => match k.origin with
      | .queue _ r => decide (r ≥ q) || (k.phase != .queued && !j.fence)
      | _ => true
  | _ => true

/-- Whether a job may be started now, its resources apart (R54, R73, R81). -/
def eligible (s : State) (j : Job) : Bool :=
  j.phase == .queued && (s.mode == .service || s.mode == .replay || s.mode == .lockdown) && bucketsOk s j && inOrder s j

/-- The deficit of a participant in a class; class 0 to 3. -/
def deficit (s : State) (j : Job) : Int := s.sched.tenantDeficit.get 0 (4097 * j.cls + participant j)

/-- Rounds of quanta until a deficit covers a cost (R80): each adds weight × 65,536. -/
def rounds (d : Int) (cost quantum : Nat) : Nat :=
  if d ≥ cost then 0 else ((cost - d).toNat + quantum - 1) / quantum

/-- The rounds a job's participant needs, and those its class needs (R79, R80). -/
def tenantRounds (s : State) (j : Job) : Nat := rounds (deficit s j) (costOf j) (weightOf s j * 65536)
@[inherit_doc tenantRounds] def classRounds (s : State) (j : Job) : Nat :=
  rounds (s.sched.classDeficit.get 0 j.cls) (costOf j) (classWeight s j.cls * 65536)

/-- Which ring or mailbox a job comes from: its queue pair number, or a number above all of those. -/
def sourceOf (j : Job) : Nat :=
  match j.origin with
  | .queue n _ => n
  | .mailbox b => 65536 + 8192 * b.port.num + b.key
  | .internal n => 81920 + n

/-- How far a source lies after the one last served, in turn (R80). -/
def turnAfter (last src : Nat) : Nat := if src > last then src - last - 1 else src + 2 ^ 64 - last

/-- The jobs that a participant of a class could start now, and the head of its next ring in turn (R80). -/
def peersOf (s : State) (j : Job) : List Job :=
  s.jobs.filter fun i => eligible s i && i.cls == j.cls && participant i == participant j
@[inherit_doc peersOf] def isHead (s : State) (j : Job) : Bool :=
  let last := s.sched.turn.get 0 (4097 * j.cls + participant j)
  (peersOf s j).all fun i => turnAfter last (sourceOf j) ≤ turnAfter last (sourceOf i)

/-- The heads of a class: one for each participant with eligible work. -/
def headsOf (s : State) (c : Nat) : List Job := s.jobs.filter fun i => i.cls == c && eligible s i && isHead s i

/-- The heads of a class that the fewest rounds reach (R80). -/
def nextOf (s : State) (c : Nat) : List Job :=
  (headsOf s c).filter fun i => (headsOf s c).all fun k => tenantRounds s i ≤ tenantRounds s k

/-- Whether the weighted deficit round-robin of tenants and classes has reached a job (R79, R80): it is its participant's head,
no participant of its class is reached in fewer rounds, and no other class of 1 to 3 is. Between those that the same round
reaches, the queue of commands names the one served (DESIGN CHOICE, assumption 7). -/
def reached (s : State) (j : Job) : Bool :=
  ((nextOf s j.cls).any (·.origin == j.origin)) &&
    (j.cls == 0 || [1, 2, 3].all fun c => c == j.cls || (nextOf s c).all fun k => classRounds s j ≤ classRounds s k)

/-- A deficit after `r` rounds of a quantum. -/
def grown (d : Int) (r quantum : Nat) : Int := d + (r * quantum : Nat)

/-- Charge the deficits for a job that starts: every participant of its class with eligible work gains the rounds that the
job's participant needed, every class of 1 to 3 with eligible work those that its class needed; the job's own give its
cost; a deficit returns to 0 with no eligible work left (R79, R80). -/
def chargeDeficits (s : State) (j : Job) : State :=
  let r := tenantRounds s j
  let rc := classRounds s j
  let own := 4097 * j.cls + participant j
  let more := (peersOf s j).any (·.origin != j.origin)
  let td := (headsOf s j.cls).foldl (fun m i =>
    let k := 4097 * i.cls + participant i
    if k = own then m else m.put 0 k (grown (deficit s i) r (weightOf s i * 65536))) s.sched.tenantDeficit
  let td' := td.put 0 own (if more then grown (deficit s j) r (weightOf s j * 65536) - costOf j else 0)
  let moreC := s.jobs.any fun i => i.origin != j.origin && i.cls == j.cls && eligible s i
  let cd := [1, 2, 3].foldl (fun m c =>
    if c = j.cls ∨ headsOf s c = [] then m
    else m.put 0 c (grown (s.sched.classDeficit.get 0 c) rc (classWeight s c * 65536))) s.sched.classDeficit
  let cd' := cd.put 0 j.cls
    (if moreC then grown (s.sched.classDeficit.get 0 j.cls) rc (classWeight s j.cls * 65536) - costOf j else 0)
  { s with sched := { s.sched with tenantDeficit := td', classDeficit := if j.cls = 0 then s.sched.classDeficit else cd',
                                   turn := s.sched.turn.put 0 own (sourceOf j) } }

/-- Charge a tenant's buckets for a job of class 1 to 3 that starts (R81). -/
def chargeBuckets (s : State) (j : Job) : State :=
  if j.owner ∨ j.cls = 0 then s
  else match j.origin with
    | .internal _ => s
    | _ =>
      let t := s.ten j.tenant
      s.setTen j.tenant { t with opBalance := if t.grant.opRate = 0 then t.opBalance else t.opBalance - 1,
                                 byteBalance := if t.grant.byteRate = 0 then t.byteBalance else t.byteBalance - costOf j }

/-- Commands of a class that an event has returned to the scheduler and that wait for a dispatcher (R545); those at stage 50 wait
for an engine. -/
def returned (s : State) (cls : Nat) : List Job :=
  s.jobs.filter fun i => i.cls == cls && i.phase == .started && i.stage != 50 && !dispatched s i.origin

/-- A dispatcher for a new job: one that may serve its class is free beyond those that returned commands of the class are to
get first (R84, R545). -/
def dispatcherFor (s : State) (j : Job) : Option Nat :=
  let free := freeDispatchers s j.cls
  if free.length > (returned s j.cls).length then free.head? else none

/-- The scheduler starts a job: class 0 ahead of every other class (R79), then the one the round robin has reached (R80), with
a dispatcher that may serve its class (R84); a class 0 command's order takes a credit at the vault arbiter (R85). -/
def schedStart (s : State) (o : Origin) : State :=
  match s.job? o with
  | none => s
  | some j =>
    if eligible s j = false then s
    else if j.cls ≠ 0 ∧ (s.jobs.any (fun i => i.cls == 0 && eligible s i)) = true then s
    else if reached s j = false ∨ (j.cls = 0 ∧ creditFree s .vault = false) then s
    else match dispatcherFor s j with
      | none => s
      | some d =>
        let s1 := (chargeBuckets (chargeDeficits s j) j).setJob { j with phase := .started }
        holdDispatcher (if j.cls = 0 then takeCredit s1 .vault o else s1) d o

/-- The scheduler starts a job (R79, R80). -/
def execSchedJobStart (o : Origin) (s : State) : Host.Outcome State Fault Refusal := .next (schedStart s o)

/-! ### Buckets, spoof limit, coalescing -/

/-- A bucket balance after a refill, up to its depth (R261). -/
def refilled (bal : Int) (rate add depth : Nat) : Int := if rate = 0 then bal else min (bal + add) depth

/-- A tenant's buckets refill for `us` microseconds (R261): OP_RATE per second, BYTE_RATE MB per second; depths in
operations and KiB. -/
def bucketRefill (s : State) (t us : Nat) : State :=
  let c := s.ten t
  if c.state = .free then s
  else
    (timerTaken s 14).setTen t { c with
      opBalance := refilled c.opBalance c.grant.opRate (c.grant.opRate * us / 1000000) c.grant.opDepth
      byteBalance := refilled c.byteBalance c.grant.byteRate (c.grant.byteRate * us) (c.grant.byteDepth * 1024) }

/-- A tenant's buckets refill (R81, R261). -/
def execTenantBucketRefill (t us : Nat) (s : State) : Host.Outcome State Fault Refusal := .next (bucketRefill s t us)

/-- TENANT_QUIESCE is taken (R265): fetching stops; with ABORT every job in flight that has not passed its commit point
is to end at its next abort point. -/
def quiesceTenant (s : State) (t : Nat) (abort : Bool) : State :=
  let c := s.ten t
  let s1 := if c.state = .active then
      mapQps (s.setTen t { c with state := .quiescing, jobsEnded := 0, jobsAborted := 0 })
        (fun q => !q.bind.isOwner && q.tenant == t && q.state == .active) (fun q => { q with state := .stopped })
    else s
  if abort then
    { s1 with jobs := s1.jobs.map (fun j => if isTenantWork t j && !j.committed then { j with abortReq := true } else j) }
  else s1

/-- A tenant whose spoof count has reached its limit is quiesced as by MODE ABORT, with an event (R269). -/
def spoofLimit (s : State) (t : Nat) : State :=
  let c := s.ten t
  if c.state = .active ∧ c.grant.spoofLimit ≠ 0 ∧ c.spoofCount ≥ c.grant.spoofLimit then
    recordEvent (quiesceTenant s t true) 0x8D09 t c.spoofCount 0
  else s

/-- A tenant's spoof limit is reached (R269). -/
def execSpoofLimitReached (t : Nat) (s : State) : Host.Outcome State Fault Refusal := .next (spoofLimit s t)

/-- COAL_TIME passes since the first completion posted without an interrupt (R78). -/
def coalExpire (s : State) (n : Nat) : State :=
  let q := s.qp n
  if q.state = .free ∨ q.uncoalesced = 0 ∨ q.coalTime = 0 then s
  else raiseVector (timerTaken (s.setQp n { q with uncoalesced := 0 }) 14) q.bind.port q.bind.func q.vector

/-- The coalescing timer of a CQ expires (R78). -/
def execCoalTimeExpire (qpn : Nat) (s : State) : Host.Outcome State Fault Refusal := .next (coalExpire s qpn)

/-! ### QP_CREATE and QP_DELETE -/

/-- Queue pairs a binding holds. -/
def qpsOf (s : State) (b : BindId) : List (Nat × QueuePair) :=
  s.qps.filter (fun e => decide (e.2.bind = b) && e.2.state != .free)

/-- The queue pair number that QP_CREATE takes from the pool (R61): the lowest FREE one, where the manual names none (DESIGN
CHOICE, assumption 166). -/
def freeQpn (s : State) : Option Nat := (List.range 65536).find? (fun n => (s.qps.look? n).isNone)

/-- A submitter's queue pair quota (R69). -/
def qpQuota (s : State) (j : Job) : Nat := if j.owner then 1024 else (s.ten j.tenant).grant.qpQuota

/-- Whether VECTOR is valid for a binding (R74). -/
def vectorOk (b : BindId) (v : Nat) : Bool := if b.vf then v < 64 else v == 0

/-- The checks of QP_CREATE, in order (R68). -/
def qpCreateCheck (s : State) (j : Job) : Option Nat :=
  let o := j.ops
  firstFail [failIf (u8 o 7 != 0 || !zeroAt o 0x0A 6 || u16 o 0 > 1023 || u8 o 2 > 3) S.E_BAD_OPERAND,
    failIf (qpnOf s j.bind (u16 o 0)).isSome S.E_QP_STATE,
    failIf ((qpsOf s j.bind).length ≥ qpQuota s j || (freeQpn s).isNone) S.E_QP_QUOTA,
    failIf (u8 o 3 < 6 || u8 o 3 > 16 || u8 o 4 < 6 || u8 o 4 > 16 || u64 o 0x10 % 4096 != 0 || u64 o 0x18 % 4096 != 0) S.E_RING,
    failIf (u8 o 2 == 0 && dmdAllow s j.owner j.tenant == 0) S.E_CLASS,
    failIf (!vectorOk j.bind (u16 o 8)) S.E_RING]

/-- The context QP_CREATE writes (R66, R68, R74). -/
def newQp (j : Job) : QueuePair :=
  let o := j.ops
  let c := u8 o 2
  { state := .active, bind := j.bind, localIndex := u16 o 0, cls := c, sqLog2 := u8 o 3, cqLog2 := u8 o 4,
    sqBase := u64 o 0x10, cqBase := u64 o 0x18, vector := if j.bind.vf then u16 o 8 else j.bind.n,
    coalCount := if c = 0 then 1 else u8 o 5, coalTime := if c = 0 then 0 else u8 o 6, cqPhase := true,
    tenant := if j.owner then 0 else j.tenant }

/-- A queue pair's context takes two lines of the submitter's colour (R272, R498), or frees them. -/
def openQp (s : State) (n : Nat) (q : QueuePair) : State :=
  { s.setQp n q with mem := allocLines s.mem (qpLines n).1 (qpLines n).2 (if q.bind.isOwner then 0xF001 else q.tenant) }
@[inherit_doc openQp] def closeQp (s : State) (n : Nat) : State :=
  { s.setQp n {} with mem := freeLines s.mem (qpLines n).1 (qpLines n).2 }

/-- QP_CREATE (R66, R68). -/
def qpCreate (j : Job) (s : State) : State :=
  checked (qpCreateCheck s j) j s
    (let n := (freeQpn s).getD 0
     okJob (openQp s n (newQp j)) j (leBytes 2 n ++ zeros 6))

/-- QP_CREATE. -/
def execQpCreate (o : Origin) (s : State) : Host.Outcome State Fault Refusal := .next (runCommand C.QP_CREATE o s qpCreate)

/-- The checks of QP_DELETE (R70). -/
def qpDeleteCheck (s : State) (j : Job) : Option Nat :=
  let n := u16 j.ops 0
  let q := s.qp n
  firstFail [failIf (q.state == .free || decide (q.bind ≠ j.bind)) S.E_NOT_OWNER,
    failIf (!(qpJobs s n).isEmpty || (q.state == .active && q.sqHead != q.sqTail)) S.E_QP_STATE]

/-- QP_DELETE (R70): the context is cleared. -/
def qpDelete (j : Job) (s : State) : State :=
  checked (qpDeleteCheck s j) j s (okJob (closeQp s (u16 j.ops 0)) j [])

/-- QP_DELETE. -/
def execQpDelete (o : Origin) (s : State) : Host.Outcome State Fault Refusal := .next (runCommand C.QP_DELETE o s qpDelete)

end Sys2Proof.Machine
end

