-- ==== Sys2Proof/Machine/Random.lean ====
section
/-! DEFINITION. Random bit generation (09): noise sources, the conditioner and its queue, the DRBG instances and their
draws, test patterns, RNG_GENERATE. -/

namespace Sys2Proof.Machine

/-! ### The entropy source -/

/-- The entropy source's own state change: an event when it enters another state (R238). -/
def noteEntropy (before : Nat) (s : State) : State :=
  let st := entropyState s
  if st = before then s else recordEvent s 0x8D05 st (healthyMask s) 0

/-- A noise source takes a new state, with its event (R237). -/
def setSource (s : State) (n : Nat) (v : NoiseSource) (test : Nat) : State :=
  let before := entropyState s
  let s1 := { s with sources := s.sources.put {} n v }
  let code := match v.state with | .healthy => 0 | .offline => 1 | .retired => 2
  noteEntropy before (recordEvent s1 0x8D04 n code test)

/-- One raw bit in a source's health tests (R236): the test that it fails, if any: 2 repetition count with cutoff 41, 3 adaptive
proportion with window 1,024 and cutoff 795. -/
def healthBit (h : HealthTest) (b : Bool) : HealthTest × Option Nat :=
  let run := if h.run ≠ 0 ∧ h.last = b then h.run + 1 else 1
  let first := if h.pos = 0 then b else h.first
  let count := if h.pos = 0 then 1 else if b = h.first then h.count + 1 else h.count
  ({ last := b, run := run, pos := (h.pos + 1) % 1024, first := first, count := count },
   if run ≥ 41 then some 2 else if count ≥ 795 then some 3 else none)

/-- Raw bits run through a source's health tests, up to the first failure. -/
def healthBits : HealthTest → List Bool → HealthTest × Option Nat
  | h, [] => (h, none)
  | h, b :: r => match healthBit h b with
    | (h1, none) => healthBits h1 r
    | x => x

/-- The bits of a byte string, the lowest bit of a byte first. -/
def bitsOf (bs : Bytes) : List Bool := (bs.map fun b => (List.range 8).map b.getLsbD).flatten

/-- A source fails a test (R237): OFFLINE, or RETIRED at its third failure. `test` is the event's: 1 at start-up, 2 or 3 in
operation; `kind` the test that failed, which is counted. -/
def sourceFails (s : State) (n test kind : Nat) : State :=
  let v := s.sources.get {} n
  let fails := v.fails + 1
  let s1 := if kind = 2 then s.incRegField R.RNG_HEALTH_COUNT 63 48 else s.incRegField R.RNG_HEALTH_COUNT 47 32
  setSource s1 n { state := if fails ≥ 3 then .retired else .offline, fails := fails, retestDue := decide (fails < 3) } test

/-- A source's start-up test of 4,096 samples (R236, R237): it is HEALTHY, or fails. -/
def startupTest (s : State) (n : Nat) (samples : Bytes) : State :=
  let v := s.sources.get {} n
  match healthBits {} (bitsOf samples) with
  | (h, none) =>
    let v' : NoiseSource := { v with state := .healthy, retestDue := false, testing := false, health := h }
    if v.state = .healthy then { s with sources := s.sources.put {} n v' } else setSource s n v' 1
  | (_, some k) => sourceFails s n 1 k

/-- A source's start-up test ends (R237): after VAULT was powered, or after an exit from HUSH. -/
def startupTestDone (s : State) (n : Nat) (samples : Bytes) : State :=
  let v := s.sources.get {} n
  if n ≥ 8 ∨ v.state = .retired ∨ (v.state = .healthy ∧ v.testing = false) ∨ v.retestDue = true ∨ s.mode = .hush ∨
      samples.length ≠ 512 then s
  else startupTest s n samples

/-- The conditioning block that holds a failed source's bits is discarded and counted (R237). -/
def discardBlock (s : State) : State := s.incRegField R.RNG_HEALTH_COUNT 15 0

/-- Raw bits of a HEALTHY source fail its continuous health tests (R236, R237); the conditioner drops its block when it was
filling one. -/
def sourceFail (s : State) (n : Nat) (samples : Bytes) : State :=
  let v := s.sources.get {} n
  if n ≥ 8 ∨ v.state ≠ .healthy ∨ s.mode = .hush ∨ s.mode = .dormant then s
  else match healthBits v.health (bitsOf samples) with
    | (h, none) => { s with sources := s.sources.put {} n { v with health := h } }
    | (_, some k) => sourceFails (if s.filling then discardBlock s else s) n k k

/-- The retest of an OFFLINE source, one second after it failed (R237); one whose second ends in HUSH runs at the exit, with the
start-up tests of the other sources. -/
def sourceRetest (s : State) (n : Nat) (samples : Bytes) : State :=
  let v := s.sources.get {} n
  if n ≥ 8 ∨ v.state ≠ .offline ∨ v.retestDue = false then s
  else if s.mode = .hush then { s with sources := s.sources.put {} n { v with testing := true, retestDue := false } }
  else if samples.length ≠ 512 then s
  else startupTest (timerTaken s 13) n samples

/-- An OFFLINE source repeats its start-up test (R237). -/
def execNoiseSourceRetest (n : Nat) (samples : Bytes) (s : State) : Host.Outcome State Fault Refusal :=
  .next (sourceRetest s n samples)

/-! ### The conditioner and the queue -/

/-- One step of the LFSR x^64 + x^63 + x^61 + x^60 + 1 (R250). -/
def lfsrStep (v : Nat) : Nat :=
  let b := (b2n (v.testBit 63) + b2n (v.testBit 62) + b2n (v.testBit 60) + b2n (v.testBit 59)) % 2
  (v * 2 + b) % 2 ^ 64

/-- `n` bits of the LFSR sequence, and the register after them. -/
def lfsrBits : Nat → Nat → List Bool × Nat
  | 0, v => ([], v)
  | n + 1, v =>
    let (bs, v') := lfsrBits n (lfsrStep v)
    (v.testBit 63 :: bs, v')

/-- Bits packed into bytes, first bit lowest. -/
def packBits : Nat → List Bool → Bytes
  | 0, _ => []
  | n + 1, bs => BitVec.ofNat 8 ((bs.take 8).zipIdx.foldl (fun a e => a + b2n e.1 * 2 ^ e.2) 0) :: packBits n (bs.drop 8)

/-- RNG_TEST.MODE in force (R250, R251): 0 outside FACTORY. -/
def rngMode (s : State) : Nat := if s.lcs.state = 1 then s.regField R.RNG_TEST 1 0 else 0

/-- The 48 bytes of RNG_PATTERN_0 to RNG_PATTERN_5 (R250). -/
def patternBlock (s : State) : Bytes := ((List.range 6).map fun k => leBytes 8 (s.reg (R.RNG_PATTERN_k + 8 * k))).flatten

/-- The HEALTHY sources, in order. -/
def healthySources (s : State) : List Nat := (List.range 8).filter fun n => (s.sources.get {} n).state == .healthy

/-- The bits of a conditioner input that one of `k` interleaved sources gave, the `i`-th of them (R239). -/
def sourceBits (bits : List Bool) (k i : Nat) : List Bool := (bits.zipIdx.filter fun e => e.2 % k == i).map (·.1)

/-- The health tests of the HEALTHY sources over a conditioner input (R236): the sources' new states, and those that fail with
the test failed. -/
def testInput (s : State) (bits : List Bool) : NMap NoiseSource × List (Nat × Nat) :=
  let hs := healthySources s
  hs.zipIdx.foldl (fun a e =>
    let v := a.1.get {} e.1
    match healthBits v.health (sourceBits bits hs.length e.2) with
    | (h, none) => (a.1.put {} e.1 { v with health := h }, a.2)
    | (_, some k) => (a.1, a.2 ++ [(e.1, k)])) (s.sources, [])

/-- A conditioned block enters the queue (R240). Commands that wait for a block go back to their dispatchers. -/
def pushBlock (s : State) (block : Bytes) : State :=
  let q := s.entropy ++ [block]
  { s with entropy := q, filling := decide (q.length < 1365),
           jobs := s.jobs.map (fun j => if j.phase = .rng then { j with phase := .started } else j) }

/-- The conditioner takes 1,024 raw bits, interleaved from the HEALTHY sources, which pass the health tests on the way (R236,
R239): the block is SHA-384 of them, or the test pattern (R250). When a source fails, the block is discarded (R237). -/
def conditionerBlock (s : State) (raw : Bytes) : State :=
  if entropyState s = 2 ∨ s.filling = false ∨ s.mode = .dormant ∨ s.mode = .hush ∨ raw.length ≠ 128 then s
  else
    let (lfsr, l') := lfsrBits 1024 s.lfsr
    let bits := if rngMode s = 1 then lfsr else bitsOf raw
    let (srcs, failed) := testInput s bits
    let s1 := { s with sources := srcs, lfsr := if rngMode s = 1 then l' else s.lfsr }
    if failed = [] then pushBlock s1 (if rngMode s = 2 then patternBlock s else sha384 (if rngMode s = 1 then packBits 128 lfsr else raw))
    else failed.foldl (fun t e => sourceFails t e.1 e.2 e.2) (discardBlock s1)

/-- In REPLAY, the next DRBG_SEED entry of an instance (R241, R489). -/
def seedEntry (s : State) (inst : Nat) : Option AmbEntry :=
  s.amber.ring.find? fun e => e.ty == 0x25 && decide (e.pos ≥ s.amber.replayFrom) && listGet 0 e.body 0 == inst
    && !s.amber.taken.contains e.pos

/-- Take the oldest block from the queue, journalled as a DRBG seed (R240, R241); filling starts again below 75 %. In REPLAY the queue
is not used: the block is that of the instance's next DRBG_SEED entry. -/
def takeBlock (s : State) (inst : Nat) : Bytes × State :=
  if s.mode = .replay then
    match seedEntry s inst with
    | some e => (((e.body.drop 1).map (leBytes 8)).flatten, { s with amber := { s.amber with taken := e.pos :: s.amber.taken } })
    | none => ([], s)
  else
    let b := s.entropy.headD []
    let q := s.entropy.drop 1
    (b, capture { s with entropy := q, filling := s.filling || decide (q.length < 1024) } 0x25 13 (inst :: wordsOf b))

/-- Whether a block for an instance can be taken: beyond the 85 reserved for class 0 (R240); in REPLAY, an entry of its own. -/
def blockReady (s : State) (n : Nat) (cls0 : Bool) : Bool :=
  if s.mode = .replay then (seedEntry s n).isSome else decide (s.entropy.length > (if cls0 then 0 else 85))

/-! ### Instances and draws -/

/-- How a draw ends. -/
inductive Draw
  | ok (bs : Bytes) (s : State)
  | fail (st : Nat)
  | wait

/-- The personalisation string of an instance (R243). -/
def persString (s : State) (n : Nat) : Bytes :=
  [0x47, 0x56, 0x2D, 0x44, 0x52, 0x42, 0x47] ++ beBytes 2 n ++ leBytes 8 s.time ++ zeros 31

/-- Set an instance. -/
def setDrbg (s : State) (n : Nat) (d : Drbg) : State := { s with drbgs := s.drbgs.put {} n d }

/-- Instantiate an instance with the next block (R243). -/
def instantiateNow (s : State) (n : Nat) : State :=
  let (b, s1) := takeBlock s n
  setDrbg s1 n { inst := true, kv := Config.drbgInstantiate b (persString s n) }

/-- The lowest instance that waits to be instantiated again takes a block when one is at hand. -/
def serveWanted (s : State) : State :=
  match s.drbgs.find? (fun e => e.2.wanted) with
  | some (n, _) => if blockReady s n false then instantiateNow s n else s
  | none => s

/-- Uninstantiate and clear an instance (R244). -/
def uninstantiate (s : State) (n : Nat) : State := setDrbg s n {}

/-- Whether a block for a seed is at hand, or why not (R248, R249). -/
def seedGate (s : State) (n : Nat) (cls0 : Bool) : Option Draw :=
  if blockReady s n cls0 then none
  else if entropyState s = 2 then some (.fail S.E_RNG_FAIL)
  else if cls0 then some (.fail S.E_RNG_STARVED)
  else some .wait

/-- Instantiate an instance before a command's commit point (R244). -/
def instantiate (s : State) (n : Nat) : Draw :=
  match seedGate s n false with
  | some d => d
  | none => .ok [] (instantiateNow s n)

/-- Reseed an instance with the next block. -/
def reseedNow (s : State) (n : Nat) : State :=
  let (b, s1) := takeBlock s n
  let d := s.drbgs.get {} n
  setDrbg s1 n { d with requests := 0, reseeds := satInc 32 d.reseeds, kv := Config.drbgReseed d.kv b }

/-- One request of at most 65,536 bytes, with the background reseed at its boundary (R245). -/
def request (s : State) (n len : Nat) : Bytes × State :=
  let d := s.drbgs.get {} n
  let bs := (List.range len).map (Config.drbgOut d.kv len)
  let s1 := setDrbg s n { d with requests := d.requests + 1, kv := Config.drbgNext d.kv len }
  (bs, if d.requests + 1 ≥ 2 ^ 20 - 4096 ∧ blockReady s1 n false = true then reseedNow s1 n else s1)

/-- Serve `k` requests (R245): a mandatory reseed comes before a request. -/
def requests (n : Nat) (cls0 : Bool) : Nat → Nat → State → Bytes → Draw
  | 0, _, s, acc => .ok acc s
  | k + 1, len, s, acc =>
    let l := min len 65536
    if (s.drbgs.get {} n).requests ≥ 2 ^ 20 then
      match seedGate s n cls0 with
      | some d => d
      | none =>
        let (bs, s1) := request (reseedNow s n) n l
        requests n cls0 k (len - l) s1 (acc ++ bs)
    else
      let (bs, s1) := request s n l
      requests n cls0 k (len - l) s1 (acc ++ bs)

/-- A draw of `len` bytes from an instance (R244 to R249). -/
def draw (s : State) (n len : Nat) (cls0 : Bool) : Draw :=
  if (s.drbgs.get {} n).inst = false then .fail S.E_RNG_UNINST
  else requests n cls0 ((len + 65535) / 65536) len (crossing s 0x07 0 n 1) []

/-- The instance a submission draws from (R242). -/
def drbgOf (j : Job) : Nat :=
  match j.origin with
  | .internal _ => 4108
  | _ => if j.owner then 4096 else j.tenant

/-- Draw for a command, then go on; a draw that fails ends the command, and one that must wait leaves it waiting for a
block (R248). -/
def withDraw (s : State) (j : Job) (n len : Nat) (k : Bytes → State → State) : State :=
  match draw s n len (j.cls == 0) with
  | .ok bs s1 => k bs s1
  | .fail st =>
    dropWith (if st = S.E_RNG_STARVED then s.incRegField R.RNG_HEALTH_COUNT 31 16 else s) j st
  | .wait => s.setJob { j with phase := .rng }

/-- A waiting draw has waited 100 µs (R248). -/
def rngStarved (s : State) (o : Origin) : State :=
  match s.job? o with
  | some j =>
    if j.phase = .rng then dropWith ((timerTaken s 13).incRegField R.RNG_HEALTH_COUNT 31 16) j S.E_RNG_STARVED else s
  | none => s

/-- A draw's wait for a queue block runs out (R248). -/
def execRngStarvedTimeout (o : Origin) (s : State) : Host.Outcome State Fault Refusal := .next (rngStarved s o)

/-! ### Test registers -/

/-- A change of RNG_TEST.MODE empties the queue and uninstantiates every instance; those that were instantiated wait
for new content (R251). The LFSR starts from its seed (R250). -/
def rngModeChanged (s : State) : State :=
  { s with entropy := [], filling := true, lfsr := 1,
           drbgs := s.drbgs.map (fun e => (e.1, { wanted := true })) }

/-- A write to RNG_TEST (R250, R251): taken only in FACTORY. -/
def rngTestWrite (s : State) (v : Nat) : State :=
  if s.lcs.state ≠ 1 then s
  else
    let old := s.regField R.RNG_TEST 1 0
    let s1 := (s.setRegField R.RNG_TEST 1 0 (v % 4)).setRegField R.RNG_TEST 6 4 (v / 16 % 8)
    if v % 4 = old then s1 else rngModeChanged s1

/-- Host software writes RNG_TEST (R250). -/
def execRngTestWrite (v : Nat) (s : State) : Host.Outcome State Fault Refusal := .next (rngTestWrite s v)

/-- A read of RNG_RAW (R251): the next 64 raw bits of the selected source, in BLANK and FACTORY, else 0. The bits read
are consumed. -/
def rngRawRead (s : State) (samples : Nat) : State :=
  if s.lcs.state ≤ 1 then
    if rngMode s = 1 then
      let (bits, l') := lfsrBits 64 s.lfsr
      { s with lfsr := l' }.send (.readData (leNat (packBits 8 bits)))
    else s.send (.readData (samples % 2 ^ 64))
  else s.send (.readData 0)

/-- Host software reads RNG_RAW (R251). -/
def execRngRawRead (samples : Nat) (s : State) : Host.Outcome State Fault Refusal := .next (rngRawRead s samples)

/-! ### RNG_GENERATE -/

/-- The checks of RNG_GENERATE. -/
def rngGenerateCheck (s : State) (j : Job) : Option Nat :=
  let o := j.ops
  firstFail [failIf (u8 o 4 / 2 != 0 || !zeroAt o 5 11 || u32 o 0 == 0 || u32 o 0 > 1048576) S.E_BAD_OPERAND,
    refCheck s j (hostRef o 16) (u32 o 0) maxLen]

/-- RNG_GENERATE after any reseed asked for: draw and write the bytes to OUT. -/
def rngGenerateDraw (j : Job) (s : State) : State :=
  withDraw s j (drbgOf j) (u32 j.ops 0) fun bs s1 =>
    writeAndEnd s1 j (hostRef j.ops 16) bs S.OK
      (leBytes 4 (u32 j.ops 0) ++ leBytes 4 (s1.drbgs.get {} (drbgOf j)).reseeds) true

/-- RNG_GENERATE (R245, R251). With RESEED_FIRST the instance reseeds first: that reseed is not mandatory, and waits as R248
gives while the entropy source is FAILED (DEDUCED, assumption 170). -/
def rngGenerate (j : Job) (s : State) : State :=
  checked (rngGenerateCheck s j) j s
    (if (s.drbgs.get {} (drbgOf j)).inst = false then dropWith s j S.E_RNG_UNINST
     else if bitOf (u8 j.ops 4) 0 then
      if blockReady s (drbgOf j) false then rngGenerateDraw j (reseedNow s (drbgOf j)) else s.setJob { j with phase := .rng }
     else rngGenerateDraw j s)

/-- RNG_GENERATE. -/
def execRngGenerate (o : Origin) (s : State) : Host.Outcome State Fault Refusal :=
  .next (runCommand C.RNG_GENERATE o s rngGenerate)

end Sys2Proof.Machine
end

