-- ==== Sys2Proof/Machine/Vault.lean ====
section
/-! DEFINITION. The key vault's shared operations (06): key classes, attribute words, derivations, the checks of an
order, target slots, the vault arbiter, and wrapped blobs. -/

namespace Sys2Proof.Machine

/-! ### Classes, templates, attribute words -/

/-- DEST bits a class allows (R148): bit 0 SEAL, 1 ARITH, 2 AGATE, 3 WRAP, 4 DRBG, 5 HMAC, 6 FABRIC, 7 GUARD. -/
def destAllowed (cls : Nat) : Nat := [0, 200, 32, 5, 12, 0, 194, 130, 66, 130, 130, 66].getD cls 0

/-- USAGE bits a class allows (R148): bit 0 ENCRYPT, 1 DECRYPT, 2 SIGN, 3 VERIFY, 4 DERIVE, 5 WRAP_KEYS,
6 UNWRAP_KEYS, 7 MAC; with PUBLIC only VERIFY, ENCRYPT or DERIVE. -/
def usageAllowed (cls size : Nat) : Nat :=
  if size ≥ 8 then [0, 0, 0, 0, 0, 0, 24, 8, 16, 8, 8, 1].getD cls 0
  else [0, 115, 144, 19, 112, 0, 28, 12, 16, 12, 12, 3].getD cls 0

/-- A key template (TEMPLATE of the key commands). -/
structure Template where
  cls : Nat
  size : Nat
  dest : Nat
  usage : Nat
  exportable : Bool
  locked : Bool
  rsvdOk : Bool

/-- The template at an operand offset. -/
def templateAt (ops : Bytes) (off : Nat) : Template :=
  { cls := u8 ops off / 16, size := u8 ops off % 16, dest := u8 ops (off + 1), usage := u8 ops (off + 2),
    exportable := bitOf (u8 ops (off + 3)) 0, locked := bitOf (u8 ops (off + 3)) 1,
    rsvdOk := u8 ops (off + 3) / 4 == 0 && zeroAt ops (off + 4) 4 }

/-- Whether CLASS, SIZE, DEST and USAGE are values R148 allows. -/
def attrsSuit (cls size dest usage : Nat) : Bool :=
  matLen cls size != 0 && cls != 5 && dest &&& destAllowed cls == dest && usage &&& usageAllowed cls size == usage

/-- The VERSION that follows (R147). -/
def nextVersion (v : Nat) : Nat := if v ≥ 0xFFFF then 1 else v + 1

/-- Colour of the holder an order writes into a slot (R147). -/
def colourOf (n : Nat) (owner : Bool) (tenant : Nat) : Nat :=
  if n < 32 then 0xF000 else if n < 192 then 0xF001 else if owner then 0xF001 else tenant

/-! ### Derivations -/

/-- A private key that key generation gives (R226). -/
def keyPriv (cls size : Nat) (seed : Bytes) : Bytes := (List.range (privLen cls size)).map (Config.keyPriv cls size seed)

/-- The public key of a private key (R149). -/
def keyPub (cls size : Nat) (priv : Bytes) : Bytes := (List.range (pubLen cls size)).map (Config.keyPub cls size priv)

/-! ### The checks of an order -/

/-- Which slots a command may name (R144, R146, R159): an order of its own kind, or one of the kinds that R159 and the
notes of the commands list. Slots 32 to 63 are the owner's own (COLOUR 0xF001); as a target only KEY_IMPORT_PUBLIC names
them (R146; DEDUCED, assumption 172). -/
inductive NameKind
  | use        -- tenants: their pool slots; the owner: slots 32 to 191
  | target     -- tenants: their pool slots; the owner: slots 64 to 191
  | attrRead | destroy | wrapRoot
  | keyPublic
  | claim      -- an attestation claim (R450)
  deriving DecidableEq, Repr

/-- Row 1 of R159: range, reserved slots, and kinds the issuer may name. -/
def slotNamed (s : State) (owner : Bool) (k : NameKind) (n : Nat) : Bool :=
  if n ≥ 16384 ∨ (8 ≤ n ∧ n < 16) ∨ (192 ≤ n ∧ n < 256) then false
  else if owner = false then decide (n ≥ 256) || (k == .keyPublic && n ≤ 1)
  else if 32 ≤ n ∧ n < 64 then k != .target
  else if n < 256 then true
  else (s.slot n).active.isSome || !(k == .use || k == .target)

/-- Row 2 of R159: the slot's colour, or one of the cases listed. -/
def slotAccess (s : State) (owner : Bool) (tenant : Nat) (k : NameKind) (n : Nat) : Bool :=
  if k = .keyPublic ∧ n ≤ 1 then true
  else if owner then
    if n < 32 then k == .claim && n ≤ 1
    else if n < 256 then true
    else (s.slot n).active.isNone || k == .attrRead || k == .destroy || k == .wrapRoot || k == .claim
  else match (s.slot n).active with
    | some h => h.colour == tenant
    | none => true

/-- Row 3 of R159 as R156 explains it: an UNKEYED vault refuses the orders that need slots 2, 3, 6 or 7 or a tenant root
(DEDUCED, assumption 173). -/
def slotKeyed (s : State) (n : Nat) : Bool :=
  s.keyed || !([2, 3, 6, 7].contains n || ((s.slot n).active.map (·.cls)).getD 0 == 4)

/-- Rows 1 to 3 of R159. -/
def accessCheck (s : State) (j : Job) (k : NameKind) (n : Nat) : Option Nat :=
  if s.zeroised then some S.E_ZEROISED
  else if slotNamed s j.owner k n = false then some S.E_SLOT_RANGE
  else if slotAccess s j.owner j.tenant k n = false then some S.E_SLOT_ACCESS
  else if slotKeyed s n = false then some S.E_UNKEYED
  else none

/-- The active half of a slot when it is ACTIVE. -/
def activeHalf (s : State) (n : Nat) : Option SlotHalf :=
  match (s.slot n).active with
  | some h => if h.act then some h else none
  | none => none

/-- The checks of R159 on the active half of a slot: rows 1 to 4, then CLASS and SIZE by `suits`, DEST and USAGE by the
bits given (0 asks for none). `custody` tells that the order also needs slot 3 or a tenant root. -/
def slotCheckNeeding (s : State) (j : Job) (k : NameKind) (n : Nat) (custody : Bool) (suits : SlotHalf → Bool) (dest usage : Nat) :
    Option Nat :=
  match accessCheck s j k n with
  | some st => some st
  | none =>
    if custody && !s.keyed then some S.E_UNKEYED
    else match activeHalf s n with
      | none => some S.E_SLOT_EMPTY
      | some h =>
        if suits h = false then some S.E_SLOT_CLASS
        else if h.dest &&& dest ≠ dest then some S.E_DEST_DENIED
        else if h.usage &&& usage ≠ usage then some S.E_USAGE_DENIED
        else none

/-- The checks of R159 for an order that needs the named slot alone. -/
def slotCheck (s : State) (j : Job) (k : NameKind) (n : Nat) (suits : SlotHalf → Bool) (dest usage : Nat) : Option Nat :=
  slotCheckNeeding s j k n false suits dest usage

/-- Clear ACTIVE of a half whose record failed its check, with the event (R150). -/
def recordFail (s : State) (j : Job) (n : Nat) (pend : Bool) : State :=
  let v := s.slot n
  let f := fun h : SlotHalf => { h with act := false }
  recordStatus (s.setSlot n (if pend then { v with pending := v.pending.map f } else { v with active := v.active.map f }))
    S.E_RECORD_FAIL j n

/-- The first line of a half's records that fails its check (R497). -/
def recordFault (s : State) (h : SlotHalf) : Option (Nat × LineFault) :=
  (h.record.toList ++ h.pubRecord.toList).findSome? fun r => rangeFault s.mem (recordLines r.handle).1 ((r.len + 63) / 64)

/-- An order whose record failed its check ends (R150, R497). -/
def recordFailed (s : State) (j : Job) (n : Nat) (pend : Bool) (h : SlotHalf) : State :=
  let s1 := match recordFault s h with
    | some (l, f) => memError s j l f
    | none => s
  dropWith (recordFail s1 j n pend) j S.E_RECORD_FAIL

/-- The OUTCOME entry of an order's step that reads or writes the key material of a slot (R481, R489). -/
def materialStep (s : State) (j : Job) (n st : Nat) : State :=
  capture s 0x15 13 [place 63 56 3 + place 55 40 n + place 39 24 st, jobHandle j.origin]

/-- Go on with a half's key and public key, as its records hold them (R149, R150), or end for their failure. -/
def withMaterial (s : State) (j : Job) (n : Nat) (pend : Bool) (k : State → SlotHalf → State) : State :=
  match (if pend then (s.slot n).pending else (s.slot n).active) with
  | none => dropWith s j S.E_SLOT_EMPTY
  | some h => match openHalf s h with
    | some h' => k (materialStep s j n S.OK) h'
    | none => recordFailed (materialStep s j n S.E_RECORD_FAIL) j n pend h

/-- Go on with a half's public key (R149). -/
def withPublic (s : State) (j : Job) (n : Nat) (pend : Bool) (k : SlotHalf → State) : State :=
  match (if pend then (s.slot n).pending else (s.slot n).active) with
  | none => dropWith s j S.E_SLOT_EMPTY
  | some h => match openPublic s h with
    | some p => k { h with pubKey := p }
    | none => recordFailed s j n pend h

/-! ### Quota and free slots -/

/-- Whether a slot is free for a new key (R544). -/
def slotFree (v : Slot) : Bool := v.active.isNone && v.resActive.isNone

/-- The lowest free slot among `fuel` slots from `n`. -/
def findFree (s : State) (n : Nat) : Nat → Option Nat
  | 0 => none
  | fuel + 1 => if slotFree (s.slot n) then some n else findFree s (n + 1) fuel

/-- Whether the quota lets a tenant hold one more slot (R162, R259). -/
def quotaLeft (s : State) (j : Job) : Bool :=
  decide (slotsHeld s j.tenant j.origin < (s.ten j.tenant).grant.slotQuota)

/-- The slot that a target 0xFFFF takes (R162). -/
def pickFree (s : State) (j : Job) : Option Nat :=
  if j.owner then findFree s 64 128
  else if quotaLeft s j then findFree s 256 16128 else none

/-- Whether another order holds a reservation. -/
def heldByOther (j : Job) (r : Option Origin) : Bool := r.isSome && r != some j.origin

/-- How a command names its target: KEY_IMPORT_PUBLIC also takes the owner's public-key slots (R146). -/
def targetKind (j : Job) : NameKind := if j.code = C.KEY_IMPORT_PUBLIC then .use else .target

/-- The checks of R162 and R544 on a target slot and half. A reservation of the command's own passes. -/
def targetCheck (s : State) (j : Job) (n half : Nat) : Option Nat :=
  if n = 0xFFFF then
    if (match j.target with | some _ => false | none => (pickFree s j).isNone) then some S.E_SLOT_QUOTA
    else if half = 1 then some S.E_SLOT_STATE else none
  else match accessCheck s j (targetKind j) n with
    | some st => some st
    | none =>
      let v := s.slot n
      if half = 0 then
        if v.active.isSome ∨ heldByOther j v.resActive = true then some S.E_SLOT_STATE
        else if !j.owner && !quotaLeft s j then some S.E_SLOT_QUOTA else none
      else match v.active with
        | none => some S.E_SLOT_STATE
        | some h =>
          if h.act = false then some S.E_SLOT_STATE
          else if h.locked then some S.E_SLOT_LOCKED
          else if h.cls = 3 ∨ h.cls = 4 then some S.E_SLOT_CLASS
          else if v.pending.isSome ∨ heldByOther j v.resPending = true then some S.E_SLOT_STATE
          else none

/-- Whether a key's attributes fit the target (R146, R148, R162). -/
def fitsCheck (s : State) (n half cls size dest usage : Nat) : Option Nat :=
  if attrsSuit cls size dest usage = false then some S.E_SLOT_CLASS
  else if 32 ≤ n ∧ n < 64 ∧ size < 8 then some S.E_SLOT_CLASS
  else if half = 1 ∧ ((s.slot n).active.map (fun h => (h.cls, h.size))) ≠ some (cls, size) then some S.E_SLOT_CLASS
  else none

/-! ### The vault arbiter -/

/-- The name by which an order names a tree, a tenant context, or everything, beside the slots 0 to 16,383 (R174). -/
def treeName (t : Nat) : Nat := 16384 + t
@[inherit_doc treeName] def tenantName (t : Nat) : Nat := 131072 + t
@[inherit_doc treeName] def everyName : Nat := 262144

/-- Destroy orders (R174, rank 3). -/
def destroyOrder (c : Nat) : Bool :=
  [C.KEY_DESTROY, C.SHRED_STAGE, C.SHRED_COMMIT, C.TENANT_RESET, C.TENANT_DESTROY].contains c

/-- The rank of a command's order (R174); ZEROISE, rank 1, is no command's order: it ends all of them (R178). -/
def orderRank (c : Nat) : Nat := if c = C.LCS_TRANSITION then 2 else if destroyOrder c then 3 else 4

/-- The colour of an order: that of the binding that issued it, or dispatcher-internal (R158). -/
def orderColour (j : Job) : Nat :=
  match j.badColour, j.origin with
  | some c, _ => c
  | none, .internal _ => 0xF002
  | none, _ => if j.owner then 0xF001 else j.tenant

/-- What a job's order names. -/
def Job.named (j : Job) : List Nat := j.names.map (·.1)

/-- Whether two orders meet on an object (R174). -/
def namesMeet (a b : List Nat) : Bool := (a.contains everyName && b != []) || (b.contains everyName && a != []) || a.any b.contains

/-- Whether an order of higher rank on one of these names has been taken and has not ended (R175). A SHRED_STAGE changes nothing
after the step in which it is taken, so no order waits for it (R174, R206). -/
def higherRunning (s : State) (o : Origin) (code : Nat) (names : List Nat) : Bool :=
  s.jobs.any fun k => k.origin != o && k.seq != 0 && k.code != C.SHRED_STAGE && decide (orderRank k.code < orderRank code) &&
    namesMeet k.named names

/-- Whether a waiting order could be taken but for its turn. -/
def orderFree (s : State) (o : Origin) : Bool :=
  match s.job? o with
  | some k => !higherRunning s o k.code k.named
  | none => false

/-- Whether an order must wait at the arbiter (R19, R175): an order of higher rank runs on what it names, a class 0 order waits
that could be taken, or an order received earlier. -/
def orderWaits (s : State) (j : Job) (names : List Nat) : Bool :=
  higherRunning s j.origin j.code names ||
    (j.cls != 0 && s.sched.credits.any fun e => e.1 == .vault && e.2 != j.origin && orderFree s e.2) ||
    (s.sched.orders.takeWhile (· != j.origin)).any fun o => orderFree s o && ((s.job? o).map (·.cls)).getD 0 ≤ j.cls

/-- An outcome of the vault arbiter (R177): the input is DISPATCH. -/
def arbiterOutcome (s : State) : State := crossing s 0x06 0 0 (s.sched.orders.length + 1)

/-- An order waits at the arbiter; of class 0 on one of its credits there (R85). -/
def holdOrder (s : State) (j : Job) (names : List Nat) : State :=
  if s.sched.orders.contains j.origin then s
  else
    let s1 := { s with sched := { s.sched with orders := s.sched.orders ++ [j.origin] } }
    let s2 := arbiterOutcome (s1.setJob { j with phase := .order, names := names.map (·, 0) })
    if j.cls = 0 then takeCredit s2 .vault j.origin else s2

/-- An order loses at the arbiter: the journalled outcome, the count, and the event that names both orders (R177, R459). -/
def arbiterLost (s : State) (j : Job) (by_ : Nat) : State :=
  recordStatus ((arbiterOutcome s).incRegField R.VLT_ARB_STAT 63 32) S.E_SUPERSEDED j by_

/-- End a command with E_SUPERSEDED (R177). -/
def supersede (s : State) (j : Job) (by_ : Nat) : State := dropWith (arbiterLost s j by_) j S.E_SUPERSEDED

/-- A SEAL, RECALL or VERIFY whose record or result is already written: only its completion is outstanding (R112). -/
def resultWritten (k : Job) : Bool := (k.code == C.SEAL || k.code == C.RECALL || k.code == C.VERIFY) && k.phase == .ordering

/-- Whether a taken order of lower rank meets a higher one (R175). -/
def lowerMeets (me : Job) (k : Job) : Bool :=
  k.origin != me.origin && k.seq != 0 && decide (orderRank me.code < orderRank k.code) && !resultWritten k &&
    namesMeet (k.named ++ k.holds) me.named

/-- Whether an engine holds a key that an order destroys. -/
def holdsNamed (names : List Nat) (k : Job) : Bool := k.holds.any fun n => names.contains n || names.contains everyName

/-- Whether a command's order has passed its commit point. A key delivery has none (R161): the orders of a MANIFEST_CLOSE after its
commit point deliver its signing keys. -/
def pastCommit (k : Job) : Bool := k.committed && k.code != C.MANIFEST_CLOSE

/-- Orders of lower rank that a higher one meets end with E_SUPERSEDED, unless past their commit point (R175). A job whose key an
engine holds receives a revoke and ends when its engine stops: a key delivery has no commit point (R161). -/
def supersedeLower (s : State) (me : Job) : State :=
  (s.jobs.filter fun k => lowerMeets me k && k.revokedBy.isNone && (!pastCommit k || holdsNamed me.named k)).foldl
    (fun t k => match t.job? k.origin with
      | none => t
      | some k' =>
        if holdsNamed me.named k' then (t.incRegField R.VLT_ARB_STAT 31 0).setJob { k' with revokedBy := some me.code }
        else supersede t k' me.code) s

/-- Whether an order of lower rank that has passed its commit point still runs on what a higher one names (R175). -/
def lowerRuns (s : State) (me : Job) : Bool := s.jobs.any fun k => lowerMeets me k && pastCommit k && !holdsNamed me.named k

/-- An order that its checks let act prevails over the orders of lower rank that it meets, and starts after those past their
commit point: until then its row runs again (R175). -/
def prevail (s : State) (j : Job) (k : State → Job → State) : State :=
  let s1 := supersedeLower (s.setJob j) j
  if lowerRuns s1 j then s1.setJob { j with phase := .order } else k s1 j

/-- What an order is bound to: of each slot it names, the number of its changes (R175). -/
def bindNames (s : State) (names : List Nat) : List (Nat × Nat) := names.map fun n => (n, if n < 16384 then (s.slot n).changes else 0)

/-- The arbiter takes an order: it is numbered and bound, and its outcome is journalled (R175, R177). -/
def bindOrder (s : State) (j : Job) (names : List Nat) : State × Job :=
  let n := s.sched.orderSeq + 1
  let j1 := { j with seq := n, names := bindNames s names, phase := .started }
  (arbiterOutcome ({ s with sched := { s.sched with orderSeq := n, orders := s.sched.orders.filter (· != j.origin) } }.setJob j1), j1)

/-- An order that reaches the arbiter after ZEROISE performs no action (R178): a queue command writes no completion. -/
def orderZeroised (s : State) (j : Job) : State :=
  let quiet := match j.origin with | .queue _ _ => true | _ => j.discard
  dropWith s { j with discard := quiet } S.E_ZEROISED

/-- The vault's refusal of an order's colour (R158). -/
def orderFault (s : State) (j : Job) : State :=
  colourFault s j { mem := 6, line := 0, init := orderColour j, priv := false, tag := orderColour j, write := false }

/-- Whether the vault takes orders of a colour (R158). -/
def vaultColour (c : Nat) : Bool := tenantColour c || c == 0xF001 || c == 0xF002

/-- A command's order reaches the vault arbiter (R158, R175, R178). An order that is taken goes on; another waits, and its command's
row runs again. -/
def takeOrder (s : State) (j : Job) (names : List Nat) (k : State → Job → State) : State :=
  if s.zeroised then orderZeroised s j
  else if vaultColour (orderColour j) = false then orderFault s j
  else if j.seq ≠ 0 then
    if j.phase = .order then k s { j with phase := .started, names := bindNames s j.named } else k s j
  else if orderWaits s j names then holdOrder s j names
  else
    let (s1, j1) := bindOrder s j names
    k s1 j1

/-- Whether an order acts on the pending half of a slot it names: KEY_PROVE, or a writer of that half. -/
def actsOnPending (k : Job) (n : Nat) : Bool := k.code == C.KEY_PROVE || k.target == some (n, 1)

/-- The VERSION or state of what `n` names is changed by the order numbered `seq` of a command, or by the device itself (0):
orders taken after it and not committed are overtaken (R176); by a change of the pending half (`pend`) those only that act on
it, since every other order takes the active half (R169). -/
def touched (s : State) (n : Nat) (pend : Bool) (code seq : Nat) : State :=
  let s1 := if n < 16384 then s.setSlot n { s.slot n with lastOrder := code, changes := (s.slot n).changes + 1 } else s
  { s1 with jobs := s1.jobs.map fun k =>
      if k.seq > seq && !k.committed && k.overtaken.isNone && k.named.contains n && (!pend || actsOnPending k n) then
        { k with overtaken := some code }
      else k }

/-- Pass an order's commit point unless an earlier order has changed what it is bound to (R175, R176). -/
def commitOrder (s : State) (j : Job) (k : State) : State :=
  match j.overtaken with
  | some c => supersede s j c
  | none => k

/-- Clear a slot: both halves and their records (R161). The reservations of running orders are kept. -/
def clearSlot (s : State) (n code seq : Nat) : State :=
  let v := s.slot n
  touched ((recordsFree s (slotRecords v)).setSlot n { v with active := none, pending := none }) n false code seq

/-- Clear a slot's pending half and its records (R170). -/
def clearPending (s : State) (n code seq : Nat) : State :=
  let v := s.slot n
  touched ((recordsFree s ((v.pending.map halfRecords).getD [])).setSlot n { v with pending := none }) n true code seq

/-- Every pending half is cleared, with its records (R168). -/
def allPendingGone (s : State) (code : Nat) : State :=
  (s.slots.filter fun e => e.2.pending.isSome).foldl (fun t e => clearPending t e.1 code 0) s

/-- Reserve a half for an order (R544). -/
def reserve (s : State) (j : Job) (n half : Nat) : State × Job :=
  let v := s.slot n
  let j' := { j with target := some (n, half) }
  let v' := if half = 0 then { v with resActive := some j.origin } else { v with resPending := some j.origin }
  ((s.setSlot n v').setJob j', j')

/-- Check and reserve a target: the slot that 0xFFFF selects is chosen now (R162, R544). -/
def withTarget (s : State) (j : Job) (n half cls size dest usage : Nat) (k : State → Job → Nat → State) : State :=
  match j.target with
  | some (m, _) => k s j m
  | none =>
    match targetCheck s j n half with
    | some st => dropWith s j st
    | none =>
      let m := if n = 0xFFFF then (pickFree s j).getD 0 else n
      match fitsCheck s m half cls size dest usage with
      | some st => dropWith s j st
      | none =>
        let (s1, j1) := reserve s j m half
        k s1 j1 m

/-- Write a new key into its target half (R168), its records into sealed HBM: PENDING follows from the pending half. -/
def writeHalf (s : State) (n half code seq : Nat) (h : SlotHalf) : State :=
  let (s1, h1) := if n < 2 then (s, h) else storeRecords s h
  let v := s1.slot n
  let v' := if half = 0 then { v with active := some h1, resActive := none } else { v with pending := some h1, resPending := none }
  touched (s1.setSlot n v') n (half == 1) code seq

/-- Results of the commands that write a key: SLOT, VERSION of the half written. -/
def keyResult (n version : Nat) : Bytes := leBytes 2 n ++ leBytes 2 version ++ zeros 4

/-- A half from a template. -/
def halfOf (t : Template) (colour origin version : Nat) (mat pub : Bytes) : SlotHalf :=
  { material := mat, pubKey := pub, colour := colour, dest := t.dest, usage := t.usage, cls := t.cls, size := t.size,
    origin := origin, exportable := t.exportable, locked := t.locked, version := version }

/-- The VERSION a new half takes: 1 in an empty slot, the active VERSION + 1 as a pending half. -/
def newVersion (s : State) (n half : Nat) : Nat :=
  if half = 1 then nextVersion ((s.slot n).active.map (·.version) |>.getD 0) else 1

/-- Store a key in the command's target (commit point: the write of ACTIVE, or of the pending half), or end for want of
records, because a record's lines are poisoned, or because the order was overtaken (R151, R175, R176, R497). -/
def storeKey (s : State) (j : Job) (h : SlotHalf) (done : State → Bytes → State) : State :=
  match j.target with
  | none => dropWith s j S.E_SLOT_STATE
  | some (n, half) =>
    if recordsUsed s + recordsNeeded h > 32768 then dropWith s j S.E_RECORD_SPACE
    else match recordFault s (storeRecords s h).2 with
    | some (l, f) => memFail s j l f
    | none => commitOrder s j (done (writeHalf (materialStep s j n S.OK) n half j.code j.seq h) (keyResult n h.version))

/-! ### Blobs -/

/-- The clear header of a blob (R166). -/
def blobHeader (kind : Nat) (h : SlotHalf) (matLen : Nat) (wkey : Bytes) : Bytes :=
  leBytes 1 1 ++ leBytes 1 kind ++ leBytes 1 (h.cls * 16 + h.size) ++ leBytes 1 h.dest ++ leBytes 1 h.usage
    ++ leBytes 1 (b2n h.exportable + 2 * b2n h.locked + 4 * h.origin) ++ leBytes 2 matLen ++ kcv wkey
    ++ leBytes 2 h.version ++ zeros 14

/-- The blob of a half (R166). -/
def blobOf (kind : Nat) (h : SlotHalf) (wkey : Bytes) : Bytes :=
  let hdr := blobHeader kind h (blobMaterial h).length wkey
  hdr ++ kwpWrap wkey (hdr ++ blobMaterial h)

/-- Whether a blob's header is well formed for a KIND (R167, first check). -/
def blobFormatOk (blob : Bytes) (kind : Nat) : Bool :=
  let cs := u8 blob 2
  blob.length ≥ 32 && u8 blob 0 == 1 && u8 blob 1 == kind && matLen (cs / 16) (cs % 16) == u16 blob 6
    && u16 blob 6 != 0 && u8 blob 5 / 16 == 0 && zeroAt blob 18 14 && blob.length == blobLen (u16 blob 6)

/-- The half that a well-formed blob's header describes, with its material (R167). -/
def blobHalf (blob mat : Bytes) (colour origin version : Nat) : SlotHalf :=
  let cls := u8 blob 2 / 16
  let size := u8 blob 2 % 16
  let pub := if size ≥ 8 then mat else if cls ≥ 6 then keyPub cls size mat else []
  { material := if size ≥ 8 then [] else mat, pubKey := pub, colour := colour, dest := u8 blob 3, usage := u8 blob 4,
    cls := cls, size := size, origin := origin, exportable := bitOf (u8 blob 5) 0, locked := bitOf (u8 blob 5) 1,
    version := version }

/-- Open a blob under a wrapping key: the status of R167, or the material. -/
def openBlob (blob wkey : Bytes) (kind : Nat) : Nat × Bytes :=
  if blobFormatOk blob kind = false then (S.E_BLOB_FORMAT, [])
  else if slice blob 8 8 ≠ kcv wkey then (S.E_WRAP_KEY, [])
  else match Config.kwpUnwrap wkey (blob.drop 32) with
    | none => (S.E_UNWRAP_FAIL, [])
    | some p =>
      if p.take 32 ≠ blob.take 32 ∨ p.length ≠ 32 + u16 blob 6 then (S.E_UNWRAP_FAIL, []) else (S.OK, p.drop 32)

/-- The wrapping key of a KIND (R165): the tenant's root, the CDK, or WRAP_SLOT. `usage` is WRAP_KEYS or UNWRAP_KEYS. -/
def wrapKey (s : State) (j : Job) (kind ws usage : Nat) : Nat × Bytes :=
  if kind = 0 then
    if j.owner then (S.E_SLOT_CLASS, [])
    else
      let r := (s.ten j.tenant).rootSlot
      match slotCheck s j .use r (fun h => h.cls == 4) 8 usage with
      | some st => (st, [])
      | none => (S.OK, ((s.slot r).active.map (·.material)).getD [])
  else if kind = 1 then
    match s.cdk with
    | some k => if s.keyed then (S.OK, k) else (S.E_UNKEYED, [])
    | none => (S.E_UNKEYED, [])
  else match slotCheck s j .use ws (fun h => h.cls == 1) 8 usage with
    | some st => (st, [])
    | none => (S.OK, ((s.slot ws).active.map (·.material)).getD [])

end Sys2Proof.Machine
end

