-- ==== Sys2Proof/Machine/Fabric.lean ====
section
/-! DEFINITION. What the links and the fabric share (16, 17): the node's identity, link states and error accounting,
routes, frames sent and forwarded, replication pushes, the quorum check, LATE_NAKs, and the reception of a frame. -/

namespace Sys2Proof.Machine

/-! ### Links -/

/-- The effective state (R414): the worse of the own state and the partner's LINK_STATE, in the order ACTIVE, DEGRADED,
QUARANTINED. -/
def effState (l : Link) : Nat :=
  let n := l.state.num
  if 5 ≤ n ∧ n ≤ 7 ∧ 5 ≤ l.partnerState ∧ l.partnerState ≤ 7 then max n l.partnerState else n

/-- Whether a link may carry a frame of a TYPE and class now (R414, R415). -/
def carries (l : Link) (ty cls : Nat) : Bool :=
  match effState l with
  | 5 => !l.keepAlive || cls != 0
  | 6 => cls != 0
  | 7 => ty == 1
  | 3 | 4 => ty == 1 || ty == 2
  | 8 => ty == 5
  | 9 => ty == 1
  | _ => false

/-- Whether a network frame of a level may cross a link (R410, R423): LSA, ENROL_REQ and ENROL_RESP on any session. -/
def levelOk (l : Link) (ty : Nat) : Bool :=
  l.level == 2 || (l.level == 1 && (ty == 0x10 || ty == 0x28 || ty == 0x29 || ty < 0x10))

/-! ### Frames sent -/

/-- Send a link frame on a link at once; a sealed one takes the next LSEQ (R411). -/
def sendLink (s : State) (l : Nat) (f : Frame) : State := if f.sealed then sendSealed s l f else s.send (.frame l f)

/-- The place of a frame in a transmit queue: class 0 ahead of all others (R415). -/
def queueFrame (q : List Frame) (f : Frame) : List Frame :=
  if f.cls = 0 then q.filter (·.cls == 0) ++ [f] ++ q.filter (·.cls != 0) else q ++ [f]

/-- Put a network frame in a link's transmit queue. -/
def enqueue (s : State) (l : Nat) (f : Frame) : State :=
  s.setLink l { s.link l with queue := queueFrame (s.link l).queue f }

/-- Send the first frame of a link's queue that the link may carry (R414, R415). -/
def drainLink (s : State) (l : Nat) : State :=
  let k := s.link l
  match k.queue.find? (fun f => carries k f.ty f.cls && levelOk k f.ty && !k.fast) with
  | none => s
  | some f =>
    let s1 := s.setLink l { k with queue := k.queue.erase f, sent := (f :: k.sent).take 256 }
    crossing (sendLink s1 l { f with sealed := true }) 0x0D l f.cls k.queue.length

/-! ### Topology and routes (R424 to R426) -/

/-- The only link towards an address is PEER_DORMANT (R427). -/
def dormantLink (s : State) (addr : Nat) : Option Nat :=
  (s.links.find? fun e => decide (e.2.state = .peerDormant) && e.2.partnerAddr == addr).map (·.1)

/-! ### Late failures (R433 to R435) -/

/-- The LATE_NAK payload (R434). -/
def nakPayload (item batch ty reason addr tag : Nat) : Bytes :=
  leBytes 8 tag ++ leBytes 2 addr ++ leBytes 1 reason ++ leBytes 1 ty ++ leBytes 6 batch ++ leBytes 8 item ++ zeros 6

/-- Place a LATE_NAK in the replication status log, with its counts and event (R435). -/
def logNak (s : State) (payload : Bytes) (peer : Option Nat) : State :=
  let f := s.fabric
  let e : ReplEntry := { payload := payload, time := s.time, state := 1, peer := peer.getD 0xFFFF }
  let l := f.replLog ++ [e]
  let peers := match peer with
    | none => f.peers
    | some p => (f.peers.zipIdx).map fun x => if x.2 = p then { x.1 with naks := satInc 16 x.1.naks } else x.1
  let f' := { f with replLog := if l.length > 256 then l.drop 1 else l, peers := peers,
                     overwritten := if l.length > 256 then f.overwritten + 1 else f.overwritten }
  let s1 := ({ s with fabric := f' }.incRegField R.FAB_REPL_COUNT 31 16).setRegField R.FAB_STATUS 35 35 1
  recordEvent s1 0x8E07 (u8 payload 10) (u16 payload 8) (u8 payload 11)

/-- The ITEM and BATCH of a frame that a LATE_NAK names: an anchor's TREE_UID and BATCH, a ROOT_ID, an IMAGE_ID, a
TREE_UID. -/
def itemOf (f : Frame) : Nat × Nat :=
  let p := f.payload
  if f.ty = 0x20 then (u64 p 27, u48 p 21)
  else if f.ty = 0x26 then (u64 p 16, 0)
  else if f.ty = 0x11 ∨ f.ty = 0x12 ∨ f.ty = 0x13 then (u64 p 0, 0)
  else (u64 p 8, 0)

/-- The frames of the vault's Agate unit: HOLD, HOLD_DROP, STAGE_NOTICE, STAGE_ACK, ANCHOR_PUSH. -/
def vaultFrame (ty : Nat) : Bool := [0x11, 0x12, 0x13, 0x14, 0x20].contains ty

/-- A frame of this node enters the route engine of its next hop, from VAULT or from DISPATCH (R477). -/
def routeIntake (s : State) (f : Frame) (l : Nat) : State :=
  if f.src = s.fabric.addr then crossing s 0x10 l (b2n !(vaultFrame f.ty)) 1 else s

/-- Put a network frame on its way (R423): the next hop of its class, when a link can carry it. -/
def forwardPlain (s : State) (f : Frame) : Option State :=
  match routeTo s f.cls f.dst with
  | none => none
  | some r => if carries (s.link r.link) f.ty f.cls then some (enqueue (routeIntake s f r.link) r.link f) else none

/-- A frame for this node goes on to VAULT or to DISPATCH (R427, R477). -/
def delivered (s : State) (l ty : Nat) : State :=
  if vaultFrame ty && ty != 0x14 then crossing s 0x06 0 1 (s.sched.orders.length + 1) else crossing s 0x04 0 l 1

/-- The TAG and HOPS of a frame that this node originates (R423). -/
def newFrame (s : State) (ty cls dst : Nat) (payload : Bytes) : Frame × State :=
  let n := (s.fabric.tagSeq + 1) % 2 ^ 56
  ({ ty := ty, cls := cls, sealed := true, hops := if cls = 0 then 8 else 16, dst := dst, src := s.fabric.addr,
     tag := ty * 2 ^ 56 + n, payload := padPayload payload },
   { s with fabric := { s.fabric with tagSeq := n } })

/-- A class 0 notice of this node found no path (R417): its SHRED_STAGE ends with E_FAB_UNREACHABLE. -/
def noticeUnreachable (s : State) (tag : Nat) : State :=
  match s.fabric.notices.find? (fun n => n.tag == tag) with
  | none => s
  | some n =>
    let s1 := { s with fabric := { s.fabric with notices := s.fabric.notices.filter (fun m => m.origin != n.origin) } }
    match s1.job? n.origin with
    | some j => failJob s1 j S.E_FAB_UNREACHABLE
    | none => s1

/-- A command that waits for a peer's answer to a fetch ends (R438). -/
def endFetch (s : State) (tag st : Nat) : State :=
  match s.fabric.fetches.find? (fun n => n.tag == tag) with
  | none => s
  | some n =>
    let s1 := { s with fabric := { s.fabric with fetches := s.fabric.fetches.filter (fun m => m.tag != tag) } }
    match s1.job? n.origin with
    | some j => dropWith s1 j st
    | none => s1

/-- A LATE_NAK reaches the originator (R435, R438): NOT_HELD only ends its fetch; every other one is logged. -/
def takeNak (s : State) (payload : Bytes) : State :=
  let reason := u8 payload 10
  let tag := u64 payload 0
  if reason = 16 then endFetch s tag S.E_FAB_NOT_HELD
  else
    let s1 := logNak s payload ((s.fabric.pushTags.find? fun e => e.1 == tag).map (·.2))
    if reason = 2 then endFetch s1 tag S.E_FAB_DORMANT
    else if reason = 1 then endFetch s1 tag S.E_FAB_NO_ROUTE else s1

/-- Send a LATE_NAK about a frame to its SRC (R433); none for a LATE_NAK; a node's own frame is logged by itself. -/
def sendNak (s : State) (f : Frame) (reason : Nat) : State :=
  if f.ty = 0x23 then s
  else
    let (item, batch) := itemOf f
    let p := nakPayload item batch f.ty reason s.fabric.addr f.tag
    if f.src = s.fabric.addr then takeNak s p
    else
      let (g, s1) := newFrame s 0x23 1 f.src p
      (forwardPlain s1 g).getD s1

/-- A class 0 frame finds no path (R417). -/
def noPath0 (s : State) (f : Frame) : State :=
  if f.src = s.fabric.addr then noticeUnreachable s f.tag
  else if f.ty = 7 then recordEvent s 0x8E04 (u16 f.payload 10) 0 0
  else
    let p := leBytes 8 f.tag ++ leBytes 2 f.dst ++ leBytes 2 s.fabric.addr ++ leBytes 1 1 ++ zeros 19
    let g : Frame := { ty := 7, cls := 0, sealed := true, hops := 8, dst := f.src, src := s.fabric.addr, tag := f.tag, payload := p }
    match forwardPlain s g with
    | some s1 => s1
    | none => recordEvent s 0x8E04 s.fabric.addr 0 0

/-- Forward a frame (R427): on the next hop of its class, or as R416 and R417 give for class 0, and with a LATE_NAK for
other classes. -/
def forward (s : State) (f : Frame) : State :=
  match forwardPlain s f with
  | some s1 => s1
  | none =>
    if f.cls = 0 then noPath0 s f
    else sendNak s f (if (dormantLink s f.dst).isSome then 2 else 1)

/-- Originate a network frame. -/
def sendNet (s : State) (ty cls dst : Nat) (payload : Bytes) : Nat × State :=
  let (f, s1) := newFrame s ty cls dst payload
  (f.tag, forward s1 f)

/-! ### Frames handed back (R416) -/

/-- Hand back the frames of a link's queue that it may not carry: class 0 when the link carries none, every class when
it is QUARANTINED or has lost its signal or session. -/
def handBack (s : State) (l : Nat) : State :=
  let k := s.link l
  let all := !(effState k == 5 || effState k == 6)
  let go := k.queue.filter (fun f => all || !carries k f.ty f.cls)
  let s1 := s.setLink l { k with queue := k.queue.filter (fun f => !(all || !carries k f.ty f.cls)),
                                 handedBack := satAdd 16 k.handedBack go.length }
  go.foldl forward s1

/-- The end of a link's session (R413): slots 16 + 2l and 17 + 2l are cleared. -/
def endSession (s : State) (l : Nat) : State :=
  let k := s.link l
  let s1 := clearSlot (clearSlot s (16 + 2 * l) 0 0) (17 + 2 * l) 0 0
  s1.setLink l { k with level := 0, txLseq := 0, rxLseq := 0, oldKey := none, oldRxLseq := 0, hs := none,
                        rateAsked := false, ownKa := false, partnerKa := false, keepAlive := false, fast := false,
                        keyPhase := false, partnerKeys := ([], []), enrolReq := [], enrolResp := [] }

/-- A link enters a state, with the event of R414 where one is recorded. -/
def linkTo (s : State) (l : Nat) (st : LinkState) (event : Bool) : State :=
  let s1 := s.setLink l { s.link l with state := st }
  handBack (if event then recordEvent s1 0x8E01 l st.num (s.link l).err else s1) l

/-! ### Error accounting (R414) -/

/-- A link enters QUARANTINED. -/
def quarantineLink (s : State) (l : Nat) : State :=
  let k := s.link l
  linkTo (s.setLink l { k with err := 256, goodBeacons := 0, quarTrained := false, quarantines := satInc 8 k.quarantines })
    l .quarantined true

/-- Move between ACTIVE, DEGRADED and QUARANTINED as the counter and the partner's report ask. -/
def settleLink (s : State) (l : Nat) : State :=
  let k := s.link l
  if (k.state = .active ∨ k.state = .degraded) ∧ k.err ≥ 256 then quarantineLink s l
  else if k.state = .active ∧ (k.err ≥ 128 ∨ k.partnerState = 6) then linkTo s l .degraded true
  else if k.state = .degraded ∧ k.err < 64 ∧ k.partnerState ≠ 6 then linkTo s l .active false
  else handBack s l

/-- The partner's direction key that a handshake derived (R409). -/
def partnerKey (h : Handshake) : Option Bytes :=
  if h.okm = [] then none else some (if h.initiator then (h.okm.drop 32).take 32 else h.okm.take 32)

/-- The key under which a received sealed frame is opened, and the last LSEQ accepted under it: an HS frame's is the handshake's, any
other frame's that of the session and its key phase (R410 to R412). -/
def openKey (s : State) (l : Nat) (f : Frame) : Option (Bytes × Nat) :=
  let k := s.link l
  if f.ty = 2 then k.hs.bind fun h => (partnerKey h).map fun x => (x, h.rx)
  else if k.level = 0 then none
  else if f.keyPhase = k.keyPhase then some (slotKey s (17 + 2 * l), k.rxLseq)
  else k.oldKey.map fun x => (x, k.oldRxLseq)

/-- Whether a frame of a TYPE must be sealed on a link that holds a session (R403, R405): a clear BEACON is left out, which R413 calls
good. -/
def mustSeal (ty : Nat) : Bool := ty == 3 || ty == 7 || decide (ty ≥ 0x10)

/-- A received frame opened; none for a bad one (R405). -/
def openFrame (s : State) (l : Nat) (f : Frame) : Option Frame :=
  if f.lineOk = false ∨ lenOk f = false then none
  else if f.sealed = false then (if (s.link l).level ≠ 0 ∧ mustSeal f.ty then none else if rsvdSet f then none else some f)
  else (openKey s l f).bind fun e => if f.lseq ≤ e.2 then none else (unsealFrame e.1 f).bind fun g => if rsvdSet g then none else some g

/-- Account for a frame (R405, R414): FEC counts, BAD, the counter and the state; a good sealed frame moves the last
LSEQ. -/
def accountFrame (s : State) (l : Nat) (f : Frame) (bad : Bool) : State :=
  let k := s.link l
  let k1 := { k with fecCorrected := satAdd 32 k.fecCorrected f.fec.1, fecUncorrectable := satAdd 32 k.fecUncorrectable f.fec.2,
                     bad := if bad then satInc 32 k.bad else k.bad,
                     err := if k.state = .quarantined then 256 else if bad then min 256 (k.err + 8) else k.err - 1,
                     goodBeacons := if bad && f.ty == 1 then 0 else k.goodBeacons }
  let k2 := if bad || !f.sealed || k.level == 0 || f.ty == 2 then k1
    else if f.keyPhase = k.keyPhase then { k1 with rxLseq := f.lseq } else { k1 with oldRxLseq := f.lseq }
  settleLink (s.setLink l k2) l

/-- A good frame ends ISOLATED (R439). -/
def leaveIsolation (s : State) : State :=
  if s.fabric.isolated then recordEvent { s with fabric := { s.fabric with isolated := false } } 0x8E06 0 0 0 else s

/-- A frame on a keep-alive link in DORMANT (R418): a good one is answered with a DORMANT_NOTICE, at most one per link each
millisecond. -/
def dormantFrame (s : State) (l : Nat) (f : Frame) : State :=
  let k := s.link l
  let soon := match k.noticeAt with | some t => decide (s.clk < t + 100000) | none => false
  if s.moon.onVbat = true ∨ (s.regField R.PWR_KEEPALIVE 7 0).testBit l = false ∨ clearGood f = false ∨ soon = true ∨ l ≥ 8 then s
  else
    let p := leBytes 8 s.moon.idHash ++ leBytes 2 (s.regField R.PWR_KEEPALIVE 23 8) ++ leBytes 1 f.ty ++ zeros 1 ++ leBytes 8 f.tag ++ zeros 12
    (s.setLink l { k with noticeAt := some s.clk }).send (.frame l { ty := 6, payload := p })

/-- Whether a link receives frames: trained, and the device runs its links. -/
def linkListens (s : State) (l : Nat) : Bool :=
  l < 8 && s.mode != .dormant && s.mode != .startup && s.mode != .lockdown && (s.link l).state.num ≥ 3

/-- A frame of a TYPE arrives on a link (R405): opened and accounted for; a good one other than a beacon wakes a hushed device
(R401), the answer to its own request for a rate apart; then it is acted on. In REPLAY all but beacons and LSAs are
dropped and counted (R489). -/
def recvFrame (s : State) (l : Nat) (ty : Nat) (f : Frame) (act : Frame → State → State) : State :=
  if s.mode = .dormant then dormantFrame s l f
  else if linkListens s l = false ∨ f.ty ≠ ty then s
  else match openFrame s l f with
    | none => accountFrame s l f true
    | some g =>
      let s1 := accountFrame s l f false
      if s.mode = .replay ∧ ty ≠ 1 ∧ ty ≠ 0x10 then
        s1.setLink l { s1.link l with refused := satInc 16 (s1.link l).refused }
      else
        let s2 := leaveIsolation (capture s1 0x20 15 (l :: wordsOf (headerBytes g ++ g.payload)))
        act g (if ty = 1 ∨ (ty = 3 ∧ u8 g.payload 1 = 1) then s2 else hushExit s2)

/-- A network frame arrives (R410, R423, R427): refused by level, acted on at its DST, or forwarded with one hop less. -/
def recvNet (s : State) (l : Nat) (ty : Nat) (f : Frame) (act : Frame → State → State) : State :=
  recvFrame s l ty f fun g s1 =>
    let k := s1.link l
    if k.level = 0 then s1
    else if levelOk k ty = false then s1.setLink l { k with refused := satInc 16 k.refused }
    else
      let s2 := crossing s1 0x10 l 2 1
      if g.dst = s2.fabric.addr ∨ ty = 0x28 ∨ ty = 0x29 then act g (delivered s2 l ty)
      else if g.hops ≤ 1 then (if g.cls = 0 then noPath0 s2 g else sendNak s2 g 3)
      else forward s2 { g with hops := g.hops - 1 }

/-! ### Peers, quorum, pushes (R429, R430) -/

/-- The quorum check (R429). -/
def quorumOk (s : State) : Bool :=
  decide ((s.fabric.peers.filter (fun p => reachable s p.id)).length ≥ s.fabric.q - 1)

/-- Log entries of the same item and peer become RESENT (R435). -/
def markResent (s : State) (ty item peer : Nat) : State :=
  let l := s.fabric.replLog.map fun e =>
    if e.peer = peer ∧ u8 e.payload 11 = ty ∧ u64 e.payload 18 = item then { e with state := 2 } else e
  { s with fabric := { s.fabric with replLog := l } }

/-- Push an item to one listed peer (R430). `mk` makes the payload from the peer's ID_HASH. -/
def pushTo (s : State) (p ty : Nat) (item batch : Nat) (mk : Nat → Bytes) : State :=
  match s.fabric.peers[p]? with
  | none => s
  | some peer =>
    if reachable s peer.id then
      let addr := (lsaOf s peer.id).addr
      let (tag, s1) := sendNet (markResent s ty item p) ty 2 addr (mk peer.id)
      let peers := (s1.fabric.peers.zipIdx).map fun x => if x.2 = p then { x.1 with pushes := satInc 32 x.1.pushes } else x.1
      { s1 with fabric := { s1.fabric with pushTags := (tag, p) :: s1.fabric.pushTags, peers := peers } }.incRegField
        R.FAB_REPL_COUNT 63 32
    else
      let (f, s1) := newFrame s ty 2 0 []
      logNak s1 (nakPayload item batch ty 1 s.fabric.addr f.tag) (some p)

/-- Push an item to every listed peer. -/
def pushAll (s : State) (ty item batch : Nat) (mk : Nat → Bytes) : State :=
  (List.range s.fabric.peers.length).foldl (fun t p => pushTo t p ty item batch mk) s

/-! ### Fetches (R438) -/

/-- A command asks a peer for an item and waits; no route ends it. `mk` makes the payload from the peer's ID_HASH. -/
def startFetch (s : State) (j : Job) (ty cls addr item ward : Nat) (mk : Nat → Bytes) : State :=
  match nodeAt s addr, routeTo s cls addr with
  | some id, some _ =>
    let (f, s1) := newFrame s ty cls addr (mk id)
    let e : Fetch := { origin := j.origin, tag := f.tag, ty := ty + 1, item := item, ward := ward }
    let s2 := { s1 with fabric := { s1.fabric with fetches := s1.fabric.fetches ++ [e] } }
    forward (s2.setJob { j with phase := .peer }) f
  | _, _ => dropWith s j (if (dormantLink s addr).isSome then S.E_FAB_DORMANT else S.E_FAB_NO_ROUTE)

/-- A fetch has its answer: the command goes on. -/
def fetchDone (s : State) (f : Fetch) (bs : Bytes) : State :=
  let s1 := { s with fabric := { s.fabric with fetches := s.fabric.fetches.filter (fun m => m.tag != f.tag) } }
  match s1.job? f.origin with
  | some j => if j.phase = .peer then s1.setJob { j with phase := .started, stage := j.stage + 1, data := [bs] } else s1
  | none => s1

/-! ### The node's advertisement (R424) -/

/-- The 128-byte LSA of the node (R424). -/
def lsaBytes (s : State) : Bytes :=
  let a := ownLsa s
  let ls := a.links.take 8
  leBytes 8 (idHash s) ++ leBytes 2 a.addr ++ leBytes 1 a.addrState ++ leBytes 1 ls.length ++ leBytes 4 a.seq ++ leBytes 8 a.kcv
    ++ leBytes 1 (b2n a.unkeyed) ++ zeros 7
    ++ (ls.map fun k => leBytes 8 k.partner ++ leBytes 1 k.num ++ leBytes 1 k.state ++ leBytes 1 k.level ++ leBytes 1 k.rate).flatten
    ++ zeros (96 - 12 * ls.length)

/-- Put an LSA on every link with a session but one. -/
def flood (s : State) (skip : Nat) (f : Frame) : State :=
  (List.range 8).foldl (fun t l => if l ≠ skip ∧ (t.link l).level ≠ 0 then enqueue t l f else t) s

/-- The node originates an LSA (R424). -/
def originate (s0 : State) : State :=
  let s := { s0 with fabric := { s0.fabric with lsaSeq := (s0.fabric.lsaSeq + 1) % 2 ^ 32 } }
  let (f, s1) := newFrame s 0x10 1 0xFFFF (lsaBytes s)
  flood s1 8 f

/-! ### Time of the links -/

/-- Every link sends one frame that waits (the tick of an idle device). -/
def drainLinks (s : State) : State :=
  if s.mode = .dormant ∨ s.mode = .startup then s else (List.range 8).foldl drainLink s

end Sys2Proof.Machine
end

