-- ==== Sys2Proof/Machine/Clock.lean ====
section
/-! DEFINITION. The passage of device time on an empty queue. -/

namespace Sys2Proof.Machine

/-- Ticks of 10 ns in one tick of operating time, 1/64 s (R282). -/
def ticksPerOp : Nat := 1562500

/-- The 40-bit operating-time counter after one device tick: it advances whenever an island other than MOONSTONE is
powered (R282). -/
def opTimeAfter (s : State) : Nat :=
  if s.mode ≠ .dormant ∧ (s.clk + 1) % ticksPerOp = 0 then (s.moon.opTime + 1) % 2 ^ 40 else s.moon.opTime

/-- PWR_RTC after one device tick: it counts periods of 1/32,768 s while MOONSTONE and its crystal run (R298, R335). -/
def rtcAfter (s : State) : Nat :=
  let r := s.reg R.PWR_RTC
  if s.tamper.xtalFail = false ∧ (s.clk + 1) * 32768 / 100000000 ≠ s.clk * 32768 / 100000000 then (r + 1) % 2 ^ 64 else r

/-- One tick of device time, 10 ns (DESIGN CHOICE, assumption 1): the clocks advance, every link sends one frame that waits,
and a full staging buffer ends HUSH (R286). -/
def tick (s : State) : State :=
  let s1 := { s with
    clk := s.clk + 1
    moon := { s.moon with opTime := opTimeAfter s }
    regs := s.regs.put 0 R.PWR_RTC (rtcAfter s) }
  stagingCheck (drainLinks s1)

end Sys2Proof.Machine
end

