-- ==== Sys2Proof/Machine/Agate.lean ====
section
/-! DEFINITION. The Agate unit's shared operations (07): key derivation, frontiers, blob sets, anchors, the journal and
its tokens, trees, the staged set, and a tenant's record. -/

namespace Sys2Proof.Machine

/-! ### Derivation and frontiers (R180 to R187) -/

/-- The key of a child node (R181): `e` its depth, `c` its side. -/
def childKey (k : Bytes) (e c : Nat) : Bytes :=
  let b := fun h => leBytes 1 0x41 ++ leBytes 1 e ++ leBytes 1 c ++ leBytes 1 h ++ zeros 12
  digestBytes 16 (Config.aes256 k (b 0)) ++ digestBytes 16 (Config.aes256 k (b 1))

/-- The child of a node on a side. -/
def child (n : Node) (c : Nat) : Node := { depth := n.depth + 1, pfx := 2 * n.pfx + c, key := childKey n.key (n.depth + 1) c }

/-- First index a node covers, and the one past its last (R180). -/
def nodeLo (n : Node) : Nat := n.pfx * 2 ^ (40 - n.depth)
def nodeHi (n : Node) : Nat := (n.pfx + 1) * 2 ^ (40 - n.depth)

/-- Whether a node covers an index. -/
def covers (n : Node) (x : Nat) : Bool := decide (nodeLo n ≤ x ∧ x < nodeHi n)

/-- The leaf key of an index below a node: `k` levels down (R181). -/
def descend : Nat → Node → Nat → Bytes
  | 0, n, _ => n.key
  | k + 1, n, x => descend k (child n (b2n (x.testBit k))) x

/-- The leaf key of an index, from the frontier node that covers it (R185). -/
def leafKey (f : List Node) (x : Nat) : Option Bytes := (f.find? (fun n => covers n x)).map fun n => descend (40 - n.depth) n x

/-- Puncture one node by ranges (R184). -/
def punctureNode (rs : List IdxRange) : Nat → Node → List Node
  | 0, n => if rs.any (fun r => decide (r.first < nodeHi n ∧ nodeLo n < r.first + r.count)) then [] else [n]
  | k + 1, n =>
    if !(rs.any fun r => decide (r.first < nodeHi n ∧ nodeLo n < r.first + r.count)) then [n]
    else if rs.any (fun r => decide (r.first ≤ nodeLo n ∧ nodeHi n ≤ r.first + r.count)) then []
    else punctureNode rs k (child n 0) ++ punctureNode rs k (child n 1)

/-- Puncture a frontier (R184). -/
def puncture (f : List Node) (rs : List IdxRange) : List Node := (f.map fun n => punctureNode rs (40 - n.depth) n).flatten

/-- The 40 bytes of an entry (R186): the word, then the key. -/
def entryBytes (n : Node) : Bytes := leBytes 8 (2 ^ 63 + n.depth * 2 ^ 40 + n.pfx) ++ fit 32 n.key

/-- The root of a frontier (R191). -/
def rootOf (uid batch : Nat) (f : List Node) : Bytes :=
  sha3_256 (ascii "GV-FR" ++ leBytes 8 uid ++ leBytes 6 batch ++ (f.map entryBytes).flatten)

/-! ### Blobs (R192, R193) -/

/-- The frontier blob key of a batch. -/
def fbk (root : Bytes) (uid batch : Nat) : Bytes := kdf root (ascii "GV-FB") (leBytes 8 uid ++ leBytes 6 batch) 256

/-- The entries of page `p`. -/
def pageNodes (f : List Node) (p : Nat) : List Node := (f.drop (84 * p)).take 84

/-- The 4,096 bytes of a page (R186). -/
def pageBytes (ns : List Node) : Bytes :=
  fit 4096 (leBytes 2 ns.length ++ zeros 62 ++ (ns.map fun n => entryBytes n ++ zeros 8).flatten)

/-- A blob's header (R193). -/
def frontierHeader (epoch uid batch page count nodes : Nat) (root : Bytes) : Bytes :=
  leBytes 1 1 ++ leBytes 1 0x10 ++ leBytes 1 epoch ++ zeros 1 ++ leBytes 2 page ++ leBytes 2 count ++ leBytes 6 batch
    ++ leBytes 2 nodes ++ leBytes 8 uid ++ fit 32 root ++ zeros 8

/-- A blob set (R193). -/
def blobSet (rootKey : Bytes) (epoch uid batch : Nat) (f : List Node) : Bytes :=
  let k := fbk rootKey uid batch
  let n := pagesOf f
  ((List.range n).map fun p =>
    let ns := pageNodes f p
    let h := frontierHeader epoch uid batch p n ns.length (rootOf uid batch f)
    let (ct, tag) := gcmSeal k (leBytes 2 p ++ zeros 10) h (pageBytes ns)
    h ++ ct ++ tag).flatten

/-- The nodes a page's plaintext lists, when it is well formed (R186). -/
def parsePage (nodes : Nat) (pt : Bytes) : Option (List Node) :=
  let ns := (List.range nodes).map fun i =>
    ({ depth := field (u64 pt (64 + 48 * i)) 45 40, pfx := field (u64 pt (64 + 48 * i)) 39 0,
       key := slice pt (64 + 48 * i + 8) 32 } : Node)
  let wordOk := fun i => let w := u64 pt (64 + 48 * i)
    w.testBit 63 && field w 62 46 == 0 && decide (field w 45 40 ≤ 40) && decide (field w 39 0 < 2 ^ field w 45 40)
      && zeroAt pt (64 + 48 * i + 40) 8
  if u16 pt 0 = nodes ∧ zeroAt pt 2 62 = true ∧ (List.range nodes).all wordOk = true ∧ zeroAt pt (64 + 48 * nodes) (4032 - 48 * nodes) = true
  then some ns else none

/-- Whether nodes are in canonical order and no two of them are the children of one node (R184, R186). -/
def canonical (f : List Node) : Bool :=
  (f.zip (f.drop 1)).all fun e => decide (nodeHi e.1 ≤ nodeLo e.2) &&
    !(e.1.depth == e.2.depth && e.1.pfx % 2 == 0 && e.2.pfx == e.1.pfx + 1)

/-! ### Anchors (R196 to R203) -/

/-- Bytes 54:0 of an anchor. -/
def anchorBody (a : Anchor) : Bytes :=
  leBytes 1 1 ++ leBytes 1 a.flags ++ leBytes 1 a.epoch ++ leBytes 2 a.treeNum ++ leBytes 6 a.batch ++ leBytes 8 a.uid
    ++ fit 32 a.root ++ leBytes 4 a.jseq

/-- The 64 bytes of an anchor. -/
def anchorBytes (a : Anchor) : Bytes := anchorBody a ++ fit 8 a.mac ++ leBytes 1 a.mark

/-- An anchor read from its 64 bytes. -/
def parseAnchor (b : Bytes) : Anchor :=
  { flags := u8 b 1, epoch := u8 b 2 % 16, treeNum := u16 b 3, batch := u48 b 5, uid := u64 b 11, root := slice b 19 32,
    jseq := u32 b 51, mac := slice b 55 8, mark := u8 b 63 }

/-- The MAC of an anchor under AK (R196). -/
def anchorMac (s : State) (a : Anchor) : Bytes :=
  (cmac (kdf (s.cdk.getD []) (ascii "GV-AK") [] 256) (anchorBody a)).take 8

/-- The anchor the on-chip copy holds of a TREE_UID. -/
def anchorOf (s : State) (uid : Nat) : Option Anchor := s.agate.anchors.look? uid

/-- Replace an anchor of the copy. -/
def putAnchor (s : State) (a : Anchor) : State :=
  { s with agate := { s.agate with anchors := s.agate.anchors.insert a.uid a } }

/-- Whether an entry is later than another: serial-number arithmetic on JSEQ (R197). -/
def laterSeq (a b : Nat) : Bool := a != b && (a + 2 ^ 32 - b) % 2 ^ 32 < 2 ^ 31

/-- Entries with MARK 0xA5 whose MAC fails (R200). -/
def badEntries (s : State) : NMap Anchor := s.agate.journal.filter fun e => e.2.mark == 0xA5 && e.2.mac != anchorMac s e.2

/-- Whether an entry lies in the sector that follows the head: the one being erased when power was lost (R200). -/
def afterHead (s : State) (pos : Nat) : Bool := pos / 64 == (s.agate.head / 64 + 1) % 4096

/-- The scan at STARTUP (R199, R200): the on-chip copy takes of each TREE_UID the entry with the greatest JSEQ among those with
MARK 0xA5 and a good MAC; the sector after the head is erased again when an entry there fails. Entries whose body or MARK power
interrupted were decided before. -/
def scanJournal (s : State) : State :=
  let good := (s.agate.journal.map (·.2)).filter fun a => a.mark == 0xA5 && a.mac == anchorMac s a
  let newer := fun (m : NMap Anchor) (a : Anchor) => match m.look? a.uid with
    | some b => if laterSeq a.jseq b.jseq then m.insert a.uid a else m
    | none => m.insert a.uid a
  let s1 := { s with agate := { s.agate with anchors := good.foldl newer [] } }
  if (badEntries s).any (fun e => afterHead s e.1) then eraseSector s1 (8192 + (s.agate.head / 64 + 1) % 4096) else s1

/-! ### Trees and tenants -/

/-- The tree attached to a root slot. -/
def treeOfSlot (s : State) (n : Nat) : Option Nat :=
  (s.agate.trees.find? fun e => e.2.rootSlot == n && e.2.state != .free).map (·.1)

/-- A tenant's attachments (R188, R253). -/
def attachments (s : State) (t : Nat) : List Attachment :=
  (tenantTrees s t).map fun e =>
    { epoch := e.1 % 16, uid := e.2.uid, slot := e.2.rootSlot, half := ((s.slot e.2.rootSlot).active).getD {} }

/-- The attachment that an AGATE_TREE_CREATE makes, for the tenant record (R253): `keep` holds the tree root key, the top node's
key and TREE_UID. -/
def firstAttachment (j : Job) (n : Nat) : Attachment :=
  { epoch := u8 j.ops 0, uid := u64 (listGet [] j.keep 2) 0, slot := n,
    half := { material := listGet [] j.keep 0, colour := j.tenant, dest := u8 j.ops 4, usage := u8 j.ops 5, cls := 3, version := 1 } }

/-- The attachment that an AGATE_LOAD with a ROOT_SLOT makes. -/
def loadAttachment (s : State) (j : Job) : Attachment :=
  { epoch := u8 j.ops 0, uid := u64 (j.data.getLastD []) 16, slot := u16 j.ops 2, half := ((s.slot (u16 j.ops 2)).active).getD {} }

/-- The attachment of a command that has written, or writes, the tenant record and has not passed its commit point. -/
def madeAttachment (s : State) (j : Job) : Option Attachment :=
  if j.committed then none
  else if j.code = C.AGATE_TREE_CREATE then (if j.keep = [] then none else j.target.map fun e => firstAttachment j e.1)
  else if j.code = C.AGATE_LOAD ∧ ((j.stage = 2 ∧ j.phase = .nor) ∨ j.stage = 3) then some (loadAttachment s j) else none

/-- The tenant record of the state, with further attachments (R253). It keeps those that other commands are making. -/
def tenantBody (s : State) (t : Nat) (more : List Attachment) : CfgBody :=
  .tenant (s.ten t) (((s.slot (s.ten t).rootSlot).active).getD {})
    (attachments s t ++ (s.jobs.filter fun k => !k.owner && k.tenant == t).filterMap (madeAttachment s) ++ more)

/-- Send HOLD or HOLD_DROP about a tree whose anchor is a replica (R436). -/
def sendHold (s : State) (uid ty : Nat) : State :=
  match anchorOf s uid, s.fabric.originators.look? uid with
  | some a, some (_, addr) => if isReplica a then (sendNet s ty 1 addr (leBytes 8 uid ++ leBytes 8 (idHash s))).2 else s
  | _, _ => s

/-- A tree leaves READY, or changes to another state: its pages are freed, the path cache is cleared (R189), and HOLD_DROP is
sent (R436). -/
def treeTo (s : State) (t : Nat) (st : TreeState) : State :=
  let k := s.tree t
  let s1 := { s with mem := pagesFree s.mem k.pages }.setTree t { k with state := st, frontier := [], pages := [], pathCache := none }
  if k.state = .ready then sendHold s1 k.uid 0x12 else s1

/-- A tree enters FAULT, with its event (R189). -/
def treeFault (s : State) (t why : Nat) : State := recordEvent (treeTo s t .fault) 0x8D06 t (t / 16) why

/-- Apply a change to every tree of a TREE_UID. -/
def forUid (s : State) (uid : Nat) (f : State → Nat → State) : State :=
  (s.agate.trees.filter fun e => e.2.uid == uid && e.2.state != .free).foldl (fun u e => f u e.1) s

/-- A range (R204), when it is well formed. -/
def rangeAt (b : Bytes) (off : Nat) : Option IdxRange :=
  let first := leNat (slice b off 5)
  let count := leNat (slice b (off + 8) 5)
  if zeroAt b (off + 5) 3 && zeroAt b (off + 13) 3 && count != 0 && decide (first + count ≤ 2 ^ 40) then
    some { first := first, count := count } else none

/-- Whether a range holds an index. -/
def inRange (r : IdxRange) (x : Nat) : Bool := decide (r.first ≤ x ∧ x < r.first + r.count)

/-- A SEAL, RECALL or VERIFY: its tree and extent stand first in its arguments from the moment its order is taken. -/
def sealJob (j : Job) : Bool := j.code == C.SEAL || j.code == C.RECALL || j.code == C.VERIFY

/-- Running jobs on extents of a range are superseded (R112); a job whose record or result is written stands. -/
def supersedeExtents (s : State) (by_ t : Nat) (r : IdxRange) : State :=
  (s.jobs.filter fun k => sealJob k && k.seq != 0 && !resultWritten k && k.revokedBy.isNone &&
      listGet 0 k.args 0 == t && inRange r (listGet 0 k.args 1)).foldl
    (fun u k => match u.job? k.origin with
      | none => u
      | some k' => if k'.holds = [] then supersede u k' by_ else u.setJob { k' with revokedBy := some by_ }) s

/-! ### Frontier pages (R186, R187, R498) -/

/-- `n` pages, the lowest free ones from `p` on (DESIGN CHOICE, assumption 182). -/
def takeFree (used : List Nat) : Nat → Nat → Nat → List Nat
  | 0, _, _ => []
  | fuel + 1, p, n => if n = 0 then [] else if used.contains p then takeFree used fuel (p + 1) n else p :: takeFree used fuel (p + 1) (n - 1)

/-- The pages a frontier would take, within the limits of R187 and below the Amber ring (R499). -/
def newPages (s : State) (f : List Node) : Option (List Nat) :=
  let n := pagesOf f
  let ps := takeFree (framePages s) (pagesUsed s + n) 0 n
  if n > 4096 ∨ pagesUsed s + n > 1048576 ∨ ps.any (fun p => decide (p ≥ pageLimit s)) = true then none else some ps

/-- Write a frontier into its pages, 84 nodes a page, with colour 0xF000 (R186, R498). -/
def writePages (m : Mem) (ps : List Nat) (f : List Node) : Mem :=
  (ps.zipIdx).foldl (fun t e =>
    let (a, n) := pageLines e.1
    writeLines (allocLines t a n 0xF000) a 0xF000 n (pageBytes (pageNodes f e.2))) m

/-- Go on with a command that reads a tree's frontier, unless a line of its pages fails its check (R497). -/
def withFrontier (s : State) (j : Job) (t : Nat) (k : State) : State :=
  match pagesFault s.mem (s.tree t).pages with
  | some (l, f) => memFail s j l f
  | none => k

/-! ### The order of R190 -/

/-- The state checks of a tree that a command asks to be READY (R190). -/
def treeCheck (s : State) (j : Job) (epoch : Nat) : Option Nat :=
  let k := s.tree (treeNum j.tenant epoch)
  if s.keyed = false then some S.E_UNKEYED
  else if j.owner ∨ epoch ≥ 16 then some S.E_AGATE_NO_TREE
  else match k.state with
    | .free => some S.E_AGATE_NO_TREE
    | .fault => some S.E_AGATE_ANCHOR_FAULT
    | .stale => some S.E_AGATE_STALE
    | .unloaded => some S.E_AGATE_NOT_LOADED
    | .ready => none

/-- The checks of a leaf order before the frontier is read (R190). -/
def stagedCheck (s : State) (j : Job) (epoch x : Nat) : Option Nat :=
  match treeCheck s j epoch with
  | some st => some st
  | none => failIf ((s.tree (treeNum j.tenant epoch)).staged.any fun r => inRange r x) S.E_AGATE_STAGED

/-- The checks of a leaf order on the tree (R190); the root slot's come after. -/
def leafCheck (s : State) (j : Job) (epoch x : Nat) : Option Nat :=
  match stagedCheck s j epoch x with
  | some st => some st
  | none => failIf (!((s.tree (treeNum j.tenant epoch)).frontier.any fun n => covers n x)) S.E_AGATE_SHREDDED

/-! ### Journal writes (R198, R201, R205) -/

/-- A sector of the journal ring holds an entry. -/
def journalUsed (s : State) (sec : Nat) : Bool := s.agate.journal.any fun e => e.1 / 64 == sec % 4096

/-- The oldest sector, when it must be carried forward before the head enters the last erased sector (R201). -/
def oldestSector (s : State) : Option Nat :=
  let h := s.agate.head / 64
  if journalUsed s (h + 1) then some ((h + 1) % 4096) else if journalUsed s (h + 2) then some ((h + 2) % 4096) else none

/-- The live entries of a sector: those that are still the anchor of their TREE_UID (R201). -/
def liveEntries (s : State) (sec : Nat) : List Anchor :=
  ((s.agate.journal.filter fun e => e.1 / 64 == sec).map (·.2)).filter fun a =>
    a.mark == 0xA5 && (anchorOf s a.uid).map (·.jseq) == some a.jseq

/-- Whether other writes wait for the carry-forward: the head's sector keeps room for the copies, and for the retry of one
write (R201; DEDUCED, assumption 183). -/
def carryNeeded (s : State) : Bool :=
  match oldestSector s with
  | none => false
  | some sec => journalUsed s (s.agate.head / 64 + 1) || decide ((liveEntries s sec).length ≥ 63 - s.agate.head % 64)

/-- Replace the waiting writes. -/
def setWrites (s : State) (w : List AnchorWrite) : State := { s with agate := { s.agate with writes := w } }

/-- Anchors that the journal holds, or will hold when the creations and the replicas under way end (R202). -/
def anchorsPlanned (s : State) (seq : Nat) : Nat :=
  let making := s.jobs.filter fun k => k.code == C.AGATE_TREE_CREATE && k.seq != 0 && (seq == 0 || decide (k.seq < seq)) && !k.committed
  let replicas := (s.agate.writes.filter fun w => w.purpose == .replica && (anchorOf s w.anchor.uid).isNone).map (·.anchor.uid)
  s.agate.anchors.length + making.length + replicas.eraseDups.length

/-- The tombstone of a tree (R209): its BATCH follows that of the on-chip copy. -/
def tombstoneOf (s : State) (t : Nat) : Anchor :=
  let k := s.tree t
  let old := (anchorOf s k.uid).getD {}
  { flags := 1, epoch := t % 16, treeNum := t, batch := (old.batch + 1) % 2 ^ 48, uid := k.uid, root := zeros 32 }

/-- Program a write's entry at the head: it takes the next JSEQ and its MAC; the body is being programmed (R198). -/
def placeEntry (s : State) (w : AnchorWrite) : AnchorWrite × State :=
  let a := s.agate
  let jseq := (a.jseq + 1) % 2 ^ 32
  let c := if w.purpose = .tombstone then tombstoneOf s w.tree else w.anchor
  let e0 : Anchor := { c with jseq := jseq, mark := 0xFF }
  let e := { e0 with mac := anchorMac s e0 }
  ({ w with anchor := e, pos := some a.head, marking := false },
   { s with agate := { a with jseq := jseq, head := (a.head + 1) % 262144, journal := a.journal.insert a.head e } }.incRegField R.AGT_RATE 47 16)

/-- What becomes of a replica (R203): it is written, or its push is answered with a reason, or nothing is done. -/
inductive Replica | accept | nothing | refuse (reason : Nat) | conflict
  deriving DecidableEq, Repr

/-- The outcome of R203 for a replica, against the on-chip copy. -/
def replicaOutcome (s : State) (a : Anchor) : Replica :=
  match anchorOf s a.uid with
  | none => if anchorsPlanned s 0 > 131072 ∧ isShredded a = false then .refuse 8 else .accept
  | some o =>
    if isShredded o ∧ isShredded a = false then .refuse 7
    else if a.batch < o.batch then .refuse 5
    else if a.batch = o.batch then (if a.root = o.root ∨ isShredded o = true then .nothing else .conflict)
    else if isShredded o then .nothing else .accept

/-- Answer a replica's push with a LATE_NAK. -/
def replicaNak (s : State) (w : AnchorWrite) (reason : Nat) : State :=
  match w.frame with
  | some f => sendNak s f reason
  | none => s

/-- The trees of a TREE_UID enter FAULT on a replica conflict (R203). -/
def replicaConflict (s : State) (uid : Nat) : State := forUid s uid fun u t => treeFault u t 2

/-- The outcome of R203 that writes nothing. -/
def answerReplica (s : State) (w : AnchorWrite) (o : Replica) : State :=
  match o with
  | .refuse r => replicaNak s w r
  | .conflict => replicaNak (replicaConflict s w.anchor.uid) w 6
  | _ => s

/-- Whether the program of a write can start: it has its token and its contents, no entry of its TREE_UID is being programmed, and
the carry-forward does not hold it up (R198, R201). -/
def placeable (s : State) (w : AnchorWrite) : Bool :=
  w.token && w.ready && w.pos.isNone && !(s.agate.writes.any fun v => v.pos.isSome && v.anchor.uid == w.anchor.uid) &&
    (w.purpose == .carry || !carryNeeded s)

/-- Take a write out of those that wait; the token of a position not written returns to the bucket. -/
def dropWrite (s : State) (i : Nat) : State :=
  let s1 := setWrites s (s.agate.writes.eraseIdx i)
  { s1 with agate := { s1.agate with tokens := min 32 (s1.agate.tokens + 1) } }

/-- A write reaches the head: its entry is programmed, unless the anchor that it replaces has changed meanwhile (R176, R201,
R203). -/
def startWrite (s : State) (i : Nat) (w : AnchorWrite) : State :=
  match w.purpose, w.origin.bind fun o => s.job? o with
  | .carry, _ =>
    if (anchorOf s w.anchor.uid).map (fun a => (a.batch, a.root)) = some (w.anchor.batch, w.anchor.root) then
      let (w', t) := placeEntry s { w with anchor := { w.anchor with flags := w.anchor.flags ||| 2 } }
      setWrites t (s.agate.writes.set i w')
    else dropWrite s i
  | .replica, _ =>
    match replicaOutcome s w.anchor with
    | .accept =>
      let (w', t) := placeEntry s w
      setWrites t (s.agate.writes.set i w')
    | r => answerReplica (dropWrite s i) w r
  | _, some j =>
    if j.overtaken.isSome ∧ j.committed = false then commitOrder s j s
    else
      let (w', t) := placeEntry s w
      setWrites t (s.agate.writes.set i w')
  | _, none => dropWrite s i

/-- Start the programs of the writes that can start (R198), in order. -/
def startWrites (s : State) : State :=
  if s.keyed = false then s
  else (List.range s.agate.writes.length).foldl (fun t _ =>
    match t.agate.writes.findIdx? (placeable t) with
    | none => t
    | some i => match t.agate.writes[i]? with
      | none => t
      | some w => startWrite t i w) s

/-- The command of a served write goes on. -/
def anchorWake (s : State) (o : Option Origin) : State :=
  match o.bind (fun x => s.job? x) with
  | some j => if j.phase = .anchor then s.setJob { j with phase := .started, stage := j.stage + 1 } else s
  | none => s

/-- Whether a write waits for a token. -/
def tokenWaits (w : AnchorWrite) : Bool := !w.token && decide (w.attempt < 2)

/-- The write that the next token goes to: a carry-forward copy, else the one whose order the vault arbiter took first (R205). -/
def nextWrite (ws : List AnchorWrite) : Option Nat :=
  match ws.findIdx? fun w => tokenWaits w && w.purpose == .carry with
  | some i => some i
  | none => ((ws.filter tokenWaits).map (·.seq)).min?.bind fun m => ws.findIdx? fun w => tokenWaits w && w.seq == m

/-- Give a token of the bucket to the write that is next (R205). -/
def serveToken (s : State) : State :=
  if s.keyed = false ∨ s.agate.tokens = 0 then s
  else match nextWrite s.agate.writes with
    | none => s
    | some i => match s.agate.writes[i]? with
      | none => s
      | some w =>
        let s1 := setWrites { s with agate := { s.agate with tokens := s.agate.tokens - 1 } } (s.agate.writes.set i { w with token := true })
        if w.ready then startWrites s1 else anchorWake s1 w.origin

/-- Ask for a journal write: it takes a token now or waits its turn (R205). -/
def askWrite (s : State) (w : AnchorWrite) : State :=
  serveToken (setWrites s (if w.purpose = .carry then w :: s.agate.writes else s.agate.writes ++ [w]))

/-- A command takes its token (R207 step 3) and goes on at its next stage, now or when it is served. -/
def withToken (s : State) (j : Job) (p : AnchorPurpose) (t : Nat) (k : State → Job → State) : State :=
  let s1 := askWrite (s.setJob { j with phase := .anchor }) { purpose := p, origin := some j.origin, tree := t, seq := j.seq }
  match s1.job? j.origin with
  | some j1 => if j1.phase = .anchor then s1 else k s1 j1
  | none => s1

/-- A command's anchor is complete: its program starts (R207 step 5). A new frontier is written into its pages (R207 step 4). -/
def programAnchor (s : State) (j : Job) (a : Anchor) (f : List Node) (ps : List Nat) : State :=
  let s1 := { s with mem := writePages s.mem ps f }
  startWrites (setWrites (s1.setJob { j with phase := .anchor })
    (s1.agate.writes.map fun w => if w.origin = some j.origin ∧ w.ready = false then
      { w with anchor := a, ready := true, frontier := f, pages := ps } else w))

/-- A token enters the bucket (R205). -/
def tokenRefill (s : State) : State :=
  serveToken { s with agate := { s.agate with tokens := min 32 (s.agate.tokens + 1) } }

/-- The journal bucket refills (R205). -/
def execJournalTokenRefill (s : State) : Host.Outcome State Fault Refusal := .next (timerTaken (tokenRefill s) 13)

/-- An erase of a journal sector failed, and the sector cannot be remapped: the writers end (R543). -/
def journalFull (s : State) : State :=
  (s.agate.writes.filterMap (·.origin)).foldl
    (fun t o => match t.job? o with | some j => if j.committed then t else dropWith t j S.E_NVM_ERASE | none => t) s

/-- Carry-forward (R201): copy the next live entry of the oldest sector, one at a time; with none left, erase it. An
erase that fails and cannot be remapped ends the writers with E_NVM_ERASE (R543). -/
def carryForward (s : State) (eraseOk : Bool) : State :=
  if s.keyed = false ∨ s.agate.writes.any (fun w => decide (w.purpose = .carry)) = true then s
  else match oldestSector s with
    | none => s
    | some sec => match liveEntries s sec with
      | a :: _ => askWrite s { purpose := .carry, anchor := a, ready := true, tree := a.treeNum }
      | [] =>
        if eraseOk then startWrites (eraseSector s (8192 + sec))
        else
          let (done, s1) := retireSector s (8192 + sec)
          if done then startWrites (eraseSector s1 (8192 + sec)) else journalFull s1

/-- The oldest journal sector is carried forward and erased (R201). -/
def execJournalCarryForward (eraseOk : Bool) (s : State) : Host.Outcome State Fault Refusal := .next (carryForward s eraseOk)

/-! ### What an anchor's MARK commits -/

/-- Push an anchor to the listed peers (R430, R431). -/
def pushAnchor (s : State) (a : Anchor) : State :=
  pushAll s 0x20 a.uid a.batch fun id => leBytes 8 id ++ leBytes 8 (idHash s) ++ anchorBytes { a with mark := 0xA5 }

/-- A shredded tree is FREE: its pages, path cache and staged ranges are gone (R209). -/
def freeTreeNow (s : State) (t : Nat) : State :=
  let s1 := treeTo s t .unloaded
  { s1 with agate := { s1.agate with trees := s1.agate.trees.erase t } }

/-- The end of a command whose blob set goes to OUT after its commit point: a failed write leaves I_AGATE_EXPORT_NEEDED. -/
def blobsOut (s : State) (j : Job) (out : HostRef) (bs : Bytes) (res : Bytes) : State :=
  match hostWrite s j out 0 bs true with
  | some (s1, j1) => endJob s1 j1 S.OK res false
  | none => endJob (noteBlocked s (dmaBind s j out.port)) j S.I_AGATE_EXPORT_NEEDED res false

/-- The key in a tree's root slot. -/
def rootKeyOf (s : State) (slot : Nat) : Bytes := ((s.slot slot).active.map (·.material)).getD []

/-- AGATE_TREE_CREATE commits (R189): the slot, the tree in READY with its page, the push, the one-page blob. -/
def createCommit (s : State) (j : Job) (w : AnchorWrite) : State :=
  let n := (j.target.map (·.1)).getD 0
  let att := firstAttachment j n
  let s1 := writeHalf s n 0 j.code j.seq att.half
  let s2 := touched (s1.setTree w.tree { state := .ready, uid := w.anchor.uid, rootSlot := n, frontier := w.frontier, pages := w.pages })
    (treeName w.tree) false j.code j.seq
  let s3 := pushAnchor (putAnchor s2 w.anchor) w.anchor
  blobsOut s3 { j with committed := true, target := none } (hostRef j.ops 16)
    (blobSet att.half.material att.epoch w.anchor.uid 0 w.frontier)
    (leBytes 2 w.tree ++ leBytes 2 n ++ zeros 4 ++ leBytes 8 w.anchor.uid)

/-- SHRED_COMMIT commits (R207 steps 6 to 10): the new pages take effect and the old ones are freed. Other commits of the tree are
superseded (R208). -/
def shredCommit (s : State) (j : Job) (w : AnchorWrite) : State :=
  let k := s.tree w.tree
  let s1 := ({ putAnchor s w.anchor with mem := pagesFree s.mem k.pages }).setTree w.tree
    { k with frontier := w.frontier, pages := w.pages, staged := k.staged.drop (listGet 0 j.args 0), pathCache := none }
  let s2 := (s1.jobs.filter fun i => i.origin != j.origin && i.code == C.SHRED_COMMIT && i.seq != 0 && !i.committed &&
      i.named.contains (treeName w.tree)).foldl
    (fun t i => match t.job? i.origin with | some i' => supersede t i' C.SHRED_COMMIT | none => t) s1
  let blobs := blobSet (rootKeyOf s2 k.rootSlot) (w.tree % 16) k.uid w.anchor.batch w.frontier
  blobsOut (pushAnchor (touched s2 (treeName w.tree) false j.code j.seq) w.anchor) { j with committed := true } (hostRef j.ops 16) blobs
    (leBytes 6 w.anchor.batch ++ leBytes 2 w.pages.length ++ leBytes 4 w.frontier.length ++ leBytes 4 blobs.length)

/-- Orders of a tree that its whole-epoch shred ends: commits, and other whole-epoch shreds (R208). -/
def shredLoses (t : Nat) (o : Option Origin) (i : Job) : Bool :=
  some i.origin != o && (i.code == C.SHRED_COMMIT || i.code == C.KEY_DESTROY) && i.seq != 0 && !i.committed &&
    i.named.contains (treeName t)

/-- The commits of a tree that have not passed their commit point are superseded by a whole-epoch shred that is taken (R208). -/
def supersedeCommits (s : State) (o : Origin) (code t : Nat) : State :=
  (s.jobs.filter fun i => shredLoses t (some o) i && i.code == C.SHRED_COMMIT).foldl
    (fun u i => match u.job? i.origin with | some i' => supersede u i' code | none => u) s

/-- A tombstone stands (R209): the slot is cleared, the tree is FREE, the tombstone pushed; later orders on them are overtaken. -/
def shredTree (s : State) (o : Option Origin) (code seq : Nat) (t : Nat) (a : Anchor) : State :=
  let n := (s.tree t).rootSlot
  let s1 := ((putAnchor s a).jobs.filter (shredLoses t o)).foldl
    (fun u i => match u.job? i.origin with | some i' => supersede u i' code | none => u) (putAnchor s a)
  let s2 := touched (clearSlot s1 n code seq) (treeName t) false code seq
  pushAnchor (freeTreeNow s2 t) a

/-- The limit of R202 for one more anchor: the oldest tombstone is no longer carried forward, with its event. -/
def ageOut (s : State) : State :=
  match ((s.agate.anchors.map (·.2)).filter isShredded).foldl (fun (b : Option Anchor) a => match b with
      | none => some a
      | some x => if laterSeq x.jseq a.jseq then some a else some x) none with
  | none => s
  | some a =>
    recordEvent { s with agate := { s.agate with anchors := s.agate.anchors.erase a.uid } } 0x8D07 (a.uid % 2 ^ 32) (a.uid / 2 ^ 32) 1

/-- A replica is written (R202, R203): the trees of its TREE_UID follow R189, and later orders on them are overtaken. -/
def replicaCommit (s : State) (w : AnchorWrite) : State :=
  let s0 := if (anchorOf s w.anchor.uid).isNone ∧ s.agate.anchors.length ≥ 131072 then ageOut s else s
  let s1 := forUid s0 w.anchor.uid fun u t =>
    match (u.tree t).state with
    | .ready | .fault =>
      let u1 := treeTo u t .stale
      touched (u1.setTree t { u1.tree t with staged := (u1.tree t).staged.filter (fun r => !r.noticed) }) (treeName t) false 0 w.seq
    | _ => touched u (treeName t) false 0 w.seq
  let s2 := putAnchor s1 w.anchor
  { s2 with fabric := { s2.fabric with originators := s2.fabric.originators.insert w.anchor.uid w.source } }

/-- A tenant whose anchors of trees are all tombstoned goes on with its RESET or DESTROY (R267): the next tombstone, or
the command's next stage. -/
def nextTombstone (s : State) (j : Job) (t : Nat) : State :=
  match tenantTrees s t with
  | e :: _ =>
    askWrite (s.setJob { j with phase := .anchor })
      { purpose := .tombstone, origin := some j.origin, tree := e.1, ready := true, anchor := tombstoneOf s e.1, seq := j.seq }
  | [] => s.setJob { j with phase := .started, stage := j.stage + 1 }

/-- The MARK of an entry stands in the journal. -/
def markEntry (s : State) (w : AnchorWrite) : State :=
  { s with agate := { s.agate with journal := s.agate.journal.insert (w.pos.getD 0) { w.anchor with mark := 0xA5 } } }

/-- The moment MARK reads back as 0xA5 (R198). -/
def anchorCommitted (s : State) (w : AnchorWrite) : State :=
  let a := { w.anchor with mark := 0xA5 }
  let w' := { w with anchor := a }
  let s1 := markEntry s w
  match w.purpose with
  | .replica => replicaCommit s1 w'
  | .carry => (putAnchor s1 a).incRegField R.AGT_RATE 63 48
  | _ => match w.origin.bind (fun o => s1.job? o) with
    | none => s1
    | some j => match w.purpose with
      | .create => createCommit s1 j w'
      | .commit => shredCommit s1 j w'
      | _ =>
        let s2 := shredTree s1 w.origin j.code j.seq w.tree a
        match s2.job? j.origin with
        | none => s2
        | some j1 =>
          if j.code = C.KEY_DESTROY then
            cfgThen s2 { j1 with committed := true } 2 (w.tree / 16) (tenantBody s2 (w.tree / 16) []) false
          else nextTombstone s2 { j1 with args := [listGet 0 j1.args 0 + 1] } (w.tree / 16)

/-- The oldest started program of the journal ends (R198): after the body, MARK; after MARK the commit. A read-back that
differs kills the entry, and the write is made once more with the next JSEQ and a token of its own. A tombstone of a
RESET or DESTROY that failed twice waits for its retry (R267). -/
def anchorProgramDone (s : State) (ok : Bool) : State :=
  match s.agate.writes.findIdx? (fun w => w.pos.isSome) with
  | none => s
  | some i => match s.agate.writes[i]? with
    | none => s
    | some w =>
      let s0 := capture s 0x15 19 [4 * 2 ^ 56 + 2 * 2 ^ 40 + (if ok then 0 else S.E_NVM_PROGRAM) * 2 ^ 24, 0]
      if ok then
        if w.marking then startWrites (anchorCommitted (setWrites s0 (s.agate.writes.eraseIdx i)) w)
        else setWrites s0 (s.agate.writes.set i { w with marking := true })
      else
        let killed := s0.agate.journal.insert (w.pos.getD 0) { w.anchor with mark := 0 }
        let s1 := countProgram { s0 with agate := { s0.agate with journal := killed } }
        if w.attempt = 0 then
          serveToken (setWrites s1 (s1.agate.writes.set i { w with pos := none, marking := false, token := false, attempt := 1 }))
        else match w.origin.bind (fun o => s1.job? o) with
          | none => setWrites s1 (s1.agate.writes.eraseIdx i)
          | some j =>
            if j.committed then
              setWrites s1 (s1.agate.writes.set i { w with pos := none, marking := false, token := false, attempt := 2 })
            else dropWith (setWrites s1 (s1.agate.writes.eraseIdx i)) j S.E_NVM_PROGRAM

/-- A program of an anchor entry ends (R198); one into a sector that is being refreshed waits (R513). -/
def execAnchorProgramDone (ok : Bool) (s : State) : Host.Outcome State Fault Refusal :=
  .next (if ((s.agate.writes.find? (·.pos.isSome)).bind (·.pos)).any (fun n => refreshing s (8192 + n / 64)) then s else anchorProgramDone s ok)

/-- One second after a tombstone of a RESET or DESTROY failed both attempts, it is written again (R267). With the journal
unable to take it, the command ends with E_NVM_ERASE and the record keeps its PENDING mark. -/
def tombstoneRetry (s : State) (t : Nat) : State :=
  match s.agate.writes.findIdx? (fun w => w.attempt == 2 && w.tree / 16 == t) with
  | none => s
  | some i => match s.agate.writes[i]? with
    | none => s
    | some w =>
      if s.nor.remapFull ∧ carryNeeded s = true then
        match w.origin.bind (fun o => s.job? o) with
        | some j => dropWith (setWrites s (s.agate.writes.eraseIdx i)) j S.E_NVM_ERASE
        | none => setWrites s (s.agate.writes.eraseIdx i)
      else serveToken (setWrites (timerTaken s 13) (s.agate.writes.set i { w with attempt := 0 }))

/-- A tombstone is retried (R267). -/
def execTombstoneRetry (t : Nat) (s : State) : Host.Outcome State Fault Refusal := .next (tombstoneRetry s t)

/-! ### Journal writes at STARTUP -/

/-- Write one entry at STARTUP, both programs: without a token in the bucket the next one is waited for, 1/16 s (R205). -/
def writeNow (s : State) (w : AnchorWrite) : State × Anchor :=
  let s0 := if s.agate.tokens = 0 then { s with clk := s.clk + 6250000 }
    else { s with agate := { s.agate with tokens := s.agate.tokens - 1 } }
  let (w', s1) := placeEntry s0 w
  (markEntry s1 w', { w'.anchor with mark := 0xA5 })

/-- The carry-forward that a write at STARTUP waits for (R201). -/
def carryNow : Nat → State → State
  | 0, s => s
  | fuel + 1, s =>
    if carryNeeded s = false then s
    else match oldestSector s with
      | none => s
      | some sec => match liveEntries s sec with
        | a :: _ =>
          let (s1, b) := writeNow s { purpose := .carry, anchor := { a with flags := a.flags ||| 2 } }
          carryNow fuel ((putAnchor s1 b).incRegField R.AGT_RATE 63 48)
        | [] => carryNow fuel (eraseSector s (8192 + sec))

/-- A tombstone written at STARTUP, before SERVICE, for a record marked RESET or DESTROY (R254). -/
def tombstoneNow (s : State) (t : Nat) : State :=
  let (s1, a) := writeNow (carryNow 130 s) { purpose := .tombstone, anchor := tombstoneOf s t, tree := t }
  shredTree s1 none C.TENANT_RESET 0 t a

end Sys2Proof.Machine
end

