-- ==== Sys2Proof/Machine/AgateCmds.lean ====
section
/-! DEFINITION. The commands of the Agate unit (07): AGATE_TREE_CREATE, AGATE_LOAD, AGATE_EXPORT, SHRED_STAGE,
SHRED_COMMIT, ANCHOR_STATUS, and KEY_DESTROY with its whole-epoch shred (06 R161, R209). -/

namespace Sys2Proof.Machine

/-! ### AGATE_TREE_CREATE -/

/-- Whether another order, taken earlier, is making a tree of the tenant: AGATE_TREE_CREATE, or an AGATE_LOAD with a ROOT_SLOT. -/
def makesTree (j k : Job) : Bool :=
  k.origin != j.origin && !k.owner && k.tenant == j.tenant && k.seq != 0 && decide (k.seq < j.seq) && !k.committed &&
    (k.code == C.AGATE_TREE_CREATE || (k.code == C.AGATE_LOAD && u16 k.ops 2 != 0xFFFF))

/-- Whether a tenant may hold one more tree (R188, R259); trees that earlier orders are making count. -/
def treeQuotaLeft (s : State) (j : Job) : Bool :=
  !j.owner && decide ((tenantTrees s j.tenant).length + (s.jobs.filter (makesTree j)).length < (s.ten j.tenant).grant.treeQuota)

/-- The checks of AGATE_TREE_CREATE before its slot; the spec gives them no order (DESIGN CHOICE, assumption 181). One page must
be free for the new frontier (DESIGN CHOICE, assumption 182). -/
def treeCreateCheck (s : State) (j : Job) : Option Nat :=
  let o := j.ops
  let t := treeNum j.tenant (u8 o 0)
  let busy := s.jobs.any fun k => makesTree j k && k.named.contains (treeName t)
  firstFail [failIf (!s.keyed) S.E_UNKEYED,
    failIf (u8 o 0 ≥ 16 || u8 o 1 != 0 || !zeroAt o 6 10 || !bitOf (u8 o 4) 2 || !bitOf (u8 o 5) 4) S.E_BAD_OPERAND,
    refCheck s j (hostRef o 16) 4176 maxLen,
    failIf (!j.owner && ((s.tree t).state != .free || busy)) S.E_AGATE_EPOCH_USED,
    failIf (!treeQuotaLeft s j) S.E_AGATE_TREE_QUOTA,
    failIf (anchorsPlanned s j.seq ≥ 131072) S.E_AGATE_JOURNAL_FULL,
    failIf (newPages s []).isNone S.E_AGATE_FRONTIER_FULL,
    failIf (!quorumOk s) S.E_QUORUM]

/-- The frontier of a new tree: its top node (R184). -/
def firstFrontier (j : Job) : List Node := [{ depth := 0, pfx := 0, key := listGet [] j.keep 1 }]

/-- The anchor of BATCH 0 of a new tree. -/
def firstAnchor (j : Job) : Anchor :=
  let t := treeNum j.tenant (u8 j.ops 0)
  let uid := u64 (listGet [] j.keep 2) 0
  { epoch := u8 j.ops 0, treeNum := t, batch := 0, uid := uid, root := rootOf uid 0 (firstFrontier j) }

/-- The anchor and the page of a new tree are written. -/
def firstProgram (s : State) (j : Job) : State :=
  match newPages s (firstFrontier j) with
  | none => dropWith s j S.E_AGATE_FRONTIER_FULL
  | some ps => programAnchor s j (firstAnchor j) (firstFrontier j) ps

/-- AGATE_TREE_CREATE (R188, R189): checks, slot and draws, the tenant record, the token, the anchor. `keep` holds the
tree root key, the top node's key and TREE_UID. -/
def agateTreeCreate (j : Job) (s : State) : State :=
  let o := j.ops
  let t := treeNum j.tenant (u8 o 0)
  if j.stage = 0 then
    takeOrder s j [treeName t] fun s0 j0 =>
      match treeCreateCheck s0 j0 with
      | some st => dropWith s0 j0 st
      | none => withTarget s0 j0 (u16 o 2) 0 3 0 (u8 o 4) (u8 o 5) fun s1 j1 n =>
          withDraw s1 j1 j1.tenant 72 fun bs s2 =>
            let j2 := { j1 with keep := [bs.take 32, (bs.drop 32).take 32, bs.drop 64] }
            cfgThen s2 j2 2 j.tenant (tenantBody s2 j.tenant [firstAttachment j2 n]) false
  else if j.stage = 1 then withToken s j .create t firstProgram
  else firstProgram s j

/-- AGATE_TREE_CREATE. -/
def execAgateTreeCreate (o : Origin) (s : State) : Host.Outcome State Fault Refusal :=
  .next (runCommand C.AGATE_TREE_CREATE o s agateTreeCreate)

/-! ### AGATE_LOAD -/

/-- The first two rows of R195. -/
def loadOperands (s : State) (j : Job) : Option Nat :=
  let o := j.ops
  let n := u16 o 4
  let adv := u8 o 1 == 1
  firstFail [failIf (!s.keyed) S.E_UNKEYED,
    failIf (u8 o 0 ≥ 16 || u8 o 1 ≥ 2 || n > 256 || !zeroAt o 6 10 || (!adv && (n != 0 || !zeroAt o 32 16))) S.E_BAD_OPERAND,
    refCheck s j (hostRef o 16) 0 maxLen, if adv then refCheck s j (hostRef o 32) (16 * n) (16 * n) else none]

/-- The rows of R195 on the tree and the root slot. -/
def loadTree (s : State) (j : Job) : Option Nat :=
  let o := j.ops
  let slot := u16 o 2
  let k := s.tree (treeNum j.tenant (u8 o 0))
  if !j.owner && k.state != .free then
    firstFail [failIf (slot != 0xFFFF) S.E_AGATE_EPOCH_USED, failIf (k.state == .fault) S.E_AGATE_ANCHOR_FAULT,
      failIf (k.state == .ready) S.E_AGATE_LOADED]
  else if slot = 0xFFFF then some S.E_AGATE_NO_TREE
  else match slotCheck s j .use slot (fun h => h.cls == 3) 0 0 with
    | some st => some st
    | none => firstFail [failIf (treeOfSlot s slot).isSome S.E_SLOT_STATE, failIf (!treeQuotaLeft s j) S.E_AGATE_TREE_QUOTA]

/-- The ranges an ADVANCE load gives. -/
def loadRanges (j : Job) : List (Option IdxRange) :=
  (List.range (u16 j.ops 4)).map fun i => rangeAt (j.data.headD []) (16 * i)

/-- The root slot of a load: the tree's, or ROOT_SLOT. -/
def loadSlot (s : State) (j : Job) : Nat :=
  if u16 j.ops 2 = 0xFFFF then (s.tree (treeNum j.tenant (u8 j.ops 0))).rootSlot else u16 j.ops 2

/-- Whether the blobs' headers agree (R195). -/
def headersOk (s : State) (j : Job) (bs : Bytes) : Bool :=
  let n := bs.length / 4176
  let k := s.tree (treeNum j.tenant (u8 j.ops 0))
  bs.length == n * 4176 && n != 0 && decide (n ≤ 4096) && (List.range n).all fun p =>
    let h := slice bs (4176 * p) 64
    u8 h 0 == 1 && u8 h 1 == 0x10 && u8 h 2 == u8 j.ops 0 && u8 h 3 == 0 && zeroAt h 56 8 && u16 h 4 == p && u16 h 6 == n
      && slice h 8 6 == slice bs 8 6 && slice h 16 40 == slice bs 16 40
      && (k.state == .free || u64 h 16 == k.uid)
      && (if p + 1 < n then u16 h 14 == 84 else decide (u16 h 14 ≤ 84) && (n == 1 || u16 h 14 != 0))

/-- The frontier a blob set holds, when every page authenticates and the entries are canonical (R193, R195). -/
def openBlobs (rootKey bs : Bytes) : Option (List Node) :=
  let uid := u64 bs 16
  let key := fbk rootKey uid (u48 bs 8)
  let pages := (List.range (bs.length / 4176)).map fun p =>
    let b := slice bs (4176 * p) 4176
    let h := b.take 64
    let ct := slice b 64 4096
    let iv := leBytes 2 p ++ zeros 10
    if slice b 4160 16 = digestBytes 16 (Config.gcmTag key iv h ct) then
      parsePage (u16 h 14) ((List.range 4096).map (Config.gcmCrypt key iv ct))
    else none
  if pages.all (·.isSome) then
    let f := (pages.map fun p => p.getD []).flatten
    if canonical f then some f else none
  else none

/-- The rows of R195 from the headers on: the status, or the frontier to load. -/
def loadCheck (s : State) (j : Job) (bs : Bytes) : Nat × List Node :=
  if headersOk s j bs = false then (S.E_AGATE_BLOB, [])
  else
    let uid := u64 bs 16
    let b := u48 bs 8
    match anchorOf s uid with
    | none => (S.E_AGATE_NO_ANCHOR, [])
    | some a =>
      let adv := u8 j.ops 1 == 1
      if isShredded a then (S.E_AGATE_SHREDDED, [])
      else if b + b2n adv < a.batch then (S.E_AGATE_STALE, [])
      else if b + b2n adv > a.batch then (S.E_AGATE_ANCHOR_BEHIND, [])
      else match openBlobs (rootKeyOf s (loadSlot s j)) bs with
        | none => (S.E_AGATE_BLOB, [])
        | some f =>
          let g := if adv then puncture f ((loadRanges j).filterMap id) else f
          if rootOf uid a.batch g ≠ a.root then (if adv then S.E_AGATE_ADVANCE else S.E_AGATE_STALE, [])
          else if (newPages s g).isNone then (S.E_AGATE_FRONTIER_FULL, [])
          else (S.OK, g)

/-- The load takes effect (R189): the frontier is written into its pages and the tree is READY; a HOLD goes to the originator of
a replica (R436). -/
def loadFinish (s : State) (j : Job) (f : List Node) (ps : List Nat) : State :=
  let t := treeNum j.tenant (u8 j.ops 0)
  let uid := u64 (j.data.getLastD []) 16
  let s1 := ({ s with mem := writePages s.mem ps f }).setTree t
    { s.tree t with state := .ready, uid := uid, rootSlot := loadSlot s j, frontier := f, pages := ps, pathCache := none }
  okJob (sendHold (touched s1 (treeName t) false j.code j.seq) uid 0x11) { j with committed := true }
    (leBytes 6 ((anchorOf s uid).map (·.batch) |>.getD 0) ++ leBytes 2 ps.length ++ leBytes 2 t ++ zeros 6)

/-- Read IN once the tree and the slot are checked. -/
def loadRead (s : State) (j : Job) : State :=
  match loadTree s j with
  | some st => dropWith s j st
  | none =>
    if (hostRef j.ops 16).len = 0 then dropWith s j S.E_AGATE_BLOB
    else readOrEnd s { j with stage := 1 } [hostRef j.ops 16]

/-- The rows of R195 hold once more when the blobs have been read, and again before the tree is READY: the status, or the frontier
and its pages. -/
def loadAgain (s : State) (j : Job) : Nat × List Node × List Nat :=
  match loadTree s j with
  | some st => (st, [], [])
  | none => match loadCheck s j (j.data.getLastD []) with
    | (0, f) => match newPages s f with
      | some ps => (S.OK, f, ps)
      | none => (S.E_AGATE_FRONTIER_FULL, [], [])
    | (st, _) => (st, [], [])

/-- A load ends with a status: when the tenant record already has the attachment, the record is first written without it, and the
status is kept meanwhile. -/
def loadFail (s : State) (j : Job) (st : Nat) : State :=
  let uid := u64 (j.data.getLastD []) 16
  let s1 := if st = S.E_AGATE_ANCHOR_BEHIND then recordEvent s 0x8D07 (uid % 2 ^ 32) (uid / 2 ^ 32) 3 else s
  if j.stage = 3 then
    let j1 := { j with stage := 4, args := [st] }
    cfgThen (s1.setJob j1) j1 2 j.tenant (tenantBody (s1.setJob j1) j.tenant []) false
  else dropWith s1 j st

/-- AGATE_LOAD (R195). With a ROOT_SLOT the tenant record is written between its stages 2 and 3. -/
def agateLoad (j : Job) (s : State) : State :=
  let o := j.ops
  let t := treeNum j.tenant (u8 o 0)
  if j.stage = 0 then
    takeOrder s j (treeName t :: (if u16 o 2 = 0xFFFF then [] else [u16 o 2])) fun s1 j1 =>
      match loadOperands s1 j1 with
      | some st => dropWith s1 j1 st
      | none =>
        if u8 o 1 = 1 ∧ u16 o 4 ≠ 0 then readOrEnd s1 j1 [hostRef o 32]
        else loadRead s1 { j1 with data := if u8 o 1 = 1 then [[]] else [] }
  else if j.stage = 1 then
    if (loadRanges j).any (·.isNone) then dropWith s j S.E_AGATE_RANGE else loadRead s j
  else if j.stage ≥ 4 then dropWith s j (listGet S.OK j.args 0)
  else
    let (st, f, ps) := loadAgain s j
    if st ≠ S.OK then loadFail s j st
    else if j.overtaken.isSome ∧ j.stage = 3 then loadFail (arbiterLost s j (j.overtaken.getD 0)) j S.E_SUPERSEDED
    else if j.stage = 2 ∧ u16 o 2 ≠ 0xFFFF ∧ j.overtaken.isNone then
      cfgThen s j 2 j.tenant (tenantBody s j.tenant [loadAttachment s j]) false
    else commitOrder s j (loadFinish s j f ps)

/-- AGATE_LOAD. -/
def execAgateLoad (o : Origin) (s : State) : Host.Outcome State Fault Refusal := .next (runCommand C.AGATE_LOAD o s agateLoad)

/-! ### AGATE_EXPORT -/

/-- AGATE_EXPORT (R193): the blob set of the current BATCH; with UNLOAD the pages are then freed, its commit point. -/
def agateExport (j : Job) (s : State) : State :=
  let o := j.ops
  let t := treeNum j.tenant (u8 o 0)
  let unload := bitOf (u8 o 1) 0
  takeOrder s j [treeName t] fun s1 j1 =>
    let k := s1.tree t
    let out := hostRef o 16
    match firstFail [treeCheck s1 j1 (u8 o 0), refCheck s1 j1 out (4176 * k.pages.length) maxLen] with
    | some st => dropWith s1 j1 st
    | none => withFrontier s1 j1 t <|
      let a := (anchorOf s1 k.uid).getD {}
      let bs := blobSet (rootKeyOf s1 k.rootSlot) (u8 o 0) k.uid a.batch k.frontier
      let res := leBytes 6 a.batch ++ leBytes 2 k.pages.length ++ leBytes 4 bs.length ++ zeros 4
      match hostWrite s1 j1 out 0 bs true with
      | none => blockedJob s1 j1 out
      | some (s2, j2) =>
        if unload then okJob (touched (treeTo s2 t .unloaded) (treeName t) false j.code j2.seq) { j2 with committed := true } res
        else okJob s2 j2 res

/-- AGATE_EXPORT. -/
def execAgateExport (o : Origin) (s : State) : Host.Outcome State Fault Refusal :=
  .next (runCommand C.AGATE_EXPORT o s agateExport)

/-! ### SHRED_STAGE -/

/-- The checks of SHRED_STAGE: any tree state but FREE. The spec gives them no order (DESIGN CHOICE, assumption 181). -/
def stageCheck (s : State) (j : Job) : Option Nat :=
  let o := j.ops
  let k := s.tree (treeNum j.tenant (u8 o 0))
  firstFail [failIf (!s.keyed) S.E_UNKEYED, failIf (u8 o 0 ≥ 16 || !zeroAt o 1 7 || !zeroAt o 24 8) S.E_BAD_OPERAND,
    failIf (j.owner || k.state == .free) S.E_AGATE_NO_TREE, failIf (rangeAt o 8).isNone S.E_AGATE_RANGE,
    failIf (k.staged.length ≥ 256 || stagedTotal s ≥ 16384) S.E_AGATE_STAGE_FULL]

/-- Send the STAGE_NOTICE of a range to one holder (R437): class 0 within two hops, else class 1. -/
def sendNotice (s : State) (o : Origin) (uid id : Nat) (range : Bytes) : State :=
  let near := match (routes s true).look? id with | some r => decide (r.hops ≤ 2) | none => false
  let (f, s1) := newFrame s 0x13 (if near then 0 else 1) (lsaOf s id).addr (leBytes 8 uid ++ leBytes 8 id ++ range)
  let s2 := s1.incRegField R.FAB_REPL_COUNT 15 0
  forward (if near then { s2 with fabric := { s2.fabric with notices := s2.fabric.notices ++ [{ tag := f.tag, origin := o }] } }
           else s2) f

/-- SHRED_STAGE (R206, R437): the range blocks its indices at once, jobs on it are superseded, holders are noticed; the
command waits for the answers of class 0. `keep` holds its result. -/
def shredStage (j : Job) (s : State) : State :=
  let o := j.ops
  let t := treeNum j.tenant (u8 o 0)
  takeOrder s j [treeName t] fun s1 j1 =>
    match stageCheck s1 j1, rangeAt o 8 with
    | some st, _ => dropWith s1 j1 st
    | none, none => dropWith s1 j1 S.E_AGATE_RANGE
    | none, some r =>
      let k := s1.tree t
      let s2 := supersedeExtents (s1.setTree t { k with staged := k.staged ++ [r] }) C.SHRED_STAGE t r
      let res := leBytes 6 ((anchorOf s k.uid).map (·.batch) |>.getD 0) ++ leBytes 2 (k.staged.length + 1) ++ zeros 8
      let j2 := { j1 with committed := true, phase := .peer, keep := [res], args := [S.OK] }
      let ids := (s2.fabric.holders.filter (·.1 == k.uid)).map (·.2)
      let s3 := ids.foldl (fun u id => sendNotice u j.origin k.uid id (slice o 8 16)) (s2.setJob j2)
      match s3.job? j.origin with
      | some j3 => if s3.fabric.notices.any (fun n => n.origin == j.origin) then s3 else okJob s3 j3 res
      | none => s3

/-- SHRED_STAGE. -/
def execShredStage (o : Origin) (s : State) : Host.Outcome State Fault Refusal := .next (runCommand C.SHRED_STAGE o s shredStage)

/-! ### SHRED_COMMIT -/

/-- The checks of SHRED_COMMIT (R207 steps 1 and 2). -/
def shredCommitCheck (s : State) (j : Job) : Option Nat :=
  let o := j.ops
  let k := s.tree (treeNum j.tenant (u8 o 0))
  firstFail [failIf (!s.keyed) S.E_UNKEYED, failIf (u8 o 0 ≥ 16 || !zeroAt o 1 7 || !zeroAt o 14 2) S.E_BAD_OPERAND,
    refCheck s j (hostRef o 16) 0 maxLen, treeCheck s j (u8 o 0),
    failIf ((anchorOf s k.uid).map (·.batch) != some (u48 o 8)) S.E_AGATE_BATCH,
    failIf (k.staged == []) S.E_AGATE_NONE_STAGED, failIf (!quorumOk s) S.E_QUORUM]

/-- Steps 4 and 5 of R207: the tree is still READY; puncture, sizes, the new pages, the anchor. -/
def shredPuncture (s : State) (j : Job) : State :=
  let o := j.ops
  let t := treeNum j.tenant (u8 o 0)
  let k := s.tree t
  match treeCheck s j (u8 o 0) with
  | some st => dropWith s j st
  | none => withFrontier s j t <|
    let f := puncture k.frontier (k.staged.take (listGet 0 j.args 0))
    match newPages s f with
    | none => dropWith s j S.E_AGATE_FRONTIER_FULL
    | some ps =>
      if ps.length * 4176 > (hostRef o 16).len then dropWith s j S.E_BAD_LENGTH
      else
        let b := u48 o 8 + 1
        programAnchor s j { epoch := u8 o 0, treeNum := t, batch := b, uid := k.uid, root := rootOf k.uid b f } f ps

/-- SHRED_COMMIT (R207): its argument counts the staged ranges of the snapshot. -/
def shredCommitCmd (j : Job) (s : State) : State :=
  let t := treeNum j.tenant (u8 j.ops 0)
  if j.stage = 0 then
    takeOrder s j [treeName t] fun s1 j1 =>
      match shredCommitCheck s1 j1 with
      | some st => dropWith s1 j1 st
      | none => prevail s1 j1 fun s2 j2 =>
          withToken s2 { j2 with args := [(s2.tree t).staged.length] } .commit t shredPuncture
  else shredPuncture s j

/-- SHRED_COMMIT. -/
def execShredCommit (o : Origin) (s : State) : Host.Outcome State Fault Refusal :=
  .next (runCommand C.SHRED_COMMIT o s shredCommitCmd)

/-! ### ANCHOR_STATUS -/

/-- ANCHOR_STATUS: from the on-chip copy (R197). -/
def anchorStatus (j : Job) (s : State) : State :=
  let o := j.ops
  let t := treeNum j.tenant (u8 o 0)
  let k := s.tree t
  match firstFail [failIf (!s.keyed) S.E_UNKEYED, failIf (u8 o 0 ≥ 16 || !zeroAt o 1 7) S.E_BAD_OPERAND,
      failIf (j.owner || k.state == .free) S.E_AGATE_NO_TREE] with
  | some st => dropWith s j st
  | none =>
    let a := (anchorOf s k.uid).getD {}
    okJob s j (leBytes 6 a.batch ++ leBytes 1 k.state.num ++ leBytes 1 a.flags ++ leBytes 2 k.staged.length
      ++ leBytes 2 k.pages.length ++ leBytes 2 t ++ zeros 2 ++ anchorBytes a)

/-- ANCHOR_STATUS. -/
def execAnchorStatus (o : Origin) (s : State) : Host.Outcome State Fault Refusal :=
  .next (runCommand C.ANCHOR_STATUS o s anchorStatus)

/-! ### KEY_DESTROY -/

/-- The checks of KEY_DESTROY. -/
def destroyCheck (s : State) (j : Job) (n : Nat) : Option Nat :=
  if zeroAt j.ops 2 6 = false then some S.E_BAD_OPERAND
  else match accessCheck s j .destroy n with
    | some st => some st
    | none => match activeHalf s n with
      | none => some S.E_SLOT_EMPTY
      | some h => failIf (h.cls == 4 || h.cls == 5 || decide (n < 32)) S.E_SLOT_CLASS

/-- The checks of KEY_DESTROY, and of the whole-epoch shred of an attached tree (R207 step 2, R209). -/
def destroyOrShredCheck (s : State) (j : Job) (n : Nat) : Option Nat :=
  match destroyCheck s j n with
  | some st => some st
  | none =>
    if (treeOfSlot s n).isNone then none
    else if s.keyed = false then some S.E_UNKEYED
    else failIf (!quorumOk s) S.E_QUORUM

/-- The tombstone of a whole-epoch shred is programmed (R209). -/
def shredProgram (s : State) (j : Job) : State :=
  match treeOfSlot s (u16 j.ops 0) with
  | some t => programAnchor s j (tombstoneOf s t) [] []
  | none => supersede s j (s.slot (u16 j.ops 0)).lastOrder

/-- KEY_DESTROY (R161): both halves and the engines' copies are cleared; of an attached AGATE_ROOT slot it is the
whole-epoch shred (R209), which supersedes the tree's commits when it is taken (R208). -/
def keyDestroy (j : Job) (s : State) : State :=
  let n := u16 j.ops 0
  if j.stage = 0 then
    takeOrder s j (n :: (match treeOfSlot s n with | some t => [treeName t] | none => [])) fun s1 j1 =>
      match destroyOrShredCheck s1 j1 n with
      | some st => dropWith s1 j1 st
      | none => prevail s1 j1 fun s2 j2 => match treeOfSlot s2 n with
        | none => commitOrder s2 j2 (okJob (clearSlot s2 n j2.code j2.seq) { j2 with committed := true } [])
        | some t => withToken (supersedeCommits s2 j2.origin j2.code t) j2 .tombstone t shredProgram
  else if j.committed then okJob s j []
  else shredProgram s j

/-- KEY_DESTROY. -/
def execKeyDestroy (o : Origin) (s : State) : Host.Outcome State Fault Refusal := .next (runCommand C.KEY_DESTROY o s keyDestroy)

end Sys2Proof.Machine
end

