-- ==== Sys2Proof/Machine/Recorder.lean ====
section
/-! DEFINITION. The event recorder (19): records in the log, the control sector, checkpoints, start-up, reading and
clearing. Admission stands with `recordEvent`. -/

namespace Sys2Proof.Machine

/-! ### Records -/

/-- One bit of the CRC-16 of R463. -/
def crc16Bit (c : BitVec 16) : BitVec 16 := if c.getLsbD 15 then (c <<< 1) ^^^ 0x1021#16 else c <<< 1

/-- CRC-16, polynomial x¹⁶ + x¹² + x⁵ + 1, initial value 0xFFFF (R463). -/
def crc16 (bs : Bytes) : Nat :=
  (bs.foldl (fun c b => crc16Bit (crc16Bit (crc16Bit (crc16Bit (crc16Bit (crc16Bit (crc16Bit (crc16Bit
    (c ^^^ ((b.setWidth 16 : BitVec 16) <<< (8 : Nat))))))))))) 0xFFFF#16).toNat

/-- The 256 bytes of a native record (R463). -/
def nativeRecord (e : EvEntry) (mark : Nat) : Bytes :=
  let body := leBytes 2 e.code ++ [1] ++ leBytes 1 e.profile ++ leBytes 1 e.snaps.length
    ++ leBytes 1 (b2n e.firmware + 2 * b2n e.late) ++ zeros 2 ++ leBytes 8 e.time
    ++ fit 216 (e.snaps.map (leBytes 9)).flatten ++ (e.params.map (leBytes 4)).flatten
    ++ leBytes 2 e.suppressed ++ leBytes 2 e.dropped
  body ++ leBytes 2 (crc16 body) ++ zeros 1 ++ leBytes 1 mark

/-- The 32 bytes of a compatibility record (R464). -/
def compatRecord (e : EvEntry) (mark : Nat) : Bytes :=
  let body := leBytes 2 e.code ++ leBytes 3 (e.time / 2 ^ 40) ++ leBytes 4 (e.time % 2 ^ 40 / 230400)
    ++ (e.params.map (leBytes 4)).flatten ++ leBytes 1 (min 255 (e.suppressed + e.dropped))
  body ++ leBytes 2 (crc16 body) ++ zeros 3 ++ leBytes 1 mark

/-- The bytes of a position of the log. -/
def recordBytes (s : State) (p : LogPos) : Bytes :=
  if s.recorder.compat then compatRecord p.entry p.mark else nativeRecord p.entry p.mark

/-! ### The control sector (R470) -/

/-- Append an entry to the active control sector; entry 127 is kept for SWITCH, which moves to the other sector. -/
def ctlWrite (s : State) (kind value : Nat) : State :=
  let r := s.recorder
  let e : CtlEntry := { kind := kind, value := if kind = 1 then lifeValue s else value, time := s.time }
  let ck := if kind = 1 then s.time else r.ckpt
  if r.ctl.length < 127 then { s with recorder := { r with ctl := r.ctl ++ [e], ckpt := ck } }
  else
    let c : CtlEntry := { kind := 1, value := lifeValue s, time := s.time }
    { s with recorder := { r with cseq := r.cseq + 1, ctl := if kind = 1 then [c] else [c, e], ckpt := s.time } }

/-- Write a CHECKPOINT entry (R462). -/
def checkpoint (s : State) : State := ctlWrite s 1 0

/-- Switch control sectors with a new format and configuration (R470, R476 step 4). -/
def ctlSwitch (s : State) (compat : Bool) (cfg : Bytes) (clearSeq : Nat) : State :=
  checkpoint { s with recorder := { s.recorder with cseq := s.recorder.cseq + 1, ctl := [], compat := compat, config := cfg,
                                                     clearSeq := clearSeq } }

/-- 230,400 ticks of operating time have passed (R462). -/
def execEvrCheckpointTimer (s : State) : Host.Outcome State Fault Refusal :=
  .next (if s.mode = .dormant ∨ s.recorder.settled = false then s else checkpoint s)

/-! ### Writing a record (R472, R473) -/

/-- Drop an entry that the full log cannot take (R467, R473). -/
def dropFull (s : State) (e : EvEntry) : State := (evrDrop s e.code).incRegField R.EVR_DROP_COUNT 19 8

/-- HEAD moves on. At the last record sector LOG_FULL is set and event 0x8C0E goes first; entries of other codes that
wait are dropped. With no position left every entry is. -/
def headOn (s : State) : State :=
  let h := s.recorder.head + 1
  let s1 := { s with recorder := { s.recorder with head := h } }
  if h = s1.logLast ∧ s1.recorder.logFull = false then
    let keep := s1.recorder.fifo.filter fun e => codeExempt e.code
    let gone := s1.recorder.fifo.filter fun e => !codeExempt e.code
    let s2 := recordEvent (gone.foldl dropFull { s1 with recorder := { s1.recorder with fifo := [] } }) 0x8C0E h 0 0
    { s2 with recorder := { s2.recorder with logFull := true, fifo := s2.recorder.fifo ++ keep, retried := false } }
  else if h ≥ s1.logSize then
    s1.recorder.fifo.foldl dropFull { s1 with recorder := { s1.recorder with fifo := [] } }
  else s1

/-- The front entry of the FIFO leaves it. -/
def fifoPop (s : State) : State :=
  { s with recorder := { s.recorder with fifo := s.recorder.fifo.drop 1, bodyDone := false, retried := false } }

/-- Put a position into the log. -/
def logPut (s : State) (i : Nat) (p : LogPos) : State := { s with recorder := { s.recorder with log := s.recorder.log.insert i p } }

/-- An EVR_CLEAR that waits for the record being written goes on (R476 step 1). -/
def clearWake (s : State) : State :=
  match s.jobs.find? (fun j => j.code == C.EVR_CLEAR && j.phase == .nor && j.stage == 1) with
  | some j => s.setJob { j with phase := .started, stage := 2 }
  | none => s

/-- A program of the record being written ends and is read back (R472). -/
def recordWriteDone (s : State) (ok : Bool) : State :=
  let r := s.recorder
  match r.fifo with
  | [] => s
  | e :: _ =>
    if r.clearing ∨ r.settled = false ∨ s.mode = .dormant ∨ r.head ≥ s.logSize then s
    else if ok then
      if r.bodyDone then clearWake (headOn (fifoPop (logPut s r.head { entry := e, mark := 0x5A })))
      else logPut { s with recorder := { r with bodyDone := true } } r.head { entry := e }
    else
      let s1 := countProgram (logPut s r.head { entry := e, mark := 0, crcGood := false })
      if r.retried then clearWake (headOn ((fifoPop s1).incRegField R.EVR_DROP_COUNT 7 0))
      else headOn { s1 with recorder := { s1.recorder with bodyDone := false, retried := true } }

/-- A record's body or MARK program completes (R472); one into a sector that is being refreshed waits (R513). -/
def execEvrRecordWriteDone (ok : Bool) (s : State) : Host.Outcome State Fault Refusal :=
  .next (if refreshing s (12290 + s.recorder.head / logPerSector s) then s else recordWriteDone s ok)

/-- Write `n` whole records from the FIFO, as the recorder does until the islands are switched off (R469). -/
def flushRecords : Nat → State → State
  | 0, s => s
  | n + 1, s =>
    if s.recorder.fifo = [] then s
    else flushRecords n (recordWriteDone (if s.recorder.bodyDone then s else recordWriteDone s true) true)

/-- A code's bucket gains a token (R468). -/
def tokenBack (s : State) (c : Nat) : State :=
  let k := s.recorder.counts.get {} c
  { s with recorder := { s.recorder with counts := s.recorder.counts.put {} c { k with used := k.used - 1 } } }

/-- REFILL_S seconds have passed (R468). -/
def execEvrTokenRefill (c : Nat) (s : State) : Host.Outcome State Fault Refusal := .next (if (s.recorder.counts.get {} c).used = 0 then s else tokenBack (timerTaken s 19) c)

/-! ### Start-up (R462, R475) -/

/-- The first index after the last position that is not erased. -/
def logHead (s : State) : Nat := (s.recorder.log.getLast?.map (·.1 + 1)).getD 0

/-- The recorder's start: a clear or a switch that power interrupted is finished, HEAD is found, the counters settle, a
CHECKPOINT is written, and what the FIFO held at the entry to DORMANT is recorded. -/
def recorderStart (s : State) : State :=
  let r := s.recorder
  let s1 := match r.ctl.getLast? with
    | some e =>
      if e.kind = 2 then
        let l := r.log.filter fun p => p.1 / logPerSector s + 2 > e.value
        ctlSwitch { s with recorder := { r with log := l } } r.compat r.config r.clearSeq
      else s
    | none => s
  let h := logHead s1
  let s2 := { s1 with recorder := { s1.recorder with head := h, logFull := decide (h ≥ s1.logLast), settled := true, clearing := false } }
  let c : Nat := r.ckpt / 2 ^ 40
  let s3 : State := if s2.moon.powerCycles ≤ c then
      { s2 with moon := { s2.moon with powerCycles := c + 1, opTime := (r.ckpt % 2 ^ 40 + 230400) % 2 ^ 40 } } else s2
  let v : Nat := ((r.ctl.reverse.find? (·.kind == 1)).map (·.value)).getD 0
  let s3 := { s3 with nor := { s3.nor with life := v % 2 ^ 31 * 2250, overRated := v.testBit 31 } }
  let fifo := s3.recorder.fifo.map fun (e : EvEntry) => { e with time := s3.time }
  let s4 := checkpoint { s3 with recorder := { s3.recorder with fifo := fifo } }
  if s4.moon.fifoLost = 0 then s4
  else recordEvent { s4 with moon := { s4.moon with fifoLost := 0 } } 0x8C0C s4.moon.fifoLost 0 0

/-! ### EVR_READ, EVR_CONFIG_READ -/

/-- Copy valid records in index order: the bytes, how many, how many positions were skipped, the next index. -/
def readRecords (s : State) : Nat → Nat → Nat → Bytes × Nat × Nat × Nat
  | 0, i, _ => ([], 0, 0, i)
  | _ + 1, i, 0 => ([], 0, 0, i)
  | fuel + 1, i, want + 1 =>
    match s.recorder.log.look? i with
    | some p =>
      if p.mark = 0x5A ∧ p.crcGood = true then
        let (b, n, k, x) := readRecords s fuel (i + 1) want
        (recordBytes s p ++ b, n + 1, k, x)
      else
        let (b, n, k, x) := readRecords s fuel (i + 1) (want + 1)
        (b, n, k + 1, x)
    | none =>
      let (b, n, k, x) := readRecords s fuel (i + 1) (want + 1)
      (b, n, k + 1, x)

/-- The result of EVR_READ. -/
def evrReadResult (s : State) (n k x : Nat) : Bytes :=
  leBytes 2 n ++ leBytes 2 k ++ leBytes 4 x ++ leBytes 4 s.recorder.head
    ++ leBytes 1 (b2n s.recorder.compat + 2 * b2n s.recorder.logFull) ++ zeros 3

/-- The checks of EVR_READ that need no buffer. -/
def evrRangeCheck (s : State) (o : Bytes) : Option Nat :=
  firstFail [failIf s.recorder.clearing S.E_EVR_CLEARING, failIf (decide (u32 o 0 ≥ s.recorder.head)) S.E_EVR_RANGE]

/-- EVR_READ. -/
def evrRead (j : Job) (s : State) : State :=
  let o := j.ops
  let size := if s.recorder.compat then 32 else 256
  match firstFail [failIf (u16 o 4 < 1 || u16 o 4 > 1024) S.E_BAD_LENGTH, refCheck s j (hostRef o 16) (u16 o 4 * size) maxLen,
      evrRangeCheck s o] with
  | some st => dropWith s j st
  | none =>
    let (b, n, k, x) := readRecords s (s.recorder.head - u32 o 0) (u32 o 0) (u16 o 4)
    writeAndEnd s j (hostRef o 16) b S.OK (evrReadResult s n k x) false

/-- The same read carried by MCTP message 0x7E, operation 0x11, in the halt loop (R316). -/
def evrReadMctp (s : State) (o : Bytes) : State :=
  if s.boot.haltLoop = false then s
  else match firstFail [failIf (u16 o 4 < 1 || u16 o 4 > 1024) S.E_BAD_LENGTH, evrRangeCheck s o] with
    | some st => s.send (.mctp .port 0x7E ([0x11] ++ leBytes 2 st))
    | none =>
      let (b, n, k, x) := readRecords s (s.recorder.head - u32 o 0) (u32 o 0) (u16 o 4)
      s.send (.mctp .port 0x7E ([0x11] ++ leBytes 2 S.OK ++ evrReadResult s n k x ++ b))

/-- EVR_READ, as a command or by MCTP in the halt loop. -/
def execEvrRead (o : Origin) (mctp : Option Bytes) (s : State) : Host.Outcome State Fault Refusal :=
  .next (match mctp with
    | none => runCommand C.EVR_READ o s evrRead
    | some bs => evrReadMctp s bs)

/-- The header and configuration block of the active control sector (R470). -/
def controlBytes (s : State) : Bytes :=
  let r := s.recorder
  let h := [1, 0x70] ++ leBytes 1 (b2n r.compat) ++ zeros 1 ++ leBytes 4 r.cseq ++ leBytes 2 r.clearSeq
  let cfg := fit 1664 r.config
  h ++ leBytes 4 (crc32 (h ++ cfg)) ++ zeros 49 ++ [0x5A] ++ cfg

/-- EVR_CONFIG_READ. -/
def evrConfigRead (j : Job) (s : State) : State :=
  match refCheck s j (hostRef j.ops 16) 1728 maxLen with
  | some st => dropWith s j st
  | none => writeAndEnd s j (hostRef j.ops 16) (controlBytes s) S.OK
      (leBytes 2 s.recorder.clearSeq ++ leBytes 1 (b2n s.recorder.compat) ++ zeros 5) false

/-- EVR_CONFIG_READ. -/
def execEvrConfigRead (o : Origin) (s : State) : Host.Outcome State Fault Refusal :=
  .next (runCommand C.EVR_CONFIG_READ o s evrConfigRead)

/-! ### EVR_CLEAR (R476) -/

/-- Whether an address of the control-block region holds a register of the manual. -/
def regNamed (a : Nat) : Bool :=
  allRegs.any fun r => r.addr ≤ a && a < r.addr + (if r.count ≤ 1 then 1 else r.count * r.stride) &&
    (r.stride == 0 || (a - r.addr) % r.stride == 0)

/-- Whether a selector is well formed (R476). -/
def selectorOk (v : Nat) : Bool :=
  let a := field v 16 0 * 8
  field v 30 19 == 0 && (!v.testBit 31 || (regNamed a && (!v.testBit 17 || (selOf a).isSome) && (!v.testBit 18 || a < 0x8000)))

/-- Whether the valid selectors of a profile come first. -/
def validFirst : List Nat → Bool
  | a :: b :: r => (a.testBit 31 || !b.testBit 31) && validFirst (b :: r)
  | _ => true

/-- Whether a configuration block is valid (R476). -/
def configOk (cfg : Bytes) : Bool :=
  ((List.range 12).all fun p =>
    let l := (List.range 24).map fun k => u32 cfg (96 * p + 4 * k)
    l.all selectorOk && validFirst l) &&
  (List.range 64).all fun k => u8 cfg (1152 + 8 * k + 4) ≤ 15 && u8 cfg (1152 + 8 * k + 5) / 2 == 0 && zeroAt cfg (1152 + 8 * k + 6) 2

/-- Operand checks of EVR_CLEAR. -/
def evrClearCheck (s : State) (j : Job) : Option Nat :=
  let o := j.ops
  let keep := u8 o 1 == 1
  firstFail [failIf (u8 o 0 > 1 || u8 o 1 > 1 || !zeroAt o 2 14 || (keep && !zeroAt o 16 16)) S.E_BAD_OPERAND,
    failIf (s.mode != .service) S.E_MODE, failIf s.recorder.clearing S.E_EVR_CLEARING,
    if keep then none else refCheck s j (hostRef o 16) 1664 1664]

/-- Wait for the record being written, or go on at once. -/
def clearWait (s : State) (j : Job) : State :=
  if s.recorder.fifo = [] then s.setJob { j with stage := 2, phase := .started }
  else s.setJob { j with stage := 1, phase := .nor }

/-- CLEAR_BEGIN, the commit point; its VALUE is the sector of HEAD − 1. -/
def clearBegin (s : State) (j : Job) : State :=
  let v := if s.recorder.head = 0 then 1 else (s.recorder.head - 1) / logPerSector s + 2
  let s1 := ctlWrite s 2 v
  let s2 := { s1 with recorder := { s1.recorder with clearing := true, bodyDone := false, retried := false } }
  s2.setJob { j with committed := true, stage := 3, args := [v, 0] }

/-- The switch and the end of the clear. -/
def clearEnd (s : State) (j : Job) : State :=
  let cfg := if u8 j.ops 1 = 1 then s.recorder.config else j.keep.headD []
  let s1 := ctlSwitch s (u8 j.ops 0 == 1) cfg ((s.recorder.clearSeq + 1) % 65536)
  let s2 := { s1 with recorder := { s1.recorder with log := [], head := 0, logFull := false, clearing := false } }
  okJob s2 j (leBytes 2 s2.recorder.clearSeq ++ leBytes 4 (listGet 0 j.args 1) ++ zeros 2)

/-- EVR_CLEAR: stage 1 waits for a record, 2 commits, 3 erases a sector at a time and 4 takes each erase's end. -/
def evrClear (j : Job) (s : State) : State :=
  if j.stage = 0 then
    match evrClearCheck s j with
    | some st => dropWith s j st
    | none => if u8 j.ops 1 = 1 then clearWait s j else readOrEnd s j [hostRef j.ops 16]
  else if j.stage = 1 then
    let cfg := j.data.headD []
    if configOk cfg then clearWait s { j with keep := [cfg] } else dropWith s j S.E_EVR_CONFIG
  else if j.stage = 2 then (if s.recorder.bodyDone then clearWait s j else clearBegin s j)
  else if j.stage = 3 then
    if listGet 0 j.args 0 < 2 then clearEnd s j else norThen s j (12288 + listGet 0 j.args 0) true false
  else
    let n := listGet 0 j.args 0
    (eraseSector s (12288 + n)).setJob { j with stage := 3, args := [n - 1, listGet 0 j.args 1 + 1] }

/-- EVR_CLEAR. -/
def execEvrClear (o : Origin) (s : State) : Host.Outcome State Fault Refusal := .next (runCommand C.EVR_CLEAR o s evrClear)

end Sys2Proof.Machine
end

