-- ==== Sys2Proof/Machine/Tenancy.lean ====
section
/-! DEFINITION. Tenancy (10 R252 to R269): contexts, grants, bindings, quiescing, reset and destroy, TENANT_INFO and
POLICY_QUERY. A command waits while another one is writing the record of the same tenant. -/

namespace Sys2Proof.Machine

/-! ### Contexts and grants -/

/-- Whether every field of a grant block lies in its range (R259). -/
def grantOk (o : Bytes) (k : Nat) : Bool :=
  let g := grantAt o k
  g.qpQuota ≤ 1024 && g.slotQuota ≤ 16128 && g.treeQuota ≤ 16 && g.dmdAllow ≤ 64 && 1 ≤ g.sealWeight && 1 ≤ g.arithShare
    && 1 ≤ g.arithMax && g.arithMax ≤ 24 && zeroAt o (k + 10) 6 && (g.opRate == 0 || 1 ≤ g.opDepth)
    && (g.byteRate == 0 || 1 ≤ g.byteDepth)

/-- Full buckets (R261). -/
def fillBuckets (t : Tenant) : Tenant := { t with opBalance := t.grant.opDepth, byteBalance := t.grant.byteDepth * 1024 }

/-- A new grant in force (R261): balances above the new depths are cut to them. -/
def regrant (t : Tenant) (g : Grant) : Tenant :=
  { t with grant := g, opBalance := min t.opBalance g.opDepth, byteBalance := min t.byteBalance (g.byteDepth * 1024 : Nat) }

/-- Whether a context index names a context in use. -/
def tenUsed (s : State) (t : Nat) : Bool := t < 4096 && (s.ten t).state != .free

/-- Whether another command holds a tenant's record while it is written, or creates the same index. -/
def tenantBusy (s : State) (j : Job) (t : Nat) : Bool :=
  s.jobs.any fun k => k.origin != j.origin && 0x0101 ≤ k.code && k.code ≤ 0x0108 && k.stage + b2n (k.phase == .nor) != 0 &&
    (if k.code = C.TENANT_CREATE then listGet 0 k.args 0 == t else u16 k.ops 0 == t && k.phase == .nor)

/-- Whether a context has no work in flight (R256). -/
def noWork (s : State) (t : Nat) : Bool := !(s.jobs.any fun k => isTenantWork t k)

/-! ### TENANT_CREATE (R262) -/

/-- Whether a TENANT_CREATE in flight has taken an index. -/
def indexTaken (s : State) (me : Origin) (t : Nat) : Bool :=
  tenUsed s t || s.jobs.any fun k => k.origin != me && k.code == C.TENANT_CREATE && listGet 1 k.args 0 == t && k.args != []

/-- The index TENANT_CREATE takes (R262 step 1). -/
def createIndex (s : State) (j : Job) : Option Nat :=
  let t := u16 j.ops 0
  if t = 0xFFFF then (List.range 4096).find? (fun n => !indexTaken s j.origin n)
  else if indexTaken s j.origin t then none else some t

/-- The checks of TENANT_CREATE on its operands. -/
def createCheck (s : State) (j : Job) : Option Nat :=
  let o := j.ops
  firstFail [failIf (!zeroAt o 3 13 || u8 o 2 > 1 || (u16 o 0 ≥ 4096 && u16 o 0 != 0xFFFF) || !grantOk o 32
      || (u8 o 2 == 0 && !zeroAt o 16 16)) S.E_BAD_OPERAND,
    failIf (!s.keyed) S.E_UNKEYED, if u8 o 2 = 1 then refCheck s j (hostRef o 16) 104 104 else none,
    failIf (createIndex s j).isNone (if u16 o 0 = 0xFFFF then S.E_TENANT_LIMIT else S.E_TENANT_STATE),
    failIf (findFree s 256 16128).isNone S.E_SLOT_QUOTA]

/-- The tenant root (R262 step 3): DEST WRAP and AGATE, USAGE WRAP_KEYS, UNWRAP_KEYS and DERIVE. -/
def rootHalf (t : Nat) (mat : Bytes) (origin version : Nat) : SlotHalf :=
  { material := mat, colour := t, dest := 12, usage := 112, cls := 4, origin := origin, version := version }

/-- Step 4: the record is written. -/
def createRecord (s : State) (j : Job) (t n : Nat) (h : SlotHalf) : State :=
  let (s1, j1) := reserve s { j with args := [t, 1, h.origin, h.version], keep := [h.material] } n 0
  cfgThen s1 j1 2 t (.tenant (fillBuckets { state := .quiesced, grant := grantAt j.ops 32, rootSlot := n }) h []) true

/-- The blob of RESTORE is checked (R167) and its root made. -/
def createRestore (s : State) (j : Job) (t n : Nat) : State :=
  let blob := j.data.headD []
  let (st, mat) := openBlob blob (s.cdk.getD []) 1
  if st ≠ S.OK then dropWith s j st
  else if u8 blob 2 ≠ 0x40 then dropWith s j S.E_SLOT_CLASS
  else createRecord s j t n (rootHalf t mat (u8 blob 5 / 4 % 4) (u16 blob 16))

/-- TENANT_CREATE commits: context, root slot, ROOT_PUSH (R432). -/
def createDone (s : State) (j : Job) : State :=
  let t := listGet 0 j.args 0
  let n := (j.target.map (·.1)).getD 0
  let h := rootHalf t (listGet [] j.keep 0) (listGet 0 j.args 2) (listGet 0 j.args 3)
  let s0 := s.setTen t (fillBuckets { state := .quiesced, grant := grantAt j.ops 32, rootSlot := n })
  let s1 := writeHalf { s0 with mem := allocLines s0.mem (tenantLines t).1 (tenantLines t).2 t } n 0 j.code j.seq h
  let id := kcv h.material
  let s2 := pushAll s1 0x21 (leNat id) 0 fun peer =>
    leBytes 8 peer ++ id ++ leBytes 2 t ++ zeros 6 ++ blobOf 1 h (s.cdk.getD [])
  okJob s2 { j with target := none } (leBytes 2 t ++ leBytes 2 n ++ leBytes 2 h.version ++ zeros 2 ++ id)

/-- The instance of TENANT_CREATE is made, then the root. The arguments are the index, and 1 once the instance stands. -/
def createRoot (s : State) (j : Job) (t : Nat) : State :=
  match (if listGet 0 j.args 1 = 1 then .ok [] s else instantiate s t) with
  | .fail st => dropWith s j st
  | .wait => s.setJob { j with phase := .rng }
  | .ok _ s1 =>
    let j1 := { j with args := [t, 1] }
    let s2 := s1.setJob j1
    if u8 j.ops 2 = 1 then readOrEnd s2 j1 [hostRef j.ops 16]
    else withDraw s2 j1 t 32 fun mat s3 => createRecord s3 j1 t ((j1.target.map (·.1)).getD 0) (rootHalf t mat 0 1)

/-- The order of TENANT_CREATE has been taken: the index that it finds is kept, and its slot is reserved (R544). -/
def createTaken (s : State) (j : Job) : State :=
  match j.args with
  | t :: _ => createRoot s j t
  | [] => match createIndex s j, findFree s 256 16128 with
    | none, _ => dropWith s j (if u16 j.ops 0 = 0xFFFF then S.E_TENANT_LIMIT else S.E_TENANT_STATE)
    | _, none => dropWith s j S.E_SLOT_QUOTA
    | some t, some n =>
      let (s1, j1) := reserve s { j with args := [t, 0] } n 0
      createRoot s1 j1 t

/-- TENANT_CREATE (R262): its order names the context (R175). -/
def tenantCreate (j : Job) (s : State) : State :=
  if j.stage = 0 then
    checked (if j.seq = 0 then createCheck s j else none) j s
      (takeOrder s j [tenantName ((createIndex s j).getD 0)] createTaken)
  else if j.committed then createDone s j
  else createRestore s j (listGet 0 j.args 0) ((j.target.map (·.1)).getD 0)

/-- TENANT_CREATE. -/
def execTenantCreate (o : Origin) (s : State) : Host.Outcome State Fault Refusal :=
  .next (runCommand C.TENANT_CREATE o s tenantCreate)

/-! ### TENANT_SET_GRANT, TENANT_BIND, TENANT_UNBIND -/

/-- Write a tenant's record with a changed context; the command goes on when it stands. -/
def writeTenant (s : State) (j : Job) (t : Nat) (c : Tenant) : State :=
  cfgThen s j 2 t (tenantBody (s.setTen t c) t []) true

/-- TENANT_SET_GRANT (R260, R261). -/
def tenantSetGrant (j : Job) (s : State) : State :=
  let t := u16 j.ops 0
  let c := regrant (s.ten t) (grantAt j.ops 8)
  if j.stage = 0 then
    match firstFail [failIf (!zeroAt j.ops 2 6 || !grantOk j.ops 8) S.E_BAD_OPERAND, failIf (!tenUsed s t) S.E_NO_TENANT] with
    | some st => dropWith s j st
    | none => if tenantBusy s j t then s else writeTenant s j t c
  else okJob (s.setTen t c) j []

/-- TENANT_SET_GRANT. -/
def execTenantSetGrant (o : Origin) (s : State) : Host.Outcome State Fault Refusal :=
  .next (runCommand C.TENANT_SET_GRANT o s tenantSetGrant)

/-- The binding that TENANT_BIND and TENANT_UNBIND name. -/
def namedBind (o : Bytes) : BindId := { port := PortId.ofNum (u8 o 2), vf := u8 o 3 == 0, n := u16 o 6 }

/-- PASID of TENANT_BIND. -/
def bindPasid (o : Bytes) : Nat := leNat (slice o 8 3) % 2 ^ 20

/-- Whether the operands of TENANT_BIND or TENANT_UNBIND are well formed. -/
def bindOperandsOk (o : Bytes) (unbind : Bool) : Bool :=
  u8 o 2 ≤ 1 && u8 o 3 ≤ 1 && u8 o 4 ≤ 1 && u8 o 5 == 0 && 1 ≤ u16 o 6 && u16 o 6 ≤ (if u8 o 3 = 0 then 4095 else 2047)
    && u8 o 10 / 16 == 0 && zeroAt o 11 5 && (u8 o 3 == 1 || bindPasid o == 0)
    && (!unbind || (u8 o 4 == 0 && zeroAt o 8 3))

/-- The cases of R263. -/
def bindConflict (s : State) (t : Nat) (o : Bytes) : Bool :=
  let b := namedBind o
  let c := s.ten t
  (s.bindOf b).valid ||
    (!b.vf && (s.port b.port).binds.any fun e => e.1 < 4096 && e.1 != 0 && e.2.valid && e.2.pasid == bindPasid o) ||
    (if u8 o 4 = 0 then c.primary.isSome
     else c.twin.isSome || c.primary.isNone || (c.primary.map (·.port)) == some b.port)

/-- The context with a binding added. -/
def bound (c : Tenant) (o : Bytes) : Tenant :=
  if u8 o 4 = 0 then { c with primary := some (namedBind o), pasid := bindPasid o }
  else { c with twin := some (namedBind o), twinPasid := bindPasid o }

/-- TENANT_BIND (R263). -/
def tenantBind (j : Job) (s : State) : State :=
  let o := j.ops
  let t := u16 o 0
  if j.stage = 0 then
    match firstFail [failIf (!bindOperandsOk o false) S.E_BAD_OPERAND, failIf (!tenUsed s t) S.E_NO_TENANT,
        failIf ((s.ten t).state != .quiesced) S.E_NOT_QUIESCED, failIf (bindConflict s t o) S.E_BIND_CONFLICT] with
    | some st => dropWith s j st
    | none => if tenantBusy s j t then s else writeTenant s j t (bound (s.ten t) o)
  else
    let e : BindEntry := { valid := true, twin := u8 o 4 == 1, tenant := t, pasid := bindPasid o }
    okJob ((s.setTen t (bound (s.ten t) o)).setBind (namedBind o) e) j []

/-- TENANT_BIND. -/
def execTenantBind (o : Origin) (s : State) : Host.Outcome State Fault Refusal := .next (runCommand C.TENANT_BIND o s tenantBind)

/-- The context with a binding removed. -/
def unbound (c : Tenant) (b : BindId) : Tenant :=
  if c.primary = some b then { c with primary := none, pasid := 0 } else { c with twin := none, twinPasid := 0 }

/-- A binding's entry, mailbox and MSI-X state return to reset (R264). -/
def dropBind (s : State) (b : BindId) : State :=
  let off := fun (j : Job) => if j.bind = b then { j with discard := true } else j
  let s1 := { s with jobs := s.jobs.map off }
  let s2 := (s1.setBind b {}).setMbx b {}
  let f := s2.fn b.port b.func
  if b.vf then s2.setFn b.port b.n { bme := f.bme }
  else s2.setFn b.port 0 { f with unmasked := f.unmasked.filter (· != b.n), pba := f.pba.filter (· != b.n) }

/-- TENANT_UNBIND (R264). -/
def tenantUnbind (j : Job) (s : State) : State :=
  let o := j.ops
  let t := u16 o 0
  let b := namedBind o
  let c := s.ten t
  if j.stage = 0 then
    match firstFail [failIf (!bindOperandsOk o true) S.E_BAD_OPERAND, failIf (!tenUsed s t) S.E_NO_TENANT,
        failIf (c.state != .quiesced) S.E_NOT_QUIESCED,
        failIf (!(c.primary == some b || c.twin == some b)) S.E_BIND_CONFLICT,
        failIf (c.primary == some b && c.twin.isSome) S.E_BIND_CONFLICT, failIf (!(qpsOf s b).isEmpty) S.E_QP_STATE] with
    | some st => dropWith s j st
    | none => if tenantBusy s j t then s else writeTenant s j t (unbound c b)
  else okJob (dropBind (s.setTen t (unbound c b)) b) j []

/-- TENANT_UNBIND. -/
def execTenantUnbind (o : Origin) (s : State) : Host.Outcome State Fault Refusal :=
  .next (runCommand C.TENANT_UNBIND o s tenantUnbind)

/-! ### TENANT_QUIESCE, TENANT_ENABLE -/

/-- The result of TENANT_QUIESCE (R265). -/
def quiesceResult (c : Tenant) : Bytes :=
  leBytes 1 c.state.num ++ zeros 1 ++ leBytes 2 (min c.jobsEnded 65535) ++ leBytes 2 (min c.jobsAborted 65535) ++ zeros 2

/-- The last job in flight of a QUIESCING tenant ends (R255): it is QUIESCED, and the commands that wait complete. -/
def tenantQuiesced (s : State) (t : Nat) : State :=
  if (s.ten t).state = .quiescing ∧ noWork s t = true then
    let c := { s.ten t with state := .quiesced }
    ((s.setTen t c).jobs.filter fun k => k.code == C.TENANT_QUIESCE && k.phase == .quiesce && u16 k.ops 0 == t).foldl
      (fun u k => okJob u k (quiesceResult c)) (s.setTen t c)
  else s

/-- A tenant becomes QUIESCED (R255). -/
def execTenantQuiesced (t : Nat) (s : State) : Host.Outcome State Fault Refusal := .next (tenantQuiesced s t)

/-- TENANT_QUIESCE (R265). -/
def tenantQuiesce (j : Job) (s : State) : State :=
  let o := j.ops
  let t := u16 o 0
  if u8 o 2 > 1 || u8 o 3 > 1 || !zeroAt o 4 4 then dropWith s j S.E_BAD_OPERAND
  else takeOrder s j [tenantName t] fun s1 j1 =>
    if tenUsed s1 t = false then dropWith s1 j1 S.E_NO_TENANT
    else if (s1.ten t).state = .quiesced then okJob s1 j1 (quiesceResult (s1.ten t))
    else
      let j2 := { j1 with committed := true, phase := .quiesce }
      let s2 := tenantQuiesced ((quiesceTenant s1 t (u8 o 2 == 1)).setJob j2) t
      if u8 o 3 = 1 ∧ (s2.job? j.origin).isSome = true then okJob s2 j2 (quiesceResult (s2.ten t)) else s2

/-- TENANT_QUIESCE. -/
def execTenantQuiesce (o : Origin) (s : State) : Host.Outcome State Fault Refusal :=
  .next (runCommand C.TENANT_QUIESCE o s tenantQuiesce)

/-- TENANT_ENABLE (R255, R266): queue pairs return to ACTIVE, the spoof count is cleared. -/
def tenantEnable (j : Job) (s : State) : State :=
  let t := u16 j.ops 0
  takeOrder s j [tenantName t] fun s1 j1 =>
    let c := s1.ten t
    if tenUsed s1 t = false then dropWith s1 j1 S.E_NO_TENANT
    else match c.state with
      | .quiescing => dropWith s1 j1 S.E_QUIESCING
      | .quiesced =>
        if c.primary.isNone then dropWith s1 j1 S.E_TENANT_STATE
        else okJob (fetchAll (mapQps (s1.setTen t { c with state := .active, spoofCount := 0 })
          (fun q => !q.bind.isOwner && q.tenant == t && q.state == .stopped) (fun q => { q with state := .active }))) j1 []
      | _ => okJob s1 j1 []

/-- TENANT_ENABLE. -/
def execTenantEnable (o : Origin) (s : State) : Host.Outcome State Fault Refusal :=
  .next (runCommand C.TENANT_ENABLE o s tenantEnable)

/-! ### TENANT_RESET, TENANT_DESTROY (R267) -/

/-- Step 1: running commands of R257 of the tenant end with E_SUPERSEDED. -/
def supersedeQuiet (s : State) (j : Job) (t : Nat) : State :=
  (s.jobs.filter fun k => k.origin != j.origin && !k.owner && k.tenant == t &&
      (match k.origin with | .internal _ => false | _ => true)).foldl
    (fun u k => match u.job? k.origin with | some k' => supersede u k' j.code | none => u) s

/-- The pool slots of a tenant that its RESET or DESTROY clears (R267 steps 5 and 6). -/
def slotsToClear (s : State) (t : Nat) (destroy : Bool) : List Nat :=
  (s.slots.filter fun e => e.1 ≥ 256 && (e.2.active.map (·.colour)) == some t && (destroy || e.1 != (s.ten t).rootSlot)).map (·.1)

/-- The manifests of a tenant. -/
def mansOfTenant (s : State) (t : Nat) : List Nat := (s.manifests.filter fun e => e.2.tenant == t && e.2.state != .free).map (·.1)

/-- Steps 5 and 6 of R267 on everything but the record: slots cleared with their revokes, manifests discarded, queue
pairs FREE, the DRBG instance uninstantiated and, for RESET, instantiated again; for DESTROY the bindings removed. The
counts of the result follow. -/
def clearTenant (s : State) (me : Option Origin) (t : Nat) (destroy : Bool) : State × List Nat :=
  let slots := slotsToClear s t destroy
  let qps := qpsOfTenant s t
  let mans := mansOfTenant s t
  let code := if destroy then C.TENANT_DESTROY else C.TENANT_RESET
  let s1 := match me.bind s.job? with | some j => supersedeLower s j | none => s
  let s2 := slots.foldl (fun u n => clearSlot u n code 0) s1
  let s3 := mans.foldl manFree (qps.foldl closeQp s2)
  let s4 := uninstantiate s3 t
  let c := s4.ten t
  let s5 :=
    if destroy then
      (c.primary.toList ++ c.twin.toList).foldl dropBind { s4 with mem := freeColour s4.mem t }
    else match instantiate s4 t with
      | .ok _ u => u
      | _ => setDrbg s4 t { wanted := true }
  let c' := fillBuckets { c with spoofCount := 0, jobsEnded := 0, jobsAborted := 0 }
  (s5.setTen t (if destroy then { c' with primary := none, twin := none } else c'), [slots.length, qps.length, mans.length])

/-- What the order of a RESET or DESTROY names: the context, its slots and its trees (R174). -/
def clearNames (s : State) (t : Nat) : List Nat :=
  tenantName t :: slotsToClear s t true ++ (tenantTrees s t).map fun e => treeName e.1

/-- TENANT_RESET and TENANT_DESTROY (R267); the arguments count trees, slots, queue pairs and manifests. A RESET goes on
to its record only when its instance stands (R244). -/
def tenantClear (destroy : Bool) (j : Job) (s : State) : State :=
  let t := u16 j.ops 0
  let c := s.ten t
  if j.stage = 0 then
    if !zeroAt j.ops 2 6 then dropWith s j S.E_BAD_OPERAND
    else takeOrder s j (clearNames s t) fun s1 j1 =>
      if tenUsed s1 t = false then dropWith s1 j1 S.E_NO_TENANT
      else if (s1.ten t).state ≠ .quiesced ∨ noWork s1 t = false then dropWith s1 j1 S.E_NOT_QUIESCED
      else if tenantTrees s1 t ≠ [] ∧ quorumOk s1 = false then dropWith s1 j1 S.E_QUORUM
      else prevail s1 j1 fun s2 j2 =>
        if tenantBusy s2 j2 t then s2
        else
          let s3 := supersedeQuiet s2 j2 t
          writeTenant s3 j2 t { s3.ten t with pendingMark := if destroy then .destroy else .reset }
  else if j.stage = 1 then
    let s1 := s.setTen t { c with pendingMark := if destroy then .destroy else .reset }
    let id := kcv (((s.slot c.rootSlot).active.map (·.material)).getD [])
    let s2 := if destroy then pushAll s1 0x22 (leNat id) 0 (fun peer => leBytes 8 peer ++ id) else s1
    nextTombstone s2 j t
  else if j.stage = 2 then
    let (s1, n) := clearTenant s (some j.origin) t destroy
    let j1 := { j with args := [listGet 0 j.args 0, listGet 0 j.args 0 + listGet 0 n 0, listGet 0 n 1, listGet 0 n 2] }
    s1.setJob { j1 with stage := 3 }
  else if j.stage = 3 then
    if destroy then cfgThen s j 4 t (.tombstone 2) false
    else if (s.drbgs.get {} t).inst = false then s
    else cfgThen s j 2 t (tenantBody (s.setTen t { c with pendingMark := .none }) t []) false
  else
    okJob (s.setTen t (if destroy then {} else { c with pendingMark := .none })) j
      (leBytes 1 (listGet 0 j.args 0) ++ zeros 1 ++ leBytes 2 (listGet 0 j.args 1) ++ leBytes 2 (listGet 0 j.args 2)
        ++ leBytes 2 (listGet 0 j.args 3))

/-- TENANT_RESET. -/
def execTenantReset (o : Origin) (s : State) : Host.Outcome State Fault Refusal :=
  .next (runCommand C.TENANT_RESET o s (tenantClear false))

/-- TENANT_DESTROY. -/
def execTenantDestroy (o : Origin) (s : State) : Host.Outcome State Fault Refusal :=
  .next (runCommand C.TENANT_DESTROY o s (tenantClear true))

/-! ### TENANT_INFO, POLICY_QUERY -/

/-- Queue pairs a tenant's bindings hold; the FLAGS of TENANT_INFO. -/
def tenantFlags (c : Tenant) : Nat :=
  b2n c.primary.isSome + 2 * b2n c.twin.isSome + 4 * ((c.primary.map (·.port.num)).getD 0) + 8 * b2n (c.pendingMark != .none)

/-- The result of TENANT_INFO. -/
def tenantInfoBytes (s : State) (j : Job) (t : Nat) : Bytes :=
  let c := s.ten t
  leBytes 1 c.state.num ++ leBytes 1 (tenantFlags c) ++ leBytes 2 c.rootSlot ++ leBytes 2 (qpsOfTenant s t).length
    ++ leBytes 2 (slotsHeld s t j.origin) ++ leBytes 1 (tenantTrees s t).length ++ leBytes 1 (dmdOutstanding s false t)
    ++ leBytes 2 c.spoofCount ++ zeros 4 ++ leBytes 4 (signed32 c.opBalance) ++ leBytes 4 (signed32 (c.byteBalance / 1024))
    ++ zeros 8 ++ grantBytes c.grant

/-- TENANT_INFO. -/
def tenantInfo (j : Job) (s : State) : State :=
  let n := u16 j.ops 0
  let t := if n = 0xFFFF then j.tenant else n
  match firstFail [failIf (!zeroAt j.ops 2 6 || (j.owner && n ≥ 4096)) S.E_BAD_OPERAND,
      failIf (!j.owner && t != j.tenant) S.E_NOT_OWNER, failIf (!tenUsed s t) S.E_NO_TENANT] with
  | some st => dropWith s j st
  | none => okJob s j (tenantInfoBytes s j t)

/-- TENANT_INFO. -/
def execTenantInfo (o : Origin) (s : State) : Host.Outcome State Fault Refusal := .next (runCommand C.TENANT_INFO o s tenantInfo)

/-- The verdict of R268: the first failing check of R159. The owner may ask about slots 64 to 191. -/
def verdict (s : State) (j : Job) (n dest usage : Nat) : Nat :=
  if n = 0xFFFF then 0 else (slotCheck s j .target n (fun _ => true) (2 ^ dest) (2 ^ usage)).getD 0

/-- POLICY_QUERY (R268). -/
def policyQuery (j : Job) (s : State) : State :=
  let o := j.ops
  let n := u16 o 0
  if u8 o 2 > 7 || u8 o 3 > 7 || !zeroAt o 4 4 then dropWith s j S.E_BAD_OPERAND
  else takeOrder s j ([n].filter (· != 0xFFFF)) fun s1 j1 =>
    let c := s1.ten j.tenant
    let dmd := dmdOutstanding s1 j.owner j.tenant
    let flags := b2n (!j.owner && decide (c.opBalance < 0)) + 2 * b2n (!j.owner && decide (c.byteBalance < 0))
      + 4 * b2n (decide (dmd ≥ dmdAllow s1 j.owner j.tenant))
    let version := if n = 0xFFFF ∨ (accessCheck s1 j1 .target n).isSome = true then 0 else ((s1.slot n).active.map (·.version)).getD 0
    okJob s1 j1 (leBytes 1 (if j.owner then 0xFF else c.state.num) ++ leBytes 1 flags ++ leBytes 2 (verdict s1 j1 n (u8 o 2) (u8 o 3))
      ++ leBytes 2 version ++ leBytes 1 dmd ++ zeros 9)

/-- POLICY_QUERY. -/
def execPolicyQuery (o : Origin) (s : State) : Host.Outcome State Fault Refusal :=
  .next (runCommand C.POLICY_QUERY o s policyQuery)

end Sys2Proof.Machine
end

