-- ==== Sys2Proof/Machine/Power.lean ====
section
/-! DEFINITION. Modes and power (11): the mailbox control writes with what they defer, HUSH, PWR_DORMANT and the dormant
image, what survives a loss of power or a device restart, and the wake sources. -/

namespace Sys2Proof.Machine

/-! ### What survives (R278, R281, R282, R300, R542) -/

/-- The bits of a register's fields that a reset keeps: AON fields always; in a warm reset RWL and RWS fields too (R5, R542). -/
def keepMask (warm : Bool) (a : Nat) : Nat :=
  match allRegs.find? (fun r => r.addr ≤ a && a < r.addr + (if r.count ≤ 1 then 8 else r.count * r.stride)) with
  | none => 0
  | some r => r.fields.foldl (fun m f =>
      if f.aon || (warm && (decide (f.acc = .rwl) || decide (f.acc = .rws))) then
        m ||| place f.msb f.lsb (2 ^ (f.msb + 1 - f.lsb) - 1) else m) 0

/-- The register contents after a reset. -/
def regsAfter (warm : Bool) (old : NMap Nat) : NMap Nat :=
  (State.reset.regs.map (·.1) ++ old.map (·.1)).foldl (fun m a =>
    let k := keepMask warm a
    let d := State.reset.regs.get 0 a
    m.put 0 a ((d - (d &&& k)) ||| (old.get 0 a &&& k))) []

/-- An anchor write that power interrupts (R199): during the body its entry is dead; during MARK it reads 0xA5 or not. -/
def interruptAnchor (s : State) (w : AnchorWrite) : State :=
  match w.pos with
  | none => s
  | some p =>
    let stands := w.marking && (Config.freeByte s.freeIdx).getLsbD 0
    let a := { w.anchor with mark := if stands then 0xA5 else 0 }
    { s.tookFree 1 with agate := { s.agate with journal := s.agate.journal.insert p a } }

/-- A NOR operation that power interrupts (R505): an erase leaves its sector to be erased again, a program its bits at
either value. -/
def interruptNor (s : State) (p : NorOp) : State :=
  let broken := fun (t : State) (n : Nat) => { t with nor := { t.nor with broken := n :: t.nor.broken } }
  match p.job with
  | .cfg seq _ mark _ =>
    let stands := mark && (Config.freeByte s.freeIdx).getLsbD 0
    { s.tookFree 1 with cfg := s.cfg.map fun r => if r.seq = seq then { r with valid := stands } else r }
  | .fwProgram a bs =>
    norProgram (damageAt (s.tookFree bs.length) a bs.length) a (List.zipWith (· ||| ·) bs (s.freeBytes bs.length))
  | .fwErase n => broken s n
  | .command _ n true => broken s n
  | .command _ 6144 false => { s with lcs := { s.lcs with copyA := .part } }
  | .command _ 6145 false => { s with lcs := { s.lcs with copyB := .part } }
  | _ => s

/-- The record being written when power goes (R474): its MARK reads 0x5A or not. -/
def interruptRecord (s : State) : State :=
  let r := s.recorder
  match r.fifo with
  | [] => s
  | e :: _ =>
    if r.clearing ∨ r.settled = false ∨ s.mode = .dormant ∨ r.head ≥ s.logSize then s else
    let stands := r.bodyDone && (Config.freeByte s.freeIdx).getLsbD 0
    logPut (s.tookFree 1) r.head { entry := e, mark := if stands then 0x5A else 0, crcGood := r.bodyDone }

/-- What the NOR die holds after its controller lost power. -/
def interrupted (s : State) : State :=
  s.nor.ops.foldl interruptNor (s.agate.writes.foldl interruptAnchor (interruptRecord s))

/-- The RWS fields of a port, a link and a ward, which a warm reset keeps (R5, R542). -/
def warmPort (p : HostPort) : HostPort := { perst := p.perst, everUp := p.everUp, retrainCount := p.retrainCount }
@[inherit_doc warmPort] def warmLink (k : Link) : Link :=
  { bad := k.bad, refused := k.refused, handedBack := k.handedBack, fecCorrected := k.fecCorrected, fecUncorrectable := k.fecUncorrectable }
@[inherit_doc warmPort] def warmWard (w : Ward) : Ward := { wpg := w.wpg, modify := w.modify, other := w.other }

/-- The state with every island other than MOONSTONE off: MOONSTONE, the fuses, the NOR die, the pins driven from outside,
and the model's own fields stay. Without a loss of VDD_CORE (`warm`: a device restart, DORMANT on mains) the RWL and RWS fields
stay too. -/
def offState (s0 : State) (warm : Bool) : State :=
  let s := interrupted s0
  let nor : Nor := { s.nor with ops := [], sram := [], last := 0, passActive := s.nor.passActive }
  let moon : Moonstone := { s.moon with deferred := none, dormantTaken := false, staging := 0 }
  { State.reset with
    clk := s.clk, moon := moon, fuses := s.fuses, tamper := s.tamper, nor := nor, cfg := s.cfg, out := s.out
    boot := { trimA := s.boot.trimA, trimB := s.boot.trimB, pufA := s.boot.pufA, pufB := s.boot.pufB,
              certs := s.boot.certs, imgA := s.boot.imgA, imgB := s.boot.imgB }
    lcs := { copyA := s.lcs.copyA, copyB := s.lcs.copyB, wipes := s.lcs.wipes, vholdMv := s.lcs.vholdMv, vholdOk := s.lcs.vholdOk }
    agate := { journal := s.agate.journal, head := s.agate.head, jseq := s.agate.jseq }
    recorder := { log := s.recorder.log, cseq := s.recorder.cseq, clearSeq := s.recorder.clearSeq, compat := s.recorder.compat,
                  config := s.recorder.config, ctl := s.recorder.ctl, ckpt := s.recorder.ckpt }
    wards := s.wards.mapVal {} (if warm then warmWard else fun w => { wpg := w.wpg })
    links := if warm then s.links.mapVal {} warmLink else []
    tkn := { buses := s.tkn.buses.mapVal {} (fun b => { present := b.present }) }
    portA := if warm then warmPort s.portA else { perst := s.portA.perst }
    portB := if warm then warmPort s.portB else { perst := s.portB.perst }
    regs := regsAfter warm s.regs
    freeIdx := s.freeIdx, pending := s.pending }

/-- MOONSTONE loses all its state (R281). -/
def loseMoonstone (s : State) : State :=
  { s with moon := { saltLost := true, aonPower := false, corePower := false }, tamper := {}, regs := State.reset.regs }

/-! ### STARTUP is entered; a device restart (R300) -/

/-- STARTUP is entered: the sequence of R299 runs from internal power-good. -/
def enterStartup (s : State) : State := setMode { s with boot := { s.boot with step := 1 } } .startup

/-- A device restart (R300): every island other than MOONSTONE is switched off, then STARTUP. -/
def deviceRestart (s : State) : State := enterStartup { offState s true with mode := s.mode }

/-! ### Wake (R293 to R295) -/

/-- A wake source qualifies: its bit of PWR_WAKE_CAUSE is set and STARTUP is entered; between the commit point of
PWR_DORMANT and DORMANT it is latched (R294). -/
def qualify (s : State) (bit : Nat) : State :=
  if (s.reg R.PWR_WAKE_CFG).testBit bit = false ∨ s.moon.onVbat = true then s
  else
    let cause := s.setReg R.PWR_WAKE_CAUSE (s.reg R.PWR_WAKE_CAUSE ||| 2 ^ bit)
    if s.mode = .dormant then (if s.moon.corePower then enterStartup cause else cause)
    else if s.mode = .startup ∧ s.boot.input.isNone = true ∧ s.moon.corePower = true then cause
    else if s.moon.dormantTaken ∧ s.moon.deferred.isSome = true then
      { s with moon := { s.moon with wakeLatched := s.moon.wakeLatched ||| 2 ^ bit } }
    else s

/-- A wake source of R285 in HUSH, and of R293 in DORMANT. -/
def wakeSource (s : State) (bit : Nat) : State := if s.mode = .hush then hushExit s else qualify s bit

/-- WAKE_IN_N has been low for 100 µs (R293). -/
def execWakeInAssert (s : State) : Host.Outcome State Fault Refusal := .next (capture (wakeSource s 1) 0x22 16 [0])

/-- PWR_RTC reaches a non-zero ALARM (R293). -/
def execRtcAlarm (s : State) : Host.Outcome State Fault Refusal :=
  .next (if s.reg R.PWR_RTC_ALARM = 0 then s else wakeSource (timerTaken s 20) 2)

/-- The I3C wake command in DORMANT (R293). -/
def execI3cWakeCommand (s : State) : Host.Outcome State Fault Refusal :=
  .next (if s.mode = .dormant ∨ s.moon.dormantTaken = true then qualify s 3 else s)

/-- PERST of a port is deasserted (R56, R293): the owner's queue pairs of the port return to ACTIVE (R66). -/
def perstDeassert (s : State) (p : PortId) : State :=
  let h := s.port p
  if h.perst = false then s
  else qualify (ownerResume (capture (s.setPort p { h with perst := false }) 0x22 16 [p.num * 2 + 9]) p) (4 + p.num)

/-- PERST_A_N or PERST_B_N is deasserted (R56). -/
def execPerstDeassert (p : PortId) (s : State) : Host.Outcome State Fault Refusal := .next (perstDeassert s p)

/-! ### Entry to DORMANT (R288 steps 6 and 7) -/

/-- The islands are switched off and MODE is DORMANT; a latched wake then starts. -/
def enterDormant (s : State) : State :=
  let s1 := recordEvent s 0x8C09 (stagedTotal s) 0 0
  let s2 := recordEvent s1 0x8C01 0 s.mode.num (s.regField R.PWR_WAKE_CAUSE 6 0)
  let s3 := refreshLog (checkpoint s2) { kind := 5, value := s2.reg R.PWR_RTC }
  let s4 := flushRecords (if s3.recorder.compat then 50 else 20) s3
  let lost := s4.recorder.fifo.length
  let s5 := s4.setRegField R.PWR_KEEPALIVE 23 8 s.fabric.addr
  let latched := s.moon.wakeLatched
  let s6 := offState { s5 with recorder := { s5.recorder with fifo := [], bodyDone := false } } true
  let s7 := { s6 with mode := .dormant, moon := { s6.moon with fifoLost := lost, wakeLatched := 0, idHash := idHash s,
                                                               keepaliveUp := s5.regField R.PWR_KEEPALIVE 7 0 } }
  (List.range 6).foldl (fun t b => if latched.testBit b then qualify t b else t) s7

/-- A power loss: the islands lose their state at once; DORMANT without an image (R280). -/
def powerLost (s : State) : State :=
  if s.mode = .dormant ∨ s.mode = .startup then { offState s false with mode := s.mode }
  else { offState s false with mode := .dormant }

/-- What waited for the ACK of a finished command begins (R288, R300, R492). -/
def runDeferred (s : State) (w : AfterDone) : State :=
  let s1 := { s with moon := { s.moon with deferred := none } }
  match w with
  | .dormant => enterDormant { s1 with moon := { s1.moon with dormantTaken := false } }
  | .restart => deviceRestart s1

/-- 100 ms have passed since DONE without an ACK (R288). -/
def doneTimeout (s : State) : State :=
  match s.moon.deferred with
  | some (_, w) => runDeferred (timerTaken s 14) w
  | none => s

/-- The deferral ends without an ACK (R288). -/
def execDoneTimeout (s : State) : Host.Outcome State Fault Refusal := .next (doneTimeout s)

/-! ### Writes to MBX_CTRL (R48) -/

/-- ACK in a mailbox: in DONE it returns to IDLE, and what waited for it begins. -/
def ackAct (s : State) (b : BindId) : State :=
  let done := (s.mbx b).state = .done
  let s1 := ackClear s b
  match s.moon.deferred with
  | some (d, w) => if d = b ∧ done then runDeferred s1 w else s1
  | none => s1

/-- A write to MBX_CTRL: IRQ_EN, then ACK, ABORT and GO one after another (R48). -/
def ctrlWrite (s : State) (b : BindId) (ack abort go irqEn : Bool) : State :=
  if bindLive s b = false then s
  else
    let v := b2n go + 2 * b2n abort + 4 * b2n irqEn + 8 * b2n ack
    let s1 := setIrq (dispatchMerge (mmio s b.port b.func 8 8 v) b) b irqEn
    let s2 := if ack then ackAct s1 b else s1
    let s3 := if abort then abortAct s2 b else s2
    if go && bindLive s3 b then goAct s3 b else s3

/-- GO, with ACK and ABORT of the same write before it. -/
def execMbxGo (b : BindId) (ack abort irqEn : Bool) (s : State) : Host.Outcome State Fault Refusal :=
  .next (ctrlWrite s b ack abort true irqEn)

/-- ACK, with ABORT of the same write after it. -/
def execMbxAck (b : BindId) (abort irqEn : Bool) (s : State) : Host.Outcome State Fault Refusal :=
  .next (ctrlWrite s b true abort false irqEn)

/-- ABORT alone. -/
def execMbxAbort (b : BindId) (irqEn : Bool) (s : State) : Host.Outcome State Fault Refusal :=
  .next (ctrlWrite s b false true false irqEn)

/-! ### HUSH -/

/-- Wards whose verification or recovery runs. -/
def wardsBusy (s : State) : Bool := s.wards.any fun e => e.2.state == .verifying || e.2.state == .recovering

/-- The HUSH condition (R283), apart from a PWR_HUSH of the submission given. -/
def hushCondition (s : State) (o : Option Origin) : Bool :=
  s.jobs.all (fun j => some j.origin == o) &&
    s.qps.all (fun e => e.2.state != .active || e.2.sqHead == e.2.sqTail) && !wardsBusy s && s.links.all (fun e => e.2.queue == [])

/-- A waiting PWR_HUSH completes and HUSH is entered (R283). -/
def hushConditionMet (s : State) (o : Origin) : State :=
  match s.job? o with
  | some j =>
    if j.code = C.PWR_HUSH ∧ j.phase = .hush ∧ s.mode = .service ∧ hushCondition s (some o) = true then
      hushEnter (okJob s { j with committed := true } []) else s
  | none => s

/-- The HUSH condition is found to hold (R283). -/
def execHushConditionMet (o : Origin) (s : State) : Host.Outcome State Fault Refusal := .next (hushConditionMet s o)

/-- WAIT_MS passes (R283). -/
def hushWaitExpire (s : State) (o : Origin) : State :=
  match s.job? o with
  | some j => if j.code = C.PWR_HUSH ∧ j.phase = .hush then endJob (timerTaken s 14) j S.I_HUSH_ABANDONED [] false else s
  | none => s

/-- WAIT_MS passes without the condition (R283). -/
def execHushWaitExpire (o : Origin) (s : State) : Host.Outcome State Fault Refusal := .next (hushWaitExpire s o)

/-- PWR_HUSH (R283). -/
def pwrHush (j : Job) (s : State) : State :=
  match firstFail [failIf (s.mode != .service) S.E_MODE, failIf (u16 j.ops 0 > 1000 || !zeroAt j.ops 2 6) S.E_BAD_OPERAND] with
  | some st => dropWith s j st
  | none => hushConditionMet (s.setJob { j with phase := .hush }) j.origin

/-- PWR_HUSH. -/
def execPwrHush (o : Origin) (s : State) : Host.Outcome State Fault Refusal := .next (runCommand C.PWR_HUSH o s pwrHush)

/-- The AUTO_HUSH timer (R283). -/
def execAutoHushTimer (s : State) : Host.Outcome State Fault Refusal :=
  .next (if s.mode = .service ∧ s.regField R.PWR_CTRL 7 0 ≠ 0 ∧ hushCondition s none = true then hushEnter (timerTaken s 14) else s)

/-! ### PWR_DORMANT (R287 to R290) -/

/-- The preconditions of R287. -/
def dormantReady (s : State) (o : Origin) : Bool :=
  s.tenants.all (fun e => e.2.state == .quiesced || e.2.state == .free) && s.jobs.all (fun j => j.origin == o) &&
    s.qps.all (fun e => !e.2.bind.isOwner || e.2.state != .active || e.2.sqHead == e.2.sqTail)

/-- The first key of an image whose record fails its check (R150). -/
def imageFault (s : State) : Option (Nat × SlotHalf) := (imageSlots s).find? fun e => (openHalf s e.2).isNone

/-- An entry of the image (R289). -/
def imageEntry (s : State) (n : Nat) (h : SlotHalf) : Bytes :=
  let b := blobOf 2 ((openHalf s h).getD h) (slotKey s 6)
  leBytes 2 n ++ leBytes 2 h.colour ++ leBytes 4 b.length ++ zeros 8 ++ b ++ zeros (pad8 b.length - b.length)

/-- The dormant image (R289). -/
def imageBytes (s : State) (dseq : Nat) : Bytes :=
  let es := imageSlots s
  [1, 0x20] ++ zeros 6 ++ leBytes 4 es.length ++ leBytes 4 dseq ++ leBytes 8 (imageSize s)
    ++ (if s.keyed then kcv (slotKey s 2) else zeros 8) ++ zeros 32 ++ (es.map fun e => imageEntry s e.1 e.2).flatten

/-- The commit point: the image record is stored, pending halves are gone (R288 steps 2 and 4). -/
def dormantCommit (s : State) (j : Job) : State :=
  let n := (imageSlots s).length
  let dseq := (s.moon.dseq + 1) % 2 ^ 32
  let img := imageBytes s dseq
  let moon : Moonstone :=
    if s.keyed then { s.moon with imageValid := true, dseq := dseq, imageDigest := sha384 img } else { s.moon with imageValid := false }
  let s0 := allPendingGone s C.PWR_DORMANT
  let s1 := { s0 with moon := { moon with deferred := some (j.bind, .dormant) } }
  okJob s1 { j with committed := true } (leBytes 8 img.length ++ leBytes 4 n ++ leBytes 4 s1.moon.dseq)

/-- PWR_DORMANT: stage 1 follows the ordering read. -/
def pwrDormant (j : Job) (s : State) : State :=
  let out := hostRef j.ops 0
  if j.stage = 0 then
    match firstFail [failIf (!dormantReady s j.origin) S.E_NOT_QUIESCED,
        refCheck s j out (if s.keyed = false ∧ out.len = 0 then 0 else imageSize s) maxLen] with
    | some st => dropWith s j st
    | none =>
      let s1 := { s with moon := { s.moon with dormantTaken := true } }
      if out.len = 0 then dormantCommit s1 j
      else match imageFault s1 with
      | some (n, h) => recordFailed s1 j n false h
      | none => match hostWrite s1 j out 0 (imageBytes s1 ((s.moon.dseq + 1) % 2 ^ 32)) true with
        | none => dropWith (noteBlocked s1 (dmaBind s j out.port)) j S.E_HOST_DMA
        | some (s2, j2) =>
          (s2.send (readMsg s2 (dmaBind s j out.port) 0 0)).setJob { j2 with phase := .ordering, final := none, wroteOther := false, readSince := s.clk }
  else dormantCommit s j

/-- PWR_DORMANT. -/
def execPwrDormant (o : Origin) (s : State) : Host.Outcome State Fault Refusal := .next (runCommand C.PWR_DORMANT o s pwrDormant)

/-! ### PWR_IMAGE_RESTORE, PWR_IMAGE_DISCARD (R296, R297) -/

/-- The entries of an image from an offset: slot, colour, blob. None when an entry is malformed or out of order. -/
def imageEntries (img : Bytes) : Nat → Nat → Nat → Option (List (Nat × Nat × Bytes))
  | 0, off, _ => if off = img.length then some [] else none
  | n + 1, off, low =>
    let slot := u16 img off
    let len := u32 img (off + 4)
    if off + 16 + pad8 len > img.length ∨ slot < low ∨ zeroAt img (off + 8) 8 = false then none
    else (imageEntries img n (off + 16 + pad8 len) (slot + 1)).map ((slot, u16 img (off + 2), slice img (off + 16) len) :: ·)

/-- The format check of R297. -/
def imageParse (s : State) (img : Bytes) : Option (List (Nat × Nat × Bytes)) :=
  if u8 img 0 = 1 ∧ u8 img 1 = 0x20 ∧ zeroAt img 2 6 = true ∧ zeroAt img 32 32 = true ∧ u64 img 16 = img.length
      ∧ slice img 24 8 = kcv (slotKey s 2) then imageEntries img (u32 img 8) 64 0
  else none

/-- Restore one entry, or skip it with its event. -/
def restoreEntry (j : Job) (acc : State × Nat × Nat) (e : Nat × Nat × Bytes) : State × Nat × Nat :=
  let (s, ok, bad) := acc
  let (n, colour, blob) := e
  let (st, mat) := openBlob blob (slotKey s 6) 2
  let h := blobHalf blob mat colour (u8 blob 5 / 4 % 4) (u16 blob 16)
  let why : Nat :=
    if slotFree (s.slot n) = false ∨ n ≥ 16384 then S.E_SLOT_STATE
    else if colour < 4096 ∧ tenUsed s colour = false then S.E_NO_TENANT
    else if st ≠ S.OK then st
    else if attrsSuit h.cls h.size h.dest h.usage = false then S.E_SLOT_CLASS
    else if recordsUsed s + recordsNeeded h > 32768 then S.E_RECORD_SPACE else S.OK
  if why = S.OK then
    match recordFault s (storeRecords s h).2 with
    | some (l, f) => (recordEvent (memError s j l f) 0x8C0B n S.E_MEM_INTEGRITY 0, ok, bad + 1)
    | none => (writeHalf s n 0 C.PWR_IMAGE_RESTORE 0 h, ok + 1, bad)
  else (recordEvent s 0x8C0B n why 0, ok, bad + 1)

/-- PWR_IMAGE_RESTORE (R297). -/
def imageRestore (j : Job) (s : State) : State :=
  if j.stage = 0 then
    match firstFail [failIf (!s.moon.imageValid) S.E_NO_IMAGE, failIf (!s.keyed) S.E_UNKEYED,
        refCheck s j (hostRef j.ops 0) 64 maxLen] with
    | some st => dropWith s j st
    | none => readOrEnd s j [hostRef j.ops 0]
  else
    let img := j.data.headD []
    if s.moon.imageValid = false then dropWith s j S.E_NO_IMAGE
    else if sha384 img ≠ s.moon.imageDigest ∨ u32 img 12 ≠ s.moon.dseq then dropWith s j S.E_IMAGE_STALE
    else match imageParse s img with
      | none => dropWith s j S.E_IMAGE_FORMAT
      | some es =>
        let (s1, ok, bad) := es.foldl (restoreEntry j) (s, 0, 0)
        okJob { s1 with moon := { s1.moon with imageValid := false } } { j with committed := true }
          (leBytes 4 ok ++ leBytes 4 bad ++ leBytes 4 s.moon.dseq ++ zeros 4)

/-- PWR_IMAGE_RESTORE. -/
def execPwrImageRestore (o : Origin) (s : State) : Host.Outcome State Fault Refusal :=
  .next (runCommand C.PWR_IMAGE_RESTORE o s imageRestore)

/-- PWR_IMAGE_DISCARD. -/
def imageDiscard (j : Job) (s : State) : State :=
  if s.moon.imageValid then okJob { s with moon := { s.moon with imageValid := false } } { j with committed := true } []
  else dropWith s j S.E_NO_IMAGE

/-- PWR_IMAGE_DISCARD. -/
def execPwrImageDiscard (o : Origin) (s : State) : Host.Outcome State Fault Refusal :=
  .next (runCommand C.PWR_IMAGE_DISCARD o s imageDiscard)

/-! ### Losses of power (R280, R281, R333, R334, R518) -/

/-- VDD_CORE falls below 0.66 V with VHOLD low (R280, R333): a power loss. -/
def vddCoreLoss (s : State) : State :=
  if s.lcs.vholdOk then s
  else
    let s1 := powerLost s
    { s1 with moon := { s1.moon with corePower := false } }

/-- VDD_CORE is lost. -/
def execVddCoreLoss (s : State) : Host.Outcome State Fault Refusal := .next (vddCoreLoss s)

/-- VDD_AON falls below 0.72 V (R281, R522): MOONSTONE runs from VBAT, or without a cell loses everything. -/
def vddAonLoss (s : State) (vbat : Bool) : State :=
  let s1 := powerLost s
  if vbat then
    let s2 := s1.setReg R.PWR_STATUS (s1.reg R.PWR_STATUS ||| 2 ^ 9)
    { s2 with moon := { s2.moon with onVbat := true, aonPower := false, corePower := false } }
  else loseMoonstone s1

/-- VDD_AON is lost. -/
def execVddAonLoss (vbat : Bool) (s : State) : Host.Outcome State Fault Refusal := .next (vddAonLoss s vbat)

/-- VBAT falls below 2.3 V while MOONSTONE runs from it (R334). -/
def execVbatSaltClear (s : State) : Host.Outcome State Fault Refusal :=
  .next (if s.moon.onVbat then { s with moon := { s.moon with salt := none, imageValid := false, saltLost := true } } else s)

/-- A rail that DORMANT needs is removed (R518): the next start is a cold start. -/
def execDormantRailLoss (s : State) : Host.Outcome State Fault Refusal :=
  .next (if s.mode = .dormant then
    let s1 := offState s false
    { s1 with mode := .dormant, moon := { s1.moon with corePower := false } }
  else s)

end Sys2Proof.Machine
end

