-- ==== Sys2Proof/Machine/ArithOps.lean ====
section
/-! DEFINITION. The arith engines' shared operations (08 R216 to R235): the placement of a job, its random input, the
end of a job, engine faults. -/

namespace Sys2Proof.Machine

/-- The arith engine that runs a submission's job. -/
def engineOf (s : State) (o : Origin) : Option Nat :=
  (List.range 24).find? fun n => ((s.aeng n).work.map (·.origin)) == some o

/-- The lowest-numbered IN_SERVICE engine that is free (R216); LOCKDOWN keeps one engine (R278). -/
def freeEngine (s : State) : Option Nat :=
  if s.mode = .lockdown ∧ s.arith.any (·.2.work.isSome) = true then none
  else (List.range 24).find? fun n => (s.aeng n).state == .inService && (s.aeng n).work.isNone

/-- Whether any arith engine is IN_SERVICE. -/
def anyArith (s : State) : Bool := (List.range 24).any fun n => (s.aeng n).state == .inService

/-- Whether a job is dispatcher-internal work (colour 0xF002). -/
def isInternal (j : Job) : Bool := match j.origin with | .internal _ => true | _ => false

/-- Arith engines that run jobs of the submissions that a test selects. -/
def arithRunning (s : State) (sel : Job → Bool) : Nat :=
  ((List.range 24).filter fun n => match (s.aeng n).work with
    | some w => (match s.job? w.origin with | some j => !isInternal j && sel j | none => false)
    | none => false).length

/-- Arith engines that run a tenant's jobs (R259). -/
def arithHeld (s : State) (t : Nat) : Nat := arithRunning s fun j => !j.owner && j.tenant == t

/-- Whether a job's participant may hold one more engine: a tenant ARITH_MAX (R259), the owner 4 (R69). -/
def arithShare (s : State) (j : Job) : Bool :=
  isInternal j || (if j.owner then decide (arithRunning s (·.owner) < 4) else decide (arithHeld s j.tenant < (s.ten j.tenant).grant.arithMax))

/-- Whether a job waits for its placement. -/
def arithWaits (k : Job) : Bool := k.arith.isSome && k.phase == .started

/-- Whether a job to be run again waits (R233). -/
def isRerun (k : Job) : Bool := decide ((k.arith.map (·.attempt)).getD 1 > 1)

/-- Whether a job may be placed: internal jobs go ahead of waiting owner and tenant jobs (R216), a job that is run again ahead of
new work of its class (R233), each within its participant's share. -/
def mayPlace (s : State) (j : Job) : Bool :=
  arithShare s j && (isInternal j ||
    !(s.jobs.any fun k => k.origin != j.origin && arithWaits k &&
        (isInternal k || (isRerun k && !isRerun j && k.cls == j.cls && arithShare s k))))

/-- Operand slots and words of an operation: the table of R211 where it lists one, else free values. `key` is
(CLASS, SIZE without PUBLIC). -/
def operandUse (s : State) (op : Nat) (key : Nat × Nat) : (Nat × Nat) × State :=
  let t : Option (Nat × Nat) :=
    if op = 1 then
      (if key = (6, 0) then some (30, 1296) else if key = (6, 1) then some (30, 2160) else if key = (7, 0) then some (26, 1040)
       else if key = (9, 1) then some (14, 2816) else if key = (10, 0) then some (46, 4024) else none)
    else if op = 2 then (if key = (10, 0) then some (33, 2880) else none)
    else if op = 3 then (if key = (9, 1) then some (20, 3584) else none)
    else if op = 4 then (if key = (8, 0) then some (12, 320) else none)
    else if op = 5 then some (21, 1024)
    else if op = 6 then some (25, 1216)
    else none
  match t with
  | some x => (x, s)
  | none =>
    let n := 1 + leNat (s.freeBytes 1) % 64
    ((n, 8 * (n + 12 + leNat ((s.freeBytes 3).drop 1) % (min (64 * n) 512 - n - 12 + 1))), s.tookFree 3)

/-- End a command with E_ARI_ENGINE_FAIL (R233). -/
def arithExhausted (s : State) (j : Job) : State := dropWith (s.incRegField R.ARI_ERR_COUNT 31 16) j S.E_ARI_ENGINE_FAIL

/-- The key that an operation computes with: the signature's private key, or the one kept. -/
def keyOf (j : Job) : Bytes := match j.arith.bind (·.sign) with | some q => q.priv | none => j.keep.headD []

/-- The dispatcher writes the slot table of an engine from the operation ROM's layout, and the vault delivers the keys, the random
input and the return key (R211, R217). The slots follow one another from word 0, and the key stands in OS_0 (DESIGN
CHOICE, assumption 178); the cores' states are as the operation leaves them. -/
def startArith (s : State) (e : ArithEngine) (j : Job) (op : Nat) (key : Nat × Nat) (os w : Nat) (rk : Bytes) : ArithEngine :=
  let words := if keyOf j = [] then [] else keyWords key.1 key.2 (keyOf j)
  { wiped e with
    work := some { origin := j.origin, operation := op, slots := os, words := w }
    table := slotTable 0 (slotUnits (Config.romLayout op key.1 key.2) os (w / 8) (max 1 ((words.length + 7) / 8)))
    mem := NMap.putList 0 [] 0 words
    rk := rk
    keys := keyOf j
    sha := s.freeBytes 64
    keccak := (s.freeBytes 264).drop 64
    step := 1 }

/-- The engine `n` takes a job (R216, R217): the placement is journalled, with the engine as the winning input; the random input
`seed` stands at the head of `keep`; the host buffers are then read. The key delivered stays the job's key, whatever is
committed to its slot meanwhile: of what the order is bound to, the slots delivered are left out, but for KEY_PROVE. -/
def engineTakes (s : State) (j : Job) (n op : Nat) (key : Nat × Nat) (req : ArithReq) (seed rk : Bytes) (holds : List Nat) : State :=
  let ((os, w), s1) := operandUse s op key
  let s2 := (s1.setAeng n (startArith s1 (s1.aeng n) j op key os w rk)).tookFree 264
  let s3 := crossing s2 0x09 0 n ((s.jobs.filter arithWaits).length + 1)
  let j1 := { j with arith := some { req with slots := os, words := w }, keep := seed :: j.keep, holds := holds,
                     names := if op = 7 then j.names else j.names.filter fun e => !holds.contains e.1
                     data := [], phase := .arith, afterReads := .arith }
  match req.reads with
  | [] => s3.setJob j1
  | r :: _ => match issueReads s3 j1 req.reads with
    | some (s4, j2) => s4.setJob j2
    | none => dropWith (noteBlocked s3 (dmaBind s3 j1 r.port)) j1 S.E_HOST_DMA

/-- Draw for a command when it needs any bytes. -/
def drawIf (s : State) (j : Job) (n len : Nat) (k : Bytes → State → State) : State :=
  if len = 0 then k [] s else withDraw s j n len k

/-- What a job asks of an engine, its attempt and signature kept from an earlier placement. -/
def arithReq (j : Job) (op : Nat) (reads : List HostRef) : ArithReq :=
  { op := op, attempt := (j.arith.map (·.attempt)).getD 1, retried := ((j.arith.map (·.retried)).getD false), reads := reads,
    sign := j.arith.bind (·.sign) }

/-- Place a job on an engine with `rnd` bytes of random input, and a return key when its output is bound for the vault
(R216, R217). With no engine free, or in HUSH (R232), it waits. `holds` are the slots whose keys are delivered (R160). -/
def placeArith (s : State) (j : Job) (op : Nat) (key : Nat × Nat) (rnd : Nat) (toVault : Bool) (holds : List Nat)
    (reads : List HostRef) : State :=
  let req := arithReq j op reads
  let j0 := { j with arith := some req, stage := 50, phase := .started }
  if anyArith s = false then arithExhausted s j
  else if mayPlace s j = false ∨ s.mode = .hush then s.setJob j0
  else match freeEngine s with
    | none => s.setJob j0
    | some n => drawIf (s.setJob j0) j0 (drbgOf j) rnd fun seed s1 =>
        drawIf s1 j0 4098 (if toVault then 32 else 0) fun rk s2 => engineTakes s2 j0 n op key req seed rk holds

/-- A dispatcher-internal job of colour 0xF002 (R216) takes the lowest free engine, runs there and is wiped, all in the step of the
row that it serves (DESIGN CHOICE, assumption 179); none while no engine is free, or in HUSH (R232). -/
def arithNow (s : State) : Option State :=
  if s.mode = .hush then none
  else (freeEngine s).map fun n =>
    let s1 := crossing s 0x09 0 n ((s.jobs.filter arithWaits).length + 1)
    let e := s1.aeng n
    s1.setAeng n { restArith e with goodJobs := min (e.goodJobs + 1) 1048576 }

/-- Random bytes that a key generation takes (R226): the extra-random-bits, seed or candidate input of its method. -/
def keygenRandom (cls size : Nat) : Nat :=
  if cls = 6 then (if size = 0 then 64 else 74)
  else if cls = 7 then 57
  else if cls = 8 then 56
  else if cls = 9 then (if size = 0 then 384 else 512)
  else if cls = 10 then 32 else 64

/-- Prime candidates allowed in RSA key generation (R222), for both primes. -/
def rsaBound (size : Nat) : Nat := if size = 0 then 7680 else 10240

/-- The engine wipes its operand memory and becomes free; a DRAINING engine takes no other job (R219, R220). -/
def freeArith (s : State) (n : Nat) : State := s.setAeng n (restArith (s.aeng n))

/-- A job that completed without an invariant failure counts toward the 1,048,576 of R228. -/
def goodArith (s : State) (n : Nat) : State :=
  let e := s.aeng n
  s.setAeng n { e with goodJobs := if e.goodJobs < 1048576 then e.goodJobs + 1 else e.goodJobs }

/-- The status of a success: I_RETRIED after a rerun, counted in RERUNS (R233). -/
def arithOk (s : State) (j : Job) : Nat × State :=
  if isRerun j || (j.arith.map (·.retried)).getD false then (S.I_RETRIED, s.incRegField R.ARI_ERR_COUNT 47 32) else (S.OK, s)

/-- The command in flight that waits for an engine's tests or drain: its first argument is the engine. -/
def engineWaiter (s : State) (code n : Nat) (ph : Phase) : Option Job :=
  s.jobs.find? fun j => j.code == code && j.phase == ph && listGet 0 j.args 0 == n

/-- An arith engine enters QUARANTINED (R129, R234); an ARI_QUARANTINE that waits for it ends. -/
def quarantineArith (s : State) (n cause : Nat) : State :=
  let e := s.aeng n
  let s1 := s.setAeng n { restArith e with state := .quarantined, lastCause := cause }
  let s2 := recordEvent s1 0x8D02 n cause 2
  match engineWaiter s2 C.ARI_QUARANTINE n .quiesce with
  | some j => okJob s2 j []
  | none => s2

/-- An invariant check fails (R228): nothing is released, the strike counts, the second one quarantines the engine. -/
def invariantFail (s : State) (j : Job) (n : Nat) : State :=
  let e := s.aeng n
  let s1 := s.setAeng n { restArith e with goodJobs := 0, invStrikes := e.invStrikes + 1, failCount := satInc 16 e.failCount }
  let s2 := recordStatus (s1.incRegField R.ARI_ERR_COUNT 63 48) S.E_INVARIANT j n
  let s3 := if e.invStrikes + 1 ≥ 2 then quarantineArith s2 n 0x07 else s2
  dropWith s3 j S.E_INVARIANT

/-- End a command with E_ITER_LIMIT (R222). -/
def iterLimit (s : State) (j : Job) : State := dropWith (s.incRegField R.ARI_ERR_COUNT 15 0) j S.E_ITER_LIMIT

/-- The random input kept with a running job. -/
def rndOf (j : Job) : Bytes := j.keep.headD []

/-- A job on an engine that faulted is run again from the start on another engine, with fresh key delivery and random input, at
most three attempts in all (R233); the command's own row runs again at stage 50, where its placement stands. A job that
received a revoke ends instead (R161). -/
def rerunArith (s : State) (j : Job) : State :=
  let a := (j.arith.map (·.attempt)).getD 1
  match j.revokedBy with
  | some by_ => supersede s j by_
  | none =>
    if a ≥ 3 ∨ anyArith s = false then arithExhausted s j
    else readsGo (s.setJob { j with arith := j.arith.map (fun r => { r with attempt := a + 1 }), keep := j.keep.drop 1, holds := [],
                                    data := [], reads := [], unsent := false, phase := .started, stage := 50 })

/-- An engine fault of an engine in service or draining (R233, R234): it stops, wipes and is quarantined, and its job is run
again. -/
def arithFault (s : State) (n cause : Nat) : State :=
  if (s.aeng n).state ≠ .inService ∧ (s.aeng n).state ≠ .draining then s else
  let s1 := s.setAeng n { s.aeng n with failCount := satInc 16 (s.aeng n).failCount }
  let s2 := quarantineArith s1 n cause
  match (s.aeng n).work.bind fun w => s2.job? w.origin with
  | some j => rerunArith s2 j
  | none => s2

end Sys2Proof.Machine
end

