-- ==== Sys2Proof/Machine/Keys.lean ====
section
/-! DEFINITION. The key commands (06): KEY_GENERATE, KEY_DERIVE, KEY_WRAP, KEY_UNWRAP, KEY_IMPORT_PUBLIC, KEY_PROVE,
KEY_COMMIT, KEY_DISCARD, KEY_ATTR_READ, KEY_ATTR_SET, KEY_PUBLIC, and the stop of a revoked job. -/

namespace Sys2Proof.Machine

/-- Names of the slots an order names; 0xFFFF names none. -/
def slotNames (ns : List Nat) : List Nat := ns.filter (· != 0xFFFF)

/-! ### KEY_GENERATE -/

/-- The RSVD bytes and HALF of a command whose target is at offset 0. -/
def genOperandsBad (j : Job) (t : Template) : Bool := !t.rsvdOk || !zeroAt j.ops 3 5 || u8 j.ops 2 > 1

/-- KEY_GENERATE of an asymmetric class: KEYGEN on an arith engine (R226). -/
def keygenPlace (j : Job) (s : State) : State :=
  let t := templateAt j.ops 8
  placeArith s { j with keep := [] } 3 (t.cls, t.size) (keygenRandom t.cls t.size) true [] []

/-- KEYGEN ends (R219, R226): the key that returned to the vault is written with its public-key record. -/
def keygenRelease (s : State) (j : Job) (priv pub : Bytes) : State :=
  let t := templateAt j.ops 8
  let (n, half) := j.target.getD (0, 0)
  let h := halfOf t (colourOf n j.owner j.tenant) 0 (newVersion s n half) priv pub
  storeKey s j h fun s1 r => let (st, s2) := arithOk s1 j; endJob s2 j st r false

/-- KEY_GENERATE. -/
def keyGenerate (j : Job) (s : State) : State :=
  let t := templateAt j.ops 8
  if j.stage = 50 then keygenPlace j s
  else if genOperandsBad j t then dropWith s j S.E_BAD_OPERAND
  else takeOrder s j (slotNames [u16 j.ops 0]) fun s1 j1 =>
    withTarget s1 j1 (u16 j.ops 0) (u8 j.ops 2) t.cls t.size t.dest t.usage fun s2 j2 n =>
      if t.size ≥ 8 ∨ t.cls = 4 then dropWith s2 j2 S.E_SLOT_CLASS
      else if t.cls ≥ 6 then keygenPlace j2 s2
      else withDraw s2 j2 (drbgOf j2) (privLen t.cls t.size) fun key s3 =>
        storeKey s3 j2 (halfOf t (colourOf n j.owner j.tenant) 0 (newVersion s3 n (u8 j.ops 2)) key []) fun s4 r => okJob s4 j2 r

/-- KEY_GENERATE. -/
def execKeyGenerate (o : Origin) (s : State) : Host.Outcome State Fault Refusal :=
  .next (runCommand C.KEY_GENERATE o s keyGenerate)

/-! ### KEY_DERIVE -/

/-- KEY_DERIVE (R153). -/
def keyDerive (j : Job) (s : State) : State :=
  let o := j.ops
  let t := templateAt o 8
  let parent := u16 o 0
  let len := u8 o 5
  if !t.rsvdOk || !zeroAt o 6 2 || u8 o 4 > 1 || len > 64 || !zeroAt o (16 + len) (64 - len) then dropWith s j S.E_BAD_OPERAND
  else takeOrder s j (slotNames [parent, u16 o 2]) fun s1 j1 =>
    match slotCheck s1 j1 .use parent (fun h => h.cls == 1 || h.cls == 2 || h.cls == 4) 0 16 with
    | some st => dropWith s1 j1 st
    | none => withTarget s1 j1 (u16 o 2) (u8 o 4) t.cls t.size t.dest t.usage fun s2 j2 n =>
        if ¬ (t.cls = 1 ∨ t.cls = 2) then dropWith s2 j2 S.E_SLOT_CLASS
        else withMaterial s2 j2 parent false fun s3 p =>
          let ctx := beBytes 2 p.version ++ slice o 8 8 ++ slice o 16 len
          let key := kdf p.material (ascii "GV-KD") ctx (8 * privLen t.cls t.size)
          let h := halfOf { t with exportable := t.exportable && p.exportable } (colourOf n j.owner j.tenant) 1
            (newVersion s3 n (u8 o 4)) key []
          storeKey s3 j2 h fun s4 r => okJob s4 j2 r

/-- KEY_DERIVE. -/
def execKeyDerive (o : Origin) (s : State) : Host.Outcome State Fault Refusal :=
  .next (runCommand C.KEY_DERIVE o s keyDerive)

/-! ### KEY_WRAP and KEY_UNWRAP -/

/-- KEY_WRAP (R163 to R166). KIND CUSTODY_TENANT from the owner ends with E_SLOT_CLASS after the checks of the wrapped slot: R165
gives no order (DESIGN CHOICE, assumption 174). -/
def keyWrap (j : Job) (s : State) : State :=
  let o := j.ops
  let n := u16 o 0
  let kind := u8 o 2
  let ws := u16 o 4
  let out := hostRef o 16
  if !zeroAt o 3 1 || !zeroAt o 6 10 || !(kind == 0 || kind == 1 || kind == 3) || (kind != 3 && ws != 0xFFFF) then
    dropWith s j S.E_BAD_OPERAND
  else match refCheck s j out 0 maxLen with
    | some st => dropWith s j st
    | none => takeOrder s j (slotNames [n, ws]) fun s1 j1 =>
      match slotCheckNeeding s1 j1 (if kind = 1 then .wrapRoot else .use) n (kind == 1 || (kind == 0 && !j.owner))
          (fun h => if kind = 1 then h.cls == 4 else h.cls != 4) 0 0 with
      | some st => dropWith s1 j1 st
      | none => withMaterial s1 j1 n false fun s2 h =>
        if kind = 0 ∧ j.owner = true then dropWith s2 j1 S.E_SLOT_CLASS
        else if kind = 3 ∧ h.exportable = false then dropWith s2 j1 S.E_NOT_EXPORTABLE
        else
          let (st, wkey) := wrapKey s2 j1 kind ws 32
          if st ≠ S.OK then dropWith s2 j1 st
          else
            let blob := blobOf kind h wkey
            if out.len < blob.length then dropWith s2 j1 S.E_BAD_LENGTH
            else writeAndEnd s2 j1 out blob S.OK (leBytes 4 blob.length ++ zeros 4) false

/-- KEY_WRAP. -/
def execKeyWrap (o : Origin) (s : State) : Host.Outcome State Fault Refusal := .next (runCommand C.KEY_WRAP o s keyWrap)

/-- KEY_UNWRAP once its blob has been read: the checks of R167, then the write of the half. -/
def keyUnwrapRead (j : Job) (s : State) : State :=
  let o := j.ops
  let kind := u8 o 3
  let half := u8 o 2
  let blob := j.data.headD []
  if blobFormatOk blob kind = false then dropWith s j S.E_BLOB_FORMAT
  else
    let (st, wkey) := wrapKey s j kind (u16 o 4) 64
    if st ≠ S.OK then dropWith s j st
    else
      let (st2, mat) := openBlob blob wkey kind
      if st2 ≠ S.OK then dropWith s j st2
      else
        let cls := u8 blob 2 / 16
        let size := u8 blob 2 % 16
        if attrsSuit cls size (u8 blob 3) (u8 blob 4) = false ∨ cls = 4 then dropWith s j S.E_SLOT_CLASS
        else match j.target with
          | none => dropWith s j (listGet S.E_SLOT_STATE j.args 0)
          | some (n, _) =>
            match fitsCheck s n half cls size (u8 blob 3) (u8 blob 4) with
            | some st3 => dropWith s j st3
            | none =>
              let origin := if kind = 3 then 2 else u8 blob 5 / 4 % 4
              let version := if half = 1 then newVersion s n 1 else u16 blob 16
              storeKey s j (blobHalf blob mat (colourOf n j.owner j.tenant) origin version) fun s1 r => okJob s1 j r

/-- KEY_UNWRAP (R167): the target is chosen and reserved when the arbiter takes the order (R544). Of a target that cannot be
reserved the status waits, in `args`, until the blob has passed the checks that R167 puts first (DEDUCED, assumption 175). -/
def keyUnwrap (j : Job) (s : State) : State :=
  let o := j.ops
  let kind := u8 o 3
  if j.stage = 0 then
    if !zeroAt o 6 10 || u8 o 2 > 1 || !(kind == 0 || kind == 3) || (kind != 3 && u16 o 4 != 0xFFFF) then
      dropWith s j S.E_BAD_OPERAND
    else match refCheck s j (hostRef o 16) 0 maxLen with
      | some st => dropWith s j st
      | none => takeOrder s j (slotNames [u16 o 0, u16 o 4]) fun s1 j1 =>
        match (if u16 o 0 = 0xFFFF then none else accessCheck s1 j1 .target (u16 o 0)) with
        | some st => dropWith s1 j1 st
        | none =>
          match targetCheck s1 j1 (u16 o 0) (u8 o 2) with
          | some st => readOrEnd s1 { j1 with args := [st] } [hostRef o 16]
          | none =>
            let n := if u16 o 0 = 0xFFFF then (pickFree s1 j1).getD 0 else u16 o 0
            let (s2, j2) := reserve s1 j1 n (u8 o 2)
            readOrEnd s2 j2 [hostRef o 16]
  else keyUnwrapRead j s

/-- KEY_UNWRAP. -/
def execKeyUnwrap (o : Origin) (s : State) : Host.Outcome State Fault Refusal :=
  .next (runCommand C.KEY_UNWRAP o s keyUnwrap)

/-! ### KEY_IMPORT_PUBLIC -/

/-- KEY_IMPORT_PUBLIC. -/
def keyImportPublic (j : Job) (s : State) : State :=
  let o := j.ops
  let t := templateAt o 8
  let isPub := decide (t.cls ≥ 6 ∧ t.size ≥ 8 ∧ pubLen t.cls t.size ≠ 0)
  if j.stage = 0 then
    if genOperandsBad j t then dropWith s j S.E_BAD_OPERAND
    else match refCheck s j (hostRef o 16) (if isPub then pubLen t.cls t.size else 0)
        (if isPub then pubLen t.cls t.size else maxLen) with
      | some st => dropWith s j st
      | none => takeOrder s j (slotNames [u16 o 0]) fun s1 j1 =>
        withTarget s1 j1 (u16 o 0) (u8 o 2) t.cls t.size t.dest t.usage fun s2 j2 _ =>
          if isPub = false then dropWith s2 j2 S.E_SLOT_CLASS else readOrEnd s2 j2 [hostRef o 16]
  else
    let pub := j.data.headD []
    if Config.pubValid t.cls t.size pub = false then dropWith s j S.E_KEY_INVALID
    else
      let (n, half) := j.target.getD (0, 0)
      storeKey s j (halfOf t (colourOf n j.owner j.tenant) 2 (newVersion s n half) [] pub) fun s1 r => okJob s1 j r

/-- KEY_IMPORT_PUBLIC. -/
def execKeyImportPublic (o : Origin) (s : State) : Host.Outcome State Fault Refusal :=
  .next (runCommand C.KEY_IMPORT_PUBLIC o s keyImportPublic)

/-! ### KEY_PROVE -/

/-- Whether a later order has changed the slot since KEY_PROVE was bound to it: the key tested is no longer the pending one. -/
def proveMoved (s : State) (j : Job) (n : Nat) : Bool := j.names.any fun e => e.1 == n && e.2 != (s.slot n).changes

/-- KEY_PROVE reports its test of the pending half: superseded by an earlier order (R176); E_SLOT_STATE when a later order has
cleared or replaced the half meanwhile (DEDUCED, assumption 176). -/
def proveReport (s : State) (j : Job) (n : Nat) (k : State) : State :=
  commitOrder s j (if proveMoved s j n then dropWith s j S.E_SLOT_STATE else k)

/-- KEY_PROVE passes: PROVEN is set in the pending half (R168). -/
def provePass (s : State) (j : Job) (n st : Nat) (res : Bytes) : State :=
  proveReport s j n
    (let v := s.slot n
     let s1 := s.setSlot n { v with pending := v.pending.map (fun h => { h with proven := true }) }
     endJob (touched s1 n true j.code j.seq) j st res false)

/-- KEY_PROVE fails: the pending half is cleared (R168). -/
def proveFail (s : State) (j : Job) (n : Nat) : State :=
  proveReport s j n (dropWith (clearPending s n j.code j.seq) j S.E_PROVE_FAIL)

/-- The pairwise test of an asymmetric pending half ends on its arith engine (R172): the public key recomputed there is
compared with the public-key record delivered. -/
def proveRelease (s : State) (j : Job) (pub : Bytes) : State :=
  let n := u16 j.ops 0
  if pub = listGet [] j.keep 2 then
    let (st, s1) := arithOk s j
    provePass s1 j n st (zeros 8)
  else proveFail s j n

/-- Place the pairwise test of KEY_PROVE (R169, R172). -/
def provePlace (j : Job) (s : State) : State :=
  let cls := listGet 0 j.args 0
  let size := listGet 0 j.args 1
  placeArith s j 7 (cls, size) (keygenRandom cls size) false [u16 j.ops 0] []

/-- KEY_PROVE (R172). The pending half is the half named: its ACTIVE and, for a delivery to the arith engine, its DEST are
checked (R159). -/
def keyProve (j : Job) (s : State) : State :=
  let n := u16 j.ops 0
  let expect := slice j.ops 8 8
  if j.stage = 50 then provePlace j s
  else if !zeroAt j.ops 2 6 then dropWith s j S.E_BAD_OPERAND
  else takeOrder s j [n] fun s1 j1 =>
    match slotCheck s1 j1 .use n (fun _ => true) 0 0 with
    | some st => dropWith s1 j1 st
    | none => match (s1.slot n).pending with
      | none => dropWith s1 j1 S.E_SLOT_STATE
      | some p =>
        if p.act = false then dropWith s1 j1 S.E_SLOT_EMPTY
        else if p.cls ≥ 6 ∧ p.size < 8 ∧ !bitOf p.dest 1 then dropWith s1 j1 S.E_DEST_DENIED
        else withMaterial s1 j1 n true fun s2 h =>
          if h.cls ≤ 2 then
            if allZero expect ∨ expect = kcv h.material then provePass s2 j1 n S.OK (kcv h.material) else proveFail s2 j1 n
          else if h.size ≥ 8 then
            if Config.pubValid h.cls h.size h.pubKey = true ∧ (allZero expect ∨ expect = (sha384 h.pubKey).take 8) then
              provePass s2 j1 n S.OK (zeros 8)
            else proveFail s2 j1 n
          else provePlace { j1 with args := [h.cls, h.size], keep := [h.material, h.pubKey] } s2

/-- KEY_PROVE. -/
def execKeyProve (o : Origin) (s : State) : Host.Outcome State Fault Refusal := .next (runCommand C.KEY_PROVE o s keyProve)

/-! ### KEY_COMMIT, KEY_DISCARD -/

/-- The pointer flips: the pending half becomes active, the old half and its records are cleared (R173). -/
def flipSlot (s : State) (n code seq : Nat) (p : SlotHalf) : State :=
  let v := s.slot n
  let s1 := recordsFree s ((v.active.map halfRecords).getD [])
  touched (s1.setSlot n { v with active := some { p with proven := false }, pending := none, ptr := !v.ptr }) n false code seq

/-- KEY_COMMIT (R173): VERSION first, then PROVEN. -/
def keyCommit (j : Job) (s : State) : State :=
  let n := u16 j.ops 0
  if !zeroAt j.ops 4 4 then dropWith s j S.E_BAD_OPERAND
  else takeOrder s j [n] fun s1 j1 =>
    match slotCheck s1 j1 .use n (fun _ => true) 0 0 with
    | some st => dropWith s1 j1 st
    | none =>
      let v := s1.slot n
      match v.active with
      | none => dropWith s1 j1 S.E_SLOT_EMPTY
      | some a =>
        if a.version ≠ u16 j.ops 2 then supersede s1 j1 v.lastOrder
        else match v.pending with
          | none => dropWith s1 j1 S.E_SLOT_STATE
          | some p =>
            if p.proven = false then dropWith s1 j1 S.E_SLOT_STATE
            else
              let p' := { p with version := nextVersion a.version }
              okJob (flipSlot s1 n j1.code j1.seq p') j1 (leBytes 2 p'.version ++ zeros 6)

/-- KEY_COMMIT. -/
def execKeyCommit (o : Origin) (s : State) : Host.Outcome State Fault Refusal :=
  .next (runCommand C.KEY_COMMIT o s keyCommit)

/-- KEY_DISCARD (R168, R170). -/
def keyDiscard (j : Job) (s : State) : State :=
  let n := u16 j.ops 0
  if !zeroAt j.ops 2 6 then dropWith s j S.E_BAD_OPERAND
  else takeOrder s j [n] fun s1 j1 =>
    match slotCheck s1 j1 .use n (fun _ => true) 0 0 with
    | some st => dropWith s1 j1 st
    | none =>
      if (s1.slot n).pending.isNone then dropWith s1 j1 S.E_SLOT_STATE
      else okJob (clearPending s1 n j1.code j1.seq) j1 []

/-- KEY_DISCARD. -/
def execKeyDiscard (o : Origin) (s : State) : Host.Outcome State Fault Refusal :=
  .next (runCommand C.KEY_DISCARD o s keyDiscard)

/-! ### KEY_ATTR_READ, KEY_ATTR_SET, KEY_PUBLIC -/

/-- KEY_ATTR_READ: an EMPTY slot returns zero words. -/
def keyAttrRead (j : Job) (s : State) : State :=
  let n := u16 j.ops 0
  if !zeroAt j.ops 2 6 then dropWith s j S.E_BAD_OPERAND
  else takeOrder s j [n] fun s1 j1 =>
    if slotNamed s1 j.owner .attrRead n = false then dropWith s1 j1 S.E_SLOT_RANGE
    else if slotAccess s1 j.owner j.tenant .attrRead n = false then dropWith s1 j1 S.E_SLOT_ACCESS
    else okJob s1 j1 (leBytes 8 (activeWord s1 n) ++ leBytes 8 (pendingWord s1 n))

/-- KEY_ATTR_READ. -/
def execKeyAttrRead (o : Origin) (s : State) : Host.Outcome State Fault Refusal :=
  .next (runCommand C.KEY_ATTR_READ o s keyAttrRead)

/-- The bits of `a` that are not in `b`. -/
def clearBits (a b : Nat) : Nat := a - (a &&& b)

/-- Attributes narrowed as KEY_ATTR_SET asks (R147). -/
def narrowed (o : Bytes) (h : SlotHalf) : SlotHalf :=
  { h with dest := clearBits h.dest (u8 o 2), usage := clearBits h.usage (u8 o 3),
           exportable := h.exportable && !bitOf (u8 o 4) 0, locked := h.locked || bitOf (u8 o 4) 1 }

/-- KEY_ATTR_SET (R147). -/
def keyAttrSet (j : Job) (s : State) : State :=
  let n := u16 j.ops 0
  if !zeroAt j.ops 5 3 || u8 j.ops 4 / 4 != 0 then dropWith s j S.E_BAD_OPERAND
  else takeOrder s j [n] fun s1 j1 =>
    match slotCheck s1 j1 .use n (fun _ => true) 0 0 with
    | some st => dropWith s1 j1 st
    | none =>
      let v := s1.slot n
      match v.active with
      | none => dropWith s1 j1 S.E_SLOT_EMPTY
      | some h =>
        if h.locked then dropWith s1 j1 S.E_SLOT_LOCKED
        else if v.pending.isSome then dropWith s1 j1 S.E_SLOT_STATE
        else
          let s2 := touched (s1.setSlot n { v with active := some (narrowed j.ops h) }) n false j1.code j1.seq
          okJob s2 j1 (leBytes 8 (activeWord s2 n))

/-- KEY_ATTR_SET. -/
def execKeyAttrSet (o : Origin) (s : State) : Host.Outcome State Fault Refusal :=
  .next (runCommand C.KEY_ATTR_SET o s keyAttrSet)

/-- KEY_PUBLIC (R149): the public encoding of the half read. -/
def keyPublic (j : Job) (s : State) : State :=
  let n := u16 j.ops 0
  let half := u8 j.ops 2
  let out := hostRef j.ops 16
  if !zeroAt j.ops 3 13 || half > 1 then dropWith s j S.E_BAD_OPERAND
  else match refCheck s j out 0 maxLen with
    | some st => dropWith s j st
    | none => takeOrder s j [n] fun s1 j1 =>
      match accessCheck s1 j1 .keyPublic n with
      | some st => dropWith s1 j1 st
      | none => match (if half = 0 then activeHalf s1 n else (s1.slot n).pending) with
        | none => dropWith s1 j1 S.E_SLOT_EMPTY
        | some h =>
          if h.cls < 6 then dropWith s1 j1 S.E_SLOT_CLASS
          else withPublic s1 j1 n (half == 1) fun h' =>
            if out.len < h'.pubKey.length then dropWith s1 j1 S.E_BAD_LENGTH
            else writeAndEnd s1 j1 out h'.pubKey S.OK (leBytes 4 h'.pubKey.length ++ leBytes 2 h'.version ++ zeros 2) false

/-- KEY_PUBLIC. -/
def execKeyPublic (o : Origin) (s : State) : Host.Outcome State Fault Refusal :=
  .next (runCommand C.KEY_PUBLIC o s keyPublic)

/-! ### Revoke -/

/-- An engine that holds a revoked key stops at its next boundary (R161, R231): the key is cleared and the job ends with
E_SUPERSEDED. -/
def revokeStop (s : State) (o : Origin) : State :=
  match s.job? o with
  | none => s
  | some j => match j.revokedBy with
    | none => s
    | some by_ => supersede s j by_

/-- An engine stops a revoked job (R161). -/
def execEngineRevokeStop (o : Origin) (s : State) : Host.Outcome State Fault Refusal := .next (revokeStop s o)

end Sys2Proof.Machine
end

