-- ==== Sys2Proof/Machine/Arith.lean ====
section
/-! DEFINITION. The arith commands (08): SIGN, SIG_VERIFY, DERIVE_SHARED, ENCAPS, DECAPS, ARI_READMIT, ARI_QUARANTINE,
and the events of an arith engine. -/

namespace Sys2Proof.Machine

/-! ### Schemes and buffers -/

/-- CLASS of the keys a SCHEME takes (R214); 0 for a value not listed. -/
def schemeClass (sc : Nat) : Nat := [0, 6, 6, 7, 9, 9, 10, 10].getD sc 0

/-- Whether a key's CLASS and SIZE suit a SCHEME (R214). -/
def schemeSuits (sc cls size : Nat) : Bool :=
  let z := size % 8
  schemeClass sc == cls && cls != 0 && (if sc = 1 then z == 0 else if sc = 2 then z == 1 else matLen cls z != 0)

/-- The prehash length of a SCHEME (R214). -/
def prehashLen (sc : Nat) : Nat := [0, 48, 64, 64, 48, 48, 0, 64].getD sc 0

/-- Signature bytes of a SCHEME and key size (R214). -/
def sigLen (sc size : Nat) : Nat :=
  if sc = 1 then 96 else if sc = 2 then 132 else if sc = 3 then 114
  else if sc = 4 ∨ sc = 5 then (if size % 8 = 0 then 384 else 512) else 4627

/-- Whether SCHEME, FLAGS and CTX_LEN take values the scheme allows (R214, R223). -/
def schemeFlagsOk (sc flags ctxLen : Nat) : Bool :=
  schemeClass sc != 0 && flags ≤ 1 && (ctxLen == 0 || sc == 3 || sc ≥ 6) && !(sc == 6 && flags == 1) && !(sc == 7 && flags == 0)

/-- The length range of MSG (R223). -/
def msgRange (sc flags : Nat) : Nat × Nat := if flags = 1 then (prehashLen sc, prehashLen sc) else (0, 16777216)

/-- Whether a host reference is all zero. -/
def refZero (ops : Bytes) (off : Nat) : Bool := zeroAt ops off 16

/-- Whether two buffers share a byte in the same port's space (R106). -/
def buffersMeet (a b : HostRef) : Bool :=
  a.port == b.port && a.len != 0 && b.len != 0 && decide (a.addr < b.addr + b.len) && decide (b.addr < a.addr + a.len)

/-- The host reads of MSG: Ed448 reads it twice when it hashes it itself (R214). -/
def msgReads (sc flags : Nat) (r : HostRef) : List HostRef := if sc = 3 ∧ flags = 0 then [r, r] else [r]

/-! ### SIGN -/

/-- Random input of a signature (R217). -/
def signRandom (sc : Nat) : Nat := [0, 56, 74, 0, 48, 0, 32, 32].getD sc 0

/-- The checks of SIGN (R223). -/
def signCheck (s : State) (j : Job) : Option Nat :=
  let o := j.ops
  let sc := u8 o 2
  let (lo, hi) := msgRange sc (u8 o 3)
  let size := ((s.slot (u16 o 0)).active.map (·.size)).getD 0
  firstFail [failIf (!schemeFlagsOk sc (u8 o 3) (u8 o 4) || !zeroAt o 5 11) S.E_BAD_OPERAND,
    refCheck s j (hostRef o 16) lo hi, refCheck s j (hostRef o 32) (sigLen sc size) maxLen,
    failIf (buffersMeet (hostRef o 16) (hostRef o 32)) S.E_OVERLAP,
    slotCheck s j .use (u16 o 0) (fun h => schemeSuits sc h.cls h.size && h.size < 8) 2 4]

/-- Place a SIGN job; `args` holds VERSION and SIZE of the key bound at the arbiter (R171, R217). -/
def signPlace (j : Job) (s : State) : State :=
  let o := j.ops
  let sc := u8 o 2
  placeArith s j 1 (schemeClass sc, listGet 0 j.args 1 % 8) (signRandom sc) false [u16 o 0]
    (msgReads sc (u8 o 3) (hostRef o 16))

/-- A signature's inputs from a command's operands and the half delivered. -/
def signReq (sc size : Nat) (pre : Bool) (h : SlotHalf) (ctx msg : Bytes) : ArithReq :=
  { op := 1, sign := some { scheme := sc, size := size, prehash := pre, priv := h.material, pub := h.pubKey, ctx := ctx, msg := msg } }

/-- SIGN (R214). -/
def signCmd (j : Job) (s : State) : State :=
  let o := j.ops
  let n := u16 o 0
  if j.stage = 50 then signPlace j s
  else takeOrder s j [n] fun s1 j1 =>
    checked (signCheck s1 j1) j1 s1 (withMaterial s1 j1 n false fun s2 h =>
      signPlace { j1 with args := [h.version, h.size],
                          arith := some (signReq (u8 o 2) h.size (u8 o 3 == 1) h (slice o 48 (u8 o 4)) []) } s2)

/-- SIGN. -/
def execSign (o : Origin) (s : State) : Host.Outcome State Fault Refusal := .next (runCommand C.SIGN o s signCmd)

/-- A signature's bytes. -/
def signature (sc size : Nat) (pre : Bool) (priv ctx msg rnd : Bytes) : Bytes :=
  (List.range (sigLen sc size)).map (Config.sign sc pre priv ctx msg rnd)

/-- ML-DSA signing iterations; 0 for the other schemes. -/
def iterations (sc : Nat) (priv ctx msg rnd : Bytes) : Nat :=
  if sc ≥ 6 then Config.signIterations priv ctx msg rnd else 0

/-- SIGN ends: the signature goes to OUT. -/
def signRelease (s : State) (j : Job) (its : Nat) (sig : Bytes) : State :=
  let (st, s1) := arithOk s j
  writeAndEnd s1 j (hostRef j.ops 32) sig st (leBytes 4 sig.length ++ leBytes 2 (listGet 0 j.args 0) ++ leBytes 1 its ++ zeros 1) true

/-! ### SIG_VERIFY -/

/-- The checks of SIG_VERIFY that need no host read (R223). -/
def verifyCheck (s : State) (j : Job) : Option Nat :=
  let o := j.ops
  let sc := u8 o 2
  let named := u16 o 0 != 0xFFFF
  let size := if named then ((s.slot (u16 o 0)).active.map (·.size)).getD 0 else u8 o 5 % 16
  let pl := pubLen (u8 o 5 / 16) (u8 o 5 % 16)
  let (lo, hi) := msgRange sc (u8 o 3)
  firstFail [failIf (!schemeFlagsOk sc (u8 o 3) (u8 o 4) || !zeroAt o 6 10 || (named && (u8 o 5 != 0 || !refZero o 48))) S.E_BAD_OPERAND,
    refCheck s j (hostRef o 16) lo hi, refCheck s j (hostRef o 32) (sigLen sc size) (sigLen sc size),
    if named then none else refCheck s j (hostRef o 48) (if pl = 0 then 0 else pl) (if pl = 0 then maxLen else pl),
    if named then slotCheck s j .use (u16 o 0) (fun h => schemeSuits sc h.cls h.size) 2 8
    else failIf (!schemeSuits sc (u8 o 5 / 16) (u8 o 5 % 16) || u8 o 5 % 16 < 8) S.E_SCHEME]

/-- Place a SIG_VERIFY job: MSG, then SIG are read. -/
def verifyPlace (j : Job) (s : State) : State :=
  let o := j.ops
  let sc := u8 o 2
  placeArith s j 2 (schemeClass sc, listGet 0 j.args 1 % 8) 0 false (if u16 o 0 = 0xFFFF then [] else [u16 o 0])
    (msgReads sc (u8 o 3) (hostRef o 16) ++ [hostRef o 32])

/-- SIG_VERIFY. With KEY_SLOT 0xFFFF the public key is read and checked first. -/
def sigVerify (j : Job) (s : State) : State :=
  let o := j.ops
  let n := u16 o 0
  if j.stage = 50 then verifyPlace j s
  else if j.stage = 0 then
    takeOrder s j (slotNames [n]) fun s1 j1 =>
      checked (verifyCheck s1 j1) j1 s1
        (if n = 0xFFFF then readOrEnd s1 { j1 with args := [0, u8 o 5 % 16] } [hostRef o 48]
         else withPublic s1 j1 n false fun h => verifyPlace { j1 with args := [h.version, h.size], keep := [h.pubKey] } s1)
  else
    let pub := j.data.headD []
    if Config.pubValid (u8 o 5 / 16) (u8 o 5 % 16) pub = false then dropWith s j S.E_KEY_INVALID
    else verifyPlace { j with keep := [pub], data := [] } s

/-- SIG_VERIFY. -/
def execSigVerify (o : Origin) (s : State) : Host.Outcome State Fault Refusal :=
  .next (runCommand C.SIG_VERIFY o s sigVerify)

/-- Whether the signature that SIG_VERIFY read is valid. -/
def verifyDecision (j : Job) : Bool :=
  let o := j.ops
  Config.verify (u8 o 2) (u8 o 3 == 1) (listGet [] j.keep 1) (slice o 64 (u8 o 4)) (j.data.headD []) (j.data.getLastD [])

/-- SIG_VERIFY ends with OK or E_SIG_INVALID. -/
def verifyRelease (s : State) (j : Job) (ok : Bool) : State :=
  let (st, s1) := arithOk s j
  endJob s1 j (if ok then st else S.E_SIG_INVALID) [] true

/-! ### Key agreement and encapsulation -/

/-- The vault half of an agreement (OUT_KIND 1): AES or SECRET of a size the output allows. -/
def agreeTemplateOk (t : Template) (maxBytes : Nat) : Bool :=
  (t.cls == 1 || t.cls == 2) && privLen t.cls t.size != 0 && decide (privLen t.cls t.size ≤ maxBytes)

/-- Check and reserve the target of OUT_KIND 1 (R223, last row), then go on; OUT_KIND 0 goes on at once. -/
def agreeTarget (s : State) (j : Job) (kind maxBytes : Nat) (k : State → Job → State) : State :=
  let t := templateAt j.ops 8
  if kind = 0 then k s j
  else withTarget s j (u16 j.ops 4) (u8 j.ops 6) t.cls t.size t.dest t.usage fun s1 j1 _ =>
    if agreeTemplateOk t maxBytes then k s1 j1 else dropWith s1 j1 S.E_SLOT_CLASS

/-- Store a derived key that returned to the vault (ORIGIN DERIVED), or answer the secret (OUT_KIND 0). -/
def agreeRelease (s : State) (j : Job) (kind : Nat) (expKey : Bool) (secret stored : Bytes) (appr : Bool) : State :=
  let (st, s1) := arithOk s j
  if kind = 0 then endJob s1 j st secret appr
  else
    let t := templateAt j.ops 8
    let (n, half) := j.target.getD (0, 0)
    let h := halfOf { t with exportable := t.exportable && expKey } (colourOf n j.owner j.tenant) 1 (newVersion s1 n half) stored []
    storeKey s1 j h fun s2 r => endJob s2 j st r appr

/-- Operands of DERIVE_SHARED that must be 0 or in range (R223). -/
def sharedOperandsBad (o : Bytes) : Bool :=
  let t := templateAt o 8
  u8 o 2 > 1 || u8 o 3 > 64 || u8 o 6 > 1 || !zeroAt o 7 1 || !t.rsvdOk || !zeroAt o (32 + u8 o 3) (64 - u8 o 3) ||
    (u8 o 2 == 0 && !(zeroAt o 3 13 && zeroAt o 32 64))

/-- Peer-key length of a CLASS and SIZE (R215). -/
def peerLen (cls size : Nat) : Nat := if cls = 6 ∧ size = 0 then 96 else if cls = 6 then 132 else 56

/-- Length of Z (R215). -/
def zLen (cls size : Nat) : Nat := if cls = 6 ∧ size = 0 then 48 else if cls = 6 then 66 else 56

/-- The key slot's checks of DERIVE_SHARED. -/
def sharedCheck (s : State) (j : Job) : Option Nat :=
  let o := j.ops
  let (cls, size) := match (s.slot (u16 o 0)).active with | some h => (h.cls, h.size % 8) | none => (0, 0)
  let known := cls == 6 || cls == 8
  firstFail [failIf (sharedOperandsBad o) S.E_BAD_OPERAND,
    refCheck s j (hostRef o 16) (if known then peerLen cls size else 0) (if known then peerLen cls size else maxLen),
    slotCheck s j .use (u16 o 0) (fun h => (h.cls == 6 || h.cls == 8) && h.size < 8) 2 16]

/-- Place DERIVE_SHARED: `args` VERSION, CLASS, SIZE, EXPORTABLE; `keep` the private key. -/
def sharedPlace (j : Job) (s : State) : State :=
  placeArith s j 4 (listGet 0 j.args 1, listGet 0 j.args 2) 0 (u8 j.ops 2 == 1) [u16 j.ops 0] [hostRef j.ops 16]

/-- DERIVE_SHARED (R215, R224). -/
def deriveShared (j : Job) (s : State) : State :=
  let n := u16 j.ops 0
  if j.stage = 50 then sharedPlace j s
  else takeOrder s j (slotNames (n :: (if u8 j.ops 2 = 1 then [u16 j.ops 4] else []))) fun s1 j1 =>
    checked (sharedCheck s1 j1) j1 s1 (withMaterial s1 j1 n false fun sm h =>
      agreeTarget sm j1 (u8 j.ops 2) 64 fun s2 j2 =>
        sharedPlace { j2 with args := [h.version, h.cls, h.size, b2n h.exportable], keep := [h.material] } s2)

/-- DERIVE_SHARED. -/
def execDeriveShared (o : Origin) (s : State) : Host.Outcome State Fault Refusal :=
  .next (runCommand C.DERIVE_SHARED o s deriveShared)

/-- Whether the peer's key passes R224. -/
def sharedOk (j : Job) : Bool := Config.sharedValid (listGet 0 j.args 1) (listGet 0 j.args 2) (listGet [] j.keep 1) (j.data.headD [])

/-- The shared secret Z. -/
def sharedSecret (j : Job) : Bytes :=
  let cls := listGet 0 j.args 1
  let size := listGet 0 j.args 2
  (List.range (zLen cls size)).map (Config.shared cls size (listGet [] j.keep 1) (j.data.headD []))

/-- The key that DERIVE_SHARED stores, by the one-step KDF of SP 800-56C (R224). -/
def sharedKey (j : Job) (z : Bytes) : Bytes :=
  let t := templateAt j.ops 8
  (sha512 (beBytes 4 1 ++ z ++ slice j.ops 32 (u8 j.ops 3))).take (privLen t.cls t.size)

/-- DERIVE_SHARED ends (R224): Z, or the key stored. X448 is not approved (R215). -/
def sharedRelease (s : State) (j : Job) (z stored : Bytes) : State :=
  agreeRelease s j (u8 j.ops 2) (listGet 0 j.args 3 == 1) z stored (listGet 0 j.args 1 == 6)

/-- Operands of ENCAPS that must be 0 or in range (R223). -/
def encapsOperandsBad (o : Bytes) : Bool :=
  let t := templateAt o 8
  let named := u16 o 0 != 0xFFFF
  u8 o 2 > 1 || u8 o 6 > 1 || !zeroAt o 7 1 || !t.rsvdOk || !zeroAt o 48 16 || (named && (u8 o 3 != 0 || !refZero o 16)) ||
    (u8 o 2 == 0 && !(zeroAt o 4 12))

/-- The checks of ENCAPS that need no host read (R223). -/
def encapsCheck (s : State) (j : Job) : Option Nat :=
  let o := j.ops
  let named := u16 o 0 != 0xFFFF
  firstFail [failIf (encapsOperandsBad o) S.E_BAD_OPERAND,
    if named then none else refCheck s j (hostRef o 16) 1568 1568, refCheck s j (hostRef o 32) 1568 maxLen,
    failIf (!named && buffersMeet (hostRef o 16) (hostRef o 32)) S.E_OVERLAP,
    if named then slotCheck s j .use (u16 o 0) (fun h => h.cls == 11) 2 1 else failIf (u8 o 3 != 0xB8) S.E_SCHEME]

/-- Place ENCAPS with its message m drawn; `keep` holds ek. -/
def encapsPlace (j : Job) (s : State) : State :=
  placeArith s j 5 (11, 0) 32 (u8 j.ops 2 == 1) (if u16 j.ops 0 = 0xFFFF then [] else [u16 j.ops 0]) []

/-- The target of OUT_KIND 1 while the peer's key is still to be read: it is reserved when the arbiter takes the order (R544); the
status of one that cannot be reserved waits, in `args`, until the checks that R223 puts first have passed (DEDUCED, assumption
175). -/
def encapsReserve (s : State) (j : Job) : State × Job :=
  let n := u16 j.ops 4
  if u8 j.ops 2 = 0 then (s, j)
  else match targetCheck s j n (u8 j.ops 6) with
    | some st => (s, { j with args := [st] })
    | none => reserve s j (if n = 0xFFFF then (pickFree s j).getD 0 else n) (u8 j.ops 6)

/-- ENCAPS with its encapsulation key read: the checks of the key, then of the target (R223). -/
def encapsRead (j : Job) (s : State) : State :=
  let o := j.ops
  let t := templateAt o 8
  let pub := j.data.headD []
  if Config.pubValid 11 8 pub = false then dropWith s j S.E_KEY_INVALID
  else
    let go := encapsPlace { j with keep := [pub], data := [] } s
    if u8 o 2 = 0 then go
    else match j.target with
      | none => dropWith s j (listGet S.E_SLOT_STATE j.args 0)
      | some (n, half) => match fitsCheck s n half t.cls t.size t.dest t.usage with
        | some st => dropWith s j st
        | none => if agreeTemplateOk t 32 then go else dropWith s j S.E_SLOT_CLASS

/-- ENCAPS (R215). -/
def encaps (j : Job) (s : State) : State :=
  let o := j.ops
  let n := u16 o 0
  let names := slotNames (n :: (if u8 o 2 = 1 then [u16 o 4] else []))
  if j.stage = 50 then encapsPlace j s
  else if j.stage = 0 then
    takeOrder s j names fun s1 j1 =>
      checked (encapsCheck s1 j1) j1 s1
        (if n = 0xFFFF then
           let (s2, j2) := encapsReserve s1 j1
           readOrEnd s2 j2 [hostRef o 16]
         else withPublic s1 j1 n false fun h =>
           agreeTarget s1 j1 (u8 o 2) 32 fun s2 j2 => encapsPlace { j2 with keep := [h.pubKey] } s2)
  else encapsRead j s

/-- ENCAPS. -/
def execEncaps (o : Origin) (s : State) : Host.Outcome State Fault Refusal := .next (runCommand C.ENCAPS o s encaps)

/-- The ciphertext and the key K of ENCAPS. -/
def encapsOut (j : Job) : Bytes × Bytes :=
  let ek := listGet [] j.keep 1
  ((List.range 1568).map (Config.kemCipher ek (rndOf j)), (List.range 32).map (Config.kemKey ek (rndOf j)))

/-- ENCAPS ends: the ciphertext goes to CT_OUT, K to the result or the vault. -/
def encapsRelease (s : State) (j : Job) (ct k stored : Bytes) : State :=
  match hostWrite s j (hostRef j.ops 32) 0 ct true with
  | none => dropWith (noteBlocked s (dmaBind s j (hostRef j.ops 32).port)) j S.E_HOST_DMA
  | some (s1, j1) => agreeRelease (s1.setJob j1) j1 (u8 j.ops 2) true k stored true

/-- The checks of DECAPS (R223). -/
def decapsCheck (s : State) (j : Job) : Option Nat :=
  let o := j.ops
  let t := templateAt o 8
  firstFail [failIf (u8 o 2 > 1 || u8 o 6 > 1 || !zeroAt o 3 1 || !zeroAt o 7 1 || !t.rsvdOk || !zeroAt o 32 16 ||
      (u8 o 2 == 0 && !(zeroAt o 4 12))) S.E_BAD_OPERAND,
    refCheck s j (hostRef o 16) 1568 1568,
    slotCheck s j .use (u16 o 0) (fun h => h.cls == 11 && h.size < 8) 2 2]

/-- Place DECAPS; `args` EXPORTABLE, `keep` the private key. -/
def decapsPlace (j : Job) (s : State) : State :=
  placeArith s j 6 (11, 0) 0 (u8 j.ops 2 == 1) [u16 j.ops 0] [hostRef j.ops 16]

/-- DECAPS (R225). -/
def decaps (j : Job) (s : State) : State :=
  let n := u16 j.ops 0
  if j.stage = 50 then decapsPlace j s
  else takeOrder s j (slotNames (n :: (if u8 j.ops 2 = 1 then [u16 j.ops 4] else []))) fun s1 j1 =>
    checked (decapsCheck s1 j1) j1 s1 (withMaterial s1 j1 n false fun sm h =>
      agreeTarget sm j1 (u8 j.ops 2) 32 fun s2 j2 =>
        decapsPlace { j2 with args := [b2n h.exportable], keep := [h.material] } s2)

/-- DECAPS. -/
def execDecaps (o : Origin) (s : State) : Host.Outcome State Fault Refusal := .next (runCommand C.DECAPS o s decaps)

/-- The key that DECAPS gives, whichever FIPS 203 makes it (R225). -/
def decapsKey (j : Job) : Bytes := (List.range 32).map (Config.kemDecaps (listGet [] j.keep 1) (j.data.headD []))

/-- DECAPS ends with OK (R225). -/
def decapsRelease (s : State) (j : Job) (k stored : Bytes) : State := agreeRelease s j (u8 j.ops 2) true k stored true

/-! ### Engine events -/

/-- After 1,048,576 consecutive jobs without an invariant failure the strikes return to 0 (R228). -/
def invStrikesClear (s : State) (n : Nat) : State :=
  let e := s.aeng n
  if n < 24 ∧ e.goodJobs ≥ 1048576 then s.setAeng n { e with invStrikes := 0, goodJobs := 0 } else s

/-- INV_STRIKES returns to 0 (R228). -/
def execInvStrikesClear (n : Nat) (s : State) : Host.Outcome State Fault Refusal := .next (invStrikesClear s n)

/-- The causes of an engine fault that are no watchdog (R233); 0x09 is an access outside the operand slot named (R211). -/
def arithCause (c : Nat) : Bool := [0x04, 0x06, 0x08, 0x09].contains c

/-- An engine fault (R233). -/
def arithEngineFault (s : State) (n cause : Nat) : State :=
  if n < 24 ∧ arithCause cause = true then arithFault s n cause else s

/-- An arith engine fault (R233). -/
def execArithEngineFault (n cause : Nat) (s : State) : Host.Outcome State Fault Refusal :=
  .next (arithEngineFault s n cause)

/-- The watchdog of an arith engine expires (R233). -/
def arithWatchdog (s : State) (n : Nat) : State :=
  if n < 24 ∧ (s.aeng n).work.isSome then arithFault (timerTaken s 12) n 0x05 else s

/-- No sequencer step for 16 µs (R233). -/
def execArithWatchdog (n : Nat) (s : State) : Host.Outcome State Fault Refusal := .next (arithWatchdog s n)

/-- Entry to IN_SERVICE clears the strikes (R228). -/
def arithServe (e : ArithEngine) : ArithEngine := { e with state := .inService, invStrikes := 0, goodJobs := 0 }

/-- The result bytes of a readmission. -/
def readmitResult (st fails tests : Nat) : Bytes := leBytes 1 st ++ leBytes 1 fails ++ leBytes 2 tests ++ zeros 4

/-- The readmission tests of an engine end (R129, R235); `failed` are the FAILED_TESTS bits. -/
def ariTestDone (s : State) (n failed : Nat) : State :=
  let e := s.aeng n
  if n ≥ 24 ∨ e.state ≠ .testing ∨ failed ≥ 1024 then s
  else
    let e' := if failed = 0 then arithServe (wiped e)
      else { wiped e with readmitFails := e.readmitFails + 1, lastCause := 0x11
                          state := if e.readmitFails + 1 ≥ 3 then .retired else .quarantined }
    let s1 := s.setAeng n e'
    let s2 := if e'.state = .retired then recordEvent s1 0x8D02 n 0x11 4 else s1
    match engineWaiter s2 C.ARI_READMIT n .engineTest with
    | some j => endJob s2 j (if failed = 0 then S.OK else S.E_ARI_KAT_FAIL) (readmitResult e'.state.num e'.readmitFails failed) false
    | none => s2

/-- An arith engine's readmission tests end (R235). -/
def execAriTestDone (n failed : Nat) (s : State) : Host.Outcome State Fault Refusal := .next (ariTestDone s n failed)

/-- ARI_READMIT (R234). -/
def ariReadmit (j : Job) (s : State) : State :=
  let n := u8 j.ops 0
  if !zeroAt j.ops 1 7 || n ≥ 24 then dropWith s j S.E_BAD_OPERAND
  else if (s.aeng n).state ≠ .quarantined then dropWith s j S.E_ARI_ENGINE_STATE
  else (s.setAeng n { wiped (s.aeng n) with state := .testing }).setJob { j with phase := .engineTest, args := [n] }

/-- ARI_READMIT. -/
def execAriReadmit (o : Origin) (s : State) : Host.Outcome State Fault Refusal :=
  .next (runCommand C.ARI_READMIT o s ariReadmit)

/-- A DRAINING engine whose last job has ended becomes QUARANTINED (R234); a waiting ARI_QUARANTINE ends. LAST_CAUSE
becomes 0x20. -/
def ariDrained (s : State) (n : Nat) : State :=
  let e := s.aeng n
  if n ≥ 24 ∨ e.state ≠ .draining ∨ e.work ≠ none then s
  else
    let s1 := recordEvent (s.setAeng n { e with state := .quarantined, lastCause := 0x20 }) 0x8D02 n 0x20 2
    match engineWaiter s1 C.ARI_QUARANTINE n .quiesce with
    | some j => okJob s1 j []
    | none => s1

/-- The last job of a DRAINING engine has ended (R234). -/
def execAriDrained (n : Nat) (s : State) : Host.Outcome State Fault Refusal := .next (ariDrained s n)

/-- ARI_QUARANTINE (R234): commit point, the entry to DRAINING. -/
def ariQuarantine (j : Job) (s : State) : State :=
  let n := u8 j.ops 0
  if !zeroAt j.ops 1 7 || n ≥ 24 then dropWith s j S.E_BAD_OPERAND
  else if (s.aeng n).state ≠ .inService then dropWith s j S.E_ARI_ENGINE_STATE
  else (s.setAeng n { s.aeng n with state := .draining }).setJob { j with phase := .quiesce, committed := true, args := [n] }

/-- ARI_QUARANTINE. -/
def execAriQuarantine (o : Origin) (s : State) : Host.Outcome State Fault Refusal :=
  .next (runCommand C.ARI_QUARANTINE o s ariQuarantine)

end Sys2Proof.Machine
end

