-- ==== Sys2Proof/Machine/Digest.lean ====
section
/-! DEFINITION. Digest units and measurement registers (05 R132 to R143): DIGEST_MAC, MEAS_READ, MEAS_EXTEND,
MEAS_LOG_READ, DGT_MR_SEL and the events of a digest unit. -/

namespace Sys2Proof.Machine

/-! ### Measurement registers -/

/-- Both banks of a register; an unlisted one is zero (R137). -/
def bank384 (m : MeasReg) : Bytes := fit 48 m.sha384
def bank3 (m : MeasReg) : Bytes := fit 64 m.sha3

/-- The source that may extend a register (R140). -/
def mrSource (i : Nat) : Nat := if i < 4 then 0 else if i < 8 then 1 else if i < 24 then 2 else if i < 28 then 4 else 3

/-- An extend from its own source (R138, R141, R142): both banks and the count in one step, the next sequence number,
a log entry while there is room. -/
def extendNow (s : State) (i eventType : Nat) (trunc : Bool) (d384 d512 : Bytes) : State :=
  let m := s.mr i
  let m' : MeasReg := { sha384 := sha384 (bank384 m ++ d384), sha3 := sha3_512 (bank3 m ++ d512), count := m.count + 1 }
  let s1 := crossing s 0x0A 0 (mrSource i) 1
  let e : MeasLogEntry := { index := i, source := mrSource i, trunc := trunc, seq := s.measNext, eventType := eventType,
                            d384 := d384, d512 := d512 }
  let full := decide (s.measLog.length ≥ 1024)
  { s1 with meas := s1.meas.put {} i m', measNext := s.measNext + 1, measOverflow := s.measOverflow || full,
            measLog := if full then s.measLog else s.measLog ++ [e] }

/-- An extend by an internal source over its own input stream; from any other source it is a fault, recorded as an
event (R140). -/
def extendFrom (s : State) (src i eventType : Nat) (trunc : Bool) (stream : Bytes) : State :=
  if mrSource i = src ∧ i < 32 then extendNow s i eventType trunc (sha384 stream) (sha3_512 stream)
  else recordEvent s 0x8D08 i src 0

/-! ### Declared lengths (R132, R133) -/

/-- The result of a digest job on a standalone unit: SHORT, or the bytes counted to DECL_LEN with TRUNC. -/
inductive UnitResult
  | short
  | done (bytes : Bytes) (trunc : Bool)
  deriving DecidableEq, Repr

/-- The result of a job of a declared length over the bytes that its feeder offers. -/
def unitResult (declLen : Nat) (offered : Bytes) : UnitResult :=
  if offered.length < declLen then .short else .done (offered.take declLen) (decide (declLen < offered.length))

/-- A feeder's input for an extend: SHORT makes none and is counted; TRUNC is counted, with the bytes offered (R133, R139). -/
def extendFed (s : State) (src i eventType declLen : Nat) (offered : Bytes) : State :=
  match unitResult declLen offered with
  | .short => s.incRegField R.DGT_TRUNC_COUNT 31 0
  | .done bs trunc =>
    let s1 := if trunc then { s with truncOffered := offered.length }.incRegField R.DGT_TRUNC_COUNT 63 32 else s
    extendFrom s1 src i eventType trunc bs

/-- MEAS_READ (R138). -/
def measRead (j : Job) (s : State) : State :=
  let i := u8 j.ops 0
  if !zeroAt j.ops 1 7 || i ≥ 32 then dropWith s j S.E_BAD_OPERAND
  else
    let m := s.mr i
    okJob s j (bank3 m ++ bank384 m ++ leBytes 4 m.count ++ zeros 12)

/-- MEAS_READ. -/
def execMeasRead (o : Origin) (s : State) : Host.Outcome State Fault Refusal := .next (runCommand C.MEAS_READ o s measRead)

/-- A log entry's 128 bytes (R142). -/
def logEntryBytes (e : MeasLogEntry) : Bytes :=
  leBytes 1 e.index ++ zeros 3 ++ leBytes 1 e.source ++ leBytes 1 (b2n e.trunc) ++ zeros 2 ++ leBytes 4 e.seq
    ++ leBytes 4 e.eventType ++ fit 48 e.d384 ++ fit 64 e.d512

/-- MEAS_LOG_READ (R142). -/
def measLogRead (j : Job) (s : State) : State :=
  let o := j.ops
  let start := u32 o 0
  let count := u16 o 4
  let out := hostRef o 16
  let stored := s.measLog.length
  match firstFail [failIf (!zeroAt o 6 10 || count == 0 || count > 1024) S.E_BAD_OPERAND, refCheck s j out (128 * count) maxLen,
      failIf (start ≥ stored) S.E_MEAS_LOG_RANGE] with
  | some st => dropWith s j st
  | none =>
    let es := (s.measLog.drop start).take count
    writeAndEnd s j out (es.map logEntryBytes).flatten S.OK
      (leBytes 2 es.length ++ leBytes 2 stored ++ leBytes 4 s.measNext ++ leBytes 1 (b2n s.measOverflow) ++ zeros 7) false

/-- MEAS_LOG_READ. -/
def execMeasLogRead (o : Origin) (s : State) : Host.Outcome State Fault Refusal :=
  .next (runCommand C.MEAS_LOG_READ o s measLogRead)

/-- A write to DGT_MR_SEL latches a snapshot of the selected register and bank (R143). -/
def mrSelWrite (s : State) (v : Nat) : State :=
  let m := s.mr (v % 32)
  let bank := if v.testBit 5 then bank3 m else bank384 m ++ zeros 16
  let s1 := s.setReg R.DGT_MR_SEL (v % 64)
  let s2 := (List.range 8).foldl (fun t k => t.setReg (R.DGT_MR_WORD_k + 8 * k) (u64 bank (8 * k))) s1
  s2.setReg R.DGT_MR_INFO (m.count % 2 ^ 32)

/-- Host software writes DGT_MR_SEL (R143). -/
def execDgtMrSelWrite (v : Nat) (s : State) : Host.Outcome State Fault Refusal := .next (mrSelWrite s v)

/-! ### Digest unit contexts -/

/-- The lowest free context among `fuel` keys from `k`; unit u holds contexts 8u to 8u + 7, DGU_Q is unit 4 (R134). -/
def freeCtx (s : State) (k : Nat) : Nat → Option Nat
  | 0 => none
  | fuel + 1 => if (s.digests.look? k).isNone then some k else freeCtx s (k + 1) fuel

/-- A free context of a guard unit, or of DGU_Q. -/
def guardCtx (s : State) : Option Nat := freeCtx s 0 32
def quartzCtx (s : State) : Option Nat := freeCtx s 32 8

/-- A digest job takes a context; the choice of a guard unit's context is journalled (R477). -/
def setCtx (s : State) (k : Nat) (c : DigestCtx) : State :=
  let s1 := if k < 32 then crossing s 0x0C (k / 8) (b2n c.ward.isNone) 1 else s
  { s1 with digests := s1.digests.insert k c }

/-- Free the contexts of a submission. -/
def dropCtx (s : State) (o : Origin) : State := { s with digests := s.digests.filter (fun e => e.2.origin != o) }

/-- The context of a submission. -/
def ctxOf (s : State) (o : Origin) : Option (Nat × DigestCtx) := s.digests.find? (fun e => e.2.origin == o)

/-- Whether a ward's verification waits for a context: ward jobs take precedence (R134). -/
def wardWaits (s : State) : Bool :=
  s.wards.any fun e => e.2.state == .verifying && !e.2.settling && !s.digests.any fun d => d.2.ward == some e.1

/-! ### DIGEST_MAC -/

/-- HMAC (FIPS 198-1) over a hash with a block of `b` bytes; keys here are at most `b` bytes. -/
def hmac (h : Bytes → Bytes) (b : Nat) (key msg : Bytes) : Bytes :=
  let k := fit b key
  h (k.map (· ^^^ 0x5C) ++ h (k.map (· ^^^ 0x36) ++ msg))

/-- KMAC256. -/
def kmac (key msg : Bytes) (len : Nat) (cust : Bytes) : Bytes := (List.range len).map (Config.kmac256 key msg len cust)

/-- Whether ALG, OUTLEN, KEY_SLOT and CUST_LEN are a combination of R136. -/
def macFieldsOk (alg outlen slot cust : Nat) : Bool :=
  if alg = 1 ∨ alg = 2 ∨ alg = 3 then outlen == 0 && slot == 0xFFFF && cust == 0
  else if alg = 0x11 ∨ alg = 0x12 ∨ alg = 0x13 then outlen == 0 && slot != 0xFFFF && cust == 0
  else alg == 0x21 && 32 ≤ outlen && outlen ≤ 64 && slot != 0xFFFF && cust ≤ 256

/-- The checks of DIGEST_MAC (R136). -/
def digestMacCheck (s : State) (j : Job) : Option Nat :=
  let o := j.ops
  firstFail [failIf (!zeroAt o 22 10 || !macFieldsOk (u8 o 16) (u8 o 17) (u16 o 18) (u16 o 20)) S.E_BAD_OPERAND,
    refCheck s j (hostRef o 0) 0 maxLen,
    if u16 o 18 = 0xFFFF then none else slotCheck s j .use (u16 o 18) (fun h => h.cls == 2) 32 128]

/-- A DIGEST_MAC takes a guard context and reads MSG; `keep` holds its key. -/
def digestMacStart (s : State) (j : Job) (k : Nat) (key : Bytes) : State :=
  let o := j.ops
  let s1 := setCtx s k { origin := j.origin, alg := u8 o 16, declLen := (hostRef o 0).len }
  let j1 := { j with keep := [key], holds := slotNames [u16 o 18], afterReads := .engine }
  if (hostRef o 0).len = 0 then s1.setJob { j1 with phase := .engine, data := [[]] }
  else match issueReads s1 j1 [hostRef o 0] with
    | some (s2, j2) => s2.setJob j2
    | none => dropWith (noteBlocked s1 (dmaBind s1 j1 (hostRef o 0).port)) j1 S.E_HOST_DMA

/-- DIGEST_MAC (R132 to R136): a context of a guard unit, the key on the GUARD key channel, the read of MSG. It waits
while no context is free, or a ward waits for one. -/
def digestMac (j : Job) (s : State) : State :=
  let o := j.ops
  match guardCtx s with
  | none => s
  | some k =>
    if wardWaits s then s
    else if u16 o 18 = 0xFFFF then checked (digestMacCheck s j) j s (digestMacStart s j k [])
    else takeOrder s j [u16 o 18] fun s1 j1 =>
      checked (digestMacCheck s1 j1) j1 s1 (withMaterial s1 j1 (u16 o 18) false fun s2 h => digestMacStart s2 j1 k h.material)

/-- DIGEST_MAC. -/
def execDigestMac (o : Origin) (s : State) : Host.Outcome State Fault Refusal := .next (runCommand C.DIGEST_MAC o s digestMac)

/-- The function of R136 over a key, the custom string and the message. -/
def macResult (alg outlen : Nat) (key cust msg : Bytes) : Bytes :=
  if alg = 1 then sha384 msg else if alg = 2 then sha512 msg else if alg = 3 then sha3_512 msg
  else if alg = 0x11 then hmac sha384 128 key msg
  else if alg = 0x12 then hmac sha512 128 key msg
  else if alg = 0x13 then hmac sha3_512 72 key msg
  else kmac key msg outlen cust

/-! ### MEAS_EXTEND -/

/-- MEAS_EXTEND (R138, R140): DGU_Q reads and digests DATA. An INDEX that names no register ends as one that the owner may not
extend (DESIGN CHOICE, assumption 186). -/
def measExtend (j : Job) (s : State) : State :=
  let o := j.ops
  match quartzCtx s with
  | none => s
  | some k =>
    match firstFail [failIf (!zeroAt o 1 3 || !zeroAt o 8 8) S.E_BAD_OPERAND, refCheck s j (hostRef o 16) 0 16777216,
        failIf (u8 o 0 < 28 || u8 o 0 > 31) S.E_MEAS_INDEX] with
    | some st => dropWith s j st
    | none =>
      let s1 := setCtx s k { origin := j.origin, declLen := (hostRef o 16).len }
      let j1 := { j with afterReads := .engine }
      if (hostRef o 16).len = 0 then s1.setJob { j1 with phase := .engine, data := [[]] }
      else match issueReads s1 j1 [hostRef o 16] with
        | some (s2, j2) => s2.setJob j2
        | none => dropWith (noteBlocked s1 (dmaBind s1 j1 (hostRef o 16).port)) j1 S.E_HOST_DMA

/-- MEAS_EXTEND. -/
def execMeasExtend (o : Origin) (s : State) : Host.Outcome State Fault Refusal :=
  .next (runCommand C.MEAS_EXTEND o s measExtend)

/-! ### Events of a digest unit -/

/-- The end of MEAS_EXTEND: the extend at the extend port is its commit point. -/
def measExtendDone (s : State) (j : Job) (msg : Bytes) : State :=
  let i := u8 j.ops 0
  let s1 := extendNow s i (u32 j.ops 4) false (sha384 msg) (sha3_512 msg)
  okJob s1 j (leBytes 4 s.measNext ++ leBytes 4 (s1.mr i).count)

/-- A unit's count reaches DECL_LEN: it pads and finishes the digest (R132). A job that gave up its context needs one
again (R134). -/
def digestJobDone (s : State) (o : Origin) : State :=
  match s.job? o, ctxOf s o with
  | some j, some (_, c) =>
    if j.phase ≠ .engine ∨ (c.yielded = true ∧ ((guardCtx s).isNone = true ∨ wardWaits s = true)) then s
    else
      let msg := j.data.headD []
      let s1 := dropCtx s o
      if j.code = C.DIGEST_MAC then
        endJob s1 j S.OK (macResult c.alg (u8 j.ops 17) (j.keep.headD []) (slice j.ops 32 (u16 j.ops 20)) msg) true
      else if j.code = C.MEAS_EXTEND then measExtendDone s1 j msg
      else s
  | _, _ => s

/-- A digest job on a standalone unit finishes (R132). -/
def execDigestJobDone (o : Origin) (s : State) : Host.Outcome State Fault Refusal := .next (digestJobDone s o)

/-- A DIGEST_MAC job gives up its context at a 65,536-byte boundary: every guard context is in use and a ward job waits
(R134). It keeps its state under a key above the contexts. -/
def ctxYield (s : State) (o : Origin) : State :=
  match ctxOf s o with
  | some (k, c) =>
    if k < 32 ∧ (guardCtx s).isNone = true ∧ wardWaits s = true ∧ c.ward = none ∧ c.declLen > 65536 then
      match freeCtx s 64 64 with
      | some m => { s with digests := (s.digests.erase k).insert m { c with yielded := true } }
      | none => s
    else s
  | none => s

/-- A context is yielded to a ward job (R134). -/
def execDguContextYield (o : Origin) (s : State) : Host.Outcome State Fault Refusal := .next (ctxYield s o)

end Sys2Proof.Machine
end

