-- ==== Sys2Proof/Machine/Tamper.lean ====
section
/-! DEFINITION. Tamper and zeroisation (13): ZEROISE, the end of the work it meets, entry to LOCKDOWN, the destruction of
the helper copies, the alarm, the monitors and their configuration, TMP_ZEROISE. -/

namespace Sys2Proof.Machine

/-! ### What ZEROISE and LOCKDOWN take away -/

/-- The ceremony store and the UNCERTAIN marks are cleared (R394). -/
def clearCeremony (s : State) : State := { s with tkn := { s.tkn with marks := [], ceremony := {} } }

/-- Every WRST_N and WAUX_N is asserted (R369). -/
def holdWards (s : State) : State :=
  { s with wards := s.wards.mapVal {} fun w =>
      { w with state := .off, rstHigh := false, auxHigh := false, settling := false, cmd := none, staged := none } }

/-- The SWL ports stop: sessions end and every link is DISABLED (R340, R414); their RWS counters stay. -/
def stopLinks (s : State) : State :=
  { s with links := s.links.mapVal {} fun l => { warmLink l with signal := l.signal } }

/-- A token bus without what it carried: its script, passwords and data (R17, R25). -/
def clearBus (b : TknBus) : TknBus :=
  { b with script := [], cur := none, data := [], owner := none, step := if b.cur.isSome then .idle else b.step }

/-- ZEROISE clears every island's key-bearing state, and every channel discards what it holds (R17, R25, R178): the words of the
VAULT→QUARTZ anchor channel and of the fabric's requests are gone with it. -/
def zeroise (s : State) : State :=
  { s with
    slots := [], pufSecret := none, cdk := none, keyed := false, zeroised := true
    entropy := [], filling := true, drbgs := []
    sealEngines := s.sealEngines.mapVal {} (fun e => { e with work := none, parked := none })
    arith := s.arith.mapVal {} restArith
    mem := { s.mem with keys := none, root := [] }
    moon := { s.moon with salt := none, imageValid := false }
    tamper := { s.tamper with meshKey := [] }
    tenants := []
    tkn := { s.tkn with buses := s.tkn.buses.mapVal {} clearBus }
    fabric := { s.fabric with peers := [], q := 1, notices := [], fetches := [], enrol := none, resend := none }
    agate := { s.agate with trees := [], writes := [] } }

/-- What LOCKDOWN switches off (R278): MEM, the seal clusters, ROUTE and GUARD; every slot except 0 and 1 is cleared (R316), and the
ceremony ends (R394). -/
def lockdownOff (s : State) : State :=
  let s1 := stopLinks (holdWards (clearCeremony s))
  { s1 with mem := {}, manifests := [], digests := [], slots := s1.slots.filter (·.1 < 2), keyed := false, cdk := none
            agate := { s1.agate with trees := [], writes := [] }
            sealEngines := s1.sealEngines.mapVal {} (fun e => { e with work := none, parked := none }) }

/-- LOCKDOWN is entered (R280). -/
def enterLockdown (s : State) : State := setMode (lockdownOff s) .lockdown

/-- Functions named once each. -/
def dedupFuncs : List (PortId × Nat) → List (PortId × Nat)
  | [] => []
  | x :: r => if r.contains x then dedupFuncs r else x :: dedupFuncs r

/-- A mailbox reads DONE with E_ZEROISED and RESLEN 0; no vector is raised (R342). -/
def zeroisedMailbox (s : State) (b : BindId) : State :=
  let m := s.mbx b
  s.setMbx b { m with result := [], status := S.E_ZEROISED, approved := false, aborted := false, state := .done,
                      doneCount := (m.doneCount + 1) % 2 ^ 32 }

/-- The scheduler and the queue pairs without the messages of work that has gone. -/
def endSched (s : State) (spare : Option Origin) : State :=
  { s with heldJobs := []
           sched := { s.sched with dispatchers := s.sched.dispatchers.filter fun e => some e.2 == spare
                                   credits := s.sched.credits.filter fun e => some e.2 == spare
                                   orders := s.sched.orders.filter fun o => some o == spare }
           qps := s.qps.mapVal {} fun q => { q with reading := none } }

/-- The jobs running at a ZEROISE end without completion, and what they hold is released (R342); every function concerned reports
through AER, and its mailbox reads DONE. One submission may be spared (R346). -/
def endZeroised (s : State) (spare : Option Origin) : State :=
  let gone := s.jobs.filter fun j => some j.origin != spare
  let s1 := endSched (gone.foldl (fun t j => (releaseJob t j.origin).dropJob j.origin) s) spare
  let told := (gone ++ s.heldJobs).filter fun j => !isInternal j
  let s2 := told.foldl (fun t j => match j.origin with | .mailbox b => zeroisedMailbox t b | _ => t) s1
  (dedupFuncs (told.map fun j => (j.bind.port, j.bind.func))).foldl (fun t x => t.send (.aer x.1 x.2)) s2

/-! ### The alarm (R340 to R345) -/

/-- The lifecycle copy being programmed is completed (R345). -/
def finishCopy (s : State) : State :=
  match s.jobs.find? (fun j => j.code == C.LCS_TRANSITION && j.phase == .nor) with
  | none => s
  | some j =>
    s.nor.ops.foldl (fun t p => match p.job with
      | .command o n false =>
        if o = j.origin ∧ n = 6144 then { t with lcs := { t.lcs with copyA := t.lcs.copyA.program (u8 j.ops 0) } }
        else if o = j.origin ∧ n = 6145 then { t with lcs := { t.lcs with copyB := t.lcs.copyB.program (u8 j.ops 0) } } else t
      | _ => t) s

/-- NOR programs and erases in progress are stopped at once, as by a power loss (R345, R505). -/
def stopNor (s0 : State) : State :=
  let s := finishCopy s0
  let ops := s.nor.ops.filter fun p => match p.job with | .command _ n false => n != 6144 && n != 6145 | _ => true
  let s1 := interrupted { s with nor := { s.nor with ops := ops } }
  let stands := (s1.recorder.log.look? s.recorder.head).any (·.mark == 0x5A)
  let s2 := { s1 with nor := { s1.nor with ops := [] }, agate := { s1.agate with writes := [] } }
  if s.recorder.settled = false ∨ s.recorder.fifo = [] then s2
  else if stands then headOn (fifoPop s2)
  else headOn { s2 with recorder := { s2.recorder with bodyDone := false } }

/-- Both helper copies are programmed to zeros (R341); HELPER_DONE. -/
def destroyHelpers (s : State) : State :=
  let z : PufCopy := { crcGood := false, seq := 0, offset := zeros 511, check := zeros 8 }
  { s with boot := { s.boot with pufA := z, pufB := z } }.setReg R.TMP_LATCH (s.reg R.TMP_LATCH ||| 2 ^ 33)

/-- The source bits of TMP_LATCH, with the mode, the supply and the clock's island of the first alarm. -/
def latchAlarm (s : State) (bit island : Nat) : State :=
  let w := s.reg R.TMP_LATCH
  let first := field w 13 0 == 0
  let w1 := w ||| 2 ^ bit
  let w2 := if first then withField (withField w1 47 45 (if s.moon.onVbat then 0 else s.mode.num)) 32 32 (b2n s.moon.onVbat) else w1
  s.setReg R.TMP_LATCH (if bit = 13 ∧ w.testBit 13 = false then withField w2 44 40 island else w2)

/-- BOOT_CODE and HALT_N of a halt (R316). -/
def showHalt (s : State) (code : Nat) : State :=
  { s with pins := { s.pins with haltN := false, bootCode := code }
           boot := { s.boot with halted := true, haltLoop := true, code := code } }

/-- The alarm response with mains (R340). -/
def alarmResponse (s : State) : State :=
  let s1 := lockdownOff (endZeroised (zeroise (stopNor s)) none)
  let s2 := destroyHelpers s1
  let w := s2.reg R.TMP_LATCH
  let s3 := recordEvent s2 0x8C06 (w % 2 ^ 32) (w / 2 ^ 32) (s2.regField R.TMP_MESH_COUNT 7 0)
  setMode (showHalt s3 0xF) .lockdown

/-- An alarm is raised (R340, R344): the whole response; in DORMANT the salt and the image record are cleared and the
device woken; on VBAT they are cleared only. -/
def alarm (s : State) (bit island : Nat) : State :=
  let s1 := latchAlarm s bit island
  let s2 := { s1 with moon := { s1.moon with salt := none, imageValid := false } }
  if s.moon.onVbat then s2
  else if s.mode = .dormant then (if s.moon.corePower then enterStartup s2 else s2)
  else alarmResponse s1

/-! ### Mesh and loops (R330, R337) -/

/-- Mismatch periods among the last W. -/
def inWindow (s : State) (h : List Bool) : Nat := ((h.take (s.regField R.TMP_MESH_CFG 15 8)).filter id).length

/-- Whether a history has reached N. -/
def windowFull (s : State) (h : List Bool) : Bool := decide (inWindow s h ≥ s.regField R.TMP_MESH_CFG 7 0)

/-- A pattern period ends: the windows, TMP_MESH_COUNT and TMP_LOOP_COUNT (R330, R337). -/
def patternPeriod (s : State) (mesh loop0 loop1 : Bool) : State :=
  let t := s.tamper
  let s1 := { s with tamper := { t with meshHist := (mesh :: t.meshHist).take 64, loop0Hist := (loop0 :: t.loop0Hist).take 64,
                                        loop1Hist := (loop1 :: t.loop1Hist).take 64 } }
  let s2 := if mesh then s1.incRegField R.TMP_MESH_COUNT 63 8 else s1
  let n := inWindow s2 s2.tamper.meshHist
  let s3 := if n > s2.regField R.TMP_MESH_COUNT 7 0 then s2.setRegField R.TMP_MESH_COUNT 7 0 n else s2
  let s4 := if loop0 then s3.incRegField R.TMP_LOOP_COUNT 31 0 else s3
  if loop1 then s4.incRegField R.TMP_LOOP_COUNT 63 32 else s4

/-- The end of a mesh pattern period (R330). -/
def execOnyxPatternPeriod (mesh loop0 loop1 : Bool) (s : State) : Host.Outcome State Fault Refusal :=
  .next (if s.moon.aonPower = false ∧ s.moon.onVbat = false then s else patternPeriod (timerTaken s 20) mesh loop0 loop1)

/-- The mesh's window reaches N (R330). -/
def execMeshAlarm (s : State) : Host.Outcome State Fault Refusal :=
  .next (if windowFull s s.tamper.meshHist then alarm s 0 0 else s)

/-- An enabled loop's window reaches N (R337). -/
def loopAlarm (s : State) (k : Nat) : State :=
  let h := if k = 0 then s.tamper.loop0Hist else s.tamper.loop1Hist
  if k < 2 ∧ (s.regField R.TMP_IN_CFG 5 4).testBit k = true ∧ windowFull s h = true then alarm s (5 + k) 0 else s

/-- A tamper loop raises an alarm (R337). -/
def execTloopAlarm (k : Nat) (s : State) : Host.Outcome State Fault Refusal := .next (loopAlarm s k)

/-! ### Environment, clocks, inputs (R332 to R336) -/

/-- VDD_CORE was below 0.66 V: LCS_VHOLD.OK reads 0 until internal power-good, and THERMTRIP_N is released (R522, R526). -/
def coreDip (s : State) : State :=
  { s with lcs := { s.lcs with vholdOk := false }, pins := { s.pins with thermtripN := true } }

/-- An environment monitor fires (R332): its bit of TMP_LATCH, 7 CORE_UV to 12 TEMP_HIGH. An under-voltage of VDD_CORE is
an alarm only while LCS_VHOLD.OK is 1. -/
def envAlarm (s : State) (bit : Nat) : State :=
  if bit < 7 ∨ bit > 12 ∨ (bit = 7 ∧ s.lcs.vholdOk = false) then s
  else if bit = 7 then coreDip (alarm s bit 0) else alarm s bit 0

/-- A voltage or temperature monitor raises an alarm (R332). -/
def execEnvAlarm (bit : Nat) (s : State) : Host.Outcome State Fault Refusal := .next (envAlarm s bit)

/-- Whether an island is clocked in the mode (R278, R489): 0 to 11 SC, 12 ARITH, 13 VAULT, 14 DISPATCH, 15 ROUTE, 16 HOST, 17
MEM, 18 GUARD, 19 QUARTZ. -/
def islandClocked (m : Mode) (i : Nat) : Bool :=
  match m with
  | .dormant => false
  | .hush => i ≥ 15 && i < 20
  | .lockdown => i < 20 && i ≥ 12 && i != 15 && i != 17 && i != 18
  | .replay => i < 20 && i > 12
  | _ => i < 20

/-- A clocked island's frequency leaves its range (R14). -/
def execClockAlarm (island : Nat) (s : State) : Host.Outcome State Fault Refusal :=
  .next (if islandClocked s.mode island then alarm s 13 island else s)

/-- TAMP_IN_n has been low for FILTER samples (R336). -/
def tampIn (s : State) (n : Nat) : State :=
  if n ≥ 4 then s
  else
    let s1 := capture { s with tamper := { s.tamper with inLevel := s.tamper.inLevel ||| 2 ^ n } } 0x22 20 [n * 2 + 16]
    if (s.regField R.TMP_IN_CFG 3 0).testBit n then alarm s1 (1 + n) 0 else s1

/-- A tamper input is asserted (R336). -/
def execTampInAssert (n : Nat) (s : State) : Host.Outcome State Fault Refusal := .next (tampIn s n)

/-- A tamper input reads high again (R336). -/
def execTampInDeassert (n : Nat) (s : State) : Host.Outcome State Fault Refusal :=
  .next (if n ≥ 4 then s
    else capture { s with tamper := { s.tamper with inLevel := s.tamper.inLevel - (s.tamper.inLevel &&& 2 ^ n) } } 0x22 20
      [n * 2 + 17])

/-- A reading of VBAT with VDD_AON present (R335), in mV. -/
def vbatReads (s : State) (mv : Nat) : State :=
  if s.moon.onVbat ∨ s.moon.aonPower = false then s
  else
    let s1 := { s with tamper := { s.tamper with vbatLow := decide (1000 ≤ mv ∧ mv < 2500), vbatAbsent := decide (mv < 1000) } }
    if s1.tamper.vbatLow ∧ s.tamper.vbatLow = false then recordEvent s1 0x8C08 1 mv 0 else s1

/-- VBAT reads low (R335). -/
def execVbatLow (mv : Nat) (s : State) : Host.Outcome State Fault Refusal := .next (vbatReads s mv)

/-- The crystal has stopped for 10 ms (R335). -/
def execXtalFail (s : State) : Host.Outcome State Fault Refusal :=
  .next (if s.tamper.xtalFail then s else recordEvent { s with tamper := { s.tamper with xtalFail := true } } 0x8C08 2 0 0)

/-- The crystal runs again (R335). -/
def execCrystalRunsAgain (s : State) : Host.Outcome State Fault Refusal :=
  .next { s with tamper := { s.tamper with xtalFail := false } }

/-- A comparator reads above 130 °C (R526). -/
def execThermtripAssert (s : State) : Host.Outcome State Fault Refusal :=
  .next (if s.moon.aonPower then { s with pins := { s.pins with thermtripN := false } } else s)

/-! ### Configuration (R331, R336, R338) -/

/-- Setting a LOCK is extended into one of MR_24 to MR_27 (R140); the manual states neither which, nor the event type, nor
the input, which are free values. -/
def extendLock (s : State) : State :=
  let fb := s.freeBytes 13
  extendFrom (s.tookFree 13) 4 (24 + u8 fb 0 % 4) (leNat (slice fb 1 4)) false (fb.drop 5)

/-- The journal entry of a register write by host software, and its way through the register-write merge of the ports (R477, R481). -/
def regEntry (s : State) (a v : Nat) : State := crossing (capture s 0x10 16 [a / 4 * 2 ^ 40 + 2 ^ 26, v]) 0x01 0 0 1

/-- A write to TMP_MESH_CFG (R331): ignored when locked, or when it would lower N or W or break their range. -/
def meshCfgWrite (s0 : State) (v : Nat) : State :=
  let s := regEntry s0 R.TMP_MESH_CFG v
  let w := s.reg R.TMP_MESH_CFG
  let n := field v 7 0
  let win := field v 15 8
  if w.testBit 16 ∨ n < field w 7 0 ∨ win < field w 15 8 ∨ n > 64 ∨ win > 64 ∨ n > win then s
  else
    let s1 := s.setReg R.TMP_MESH_CFG (v % 2 ^ 17)
    if v.testBit 16 then extendLock s1 else s1

/-- Host software writes TMP_MESH_CFG. -/
def execTmpMeshCfgWrite (v : Nat) (s : State) : Host.Outcome State Fault Refusal := .next (meshCfgWrite s v)

/-- The inputs that are asserted and enabled raise their alarms (R336). -/
def inputAlarms (s : State) : State :=
  (List.range 4).foldl (fun t n =>
    if t.tamper.inLevel.testBit n && (t.regField R.TMP_IN_CFG 3 0).testBit n && !(t.reg R.TMP_LATCH).testBit (1 + n) then
      alarm t (1 + n) 0 else t) s

/-- A write to TMP_IN_CFG (R336, R338): ignored when locked; enable bits are only set. -/
def inCfgWrite (s0 : State) (v : Nat) : State :=
  let s := regEntry s0 R.TMP_IN_CFG v
  let w := s.reg R.TMP_IN_CFG
  if w.testBit 16 then s
  else
    let s1 := s.setReg R.TMP_IN_CFG ((v &&& 0x1FF3F) ||| (w &&& 0x3F))
    inputAlarms (if v.testBit 16 then extendLock s1 else s1)

/-- Host software writes TMP_IN_CFG. -/
def execTmpInCfgWrite (v : Nat) (s : State) : Host.Outcome State Fault Refusal := .next (inCfgWrite s v)

/-! ### Deliberate zeroisation (R346) -/

/-- Steps 1 to 4 of R340 without an alarm: zeroisation, the running jobs ended, the wards held and the links stopped. One submission
may be spared (R346). -/
def zeroiseNow (s : State) (o : Option Origin) (code : Nat) : State :=
  recordEvent (stopLinks (holdWards (endZeroised (zeroise s) o))) 0x8C07 code 0 0

/-- ZEROISE by command: the effects of R178 and R342, its event, LOCKDOWN; the issuing submission is spared. -/
def deliberate (s : State) (o : Option Origin) (code : Nat) : State := enterLockdown (zeroiseNow s o code)

/-- TMP_ZEROISE. -/
def tmpZeroise (j : Job) (s : State) : State :=
  if u32 j.ops 0 ≠ 0x4F52455A ∨ zeroAt j.ops 4 4 = false then dropWith s j S.E_BAD_OPERAND
  else okJob (deliberate s (some j.origin) C.TMP_ZEROISE) { j with committed := true } []

/-- TMP_ZEROISE. -/
def execTmpZeroise (o : Origin) (s : State) : Host.Outcome State Fault Refusal := .next (runCommand C.TMP_ZEROISE o s tmpZeroise)

end Sys2Proof.Machine
end

