-- ==== Sys2Proof/Machine/Amber.lean ====
section
/-! DEFINITION. The Amber journal and replay (20): its registers, export, and replay. Capture stands with
`recordEvent`, checkpoints with the modes. -/

namespace Sys2Proof.Machine

/-! ### Registers (R482, R485, R499) -/

/-- Whole GiB of the shared pool that lie free above the frontier pages (R499). -/
def poolFreeGib (s : State) : Nat := (19912 * 256 - pageHigh s) / 262144

/-- AMB_CFG after a write: SIZE_GIB acts as 1 to 16 (R482); with capture on, a ring larger than what is free takes all of that, and
SIZE_GIB reads it (R499). -/
def ambCfgValue (s : State) (v : Nat) : Nat :=
  let g := field v 8 4
  let asked := if g = 0 then 1 else min g 16
  withField (v % 2 ^ 48 - field v 31 9 * 2 ^ 9 - field v 3 2 * 4) 8 4
    (if field v 1 0 = 0 ∨ asked ≤ poolFreeGib s then g else poolFreeGib s)

/-- The ring's lines as AMB_CFG has them: those of the ring before are freed, those of the new one take colour 0xF006 (R272, R482,
R499). -/
def ringMem (s t : State) : State :=
  let m := if ringGib s = 0 then t.mem else freeLines t.mem (ringLines (ringGib s)).1 (ringLines (ringGib s)).2
  { t with mem := if ringGib t = 0 then m else allocLines m (ringLines (ringGib t)).1 (ringLines (ringGib t)).2 0xF006 }

/-- A write to LEVEL or SIZE_GIB: the ring is discarded and a new capture starts (R482). A 32-bit write leaves POST_MS. -/
def ambCfgWrite (s0 : State) (wide : Bool) (v : Nat) : State :=
  let s := regEntry s0 R.AMB_CFG v
  let w := if wide then v else v % 2 ^ 32 + s.regField R.AMB_CFG 47 32 * 2 ^ 32
  ringMem s (ambRestart (s.setReg R.AMB_CFG (ambCfgValue s w)))

/-- A write to AMB_CFG. -/
def execAmbCfgWrite (wide : Bool) (v : Nat) (s : State) : Host.Outcome State Fault Refusal :=
  .next (if s.mode = .dormant then s else ambCfgWrite s wide v)

/-- A write of 1 to AMB_CTRL.FREEZE (R485). -/
def execAmbCtrlFreeze (s : State) : Host.Outcome State Fault Refusal :=
  .next (if s.mode = .dormant then s else ambFreeze (regEntry s R.AMB_CTRL 1) 0)

/-- A write of 1 to AMB_CTRL.REARM (R485). -/
def execAmbCtrlRearm (s : State) : Host.Outcome State Fault Refusal :=
  .next (if s.mode = .dormant then s else ambRestart (regEntry s R.AMB_CTRL 2))

/-- POST_MS after the trigger the capture stops (R485). -/
def execAmbFreeze (s : State) : Host.Outcome State Fault Refusal :=
  .next (if s.amber.triggered = true ∧ s.amber.frozen = false then ambFreeze s s.amber.freezeCode else s)

/-! ### The window (R487) -/

/-- The words of the ring from a position on. -/
def windowEntries (s : State) (p : Nat) : List AmbEntry := s.amber.ring.filter fun e => decide (e.pos ≥ p)

/-- The header word of an entry (R480). -/
def entryHeader (e : AmbEntry) : Nat :=
  place 63 56 e.ty + place 55 51 e.island + place 47 36 e.body.length + place 35 0 e.time

/-- The words of entries. -/
def entryWords (es : List AmbEntry) : List Nat := (es.map fun e => entryHeader e :: e.body).flatten

/-- Entries read from words, the first at a position. -/
def parseEntries : Nat → Nat → List Nat → List AmbEntry
  | 0, _, _ => []
  | _ + 1, _, [] => []
  | n + 1, p, h :: ws =>
    let len := field h 47 36
    { ty := field h 63 56, island := field h 55 51, time := field h 35 0, body := ws.take len, pos := p }
      :: parseEntries n (p + 1 + len) (ws.drop len)

/-- The journal key (R486). -/
def ajk (s : State) : Option Bytes :=
  s.pufSecret.map fun p => kdf p (ascii "GV-AMB") (leBytes 8 s.fuses.deviceId) 256

/-- Chunks of a number of words. -/
def chunksOf (words : Nat) : Nat := (words + 131071) / 131072

/-- The clear header of an export (R487). -/
def exportHeader (s : State) (id : Bytes) (start words : Nat) : Bytes :=
  [1, 0x80] ++ leBytes 1 s.ambLevel ++ zeros 1 ++ leBytes 4 (chunksOf words) ++ leBytes 8 s.fuses.deviceId ++ leBytes 8 start
    ++ leBytes 8 words ++ fit 8 id ++ leBytes 8 s.amber.freezeTime ++ zeros 2 ++ leBytes 2 s.amber.freezeCode ++ zeros 12

/-- The bytes of an export. -/
def exportBytes (s : State) (k id : Bytes) (start : Nat) : Bytes :=
  let ws := entryWords (windowEntries s start)
  let h := exportHeader s id start ws.length
  h ++ ((List.range (chunksOf ws.length)).map fun i =>
    let (ct, tag) := gcmSeal k (fit 8 id ++ leBytes 4 i) h ((((ws.drop (131072 * i)).take 131072).map fun w => leBytes 9 (word72 w)).flatten)
    ct ++ tag).flatten

/-- The checks of AMB_EXPORT. -/
def ambExportCheck (s : State) (j : Job) : Option Nat :=
  let words := match wholeCkpts s with | p :: _ => s.amber.head - p | [] => 0
  firstFail [failIf (s.mode != .service) S.E_MODE, failIf (!s.amber.frozen) S.E_AMB_STATE,
    failIf (wholeCkpts s == []) S.E_AMB_NO_CHECKPOINT, failIf (s.pufSecret.isNone) S.E_NO_IDENTITY,
    refCheck s j (hostRef j.ops 16) (64 + chunksOf words * 1179664) maxLen]

/-- AMB_EXPORT (R487). -/
def ambExport (j : Job) (s : State) : State :=
  checked (ambExportCheck s j) j s (withLines s j (ringLines (ringGib s)) (withDraw s j (drbgOf j) 8 fun id s1 =>
    match wholeCkpts s1, ajk s1 with
    | p :: _, some k =>
      let bs := exportBytes s1 k id p
      writeAndEnd s1 j (hostRef j.ops 16) bs S.OK (fit 8 id ++ leBytes 8 (s1.amber.head - p) ++ leBytes 8 bs.length) false
    | _, _ => dropWith s1 j S.E_AMB_NO_CHECKPOINT))

/-- AMB_EXPORT. -/
def execAmbExport (o : Origin) (s : State) : Host.Outcome State Fault Refusal := .next (runCommand C.AMB_EXPORT o s ambExport)

/-! ### AMB_REPLAY (R488, R489) -/

/-- The words of chunk `i` of an export, when it authenticates under a key. -/
def openChunk (k x : Bytes) (i words : Nat) : Option (List Nat) :=
  let n := min 131072 (words - 131072 * i)
  let off := 64 + i * 1179664
  let ct := slice x off (9 * n)
  let iv := slice x 32 8 ++ leBytes 4 i
  if digestBytes 16 (Config.gcmTag k iv (slice x 0 64) ct) = slice x (off + 9 * n) 16 then
    let pt := (List.range ct.length).map (Config.gcmCrypt k iv ct)
    some ((List.range n).map fun m => u64 pt (9 * m))
  else none

/-- The words of an export that is this device's (R488). -/
def openExport (s : State) (x : Bytes) : Option (List Nat) :=
  let words := u64 x 24
  match ajk s with
  | none => none
  | some k =>
    if u8 x 0 = 1 ∧ u8 x 1 = 0x80 ∧ u64 x 8 = s.fuses.deviceId ∧ u32 x 4 = chunksOf words
        ∧ x.length = 64 + 9 * words + 16 * chunksOf words then
      (List.range (chunksOf words)).foldr (fun i acc => match openChunk k x i words, acc with
        | some ws, some r => some (ws ++ r)
        | _, _ => none) (some [])
    else none

/-- The bodies of the parts of the checkpoint that begins at a position, up to its end. -/
def ckptParts (es : List AmbEntry) (p : Nat) : List AmbEntry :=
  ((es.filter fun e => decide (e.pos > p)).takeWhile fun e => e.ty != 3).filter fun e => e.ty == 2

/-- Whether the checkpoint at a position has its end, and the digest there matches (R488). -/
def ckptGood (es : List AmbEntry) (p : Nat) : Bool :=
  match (es.filter fun e => decide (e.pos > p)).find? fun e => e.ty == 3 with
  | some e => e.body.drop 1 == wordsOf (partsDigest ((ckptParts es p).map (·.body)))
  | none => false

/-- The checkpoint that a replay loads: the first good one at or after CKPT_POS. -/
def ckptFrom (es : List AmbEntry) (pos : Nat) : Option Nat :=
  ((es.filter fun e => e.ty == 1 && decide (e.pos ≥ pos)).map (·.pos)).find? (ckptGood es)

/-- The ring that an export fills. -/
def importRing (s : State) (x : Bytes) (ws : List Nat) : Amber :=
  let es := parseEntries ws.length (u64 x 16) ws
  let whole := (es.filter fun e => e.ty == 1).foldl (fun (m : NMap Ckpt) e =>
    NMap.insert m e.pos ((Config.ckptOf ((ckptParts es e.pos).map (·.body)).flatten).getD {})) ([] : NMap Ckpt)
  { ring := es, head := u64 x 16 + ws.length, start := s.clk, ckpts := whole.length, whole := whole, frozen := true,
    freezeCode := u16 x 50, freezeTime := u64 x 40, triggered := decide (u16 x 50 ≠ 0) }

/-- A host port on entry to REPLAY: its tables and mailboxes come from the checkpoint; the link, PERST, the functions'
enables and the owner's own binding and mailbox stay live. -/
def replayPort (live c : HostPort) : HostPort :=
  { live with
    numVfs := c.numVfs, errStatus := c.errStatus, errFunc := c.errFunc, retrainCount := c.retrainCount
    binds := c.binds.put {} 0 (live.binds.get {} 0), mailboxes := c.mailboxes.put {} 0 (live.mailboxes.get {} 0) }

/-- The control state of every island is the checkpoint's (R489). Wards stay live, and so do keys in the vault that
replay does not use; the measurement registers and their log keep their values (R137). -/
def loadCkpt (s : State) (c : Ckpt) : State :=
  { s with
    portA := replayPort s.portA c.portA, portB := replayPort s.portB c.portB
    qps := c.qps, sched := c.sched, manifests := c.manifests, nextManifest := c.nextManifest, tenants := c.tenants
    slots := c.slots, keyed := c.keyed
    agate := { s.agate with trees := c.trees, anchors := c.anchors, tokens := c.tokens, writes := [] }
    drbgs := c.drbgs, sealEngines := c.sealEngines, arith := c.arith
    links := c.links.mapVal {} (fun k => { k with queue := [] }), fabric := c.fabric
    tkn := { c.tkn with buses := s.tkn.buses }
    recorder := { s.recorder with counts := c.counts }
    regs := c.colours.foldl (fun m e => m.put 0 e.1 (e.2 % 2 ^ 64)) (s.regs.filter fun e => e.1 / 0x8000 != 0x70000 / 0x8000) }

/-- Replay begins: the commit point of AMB_REPLAY. -/
def replayBegin (s : State) (j : Job) (p : Nat) (id : Bytes) : State :=
  let c := (s.amber.whole.look? p).getD {}
  let s1 := loadCkpt { s with amber := { s.amber with replayFrom := p, taken := [] } } c
  (setMode s1 .replay).setJob { j with committed := true, phase := .replay, args := [p, u64 id 0] }

/-- The checks of AMB_REPLAY before it reads an export. -/
def ambReplayCheck (s : State) (j : Job) : Option Nat :=
  let o := j.ops
  let src := u8 o 0
  let trace := u8 o 1 / 2 % 4
  firstFail [failIf (s.mode != .service || !decide (1 ≤ s.lcs.state ∧ s.lcs.state ≤ 3)) S.E_MODE,
    failIf (!dormantReady s j.origin) S.E_NOT_QUIESCED,
    failIf (src > 1 || u8 o 1 ≥ 8 || !zeroAt o 2 6 || !zeroAt o 56 8 || (src == 0 && !zeroAt o 24 16)) S.E_BAD_OPERAND,
    failIf (src == 0 && !s.amber.frozen) S.E_AMB_STATE,
    failIf (src == 1 && s.ambLevel != 0 && !s.amber.frozen) S.E_AMB_STATE,
    if src = 1 then refCheck s j (hostRef o 24) 64 maxLen else none,
    refCheck s j (hostRef o 40) 8256 maxLen,
    if trace ≠ 0 then refCheck s j (hostRef o 64) 0 maxLen else none]

/-- AMB_REPLAY (R488): stage 1 has the export. -/
def ambReplay (j : Job) (s : State) : State :=
  let pos := u64 j.ops 8
  if j.stage = 0 then
    match ambReplayCheck s j with
    | some st => dropWith s j st
    | none =>
      if u8 j.ops 0 = 1 then readOrEnd s j [hostRef j.ops 24]
      else withLines s j (ringLines (ringGib s)) (match ckptFrom s.amber.ring pos with
        | some p => replayBegin s j p (zeros 8)
        | none => dropWith s j S.E_AMB_NO_CHECKPOINT)
  else
    let x := listGet [] j.data 0
    if u64 x 24 > s.ambCapacity then dropWith s j S.E_AMB_STATE
    else match openExport s x with
      | none => dropWith s j S.E_AMB_IMPORT
      | some ws =>
        let a := importRing s x ws
        match ckptFrom a.ring pos with
        | some p => replayBegin { s with amber := a } j p (slice x 32 8)
        | none => dropWith s j S.E_AMB_NO_CHECKPOINT

/-- AMB_REPLAY. -/
def execAmbReplay (o : Origin) (s : State) : Host.Outcome State Fault Refusal := .next (runCommand C.AMB_REPLAY o s ambReplay)

/-! ### What replay compares (R490, R491) -/

/-- A divergence that replay finds (R491, R493): position, KIND, MP or TYPE, instance or island, recorded and replayed value, QPN or
binding, TAG. -/
structure Divergence where
  pos : Nat
  kind : Nat
  mp : Nat := 0
  inst : Nat := 0
  recorded : Nat := 0
  replayed : Nat := 0
  qpn : Nat := 0
  tag : Nat := 0
  deriving DecidableEq, Repr

/-- Whether the words of a COMPLETION entry are those of MBX_STATUS, whose STATE reads DONE. -/
def mailboxWords (w : List Nat) : Bool := listGet 0 w 0 % 4 == 2

/-- The fields of a COMPLETION entry that are always compared (R491): STATUS, RESLEN, APPROVED, TAG, QINDEX and SQ_HEAD. -/
def comparedFields (w : List Nat) : List Nat :=
  let a := listGet 0 w 0
  let b := listGet 0 w 1
  if mailboxWords w then [field a 31 16, field a 47 32, field a 5 5, field a 63 48]
  else [field a 63 48, field b 63 32, field a 25 25, field b 15 0, field a 41 32, field b 31 16]

/-- Whether two COMPLETION entries are of one queue pair, by QINDEX, or both of a mailbox: their words name no more (DEDUCED,
assumption 149). -/
def sameSource (v w : List Nat) : Bool :=
  mailboxWords v == mailboxWords w && (mailboxWords v || field (listGet 0 v 0) 41 32 == field (listGet 0 w 0) 41 32)

/-- The next entry of a test that was not taken. -/
def nextEntry (es : List AmbEntry) (taken : List Nat) (f : AmbEntry → Bool) : Option AmbEntry :=
  es.find? fun e => !taken.contains e.pos && f e

/-- The OUTCOME entry of a unit of a block. -/
def outcomeOf (block unit : Nat) (e : AmbEntry) : Bool :=
  e.ty == 0x15 && field (listGet 0 e.body 0) 63 56 == block && field (listGet 0 e.body 0) 55 40 == unit

/-- One thing that the re-run does, beside the entries of the window: the entries taken, and the divergence found. -/
def compareOne (es : List AmbEntry) (last : Nat) (taken : List Nat) : ReplayEvent → List Nat × Option Divergence
  | .done qpn ws digest secret =>
    match nextEntry es taken fun e => e.ty == 0x14 && sameSource e.body ws with
    | none => (taken, none)
    | some e => (e.pos :: taken,
        if comparedFields e.body = comparedFields ws ∧ (secret = true ∨ (e.body.drop 4) = digest) then none
        else some { pos := e.pos, kind := 1, mp := 0x14, inst := e.island, recorded := listGet 0 (comparedFields e.body) 0,
                    replayed := listGet 0 (comparedFields ws) 0, qpn := qpn, tag := listGet 0 (comparedFields ws) 3 })
  | .needs block unit qpn tag =>
    match nextEntry es taken (outcomeOf block unit) with
    | some e => (e.pos :: taken, none)
    | none => (taken, some { pos := last, kind := 3, mp := 0x15, qpn := qpn, tag := tag })

/-- The divergence of a recorded winner, at a position, that is not among the candidates that wait (R490). -/
def absentWinner (es : List AmbEntry) (pos cands : Nat) : Divergence :=
  let w := listGet 0 (((es.find? fun e => e.pos == pos).map (·.body)).getD []) 0
  { pos := pos, kind := 2, mp := field w 63 56, inst := field w 55 48, recorded := field w 47 32, replayed := cands }

/-- The divergences of a re-run, up to a number of them; with them the entries taken, the completions compared, and whether it
stalled at an absent winner. -/
structure Compared where
  taken : List Nat := []
  divs : List Divergence := []
  dones : Nat := 0
  stalled : Bool := false
  deriving DecidableEq, Repr

/-- The comparison of a re-run with the entries of the window. -/
def compareRun (es : List AmbEntry) (last limit : Nat) : Compared → List ReplayEvent → Compared
  | c, [] => c
  | c, ev :: r =>
    if c.divs.length ≥ limit then c
    else
      let (t, d) := compareOne es last c.taken ev
      let n := match ev with | .done _ _ _ _ => c.dones + 1 | _ => c.dones
      compareRun es last limit { taken := t, divs := c.divs ++ d.toList, dones := n } r

/-- The absent winner at which a re-run that has not ended before stalls (R490). -/
def stallRun (es : List AmbEntry) (limit : Nat) (c : Compared) : Option AbsentWinner → Compared
  | some (pos, cands) =>
    if c.divs.length ≥ limit then c else { c with divs := c.divs ++ [absentWinner es pos cands], stalled := true }
  | none => c

/-- The OUTCOME entries never taken by the end (R491). -/
def unusedOutcomes (es : List AmbEntry) (taken : List Nat) : List Divergence :=
  (es.filter fun e => e.ty == 0x15 && !taken.contains e.pos).map fun e =>
    { pos := e.pos, kind := 4, mp := 0x15, inst := e.island, recorded := field (listGet 0 e.body 0) 39 24 }

/-! ### The end of replay (R492, R493) -/

/-- A divergence entry of the report (R493). -/
def divergenceBytes (d : Divergence) : Bytes :=
  leBytes 8 d.pos ++ leBytes 1 d.kind ++ leBytes 1 d.mp ++ leBytes 1 d.inst ++ zeros 1 ++ leBytes 2 d.recorded ++ leBytes 2 d.replayed
    ++ leBytes 4 d.qpn ++ leBytes 2 d.tag ++ zeros 10

/-- STATUS in a COMPLETION entry: of a completion entry of a queue pair, or of MBX_STATUS, whose STATE reads DONE. -/
def completionStatus (w : Nat) : Nat := if mailboxWords [w] then field w 31 16 else field w 63 48

/-- A trace record (R493). -/
def traceRecord (pos kind mp unit st : Nat) : Bytes :=
  leBytes 8 pos ++ leBytes 1 kind ++ leBytes 1 mp ++ leBytes 2 unit ++ leBytes 2 st ++ zeros 2

/-- The trace of one entry at a TRACE_LEVEL. -/
def traceEntry (level : Nat) (e : AmbEntry) : Bytes :=
  let w := listGet 0 e.body 0
  if e.ty = 0x30 then (if level = 2 then traceRecord e.pos 1 (field w 63 56) (field w 47 32) 0 else [])
  else if e.ty = 0x14 then traceRecord e.pos 2 e.ty 0 (completionStatus w)
  else if e.ty = 0x15 then traceRecord e.pos 3 e.ty (field w 55 40) (field w 39 24)
  else []

/-- The trace (R493): the checkpoint, then each entry taken with the divergences found at it. -/
def traceBytes (level p : Nat) (es : List AmbEntry) (divs : List Divergence) : Bytes :=
  let at_ := fun (q : Nat) => ((divs.filter fun d => d.pos == q).map fun d => traceRecord d.pos 4 d.mp d.recorded d.replayed).flatten
  traceRecord p 5 0x01 0 0 ++ (es.map fun e => traceEntry level e ++ at_ e.pos).flatten

/-- How a replay ended: the end position, RESULT, the divergences, and the completions compared. -/
structure ReplayResult where
  endPos : Nat
  result : Nat
  divs : List Divergence
  dones : Nat
  deriving DecidableEq, Repr

/-- The end of a replay (R491, R492): at STOP_POS or the end of the window; early at the first divergence with STOP_FIRST, at the
256th, at a stall, or at `pos` for ABORT. -/
def replayResult (s : State) (j : Job) (pos : Nat) (run : List ReplayEvent) (absent : Option AbsentWinner) : ReplayResult :=
  let p := listGet 0 j.args 0
  let stop := u64 j.ops 16
  let last := if stop = 0 then s.amber.head else min stop s.amber.head
  let es := (windowEntries s p).filter fun e => decide (e.pos < last)
  let limit := if bitOf (u8 j.ops 1) 0 then 1 else 256
  let c := stallRun es limit (compareRun es last limit {} run) absent
  let cut := c.stalled || decide (c.divs.length ≥ limit) || j.abortReq
  let endPos := if j.abortReq then min pos last else if cut then ((c.divs.getLast?).map (·.pos)).getD last else last
  let divs := (c.divs ++ unusedOutcomes (es.filter fun e => decide (e.pos < endPos)) c.taken).take limit
  { endPos := endPos, result := if c.stalled then 2 else if divs ≠ [] then 1 else if j.abortReq then 3 else 0, divs := divs,
    dones := c.dones }

/-- The report (R493). -/
def reportBytes (s : State) (j : Job) (r : ReplayResult) (es : List AmbEntry) : Bytes :=
  [1, 0x81] ++ leBytes 1 r.result ++ zeros 1 ++ leBytes 8 s.fuses.deviceId ++ leBytes 8 (listGet 0 j.args 1)
    ++ leBytes 8 (listGet 0 j.args 0) ++ leBytes 8 r.endPos ++ leBytes 4 r.dones
    ++ leBytes 8 (es.filter fun e => e.ty == 0x30).length ++ leBytes 2 r.divs.length ++ zeros 14 ++ (r.divs.map divergenceBytes).flatten

/-- Replay ends (R492): report and trace are written, the command reaches DONE, and a device restart waits for ACK. -/
def replayEnd (s : State) (j : Job) (pos : Nat) (run : List ReplayEvent) (absent : Option AbsentWinner) : State :=
  let o := j.ops
  let p := listGet 0 j.args 0
  let r := replayResult s j pos run absent
  let es := (windowEntries s p).filter fun e => decide (e.pos < r.endPos)
  let st := if r.divs = [] then S.OK else S.I_REPLAY_DIVERGED
  let level := u8 o 1 / 2 % 4
  let tr := hostRef o 64
  let trace := if level = 0 then [] else (traceBytes level p es r.divs).take (tr.len / 16 * 16)
  let res := leBytes 8 r.endPos ++ leBytes 4 trace.length ++ leBytes 2 r.divs.length ++ leBytes 1 r.result ++ zeros 1
  let s1 := { s with moon := { s.moon with deferred := some (j.bind, .restart) } }
  let rep := hostRef o 40
  match hostWrite s1 j rep 0 (reportBytes s j r es) true with
  | none => blockedJob s1 j rep
  | some (s2, j2) => match hostWrite s2 j2 tr 0 trace true with
    | none => blockedJob s2 j2 tr
    | some (s3, j3) => endJob s3 j3 st res false

/-- Replay reaches its end: what the re-run of the control plane did (assumption 149), the winner, recorded at a position, that was
not among the candidates when no island could progress, and the position reached at an ABORT. -/
def execReplayEnd (pos : Nat) (run : List ReplayEvent) (absent : Option AbsentWinner) (s : State) : Host.Outcome State Fault Refusal :=
  .next (match s.jobs.find? (fun j => j.code == C.AMB_REPLAY && j.phase == .replay) with
    | some j => if s.mode = .replay then replayEnd s j pos run absent else s
    | none => s)

end Sys2Proof.Machine
end

