-- ==== Sys2Proof/Machine/ArithDone.lean ====
section
/-! DEFINITION. The end of an arith engine's job (08 R218 to R222, R227, R228): its output, the invariant check, the return to the
vault, and each command's release. -/

namespace Sys2Proof.Machine

/-! ### The output of an operation -/

/-- A signature's inputs with its message, which SIGN reads from the host. -/
def signInputs (j : Job) : Option SignReq :=
  (j.arith.bind (·.sign)).map fun q => if j.code = C.SIGN then { q with msg := j.data.headD [] } else q

/-- The signature that a job makes. -/
def signOut (q : SignReq) (rnd : Bytes) : Bytes := signature q.scheme q.size q.prehash q.priv q.ctx q.msg rnd

/-- Its iterations. -/
def signIts (j : Job) : Nat :=
  match signInputs j with
  | some q => iterations q.scheme q.priv q.ctx q.msg (rndOf j)
  | none => 0

/-- The private key that KEYGEN makes. -/
def keygenPriv (j : Job) : Bytes := keyPriv (templateAt j.ops 8).cls (templateAt j.ops 8).size (rndOf j)

/-- A decision computed twice, a word each. -/
def decisionWords (d : Bool) : Bytes := leBytes 8 (b2n d) ++ leBytes 8 (b2n d)

/-- The output of an operation as it stands in the operand memory. -/
def arithOutput (j : Job) : Bytes :=
  match signInputs j with
  | some q => signOut q (rndOf j)
  | none =>
    let t := templateAt j.ops 8
    if j.code = C.KEY_GENERATE then keygenPriv j ++ keyPub t.cls t.size (keygenPriv j)
    else if j.code = C.KEY_PROVE then keyPub (listGet 0 j.args 0) (listGet 0 j.args 1) (listGet [] j.keep 1)
    else if j.code = C.SIG_VERIFY then decisionWords (verifyDecision j)
    else if j.code = C.DERIVE_SHARED then sharedSecret j
    else if j.code = C.ENCAPS then (encapsOut j).1 ++ (encapsOut j).2
    else if j.code = C.DECAPS then decapsKey j ++ decisionWords true
    else []

/-- Whether the operation of a job is computed in lane mode. -/
def arithLane (j : Job) : Bool :=
  match signInputs j with
  | some q => q.scheme ≥ 6
  | none => (j.code == C.KEY_GENERATE && laneClass (templateAt j.ops 8).cls) || (j.code == C.KEY_PROVE && laneClass (listGet 0 j.args 0))
      || j.code == C.ENCAPS || j.code == C.DECAPS || (j.code == C.SIG_VERIFY && u8 j.ops 2 ≥ 6)

/-! ### Invariant checks (R227) -/

/-- SCHEME under which the pairwise test of a signature class signs. -/
def pairScheme (cls size : Nat) : Nat :=
  if cls = 6 then (if size = 0 then 1 else 2) else if cls = 7 then 3 else if cls = 9 then 4 else 6

/-- The pairwise consistency test of a key pair. -/
def pairwise (cls size usage : Nat) (priv pub : Bytes) : Bool :=
  let m := Config.pairwiseInput
  if cls = 11 then
    (List.range 32).map (Config.kemDecaps priv ((List.range 1568).map (Config.kemCipher pub m))) == (List.range 32).map (Config.kemKey pub m)
  else if cls = 8 ∨ (cls = 6 ∧ !bitOf usage 2) then keyPub cls size priv == pub
  else Config.verify (pairScheme cls size) false pub [] m (signature (pairScheme cls size) size false priv [] m [])

/-- The check of an operation's result, on what stands in the operand memory beside the result `out` that a fault-free run gives. -/
def invariantHolds (j : Job) (out res : Bytes) : Bool :=
  match signInputs j with
  | some q => Config.verify q.scheme q.prehash q.pub q.ctx q.msg res
  | none =>
    let t := templateAt j.ops 8
    if j.code = C.KEY_GENERATE then
      pairwise t.cls t.size t.usage (res.take (privLen t.cls t.size)) (res.drop (privLen t.cls t.size))
    else if j.code = C.KEY_PROVE then pairwise (listGet 0 j.args 0) (listGet 0 j.args 1) 4 (listGet [] j.keep 1) res
    else if j.code = C.SIG_VERIFY then res.take 8 == (res.drop 8).take 8
    else if j.code = C.DERIVE_SHARED then Config.onCurve (listGet 0 j.args 1) (listGet 0 j.args 2) res
    else if j.code = C.ENCAPS then res.take 1568 == out.take 1568
    else if j.code = C.DECAPS then (res.drop 32).take 8 == (res.drop 40).take 8
    else true

/-- Whether the invariant check passes. A run without an error in its operand memory passes it: that the algorithms of the
standards are correct is PRESUMED (assumption 180). -/
def invariantPasses (j : Job) (errs : List MemError) (res : Bytes) : Bool := errs == [] || invariantHolds j (arithOutput j) res

/-! ### Release -/

/-- Whether a job's rejection loop reached its bound (R222): 128 signing iterations of ML-DSA-87, or the candidates of RSA key
generation. -/
def boundReached (j : Job) : Bool :=
  decide (signIts j > 128) ||
    (j.code == C.KEY_GENERATE && (templateAt j.ops 8).cls == 9 &&
      decide (Config.rsaCandidates (templateAt j.ops 8).size (rndOf j) > rsaBound (templateAt j.ops 8).size))

/-- The material of a result that is bound for the vault (R218). -/
def vaultBound (j : Job) (res : Bytes) : Option Bytes :=
  let t := templateAt j.ops 8
  if j.code = C.KEY_GENERATE then some (res.take (privLen t.cls t.size))
  else if u8 j.ops 2 = 0 then none
  else if j.code = C.DERIVE_SHARED then some (sharedKey j res)
  else if j.code = C.ENCAPS then some ((res.drop 1568).take (privLen t.cls t.size))
  else if j.code = C.DECAPS then some (res.take (privLen t.cls t.size))
  else none

/-- What a command does with the result of its arith job and the material that the vault received; the others go on in their own
row, at the next stage, with the signature in place of the random input. -/
def arithRelease (s : State) (j : Job) (res stored : Bytes) : State :=
  let t := templateAt j.ops 8
  if j.code = C.KEY_GENERATE then keygenRelease s j stored (res.drop (privLen t.cls t.size))
  else if j.code = C.KEY_PROVE then proveRelease s j res
  else if j.code = C.SIGN then signRelease s j (signIts j) res
  else if j.code = C.SIG_VERIFY then verifyRelease s j (u8 res 0 == 1)
  else if j.code = C.DERIVE_SHARED then sharedRelease s j res stored
  else if j.code = C.ENCAPS then encapsRelease s j (res.take 1568) (res.drop 1568) stored
  else if j.code = C.DECAPS then decapsRelease s j (res.take 32) stored
  else s.setJob { j with phase := .started, stage := j.stage + 1, holds := [], keep := res :: j.keep.drop 1 }

/-- A checked result leaves its engine `n` (R218, R219), which is then wiped and free; `wire` is an error pattern on the ARITH→VAULT
channel. Material whose tag the vault refuses is an engine fault, and the job runs again. -/
def arithLeaves (s : State) (j : Job) (n : Nat) (res wire : Bytes) : State :=
  let rest := goodArith (freeArith s n) n
  match vaultBound j res with
  | none => arithRelease rest j res []
  | some m => match returnOpen (s.aeng n).rk j.origin (onWire wire (returnWrap (s.aeng n).rk j.origin m)) with
    | some m' => arithRelease (crossing rest 0x06 0 2 (s.sched.orders.length + 1)) j res m'
    | none => arithFault s n 0x08

/-- The OUTCOME entry of an arith job (R481). -/
def arithOutcome (s : State) (j : Job) (n st : Nat) : State :=
  capture s 0x15 12 [place 63 56 2 + place 55 40 n + place 39 24 st + place 23 16 (s.aeng n).lastCause + place 15 8 (signIts j),
    jobHandle j.origin]

/-- An arith job ends (R219), its run as `e` says. A job that received a revoke ends
with E_SUPERSEDED (R231). A failed check releases nothing (R228); the pairwise test of KEY_PROVE fails as R172 gives. -/
def arithJobDone (s : State) (o : Origin) (e : ArithEnd) : State :=
  match s.job? o, engineOf s o with
  | some j, some n =>
    if j.phase ≠ .arith then s
    else match j.revokedBy with
      | some by_ => supersede s j by_
      | none =>
        let res := readResult (arithLane j) e.errs (arithOutput j)
        let good := invariantPasses j e.errs res
        let s1 := crossing (arithOutcome s j n (if good then S.OK else S.E_INVARIANT)) 0x05 0 12 1
        if boundReached j then iterLimit (goodArith (freeArith s1 n) n) j
        else if j.code = C.DERIVE_SHARED ∧ sharedOk j = false then dropWith (goodArith (freeArith s1 n) n) j S.E_POINT_INVALID
        else if good then arithLeaves s1 j n res e.wire
        else if j.code = C.KEY_PROVE then proveFail (goodArith (freeArith s1 n) n) j (u16 j.ops 0)
        else invariantFail s1 j n
  | _, _ => s

/-! ### Dispatcher-internal jobs within a step (R216, R218, R222, R226) -/

/-- The output of a dispatcher-internal job reaches the vault in the wrapped form, under a fresh return key (R218). -/
def returnNow (s : State) (o : Origin) (m : Bytes) : Option (Bytes × State) :=
  match draw s 4098 32 false with
  | .ok rk s1 => (returnOpen rk o (returnWrap rk o m)).map fun x => (x, s1)
  | _ => none

/-- A key pair from KEYGEN (R226): its private key returns to the vault under R218. The engine's run has no error, so its pairwise test
passes (assumption 180); none while no engine is free. -/
def keygenNow (s : State) (o : Origin) (cls size : Nat) (seed : Bytes) : Option (Bytes × State) :=
  (arithNow s).bind fun s1 => returnNow s1 o (keyPriv cls size seed)

/-- A signature within a step (R216): none while no engine is free, or at the bound of R222. -/
def signReqNow (s : State) (q : SignReq) (rnd : Bytes) : Option (Bytes × State) :=
  (arithNow s).bind fun s1 =>
    if iterations q.scheme q.priv q.ctx q.msg rnd > 128 then none else some (signOut q rnd, s1)

/-- An arith job ends. -/
def execArithJobDone (o : Origin) (r : ArithEnd) (s : State) : Host.Outcome State Fault Refusal :=
  .next (arithJobDone s o r)

end Sys2Proof.Machine
end

