-- ==== Sys2Proof/Machine/SealPool.lean ====
section
/-! DEFINITION. The seal engine pool (05 R118 to R131): placement, roles, parking, failures and reruns, readmission and
quarantine. A sealing job's arguments are its tree, its extent, the attempt, the manifest position plus one, and the
cluster of the failed attempt plus one. -/

namespace Sys2Proof.Machine

/-! ### Roles and clusters -/

/-- The cluster of an engine (R118). -/
def clusterOf (n : Nat) : Nat := n / 12

/-- The engines of a cluster. -/
def clusterEngines (c : Nat) : List Nat := (List.range 12).map (12 * c + ·)

/-- An IN_SERVICE RESERVED engine of a cluster. -/
def reservedOf (s : State) (c : Nat) : Option Nat :=
  (clusterEngines c).find? fun n => (s.seng n).state == .inService && (s.seng n).reserved

/-- The RESERVED role of a cluster without one goes to its lowest-numbered IN_SERVICE engine: at once when it is free,
else at the end of its job (R123). -/
def handover (s : State) (c : Nat) : State :=
  if (clusterEngines c).any (fun n => (s.seng n).state == .inService && ((s.seng n).reserved || (s.seng n).takesRole)) then s
  else match (clusterEngines c).find? (fun n => (s.seng n).state == .inService) with
    | none => s
    | some n =>
      let e := s.seng n
      s.setSeng n (if e.work.isNone then { e with reserved := true } else { e with takesRole := true })

/-- Class 0 orders that wait in a cluster's lane (R119). -/
def laneWaits (s : State) (c : Nat) : Bool :=
  s.jobs.any fun j => j.cls == 0 && j.lane == some c && j.phase == .started && j.stage == 50

/-- A cluster's jobs in flight: on its engines, parked, and in its lane. -/
def clusterJobs (s : State) (c : Nat) : Nat :=
  ((clusterEngines c).foldl (fun a n => a + b2n (s.seng n).work.isSome + b2n (s.seng n).parked.isSome) 0)
    + (s.jobs.filter fun j => j.cls == 0 && j.lane == some c && j.stage == 50 && j.phase == .started).length

/-- The least of a list by a measure, the first one on a tie. -/
def leastBy (f : Nat → Nat) : List Nat → Option Nat
  | [] => none
  | x :: r => match leastBy f r with
    | some y => if f y < f x then some y else some x
    | none => some x

/-- The engine a cluster has free for a job of class 1 to 3: a free GENERAL engine, else its free RESERVED engine with
no class 0 order waiting (R119, R120). -/
def freeIn (s : State) (c : Nat) : Option Nat :=
  match (clusterEngines c).find? (fun n => (s.seng n).state == .inService && !(s.seng n).reserved && sealIdle (s.seng n)) with
  | some n => some n
  | none => match reservedOf s c with
    | some n => if sealIdle (s.seng n) && !laneWaits s c then some n else none
    | none => none

/-- A free GENERAL engine of a cluster. -/
def freeGeneral (s : State) (c : Nat) : Option Nat :=
  (clusterEngines c).find? fun n => (s.seng n).state == .inService && !(s.seng n).reserved && sealIdle (s.seng n)

/-- The attempt of a sealing job, and the cluster its rerun leaves out. -/
def attemptOf (j : Job) : Nat := max 1 (listGet 0 j.args 2)
def avoidOf (j : Job) (c : Nat) : Bool := listGet 0 j.args 4 == c + 1

/-- The engine for a job of class 1 to 3 (R119): the cluster with the fewest jobs; a rerun takes a GENERAL engine of
another cluster while one is in service (R125). -/
def pickGeneral (s : State) (j : Job) : Option Nat :=
  let others := (List.range 12).filter fun c => !avoidOf j c
  let anyGeneral := others.any fun c => (clusterEngines c).any fun n => (s.seng n).state == .inService && !(s.seng n).reserved
  if attemptOf j > 1 ∧ anyGeneral = true then
    (leastBy (clusterJobs s) (others.filter fun c => (freeGeneral s c).isSome)).bind (freeGeneral s)
  else (leastBy (clusterJobs s) ((List.range 12).filter fun c => (freeIn s c).isSome)).bind (freeIn s)

/-- The cluster a class 0 order goes to (R119): its RESERVED engine free, then holding class 1 to 3 work, then class 0
work. -/
def pickLane (s : State) (j : Job) : Option Nat :=
  let cs := (List.range 12).filter fun c => (reservedOf s c).isSome && !avoidOf j c
  let eng := fun c => s.seng ((reservedOf s c).getD 0)
  let g1 := cs.filter fun c => (eng c).work.isNone
  let g2 := cs.filter fun c => (eng c).work.any (fun w => w.cls != 0)
  if g1 ≠ [] then leastBy (clusterJobs s) g1
  else if g2 ≠ [] then leastBy (clusterJobs s) g2 else leastBy (clusterJobs s) cs

/-- Whether any engine the class may use is in service (R126). -/
def anyUsable (s : State) (cls : Nat) (j : Job) : Bool :=
  if cls = 0 then (pickLane s j).isSome else (List.range 144).any fun n => (s.seng n).state == .inService

/-- Whether a rerun of the same class waits that an engine could take: it goes ahead of new work (R125). -/
def rerunWaits (s : State) (j : Job) (n : Nat) : Bool :=
  attemptOf j == 1 && s.jobs.any fun k => k.origin != j.origin && k.cls == j.cls && k.stage == 50 && k.phase == .started &&
    (sealJob k || k.code == C.DIGEST_ONLY) && attemptOf k > 1 && !avoidOf k (clusterOf n)

/-- A command ends with E_ENGINE_FAIL (R126). -/
def engineExhausted (s : State) (j : Job) : State := dropWith (s.incRegField R.SEP_RERUN_COUNT 31 0) j S.E_ENGINE_FAIL

/-- The lane of a class 0 job: the one it waits in, while its cluster can serve it, else the one that it is sent to (R119). -/
def laneOf (s : State) (j : Job) : Option Nat :=
  if j.cls ≠ 0 then none
  else match j.lane with
    | some c => if (reservedOf s c).isSome && !avoidOf j c then some c else pickLane s j
    | none => pickLane s j

/-- A class 0 order is put in a cluster's lane, on one of its credits (R85, R119); the choice is journalled. Without a credit
it stays with the scheduler. -/
def enterLane (s : State) (j : Job) : State × Job :=
  let c := laneOf s j
  if c = j.lane then (s, j)
  else
    let s1 := match j.lane with | some d => giveCredit s (.work d) j.origin | none => s
    match c with
    | none => (s1, { j with lane := none })
    | some d =>
      if creditFree s1 (.work d) then
        (crossing (takeCredit s1 (.work d) j.origin) 0x08 d 0 ((clusterJobs s1 d) + 1), { j with lane := some d })
      else (s1, { j with lane := none })

/-- The engine that takes a job now (R119, R125). -/
def engineFor (s : State) (j : Job) : Option Nat :=
  let n := if j.cls = 0 then (j.lane.bind (reservedOf s)).filter fun n => (s.seng n).work.isNone else pickGeneral s j
  n.filter fun n => !rerunWaits s j n

/-- Place a job on an engine (R119), or leave it waiting at stage 50; `start` begins the attempt. -/
def placeSeal (s : State) (j : Job) (start : State → Job → Nat → State) : State :=
  if anyUsable s j.cls j = false then engineExhausted s j
  else
    let (s0, j0) := enterLane s j
    let j1 := { j0 with stage := 50, phase := .started }
    let s1 := s0.setJob j1
    match engineFor s1 j1 with
    | none => s1
    | some n =>
      let s2 := match j1.lane with
        | some d => giveCredit s1 (.work d) j1.origin
        | none => crossing s1 0x08 (clusterOf n) 1 1
      start s2 { j1 with lane := none } n

/-- A submission's job leaves its engine. -/
def leaveSeng (s : State) (o : Origin) : State := { s with sealEngines := s.sealEngines.mapVal {} (freeSeng o) }

/-! ### Parking (R121) -/

/-- Slice boundaries inside the passes of a job: every 4,096 bytes of the AAD, of the source, and of the second pass of a GCM-SIV
SEAL (R120). -/
def sliceBoundaries (j : Job) : Nat :=
  let inner := fun len : Nat => (len - 1) / 4096
  let src := (hostRef j.ops 0).len
  if j.code = C.DIGEST_ONLY then inner src
  else inner (hostRef j.ops 32).len + inner src + (if j.code = C.SEAL ∧ u8 j.ops 54 = 1 then inner src else 0)

/-- A RESERVED engine at a slice boundary parks its class 1 to 3 job for a class 0 order that waits: each time at a boundary of
the job later than the one before (R120, R121). -/
def slicePark (s : State) (n : Nat) : State :=
  let e := s.seng n
  match e.work with
  | some w =>
    let left := match s.job? w.origin with | some j => decide (w.slice < sliceBoundaries j) | none => false
    if n < 144 ∧ e.reserved = true ∧ w.cls ≠ 0 ∧ e.parked = none ∧ laneWaits s (clusterOf n) = true ∧ left = true then
      s.setSeng n { e with work := none, parked := some { w with slice := w.slice + 1 } }
    else s
  | none => s

/-- A slice boundary with class 0 work waiting (R121). -/
def execReservedSlicePark (n : Nat) (s : State) : Host.Outcome State Fault Refusal := .next (slicePark s n)

/-- With no class 0 order waiting, the parked job resumes (R121). -/
def resumeParked (s : State) (n : Nat) : State :=
  let e := s.seng n
  if n < 144 ∧ e.work = none ∧ e.parked ≠ none ∧ (e.reserved = false ∨ laneWaits s (clusterOf n) = false) then
    s.setSeng n { e with work := e.parked, parked := none }
  else s

/-- The parked job resumes (R121). -/
def execParkedJobResume (n : Nat) (s : State) : Host.Outcome State Fault Refusal := .next (resumeParked s n)

/-! ### Failures (R124 to R128) -/

/-- An engine enters QUARANTINED (R125, R129): it gives up its role, an ENGINE_QUARANTINE that waits ends. -/
def quarantineSeal (s : State) (n cause : Nat) : State :=
  let e := s.seng n
  let s1 := s.setSeng n { e with state := .quarantined, lastCause := cause, reserved := false, takesRole := false,
                                 work := none, parked := none }
  let s3 := handover (recordEvent s1 0x8D01 n cause 2) (clusterOf n)
  let s2 := if dmdDegraded s3 then flagClass0 s3 else s3
  match engineWaiter s2 C.ENGINE_QUARANTINE n .quiesce with
  | some j => okJob s2 j []
  | none => s2

/-! ### Engine states (R129) -/

/-- The last job of a DRAINING engine has ended: QUARANTINED with LAST_CAUSE 0x20. -/
def engineDrained (s : State) (n : Nat) : State :=
  let e := s.seng n
  if n ≥ 144 ∨ e.state ≠ .draining ∨ sealIdle e = false then s else quarantineSeal s n 0x20

/-- A DRAINING engine's last job ends (R129). -/
def execEngineDrained (n : Nat) (s : State) : Host.Outcome State Fault Refusal := .next (engineDrained s n)

/-- The readmission tests of an engine end (R129); `failed` are the FAILED_TESTS bits. -/
def engineTestDone (s : State) (n failed : Nat) : State :=
  let e := s.seng n
  if n ≥ 144 ∨ e.state ≠ .testing ∨ failed ≥ 128 then s
  else
    let e' := if failed = 0 then { e with state := .inService, reserved := false, takesRole := false }
      else { e with readmitFails := e.readmitFails + 1, lastCause := 0x11,
                    state := if e.readmitFails + 1 ≥ 3 then .retired else .quarantined }
    let s1 := s.setSeng n e'
    let s2 := if e'.state = .retired then recordEvent s1 0x8D01 n 0x11 4 else handover s1 (clusterOf n)
    match engineWaiter s2 C.ENGINE_READMIT n .engineTest with
    | some j => endJob s2 j (if failed = 0 then S.OK else S.E_KAT_FAIL) (readmitResult e'.state.num e'.readmitFails failed) false
    | none => s2

/-- A seal engine's readmission tests end (R129). -/
def execEngineTestDone (n failed : Nat) (s : State) : Host.Outcome State Fault Refusal := .next (engineTestDone s n failed)

/-- ENGINE_READMIT (R129). -/
def engineReadmit (j : Job) (s : State) : State :=
  let n := u8 j.ops 0
  if !zeroAt j.ops 1 7 || n ≥ 144 then dropWith s j S.E_BAD_OPERAND
  else if (s.seng n).state ≠ .quarantined then dropWith s j S.E_ENGINE_STATE
  else (s.setSeng n { s.seng n with state := .testing }).setJob { j with phase := .engineTest, args := [n] }

/-- ENGINE_READMIT. -/
def execEngineReadmit (o : Origin) (s : State) : Host.Outcome State Fault Refusal :=
  .next (runCommand C.ENGINE_READMIT o s engineReadmit)

/-- ENGINE_QUARANTINE (R129): commit point, the entry to DRAINING; a RESERVED engine gives up its role (R123). -/
def engineQuarantine (j : Job) (s : State) : State :=
  let n := u8 j.ops 0
  if !zeroAt j.ops 1 7 || n ≥ 144 then dropWith s j S.E_BAD_OPERAND
  else if (s.seng n).state ≠ .inService then dropWith s j S.E_ENGINE_STATE
  else
    let s1 := s.setSeng n { s.seng n with state := .draining, reserved := false, takesRole := false }
    (handover s1 (clusterOf n)).setJob { j with phase := .quiesce, committed := true, args := [n] }

/-- ENGINE_QUARANTINE. -/
def execEngineQuarantine (o : Origin) (s : State) : Host.Outcome State Fault Refusal :=
  .next (runCommand C.ENGINE_QUARANTINE o s engineQuarantine)

end Sys2Proof.Machine
end

