-- ==== Sys2Proof/Machine/Seal.lean ====
section
/-! DEFINITION. Sealing and recall (04): SEAL, RECALL, VERIFY, DIGEST_ONLY and the end of their job on an engine. -/

namespace Sys2Proof.Machine

/-! ### Fields -/

/-- MODE and DGST_ALG values (R89). -/
def modeOk (m : Nat) : Bool := m ≤ 1
def algOk (a : Nat) : Bool := 1 ≤ a && a ≤ 3

/-- The digest of a DGST_ALG. -/
def digestOf (alg : Nat) (b : Bytes) : Bytes := if alg = 1 then sha384 b else if alg = 2 then sha512 b else sha3_512 b

/-- What a SEAL, RECALL or VERIFY is about. -/
structure SealSpec where
  mode : Nat
  alg : Nat
  epoch : Nat
  index : Nat
  src : HostRef
  dst : HostRef
  aad : HostRef

/-- The RECORD of a RECALL or VERIFY (R100). -/
def recordOf (j : Job) : Bytes := slice j.ops 64 128

/-- The description of a sealing job from its operands (R95, R98, R100). -/
def specOf (j : Job) : SealSpec :=
  let o := j.ops
  if j.code = C.SEAL then
    { mode := u8 o 54, alg := u8 o 55, epoch := u8 o 53 % 16, index := leNat (slice o 48 5), src := hostRef o 0,
      dst := hostRef o 16, aad := hostRef o 32 }
  else
    let r := recordOf j
    { mode := u8 r 11, alg := u8 r 12, epoch := u8 r 13 % 16, index := leNat (slice r 16 5), src := hostRef o 0,
      dst := hostRef o 16, aad := hostRef o 32 }

/-- The IV (R93). -/
def ivOf (p : SealSpec) : Bytes := leBytes 1 p.epoch ++ leBytes 5 p.index ++ leBytes 1 p.mode ++ zeros 5

/-- The context block (R94). -/
def contextBlock (p : SealSpec) : Bytes :=
  leBytes 1 1 ++ leBytes 1 p.mode ++ leBytes 1 p.alg ++ leBytes 1 p.epoch ++ leBytes 5 p.index ++ leBytes 5 p.src.len
    ++ leBytes 3 p.aad.len ++ zeros 15

/-- The data key (R92). -/
def dataKey (leaf nonce : Bytes) : Bytes :=
  let block := fun i => cmac leaf (leBytes 1 i ++ ascii "GV-DK" ++ zeros 1 ++ nonce ++ [1, 0])
  block 1 ++ block 2

/-- An AAD reference of length 0 names no address and no port (R96). -/
def aadOk (r : HostRef) : Bool := r.len != 0 || (r.addr == 0 && r.port == 0)

/-- Whether the buffers satisfy R106. -/
def buffersOk (j : Job) (p : SealSpec) : Bool :=
  !(buffersMeet p.dst p.src || buffersMeet p.dst p.aad || buffersMeet p.dst j.result || buffersMeet j.result p.src
    || buffersMeet j.result p.aad)

/-! ### The checks of R96 and R100 -/

/-- The manifest rows of R96. -/
def manifestCheck (s : State) (j : Job) : Option Nat :=
  let m := s.man (u16 j.ops 56)
  if bitOf (u8 j.ops 58) 0 = false then none
  else if m.state = .free ∨ m.tenant ≠ j.tenant then some S.E_MANIFEST
  else if m.state = .closing then some S.E_MANIFEST_CLOSED
  else failIf (m.highPos ≥ m.capacity) S.E_MANIFEST_FULL

/-- The checks of SEAL (R96). -/
def sealCheck (s : State) (j : Job) : Option Nat :=
  let o := j.ops
  let p := specOf j
  firstFail [failIf (!zeroAt o 59 5 || u8 o 58 / 2 != 0 || u8 o 53 / 16 != 0 || !modeOk p.mode || !algOk p.alg ||
      (!bitOf (u8 o 58) 0 && u16 o 56 != 0) || !aadOk p.aad) S.E_BAD_OPERAND,
    refCheck s j p.src 4096 4294967296, refCheck s j p.dst p.src.len p.src.len, refCheck s j p.aad 0 65536,
    failIf (j.cls == 0 && (p.src.len != 4096 || p.mode != 0 || p.aad.len > 512)) S.E_CLASS,
    failIf (!buffersOk j p) S.E_OVERLAP, treeCheck s j p.epoch, manifestCheck s j]

/-- Whether a seal record is well formed (R98 to R100). -/
def recordOk (r : Bytes) : Bool :=
  u8 r 10 == 1 && modeOk (u8 r 11) && algOk (u8 r 12) && u8 r 13 / 16 == 0 && u16 r 14 / 8 == 0 && u8 r 31 == 0
    && u16 r 44 / 4096 == 0 && u16 r 46 == 0 && decide (4096 ≤ leNat (slice r 24 5) ∧ leNat (slice r 24 5) ≤ 4294967296)

/-- The checks of RECALL and VERIFY (R100). An AAD as long as RECORD.AAD_LEN gives passes, above 65,536 bytes too (DESIGN CHOICE,
assumption 184). -/
def recallCheck (s : State) (j : Job) : Option Nat :=
  let o := j.ops
  let p := specOf j
  let r := recordOf j
  let ver := j.code == C.VERIFY
  firstFail [failIf (!zeroAt o 49 15 || u8 o 48 / 8 != 0 || (ver && (!zeroAt o 16 16 || bitOf (u8 o 48) 2)) || !aadOk p.aad)
      S.E_BAD_OPERAND,
    refCheck s j p.src 0 maxLen, refCheck s j p.aad 0 maxLen, if ver then none else refCheck s j p.dst 0 maxLen,
    failIf (!recordOk r) S.E_RECORD_FORMAT,
    failIf (p.src.len != leNat (slice r 24 5) || (!ver && p.dst.len != leNat (slice r 24 5)) || p.aad.len != leNat (slice r 21 3))
      S.E_RECORD_FORMAT,
    failIf (j.cls == 0 && (p.src.len != 4096 || p.aad.len > 512 || bitOf (u8 o 48) 2)) S.E_CLASS,
    failIf (!buffersOk j p) S.E_OVERLAP, treeCheck s j p.epoch]

/-- The checks of DIGEST_ONLY. -/
def digestOnlyCheck (s : State) (j : Job) : Option Nat :=
  firstFail [failIf (!zeroAt j.ops 17 15 || !algOk (u8 j.ops 16)) S.E_BAD_OPERAND, refCheck s j (hostRef j.ops 0) 0 maxLen,
    failIf (buffersMeet (hostRef j.ops 0) j.result) S.E_OVERLAP]

/-! ### Attempts -/

/-- An engine takes an attempt: its reads begin (R119). -/
def sealReads (s : State) (j : Job) (n : Nat) (w : SealWork) (reads : List HostRef) : State :=
  let s1 := s.setSeng n { s.seng n with work := some w }
  let j1 := { j with data := [], phase := .engine, afterReads := .engine }
  match reads with
  | [] => s1.setJob j1
  | r :: _ => match issueReads s1 j1 reads with
    | some (s2, j2) => s2.setJob j2
    | none => dropWith (noteBlocked s1 (dmaBind s1 j1 r.port)) j1 S.E_HOST_DMA

/-- The leaf and its key go to the engine with the nonce of the attempt (R91, R160): drawn anew for a SEAL. -/
def sealDeliver (s : State) (j : Job) (n : Nat) (leaf : Bytes) : State :=
  let p := specOf j
  let t := treeNum j.tenant p.epoch
  drawIf s j (drbgOf j) (if j.code = C.SEAL then 12 else 0) fun bs s1 =>
    let nonce := if j.code = C.SEAL then bs else slice (recordOf j) 32 12
    let s2 := s1.setTree t { s1.tree t with pathCache := some p.index }
    let aad := if p.aad.len = 0 then [] else [p.aad]
    let src := if j.code = C.SEAL ∧ p.mode = 1 then [p.src, p.src] else [p.src]
    sealReads s2 { j with holds := [(s2.tree t).rootSlot] } n
      { origin := j.origin, attempt := attemptOf j, nonce := nonce, dk := dataKey leaf nonce, tree := t, extent := p.index, cls := j.cls }
      (aad ++ src)

/-- The leaf order and the key delivery of an attempt (R96, R160, R190). The order binds the job to the frontier when it is taken:
`keep` holds the leaf, for later attempts too (R190). -/
def sealStart (s : State) (j : Job) (n : Nat) : State :=
  let p := specOf j
  let t := treeNum j.tenant p.epoch
  let root := (s.tree t).rootSlot
  match j.keep with
  | leaf :: _ => sealDeliver s { j with args := [t, p.index, attemptOf j, listGet 0 j.args 3, listGet 0 j.args 4] } n leaf
  | [] => takeOrder s j [root] fun s1 j1 =>
    match stagedCheck s1 j1 p.epoch p.index with
    | some st => dropWith s1 j1 st
    | none => withFrontier s1 j1 t <|
      match firstFail [leafCheck s1 j1 p.epoch p.index,
          slotCheck s1 j1 .use root (fun h => h.cls == 3) 1 (if j.code = C.SEAL then 1 else 2)] with
      | some st => dropWith s1 j1 st
      | none => match leafKey (s1.tree t).frontier p.index with
        | none => dropWith s1 j1 S.E_AGATE_SHREDDED
        | some leaf =>
          let j2 := { j1 with args := [t, p.index, attemptOf j1, listGet 0 j1.args 3, listGet 0 j1.args 4], keep := [leaf] }
          sealDeliver (s1.setJob j2) j2 n leaf

/-- DIGEST_ONLY on an engine: no key. -/
def digestStart (s : State) (j : Job) (n : Nat) : State :=
  let src := hostRef j.ops 0
  sealReads s { j with args := [0, 0, attemptOf j, 0, listGet 0 j.args 4] } n { origin := j.origin, attempt := attemptOf j, cls := j.cls }
    (if src.len = 0 then [] else [src])

/-- Assign the manifest position of a SEAL that passed R96 (R116). -/
def assignPosition (s : State) (j : Job) : State × Job :=
  if bitOf (u8 j.ops 58) 0 then
    let m := s.man (u16 j.ops 56)
    (s.setMan (u16 j.ops 56) { m with highPos := m.highPos + 1 },
     { j with args := [0, 0, 1, m.highPos + 1, 0] })
  else (s, { j with args := [0, 0, 1, 0, 0] })

/-- SEAL (R96): checks, manifest position, then an engine. -/
def sealCmd (j : Job) (s : State) : State :=
  if j.stage = 50 then placeSeal s j sealStart
  else match sealCheck s j with
    | some st => dropWith s j st
    | none =>
      let (s1, j1) := assignPosition s j
      if bitOf (u8 j.ops 58) 0 then withManifest s j (u16 j.ops 56) (placeSeal s1 j1 sealStart)
      else placeSeal s1 j1 sealStart

/-- SEAL. -/
def execSeal (o : Origin) (s : State) : Host.Outcome State Fault Refusal := .next (runCommand C.SEAL o s sealCmd)

/-- RECALL and VERIFY (R100). -/
def recallCmd (j : Job) (s : State) : State :=
  if j.stage = 50 then placeSeal s j sealStart
  else match recallCheck s j with
    | some st => dropWith s j st
    | none => placeSeal s j sealStart

/-- RECALL. -/
def execRecall (o : Origin) (s : State) : Host.Outcome State Fault Refusal := .next (runCommand C.RECALL o s recallCmd)

/-- VERIFY takes the reads and checks of RECALL (R105). -/
def verifyCmd (j : Job) (s : State) : State := recallCmd j s

/-- VERIFY. -/
def execVerify (o : Origin) (s : State) : Host.Outcome State Fault Refusal := .next (runCommand C.VERIFY o s verifyCmd)

/-- DIGEST_ONLY. -/
def digestOnlyCmd (j : Job) (s : State) : State :=
  if j.stage = 50 then placeSeal s j digestStart
  else match digestOnlyCheck s j with
    | some st => dropWith s j st
    | none => placeSeal s j digestStart

/-- DIGEST_ONLY. -/
def execDigestOnly (o : Origin) (s : State) : Host.Outcome State Fault Refusal :=
  .next (runCommand C.DIGEST_ONLY o s digestOnlyCmd)

/-! ### The end of the job -/

/-- AES-256-GCM or GCM-SIV output of a pass (R89, R90, R101). -/
def cipher (mode : Nat) (dk iv tag input : Bytes) : Bytes :=
  (List.range input.length).map (if mode = 0 then Config.gcmCrypt dk iv input else Config.sivCrypt dk iv tag input)

/-- The tag over associated data and, for GCM the ciphertext, for GCM-SIV the plaintext. -/
def tagOf (mode : Nat) (dk iv aad ct pt : Bytes) : Bytes :=
  digestBytes 16 (if mode = 0 then Config.gcmTag dk iv aad ct else Config.sivTag dk iv aad pt)

/-- The status of a success: I_RETRIED after a rerun, counted in RERUNS (R126). -/
def sealOk (s : State) (w : SealWork) : Nat × State :=
  if w.attempt > 1 then (S.I_RETRIED, s.incRegField R.SEP_RERUN_COUNT 63 32) else (S.OK, s)

/-- End a sealing command; APPROVED as MODE gives (R90). -/
def sealEnd (s : State) (j : Job) (st : Nat) (res : Bytes) (mode : Nat) : State := endJob s j st res (mode == 0)

/-- The seal record (R98). -/
def sealRecord (s : State) (j : Job) (p : SealSpec) (w : SealWork) (tag digest : Bytes) : Bytes :=
  let inMan := bitOf (u8 j.ops 58) 0
  let id := if inMan then (s.man (u16 j.ops 56)).id else 0
  leBytes 8 id ++ leBytes 2 (listGet 0 j.args 3 - 1) ++ leBytes 1 1 ++ leBytes 1 p.mode ++ leBytes 1 p.alg ++ leBytes 1 p.epoch
    ++ leBytes 2 (b2n inMan + 2 * b2n (decide (w.attempt > 1)) + 4 * b2n (p.mode == 0)) ++ leBytes 5 p.index ++ leBytes 3 p.aad.len
    ++ leBytes 5 p.src.len ++ leBytes 2 w.tree ++ zeros 1 ++ fit 12 w.nonce ++ leBytes 2 j.tenant ++ zeros 2 ++ fit 16 tag ++ fit 64 digest

/-- The status that the engine gives a SEAL (R96): in mode 1 the two passes must have read the same source. -/
def sealStatus (j : Job) (w : SealWork) : Nat :=
  let p := specOf j
  let d := if p.aad.len = 0 then [] :: j.data else j.data
  if p.mode = 1 ∧ Config.polyval w.dk (ivOf p) (listGet [] d 1) ≠ Config.polyval w.dk (ivOf p) (listGet [] d 2) then S.E_SOURCE_CHANGED
  else S.OK

/-- A SEAL ends (R97): ciphertext to DST, the record to RESULT; `keep` holds the digest that the manifest takes when the command
completes (R113, R115). -/
def sealDone (s : State) (j : Job) (w : SealWork) : State :=
  let p := specOf j
  let d := if p.aad.len = 0 then [] :: j.data else j.data
  let host := listGet [] d 0
  let src := listGet [] d 1
  let again := if p.mode = 1 then listGet [] d 2 else src
  if sealStatus j w ≠ S.OK then sealEnd s j (sealStatus j w) [] p.mode
  else
    let aad := contextBlock p ++ host
    let tag0 := if p.mode = 1 then tagOf 1 w.dk (ivOf p) aad [] src else []
    let ct := cipher p.mode w.dk (ivOf p) tag0 again
    let tag := if p.mode = 1 then tag0 else tagOf 0 w.dk (ivOf p) aad ct src
    match hostWrite s j p.dst 0 ct true with
    | none => sealEnd (noteBlocked s (dmaBind s j p.dst.port)) j S.E_HOST_DMA [] p.mode
    | some (s1, j1) =>
      let rec_ := sealRecord s1 j p w tag (digestOf p.alg src)
      let (st, s2) := sealOk (capture s1 0x13 14 (digestBody 1 ct)) w
      sealEnd s2 { j1 with keep := [sha384 rec_] } st rec_ p.mode

/-- After a failed tag or digest: with SCRUB, DST is overwritten with zeros first (R103, R104). -/
def recallFail (s : State) (j : Job) (p : SealSpec) (st : Nat) : State :=
  if bitOf (u8 j.ops 48) 2 ∧ j.code = C.RECALL then
    match hostWrite s j p.dst 0 (zeros p.dst.len) true with
    | some (s1, j1) => sealEnd (capture s1 0x13 14 (digestBody 1 (zeros p.dst.len))) j1 st [] p.mode
    | none => sealEnd (noteBlocked s (dmaBind s j p.dst.port)) j S.E_HOST_DMA [] p.mode
  else sealEnd s j st [] p.mode

/-- The status that the engine gives a RECALL or VERIFY (R102, R103): the tag over its input, then with CHECK the digest of the
plaintext, against those of the record. -/
def recallStatus (j : Job) (w : SealWork) : Nat :=
  let p := specOf j
  let r := recordOf j
  let d := if p.aad.len = 0 then [] :: j.data else j.data
  let ct := listGet [] d 1
  let pt := cipher p.mode w.dk (ivOf p) (slice r 48 16) ct
  if tagOf p.mode w.dk (ivOf p) (contextBlock p ++ listGet [] d 0) ct pt ≠ slice r 48 16 then S.E_TAG_FAIL
  else if bitOf (u8 j.ops 48) 0 ∧ fit 64 (digestOf p.alg pt) ≠ slice r 64 64 then S.E_DIGEST_MISMATCH else S.OK

/-- A RECALL or VERIFY ends (R101 to R105): a RECALL writes its plaintext before the tag is known. -/
def recallDone (s : State) (j : Job) (w : SealWork) : State :=
  let p := specOf j
  let d := if p.aad.len = 0 then [] :: j.data else j.data
  let pt := cipher p.mode w.dk (ivOf p) (slice (recordOf j) 48 16) (listGet [] d 1)
  match (if j.code = C.RECALL then (hostWrite s j p.dst 0 pt true).map (fun (t, k) => (capture t 0x13 14 (digestBody 1 pt), k))
      else some (s, j)) with
  | none => sealEnd (noteBlocked s (dmaBind s j p.dst.port)) j S.E_HOST_DMA [] p.mode
  | some (s1, j1) =>
    if recallStatus j w ≠ S.OK then recallFail s1 j1 p (recallStatus j w)
    else
      let (st, s2) := sealOk s1 w
      sealEnd s2 j1 st (if bitOf (u8 j.ops 48) 1 then fit 64 (digestOf p.alg pt) else []) p.mode

/-- A DIGEST_ONLY ends: its digest, padded with zeros. -/
def digestOnlyDone (s : State) (j : Job) (w : SealWork) : State :=
  let (st, s1) := sealOk s w
  endJob s1 j st (fit 64 (digestOf (u8 j.ops 16) (j.data.headD []))) true

/-- The work an engine runs for a submission. -/
def sealWorkOf (s : State) (o : Origin) : Option (Nat × SealWork) :=
  s.sealEngines.findSome? fun e => match e.2.work with
    | some w => if w.origin = o then some (e.1, w) else none
    | none => none

/-- The OUTCOME entry of an attempt on a seal engine (R481), and its way to DISPATCH through the completion merge (R477). -/
def sealOutcome (s : State) (o : Origin) (n st cause : Nat) : State :=
  crossing (capture s 0x15 (clusterOf n) [place 63 56 1 + place 55 40 n + place 39 24 st + place 23 16 cause, jobHandle o])
    0x05 0 (clusterOf n) 1

/-- The status of an engine's job. -/
def engineStatus (j : Job) (w : SealWork) : Nat :=
  if j.code = C.SEAL then sealStatus j w else if j.code = C.RECALL ∨ j.code = C.VERIFY then recallStatus j w else S.OK

/-- The DATA_DIGEST entry of the AAD of a SEAL, RECALL or VERIFY that has one (R481). -/
def journalAad (s : State) (j : Job) : State :=
  if j.code = C.DIGEST_ONLY ∨ (specOf j).aad.len = 0 then s else capture s 0x13 14 (digestBody 2 (j.data.headD []))

/-- The microsequence of a job reaches its end: the engine clears its keys and the command completes. -/
def sealJobDone (s : State) (o : Origin) : State :=
  match s.job? o, sealWorkOf s o with
  | some j, some (n, w) =>
    if j.phase ≠ .engine ∨ j.revokedBy.isSome = true then s
    else
      let s1 := sealOutcome (leaveSeng s o) o n (engineStatus j w) (s.seng n).lastCause
      let j1 := { j with holds := [] }
      let s2 := journalAad (journalPayload s1 j1 (j.data.getLastD [])) j
      if j.code = C.SEAL then sealDone s2 j1 w
      else if j.code = C.RECALL ∨ j.code = C.VERIFY then recallDone s2 j1 w
      else if j.code = C.DIGEST_ONLY then digestOnlyDone s2 j1 w else s
  | _, _ => s

/-- A sealing job ends on its engine (R97, R101, R105). -/
def execSealEngineJobDone (o : Origin) (s : State) : Host.Outcome State Fault Refusal := .next (sealJobDone s o)

/-! ### Failures (R124 to R128) -/

/-- What a failed attempt of a SEAL or RECALL has written to DST: the first bytes of its output, as many as the engine had
written, a free number (R108, R127). -/
def attemptWrites (s : State) (j : Job) (w : SealWork) : State :=
  let p := specOf j
  let d := if p.aad.len = 0 then [] :: j.data else j.data
  let src := listGet [] d 1
  if j.reads ≠ [] ∨ d.length < 2 ∨ ¬ (j.code = C.SEAL ∨ j.code = C.RECALL) then s
  else
    let tag := if j.code = C.RECALL then slice (recordOf j) 48 16
      else if p.mode = 1 then tagOf 1 w.dk (ivOf p) (contextBlock p ++ listGet [] d 0) [] src else []
    let n := leNat (s.freeBytes 5) % (src.length + 1)
    match hostWrite (s.tookFree 5) j p.dst 0 ((cipher p.mode w.dk (ivOf p) tag src).take n) true with
    | some (s1, j1) => s1.setJob j1
    | none => s

/-- A job whose attempt failed is rerun from the start, or ends after its third attempt (R125, R126); its writes stand (R127). A class 0 rerun is
out of bound (R128). -/
def rerunSeal (s0 : State) (n : Nat) (w : SealWork) : State :=
  match s0.job? w.origin with
  | none => s0
  | some j0 =>
    let s := attemptWrites s0 j0 w
    let j := (s.job? w.origin).getD j0
    let j1 := { j with args := [w.tree, w.extent, attemptOf j + 1, listGet 0 j.args 3, clusterOf n + 1], oob := j.oob || j.cls == 0,
                       reads := [], data := [], holds := [], phase := .started, stage := 50, lane := none }
    if j.revokedBy.isSome then
      supersede (s.setJob { j1 with stage := 50 }) j1 (j.revokedBy.getD 0)
    else if attemptOf j ≥ 3 ∨ anyUsable s j.cls j1 = false then engineExhausted s j1
    else s.setJob j1

/-- An attempt fails on an engine (R124, R125): the running job and a parked one are rerun. -/
def attemptFail (s : State) (n cause : Nat) : State :=
  let e := s.seng n
  if n ≥ 144 ∨ sealIdle e = true ∨ ¬ (e.state = .inService ∨ e.state = .draining) then s
  else
    let s1 := s.setSeng n { e with failCount := satInc 32 e.failCount }
    let s2 := quarantineSeal s1 n cause
    let s3 := match e.work with
      | some w => rerunSeal (sealOutcome s2 w.origin n S.E_ENGINE_FAIL cause) n w
      | none => s2
    match e.parked with | some w => rerunSeal s3 n w | none => s3

/-- A seal engine detects one of the failures of R124 other than the watchdog. -/
def execEngineAttemptFail (n cause : Nat) (s : State) : Host.Outcome State Fault Refusal :=
  .next (if cause = 0 ∨ cause > 6 ∨ cause = 5 then s else attemptFail s n cause)

/-- The watchdog of a seal engine fires (R124). -/
def execSealEngineWatchdog (n : Nat) (s : State) : Host.Outcome State Fault Refusal := .next (if n < 144 ∧ sealIdle (s.seng n) = false then timerTaken (attemptFail s n 5) (clusterOf n) else s)

end Sys2Proof.Machine
end

