-- ==== Sys2Proof/Machine/Manifests.lean ====
section
/-! DEFINITION. Manifests (04 R114 to R117): MANIFEST_OPEN, MANIFEST_CLOSE, and the forming of the header. -/

namespace Sys2Proof.Machine

/-- The holder of a manifest: the tenant, or the owner's colour. -/
def manHolder (j : Job) : Nat := if j.owner then 0xF001 else j.tenant

/-- Manifests OPEN or CLOSING, of one holder. -/
def manHeld (s : State) (h : Nat) : Nat := (s.manifests.filter fun e => e.2.tenant == h && e.2.state != .free).length

/-- The next free handle from `h` on, among 1 to 4,096: handle 0 is not used. -/
def nextHandle (s : State) : Nat → Nat → Nat
  | 0, h => h
  | n + 1, h => if h = 0 ∨ h > 4096 then nextHandle s n 1 else if (s.man h).state = .free then h else nextHandle s n (h + 1)

/-- The check of one attestation slot of MANIFEST_OPEN: its class and size, ARITH in DEST, SIGN in USAGE. -/
def manSlotCheck (s : State) (j : Job) (n cls size : Nat) : Option Nat :=
  if n = 0xFFFF then none else slotCheck s j .use n (fun h => h.cls == cls && h.size == size) 2 4

/-- The checks of MANIFEST_OPEN before its order: R117 gives no order of the statuses (DESIGN CHOICE, assumption 187). -/
def manOpenCheck (j : Job) : Option Nat :=
  let o := j.ops
  failIf (u16 o 4 == 0 || u16 o 4 > 1024 || u16 o 6 != 0 || (u16 o 0 == 0xFFFF && u16 o 2 == 0xFFFF)) S.E_BAD_OPERAND

/-- The checks of its order: the slots named, then the quota (R117). -/
def manOpenSlots (s : State) (j : Job) : Option Nat :=
  firstFail [manSlotCheck s j (u16 j.ops 0) 6 0, manSlotCheck s j (u16 j.ops 2) 10 0,
    failIf (s.manifests.length ≥ 4096 || manHeld s (manHolder j) ≥ 16) S.E_MANIFEST_QUOTA]

/-- SEAL_MAN_POOL.HIGH_WATER (04). -/
def noteManifests (s : State) : State :=
  let n := s.manifests.length
  if n > s.regField R.SEAL_MAN_POOL 31 16 then s.setRegField R.SEAL_MAN_POOL 31 16 n else s

/-- MANIFEST_OPEN (R115): its order names the slots (R175); the manifest's lines take its holder's tag (R272). -/
def manifestOpen (j : Job) (s : State) : State :=
  let o := j.ops
  checked (manOpenCheck j) j s (takeOrder s j ([u16 o 0, u16 o 2].filter (· != 0xFFFF)) fun s1 j1 =>
    checked (manOpenSlots s1 j1) j1 s1 (withDraw s1 j1 (drbgOf j1) 8 fun bs s2 =>
      let h := nextHandle s2 4097 s2.nextManifest
      let m : Manifest := { state := .opened, tenant := manHolder j1, id := u64 bs 0, p384Slot := u16 o 0, mldsaSlot := u16 o 2,
                            capacity := u16 o 4 }
      let (l, n) := manifestLines (h - 1)
      commitOrder s2 j1 (okJob (noteManifests { s2.setMan h m with
        nextManifest := h + 1, mem := allocLines s2.mem l n (manHolder j1) }) j1 (leBytes 2 h ++ zeros 6 ++ leBytes 8 m.id))))

/-- MANIFEST_OPEN. -/
def execManifestOpen (o : Origin) (s : State) : Host.Outcome State Fault Refusal :=
  .next (runCommand C.MANIFEST_OPEN o s manifestOpen)

/-- The statement's length: the header and the signatures named. -/
def stmtLen (m : Manifest) : Nat := 128 + (if m.p384Slot = 0xFFFF then 0 else 96) + (if m.mldsaSlot = 0xFFFF then 0 else 4627)

/-- The checks of MANIFEST_CLOSE; a manifest that is closing may be closed again only when its header is kept and no close runs
(R115, assumption 188). That OUT overlaps RESULT is not checked (DESIGN CHOICE, assumption 185). -/
def manCloseCheck (s : State) (j : Job) : Option Nat :=
  let o := j.ops
  let m := s.man (u16 o 0)
  firstFail [failIf (u8 o 2 / 2 != 0 || !zeroAt o 3 13) S.E_BAD_OPERAND,
    failIf (m.state == .free || m.tenant != manHolder j || (m.state == .closing && (m.header.isNone || m.closer.isSome))) S.E_MANIFEST,
    refCheck s j (hostRef o 16) (if bitOf (u8 o 2) 0 then 0 else stmtLen m) maxLen]

/-- Jobs assigned to a manifest that have not ended. -/
def manBusy (s : State) (h : Nat) : Bool :=
  s.jobs.any fun k => k.code == C.SEAL && bitOf (u8 k.ops 58) 0 && u16 k.ops 56 == h && listGet 0 k.args 3 != 0

/-- The header (R114). -/
def manHeader (s : State) (m : Manifest) : Bytes :=
  let entries := ((List.range m.highPos).map fun p => fit 48 (m.entries.get [] p)).flatten
  leBytes 8 m.id ++ leBytes 1 1 ++ leBytes 1 (b2n (m.p384Slot != 0xFFFF) + 2 * b2n (m.mldsaSlot != 0xFFFF)) ++ leBytes 2 m.capacity
    ++ leBytes 2 m.entries.length ++ leBytes 2 m.highPos ++ (deviceFp s).take 32 ++ sha3_512 entries ++ leBytes 8 s.time ++ zeros 8

/-- The results of MANIFEST_CLOSE. -/
def manResult (m : Manifest) (len : Nat) : Bytes := leBytes 8 m.id ++ leBytes 2 m.entries.length ++ leBytes 2 m.highPos ++ leBytes 4 len

/-- The scheme, the slot, the class and the random input of the signature under way: 0 the P-384 one, 1 the ML-DSA-87 one. -/
def manScheme (m : Manifest) (step : Nat) : Nat × Nat × Nat × Nat :=
  if step = 0 then (1, m.p384Slot, 6, 56) else (6, m.mldsaSlot, 10, 32)

/-- Place the signature under way on an engine. The arguments are the handle and the step. -/
def manPlace (s : State) (j : Job) : State :=
  let (_, slot, cls, rnd) := manScheme (s.man (u16 j.ops 0)) (listGet 0 j.args 1)
  placeArith s j 1 (cls, 0) rnd false [slot] []

/-- The order of the signature under way takes the active key of its slot at the vault arbiter (R171, R175). -/
def manSign (s : State) (j : Job) : State :=
  let m := s.man (u16 j.ops 0)
  let (sc, slot, cls, _) := manScheme m (listGet 0 j.args 1)
  takeOrder s j [slot] fun s1 j1 =>
    checked (manSlotCheck s1 j1 slot cls 0) j1 s1 (withMaterial s1 j1 slot false fun s2 h =>
      let again := (j1.arith.map fun r => r.retried || decide (r.attempt > 1)).getD false
      let q : SignReq := { scheme := sc, priv := h.material, pub := h.pubKey, msg := m.header.getD [] }
      manPlace s2 { j1 with arith := some { op := 1, retried := again, sign := some q } })

/-- The command at the order of a step. -/
def manStep (s : State) (j : Job) (step : Nat) (sigs : Bytes) : State :=
  let j1 := { j with stage := 49, seq := 0, names := [], args := [u16 j.ops 0, step], keep := [sigs], phase := .started }
  manSign (s.setJob j1) j1

/-- Write the statement and free the manifest; a failed write keeps the header (R115). -/
def manWrite (s : State) (j : Job) (sigs : Bytes) : State :=
  let h := u16 j.ops 0
  let m := s.man h
  let bs := (m.header.getD []) ++ sigs
  match hostWrite s j (hostRef j.ops 16) 0 bs true with
  | some (s1, j1) =>
    let (st, s2) := arithOk s1 j1
    endJob (manFree s2 h) j1 st (manResult m bs.length) false
  | none => dropWith (noteBlocked s (dmaBind s j (hostRef j.ops 16).port)) j S.E_HOST_DMA

/-- A signature of the header is made (R114): it stands at the head of `keep`. -/
def manSigned (s : State) (j : Job) : State :=
  let m := s.man (u16 j.ops 0)
  let sigs := listGet [] j.keep 1 ++ j.keep.headD []
  if listGet 0 j.args 1 = 0 ∧ m.mldsaSlot ≠ 0xFFFF then manStep s j 1 sigs else manWrite s j sigs

/-- Form the header once every assigned job has ended (R115): the commit point. -/
def manForm (s : State) (j : Job) : State :=
  let h := u16 j.ops 0
  let m := s.man h
  if bitOf (u8 j.ops 2) 0 then okJob (manFree s h) j (manResult m 0)
  else
    let m1 := { m with header := some (m.header.getD (manHeader s m)) }
    manStep (s.setMan h m1) { j with committed := true } (if m.p384Slot = 0xFFFF then 1 else 0) []

/-- MANIFEST_CLOSE (R115): closes to further seals, then waits for the assigned jobs. Stage 49: a signature's order waits; 50: it
waits for an engine; 51: it is made. -/
def manifestClose (j : Job) (s : State) : State :=
  let h := u16 j.ops 0
  if j.stage = 49 then manSign s j
  else if j.stage = 50 then manPlace s j
  else if j.stage = 51 then manSigned s j
  else checked (manCloseCheck s j) j s
    (let m := s.man h
     let s1 := s.setMan h { m with state := .closing, closer := some j.origin }
     withManifest s j h (if manBusy s1 h then s1.setJob { j with phase := .quiesce, args := [h, 0] } else manForm s1 j))

/-- MANIFEST_CLOSE. -/
def execManifestClose (o : Origin) (s : State) : Host.Outcome State Fault Refusal :=
  .next (runCommand C.MANIFEST_CLOSE o s manifestClose)

/-- Every job assigned to a CLOSING manifest has ended: the waiting close goes on (R115). -/
def manHeaderForm (s : State) (h : Nat) : State :=
  let m := s.man h
  match m.closer.bind (fun o => s.job? o) with
  | some j =>
    if m.state = .closing ∧ j.phase = .quiesce ∧ j.code = C.MANIFEST_CLOSE ∧ manBusy s h = false then
      manForm s { j with phase := .started }
    else s
  | none => s

/-- The header of a closing manifest is formed (R114). -/
def execManifestHeaderForm (h : Nat) (s : State) : Host.Outcome State Fault Refusal := .next (manHeaderForm s h)

end Sys2Proof.Machine
end

