-- ==== Sys2Proof/Machine/Wards.lean ====
section
/-! DEFINITION. The platform guard (14): ward manifests, verification, release, recovery, the SPI filter, the ward
commands. -/

namespace Sys2Proof.Machine

/-! ### Owner signatures (R326, R357) -/

/-- The SCHEME that an owner key's class implies (R326); 0 for a class that signs nothing. -/
def ownerScheme (h : SlotHalf) : Nat :=
  if h.cls = 6 then (if h.size % 8 = 0 then 1 else 2)
  else if h.cls = 7 then 3 else if h.cls = 9 then 4 else if h.cls = 10 then 6 else 0

/-- The checks on an owner key slot (R357): ACTIVE, a signature class, ARITH in DEST, VERIFY in USAGE, its public-key record good
(R150); a zeroised vault takes no order (R178). -/
def ownerKeyCheck (s : State) (n : Nat) : Option Nat :=
  if s.zeroised then some S.E_ZEROISED
  else match activeHalf s n with
  | none => some S.E_SLOT_EMPTY
  | some h =>
    if (openPublic s h).isNone then some S.E_RECORD_FAIL
    else if ownerScheme h = 0 then some S.E_SLOT_CLASS
    else if h.dest &&& 2 ≠ 2 then some S.E_DEST_DENIED
    else if h.usage &&& 8 ≠ 8 then some S.E_USAGE_DENIED else none

/-- Whether an owner signature verifies under a slot's key. -/
def ownerVerifies (s : State) (n : Nat) (msg sig : Bytes) : Bool :=
  match activeHalf s n with
  | some h => Config.verify (ownerScheme h) false ((openPublic s h).getD []) [] msg sig
  | none => false

/-- A check of an owner signature waits: its key passes, and no arith engine is free for the dispatcher-internal order (R216, R362,
R444). -/
def ownerWaits (s : State) (n : Nat) : Bool := (ownerKeyCheck s n).isNone && (arithNow s).isNone

/-- The engine that a check of an owner signature takes. -/
def ownerArith (s : State) : State := (arithNow s).getD s

/-! ### Manifests (R356 to R360) -/

/-- Fields of a manifest's header (R358). -/
def mRegions (m : Bytes) : Nat := u8 m 3
def mSlot (m : Bytes) : Nat := u16 m 4
def mFlag (m : Bytes) (b : Nat) : Bool := bitOf (u8 m 7) b
def mSeq (m : Bytes) : Nat := u32 m 8
/-- Bytes of the header and the entries, which the signature covers. -/
def mBody (m : Bytes) : Nat := 64 + 64 * mRegions m

/-- A region entry (R359). -/
structure Region where
  start : Nat
  len : Nat
  read : Bool
  write : Bool
  measure : Bool
  digest : Bytes
  deriving DecidableEq, Repr

/-- Region entry `k`. -/
def regionAt (m : Bytes) (k : Nat) : Region :=
  let o := 64 + 64 * k
  { start := u32 m o, len := u32 m (o + 4), read := bitOf (u8 m (o + 8)) 0, write := bitOf (u8 m (o + 8)) 1,
    measure := bitOf (u8 m (o + 8)) 2, digest := slice m (o + 16) 48 }

/-- The regions, in order. -/
def regionsOf (m : Bytes) : List Region := (List.range (mRegions m)).map (regionAt m)

/-- The MEASURE regions. -/
def measured (m : Bytes) : List Region := (regionsOf m).filter (·.measure)

/-- One region's own rules (R359). -/
def regionOk (m : Bytes) (k : Nat) : Bool :=
  let r := regionAt m k
  let o := 64 + 64 * k
  u8 m (o + 8) < 8 && u8 m (o + 8) != 0 && zeroAt m (o + 9) 7 && r.len != 0 && r.len % 4096 == 0 && r.start % 4096 == 0 &&
    decide (r.start + r.len ≤ 2 ^ u8 m 6) && !(r.measure && r.write) && (r.measure || allZero r.digest)

/-- Regions ascend and do not overlap. -/
def ascending : List Region → Bool
  | a :: b :: r => decide (a.start + a.len ≤ b.start) && ascending (b :: r)
  | _ => true

/-- Layout, RSVD bits and field ranges of a manifest for a ward (R358 to R360), its length apart. -/
def layoutOk (m : Bytes) (w : Nat) : Bool :=
  u8 m 0 == 1 && u8 m 1 == 0x40 && u8 m 2 == w && 1 ≤ mRegions m && mRegions m ≤ 64 && 32 ≤ mSlot m && mSlot m ≤ 63 &&
    16 ≤ u8 m 6 && u8 m 6 ≤ 32 && u8 m 7 < 16 && u16 m 12 ≤ 1000 && 4 ≤ u8 m 14 && u8 m 14 ≤ 16 && zeroAt m 15 49 &&
    (List.range (mRegions m)).all (regionOk m) && ascending (regionsOf m)

/-- Address of a ward's manifest record (R502). -/
def recAddr (w r : Nat) : Nat := (2048 + 8 * w + 4 * r) * 4096

/-- The manifest of a record whose mark reads 0x5A with erased bytes behind it. -/
def recManifest (s : State) (w r : Nat) : Option Bytes :=
  let a := recAddr w r
  let h := norBytes s a 64
  match [96, 132, 114, 384, 512, 4627].find? (fun n =>
      norByte s (a + mBody h + n) == 0x5A && norByte s (a + mBody h + n + 1) == 0xFF) with
  | some n =>
    let m := norBytes s a (mBody h + n)
    if layoutOk m w then some m else none
  | none => none

/-- The ward's manifest: the valid record with the greater SEQ (R356), with its record number. -/
def wardRecord (s : State) (w : Nat) : Option (Nat × Bytes) :=
  match recManifest s w 0, recManifest s w 1 with
  | some a, some b => some (if mSeq a ≥ mSeq b then (0, a) else (1, b))
  | some a, none => some (0, a)
  | none, some b => some (1, b)
  | none, none => none

/-- The ward's manifest. -/
def wardManifest (s : State) (w : Nat) : Option Bytes := (wardRecord s w).map (·.2)

/-! ### States (R361) -/

/-- The digest-unit origin of a ward's jobs. -/
def wardOrigin (w : Nat) : Origin := .internal (2 ^ 64 + w)

/-- The guard resets the working flash and releases it from power-down (R362 step 1), which leaves it in 3-byte mode. -/
def flashReset (s : State) (w : Nat) : State := [0x66, 0x99, 0xAB].foldl (fun t op => t.send (.spi w [op])) s

/-- A verification begins its flash access (R362), taking a guard context when one is free. -/
def startVerify (s0 : State) (w : Nat) : State :=
  let s := flashReset s0 w
  let v := s.ward w
  let s1 := s.setWard w { v with state := .verifying, settling := false, rstHigh := false, auxHigh := false,
                                 verifications := satInc 32 v.verifications, failedRegions := 0 }
  match guardCtx s1 with
  | some k => if (ctxOf s1 (wardOrigin w)).isSome then s1 else setCtx s1 k { origin := wardOrigin w, ward := some w }
  | none => s1

/-- A ward with WPG high begins in SERVICE: settling with a valid manifest, DISABLED without one. -/
def wardBegin (s : State) (w : Nat) : State :=
  let v := s.ward w
  if v.wpg = false ∨ v.state ≠ .off ∨ s.mode ≠ .service then s
  else match wardManifest s w with
    | some m => s.setWard w { v with state := .verifying, settling := true, manifest := m }
    | none => s.setWard w { v with state := .disabled }

/-- Verification of every ward with WPG high, in ward order (R369). -/
def wardsStart (s : State) : State := (List.range 16).foldl wardBegin s

/-- The result of WARD_VERIFY and WARD_RECOVER. -/
def wardResult (v : Ward) : Bytes := leBytes 1 v.state.num ++ zeros 1 ++ leBytes 2 v.failedRegions ++ zeros 4

/-- The command that waits for the ward ends. -/
def wardEnd (s : State) (w st : Nat) : State :=
  let v := s.ward w
  let s1 := s.setWard w { v with cmd := none }
  match v.cmd.bind s1.job? with
  | some j => if j.phase = .ward then endJob s1 j st (wardResult v) false else s1
  | none => s1

/-- A RUNNING ward's resets are asserted, with the hold record (R364); a transaction under way ends (R368). -/
def assertReset (s : State) (w cause : Nat) : State :=
  let v := s.ward w
  let s1 := s.setWard w { v with rstHigh := false, auxHigh := false }
  if v.state = .running then extendFrom s1 2 (8 + w) 0x104 false (Config.holdRecord w cause) else s1

/-- A ward's work ends in a state, or in HELD when a WARD_HOLD came meanwhile (R370). -/
def settleWard (s : State) (w : Nat) (st : WardState) (status : Nat) : State :=
  let v := s.ward w
  let s1 := dropCtx s (wardOrigin w)
  let v1 := { v with state := if v.holdPending then .held else st, holdPending := false, lastStatus := status, recStatus := 0 }
  wardEnd (s1.setWard w v1) w status

/-! ### WPG and settling -/

/-- WPG of a ward has been high for 10 µs (R348, R361); in HUSH the device wakes first (R285). -/
def wpgRise (s : State) (w : Nat) : State :=
  let v := s.ward w
  if w ≥ 16 ∨ v.wpg = true then s
  else
    let s1 := capture (s.setWard w { v with wpg := true, state := .off, verifications := 0, recovered := false, automatic := false,
                                            recStatus := 0, holdPending := false }) 0x22 18 [w * 2 + 33]
    if s.mode = .dormant then s1 else wardBegin (hushExit s1) w

/-- A ward's WPG rises (R361). -/
def execWpgRise (w : Nat) (s : State) : Host.Outcome State Fault Refusal := .next (wpgRise s w)

/-- WPG of a ward has been low for 10 µs: work is abandoned, a digest under way ends short (R363), and the port goes OFF (R348, R361,
R368). -/
def wpgFall (s : State) (w : Nat) : State :=
  let v := s.ward w
  if w ≥ 16 ∨ v.wpg = false then s
  else
    let s1 := capture (assertReset s w 1) 0x22 18 [w * 2 + 32]
    let st := if v.state = .verifying then S.E_WARD_READ else S.E_WARD_NO_POWER
    let busy := v.state = .verifying ∨ v.state = .recovering
    let v1 := { s1.ward w with wpg := false, state := .off, settling := false, holdPending := false, recStatus := 0,
                               lastStatus := if busy then st else v.lastStatus }
    let s2 := if v.state = .verifying ∧ (ctxOf s1 (wardOrigin w)).isSome then s1.incRegField R.DGT_TRUNC_COUNT 31 0 else s1
    wardEnd (dropCtx (s2.setWard w v1) (wardOrigin w)) w st

/-- A ward's WPG falls (R361). -/
def execWpgFall (w : Nat) (s : State) : Host.Outcome State Fault Refusal := .next (wpgFall s w)

/-- WPG_SETTLE_MS have passed (R361). -/
def execWardSettleDone (w : Nat) (s : State) : Host.Outcome State Fault Refusal :=
  .next (if (s.ward w).state = .verifying ∧ (s.ward w).settling = true then startVerify s w else s)

/-! ### Verification (R362 to R365) -/

/-- Step 4 and 5 over the MEASURE regions: extends, the mismatch bits from bit `k` on, and whether the input ended
short. -/
def measureRegions (w : Nat) : List Region → List Bytes → Nat → State → State × Nat × Bool
  | [], _, _, s => (s, 0, false)
  | r :: rs, cs, k, s =>
    match unitResult r.len (cs.headD []) with
    | .short => (s, 0, true)
    | .done bs trunc =>
      let s1 := extendFed s 2 (8 + w) 0x101 r.len (cs.headD [])
      let bad := trunc || sha384 bs != r.digest
      let (s2, n, short) := measureRegions w rs (cs.drop 1) (k + 1) s1
      (s2, n + (if bad then 2 ^ k else 0), short)

/-- A verification fails (R361): automatic recovery once after WPG rose, else FAILED with its event. -/
def verifyFail (s : State) (w st failed : Nat) : State :=
  let v := { s.ward w with failedRegions := failed }
  let m := v.manifest
  if mFlag m 2 && mFlag m 1 && !v.recovered && !v.holdPending then
    dropCtx (s.setWard w { v with state := .recovering, settling := false, recovered := true, automatic := true, source := 0,
                                  target := 0, lastStatus := st }) (wardOrigin w)
  else
    let status := if v.recStatus = 0 then st else v.recStatus
    settleWard (recordEvent (s.setWard w v) 0x8E0A w status (failed % 65536)) w .failed status

/-- A verification passes: the release (R365). -/
def wardRelease (s : State) (w : Nat) : State :=
  let v := s.ward w
  let s1 := extendFrom s 2 (8 + w) 0x103 false (Config.releaseRecord w (mSeq v.manifest) v.verifications)
  let up := !v.holdPending
  let s2 := s1.setWard w { v with rstHigh := up, auxHigh := up && !mFlag v.manifest 3, addr4 := false, resetArmed := false }
  settleWard s2 w .running (if v.recStatus ≠ 0 then v.recStatus else if v.automatic then S.I_WARD_RECOVERED else S.OK)

/-- The OUTCOME entry of the flash reader's work for a ward (R481). -/
def flashOutcome (s : State) (w st : Nat) : State := capture s 0x15 18 [place 63 56 5 + place 55 40 w + place 39 24 st, 0]

/-- The quad-enable requirement of a Basic Flash Parameter Table (R352): bits 22:20 of its dword 15; 0 for none. -/
def quadRequirement (b : Bytes) : Nat := u8 b (leNat (slice b 12 3) + 58) / 16 % 8

/-- The guard sets the quad-enable bit before its own quad reads, when the table requires it (R352, R362 step 3). -/
def quadEnable (s : State) (w : Nat) (sfdp : Bytes) : State :=
  if quadRequirement sfdp = 0 then s else s.send (.flashQuad w (quadRequirement sfdp))

/-- Steps 2 to 5 of a verification: the state with its extends and kept SFDP, the status, the mismatch bits. -/
def verifyRun (s : State) (w : Nat) (sfdp : Bytes) (contents : List Bytes) : State × Nat × Nat :=
  let m := (s.ward w).manifest
  let s1 := extendFrom s 2 (8 + w) 0x100 false m
  match ownerKeyCheck s1 (mSlot m) with
  | some st => (s1, st, 0)
  | none =>
    let sa := ownerArith s1
    if ownerVerifies s1 (mSlot m) (m.take (mBody m)) (m.drop (mBody m)) = false then (sa, S.E_WARD_MANIFEST_SIG, 0)
    else if u32 sfdp 0 ≠ 0x50444653 then (sa, S.E_WARD_READ, 0)
    else
      let s2 := quadEnable (sa.setWard w { sa.ward w with sfdp := fit 512 sfdp }) w (fit 512 sfdp)
      let (s3, bad, short) := measureRegions w (measured m) contents 0 s2
      if short then (s3.incRegField R.DGT_TRUNC_COUNT 31 0, S.E_WARD_READ, bad)
      else (s3, if bad = 0 then S.OK else S.E_WARD_DIGEST, bad)

/-- The flash of a verifying ward has been read: its SFDP space and the MEASURE regions' contents (R362). A ward that
passes is released only in SERVICE or HUSH with the gate open, and it waits for a guard context and an arith engine. -/
def verifyDone (s : State) (w : Nat) (sfdp : Bytes) (contents : List Bytes) : State :=
  let v := s.ward w
  if v.state ≠ .verifying ∨ v.settling = true ∨ w ≥ 16 then s
  else if ((ctxOf s (wardOrigin w)).isNone ∧ (guardCtx s).isNone) ∨ ownerWaits s (mSlot v.manifest) = true then s
  else
    let (s1, st, bad) := verifyRun s w sfdp contents
    if st ≠ S.OK then verifyFail (flashOutcome s1 w st) w st bad
    else if s.boot.gateOpen = true ∧ (s.mode = .service ∨ s.mode = .hush) then wardRelease (flashOutcome s1 w S.OK) w else s

/-- A ward verification ends (R362). -/
def execWardVerifyDone (w : Nat) (sfdp : Bytes) (contents : List Bytes) (s : State) : Host.Outcome State Fault Refusal :=
  .next (verifyDone s w sfdp contents)

/-- A feeder ends its input short (R133, R363): a ward's verification ends with E_WARD_READ; a feed of Quartz firmware, for
`w` past the wards, is counted alone. -/
def digestShort (s : State) (w : Nat) : State :=
  let s1 := s.incRegField R.DGT_TRUNC_COUNT 31 0
  if w ≥ 16 then s1
  else if (s.ward w).state = .verifying ∧ (s.ward w).settling = false then verifyFail (flashOutcome s1 w S.E_WARD_READ) w S.E_WARD_READ 0
  else s

/-- A digest input ends short (R133). -/
def execDigestShort (w : Nat) (s : State) : Host.Outcome State Fault Refusal := .next (digestShort s w)

/-! ### Recovery (R366, R367) -/

/-- A recovery ends, and verification follows; a WARD_HOLD that came meanwhile holds the ward (R361, R370). -/
def recoveryEnd (s : State) (w st : Nat) : State :=
  let v := s.ward w
  let s1 := s.setWard w { v with recStatus := if st = S.OK then 0 else st, lastStatus := st }
  if v.holdPending then settleWard s1 w .held st
  else match wardManifest s1 w with
    | some m => startVerify (s1.setWard w { s1.ward w with manifest := m }) w
    | none => settleWard s1 w .disabled st

/-- What a golden recovery rewrites, each region with its content (R366): those that failed, or every one when asked by command. -/
def goldenParts (v : Ward) (golden : List Bytes) : List (Region × Bytes) :=
  ((((measured v.manifest).zip golden).zipIdx).filter fun e => !v.automatic || v.failedRegions.testBit e.2).map (·.1)

/-- The table of a recovery image (R367): START and LENGTH of each region it carries. -/
def imageTable (b : Bytes) : List (Nat × Nat) := (List.range (u8 b 5)).map fun k => (u32 b (64 + 8 * k), u32 b (68 + 8 * k))

/-- The regions of an image from its entries on, their contents from offset `o` on. -/
def imageContents (b : Bytes) : List (Nat × Nat) → Nat → List (Nat × Bytes)
  | [], _ => []
  | e :: es, o => (e.1, slice b o e.2) :: imageContents b es (o + e.2)

/-- What an image recovery rewrites: START and content of each region. -/
def imageParts (b : Bytes) : List (Nat × Bytes) := imageContents b (imageTable b) (64 + 8 * u8 b 5)

/-- The erase types of a flash's SFDP table, size exponent and opcode (R366): dwords 8 and 9. -/
def eraseTypes (b : Bytes) : List (Nat × Nat) :=
  let p := leNat (slice b 12 3)
  ([28, 30, 32, 34].map fun o => (u8 b (p + o), u8 b (p + o + 1))).filter fun e => 12 ≤ e.1 && e.1 ≤ 32

/-- The largest erase type that the alignment of an address and the bytes left allow. -/
def eraseFor (ts : List (Nat × Nat)) (a n : Nat) : Option (Nat × Nat) :=
  ts.foldl (fun b t => if a % 2 ^ t.1 = 0 && 2 ^ t.1 ≤ n && (b.map (·.1)).getD 0 < t.1 then some t else b) none

/-- The erase commands over `n` bytes from `a` on, opcode and address; the fuel is the count of 4 KiB blocks. -/
def eraseRun (ts : List (Nat × Nat)) : Nat → Nat → Nat → List (Nat × Nat)
  | 0, _, _ => []
  | f + 1, a, n =>
    match eraseFor ts a n with
    | some t => (t.2, a) :: eraseRun ts f (a + 2 ^ t.1) (n - 2 ^ t.1)
    | none => []

/-- One region is erased, then programmed page by page (R366 step 2). -/
def rewriteRegion (w : Nat) (golden : Bool) (ts : List (Nat × Nat)) (s : State) (e : Nat × Bytes) : State :=
  let s1 := (eraseRun ts (e.2.length / 4096) e.1 e.2.length).foldl (fun t c => t.send (.flashErase w golden c.1 c.2)) s
  (List.range (e.2.length / 256)).foldl (fun t k => t.send (.flashProgram w golden (e.1 + 256 * k) (slice e.2 (256 * k) 256))) s1

/-- The flash of a ward's recovery is rewritten, and event 0x0000_0102 extended (R364, R366). -/
def recoveryWrites (s : State) (w : Nat) (golden : List Bytes) : State :=
  let v := s.ward w
  let own := goldenParts v golden
  let img := v.staged.getD []
  let parts := if v.source = 0 then own.map fun e => (e.1.start, e.2) else imageParts img
  extendFrom (parts.foldl (rewriteRegion w (v.target == 1) (eraseTypes v.sfdp)) s) 2 (8 + w) 0x102 false
    (if v.source = 0 then (own.map (·.2)).flatten else img)

/-- Whether the golden regions read match their DIGESTs. -/
def goldenOk (m : Bytes) (golden : List Bytes) : Bool :=
  golden.length == (measured m).length && ((measured m).zip golden).all fun e => e.2.length == e.1.len && sha384 e.2 == e.1.digest

/-- A recovery's erase and program end, or fail (R366). -/
def recoveryDone (s : State) (w : Nat) (golden : List Bytes) (ok : Bool) : State :=
  let v := s.ward w
  if w ≥ 16 ∨ v.state ≠ .recovering ∨ v.settling = true then s
  else if v.source = 0 ∧ goldenOk v.manifest golden = false then recoveryEnd (flashOutcome s w S.E_WARD_GOLDEN) w S.E_WARD_GOLDEN
  else if ok = false then recoveryEnd (flashOutcome s w S.E_WARD_FLASH) w S.E_WARD_FLASH
  else recoveryEnd (flashOutcome (recoveryWrites s w golden) w S.OK) w S.OK

/-- A recovery ends (R366). -/
def execWardRecoveryDone (w : Nat) (golden : List Bytes) (ok : Bool) (s : State) : Host.Outcome State Fault Refusal :=
  .next (recoveryDone s w golden ok)

/-- WIP does not clear in time (R362, R366). -/
def flashTimeout (s : State) (w : Nat) : State :=
  let v := s.ward w
  if w ≥ 16 ∨ v.settling = true then s
  else if v.state = .verifying then verifyFail (flashOutcome (timerTaken s 18) w S.E_WARD_READ) w S.E_WARD_READ 0
  else if v.state = .recovering then recoveryEnd (flashOutcome (timerTaken s 18) w S.E_WARD_FLASH) w S.E_WARD_FLASH else s

/-- The ward's image leaves its staging area, whose lines are freed (R272, R367). -/
def dropStaged (s : State) (w : Nat) : State :=
  { s.setWard w { s.ward w with staged := none } with mem := freeLines s.mem (stagingLines w).1 (stagingLines w).2 }

/-- An image is kept in the ward's staging area, in lines of colour 0xF004 (R367, R498). -/
def keepStaged (s0 : State) (w : Nat) (b : Bytes) : State :=
  let s := dropStaged s0 w
  { s.setWard w { s.ward w with staged := some b } with mem := allocLines s.mem (stagingLines w).1 (stagingLines w).2 0xF004 }

/-- A ward flash does not answer in time. -/
def execWardFlashTimeout (w : Nat) (s : State) : Host.Outcome State Fault Refusal := .next (flashTimeout s w)

/-- The checks of a recovery image (R367). -/
def imageCheck (s : State) (w : Nat) (b : Bytes) : Option Nat :=
  let n := u8 b 5
  let body := 64 + 8 * n
  let m := ((wardManifest s w).getD [])
  let entries := imageTable b
  let parts := imageParts b
  let total := entries.foldl (fun a e => a + e.2) 0
  let slotN := u16 b 6
  let sl := match activeHalf s slotN with | some h => sigLen (ownerScheme h) h.size | none => 0
  let listed := fun (e : Nat × Nat) => (measured m).any fun r => r.start == e.1 && r.len == e.2
  let same := fun (e : Nat × Bytes) => (measured m).any fun r => r.start == e.1 && sha384 e.2 == r.digest
  if !(u8 b 0 == 1 && u8 b 1 == 0x41 && zeroAt b 2 2 && u8 b 4 == w && 1 ≤ n && n ≤ 64 && zeroAt b 24 40 &&
      u32 b 8 == total && total ≤ 2 ^ 26 && 32 ≤ slotN && slotN ≤ 63 && m != [] && u32 b 12 == mSeq m &&
      entries.all listed) then some S.E_WARD_IMAGE
  else match ownerKeyCheck s slotN with
    | some st => some st
    | none =>
      if b.length ≠ body + total + sl ∨ ownerVerifies s slotN (b.take body) (b.drop (body + total)) = false ∨
        parts.all same = false then some S.E_WARD_IMAGE else none

/-! ### The filter (R352 to R355) -/

/-- Class of an opcode (R353): 0 READ, 1 QUERY, 2 CONTROL, 3 PROGRAM, 4 ERASE, 5 STATUS_WRITE, 6 every other. -/
def spiClass (op : Nat) : Nat :=
  if [0x03, 0x0B, 0x3B, 0x6B, 0xBB, 0xEB, 0x13, 0x0C, 0x3C, 0x6C, 0xBC, 0xEC].contains op then 0
  else if [0x05, 0x35, 0x15, 0x9F, 0x5A].contains op then 1
  else if [0x06, 0x04, 0xB7, 0xE9, 0x66, 0x99, 0xB9, 0xAB, 0x75, 0x7A].contains op then 2
  else if [0x02, 0x32, 0x12, 0x34].contains op then 3
  else if [0x20, 0x52, 0xD8, 0x21, 0x5C, 0xDC].contains op then 4
  else if [0x01, 0x31, 0x11].contains op then 5 else 6

/-- Opcodes that carry a 4-byte address in either mode. -/
def spi4 (op : Nat) : Bool := [0x13, 0x0C, 0x3C, 0x6C, 0xBC, 0xEC, 0x12, 0x34, 0x21, 0x5C, 0xDC].contains op

/-- Bytes an erase opcode erases. -/
def eraseSize (op : Nat) : Nat := if op = 0x20 ∨ op = 0x21 then 4096 else if op = 0x52 ∨ op = 0x5C then 32768 else 65536

/-- The region that holds an address. -/
def regionFor (m : Bytes) (a : Nat) : Option Region := (regionsOf m).find? fun r => r.start ≤ a && a < r.start + r.len

/-- Whether every 4 KiB of a block lies in regions with WRITE. -/
def blockWritable (m : Bytes) (a n : Nat) : Bool :=
  (List.range (n / 4096)).all fun k => ((regionFor m (a / n * n + 4096 * k)).map (·.write)).getD false

/-- Whether the filter passes a command (R353, R354). -/
def spiAllowed (m : Bytes) (op a : Nat) : Bool :=
  match spiClass op with
  | 0 => ((regionFor m a).map (·.read)).getD false
  | 1 | 2 => true
  | 3 => ((regionFor m (a / 256 * 256)).map (·.write)).getD false
  | 4 => blockWritable m a (eraseSize op)
  | 5 => mFlag m 0
  | _ => false

/-- The SFDP space served to the ward (R352): the dword of the Basic Flash Parameter Table patched. -/
def sfdpPatched (b : Bytes) : Bytes :=
  let p := leNat (slice b 12 3)
  let dummy := fun (t : Bytes) (o : Nat) =>
    let v := u8 t o
    patch t o (leBytes 1 (v - v % 32 + min 31 (v % 32 + 4)))
  let b1 := [8, 10, 12, 14, 22, 26].foldl (fun t o => dummy t (p + o)) b
  let b2 := patch b1 (p + 2) (leBytes 1 (u8 b1 (p + 2) - (u8 b1 (p + 2) &&& 8)))
  patch b2 (p + 16) (leBytes 1 (u8 b2 (p + 16) - (u8 b2 (p + 16) &&& 17)))

/-- The bytes the flash receives of a command: opcode, address where the class has one, data. -/
def spiBytes (op a : Nat) (four : Bool) (bs : Bytes) : Bytes :=
  leBytes 1 op ++ (if [0, 3, 4].contains (spiClass op) then beBytes (if four then 4 else 3) a else []) ++ bs

/-- Lines on which an opcode's address comes (R352): 1, 2 or 4. -/
def addrLanes (op : Nat) : Nat := if op = 0xBB ∨ op = 0xBC then 2 else if op = 0xEB ∨ op = 0xEC then 4 else 1

/-- Cycles of a refused command that the flash has received, four behind the ward (R351): with an address, its opcode and the
address but the last four cycles; of another opcode those of the opcode but four. -/
def cutCycles (op : Nat) (four : Bool) : Nat :=
  if [0, 3, 4].contains (spiClass op) then 8 + (if four then 32 else 24) / addrLanes op - 4 else 4

/-- A command is refused (R355): FCS_N rises before the flash has it whole; of an opcode that has no class the flash receives
nothing. -/
def spiRefuse (s : State) (w op a len : Nat) (addrKnown : Bool) : State :=
  let v := s.ward w
  let c := spiClass op
  let modifying := 3 ≤ c && c ≤ 5
  let v1 := { v with modify := if modifying then satInc 32 v.modify else v.modify,
                     other := if modifying then v.other else satInc 32 v.other,
                     blockOp := op, blockValid := addrKnown, blockAddr := if addrKnown then a else 0 }
  let s0 := recordEvent (s.setWard w v1) 0x8E09 w op (if addrKnown then a else 0)
  let s1 := if c = 6 then s0 else s0.send (.spiCut w op (cutCycles op (spi4 op || v.addr4)))
  if modifying then s1.send (.spi w [0x04]) else s1.send (.wardData w (List.replicate len 0xFF))

/-- Address mode after a CONTROL command (R354). -/
def spiControl (v : Ward) (op : Nat) : Ward :=
  { v with addr4 := if op = 0xB7 then true else if op = 0xE9 ∨ (op = 0x99 ∧ v.resetArmed = true) then false else v.addr4,
           resetArmed := op == 0x66 }

/-- A command of a RUNNING ward: opcode, address, data bytes it reads, data it sends (R351 to R355). A read past its
region's end is cut off there. -/
def spiCommand (s0 : State) (w op addr len : Nat) (bs : Bytes) : State :=
  let v := s0.ward w
  if w ≥ 16 ∨ v.state ≠ .running ∨ op > 255 then s0
  else
    let s := capture s0 0x22 18 [w * 2 + 64, op * 2 ^ 32 + addr % 2 ^ 32]
    let four := spi4 op || v.addr4
    let a := addr % (if four then 2 ^ 32 else 2 ^ 24)
    let hasAddr := [0, 3, 4].contains (spiClass op)
    if spiAllowed v.manifest op a = false then spiRefuse s w op a len hasAddr
    else if op = 0x5A then s.send (.wardData w (slice (sfdpPatched v.sfdp) (addr % 2 ^ 24) len))
    else
      let s1 := (s.setWard w (spiControl v op)).send (.spi w (spiBytes op a four bs))
      match (if spiClass op = 0 then regionFor v.manifest a else none) with
      | some r => if a + len > r.start + r.len then s1.send (.wardData w (List.replicate (a + len - (r.start + r.len)) 0xFF)) else s1
      | none => s1

/-- A ward SPI command meets the filter (R353). -/
def execWardSpiCommand (w op addr len : Nat) (bs : Bytes) (s : State) : Host.Outcome State Fault Refusal :=
  .next (spiCommand s w op addr len bs)

/-! ### Commands (R370) -/

/-- The ward's one command at a time (R370). -/
def wardBusy (s : State) (j : Job) (w : Nat) : Bool :=
  let v := s.ward w
  v.state == .verifying || v.state == .recovering || (v.cmd.isSome && v.cmd != some j.origin)

/-- A command takes its ward. -/
def takeWard (s : State) (j : Job) (w : Nat) : State := s.setWard w { s.ward w with cmd := some j.origin }

/-- The checks of R360 on a manifest. -/
def manifestSetCheck (s : State) (w : Nat) (m : Bytes) : Option Nat :=
  let sl := match activeHalf s (mSlot m) with | some h => some (sigLen (ownerScheme h) h.size) | none => none
  firstFail [failIf (!layoutOk m w || (match sl with | some n => decide (m.length ≠ mBody m + n) | none => false)) S.E_WARD_MANIFEST,
    ownerKeyCheck s (mSlot m),
    failIf (!ownerVerifies s (mSlot m) (m.take (mBody m)) (m.drop (mBody m))) S.E_WARD_MANIFEST_SIG,
    match wardManifest s w with
    | some old => failIf (decide (mSeq m ≤ mSeq old) && m != old) S.E_WARD_MANIFEST_OLD
    | none => none]

/-- A manifest was accepted: a DISABLED ward with WPG high starts its verification at once (R361). -/
def manifestAccepted (s : State) (w : Nat) (m : Bytes) : State :=
  let v := s.ward w
  if v.state = .disabled ∧ v.wpg = true ∧ s.mode = .service then startVerify (s.setWard w { v with manifest := m }) w else s

/-- WARD_MANIFEST_SET: read, check, then erase, program and mark the older record (R360). -/
def wardManifestSet (j : Job) (s : State) : State :=
  let w := u8 j.ops 0
  let m := j.keep.headD []
  let r := listGet 0 j.args 0
  let sector := 2048 + 8 * w + 4 * r
  if j.stage = 0 then
    match firstFail [failIf (w > 15 || !zeroAt j.ops 1 15) S.E_BAD_OPERAND, refCheck s j (hostRef j.ops 16) 0 16383,
        failIf (wardBusy s j w) S.E_WARD_STATE] with
    | some st => dropWith s j st
    | none => readOrEnd (takeWard s j w) j [hostRef j.ops 16]
  else if j.stage = 1 then
    let bs := j.data.headD []
    if ownerWaits s (mSlot bs) then s
    else match manifestSetCheck s w bs with
    | some st => dropWith s j st
    | none =>
      let old := match wardRecord s w with | some (k, _) => 1 - k | none => 0
      norThen (ownerArith s) { j with keep := [bs], data := [], args := [old] } sector true false
  else if j.stage = 2 then norThen ((List.range 4).foldl (fun t k => eraseSector t (sector + k)) s) j sector false false
  else if j.stage = 3 then norThen (norProgram s (recAddr w r) m) j sector false true
  else
    let s1 := norProgram s (recAddr w r + m.length) [0x5A]
    let v := { s1.ward w with cmd := none }
    manifestAccepted (okJob (s1.setWard w v) j (leBytes 4 (mSeq m) ++ zeros 4)) w m

/-- WARD_MANIFEST_SET. -/
def execWardManifestSet (o : Origin) (s : State) : Host.Outcome State Fault Refusal :=
  .next (runCommand C.WARD_MANIFEST_SET o s wardManifestSet)

/-- WARD_VERIFY. -/
def wardVerify (j : Job) (s : State) : State :=
  let w := u8 j.ops 0
  let v := s.ward w
  match firstFail [failIf (w > 15 || u8 j.ops 1 > 1 || !zeroAt j.ops 2 6) S.E_BAD_OPERAND, failIf (wardBusy s j w) S.E_WARD_STATE,
      failIf (!v.wpg) S.E_WARD_NO_POWER, failIf ((wardManifest s w).isNone) S.E_WARD_NO_MANIFEST,
      failIf (!(v.state == .running || v.state == .failed || v.state == .held) || s.mode != .service) S.E_WARD_STATE] with
  | some st => dropWith s j st
  | none =>
    let s0 := takeWard (assertReset s w 3) j w
    let s1 := if u8 j.ops 1 = 1 then dropStaged s0 w else s0
    let s2 := s1.setWard w { s1.ward w with manifest := (wardManifest s w).getD [], automatic := false, recStatus := 0 }
    startVerify (s2.setJob { j with committed := true, phase := .ward }) w

/-- WARD_VERIFY. -/
def execWardVerify (o : Origin) (s : State) : Host.Outcome State Fault Refusal := .next (runCommand C.WARD_VERIFY o s wardVerify)

/-- Operand checks of WARD_RECOVER. -/
def recoverOperandsOk (o : Bytes) : Bool :=
  u8 o 0 < 16 && u8 o 1 ≤ 2 && u8 o 2 ≤ 1 && u8 o 3 == 0 && zeroAt o 6 2 && zeroAt o 32 16 &&
    (u8 o 1 == 2 || (zeroAt o 4 2 && zeroAt o 8 8)) && (u8 o 1 == 1 || zeroAt o 16 16) && !(u8 o 2 == 1 && u8 o 1 == 0)

/-- A recovery image has come: it stays in the staging area. A bad one ends the recovery (R366 step 1), and the staging area, which it
has overwritten, holds no image (DEDUCED, assumption 189). -/
def recoverImage (s : State) (j : Job) (w : Nat) (b : Bytes) : State :=
  if ownerWaits s (u16 b 6) then s
  else match imageCheck s w b with
  | some st => recoveryEnd ((dropStaged (ownerArith s) w).setJob { j with phase := .ward, data := [] }) w st
  | none =>
    let s1 := keepStaged (ownerArith s) w b
    (s1.setWard w { s1.ward w with settling := false }).setJob { j with phase := .ward, committed := true, data := [] }

/-- WARD_RECOVER: the ward enters RECOVERING; an image is read from the host, or fetched from a peer (R438). -/
def wardRecover (j : Job) (s : State) : State :=
  let w := u8 j.ops 0
  let v := s.ward w
  let src := u8 j.ops 1
  let golden := match wardManifest s w with | some m => mFlag m 1 | none => false
  if j.stage = 0 then
    match firstFail [failIf (!recoverOperandsOk j.ops) S.E_BAD_OPERAND,
        if src = 1 then refCheck s j (hostRef j.ops 16) 0 (2 ^ 26 + 8192) else none,
        failIf (wardBusy s j w || !(v.state == .running || v.state == .failed || v.state == .held || v.state == .disabled)
          || s.mode != .service) (if v.wpg then S.E_WARD_STATE else S.E_WARD_NO_POWER),
        failIf (!v.wpg) S.E_WARD_NO_POWER, failIf ((src == 0 || u8 j.ops 2 == 1) && !golden) S.E_WARD_GOLDEN,
        failIf (src == 2 && s.fabric.isolated) S.E_FAB_NO_ROUTE] with
    | some st => dropWith s j st
    | none =>
      let s1 := takeWard (assertReset s w 4) j w
      let s2 := s1.setWard w { s1.ward w with state := .recovering, settling := src != 0, recovered := true, automatic := false,
                                              source := src, target := u8 j.ops 2, recStatus := 0, failedRegions := 0,
                                              manifest := (wardManifest s w).getD v.manifest }
      if src = 0 then s2.setJob { j with phase := .ward }
      else if src = 1 then readOrEnd s2 j [hostRef j.ops 16]
      else
        startFetch s2 j 0x26 2 (u16 j.ops 4) (u64 j.ops 8) w fun id => leBytes 8 id ++ leBytes 1 w ++ zeros 7 ++ slice j.ops 8 8 ++ zeros 8
  else recoverImage s j w (j.data.headD [])

/-- WARD_RECOVER. -/
def execWardRecover (o : Origin) (s : State) : Host.Outcome State Fault Refusal := .next (runCommand C.WARD_RECOVER o s wardRecover)

/-- WARD_HOLD: at once, or when the ward's work ends (R361, R370). -/
def wardHold (j : Job) (s : State) : State :=
  let w := u8 j.ops 0
  let v := s.ward w
  if w > 15 ∨ zeroAt j.ops 1 7 = false then dropWith s j S.E_BAD_OPERAND
  else
    let done := fun (t : State) => okJob t { j with committed := true } []
    match v.state with
    | .running =>
      let s1 := assertReset s w 2
      done (s1.setWard w { s1.ward w with state := .held })
    | .failed | .held => done (s.setWard w { v with state := .held })
    | .verifying | .recovering => done (s.setWard w { v with holdPending := true })
    | .off | .disabled => dropWith s j S.E_WARD_STATE

/-- WARD_HOLD. -/
def execWardHold (o : Origin) (s : State) : Host.Outcome State Fault Refusal := .next (runCommand C.WARD_HOLD o s wardHold)

/-- WARD_AUX: a RUNNING ward whose manifest sets AUX_HOLD. -/
def wardAux (j : Job) (s : State) : State :=
  let w := u8 j.ops 0
  let v := s.ward w
  match firstFail [failIf (w > 15 || u8 j.ops 1 > 1 || !zeroAt j.ops 2 6) S.E_BAD_OPERAND,
      failIf (wardBusy s j w || v.state != .running || !mFlag v.manifest 3) S.E_WARD_STATE] with
  | some st => dropWith s j st
  | none => okJob (s.setWard w { v with auxHigh := u8 j.ops 1 == 1 }) { j with committed := true } []

/-- WARD_AUX. -/
def execWardAux (o : Origin) (s : State) : Host.Outcome State Fault Refusal := .next (runCommand C.WARD_AUX o s wardAux)

/-- The result of WARD_INFO. -/
def wardInfoBytes (s : State) (w : Nat) : Bytes :=
  let v := s.ward w
  leBytes 1 v.state.num ++ leBytes 1 (b2n v.wpg + 2 * b2n v.rstHigh + 4 * b2n v.auxHigh + 8 * b2n v.staged.isSome)
    ++ leBytes 2 v.lastStatus ++ leBytes 4 (((wardManifest s w).map mSeq).getD 0)
    ++ leBytes 8 ((v.staged.map fun b => u64 b 16).getD 0) ++ leBytes 4 (satAdd 32 v.modify v.other)
    ++ leBytes 4 v.verifications ++ leBytes 2 v.failedRegions ++ zeros 6

/-- WARD_INFO. -/
def wardInfo (j : Job) (s : State) : State :=
  let w := u8 j.ops 0
  if w > 15 ∨ zeroAt j.ops 1 7 = false then dropWith s j S.E_BAD_OPERAND else okJob s j (wardInfoBytes s w)

/-- WARD_INFO. -/
def execWardInfo (o : Origin) (s : State) : Host.Outcome State Fault Refusal := .next (runCommand C.WARD_INFO o s wardInfo)

end Sys2Proof.Machine
end

