-- ==== Sys2Proof/Machine/Startup.lean ====
section
/-! DEFINITION. Start-up and secure boot (12): the start sequence of R299 from power-good to SERVICE, with its halts, and
the rows that the entropy waits of R546 pause and resume. -/

namespace Sys2Proof.Machine

/-! ### Halt (R315, R316) -/

/-- Every command held BUSY completes with E_MODE when STARTUP ends in LOCKDOWN (R54). -/
def endHeld (s : State) : State :=
  let all := fun (u : State) => u.jobs.foldl (fun t j => dropWith t j S.E_MODE) u
  all (all s)

/-- A halt (R316): BOOT_CODE and HALT_N, its event, every slot but 0 and 1 cleared, LOCKDOWN. Under code 0xF the salt and
the identity keys go too. -/
def haltStart (s : State) (code : Nat) : State :=
  let keep := if code = 0xF then [] else s.slots.filter fun e => e.1 < 2
  let s1 := showHalt { s with slots := keep, keyed := false, cdk := none, pufSecret := none } code
  let s2 := if code = 0xF then { s1 with moon := { s1.moon with salt := none } } else s1
  let s3 := recordEvent s2 0x8C02 code s2.boot.firstCode s2.boot.step
  enterLockdown (endHeld { s3 with boot := { s3.boot with input := none } })

/-- Whether a start is under way. -/
def starting (s : State) : Bool := s.mode == .startup && s.boot.input.isSome

/-- What the start brings. -/
def inputOf (s : State) : StartInput := s.boot.input.getD {}

/-- Run a step while the start is under way. -/
def onStart (n : Nat) (f : State → State) (s : State) : State :=
  if starting s then f { s with boot := { s.boot with step := n } } else s

/-! ### Steps 1 to 6 -/

/-- A reading of VHOLD: the lowest of the last 1 ms, in mV (R321). -/
def vholdReads (s : State) (mv : Nat) : State :=
  { s with lcs := { s.lcs with vholdMv := mv % 2 ^ 16, vholdOk := decide (mv ≥ 800) } }

/-- Step 1: the power-cycle counter, the cold-start cause, STARTUP entered with nothing of an earlier start. -/
def startBegin (s : State) (i : StartInput) : State :=
  let cold := s.moon.corePower == false || s.moon.aonPower == false
  let m := { s.moon with powerCycles := (s.moon.powerCycles + 1) % 2 ^ 24, corePower := true, aonPower := true, onVbat := false }
  let s1 := vholdReads { s with moon := m, boot := { s.boot with step := 1, input := some i } } i.vhold
  let s2 := if cold then s1.setReg R.PWR_WAKE_CAUSE (s1.reg R.PWR_WAKE_CAUSE ||| 64) else s1
  setMode (s2.setReg R.PWR_STATUS (s2.reg R.PWR_STATUS - (s2.reg R.PWR_STATUS &&& 2 ^ 9))) .startup

/-- The refresh log at the start (R511, R514): copies done are finished in the background, and the time without power
counts at factor 2.6, or a pass starts when it cannot be known. -/
def refreshStart (s : State) : State :=
  let age := (s.nor.log.reverse.find? (·.kind == 5)).map (·.value)
  let lost := s.moon.saltLost || s.tamper.xtalFail
  let off := match age with | some v => (s.reg R.PWR_RTC - v) / 32768 * 2600 | none => 0
  let s1 := if lost then { s with nor := { s.nor with passDue := true } } else { s with nor := { s.nor with eqAge := s.nor.eqAge + off } }
  s1.nor.copies.foldl (fun t c => norQueue t [{ bank := bankOf c.1, job := .refresh c.1 c.2 3 false }]) s1

/-- The counters settle before step 3 (R462, R475). -/
def startRecorder (s : State) : State := refreshStart (recorderStart s)

/-- The decision of R320 on the two copies and the floor: the state, and whether copy B is to be completed. -/
def lcsDecide (a b floor : Nat) : Nat × Bool :=
  let (st, fix) := if a = 7 then (7, false) else if a = b then (a, false) else if a = b + 1 ∧ b ≠ 7 then (a, true) else (7, false)
  if floor = 5 then (5, false) else if st < floor ∨ st > floor + 1 ∨ st = 7 then (7, false) else (st, fix)

/-- Copies of a kind destroyed by wipes that were still pending (R322). -/
def runWipe (s : State) : Wipe → State
  | .journal => (List.range 4096).foldl (fun t k => dropRaw t (8192 + k)) { s with agate := { s.agate with journal := [], anchors := [] } }
  | .wardsAndConfig => { s with cfg := [], nor := { s.nor with raw := s.nor.raw.filter fun e => e.1 < 0x800000 || 0x1000000 ≤ e.1 } }
  | .helpers => { s with boot := { s.boot with pufA := {}, pufB := {}, certs := [] } }
  | .everything => { s with
      cfg := [], agate := { s.agate with journal := [], anchors := [] }
      boot := { s.boot with pufA := {}, pufB := {}, certs := [], trimA := { valid := false }, trimB := { valid := false } }
      recorder := { s.recorder with log := [], ctl := [], ckpt := 0, head := 0 }
      nor := { s.nor with raw := [], log := [], copies := [], remap := [] } }

/-- Resume the wipes of R322. -/
def runWipes (s : State) : State := { s.lcs.wipes.foldl runWipe s with lcs := { (s.lcs.wipes.foldl runWipe s).lcs with wipes := [] } }

/-- Step 3: the lifecycle decoded, copy B completed when VHOLD allows, the floor blown (R320, R323); an alarm's
destruction finished (R343). -/
def startLifecycle (s : State) : State :=
  let (st, fix) := lcsDecide s.lcs.copyA.num s.lcs.copyB.num s.fuses.floor
  let s1 := { s with lcs := { s.lcs with state := st } }
  let s2 := if fix then
      (if s.lcs.vholdOk then { s1 with lcs := { s1.lcs with copyB := s.lcs.copyA, bCompleted := true } }
       else recordEvent s1 0x8C0A st s.lcs.vholdMv 0)
    else s1
  let both := s2.lcs.copyA.num = st ∧ s2.lcs.copyB.num = st
  let s3 := if st = s.fuses.floor + 1 ∧ both then { s2 with fuses := { s2.fuses with floor := st } } else s2
  if field (s.reg R.TMP_LATCH) 13 0 ≠ 0 then haltStart (destroyHelpers s3) 0xF
  else if st = 7 then haltStart s3 4
  else if st = 5 then haltStart (runWipes s3) 0xC
  else runWipes s3

/-- The bytes of an options and trim record (R303). -/
def trimRecord (t : TrimCopy) : Bytes :=
  let b := [1] ++ zeros 3 ++ leBytes 4 t.seq ++ leBytes 2 t.trims.length ++ leBytes 2 t.opts.length ++ zeros 4
    ++ ((t.trims ++ t.opts).map (leBytes 8)).flatten
  b ++ leBytes 4 (crc32 b)

/-- The copy the loader uses: the greater SEQ by serial arithmetic, copy A when both are equal (R303). -/
def trimPick (a b : TrimCopy) : Bool :=
  if a.valid && b.valid then decide (0 < (b.seq + 2 ^ 32 - a.seq) % 2 ^ 32 ∧ (b.seq + 2 ^ 32 - a.seq) % 2 ^ 32 < 2 ^ 31) else !a.valid

/-- Step 4: trims and options loaded into shadow registers of 72-bit words (R303). -/
def startTrims (s : State) : State :=
  let a := s.boot.trimA
  let b := s.boot.trimB
  if (!a.valid && !b.valid) || !(inputOf s).trimShadowOk then haltStart s 1
  else
    let useB := trimPick a b
    let bad := !a.valid || !b.valid
    let t := if useB then b else a
    let sh := (t.trims ++ t.opts).map word72
    let s1 := { s with boot := { s.boot with loadDone := true, trimOneBad := bad, trimCopyB := useB, shadow := sh } }
    if bad then recordEvent s1 0x8C04 (b2n (!b.valid)) 0 0 else s1

/-- Step 6: the ROM self-test; MR_0 is extended (R304). -/
def startRom (s : State) : State :=
  if (inputOf s).romOk = false then haltStart s 2
  else
    let t := trimRecord (if s.boot.trimCopyB then s.boot.trimB else s.boot.trimA)
    extendFrom (extendFrom s 0 0 1 false t) 0 0 2 false (inputOf s).romDigests

/-! ### Step 7: the PUF (R305, R306) -/

/-- The majority of each group of eight cells XORed with OFFSET: a tie reads 0. -/
def pufVote (cells offset : Bytes) : List Bool :=
  (List.zipWith (fun (a b : Byte) => a ^^^ b) (fit 511 cells) (fit 511 offset)).map fun x =>
    decide (((List.range 8).filter fun i => x.toNat.testBit i).length > 4)

/-- CHECK of a helper record. -/
def pufCheck (p : Bytes) : Bytes := (sha3_256 (ascii "GV-PUF" ++ p)).take 8

/-- Regeneration from one copy: P and CORRECTED. -/
def pufTry (cells : Bytes) (c : PufCopy) : Option (Bytes × Nat) :=
  if c.crcGood = false then none
  else match Config.bchDecode (pufVote cells c.offset) with
    | some (m, n) =>
      let p := packBits 32 (m.take 256)
      if pufCheck p = c.check then some (p, n) else none
    | none => none

/-- A helper record for a secret over the cells now read. -/
def helperFor (cells p : Bytes) (seq : Nat) : PufCopy :=
  { crcGood := true, seq := seq, check := pufCheck p,
    offset := List.zipWith (fun (a b : Byte) => a ^^^ b) (fit 511 cells) (fit 511 (Config.pufEncode p)) }

/-- Re-enrolment of both copies, that with the lower SEQ first (R306). A failed program leaves its copy undecodable and the other
one as it was. -/
def reEnrolPuf (s : State) (h : PufCopy) (ok : Bool) : State :=
  let b := s.boot
  let first : Boot := { b with reenrolled := true }
  if ok then { s with boot := { first with pufA := h, pufB := h } }
  else if b.pufB.seq < b.pufA.seq then { s with boot := { first with pufB := { h with crcGood := false } } }
  else { s with boot := { first with pufA := { h with crcGood := false } } }

/-- P is held; a decode of 16 corrections or more re-enrols (R306). -/
def pufDone (s : State) (c : PufCopy) (other : Bool) (p : Bytes) (n : Nat) : State :=
  let s1 := { s with pufSecret := some p, boot := { s.boot with corrected := n, helperSeq := c.seq, pufOther := other } }
  if n < 16 then s1
  else
    let seq := (c.seq + 1) % 2 ^ 32
    let ok := (inputOf s).pufProgramOk
    recordEvent (reEnrolPuf s1 (helperFor (inputOf s).cells p seq) ok) 0x8C05 n seq (b2n (!ok))

/-- Step 7: the copy with the greater SEQ and a good CRC first, then the other (R305). -/
def startPuf (s : State) : State :=
  if s.lcs.state = 0 ∨ s.lcs.state = 4 then { s with boot := { s.boot with pufAbsent := true } }
  else
    let a := s.boot.pufA
    let b := s.boot.pufB
    let bFirst := b.crcGood && (!a.crcGood || decide (b.seq > a.seq))
    let (x, y) := if bFirst then (b, a) else (a, b)
    match pufTry (inputOf s).cells x with
    | some (p, n) => pufDone s x false p n
    | none => match pufTry (inputOf s).cells y with
      | some (p, n) => pufDone s y true p n
      | none => haltStart s 3

/-! ### Step 8: self-tests (R307, R131, R235) -/

/-- Engine 0 of each cluster takes the RESERVED role; engines whose tests failed are QUARANTINED (R120, R131, R235). -/
def startEngines (s : State) : State :=
  let i := inputOf s
  let s1 := (List.range 12).foldl (fun t c => t.setSeng (12 * c) { t.seng (12 * c) with reserved := true }) s
  let s2 := i.sealFailed.foldl (fun t n => if n < 144 then quarantineSeal t n 0x10 else t) s1
  i.arithFailed.foldl (fun t n => if n < 24 then quarantineArith t n 0x10 else t) s2

/-- Whether the power-up tests halt the start. -/
def testsHalt (s : State) : Bool :=
  let i := inputOf s
  let ok := fun n => (s.seng n).state == .inService
  !i.testsOk || decide (i.dguFailed % 16 = 15) || decide (i.routeFailed % 256 = 255) ||
    decide (((List.range 144).filter (fun n => !ok n)).length > 24) ||
    (List.range 12).any (fun c => decide (((clusterEngines c).filter ok).length < 2)) ||
    decide (((List.range 24).filter fun n => (s.aeng n).state != .inService).length > 4)

/-- Step 8 up to the internal DRBG instances. -/
def startTests (s : State) : State :=
  let i := inputOf s
  let s1 := startEngines { s with boot := { s.boot with dguFailed := i.dguFailed % 16, routeFailed := i.routeFailed % 256 } }
  if testsHalt s1 then haltStart s1 9 else s1

/-- Instances of a list that are not instantiated take blocks while there are any (R546); the worked example of 09 gives
instance 4,096 the first block, so the reserve of R240 does not bind here (DEDUCED). -/
def instantiateAll : List Nat → State → State
  | [], s => s
  | n :: r, s =>
    if (s.drbgs.get {} n).inst then instantiateAll r s
    else if blockReady s n true then instantiateAll r (instantiateNow s n) else s

/-- Whether instances of a list still wait. -/
def instancesWait (l : List Nat) (s : State) : Bool := l.any fun n => !(s.drbgs.get {} n).inst

/-- The internal instances (R242, R244). -/
def internalInstances : List Nat := (List.range 13).map (· + 4096)

/-! ### Steps 9 to 12: identity and image -/

/-- A system key half (R146): its DEST and USAGE are left open by the manual; COLOUR is that of the slots 0 to 31 (R147). -/
def systemHalf (n cls size origin : Nat) (mat pub : Bytes) : SlotHalf :=
  { material := mat, pubKey := pub, colour := 0xF000, cls := cls, size := size, origin := origin, version := 1,
    dest := Config.systemDest n % 256, usage := Config.systemUsage n % 256 }

/-- Load a system slot of CLASS CUSTODY (R146). -/
def loadSystem (s : State) (n origin : Nat) (mat : Bytes) : State :=
  s.setSlot n { active := some (systemHalf n 5 0 origin mat []) }

/-- Step 9: the identity keys from P (R154). -/
def startIdentity (s : State) : State :=
  match s.pufSecret with
  | none => s
  | some p =>
    let ec := keyPriv 6 0 (kdf p (ascii "GV-ID-EC") [] 512)
    let ds := keyPriv 10 0 (kdf p (ascii "GV-ID-DSA") [] 256)
    (s.setSlot 0 { active := some (systemHalf 0 6 0 1 ec (keyPub 6 0 ec)) }).setSlot 1
      { active := some (systemHalf 1 10 0 1 ds (keyPub 10 0 ds)) }

/-- The body of an image. -/
def imgBody (s : State) (img : Nat) : Bytes := norBytes s (imgBase img + 12288) (u32 (norBytes s (imgBase img) 32) 16)

/-- Layout of a header: MAGIC, FORMAT, lengths, ENTRY, REVOKE_MASK and RSVD (R309). -/
def imgLayoutOk (h : Bytes) : Bool :=
  let body := u32 h 0x10
  let res := u32 h 0x14
  let mask := u8 h 0x1C
  u32 h 0 == 0x47515A31 && u8 h 4 == 1 && u8 h 5 ≤ 3 && u16 h 6 ≤ 256 && 4096 ≤ body && body ≤ 8376320 && body % 4096 == 0 &&
    res % 4096 == 0 && res ≤ 393216 && res ≤ body && decide (u32 h 0x18 < res) && mask < 16 && !mask.testBit (u8 h 5) &&
    zeroAt h 0x1D 3 && zeroAt h 0x90 0x70 && zeroAt h 0xB80 0x480 && zeroAt h 0x2273 0xD8D

/-- Whether a header's keys are the vendor's, and not revoked. -/
def imgKeysOk (s : State) (h : Bytes) : Bool :=
  let k := u8 h 5
  !s.fuses.keyRevoke.testBit k && sha384 (slice h 0x100 96) == listGet (zeros 48) s.fuses.vkhP384 k &&
    sha384 (slice h 0x160 2592) == listGet (zeros 48) s.fuses.vkhMldsa k

/-- Both vendor signatures over the signed header. -/
def imgSigsOk (h : Bytes) : Bool :=
  let m := h.take 0x1000
  Config.verify 1 false (slice h 0x100 96) [] m (slice h 0x1000 96) && Config.verify 6 false (slice h 0x160 2592) [] m (slice h 0x1060 4627)

/-- The checks of R310 in order; 0 when the image passes. -/
def imgCheck (s : State) (img : Nat) (badHeader badBody : List Nat) : Nat :=
  let h := imgHeader s img
  if badHeader.contains img then 8
  else if imgLayoutOk h = false ∨ imgKeysOk s h = false then 5
  else if u16 h 6 < s.fuses.svn then 7
  else if imgSigsOk h = false then 6
  else if badBody.contains img then 8
  else if sha384 (imgBody s img) ≠ slice h 0x20 48 ∨ sha3_512 (imgBody s img) ≠ slice h 0x50 64 then 6
  else 0

/-- The image tried first: the greater SVN, then BUILD, and A when both are equal (R314). -/
def imgFirst (s : State) : Nat :=
  let a := imgHeader s 0
  let b := imgHeader s 1
  if u16 a 6 < u16 b 6 ∨ (u16 a 6 = u16 b 6 ∧ u64 a 8 < u64 b 8) then 1 else 0

/-- Fuse bits 3,455 to 64 (R301, R311). -/
def fuseBytes (f : Fuses) : Bytes :=
  let keys := fun (l : List Bytes) => ((List.range 4).map fun k => fit 48 (listGet [] l k)).flatten
  keys f.vkhP384 ++ keys f.vkhMldsa ++ leBytes 40 (f.keyRevoke % 16 + (2 ^ f.floor - 1) * 16 + (2 ^ f.svn - 1) * 2 ^ 64)

/-- Debug state for MR_2: open by state. -/
def debugOpen (s : State) : Bool := s.lcs.state ≤ 1

/-- Set the state of an image. -/
def setImg (s : State) (img : Nat) (st : ImageState) : State :=
  if img = 0 then { s with boot := { s.boot with imgA := { state := st } } } else { s with boot := { s.boot with imgB := { state := st } } }

/-- An image passes: the gate opens, MR_1 to MR_3 are extended, and Quartz firmware extends MR_4 (R311, R443). -/
def imgRuns (s : State) (img : Nat) : State :=
  let s1 := { s with boot := { s.boot with imageB := img == 1, gateOpen := true }, quartz := { s.quartz with fwRunning := true } }
  let s2 := extendFrom (setImg s1 img .valid) 0 1 0x10 false ((imgHeader s img).take 4096)
  let s3 := extendFrom s2 0 1 0x11 false (imgBody s img)
  let s4 := extendFrom s3 0 2 0x20 false (Config.lcsStream s.lcs.state s.fuses.floor (b2n (debugOpen s)))
  let s5 := extendFrom s4 0 3 0x30 false (fuseBytes s.fuses)
  extendFed (s5.tookFree 65) 1 4 0x40 (leNat (s5.freeBytes 1) % 65) ((s5.freeBytes 65).drop 1)

/-- Steps 10 to 12 (R310 to R314). -/
def startImage (s : State) : State :=
  let i := inputOf s
  let x := imgFirst s
  let c := imgCheck s x i.badHeader i.badBody
  if c = 0 then imgRuns s x
  else
    let s := countUnread s (c == 8)
    let s1 := setImg { s with boot := { s.boot with firstCode := c } } x .invalid
    let d := imgCheck s (1 - x) i.badHeader i.badBody
    if d = 0 then recordEvent (imgRuns { s1 with boot := { s1.boot with fallback := true } } (1 - x)) 0x8C03 x c 0
    else haltStart (setImg (countUnread s1 (d == 8)) (1 - x) .invalid) c

/-! ### Steps 13 and 14: custody root and memory keys -/

/-- CR and the keys under it take slots 2, 6 and 7 (R154). -/
def loadCustody (s : State) (salt : Bytes) : State :=
  let cr := kdf (s.pufSecret.getD []) (ascii "GV-CR") salt 256
  loadSystem (loadSystem (loadSystem s 2 1 cr) 6 1 (kdf cr (ascii "GV-DW") [] 256)) 7 1 (kdf cr (ascii "GV-CS") [] 256)

/-- Step 13: KEYED when the CDK record's CR_KCV is that of CR (R155). -/
def startCustody (s : State) : State :=
  if s.lcs.state = 0 ∨ s.lcs.state = 4 then s
  else match s.moon.salt with
    | none => s
    | some salt =>
      let s1 := loadCustody s salt
      match (cfgFind s1 1 0).map (cfgBody s1) with
      | some (CfgBody.cdk key _ crKcv peers q) =>
        if crKcv = kcv (slotKey s1 2) then
          let s2 := loadSystem s1 3 3 key
          { s2 with keyed := true, cdk := some key, fabric := { s2.fabric with peers := peers.map fun p => { id := p }, q := q } }
        else s1
      | _ => s1

/-- A system draw that is served at once. -/
def systemDraw (s : State) (n len : Nat) : Bytes × State :=
  match draw s n len false with
  | .ok b s1 => (b, s1)
  | _ => ([], s)

/-- The line-sealing keys of a key in slot 5 (R494). -/
def lineKeys (k : Bytes) : Bytes × Bytes := (kdf k (ascii "GV-HE") [] 256, kdf k (ascii "GV-HM") [] 256)

/-- Step 14: slots 4 and 5 and the Onyx mesh key are drawn (R146, R329); the stack is trained (R494). -/
def startMemory (s : State) : State :=
  if (inputOf s).hbmOk = false then haltStart s 9
  else
    let (k4, s1) := systemDraw s 4097 32
    let (k5, s2) := systemDraw s1 4097 32
    let (km, s3) := systemDraw s2 4097 32
    let s4 := loadSystem (loadSystem s3 4 0 k4) 5 0 k5
    { s4 with tamper := { s4.tamper with meshKey := km }, mem := { trained := true, keys := some (lineKeys k5) } }

/-! ### Step 15: journal and tenants (R199, R200, R254, R510) -/

/-- Records whose MARK stands and whose tag fails are ignored, each with its event (R510). -/
def badRecords (s : State) : State :=
  (s.cfg.filter fun r => r.valid && !cfgTagOk s r).foldl (fun t r => recordEvent t 0x8C0F r.ty (r.key % 2 ^ 32) (cfgSector r.page)) s

/-- A configuration record written at once (R254). -/
def cfgNow (s : State) (ty key : Nat) (body : CfgBody) : State := cfgAppend (cfgCompact 1920 s) ty key body true

/-- A binding of a rebuilt tenant. -/
def rebind (s : State) (t : Nat) (b : Option BindId) (twin : Bool) (pasid : Nat) : State :=
  match b with
  | none => s
  | some b => s.setBind b { valid := true, twin := twin, tenant := t, pasid := pasid }

/-- Rebuild one tenant's context (R254): attachments whose anchor is a tombstone or missing are dropped. -/
def rebuildTenant (s : State) (t : Nat) (c : Tenant) (root : SlotHalf) (atts : List Attachment) : State :=
  let live := atts.filter fun a => match anchorOf s a.uid with | some x => !isShredded x | none => false
  let s1 := s.setTen t (fillBuckets { c with state := .quiesced, spoofCount := 0, jobsEnded := 0, jobsAborted := 0 })
  let s2 := rebind (rebind s1 t c.primary false c.pasid) t c.twin true c.twinPasid
  let s3 := { s2 with mem := allocLines s2.mem (tenantLines t).1 (tenantLines t).2 t }.setSlot c.rootSlot { active := some root }
  let s4 := live.foldl (fun u a => (u.setSlot a.slot { active := some a.half }).setTree (treeNum t a.epoch)
    { state := .unloaded, uid := a.uid, rootSlot := a.slot }) s3
  if live.length < atts.length then cfgNow s4 2 t (tenantBody s4 t []) else s4

/-- Finish a record marked RESET or DESTROY (R254, R267). -/
def finishTenant (s : State) (t : Nat) : State :=
  let c := s.ten t
  match c.pendingMark with
  | .none => s
  | m =>
    let d := m == .destroy
    let s1 := (tenantTrees s t).foldl (fun u e => tombstoneNow u e.1) s
    let s2 := (clearTenant s1 none t d).1
    if d then cfgNow (s2.setTen t {}) 4 t (.tombstone 2)
    else
      let s3 := s2.setTen t { s2.ten t with pendingMark := .none }
      cfgNow s3 2 t (tenantBody s3 t [])

/-- The trees that an entry with a bad MAC names enter FAULT, when any anchor of its TREE_UID is held; the entries of the sector that
follows the head are erased instead (R200). -/
def faultBad (bad : NMap Anchor) (s : State) : State :=
  bad.foldl (fun u e => if (anchorOf u e.2.uid).isSome then forUid u e.2.uid fun v t => treeFault v t 1 else u) s

/-- Step 15. While the vault is UNKEYED the journal is not scanned (R200) and no record can be opened. -/
def startTenants (s : State) : State :=
  if s.keyed = false then s
  else
    let bad := (badEntries s).filter fun e => !afterHead s e.1
    let s2 := badRecords (scanJournal s)
    let recs := (cfgStanding s2).filter (·.ty == 2)
    let s3 := recs.foldl (fun u r => match cfgBody s2 r with
      | .tenant c root atts => rebuildTenant u r.key c root atts
      | _ => u) s2
    recs.foldl (fun u r => finishTenant u r.key) (faultBad bad s3)

/-! ### Steps 16 and 17 -/

/-- The tenant instances (R244), in index order. -/
def tenantInstances (s : State) : List Nat := (s.tenants.filter fun e => e.2.state != .free).map (·.1)

/-- The node claims its address (R420). -/
def claimAddress (s : State) : State :=
  let w := s.regField R.PWR_KEEPALIVE 23 8
  let a := if w ≠ 0 then w else idHash s % 65536
  { s with fabric := { s.fabric with addr := if a = 0 ∨ a = 0xFFFF then 1 else a, addrState := 1 } }

/-- Every link is enabled and starts in DOWN (R414, R419). -/
def linksUp (s : State) : State :=
  (List.range 8).foldl (fun t l => t.setLink l { warmLink (t.link l) with signal := (t.link l).signal, state := .down }) s

/-- Step 17: SERVICE, with ward verification; RETURNED ends in LOCKDOWN with HALT_N high (R323). -/
def startService (s : State) : State :=
  let s1 := { s with boot := { s.boot with input := none, selftestOk := true } }
  if s.lcs.state = 4 then enterLockdown (endHeld s1)
  else wardsStart (fetchAll (serviceEntered (setMode (linksUp (claimAddress s1)) .service)))

/-- The internal instances and every step after them, as far as the blocks at hand reach. -/
def startTail (s0 : State) : State :=
  let s := instantiateAll (tenantInstances s0) s0
  if instancesWait (tenantInstances s) s then s else onStart 17 startService s

/-- Steps 9 to 15, then the tenant instances. -/
def startMiddle (s : State) : State :=
  let s1 := onStart 13 startCustody (onStart 10 startImage (onStart 9 startIdentity s))
  let s2 := onStart 15 startTenants (onStart 14 startMemory s1)
  onStart 16 startTail s2

/-- A start that waits goes on (R546): at step 8 for the internal instances, at step 16 for the tenants'. -/
def startResume (s : State) : State :=
  if starting s = false then s
  else if s.boot.step = 8 then
    let s1 := instantiateAll internalInstances s
    if instancesWait internalInstances s1 then s1 else startMiddle s1
  else if s.boot.step = 16 then startTail s else s

/-- Steps 1 to 8. -/
def startRun (s : State) (i : StartInput) : State :=
  let s1 := onStart 3 startLifecycle (onStart 3 startRecorder (startBegin s i))
  let s2 := onStart 6 startRom (onStart 4 startTrims s1)
  startResume (onStart 8 startTests (onStart 7 startPuf s2))

/-- Power-good (R522): STARTUP begins when it was entered, or when power returns. -/
def powerGood (s : State) (i : StartInput) : State :=
  if (s.mode = .startup ∧ s.boot.input.isNone = true) ∨ (s.mode = .dormant ∧ s.moon.corePower = false) then startRun s i else s

/-- VDD_CORE and VDD_AON have been good for 1 ms (R522). -/
def execPowerGood (i : StartInput) (s : State) : Host.Outcome State Fault Refusal := .next (powerGood s i)

/-- A draw of STARTUP has waited 100 ms (R546). -/
def execStartupEntropyTimeout (s : State) : Host.Outcome State Fault Refusal :=
  .next (if starting s ∧ (s.boot.step = 8 ∨ s.boot.step = 16) then haltStart s 9 else s)

/-! ### The entropy rows -/

/-- The conditioner produces a block (R239): a start that waits goes on, then waiting instances are served. -/
def execConditionerBlock (raw : Bytes) (s : State) : Host.Outcome State Fault Refusal :=
  .next (serveWanted (startResume (conditionerBlock s raw)))

/-- The start halts when the entropy source is FAILED before step 17 (R307, R546); before every source's start-up test has
ended the source is not judged. -/
def entropyHalt (s : State) : State :=
  let tested := (List.range 8).all fun n => (s.sources.get {} n).state == .healthy || decide ((s.sources.get {} n).fails > 0)
  if starting s ∧ entropyState s = 2 ∧ tested = true then haltStart s 9 else s

/-- A noise source's start-up test is done (R237). -/
def execNoiseStartupTestDone (n : Nat) (samples : Bytes) (s : State) : Host.Outcome State Fault Refusal :=
  .next (entropyHalt (startupTestDone s n samples))

/-- A health test fails (R237). -/
def execNoiseSourceFail (n : Nat) (samples : Bytes) (s : State) : Host.Outcome State Fault Refusal :=
  .next (entropyHalt (sourceFail s n samples))

end Sys2Proof.Machine
end

