-- ==== Sys2Proof/Machine/Lifecycle.lean ====
section
/-! DEFINITION. Lifecycle and debug (12 R318 to R328): challenges, tokens, transitions, the debug port. -/

namespace Sys2Proof.Machine

/-! ### Challenges (R327) -/

/-- The 48 bytes of a challenge's result. -/
def challengeResult (s : State) : Bytes :=
  fit 32 (s.lcs.challenge.getD []) ++ leBytes 8 s.fuses.deviceId ++ leBytes 1 s.lcs.state ++ leBytes 1 s.fuses.floor ++ zeros 6

/-- LCS_CHALLENGE: a new challenge from internal instance 4,107. -/
def lcsChallenge (j : Job) (s : State) : State :=
  withDraw s j 4107 32 fun bs s1 =>
    let s2 := { s1 with lcs := { s1.lcs with challenge := some bs } }
    okJob s2 j (challengeResult s2)

/-- LCS_CHALLENGE. -/
def execLcsChallenge (o : Origin) (s : State) : Host.Outcome State Fault Refusal :=
  .next (runCommand C.LCS_CHALLENGE o s lcsChallenge)

/-- The outstanding challenge is 300 s old (R327). -/
def execChallengeExpire (s : State) : Host.Outcome State Fault Refusal :=
  .next (if s.lcs.challenge.isNone then s else { timerTaken s 13 with lcs := { s.lcs with challenge := none } })

/-- Whether the debug port is in a locked state (R325). -/
def debugLocked (s : State) : Bool :=
  2 ≤ s.lcs.state && s.lcs.state ≤ 4 && !s.lcs.unlocked && s.mode != .startup && s.mode != .dormant

/-- DBG_CHALLENGE (R328): a new challenge is shifted out. The manual does not say what a draw that cannot be served shifts
out: there is then no challenge, and the bytes are free. Where not available it acts as BYPASS. -/
def dbgChallenge (s : State) : State :=
  if debugLocked s = false then s
  else match draw s 4107 32 false with
    | .ok bs s1 =>
      let s2 := { s1 with lcs := { s1.lcs with challenge := some bs } }
      s2.send (.tap (challengeResult s2))
    | _ => ({ s.tookFree 48 with lcs := { s.lcs with challenge := none } }).send (.tap (s.freeBytes 48))

/-- The TAP instruction DBG_CHALLENGE. -/
def execDbgChallenge (s : State) : Host.Outcome State Fault Refusal := .next (dbgChallenge s)

/-! ### Tokens (R326) -/

/-- Bytes of a token without an owner signature. -/
def tokenLen : Nat := 64 + 96 + 2592 + 96 + 4627

/-- The owner slot's half, when it is one that can verify. -/
def tokenOwner (s : State) (t : Bytes) : Option SlotHalf :=
  match activeHalf s (u16 t 4) with
  | some h => if ownerScheme h ≠ 0 ∧ h.usage &&& 8 = 8 then some h else none
  | none => none

/-- KIND and TARGET allowed in the current state (R322, R325). -/
def tokenAllowed (st kind target : Nat) : Bool :=
  (kind == 0x30 && target == 0 && 2 ≤ st && st ≤ 4) ||
    (kind == 0x31 && target == st + 1 && (st == 0 || st == 1 || st == 4))

/-- Layout, length, KIND and TARGET, the owner signature present exactly when required. -/
def tokenFormat (s : State) (t : Bytes) : Bool :=
  let own := u8 t 1 == 0x30 && s.lcs.state ≤ 3
  let n := u16 t 4
  u8 t 0 == 1 && u8 t 3 ≤ 3 && zeroAt t 6 2 && zeroAt t 48 16 && tokenAllowed s.lcs.state (u8 t 1) (u8 t 2) &&
    (if own then 32 ≤ n && n ≤ 63 && (match tokenOwner s t with
        | some h => t.length == tokenLen + sigLen (ownerScheme h) h.size
        | none => decide (t.length > tokenLen))
     else n == 0xFFFF && t.length == tokenLen)

/-- Vendor key hashes, both vendor signatures and the owner's. The signatures are checked on an arith engine. -/
def tokenSigs (s : State) (t : Bytes) : Bool :=
  let k := u8 t 3
  let m := t.take 64
  !s.fuses.keyRevoke.testBit k && sha384 (slice t 64 96) == listGet (zeros 48) s.fuses.vkhP384 k &&
    sha384 (slice t 160 2592) == listGet (zeros 48) s.fuses.vkhMldsa k &&
    Config.verify 1 false (slice t 64 96) [] m (slice t 2752 96) &&
    Config.verify 6 false (slice t 160 2592) [] m (slice t 2848 4627) &&
    (u16 t 4 == 0xFFFF || (match tokenOwner s t with
      | some h => Config.verify (ownerScheme h) false ((openPublic s h).getD []) [] m (t.drop tokenLen)
      | none => false))

/-- Whether a DONE ceremony of a purpose stands (R390). -/
def ceremonyDone (s : State) (purpose : Nat) : Bool := s.tkn.ceremony.state == 3 && s.tkn.ceremony.purpose == purpose

/-- The checks of a token in the order of R326. -/
def tokenCheck (s : State) (t : Bytes) : Option Nat :=
  firstFail [failIf (!tokenFormat s t) S.E_TOKEN_FORMAT,
    failIf (u64 t 8 != s.fuses.deviceId || s.lcs.challenge != some (slice t 16 32)) S.E_TOKEN_CHALLENGE,
    failIf (!tokenSigs s t) S.E_TOKEN_SIG,
    failIf (u8 t 1 == 0x30 && s.lcs.state ≤ 3 && !ceremonyDone s 5) S.E_CEREMONY]

/-- Whether a token reaches the check of its signatures. -/
def tokenReaches (s : State) (t : Bytes) : Bool :=
  tokenFormat s t && u64 t 8 == s.fuses.deviceId && s.lcs.challenge == some (slice t 16 32)

/-- The check of a token's signatures waits for a free arith engine (R216). -/
def tokenHeld (s : State) (t : Bytes) : Bool := tokenReaches s t && (arithNow s).isNone

/-- The engine that checks a token's signatures. -/
def tokenArith (s : State) (t : Bytes) : State := if tokenReaches s t then ownerArith s else s

/-- The challenge expires at its first use; a failed token counts (DBG_STATUS). -/
def tokenUsed (s : State) (c : Option Nat) : State :=
  { s with lcs := { s.lcs with challenge := none
                               authFails := if c.isSome then satInc 8 s.lcs.authFails else s.lcs.authFails } }

/-! ### Transitions (R319 to R324) -/

/-- The wipes that a transition owes (R322). -/
def wipesOf : Nat → List Wipe
  | 2 => [.journal, .wardsAndConfig]
  | 4 => [.helpers, .journal, .wardsAndConfig]
  | 5 => [.everything]
  | _ => []

/-- RNG_TEST.MODE is forced to 0 (R322). -/
def testModeOff (s : State) : State :=
  if s.regField R.RNG_TEST 1 0 = 0 then s else rngModeChanged (s.setRegField R.RNG_TEST 1 0 0)

/-- What stands before programming (R322): the identity enrolled over the cells read, the test mode ended and the salt
cleared, or zeroisation. -/
def beforeProgram (s : State) (j : Job) (cells p : Bytes) : State :=
  match u8 j.ops 0 with
  | 1 =>
    let h := helperFor cells p 1
    startIdentity { s with pufSecret := some p, boot := { s.boot with pufA := h, pufB := h } }
  | 2 =>
    let s1 := testModeOff s
    { s1 with moon := { s1.moon with salt := none } }
  | 4 => zeroiseNow (clearCeremony s) (some j.origin) C.LCS_TRANSITION
  | _ => s

/-- Copy A is programmed. -/
def programA (s : State) (j : Job) (cells p : Bytes) : State :=
  let s1 := beforeProgram s j cells p
  norThen { s1 with lcs := { s1.lcs with busy := true } } { j with committed := true, stage := 9 } 6144 false true

/-- The checks of an authorised transition that follow its authority, then its order, of rank 2 on everything (R174), and the work
before programming. -/
def authorised (s : State) (j : Job) (cells : Bytes) : State :=
  if dormantReady s j.origin = false then dropWith s j S.E_NOT_QUIESCED
  else if s.lcs.vholdOk = false then dropWith s j S.E_HOLDUP
  else takeOrder s j [everyName] fun s1 j1 => prevail s1 j1 fun s2 j2 =>
    if u8 j2.ops 0 = 1 then
      let s3 := testModeOff s2
      withDraw { s3 with boot := { s3.boot with pufA := {}, pufB := {} } } j2 4097 32 fun p s4 => programA s4 j2 cells p
    else programA s2 j2 cells []

/-- The owner's authority (R322). -/
def ownerAuthority (s : State) (j : Job) : Option Nat :=
  firstFail [failIf (!zeroAt j.ops 16 16) S.E_TOKEN_FORMAT,
    failIf (u8 j.ops 0 == 3 && !((List.range 32).any fun k => (activeHalf s (32 + k)).isSome)) S.E_OWNER_KEY,
    failIf (u8 j.ops 0 == 4 && !ceremonyDone s 4) S.E_CEREMONY]

/-- Whether a transition to a state needs a vendor token. -/
def vendorTarget (t : Nat) : Bool := t == 1 || t == 2 || t == 5

/-- The command completes; every transition but ISSUED to IN_SERVICE enters LOCKDOWN (R322). -/
def transitionDone (s : State) (j : Job) : State :=
  let t := u8 j.ops 0
  let s1 := runWipes { s with lcs := { s.lcs with busy := false, state := if t = 3 then 3 else s.lcs.state } }
  let s2 := okJob s1 j (leBytes 1 t ++ leBytes 1 s1.fuses.floor ++ zeros 6)
  if t = 3 then s2 else enterLockdown s2

/-- LCS_TRANSITION (R319 to R322): stage 0 and 1 check; 10 copy A reads back, 11 copy B, then the floor and the wipes. -/
def lcsTransition (vhold : Nat) (cells : Bytes) (j : Job) (s0 : State) : State :=
  let s := vholdReads s0 vhold
  let t := u8 j.ops 0
  let r := hostRef j.ops 16
  match j.stage with
  | 0 =>
    if t ≠ s.lcs.state + 1 then dropWith s j S.E_LCS_TRANSITION
    else if vendorTarget t then
      match firstFail [refCheck s j r 0 maxLen, failIf (r.len != tokenLen) S.E_TOKEN_FORMAT] with
      | some st => dropWith s j st
      | none => readOrEnd s j [r]
    else match ownerAuthority s j with
      | some st => dropWith s j st
      | none => authorised s j cells
  | 1 =>
    let tok := listGet [] j.data 0
    if tokenHeld s tok then s else
    let s := tokenArith s tok
    let c := firstFail [tokenCheck s tok, failIf (u8 tok 1 != 0x31) S.E_TOKEN_FORMAT]
    match c with
    | some st => dropWith (tokenUsed s c) j st
    | none => authorised (tokenUsed s none) { j with stage := 2 } cells
  | 2 => authorised s j cells
  | 10 => norThen { s with lcs := { s.lcs with copyA := s.lcs.copyA.program t, wipes := wipesOf t } } j 6145 false false
  | 11 =>
    let s1 := { s with lcs := { s.lcs with copyB := s.lcs.copyB.program t }, fuses := { s.fuses with floor := t } }
    if wipesOf t = [] then transitionDone s1 j else norThen s1 j 8192 true false
  | _ => transitionDone s j

/-- LCS_TRANSITION, with the lowest reading of VHOLD in the last 1 ms (R321) and the PUF cells as they read. A command that
has passed its checks keeps to them. -/
def execLcsTransition (o : Origin) (vhold : Nat) (cells : Bytes) (s : State) : Host.Outcome State Fault Refusal :=
  .next (runCommand C.LCS_TRANSITION o s (lcsTransition vhold cells))

/-! ### Debug unlock (R325, R328) -/

/-- MR_2 is extended and the port opened. -/
def openDebug (s : State) : State :=
  let s1 := extendFrom s 0 2 0x21 false (Config.lcsStream s.lcs.state s.fuses.floor 1)
  { s1 with lcs := { s1.lcs with unlocked := true } }

/-- A token that passes: an unlock, with zeroisation in ISSUED and IN_SERVICE, or the transition to SCRAPPED as internal
work of the device. -/
def tokenActs (s : State) (t : Bytes) : State :=
  if u8 t 1 = 0x31 then
    let j : Job := { origin := .internal (2 ^ 32), code := C.LCS_TRANSITION, ops := leBytes 1 5 ++ zeros 31, phase := .started }
    if s.lcs.vholdOk = false then { s with lcs := { s.lcs with lastStatus := S.E_HOLDUP } }
    else programA (s.addJob j) j [] []
  else if s.lcs.state = 4 then openDebug s
  else enterLockdown (openDebug (zeroiseNow (clearCeremony s) none 0))

/-- DBG_TOKEN (R328): checked at Update-DR; where not available it acts as BYPASS. Without a free arith engine the token is not used
(assumption 179). -/
def dbgToken (s0 : State) (t : Bytes) : State :=
  if debugLocked s0 = false ∨ tokenHeld s0 t = true then s0
  else
    let s := tokenArith s0 t
    let c := firstFail [tokenCheck s t, failIf (u8 t 1 == 0x31 && s.lcs.state != 4) S.E_TOKEN_FORMAT]
    let s1 := tokenUsed s c
    let s2 := { s1 with lcs := { s1.lcs with lastStatus := c.getD S.OK } }
    if c.isSome then s2 else tokenActs s2 t

/-- The TAP instruction DBG_TOKEN. -/
def execDbgToken (t : Bytes) (s : State) : Host.Outcome State Fault Refusal := .next (dbgToken s t)

end Sys2Proof.Machine
end

