-- ==== Sys2Proof/Machine/Cards.lean ====
section
/-! DEFINITION. The token port's buses (15 R371 to R383): identification, scripts of card commands, removal, and the
resolution of UNCERTAIN marks; and the ceremony store that a resolution may complete (R384 to R392). -/

namespace Sys2Proof.Machine

/-! ### Frames (R374) -/

/-- One bit of CRC7. -/
def crc7Bit (c : BitVec 7) (b : Bool) : BitVec 7 :=
  if (c.getLsbD 6 != b) then (c <<< 1) ^^^ 0x09#7 else c <<< 1

/-- CRC7 over a byte string, most significant bit first. -/
def crc7 (bs : Bytes) : Nat :=
  (bs.foldl (fun c x => (List.range 8).foldl (fun d i => crc7Bit d (x.getLsbD (7 - i))) c) 0#7).toNat

/-- The 48-bit frame of a command. -/
def cardFrame (index arg : Nat) : Bytes :=
  let h := leBytes 1 (64 + index) ++ beBytes 4 arg
  h ++ leBytes 1 (2 * crc7 h + 1)

/-- Send a command frame. -/
def sendCard (s : State) (b index arg : Nat) : State := s.send (.card b (cardFrame index arg))

/-- Send a data block. -/
def sendBlock (s : State) (b : Nat) (bs : Bytes) : State := s.send (.card b (fit 512 bs))

/-! ### CID and status (R376, R377) -/

/-- KIND of a CID[127:8]. -/
def cidKind (c : Nat) : Nat := c / 2 ^ 48 % 256

/-- The KIND a bus serves. -/
def busKind (b : Nat) : Nat := if b = 2 then 0x4B else 0x4A

/-- First address of a bus (R380). -/
def firstRca (b : Nat) : Nat := if b = 2 then 0x10 else 1

/-- Whether the port's controller runs. -/
def portAlive (s : State) : Bool := s.mode != .startup && s.mode != .dormant

/-! ### Scripts -/

/-- The frame of a card command. -/
def opFrame : CardOp → Nat × Nat
  | .select r => (7, r * 2 ^ 16)
  | .sleep r => (5, r * 2 ^ 16)
  | .wakeUp r => (6, r * 2 ^ 16)
  | .unlock _ => (43, 0)
  | .lock _ => (42, 0)
  | .write n _ => (24, n)
  | .read n => (17, n)
  | .forceErase => (44, 0)

/-- Send the next command of a script; an UNLOCK waits out its delay (R388). -/
def beginOp (s : State) (b : Nat) (op : CardOp) (rest : List CardOp) : State :=
  let k := s.bus b
  let wait := match op with | .unlock _ => k.failWait | _ => false
  let k1 := { k with cur := some op, script := rest, step := if wait then .delay else .response }
  let s1 := s.setBus b k1
  if wait then s1 else sendCard s1 b (opFrame op).1 (opFrame op).2

/-- Start a script. -/
def startScript (s : State) (b : Nat) : List CardOp → State
  | [] => s
  | op :: r => beginOp s b op r

/-- The command that uses the bus goes on in its own row. -/
def cardWake (s : State) (b : Nat) : State :=
  match (s.bus b).owner with
  | none => s
  | some o => match s.job? o with
    | some j => if j.phase = .card then s.setJob { j with phase := .started, stage := j.stage + 1 } else s
    | none => s

/-- The card returns to STBY, a cartridge to SLP (R381); one without power gets no frame. -/
def parkCard (s : State) (b rca : Nat) : State :=
  if (s.bus b).power = false then s
  else
    let s1 := sendCard s b 7 0
    if b = 2 then sendCard s1 b 5 (rca * 2 ^ 16) else s1

/-- TKN_SOCKET_s.LAST_STATUS. -/
def busLast (s : State) (b st : Nat) : State := s.setBus b { s.bus b with lastStatus := st }

/-- A command on a bus ends with a status. -/
def busEnd (s : State) (b st : Nat) : State :=
  match (s.bus b).owner with
  | none => s.setBus b { s.bus b with script := [], cur := none, step := .idle }
  | some o =>
    let s1 := busLast (s.setBus b { s.bus b with script := [], cur := none, step := .idle, owner := none }) b st
    match s1.job? o with
    | some j => dropWith s1 j st
    | none => s1

/-! ### UNCERTAIN marks (R383) -/

/-- The mark of a card identified on a bus; both sockets serve any card. -/
def markOf (s : State) (b : Nat) : Option CardMark :=
  s.tkn.marks.find? fun m => (s.bus b).cids.contains m.cid && (m.bus == 2) == (b == 2)

/-- Address of a card on a bus. -/
def rcaOf (s : State) (b cid : Nat) : Nat := firstRca b + (s.bus b).cids.findIdx (· == cid)

/-- A mark is left for the write or LOCK that was cut in its busy phase. -/
def markCut (s : State) (m : CardMark) : State :=
  { s with tkn := { s.tkn with marks := m :: s.tkn.marks.filter (·.cid != m.cid) } }

/-- After identification: resolve a mark first, else the command that waits goes on. -/
def afterIdent (s : State) (b : Nat) : State :=
  match markOf s b with
  | some m =>
    let r := rcaOf s b m.cid
    startScript (s.setBus b { s.bus b with resolving := 1 }) b (if b = 2 then [.wakeUp r, .select r] else [.select r])
  | none => cardWake (s.setBus b { s.bus b with resolving := 0 }) b

/-! ### The ceremony store (R384, R385, R389 to R391) -/

/-- Multiplication by x in GF(2⁸). -/
def gfX (a : Byte) : Byte := if a.getLsbD 7 then (a <<< 1) ^^^ 0x1B#8 else a <<< 1

/-- a · xⁿ. -/
def gfXn (a : Byte) : Nat → Byte
  | 0 => a
  | n + 1 => gfX (gfXn a n)

/-- Multiplication in GF(2⁸). -/
def gfMul (a b : Byte) : Byte := (List.range 8).foldl (fun acc i => if b.getLsbD i then acc ^^^ gfXn a i else acc) 0

/-- The inverse, a²⁵⁴. -/
def gfInv (a : Byte) : Byte := (List.range 254).foldl (fun acc _ => gfMul acc a) 1

/-- Byte j of share i: the polynomial's value (R384). -/
def shareByte (cdk : Bytes) (coeffs : List Bytes) (i j : Nat) : Byte :=
  let x : Byte := BitVec.ofNat 8 i
  ((cdk :: coeffs).reverse).foldl (fun acc c => gfMul acc x ^^^ c.getD j 0) 0

/-- Share i. -/
def shareOf (cdk : Bytes) (coeffs : List Bytes) (i : Nat) : Bytes := (List.range 32).map (shareByte cdk coeffs i)

/-- The Lagrange coefficient at 0 of index x among the indices (R384). -/
def lagrange (xs : List Nat) (x : Nat) : Byte :=
  xs.foldl (fun acc m =>
    if m = x then acc else gfMul acc (gfMul (BitVec.ofNat 8 m) (gfInv (BitVec.ofNat 8 m ^^^ BitVec.ofNat 8 x)))) 1

/-- Rebuilding from presented shares. -/
def combine (sh : List (Nat × Bytes)) : Bytes :=
  (List.range 32).map fun j => sh.foldl (fun acc e => acc ^^^ gfMul (e.2.getD j 0) (lagrange (sh.map (·.1)) e.1)) 0

/-- KP, CPW and SWK of a PIN on a card (R385). -/
def pinKp (pin : Bytes) : Bytes := sha3_256 (ascii "GV-PIN" ++ pin)
@[inherit_doc pinKp] def pinCpw (pin : Bytes) (cid : Nat) : Bytes := (kdf (pinKp pin) (ascii "GV-CPW") (leBytes 15 cid) 128).take 16
@[inherit_doc pinKp] def pinSwk (pin : Bytes) (cid : Nat) : Bytes := kdf (pinKp pin) (ascii "GV-SWK") (leBytes 15 cid) 256

/-- 120 s and 600 s in units of device time (R390). -/
def quorumWindow : Nat := 120 * 100000000
@[inherit_doc quorumWindow] def enrolWindow : Nat := 600 * 100000000

/-- The SET_ID of the standing CDK record. -/
def currentSet (s : State) : Nat :=
  match (cfgFind s 1 0).map (cfgBody s) with
  | some (.cdk _ setId _ _ _) => setId
  | _ => 0

/-- Re-enrolment erases the configuration area (R510). -/
def eraseConfig (s : State) : State := { s with cfg := [], nor := { s.nor with cfgTail := s.nor.cfgHead / 16 * 16 } }

/-- Steps 2 to 4 of R157: the new salt is drawn and stored, the keys under it derived, and the record written, whose MARK is
the commit point. The command goes on at stage 21. -/
def reEnrol (s : State) (j : Job) (key : Bytes) (setId : Nat) : State :=
  withDraw s { j with stage := 20 } 4097 32 fun salt s1 =>
    let s2 := eraseConfig (loadCustody { s1 with moon := { s1.moon with salt := some salt } } salt)
    cfgThen s2 { j with stage := 20, keep := [key] } 1 0 (.cdk key setId (kcv (slotKey s2 2)) [] 1) true

/-- Commit of a ceremony (R391). -/
def commitStart (s : State) (j : Job) : State :=
  let c := s.tkn.ceremony
  if c.purpose = 3 then
    cfgThen s { j with stage := 20, keep := [c.cdk] } 1 0
      (.cdk c.cdk c.setId (kcv (slotKey s 2)) (s.fabric.peers.map (·.id)) s.fabric.q) true
  else reEnrol s j c.cdk c.setId

/-- Slot 3 is loaded and the vault KEYED (R391 step 3). -/
def keyVault (s : State) (origin : Nat) (key : Bytes) : State :=
  { loadSystem s 3 origin key with keyed := true, cdk := some key }

/-- The end of a commit: ORIGIN 3 is QUORUM. -/
def commitDone (s : State) (j : Job) : State := clearCeremony (keyVault s 3 (listGet [] j.keep 0))

/-- An enrolment is confirmed (R389 to R391): the state and windows that follow. -/
def confirmEnrol (s : State) (idx cid : Nat) : State :=
  let c := s.tkn.ceremony
  let e := (idx, cid) :: c.enrolled
  if c.state = 1 then
    let c1 := { c with enrolled := e, until_ := if c.until_.isSome then c.until_ else some (s.clk + quorumWindow) }
    if e.length ≥ 2 then s.setCer { c1 with state := 2, until_ := some (s.clk + enrolWindow) } else s.setCer c1
  else s.setCer { c with enrolled := e, until_ := some (s.clk + enrolWindow) }

/-- Whether every card is enrolled. -/
def allEnrolled (s : State) : Bool := decide (s.tkn.ceremony.enrolled.length ≥ s.tkn.ceremony.n) && s.tkn.ceremony.state == 2

/-- The commit that a resolution completes is internal work of the device (R383, R391). -/
def commitInside (s : State) : State :=
  let j : Job := { origin := .internal (2 ^ 32 + 1), code := C.CEREMONY_ENROL, ops := zeros 24, phase := .started, stage := 20 }
  if (s.job? j.origin).isSome then s else commitStart (s.addJob j) j

/-! ### Resolution -/

/-- A resolution ends: 1 made, 2 not made, 3 error. -/
def resolveEnd (s : State) (b : Nat) (m : CardMark) (out : Nat) : State :=
  let s1 := { s with tkn := { s.tkn with marks := s.tkn.marks.filter (· != m) } }
  let s2 := parkCard (s1.setBus b { s1.bus b with resolved := out, resolving := 0, step := .idle, script := [], cur := none }) b (rcaOf s1 b m.cid)
  let s3 := recordEvent s2 0x8E0B b 3 out
  let s4 := if out = 1 ∧ m.lock = false ∧ m.index ≠ 0 ∧ s3.tkn.ceremony.state ≠ 0 then
      (let u := confirmEnrol s3 m.index m.cid
       if allEnrolled u then commitInside u else u)
    else s3
  if out = 3 then busEnd s4 b S.E_TKN_CARD else afterIdent s4 b

/-- The DIGEST field of a block: of a share record, or of an escrow record (R386, R396). -/
def digestField (b : Nat) (bs : Bytes) : Bytes := if b = 2 then slice bs 120 48 else slice bs 104 48

/-- A step of a resolution: the card's status shows LOCKED, or the block is compared. -/
def resolveStep (s : State) (b : Nat) : State :=
  match markOf s b with
  | none => cardWake (s.setBus b { s.bus b with resolving := 0 }) b
  | some m =>
    let k := s.bus b
    if k.resolving = 1 then
      let locked := k.status.testBit 27
      if m.lock then resolveEnd s b m (if locked ∧ m.hadPassword = false then 1 else 2)
      else startScript (s.setBus b { k with resolving := 2 }) b (if locked then [.unlock m.cpw, .read m.block] else [.read m.block])
    else
      let d := digestField b k.data
      resolveEnd s b m (if d = m.newDigest then 1 else if d = m.oldDigest then 2 else 3)

/-! ### The course of a bus command -/

/-- A script is done. -/
def scriptEnd (s : State) (b : Nat) : State :=
  let s1 := s.setBus b { s.bus b with cur := none, step := .idle }
  if (s.bus b).resolving = 0 then cardWake s1 b else resolveStep s1 b

/-- The command sent is done. -/
def opDone (s : State) (b : Nat) : State :=
  let k := s.bus b
  let s1 := s.setBus b { k with lockOp := match k.cur with | some (.unlock _) => 1 | some (.lock _) => 2 | _ => 0 }
  match k.script with
  | [] => scriptEnd s1 b
  | op :: r => beginOp s1 b op r

/-- The address of the card that a bus's command has selected. -/
def ownerRca (s : State) (b : Nat) : Nat :=
  match (s.bus b).owner.bind s.job? with
  | some j => if b = 2 then rcaOf s b (listGet 0 j.args 0) else 1
  | none => firstRca b

/-- A command or block fails; the card goes back to STBY, a cartridge to SLP (R381). -/
def opFail (s : State) (b st : Nat) : State :=
  match (s.bus b).resolving, markOf s b with
  | 0, _ => parkCard (busEnd s b st) b (ownerRca s b)
  | _, some m => resolveEnd s b m 3
  | _, none => busEnd s b st

/-- The UNCERTAIN mark of a write or LOCK cut in its busy phase; FORCE_ERASE leaves none (R383). -/
def cutMark (s : State) (b : Nat) : Option CardMark :=
  let k := s.bus b
  let j := k.owner.bind s.job?
  match k.step, k.cur, j with
  | .busy, some (.write n bs), some j =>
    some { bus := b, cid := listGet 0 j.args 0, lock := false, block := n, oldDigest := listGet [] j.keep 0,
           newDigest := digestField b bs, cpw := listGet [] j.keep 1, index := if b = 2 then 0 else u8 j.ops 2 }
  | .busy, some (.lock pw), some j => some { bus := b, cid := listGet 0 j.args 0, lock := true, block := 0, cpw := pw }
  | _, _, _ => none

/-- A wait of a bus ends in its time limit, or a removal cuts it: a mark stands for a cut write. -/
def cutOp (s : State) (b : Nat) : State :=
  match cutMark s b with
  | some m => markCut s m
  | none => s

/-! ### Identification (R380) -/

/-- SEND_OP_COND is sent, the first time after GO_IDLE; after 1 s the card is FAILED. -/
def opCondPoll (s : State) (b : Nat) : State :=
  let k := s.bus b
  if b > 2 ∨ k.step ≠ .poll ∨ portAlive s = false then s
  else if k.polls ≥ 100 then afterIdent (s.setBus b { k with failed := true, step := .idle }) b
  else
    let s1 := if k.polls = 0 then sendCard s b 0 0 else s
    sendCard (s1.setBus b { k with step := .opCond, polls := k.polls + 1 }) b 1 0x00FF8000

/-- SEND_OP_COND is sent again (R380). -/
def execSendOpCondPoll (bus : Nat) (s : State) : Host.Outcome State Fault Refusal := .next (if (s.bus bus).step = .poll then opCondPoll (timerTaken s 19) bus else s)

/-- Identification ends: cards are in STBY, cartridges are put to sleep (R381). -/
def identDone (s : State) (b : Nat) : State :=
  let k := s.bus b
  let s1 := s.setBus b { k with step := .idle, failed := k.failed || k.cids.isEmpty && b != 2 }
  let s2 := if b = 2 then (List.range k.cids.length).foldl (fun t i => sendCard t b 5 ((0x10 + i) * 2 ^ 16)) s1 else s1
  afterIdent s2 b

/-- A card won a round: it gets an address; the escrow bus has eight (R380). A card of the other bus's kind is identified
and then ignored (R371). -/
def cardFound (s : State) (b cid : Nat) : State :=
  let k := s.bus b
  if b = 2 ∧ k.cids.length ≥ 8 then identDone (recordEvent (s.setBus b { k with overflow := true }) 0x8E0B b 2 0) b
  else
    let rca := firstRca b + k.cids.length
    let s1 := s.setBus b { k with cids := k.cids ++ [cid], step := .relAddr }
    let s2 := if cidKind cid = 0x4A + 0x4B - busKind b then recordEvent s1 0x8E0B b 1 0 else s1
    sendCard s2 b 3 (rca * 2 ^ 16)

/-- A card that ends no round is FAILED; the cartridges identified before it stay (R380). -/
def identFail (s : State) (b : Nat) : State :=
  let k := s.bus b
  identDone (s.setBus b (if b = 2 then { k with cids := if k.step = .relAddr then k.cids.dropLast else k.cids }
    else { k with failed := true })) b

/-- A short response to the command sent (R376): error bits first. -/
def opResponse (s : State) (b v : Nat) : State :=
  let k := s.bus b
  let s1 := s.setBus b { k with status := v, lockOp := 0 }
  if k.lockOp = 1 ∧ v.testBit 28 then opFail (s1.setBus b { s1.bus b with failWait := true }) b S.E_TKN_PIN
  else if (k.lockOp = 2 ∧ v.testBit 28) ∨ v.testBit 31 ∨ v.testBit 30 ∨ v.testBit 29 then opFail s1 b S.E_TKN_CARD
  else match k.cur with
    | some (.unlock pw) => (sendBlock s1 b (pw ++ zeros 496)).setBus b { s1.bus b with step := .crc }
    | some (.lock pw) => (sendBlock s1 b (pw ++ zeros 496)).setBus b { s1.bus b with step := .crc }
    | some (.write _ bs) => (sendBlock s1 b bs).setBus b { s1.bus b with step := .crc }
    | some (.read _) => s1.setBus b { s1.bus b with step := .block }
    | some .forceErase => s1.setBus b { s1.bus b with step := .busy }
    | _ => opDone s1 b

/-- A CRC status (R375). -/
def crcAnswer (s : State) (b : Nat) (ok : Bool) : State :=
  let k := s.bus b
  if ok = false then opFail s b S.E_TKN_CARD
  else match k.cur with
    | some (.unlock _) => opDone s b
    | _ => s.setBus b { k with step := .busy }

/-- The words of a CTP journal entry (R481). -/
def ctpWords (b : Nat) : CardResp → List Nat
  | .short v => [2 * b + 1, v]
  | .long c => (2 * b + 1) :: wordsOf (leBytes 15 c)
  | .block bs => (2 * b + 1) :: wordsOf bs
  | .crcStatus ok => [2 * b + 1, b2n ok]
  | .bad => [2 * b + 1]

/-- A frame or block arrives from a card, as the bus waits for it; anything else is not heeded. -/
def cardResponse (s0 : State) (b : Nat) (r : CardResp) : State :=
  if b > 2 ∨ portAlive s0 = false ∨ (s0.bus b).power = false then s0
  else
    let s := capture s0 0x21 19 (ctpWords b r)
    let k := s.bus b
    match k.step, r with
    | .opCond, .short v =>
      if v.testBit 31 then sendCard (s.setBus b { k with step := .allId }) b 2 0 else s.setBus b { k with step := .poll }
    | .opCond, .bad => s.setBus b { k with step := .poll }
    | .allId, .long c => cardFound s b c
    | .allId, .bad => identFail s b
    | .relAddr, .short _ => sendCard (s.setBus b { k with step := .allId }) b 2 0
    | .relAddr, .bad => identFail s b
    | .response, .short v => opResponse s b v
    | .response, .bad => opFail s b S.E_TKN_CARD
    | .block, .block bs => opDone (s.setBus b { k with data := fit 512 bs }) b
    | .block, .bad => opFail s b S.E_TKN_CARD
    | .crc, .crcStatus ok => crcAnswer s b ok
    | .crc, .bad => opFail s b S.E_TKN_CARD
    | _, _ => s

/-- A card's response or data block arrives (R374). -/
def execCardResponse (bus : Nat) (r : CardResp) (s : State) : Host.Outcome State Fault Refusal := .next (cardResponse s bus r)

/-- A busy phase ends (R375). -/
def busyEnd (s : State) (b : Nat) : State :=
  if b > 2 ∨ portAlive s = false ∨ (s.bus b).step ≠ .busy then s else opDone s b

/-- A card releases DAT0 (R375). -/
def execCardBusyEnd (bus : Nat) (s : State) : Host.Outcome State Fault Refusal := .next (busyEnd s bus)

/-- A card does not answer in time (R374, R380). -/
def cardTimeout (s : State) (b : Nat) : State :=
  let k := s.bus b
  if b > 2 ∨ portAlive s = false then s
  else match k.step with
    | .opCond => s.setBus b { k with step := .poll }
    | .allId => identDone s b
    | .relAddr => identFail s b
    | .response | .block | .crc => opFail s b S.E_TKN_CARD
    | .busy => opFail (cutOp s b) b S.E_TKN_CARD
    | _ => s

/-- Whether a bus waits for a card. -/
def waitsCard (s : State) (b : Nat) : Bool :=
  !(b > 2 || [BusStep.idle, .poll, .delay].contains (s.bus b).step) && portAlive s

/-- A response, block or end of busy does not come (R374). -/
def execCardResponseTimeout (bus : Nat) (s : State) : Host.Outcome State Fault Refusal := .next (if waitsCard s bus then cardTimeout (timerTaken s 19) bus else s)

/-! ### Insertion, removal, idle power, the UNLOCK delay -/

/-- DET_N has been low for 50 ms (R373): the socket is powered and its card identified. -/
def cardInsert (s0 : State) (b : Nat) : State :=
  if b ≥ 2 ∨ ((s0.bus b).present ∧ (s0.bus b).power) then s0
  else
    let s := s0.setBus b { s0.bus b with present := true }
    if portAlive s then identBus (capture s 0x22 19 [32 + 2 * b]) b else s

/-- A card is inserted (R373). -/
def execCardInsert (n : Nat) (s : State) : Host.Outcome State Fault Refusal := .next (cardInsert s n)

/-- DET_N has been high for 20 µs (R373, R382, R383). -/
def cardRemove (s0 : State) (b : Nat) : State :=
  if b ≥ 2 then s0
  else
    let s := cutOp (capture s0 0x22 19 [33 + 2 * b]) b
    let s1 := busEnd s b S.E_TKN_REMOVED
    s1.setBus b { s1.bus b with present := false, power := false, failed := false, cids := [], step := .idle, script := [],
                                cur := none, resolving := 0, lockOp := 0 }

/-- A card is removed (R382). -/
def execCardRemove (n : Nat) (s : State) : Host.Outcome State Fault Refusal := .next (cardRemove s n)

/-- A socket without a command for IDLE_OFF_S seconds loses its power (R381). -/
def socketIdleOff (s : State) (b : Nat) : State :=
  let k := s.bus b
  if b ≥ 2 ∨ k.owner.isSome = true ∨ k.step ≠ .idle ∨ s.regField R.TKN_CFG 15 8 = 0 then s else (timerTaken s 19).setBus b { k with power := false }

/-- IDLE_OFF_S seconds have passed (R381). -/
def execSocketIdleOff (n : Nat) (s : State) : Host.Outcome State Fault Refusal := .next (socketIdleOff s n)

/-- A second has passed since the last failed UNLOCK (R388). -/
def unlockDelay (s : State) (b : Nat) : State :=
  let k := s.bus b
  if b ≥ 2 then s
  else
    let s1 := (if k.failWait then timerTaken s 19 else s).setBus b { k with failWait := false }
    match k.step, k.cur with
    | .delay, some op => beginOp s1 b op k.script
    | _, _ => s1

/-- A waiting UNLOCK is sent (R388). -/
def execUnlockDelay (n : Nat) (s : State) : Host.Outcome State Fault Refusal := .next (unlockDelay s n)

end Sys2Proof.Machine
end

