-- ==== Sys2Proof/Machine/Custody.lean ====
section
/-! DEFINITION. The commands of the token port (15): the scan, ceremonies, card erasure, escrow. -/

namespace Sys2Proof.Machine

/-! ### The claim of a bus -/

/-- A command fails before or without a bus; LAST_STATUS shows it on a socket. -/
def tknFail (s : State) (j : Job) (b st : Nat) : State := dropWith (if b < 3 then busLast s b st else s) j st

/-- Claim a bus (R395): the command goes on at once when the cards are identified, or at stage 1 when identification and
the resolution of marks have ended. -/
def claimBus (s : State) (j : Job) (b : Nat) (go : Job → State → State) : State :=
  let k := s.bus b
  if k.owner.isSome ∧ k.owner ≠ some j.origin then dropWith s j S.E_TKN_BUSY
  else if b < 2 ∧ k.present = false then tknFail s j b S.E_TKN_NO_CARD
  else
    let s1 := s.setBus b { k with owner := some j.origin }
    if k.power = false ∨ (b = 2 ∧ j.code = C.TKN_SCAN) then (identBus s1 b).setJob { j with phase := .card }
    else if k.step ≠ .idle ∨ k.resolving ≠ 0 then s1.setJob { j with phase := .card }
    else go { j with stage := 1 } s1

/-- Run a script for a command; it goes on at the next stage. -/
def cardScript (s : State) (j : Job) (b : Nat) (ops : List CardOp) : State :=
  startScript (s.setJob { j with phase := .card }) b ops

/-- A ceremony command is taken at the vault arbiter (R394). -/
def ceremonyOrder (s : State) (j : Job) (k : State → Job → State) : State := if j.stage = 0 then takeOrder s j [] k else k s j

/-- A command on a bus ends. -/
def cardEnd (s : State) (j : Job) (b rca : Nat) (st : Nat) (res : Bytes) : State :=
  let s1 := busLast (s.setBus b { s.bus b with owner := none }) b st
  let s2 := parkCard s1 b rca
  if st = S.OK then okJob s2 j res else dropWith s2 j st

/-- The power of a socket is removed (CEREMONY_PRESENT). -/
def socketOff (s : State) (b : Nat) : State := s.setBus b { s.bus b with power := false }

/-- The custodian card of a socket, with the checks of R387's first row. -/
def custodian (s : State) (b : Nat) : Nat × Nat :=
  let k := s.bus b
  match k.cids with
  | [] => (if k.failed then S.E_TKN_CARD else S.E_TKN_NO_CARD, 0)
  | c :: _ =>
    if k.failed then (S.E_TKN_CARD, c) else if cidKind c ≠ 0x4A then (S.E_TKN_NO_CARD, c)
    else if (markOf s b).isSome then (S.E_TKN_CARD, c) else (S.OK, c)

/-! ### TKN_SCAN -/

/-- The result of TKN_SCAN. -/
def scanResult (s : State) : Bytes :=
  let ser := fun b => leBytes 8 (((s.bus b).cids.head?.map cidSerial).getD 0)
  let carts := (s.bus 2).cids
  let c := fun i => leBytes 8 (if cidKind (listGet 0 carts i) = 0x4B then cidSerial (listGet 0 carts i) else 0)
  leBytes 1 (b2n (s.bus 0).present + 2 * b2n (s.bus 1).present + 4 * b2n (s.bus 2).overflow)
    ++ leBytes 1 (carts.filter (fun x => cidKind x == 0x4B)).length ++ zeros 6 ++ ser 0 ++ ser 1
    ++ c 0 ++ c 1 ++ c 2 ++ c 3 ++ c 4

/-- TKN_SCAN (R380). -/
def tknScan (j : Job) (s : State) : State :=
  if j.stage = 0 then
    if zeroAt j.ops 0 8 = false then dropWith s j S.E_BAD_OPERAND else claimBus s j 2 fun j1 s1 => s1.setJob j1
  else
    let s1 := busLast (s.setBus 2 { s.bus 2 with owner := none }) 2 S.OK
    okJob s1 j (scanResult s1)

/-- TKN_SCAN. -/
def execTknScan (o : Origin) (s : State) : Host.Outcome State Fault Refusal := .next (runCommand C.TKN_SCAN o s tknScan)

/-! ### CEREMONY_BEGIN -/

/-- Operand values of CEREMONY_BEGIN (R386, R389). -/
def beginOperands (o : Bytes) : Bool :=
  let p := u8 o 0
  let k := u8 o 1
  let n := u8 o 2
  1 ≤ p && p ≤ 5 && zeroAt o 3 5 &&
    (if p = 1 ∨ p = 3 then 2 ≤ k && k ≤ 8 && 2 ≤ n && n ≤ 16 && k ≤ n else k == 0 && n == 0)

/-- The checks of CEREMONY_BEGIN (R389, R394). -/
def beginCheck (s : State) (o : Bytes) : Option Nat :=
  let p := u8 o 0
  let l := s.lcs.state
  firstFail [failIf (!beginOperands o) S.E_BAD_OPERAND,
    failIf (s.tkn.ceremony.state != 0 || s.fabric.enrol.isSome) S.E_CEREMONY_STATE,
    failIf ((p = 1 ∨ p = 2 ∨ p = 5) && !(l == 2 || l == 3)) S.E_MODE,
    failIf (p == 4 && l != 3) S.E_MODE,
    failIf ((p = 1 ∨ p = 2) && s.keyed) S.E_CEREMONY_STATE,
    failIf (p == 3 && !s.keyed) S.E_UNKEYED]

/-- CEREMONY_BEGIN (R384, R391): SET_ID, the CDK of a CREATE and the higher coefficients are drawn. -/
def ceremonyBegin (j0 : Job) (s0 : State) : State := ceremonyOrder s0 j0 fun s j =>
  let o := j.ops
  let p := u8 o 0
  let k := u8 o 1
  match beginCheck s o with
  | some st => dropWith s j st
  | none =>
    if p = 1 ∨ p = 3 then
      withDraw s j 4097 8 fun id s1 =>
        withDraw s1 j 4097 (if p = 1 then 32 else 0) fun fresh s2 =>
          withDraw s2 j 4097 (32 * (k - 1)) fun co s3 =>
            let c : Ceremony := { state := 1, purpose := p, k := k, n := u8 o 2, setId := leNat id,
                                  cdk := if p = 1 then fresh else slotKey s3 3,
                                  coeffs := (List.range (k - 1)).map fun i => slice co (32 * i) 32 }
            okJob (s3.setCer c) { j with committed := true } (fit 8 id)
    else okJob (s.setCer { state := 1, purpose := p }) { j with committed := true } (zeros 8)

/-- CEREMONY_BEGIN. -/
def execCeremonyBegin (o : Origin) (s : State) : Host.Outcome State Fault Refusal :=
  .next (runCommand C.CEREMONY_BEGIN o s ceremonyBegin)

/-! ### Presentation (R387) -/

/-- SOCKET, PIN_LEN, the RSVD bytes from `r` to 7 and the PIN field. -/
def pinOperands (o : Bytes) (r : Nat) : Bool :=
  u8 o 0 ≤ 1 && 6 ≤ u8 o 1 && u8 o 1 ≤ 16 && zeroAt o r (8 - r) && zeroAt o (8 + u8 o 1) (16 - u8 o 1)

/-- The PIN. -/
def pinOf (o : Bytes) : Bytes := slice o 8 (u8 o 1)

/-- Why no ceremony of a kind runs (R390). -/
def noCeremony (s : State) (ok : Bool) : Option Nat :=
  if s.tkn.ceremony.state = 0 then some (if s.tkn.ceremony.expired then S.E_CEREMONY_TIMEOUT else S.E_CEREMONY_STATE)
  else failIf (!ok) S.E_CEREMONY_STATE

/-- The share of a record, when DIGEST, FORMAT, KIND, RSVD and KWP are good (R386, R387). -/
def shareIn (r pin : Bytes) (cid : Nat) : Option Bytes :=
  if slice r 104 48 = sha384 (r.take 104) ∧ u8 r 0 = 1 ∧ u8 r 1 = 0x50 ∧ zeroAt r 5 3 = true ∧ zeroAt r 24 8 = true ∧ zeroAt r 152 360 = true then
    match Config.kwpUnwrap (pinSwk pin cid) (slice r 32 72) with
    | some p => if p.length = 64 ∧ p.take 32 = r.take 32 then some (p.drop 32) else none
    | none => none
  else none

/-- The quorum of a ceremony (R389). -/
def quorumNeed (s : State) : Nat :=
  let c := s.tkn.ceremony
  if c.purpose = 2 ∨ c.purpose = 3 then c.setK else if s.keyed then 2 else max 2 c.setK

/-- Whether the rebuilt CDK passes (R389). -/
def rebuildOk (s : State) : Bool :=
  let c := s.tkn.ceremony
  let key := combine (c.shares.map fun e => (e.1, e.2.2))
  if c.purpose = 3 then key == slotKey s 3 else if s.keyed then true else kcv key == c.setKcv

/-- The result of CEREMONY_PRESENT and CEREMONY_ENROL. -/
def cerResult (state count idx : Nat) : Bytes := leBytes 1 state ++ leBytes 1 count ++ leBytes 1 idx ++ zeros 5

/-- A presentation is accepted: recorded, and with the quorum the ceremony goes on (R391). -/
def accept (s : State) (j : Job) (b cid : Nat) (r sh : Bytes) : State :=
  let c := s.tkn.ceremony
  let first := c.shares.isEmpty
  let c1 := { c with shares := (u8 r 4, cid, sh) :: c.shares
                     setK := if first then u8 r 2 else c.setK, setKcv := if first then slice r 16 8 else c.setKcv
                     setId := if first && c.purpose != 3 then u64 r 8 else c.setId
                     until_ := if c.until_.isSome then c.until_ else some (s.clk + quorumWindow) }
  let s1 := socketOff (s.setCer c1) b
  let n := c1.shares.length
  if n < quorumNeed s1 then cardEnd s1 j b 1 S.OK (cerResult 1 n (u8 r 4))
  else if rebuildOk s1 = false then cardEnd (clearCeremony s1) j b 1 S.E_TKN_COMBINE []
  else if c.purpose = 3 then
    cardEnd (s1.setCer { c1 with state := 2, until_ := some (s.clk + enrolWindow) }) j b 1 S.OK (cerResult 2 n (u8 r 4))
  else if c.purpose = 2 then
    let s2 := s1.setCer { c1 with cdk := combine (c1.shares.map fun e => (e.1, e.2.2)) }
    commitStart (s2.setBus b { s2.bus b with owner := none, lastStatus := S.OK }) { j with args := [n, u8 r 4] }
  else cardEnd (s1.setCer { c1 with state := 3, until_ := some (s.clk + quorumWindow) }) j b 1 S.OK (cerResult 3 n (u8 r 4))

/-- The record read is checked (R387). -/
def present (s : State) (j : Job) (b : Nat) : State :=
  let c := s.tkn.ceremony
  let cid := listGet 0 j.args 0
  let r := (s.bus b).data
  let set := if s.keyed then currentSet s else c.setId
  match shareIn r (pinOf j.ops) cid with
  | none => cardEnd (socketOff s b) j b 1 S.E_TKN_SHARE []
  | some sh =>
    if (s.keyed = true ∨ c.shares ≠ []) ∧ u64 r 8 ≠ set then cardEnd (socketOff s b) j b 1 S.E_TKN_SHARE []
    else if c.shares.any (fun e => e.1 == u8 r 4 || e.2.1 == cid) then cardEnd (socketOff s b) j b 1 S.E_TKN_DUPLICATE []
    else accept s j b cid r sh

/-- A card identified is selected; its status then tells whether it is blocked. -/
def selectCard (s : State) (j : Job) (b : Nat) : State :=
  match custodian s b with
  | (0, c) => cardScript s { j with args := [c] } b [.select 1]
  | (st, _) => tknFail (s.setBus b { s.bus b with owner := none }) j b st

/-- The end of a commit that a command carries. -/
def commitEnd (s : State) (j : Job) : State :=
  okJob (commitDone s j) j (cerResult 0 (listGet 0 j.args 0) (listGet 0 j.args 1))

/-- CEREMONY_PRESENT. -/
def ceremonyPresent (j0 : Job) (s0 : State) : State := ceremonyOrder s0 j0 fun s j =>
  let o := j.ops
  let b := u8 o 0
  let c := s.tkn.ceremony
  if j.stage = 20 then commitStart s j
  else if j.stage > 20 then commitEnd s j
  else match firstFail [failIf (!pinOperands o 2) S.E_BAD_OPERAND, noCeremony s (c.state == 1 && c.purpose != 1)] with
    | some st => if st = S.E_BAD_OPERAND then dropWith s j st else tknFail s j b st
    | none => match j.stage with
      | 0 => claimBus s j b fun j1 s1 => selectCard s1 j1 b
      | 1 => selectCard s j b
      | 2 =>
        if (s.bus b).status.testBit 26 then cardEnd s j b 1 S.E_TKN_BLOCKED []
        else cardScript s j b [.unlock (pinCpw (pinOf o) (listGet 0 j.args 0)), .read 1]
      | _ => present s j b

/-- CEREMONY_PRESENT. -/
def execCeremonyPresent (o : Origin) (s : State) : Host.Outcome State Fault Refusal :=
  .next (runCommand C.CEREMONY_PRESENT o s ceremonyPresent)

/-! ### Enrolment (R393) -/

/-- The share record of an index (R386). -/
def shareRecord (s : State) (pin : Bytes) (cid idx : Nat) : Bytes :=
  let c := s.tkn.ceremony
  let h := [1, 0x50] ++ leBytes 1 c.k ++ leBytes 1 c.n ++ leBytes 1 idx ++ zeros 3 ++ leBytes 8 c.setId ++ kcv c.cdk ++ zeros 8
  let a := h ++ fit 72 (kwpWrap (pinSwk pin cid) (h ++ shareOf c.cdk c.coeffs idx))
  a ++ sha384 a ++ zeros 360

/-- A card's CID or INDEX that is already confirmed. -/
def enrolledAlready (s : State) (idx cid : Nat) : Bool := s.tkn.ceremony.enrolled.any fun e => e.1 == idx || e.2 == cid

/-- The read-back confirms the enrolment; the N-th carries the commit. -/
def confirm (s : State) (j : Job) (b : Nat) : State :=
  let cid := listGet 0 j.args 0
  let idx := u8 j.ops 2
  if digestField b (s.bus b).data ≠ digestField b (shareRecord s (pinOf j.ops) cid idx) then cardEnd s j b 1 S.E_TKN_CARD []
  else
    let s1 := confirmEnrol s idx cid
    let n := s1.tkn.ceremony.enrolled.length
    if allEnrolled s1 then
      commitStart (parkCard (busLast (s1.setBus b { s1.bus b with owner := none }) b S.OK) b 1) { j with args := [n, idx] }
    else cardEnd s1 j b 1 S.OK (cerResult s1.tkn.ceremony.state n idx)

/-- CEREMONY_ENROL: select; UNLOCK if locked, read block 1; LOCK if it was not locked, write, read back. -/
def ceremonyEnrol (j0 : Job) (s0 : State) : State := ceremonyOrder s0 j0 fun s j =>
  let o := j.ops
  let b := u8 o 0
  let c := s.tkn.ceremony
  let cid := listGet 0 j.args 0
  if j.stage = 20 then commitStart s j
  else if j.stage > 20 then commitEnd s j
  else match firstFail [failIf (!pinOperands o 3 || u8 o 2 == 0 || u8 o 2 > 16) S.E_BAD_OPERAND,
      noCeremony s ((c.purpose == 1 && (c.state == 1 || c.state == 2)) || (c.purpose == 3 && c.state == 2)),
      failIf (u8 o 2 > c.n) S.E_BAD_OPERAND] with
    | some st => if st = S.E_BAD_OPERAND then dropWith s j st else tknFail s j b st
    | none =>
      if enrolledAlready s (u8 o 2) (if j.stage < 2 then 0 else cid) then
        (if j.stage = 0 then tknFail s j b S.E_TKN_DUPLICATE else cardEnd s j b 1 S.E_TKN_DUPLICATE [])
      else match j.stage with
      | 0 => claimBus s j b fun j1 s1 => selectCard s1 j1 b
      | 1 => selectCard s j b
      | 2 =>
        let st := (s.bus b).status
        let pw := pinCpw (pinOf o) cid
        if st.testBit 26 then cardEnd s j b 1 S.E_TKN_BLOCKED []
        else cardScript s { j with args := [cid, b2n (st.testBit 27)] } b (if st.testBit 27 then [.unlock pw, .read 1] else [.read 1])
      | 3 =>
        let old := (s.bus b).data
        let pw := pinCpw (pinOf o) cid
        let r := shareRecord s (pinOf o) cid (u8 o 2)
        if old.any (· != 0xFF) then cardEnd s j b 1 S.E_TKN_NOT_BLANK []
        else cardScript s { j with keep := [digestField b old, pw] } b
          ((if listGet 0 j.args 1 = 0 then [.lock pw] else []) ++ [.write 1 r, .read 1])
      | _ => confirm s j b

/-- CEREMONY_ENROL. -/
def execCeremonyEnrol (o : Origin) (s : State) : Host.Outcome State Fault Refusal :=
  .next (runCommand C.CEREMONY_ENROL o s ceremonyEnrol)

/-! ### CEREMONY_STATUS, CEREMONY_END, the windows -/

/-- The result of CEREMONY_STATUS. -/
def cerStatus (s : State) : Bytes :=
  let bits := fun (l : List Nat) => (l.filter (fun i => 1 ≤ i && i ≤ 16)).foldl (fun a i => a ||| 2 ^ (i - 1)) 0
  leBytes 8 (ceremonyWord s) ++ leBytes 2 (bits (s.tkn.ceremony.enrolled.map (·.1))) ++ leBytes 2 (bits (s.tkn.marks.map (·.index)))
    ++ zeros 4 ++ leBytes 8 s.tkn.ceremony.setId ++ zeros 8

/-- CEREMONY_STATUS. -/
def ceremonyStatus (j : Job) (s : State) : State :=
  if zeroAt j.ops 0 8 = false then dropWith s j S.E_BAD_OPERAND else okJob s j (cerStatus s)

/-- CEREMONY_STATUS. -/
def execCeremonyStatus (o : Origin) (s : State) : Host.Outcome State Fault Refusal :=
  .next (runCommand C.CEREMONY_STATUS o s ceremonyStatus)

/-- CEREMONY_END (R394). -/
def ceremonyEnd (j0 : Job) (s0 : State) : State := ceremonyOrder s0 j0 fun s j =>
  if zeroAt j.ops 0 8 = false then dropWith s j S.E_BAD_OPERAND
  else if s.tkn.ceremony.state = 0 then dropWith s j S.E_CEREMONY_STATE
  else okJob (clearCeremony s) { j with committed := true } []

/-- CEREMONY_END. -/
def execCeremonyEnd (o : Origin) (s : State) : Host.Outcome State Fault Refusal := .next (runCommand C.CEREMONY_END o s ceremonyEnd)

/-- A window or the validity of a DONE ceremony passes (R390); a ceremony whose commit runs has met its window. -/
def ceremonyExpire (s : State) : State :=
  let c := s.tkn.ceremony
  if c.state = 0 ∨ c.until_ = none ∨ s.jobs.any (fun j => (j.code == C.CEREMONY_PRESENT || j.code == C.CEREMONY_ENROL) && decide (j.stage ≥ 20)) then s
  else (clearCeremony (timerTaken s 13)).setCer { expired := c.state != 3 }

/-- A ceremony's window passes (R390). -/
def execCeremonyExpire (s : State) : Host.Outcome State Fault Refusal := .next (ceremonyExpire s)

/-! ### CARD_FORCE_ERASE -/

/-- CARD_FORCE_ERASE (R379). -/
def cardForceErase (j : Job) (s : State) : State :=
  let b := u8 j.ops 0
  let go : Job → State → State := fun j1 s1 =>
    match custodian { s1 with tkn := { s1.tkn with marks := [] } } b with
    | (0, _) => cardScript s1 j1 b [.select 1, .forceErase]
    | (st, _) => tknFail (s1.setBus b { s1.bus b with owner := none }) j1 b st
  if b > 1 ∨ zeroAt j.ops 1 7 = false then dropWith s j S.E_BAD_OPERAND
  else match j.stage with
    | 0 => claimBus s j b go
    | 1 => go j s
    | _ => cardEnd s { j with committed := true } b 1 S.OK []

/-- CARD_FORCE_ERASE. -/
def execCardForceErase (o : Origin) (s : State) : Host.Outcome State Fault Refusal :=
  .next (runCommand C.CARD_FORCE_ERASE o s cardForceErase)

/-! ### Escrow (R396) -/

/-- CART and TENANT in range, RSVD 0. -/
def escrowOperands (o : Bytes) : Bool := u8 o 0 ≤ 7 && zeroAt o 1 1 && u16 o 2 < 4096 && zeroAt o 4 12

/-- The cartridge is identified: it is woken, selected and its block read. -/
def escrowRead (s : State) (j : Job) : State :=
  let c := u8 j.ops 0
  let cid := listGet 0 (s.bus 2).cids c
  if cidKind cid ≠ 0x4B then tknFail (s.setBus 2 { s.bus 2 with owner := none }) j 2 S.E_TKN_NO_CARD
  else cardScript s { j with args := [cid] } 2 [.wakeUp (0x10 + c), .select (0x10 + c), .read (u16 j.ops 2 + 1)]

/-- The escrow record of a tenant (R396). -/
def escrowRecord (t seq : Nat) (blob : Bytes) : Bytes :=
  let a := [1, 0x51] ++ leBytes 2 t ++ zeros 4 ++ leBytes 8 seq ++ fit 104 blob
  a ++ sha384 a ++ zeros 344

/-- Whether a block is an escrow record of a tenant. -/
def escrowOk (r : Bytes) (t : Nat) : Bool :=
  u8 r 0 == 1 && u8 r 1 == 0x51 && u16 r 2 == t && zeroAt r 4 4 && slice r 120 48 == sha384 (r.take 120) && zeroAt r 168 344

/-- SEQ that the next store of a block takes: the count of its stores. -/
def escrowSeq (r : Bytes) (t : Nat) : Nat := if escrowOk r t then (u64 r 8 + 1) % 2 ^ 64 else 1

/-- The checks of ESCROW_STORE. -/
def escrowStoreCheck (s : State) (o : Bytes) : Option Nat :=
  firstFail [failIf (!escrowOperands o || !zeroAt o 16 16) S.E_BAD_OPERAND, failIf (!s.keyed) S.E_UNKEYED,
    failIf ((s.ten (u16 o 2)).state == .free || (activeHalf s (s.ten (u16 o 2)).rootSlot).isNone) S.E_NO_TENANT]

/-- ESCROW_STORE: the block is read, written and read back. -/
def escrowStore (j : Job) (s : State) : State :=
  let t := u16 j.ops 2
  let rca := 0x10 + u8 j.ops 0
  match escrowStoreCheck s j.ops with
  | some st => if j.stage < 2 then dropWith s j st else cardEnd s j 2 rca st []
  | none => match j.stage with
    | 0 => claimBus s j 2 fun j1 s1 => escrowRead s1 j1
    | 1 => escrowRead s j
    | 2 => takeOrder s j [(s.ten t).rootSlot] fun s1 j1 => match activeHalf s1 (s1.ten t).rootSlot with
      | none => cardEnd s1 j1 2 rca S.E_NO_TENANT []
      | some h =>
        let old := (s1.bus 2).data
        let r := escrowRecord t (escrowSeq old t) (blobOf 1 h (slotKey s1 3))
        cardScript s1 { j1 with keep := [digestField 2 old, [], r] } 2 [.write (t + 1) r, .read (t + 1)]
    | _ =>
      let r := listGet [] j.keep 2
      if (s.bus 2).data ≠ fit 512 r then cardEnd s j 2 rca S.E_TKN_CARD []
      else cardEnd s { j with committed := true } 2 rca S.OK (slice r 8 8)

/-- ESCROW_STORE. -/
def execEscrowStore (o : Origin) (s : State) : Host.Outcome State Fault Refusal := .next (runCommand C.ESCROW_STORE o s escrowStore)

/-- ESCROW_FETCH: the blob of a record goes to OUT. -/
def escrowFetch (j : Job) (s : State) : State :=
  let t := u16 j.ops 2
  let rca := 0x10 + u8 j.ops 0
  let out := hostRef j.ops 16
  match firstFail [failIf (!escrowOperands j.ops) S.E_BAD_OPERAND, refCheck s j out 104 maxLen] with
  | some st => if j.stage < 2 then dropWith s j st else cardEnd s j 2 rca st []
  | none => match j.stage with
    | 0 => claimBus s j 2 fun j1 s1 => escrowRead s1 j1
    | 1 => escrowRead s j
    | _ =>
      let r := (s.bus 2).data
      if r.all (· == 0xFF) then cardEnd s j 2 rca S.E_ESCROW_EMPTY []
      else if escrowOk r t = false then cardEnd s j 2 rca S.E_ESCROW_RECORD []
      else
        let s1 := parkCard (busLast (s.setBus 2 { s.bus 2 with owner := none }) 2 S.OK) 2 rca
        writeAndEnd s1 j out (slice r 16 104) S.OK (slice r 8 8) false

/-- ESCROW_FETCH. -/
def execEscrowFetch (o : Origin) (s : State) : Host.Outcome State Fault Refusal := .next (runCommand C.ESCROW_FETCH o s escrowFetch)

end Sys2Proof.Machine
end

