-- ==== Sys2Proof/Machine/Links.lean ====
section
/-! DEFINITION. The Swivawa links (16): training, beacons, the handshake and its renewal, rates, keep-alive frames, loss
of signal, quarantine, and the link commands. -/

namespace Sys2Proof.Machine

/-! ### Training (R400, R414) -/

/-- Whether the device runs its links. -/
def linksRun (s : State) : Bool := s.mode == .service || s.mode == .hush || s.mode == .replay

/-- Signal is detected (R400, R414): a DOWN link trains. -/
def signalDetect (s : State) (l : Nat) : State :=
  if l ≥ 8 then s
  else
    let k := { s.link l with signal := true }
    if linksRun s ∧ k.state = .down then s.setLink l { k with state := .training } else s.setLink l k

/-- Signal is detected on a link. -/
def execSwlSignalDetect (l : Nat) (s : State) : Host.Outcome State Fault Refusal := .next (signalDetect s l)

/-- Training ends with FEC lock: the link runs at FULL, in TRAINED or in the state it held (R401, R414). -/
def trainingDone (s : State) (l : Nat) : State :=
  let k := s.link l
  if l ≥ 8 ∨ linksRun s = false then s
  else if k.state = .training then
    let k1 := { k with fast := false, keepAlive := false, retraining := false,
                       quarTrained := k.quarTrained || (k.retraining && k.level != 0 && k.former == LinkState.quarantined) }
    settleLink (s.setLink l { k1 with state := if k.level = 0 then .trained else k.former }) l
  else if k.state = .quarantined ∧ k.retraining then
    s.setLink l { k with retraining := false, quarTrained := true, goodBeacons := 0, keepAlive := false }
  else if k.fast then s.setLink l { k with fast := false, keepAlive := false }
  else s

/-- Full or fast training ends. -/
def execSwlTrainingDone (l : Nat) (s : State) : Host.Outcome State Fault Refusal := .next (trainingDone s l)

/-- Training does not end in time: fast retraining is followed by full training, full training by DOWN (R400). A quarantined link whose
training fails stays to be trained (R414). -/
def trainingTimeout (s : State) (l : Nat) : State :=
  let k := s.link l
  if l ≥ 8 ∨ linksRun s = false then s
  else if k.state = .training then linkTo (timerTaken s 15) l .down false
  else if k.state = .quarantined ∧ k.retraining then
    linkTo (s.setLink l { k with former := .quarantined }) l .down false
  else if k.fast then linkTo (s.setLink l { k with fast := false, former := k.state }) l .training false
  else s

/-- 200 ms pass without success. -/
def execSwlTrainingTimeout (l : Nat) (s : State) : Host.Outcome State Fault Refusal := .next (trainingTimeout s l)

/-- 1 s after a failed training (R400). -/
def trainingRetry (s : State) (l : Nat) : State :=
  let k := s.link l
  if l < 8 ∧ linksRun s = true ∧ k.state = .down ∧ k.signal = true then (timerTaken s 15).setLink l { k with state := .training } else s

/-- Full training is tried again. -/
def execSwlTrainingRetry (l : Nat) (s : State) : Host.Outcome State Fault Refusal := .next (trainingRetry s l)

/-- 1 s after the entry to QUARANTINED, full training runs with the session kept (R414). -/
def quarantineRetrain (s : State) (l : Nat) : State :=
  let k := s.link l
  if l < 8 ∧ linksRun s = true ∧ k.state = .quarantined then
    (timerTaken s 15).setLink l { k with retraining := true, quarTrained := false }
  else s

/-- A quarantined link retrains. -/
def execSwlQuarantineRetrain (l : Nat) (s : State) : Host.Outcome State Fault Refusal := .next (quarantineRetrain s l)

/-! ### Beacons (R404, R418, R422) -/

/-- The 64 bytes of a BEACON. -/
def beaconBytes (s : State) (l : Nat) : Bytes :=
  let k := s.link l
  let f := s.fabric
  leBytes 8 (idHash s) ++ leBytes 1 k.state.num
    ++ leBytes 1 (b2n (s.mode == .hush) + 2 * b2n (!s.keyed) + 4 * b2n (k.state == .quarantined)) ++ leBytes 2 k.err ++ zeros 4
    ++ leBytes 8 (domainKcv s) ++ zeros 8
    ++ leBytes 2 f.addr ++ leBytes 1 f.addrState ++ leBytes 1 (b2n f.isolated) ++ leBytes 4 f.lsaSeq ++ leBytes 2 f.db.length ++ zeros 22

/-- A KA_BEACON of the keep-alive controller. -/
def kaBeacon (s : State) : Frame :=
  { ty := 4, payload := leBytes 8 s.moon.idHash ++ leBytes 2 (s.regField R.PWR_KEEPALIVE 23 8) ++ leBytes 1 1 ++ zeros 21 }

/-- One link's beacon. -/
def sendBeacon (s : State) (l : Nat) : State :=
  let k := s.link l
  if k.state.num ≥ 3 ∧ k.state ≠ .peerDormant ∧ k.retraining = false then
    sendLink s l { ty := 1, sealed := k.level != 0, payload := beaconBytes s l }
  else s

/-- The beacons of 1 ms: on each link from TRAINED onward, or on the keep-alive links in DORMANT. -/
def beaconTimer (s : State) : State :=
  if s.mode = .dormant then
    (if s.moon.onVbat ∨ s.moon.aonPower = false then s
     else ((List.range 8).filter fun l => (s.regField R.PWR_KEEPALIVE 7 0).testBit l).foldl (fun t l => t.send (.frame l (kaBeacon t))) s)
  else if linksRun s then (List.range 8).foldl sendBeacon (timerTaken s 15) else s

/-- Every 1 ms (R404). -/
def execSwlBeaconTimer (s : State) : Host.Outcome State Fault Refusal := .next (beaconTimer s)

/-! ### The handshake (R406 to R410) -/

/-- INIT or RESP: KEYED and DOMAIN_KCV of the sender, nonce, X448 key, ML-KEM key or ciphertext. -/
def helloMsg (s : State) (nonce x kem : Bytes) : Bytes :=
  [1] ++ leBytes 1 (b2n s.keyed) ++ zeros 6 ++ leBytes 8 (domainKcv s) ++ fit 32 nonce ++ fit 56 x ++ fit 1568 kem

/-- Whether an INIT or RESP is well formed. -/
def helloOk (m : Bytes) : Bool := m.length == 1672 && u8 m 0 == 1 && u8 m 1 ≤ 1 && zeroAt m 2 6

/-- The payload of fragment `i` of a message. -/
def fragment (msg : Nat) (m : Bytes) (i : Nat) : Bytes :=
  let n := (m.length + 2039) / 2040
  padPayload (leBytes 1 msg ++ leBytes 1 i ++ leBytes 1 n ++ zeros 1 ++ leBytes 4 m.length ++ (m.drop (2040 * i)).take 2040)

/-- Send INIT or RESP. -/
def sendHello (s : State) (l msg : Nat) (m : Bytes) : State :=
  (List.range ((m.length + 2039) / 2040)).foldl (fun t i => t.send (.frame l { ty := 2, payload := fragment msg m i })) s

/-- The direction key under which an end sends, of those a handshake derived (R409). -/
def ownKey (h : Handshake) : Bytes := if h.initiator then h.okm.take 32 else (h.okm.drop 32).take 32

/-- Send an AUTH sealed under the new keys, whose LSEQ starts at 1 (R411). -/
def sendAuth (s : State) (l : Nat) (m : Bytes) : State :=
  (List.range ((m.length + 2039) / 2040)).foldl (fun t i =>
    let k := t.link l
    match k.hs with
    | none => t
    | some h =>
      let f : Frame := { ty := 2, sealed := true, lseq := h.tx + 1, keyPhase := h.renewal && !k.keyPhase, payload := fragment 3 m i }
      (t.setLink l { k with hs := some { h with tx := h.tx + 1 } }).send (.frame l (sealFrame (ownKey h) f))) s

/-- TH: SHA-384 of INIT followed by RESP. -/
def hsTh (h : Handshake) : Bytes := sha384 (h.init ++ h.resp)

/-- Role bytes: 0x49 from the initiator, 0x52 from the responder. -/
def roleByte (initiator : Bool) : Bytes := if initiator then [0x49] else [0x52]

/-- DOMAIN_MAC of an end (R409). -/
def domainMac (s : State) (th : Bytes) (initiator : Bool) (id : Nat) : Bytes :=
  kmac (kdf (s.cdk.getD []) (ascii "GV-SD") [] 256) (th ++ roleByte initiator ++ leBytes 8 id) 32 (ascii "GV-SWL-DM")

/-- The private key of an identity slot. -/
def identityKey (s : State) (n : Nat) : Option Bytes := (activeHalf s n).map (·.material)

/-- Both identity signatures over a message as it stands, with their random input (R409, R442), each in its own job. -/
def identitySigs (s : State) (m rnd : Bytes) (ctx : String) : Option ((Bytes × Bytes) × State) :=
  match activeHalf s 0, activeHalf s 1 with
  | some a, some b =>
    (signReqNow s { scheme := 1, priv := a.material, pub := a.pubKey, msg := m } (rnd.take 56)).bind fun x =>
      (signReqNow x.2 { scheme := 6, priv := b.material, pub := b.pubKey, ctx := ascii ctx, msg := m } ((rnd.drop 56).take 32)).map
        fun y => ((x.1, y.1), y.2)
  | _, _ => none

/-- An end's AUTH. -/
def authMsg (s : State) (h : Handshake) (sigs : Bytes × Bytes) : Bytes :=
  let c1 := listGet [] s.boot.certs 0
  let c2 := listGet [] s.boot.certs 1
  [1] ++ leBytes 1 (b2n s.keyed) ++ leBytes 2 c1.length ++ leBytes 2 c2.length ++ zeros 2
    ++ (if s.keyed then domainMac s (hsTh h) h.initiator (idHash s) else zeros 32)
    ++ fit 96 sigs.1 ++ fit 4627 sigs.2 ++ c1 ++ c2

/-- Clear the handshake store of a link. -/
def setHs (s : State) (l : Nat) (h : Option Handshake) : State := s.setLink l { s.link l with hs := h }

/-- A handshake fails (R410): an event, HS_FAILS, the delay; without a session its slots are cleared and the link is
TRAINED. -/
def hsFail (s : State) (l msg : Nat) : State :=
  let k := s.link l
  let n := satInc 7 k.hsFails
  let s1 := recordEvent (s.setLink l { k with hs := none, hsFails := n, hsWait := true }) 0x8E02 l n msg
  if k.level = 0 then
    let s2 := clearSlot (clearSlot s1 (16 + 2 * l) 0 0) (17 + 2 * l) 0 0
    s2.setLink l { s2.link l with state := if (s2.link l).state = .handshake then .trained else (s2.link l).state }
  else s1

/-- Bytes for a handshake from instance 4,099 + l; none when the draw cannot be served. -/
def hsDraw (s : State) (l n : Nat) : Option (Bytes × State) :=
  match draw s (4099 + l) n false with
  | .ok b s1 => some (b, s1)
  | _ => none

/-- The ephemeral keys and the nonce of the initiator (R409), from 152 random bytes. -/
def helloKeys (s : State) (l : Nat) : Option ((Bytes × Bytes × Bytes) × State) :=
  (hsDraw s l 152).bind fun r =>
    (keygenNow r.2 (.internal l) 8 0 (r.1.take 56)).bind fun x =>
      (keygenNow x.2 (.internal l) 11 0 ((r.1.drop 56).take 64)).map fun d => ((x.1, d.1, r.1.drop 120), d.2)

/-- An end starts a handshake or a renewal as its initiator: it sends INIT. -/
def sendInit (s : State) (l : Nat) : State :=
  match helloKeys s l with
  | none => hsFail s l 1
  | some ((x, d, nonce), s1) =>
    let m := helloMsg s1 nonce (keyPub 8 0 x) (keyPub 11 0 d)
    let h : Handshake := { initiator := true, x448 := x, kem := d, init := m, renewal := (s1.link l).level != 0 }
    sendHello (setHs s1 l (some h)) l 1 m

/-- A link enters HANDSHAKE (R406): the end with the lower ID_HASH sends INIT. -/
def startHandshake (s : State) (l : Nat) : State :=
  let s1 := s.setLink l { s.link l with state := .handshake, hs := none }
  if idHash s < (s.link l).partner then sendInit s1 l else s1

/-- OKM (R409). -/
def okmOf (k z th : Bytes) : Bytes := kmac (k ++ z) th 64 (ascii "GV-SWL")

/-- The shared secret of X448, when the peer's key is valid. -/
def x448Shared (priv pub : Bytes) : Option Bytes :=
  if Config.sharedValid 8 0 priv pub then some ((List.range 56).map (Config.shared 8 0 priv pub)) else none

/-- OKM from one dispatcher-internal job (R409): the X448 derivation, the ML-KEM step and KMAC256; it returns return-wrapped. -/
def deriveOkm (s : State) (l : Nat) (k z th : Bytes) : Option (Bytes × State) :=
  (arithNow s).bind fun s1 => returnNow s1 (.internal l) (okmOf k z th)

/-- Make and send the own AUTH. -/
def ownAuth (s : State) (l : Nat) : State :=
  match (s.link l).hs, hsDraw s l 88 with
  | some h, some (r, s1) =>
    match identitySigs s1 (hsTh h ++ roleByte h.initiator) r "GV-SWL" with
    | some (sg, s2) => sendAuth (setHs s2 l (some { h with authSent := true })) l (authMsg s2 h sg)
    | none => hsFail s1 l 3
  | _, _ => hsFail s l 3

/-- The vault loads a link's key slots (R409): transmit in 16 + 2l, receive in 17 + 2l. -/
def linkKeys (s : State) (l : Nat) (tx rx : Bytes) : State :=
  let half := fun (m : Bytes) (u : Nat) =>
    ({ material := m, colour := 0xF000, dest := 64, usage := u, cls := 1, origin := 1, version := 1 } : SlotHalf)
  (s.setSlot (16 + 2 * l) { active := some (half tx 1) }).setSlot (17 + 2 * l) { active := some (half rx 2) }

/-- The new keys take effect (R410 to R412): a session begins, or a renewal toggles KEY_PHASE. -/
def hsDone (s : State) (l : Nat) (h : Handshake) (keys : Bytes × Bytes) : State :=
  let a := h.okm.take 32
  let b := (h.okm.drop 32).take 32
  let old := slotKey s (17 + 2 * l)
  let s1 := if h.initiator then linkKeys s l a b else linkKeys s l b a
  let k := s1.link l
  let k1 := { k with hs := none, level := h.level, txLseq := h.tx, rxLseq := h.rx, keysSince := s1.clk, partnerKeys := keys,
                     hsFails := 0, hsWait := false }
  if h.renewal then s1.setLink l { k1 with keyPhase := !k.keyPhase, oldKey := some old, oldRxLseq := k.rxLseq, hsFails := k.hsFails }
  else linkTo (s1.setLink l { k1 with err := 0, keyPhase := false, oldKey := none }) l .active false

/-- What the responder makes of an INIT (R409): its RESP and OKM, from 120 random bytes; none for an X448 key that R224 refuses. -/
def respond (s : State) (l : Nat) (m : Bytes) : Option ((Bytes × Bytes) × State) :=
  (hsDraw s l 120).bind fun r =>
    (keygenNow r.2 (.internal l) 8 0 (r.1.take 56)).bind fun x =>
      let ek := slice m 104 1568
      let rnd := (r.1.drop 56).take 32
      (x448Shared x.1 (slice m 48 56)).bind fun z =>
        let resp := helloMsg x.2 (r.1.drop 88) (keyPub 8 0 x.1) ((List.range 1568).map (Config.kemCipher ek rnd))
        (deriveOkm x.2 l ((List.range 32).map (Config.kemKey ek rnd)) z (sha384 (m ++ resp))).map fun k => ((resp, k.1), k.2)

/-- The responder takes INIT (R406, R409): it derives the keys, sends RESP and its AUTH. -/
def takeInit (s : State) (l : Nat) (m : Bytes) : State :=
  let k := s.link l
  let renew : Bool := k.level != 0
  let busy : Bool := match k.hs with | some h => h.initiator && decide (idHash s < k.partner) | none => false
  if busy ∨ k.partner = 0 ∨ (renew = false ∧ k.state ≠ .handshake ∧ k.state ≠ .trained) then s
  else if helloOk m = false then hsFail s l 1
  else match respond s l m with
    | none => hsFail s l 1
    | some ((resp, okm), s1) =>
      let h : Handshake := { init := m, resp := resp, okm := okm, renewal := renew }
      let s2 := s1.setLink l { s1.link l with state := if renew then k.state else .handshake, hs := some h }
      ownAuth (sendHello s2 l 2 resp) l

/-- The initiator takes RESP. -/
def takeResp (s : State) (l : Nat) (h : Handshake) (m : Bytes) : State :=
  if h.initiator = false ∨ h.okm ≠ [] then s
  else if helloOk m = false then hsFail s l 2
  else
    let r := (x448Shared h.x448 (slice m 48 56)).bind fun z =>
      deriveOkm s l ((List.range 32).map (Config.kemDecaps h.kem (slice m 104 1568))) z (sha384 (h.init ++ m))
    match r with
    | none => hsFail s l 2
    | some (okm, s1) => setHs s1 l (some { h with resp := m, x448 := [], kem := [], okm := okm })

/-- The certified keys of an AUTH, when every check of R410 holds but the domain MAC. -/
def authKeys (partner : Nat) (h : Handshake) (m : Bytes) : Option (Bytes × Bytes) :=
  let n1 := u16 m 2
  let n2 := u16 m 4
  let d := hsTh h ++ roleByte (!h.initiator)
  if m.length ≠ 4763 + n1 + n2 ∨ u8 m 0 ≠ 1 ∨ u8 m 1 > 1 ∨ u16 m 6 ≠ 0 then none
  else match Config.certKey 1 (slice m 4763 n1), Config.certKey 2 (slice m (4763 + n1) n2) with
    | some p, some q =>
      if u64 (sha384 p) 0 = partner ∧ Config.verify 1 false p [] d (slice m 40 96) = true ∧
          Config.verify 6 false q (ascii "GV-SWL") d (slice m 136 4627) = true then some (p, q) else none
    | _, _ => none

/-- KEYED and DOMAIN_KCV of the partner, as its INIT or RESP gave them. -/
def partnerHello (h : Handshake) : Bytes := if h.initiator then h.resp else h.init

/-- Whether both ends are KEYED with equal DOMAIN_KCV. -/
def sameDomain (s : State) (h : Handshake) : Bool :=
  s.keyed && u8 (partnerHello h) 1 == 1 && u64 (partnerHello h) 8 == domainKcv s

/-- An end takes its partner's AUTH (R410): the initiator then sends its own. -/
def takeAuth (s : State) (l : Nat) (h : Handshake) (m : Bytes) : State :=
  let k := s.link l
  if h.okm = [] then s
  else match authKeys k.partner h m with
    | none => hsFail s l 3
    | some keys =>
      let dom := sameDomain s h
      if dom ∧ slice m 8 32 ≠ domainMac s (hsTh h) (!h.initiator) k.partner then hsFail s l 3
      else
        let h1 := { h with accepted := true, level := if dom then 2 else 1 }
        let s1 := setHs s l (some h1)
        let s2 := if h.initiator then ownAuth s1 l else s1
        match (s2.link l).hs with
        | some h2 => if h2.accepted ∧ h2.authSent then hsDone s2 l h2 keys else s2
        | none => s2

/-- A whole message of a handshake. -/
def hsMessage (s : State) (l msg : Nat) (m : Bytes) : State :=
  match msg, (s.link l).hs with
  | 1, _ => takeInit s l m
  | 2, some h => takeResp s l h m
  | 3, some h => takeAuth s l h m
  | _, _ => s

/-- The parts of a message after one more fragment; fragments come in order (R408). -/
def addPart (old : List Bytes) (p : Bytes) : Option (List Bytes) :=
  let i := u8 p 1
  let n := u8 p 2
  let len := u32 p 4
  let base := if i = 0 then [] else old
  if n = 0 ∨ n > 9 ∨ i ≥ n ∨ i ≠ base.length ∨ len > 2040 * n then none
  else some (base ++ [(p.drop 8).take (min 2040 (len - 2040 * i))])

/-- The message that its parts make, once all have come. -/
def wholeOf (parts : List Bytes) (p : Bytes) : Option Bytes :=
  if parts.length = u8 p 2 then some (parts.flatten.take (u32 p 4)) else none

/-- A handshake fragment is taken. -/
def hsFragment (s : State) (l : Nat) (f : Frame) : State :=
  let msg := u8 f.payload 0
  let k := s.link l
  let h := k.hs.getD {}
  match addPart (if h.partMsg = msg then h.parts else []) f.payload with
  | none => s
  | some parts =>
    let whole := wholeOf parts f.payload
    let h1 := { h with partMsg := msg, parts := if whole.isSome then [] else parts, rx := if msg = 3 then f.lseq else h.rx }
    let s1 := if k.hs.isSome then setHs s l (some h1) else s
    match whole with
    | some m => hsMessage s1 l msg m
    | none => s1

/-- A handshake fragment is received (R406 to R412): AUTH comes sealed, INIT and RESP clear. -/
def execHs (l : Nat) (f : Frame) (s : State) : Host.Outcome State Fault Refusal :=
  .next (recvFrame s l 2 f fun g s1 => if g.sealed = (u8 g.payload 0 == 3) then hsFragment s1 l g else s1)

/-- A message of the handshake does not arrive within 1 s (R406). -/
def hsTimeout (s : State) (l : Nat) : State :=
  let k := s.link l
  if l ≥ 8 ∨ linksRun s = false then s
  else match k.hs with
    | some h => hsFail (timerTaken s 15) l (if h.okm = [] then (if h.initiator then 2 else 1) else 3)
    | none => if k.state = .handshake then hsFail (timerTaken s 15) l 1 else s

/-- A handshake times out. -/
def execSwlHsTimeout (l : Nat) (s : State) : Host.Outcome State Fault Refusal := .next (hsTimeout s l)

/-- The delay after a failure ends (R410): a new attempt. -/
def hsRetry (s : State) (l : Nat) : State :=
  let k := s.link l
  if l ≥ 8 ∨ linksRun s = false ∨ k.hsWait = false then s
  else
    let s1 := (timerTaken s 15).setLink l { k with hsWait := false }
    if k.state = .trained ∧ k.partner ≠ 0 ∧ k.partner ≠ idHash s then startHandshake s1 l
    else if k.level ≠ 0 ∧ k.hs.isNone = true then sendInit s1 l else s1

/-- A new handshake attempt starts. -/
def execSwlHsRetry (l : Nat) (s : State) : Host.Outcome State Fault Refusal := .next (hsRetry s l)

/-- A renewal starts on a live session (R412); one that runs goes on. -/
def startRenewal (s : State) (l : Nat) : State :=
  if (s.link l).level = 0 ∨ (s.link l).hs.isSome = true then s else sendInit s l

/-- LSEQ or the age of the keys asks for a renewal. -/
def execSwlRenewal (l : Nat) (s : State) : Host.Outcome State Fault Refusal :=
  .next (if l < 8 ∧ linksRun s = true then startRenewal (timerTaken s 15) l else s)

/-- The previous receive key is dropped (R412). -/
def execSwlOldKeyExpire (l : Nat) (s : State) : Host.Outcome State Fault Refusal :=
  .next (if l < 8 ∧ (s.link l).oldKey.isSome = true then
      (timerTaken s 15).setLink l { s.link l with oldKey := none, oldRxLseq := 0 }
    else s)

/-! ### A beacon received (R404, R407, R414, R421) -/

/-- The next free address after one, skipping those of the database (R421). -/
def nextAddr (s : State) : Nat → Nat → Nat
  | 0, a => a
  | n + 1, a =>
    let b := if a + 1 ≥ 0xFFFF then 1 else a + 1
    if s.fabric.db.any fun e => e.2.addr == b then nextAddr s n b else b

/-- Another node announces an address (R421): on a clash the larger ID_HASH keeps it; the other records the event and advertises its
new address at once. -/
def clash (s : State) (id addr st : Nat) : State :=
  let f := s.fabric
  if st = 0 ∨ f.addrState = 0 ∨ addr ≠ f.addr ∨ id = idHash s ∨ id < idHash s then s
  else
    let a := nextAddr s (f.db.length + 1) f.addr
    originate (recordEvent { s with fabric := { f with addr := a, addrState := 1 } } 0x8E05 addr a 0)

/-- The link's part of a beacon: the partner's fields, quarantine, the start of a handshake. -/
def beaconLink (s : State) (l : Nat) (f : Frame) : State :=
  let p := f.payload
  let id := u64 p 0
  let k := { s.link l with partner := id, partnerState := u8 p 8 % 16, partnerAddr := u16 p 32, partnerKcv := u64 p 16,
                           partnerUnkeyed := bitOf (u8 p 9) 1 }
  let s1 := s.setLink l k
  if k.state = .trained then
    if id = idHash s then recordEvent (linkTo s1 l .loopback false) 0x8E03 l 0 0
    else if k.hsWait then s1 else startHandshake s1 l
  else if k.state = .quarantined then
    if k.quarTrained ∧ f.sealed then
      (if k.goodBeacons + 1 ≥ 128 then
        linkTo (s1.setLink l { k with err := 0, goodBeacons := 0, quarTrained := false }) l .active false
       else s1.setLink l { k with goodBeacons := k.goodBeacons + 1 })
    else s1
  else if (k.state = .active ∨ k.state = .degraded) ∧ bitOf (u8 p 9) 2 = true then quarantineLink s1 l
  else settleLink s1 l

/-- A BEACON is received. -/
def execBeacon (l : Nat) (f : Frame) (s : State) : Host.Outcome State Fault Refusal :=
  .next (recvFrame s l 1 f fun g s1 =>
    clash (beaconLink s1 l g) (u64 g.payload 0) (u16 g.payload 32) (u8 g.payload 34))

/-! ### Rates (R401) -/

/-- The rate both requests give: KEEP_ALIVE while either end asks for it; FULL by fast retraining. -/
def applyRate (s : State) (l : Nat) : State :=
  let k := s.link l
  let want := k.ownKa || k.partnerKa
  if want ∧ k.keepAlive = false then handBack (s.setLink l { k with keepAlive := true, fast := false }) l
  else if want = false ∧ k.keepAlive = true then s.setLink l { k with fast := true } else s

/-- A RATE frame: a request is answered; an answer ends the own request. -/
def takeRate (s : State) (l : Nat) (p : Bytes) : State :=
  let k := s.link l
  if u8 p 1 = 0 then applyRate (sendRate (s.setLink l { k with partnerKa := u8 p 0 == 1 }) l (u8 p 0) 1) l
  else applyRate (s.setLink l { k with rateAsked := false }) l

/-- A RATE frame is received. -/
def execRate (l : Nat) (f : Frame) (s : State) : Host.Outcome State Fault Refusal :=
  .next (recvFrame s l 3 f fun g s1 => if (s1.link l).level = 0 then s1 else takeRate s1 l g.payload)

/-! ### Keep-alive frames (R418, R440) -/

/-- A KA_BEACON ends the session (R413, R414). -/
def kaBeaconIn (s : State) (l : Nat) (f : Frame) : State :=
  let k := s.link l
  if s.mode = .dormant then dormantFrame s l f
  else if l ≥ 8 ∨ linksRun s = false ∨ f.ty ≠ 4 ∨ k.state.num < 2 then s
  else if clearGood f = false then accountFrame s l f true
  else
    let s1 := accountFrame s l f false
    if k.level = 0 then s1
    else
      let s2 := endSession (s1.setLink l { s1.link l with partnerAddr := u16 f.payload 8 }) l
      linkTo s2 l .peerDormant false

/-- A KA_BEACON is received. -/
def execKaBeacon (l : Nat) (f : Frame) (s : State) : Host.Outcome State Fault Refusal := .next (kaBeaconIn s l f)

/-- SWL wakes honoured in the last 3,600 s. -/
def recentWakes (s : State) : List Nat := s.moon.swlWakes.filter fun t => decide (s.clk < t + 360000000000)

/-- A WAKE in DORMANT (R293, R418). -/
def wakeFrame (s : State) (l : Nat) (f : Frame) : State :=
  let lim := s.regField R.PWR_WAKE_CFG 15 8
  if s.moon.onVbat = true ∨ l ≥ 8 ∨ (s.regField R.PWR_KEEPALIVE 7 0).testBit l = false ∨ clearGood f = false then s
  else if f.ty ≠ 5 ∨ f.dst ≠ s.regField R.PWR_KEEPALIVE 23 8 then dormantFrame s l f
  else if (s.reg R.PWR_WAKE_CFG).testBit 0 = false then s
  else if lim ≠ 0 ∧ (recentWakes s).length ≥ lim then s.incRegField R.PWR_WAKE_CAUSE 63 48
  else
    let s1 := s.setReg R.PWR_WAKE_CAUSE (s.reg R.PWR_WAKE_CAUSE ||| 2 ^ (32 + l))
    qualify { s1 with moon := { s1.moon with swlWakes := s.clk :: recentWakes s1 } } 0

/-- A WAKE is received; outside DORMANT it has no effect (R294). -/
def execWake (l : Nat) (f : Frame) (s : State) : Host.Outcome State Fault Refusal :=
  .next (if s.mode = .dormant then wakeFrame s l f else recvFrame s l 5 f fun _ s1 => s1)

/-- A DORMANT_NOTICE (R440): the frame it names, sent on the link, is reported to its SRC. -/
def noticeIn (s : State) (l : Nat) (p : Bytes) : State :=
  match (s.link l).sent.find? (fun g => g.tag == u64 p 12 && g.ty == u8 p 10) with
  | some g => sendNak s g 2
  | none => s

/-- A DORMANT_NOTICE is received. -/
def execDormantNotice (l : Nat) (f : Frame) (s : State) : Host.Outcome State Fault Refusal :=
  .next (recvFrame s l 6 f fun g s1 => noticeIn s1 l g.payload)

/-- An UNREACH reaches its originator (R417). -/
def execUnreach (l : Nat) (f : Frame) (s : State) : Host.Outcome State Fault Refusal :=
  .next (recvNet s l 7 f fun g s1 => noticeUnreachable s1 (u64 g.payload 0))

/-! ### Loss of signal, ends of a session (R413, R414) -/

/-- A link loses its signal. -/
def signalLoss (s : State) (l : Nat) : State :=
  if l ≥ 8 then s
  else
    let k := { s.link l with signal := false }
    let s1 := s.setLink l k
    match k.state with
    | .active | .degraded | .quarantined => linkTo (s1.setLink l { k with former := k.state, fast := false }) l .training false
    | .peerDormant | .loopback => linkTo s1 l .down false
    | _ => s1

/-- A link loses signal. -/
def execSwlSignalLoss (l : Nat) (s : State) : Host.Outcome State Fault Refusal := .next (signalLoss s l)

/-- The loss of signal has lasted 1 s: the session ends. -/
def sessionTimeout (s : State) (l : Nat) : State :=
  let k := s.link l
  if l < 8 ∧ k.signal = false ∧ k.level ≠ 0 then handBack (endSession (timerTaken s 15) l) l else s

/-- A loss of signal lasts more than 1 s. -/
def execSwlSessionTimeout (l : Nat) (s : State) : Host.Outcome State Fault Refusal := .next (sessionTimeout s l)

/-- The partner has restarted: 50 ms of clear beacons only (R413). -/
def partnerRestart (s : State) (l : Nat) : State :=
  if l < 8 ∧ linksRun s = true ∧ (s.link l).level ≠ 0 ∧ (s.link l).state.num ≥ 5 then
    linkTo (endSession (timerTaken s 15) l) l .trained false
  else s

/-- The partner of a link has restarted. -/
def execSwlPartnerRestart (l : Nat) (s : State) : Host.Outcome State Fault Refusal := .next (partnerRestart s l)

/-! ### The link commands (R419) -/

/-- Whether an ACTION is accepted. -/
def actionOk (k : Link) (a : Nat) : Bool :=
  if a = 0 then k.state == .disabled else if a = 1 then k.state != .disabled
  else if a = 2 then k.state.num ≥ 3 && k.state != .peerDormant else if a = 3 then k.level != 0 else true

/-- The effect of an ACTION. -/
def linkAction (s : State) (l a : Nat) : State :=
  let k := s.link l
  if a = 0 then linkTo s l .down false
  else if a = 1 then
    let s1 := linkTo (endSession s l) l .disabled false
    s1.setLink l { s1.link l with queue := [], fast := false, retraining := false }
  else if a = 2 then
    linkTo (s.setLink l { k with former := if k.level = 0 then .down else k.state, hs := none, fast := false, retraining := false }) l .training false
  else if a = 3 then startRenewal s l
  else s.setLink l { k with bad := 0, refused := 0, handedBack := 0, fecCorrected := 0, fecUncorrectable := 0 }

/-- SWL_LINK_CTRL. -/
def swlLinkCtrl (j : Job) (s : State) : State :=
  let l := u8 j.ops 0
  let a := u8 j.ops 1
  if l > 7 ∨ a > 4 ∨ zeroAt j.ops 2 6 = false then dropWith s j S.E_BAD_OPERAND
  else if actionOk (s.link l) a = false then dropWith s j S.E_SWL_STATE
  else okJob (linkAction s l a) { j with committed := true } []

/-- SWL_LINK_CTRL. -/
def execSwlLinkCtrl (o : Origin) (s : State) : Host.Outcome State Fault Refusal := .next (runCommand C.SWL_LINK_CTRL o s swlLinkCtrl)

/-- SWL_LINK_INFO. -/
def swlLinkInfo (j : Job) (s : State) : State :=
  let l := u8 j.ops 0
  if l > 7 ∨ zeroAt j.ops 1 7 = false then dropWith s j S.E_BAD_OPERAND
  else
    let k := s.link l
    okJob s j (leBytes 8 (swlInfo k) ++ leBytes 8 k.partner ++ leBytes 8 (swlSession s k) ++ leBytes 8 (swlFrames k)
      ++ leBytes 8 (swlFec k) ++ zeros 8)

/-- SWL_LINK_INFO. -/
def execSwlLinkInfo (o : Origin) (s : State) : Host.Outcome State Fault Refusal := .next (runCommand C.SWL_LINK_INFO o s swlLinkInfo)

end Sys2Proof.Machine
end

