-- ==== Sys2Proof/Machine/Attest.lean ====
section
/-! DEFINITION. Attestation (18 R450 to R453): the statement and the failure statement, with their commands. -/

namespace Sys2Proof.Machine

/-! ### Identity signatures (R444) -/

/-- Whether the identity keys are formed. -/
def hasIdentity (s : State) : Bool := (identityKey s 0).isSome && (identityKey s 1).isSome

/-- The inputs of an identity signature (R444): with P-384 the prefix and the separator are hashed ahead of the message, with
ML-DSA-87 the prefix is the context. -/
def identityReq (s : State) (pre : String) (p384 : Bool) (m : Bytes) : SignReq :=
  let h := ((s.slot (if p384 then 0 else 1)).active).getD {}
  if p384 then { scheme := 1, priv := h.material, pub := h.pubKey, msg := ascii pre ++ zeros 1 ++ m }
  else { scheme := 6, priv := h.material, pub := h.pubKey, ctx := ascii pre, msg := m }

/-! ### The statement (R450) -/

/-- The entry of a measurement register. -/
def mrEntry (s : State) (i : Nat) : Bytes :=
  let m := s.mr i
  leBytes 1 i ++ zeros 3 ++ leBytes 4 m.count ++ bank384 m ++ bank3 m

/-- The entry of a ward. -/
def wardEntry (s : State) (w : Nat) : Bytes :=
  let v := s.ward w
  leBytes 1 v.state.num ++ leBytes 1 (b2n v.wpg) ++ zeros 2 ++ leBytes 4 (mSeq ((wardManifest s w).getD []))

/-- A key-origin claim: the active attribute word, and SHA-384 of the public encoding of an asymmetric key. -/
def claimBytes (s : State) (n : Nat) : Bytes :=
  let pub := ((s.slot n).active.bind (openPublic s)).getD []
  leBytes 2 n ++ zeros 6 ++ leBytes 8 (activeWord s n) ++ (if pub = [] then zeros 48 else sha384 pub)

/-- The first claimed slot whose public-key record fails its check (R150). -/
def claimFault (s : State) (claims : List Nat) : Option (Nat × SlotHalf) :=
  claims.findSome? fun n => (s.slot n).active.bind fun h => if (openPublic s h).isNone then some (n, h) else none

/-- FLAGS of the header. -/
def attestFlags (s : State) : Nat :=
  b2n s.approvedMode + 2 * b2n s.keyed + 4 * b2n s.boot.fallback + 8 * b2n s.measOverflow + 16 * b2n s.lcs.unlocked

/-- Registers named by a mask. -/
def maskRegs (mask : Nat) : List Nat := (List.range 32).filter mask.testBit

/-- The body of the attestation statement; NEXT_SEQ is the log's next sequence number at the snapshot (R451). -/
def attestBody (s : State) (mask sigs : Nat) (claims : List Nat) (nonce : Bytes) : Bytes :=
  let h := runningHeader s
  [0x01, 0x60] ++ leBytes 1 s.lcs.state ++ leBytes 1 s.fuses.floor ++ leBytes 1 (attestFlags s) ++ leBytes 1 claims.length
    ++ leBytes 1 sigs ++ zeros 1 ++ leBytes 4 mask ++ zeros 4 ++ leBytes 8 s.fuses.deviceId ++ leBytes 8 (domainKcv s)
    ++ fit 32 nonce ++ leBytes 8 s.time ++ slice h 8 8 ++ slice h 6 2 ++ leBytes 2 s.fuses.svn ++ slice h 5 1
    ++ leBytes 1 (s.fuses.keyRevoke % 16) ++ zeros 2 ++ (deviceFp s).take 32 ++ leBytes 4 s.measNext ++ zeros 4
    ++ ((maskRegs mask).map (mrEntry s)).flatten ++ ((List.range 16).map (wardEntry s)).flatten ++ (claims.map (claimBytes s)).flatten

/-- Length of the body. -/
def attestBodyLen (mask claims : Nat) : Nat := 256 + 120 * (maskRegs mask).length + 64 * claims

/-- Length of the signatures that SIG_SET gives. -/
def sigSetLen (sigs : Nat) : Nat := 96 * b2n (sigs.testBit 0) + 4627 * b2n (sigs.testBit 1)

/-- The claimed slots of the operands of ATTEST_GET at an offset. -/
def claimSlots (ops : Bytes) (off n : Nat) : List Nat := (List.range n).map fun k => u16 ops (off + 2 * k)

/-- Whether a submitter may claim a slot: it may be named, and is ACTIVE. -/
def claimOk (s : State) (owner : Bool) (tenant n : Nat) : Bool :=
  slotNamed s owner .claim n && slotAccess s owner tenant .claim n && (activeHalf s n).isSome

/-- MR_MASK, CLAIM_COUNT, SIGS and RSVD of the operands at an offset. -/
def attestOperandsBad (o : Bytes) (off : Nat) : Bool :=
  u8 o (off + 4) > 16 || u8 o (off + 5) = 0 || u8 o (off + 5) > 3 || !zeroAt o (off + 6) 10

/-! ### ATTEST_GET -/

/-- The checks of ATTEST_GET. -/
def attestCheck (s : State) (j : Job) : Option Nat :=
  let o := j.ops
  firstFail [failIf (!hasIdentity s) S.E_NO_IDENTITY, failIf (attestOperandsBad o 0) S.E_BAD_OPERAND,
    failIf ((claimSlots o 64 (u8 o 4)).any fun n => !claimOk s j.owner j.tenant n) S.E_ATTEST_CLAIM,
    refCheck s j (hostRef o 48) (attestBodyLen (u32 o 0) (u8 o 4) + sigSetLen (u8 o 5)) maxLen]

/-- Place the signature that `args` names: 1 P-384, 2 ML-DSA-87. -/
def placeIdentity (j : Job) (s : State) : State :=
  if listGet 0 j.args 0 = 1 then placeArith s j 1 (6, 0) 56 false [0] [] else placeArith s j 1 (10, 0) 32 false [1] []

/-- A signature of the body begins; `keep` holds the body and the signatures made. -/
def identityStart (pre : String) (j : Job) (s : State) : State :=
  let again := (j.arith.map fun r => r.retried || decide (r.attempt > 1)).getD false
  placeIdentity { j with arith := some { op := 1, retried := again,
                                         sign := some (identityReq s pre (listGet 0 j.args 0 == 1) (j.keep.headD [])) } } s

/-- A signature is made and stands at the head of `keep`: the next one that SIG_SET asks for, or the end. -/
def signatureMade (pre : String) (sigs : Nat) (fin : State → Job → Bytes → State) (j : Job) (s : State) : State :=
  let body := listGet [] j.keep 1
  let made := listGet [] j.keep 2 ++ j.keep.headD []
  if listGet 0 j.args 0 = 1 ∧ sigs.testBit 1 then identityStart pre { j with args := 2 :: j.args.drop 1, keep := [body, made] } s
  else fin s j (body ++ made)

/-- The statement is written to OUT. -/
def attestEnd (s : State) (j : Job) (stmt : Bytes) : State :=
  let (st, s1) := arithOk s j
  writeAndEnd s1 j (hostRef j.ops 48) stmt st (leBytes 4 stmt.length ++ leBytes 4 (listGet 0 j.args 1)) false

/-- ATTEST_GET: the snapshot at the measurement extend port, then the signatures on arith engines. -/
def attestGet (j : Job) (s : State) : State :=
  let o := j.ops
  let sigs := u8 o 5
  if j.stage = 0 then
    takeOrder s j (claimSlots o 64 (u8 o 4)) fun s1 j1 =>
      checked (attestCheck s1 j1) j1 s1
        (match claimFault s1 (claimSlots o 64 (u8 o 4)) with
         | some (n, h) => recordFailed s1 j1 n false h
         | none => identityStart "GV-ATTEST"
            { j1 with args := [if sigs.testBit 0 then 1 else 2, s1.measNext],
                      keep := [attestBody s1 (u32 o 0) sigs (claimSlots o 64 (u8 o 4)) (slice o 16 32), []] } s1)
  else if j.stage = 50 then placeIdentity j s
  else signatureMade "GV-ATTEST" sigs attestEnd j s

/-- ATTEST_GET. -/
def execAttestGet (o : Origin) (s : State) : Host.Outcome State Fault Refusal := .next (runCommand C.ATTEST_GET o s attestGet)

/-! ### The failure statement (R453) -/

/-- The 608 bytes of the failure statement's body. -/
def failBody (s : State) (nonce : Bytes) : Bytes :=
  let id := hasIdentity s
  [0x01, 0x61] ++ leBytes 1 s.mode.num ++ leBytes 1 s.fuses.floor ++ leBytes 1 s.lcs.state ++ leBytes 1 s.pins.bootCode
    ++ leBytes 1 (if id then 3 else 0) ++ leBytes 1 s.boot.firstCode ++ zeros 8 ++ leBytes 8 s.fuses.deviceId ++ zeros 8
    ++ fit 32 nonce ++ zeros 8 ++ leBytes 8 s.time ++ leBytes 8 (s.reg R.TMP_LATCH)
    ++ (if id then (deviceFp s).take 32 else zeros 32) ++ zeros 8 ++ ((List.range 4).map (mrEntry s)).flatten

/-- The failure statement is written to OUT. -/
def failEnd (s : State) (j : Job) (stmt : Bytes) : State :=
  let (st, s1) := arithOk s j
  writeAndEnd s1 j (hostRef j.ops 32) stmt st (leBytes 4 stmt.length ++ zeros 4) false

/-- FAIL_STATEMENT: signed when the identity keys are formed. -/
def failStatement (j : Job) (s : State) : State :=
  if j.stage = 0 then
    match refCheck s j (hostRef j.ops 32) 5331 maxLen with
    | some st => dropWith s j st
    | none =>
      let body := failBody s (j.ops.take 32)
      if hasIdentity s then identityStart "GV-FAIL" { j with args := [1], keep := [body, []] } s else failEnd s j body
  else if j.stage = 50 then placeIdentity j s
  else signatureMade "GV-FAIL" 3 failEnd j s

/-- Random input for Quartz requests, from instance 4,108 (R242); none when the draw cannot be served. -/
def quartzDraw (s : State) (n : Nat) : Option (Bytes × State) :=
  match draw s 4108 n false with
  | .ok b s1 => some (b, s1)
  | _ => none

/-- A signature by an identity key within a step (R444). -/
def signNow (s : State) (pre : String) (p384 : Bool) (m rnd : Bytes) : Option (Bytes × State) :=
  signReqNow s (identityReq s pre p384 m) rnd

/-- Both identity signatures within a step. -/
def signBoth (s : State) (pre : String) (m rnd : Bytes) : Option (Bytes × State) :=
  (signNow s pre true m (rnd.take 56)).bind fun a => (signNow a.2 pre false m (rnd.drop 56)).map fun b => (a.1 ++ b.1, b.2)

/-- The same statement by MCTP message 0x7E, operation 0x10: the signatures are made within the step, and no answer is sent where
they cannot be (assumption 179). -/
def failMctp (s : State) (nonce : Bytes) : State :=
  if s.mode ≠ .lockdown then s
  else
    let body := failBody s nonce
    if hasIdentity s = false then s.send (.mctp .port 0x7E ([0x10] ++ body))
    else
      let (rnd, s1) := (quartzDraw s 88).getD (s.freeBytes 88, s.tookFree 88)
      match signBoth s1 "GV-FAIL" body rnd with
      | some (sg, s2) => s2.send (.mctp .port 0x7E ([0x10] ++ body ++ sg))
      | none => s1

/-- FAIL_STATEMENT, as a command or by MCTP. -/
def execFailStatement (o : Origin) (mctp : Option Bytes) (s : State) : Host.Outcome State Fault Refusal :=
  .next (match mctp with
    | none => runCommand C.FAIL_STATEMENT o s failStatement
    | some nonce => failMctp s nonce)

end Sys2Proof.Machine
end

