-- ==== Sys2Proof/Machine/FabricCmds.lean ====
section
/-! DEFINITION. The custody fabric's rows (17): addresses and topology, holders and notices, replication, late failures,
fetches, re-enrolment, isolation, the fabric commands. -/

namespace Sys2Proof.Machine

/-! ### Topology (R420 to R425) -/

/-- Every 1 s, or after a change (R424). -/
def execLsaTimer (s : State) : Host.Outcome State Fault Refusal := .next (if linksRun s then originate (timerTaken s 15) else s)

/-- An LSA's payload. -/
def parseLsa (p : Bytes) : LsaEntry :=
  { addr := u16 p 8, addrState := u8 p 10, seq := u32 p 12, kcv := u64 p 16, unkeyed := bitOf (u8 p 24) 0,
    links := (List.range (min (u8 p 11) 8)).map fun i =>
      { partner := u64 p (32 + 12 * i), num := u8 p (40 + 12 * i), state := u8 p (41 + 12 * i),
        level := u8 p (42 + 12 * i), rate := u8 p (43 + 12 * i) } }

/-- A received LSA (R421, R425): stored and flooded when it is newer. -/
def takeLsa (s : State) (l : Nat) (f : Frame) : State :=
  let id := u64 f.payload 0
  let e := parseLsa f.payload
  let b := s.fabric
  if (s.link l).level = 0 then s
  else if id = idHash s then
    (if e.seq ≥ b.lsaSeq then originate { s with fabric := { b with lsaSeq := e.seq } } else s)
  else
    let newer := match b.db.look? id with | some o => decide (e.seq > o.seq) | none => true
    if newer = false then s
    else if (b.db.look? id).isNone ∧ b.db.length ≥ 1024 then
      recordEvent { s with fabric := { b with tableFull := true } } 0x8E08 (id % 2 ^ 32) (id / 2 ^ 32) 0
    else
      let s1 := { s with fabric := { b with db := b.db.insert id e } }
      let s2 := if f.hops ≤ 1 then s1 else flood s1 l { f with hops := f.hops - 1 }
      clash s2 id e.addr e.addrState

/-- An LSA is received. -/
def execLsa (l : Nat) (f : Frame) (s : State) : Host.Outcome State Fault Refusal := .next (recvFrame s l 0x10 f fun g s1 => takeLsa s1 l g)

/-- An LSA not refreshed for 3 s is deleted, and the holder entries of its origin (R425, R436). -/
def lsaExpire (s : State) (id : Nat) : State :=
  if (s.fabric.db.look? id).isNone then s
  else { timerTaken s 15 with fabric := { s.fabric with db := s.fabric.db.erase id, holders := s.fabric.holders.filter (·.2 != id) } }

/-- An LSA expires. -/
def execLsaExpire (id : Nat) (s : State) : Host.Outcome State Fault Refusal := .next (lsaExpire s id)

/-- A TENTATIVE address becomes OWNED (R420). -/
def execAddrOwned (s : State) : Host.Outcome State Fault Refusal :=
  .next (if s.fabric.addrState = 1 then { timerTaken s 15 with fabric := { s.fabric with addrState := 2 } } else s)

/-- No good frame on any link for 50 ms (R439). -/
def execIsolationEnter (s : State) : Host.Outcome State Fault Refusal :=
  .next (if linksRun s = false ∨ s.fabric.isolated = true then s
    else recordEvent { timerTaken s 15 with fabric := { s.fabric with isolated := true } } 0x8E06 1 0 0)

/-! ### Holders and notices (R436, R437) -/

/-- HOLD: an entry of the holder table. -/
def takeHold (s : State) (f : Frame) : State :=
  let e := (u64 f.payload 0, u64 f.payload 8)
  if s.fabric.holders.contains e then s
  else if s.fabric.holders.length ≥ 4096 then sendNak s f 14
  else { s with fabric := { s.fabric with holders := s.fabric.holders ++ [e] } }

/-- A HOLD is received. -/
def execHold (l : Nat) (f : Frame) (s : State) : Host.Outcome State Fault Refusal := .next (recvNet s l 0x11 f fun g s1 => takeHold s1 g)

/-- A HOLD_DROP is received. -/
def execHoldDrop (l : Nat) (f : Frame) (s : State) : Host.Outcome State Fault Refusal :=
  .next (recvNet s l 0x12 f fun g s1 =>
    { s1 with fabric := { s1.fabric with holders := s1.fabric.holders.filter (· != (u64 g.payload 0, u64 g.payload 8)) } })

/-- Enter a noticed range in the trees of a TREE_UID; the status of the answer. -/
def noticeRange (s : State) (uid : Nat) (r : IdxRange) : Nat × State :=
  (s.agate.trees.filter fun e => e.2.uid == uid && e.2.state != .free).foldl (fun acc e =>
    let u := acc.2
    let k := u.tree e.1
    if k.staged.length ≥ 256 ∨ stagedTotal u ≥ 16384 then (S.E_AGATE_STAGE_FULL, u)
    else (acc.1, supersedeExtents (u.setTree e.1 { k with staged := k.staged ++ [{ r with noticed := true }] }) C.SHRED_STAGE e.1 r))
    (S.OK, s)

/-- A STAGE_NOTICE: the range is staged; a class 0 notice is answered. -/
def takeNotice (s : State) (f : Frame) : State :=
  if u64 f.payload 8 ≠ idHash s then sendNak s f 12
  else
    let (st, s1) := match rangeAt f.payload 16 with
      | some r => noticeRange s (u64 f.payload 0) r
      | none => (S.OK, s)
    if f.cls = 0 then (sendNet s1 0x14 0 f.src (leBytes 8 f.tag ++ leBytes 2 st ++ zeros 22)).2 else s1

/-- A STAGE_NOTICE is received. -/
def execStageNotice (l : Nat) (f : Frame) (s : State) : Host.Outcome State Fault Refusal :=
  .next (recvNet s l 0x13 f fun g s1 => takeNotice s1 g)

/-- A STAGE_ACK: SHRED_STAGE completes when every class 0 notice is answered. -/
def takeAck (s : State) (p : Bytes) : State :=
  match s.fabric.notices.find? (fun n => n.tag == u64 p 0) with
  | none => s
  | some n =>
    let s1 := { s with fabric := { s.fabric with notices := s.fabric.notices.filter (fun m => m.tag != n.tag) } }
    match s1.job? n.origin with
    | none => s1
    | some j =>
      let j1 := if u16 p 8 = S.E_AGATE_STAGE_FULL then { j with args := [S.E_AGATE_STAGE_FULL] } else j
      if s1.fabric.notices.any (fun m => m.origin == n.origin) then s1.setJob j1
      else if listGet 0 j1.args 0 = S.OK then okJob s1 j1 (listGet [] j1.keep 0)
      else failJob s1 j1 (listGet 0 j1.args 0)

/-- A STAGE_ACK is received. -/
def execStageAck (l : Nat) (f : Frame) (s : State) : Host.Outcome State Fault Refusal :=
  .next (recvNet s l 0x14 f fun g s1 => takeAck s1 g.payload)

/-- No answer to a class 0 notice within 18 µs. -/
def execStageNoticeTimeout (tag : Nat) (s : State) : Host.Outcome State Fault Refusal := .next (if s.fabric.notices.any (fun n => n.tag == tag) then noticeUnreachable (timerTaken s 13) tag else s)

/-! ### Replicas (R203, R431, R432) -/

/-- A replica is accepted: its order takes a number at the arbiter, and it waits for a token; it is compared once more when its
entry is placed, and written with REPLICA set. -/
def acceptReplica (s : State) (f : Frame) (a : Anchor) : State :=
  if (s.agate.writes.filter fun w => decide (w.purpose = .replica)).length ≥ 256 then sendNak s f 15
  else
    let n := s.sched.orderSeq + 1
    askWrite { s with sched := { s.sched with orderSeq := n } }
      { purpose := .replica, ready := true, tree := a.treeNum, source := (u64 f.payload 8, f.src), seq := n, frame := some f,
        anchor := { a with flags := (a.flags &&& 1) ||| 4, mark := 0xFF } }

/-- An ANCHOR_PUSH (R203, R431). -/
def takeAnchorPush (s : State) (f : Frame) : State :=
  let a := parseAnchor (slice f.payload 16 64)
  if u64 f.payload 0 ≠ idHash s then sendNak s f 12
  else if s.keyed = false then sendNak s f 9
  else if a.mac ≠ anchorMac s a ∨ u8 f.payload 16 ≠ 1 then
    sendNak (recordEvent s 0x8D07 (a.uid % 2 ^ 32) (a.uid / 2 ^ 32) 2) f 4
  else if (anchorOf s a.uid).isNone ∧ isShredded a = false ∧ anchorsPlanned s 0 ≥ 131072 then sendNak s f 8
  else match replicaOutcome s a with
    | .accept => acceptReplica s f a
    | r => answerReplica s { purpose := .replica, anchor := a, frame := some f } r

/-- An ANCHOR_PUSH is received. -/
def execAnchorPush (l : Nat) (f : Frame) (s : State) : Host.Outcome State Fault Refusal :=
  .next (recvNet s l 0x20 f fun g s1 => takeAnchorPush s1 g)

/-- A ROOT_PUSH (R432). -/
def takeRootPush (s : State) (f : Frame) : State :=
  let p := fit 128 f.payload
  let id := u64 p 8
  let blob := slice p 24 104
  let cdk := s.cdk.getD []
  if u64 p 0 ≠ idHash s then sendNak s f 12
  else if s.keyed = false then sendNak s f 9
  else if slice blob 8 8 ≠ kcv cdk then sendNak s f 10
  else if (openBlob blob cdk 1).1 ≠ S.OK then sendNak s f 13
  else match (cfgFind s 3 id).map (cfgBody s) with
    | some (.replica old) => if slice old 24 104 = blob then s else sendNak s f 6
    | _ =>
      if ((cfgStanding s).filter (·.ty == 3)).length ≥ 4096 then sendNak s f 11
      else (startCfg s none 3 id (.replica p)).getD (sendNak s f 11)

/-- A ROOT_PUSH is received. -/
def execRootPush (l : Nat) (f : Frame) (s : State) : Host.Outcome State Fault Refusal :=
  .next (recvNet s l 0x21 f fun g s1 => takeRootPush s1 g)

/-- A ROOT_DROP deletes its record and is never answered (R432). -/
def takeRootDrop (s : State) (f : Frame) : State :=
  let id := u64 f.payload 8
  if u64 f.payload 0 ≠ idHash s ∨ (cfgFind s 3 id).isNone = true then s
  else (startCfg s none 4 id (.tombstone 3)).getD s

/-- A ROOT_DROP is received. -/
def execRootDrop (l : Nat) (f : Frame) (s : State) : Host.Outcome State Fault Refusal :=
  .next (recvNet s l 0x22 f fun g s1 => takeRootDrop s1 g)

/-- A LATE_NAK is received (R435). -/
def execLateNak (l : Nat) (f : Frame) (s : State) : Host.Outcome State Fault Refusal :=
  .next (recvNet s l 0x23 f fun g s1 => takeNak s1 (fit 32 g.payload))

/-! ### Fetches (R438) -/

/-- A ROOT_FETCH is answered with the stored record, or NOT_HELD. -/
def takeRootFetch (s : State) (f : Frame) : State :=
  let id := u64 f.payload 8
  if u64 f.payload 0 ≠ idHash s then sendNak s f 12
  else match (cfgFind s 3 id).map (cfgBody s) with
    | some (.replica p) => (sendNet s 0x25 1 f.src p).2
    | _ => sendNak s f 16

/-- A ROOT_FETCH is received. -/
def execRootFetch (l : Nat) (f : Frame) (s : State) : Host.Outcome State Fault Refusal :=
  .next (recvNet s l 0x24 f fun g s1 => takeRootFetch s1 g)

/-- ROOT_DATA ends the fetch of its ROOT_ID. -/
def takeRootData (s : State) (p : Bytes) : State :=
  match s.fabric.fetches.find? (fun e => e.ty == 0x25 && e.item == u64 p 8) with
  | some e => fetchDone s e (fit 128 p)
  | none => s

/-- ROOT_DATA is received. -/
def execRootData (l : Nat) (f : Frame) (s : State) : Host.Outcome State Fault Refusal :=
  .next (recvNet s l 0x25 f fun g s1 => takeRootData s1 g.payload)

/-- One IMAGE_DATA frame: ward, IMAGE_ID and offset before 2,016 bytes of the image. -/
def imageFrame (id : Nat) (req : Bytes) (img : Bytes) (k : Nat) : Bytes :=
  leBytes 8 id ++ slice req 8 16 ++ leBytes 8 (2016 * k) ++ (img.drop (2016 * k)).take 2016

/-- An IMAGE_FETCH is answered from the sixteen staging areas, or with NOT_HELD. -/
def takeImageFetch (s : State) (f : Frame) : State :=
  let id := u64 f.payload 16
  if u64 f.payload 0 ≠ idHash s then sendNak s f 12
  else match (List.range 16).findSome? (fun w => match (s.ward w).staged with
      | some b => if u64 b 16 = id ∧ u8 b 4 = u8 f.payload 8 then some b else none
      | none => none) with
    | some img =>
      (List.range ((img.length + 2015) / 2016)).foldl
        (fun t k => (sendNet t 0x27 2 f.src (imageFrame ((nodeAt s f.src).getD 0) f.payload img k)).2) s
    | none => sendNak s f 16

/-- An IMAGE_FETCH is received. -/
def execImageFetch (l : Nat) (f : Frame) (s : State) : Host.Outcome State Fault Refusal :=
  .next (recvNet s l 0x26 f fun g s1 => takeImageFetch s1 g)

/-- Length of a recovery image whose header is read (R367). -/
def imageLen (s : State) (b : Bytes) : Nat :=
  let sig := match activeHalf s (u16 b 6) with | some h => sigLen (ownerScheme h) h.size | none => 0
  64 + 8 * u8 b 5 + u32 b 8 + sig

/-- IMAGE_DATA carries the next part; the fetch ends with the last. -/
def takeImageData (s : State) (p : Bytes) : State :=
  match s.fabric.fetches.find? (fun e => e.ty == 0x27 && e.item == u64 p 16 && e.ward == u8 p 8) with
  | none => s
  | some e =>
    if u64 p 24 ≠ e.got.length then s
    else
      let got := e.got ++ p.drop 32
      if got.length ≥ 64 ∧ got.length ≥ imageLen s got then fetchDone s e (got.take (imageLen s got))
      else { s with fabric := { s.fabric with
        fetches := s.fabric.fetches.map fun m => if m.tag = e.tag then { m with got := got } else m } }

/-- IMAGE_DATA is received. -/
def execImageData (l : Nat) (f : Frame) (s : State) : Host.Outcome State Fault Refusal :=
  .next (recvNet s l 0x27 f fun g s1 => takeImageData s1 g.payload)

/-- A fetch is not answered in time. -/
def execFabFetchTimeout (tag : Nat) (s : State) : Host.Outcome State Fault Refusal := .next (if s.fabric.fetches.any (fun n => n.tag == tag) then endFetch (timerTaken s 14) tag S.E_FAB_TIMEOUT else s)

/-- FAB_ROOT_FETCH. -/
def fabRootFetch (j : Job) (s : State) : State :=
  let out := hostRef j.ops 16
  if j.stage = 0 then
    match firstFail [failIf (!s.keyed) S.E_UNKEYED, refCheck s j out 104 maxLen] with
    | some st => dropWith s j st
    | none => startFetch s j 0x24 1 (u16 j.ops 0) (u64 j.ops 8) 0 fun id => leBytes 8 id ++ slice j.ops 8 8 ++ zeros 16
  else
    let p := j.data.headD []
    writeAndEnd s j out (slice p 24 104) S.OK (slice p 16 2 ++ zeros 6) false

/-- FAB_ROOT_FETCH. -/
def execFabRootFetch (o : Origin) (s : State) : Host.Outcome State Fault Refusal := .next (runCommand C.FAB_ROOT_FETCH o s fabRootFetch)

/-! ### Re-enrolment from a peer (R441) -/

/-- ENROL_REQ without its signatures: X448 and ML-KEM-1024 keys, nonce, the donor's ID_HASH. -/
def enrolBody (x ek nonce : Bytes) (donor : Nat) : Bytes := fit 56 x ++ fit 1568 ek ++ fit 32 nonce ++ leBytes 8 donor

/-- The key that wraps the CDK: from Z, K and TH over the request and the answer without the wrapped key. -/
def enrolKey (k z req resp : Bytes) : Bytes := kmac (k ++ z) (sha384 (req ++ resp)) 32 (ascii "GV-ENR")

/-- FAB_ENROL_GRANT. -/
def fabEnrolGrant (j : Job) (s : State) : State :=
  if s.keyed = false then dropWith s j S.E_UNKEYED
  else okJob { s with fabric := { s.fabric with grant := some (u64 j.ops 0) } } { j with committed := true } []

/-- FAB_ENROL_GRANT. -/
def execFabEnrolGrant (o : Origin) (s : State) : Host.Outcome State Fault Refusal := .next (runCommand C.FAB_ENROL_GRANT o s fabEnrolGrant)

/-- The grant lapses after 600 s. -/
def execFabEnrolGrantExpire (s : State) : Host.Outcome State Fault Refusal := .next (if s.fabric.grant.isNone then s else { timerTaken s 14 with fabric := { s.fabric with grant := none } })

/-- A message longer than a frame goes out on a link in fragments laid out as those of R408, MSG 0 (DESIGN CHOICE, assumption 191). -/
def enrolFrames (s : State) (l ty dst : Nat) (m : Bytes) : State :=
  (List.range ((m.length + 2039) / 2040)).foldl (fun t i =>
    let (f, t1) := newFrame t ty 1 dst (fragment 0 m i)
    enqueue t1 l f) s

/-- The requester's ephemeral keys and signatures (R441 step 2), from 240 random bytes: ENROL_REQ and the private keys. -/
def enrolKeys (s : State) (o : Origin) (l : Nat) (r : Bytes) : Option ((Bytes × Bytes × Bytes) × State) :=
  (keygenNow s o 8 0 (r.take 56)).bind fun x =>
    (keygenNow x.2 o 11 0 ((r.drop 56).take 64)).bind fun d =>
      let b := enrolBody (keyPub 8 0 x.1) (keyPub 11 0 d.1) ((r.drop 120).take 32) (s.link l).partner
      (identitySigs d.2 b (r.drop 152) "").map fun g => ((b ++ fit 96 g.1.1 ++ fit 4627 g.1.2, x.1, d.1), g.2)

/-- The requester's ENROL_REQ goes out on its link. -/
def enrolSend (s : State) (j : Job) (l : Nat) (r : Bytes) : State :=
  match enrolKeys s j.origin l r with
  | none => dropWith s j S.E_FAB_ENROL
  | some ((req, x, d), s1) =>
    let e : Enrol := { origin := j.origin, link := l, req := req, x448 := x, kem := d }
    enrolFrames ({ s1 with fabric := { s1.fabric with enrol := some e } }.setJob { j with phase := .peer }) l 0x28
      (s.link l).partnerAddr req

/-- FAB_ENROL: the request; then the commit of R391 with ORIGIN IMPORTED, after which every session is renewed. -/
def fabEnrol (j : Job) (s : State) : State :=
  let l := u8 j.ops 0
  if j.stage = 0 then
    match firstFail [failIf (s.tkn.ceremony.state != 0 || s.fabric.enrol.isSome) S.E_CEREMONY_STATE, failIf s.keyed S.E_FAB_ENROL,
        failIf (l > 7 || (s.link l).level == 0) S.E_SWL_STATE] with
    | some st => dropWith s j st
    | none => if (arithNow s).isNone then s else withDraw s j 4096 240 fun r s1 => enrolSend s1 j l r
  else if j.stage = 20 then reEnrol s j (listGet [] j.keep 0) (listGet 0 j.args 0)
  else
    let key := listGet [] j.keep 0
    let s1 := keyVault s 2 key
    let s2 := (List.range 8).foldl startRenewal { s1 with fabric := { s1.fabric with enrol := none } }
    okJob s2 j (leBytes 8 (listGet 0 j.args 0) ++ kcv key)

/-- FAB_ENROL. -/
def execFabEnrol (o : Origin) (s : State) : Host.Outcome State Fault Refusal := .next (runCommand C.FAB_ENROL o s fabEnrol)

/-- ENROL_RESP of a refusal. -/
def enrolRefuse (s : State) (l src : Nat) : State := enrolFrames s l 0x29 src (leBytes 1 1 ++ zeros 31)

/-- Whether the donor grants an ENROL_REQ. -/
def enrolGranted (s : State) (l : Nat) (p : Bytes) : Bool :=
  let k := s.link l
  let b := p.take 1664
  s.keyed && s.fabric.grant == some k.partner && u64 p 1656 == idHash s && k.partnerKeys != ([], []) &&
    Config.verify 1 false k.partnerKeys.1 [] b (slice p 1664 96) && Config.verify 6 false k.partnerKeys.2 [] b (slice p 1760 4627)

/-- The donor's answer (R441 step 3), from 88 random bytes: X448 and ML-KEM, then the CDK wrapped under the exchanged key. -/
def enrolAnswer (s : State) (l : Nat) (p r : Bytes) : Option (Bytes × State) :=
  (keygenNow s (.internal l) 8 0 (r.take 56)).bind fun x =>
    let ek := slice p 56 1568
    let rnd := (r.drop 56).take 32
    (x448Shared x.1 (p.take 56)).map fun z =>
      let cdk := s.cdk.getD []
      let body := zeros 8 ++ fit 56 (keyPub 8 0 x.1) ++ (List.range 1568).map (Config.kemCipher ek rnd) ++ leBytes 8 (currentSet s)
        ++ kcv cdk
      (body ++ fit 40 (kwpWrap (enrolKey ((List.range 32).map (Config.kemKey ek rnd)) z p body) cdk), x.2)

/-- The donor's part: the grant is consumed by an answer; else a refusal. -/
def takeEnrolReq (s : State) (l src : Nat) (p : Bytes) : State :=
  if enrolGranted s l p = false then enrolRefuse s l src
  else match draw s 4096 88 false with
    | .ok r s1 => match enrolAnswer { s1 with fabric := { s1.fabric with grant := none } } l p r with
      | some (m, s2) => enrolFrames s2 l 0x29 src m
      | none => enrolRefuse { s1 with fabric := { s1.fabric with grant := none } } l src
    | _ => enrolRefuse s l src

/-- A fragment of an ENROL_REQ. -/
def enrolReqPart (s : State) (l : Nat) (f : Frame) : State :=
  match addPart (s.link l).enrolReq f.payload with
  | none => s
  | some parts => match wholeOf parts f.payload with
    | some m => takeEnrolReq (s.setLink l { s.link l with enrolReq := [] }) l f.src m
    | none => s.setLink l { s.link l with enrolReq := parts }

/-- An ENROL_REQ is received. -/
def execEnrolReq (l : Nat) (f : Frame) (s : State) : Host.Outcome State Fault Refusal :=
  .next (recvNet s l 0x28 f fun g s1 => enrolReqPart s1 l g)

/-- End FAB_ENROL without a key. -/
def enrolEnd (s : State) (st : Nat) : State :=
  match s.fabric.enrol with
  | none => s
  | some e =>
    let s1 := { s with fabric := { s.fabric with enrol := none } }
    match s1.job? e.origin with
    | some j => if j.phase = .peer then dropWith s1 j st else s
    | none => s1

/-- The requester's check of ENROL_RESP: the CDK and SET_ID. -/
def enrolOpen (e : Enrol) (p : Bytes) (expect : Bytes) : Option (Bytes × Nat) :=
  let body := p.take 1648
  if u8 p 0 ≠ 0 then none
  else match x448Shared e.x448 (slice p 8 56) with
    | none => none
    | some z =>
      let k := (List.range 32).map (Config.kemDecaps e.kem (slice p 64 1568))
      match Config.kwpUnwrap (enrolKey k z e.req body) (slice p 1648 40) with
      | some key => if key.length = 32 ∧ kcv key = slice p 1640 8 ∧ kcv key = expect then some (key, u64 p 1632) else none
      | none => none

/-- ENROL_RESP: unwrap, check, commit. -/
def takeEnrolResp (s : State) (l : Nat) (p : Bytes) : State :=
  match s.fabric.enrol with
  | none => s
  | some e => match s.job? e.origin with
    | none => s
    | some j =>
      if e.link ≠ l ∨ j.phase ≠ .peer then s
      else match enrolOpen e p (slice j.ops 8 8) with
        | none => enrolEnd s S.E_FAB_ENROL
        | some (key, setId) => reEnrol s { j with phase := .started, stage := 20, keep := [key], args := [setId] } key setId

/-- A fragment of an ENROL_RESP. -/
def enrolRespPart (s : State) (l : Nat) (p : Bytes) : State :=
  match addPart (s.link l).enrolResp p with
  | none => s
  | some parts => match wholeOf parts p with
    | some m => takeEnrolResp (s.setLink l { s.link l with enrolResp := [] }) l m
    | none => s.setLink l { s.link l with enrolResp := parts }

/-- An ENROL_RESP is received. -/
def execEnrolResp (l : Nat) (f : Frame) (s : State) : Host.Outcome State Fault Refusal :=
  .next (recvNet s l 0x29 f fun g s1 => enrolRespPart s1 l g.payload)

/-- No ENROL_RESP within 1 s. -/
def execFabEnrolTimeout (s : State) : Host.Outcome State Fault Refusal := .next (if s.fabric.enrol.isNone then s else enrolEnd (timerTaken s 14) S.E_FAB_TIMEOUT)

/-! ### The domain, replication, wakes -/

/-- The peers named by FAB_DOMAIN_SET. -/
def namedPeers (o : Bytes) : List Nat := (List.range (u8 o 1)).map fun p => u64 o (8 + 8 * p)

/-- Whether a list has no repeats. -/
def noRepeat : List Nat → Bool
  | [] => true
  | x :: r => !r.contains x && noRepeat r

/-- The checks of FAB_DOMAIN_SET. -/
def domainCheck (s : State) (o : Bytes) : Option Nat :=
  let q := u8 o 0
  let n := u8 o 1
  firstFail [failIf (q == 0 || q > 8 || n > 15 || !zeroAt o 2 6 || !zeroAt o (8 + 8 * n) (120 - 8 * n)) S.E_BAD_OPERAND,
    failIf (!s.keyed) S.E_UNKEYED,
    failIf (q - 1 > n || !noRepeat (namedPeers o) || (namedPeers o).contains (idHash s)) S.E_FAB_PEER_LIST]

/-- FAB_DOMAIN_SET (R429): the list is kept with the CDK record; its MARK is the commit point. -/
def fabDomainSet (j : Job) (s : State) : State :=
  if j.stage = 0 then
    match domainCheck s j.ops with
    | some st => dropWith s j st
    | none =>
      cfgThen s j 1 0 (.cdk (s.cdk.getD []) (currentSet s) (kcv (slotKey s 2)) (namedPeers j.ops) (u8 j.ops 0)) true
  else
    okJob { s with fabric := { s.fabric with peers := (namedPeers j.ops).map fun p => { id := p }, q := u8 j.ops 0 } } j []

/-- FAB_DOMAIN_SET. -/
def execFabDomainSet (o : Origin) (s : State) : Host.Outcome State Fault Refusal := .next (runCommand C.FAB_DOMAIN_SET o s fabDomainSet)

/-- The tenants whose roots the device holds. -/
def rootTenants (s : State) : List Nat :=
  ((s.tenants.filter fun e => e.2.state != .free).map (·.1)).filter fun t => (activeHalf s (s.ten t).rootSlot).isSome

/-- ROOT_PUSH of a tenant's root to one peer (R432). -/
def resendRoot (s : State) (p t : Nat) : State :=
  match activeHalf s (s.ten t).rootSlot with
  | none => s
  | some h =>
    let id := kcv h.material
    pushTo s p 0x21 (leNat id) 0 fun peer => leBytes 8 peer ++ id ++ leBytes 2 t ++ zeros 6 ++ blobOf 1 h (s.cdk.getD [])

/-- The end of FAB_REPL_RESEND. -/
def resendEnd (s : State) (r : Resend) : State :=
  let s1 := { s with fabric := { s.fabric with resend := none } }
  match s1.job? r.origin with
  | some j => okJob s1 j (leBytes 4 r.anchors ++ leBytes 4 r.roots)
  | none => s1

/-- FAB_REPL_RESEND (R430): roots at once, then the anchors of this device's origin, paced. -/
def fabReplResend (j : Job) (s : State) : State :=
  let o := j.ops
  let n := u16 o 0
  let peers := if n = 0xFFFF then List.range s.fabric.peers.length else [n]
  if n ≠ 0xFFFF ∧ n ≥ s.fabric.peers.length then dropWith s j S.E_FAB_PEER_LIST
  else
    let roots := if bitOf (u8 o 2) 1 then rootTenants s else []
    let mine := if bitOf (u8 o 2) 0 then (s.agate.anchors.filter fun e => !isReplica e.2).map (·.1) else []
    let s1 := peers.foldl (fun t p => roots.foldl (fun u k => resendRoot u p k) t) s
    let r : Resend := { origin := j.origin, left := (mine.map fun u => peers.map fun p => (p, u)).flatten,
                        roots := roots.length * peers.length }
    let s2 := { s1 with fabric := { s1.fabric with resend := some r } }.setJob { j with phase := .peer }
    if r.left = [] then resendEnd s2 r else s2

/-- FAB_REPL_RESEND. -/
def execFabReplResend (o : Origin) (s : State) : Host.Outcome State Fault Refusal := .next (runCommand C.FAB_REPL_RESEND o s fabReplResend)

/-- The next anchor of a running FAB_REPL_RESEND (R430). -/
def resendPace (s : State) : State :=
  match s.fabric.resend with
  | none => s
  | some r => match r.left with
    | [] => resendEnd s r
    | (p, u) :: rest =>
      let (sent, s1) := match anchorOf s u with
        | some a => (1, pushTo s p 0x20 a.uid a.batch fun id => leBytes 8 id ++ leBytes 8 (idHash s) ++ anchorBytes { a with mark := 0xA5 })
        | none => (0, s)
      let r1 := { r with left := rest, anchors := r.anchors + sent }
      let s2 := { s1 with fabric := { s1.fabric with resend := some r1 } }
      if rest = [] then resendEnd s2 r1 else s2

/-- The pace of FAB_REPL_RESEND. -/
def execFabReplResendPace (s : State) : Host.Outcome State Fault Refusal := .next (if s.fabric.resend.isNone then s else resendPace (timerTaken s 14))

/-- STATE of a log entry now (R435): SUPERSEDED when its item is no longer current. -/
def naksState (s : State) (e : ReplEntry) : Nat :=
  let item := u64 e.payload 18
  let gone :=
    if u8 e.payload 11 = 0x20 then (match anchorOf s item with | some a => decide (u48 e.payload 12 < a.batch) | none => false)
    else if u8 e.payload 11 = 0x21 then
      !(rootTenants s).any fun t => match activeHalf s (s.ten t).rootSlot with | some h => leNat (kcv h.material) == item | none => false
    else false
  if gone then 3 else e.state

/-- The 48 bytes of a log entry. -/
def replEntryBytes (s : State) (e : ReplEntry) : Bytes :=
  fit 32 e.payload ++ leBytes 8 e.time ++ leBytes 1 (naksState s e) ++ zeros 7

/-- FAB_REPL_LOG_READ. -/
def fabReplLogRead (j : Job) (s : State) : State :=
  let start := u16 j.ops 0
  let n := u16 j.ops 2
  let out := hostRef j.ops 16
  match firstFail [failIf (start > 255 || n == 0 || n > 256) S.E_BAD_LENGTH, refCheck s j out (48 * n) maxLen] with
  | some st => dropWith s j st
  | none =>
    let es := (s.fabric.replLog.drop start).take n
    writeAndEnd s j out (es.map (replEntryBytes s)).flatten S.OK
      (leBytes 2 es.length ++ leBytes 2 s.fabric.replLog.length ++ leBytes 4 s.fabric.overwritten) false

/-- FAB_REPL_LOG_READ. -/
def execFabReplLogRead (o : Origin) (s : State) : Host.Outcome State Fault Refusal :=
  .next (runCommand C.FAB_REPL_LOG_READ o s fabReplLogRead)

/-- FAB_WAKE (R440): one WAKE on the PEER_DORMANT link that shows the address. -/
def fabWake (j : Job) (s : State) : State :=
  let a := u16 j.ops 0
  match dormantLink s a with
  | none => dropWith s j S.E_FAB_NO_ROUTE
  | some l =>
    okJob (s.send (.frame l { ty := 5, dst := a, payload := leBytes 8 (idHash s) ++ leBytes 2 a ++ zeros 22 }))
      { j with committed := true } (leBytes 1 l ++ zeros 7)

/-- FAB_WAKE. -/
def execFabWake (o : Origin) (s : State) : Host.Outcome State Fault Refusal := .next (runCommand C.FAB_WAKE o s fabWake)

end Sys2Proof.Machine
end

