-- ==== Sys2Proof/Machine/Quartz.lean ====
section
/-! DEFINITION. The Quartz subsystem (18): its requests to dispatchers, watchdog and firmware events, the sensors, the
management port's bus, and the owner's firmware commands FW_ACTIVATE and FW_COMMIT. -/

namespace Sys2Proof.Machine

/-! ### What the management bindings reach -/

/-- Whether a message of a binding reaches Quartz firmware: the gate is open (R313) and the binding's link is up. -/
def mgmtOpen (s : State) (c : MgmtConn) : Bool :=
  s.boot.gateOpen && fwRuns s && s.mode != .dormant && (match c with | .port => true | .vdm p => (s.port p).dlUp)

/-- Number of a binding: 0 the management port, 1 and 2 PCIe VDM on ports A and B. -/
def connNum : MgmtConn → Nat
  | .port => 0
  | .vdm p => 1 + p.num

/-- The journal's entry of a management message (R481). -/
def mgmtEntry (s : State) (c : MgmtConn) (req : Bytes) : State := capture s 0x23 19 ((connNum c * 2 ^ 32 + req.length) :: wordsOf req)

/-- Quartz takes a message, or it is NACKed or dropped (R313, R445). -/
def mgmtIn (c : MgmtConn) (req : Bytes) (s : State) (f : State → State) : State :=
  if mgmtOpen s c then f (mgmtEntry s c req) else s

/-! ### I3C and MCTP control (R447) -/

/-- A broadcast CCC or SETDASA: the port becomes an I3C target; ENTDAA and SETDASA give an address while there is none,
RSTDAA takes it back. -/
def i3cCcc (s : State) (ccc addr : Nat) : State :=
  let q := s.quartz
  let give := fun (a : Nat) => if q.dynAddr = 0 then a % 128 else q.dynAddr
  if ccc = 0x06 then { s with quartz := { q with i3c := true, dynAddr := 0 } }
  else if ccc = 0x07 ∨ ccc = 0x87 then { s with quartz := { q with i3c := true, dynAddr := give addr } }
  else if ccc < 0x80 then { s with quartz := { q with i3c := true } } else s

/-- An I3C CCC on the management port. -/
def execI3cBroadcastCcc (ccc addr : Nat) (s : State) : Host.Outcome State Fault Refusal :=
  .next (if (mgmtOpen s .port || s.boot.haltLoop) = true then i3cCcc s ccc addr else s)

/-- Set Endpoint ID of DSP0236: 00 sets and 01 forces the ID; the answer carries the ID in force. -/
def setEndpointId (c : MgmtConn) (req : Bytes) (s : State) : State :=
  let op := u8 req 2 % 4
  let id := u8 req 3
  let ok := decide (op ≤ 1 ∧ id ≠ 0 ∧ id ≠ 0xFF ∧ req.length ≥ 4)
  let s1 := if ok then { s with quartz := { s.quartz with eid := id } } else s
  let hdr := leBytes 1 (u8 req 0 % 32) ++ [0x01]
  s1.send (.mctp c 0x00 (hdr ++ (if ok then [0x00, 0x00] ++ leBytes 1 id ++ [0x00] else [0x02])))

/-- Set Endpoint ID. -/
def execSetEndpointId (c : MgmtConn) (req : Bytes) (s : State) : Host.Outcome State Fault Refusal :=
  .next (mgmtIn c req s (setEndpointId c req))

/-! ### Requests to a dispatcher (R444) -/

/-- A request of Quartz that needs a dispatcher meets the others at its merge point, and wakes a hushed device (R285, R477). -/
def askDispatch (s : State) : State := hushExit (crossing s 0x03 0 0 1)

/-- An internal request of Quartz ends: its status and result are there for the firmware. -/
def requestDone (s : State) (n st : Nat) (res : Bytes) : State := { s with internalDone := s.internalDone ++ [(n, st, res)] }

/-- A request of a type or format that the dispatcher does not accept (R444). -/
def requestRefused (s : State) (n : Nat) : State := requestDone (recordStatusFree s S.E_COLOUR 0xF002 0) n S.E_COLOUR []

/-- A request that signs (R216, R222): its random input, then the result. With every engine taken the request stays with the firmware
(assumption 179). -/
def requestSigned (s : State) (n len : Nat) (sign : State → Bytes → Option (Bytes × State)) : State :=
  if hasIdentity s = false then requestDone s n S.E_NO_IDENTITY []
  else if anyArith s = false then requestDone (s.incRegField R.ARI_ERR_COUNT 31 16) n S.E_ARI_ENGINE_FAIL []
  else if (arithNow s).isNone then s
  else match quartzDraw s len with
    | none => requestDone s n S.E_RNG_FAIL []
    | some (r, s1) => match sign s1 r with
      | some (out, s2) => requestDone s2 n S.OK out
      | none => requestDone (s1.incRegField R.ARI_ERR_COUNT 15 0) n S.E_ITER_LIMIT []

/-- A statement body with the signatures that SIG_SET names. -/
def statementSigned (s : State) (pre : String) (sigs : Nat) (body r : Bytes) : Option (Bytes × State) :=
  (if sigs.testBit 0 then (if sigs.testBit 1 then signBoth s pre body r else signNow s pre true body (r.take 56))
   else signNow s pre false body (r.drop 56)).map fun x => (body ++ x.1, x.2)

/-- Whether the dispatcher keeps a message as some connection's signed message (R447). -/
def keptMessage (s : State) (m : Bytes) : Bool := s.quartz.conns.any fun e => e.2.kept == some m

/-- The P-384 signature over an SPDM message, which carries its own prefix (R444). -/
def signSpdm (s : State) (m r : Bytes) : Option (Bytes × State) :=
  signReqNow s { (identityReq s "" true m) with msg := m } r

/-- VERIFY_IMAGE: the result of R456 for an image. -/
def verifyImage (s : State) (img : Nat) (unreadable : Bool) : Nat :=
  let c := imgCheck s img (if unreadable then [img] else []) []
  if c = 0 then 0 else if c = 7 then 2 else if c = 8 ∨ imgLayoutOk (imgHeader s img) = false then 1 else 3

/-- The image that does not run. -/
def otherImage (s : State) : Nat := 1 - b2n s.boot.imageB

/-- SIGN_ATTEST: a statement over the operands of ATTEST_GET without OUT. A claim whose public-key record fails ends it (R150). -/
def signAttest (s : State) (n : Nat) (d : Bytes) : State :=
  let claims := claimSlots d 48 (u8 d 4)
  if d.length ≠ 48 + 2 * u8 d 4 ∨ attestOperandsBad d 0 = true ∨ claims.any (fun m => !claimOk s true 0 m) = true then requestRefused s n
  else match claimFault s claims with
    | some (m, h) => recordFailed s { origin := .internal n, code := C.ATTEST_GET, phase := .started } m false h
    | none => requestSigned s n 88 fun s1 r =>
      statementSigned s1 "GV-ATTEST" (u8 d 5) (attestBody s1 (u32 d 0) (u8 d 5) claims (slice d 16 32)) r

/-- One request (R444). -/
def quartzRequest (s : State) (n : Nat) (req : QuartzReq) (d : Bytes) (unreadable : Bool) : State :=
  match req with
  | .signAttest => signAttest s n d
  | .signFail =>
    if d.length ≠ 32 then requestRefused s n
    else requestSigned s n 88 fun s1 r => statementSigned s1 "GV-FAIL" 3 (failBody s1 d) r
  | .signSpdm => if keptMessage s d then requestSigned s n 56 fun s1 r => signSpdm s1 d r else requestRefused s n
  | .cosignSpdm => if keptMessage s d then requestSigned s n 32 fun s1 r => signNow s1 "GV-SPDM-COSIGN" false d r else requestRefused s n
  | .verifyImage => if d = [] then requestDone (countUnread s unreadable) n S.OK (leBytes 1 (verifyImage s (otherImage s) unreadable)) else requestRefused s n
  | .verifyWard =>
    if d.length ≠ 1 ∨ u8 d 0 ≥ 16 then requestRefused s n
    else match wardManifest s (u8 d 0) with
      | none => requestDone s n S.E_WARD_MANIFEST []
      | some m => requestDone s n ((manifestSetCheck s (u8 d 0) m).getD S.OK) []
  | .other => requestRefused s n

/-- Quartz firmware submits an internal request; while the gate is closed it is refused (R313). -/
def execQuartzInternalRequest (n : Nat) (req : QuartzReq) (data : Bytes) (unreadable : Bool) (s : State) :
    Host.Outcome State Fault Refusal :=
  .next (if (s.boot.gateOpen && fwRuns s) = true then quartzRequest (askDispatch s) n req data unreadable else s)

/-- Quartz firmware raises an event code (R458). -/
def execQuartzFirmwareEvent (code p0 p1 p2 p3 : Nat) (s : State) : Host.Outcome State Fault Refusal :=
  .next (if fwRuns s = true then takeEvent s code [p0 % 2 ^ 32, p1 % 2 ^ 32, p2 % 2 ^ 32, p3 % 2 ^ 32] true false else s)

/-! ### The watchdog (R445) -/

/-- The resident part checked again against the verified header. -/
def bodyStands (s : State) : Bool := sha384 (imgBody s (b2n s.boot.imageB)) == slice (runningHeader s) 0x20 48

/-- The watchdog expires: counted, alerted, recorded; the core restarts with nothing of its own, or the device halts. -/
def quartzWatchdog (s : State) (unreadable : Bool) : State :=
  if fwRuns s = false then s
  else
    let n := satInc 8 s.quartz.wdtResets
    let q := { s.quartz with wdtResets := n, alertWatchdog := true, conns := [], fd := {}, polling := false }
    let s1 := recordEvent { s with quartz := q } 0x8E0C n 0 0
    if unreadable ∨ bodyStands s = false then haltStart (countUnread s1 unreadable) 6 else s1

/-- Quartz firmware has not served the watchdog for 2 s. -/
def execQuartzWatchdog (unreadable : Bool) (s : State) : Host.Outcome State Fault Refusal := .next (quartzWatchdog (if fwRuns s = true then timerTaken s 19 else s) unreadable)

/-! ### Sensors (R446) -/

/-- A sensor's state by its limits: 1 normal, 9 above HIGH, 6 below LOW, 0 before its first sample (DSP0248). -/
def Sensor.state (x : Sensor) : Nat :=
  if x.sampled = false then 0 else if x.en = false then 1 else if x.value > x.high then 9 else if x.value < x.low then 6 else 1

/-- Replace a sensor. -/
def State.setSensor (s : State) (n : Nat) (x : Sensor) : State :=
  { s with quartz := { s.quartz with sensors := s.quartz.sensors.put {} n x } }

/-- A sensor takes a sample. -/
def Sensor.take (x : Sensor) (v : Int) (t : Nat) : Sensor :=
  let y := { x with value := v, max := if x.sampled = false ∨ v > x.max then v else x.max, sampled := true, taken := t,
                    prev := x.state }
  { y with out := x.en && (decide (v > x.high) || decide (v < x.low)) }

/-- One sample: journalled, then checked against the limits; one outside them alerts and records an event. -/
def sampleOne (s : State) (n : Nat) (v : Int) : State :=
  let x := (s.sensor n).take v s.clk
  let s1 := capture (s.setSensor n x) 0x24 19 [n * 2 ^ 32 + int24 v]
  if x.out then recordEvent { s1 with quartz := { s1.quartz with alertSensor := true } } 0x8E0D n (int24 v) 0 else s1

/-- The samples of one millisecond, from sensor `n` on. -/
def sampleFrom (s : State) (n : Nat) : List Int → State
  | [] => s
  | v :: r => if n ≥ 57 then s else sampleFrom (sampleOne s n v) (n + 1) r

/-- The sample of VHOLD, sensor 35, is a reading of LCS_VHOLD: OK when this one and that of a millisecond before stand at 800 mV
or more (R321, R522). -/
def vholdSample (s : State) (values : List Int) : State :=
  match s.moon.corePower, (values[35]? : Option Int) with
  | true, some v => { s with lcs := { s.lcs with vholdMv := v.toNat % 2 ^ 16
                                                 vholdOk := decide (v ≥ 800) && decide (s.lcs.vholdMv ≥ 800) } }
  | _, _ => s

/-- Every sensor is sampled (R446). -/
def execSensorSample (values : List Int) (s : State) : Host.Outcome State Fault Refusal :=
  .next (if s.mode = .dormant then s else vholdSample (sampleFrom s 0 values) values)

/-! ### FW_ACTIVATE, FW_COMMIT (R456, R457) -/

/-- FW_ACTIVATE. -/
def fwActivate (j : Job) (s : State) : State :=
  let x := otherImage s
  match firstFail [failIf (imgState s x != .staged || imgFirst s != x) S.E_FW_STATE,
      failIf (!dormantReady s j.origin) S.E_NOT_QUIESCED] with
  | some st => dropWith s j st
  | none => okJob { s with moon := { s.moon with deferred := some (j.bind, .restart) } } { j with committed := true } []

/-- FW_ACTIVATE. -/
def execFwActivate (o : Origin) (s : State) : Host.Outcome State Fault Refusal := .next (runCommand C.FW_ACTIVATE o s fwActivate)

/-- Whether an image would pass a counter and a revocation mask. -/
def imgBootable (s : State) (img svn revoked : Nat) : Bool :=
  let h := imgHeader s img
  imgState s img != .invalid && decide (u16 h 6 ≥ svn) && !revoked.testBit (u8 h 5)

/-- The counter and KEY_REVOKE that a commit leaves. -/
def commitTarget (s : State) (revoke : Bool) : Nat × Nat :=
  let h := runningHeader s
  (max s.fuses.svn (u16 h 6), (s.fuses.keyRevoke ||| (if revoke then u8 h 0x1C % 16 else 0)) % 16)

/-- The checks of R457, in order. -/
def commitCheck (s : State) (j : Job) : Option Nat :=
  let f := u8 j.ops 0
  let (svn, rev) := commitTarget s (f.testBit 1)
  firstFail [failIf (s.mode != .service) S.E_MODE, failIf (f > 3 || !zeroAt j.ops 1 7) S.E_BAD_OPERAND,
    failIf (s.boot.fallback || (svn == s.fuses.svn && rev == s.fuses.keyRevoke % 16)) S.E_FW_STATE,
    failIf (!f.testBit 0 && !imgBootable s (otherImage s) svn rev) S.E_FW_COMMIT]

/-- FW_COMMIT: the first fuse blow is the commit point; `args` are the counter and mask to reach. -/
def fwCommit (j : Job) (s : State) : State :=
  let (svn, rev) := commitTarget s ((u8 j.ops 0).testBit 1)
  checked (commitCheck s j) j s (s.setJob { j with phase := .fuse, committed := true, args := [svn, rev] })

/-- FW_COMMIT. -/
def execFwCommit (o : Origin) (s : State) : Host.Outcome State Fault Refusal := .next (runCommand C.FW_COMMIT o s fwCommit)

/-- The fuses after the blow under way: the next counter bit, then the lowest revocation bit (R457). -/
def blowOne (f : Fuses) (svn rev : Nat) : Fuses :=
  if f.svn < svn then { f with svn := f.svn + 1 }
  else match (List.range 4).find? (fun b => rev.testBit b && !f.keyRevoke.testBit b) with
    | some b => { f with keyRevoke := f.keyRevoke ||| 2 ^ b }
    | none => f

/-- The commit is complete: MR_5 is extended, an image it makes unbootable is INVALID. -/
def commitDoneFw (s : State) (j : Job) : State :=
  let rev := s.fuses.keyRevoke % 16
  let x := otherImage s
  let ok := imgBootable s x s.fuses.svn rev
  let s1 := extendFrom s 1 5 0x51 false (leBytes 2 s.fuses.svn ++ leBytes 1 rev ++ zeros 5)
  okJob (if ok then s1 else setImg s1 x .invalid) j (leBytes 2 s.fuses.svn ++ leBytes 1 rev ++ leBytes 1 (b2n ok) ++ zeros 4)

/-- A fuse blow ends and is read back. -/
def fuseBlowDone (s : State) : State :=
  match s.jobs.find? (fun j => j.code == C.FW_COMMIT && j.phase == .fuse) with
  | none => s
  | some j =>
    let f := blowOne s.fuses (listGet 0 j.args 0) (listGet 0 j.args 1)
    let s1 := { s with fuses := f }
    if f.svn ≥ listGet 0 j.args 0 ∧ f.keyRevoke % 16 = listGet 0 j.args 1 then commitDoneFw s1 j else s1

/-- One fuse blow of 2 ms ends. -/
def execFuseBlowDone (s : State) : Host.Outcome State Fault Refusal := .next (fuseBlowDone s)

end Sys2Proof.Machine
end

