-- ==== Sys2Proof/Machine/NorCmds.lean ====
section
/-! DEFINITION. What Quartz firmware orders of the NOR controller through NVM_CMD (21 R503 to R507), and the refresh engine
(R511 to R514) with the life it counts (22 R538, R539). -/

namespace Sys2Proof.Machine

/-! ### NVM_CMD -/

/-- Run a firmware command of the NOR controller: in machine mode of a running Quartz, and not in REPLAY (R489). The
registers show it. -/
def nvmCommand (s : State) (op addr len src : Nat) (f : State → State) : State :=
  if fwRuns s = false ∨ s.mode = .dormant ∨ s.mode = .replay then s
  else f ((s.setReg R.NVM_CMD (place 63 60 op + place 34 26 len + place 25 0 addr)).setReg R.NVM_SRC (src % 2 ^ 19))

/-- A firmware program or erase aimed at the executing bank, or at a sector being refreshed, is refused (R504, R513). -/
def nvmRefused (s : State) (sector : Nat) : Bool := bankOf sector == execBank s || refreshing s sector

/-- PROGRAM of 1 to 256 bytes within one page (R507). -/
def nvmProgram (a src : Nat) (data : Bytes) (s0 : State) : State :=
  let s := { s0 with nor := { s0.nor with sram := s0.nor.sram.putList 0 (src % 2 ^ 19) data } }
  let sector := a / 4096
  if data = [] ∨ a % 256 + data.length > 256 then s
  else if nvmRefused s sector then setNvmLast s S.E_NVM_SAME_BANK
  else if notBlank s a data then setNvmLast s S.E_NVM_NOT_BLANK
  else norQueue s [{ bank := bankOf sector, job := .fwProgram a data }]

/-- NVM_CMD PROGRAM. -/
def execNvmProgram (addr src : Nat) (data : Bytes) (s : State) : Host.Outcome State Fault Refusal :=
  let a := addr % 2 ^ 26
  .next (nvmCommand s 1 a data.length src (nvmProgram a src data))

/-- ERASE of one sector (R507). -/
def nvmErase (a : Nat) (s : State) : State :=
  let sector := a / 4096
  if nvmRefused s sector then setNvmLast s S.E_NVM_SAME_BANK
  else norQueue s [{ bank := bankOf sector, job := .fwErase sector }]

/-- NVM_CMD ERASE. -/
def execNvmErase (addr : Nat) (s : State) : Host.Outcome State Fault Refusal :=
  let a := addr % 2 ^ 26 / 4096 * 4096
  .next (nvmCommand s 2 a 0 (s.reg R.NVM_SRC) (nvmErase a))

/-- NVM_CMD REFRESH of one sector through a spare (R513); it is not refused in the executing bank (R504). -/
def execNvmRefresh (addr : Nat) (s : State) : Host.Outcome State Fault Refusal :=
  let a := addr % 2 ^ 26 / 4096 * 4096
  .next (nvmCommand s 3 a 0 (s.reg R.NVM_SRC) fun s1 => if refreshing s1 (a / 4096) then s1 else refreshBegin s1 (a / 4096) true)

/-- The byte of a configuration record at an offset (R509): its clear header and its MARK; nothing for the BODY, whose layout
the manual does not give (assumption 190). -/
def cfgByte (r : CfgRecord) (i : Nat) : Option Byte :=
  if i < 32 then (cfgHeader r)[i]? else if i + 1 = 256 * r.pages then some (if r.valid then 0x5A else 0xFF) else none

/-- The byte that a partition holds at an address: nothing where the model keeps the partition decoded and the manual gives
no layout, or where an erase was interrupted (R505). -/
def nvmByte (s : State) (a : Nat) : Option Byte :=
  let sector := a / 4096
  let size := 4096 / logPerSector s
  if s.nor.broken.contains sector then none
  else if 8192 ≤ sector ∧ sector < 12288 then
    some (match s.agate.journal.look? ((a - 0x2000000) / 64) with
      | some e => (anchorBytes e).getD (a % 64) 0xFF
      | none => 0xFF)
  else if 12290 ≤ sector then
    some (match s.recorder.log.look? ((a - 0x3002000) / size) with
      | some p => (recordBytes s p).getD (a % size) 0xFF
      | none => 0xFF)
  else if 2176 ≤ sector ∧ sector < 4096 then
    match s.cfg.find? fun r => decide (0x880000 + 256 * r.page ≤ a ∧ a < 0x880000 + 256 * (r.page + r.pages)) with
    | some r => cfgByte r (a - (0x880000 + 256 * r.page))
    | none => if sectorUsed s sector then none else some 0xFF
  else if (6144 ≤ sector ∧ sector ≤ 6149) ∨ (6164 ≤ sector ∧ sector < 8192) ∨ 12288 ≤ sector then
    (if sectorUsed s sector then none else some 0xFF)
  else some (norByte s a)

/-- A verify read into the SRAM buffer; a program or erase of the hardware in that bank is suspended for it (R503). -/
def nvmRead (a len src : Nat) (s : State) : State :=
  let bs := (List.range len).map fun i => (nvmByte s (a + i)).getD (Config.freeByte (s.freeIdx + i))
  let fw := fun (p : NorOp) => match p.job with | .fwProgram _ _ => true | .fwErase _ => true | _ => false
  let ops := s.nor.ops.map fun p => if p.bank = bankOf (a / 4096) ∧ fw p = false then { p with suspended := true } else p
  setNvmLast { s.tookFree len with
    nor := { s.nor with ops := ops, sram := s.nor.sram.putList 0 (src % 2 ^ 19) bs } } S.OK

/-- NVM_CMD READ_PROGRAM_VERIFY. -/
def execNvmReadProgramVerify (addr len src : Nat) (s : State) : Host.Outcome State Fault Refusal :=
  let a := addr % 2 ^ 26
  .next (nvmCommand s 4 a (len % 512) src (nvmRead a (len % 512) src))

/-- NVM_CMD READ_ERASE_VERIFY. -/
def execNvmReadEraseVerify (addr len src : Nat) (s : State) : Host.Outcome State Fault Refusal :=
  let a := addr % 2 ^ 26
  .next (nvmCommand s 5 a (len % 512) src (nvmRead a (len % 512) src))

/-! ### Refresh and life -/

/-- The highest reading of temperature sensors 0 to 23, in 0.25 °C (R446, R511). -/
def hottest (s : State) : Int :=
  ((List.range 23).map (· + 1)).foldl (fun m n => max m (s.sensor n).value) (s.sensor 0).value

/-- The factor of R511 in thousandths, and the weight of R538 in tenths. -/
def ageFactor (t : Int) : Nat :=
  if t ≤ 340 then 1000 else if t ≤ 380 then 2600 else if t ≤ 420 then 6600 else if t ≤ 460 then 15700 else if t ≤ 500 then 35900
  else 80000
@[inherit_doc ageFactor] def lifeWeight (t : Int) : Nat :=
  if t ≤ 340 then 7 else if t ≤ 380 then 10 else if t ≤ 420 then 13 else if t ≤ 460 then 16 else if t ≤ 500 then 20 else 40

/-- Equivalent hours after which a pass falls due, in the unit of `eqAge`. -/
def passAge : Nat := 43800 * 3600000

/-- An AGE entry every 24 h of operation (R514). -/
def ageEntry (s : State) : State :=
  if s.nor.ageSecs + 1 < 86400 ∨ s.mode = .replay then { s with nor := { s.nor with ageSecs := s.nor.ageSecs + 1 } }
  else refreshLog { s with nor := { s.nor with ageSecs := 0 } } { kind := 5, value := s.reg R.PWR_RTC }

/-- One second of operation (R511, R539). -/
def refreshTick (s : State) : State :=
  let t := hottest s
  let n := s.nor
  ageEntry { s with nor := { n with eqAge := n.eqAge + ageFactor t, life := n.life + lifeWeight t,
                                    overRated := n.overRated || decide (t > 500) } }

/-- Once each second the refresh engine samples the sensors. -/
def execNorRefreshTick (s : State) : Host.Outcome State Fault Refusal := .next (if s.mode = .dormant then s else refreshTick (timerTaken s 19))

/-- Whether the refresh engine works: in SERVICE, HUSH and LOCKDOWN (R512). -/
def refreshRuns (s : State) : Bool := s.mode == .service || s.mode == .hush || s.mode == .lockdown

/-- A pass starts when EQ_HOURS reaches 43,800, or at a start that could not tell the time without power; during a pass the
next one falls due (R511, R512). -/
def refreshPassStart (s : State) : State :=
  if refreshRuns s = false ∨ (s.nor.eqAge < passAge ∧ s.nor.passDue = false) then s
  else if s.nor.passActive then { s with nor := { s.nor with passDue := true } }
  else passStart s

/-- A refresh pass starts. -/
def execRefreshPassStart (s : State) : Host.Outcome State Fault Refusal := .next (refreshPassStart s)

/-- A pass rewrites an options and trim copy found invalid from the copy loaded (R512). -/
def trimRewrite (s : State) (sector : Nat) : State :=
  let b := s.boot
  if sector = 6146 ∧ b.trimA.valid = false ∧ b.trimB.valid = true then { s with boot := { b with trimA := b.trimB, trimOneBad := false } }
  else if sector = 6147 ∧ b.trimB.valid = false ∧ b.trimA.valid = true then
    { s with boot := { b with trimB := b.trimA, trimOneBad := false } }
  else s

/-- PACE_S seconds of a pass have gone by: the next programmed sector is refreshed, or the pass ends (R512, R513). -/
def refreshSector (s : State) : State :=
  let busy := s.nor.ops.any fun p => match p.job with | .refresh _ _ _ fw => !fw | _ => false
  if refreshRuns s = false ∨ s.nor.passActive = false ∨ busy = true then s
  else
    let n := nextRefresh s 16384 s.nor.nextSector
    if n ≥ 16384 then passEnd { s with nor := { s.nor with nextSector := 16384 } }
    else refreshBegin (trimRewrite { s with nor := { s.nor with nextSector := n } } n) n false

/-- The next sector of a pass. -/
def execRefreshSector (s : State) : Host.Outcome State Fault Refusal := .next (refreshSector s)

end Sys2Proof.Machine
end

