-- ==== Sys2Proof/Machine/Spdm.lean ====
section
/-! DEFINITION. The SPDM responder (18 R447 to R449). The layouts are those of DSP0274 (PRESUMED: the manual names the
standard and gives no layout). -/

namespace Sys2Proof.Machine

/-! ### Connections and answers -/

/-- An SPDM connection. -/
def State.conn (s : State) (c : MgmtConn) : SpdmConn := s.quartz.conns.get {} (connNum c)

/-- Replace an SPDM connection. -/
def State.setConn (s : State) (c : MgmtConn) (k : SpdmConn) : State :=
  { s with quartz := { s.quartz with conns := s.quartz.conns.put {} (connNum c) k } }

/-- Error codes of DSP0274. -/
def spdmInvalid : Nat := 0x01
def spdmBusy : Nat := 0x03
def spdmUnexpected : Nat := 0x04
def spdmUnspecified : Nat := 0x05
def spdmUnsupported : Nat := 0x07
def spdmVersionMismatch : Nat := 0x41

/-- Send an SPDM message. -/
def spdmSend (s : State) (c : MgmtConn) (m : Bytes) : State := s.send (.mctp c 0x05 m)

/-- The header of an answer. -/
def spdmHeader (k : SpdmConn) (code p1 p2 : Nat) : Bytes := leBytes 1 k.version ++ leBytes 1 code ++ leBytes 1 p1 ++ leBytes 1 p2

/-- Answer ERROR. -/
def spdmError (s : State) (c : MgmtConn) (code : Nat) : State := spdmSend s c (spdmHeader (s.conn c) 0x7F code 0)

/-- A request that needs a negotiation as far as `stage`: what was kept for the connection ends with it (R447); a request
that comes too early is unexpected, one of another version is refused. -/
def spdmIn (c : MgmtConn) (req : Bytes) (stage : Nat) (s : State) (f : SpdmConn → State → State) : State :=
  mgmtIn c req s fun s1 =>
    let k := s1.conn c
    let s2 := s1.setConn c { k with kept := none }
    if k.stage < stage then spdmError s2 c spdmUnexpected
    else if stage ≥ 2 ∧ u8 req 0 ≠ k.version then spdmError s2 c spdmVersionMismatch
    else f k s2

/-! ### Negotiation -/

/-- VERSION: 1.2 and 1.3; the transcripts begin with it. -/
def getVersion (c : MgmtConn) (req : Bytes) (_ : SpdmConn) (s : State) : State :=
  let ans := [0x10, 0x04, 0, 0, 0, 2] ++ leBytes 2 0x1200 ++ leBytes 2 0x1300
  if u8 req 0 ≠ 0x10 then spdmError (s.setConn c {}) c spdmVersionMismatch
  else spdmSend (s.setConn c { stage := 1, msgA := req ++ ans }) c ans

/-- GET_VERSION. -/
def execGetVersion (c : MgmtConn) (req : Bytes) (s : State) : Host.Outcome State Fault Refusal :=
  .next (spdmIn c req 0 s (getVersion c req))

/-- CAPABILITIES: CERT_CAP, CHAL_CAP, MEAS_CAP signed; 8,192 bytes a message. -/
def getCapabilities (c : MgmtConn) (req : Bytes) (k : SpdmConn) (s : State) : State :=
  let v := u8 req 0
  if v ≠ 0x12 ∧ v ≠ 0x13 then spdmError s c spdmVersionMismatch
  else
    let ans := leBytes 1 v ++ [0x61, 0, 0, 0, Config.spdmCtExponent, 0, 0] ++ leBytes 4 0x16 ++ leBytes 4 8192 ++ leBytes 4 8192
    spdmSend (s.setConn c { k with stage := 2, version := v, msgA := k.msgA ++ req ++ ans, kept := none }) c ans

/-- GET_CAPABILITIES. -/
def execGetCapabilities (c : MgmtConn) (req : Bytes) (s : State) : Host.Outcome State Fault Refusal :=
  .next (spdmIn c req 1 s (getCapabilities c req))

/-- ALGORITHMS: ECDSA P-384, SHA-384, and SHA-384 or SHA3-512 for measurements, whichever the device takes. -/
def negotiate (c : MgmtConn) (req : Bytes) (k : SpdmConn) (s : State) : State :=
  if (u32 req 8).testBit 7 = false ∨ (u32 req 12).testBit 1 = false ∨ (u8 req 6).testBit 0 = false then spdmError s c spdmInvalid
  else
    let sha3 := (Config.freeByte s.freeIdx).getLsbD 0
    let ans := spdmHeader k 0x63 0 0 ++ leBytes 2 36 ++ [1] ++ leBytes 1 (u8 req 7 &&& 2) ++ leBytes 4 (if sha3 then 64 else 4)
      ++ leBytes 4 128 ++ leBytes 4 2 ++ zeros 16
    let k1 := { k with stage := 3, sha3 := sha3, msgA := k.msgA ++ req ++ ans, msgB := [], msgL := [], kept := none }
    spdmSend ((s.tookFree 1).setConn c k1) c ans

/-- NEGOTIATE_ALGORITHMS. -/
def execNegotiateAlgorithms (c : MgmtConn) (req : Bytes) (s : State) : Host.Outcome State Fault Refusal :=
  .next (spdmIn c req 2 s (negotiate c req))

/-! ### Certificates (R449) -/

/-- The P-384 chain of slot 0: length, root hash, intermediate, leaf. -/
def ecChain (s : State) : Bytes :=
  let certs := listGet [] s.boot.certs 2 ++ listGet [] s.boot.certs 0
  leBytes 2 (52 + certs.length) ++ zeros 2 ++ digestBytes 48 Config.rootHash ++ certs

/-- The ML-DSA-87 chain. -/
def dsaChain (s : State) : Bytes := listGet [] s.boot.certs 3 ++ listGet [] s.boot.certs 1

/-- Add a request and its answer to transcript B, and send the answer. -/
def answerB (s : State) (c : MgmtConn) (k : SpdmConn) (req ans : Bytes) : State :=
  spdmSend (s.setConn c { k with msgB := k.msgB ++ req ++ ans, msgL := [], kept := none }) c ans

/-- DIGESTS of slot 0. -/
def getDigests (c : MgmtConn) (req : Bytes) (k : SpdmConn) (s : State) : State :=
  if hasIdentity s = false then spdmError s c spdmUnspecified
  else answerB s c k req (spdmHeader k 0x01 0 1 ++ sha384 (ecChain s))

/-- GET_DIGESTS. -/
def execGetDigests (c : MgmtConn) (req : Bytes) (s : State) : Host.Outcome State Fault Refusal :=
  .next (spdmIn c req 3 s (getDigests c req))

/-- CERTIFICATE: a portion of slot 0's chain. -/
def getCertificate (c : MgmtConn) (req : Bytes) (k : SpdmConn) (s : State) : State :=
  let ch := ecChain s
  let off := u16 req 4
  let n := min (u16 req 6) (min (ch.length - off) 8184)
  if hasIdentity s = false then spdmError s c spdmUnspecified
  else if u8 req 2 % 16 ≠ 0 ∨ off ≥ ch.length then spdmError s c spdmInvalid
  else answerB s c k req (spdmHeader k 0x02 0 0 ++ leBytes 2 n ++ leBytes 2 (ch.length - off - n) ++ slice ch off n)

/-- GET_CERTIFICATE. -/
def execGetCertificate (c : MgmtConn) (req : Bytes) (s : State) : Host.Outcome State Fault Refusal :=
  .next (spdmIn c req 3 s (getCertificate c req))

/-! ### Signed answers (R447) -/

/-- The signed message of DSP0274: four times the version prefix, the context padded to 36 bytes, the transcript's hash. -/
def spdmSigned (k : SpdmConn) (context : String) (transcript : Bytes) : Bytes :=
  let pre := ascii (if k.version = 0x13 then "dmtf-spdm-v1.3.*" else "dmtf-spdm-v1.2.*")
  let ctx := ascii context
  pre ++ pre ++ pre ++ pre ++ zeros (36 - ctx.length) ++ ctx ++ sha384 transcript

/-- A DMTF measurement block: index i + 1 reports MR_i's digest in the negotiated bank. -/
def measBlock (s : State) (k : SpdmConn) (i : Nat) : Bytes :=
  let d := if k.sha3 then bank3 (s.mr i) else bank384 (s.mr i)
  leBytes 1 (i + 1) ++ [1] ++ leBytes 2 (d.length + 3) ++ [(Config.measKind i).setWidth 8] ++ leBytes 2 d.length ++ d

/-- All 32 blocks. -/
def measAll (s : State) (k : SpdmConn) : Bytes := ((List.range 32).map (measBlock s k)).flatten

/-- The RequesterContext that version 1.3 echoes. -/
def requesterContext (k : SpdmConn) (req : Bytes) (off : Nat) : Bytes := if k.version = 0x13 then slice req off 8 else []

/-- Sign an answer, keep its signed message, and send it; `k` is the connection afterwards. With every arith engine taken the responder
is busy. -/
def spdmAnswerSigned (s : State) (c : MgmtConn) (k : SpdmConn) (context : String) (transcript ans rnd : Bytes) : State :=
  let m := spdmSigned k context (transcript ++ ans)
  match signSpdm s m rnd with
  | some (sg, s1) => spdmSend (s1.setConn c { k with kept := some m }) c (ans ++ sg)
  | none => spdmError s c spdmBusy

/-- CHALLENGE_AUTH. -/
def challenge (c : MgmtConn) (req : Bytes) (k : SpdmConn) (s : State) : State :=
  let h := u8 req 3
  if hasIdentity s = false then spdmError s c spdmUnspecified
  else if u8 req 2 ≠ 0 ∨ ¬(h = 0 ∨ h = 1 ∨ h = 0xFF) ∨ req.length < 36 then spdmError s c spdmInvalid
  else match quartzDraw (askDispatch s) 88 with
    | none => spdmError (askDispatch s) c spdmBusy
    | some (r, s1) =>
      let sum := if h = 0 then [] else if h = 0xFF then sha384 (measAll s k) else s1.freeBytes 48
      let s2 := if h = 1 then s1.tookFree 48 else s1
      let ans := spdmHeader k 0x03 0 1 ++ sha384 (ecChain s) ++ r.take 32 ++ sum ++ zeros 2 ++ requesterContext k req 36
      spdmAnswerSigned s2 c { k with msgB := [], msgL := [] } "responder-challenge_auth signing" (k.msgA ++ k.msgB ++ req) ans (r.drop 32)

/-- CHALLENGE. -/
def execChallenge (c : MgmtConn) (req : Bytes) (s : State) : Host.Outcome State Fault Refusal :=
  .next (spdmIn c req 3 s (challenge c req))

/-- The measurement record asked for: number of blocks and bytes. -/
def measRecord (s : State) (k : SpdmConn) (op : Nat) : Nat × Bytes :=
  if op = 0 then (0, []) else if op = 0xFF then (32, measAll s k) else (1, measBlock s k (op - 1))

/-- MEASUREMENTS, signed when asked. -/
def getMeasurements (c : MgmtConn) (req : Bytes) (k : SpdmConn) (s : State) : State :=
  let signed := (u8 req 2).testBit 0
  let op := u8 req 3
  let (n, rec) := measRecord s k op
  let s0 := if signed then askDispatch s else s
  let head := spdmHeader k 0x60 (if op = 0 then 32 else 0) 0 ++ leBytes 1 n ++ leBytes 3 rec.length ++ rec
  if ¬(op ≤ 32 ∨ op = 0xFF) ∨ (signed = true ∧ u8 req 36 % 16 ≠ 0) then spdmError s c spdmInvalid
  else if signed = true ∧ hasIdentity s = false then spdmError s c spdmUnspecified
  else match quartzDraw s0 (if signed then 88 else 32) with
    | none => spdmError s0 c spdmBusy
    | some (r, s1) =>
      let ans := head ++ r.take 32 ++ zeros 2 ++ requesterContext k req (if signed then 37 else 4)
      if signed then spdmAnswerSigned s1 c { k with msgL := [] } "responder-measurements signing" (k.msgA ++ k.msgL ++ req) ans (r.drop 32)
      else spdmSend (s1.setConn c { k with msgL := k.msgL ++ req ++ ans, kept := none }) c ans

/-- GET_MEASUREMENTS. -/
def execGetMeasurements (c : MgmtConn) (req : Bytes) (s : State) : Host.Outcome State Fault Refusal :=
  .next (spdmIn c req 3 s (getMeasurements c req))

/-! ### The co-signature extension (R448) -/

/-- The payload of a VENDOR_DEFINED_REQUEST of the extension: PCI-SIG with Mortiyx's vendor ID. -/
def vendorPayload (req : Bytes) : Option Bytes :=
  if u8 req 1 = 0xFE ∧ u16 req 4 = 3 ∧ u8 req 6 = 2 ∧ u16 req 7 = Config.vendorId.toNat then some (slice req 11 (u16 req 9)) else none

/-- The answer of the extension. -/
def vendorAnswer (s : State) (c : MgmtConn) (k : SpdmConn) (p : Bytes) : State :=
  spdmSend s c (spdmHeader k 0x7E 0 0 ++ leBytes 2 3 ++ [2] ++ leBytes 2 Config.vendorId.toNat ++ leBytes 2 p.length ++ p)

/-- A request of the extension, by its operation byte; it ends the measurements' transcript, as every message but
GET_MEASUREMENTS does. -/
def vendorIn (c : MgmtConn) (req : Bytes) (op : Nat) (s : State) (f : Bytes → SpdmConn → State → State) : State :=
  spdmIn c req 3 s fun k s1 =>
    let s2 := s1.setConn c { k with msgL := [], kept := none }
    match vendorPayload req with
    | some p => if u8 p 0 = op then f p { k with msgL := [] } s2 else spdmError s2 c spdmUnsupported
    | none => spdmError s2 c spdmUnsupported

/-- A piece of a string, with the string's length before it. -/
def pieceOf (b : Bytes) (off len : Nat) : Bytes := leBytes 4 b.length ++ slice b off (min len (b.length - off))

/-- GET_PQ_CERT. -/
def getPqCert (c : MgmtConn) (p : Bytes) (k : SpdmConn) (s : State) : State :=
  if hasIdentity s = false then spdmError s c spdmUnspecified
  else if u16 p 5 > 8000 ∨ u32 p 1 > (dsaChain s).length then spdmError s c spdmInvalid
  else vendorAnswer s c k (pieceOf (dsaChain s) (u32 p 1) (u16 p 5))

/-- GET_PQ_CERT. -/
def execGetPqCert (c : MgmtConn) (req : Bytes) (s : State) : Host.Outcome State Fault Refusal :=
  .next (vendorIn c req 1 s (getPqCert c))

/-- COSIGN: the ML-DSA-87 signature over the signed message kept. -/
def cosign (c : MgmtConn) (_ : Bytes) (k : SpdmConn) (s : State) : State :=
  match k.kept with
  | none => spdmError s c spdmUnexpected
  | some m => match quartzDraw (askDispatch s) 32 with
    | none => spdmError (askDispatch s) c spdmBusy
    | some (r, s1) => match signNow s1 "GV-SPDM-COSIGN" false m r with
      | some (sg, s2) => vendorAnswer s2 c k sg
      | none => spdmError s1 c spdmBusy

/-- COSIGN. -/
def execCosign (c : MgmtConn) (req : Bytes) (s : State) : Host.Outcome State Fault Refusal :=
  .next (vendorIn c req 2 s (cosign c))

/-- ATTEST: OFFSET and LENGTH as GET_PQ_CERT, then the operands of ATTEST_GET and the slot list; OFFSET 0 makes a new
statement, whose pieces the requests that follow fetch. -/
def attest (c : MgmtConn) (p : Bytes) (k : SpdmConn) (s : State) : State :=
  let o := p.drop 7
  let n := u8 o 4
  let off := u32 p 1
  if hasIdentity s = false then spdmError s c spdmUnspecified
  else if u16 p 5 > 8000 ∨ attestOperandsBad o 0 = true ∨ o.length ≠ 48 + 2 * n ∨
      (claimSlots o 48 n).any (fun m => !claimOk s true 0 m) = true then spdmError s c spdmInvalid
  else if (claimFault s (claimSlots o 48 n)).isSome then spdmError s c spdmUnspecified
  else if off ≠ 0 then
    (if off > k.stmt.length then spdmError s c spdmInvalid else vendorAnswer s c k (pieceOf k.stmt off (u16 p 5)))
  else match quartzDraw (askDispatch s) 88 with
    | none => spdmError (askDispatch s) c spdmBusy
    | some (r, s1) =>
      let body := attestBody s1 (u32 o 0) (u8 o 5) (claimSlots o 48 n) (slice o 16 32)
      match statementSigned s1 "GV-ATTEST" (u8 o 5) body r with
      | some (stmt, s2) => vendorAnswer (s2.setConn c { k with stmt := stmt, kept := none }) c k (pieceOf stmt 0 (u16 p 5))
      | none => spdmError s1 c spdmBusy

/-- ATTEST. -/
def execAttest (c : MgmtConn) (req : Bytes) (s : State) : Host.Outcome State Fault Refusal :=
  .next (vendorIn c req 3 s (attest c))

end Sys2Proof.Machine
end

