-- ==== Sys2Proof/Machine/Pldm.lean ====
section
/-! DEFINITION. PLDM (18 R454 to R456, 12 R317): base, platform monitoring, firmware update. The layouts and completion
codes are those of DSP0240, DSP0248 and DSP0267 (PRESUMED: the manual names the standards and gives no layout). A request
is the whole PLDM message: three header bytes, then its data. -/

namespace Sys2Proof.Machine

/-- Answer a PLDM request: its header, the completion code, the data. -/
def pldmAnswer (s : State) (c : MgmtConn) (req : Bytes) (cc : Nat) (d : Bytes) : State :=
  s.send (.mctp c 0x01 (leBytes 1 (u8 req 0 % 32) ++ slice req 1 2 ++ leBytes 1 cc ++ d))

/-- Completion code ERROR_INVALID_DATA. -/
def pldmInvalid : Nat := 0x02

/-! ### Type 0 -/

/-- GetTID. -/
def execGetTid (c : MgmtConn) (req : Bytes) (s : State) : Host.Outcome State Fault Refusal :=
  .next (mgmtIn c req s fun s1 => pldmAnswer s1 c req 0 (leBytes 1 s1.quartz.tid))

/-- SetTID: 0x00 and 0xFF name no terminus. -/
def setTid (c : MgmtConn) (req : Bytes) (s : State) : State :=
  let t := u8 req 3
  if t = 0 ∨ t = 0xFF then pldmAnswer s c req pldmInvalid []
  else pldmAnswer { s with quartz := { s.quartz with tid := t } } c req 0 []

/-- SetTID. -/
def execSetTid (c : MgmtConn) (req : Bytes) (s : State) : Host.Outcome State Fault Refusal :=
  .next (mgmtIn c req s (setTid c req))

/-- The supported types. -/
def pldmType (t : Nat) : Bool := t == 0 || t == 2 || t == 5

/-- GetPLDMVersion. -/
def getPldmVersion (c : MgmtConn) (req : Bytes) (s : State) : State :=
  let t := u8 req 8
  let v := leBytes 4 (Config.pldmVersion t).toNat
  if pldmType t then pldmAnswer s c req 0 (zeros 4 ++ [5] ++ v ++ leBytes 4 (crc32 v)) else pldmAnswer s c req 0x83 []

/-- GetPLDMVersion. -/
def execGetPldmVersion (c : MgmtConn) (req : Bytes) (s : State) : Host.Outcome State Fault Refusal :=
  .next (mgmtIn c req s (getPldmVersion c req))

/-- GetPLDMTypes: 0, 2 and 5. -/
def execGetPldmTypes (c : MgmtConn) (req : Bytes) (s : State) : Host.Outcome State Fault Refusal :=
  .next (mgmtIn c req s fun s1 => pldmAnswer s1 c req 0 (leBytes 8 0x25))

/-- The commands of a type (R454, R455, R317). -/
def pldmCommands : Nat → List Nat
  | 0 => [1, 2, 3, 4, 5]
  | 2 => [0x03, 0x04, 0x0B, 0x0C, 0x11, 0x12, 0x13, 0x50, 0x51]
  | _ => [0x01, 0x02, 0x10, 0x11, 0x12, 0x13, 0x14, 0x15, 0x16, 0x17, 0x18, 0x1A, 0x1B, 0x1D]

/-- GetPLDMCommands. -/
def getPldmCommands (c : MgmtConn) (req : Bytes) (s : State) : State :=
  if pldmType (u8 req 3) then pldmAnswer s c req 0 (leBytes 32 ((pldmCommands (u8 req 3)).foldl (fun a n => a + 2 ^ n) 0))
  else pldmAnswer s c req 0x83 []

/-- GetPLDMCommands. -/
def execGetPldmCommands (c : MgmtConn) (req : Bytes) (s : State) : Host.Outcome State Fault Refusal :=
  .next (mgmtIn c req s (getPldmCommands c req))

/-! ### Type 2: PDRs -/

/-- GetTerminusUID. -/
def execGetTerminusUid (c : MgmtConn) (req : Bytes) (s : State) : Host.Outcome State Fault Refusal :=
  .next (mgmtIn c req s fun s1 => pldmAnswer s1 c req 0 (leBytes 16 (Config.terminusUid s1.fuses.deviceId).toNat))

/-- A PDR by its record handle: 1 to 57 the numeric sensors, 58 the terminus locator. -/
def pdr (n : Nat) : Bytes :=
  let body := if n ≤ 57 then zeros 2 ++ leBytes 2 n ++ Config.pdrRest n else Config.pdrRest n
  leBytes 4 n ++ [1] ++ leBytes 1 (if n ≤ 57 then 2 else 1) ++ zeros 2 ++ leBytes 2 body.length ++ body

/-- The handles of the repository. -/
def pdrHandles : List Nat := (List.range 58).map (· + 1)

/-- GetPDRRepositoryInfo; the update times and the timeout are free. -/
def getPdrRepositoryInfo (c : MgmtConn) (req : Bytes) (s : State) : State :=
  let sizes := pdrHandles.map fun n => (pdr n).length
  pldmAnswer (s.tookFree 27) c req 0 ([0] ++ s.freeBytes 26 ++ leBytes 4 58 ++ leBytes 4 (sizes.foldl (· + ·) 0)
    ++ leBytes 4 (sizes.foldl max 0) ++ (s.freeBytes 27).drop 26)

/-- GetPDRRepositoryInfo. -/
def execGetPdrRepositoryInfo (c : MgmtConn) (req : Bytes) (s : State) : Host.Outcome State Fault Refusal :=
  .next (mgmtIn c req s (getPdrRepositoryInfo c req))

/-- One bit of a CRC-8 with polynomial x⁸ + x² + x + 1. -/
def crc8Bit (x : BitVec 8) : BitVec 8 := if x.getLsbD 7 then (x <<< 1) ^^^ 0x07#8 else x <<< 1

/-- CRC-8 of a byte string. -/
def crc8 (b : Bytes) : Byte :=
  b.foldl (fun x y => crc8Bit (crc8Bit (crc8Bit (crc8Bit (crc8Bit (crc8Bit (crc8Bit (crc8Bit (x ^^^ y))))))))) 0

/-- GetPDR: a record or a part of it; the data transfer handle is the offset of the next part. -/
def getPdr (c : MgmtConn) (req : Bytes) (s : State) : State :=
  let h := if u32 req 3 = 0 then 1 else u32 req 3
  let off := if u8 req 11 = 1 then 0 else u32 req 7
  let b := pdr h
  let n := min (u16 req 12) (b.length - off)
  let last := decide (off + n ≥ b.length)
  let flag : Nat := if last then (if off = 0 then 5 else 4) else if off = 0 then 0 else 1
  if h > 58 then pldmAnswer s c req 0x82 []
  else if off > b.length then pldmAnswer s c req 0x80 []
  else pldmAnswer s c req 0 (leBytes 4 (if h = 58 then 0 else h + 1) ++ leBytes 4 (if last then 0 else off + n) ++ leBytes 1 flag
    ++ leBytes 2 n ++ slice b off n ++ (if flag = 4 then [crc8 b] else []))

/-- GetPDR. -/
def execGetPdr (c : MgmtConn) (req : Bytes) (s : State) : Host.Outcome State Fault Refusal :=
  .next (mgmtIn c req s (getPdr c req))

/-! ### Type 2: sensors -/

/-- A sensor request: sensor ID n names sensor n − 1. -/
def sensorIn (c : MgmtConn) (req : Bytes) (s : State) (f : Nat → State → State) : State :=
  mgmtIn c req s fun s1 =>
    let n := u16 req 3
    if n = 0 ∨ n > 57 then pldmAnswer s1 c req 0x80 [] else f (n - 1) s1

/-- A signed 32-bit value. -/
def int32 (v : Int) : Bytes := leBytes 4 (v % 2 ^ 32).toNat

/-- GetSensorReading: a signed 32-bit reading. -/
def getSensorReading (c : MgmtConn) (req : Bytes) (n : Nat) (s : State) : State :=
  let x := s.sensor n
  let st := leBytes 1 x.state
  pldmAnswer s c req 0 ([5] ++ leBytes 1 (if x.sampled then 0 else 6) ++ leBytes 1 (if s.quartz.polling then 2 else 1) ++ st
    ++ leBytes 1 x.prev ++ st ++ int32 x.value)

/-- GetSensorReading. -/
def execGetSensorReading (c : MgmtConn) (req : Bytes) (s : State) : Host.Outcome State Fault Refusal :=
  .next (sensorIn c req s (getSensorReading c req))

/-- GetSensorThresholds: upper critical is HIGH, lower critical LOW; the others are not supported and read free values. -/
def getSensorThresholds (c : MgmtConn) (req : Bytes) (n : Nat) (s : State) : State :=
  let x := s.sensor n
  let f := s.freeBytes 16
  pldmAnswer (s.tookFree 16) c req 0 ([5] ++ slice f 0 4 ++ int32 x.high ++ slice f 4 8 ++ int32 x.low ++ slice f 12 4)

/-- GetSensorThresholds. -/
def execGetSensorThresholds (c : MgmtConn) (req : Bytes) (s : State) : Host.Outcome State Fault Refusal :=
  .next (sensorIn c req s (getSensorThresholds c req))

/-- The two's complement value of a field of `w` bits. -/
def signedOf (w v : Nat) : Int := if v < 2 ^ (w - 1) then v else (v : Int) - 2 ^ w

/-- SetSensorThresholds writes SNS_LIMIT and sets EN; a limit outside 24 bits is cut to them. -/
def setSensorThresholds (c : MgmtConn) (req : Bytes) (n : Nat) (s : State) : State :=
  let lim := fun (off : Nat) => signedOf 24 (u32 req off % 2 ^ 24)
  if u8 req 5 ≠ 5 then pldmAnswer s c req pldmInvalid []
  else pldmAnswer (s.setSensor n { s.sensor n with high := lim 10, low := lim 22, en := true }) c req 0 []

/-- SetSensorThresholds. -/
def execSetSensorThresholds (c : MgmtConn) (req : Bytes) (s : State) : Host.Outcome State Fault Refusal :=
  .next (sensorIn c req s (setSensorThresholds c req))

/-! ### Type 2: events -/

/-- SetEventReceiver: disabled or polling only. -/
def setEventReceiver (c : MgmtConn) (req : Bytes) (s : State) : State :=
  let m := u8 req 3
  if m = 0 ∨ m = 2 then pldmAnswer { s with quartz := { s.quartz with polling := m == 2 } } c req 0 []
  else pldmAnswer s c req 0x81 []

/-- SetEventReceiver. -/
def execSetEventReceiver (c : MgmtConn) (req : Bytes) (s : State) : Host.Outcome State Fault Refusal :=
  .next (mgmtIn c req s (setEventReceiver c req))

/-- EventMessageSupported: disable and polling. -/
def execEventMessageSupported (c : MgmtConn) (req : Bytes) (s : State) : Host.Outcome State Fault Refusal :=
  .next (mgmtIn c req s fun s1 =>
    pldmAnswer s1 c req 0 (leBytes 1 (if s1.quartz.polling then 2 else 0) ++ [5, 1, Config.eventClass]))

/-- The codes marked P in R460. -/
def platformVisible (code : Nat) : Bool :=
  [0x8C01, 0x8C02, 0x8C06, 0x8C07, 0x8C08, 0x8C0D, 0x8C0E, 0x8D01, 0x8D02, 0x8D05, 0x8E01, 0x8E06, 0x8E0A, 0x8E0C, 0x8E0D].contains code

/-- The next platform event: the first valid record of a visible code not acknowledged yet. -/
def nextPlatformEvent (s : State) : Option (Nat × EvEntry) :=
  let from_ := if s.quartz.nextEvent > s.recorder.head then 0 else s.quartz.nextEvent
  (s.recorder.log.find? fun e => decide (e.1 ≥ from_) && e.2.mark == 0x5A && e.2.crcGood && platformVisible e.2.entry.code).map
    fun e => (e.1, e.2.entry)

/-- The event ID of a record. -/
def eventId (i : Nat) : Nat := i % 65534 + 1

/-- A record as event data: CODE, TIME, parameters. -/
def eventData (e : EvEntry) : Bytes :=
  leBytes 2 e.code ++ leBytes 8 e.time ++ ((List.range 4).map fun k => leBytes 4 (listGet 0 e.params k)).flatten

/-- PollForPlatformEventMessage: an acknowledgement takes the event away; then the next one is offered whole. -/
def pollEvents (c : MgmtConn) (req : Bytes) (s : State) : State :=
  let ack := u16 req 9
  let s1 := match nextPlatformEvent s with
    | some (i, _) => if ack = eventId i then { s with quartz := { s.quartz with nextEvent := i + 1 } } else s
    | none => s
  match (if u8 req 4 = 2 then none else nextPlatformEvent s1) with
  | none => pldmAnswer s1 c req 0 (leBytes 1 s1.quartz.tid ++ zeros 2)
  | some (i, e) =>
    let d := eventData e
    pldmAnswer s1 c req 0 (leBytes 1 s1.quartz.tid ++ leBytes 2 (eventId i) ++ zeros 4 ++ [5, Config.eventClass] ++ leBytes 4 d.length
      ++ d ++ leBytes 4 (crc32 d))

/-- PollForPlatformEventMessage. -/
def execPollForPlatformEventMessage (c : MgmtConn) (req : Bytes) (s : State) : Host.Outcome State Fault Refusal :=
  .next (mgmtIn c req s (pollEvents c req))

/-! ### Type 5: firmware update -/

/-- Codes of a halt for which a recovery image is accepted (R315). -/
def recoveryAccepted (s : State) : Bool := s.boot.haltLoop && 5 ≤ s.pins.bootCode && s.pins.bootCode ≤ 8

/-- A firmware-update message: served by firmware, or by the halt loop on the management port (R317). -/
def fdIn (c : MgmtConn) (req : Bytes) (s : State) (f : State → State) : State :=
  if mgmtOpen s c || (recoveryAccepted s && c == .port) then f (mgmtEntry s c req) else s

/-- Move the firmware device to a state. -/
def fdTo (s : State) (st : Nat) : State :=
  { s with quartz := { s.quartz with fd := { s.quartz.fd with state := st, prev := s.quartz.fd.state } } }

/-- A request that is allowed in one state: NOT_IN_UPDATE_MODE when idle, INVALID_STATE_FOR_COMMAND elsewhere. -/
def fdState (c : MgmtConn) (req : Bytes) (st : Nat) (s : State) (f : State → State) : State :=
  fdIn c req s fun s1 =>
    if s1.quartz.fd.state = st then f s1
    else pldmAnswer s1 c req (if s1.quartz.fd.state = 0 then 0x80 else 0x84) []

/-- The decimal digits of a number. -/
def decimal (n : Nat) : Bytes := ascii (toString n)

/-- QueryDeviceIdentifiers: the PCI vendor ID. -/
def execQueryDeviceIdentifiers (c : MgmtConn) (req : Bytes) (s : State) : Host.Outcome State Fault Refusal :=
  .next (fdIn c req s fun s1 => pldmAnswer s1 c req 0 (leBytes 4 6 ++ [1] ++ zeros 2 ++ leBytes 2 2 ++ leBytes 2 Config.vendorId.toNat))

/-- GetFirmwareParameters: one component, its version BUILD in decimal; stamps, dates, methods and capabilities are free. -/
def getFirmwareParameters (c : MgmtConn) (req : Bytes) (s : State) : State :=
  let v := decimal (u64 (runningHeader s) 8)
  let p := if imgState s (otherImage s) = .staged then decimal (u64 (imgHeader s (otherImage s)) 8) else []
  let f := s.freeBytes 34
  let kinds := fun (t : Bytes) => leBytes 1 (if t = [] then 0 else 1) ++ leBytes 1 t.length
  pldmAnswer (s.tookFree 34) c req 0 (slice f 0 4 ++ leBytes 2 1 ++ kinds v ++ kinds p ++ v ++ p
    ++ leBytes 2 0x000A ++ leBytes 2 0x0940 ++ [0] ++ slice f 4 4 ++ kinds v ++ slice f 8 8 ++ slice f 16 4 ++ kinds p ++ slice f 20 8
    ++ slice f 28 2 ++ slice f 30 4 ++ v ++ p)

/-- GetFirmwareParameters. -/
def execGetFirmwareParameters (c : MgmtConn) (req : Bytes) (s : State) : Host.Outcome State Fault Refusal :=
  .next (fdIn c req s (getFirmwareParameters c req))

/-- RequestUpdate: one update at a time (R455). -/
def requestUpdate (c : MgmtConn) (req : Bytes) (s : State) : State :=
  if s.quartz.fd.state ≠ 0 then pldmAnswer s c req 0x81 []
  else pldmAnswer { s with quartz := { s.quartz with fd := { state := 1, maxPiece := u32 req 3 } } } c req 0 (zeros 3)

/-- RequestUpdate. -/
def execRequestUpdate (c : MgmtConn) (req : Bytes) (s : State) : Host.Outcome State Fault Refusal :=
  .next (fdIn c req s (requestUpdate c req))

/-- Whether a message names the one component, at an offset. -/
def ownComponent (req : Bytes) (off : Nat) : Bool := u16 req off == 0x000A && u16 req (off + 2) == 0x0940

/-- PassComponentTable: after its last part the device is ready. -/
def passComponentTable (c : MgmtConn) (req : Bytes) (s : State) : State :=
  let ok := ownComponent req 4
  let s1 := if (u8 req 3).testBit 2 then fdTo s 2 else s
  pldmAnswer s1 c req 0 (leBytes 1 (b2n (!ok)) ++ leBytes 1 (if ok then 0 else 6))

/-- PassComponentTable. -/
def execPassComponentTable (c : MgmtConn) (req : Bytes) (s : State) : Host.Outcome State Fault Refusal :=
  .next (fdState c req 1 s (passComponentTable c req))

/-- Erase an image partition; the image is INVALID (R456). -/
def eraseImage (s : State) (img : Nat) : State :=
  let lo := imgBase img
  let raw := s.nor.raw.filter fun e => decide (e.1 < lo) || decide (lo + 2 ^ 23 ≤ e.1)
  let broken := s.nor.broken.filter fun n => decide (n < lo / 4096) || decide (lo / 4096 + 2048 ≤ n)
  setImg { s with nor := { s.nor with raw := raw, broken := broken } } img .invalid

/-- Ask for the next piece: RequestFirmwareData. -/
def askPiece (s : State) (c : MgmtConn) : State :=
  let d := s.quartz.fd
  s.send (.mctp c 0x01 ([0x80, 0x05, 0x15] ++ leBytes 4 d.got ++ leBytes 4 (min d.maxPiece (d.size - d.got))))

/-- The partition an update writes: that of the image not running, or in the halt loop that of the image tried first. -/
def updateTarget (s : State) : Nat := if s.boot.haltLoop then imgFirst s else otherImage s

/-- UpdateComponent: the partition is erased first, then the pieces are asked for. -/
def updateComponent (c : MgmtConn) (req : Bytes) (s : State) : State :=
  let n := u32 req 12
  if ownComponent req 3 = false ∨ n = 0 ∨ n > 2 ^ 23 ∨ s.quartz.fd.maxPiece = 0 then
    pldmAnswer s c req 0 ([1] ++ leBytes 1 (if ownComponent req 3 then 9 else 6) ++ zeros 4 ++ s.freeBytes 2)
  else
    let x := updateTarget s
    let s1 := fdTo (eraseImage s x) 3
    let s2 := { s1 with quartz := { s1.quartz with fd := { s1.quartz.fd with img := x, size := n, got := 0, failed := false } } }
    askPiece (pldmAnswer (s2.tookFree 2) c req 0 (zeros 2 ++ leBytes 4 (u32 req 16) ++ s.freeBytes 2)) c

/-- UpdateComponent. -/
def execUpdateComponent (c : MgmtConn) (req : Bytes) (s : State) : Host.Outcome State Fault Refusal :=
  .next (fdState c req 2 s (updateComponent c req))

/-- The stored copy is checked (R456): a failed one is erased; one that passes is STAGED and extended into MR_5, or in the
halt loop stands as VALID. -/
def imageStored (s : State) (c : MgmtConn) (unreadable : Bool) : State :=
  let x := s.quartz.fd.img
  let r := verifyImage s x unreadable
  let s1 := (fdTo (countUnread (askDispatch s) unreadable) 4).send (.mctp c 0x01 ([0x80, 0x05, 0x16] ++ [0]))
  let s2 := s1.send (.mctp c 0x01 ([0x80, 0x05, 0x17] ++ leBytes 1 r))
  if r ≠ 0 then
    let s3 := eraseImage s2 x
    { s3 with quartz := { s3.quartz with fd := { s3.quartz.fd with failed := true } } }
  else
    let s3 := if s.boot.haltLoop then setImg s2 x .valid
      else
        let s4 := extendFrom (setImg s2 x .staged) 1 5 0x50 false ((imgHeader s2 x).take 4096)
        { s4 with quartz := { s4.quartz with alertStaged := true } }
    fdTo (fdTo (s3.send (.mctp c 0x01 ([0x80, 0x05, 0x18] ++ zeros 3))) 5) 2

/-- A piece arrives and is programmed; the next is asked for, or the image is complete. -/
def pieceArrived (c : MgmtConn) (req : Bytes) (unreadable : Bool) (s : State) : State :=
  let d := s.quartz.fd
  let b := ((req.drop 4).take d.maxPiece).take (d.size - d.got)
  if u8 req 3 ≠ 0 ∨ b = [] then askPiece s c
  else
    let s1 := norProgram s (imgBase d.img + d.got) b
    let s2 := { s1 with quartz := { s1.quartz with fd := { s1.quartz.fd with got := d.got + b.length } } }
    if d.got + b.length ≥ d.size then imageStored s2 c unreadable else askPiece s2 c

/-- The answer to RequestFirmwareData. -/
def execFirmwareDataReceived (c : MgmtConn) (req : Bytes) (unreadable : Bool) (s : State) : Host.Outcome State Fault Refusal :=
  .next (fdIn c req s fun s1 => if s1.quartz.fd.state = 3 then pieceArrived c req unreadable s1 else s1)

/-- ActivateFirmware: success, no time of its own, and the statement that a restart is needed. -/
def activateFirmware (c : MgmtConn) (req : Bytes) (s : State) : State :=
  pldmAnswer (fdTo (fdTo s 6) 0) c req 0 (zeros 2 ++ [1])

/-- ActivateFirmware. -/
def execActivateFirmware (c : MgmtConn) (req : Bytes) (s : State) : Host.Outcome State Fault Refusal :=
  .next (fdState c req 2 s (activateFirmware c req))

/-- GetStatus: no progress figure; the options that are enabled. -/
def getStatus (c : MgmtConn) (req : Bytes) (s : State) : State :=
  let d := s.quartz.fd
  let aux : Nat := if d.failed then 2 else if d.state ≤ 2 then 3 else 0
  pldmAnswer s c req 0 (leBytes 1 d.state ++ leBytes 1 d.prev ++ leBytes 1 aux ++ [0, 0x65, 0] ++ zeros 4)

/-- GetStatus. -/
def execGetStatus (c : MgmtConn) (req : Bytes) (s : State) : Host.Outcome State Fault Refusal :=
  .next (fdIn c req s (getStatus c req))

/-- CancelUpdate: the device is idle; an image being written stays INVALID. -/
def cancelUpdate (c : MgmtConn) (req : Bytes) (s : State) : State :=
  if s.quartz.fd.state = 0 then pldmAnswer s c req 0x80 []
  else pldmAnswer { s with quartz := { s.quartz with fd := { prev := s.quartz.fd.state } } } c req 0 (zeros 9)

/-- CancelUpdate. -/
def execCancelUpdate (c : MgmtConn) (req : Bytes) (s : State) : Host.Outcome State Fault Refusal :=
  .next (fdIn c req s (cancelUpdate c req))

/-- GetPackageData: no data (R455); not served by the halt loop (R317). -/
def execGetPackageData (c : MgmtConn) (req : Bytes) (s : State) : Host.Outcome State Fault Refusal :=
  .next (mgmtIn c req s fun s1 => pldmAnswer s1 c req 0 (zeros 4 ++ [5]))

/-- GetDeviceMetaData: no data (R455). -/
def execGetDeviceMetaData (c : MgmtConn) (req : Bytes) (s : State) : Host.Outcome State Fault Refusal :=
  .next (mgmtIn c req s fun s1 => pldmAnswer s1 c req 0 (zeros 4 ++ [5]))

end Sys2Proof.Machine
end

