-- ==== Sys2Proof/Machine/Bars.lean ====
section
/-! DEFINITION. What the host sees of a port (02 R27, R29, R34 to R38, R45, R47, R49): the link options, the identities in
configuration space, the layout of the BARs, and the word that a read at an offset returns. -/

namespace Sys2Proof.Machine

/-! ### Link options and configuration space -/

/-- The link options of R27. Rates and widths are codes and lanes of HPT_LINK_STATUS. -/
structure LinkOptions where
  ratedRates : List Nat := [4, 5, 6]
  fallbackRates : List Nat := [1, 2, 3]
  flitOnly : List Nat := [6]
  widths : List Nat := [16, 8, 4]
  laneReversal : Bool := true
  polarityInversion : Bool := true
  l0p : Bool := false
  l0s : Bool := false
  l1 : Bool := true
  l11 : Bool := true
  l12 : Bool := false
  payloadSizes : List Nat := [128, 256, 512]
  readSizes : List Nat := [128, 256, 512, 1024, 2048, 4096]
  completionBoundary : Nat := 128
  /-- Tag bits in FLIT mode and otherwise; non-posted requests outstanding per port. -/
  tagBitsFlit : Nat := 14
  tagBits : Nat := 10
  outstanding : Nat := 1024
  sriov : Bool := true
  ari : Bool := true
  maxVfs : Nat := 4095
  pasidBits : Nat := 20
  pasidOnDmaOnly : Bool := true
  executeBit : Bool := false
  privilegedBit : Bool := false
  ats : Bool := false
  pri : Bool := false
  tph : Bool := false
  ide : Bool := false
  aer : Bool := true
  ecrcNonFlit : Bool := true
  relaxedOrdering : Bool := true
  mctpVdm : Bool := true
  deriving DecidableEq, Repr

/-- The options that both ports support (R27). -/
def linkOptions : LinkOptions := {}

/-- Tag bits of the requests a port issues (R27). -/
def tagBits (s : State) (p : PortId) : Nat := if (s.port p).flit then linkOptions.tagBitsFlit else linkOptions.tagBits

/-- Whether ECRC is generated and checked on a port now (R27). -/
def ecrcOn (s : State) (p : PortId) : Bool := linkOptions.ecrcNonFlit && !(s.port p).flit

/-- The PASID sent with a binding's DMA: a PF tenant slot's (R27, R29). -/
def pasidOf (s : State) (b : BindId) : Option Nat := if b.vf ∨ b.n = 0 then none else some (s.bindOf b).pasid

/-- What configuration space shows of a function (R27, R29). Sizes are in bytes; the values are those of PCIe's fields. -/
inductive ConfigField
  | vendorId | subsystemVendorId | deviceId | revisionId | classCode | bar0Size | otherBars | msixVectors
  | totalVfs | firstVfOffset | vfStride | numVfs | busMaster | payload | readRequest | cplTimeout | msixEnable | functionMask
  deriving DecidableEq, Repr

/-- What a field of a function's configuration space reads; none where the function does not answer: no such VF, a link that is
down, PERST. Function 0 is PF0. -/
def configRead (s : State) (p : PortId) (f : Nat) (x : ConfigField) : Option Nat :=
  let h := s.port p
  let e := s.fn p f
  if s.mode = .dormant ∨ h.perst ∨ h.dlUp = false ∨ f > h.numVfs then none
  else some (match x with
    | .vendorId | .subsystemVendorId => Config.vendorId.toNat
    | .deviceId => if f = 0 then 0x0940 else 0x0941
    | .revisionId => 0xA1
    | .classCode => 0x108000
    | .bar0Size => if f = 0 then 32 * 2 ^ 20 else 64 * 2 ^ 10
    | .otherBars => 0
    | .msixVectors => if f = 0 then 2048 else 64
    | .totalVfs => if f = 0 then 4095 else 0
    | .firstVfOffset => if f = 0 then 1 else 0
    | .vfStride => if f = 0 then 1 else 0
    | .numVfs => if f = 0 then h.numVfs else 0
    | .busMaster => b2n e.bme
    | .payload => maxPayload s p
    | .readRequest => maxRead s p
    | .cplTimeout => e.cplValue
    | .msixEnable => b2n e.msixEnable
    | .functionMask => b2n e.funcMask)

/-- A write of Device Control (R27, R41): Max Payload Size in bits 7:5, Max Read Request Size in bits 14:12; a size that is not
supported leaves the field (PRESUMED: the layout of the PCIe Base Specification, assumption 163). -/
def devControl (s : State) (p : PortId) (f v : Nat) : State :=
  let e := s.fn p f
  s.setFn p f { e with mps := if field v 7 5 ≤ 2 then field v 7 5 else e.mps, mrrs := if field v 14 12 ≤ 5 then field v 14 12 else e.mrrs }

/-- A write of Device Control 2 (R44): the Completion Timeout Value in bits 3:0, of ranges A to D or the default; another value
leaves it (PRESUMED, assumption 163). -/
def devControl2 (s : State) (p : PortId) (f v : Nat) : State :=
  let c := field v 3 0
  if [0, 1, 2, 5, 6, 9, 10, 13, 14].contains c then s.setFn p f { s.fn p f with cplValue := c } else s

/-! ### The layout of the BARs -/

/-- What an offset of a BAR0 names. -/
inductive BarPart
  | control (off : Nat)
  | mailbox (b : BindId) (off : Nat)
  | doorbell (b : BindId) (off : Nat)
  | table (fn off : Nat)
  | pba (fn off : Nat)
  | reserved
  deriving DecidableEq, Repr

/-- PF BAR0 (R34, R36). -/
def pfPart (p : PortId) (off : Nat) : BarPart :=
  if off < 0xF0000 then .control off
  else if off < 0xF8000 then .table 0 (off - 0xF0000)
  else if off < 0x100000 then .pba 0 (off - 0xF8000)
  else if off < 0x900000 then .mailbox { port := p, vf := false, n := (off - 0x100000) / 0x1000 } (off % 0x1000)
  else if off < 0x1000000 then .reserved
  else if off < 0x2000000 then .doorbell { port := p, vf := false, n := (off - 0x1000000) / 0x2000 } (off % 0x2000)
  else .reserved

/-- VF BAR0 (R35). -/
def vfPart (p : PortId) (k off : Nat) : BarPart :=
  if off < 0x1000 then .mailbox { port := p, vf := true, n := k } off
  else if off < 0x3000 then .doorbell { port := p, vf := true, n := k } (off - 0x1000)
  else if off < 0x8000 then .reserved
  else if off < 0x8400 then .table k (off - 0x8000)
  else if 0x9000 ≤ off ∧ off < 0x9008 then .pba k (off - 0x9000)
  else .reserved

/-- BAR0 of a function of a port. -/
def barPart (p : PortId) (f off : Nat) : BarPart := if f = 0 then pfPart p off else vfPart p f off

/-! ### Reads -/

/-- The part of a 64-bit word that an aligned access of `size` bytes at an offset reads. -/
def wordPart (w off size : Nat) : Nat := w / 2 ^ (8 * (off % 8)) % 2 ^ (8 * size)

/-- A register of a mailbox page (R47): the fields that can be read; WO fields read 0. -/
def mbxWord (s : State) (b : BindId) (off : Nat) : Nat :=
  let m := s.mbx b
  if off = 0 then place 47 32 m.oplen + place 31 16 m.tag + place 15 0 m.code
  else if off = 8 then place 2 2 (b2n m.irqEn)
  else if off = 0x10 then mbxStatus m
  else if off = 0x18 then place 31 0 m.doneCount
  else if off = 0x20 then mbxInfo s b
  else if off = 0x28 then place 2 2 (b2n m.writeWhileBusy) + place 1 1 (b2n m.goNotIdle) + place 0 0 (b2n m.ackNotDone)
  else 0

/-- A byte of a mailbox's operand or result area (R47, R49): the result area holds the result in DONE, and reads 0 beyond
RESLEN and in IDLE and BUSY. -/
def areaByte (m : Mailbox) (off : Nat) : Nat :=
  if 0x100 ≤ off ∧ off < 0x900 then (m.opArea.get 0 (off - 0x100)).toNat
  else if 0x900 ≤ off ∧ off < 0x1000 ∧ m.state = .done then u8 m.result (off - 0x900)
  else 0

/-- The bytes at consecutive offsets, as a little-endian number. -/
def bytesAt (f : Nat → Nat) (off size : Nat) : Nat := (List.range size).foldl (fun a i => a + f (off + i) * 2 ^ (8 * i)) 0

/-- A read of a mailbox page: 0 where no mailbox answers (R30, R36). The operand and result areas take reads of any size
(DESIGN CHOICE, assumption 167). -/
def mbxRead (s : State) (b : BindId) (off size : Nat) : Nat :=
  if bindLive s b = false then 0
  else if off < 0x100 then (if aligned off size then wordPart (mbxWord s b (off / 8 * 8)) off size else 0)
  else bytesAt (areaByte (s.mbx b)) off size

/-- A dword of a function's MSI-X table (PRESUMED: PCIe): address, data, and the mask bit. -/
def tableWord (e : FuncState) (vectors off : Nat) : Nat :=
  if off / 16 ≥ vectors then 0
  else if off % 16 / 4 = 3 then b2n !(e.unmasked.contains (off / 16))
  else e.table.get 0 (off / 4)

/-- 64 bits of a function's PBA. -/
def pbaWord (e : FuncState) (off : Nat) : Nat :=
  (List.range 64).foldl (fun a i => a + b2n (e.pba.contains (off / 8 * 64 + i)) * 2 ^ i) 0

/-- Whether a control-block offset holds a listed register; the rest is reserved BAR space (R36). -/
def regListed (a : Nat) : Bool :=
  a < 0x20000 || allRegs.any fun d =>
    decide (d.addr ≤ a ∧ (if d.count = 1 then a = d.addr else (a - d.addr) % d.stride = 0 ∧ (a - d.addr) / d.stride < d.count))

/-- What a read of BAR0 of a function returns (R34 to R38, R45); none where the function does not answer. A read of a control
block or a doorbell of another size than an aligned 4 or 8 bytes returns 0 (R38). The side effect of RNG_RAW has a row of
its own. -/
def barRead (s : State) (p : PortId) (f off size : Nat) : Option Nat :=
  let h := s.port p
  let vectors := if f = 0 then 2048 else 64
  if s.mode = .dormant ∨ h.perst ∨ h.dlUp = false ∨ f > h.numVfs then none
  else some (match barPart p f off with
    | .control a => if aligned a size && regListed (a / 8 * 8) then wordPart (readDev s (p == .b) (a / 8 * 8)) a size else 0
    | .mailbox b o => mbxRead s b o size
    | .doorbell _ _ => 0
    | .table k o =>
      if aligned o size then tableWord (s.fn p k) vectors o + (if size = 8 then tableWord (s.fn p k) vectors (o + 4) * 2 ^ 32 else 0)
      else 0
    | .pba k o => if aligned o size then wordPart (pbaWord (s.fn p k) o) o size else 0
    | .reserved => 0)

end Sys2Proof.Machine
end

