-- ==== Sys2Proof/Machine/Registers.lean ====
section
/-! DEFINITION. Host writes to registers (00 R5, R6, 02 R34 to R38, 03 R83, 10 R276): the rows of SCH_CTRL and CLR_CTRL, and
the write to any register that has no row of its own. -/

namespace Sys2Proof.Machine

/-! ### SCH_CTRL and CLR_CTRL -/

/-- A write of CLR_STATS clears the counters and MAX_LAT of SCH_DMD_STAT (R83). -/
def schClrStats (s0 : State) : State :=
  let s := regEntry s0 R.SCH_CTRL 2
  s.setRegField R.SCH_DMD_STAT 63 8 0

/-- SCH_CTRL.CLR_STATS. -/
def execSchClrStats (s : State) : Host.Outcome State Fault Refusal := .next (if s.mode = .dormant then s else schClrStats s)

/-- A lock bit is set: it stays set until cold reset, and is extended into the measurements (R140, R276). -/
def setLock (s0 : State) (a : Nat) : State :=
  let s := regEntry s0 a 1
  if (s.reg a).testBit 0 then s else extendLock (s.setReg a 1)

/-- SCH_CTRL.LOCK. -/
def execSchLock (s : State) : Host.Outcome State Fault Refusal := .next (if s.mode = .dormant then s else setLock s R.SCH_CTRL)

/-- CLR_CTRL.LOCK. -/
def execClrLock (s : State) : Host.Outcome State Fault Refusal := .next (if s.mode = .dormant then s else setLock s R.CLR_CTRL)

/-! ### The control-block region -/

/-- The register at an 8-byte aligned offset of the region. -/
def regAt (a : Nat) : Option RegDef :=
  allRegs.find? fun d => decide (d.addr ≤ a ∧ (if d.count = 1 then a = d.addr else (a - d.addr) % d.stride = 0 ∧ (a - d.addr) / d.stride < d.count))

/-- Registers whose writes have rows of their own. -/
def ownRow (a size : Nat) : Bool :=
  let w := a / 8 * 8
  [R.RNG_TEST, R.TMP_MESH_CFG, R.TMP_IN_CFG, R.AMB_CTRL, R.SCH_CTRL, R.CLR_CTRL, R.DGT_MR_SEL].contains w
    || (w == R.AMB_CFG && (size == 8 || a == R.AMB_CFG))

/-- Whether the RWL fields of a register are locked (R5): the class weights by SCH_CTRL.LOCK, the owner's colour rules by
CLR_CTRL.LOCK, the ROM's always (R276), the test patterns outside FACTORY (R251). -/
def regLocked (s : State) (a : Nat) : Bool :=
  if a = R.SCH_CLASS_WEIGHT then (s.reg R.SCH_CTRL).testBit 0
  else if 0x70100 ≤ a ∧ a < 0x70200 then true
  else if 0x70200 ≤ a ∧ a < 0x70500 then (s.reg R.CLR_CTRL).testBit 0
  else if R.RNG_PATTERN_k ≤ a ∧ a < R.RNG_PATTERN_k + 48 then s.lcs.state != 1
  else false

/-- A word after a write to one of its fields, of the byte lanes that the access covers, by its access code (R5). -/
def fieldWrite (lane : Nat) (locked : Bool) (v : Nat) (w : Nat) (f : RegField) : Nat :=
  let m := (2 ^ (f.msb + 1) - 2 ^ f.lsb) &&& lane
  let taken := (w - (w &&& m)) + (v &&& m)
  match f.acc with
  | .rw | .rws => taken
  | .rwl => if locked then w else taken
  | .rw1c => w - (w &&& v &&& m)
  | .ro | .wo => w

/-- The word that a write to a register starts from: a register that shows other state in fields a write changes is read,
the others are the words held. -/
def writeBase (s : State) (portB : Bool) (a : Nat) : Nat :=
  if a < 0x8000 ∨ [R.QTZ_ALERT, R.SNS_LIMIT, R.SWL_FRAME_COUNT, R.SWL_FEC_COUNT, R.WRD_BLOCK_COUNT].contains a then readDev s portB a
  else s.reg a

/-- The state with a register's new word, in the place that holds its fields. -/
def loadReg (s : State) (p : PortId) (a w : Nat) : State :=
  let h := s.port p
  let q := s.quartz
  let x := s.sensor (s.reg R.SNS_SEL)
  let k := s.link (s.reg R.SWL_SEL)
  let wd := s.ward (s.reg R.WRD_SEL)
  if a = R.HPT_LINK_STATUS then s.setPort p { h with retrainCount := field w 31 24 }
  else if a = R.HPT_ERR_STATUS then s.setPort p { h with errStatus := BitVec.ofNat 10 w }
  else if a = R.QTZ_ALERT then
    { s with quartz := { q with alertStaged := w.testBit 5, alertWatchdog := w.testBit 1, alertSensor := w.testBit 0 } }
  else if a = R.SNS_LIMIT then
    if s.reg R.SNS_SEL > 56 then s
    else s.setSensor (s.reg R.SNS_SEL)
      { x with high := signedOf 24 (field w 63 40), low := signedOf 24 (field w 39 16), en := w.testBit 0 }
  else if a = R.SWL_FRAME_COUNT then
    s.setLink (s.reg R.SWL_SEL) { k with bad := field w 63 32, refused := field w 31 16, handedBack := field w 15 0 }
  else if a = R.SWL_FEC_COUNT then
    s.setLink (s.reg R.SWL_SEL) { k with fecCorrected := field w 63 32, fecUncorrectable := field w 31 0 }
  else if a = R.WRD_BLOCK_COUNT then s.setWard (s.reg R.WRD_SEL) { wd with other := field w 63 32, modify := field w 31 0 }
  else s.setReg a w

/-- A write of 4 or 8 bytes to an aligned offset of the control-block region (R5, R36). -/
def regWrite (s : State) (p : PortId) (off size v : Nat) : State :=
  let a := off / 8 * 8
  match regAt a with
  | none => s
  | some d =>
    let lane := if size = 8 then 2 ^ 64 - 1 else if off % 8 = 0 then 2 ^ 32 - 1 else 2 ^ 64 - 2 ^ 32
    let v' := if off % 8 = 0 then v % 2 ^ (8 * size) else v % 2 ^ 32 * 2 ^ 32
    loadReg s p a (d.fields.foldl (fieldWrite lane (regLocked s a) v') (writeBase s (p == .b) a))

/-! ### MSI-X (R46) -/

/-- The pending messages of a function that are no longer masked are sent. -/
def sendPending (s : State) (p : PortId) (f : Nat) : State :=
  let e := s.fn p f
  if e.msixEnable = false ∨ e.funcMask then s
  else
    let go := e.pba.filter e.unmasked.contains
    go.foldl (fun t v => t.send (.msix p f v)) (s.setFn p f { e with pba := e.pba.filter fun v => !e.unmasked.contains v })

/-- MSI-X Message Control: MSI-X Enable, bit 15, and Function Mask, bit 14 (PRESUMED: PCIe). -/
def msixControl (s : State) (p : PortId) (f v : Nat) : State :=
  sendPending (s.setFn p f { s.fn p f with msixEnable := v.testBit 15, funcMask := v.testBit 14 }) p f

/-- A dword of the MSI-X table: an address or data dword is held; the mask bit of the vector control dword masks the vector
(PRESUMED: PCIe). Clearing the mask bit is the row MSIX_UNMASK. -/
def tableDword (s : State) (p : PortId) (f off v : Nat) : State :=
  let e := s.fn p f
  if off / 16 ≥ (if f = 0 then 2048 else 64) then s
  else if off % 16 = 12 then
    if v.testBit 0 then s.setFn p f { e with unmasked := e.unmasked.filter (· != off / 16) } else s
  else s.setFn p f { e with table := e.table.put 0 (off / 4) (v % 2 ^ 32) }

/-- A write to the MSI-X table. -/
def tableWrite (s : State) (p : PortId) (f off size v : Nat) : State :=
  let s1 := tableDword s p f off (v % 2 ^ 32)
  if size = 8 then tableDword s1 p f (off + 4) (v / 2 ^ 32 % 2 ^ 32) else s1

/-! ### Mailbox pages -/

/-- A write to a register of a mailbox page: MBX_CTRL takes IRQ_EN, MBX_PROTO clears where 1 is written (R47). -/
def pageWrite (s : State) (b : BindId) (off v : Nat) : State :=
  let m := s.mbx b
  if off = 8 then setIrq s b (v.testBit 2)
  else if off = 0x28 then
    s.setMbx b { m with writeWhileBusy := m.writeWhileBusy && !v.testBit 2, goNotIdle := m.goNotIdle && !v.testBit 1,
                        ackNotDone := m.ackNotDone && !v.testBit 0 }
  else s

/-- A 64-bit write to a doorbell pair: the submission write followed by the completion write (R45). A 32-bit doorbell write has
a row of its own. -/
def doorbellWrite (s : State) (b : BindId) (off size v : Nat) : State :=
  if aligned off size = false then sizeError s b
  else if size ≠ 8 then s
  else cqHead (sqTail s b (off / 8) (v % 2 ^ 32)) b (off / 8) (v / 2 ^ 32 % 2 ^ 32)

/-- A write to the control-block region of a port's PF0 (R36, R38); a bad size or alignment is ignored and counted. -/
def controlWrite (s : State) (p : PortId) (off size v : Nat) : State :=
  if aligned off size = false then setErr s p errSize 0
  else if off < 0xF0000 then
    (if ownRow off size = true then s else regWrite (crossing (mmio s p 0 off size (v % 2 ^ (8 * size))) 0x01 0 p.num 1) p off size v)
  else if off < 0xF8000 then tableWrite s p 0 (off - 0xF0000) size v
  else s

/-- A write to a mailbox page (R38, R47): MBX_CMD, GO, ACK, ABORT and the operand area have rows of their own. -/
def mailboxWrite (s : State) (b : BindId) (off size v : Nat) : State :=
  if 0x100 ≤ off ∧ off < 0x900 then s
  else if aligned off size = false then sizeError s b
  else if off < 8 ∨ off ≥ 0x100 ∨ bindLive s b = false ∨ (off = 8 ∧ (v.testBit 0 ∨ v.testBit 1 ∨ v.testBit 3)) then s
  else pageWrite (mmio s b.port b.func off size (v % 2 ^ (8 * size))) b off v

/-- A write at an offset of a function's BAR0, to what the layout names there (R34 to R36, R38). -/
def barWrite (s : State) (p : PortId) (f off size v : Nat) : State :=
  if f > (s.port p).numVfs then s
  else match barPart p f off with
  | .control a => controlWrite s p a size v
  | .mailbox b o => mailboxWrite s b o size v
  | .doorbell b o => doorbellWrite s b o size v
  | .table k o => if aligned o size = false then setErr s p errSize k else tableWrite s p k o size v
  | .pba k o => if aligned o size = false then setErr s p errSize k else s
  | .reserved => if aligned off size = false then setErr s p errSize f else s

/-- A host write to a register without a row of its own (R5), or to configuration space. -/
def registerWrite (t : RegTarget) (off size v : Nat) (s : State) : State :=
  if s.mode = .dormant then s
  else match t with
  | .control p => controlWrite s p off size v
  | .mailbox b => mailboxWrite s b off size v
  | .doorbell b => doorbellWrite s b off size v
  | .msixTable p f => if aligned off size = false then setErr s p errSize f else tableWrite s p f off size v
  | .bar p f => barWrite s p f off size v
  | .msixControl p f => msixControl s p f v
  | .devControl p f => devControl s p f v
  | .devControl2 p f => devControl2 s p f v

/-- A write to any register without a row of its own. -/
def execRegisterWrite (t : RegTarget) (off size v : Nat) (s : State) : Host.Outcome State Fault Refusal :=
  .next (stagingCheck (registerWrite t off size v s))

end Sys2Proof.Machine
end

