-- ==== Sys2Proof/Machine/Dispatch.lean ====
section
/-! DEFINITION. The dispatch: one arm for each command, a direct call of its meaning. -/

namespace Sys2Proof.Machine

/-- The effect of a command on everything but the queue of waiting commands. -/
def exec (i : Instr) (s : State) : Host.Outcome State Fault Refusal :=
  match i with
  | .mbxCmdWrite b off bs => Sys2Proof.Machine.execMbxCmdWrite b off bs s
  | .mbxGo b ack abort irqEn => Sys2Proof.Machine.execMbxGo b ack abort irqEn s
  | .mbxAck b abort irqEn => Sys2Proof.Machine.execMbxAck b abort irqEn s
  | .mbxAbort b irqEn => Sys2Proof.Machine.execMbxAbort b irqEn s
  | .abortPointReached o => Sys2Proof.Machine.execAbortPointReached o s
  | .cmdUnknown o => Sys2Proof.Machine.execCmdUnknown o s
  | .sqTailDoorbell b q v => Sys2Proof.Machine.execSqTailDoorbell b q v s
  | .cqHeadDoorbell b q v => Sys2Proof.Machine.execCqHeadDoorbell b q v s
  | .sqEntryFetch qpn r => Sys2Proof.Machine.execSqEntryFetch qpn r s
  | .spoofLimitReached t => Sys2Proof.Machine.execSpoofLimitReached t s
  | .schedJobStart o => Sys2Proof.Machine.execSchedJobStart o s
  | .tenantBucketRefill t us => Sys2Proof.Machine.execTenantBucketRefill t us s
  | .coalTimeExpire qpn => Sys2Proof.Machine.execCoalTimeExpire qpn s
  | .msixUnmask p fn vec => Sys2Proof.Machine.execMsixUnmask p fn vec s
  | .hostDmaReadCompletion o r => Sys2Proof.Machine.execHostDmaReadCompletion o r s
  | .cplTimeout o => Sys2Proof.Machine.execCplTimeout o s
  | .orderingReadCompletion o ok => Sys2Proof.Machine.execOrderingReadCompletion o ok s
  | .pcieLinkUp p rate width flit => Sys2Proof.Machine.execPcieLinkUp p rate width flit s
  | .pcieLinkDown p => Sys2Proof.Machine.execPcieLinkDown p s
  | .flr p fn => Sys2Proof.Machine.execFlr p fn s
  | .perstAssert p => Sys2Proof.Machine.execPerstAssert p s
  | .perstDeassert p => Sys2Proof.Machine.execPerstDeassert p s
  | .bmeClear p fn => Sys2Proof.Machine.execBmeClear p fn s
  | .tenantCreate o => Sys2Proof.Machine.execTenantCreate o s
  | .tenantSetGrant o => Sys2Proof.Machine.execTenantSetGrant o s
  | .tenantBind o => Sys2Proof.Machine.execTenantBind o s
  | .tenantUnbind o => Sys2Proof.Machine.execTenantUnbind o s
  | .tenantQuiesce o => Sys2Proof.Machine.execTenantQuiesce o s
  | .tenantQuiesced t => Sys2Proof.Machine.execTenantQuiesced t s
  | .tenantEnable o => Sys2Proof.Machine.execTenantEnable o s
  | .tenantReset o => Sys2Proof.Machine.execTenantReset o s
  | .tenantDestroy o => Sys2Proof.Machine.execTenantDestroy o s
  | .tombstoneRetry t => Sys2Proof.Machine.execTombstoneRetry t s
  | .tenantInfo o => Sys2Proof.Machine.execTenantInfo o s
  | .policyQuery o => Sys2Proof.Machine.execPolicyQuery o s
  | .qpCreate o => Sys2Proof.Machine.execQpCreate o s
  | .qpDelete o => Sys2Proof.Machine.execQpDelete o s
  | .keyGenerate o => Sys2Proof.Machine.execKeyGenerate o s
  | .keyDerive o => Sys2Proof.Machine.execKeyDerive o s
  | .keyWrap o => Sys2Proof.Machine.execKeyWrap o s
  | .keyUnwrap o => Sys2Proof.Machine.execKeyUnwrap o s
  | .keyImportPublic o => Sys2Proof.Machine.execKeyImportPublic o s
  | .keyProve o => Sys2Proof.Machine.execKeyProve o s
  | .keyCommit o => Sys2Proof.Machine.execKeyCommit o s
  | .keyDiscard o => Sys2Proof.Machine.execKeyDiscard o s
  | .keyDestroy o => Sys2Proof.Machine.execKeyDestroy o s
  | .keyAttrRead o => Sys2Proof.Machine.execKeyAttrRead o s
  | .keyAttrSet o => Sys2Proof.Machine.execKeyAttrSet o s
  | .keyPublic o => Sys2Proof.Machine.execKeyPublic o s
  | .engineRevokeStop o => Sys2Proof.Machine.execEngineRevokeStop o s
  | .agateTreeCreate o => Sys2Proof.Machine.execAgateTreeCreate o s
  | .agateLoad o => Sys2Proof.Machine.execAgateLoad o s
  | .agateExport o => Sys2Proof.Machine.execAgateExport o s
  | .shredStage o => Sys2Proof.Machine.execShredStage o s
  | .shredCommit o => Sys2Proof.Machine.execShredCommit o s
  | .anchorStatus o => Sys2Proof.Machine.execAnchorStatus o s
  | .anchorProgramDone ok => Sys2Proof.Machine.execAnchorProgramDone ok s
  | .journalTokenRefill => Sys2Proof.Machine.execJournalTokenRefill s
  | .journalCarryForward eraseOk => Sys2Proof.Machine.execJournalCarryForward eraseOk s
  | .seal o => Sys2Proof.Machine.execSeal o s
  | .recall o => Sys2Proof.Machine.execRecall o s
  | .verify o => Sys2Proof.Machine.execVerify o s
  | .digestOnly o => Sys2Proof.Machine.execDigestOnly o s
  | .sealEngineJobDone o => Sys2Proof.Machine.execSealEngineJobDone o s
  | .reservedSlicePark n => Sys2Proof.Machine.execReservedSlicePark n s
  | .parkedJobResume n => Sys2Proof.Machine.execParkedJobResume n s
  | .engineAttemptFail n cause => Sys2Proof.Machine.execEngineAttemptFail n cause s
  | .sealEngineWatchdog n => Sys2Proof.Machine.execSealEngineWatchdog n s
  | .engineDrained n => Sys2Proof.Machine.execEngineDrained n s
  | .engineTestDone n failed => Sys2Proof.Machine.execEngineTestDone n failed s
  | .engineReadmit o => Sys2Proof.Machine.execEngineReadmit o s
  | .engineQuarantine o => Sys2Proof.Machine.execEngineQuarantine o s
  | .manifestOpen o => Sys2Proof.Machine.execManifestOpen o s
  | .manifestClose o => Sys2Proof.Machine.execManifestClose o s
  | .manifestHeaderForm h => Sys2Proof.Machine.execManifestHeaderForm h s
  | .digestMac o => Sys2Proof.Machine.execDigestMac o s
  | .digestJobDone o => Sys2Proof.Machine.execDigestJobDone o s
  | .digestShort w => Sys2Proof.Machine.execDigestShort w s
  | .dguContextYield o => Sys2Proof.Machine.execDguContextYield o s
  | .measRead o => Sys2Proof.Machine.execMeasRead o s
  | .measExtend o => Sys2Proof.Machine.execMeasExtend o s
  | .measLogRead o => Sys2Proof.Machine.execMeasLogRead o s
  | .dgtMrSelWrite v => Sys2Proof.Machine.execDgtMrSelWrite v s
  | .sign o => Sys2Proof.Machine.execSign o s
  | .sigVerify o => Sys2Proof.Machine.execSigVerify o s
  | .deriveShared o => Sys2Proof.Machine.execDeriveShared o s
  | .encaps o => Sys2Proof.Machine.execEncaps o s
  | .decaps o => Sys2Proof.Machine.execDecaps o s
  | .arithJobDone o r => Sys2Proof.Machine.execArithJobDone o r s
  | .invStrikesClear n => Sys2Proof.Machine.execInvStrikesClear n s
  | .arithEngineFault n cause => Sys2Proof.Machine.execArithEngineFault n cause s
  | .arithWatchdog n => Sys2Proof.Machine.execArithWatchdog n s
  | .ariTestDone n failed => Sys2Proof.Machine.execAriTestDone n failed s
  | .ariDrained n => Sys2Proof.Machine.execAriDrained n s
  | .ariReadmit o => Sys2Proof.Machine.execAriReadmit o s
  | .ariQuarantine o => Sys2Proof.Machine.execAriQuarantine o s
  | .rngGenerate o => Sys2Proof.Machine.execRngGenerate o s
  | .conditionerBlock raw => Sys2Proof.Machine.execConditionerBlock raw s
  | .rngStarvedTimeout o => Sys2Proof.Machine.execRngStarvedTimeout o s
  | .noiseStartupTestDone n samples => Sys2Proof.Machine.execNoiseStartupTestDone n samples s
  | .noiseSourceFail n samples => Sys2Proof.Machine.execNoiseSourceFail n samples s
  | .noiseSourceRetest n samples => Sys2Proof.Machine.execNoiseSourceRetest n samples s
  | .rngTestWrite v => Sys2Proof.Machine.execRngTestWrite v s
  | .rngRawRead samples => Sys2Proof.Machine.execRngRawRead samples s
  | .pwrHush o => Sys2Proof.Machine.execPwrHush o s
  | .hushConditionMet o => Sys2Proof.Machine.execHushConditionMet o s
  | .hushWaitExpire o => Sys2Proof.Machine.execHushWaitExpire o s
  | .autoHushTimer => Sys2Proof.Machine.execAutoHushTimer s
  | .pwrDormant o => Sys2Proof.Machine.execPwrDormant o s
  | .doneTimeout => Sys2Proof.Machine.execDoneTimeout s
  | .pwrImageRestore o => Sys2Proof.Machine.execPwrImageRestore o s
  | .pwrImageDiscard o => Sys2Proof.Machine.execPwrImageDiscard o s
  | .wakeInAssert => Sys2Proof.Machine.execWakeInAssert s
  | .rtcAlarm => Sys2Proof.Machine.execRtcAlarm s
  | .i3cWakeCommand => Sys2Proof.Machine.execI3cWakeCommand s
  | .powerGood inp => Sys2Proof.Machine.execPowerGood inp s
  | .startupEntropyTimeout => Sys2Proof.Machine.execStartupEntropyTimeout s
  | .vddCoreLoss => Sys2Proof.Machine.execVddCoreLoss s
  | .vddAonLoss vbat => Sys2Proof.Machine.execVddAonLoss vbat s
  | .vbatSaltClear => Sys2Proof.Machine.execVbatSaltClear s
  | .vbatLow mv => Sys2Proof.Machine.execVbatLow mv s
  | .xtalFail => Sys2Proof.Machine.execXtalFail s
  | .lcsChallenge o => Sys2Proof.Machine.execLcsChallenge o s
  | .challengeExpire => Sys2Proof.Machine.execChallengeExpire s
  | .lcsTransition o vhold cells => Sys2Proof.Machine.execLcsTransition o vhold cells s
  | .dbgChallenge => Sys2Proof.Machine.execDbgChallenge s
  | .dbgToken t => Sys2Proof.Machine.execDbgToken t s
  | .meshAlarm => Sys2Proof.Machine.execMeshAlarm s
  | .tloopAlarm k => Sys2Proof.Machine.execTloopAlarm k s
  | .envAlarm bit => Sys2Proof.Machine.execEnvAlarm bit s
  | .clockAlarm island => Sys2Proof.Machine.execClockAlarm island s
  | .tampInAssert n => Sys2Proof.Machine.execTampInAssert n s
  | .tmpZeroise o => Sys2Proof.Machine.execTmpZeroise o s
  | .tmpMeshCfgWrite v => Sys2Proof.Machine.execTmpMeshCfgWrite v s
  | .tmpInCfgWrite v => Sys2Proof.Machine.execTmpInCfgWrite v s
  | .thermtripAssert => Sys2Proof.Machine.execThermtripAssert s
  | .wpgRise w => Sys2Proof.Machine.execWpgRise w s
  | .wpgFall w => Sys2Proof.Machine.execWpgFall w s
  | .wardSettleDone w => Sys2Proof.Machine.execWardSettleDone w s
  | .wardVerifyDone w sfdp contents => Sys2Proof.Machine.execWardVerifyDone w sfdp contents s
  | .wardRecoveryDone w golden ok => Sys2Proof.Machine.execWardRecoveryDone w golden ok s
  | .wardFlashTimeout w => Sys2Proof.Machine.execWardFlashTimeout w s
  | .wardSpiCommand w op addr len bs => Sys2Proof.Machine.execWardSpiCommand w op addr len bs s
  | .wardManifestSet o => Sys2Proof.Machine.execWardManifestSet o s
  | .wardVerify o => Sys2Proof.Machine.execWardVerify o s
  | .wardRecover o => Sys2Proof.Machine.execWardRecover o s
  | .wardHold o => Sys2Proof.Machine.execWardHold o s
  | .wardAux o => Sys2Proof.Machine.execWardAux o s
  | .wardInfo o => Sys2Proof.Machine.execWardInfo o s
  | .cardInsert n => Sys2Proof.Machine.execCardInsert n s
  | .cardRemove n => Sys2Proof.Machine.execCardRemove n s
  | .cardResponse bus r => Sys2Proof.Machine.execCardResponse bus r s
  | .cardBusyEnd bus => Sys2Proof.Machine.execCardBusyEnd bus s
  | .socketIdleOff n => Sys2Proof.Machine.execSocketIdleOff n s
  | .unlockDelay n => Sys2Proof.Machine.execUnlockDelay n s
  | .tknScan o => Sys2Proof.Machine.execTknScan o s
  | .ceremonyBegin o => Sys2Proof.Machine.execCeremonyBegin o s
  | .ceremonyPresent o => Sys2Proof.Machine.execCeremonyPresent o s
  | .ceremonyEnrol o => Sys2Proof.Machine.execCeremonyEnrol o s
  | .ceremonyStatus o => Sys2Proof.Machine.execCeremonyStatus o s
  | .ceremonyEnd o => Sys2Proof.Machine.execCeremonyEnd o s
  | .ceremonyExpire => Sys2Proof.Machine.execCeremonyExpire s
  | .cardForceErase o => Sys2Proof.Machine.execCardForceErase o s
  | .escrowStore o => Sys2Proof.Machine.execEscrowStore o s
  | .escrowFetch o => Sys2Proof.Machine.execEscrowFetch o s
  | .swlSignalDetect l => Sys2Proof.Machine.execSwlSignalDetect l s
  | .swlTrainingDone l => Sys2Proof.Machine.execSwlTrainingDone l s
  | .swlTrainingTimeout l => Sys2Proof.Machine.execSwlTrainingTimeout l s
  | .swlBeaconTimer => Sys2Proof.Machine.execSwlBeaconTimer s
  | .beacon l f => Sys2Proof.Machine.execBeacon l f s
  | .hs l f => Sys2Proof.Machine.execHs l f s
  | .swlHsTimeout l => Sys2Proof.Machine.execSwlHsTimeout l s
  | .swlHsRetry l => Sys2Proof.Machine.execSwlHsRetry l s
  | .swlRenewal l => Sys2Proof.Machine.execSwlRenewal l s
  | .swlOldKeyExpire l => Sys2Proof.Machine.execSwlOldKeyExpire l s
  | .rate l f => Sys2Proof.Machine.execRate l f s
  | .kaBeacon l f => Sys2Proof.Machine.execKaBeacon l f s
  | .wake l f => Sys2Proof.Machine.execWake l f s
  | .dormantNotice l f => Sys2Proof.Machine.execDormantNotice l f s
  | .unreach l f => Sys2Proof.Machine.execUnreach l f s
  | .swlSignalLoss l => Sys2Proof.Machine.execSwlSignalLoss l s
  | .swlSessionTimeout l => Sys2Proof.Machine.execSwlSessionTimeout l s
  | .swlPartnerRestart l => Sys2Proof.Machine.execSwlPartnerRestart l s
  | .swlQuarantineRetrain l => Sys2Proof.Machine.execSwlQuarantineRetrain l s
  | .swlLinkCtrl o => Sys2Proof.Machine.execSwlLinkCtrl o s
  | .swlLinkInfo o => Sys2Proof.Machine.execSwlLinkInfo o s
  | .lsaTimer => Sys2Proof.Machine.execLsaTimer s
  | .lsa l f => Sys2Proof.Machine.execLsa l f s
  | .lsaExpire id => Sys2Proof.Machine.execLsaExpire id s
  | .addrOwned => Sys2Proof.Machine.execAddrOwned s
  | .isolationEnter => Sys2Proof.Machine.execIsolationEnter s
  | .hold l f => Sys2Proof.Machine.execHold l f s
  | .holdDrop l f => Sys2Proof.Machine.execHoldDrop l f s
  | .stageNotice l f => Sys2Proof.Machine.execStageNotice l f s
  | .stageAck l f => Sys2Proof.Machine.execStageAck l f s
  | .stageNoticeTimeout tag => Sys2Proof.Machine.execStageNoticeTimeout tag s
  | .anchorPush l f => Sys2Proof.Machine.execAnchorPush l f s
  | .rootPush l f => Sys2Proof.Machine.execRootPush l f s
  | .rootDrop l f => Sys2Proof.Machine.execRootDrop l f s
  | .lateNak l f => Sys2Proof.Machine.execLateNak l f s
  | .rootFetch l f => Sys2Proof.Machine.execRootFetch l f s
  | .rootData l f => Sys2Proof.Machine.execRootData l f s
  | .imageFetch l f => Sys2Proof.Machine.execImageFetch l f s
  | .imageData l f => Sys2Proof.Machine.execImageData l f s
  | .fabFetchTimeout tag => Sys2Proof.Machine.execFabFetchTimeout tag s
  | .enrolReq l f => Sys2Proof.Machine.execEnrolReq l f s
  | .enrolResp l f => Sys2Proof.Machine.execEnrolResp l f s
  | .fabEnrolTimeout => Sys2Proof.Machine.execFabEnrolTimeout s
  | .fabEnrolGrantExpire => Sys2Proof.Machine.execFabEnrolGrantExpire s
  | .fabDomainSet o => Sys2Proof.Machine.execFabDomainSet o s
  | .fabReplResend o => Sys2Proof.Machine.execFabReplResend o s
  | .fabReplLogRead o => Sys2Proof.Machine.execFabReplLogRead o s
  | .fabRootFetch o => Sys2Proof.Machine.execFabRootFetch o s
  | .fabEnrolGrant o => Sys2Proof.Machine.execFabEnrolGrant o s
  | .fabEnrol o => Sys2Proof.Machine.execFabEnrol o s
  | .fabWake o => Sys2Proof.Machine.execFabWake o s
  | .attestGet o => Sys2Proof.Machine.execAttestGet o s
  | .failStatement o mctp => Sys2Proof.Machine.execFailStatement o mctp s
  | .fwActivate o => Sys2Proof.Machine.execFwActivate o s
  | .fwCommit o => Sys2Proof.Machine.execFwCommit o s
  | .quartzWatchdog unreadable => Sys2Proof.Machine.execQuartzWatchdog unreadable s
  | .sensorSample values => Sys2Proof.Machine.execSensorSample values s
  | .setEndpointId c req => Sys2Proof.Machine.execSetEndpointId c req s
  | .getVersion c req => Sys2Proof.Machine.execGetVersion c req s
  | .getCapabilities c req => Sys2Proof.Machine.execGetCapabilities c req s
  | .negotiateAlgorithms c req => Sys2Proof.Machine.execNegotiateAlgorithms c req s
  | .getDigests c req => Sys2Proof.Machine.execGetDigests c req s
  | .getCertificate c req => Sys2Proof.Machine.execGetCertificate c req s
  | .challenge c req => Sys2Proof.Machine.execChallenge c req s
  | .getMeasurements c req => Sys2Proof.Machine.execGetMeasurements c req s
  | .getPqCert c req => Sys2Proof.Machine.execGetPqCert c req s
  | .cosign c req => Sys2Proof.Machine.execCosign c req s
  | .attest c req => Sys2Proof.Machine.execAttest c req s
  | .getTid c req => Sys2Proof.Machine.execGetTid c req s
  | .setTid c req => Sys2Proof.Machine.execSetTid c req s
  | .getPldmVersion c req => Sys2Proof.Machine.execGetPldmVersion c req s
  | .getPldmTypes c req => Sys2Proof.Machine.execGetPldmTypes c req s
  | .getPldmCommands c req => Sys2Proof.Machine.execGetPldmCommands c req s
  | .getTerminusUid c req => Sys2Proof.Machine.execGetTerminusUid c req s
  | .getPdrRepositoryInfo c req => Sys2Proof.Machine.execGetPdrRepositoryInfo c req s
  | .getPdr c req => Sys2Proof.Machine.execGetPdr c req s
  | .getSensorReading c req => Sys2Proof.Machine.execGetSensorReading c req s
  | .getSensorThresholds c req => Sys2Proof.Machine.execGetSensorThresholds c req s
  | .setSensorThresholds c req => Sys2Proof.Machine.execSetSensorThresholds c req s
  | .setEventReceiver c req => Sys2Proof.Machine.execSetEventReceiver c req s
  | .eventMessageSupported c req => Sys2Proof.Machine.execEventMessageSupported c req s
  | .pollForPlatformEventMessage c req => Sys2Proof.Machine.execPollForPlatformEventMessage c req s
  | .queryDeviceIdentifiers c req => Sys2Proof.Machine.execQueryDeviceIdentifiers c req s
  | .getFirmwareParameters c req => Sys2Proof.Machine.execGetFirmwareParameters c req s
  | .requestUpdate c req => Sys2Proof.Machine.execRequestUpdate c req s
  | .passComponentTable c req => Sys2Proof.Machine.execPassComponentTable c req s
  | .updateComponent c req => Sys2Proof.Machine.execUpdateComponent c req s
  | .firmwareDataReceived c req unreadable => Sys2Proof.Machine.execFirmwareDataReceived c req unreadable s
  | .activateFirmware c req => Sys2Proof.Machine.execActivateFirmware c req s
  | .getStatus c req => Sys2Proof.Machine.execGetStatus c req s
  | .cancelUpdate c req => Sys2Proof.Machine.execCancelUpdate c req s
  | .getPackageData c req => Sys2Proof.Machine.execGetPackageData c req s
  | .getDeviceMetaData c req => Sys2Proof.Machine.execGetDeviceMetaData c req s
  | .evrRead o mctp => Sys2Proof.Machine.execEvrRead o mctp s
  | .evrConfigRead o => Sys2Proof.Machine.execEvrConfigRead o s
  | .evrClear o => Sys2Proof.Machine.execEvrClear o s
  | .evrRecordWriteDone ok => Sys2Proof.Machine.execEvrRecordWriteDone ok s
  | .evrTokenRefill c => Sys2Proof.Machine.execEvrTokenRefill c s
  | .evrCheckpointTimer => Sys2Proof.Machine.execEvrCheckpointTimer s
  | .ambCfgWrite wide v => Sys2Proof.Machine.execAmbCfgWrite wide v s
  | .ambCtrlFreeze => Sys2Proof.Machine.execAmbCtrlFreeze s
  | .ambCtrlRearm => Sys2Proof.Machine.execAmbCtrlRearm s
  | .ambFreeze => Sys2Proof.Machine.execAmbFreeze s
  | .ambExport o => Sys2Proof.Machine.execAmbExport o s
  | .ambReplay o => Sys2Proof.Machine.execAmbReplay o s
  | .replayEnd pos run absent => Sys2Proof.Machine.execReplayEnd pos run absent s
  | .nvmProgram addr src data => Sys2Proof.Machine.execNvmProgram addr src data s
  | .nvmErase addr => Sys2Proof.Machine.execNvmErase addr s
  | .nvmRefresh addr => Sys2Proof.Machine.execNvmRefresh addr s
  | .nvmReadProgramVerify addr len src => Sys2Proof.Machine.execNvmReadProgramVerify addr len src s
  | .nvmReadEraseVerify addr len src => Sys2Proof.Machine.execNvmReadEraseVerify addr len src s
  | .norOpDone bank ok => Sys2Proof.Machine.execNorOpDone bank ok s
  | .norResume bank => Sys2Proof.Machine.execNorResume bank s
  | .norRefreshTick => Sys2Proof.Machine.execNorRefreshTick s
  | .refreshPassStart => Sys2Proof.Machine.execRefreshPassStart s
  | .refreshSector => Sys2Proof.Machine.execRefreshSector s
  | .schClrStats => Sys2Proof.Machine.execSchClrStats s
  | .schLock => Sys2Proof.Machine.execSchLock s
  | .clrLock => Sys2Proof.Machine.execClrLock s
  | .registerWrite t off size v => Sys2Proof.Machine.execRegisterWrite t off size v s
  | .busMasterEnableSet p fn => Sys2Proof.Machine.execBusMasterEnableSet p fn s
  | .vfEnableSet p numVfs => Sys2Proof.Machine.execVfEnableSet p numVfs s
  | .pcieFailedTraining p => Sys2Proof.Machine.execPcieFailedTraining p s
  | .cardResponseTimeout bus => Sys2Proof.Machine.execCardResponseTimeout bus s
  | .sendOpCondPoll bus => Sys2Proof.Machine.execSendOpCondPoll bus s
  | .swlTrainingRetry l => Sys2Proof.Machine.execSwlTrainingRetry l s
  | .i3cBroadcastCcc ccc addr => Sys2Proof.Machine.execI3cBroadcastCcc ccc addr s
  | .quartzInternalRequest n req data unreadable => Sys2Proof.Machine.execQuartzInternalRequest n req data unreadable s
  | .quartzFirmwareEvent code p0 p1 p2 p3 => Sys2Proof.Machine.execQuartzFirmwareEvent code p0 p1 p2 p3 s
  | .fuseBlowDone => Sys2Proof.Machine.execFuseBlowDone s
  | .onyxPatternPeriod mesh loop0 loop1 => Sys2Proof.Machine.execOnyxPatternPeriod mesh loop0 loop1 s
  | .tampInDeassert n => Sys2Proof.Machine.execTampInDeassert n s
  | .crystalRunsAgain => Sys2Proof.Machine.execCrystalRunsAgain s
  | .dormantRailLoss => Sys2Proof.Machine.execDormantRailLoss s
  | .fabReplResendPace => Sys2Proof.Machine.execFabReplResendPace s

end Sys2Proof.Machine
end

