-- ==== Sys2Proof/WellFormed.lean ====
section
/-! DEFINITION. Which commands are well formed: every index names a unit the device has, and every field fits the width the
manual gives it. The step gives every command an effect whether or not it is well formed. -/

namespace Sys2Proof

/-- Binding slots 0 to 2,047, or VF 1 to 4,095 (R29). -/
def BindId.wf (b : BindId) : Bool := if b.vf then decide (1 ≤ b.n ∧ b.n < 4096) else decide (b.n < 2048)

/-- A submission of a binding, or of one of the 65,536 queue pairs (R61). -/
def Origin.wf : Origin → Bool
  | .mailbox b => b.wf
  | .queue qpn _ => decide (qpn < 65536)
  | .internal _ => true

/-- A read returns at most the 2^40 bytes a buffer reference can name (R39). -/
def DmaResult.wf : DmaResult → Bool
  | .data bs => decide (bs.length < 2 ^ 40)
  | .ur => true
  | .ca => true
  | .poisoned => true

/-- The header fields and payload of a frame fit R402. -/
def Frame.wf (f : Frame) : Bool :=
  decide (f.ty < 256 ∧ f.cls < 4 ∧ f.hops < 256 ∧ f.dst < 2 ^ 16 ∧ f.src < 2 ^ 16 ∧ f.tag < 2 ^ 64 ∧ f.lseq < 2 ^ 64
    ∧ f.payload.length ≤ 2048 ∧ f.mac.length ≤ 16)

/-- A response of a card (R374): 32 bits, 120 bits of a CID, or a block of 512 bytes. -/
def CardResp.wf : CardResp → Bool
  | .short v => decide (v < 2 ^ 32)
  | .long cid => decide (cid < 2 ^ 120)
  | .block bs => decide (bs.length = 512)
  | .crcStatus _ => true
  | .bad => true

/-- What a re-run did fits its journal fields (R479, R484, R491). -/
def ReplayEvent.wf : ReplayEvent → Bool
  | .done qpn words digest _ => decide (qpn < 65536 ∧ words.length ≤ 8 ∧ digest.length ≤ 6)
  | .needs block unit qpn tag => decide (block < 256 ∧ unit < 256 ∧ qpn < 65536 ∧ tag < 2 ^ 16)

/-- A register target names a binding or a function that a port can have (R34, R35). -/
def RegTarget.wf : RegTarget → Bool
  | .control _ => true
  | .mailbox b => b.wf
  | .doorbell b => b.wf
  | .msixTable _ fn => decide (fn < 4096)
  | .bar _ fn => decide (fn < 4096)
  | .msixControl _ fn => decide (fn < 4096)
  | .devControl _ fn => decide (fn < 4096)
  | .devControl2 _ fn => decide (fn < 4096)

/-- Whether a command is well formed. -/
def Instr.wf (i : Instr) : Bool :=
  match i with
  | .mbxCmdWrite b off bs => b.wf && decide (off < 0x1000) && decide (bs.length ≤ 2 ^ 24)
  | .mbxGo b _ _ _ => b.wf
  | .mbxAck b _ _ => b.wf
  | .mbxAbort b _ => b.wf
  | .abortPointReached o => o.wf
  | .cmdUnknown o => o.wf
  | .sqTailDoorbell b q v => b.wf && decide (q < 1024) && decide (v < 2 ^ 32)
  | .cqHeadDoorbell b q v => b.wf && decide (q < 1024) && decide (v < 2 ^ 32)
  | .sqEntryFetch qpn r => decide (qpn < 65536) && r.wf
  | .spoofLimitReached t => decide (t < 4096)
  | .schedJobStart o => o.wf
  | .tenantBucketRefill t us => decide (t < 4096) && decide (us < 2 ^ 32)
  | .coalTimeExpire qpn => decide (qpn < 65536)
  | .msixUnmask _ fn vec => decide (fn < 4096) && decide (vec < 2048)
  | .hostDmaReadCompletion o r => o.wf && r.wf
  | .cplTimeout o => o.wf
  | .orderingReadCompletion o _ => o.wf
  | .pcieLinkUp _ rt width _ => decide (rt < 7) && decide (width ≤ 16)
  | .pcieLinkDown _ => true
  | .flr _ fn => decide (fn < 4096)
  | .perstAssert _ => true
  | .perstDeassert _ => true
  | .bmeClear _ fn => decide (fn < 4096)
  | .tenantCreate o => o.wf
  | .tenantSetGrant o => o.wf
  | .tenantBind o => o.wf
  | .tenantUnbind o => o.wf
  | .tenantQuiesce o => o.wf
  | .tenantQuiesced t => decide (t < 4096)
  | .tenantEnable o => o.wf
  | .tenantReset o => o.wf
  | .tenantDestroy o => o.wf
  | .tombstoneRetry t => decide (t < 4096)
  | .tenantInfo o => o.wf
  | .policyQuery o => o.wf
  | .qpCreate o => o.wf
  | .qpDelete o => o.wf
  | .keyGenerate o => o.wf
  | .keyDerive o => o.wf
  | .keyWrap o => o.wf
  | .keyUnwrap o => o.wf
  | .keyImportPublic o => o.wf
  | .keyProve o => o.wf
  | .keyCommit o => o.wf
  | .keyDiscard o => o.wf
  | .keyDestroy o => o.wf
  | .keyAttrRead o => o.wf
  | .keyAttrSet o => o.wf
  | .keyPublic o => o.wf
  | .engineRevokeStop o => o.wf
  | .agateTreeCreate o => o.wf
  | .agateLoad o => o.wf
  | .agateExport o => o.wf
  | .shredStage o => o.wf
  | .shredCommit o => o.wf
  | .anchorStatus o => o.wf
  | .anchorProgramDone _ => true
  | .journalTokenRefill => true
  | .journalCarryForward _ => true
  | .seal o => o.wf
  | .recall o => o.wf
  | .verify o => o.wf
  | .digestOnly o => o.wf
  | .sealEngineJobDone o => o.wf
  | .reservedSlicePark n => decide (n < 144)
  | .parkedJobResume n => decide (n < 144)
  | .engineAttemptFail n cause => decide (n < 144) && decide (cause < 256)
  | .sealEngineWatchdog n => decide (n < 144)
  | .engineDrained n => decide (n < 144)
  | .engineTestDone n failed => decide (n < 144) && decide (failed < 65536)
  | .engineReadmit o => o.wf
  | .engineQuarantine o => o.wf
  | .manifestOpen o => o.wf
  | .manifestClose o => o.wf
  | .manifestHeaderForm h => decide (h < 2 ^ 16)
  | .digestMac o => o.wf
  | .digestJobDone o => o.wf
  | .digestShort w => decide (w < 16)
  | .dguContextYield o => o.wf
  | .measRead o => o.wf
  | .measExtend o => o.wf
  | .measLogRead o => o.wf
  | .dgtMrSelWrite v => decide (v < 2 ^ 64)
  | .sign o => o.wf
  | .sigVerify o => o.wf
  | .deriveShared o => o.wf
  | .encaps o => o.wf
  | .decaps o => o.wf
  | .arithJobDone o r => o.wf && r.errs.all (fun e => decide (e.1 < 4096 ∧ e.2 < 2 ^ 72)) && decide (r.wire.length ≤ 2 ^ 24)
  | .invStrikesClear n => decide (n < 24)
  | .arithEngineFault n cause => decide (n < 24) && decide (cause < 256)
  | .arithWatchdog n => decide (n < 24)
  | .ariTestDone n failed => decide (n < 24) && decide (failed < 65536)
  | .ariDrained n => decide (n < 24)
  | .ariReadmit o => o.wf
  | .ariQuarantine o => o.wf
  | .rngGenerate o => o.wf
  | .conditionerBlock _ => true
  | .rngStarvedTimeout o => o.wf
  | .noiseStartupTestDone n samples => decide (n < 8) && decide (samples.length ≤ 2 ^ 24)
  | .noiseSourceFail n samples => decide (n < 8) && decide (samples.length ≤ 2 ^ 24)
  | .noiseSourceRetest n samples => decide (n < 8) && decide (samples.length ≤ 2 ^ 24)
  | .rngTestWrite v => decide (v < 2 ^ 64)
  | .rngRawRead _ => true
  | .pwrHush o => o.wf
  | .hushConditionMet o => o.wf
  | .hushWaitExpire o => o.wf
  | .autoHushTimer => true
  | .pwrDormant o => o.wf
  | .doneTimeout => true
  | .pwrImageRestore o => o.wf
  | .pwrImageDiscard o => o.wf
  | .wakeInAssert => true
  | .rtcAlarm => true
  | .i3cWakeCommand => true
  | .powerGood _ => true
  | .startupEntropyTimeout => true
  | .vddCoreLoss => true
  | .vddAonLoss _ => true
  | .vbatSaltClear => true
  | .vbatLow mv => decide (mv < 65536)
  | .xtalFail => true
  | .lcsChallenge o => o.wf
  | .challengeExpire => true
  | .lcsTransition o vhold _ => o.wf && decide (vhold < 65536)
  | .dbgChallenge => true
  | .dbgToken _ => true
  | .meshAlarm => true
  | .tloopAlarm k => decide (k < 2)
  | .envAlarm bit => decide (7 ≤ bit ∧ bit ≤ 12)
  | .clockAlarm island => decide (island < 20)
  | .tampInAssert n => decide (n < 4)
  | .tmpZeroise o => o.wf
  | .tmpMeshCfgWrite v => decide (v < 2 ^ 64)
  | .tmpInCfgWrite v => decide (v < 2 ^ 64)
  | .thermtripAssert => true
  | .wpgRise w => decide (w < 16)
  | .wpgFall w => decide (w < 16)
  | .wardSettleDone w => decide (w < 16)
  | .wardVerifyDone w _ _ => decide (w < 16)
  | .wardRecoveryDone w _ _ => decide (w < 16)
  | .wardFlashTimeout w => decide (w < 16)
  | .wardSpiCommand w op addr len bs => decide (w < 16) && decide (op < 256) && decide (addr < 2 ^ 32) && decide (len ≤ 2 ^ 24) && decide (bs.length ≤ 2 ^ 24)
  | .wardManifestSet o => o.wf
  | .wardVerify o => o.wf
  | .wardRecover o => o.wf
  | .wardHold o => o.wf
  | .wardAux o => o.wf
  | .wardInfo o => o.wf
  | .cardInsert n => decide (n < 2)
  | .cardRemove n => decide (n < 2)
  | .cardResponse bus r => decide (bus < 3) && r.wf
  | .cardBusyEnd bus => decide (bus < 3)
  | .socketIdleOff n => decide (n < 2)
  | .unlockDelay n => decide (n < 2)
  | .tknScan o => o.wf
  | .ceremonyBegin o => o.wf
  | .ceremonyPresent o => o.wf
  | .ceremonyEnrol o => o.wf
  | .ceremonyStatus o => o.wf
  | .ceremonyEnd o => o.wf
  | .ceremonyExpire => true
  | .cardForceErase o => o.wf
  | .escrowStore o => o.wf
  | .escrowFetch o => o.wf
  | .swlSignalDetect l => decide (l < 8)
  | .swlTrainingDone l => decide (l < 8)
  | .swlTrainingTimeout l => decide (l < 8)
  | .swlBeaconTimer => true
  | .beacon l f => decide (l < 8) && f.wf
  | .hs l f => decide (l < 8) && f.wf
  | .swlHsTimeout l => decide (l < 8)
  | .swlHsRetry l => decide (l < 8)
  | .swlRenewal l => decide (l < 8)
  | .swlOldKeyExpire l => decide (l < 8)
  | .rate l f => decide (l < 8) && f.wf
  | .kaBeacon l f => decide (l < 8) && f.wf
  | .wake l f => decide (l < 8) && f.wf
  | .dormantNotice l f => decide (l < 8) && f.wf
  | .unreach l f => decide (l < 8) && f.wf
  | .swlSignalLoss l => decide (l < 8)
  | .swlSessionTimeout l => decide (l < 8)
  | .swlPartnerRestart l => decide (l < 8)
  | .swlQuarantineRetrain l => decide (l < 8)
  | .swlLinkCtrl o => o.wf
  | .swlLinkInfo o => o.wf
  | .lsaTimer => true
  | .lsa l f => decide (l < 8) && f.wf
  | .lsaExpire id => decide (id < 2 ^ 64)
  | .addrOwned => true
  | .isolationEnter => true
  | .hold l f => decide (l < 8) && f.wf
  | .holdDrop l f => decide (l < 8) && f.wf
  | .stageNotice l f => decide (l < 8) && f.wf
  | .stageAck l f => decide (l < 8) && f.wf
  | .stageNoticeTimeout tag => decide (tag < 2 ^ 64)
  | .anchorPush l f => decide (l < 8) && f.wf
  | .rootPush l f => decide (l < 8) && f.wf
  | .rootDrop l f => decide (l < 8) && f.wf
  | .lateNak l f => decide (l < 8) && f.wf
  | .rootFetch l f => decide (l < 8) && f.wf
  | .rootData l f => decide (l < 8) && f.wf
  | .imageFetch l f => decide (l < 8) && f.wf
  | .imageData l f => decide (l < 8) && f.wf
  | .fabFetchTimeout tag => decide (tag < 2 ^ 64)
  | .enrolReq l f => decide (l < 8) && f.wf
  | .enrolResp l f => decide (l < 8) && f.wf
  | .fabEnrolTimeout => true
  | .fabEnrolGrantExpire => true
  | .fabDomainSet o => o.wf
  | .fabReplResend o => o.wf
  | .fabReplLogRead o => o.wf
  | .fabRootFetch o => o.wf
  | .fabEnrolGrant o => o.wf
  | .fabEnrol o => o.wf
  | .fabWake o => o.wf
  | .attestGet o => o.wf
  | .failStatement o _ => o.wf
  | .fwActivate o => o.wf
  | .fwCommit o => o.wf
  | .quartzWatchdog _ => true
  | .sensorSample values => decide (values.length = 57)
  | .setEndpointId _ _ => true
  | .getVersion _ _ => true
  | .getCapabilities _ _ => true
  | .negotiateAlgorithms _ _ => true
  | .getDigests _ _ => true
  | .getCertificate _ _ => true
  | .challenge _ _ => true
  | .getMeasurements _ _ => true
  | .getPqCert _ _ => true
  | .cosign _ _ => true
  | .attest _ _ => true
  | .getTid _ _ => true
  | .setTid _ _ => true
  | .getPldmVersion _ _ => true
  | .getPldmTypes _ _ => true
  | .getPldmCommands _ _ => true
  | .getTerminusUid _ _ => true
  | .getPdrRepositoryInfo _ _ => true
  | .getPdr _ _ => true
  | .getSensorReading _ _ => true
  | .getSensorThresholds _ _ => true
  | .setSensorThresholds _ _ => true
  | .setEventReceiver _ _ => true
  | .eventMessageSupported _ _ => true
  | .pollForPlatformEventMessage _ _ => true
  | .queryDeviceIdentifiers _ _ => true
  | .getFirmwareParameters _ _ => true
  | .requestUpdate _ _ => true
  | .passComponentTable _ _ => true
  | .updateComponent _ _ => true
  | .firmwareDataReceived _ _ _ => true
  | .activateFirmware _ _ => true
  | .getStatus _ _ => true
  | .cancelUpdate _ _ => true
  | .getPackageData _ _ => true
  | .getDeviceMetaData _ _ => true
  | .evrRead o _ => o.wf
  | .evrConfigRead o => o.wf
  | .evrClear o => o.wf
  | .evrRecordWriteDone _ => true
  | .evrTokenRefill c => decide (c < 2 ^ 16)
  | .evrCheckpointTimer => true
  | .ambCfgWrite _ v => decide (v < 2 ^ 64)
  | .ambCtrlFreeze => true
  | .ambCtrlRearm => true
  | .ambFreeze => true
  | .ambExport o => o.wf
  | .ambReplay o => o.wf
  | .replayEnd _ run absent => run.all ReplayEvent.wf && absent.all fun x => decide (x.2 < 65536)
  | .nvmProgram addr src data => decide (addr < 2 ^ 32) && decide (src < 2 ^ 32) && decide (data.length < 2 ^ 32)
  | .nvmErase addr => decide (addr < 2 ^ 32)
  | .nvmRefresh addr => decide (addr < 2 ^ 32)
  | .nvmReadProgramVerify addr len src => decide (addr < 2 ^ 32) && decide (len ≤ 2 ^ 24) && decide (src < 2 ^ 32)
  | .nvmReadEraseVerify addr len src => decide (addr < 2 ^ 32) && decide (len ≤ 2 ^ 24) && decide (src < 2 ^ 32)
  | .norOpDone bank _ => decide (bank < 4)
  | .norResume bank => decide (bank < 4)
  | .norRefreshTick => true
  | .refreshPassStart => true
  | .refreshSector => true
  | .schClrStats => true
  | .schLock => true
  | .clrLock => true
  | .registerWrite t off size v => t.wf && decide (off < 0x2000000) && decide (size ≤ 64) && decide (v < 2 ^ 64)
  | .busMasterEnableSet _ fn => decide (fn < 4096)
  | .vfEnableSet _ numVfs => decide (numVfs < 4096)
  | .pcieFailedTraining _ => true
  | .cardResponseTimeout bus => decide (bus < 3)
  | .sendOpCondPoll bus => decide (bus < 3)
  | .swlTrainingRetry l => decide (l < 8)
  | .i3cBroadcastCcc ccc addr => decide (ccc < 256) && decide (addr < 128)
  | .quartzInternalRequest _ _ _ _ => true
  | .quartzFirmwareEvent code p0 p1 p2 p3 => decide (code < 2 ^ 16) && decide (p0 < 2 ^ 64) && decide (p1 < 2 ^ 64) && decide (p2 < 2 ^ 64) && decide (p3 < 2 ^ 64)
  | .fuseBlowDone => true
  | .onyxPatternPeriod _ _ _ => true
  | .tampInDeassert n => decide (n < 4)
  | .crystalRunsAgain => true
  | .dormantRailLoss => true
  | .fabReplResendPace => true

end Sys2Proof
end

