-- ==== Sys2Proof/Safety.lean ====
section
/-! DEFINITION. The terms in which statements speak of runs: a command that a dispatcher may act on, and the form of the
state that every step keeps. -/

namespace Sys2Proof.Machine

/-- The command `j` of submission `o` is in flight with the code and at the stage given, a dispatcher acts on it, the device
runs commands, and at the first stage the common checks of R51 and R96 pass and the tenant's context reads whole (R497). -/
def Runs (s : State) (o : Origin) (code stage : Nat) (j : Job) : Prop :=
  s.job? o = some j ∧ j.code = code ∧ j.phase = .started ∧ j.stage = stage ∧ s.mode ≠ .startup ∧ s.mode ≠ .dormant ∧
    canAct s j = true ∧ (stage = 0 → commandCheck s j = none ∧ contextFault s j = none)

/-- Nothing delays or discards the end of the command `j`: it wrote no byte through its other port (R43), and its completion is
not discarded (R55, R264). -/
def Plain (j : Job) : Prop := j.wroteOther = false ∧ j.discard = false

/-- The vault arbiter takes the order of the command `j` at once and nothing overtakes it: its colour is one the vault serves
(R158), the device is not zeroised (R178), no order waits, and no other command's order has been taken (R174 to R176). -/
def Undisputed (s : State) (j : Job) : Prop :=
  vaultColour (orderColour j) = true ∧ s.zeroised = false ∧ s.sched.orders = [] ∧ s.sched.credits = [] ∧ j.overtaken = none ∧
    j.revokedBy = none ∧ j.seq = 0 ∧ ∀ k ∈ s.jobs, k.origin ≠ j.origin → k.seq = 0

/-- The command of a binding's mailbox has ended with a status and a result (R48). -/
def Ends (t : State) (b : BindId) (st : Nat) (res : Bytes) : Prop :=
  t.job? (.mailbox b) = none ∧ (t.mbx b).state = .done ∧ (t.mbx b).status = st ∧ (t.mbx b).result = res.take 1792

/-- The form that every step keeps: the register words and the NOR partition bytes are in canonical form, and every
register holds a 64-bit word. -/
def Canonical (s : State) : Prop :=
  NMap.wf 0 s.regs = true ∧ (∀ e ∈ s.regs, e.2 < 2 ^ 64) ∧ NMap.wf 0xFF s.nor.raw = true ∧ NMap.wf 0 s.nor.sram = true

/-- A link that runs undisturbed in SERVICE: ACTIVE with a DOMAIN session, its counter at 0, its partner ACTIVE, nothing in
its queue, and the node not isolated. -/
def Quiet (s : State) (l : Nat) : Prop :=
  l < 8 ∧ s.mode = .service ∧ (s.link l).state = .active ∧ (s.link l).level = 2 ∧ (s.link l).queue = [] ∧ (s.link l).err = 0 ∧
    (s.link l).partnerState = 5 ∧ s.fabric.isolated = false

/-- A good sealed frame arrives on such a link under the keys in force and opens to `g` (R405, R411). -/
def Hears (s : State) (l : Nat) (f g : Frame) : Prop :=
  Quiet s l ∧ f.sealed = true ∧ f.keyPhase = (s.link l).keyPhase ∧ openFrame s l f = some g

/-- What the reception of such a frame changes before it is acted on: the link's last LSEQ and FEC counts, and the
journal. -/
def Heard (s t : State) (l : Nat) (f : Frame) : Prop :=
  t = { s with links := t.links, amber := t.amber } ∧ (∀ x, x ≠ l → t.link x = s.link x) ∧ (t.link l).rxLseq = f.lseq ∧
    (t.link l).state = .active ∧ (t.link l).level = 2 ∧ (t.link l).queue = [] ∧ (t.link l).sent = (s.link l).sent ∧
    (t.link l).partner = (s.link l).partner ∧ (t.link l).bad = (s.link l).bad

end Sys2Proof.Machine
end

