-- ==== Sys2Proof/Certificates/Slice0/Obligations.lean ====
section
/-! DEFINITION. The statements for the provers. The rules they come from are named R<n> as in spec/; `exec c s = .next t` is
a command that completes. -/

open Sys2Proof Sys2Proof.Machine

/-- A step takes the command at the front of the queue and is its effect on the state with the queue's rest. -/
def Obligations.StepRunsFrontCommand : Prop :=
  ∀ (c : Instr) (s : State), step { s with pending := c :: s.pending } = exec c s

/-- On an empty queue the device is idle and one tick of 10 ns passes (the model's own choice, assumption 1): the clock
counts, and with no link that has a frame to send and outside HUSH and DORMANT nothing else changes but the operating time
and the RTC. -/
def Obligations.IdleStepIsTick : Prop :=
  ∀ (s : State), s.pending = [] → s.mode ≠ .hush → (∀ n, n < 8 → (s.link n).queue = []) →
    ∃ t, step s = .next t ∧ t.clk = s.clk + 1 ∧ t.moon.opTime = opTimeAfter s ∧ t.reg R.PWR_RTC = rtcAfter s ∧
      (∀ a, a ≠ R.PWR_RTC → t.reg a = s.reg a) ∧ t.slots = s.slots ∧ t.jobs = s.jobs ∧ t.mode = s.mode ∧ t.pending = []

/-- After reset every register field that software can write holds the Reset value of its chapter's table, the queue is
empty, no command is in flight and the device is in STARTUP (from R5, R277). -/
def Obligations.ResetValues : Prop :=
  State.reset.pending = [] ∧ State.reset.jobs = [] ∧ State.reset.mode = .startup ∧
  (∀ d ∈ allRegs, ∀ f ∈ d.fields, f.acc ≠ .ro → ∀ k, k < d.count → State.reset.regField (d.addr + k * d.stride) f.msb f.lsb = f.reset)

/-- The state after reset has the form that every step keeps. -/
def Obligations.ResetHasInvariant : Prop :=
  Canonical State.reset

/-- Every step, of any command or of the clock, keeps the form of the state: register words and the NOR's bytes in canonical
form, and every register a 64-bit word. -/
def Obligations.StepKeepsInvariant : Prop :=
  ∀ (s t : State), Canonical s → step s = .next t → Canonical t

/-- No command of the table touches the queue or the clock, or changes the device's number, its verification-key fuses or
its option fuses; the SVN counter advances one bit at a time, and only at the end of a blow of the commit (from R302). -/
def Obligations.FusesBlowOnlyByCommit : Prop :=
  ∀ (c : Instr) (s t : State), exec c s = .next t → t.pending = s.pending ∧ t.clk = s.clk ∧
    t.fuses.deviceId = s.fuses.deviceId ∧ t.fuses.vkhP384 = s.fuses.vkhP384 ∧ t.fuses.vkhMldsa = s.fuses.vkhMldsa ∧
    t.fuses.options = s.fuses.options ∧
    (t.fuses.svn = s.fuses.svn ∨ c = .fuseBlowDone ∧ t.fuses.svn = s.fuses.svn + 1)

/-- MBX_CMD_WRITE (from R48): outside BUSY a write to the operand area or to MBX_CMD is latched, in BUSY it is ignored and
sets WRITE_WHILE_BUSY. The journal's MMIO entry and crossing token are the only other change. Writes to MBX_CTRL (from R48).
GO in IDLE latches the command, which is then in flight, and STATE is BUSY with STATUS_TAG taken, ABORTED and APPROVED
cleared; in another state GO sets GO_NOT_IDLE. ACK in DONE empties the result and STATE is IDLE; in another state it sets
ACK_NOT_DONE. ACK with GO in DONE starts the next command. ABORT in BUSY asks an uncommitted command to end; in another
state it changes nothing. IRQ_EN takes its value from each write. -/
def Obligations.MailboxRegisters : Prop :=
  (∀ (s : State) (b : BindId) (off : Nat) (bs : Bytes), bindLive s b = true → bs ≠ [] → 0x100 ≤ off → off + bs.length ≤ 0x900 →
    (s.mbx b).state ≠ .busy →
    exec (.mbxCmdWrite b off bs) s = .next ((dispatchMerge (mmio s b.port b.func off bs.length (leNat (bs.take 8))) b).setMbx b
      { s.mbx b with opArea := (s.mbx b).opArea.putList 0 (off - 0x100) bs })) ∧
  (∀ (s : State) (b : BindId) (v : Bytes), bindLive s b = true → v.length = 8 → (s.mbx b).state ≠ .busy →
    exec (.mbxCmdWrite b 0 v) s = .next ((dispatchMerge (mmio s b.port b.func 0 8 (leNat v)) b).setMbx b
      { s.mbx b with code := u16 v 0, tag := u16 v 2, oplen := u16 v 4 })) ∧
  (∀ (s : State) (b : BindId) (off : Nat) (bs : Bytes), bindLive s b = true → bs ≠ [] → 0x100 ≤ off → off + bs.length ≤ 0x900 →
    (s.mbx b).state = .busy →
    exec (.mbxCmdWrite b off bs) s = .next ((dispatchMerge (mmio s b.port b.func off bs.length (leNat (bs.take 8))) b).setMbx b
      { s.mbx b with writeWhileBusy := true })) ∧
  (∀ (s : State) (b : BindId) (irq : Bool), bindLive s b = true → s.mode ≠ .hush → (s.mbx b).state = .idle →
    s.job? (.mailbox b) = none →
    ∃ t, exec (.mbxGo b false false irq) s = .next t ∧ t.jobs = s.jobs ++ [latchJob s b (s.mbx b)] ∧
      t.mbx b = { s.mbx b with irqEn := irq, stTag := (s.mbx b).tag, aborted := false, approved := false, state := .busy } ∧
      t.slots = s.slots ∧ t.regs = s.regs ∧ t.qps = s.qps) ∧
  (∀ (s : State) (b : BindId) (irq : Bool), bindLive s b = true → (s.mbx b).state ≠ .idle →
    ∃ t, exec (.mbxGo b false false irq) s = .next t ∧ t.jobs = s.jobs ∧
      t.mbx b = { s.mbx b with irqEn := irq, goNotIdle := true } ∧ t.slots = s.slots ∧ t.regs = s.regs ∧ t.qps = s.qps) ∧
  (∀ (s : State) (b : BindId) (irq : Bool), bindLive s b = true → s.moon.deferred = none → (s.mbx b).state = .done →
    ∃ t, exec (.mbxAck b false irq) s = .next t ∧ t.jobs = s.jobs ∧
      t.mbx b = { s.mbx b with irqEn := irq, result := [], state := .idle } ∧ t.slots = s.slots ∧ t.regs = s.regs) ∧
  (∀ (s : State) (b : BindId) (irq : Bool), bindLive s b = true → s.moon.deferred = none → (s.mbx b).state ≠ .done →
    ∃ t, exec (.mbxAck b false irq) s = .next t ∧ t.jobs = s.jobs ∧
      t.mbx b = { s.mbx b with irqEn := irq, ackNotDone := true } ∧ t.slots = s.slots ∧ t.regs = s.regs) ∧
  (∀ (s : State) (b : BindId) (irq : Bool), bindLive s b = true → s.mode ≠ .hush → s.moon.deferred = none → (s.mbx b).state = .done →
    s.job? (.mailbox b) = none →
    ∃ t, exec (.mbxGo b true false irq) s = .next t ∧ (t.mbx b).state = .busy ∧ t.jobs = s.jobs ++ [latchJob s b (s.mbx b)]) ∧
  (∀ (s : State) (b : BindId) (irq : Bool) (j : Job), bindLive s b = true → (s.mbx b).state = .busy →
    s.job? (.mailbox b) = some j → j.committed = false → (∀ k ∈ s.heldJobs, k.origin ≠ .mailbox b) →
    ∃ t, exec (.mbxAbort b irq) s = .next t ∧ t.mbx b = { s.mbx b with irqEn := irq } ∧
      t.job? (.mailbox b) = some { j with abortReq := true } ∧ t.slots = s.slots ∧ t.regs = s.regs) ∧
  (∀ (s : State) (b : BindId) (irq : Bool), bindLive s b = true → (s.mbx b).state ≠ .busy →
    ∃ t, exec (.mbxAbort b irq) s = .next t ∧ t.mbx b = { s.mbx b with irqEn := irq } ∧ t.jobs = s.jobs ∧
      t.slots = s.slots ∧ t.regs = s.regs)

/-- A command with code 0x0000, with a code of a family 0x0B to 0xFF, or with another code that no row of the command index
gives, performs no action and completes with E_CMD_UNKNOWN, 0x8F01 (R11). -/
def Obligations.UnknownCodesEnd : Prop :=
  (∀ c, c = 0 ∨ 0x0B ≤ c / 256 → cmdInfo? c = none) ∧
  (∀ (s : State) (o : Origin) (j : Job), s.job? o = some j → cmdInfo? j.code = none → s.mode ≠ .startup → s.mode ≠ .dormant →
    exec (.cmdUnknown o) s = .next (failJob s j 0x8F01))

/-- A mailbox command that an ABORT asks to end, and that has not passed its commit point, ends with E_ABORTED at its abort
point, with ABORTED set and no result (from R50). A command's end: its mailbox enters DONE with the status, the result,
APPROVED only in the approved mode, ABORTED for E_ABORTED, and DONE_COUNT one higher (from R48). -/
def Obligations.CommandsEndInTheirMailbox : Prop :=
  (∀ (s : State) (b : BindId) (j : Job), s.job? (.mailbox b) = some j → Plain j → j.abortReq = true → j.committed = false →
    ∃ u, exec (.abortPointReached (.mailbox b)) s = .next u ∧ Ends u b S.E_ABORTED [] ∧ (u.mbx b).aborted = true ∧
      (u.mbx b).doneCount = ((s.mbx b).doneCount + 1) % 2 ^ 32) ∧
  (∀ (s : State) (b : BindId) (j : Job) (st : Nat) (res : Bytes) (appr : Bool), j.origin = .mailbox b → j.wroteOther = false →
    j.discard = false →
    let t := endJob s j st res appr
    (t.mbx b).state = .done ∧ (t.mbx b).status = st ∧ (t.mbx b).result = res.take 1792 ∧
      (t.mbx b).approved = (appr && s.approvedMode) ∧ (t.mbx b).aborted = (st == S.E_ABORTED) ∧
      (t.mbx b).doneCount = ((s.mbx b).doneCount + 1) % 2 ^ 32 ∧ t.jobs = s.jobs.filter (fun k => k.origin != .mailbox b))

/-- A command's outstanding host read ends (from R44), while no other read waits for a tag. The bytes of its last buffer let
the command go on at its next stage, a read slower than 2 µs putting a class 0 command out of bound (from R83); UR, CA,
poisoned data and the completion timeout end a mailbox command with E_HOST_DMA, with the cause in HPT_ERR_STATUS and the
function in HPT_ERR_FUNC of the port that issued the read. The zero-length ordering read of R43 returns, while no other read
waits for a tag: the mailbox completes with the status held; a failed read ends the command with E_HOST_DMA and sets
FLUSH_FAIL. -/
def Obligations.HostAccessesComplete : Prop :=
  (∀ (s : State) (o : Origin) (j : Job) (q : HostRef) (bs : Bytes), s.job? o = some j → j.phase = .hostRead → j.unsent = false →
    j.reads = [q] → bs.length = q.len → (∀ k ∈ s.jobs, k.unsent = false) →
    exec (.hostDmaReadCompletion o (.data bs)) s = .next ((journalRead s j (dmaBind s j q.port) bs).setJob
      { j with data := j.data ++ [bs], oob := j.oob || decide (s.clk - j.readSince > 200), reads := [], phase := j.afterReads,
               stage := j.stage + 1 })) ∧
  (∀ (s : State) (b : BindId) (j : Job) (q : HostRef) (rest : List HostRef) (r : DmaResult) (bit : Nat),
    s.job? (.mailbox b) = some j → Plain j → j.phase = .hostRead → j.unsent = false → j.reads = q :: rest →
    (∀ k ∈ s.jobs, k.unsent = false) →
    (r = .ur ∧ bit = errUrCa ∨ r = .ca ∧ bit = errUrCa ∨ r = .poisoned ∧ bit = errPoisoned) →
    ∃ u, exec (.hostDmaReadCompletion (.mailbox b) r) s = .next u ∧ Ends u b S.E_HOST_DMA [] ∧
      (u.port (dmaBind s j q.port).port).errStatus = (s.port (dmaBind s j q.port).port).errStatus ||| (1#10 <<< bit) ∧
      (u.port (dmaBind s j q.port).port).errFunc = (dmaBind s j q.port).func) ∧
  (∀ (s : State) (b : BindId) (j : Job) (q : HostRef) (rest : List HostRef), s.job? (.mailbox b) = some j → Plain j →
    j.phase = .hostRead → j.unsent = false → j.reads = q :: rest → (∀ k ∈ s.jobs, k.unsent = false) →
    ∃ u, exec (.cplTimeout (.mailbox b)) s = .next u ∧ Ends u b S.E_HOST_DMA [] ∧
      (u.port (dmaBind s j q.port).port).errStatus = (s.port (dmaBind s j q.port).port).errStatus ||| (1#10 <<< errCplTimeout) ∧
      (u.port (dmaBind s j q.port).port).errFunc = (dmaBind s j q.port).func) ∧
  (∀ (s : State) (b : BindId) (j : Job) (st : Nat) (bs : Bytes) (appr : Bool), s.job? (.mailbox b) = some j → j.discard = false →
    j.phase = .ordering → j.final = some (st, bs, appr) → (∀ k ∈ s.jobs, k.unsent = false) →
    ∃ u, exec (.orderingReadCompletion (.mailbox b) true) s = .next u ∧ Ends u b st (bs.drop 4)) ∧
  (∀ (s : State) (b : BindId) (j : Job) (st : Nat) (bs : Bytes) (appr : Bool), s.job? (.mailbox b) = some j → j.discard = false →
    j.phase = .ordering → j.final = some (st, bs, appr) → (∀ k ∈ s.jobs, k.unsent = false) →
    ∃ u, exec (.orderingReadCompletion (.mailbox b) false) s = .next u ∧ Ends u b S.E_HOST_DMA [] ∧
      (u.port (dmaBind s j 1).port).errStatus =
        (s.port (dmaBind s j 1).port).errStatus ||| (1#10 <<< errUrCa) ||| (1#10 <<< errFlushFail))

/-- Links of a host port (from R27, R28, R44). An entry to L0 shows rate, width and FLIT and counts retrains after the
first; 64 GT/s is in FLIT mode only; below 16 GT/s event 0x8C0D is recorded. A link that goes down, with no read
outstanding, shows no rate; a failed training is counted in RETRAIN_COUNT. No slot and no command changes. Enables of a
function (from R44, R46, R57, R263): Bus Master Enable set, and cleared with no read outstanding; VF Enable of up to 4,095
VFs; a vector that is unmasked sends the message it holds, when MSI-X is enabled, and another sends none. Warm resets of a
port (from R55, R56, R66, R542): a function-level reset of a VF with no command in flight resets its mailbox but for the
operand area and DONE_COUNT, its MSI-X state and enables; PERST clears every function of the port, VF Enable and the error
bits; its end in SERVICE lets the owner's stopped queue pairs go on, and in DORMANT an enabled PERST wake starts the device.
-/
def Obligations.HostPortsFollowLinksAndResets : Prop :=
  (∀ (s : State) (p : PortId) (rate width : Nat) (flit : Bool), (s.port p).perst = false → s.mode ≠ .dormant → 4 ≤ rate → rate ≤ 6 →
    (rate = 6 → flit = true) → (width = 4 ∨ width = 8 ∨ width = 16) →
    ∃ u, exec (.pcieLinkUp p rate width flit) s = .next u ∧ u.port p = { s.port p with
      dlUp := true, rate := rate, width := width, flit := flit, inL1 := false, belowRated := false, everUp := true,
      retrainCount := if (s.port p).everUp then satInc 8 (s.port p).retrainCount else (s.port p).retrainCount } ∧
      u.slots = s.slots ∧ u.jobs = s.jobs ∧ u.recorder = s.recorder) ∧
  (∀ (s : State) (p : PortId) (rate width : Nat) (flit : Bool), (s.port p).perst = false → s.mode ≠ .dormant → 1 ≤ rate → rate ≤ 3 →
    (width = 4 ∨ width = 8 ∨ width = 16) →
    ∃ u, exec (.pcieLinkUp p rate width flit) s = .next u ∧ (u.port p).dlUp = true ∧ (u.port p).rate = rate ∧
      (u.port p).belowRated = true ∧ u.slots = s.slots ∧ u.jobs = s.jobs ∧
      u.recorder = (recordEvent (s.setPort p { s.port p with
        dlUp := true, rate := rate, width := width, flit := flit, inL1 := false, belowRated := true, everUp := true,
        retrainCount := if (s.port p).everUp then satInc 8 (s.port p).retrainCount else (s.port p).retrainCount })
        0x8C0D p.num rate width).recorder) ∧
  (∀ (s : State) (p : PortId), (∀ j ∈ s.jobs, j.phase ≠ .hostRead ∧ j.phase ≠ .ordering) → (∀ e ∈ s.qps, e.2.reading = none) →
    exec (.pcieLinkDown p) s = .next (s.setPort p { s.port p with
      dlUp := false, rate := 0, width := 0, flit := false, inL1 := false, belowRated := false })) ∧
  (∀ (s : State) (p : PortId), (∀ j ∈ s.jobs, j.phase ≠ .hostRead ∧ j.phase ≠ .ordering) → (∀ e ∈ s.qps, e.2.reading = none) →
    exec (.pcieFailedTraining p) s = .next (s.setPort p { s.port p with
      dlUp := false, rate := 0, width := 0, flit := false, inL1 := false, belowRated := false,
      retrainCount := satInc 8 (s.port p).retrainCount })) ∧
  (∀ (s : State) (p : PortId) (f : Nat),
    ∃ u, exec (.busMasterEnableSet p f) s = .next u ∧ u.fn p f = { s.fn p f with bme := true } ∧ u.slots = s.slots ∧ u.jobs = s.jobs) ∧
  (∀ (s : State) (p : PortId) (f : Nat), (∀ j ∈ s.jobs, j.phase ≠ .hostRead ∧ j.phase ≠ .ordering) →
    exec (.bmeClear p f) s = .next (s.setFn p f { s.fn p f with bme := false })) ∧
  (∀ (s : State) (p : PortId) (n : Nat), n ≤ 4095 →
    exec (.vfEnableSet p n) s = .next (s.setPort p { s.port p with numVfs := n })) ∧
  (∀ (s : State) (p : PortId) (f v : Nat), v ∈ (s.fn p f).pba → (s.fn p f).msixEnable = true → (s.fn p f).funcMask = false →
    v ∉ (s.fn p f).unmasked →
    exec (.msixUnmask p f v) s = .next ((s.setFn p f { s.fn p f with
      unmasked := v :: (s.fn p f).unmasked, pba := (s.fn p f).pba.filter (· != v) }).send (.msix p f v))) ∧
  (∀ (s : State) (p : PortId) (f v : Nat), v ∉ (s.fn p f).pba → v ∉ (s.fn p f).unmasked →
    exec (.msixUnmask p f v) s = .next (s.setFn p f { s.fn p f with unmasked := v :: (s.fn p f).unmasked })) ∧
  (∀ (s : State) (p : PortId) (f : Nat), f ≠ 0 → s.jobs = [] → (s.bindOf ⟨p, true, f⟩).valid = true →
    (s.bindOf ⟨p, true, f⟩).twin = false →
    ∃ t, exec (.flr p f) s = .next t ∧ t.fn p f = {} ∧
      t.mbx ⟨p, true, f⟩ = { doneCount := (s.mbx ⟨p, true, f⟩).doneCount, opArea := (s.mbx ⟨p, true, f⟩).opArea } ∧
      (t.port p).errStatus = 0 ∧ (t.port p).errFunc = 0 ∧ t.slots = s.slots ∧ t.regs = s.regs) ∧
  (∀ (s : State) (p : PortId), ∃ t, exec (.perstAssert p) s = .next t ∧ (t.port p).perst = true ∧ (t.port p).funcs = [] ∧
    (t.port p).numVfs = 0 ∧ (t.port p).errStatus = 0 ∧ (t.port p).errFunc = 0) ∧
  (∀ (s : State) (p : PortId), (s.port p).perst = true → s.mode = .service → s.moon.dormantTaken = false →
    ∃ t, exec (.perstDeassert p) s = .next t ∧ t.port p = { s.port p with perst := false } ∧ t.mode = .service ∧
      (∀ n, (s.qp n).bind = ⟨p, false, 0⟩ → (s.qp n).state = .stopped → (t.qp n).state = .active) ∧ t.slots = s.slots ∧
      t.jobs = s.jobs) ∧
  (∀ (s : State) (p : PortId), (s.port p).perst = true → s.mode = .dormant → s.moon.corePower = true → s.moon.onVbat = false →
    (s.reg R.PWR_WAKE_CFG).testBit (4 + p.num) = true →
    ∃ t, exec (.perstDeassert p) s = .next t ∧ t.mode = .startup ∧ t.boot.step = 1 ∧ (t.port p).perst = false)

/-- Doorbells outside HUSH (from R38, R45, R62, R64, R65). A tail in range is loaded into SQ_TAIL; on an ACTIVE queue pair
that may fetch, with no read outstanding and a tag free, the read of the slots that it shows, at most 33 and none past the
end of the ring, is issued at SQ_BASE + 64 × SQ_HEAD; a tail out of range is counted in DB_BAD. A head within the entries
posted is loaded into CQ_HEAD, another is counted in DB_BAD. A doorbell of no queue pair sets DB_STRAY. On a queue pair of
class 1 to 3 no other queue pair and no command changes. The read of a submission entry of class 1 to 3 returns, while no
other read waits for a tag (from R66, R71, R72): a failed read leaves the queue pair FAULTED with the cause in
HPT_ERR_STATUS; a whole entry that passes the checks enters flight and SQ_HEAD moves past its slots. -/
def Obligations.QueueRingsMove : Prop :=
  (∀ (s : State) (b : BindId) (q v n : Nat), bindLive s b = true → s.mode ≠ .hush → qpnOf s b q = some n →
    (s.qp n).state ≠ .faulted → v < 2 ^ (s.qp n).sqLog2 →
    ∃ u, exec (.sqTailDoorbell b q v) s = .next u ∧ (u.qp n).sqTail = v ∧ (u.qp n).sqHead = (s.qp n).sqHead ∧
      (u.qp n).dbBad = (s.qp n).dbBad ∧ u.slots = s.slots ∧
      ((s.qp n).cls ≠ 0 → u.jobs = s.jobs ∧ ∀ m, m ≠ n → u.qp m = s.qp m)) ∧
  (∀ (s : State) (b : BindId) (q v n : Nat), bindLive s b = true → s.mode = .service → s.moon.dormantTaken = false →
    qpnOf s b q = some n → (s.qp n).state = .active → (s.qp n).cls ≠ 0 → (s.qp n).keptHeader = none → (s.qp n).reading = none →
    (s.qp n).bind = b → canDma s b = true → cqSpace s n = true → tagFree s b.port (s.qp n).cls = true →
    v < 2 ^ (s.qp n).sqLog2 → v ≠ (s.qp n).sqHead → (s.qp n).sqHead < v →
    ∃ u, exec (.sqTailDoorbell b q v) s = .next u ∧ (u.qp n).reading = some s.clk ∧
      readMsg s b ((s.qp n).sqBase + 64 * (s.qp n).sqHead) (64 * min (v - (s.qp n).sqHead) 33) ∈ u.out) ∧
  (∀ (s : State) (b : BindId) (q v n : Nat), bindLive s b = true → s.mode ≠ .hush → qpnOf s b q = some n →
    (s.qp n).state ≠ .faulted → 2 ^ (s.qp n).sqLog2 ≤ v →
    ∃ u, exec (.sqTailDoorbell b q v) s = .next u ∧ (u.qp n).dbBad = min 255 ((s.qp n).dbBad + 1) ∧
      (u.qp n).sqTail = (s.qp n).sqTail ∧ u.jobs = s.jobs ∧ ∀ m, m ≠ n → u.qp m = s.qp m) ∧
  (∀ (s : State) (b : BindId) (q v n : Nat), bindLive s b = true → s.mode ≠ .hush → qpnOf s b q = some n →
    (s.qp n).state ≠ .faulted → v < 2 ^ (s.qp n).cqLog2 →
    ringCount (s.qp n).cqHead v (2 ^ (s.qp n).cqLog2) ≤ ringCount (s.qp n).cqHead (s.qp n).cqTail (2 ^ (s.qp n).cqLog2) →
    ∃ u, exec (.cqHeadDoorbell b q v) s = .next u ∧ (u.qp n).cqHead = v ∧ (u.qp n).dbBad = (s.qp n).dbBad ∧
      u.jobs = s.jobs ∧ ∀ m, m ≠ n → u.qp m = s.qp m) ∧
  (∀ (s : State) (b : BindId) (q v n : Nat), bindLive s b = true → s.mode ≠ .hush → qpnOf s b q = some n →
    (s.qp n).state ≠ .faulted → v < 2 ^ (s.qp n).cqLog2 →
    ringCount (s.qp n).cqHead (s.qp n).cqTail (2 ^ (s.qp n).cqLog2) < ringCount (s.qp n).cqHead v (2 ^ (s.qp n).cqLog2) →
    ∃ u, exec (.cqHeadDoorbell b q v) s = .next u ∧ (u.qp n).cqHead = (s.qp n).cqHead ∧
      (u.qp n).dbBad = min 255 ((s.qp n).dbBad + 1) ∧ u.jobs = s.jobs ∧ ∀ m, m ≠ n → u.qp m = s.qp m) ∧
  (∀ (s : State) (b : BindId) (q v : Nat), bindLive s b = true → s.mode ≠ .hush → qpnOf s b q = none →
    exec (.sqTailDoorbell b q v) s =
      .next (setErr (dispatchMerge (mmio s b.port b.func (0x1000 + 8 * q) 4 v) b) b.port errDbStray b.func)) ∧
  (∀ (s : State) (n : Nat) (r : DmaResult) (bit : Nat), canFetch s n = true → (s.qp n).reading ≠ none →
    rangeFault s.mem (qpLines n).1 (qpLines n).2 = none → (∀ k ∈ s.jobs, k.unsent = false) →
    (r = .ur ∧ bit = errUrCa ∨ r = .ca ∧ bit = errUrCa ∨ r = .poisoned ∧ bit = errPoisoned) →
    exec (.sqEntryFetch n r) s =
      .next (setErr (s.setQp n { s.qp n with state := .faulted, reading := none }) (s.qp n).bind.port bit (s.qp n).bind.func)) ∧
  (∀ (s : State) (n : Nat) (bs : Bytes), canFetch s n = true → (s.qp n).reading ≠ none →
    rangeFault s.mem (qpLines n).1 (qpLines n).2 = none → (∀ k ∈ s.jobs, k.unsent = false) →
    (s.qp n).cls ≠ 0 → (s.qp n).keptHeader = none →
    framingBad (s.qp n) (bs.take 64) = false → bs.length = 64 * entrySlots (bs.take 64) →
    entrySlots (bs.take 64) ≤ ringCount (s.qp n).sqHead (s.qp n).sqTail (2 ^ (s.qp n).sqLog2) →
    entryCheck s (entryJob s n (s.qp n) bs) bs = none →
    ∃ t, exec (.sqEntryFetch n (.data bs)) s = .next t ∧ t.jobs = s.jobs ++ [entryJob s n (s.qp n) bs] ∧
      (t.qp n).sqHead = ((s.qp n).sqHead + entrySlots (bs.take 64)) % 2 ^ (s.qp n).sqLog2 ∧
      (t.qp n).nextSeq = (s.qp n).nextSeq + 1 ∧ (t.qp n).sqTail = (s.qp n).sqTail ∧
      (∀ m, m ≠ n → t.qp m = s.qp m) ∧ t.slots = s.slots ∧ t.tenants = s.tenants)

/-- The scheduler (from R73, R79, R80, R81, R84). An eligible job that the round robin has reached, with a dispatcher free
for it and, in class 0, a credit at the vault arbiter, starts and holds the dispatcher; a tenant's job of class 1 to 3 is
charged one operation and its cost to the buckets that its grant limits. A job of class 1 to 3 does not start while a class
0 job is eligible, nor a job whose participant needs more rounds than the head of another participant of its class. A
tenant's buckets and its spoof limit, and the coalescing timer (from R78, R81, R261, R269). A refill adds the rates' share
up to the depths. A tenant whose spoofs reach its limit is QUIESCING, keeps its count, and its uncommitted work is to be
aborted. The coalescing timer raises the queue pair's vector and starts a new count. -/
def Obligations.SchedulerAndBuckets : Prop :=
  (∀ (s : State) (o : Origin) (j : Job) (d : Nat), s.job? o = some j → eligible s j = true →
    (j.cls ≠ 0 → ∀ i ∈ s.jobs, i.cls = 0 → eligible s i = false) → reached s j = true →
    (j.cls = 0 → creditFree s .vault = true) → dispatcherFor s j = some d →
    ∃ t, exec (.schedJobStart o) s = .next t ∧ t.job? o = some { j with phase := .started } ∧ (d, o) ∈ t.sched.dispatchers ∧
      t.slots = s.slots ∧ t.qps = s.qps ∧ t.regs = s.regs ∧ t.mode = s.mode) ∧
  (∀ (s : State) (o : Origin) (j : Job) (d : Nat), s.job? o = some j → eligible s j = true → j.owner = false → j.cls ≠ 0 →
    (∀ i ∈ s.jobs, i.cls = 0 → eligible s i = false) → reached s j = true → dispatcherFor s j = some d →
    (∀ n, j.origin ≠ .internal n) → (s.ten j.tenant).grant.opRate ≠ 0 → (s.ten j.tenant).grant.byteRate ≠ 0 →
    ∃ t, exec (.schedJobStart o) s = .next t ∧
      t.ten j.tenant = { s.ten j.tenant with opBalance := (s.ten j.tenant).opBalance - 1,
                                             byteBalance := (s.ten j.tenant).byteBalance - costOf j } ∧
      (∀ n, n ≠ j.tenant → t.ten n = s.ten n)) ∧
  (∀ (s : State) (o : Origin) (j i : Job), s.job? o = some j → j.cls ≠ 0 → i ∈ s.jobs → i.cls = 0 → eligible s i = true →
    exec (.schedJobStart o) s = .next s) ∧
  (∀ (s : State) (o : Origin) (j i : Job), s.job? o = some j → i ∈ s.jobs → i.cls = j.cls → eligible s i = true →
    isHead s i = true → tenantRounds s i < tenantRounds s j → (∀ k ∈ s.jobs, k.origin = j.origin → k = j) →
    exec (.schedJobStart o) s = .next s) ∧
  (∀ (s : State) (t us : Nat), (s.ten t).state ≠ .free → (s.ten t).grant.opRate ≠ 0 → (s.ten t).grant.byteRate ≠ 0 →
    ∃ u, exec (.tenantBucketRefill t us) s = .next u ∧ u.ten t = { s.ten t with
      opBalance := min ((s.ten t).opBalance + ((s.ten t).grant.opRate * us / 1000000 : Nat)) (s.ten t).grant.opDepth,
      byteBalance := min ((s.ten t).byteBalance + ((s.ten t).grant.byteRate * us : Nat)) ((s.ten t).grant.byteDepth * 1024 : Nat) } ∧
      (∀ n, n ≠ t → u.ten n = s.ten n) ∧ u.jobs = s.jobs ∧ u.slots = s.slots) ∧
  (∀ (s : State) (t : Nat), (s.ten t).state = .active → (s.ten t).grant.spoofLimit ≠ 0 →
    (s.ten t).grant.spoofLimit ≤ (s.ten t).spoofCount →
    ∃ u, exec (.spoofLimitReached t) s = .next u ∧ (u.ten t).state = .quiescing ∧ (u.ten t).spoofCount = (s.ten t).spoofCount ∧
      (∀ j ∈ u.jobs, isTenantWork t j = true → j.committed = false → j.abortReq = true) ∧
      (∀ n, n ≠ t → u.ten n = s.ten n)) ∧
  (∀ (s : State) (n : Nat), (s.qp n).state ≠ .free → (s.qp n).uncoalesced ≠ 0 → (s.qp n).coalTime ≠ 0 →
    ∃ u, exec (.coalTimeExpire n) s = .next u ∧ u.qp n = { s.qp n with uncoalesced := 0 } ∧ u.jobs = s.jobs ∧
      ((s.fn (s.qp n).bind.port (s.qp n).bind.func).msixEnable = true → (s.port (s.qp n).bind.port).dlUp = true →
        (s.fn (s.qp n).bind.port (s.qp n).bind.func).bme = true → (s.fn (s.qp n).bind.port (s.qp n).bind.func).funcMask = false →
        (s.fn (s.qp n).bind.port (s.qp n).bind.func).unmasked.contains (s.qp n).vector = true →
        .msix (s.qp n).bind.port (s.qp n).bind.func (s.qp n).vector ∈ u.out))

/-- QP_CREATE and QP_DELETE in a mailbox (from R66, R68, R70): a create that passes its checks writes the lowest FREE
context (the model's choice of number, assumption 166) and returns its number; a delete of an idle queue pair of its binding
clears the context; one of a FREE context ends with E_NOT_OWNER. No other queue pair and no slot changes. -/
def Obligations.QueuePairsCreatedAndDeleted : Prop :=
  (∀ (s : State) (b : BindId) (j : Job) (n : Nat), Runs s (.mailbox b) C.QP_CREATE 0 j → Plain j → qpCreateCheck s j = none →
    freeQpn s = some n →
    ∃ u, exec (.qpCreate (.mailbox b)) s = .next u ∧ Ends u b S.OK (leBytes 2 n ++ zeros 6) ∧ u.qp n =
      { state := .active, bind := j.bind, localIndex := u16 j.ops 0, cls := u8 j.ops 2, sqLog2 := u8 j.ops 3,
        cqLog2 := u8 j.ops 4, sqBase := u64 j.ops 0x10, cqBase := u64 j.ops 0x18,
        vector := if j.bind.vf then u16 j.ops 8 else j.bind.n,
        coalCount := if u8 j.ops 2 = 0 then 1 else u8 j.ops 5, coalTime := if u8 j.ops 2 = 0 then 0 else u8 j.ops 6,
        cqPhase := true, tenant := if j.owner then 0 else j.tenant } ∧
      (∀ m, m ≠ n → u.qp m = s.qp m) ∧ u.slots = s.slots) ∧
  (∀ (s : State) (b : BindId) (j : Job), Runs s (.mailbox b) C.QP_DELETE 0 j → Plain j → (s.qp (u16 j.ops 0)).state ≠ .free →
    (s.qp (u16 j.ops 0)).bind = j.bind → qpJobs s (u16 j.ops 0) = [] →
    ((s.qp (u16 j.ops 0)).state = .active → (s.qp (u16 j.ops 0)).sqHead = (s.qp (u16 j.ops 0)).sqTail) →
    ∃ u, exec (.qpDelete (.mailbox b)) s = .next u ∧ Ends u b S.OK [] ∧ u.qp (u16 j.ops 0) = {} ∧
      (∀ m, m ≠ u16 j.ops 0 → u.qp m = s.qp m) ∧ u.slots = s.slots) ∧
  (∀ (s : State) (b : BindId) (j : Job), Runs s (.mailbox b) C.QP_DELETE 0 j → Plain j → (s.qp (u16 j.ops 0)).state = .free →
    ∃ u, exec (.qpDelete (.mailbox b)) s = .next u ∧ Ends u b S.E_NOT_OWNER [] ∧ u.qps = s.qps)

/-- Host writes to registers (from R5, R38, R83, R276). SCH_CTRL.CLR_STATS clears the counters and MAX_LAT of SCH_DMD_STAT;
a lock bit is set, and once set it stays set, the write again changing no register, measurement or command; the class
weights, once locked, keep their value; the read-only MEM_ERR_INFO keeps its value; an access of a size or alignment that
R38 does not allow is ignored and counted. -/
def Obligations.RegisterWritesFollowAccess : Prop :=
  (∀ (s : State), s.mode ≠ .dormant → ∃ t, exec .schClrStats s = .next t ∧
    t.reg R.SCH_DMD_STAT = s.reg R.SCH_DMD_STAT % 2 ^ 8 ∧ (∀ a, a ≠ R.SCH_DMD_STAT → t.reg a = s.reg a) ∧ t.slots = s.slots) ∧
  (∀ (s : State), s.mode ≠ .dormant → (s.reg R.SCH_CTRL).testBit 0 = true →
    ∃ t, exec .schLock s = .next t ∧ t.regs = s.regs ∧ t.meas = s.meas ∧ t.jobs = s.jobs) ∧
  (∀ (s : State), s.mode ≠ .dormant → (s.reg R.CLR_CTRL).testBit 0 = true →
    ∃ t, exec .clrLock s = .next t ∧ t.regs = s.regs ∧ t.meas = s.meas ∧ t.jobs = s.jobs) ∧
  (∀ (s : State), s.mode ≠ .dormant → (s.reg R.SCH_CTRL).testBit 0 = false →
    ∃ t, exec .schLock s = .next t ∧ t.reg R.SCH_CTRL = 1) ∧
  (∀ (s : State), s.mode ≠ .dormant → (s.reg R.CLR_CTRL).testBit 0 = false →
    ∃ t, exec .clrLock s = .next t ∧ t.reg R.CLR_CTRL = 1) ∧
  (∀ (s : State) (p : PortId) (v : Nat), s.mode ≠ .dormant → s.mode ≠ .hush → (s.reg R.SCH_CTRL).testBit 0 = true →
    ∃ t, exec (.registerWrite (.control p) R.SCH_CLASS_WEIGHT 8 v) s = .next t ∧ t.reg R.SCH_CLASS_WEIGHT % 2 ^ 24 =
      s.reg R.SCH_CLASS_WEIGHT % 2 ^ 24) ∧
  (∀ (s : State) (p : PortId) (v : Nat), s.mode ≠ .dormant → s.mode ≠ .hush →
    ∃ t, exec (.registerWrite (.control p) R.MEM_ERR_INFO 8 v) s = .next t ∧
      t.reg R.MEM_ERR_INFO = s.reg R.MEM_ERR_INFO % 2 ^ 64 ∧ t.slots = s.slots ∧ t.jobs = s.jobs) ∧
  (∀ (s : State) (p : PortId) (off size v : Nat), s.mode ≠ .dormant → s.mode ≠ .hush → aligned off size = false →
    exec (.registerWrite (.control p) off size v) s = .next (setErr s p errSize 0))

/-- TENANT_SET_GRANT, TENANT_BIND and TENANT_UNBIND once the tenant record stands (from R260, R261, R263, R264): the grant
and the balances cut to the new depths; the primary or twin binding and its entry; the context without its primary, the
binding's entry and mailbox empty. No other context, no slot and no queue pair changes. -/
def Obligations.TenantGrantsAndBindings : Prop :=
  (∀ (s : State) (b : BindId) (j : Job), Runs s (.mailbox b) C.TENANT_SET_GRANT 1 j → Plain j → j.owner = true →
    ∃ u, exec (.tenantSetGrant (.mailbox b)) s = .next u ∧ Ends u b S.OK [] ∧
      u.ten (u16 j.ops 0) = { s.ten (u16 j.ops 0) with
        grant := grantAt j.ops 8,
        opBalance := min (s.ten (u16 j.ops 0)).opBalance (u32 j.ops 28),
        byteBalance := min (s.ten (u16 j.ops 0)).byteBalance (u32 j.ops 36 * 1024 : Nat) } ∧
      (∀ m, m ≠ u16 j.ops 0 → u.ten m = s.ten m) ∧ u.slots = s.slots ∧ u.qps = s.qps) ∧
  (∀ (s : State) (b : BindId) (j : Job), Runs s (.mailbox b) C.TENANT_BIND 1 j → Plain j → j.owner = true →
    u8 j.ops 4 = 0 →
    ∃ u, exec (.tenantBind (.mailbox b)) s = .next u ∧ Ends u b S.OK [] ∧
      u.ten (u16 j.ops 0) = { s.ten (u16 j.ops 0) with
        primary := some (namedBind j.ops), pasid := leNat (slice j.ops 8 3) % 2 ^ 20 } ∧
      u.bindOf (namedBind j.ops) =
        { valid := true, twin := false, tenant := u16 j.ops 0, pasid := leNat (slice j.ops 8 3) % 2 ^ 20 } ∧
      (∀ m, m ≠ u16 j.ops 0 → u.ten m = s.ten m) ∧ u.slots = s.slots ∧ u.qps = s.qps) ∧
  (∀ (s : State) (b : BindId) (j : Job), Runs s (.mailbox b) C.TENANT_BIND 1 j → Plain j → j.owner = true →
    u8 j.ops 4 = 1 →
    ∃ u, exec (.tenantBind (.mailbox b)) s = .next u ∧ Ends u b S.OK [] ∧
      u.ten (u16 j.ops 0) = { s.ten (u16 j.ops 0) with
        twin := some (namedBind j.ops), twinPasid := leNat (slice j.ops 8 3) % 2 ^ 20 } ∧
      u.bindOf (namedBind j.ops) =
        { valid := true, twin := true, tenant := u16 j.ops 0, pasid := leNat (slice j.ops 8 3) % 2 ^ 20 } ∧
      (∀ m, m ≠ u16 j.ops 0 → u.ten m = s.ten m) ∧ u.slots = s.slots ∧ u.qps = s.qps) ∧
  (∀ (s : State) (b : BindId) (j : Job), Runs s (.mailbox b) C.TENANT_UNBIND 1 j → Plain j → j.owner = true →
    (s.ten (u16 j.ops 0)).primary = some (namedBind j.ops) →
    ∃ u, exec (.tenantUnbind (.mailbox b)) s = .next u ∧ Ends u b S.OK [] ∧
      u.ten (u16 j.ops 0) = { s.ten (u16 j.ops 0) with primary := none, pasid := 0 } ∧
      u.bindOf (namedBind j.ops) = {} ∧ (((namedBind j.ops).port = b.port → (namedBind j.ops).key ≠ b.key) → u.mbx (namedBind j.ops) = {}) ∧
      (∀ m, m ≠ u16 j.ops 0 → u.ten m = s.ten m) ∧ u.slots = s.slots ∧ u.qps = s.qps)

/-- The life of a tenant (from R255, R262, R265, R266, R267): the commit of TENANT_CREATE leaves it QUIESCED with full
buckets and its root key in the target slot, and answers index, slot, version and key check value; TENANT_ENABLE, its order
undisputed, makes a bound QUIESCED tenant ACTIVE and its stopped queue pairs with it; TENANT_QUIESCE of an ACTIVE tenant
with work in flight makes it QUIESCING, stops its queue pairs and waits; when the last work has ended it is QUIESCED; the
last stage of TENANT_RESET clears the pending mark and leaves the tenant in place, that of TENANT_DESTROY leaves a FREE
context; both answer the counts of trees, slots, queue pairs and manifests. TENANT_INFO and POLICY_QUERY (from R268): the
owner reads any context in use; the owner learns the verdict of R159 on a slot (FLAGS, VERSION and the Diamond count of the
answer are left open here); neither changes a context, a slot or a queue pair. -/
def Obligations.TenantLifecycleAndQueries : Prop :=
  (∀ (s : State) (b : BindId) (j : Job) (n h : Nat), Runs s (.mailbox b) C.TENANT_CREATE 1 j → Plain j → j.owner = true →
    j.committed = true → j.target = some (n, h) →
    ∃ u, exec (.tenantCreate (.mailbox b)) s = .next u ∧
      Ends u b S.OK (leBytes 2 (listGet 0 j.args 0) ++ leBytes 2 n ++ leBytes 2 (listGet 0 j.args 3) ++ zeros 2
        ++ kcv (listGet [] j.keep 0)) ∧
      u.ten (listGet 0 j.args 0) = { state := .quiesced, grant := grantAt j.ops 32, rootSlot := n,
                                     opBalance := u32 j.ops 52, byteBalance := (u32 j.ops 60 * 1024 : Nat) } ∧
      (u.slot n).active = some { material := listGet [] j.keep 0, colour := listGet 0 j.args 0, dest := 12, usage := 112,
                                 cls := 4, origin := listGet 0 j.args 2, version := listGet 0 j.args 3 }) ∧
  (∀ (s : State) (b : BindId) (j : Job), Runs s (.mailbox b) C.TENANT_ENABLE 0 j → Plain j → Undisputed s j → j.owner = true →
    u16 j.ops 0 < 4096 → (s.ten (u16 j.ops 0)).state = .quiesced → (s.ten (u16 j.ops 0)).primary ≠ none →
    ∃ u, exec (.tenantEnable (.mailbox b)) s = .next u ∧ Ends u b S.OK [] ∧
      u.ten (u16 j.ops 0) = { s.ten (u16 j.ops 0) with state := .active, spoofCount := 0 } ∧
      (∀ n, (s.qp n).bind.isOwner = false → (s.qp n).tenant = u16 j.ops 0 → (s.qp n).state = .stopped →
        (u.qp n).state = .active) ∧
      (∀ m, m ≠ u16 j.ops 0 → u.ten m = s.ten m) ∧ u.slots = s.slots) ∧
  (∀ (s : State) (b : BindId) (j : Job), Runs s (.mailbox b) C.TENANT_QUIESCE 0 j → Plain j → Undisputed s j → j.owner = true →
    u16 j.ops 0 < 4096 → (s.ten (u16 j.ops 0)).state = .active → u8 j.ops 2 = 0 → u8 j.ops 3 = 0 → zeroAt j.ops 4 4 = true →
    noWork s (u16 j.ops 0) = false →
    ∃ u, exec (.tenantQuiesce (.mailbox b)) s = .next u ∧ (∃ k, u.job? (.mailbox b) = some k ∧ k.phase = .quiesce) ∧
      u.ten (u16 j.ops 0) = { s.ten (u16 j.ops 0) with state := .quiescing, jobsEnded := 0, jobsAborted := 0 } ∧
      (∀ n, (s.qp n).bind.isOwner = false → (s.qp n).tenant = u16 j.ops 0 → (s.qp n).state = .active →
        u.qp n = { s.qp n with state := .stopped })) ∧
  (∀ (s : State) (t : Nat), (s.ten t).state = .quiescing → (∀ j ∈ s.jobs, isTenantWork t j = false) →
    (∀ j ∈ s.jobs, j.code = C.TENANT_QUIESCE → j.phase ≠ .quiesce) →
    exec (.tenantQuiesced t) s = .next (s.setTen t { s.ten t with state := .quiesced })) ∧
  (∀ (s : State) (b : BindId) (j : Job), Runs s (.mailbox b) C.TENANT_RESET 4 j → Plain j → j.owner = true →
    ∃ u, exec (.tenantReset (.mailbox b)) s = .next u ∧
      Ends u b S.OK (leBytes 1 (listGet 0 j.args 0) ++ zeros 1 ++ leBytes 2 (listGet 0 j.args 1) ++ leBytes 2 (listGet 0 j.args 2)
        ++ leBytes 2 (listGet 0 j.args 3)) ∧
      u.ten (u16 j.ops 0) = { s.ten (u16 j.ops 0) with pendingMark := .none } ∧ u.slots = s.slots) ∧
  (∀ (s : State) (b : BindId) (j : Job), Runs s (.mailbox b) C.TENANT_DESTROY 4 j → Plain j → j.owner = true →
    ∃ u, exec (.tenantDestroy (.mailbox b)) s = .next u ∧
      Ends u b S.OK (leBytes 1 (listGet 0 j.args 0) ++ zeros 1 ++ leBytes 2 (listGet 0 j.args 1) ++ leBytes 2 (listGet 0 j.args 2)
        ++ leBytes 2 (listGet 0 j.args 3)) ∧
      u.ten (u16 j.ops 0) = {} ∧ (∀ m, m ≠ u16 j.ops 0 → u.ten m = s.ten m) ∧ u.slots = s.slots) ∧
  (∀ (s : State) (b : BindId) (j : Job), Runs s (.mailbox b) C.TENANT_INFO 0 j → Plain j → j.owner = true →
    u16 j.ops 0 < 4096 → (s.ten (u16 j.ops 0)).state ≠ .free → zeroAt j.ops 2 6 = true →
    ∃ u, exec (.tenantInfo (.mailbox b)) s = .next u ∧ Ends u b S.OK (tenantInfoBytes s j (u16 j.ops 0)) ∧
      u.tenants = s.tenants ∧ u.slots = s.slots ∧ u.qps = s.qps) ∧
  (∀ (s : State) (b : BindId) (j : Job), Runs s (.mailbox b) C.POLICY_QUERY 0 j → Plain j → Undisputed s j → j.owner = true →
    u8 j.ops 2 ≤ 7 → u8 j.ops 3 ≤ 7 → zeroAt j.ops 4 4 = true →
    ∃ u, exec (.policyQuery (.mailbox b)) s = .next u ∧
      (∃ fl v d, Ends u b S.OK (leBytes 1 0xFF ++ leBytes 1 fl ++ leBytes 2 (verdict s j (u16 j.ops 0) (u8 j.ops 2) (u8 j.ops 3))
        ++ leBytes 2 v ++ leBytes 1 d ++ zeros 9)) ∧
      u.tenants = s.tenants ∧ u.slots = s.slots ∧ u.qps = s.qps)

/-- A key enters an empty slot (from R146, R149, R153, R162, R167, R168). KEY_GENERATE of the owner, of a symmetric class,
draws the material from instance 4,096, with the template's CLASS, DEST and USAGE, COLOUR 0xF001, ORIGIN 0 and VERSION 1.
KEY_DERIVE of the owner, of a CLASS 1 key, computes the material from the parent, with ORIGIN 1, VERSION 1 and EXPORTABLE
only where both parent and template have it. KEY_UNWRAP of the owner, of an EXPORT blob read whole, writes the material that
the blob opens to, with ORIGIN 2, the blob's VERSION and COLOUR 0xF001, or ends with the status of a blob that does not
open. KEY_IMPORT_PUBLIC of a public key read whole writes a valid one as a public-key record, with no material, ORIGIN 2 and
VERSION 1, and ends with E_KEY_INVALID for another. No other slot's active key changes. -/
def Obligations.KeysEnterSlots : Prop :=
  (∀ (s : State) (b : BindId) (j : Job) (n : Nat), Runs s (.mailbox b) C.KEY_GENERATE 0 j → Plain j → Undisputed s j →
    j.owner = true → j.target = none → n = u16 j.ops 0 → 64 ≤ n → n < 192 → s.slot n = {} →
    (templateAt j.ops 8).rsvdOk = true → zeroAt j.ops 3 5 = true → u8 j.ops 2 = 0 → (templateAt j.ops 8).cls ≤ 2 →
    (templateAt j.ops 8).size < 8 →
    attrsSuit (templateAt j.ops 8).cls (templateAt j.ops 8).size (templateAt j.ops 8).dest (templateAt j.ops 8).usage = true →
    (s.drbgs.get {} 4096).inst = true → (s.drbgs.get {} 4096).requests < 2 ^ 19 → recordsUsed s ≤ 32768 →
    ∃ u h, exec (.keyGenerate (.mailbox b)) s = .next u ∧ Ends u b S.OK (keyResult n 1) ∧ (u.slot n).active = some h ∧
      h.material = (List.range (privLen (templateAt j.ops 8).cls (templateAt j.ops 8).size)).map
        (Config.drbgOut (s.drbgs.get {} 4096).kv (privLen (templateAt j.ops 8).cls (templateAt j.ops 8).size)) ∧
      h.cls = (templateAt j.ops 8).cls ∧ h.dest = (templateAt j.ops 8).dest ∧ h.usage = (templateAt j.ops 8).usage ∧
      h.colour = 0xF001 ∧ h.origin = 0 ∧ h.version = 1 ∧ (∀ m, m ≠ n → u.slot m = s.slot m)) ∧
  (∀ (s : State) (b : BindId) (j : Job) (n p : Nat) (k : SlotHalf), Runs s (.mailbox b) C.KEY_DERIVE 0 j → Plain j →
    Undisputed s j → j.owner = true → j.target = none → n = u16 j.ops 2 → 64 ≤ n → n < 192 → s.slot n = {} →
    p = u16 j.ops 0 → 64 ≤ p → p < 192 → (s.slot p).active = some k → k.act = true → k.colour = 0xF001 → k.cls = 1 →
    k.usage &&& 16 = 16 → k.record = none → k.pubRecord = none → s.keyed = true →
    (templateAt j.ops 8).rsvdOk = true → zeroAt j.ops 6 2 = true → u8 j.ops 4 = 0 → u8 j.ops 5 = 0 → zeroAt j.ops 16 64 = true →
    (templateAt j.ops 8).cls = 1 → (templateAt j.ops 8).size = 0 →
    attrsSuit 1 0 (templateAt j.ops 8).dest (templateAt j.ops 8).usage = true → recordsUsed s ≤ 32768 →
    ∃ u h, exec (.keyDerive (.mailbox b)) s = .next u ∧ Ends u b S.OK (keyResult n 1) ∧ (u.slot n).active = some h ∧
      h.material = kdf k.material (ascii "GV-KD") (beBytes 2 k.version ++ slice j.ops 8 8) 256 ∧ h.origin = 1 ∧
      h.version = 1 ∧ h.exportable = ((templateAt j.ops 8).exportable && k.exportable) ∧ (∀ m, m ≠ n → u.slot m = s.slot m)) ∧
  (∀ (s : State) (b : BindId) (j : Job) (n : Nat) (wk : SlotHalf), Runs s (.mailbox b) C.KEY_UNWRAP 1 j → Plain j →
    j.owner = true → j.overtaken = none → u8 j.ops 3 = 3 → u8 j.ops 2 = 0 → n = u16 j.ops 0 → 65 ≤ n → n < 192 →
    j.target = some (n, 0) → (s.slot n).active = none → s.keyed = true →
    u16 j.ops 4 = 64 → (s.slot 64).active = some wk → wk.act = true → wk.colour = 0xF001 → wk.record = none →
    wk.pubRecord = none → wk.cls = 1 → wk.dest = 8 → wk.usage = 64 →
    blobFormatOk (j.data.headD []) 3 = true → u8 (j.data.headD []) 2 = 0x10 →
    attrsSuit 1 0 (u8 (j.data.headD []) 3) (u8 (j.data.headD []) 4) = true → recordsUsed s ≤ 32768 →
    ∃ u, exec (.keyUnwrap (.mailbox b)) s = .next u ∧ (∀ m, m ≠ n → (u.slot m).active = (s.slot m).active) ∧
      (∀ mat, openBlob (j.data.headD []) wk.material 3 = (S.OK, mat) → mat.length = 32 →
        Ends u b S.OK (keyResult n (u16 (j.data.headD []) 16)) ∧ (∃ h, (u.slot n).active = some h ∧ h.material = mat ∧
          h.origin = 2 ∧ h.version = u16 (j.data.headD []) 16 ∧ h.colour = 0xF001)) ∧
      (∀ st mat, openBlob (j.data.headD []) wk.material 3 = (st, mat) → st ≠ S.OK →
        Ends u b st [] ∧ (u.slot n).active = none)) ∧
  (∀ (s : State) (b : BindId) (j : Job) (n : Nat), Runs s (.mailbox b) C.KEY_IMPORT_PUBLIC 1 j → Plain j →
    j.overtaken = none → j.target = some (n, 0) → j.data.headD [] ≠ [] → recordsUsed s < 32768 →
    rangeFault s.mem (recordLines (freeHandle (handlesUsed s) 32768 0)).1 (((j.data.headD []).length + 63) / 64) = none →
    ∃ u, exec (.keyImportPublic (.mailbox b)) s = .next u ∧ (∀ m, m ≠ n → (u.slot m).active = (s.slot m).active) ∧
      (Config.pubValid (templateAt j.ops 8).cls (templateAt j.ops 8).size (j.data.headD []) = true →
        Ends u b S.OK (keyResult n 1) ∧ (∃ h r, (u.slot n).active = some h ∧ h.pubRecord = some r ∧
          r.len = (j.data.headD []).length ∧ h.record = none ∧ h.material = [] ∧ h.origin = 2 ∧ h.version = 1)) ∧
      (Config.pubValid (templateAt j.ops 8).cls (templateAt j.ops 8).size (j.data.headD []) = false →
        Ends u b S.E_KEY_INVALID [] ∧ (u.slot n).active = (s.slot n).active))

/-- The states of a key (from R147, R161, R168, R170, R172, R173). KEY_PROVE of a symmetric pending half held inline, whose
KCV is the one expected or none is, sets PROVEN and returns the KCV; for another KCV it clears the half and ends with
E_PROVE_FAIL. KEY_COMMIT of a proven half at the VERSION named flips the pointer, clears the old half and counts VERSION;
KEY_DISCARD clears the pending half; KEY_DESTROY of a slot that no tree uses clears both halves; KEY_ATTR_SET of an unlocked
key clears the DEST, USAGE and EXPORTABLE bits named and sets LOCKED where asked. No other slot's active key changes. -/
def Obligations.KeyStatesMove : Prop :=
  (∀ (s : State) (b : BindId) (j : Job) (n : Nat) (p : SlotHalf), Runs s (.mailbox b) C.KEY_PROVE 0 j → Plain j →
    Undisputed s j → n = u16 j.ops 0 → n < 16384 → zeroAt j.ops 2 6 = true →
    slotCheck s j .use n (fun _ => true) 0 0 = none → (s.slot n).pending = some p → p.act = true → p.record = none →
    p.pubRecord = none → p.cls ≤ 2 → zeroAt j.ops 8 8 = true ∨ slice j.ops 8 8 = kcv p.material →
    ∃ u, exec (.keyProve (.mailbox b)) s = .next u ∧ Ends u b S.OK (kcv p.material) ∧
      u.slot n = { s.slot n with pending := some { p with proven := true }, lastOrder := C.KEY_PROVE,
                                 changes := (s.slot n).changes + 1 } ∧
      (∀ m, m ≠ n → u.slot m = s.slot m)) ∧
  (∀ (s : State) (b : BindId) (j : Job) (n : Nat) (p : SlotHalf), Runs s (.mailbox b) C.KEY_PROVE 0 j → Plain j →
    Undisputed s j → n = u16 j.ops 0 → n < 16384 → zeroAt j.ops 2 6 = true →
    slotCheck s j .use n (fun _ => true) 0 0 = none → (s.slot n).pending = some p → p.act = true → p.record = none →
    p.pubRecord = none → p.cls ≤ 2 → zeroAt j.ops 8 8 = false → slice j.ops 8 8 ≠ kcv p.material →
    ∃ u, exec (.keyProve (.mailbox b)) s = .next u ∧ Ends u b S.E_PROVE_FAIL [] ∧ (u.slot n).pending = none ∧
      (u.slot n).active = (s.slot n).active ∧ (∀ m, m ≠ n → (u.slot m).active = (s.slot m).active)) ∧
  (∀ (s : State) (b : BindId) (j : Job) (n : Nat) (a p : SlotHalf), Runs s (.mailbox b) C.KEY_COMMIT 0 j → Plain j →
    Undisputed s j → n = u16 j.ops 0 → n < 16384 → zeroAt j.ops 4 4 = true → slotCheck s j .use n (fun _ => true) 0 0 = none →
    (s.slot n).active = some a → a.version = u16 j.ops 2 → (s.slot n).pending = some p → p.proven = true →
    ∃ u, exec (.keyCommit (.mailbox b)) s = .next u ∧
      Ends u b S.OK (leBytes 2 (if a.version ≥ 0xFFFF then 1 else a.version + 1) ++ zeros 6) ∧
      u.slot n = { s.slot n with
        active := some { p with proven := false, version := if a.version ≥ 0xFFFF then 1 else a.version + 1 },
        pending := none, ptr := !(s.slot n).ptr, lastOrder := C.KEY_COMMIT, changes := (s.slot n).changes + 1 } ∧
      (∀ m, m ≠ n → u.slot m = s.slot m)) ∧
  (∀ (s : State) (b : BindId) (j : Job) (n : Nat), Runs s (.mailbox b) C.KEY_DISCARD 0 j → Plain j → Undisputed s j →
    n = u16 j.ops 0 → n < 16384 → zeroAt j.ops 2 6 = true → slotCheck s j .use n (fun _ => true) 0 0 = none →
    (s.slot n).pending ≠ none →
    ∃ u, exec (.keyDiscard (.mailbox b)) s = .next u ∧ Ends u b S.OK [] ∧
      u.slot n = { s.slot n with pending := none, lastOrder := C.KEY_DISCARD, changes := (s.slot n).changes + 1 } ∧
      (∀ m, m ≠ n → u.slot m = s.slot m)) ∧
  (∀ (s : State) (b : BindId) (j : Job) (n : Nat), Runs s (.mailbox b) C.KEY_DESTROY 0 j → Plain j → Undisputed s j →
    n = u16 j.ops 0 → destroyCheck s j n = none → treeOfSlot s n = none →
    ∃ u, exec (.keyDestroy (.mailbox b)) s = .next u ∧ Ends u b S.OK [] ∧ (u.slot n).active = none ∧
      (u.slot n).pending = none ∧ (∀ m, m ≠ n → u.slot m = s.slot m)) ∧
  (∀ (s : State) (b : BindId) (j : Job) (n : Nat) (a : SlotHalf), Runs s (.mailbox b) C.KEY_ATTR_SET 0 j → Plain j →
    Undisputed s j → n = u16 j.ops 0 → zeroAt j.ops 5 3 = true → u8 j.ops 4 / 4 = 0 →
    slotCheck s j .use n (fun _ => true) 0 0 = none →
    (s.slot n).active = some a → a.locked = false → (s.slot n).pending = none →
    ∃ u h, exec (.keyAttrSet (.mailbox b)) s = .next u ∧ (u.slot n).active = some h ∧ (u.mbx b).status = S.OK ∧
      h.dest = a.dest - (a.dest &&& u8 j.ops 2) ∧ h.usage = a.usage - (a.usage &&& u8 j.ops 3) ∧
      h.exportable = (a.exportable && !bitOf (u8 j.ops 4) 0) ∧ h.locked = bitOf (u8 j.ops 4) 1 ∧ h.material = a.material ∧
      h.version = a.version ∧ (∀ m, m ≠ n → u.slot m = s.slot m))

/-- Keys read and wrapped (from R149, R161, R165, R166). KEY_ATTR_READ returns both attribute words. KEY_PUBLIC writes the
public encoding of an active key of the identity store, or of no public-key record, and KEY_WRAP under the CDK the blob of
an inline tenant root key, through the submitter's own port to the host buffer, and their results give the lengths; no slot
changes. A job whose key was destroyed stops with E_SUPERSEDED, with the arbiter's outcome journalled, counted and recorded.
-/
def Obligations.KeyReadsAndWraps : Prop :=
  (∀ (s : State) (b : BindId) (j : Job) (n : Nat), Runs s (.mailbox b) C.KEY_ATTR_READ 0 j → Plain j → Undisputed s j →
    n = u16 j.ops 0 → zeroAt j.ops 2 6 = true → slotNamed s j.owner .attrRead n = true →
    slotAccess s j.owner j.tenant .attrRead n = true →
    ∃ u, exec (.keyAttrRead (.mailbox b)) s = .next u ∧ Ends u b S.OK (leBytes 8 (activeWord s n) ++ leBytes 8 (pendingWord s n)) ∧
      u.slots = s.slots) ∧
  (∀ (s : State) (b : BindId) (j : Job) (n : Nat) (h : SlotHalf), Runs s (.mailbox b) C.KEY_PUBLIC 0 j → Plain j →
    Undisputed s j → n = u16 j.ops 0 → zeroAt j.ops 3 13 = true → u8 j.ops 2 = 0 →
    refCheck s j (hostRef j.ops 16) 0 maxLen = none → (hostRef j.ops 16).port = 0 → canDma s j.bind = true →
    accessCheck s j .keyPublic n = none → (s.slot n).active = some h → h.act = true → 6 ≤ h.cls → h.record = none →
    h.pubRecord = none → h.pubKey ≠ [] → h.pubKey.length ≤ (hostRef j.ops 16).len →
    ∃ u, exec (.keyPublic (.mailbox b)) s = .next u ∧
      Ends u b S.OK (leBytes 4 h.pubKey.length ++ leBytes 2 h.version ++ zeros 2) ∧
      writeMsg s j.bind (hostRef j.ops 16).addr h.pubKey true ∈ u.out ∧ u.slots = s.slots) ∧
  (∀ (s : State) (b : BindId) (j : Job) (n : Nat) (h : SlotHalf) (k : Bytes), Runs s (.mailbox b) C.KEY_WRAP 0 j → Plain j →
    Undisputed s j → n = u16 j.ops 0 → u8 j.ops 2 = 1 → zeroAt j.ops 3 1 = true → u16 j.ops 4 = 0xFFFF →
    zeroAt j.ops 6 10 = true → refCheck s j (hostRef j.ops 16) 0 maxLen = none → (hostRef j.ops 16).port = 0 →
    canDma s j.bind = true → slotCheck s j .wrapRoot n (fun h => h.cls == 4) 0 0 = none → (s.slot n).active = some h →
    h.record = none → h.pubRecord = none → s.keyed = true → s.cdk = some k →
    (blobOf 1 h k).length ≤ (hostRef j.ops 16).len →
    ∃ u, exec (.keyWrap (.mailbox b)) s = .next u ∧
      Ends u b S.OK (leBytes 4 (blobOf 1 h k).length ++ zeros 4) ∧
      writeMsg s j.bind (hostRef j.ops 16).addr (blobOf 1 h k) true ∈ u.out ∧ u.slots = s.slots) ∧
  (∀ (s : State) (o : Origin) (j : Job) (c : Nat), s.job? o = some j → j.revokedBy = some c →
    exec (.engineRevokeStop o) s = .next (dropWith
      (recordStatus ((crossing s 0x06 0 0 (s.sched.orders.length + 1)).incRegField R.VLT_ARB_STAT 63 32) S.E_SUPERSEDED j c) j
      S.E_SUPERSEDED))

/-- A sealing command takes an engine (from R91, R96, R100, R119): waiting for one at stage 50, its lane settled and an
engine free for it, a SEAL gets the data key of its leaf and a nonce drawn for the attempt, a RECALL or VERIFY the data key
with the record's nonce, a DIGEST_ONLY no key; the read of the AAD, or without one of the source, is issued. -/
def Obligations.SealingTakesAnEngine : Prop :=
  (∀ (s : State) (o : Origin) (j : Job) (n : Nat) (leaf : Bytes) (r : HostRef), Runs s o C.SEAL 50 j → Undisputed s j →
    (∀ k ∈ s.jobs, k.origin = o → k = j) → anyUsable s j.cls j = true → laneOf s j = j.lane → engineFor s j = some n →
    j.keep = [] → leafCheck s j (specOf j).epoch (specOf j).index = none →
    pagesFault s.mem (s.tree (treeNum j.tenant (specOf j).epoch)).pages = none →
    slotCheck s j .use (s.tree (treeNum j.tenant (specOf j).epoch)).rootSlot (fun h => h.cls == 3) 1 1 = none →
    leafKey (s.tree (treeNum j.tenant (specOf j).epoch)).frontier (specOf j).index = some leaf →
    (s.drbgs.get {} (drbgOf j)).inst = true → (s.drbgs.get {} (drbgOf j)).requests < 2 ^ 19 →
    r = (if (specOf j).aad.len = 0 then (specOf j).src else (specOf j).aad) → canDma s (dmaBind s j r.port) = true →
    tagFree s (dmaBind s j r.port).port j.cls = true →
    ∃ u w, exec (.seal o) s = .next u ∧ (u.seng n).work = some w ∧ w.origin = o ∧
      w.nonce = (List.range 12).map (Config.drbgOut (s.drbgs.get {} (drbgOf j)).kv 12) ∧ w.dk = dataKey leaf w.nonce ∧
      w.tree = treeNum j.tenant (specOf j).epoch ∧ w.extent = (specOf j).index ∧
      readMsg s (dmaBind s j r.port) r.addr r.len ∈ u.out) ∧
  (∀ (s : State) (o : Origin) (j : Job) (n : Nat) (i : Instr) (leaf : Bytes) (r : HostRef),
    (i = .recall o ∧ Runs s o C.RECALL 50 j ∨ i = .verify o ∧ Runs s o C.VERIFY 50 j) → Undisputed s j →
    (∀ k ∈ s.jobs, k.origin = o → k = j) → anyUsable s j.cls j = true → laneOf s j = j.lane → engineFor s j = some n →
    j.keep = [] → leafCheck s j (specOf j).epoch (specOf j).index = none →
    pagesFault s.mem (s.tree (treeNum j.tenant (specOf j).epoch)).pages = none →
    slotCheck s j .use (s.tree (treeNum j.tenant (specOf j).epoch)).rootSlot (fun h => h.cls == 3) 1 2 = none →
    leafKey (s.tree (treeNum j.tenant (specOf j).epoch)).frontier (specOf j).index = some leaf →
    r = (if (specOf j).aad.len = 0 then (specOf j).src else (specOf j).aad) → canDma s (dmaBind s j r.port) = true →
    tagFree s (dmaBind s j r.port).port j.cls = true →
    ∃ u w, exec i s = .next u ∧ (u.seng n).work = some w ∧ w.origin = o ∧ w.nonce = slice (recordOf j) 32 12 ∧
      w.dk = dataKey leaf w.nonce ∧ w.tree = treeNum j.tenant (specOf j).epoch ∧ w.extent = (specOf j).index ∧
      readMsg s (dmaBind s j r.port) r.addr r.len ∈ u.out) ∧
  (∀ (s : State) (o : Origin) (j : Job) (n : Nat), Runs s o C.DIGEST_ONLY 50 j →
    (∀ k ∈ s.jobs, k.origin = o → k = j) → anyUsable s j.cls j = true → laneOf s j = j.lane → engineFor s j = some n →
    (hostRef j.ops 0).len ≠ 0 → canDma s (dmaBind s j (hostRef j.ops 0).port) = true →
    tagFree s (dmaBind s j (hostRef j.ops 0).port).port j.cls = true →
    ∃ u w, exec (.digestOnly o) s = .next u ∧ (u.seng n).work = some w ∧ w.origin = o ∧ w.dk = [] ∧
      readMsg s (dmaBind s j (hostRef j.ops 0).port) (hostRef j.ops 0).addr (hostRef j.ops 0).len ∈ u.out)

/-- A sealing job of a queue pair ends on its engine, which is free then (from R93, R97, R98, R101, R111): a SEAL whose
passes read one source writes the ciphertext to DST and the 128-byte record to RESULT, in both modes; a RECALL writes its
plaintext to DST whatever the tag; a DIGEST_ONLY writes its digest padded to 64 bytes to RESULT. A SEAL with both buffers on
its own port leaves no command behind. -/
def Obligations.SealingJobsEnd : Prop :=
  (∀ (s : State) (q m n : Nat) (j : Job) (w : SealWork) (src a t1 ct tag : Bytes), s.job? (.queue q m) = some j →
    j.phase = .engine → j.revokedBy = none → j.discard = false → j.wroteOther = false → j.code = C.SEAL →
    sealWorkOf s (.queue q m) = some (n, w) → w.attempt = 1 → (specOf j).mode ≤ 1 → src ≠ [] →
    j.data = (if (specOf j).aad.len = 0 then [] else [a]) ++ (if (specOf j).mode = 1 then [src, src] else [src]) →
    ((specOf j).aad.len = 0 → a = []) →
    t1 = tagOf 1 w.dk (ivOf (specOf j)) (contextBlock (specOf j) ++ a) [] src →
    ct = cipher (specOf j).mode w.dk (ivOf (specOf j)) (if (specOf j).mode = 1 then t1 else []) src →
    tag = (if (specOf j).mode = 1 then t1 else tagOf 0 w.dk (ivOf (specOf j)) (contextBlock (specOf j) ++ a) ct src) →
    canDma s (dmaBind s j (specOf j).dst.port) = true → canDma s (dmaBind s j j.result.port) = true →
    ∃ u, exec (.sealEngineJobDone (.queue q m)) s = .next u ∧
      writeMsg s (dmaBind s j (specOf j).dst.port) (specOf j).dst.addr ct true ∈ u.out ∧
      writeMsg s (dmaBind s j j.result.port) j.result.addr
        (sealRecord s j (specOf j) w tag (digestOf (specOf j).alg src)) false ∈ u.out ∧
      ((specOf j).dst.port = 0 ∧ j.result.port = 0 → u.job? (.queue q m) = none) ∧
      (∀ e ∈ u.sealEngines, e.2.work.map (·.origin) ≠ some (.queue q m))) ∧
  (∀ (s : State) (q m n : Nat) (j : Job) (w : SealWork) (ct a : Bytes), s.job? (.queue q m) = some j → j.phase = .engine →
    j.revokedBy = none → j.code = C.RECALL → sealWorkOf s (.queue q m) = some (n, w) →
    j.data = (if (specOf j).aad.len = 0 then [] else [a]) ++ [ct] → ct ≠ [] →
    canDma s (dmaBind s j (specOf j).dst.port) = true →
    ∃ u, exec (.sealEngineJobDone (.queue q m)) s = .next u ∧
      writeMsg s (dmaBind s j (specOf j).dst.port) (specOf j).dst.addr
        (cipher (specOf j).mode w.dk (ivOf (specOf j)) (slice (recordOf j) 48 16) ct) true ∈ u.out ∧
      (∀ e ∈ u.sealEngines, e.2.work.map (·.origin) ≠ some (.queue q m))) ∧
  (∀ (s : State) (q m n : Nat) (j : Job) (w : SealWork), s.job? (.queue q m) = some j → j.phase = .engine →
    j.revokedBy = none → j.discard = false → j.code = C.DIGEST_ONLY → sealWorkOf s (.queue q m) = some (n, w) →
    canDma s (dmaBind s j j.result.port) = true →
    ∃ u, exec (.sealEngineJobDone (.queue q m)) s = .next u ∧
      writeMsg s (dmaBind s j j.result.port) j.result.addr (fit 64 (digestOf (u8 j.ops 16) (j.data.headD []))) false ∈ u.out ∧
      (∀ e ∈ u.sealEngines, e.2.work.map (·.origin) ≠ some (.queue q m)))

/-- Seal engines (from R121, R125, R126, R129): a RESERVED engine parks a class 1 to 3 job at a slice boundary for class 0
work and resumes it after; a failed attempt of a class 1 to 3 job quarantines the engine and sends the job back for a rerun;
a drained engine is QUARANTINED; passed tests put an engine IN_SERVICE, failed ones in QUARANTINED or, the third time,
RETIRED; ENGINE_READMIT starts the tests and ENGINE_QUARANTINE the draining. -/
def Obligations.SealEnginesMove : Prop :=
  (∀ (s : State) (n : Nat) (w : SealWork) (j : Job), n < 144 → (s.seng n).work = some w → (s.seng n).reserved = true → w.cls ≠ 0 →
    (s.seng n).parked = none → laneWaits s (n / 12) = true → s.job? w.origin = some j → w.slice < sliceBoundaries j →
    exec (.reservedSlicePark n) s =
      .next (s.setSeng n { s.seng n with work := none, parked := some { w with slice := w.slice + 1 } })) ∧
  (∀ (s : State) (n : Nat) (w : SealWork), n < 144 → (s.seng n).work = none → (s.seng n).parked = some w →
    laneWaits s (n / 12) = false →
    exec (.parkedJobResume n) s = .next (s.setSeng n { s.seng n with work := some w, parked := none })) ∧
  (∀ (s : State) (n m cause : Nat) (w : SealWork) (j : Job) (i : Instr),
    (i = .engineAttemptFail n cause ∧ 1 ≤ cause ∧ cause ≤ 6 ∧ cause ≠ 5 ∨ i = .sealEngineWatchdog n ∧ cause = 5) →
    n < 144 → (s.seng n).state = .inService → (s.seng n).work = some w → (s.seng n).parked = none →
    s.job? w.origin = some j → j.revokedBy = none → attemptOf j < 3 → j.cls ≠ 0 → m < 144 → m ≠ n →
    (s.seng m).state = .inService → (∀ k ∈ s.jobs, k.code ≠ C.ENGINE_QUARANTINE) →
    ∃ u k, exec i s = .next u ∧ (u.seng n).state = .quarantined ∧ (u.seng n).lastCause = cause ∧ (u.seng n).work = none ∧
      (u.seng n).reserved = false ∧ (u.seng n).failCount = satInc 32 (s.seng n).failCount ∧ u.job? w.origin = some k ∧
      k.phase = .started ∧ k.stage = 50 ∧ attemptOf k = attemptOf j + 1 ∧ k.holds = []) ∧
  (∀ (s : State) (n : Nat), n < 144 → (s.seng n).state = .draining → (s.seng n).work = none → (s.seng n).parked = none →
    (∀ k ∈ s.jobs, k.code ≠ C.ENGINE_QUARANTINE) →
    ∃ u, exec (.engineDrained n) s = .next u ∧ (u.seng n).state = .quarantined ∧ (u.seng n).lastCause = 0x20) ∧
  (∀ (s : State) (n : Nat) (b : BindId) (j : Job), n < 144 → (s.seng n).state = .testing →
    engineWaiter s C.ENGINE_READMIT n .engineTest = some j → j.origin = .mailbox b → j.wroteOther = false → j.discard = false →
    ∃ u, exec (.engineTestDone n 0) s = .next u ∧ (u.seng n).state = .inService ∧
      Ends u b S.OK (readmitResult (EngState.inService).num (s.seng n).readmitFails 0)) ∧
  (∀ (s : State) (n failed : Nat), n < 144 → (s.seng n).state = .testing → failed ≠ 0 → failed < 128 →
    (∀ k ∈ s.jobs, k.code ≠ C.ENGINE_READMIT) →
    ∃ u, exec (.engineTestDone n failed) s = .next u ∧ (u.seng n).readmitFails = (s.seng n).readmitFails + 1 ∧
      (u.seng n).lastCause = 0x11 ∧
      (u.seng n).state = if (s.seng n).readmitFails + 1 ≥ 3 then .retired else .quarantined) ∧
  (∀ (s : State) (b : BindId) (j : Job), Runs s (.mailbox b) C.ENGINE_READMIT 0 j → u8 j.ops 0 < 144 →
    zeroAt j.ops 1 7 = true → (s.seng (u8 j.ops 0)).state = .quarantined →
    ∃ u k, exec (.engineReadmit (.mailbox b)) s = .next u ∧
      u.seng (u8 j.ops 0) = { s.seng (u8 j.ops 0) with state := .testing } ∧
      u.job? (.mailbox b) = some k ∧ k.phase = .engineTest ∧ k.args = [u8 j.ops 0] ∧
      (∀ m, m ≠ u8 j.ops 0 → u.seng m = s.seng m)) ∧
  (∀ (s : State) (b : BindId) (j : Job), Runs s (.mailbox b) C.ENGINE_QUARANTINE 0 j → u8 j.ops 0 < 144 →
    zeroAt j.ops 1 7 = true → (s.seng (u8 j.ops 0)).state = .inService →
    ∃ u k, exec (.engineQuarantine (.mailbox b)) s = .next u ∧ (u.seng (u8 j.ops 0)).state = .draining ∧
      (u.seng (u8 j.ops 0)).reserved = false ∧ u.job? (.mailbox b) = some k ∧ k.committed = true ∧ k.phase = .quiesce)

/-- Manifests (from R114, R115, R117): MANIFEST_OPEN, its order undisputed, gives an OPEN manifest under the next free
handle with an identifier drawn for it; MANIFEST_CLOSE with ABANDON and no seal outstanding frees it; a close without
ABANDON forms the header, at once when no seal is outstanding, or when the last one has ended. -/
def Obligations.ManifestsOpenAndClose : Prop :=
  (∀ (s : State) (b : BindId) (j : Job) (h id : Nat), Runs s (.mailbox b) C.MANIFEST_OPEN 0 j → Plain j → Undisputed s j →
    manOpenCheck j = none → manOpenSlots s j = none →
    (s.drbgs.get {} (drbgOf j)).inst = true → (s.drbgs.get {} (drbgOf j)).requests < 2 ^ 19 →
    h = nextHandle s 4097 s.nextManifest →
    id = u64 ((List.range 8).map (Config.drbgOut (s.drbgs.get {} (drbgOf j)).kv 8)) 0 →
    ∃ u, exec (.manifestOpen (.mailbox b)) s = .next u ∧ Ends u b S.OK (leBytes 2 h ++ zeros 6 ++ leBytes 8 id) ∧
      u.man h = { state := .opened, tenant := manHolder j, id := id, p384Slot := u16 j.ops 0, mldsaSlot := u16 j.ops 2,
                  capacity := u16 j.ops 4 }) ∧
  (∀ (s : State) (b : BindId) (j : Job), Runs s (.mailbox b) C.MANIFEST_CLOSE 0 j → Plain j → manCloseCheck s j = none →
    colourAllows s (manifestAccess j (u16 j.ops 0)) = true →
    rangeFault s.mem (manifestLines (u16 j.ops 0 - 1)).1 (manifestLines (u16 j.ops 0 - 1)).2 = none →
    bitOf (u8 j.ops 2) 0 = true → manBusy s (u16 j.ops 0) = false →
    ∃ u, exec (.manifestClose (.mailbox b)) s = .next u ∧ Ends u b S.OK (manResult (s.man (u16 j.ops 0)) 0) ∧
      u.man (u16 j.ops 0) = {}) ∧
  (∀ (s : State) (o : Origin) (j : Job), Runs s o C.MANIFEST_CLOSE 0 j → manCloseCheck s j = none →
    colourAllows s (manifestAccess j (u16 j.ops 0)) = true →
    rangeFault s.mem (manifestLines (u16 j.ops 0 - 1)).1 (manifestLines (u16 j.ops 0 - 1)).2 = none →
    bitOf (u8 j.ops 2) 0 = false → manBusy s (u16 j.ops 0) = false →
    ∃ u, exec (.manifestClose o) s = .next u ∧ (u.man (u16 j.ops 0)).state = .closing ∧
      (u.man (u16 j.ops 0)).header =
        some ((s.man (u16 j.ops 0)).header.getD (manHeader s (s.man (u16 j.ops 0))))) ∧
  (∀ (s : State) (h : Nat) (o : Origin) (j : Job), (s.man h).closer = some o → s.job? o = some j →
    (s.man h).state = .closing → j.phase = .quiesce → j.code = C.MANIFEST_CLOSE → u16 j.ops 0 = h → manBusy s h = false →
    bitOf (u8 j.ops 2) 0 = false →
    ∃ u, exec (.manifestHeaderForm h) s = .next u ∧ (u.man h).state = .closing ∧
      (u.man h).header = some ((s.man h).header.getD (manHeader s (s.man h))))

/-- DIGEST_MAC (from R132, R134, R136): with no ward waiting for a context, a job takes the lowest free context of a guard
unit and reads its message, without a key or with the key of its slot; its end returns the function of R136 and frees the
context; a job of more than 65,536 bytes gives its context up, with every guard context in use, for a ward that waits.
Measurement registers (from R137, R138, R140, R142, R143): MEAS_READ returns both banks and the count, MEAS_LOG_READ writes
log entries to OUT, and neither changes what is held; DGT_MR_SEL latches count and bank of the register selected;
MEAS_EXTEND of registers 28 to 31 takes a context of DGU_Q and reads DATA; its end extends both banks and the count in one
step, adds a log entry while there is room, and returns sequence number and count. -/
def Obligations.DigestsAndMeasurements : Prop :=
  (∀ (s : State) (b : BindId) (j : Job) (k : Nat), Runs s (.mailbox b) C.DIGEST_MAC 0 j → guardCtx s = some k →
    wardWaits s = false → u16 j.ops 18 = 0xFFFF → digestMacCheck s j = none → (hostRef j.ops 0).len ≠ 0 →
    canDma s (dmaBind s j (hostRef j.ops 0).port) = true → tagFree s (dmaBind s j (hostRef j.ops 0).port).port j.cls = true →
    ∃ u c, exec (.digestMac (.mailbox b)) s = .next u ∧ u.digests.look? k = some c ∧ c.origin = .mailbox b ∧
      c.alg = u8 j.ops 16 ∧ c.declLen = (hostRef j.ops 0).len ∧
      readMsg s (dmaBind s j (hostRef j.ops 0).port) (hostRef j.ops 0).addr (hostRef j.ops 0).len ∈ u.out) ∧
  (∀ (s : State) (b : BindId) (j : Job) (k : Nat) (h h' : SlotHalf), Runs s (.mailbox b) C.DIGEST_MAC 0 j → Undisputed s j →
    guardCtx s = some k → wardWaits s = false → u16 j.ops 18 ≠ 0xFFFF → digestMacCheck s j = none →
    (s.slot (u16 j.ops 18)).active = some h → openHalf s h = some h' → (hostRef j.ops 0).len ≠ 0 →
    canDma s (dmaBind s j (hostRef j.ops 0).port) = true → tagFree s (dmaBind s j (hostRef j.ops 0).port).port j.cls = true →
    ∃ u c m, exec (.digestMac (.mailbox b)) s = .next u ∧ u.digests.look? k = some c ∧ c.origin = .mailbox b ∧
      c.alg = u8 j.ops 16 ∧ c.declLen = (hostRef j.ops 0).len ∧ u.job? (.mailbox b) = some m ∧ m.keep = [h'.material] ∧
      readMsg s (dmaBind s j (hostRef j.ops 0).port) (hostRef j.ops 0).addr (hostRef j.ops 0).len ∈ u.out) ∧
  (∀ (s : State) (b : BindId) (j : Job) (k : Nat) (c : DigestCtx), s.job? (.mailbox b) = some j → j.code = C.DIGEST_MAC →
    j.phase = .engine → Plain j → ctxOf s (.mailbox b) = some (k, c) → c.yielded = false →
    ∃ u, exec (.digestJobDone (.mailbox b)) s = .next u ∧
      Ends u b S.OK (macResult c.alg (u8 j.ops 17) (j.keep.headD []) (slice j.ops 32 (u16 j.ops 20)) (j.data.headD [])) ∧
      (∀ e ∈ u.digests, e.2.origin ≠ .mailbox b)) ∧
  (∀ (s : State) (o : Origin) (k m : Nat) (c : DigestCtx), ctxOf s o = some (k, c) → k < 32 → guardCtx s = none →
    wardWaits s = true →
    c.ward = none → 65536 < c.declLen → freeCtx s 64 64 = some m →
    exec (.dguContextYield o) s = .next { s with digests := (s.digests.erase k).insert m { c with yielded := true } }) ∧
  (∀ (s : State) (b : BindId) (j : Job), Runs s (.mailbox b) C.MEAS_READ 0 j → Plain j → u8 j.ops 0 < 32 →
    zeroAt j.ops 1 7 = true →
    ∃ u, exec (.measRead (.mailbox b)) s = .next u ∧ Ends u b S.OK (fit 64 (s.mr (u8 j.ops 0)).sha3 ++
      fit 48 (s.mr (u8 j.ops 0)).sha384 ++ leBytes 4 (s.mr (u8 j.ops 0)).count ++ zeros 12) ∧ u.meas = s.meas) ∧
  (∀ (s : State) (b : BindId) (j : Job), Runs s (.mailbox b) C.MEAS_LOG_READ 0 j → Plain j → zeroAt j.ops 6 10 = true →
    1 ≤ u16 j.ops 4 → u16 j.ops 4 ≤ 1024 → refCheck s j (hostRef j.ops 16) (128 * u16 j.ops 4) maxLen = none →
    u32 j.ops 0 < s.measLog.length → canDma s (dmaBind s j (hostRef j.ops 16).port) = true →
    ∃ u, exec (.measLogRead (.mailbox b)) s = .next u ∧ u.measLog = s.measLog ∧ u.meas = s.meas ∧
      ((hostRef j.ops 16).port = 0 → Ends u b S.OK (leBytes 2 ((s.measLog.drop (u32 j.ops 0)).take (u16 j.ops 4)).length ++
        leBytes 2 s.measLog.length ++ leBytes 4 s.measNext ++ leBytes 1 (b2n s.measOverflow) ++ zeros 7)) ∧
      writeMsg s (dmaBind s j (hostRef j.ops 16).port) (hostRef j.ops 16).addr
        ((((s.measLog.drop (u32 j.ops 0)).take (u16 j.ops 4)).map logEntryBytes).flatten) true ∈ u.out) ∧
  (∀ (s : State) (v : Nat), ∃ u, exec (.dgtMrSelWrite v) s = .next u ∧ u.reg R.DGT_MR_SEL = v % 64 ∧
    u.reg R.DGT_MR_INFO = (s.mr (v % 32)).count % 2 ^ 32 ∧
    (∀ i, i < 8 → u.reg (R.DGT_MR_WORD_k + 8 * i) =
      u64 (if v.testBit 5 then fit 64 (s.mr (v % 32)).sha3 else fit 48 (s.mr (v % 32)).sha384 ++ zeros 16) (8 * i)) ∧
    u.meas = s.meas ∧ u.slots = s.slots) ∧
  (∀ (s : State) (b : BindId) (j : Job) (k : Nat), Runs s (.mailbox b) C.MEAS_EXTEND 0 j → quartzCtx s = some k →
    zeroAt j.ops 1 3 = true → zeroAt j.ops 8 8 = true → refCheck s j (hostRef j.ops 16) 0 16777216 = none →
    28 ≤ u8 j.ops 0 → u8 j.ops 0 ≤ 31 → (hostRef j.ops 16).len ≠ 0 →
    canDma s (dmaBind s j (hostRef j.ops 16).port) = true → tagFree s (dmaBind s j (hostRef j.ops 16).port).port j.cls = true →
    ∃ u c, exec (.measExtend (.mailbox b)) s = .next u ∧ u.digests.look? k = some c ∧ c.origin = .mailbox b ∧
      c.declLen = (hostRef j.ops 16).len ∧
      readMsg s (dmaBind s j (hostRef j.ops 16).port) (hostRef j.ops 16).addr (hostRef j.ops 16).len ∈ u.out ∧
      u.meas = s.meas) ∧
  (∀ (s : State) (b : BindId) (j : Job) (k : Nat) (c : DigestCtx), s.job? (.mailbox b) = some j → j.code = C.MEAS_EXTEND →
    j.phase = .engine → Plain j → ctxOf s (.mailbox b) = some (k, c) → c.yielded = false → s.measLog.length < 1024 →
    ∃ u, exec (.digestJobDone (.mailbox b)) s = .next u ∧
      u.mr (u8 j.ops 0) =
        { sha384 := sha384 (fit 48 (s.mr (u8 j.ops 0)).sha384 ++ sha384 (j.data.headD [])),
          sha3 := sha3_512 (fit 64 (s.mr (u8 j.ops 0)).sha3 ++ sha3_512 (j.data.headD [])),
          count := (s.mr (u8 j.ops 0)).count + 1 } ∧
      Ends u b S.OK (leBytes 4 s.measNext ++ leBytes 4 ((s.mr (u8 j.ops 0)).count + 1)) ∧ u.measNext = s.measNext + 1 ∧
      u.measLog = s.measLog ++ [{ index := u8 j.ops 0, source := mrSource (u8 j.ops 0), seq := s.measNext,
                                  eventType := u32 j.ops 4, d384 := sha384 (j.data.headD []),
                                  d512 := sha3_512 (j.data.headD []) }] ∧
      (∀ i, i ≠ u8 j.ops 0 → u.mr i = s.mr i))

/-- An arith command that waits to be placed takes the lowest free engine with its operation and its key, and the read of
its host buffer, where it has one, is issued; no other engine and no slot changes (from R211, R216, R217). An arith job ends
(from R213, R219, R220, R228): without an error in its operand memory the engine is wiped and free, a SIG_VERIFY answers
what the verification gives, a DECAPS or DERIVE_SHARED with OUT_KIND 0 its secret, and a SIGN below the bound of R222 writes
its signature to OUT; a failed check of any job but KEY_PROVE's releases nothing and counts a strike, and the second strike
quarantines the engine; 1,048,576 good jobs clear the strikes. -/
def Obligations.ArithJobsRun : Prop :=
  (∀ (s : State) (b : BindId) (j : Job) (n op code : Nat) (i : Instr), Runs s (.mailbox b) code 50 j →
    (i = .sign (.mailbox b) ∧ code = C.SIGN ∧ op = 1 ∨ i = .sigVerify (.mailbox b) ∧ code = C.SIG_VERIFY ∧ op = 2 ∨
     i = .deriveShared (.mailbox b) ∧ code = C.DERIVE_SHARED ∧ op = 4 ∨ i = .encaps (.mailbox b) ∧ code = C.ENCAPS ∧ op = 5 ∨
     i = .decaps (.mailbox b) ∧ code = C.DECAPS ∧ op = 6) →
    freeEngine s = some n → mayPlace s j = true → s.mode ≠ .hush →
    canDma s (dmaBind s j (hostRef j.ops 16).port) = true → tagFree s (dmaBind s j (hostRef j.ops 16).port).port j.cls = true →
    (s.drbgs.get {} (drbgOf j)).inst = true → (s.drbgs.get {} (drbgOf j)).requests < 2 ^ 19 →
    (s.drbgs.get {} 4098).inst = true → (s.drbgs.get {} 4098).requests < 2 ^ 19 →
    ∃ u w, exec i s = .next u ∧ (u.aeng n).work = some w ∧ w.origin = .mailbox b ∧ w.operation = op ∧
      (u.aeng n).keys = keyOf j ∧ (u.aeng n).step = 1 ∧
      (code ≠ C.ENCAPS →
        readMsg s (dmaBind s j (hostRef j.ops 16).port) (hostRef j.ops 16).addr (hostRef j.ops 16).len ∈ u.out) ∧
      (∀ m, m ≠ n → u.aeng m = s.aeng m) ∧ u.slots = s.slots) ∧
  (∀ (s : State) (b : BindId) (j : Job) (n st : Nat) (r : ArithReq) (res wire : Bytes), s.job? (.mailbox b) = some j →
    engineOf s (.mailbox b) = some n → j.phase = .arith → j.revokedBy = none → Plain j → j.arith = some r → r.sign = none →
    (j.code = C.SIG_VERIFY ∧ st = (if verifyDecision j then (arithOk s j).1 else S.E_SIG_INVALID) ∧ res = [] ∨
     j.code = C.DECAPS ∧ u8 j.ops 2 = 0 ∧ st = (arithOk s j).1 ∧ res = decapsKey j ∨
     j.code = C.DERIVE_SHARED ∧ u8 j.ops 2 = 0 ∧ sharedOk j = true ∧ st = (arithOk s j).1 ∧ res = sharedSecret j) →
    ∃ u, exec (.arithJobDone (.mailbox b) { wire := wire }) s = .next u ∧ Ends u b st res ∧ (u.aeng n).work = none ∧
      (u.aeng n).mem = [] ∧ (u.aeng n).table = [] ∧ (u.aeng n).rk = [] ∧ (u.aeng n).keys = [] ∧ (u.aeng n).sha = [] ∧
      (u.aeng n).keccak = []) ∧
  (∀ (s : State) (b : BindId) (j : Job) (n : Nat) (q : SignReq) (wire : Bytes), s.job? (.mailbox b) = some j →
    engineOf s (.mailbox b) = some n → j.phase = .arith → j.revokedBy = none → j.code = C.SIGN → signInputs j = some q →
    signIts j ≤ 128 → canDma s (dmaBind s j (hostRef j.ops 32).port) = true →
    ∃ u, exec (.arithJobDone (.mailbox b) { wire := wire }) s = .next u ∧
      writeMsg s (dmaBind s j (hostRef j.ops 32).port) (hostRef j.ops 32).addr (signOut q (rndOf j)) true ∈ u.out ∧
      (u.aeng n).work = none ∧ (u.aeng n).mem = []) ∧
  (∀ (s : State) (b : BindId) (j : Job) (n : Nat) (errs : List MemError) (wire : Bytes), s.job? (.mailbox b) = some j →
    engineOf s (.mailbox b) = some n → j.phase = .arith → j.revokedBy = none → Plain j → j.code ≠ C.KEY_PROVE →
    boundReached j = false → (j.code = C.DERIVE_SHARED → sharedOk j = true) →
    invariantPasses j errs (readResult (arithLane j) errs (arithOutput j)) = false →
    ∃ u, exec (.arithJobDone (.mailbox b) { errs := errs, wire := wire }) s = .next u ∧ Ends u b S.E_INVARIANT [] ∧ (u.aeng n).work = none ∧
      (u.aeng n).invStrikes = (s.aeng n).invStrikes + 1 ∧
      (1 ≤ (s.aeng n).invStrikes → (u.aeng n).state = .quarantined)) ∧
  (∀ (s : State) (n : Nat), n < 24 → 1048576 ≤ (s.aeng n).goodJobs →
    exec (.invStrikesClear n) s = .next (s.setAeng n { s.aeng n with invStrikes := 0, goodJobs := 0 }))

/-- Arith engines (from R129, R233 to R235): a fault or the watchdog quarantines the engine and sends its job back for
another attempt; passed tests put a wiped engine IN_SERVICE with its strikes cleared; ARI_READMIT wipes a QUARANTINED engine
and starts its tests, and is refused in another state; a drained engine is QUARANTINED; ARI_QUARANTINE starts the draining.
-/
def Obligations.ArithEnginesMove : Prop :=
  (∀ (s : State) (n m cause : Nat) (w : ArithWork) (j : Job) (r : ArithReq) (i : Instr),
    (i = .arithEngineFault n cause ∧ (cause = 0x04 ∨ cause = 0x06 ∨ cause = 0x08 ∨ cause = 0x09) ∨
     i = .arithWatchdog n ∧ cause = 0x05) →
    n < 24 → ((s.aeng n).state = .inService ∨ (s.aeng n).state = .draining) → (s.aeng n).work = some w →
    s.job? w.origin = some j → j.revokedBy = none → j.arith = some r → r.attempt < 3 → m < 24 → m ≠ n →
    (s.aeng m).state = .inService → (∀ k ∈ s.jobs, k.code ≠ C.ARI_QUARANTINE) →
    ∃ u k, exec i s = .next u ∧ (u.aeng n).state = .quarantined ∧ (u.aeng n).lastCause = cause ∧ (u.aeng n).work = none ∧
      (u.aeng n).failCount = satInc 16 (s.aeng n).failCount ∧ u.job? w.origin = some k ∧ k.stage = 50 ∧ k.phase = .started ∧
      k.arith = some { r with attempt := r.attempt + 1 }) ∧
  (∀ (s : State) (n : Nat), n < 24 → (s.aeng n).state = .testing → (∀ k ∈ s.jobs, k.code ≠ C.ARI_READMIT) →
    exec (.ariTestDone n 0) s = .next (s.setAeng n { s.aeng n with
      mem := [], table := [], rk := [], keys := [], sha := [], keccak := [], step := 0, state := .inService, invStrikes := 0,
      goodJobs := 0 })) ∧
  (∀ (s : State) (b : BindId) (j : Job), Runs s (.mailbox b) C.ARI_READMIT 0 j → u8 j.ops 0 < 24 → zeroAt j.ops 1 7 = true →
    (s.aeng (u8 j.ops 0)).state = .quarantined →
    ∃ u k, exec (.ariReadmit (.mailbox b)) s = .next u ∧ u.aeng (u8 j.ops 0) = { s.aeng (u8 j.ops 0) with
        mem := [], table := [], rk := [], keys := [], sha := [], keccak := [], step := 0, state := .testing } ∧
      u.job? (.mailbox b) = some k ∧ k.phase = .engineTest ∧ k.args = [u8 j.ops 0] ∧
      (∀ m, m ≠ u8 j.ops 0 → u.aeng m = s.aeng m)) ∧
  (∀ (s : State) (b : BindId) (j : Job), Runs s (.mailbox b) C.ARI_READMIT 0 j → Plain j → u8 j.ops 0 < 24 →
    zeroAt j.ops 1 7 = true → (s.aeng (u8 j.ops 0)).state ≠ .quarantined →
    ∃ u, exec (.ariReadmit (.mailbox b)) s = .next u ∧ Ends u b S.E_ARI_ENGINE_STATE []) ∧
  (∀ (s : State) (n : Nat), n < 24 → (s.aeng n).state = .draining → (s.aeng n).work = none →
    (∀ k ∈ s.jobs, k.code ≠ C.ARI_QUARANTINE) →
    exec (.ariDrained n) s =
      .next (recordEvent (s.setAeng n { s.aeng n with state := .quarantined, lastCause := 0x20 }) 0x8D02 n 0x20 2)) ∧
  (∀ (s : State) (b : BindId) (j : Job), Runs s (.mailbox b) C.ARI_QUARANTINE 0 j → u8 j.ops 0 < 24 → zeroAt j.ops 1 7 = true →
    (s.aeng (u8 j.ops 0)).state = .inService →
    ∃ u k, exec (.ariQuarantine (.mailbox b)) s = .next u ∧ u.aeng (u8 j.ops 0) = { s.aeng (u8 j.ops 0) with state := .draining } ∧
      u.job? (.mailbox b) = some k ∧ k.phase = .quiesce ∧ k.committed = true ∧ k.args = [u8 j.ops 0] ∧
      (∀ m, m ≠ u8 j.ops 0 → u.aeng m = s.aeng m))

/-- The anchor journal (from R198, R201, R205, R267): with no write waiting a token enters the bucket, up to 32; the
carry-forward copies a live entry of the oldest sector, unchanged on chip, with CARRIED set and the next JSEQ; the end of a
body's program starts its MARK; a first failed program kills the entry and its write waits for a token again; a retried
tombstone may be written again. -/
def Obligations.JournalWritesFollowTokens : Prop :=
  (∀ (s : State), s.agate.writes = [] →
    ∃ u, exec .journalTokenRefill s = .next u ∧ u.agate = { s.agate with tokens := min 32 (s.agate.tokens + 1) } ∧
      u.jobs = s.jobs ∧ u.slots = s.slots ∧ u.nor = s.nor) ∧
  (∀ (s : State) (ok : Bool) (a : Anchor) (l : List Anchor) (n : Nat), s.keyed = true → s.agate.writes = [] →
    s.agate.tokens ≠ 0 → oldestSector s = some n → liveEntries s n = a :: l →
    (anchorOf s a.uid).map (fun x => (x.batch, x.root)) = some (a.batch, a.root) →
    ∃ u e, exec (.journalCarryForward ok) s = .next u ∧ u.agate.tokens = s.agate.tokens - 1 ∧
      u.agate.head = (s.agate.head + 1) % 262144 ∧ u.agate.jseq = (s.agate.jseq + 1) % 2 ^ 32 ∧
      u.agate.journal.look? s.agate.head = some e ∧ e.flags = a.flags ||| 2 ∧ e.uid = a.uid ∧ e.root = a.root ∧
      e.batch = a.batch ∧ e.jseq = (s.agate.jseq + 1) % 2 ^ 32 ∧ e.mark = 0xFF ∧ u.agate.trees = s.agate.trees) ∧
  (∀ (s : State) (w : AnchorWrite) (n : Nat), s.agate.writes = [w] → w.pos = some n → w.marking = false →
    refreshing s (8192 + n / 64) = false →
    ∃ u, exec (.anchorProgramDone true) s = .next u ∧ u.agate = { s.agate with writes := [{ w with marking := true }] } ∧
      u.slots = s.slots ∧ u.jobs = s.jobs) ∧
  (∀ (s : State) (w : AnchorWrite) (n : Nat), s.agate.writes = [w] → w.pos = some n → w.attempt = 0 → s.agate.tokens = 0 →
    refreshing s (8192 + n / 64) = false →
    ∃ u, exec (.anchorProgramDone false) s = .next u ∧ u.agate.tokens = 0 ∧
      u.agate.journal.look? n = some { w.anchor with mark := 0 } ∧
      u.agate.writes = [{ w with pos := none, marking := false, token := false, attempt := 1 }]) ∧
  (∀ (s : State) (t : Nat) (w : AnchorWrite), s.agate.writes = [w] → w.attempt = 2 → w.tree / 16 = t →
    s.nor.remapFull = false → s.agate.tokens = 0 →
    ∃ u, exec (.tombstoneRetry t) s = .next u ∧ u.agate = { s.agate with writes := [{ w with attempt := 0 }] } ∧
      u.jobs = s.jobs ∧ u.slots = s.slots)

/-- The commands of the Agate unit (from R188, R189, R193, R195, R197, R206, R207): with a token at hand, no other write and
no carry-forward due, a new tree's anchor and, its order undisputed, a commit's next BATCH go to the head of the journal; a
load whose last checks pass leaves the tree READY with its frontier, one whose checks fail before the tenant record is
written ends with their status; an export writes the blob set of the current BATCH, and with UNLOAD leaves the tree
UNLOADED; a staged range with no seal job running and no holder to notice is listed at once; ANCHOR_STATUS changes nothing.
-/
def Obligations.AgateCommands : Prop :=
  (∀ (s : State) (b : BindId) (j : Job) (ps : List Nat), Runs s (.mailbox b) C.AGATE_TREE_CREATE 1 j → s.keyed = true →
    s.agate.writes = [] → s.agate.tokens ≠ 0 → carryNeeded s = false → newPages s (firstFrontier j) = some ps →
    ∃ u e, exec (.agateTreeCreate (.mailbox b)) s = .next u ∧ u.agate.tokens = s.agate.tokens - 1 ∧
      u.agate.head = (s.agate.head + 1) % 262144 ∧ u.agate.jseq = (s.agate.jseq + 1) % 2 ^ 32 ∧
      u.agate.journal.look? s.agate.head = some e ∧ e.batch = 0 ∧ e.epoch = u8 j.ops 0 ∧
      e.uid = u64 (listGet [] j.keep 2) 0 ∧ e.mark = 0xFF ∧ e.jseq = (s.agate.jseq + 1) % 2 ^ 32 ∧ u.slots = s.slots) ∧
  (∀ (s : State) (b : BindId) (j : Job) (n st : Nat) (f : List Node) (ps : List Nat), Runs s (.mailbox b) C.AGATE_LOAD n j → Plain j →
    (n = 3 ∨ n = 2 ∧ u16 j.ops 2 = 0xFFFF) → j.overtaken = none → loadAgain s j = (st, f, ps) →
    ∃ u, exec (.agateLoad (.mailbox b)) s = .next u ∧
      (st = S.OK →
        Ends u b S.OK (leBytes 6 (((anchorOf s (u64 (j.data.getLastD []) 16)).map (·.batch)).getD 0) ++ leBytes 2 ps.length ++
          leBytes 2 (treeNum j.tenant (u8 j.ops 0)) ++ zeros 6) ∧
        (u.tree (treeNum j.tenant (u8 j.ops 0))).state = .ready ∧
        (u.tree (treeNum j.tenant (u8 j.ops 0))).frontier = f ∧ (u.tree (treeNum j.tenant (u8 j.ops 0))).pages = ps ∧
        (u.tree (treeNum j.tenant (u8 j.ops 0))).uid = u64 (j.data.getLastD []) 16) ∧
      (n = 2 → st ≠ S.OK → Ends u b st [] ∧ u.agate.trees = s.agate.trees)) ∧
  (∀ (s : State) (b : BindId) (j : Job) (k : Tree) (bs : Bytes), Runs s (.mailbox b) C.AGATE_EXPORT 0 j → Plain j → Undisputed s j →
    k = s.tree (treeNum j.tenant (u8 j.ops 0)) → treeCheck s j (u8 j.ops 0) = none → pagesFault s.mem k.pages = none →
    refCheck s j (hostRef j.ops 16) (4176 * k.pages.length) maxLen = none →
    canDma s (dmaBind s j (hostRef j.ops 16).port) = true →
    bs = blobSet (((s.slot k.rootSlot).active.map (·.material)).getD []) (u8 j.ops 0) k.uid
      ((anchorOf s k.uid).getD {}).batch k.frontier →
    ∃ u, exec (.agateExport (.mailbox b)) s = .next u ∧
      ((hostRef j.ops 16).port = 0 → Ends u b S.OK (leBytes 6 ((anchorOf s k.uid).getD {}).batch ++ leBytes 2 k.pages.length ++
        leBytes 4 bs.length ++ zeros 4)) ∧
      (bitOf (u8 j.ops 1) 0 = false → u.agate = s.agate) ∧
      (bitOf (u8 j.ops 1) 0 = true → (u.tree (treeNum j.tenant (u8 j.ops 0))).state = .unloaded) ∧
      (bs ≠ [] → writeMsg s (dmaBind s j (hostRef j.ops 16).port) (hostRef j.ops 16).addr bs true ∈ u.out)) ∧
  (∀ (s : State) (b : BindId) (j : Job) (r : IdxRange) (k : Tree), Runs s (.mailbox b) C.SHRED_STAGE 0 j → Plain j → Undisputed s j →
    k = s.tree (treeNum j.tenant (u8 j.ops 0)) → stageCheck s j = none → rangeAt j.ops 8 = some r →
    (∀ e ∈ s.fabric.holders, e.1 ≠ k.uid) → (∀ n ∈ s.fabric.notices, n.origin ≠ .mailbox b) →
    (∀ m ∈ s.jobs, sealJob m = false) →
    ∃ u, exec (.shredStage (.mailbox b)) s = .next u ∧
      Ends u b S.OK (leBytes 6 (((anchorOf s k.uid).map (·.batch)).getD 0) ++ leBytes 2 (k.staged.length + 1) ++ zeros 8) ∧
      u.tree (treeNum j.tenant (u8 j.ops 0)) = { k with staged := k.staged ++ [r] }) ∧
  (∀ (s : State) (b : BindId) (j : Job) (k : Tree) (ps : List Nat), Runs s (.mailbox b) C.SHRED_COMMIT 0 j → Undisputed s j →
    k = s.tree (treeNum j.tenant (u8 j.ops 0)) → shredCommitCheck s j = none → s.agate.writes = [] → s.agate.tokens ≠ 0 →
    carryNeeded s = false → pagesFault s.mem k.pages = none → newPages s (puncture k.frontier k.staged) = some ps →
    ps.length * 4176 ≤ (hostRef j.ops 16).len →
    ∃ u e, exec (.shredCommit (.mailbox b)) s = .next u ∧ u.agate.tokens = s.agate.tokens - 1 ∧
      u.agate.journal.look? s.agate.head = some e ∧ e.batch = u48 j.ops 8 + 1 ∧ e.uid = k.uid ∧
      e.root = rootOf k.uid (u48 j.ops 8 + 1) (puncture k.frontier k.staged) ∧ e.mark = 0xFF) ∧
  (∀ (s : State) (b : BindId) (j : Job) (k : Tree) (a : Anchor), Runs s (.mailbox b) C.ANCHOR_STATUS 0 j → Plain j →
    s.keyed = true → u8 j.ops 0 < 16 → zeroAt j.ops 1 7 = true → j.owner = false →
    k = s.tree (treeNum j.tenant (u8 j.ops 0)) → k.state ≠ .free → a = (anchorOf s k.uid).getD {} →
    ∃ u, exec (.anchorStatus (.mailbox b)) s = .next u ∧
      Ends u b S.OK (leBytes 6 a.batch ++ leBytes 1 k.state.num ++ leBytes 1 a.flags ++ leBytes 2 k.staged.length ++
        leBytes 2 k.pages.length ++ leBytes 2 (treeNum j.tenant (u8 j.ops 0)) ++ zeros 2 ++ anchorBytes a) ∧
      u.agate = s.agate ∧ u.slots = s.slots)

/-- The NOR controller (from R503, R507, R511 to R513, R539): in SERVICE, firmware programs and erases outside the bank that
executes are queued in the bank of their sector, an erase in that bank is refused, a refresh is queued, a verify read goes
to the SRAM buffer, a suspended operation resumes, the age counters count a second, a refresh pass starts when due and takes
the next sector. -/
def Obligations.NorControllerOperations : Prop :=
  (∀ (s : State) (a src : Nat) (bs : Bytes), fwRuns s = true → s.mode = .service → a < 2 ^ 26 → bs ≠ [] →
    a % 256 + bs.length ≤ 256 → bankOf (a / 4096) ≠ execBank s → refreshing s (a / 4096) = false → notBlank s a bs = false →
    ∃ u, exec (.nvmProgram a src bs) s = .next u ∧ u.nor.ops = s.nor.ops ++ [{ bank := a / 4096 / 4096, job := .fwProgram a bs }] ∧
      u.nor.raw = s.nor.raw ∧ u.reg R.NVM_SRC = src % 2 ^ 19) ∧
  (∀ (s : State) (n : Nat), fwRuns s = true → s.mode = .service → n < 16384 → bankOf n ≠ execBank s → refreshing s n = false →
    ∃ u, exec (.nvmErase (4096 * n)) s = .next u ∧ u.nor.ops = s.nor.ops ++ [{ bank := n / 4096, job := .fwErase n }] ∧
      u.nor.raw = s.nor.raw) ∧
  (∀ (s : State) (n : Nat), fwRuns s = true → s.mode = .service → n < 16384 → bankOf n = execBank s →
    ∃ u, exec (.nvmErase (4096 * n)) s = .next u ∧ u.nor = { s.nor with last := S.E_NVM_SAME_BANK }) ∧
  (∀ (s : State) (n : Nat), fwRuns s = true → s.mode = .service → n < 16384 → refreshing s n = false →
    ∃ u x, exec (.nvmRefresh (4096 * n)) s = .next u ∧
      u.nor.ops = s.nor.ops ++ [{ bank := 1, job := .refresh n x 1 true }] ∧ u.nor.raw = s.nor.raw) ∧
  (∀ (s : State) (a len src : Nat), fwRuns s = true → s.mode = .service → a < 2 ^ 26 → len < 512 → src + len ≤ 2 ^ 19 →
    (∃ u, exec (.nvmReadProgramVerify a len src) s = .next u ∧ u.nor.last = S.OK ∧ u.nor.raw = s.nor.raw ∧
      ∀ i v, i < len → nvmByte s (a + i) = some v → u.nor.sram.get 0 (src + i) = v) ∧
    (∃ u, exec (.nvmReadEraseVerify a len src) s = .next u ∧ u.nor.last = S.OK ∧ u.nor.raw = s.nor.raw ∧
      ∀ i v, i < len → nvmByte s (a + i) = some v → u.nor.sram.get 0 (src + i) = v)) ∧
  (∀ (s : State) (k : Nat), exec (.norResume k) s = .next { s with nor := { s.nor with
      ops := s.nor.ops.map fun p => if p.bank = k then { p with suspended := false } else p } }) ∧
  (∀ (s : State), s.mode = .service → s.nor.ageSecs + 1 < 86400 → hottest s ≤ 340 →
    exec .norRefreshTick s = .next { s with nor := { s.nor with
      eqAge := s.nor.eqAge + 1000, life := s.nor.life + 7, ageSecs := s.nor.ageSecs + 1 } }) ∧
  (∀ (s : State), s.mode = .service → 43800 * 3600000 ≤ s.nor.eqAge → s.nor.passActive = false →
    ∃ u, exec .refreshPassStart s = .next u ∧ u.nor.passActive = true ∧ u.nor.eqAge = 0 ∧ u.nor.nextSector = 0) ∧
  (∀ (s : State) (n : Nat), s.mode = .service → s.nor.passActive = true → s.nor.ops = [] →
    nextRefresh s 16384 s.nor.nextSector = n → n < 16384 →
    ∃ u x, exec .refreshSector s = .next u ∧ u.nor.ops = [{ bank := 1, job := .refresh n x 1 false }] ∧ u.nor.nextSector = n)

/-- A program only clears bits, also of bytes that hold programmed values; an erase sets every byte of one sector to 0xFF;
no other byte of the NOR changes (R501). -/
def Obligations.ProgramsClearBitsErasesSetOnes : Prop :=
  (∀ (s : State) (a : Nat) (bs : Bytes) (k : Nat), s.nor.ops = [{ bank := k, job := .fwProgram a bs }] →
    ∃ u, exec (.norOpDone k true) s = .next u ∧ u.nor.ops = [] ∧ u.nor.last = S.OK ∧
      (∀ i, i < bs.length → norByte u (a + i) = norByte s (a + i) &&& bs.getD i 0) ∧
      (∀ x, (x < a ∨ a + bs.length ≤ x) → norByte u x = norByte s x)) ∧
  (∀ (s : State) (n k : Nat), s.nor.ops = [{ bank := k, job := .fwErase n }] →
    ∃ u, exec (.norOpDone k true) s = .next u ∧ u.nor.ops = [] ∧ u.nor.last = S.OK ∧
      (∀ x, x / 4096 = n → norByte u x = 0xFF) ∧ (∀ x, x / 4096 ≠ n → norByte u x = norByte s x))

/-- Noise sources and the conditioner (from R236, R237, R239, R240): an OFFLINE source whose start-up test of 4,096 samples
passes, also when it is retested, is HEALTHY; one whose samples fail a health test, at start-up or in operation, is OFFLINE,
RETIRED at its third failure, the failure is counted by its test, and the block being filled is discarded; 1,024 raw bits
that pass the tests make one block of the queue; in HUSH and DORMANT no block is made. The test registers (from R250, R251):
RNG_TEST takes a write only in FACTORY, and a change of MODE empties the queue and uninstantiates every instance; RNG_RAW
reads raw bits in BLANK and FACTORY, the LFSR's bits in mode 1, and 0 elsewhere. -/
def Obligations.EntropySources : Prop :=
  (∀ (s : State) (n : Nat) (bs : Bytes) (h : HealthTest) (i : Instr),
    (i = .noiseStartupTestDone n bs ∧ s.mode ≠ .startup ∧ (s.sources.get {} n).retestDue = false ∨
     i = .noiseSourceRetest n bs ∧ (s.sources.get {} n).retestDue = true) →
    s.mode ≠ .hush → n < 8 → (s.sources.get {} n).state = .offline → bs.length = 512 → healthBits {} (bitsOf bs) = (h, none) →
    ∃ u, exec i s = .next u ∧
      u.sources.get {} n = { s.sources.get {} n with state := .healthy, retestDue := false, testing := false, health := h } ∧
      (∀ m, m ≠ n → u.sources.get {} m = s.sources.get {} m) ∧ u.entropy = s.entropy ∧ u.drbgs = s.drbgs ∧ u.slots = s.slots) ∧
  (∀ (s : State) (n k : Nat) (bs : Bytes) (h : HealthTest) (i : Instr), s.mode ≠ .startup → s.mode ≠ .hush → s.mode ≠ .dormant →
    (i = .noiseSourceFail n bs ∧ (s.sources.get {} n).state = .healthy ∧
       healthBits (s.sources.get {} n).health (bitsOf bs) = (h, some k) ∨
     i = .noiseStartupTestDone n bs ∧ (s.sources.get {} n).state = .offline ∧ (s.sources.get {} n).retestDue = false ∧
       bs.length = 512 ∧ healthBits {} (bitsOf bs) = (h, some k)) →
    n < 8 →
    ∃ u, exec i s = .next u ∧
      u.sources.get {} n = { state := if (s.sources.get {} n).fails + 1 ≥ 3 then .retired else .offline
                             fails := (s.sources.get {} n).fails + 1
                             retestDue := decide ((s.sources.get {} n).fails + 1 < 3) } ∧
      (∀ m, m ≠ n → u.sources.get {} m = s.sources.get {} m) ∧
      (k = 2 → u.regField R.RNG_HEALTH_COUNT 63 48 = satInc 16 (s.regField R.RNG_HEALTH_COUNT 63 48)) ∧
      (k ≠ 2 → u.regField R.RNG_HEALTH_COUNT 47 32 = satInc 16 (s.regField R.RNG_HEALTH_COUNT 47 32)) ∧
      (i = .noiseSourceFail n bs → s.filling = true →
        u.regField R.RNG_HEALTH_COUNT 15 0 = satInc 16 (s.regField R.RNG_HEALTH_COUNT 15 0)) ∧
      u.entropy = s.entropy ∧ u.drbgs = s.drbgs ∧ u.slots = s.slots) ∧
  (∀ (s : State) (raw : Bytes) (srcs : NMap NoiseSource), entropyState s ≠ 2 → s.filling = true → s.mode = .service →
    raw.length = 128 → rngMode s = 0 → (∀ e ∈ s.drbgs, e.2.wanted = false) → testInput s (bitsOf raw) = (srcs, []) →
    exec (.conditionerBlock raw) s = .next { s with
      sources := srcs
      entropy := s.entropy ++ [sha384 raw]
      filling := decide ((s.entropy ++ [sha384 raw]).length < 1365)
      jobs := s.jobs.map (fun j => if j.phase = .rng then { j with phase := .started } else j) }) ∧
  (∀ (s : State) (raw : Bytes), s.mode = .dormant ∨ s.mode = .hush → (∀ e ∈ s.drbgs, e.2.wanted = false) →
    exec (.conditionerBlock raw) s = .next s) ∧
  (∀ (s : State) (v : Nat), s.lcs.state ≠ 1 → exec (.rngTestWrite v) s = .next s) ∧
  (∀ (s : State) (v : Nat), s.lcs.state = 1 → v % 4 ≠ s.regField R.RNG_TEST 1 0 →
    ∃ u, exec (.rngTestWrite v) s = .next u ∧ u.regField R.RNG_TEST 1 0 = v % 4 ∧ u.entropy = [] ∧ u.filling = true ∧
      u.lfsr = 1 ∧ (∀ e ∈ u.drbgs, e.2.inst = false) ∧ u.sources = s.sources ∧ u.slots = s.slots) ∧
  (∀ (s : State) (v : Nat), s.lcs.state = 1 → v % 4 = s.regField R.RNG_TEST 1 0 →
    ∃ u, exec (.rngTestWrite v) s = .next u ∧ u.regField R.RNG_TEST 1 0 = v % 4 ∧ u.regField R.RNG_TEST 6 4 = v / 16 % 8 ∧
      u.entropy = s.entropy ∧ u.drbgs = s.drbgs) ∧
  (∀ (s : State) (x : Nat), 1 < s.lcs.state → exec (.rngRawRead x) s = .next (s.send (.readData 0))) ∧
  (∀ (s : State) (x : Nat), s.lcs.state ≤ 1 → rngMode s ≠ 1 →
    exec (.rngRawRead x) s = .next (s.send (.readData (x % 2 ^ 64)))) ∧
  (∀ (s : State) (x : Nat), s.lcs.state = 1 → rngMode s = 1 →
    exec (.rngRawRead x) s = .next ({ s with lfsr := (lfsrBits 64 s.lfsr).2 }.send
      (.readData (leNat (packBits 8 (lfsrBits 64 s.lfsr).1)))))

/-- Draws (from R245, R246, R248): RNG_GENERATE writes the bytes of its instance to OUT, 65,536 for each request at most,
after a reseed when it asks for one, and counts the requests; a draw that has waited its time ends with E_RNG_STARVED and is
counted. -/
def Obligations.DrawsFollowTheInstance : Prop :=
  (∀ (s : State) (b : BindId) (j : Job) (d : Drbg), Runs s (.mailbox b) C.RNG_GENERATE 0 j → Plain j →
    rngGenerateCheck s j = none → bitOf (u8 j.ops 4) 0 = false → d = s.drbgs.get {} (drbgOf j) → d.inst = true →
    d.requests < 2 ^ 19 → canDma s (dmaBind s j (hostRef j.ops 16).port) = true →
    ∃ u bs, exec (.rngGenerate (.mailbox b)) s = .next u ∧ bs.length = u32 j.ops 0 ∧
      ((hostRef j.ops 16).port = 0 → Ends u b S.OK (leBytes 4 (u32 j.ops 0) ++ leBytes 4 d.reseeds)) ∧
      writeMsg s (dmaBind s j (hostRef j.ops 16).port) (hostRef j.ops 16).addr bs true ∈ u.out ∧
      (u.drbgs.get {} (drbgOf j)).requests = d.requests + (u32 j.ops 0 + 65535) / 65536 ∧
      (u32 j.ops 0 ≤ 65536 → bs = (List.range (u32 j.ops 0)).map (Config.drbgOut d.kv (u32 j.ops 0)) ∧
        (u.drbgs.get {} (drbgOf j)).kv = Config.drbgNext d.kv (u32 j.ops 0)) ∧
      (∀ m, m ≠ drbgOf j → u.drbgs.get {} m = s.drbgs.get {} m) ∧ u.entropy = s.entropy ∧ u.slots = s.slots) ∧
  (∀ (s : State) (b : BindId) (j : Job) (d : Drbg), Runs s (.mailbox b) C.RNG_GENERATE 0 j → Plain j → s.mode ≠ .replay →
    rngGenerateCheck s j = none → bitOf (u8 j.ops 4) 0 = true → d = s.drbgs.get {} (drbgOf j) → d.inst = true →
    85 < s.entropy.length → canDma s (dmaBind s j (hostRef j.ops 16).port) = true →
    ∃ u, exec (.rngGenerate (.mailbox b)) s = .next u ∧
      ((hostRef j.ops 16).port = 0 → Ends u b S.OK (leBytes 4 (u32 j.ops 0) ++ leBytes 4 (satInc 32 d.reseeds))) ∧
      (u.drbgs.get {} (drbgOf j)).requests = (u32 j.ops 0 + 65535) / 65536 ∧
      (u.drbgs.get {} (drbgOf j)).reseeds = satInc 32 d.reseeds ∧
      (u32 j.ops 0 ≤ 65536 → (u.drbgs.get {} (drbgOf j)).kv =
        Config.drbgNext (Config.drbgReseed d.kv (s.entropy.headD [])) (u32 j.ops 0)) ∧
      u.entropy = s.entropy.drop 1) ∧
  (∀ (s : State) (b : BindId) (j : Job), s.job? (.mailbox b) = some j → j.phase = .rng → Plain j →
    ∃ u, exec (.rngStarvedTimeout (.mailbox b)) s = .next u ∧ Ends u b S.E_RNG_STARVED [] ∧
      u.regField R.RNG_HEALTH_COUNT 31 16 = satInc 16 (s.regField R.RNG_HEALTH_COUNT 31 16))

/-- Start-up (from R299, R303, R307, R546): at power-good a device in BLANK counts the power cycle, loads its trims,
measures its ROM, and waits at step 8 while the queue holds no block; a block lets a start that waits at step 16 go on to
SERVICE; a wait of 100 ms halts it with code 9. -/
def Obligations.StartupRuns : Prop :=
  (∀ (s : State) (i : StartInput), s.mode = .startup → s.boot.input = none → s.lcs.copyA = .word (codeword 0) → s.lcs.copyB = .word (codeword 0) →
    s.fuses.floor = 0 → field (s.reg R.TMP_LATCH) 13 0 = 0 → s.lcs.wipes = [] → s.boot.trimA.valid = true →
    s.boot.trimB.valid = true → i.trimShadowOk = true → i.romOk = true → s.entropy = [] → (s.drbgs.get {} 4096).inst = false →
    i.testsOk = true → i.sealFailed = [] → i.arithFailed = [] → i.dguFailed = 0 → i.routeFailed = 0 →
    (∀ n, n < 144 → (s.seng n).state = .inService) → (∀ n, n < 24 → (s.aeng n).state = .inService) →
    ∃ u, exec (.powerGood i) s = .next u ∧ u.mode = .startup ∧ u.boot.step = 8 ∧ u.boot.input = some i ∧
      u.boot.loadDone = true ∧ u.boot.pufAbsent = true ∧ u.lcs.state = 0 ∧ u.moon.corePower = true ∧ u.moon.aonPower = true ∧
      (u.mr 0).count = (s.mr 0).count + 2 ∧ (u.seng 0).reserved = true ∧ u.slots = s.slots ∧ u.fuses = s.fuses) ∧
  (∀ (s : State) (i : StartInput), s.mode = .service → exec (.powerGood i) s = .next s) ∧
  (∀ (s : State) (raw : Bytes), s.mode = .startup → s.boot.input ≠ none → s.boot.step = 16 → s.lcs.state ≠ 4 → s.tenants = [] →
    ∃ u, exec (.conditionerBlock raw) s = .next u ∧ u.mode = .service ∧ u.boot.step = 17 ∧ u.boot.input = none ∧
      u.boot.selftestOk = true ∧ u.fabric.addrState = 1 ∧ u.slots = s.slots) ∧
  (∀ (s : State), s.mode = .startup → s.boot.input ≠ none → s.boot.step = 8 ∨ s.boot.step = 16 →
    ∃ u, exec .startupEntropyTimeout s = .next u ∧ u.mode = .lockdown ∧ u.boot.halted = true ∧ u.boot.code = 9 ∧
      u.pins.haltN = false ∧ u.pins.bootCode = 9 ∧ u.keyed = false ∧ u.boot.input = none ∧ (∀ n, 2 ≤ n → u.slot n = {}))

/-- Waking (from R283, R285, R293, R294): a wake source that PWR_WAKE_CFG enables sets its bit of PWR_WAKE_CAUSE and takes
DORMANT, with MOONSTONE and VDD_CORE on their mains, to STARTUP; one that is not enabled changes neither; in HUSH WAKE_IN_N
and the RTC alarm lead to SERVICE, with the memory out of self-refresh and both ports out of L1. Losses of power (from R280,
R281, R333, R334, R518): with hold-up a loss of VDD_CORE does nothing; without, after STARTUP, it is DORMANT with every
island off; VDD_AON lost leaves MOONSTONE on the cell, or without one takes the salt and every register; a low cell clears
the salt and the image record; a rail lost in DORMANT leaves the registers that a cold reset leaves. -/
def Obligations.WakesAndPowerLosses : Prop :=
  (∀ (s : State) (i : Instr) (bit : Nat), s.mode = .dormant → s.moon.onVbat = false → s.moon.corePower = true →
    (i = .wakeInAssert ∧ bit = 1 ∨ i = .rtcAlarm ∧ bit = 2 ∧ s.reg R.PWR_RTC_ALARM ≠ 0 ∨ i = .i3cWakeCommand ∧ bit = 3) →
    (s.reg R.PWR_WAKE_CFG).testBit bit = true →
    ∃ u, exec i s = .next u ∧ u.mode = .startup ∧ (u.reg R.PWR_WAKE_CAUSE).testBit bit = true ∧ u.boot.step = 1 ∧
      u.slots = s.slots ∧ u.moon = s.moon) ∧
  (∀ (s : State) (i : Instr) (bit : Nat), s.mode = .dormant →
    (i = .wakeInAssert ∧ bit = 1 ∨ i = .rtcAlarm ∧ bit = 2 ∨ i = .i3cWakeCommand ∧ bit = 3) →
    (s.reg R.PWR_WAKE_CFG).testBit bit = false →
    ∃ u, exec i s = .next u ∧ u.mode = .dormant ∧ u.reg R.PWR_WAKE_CAUSE = s.reg R.PWR_WAKE_CAUSE ∧ u.moon = s.moon) ∧
  (∀ (s : State) (i : Instr), s.mode = .hush → (i = .wakeInAssert ∨ i = .rtcAlarm ∧ s.reg R.PWR_RTC_ALARM ≠ 0) →
    ∃ u, exec i s = .next u ∧ u.mode = .service ∧ u.mem.selfRefresh = false ∧ u.portA.inL1 = false ∧ u.portB.inL1 = false ∧
      u.jobs = s.jobs ∧ u.slots = s.slots) ∧
  (∀ (s : State), s.lcs.vholdOk = true → exec .vddCoreLoss s = .next s) ∧
  (∀ (s : State), s.lcs.vholdOk = false → s.mode ≠ .startup →
    ∃ u, exec .vddCoreLoss s = .next u ∧ u.mode = .dormant ∧ u.moon.corePower = false ∧ u.slots = [] ∧ u.jobs = [] ∧
      u.drbgs = [] ∧ u.moon.salt = s.moon.salt ∧ u.fuses = s.fuses ∧ u.boot.pufA = s.boot.pufA) ∧
  (∀ (s : State), s.mode ≠ .startup →
    ∃ u, exec (.vddAonLoss true) s = .next u ∧ u.mode = .dormant ∧ u.moon.onVbat = true ∧ u.moon.aonPower = false ∧
      (u.reg R.PWR_STATUS).testBit 9 = true ∧ u.moon.salt = s.moon.salt ∧ u.slots = [] ∧ u.fuses = s.fuses) ∧
  (∀ (s : State), s.mode ≠ .startup →
    ∃ u, exec (.vddAonLoss false) s = .next u ∧ u.mode = .dormant ∧ u.moon = { saltLost := true, aonPower := false, corePower := false } ∧
      u.regs = State.reset.regs ∧ u.slots = [] ∧ u.fuses = s.fuses) ∧
  (∀ (s : State), s.moon.onVbat = true →
    exec .vbatSaltClear s = .next { s with moon := { s.moon with salt := none, imageValid := false, saltLost := true } }) ∧
  (∀ (s : State), s.mode = .dormant →
    ∃ u, exec .dormantRailLoss s = .next u ∧ u.mode = .dormant ∧ u.moon.corePower = false ∧ u.moon.salt = s.moon.salt ∧
      u.regs = regsAfter false s.regs ∧ u.slots = [] ∧ u.fuses = s.fuses)

/-- HUSH (from R278, R283): in SERVICE, PWR_HUSH and the AUTO_HUSH timer enter HUSH once the condition holds, with the
memory in self-refresh; PWR_HUSH waits until then, and is abandoned when WAIT_MS passes; with AUTO_HUSH 0 the timer does
nothing. -/
def Obligations.HushEntryAndAbandon : Prop :=
  (∀ (s : State) (b : BindId) (j : Job), Runs s (.mailbox b) C.PWR_HUSH 0 j → Plain j → s.mode = .service →
    u16 j.ops 0 ≤ 1000 → zeroAt j.ops 2 6 = true → hushCondition s (some (.mailbox b)) = true →
    ∃ u, exec (.pwrHush (.mailbox b)) s = .next u ∧ u.mode = .hush ∧ u.mem.selfRefresh = true ∧ Ends u b S.OK [] ∧
      u.slots = s.slots) ∧
  (∀ (s : State) (b : BindId) (j : Job), Runs s (.mailbox b) C.PWR_HUSH 0 j → s.mode = .service →
    u16 j.ops 0 ≤ 1000 → zeroAt j.ops 2 6 = true → hushCondition s (some (.mailbox b)) = false →
    ∃ u k, exec (.pwrHush (.mailbox b)) s = .next u ∧ u.mode = .service ∧ u.job? (.mailbox b) = some k ∧ k.phase = .hush ∧
      u.slots = s.slots) ∧
  (∀ (s : State) (b : BindId) (j : Job), s.job? (.mailbox b) = some j → j.code = C.PWR_HUSH → j.phase = .hush → Plain j →
    s.mode = .service → hushCondition s (some (.mailbox b)) = true →
    ∃ u, exec (.hushConditionMet (.mailbox b)) s = .next u ∧ u.mode = .hush ∧ u.mem.selfRefresh = true ∧ Ends u b S.OK [] ∧
      u.slots = s.slots) ∧
  (∀ (s : State) (b : BindId) (j : Job), s.job? (.mailbox b) = some j → j.code = C.PWR_HUSH → j.phase = .hush → Plain j →
    ∃ u, exec (.hushWaitExpire (.mailbox b)) s = .next u ∧ u.mode = s.mode ∧ Ends u b S.I_HUSH_ABANDONED [] ∧
      u.slots = s.slots) ∧
  (∀ (s : State), s.mode = .service → s.regField R.PWR_CTRL 7 0 ≠ 0 → hushCondition s none = true →
    ∃ u, exec .autoHushTimer s = .next u ∧ u.mode = .hush ∧ u.mem.selfRefresh = true ∧ u.slots = s.slots) ∧
  (∀ (s : State), s.regField R.PWR_CTRL 7 0 = 0 → exec .autoHushTimer s = .next s)

/-- DORMANT (from R287 to R290, R296, R297): PWR_DORMANT on an unkeyed device without a buffer, or with its image written,
commits, clears every pending half and waits for the ACK of its result; the ACK, or 100 ms without one, switches the islands
off; a device restart that waited enters STARTUP in the same way. PWR_IMAGE_RESTORE reads the image; one whose digest is not
the one held is stale, one with the digest and DSEQ held is restored and its record is gone; PWR_IMAGE_DISCARD drops the
record, or ends with E_NO_IMAGE. -/
def Obligations.DormantEntryAndImage : Prop :=
  (∀ (s : State) (b : BindId) (j : Job), Runs s (.mailbox b) C.PWR_DORMANT 0 j → Plain j →
    dormantReady s (.mailbox b) = true → s.keyed = false → refCheck s j (hostRef j.ops 0) 0 maxLen = none →
    (hostRef j.ops 0).len = 0 →
    ∃ u, exec (.pwrDormant (.mailbox b)) s = .next u ∧
      Ends u b S.OK (leBytes 8 (imageBytes s ((s.moon.dseq + 1) % 2 ^ 32)).length ++ leBytes 4 (imageSlots s).length ++
        leBytes 4 s.moon.dseq) ∧ u.moon.deferred = some (j.bind, .dormant) ∧
      u.moon.dormantTaken = true ∧ u.moon.imageValid = false ∧ u.mode = s.mode ∧ (∀ n, (u.slot n).pending = none)) ∧
  (∀ (s : State) (b : BindId) (j : Job), Runs s (.mailbox b) C.PWR_DORMANT 1 j → Plain j → s.keyed = true →
    ∃ u, exec (.pwrDormant (.mailbox b)) s = .next u ∧ u.moon.deferred = some (j.bind, .dormant) ∧
      Ends u b S.OK (leBytes 8 (imageBytes s ((s.moon.dseq + 1) % 2 ^ 32)).length ++ leBytes 4 (imageSlots s).length ++
        leBytes 4 ((s.moon.dseq + 1) % 2 ^ 32)) ∧
      u.moon.imageValid = true ∧ u.moon.dseq = (s.moon.dseq + 1) % 2 ^ 32 ∧
      u.moon.imageDigest = sha384 (imageBytes s ((s.moon.dseq + 1) % 2 ^ 32)) ∧ (∀ n, (u.slot n).pending = none)) ∧
  (∀ (s : State) (i : Instr) (b : BindId) (irq : Bool), s.moon.deferred = some (b, .dormant) → s.moon.wakeLatched = 0 →
    (i = .doneTimeout ∨ i = .mbxAck b false irq ∧ bindLive s b = true ∧ (s.mbx b).state = .done) →
    ∃ u, exec i s = .next u ∧ u.mode = .dormant ∧ u.moon.deferred = none ∧ u.moon.dormantTaken = false ∧ u.slots = [] ∧
      u.tenants = [] ∧ u.drbgs = [] ∧ u.jobs = [] ∧ u.moon.salt = s.moon.salt ∧ u.moon.imageValid = s.moon.imageValid ∧
      u.fuses = s.fuses) ∧
  (∀ (s : State) (i : Instr) (b : BindId) (irq : Bool), s.moon.deferred = some (b, .restart) →
    (i = .doneTimeout ∨ i = .mbxAck b false irq ∧ bindLive s b = true ∧ (s.mbx b).state = .done) →
    ∃ u, exec i s = .next u ∧ u.mode = .startup ∧ u.moon.deferred = none ∧ u.slots = [] ∧ u.jobs = [] ∧
      u.moon.salt = s.moon.salt ∧ u.fuses = s.fuses) ∧
  (∀ (s : State) (b : BindId) (j : Job), Runs s (.mailbox b) C.PWR_IMAGE_RESTORE 1 j → Plain j →
    s.moon.imageValid = true → sha384 (j.data.headD []) ≠ s.moon.imageDigest →
    ∃ u, exec (.pwrImageRestore (.mailbox b)) s = .next u ∧ Ends u b S.E_IMAGE_STALE [] ∧ u.moon.imageValid = true) ∧
  (∀ (s : State) (b : BindId) (j : Job) (es : List (Nat × Nat × Bytes)), Runs s (.mailbox b) C.PWR_IMAGE_RESTORE 1 j → Plain j →
    s.moon.imageValid = true → u32 (j.data.headD []) 12 = s.moon.dseq → sha384 (j.data.headD []) = s.moon.imageDigest →
    imageParse s (j.data.headD []) = some es →
    ∃ u, exec (.pwrImageRestore (.mailbox b)) s = .next u ∧
      Ends u b S.OK (leBytes 4 (es.foldl (restoreEntry j) (s, 0, 0)).2.1 ++ leBytes 4 (es.foldl (restoreEntry j) (s, 0, 0)).2.2 ++
        leBytes 4 s.moon.dseq ++ zeros 4) ∧ u.moon.imageValid = false ∧ u.moon.dseq = s.moon.dseq ∧
      u.slots = (es.foldl (restoreEntry j) (s, 0, 0)).1.slots) ∧
  (∀ (s : State) (b : BindId) (j : Job), Runs s (.mailbox b) C.PWR_IMAGE_RESTORE 0 j → s.moon.imageValid = true →
    s.keyed = true → refCheck s j (hostRef j.ops 0) 64 maxLen = none → canDma s (dmaBind s j (hostRef j.ops 0).port) = true →
    tagFree s (dmaBind s j (hostRef j.ops 0).port).port j.cls = true →
    ∃ u, exec (.pwrImageRestore (.mailbox b)) s = .next u ∧
      readMsg s (dmaBind s j (hostRef j.ops 0).port) (hostRef j.ops 0).addr (hostRef j.ops 0).len ∈ u.out ∧
      u.moon.imageValid = true ∧ u.slots = s.slots) ∧
  (∀ (s : State) (b : BindId) (j : Job), Runs s (.mailbox b) C.PWR_IMAGE_DISCARD 0 j → Plain j → s.moon.imageValid = true →
    ∃ u, exec (.pwrImageDiscard (.mailbox b)) s = .next u ∧ Ends u b S.OK [] ∧
      u.moon.imageValid = false ∧ u.moon.dseq = s.moon.dseq ∧ u.slots = s.slots) ∧
  (∀ (s : State) (b : BindId) (j : Job), Runs s (.mailbox b) C.PWR_IMAGE_DISCARD 0 j → Plain j → s.moon.imageValid = false →
    ∃ u, exec (.pwrImageDiscard (.mailbox b)) s = .next u ∧ Ends u b S.E_NO_IMAGE [] ∧ u.moon.dseq = s.moon.dseq)

/-- Challenges and the debug port (from R325 to R328): LCS_CHALLENGE and, in a locked state, DBG_CHALLENGE replace the
challenge and give its bytes; it expires; a debug token whose check need not wait for an engine uses it up: one that fails
is counted and named in LAST_STATUS, one that passes opens the port and, before RETURNED, leaves no key and the mode
LOCKDOWN; outside the locked states both instructions do nothing. LCS_TRANSITION (from R319 to R322): it only moves to the
next state; the owner's transition from ISSUED to IN_SERVICE, its order undisputed, with an owner key, the device quiet and
hold-up, starts to program copy A; without an owner key it ends with E_OWNER_KEY; copy A stands, then copy B is programmed;
with copy B the floor stands too, and the command completes with the state and the floor. -/
def Obligations.LifecycleAndDebugTokens : Prop :=
  (∀ (s : State) (b : BindId) (j : Job) (d : Drbg) (bs : Bytes), Runs s (.mailbox b) C.LCS_CHALLENGE 0 j → Plain j →
    d = s.drbgs.get {} 4107 → d.inst = true → d.requests < 2 ^ 19 → bs = (List.range 32).map (Config.drbgOut d.kv 32) →
    ∃ u, exec (.lcsChallenge (.mailbox b)) s = .next u ∧ u.lcs = { s.lcs with challenge := some bs } ∧
      Ends u b S.OK (fit 32 bs ++ leBytes 8 s.fuses.deviceId ++ leBytes 1 s.lcs.state ++ leBytes 1 s.fuses.floor ++ zeros 6) ∧
      u.slots = s.slots) ∧
  (∀ (s : State), ∃ u, exec .challengeExpire s = .next u ∧ u.lcs = { s.lcs with challenge := none } ∧ u.mode = s.mode ∧
    u.slots = s.slots ∧ u.jobs = s.jobs) ∧
  (∀ (s : State) (d : Drbg) (bs : Bytes), debugLocked s = true → d = s.drbgs.get {} 4107 → d.inst = true → d.requests < 2 ^ 19 →
    bs = (List.range 32).map (Config.drbgOut d.kv 32) →
    ∃ u, exec .dbgChallenge s = .next u ∧ u.lcs = { s.lcs with challenge := some bs } ∧
      .tap (fit 32 bs ++ leBytes 8 s.fuses.deviceId ++ leBytes 1 s.lcs.state ++ leBytes 1 s.fuses.floor ++ zeros 6) ∈ u.out ∧
      u.slots = s.slots) ∧
  (∀ (s : State), debugLocked s = false → exec .dbgChallenge s = .next s) ∧
  (∀ (s : State) (t : Bytes), debugLocked s = false → exec (.dbgToken t) s = .next s) ∧
  (∀ (s : State) (t : Bytes) (c : Option Nat), debugLocked s = true → u8 t 1 = 0x30 → tokenHeld s t = false → tokenCheck s t = c →
    ∃ u, exec (.dbgToken t) s = .next u ∧ u.lcs.challenge = none ∧ u.lcs.lastStatus = c.getD S.OK ∧
      (c ≠ none → u.lcs.authFails = satInc 8 s.lcs.authFails ∧ u.lcs.unlocked = false ∧ u.slots = s.slots) ∧
      (c = none → u.lcs.unlocked = true ∧ (s.lcs.state ≠ 4 → u.mode = .lockdown ∧ u.slots = [] ∧ u.keyed = false))) ∧
  (∀ (s : State) (t : Bytes), debugLocked s = true → tokenFormat s t = false →
    ∃ u, exec (.dbgToken t) s = .next u ∧ u.lcs.lastStatus = S.E_TOKEN_FORMAT ∧ u.lcs.challenge = none ∧
      u.lcs.unlocked = false ∧ u.mode = s.mode ∧ u.slots = s.slots) ∧
  (∀ (s : State) (b : BindId) (j : Job) (v : Nat) (cells : Bytes), Runs s (.mailbox b) C.LCS_TRANSITION 0 j → Plain j →
    u8 j.ops 0 ≠ s.lcs.state + 1 →
    ∃ u, exec (.lcsTransition (.mailbox b) v cells) s = .next u ∧ Ends u b S.E_LCS_TRANSITION [] ∧
      u.lcs = { s.lcs with vholdMv := v % 2 ^ 16, vholdOk := decide (v ≥ 800) } ∧ u.fuses = s.fuses) ∧
  (∀ (s : State) (b : BindId) (j : Job) (v n : Nat) (cells : Bytes) (h : SlotHalf), Runs s (.mailbox b) C.LCS_TRANSITION 0 j →
    Undisputed s j → u8 j.ops 0 = 3 → s.lcs.state = 2 → zeroAt j.ops 16 16 = true → n < 32 → activeHalf s (32 + n) = some h →
    dormantReady s (.mailbox b) = true → 800 ≤ v →
    ∃ u k, exec (.lcsTransition (.mailbox b) v cells) s = .next u ∧ u.job? (.mailbox b) = some k ∧ k.phase = .nor ∧
      k.committed = true ∧ k.stage = 9 ∧ u.lcs.busy = true ∧ u.lcs.copyA = s.lcs.copyA ∧ u.lcs.copyB = s.lcs.copyB ∧
      u.nor.ops = s.nor.ops ++ [{ bank := 1, job := .command (.mailbox b) 6144 false }] ∧ u.slots = s.slots) ∧
  (∀ (s : State) (b : BindId) (j : Job) (v : Nat) (cells : Bytes), Runs s (.mailbox b) C.LCS_TRANSITION 0 j → Plain j →
    u8 j.ops 0 = 3 → s.lcs.state = 2 → zeroAt j.ops 16 16 = true → (∀ n, n < 32 → activeHalf s (32 + n) = none) →
    ∃ u, exec (.lcsTransition (.mailbox b) v cells) s = .next u ∧ Ends u b S.E_OWNER_KEY [] ∧ u.fuses = s.fuses) ∧
  (∀ (s : State) (b : BindId) (j : Job) (v : Nat) (cells : Bytes), Runs s (.mailbox b) C.LCS_TRANSITION 10 j →
    ∃ u k, exec (.lcsTransition (.mailbox b) v cells) s = .next u ∧ u.lcs.copyA = s.lcs.copyA.program (u8 j.ops 0) ∧ u.lcs.copyB = s.lcs.copyB ∧
      u.lcs.wipes = wipesOf (u8 j.ops 0) ∧ u.job? (.mailbox b) = some k ∧ k.phase = .nor ∧ k.stage = 10 ∧ u.fuses = s.fuses) ∧
  (∀ (s : State) (b : BindId) (j : Job) (v : Nat) (cells : Bytes), Runs s (.mailbox b) C.LCS_TRANSITION 11 j → Plain j →
    u8 j.ops 0 = 3 → s.lcs.wipes = [] →
    ∃ u, exec (.lcsTransition (.mailbox b) v cells) s = .next u ∧ Ends u b S.OK ([3, 3] ++ zeros 6) ∧ u.lcs.state = 3 ∧
      u.lcs.copyB = s.lcs.copyB.program 3 ∧ u.fuses = { s.fuses with floor := 3 } ∧ u.mode = s.mode ∧ u.slots = s.slots ∧ u.lcs.busy = false)

/-- An alarm (from R14, R330, R332, R336, R337, R340 to R344): it sets its bit of TMP_LATCH; with mains, outside DORMANT,
every key, context, DRBG and queue block is gone, no command is left, the helper copies are destroyed, HALT_N is low with
code 0xF, and the mode is LOCKDOWN. In DORMANT with VDD_CORE the salt and the image record go and STARTUP is entered. A
window that is not full, a loop not enabled, an under-voltage without hold-up and a clock of an island that is not clocked
change nothing. TMP_ZEROISE (from R178, R346): the issuing command completes with OK in LOCKDOWN, with no key, context or
block left and no other command in flight; a wrong KEY_PHRASE changes no key. -/
def Obligations.AlarmsAndZeroise : Prop :=
  (∀ (s : State) (i : Instr) (k bit : Nat), s.mode ≠ .dormant → s.moon.onVbat = false →
    (i = .meshAlarm ∧ bit = 0 ∧ windowFull s s.tamper.meshHist = true ∨
     i = .tloopAlarm 0 ∧ bit = 5 ∧ (s.regField R.TMP_IN_CFG 5 4).testBit 0 = true ∧ windowFull s s.tamper.loop0Hist = true ∨
     i = .tloopAlarm 1 ∧ bit = 6 ∧ (s.regField R.TMP_IN_CFG 5 4).testBit 1 = true ∧ windowFull s s.tamper.loop1Hist = true ∨
     i = .envAlarm bit ∧ 8 ≤ bit ∧ bit ≤ 12 ∨ i = .envAlarm 7 ∧ bit = 7 ∧ s.lcs.vholdOk = true ∨
     i = .clockAlarm k ∧ bit = 13 ∧ islandClocked s.mode k = true ∨
     i = .tampInAssert k ∧ k < 4 ∧ bit = 1 + k ∧ (s.regField R.TMP_IN_CFG 3 0).testBit k = true) →
    ∃ u, exec i s = .next u ∧ u.mode = .lockdown ∧ (u.reg R.TMP_LATCH).testBit bit = true ∧
      (u.reg R.TMP_LATCH).testBit 33 = true ∧ u.slots = [] ∧ u.keyed = false ∧ u.cdk = none ∧ u.pufSecret = none ∧
      u.zeroised = true ∧ u.moon.salt = none ∧ u.moon.imageValid = false ∧ u.tenants = [] ∧ u.drbgs = [] ∧ u.entropy = [] ∧
      u.jobs = [] ∧ u.manifests = [] ∧ u.agate.trees = [] ∧ u.boot.pufA = { crcGood := false, seq := 0, offset := zeros 511, check := zeros 8 } ∧
      u.boot.pufB = u.boot.pufA ∧ u.pins.haltN = false ∧ u.pins.bootCode = 0xF ∧ u.fuses = s.fuses) ∧
  (∀ (s : State) (i : Instr), s.mode = .dormant → s.moon.onVbat = false → s.moon.corePower = true →
    (i = .meshAlarm ∧ windowFull s s.tamper.meshHist = true ∨ i = .envAlarm 12 ∨
     i = .tampInAssert 0 ∧ (s.regField R.TMP_IN_CFG 3 0).testBit 0 = true) →
    ∃ u, exec i s = .next u ∧ u.mode = .startup ∧ u.moon = { s.moon with salt := none, imageValid := false } ∧ u.boot.step = 1 ∧
      field (u.reg R.TMP_LATCH) 13 0 ≠ 0) ∧
  (∀ (s : State), windowFull s s.tamper.meshHist = false → exec .meshAlarm s = .next s) ∧
  (∀ (s : State) (k : Nat), k < 2 → (s.regField R.TMP_IN_CFG 5 4).testBit k = false → exec (.tloopAlarm k) s = .next s) ∧
  (∀ (s : State), s.lcs.vholdOk = false → exec (.envAlarm 7) s = .next s) ∧
  (∀ (s : State) (k : Nat), islandClocked s.mode k = false → exec (.clockAlarm k) s = .next s) ∧
  (∀ (s : State) (b : BindId) (j : Job), Runs s (.mailbox b) C.TMP_ZEROISE 0 j → Plain j → u32 j.ops 0 = 0x4F52455A →
    zeroAt j.ops 4 4 = true →
    ∃ u, exec (.tmpZeroise (.mailbox b)) s = .next u ∧ Ends u b S.OK [] ∧ u.mode = .lockdown ∧ u.slots = [] ∧
      u.keyed = false ∧ u.pufSecret = none ∧ u.moon.salt = none ∧ u.drbgs = [] ∧ u.entropy = [] ∧ u.jobs = [] ∧
      u.zeroised = true ∧ u.fuses = s.fuses) ∧
  (∀ (s : State) (b : BindId) (j : Job), Runs s (.mailbox b) C.TMP_ZEROISE 0 j → Plain j → j.owner = true → u32 j.ops 0 ≠ 0x4F52455A →
    ∃ u, exec (.tmpZeroise (.mailbox b)) s = .next u ∧ Ends u b S.E_BAD_OPERAND [] ∧ u.mode = s.mode ∧
      u.pufSecret = s.pufSecret ∧ u.keyed = s.keyed ∧ u.tenants = s.tenants ∧ u.moon.salt = s.moon.salt)

/-- Monitors and inputs that raise no alarm by themselves (from R330, R335 to R337, R526): a pattern period enters the
windows, the level of an input that is not enabled is kept, VBAT and the crystal are followed, and THERMTRIP_N goes low.
Tamper configuration only tightens (from R331, R336, R338): TMP_MESH_CFG takes a write that lowers neither N nor W, before
LOCK, with N at most W and W at most 64, and no other; TMP_IN_CFG, with no input asserted, only gains enable bits; a locked
register keeps its content. -/
def Obligations.TamperMonitors : Prop :=
  (∀ (s : State) (m l0 l1 : Bool), s.moon.aonPower = true →
    ∃ u, exec (.onyxPatternPeriod m l0 l1) s = .next u ∧
      u.tamper = { s.tamper with meshHist := (m :: s.tamper.meshHist).take 64
                                 loop0Hist := (l0 :: s.tamper.loop0Hist).take 64
                                 loop1Hist := (l1 :: s.tamper.loop1Hist).take 64 } ∧
      u.mode = s.mode ∧ u.slots = s.slots ∧ u.reg R.TMP_LATCH = s.reg R.TMP_LATCH) ∧
  (∀ (s : State) (n : Nat), n < 4 → (s.regField R.TMP_IN_CFG 3 0).testBit n = false →
    ∃ u, exec (.tampInAssert n) s = .next u ∧ u.tamper = { s.tamper with inLevel := s.tamper.inLevel ||| 2 ^ n } ∧
      u.mode = s.mode ∧ u.slots = s.slots ∧ u.moon.salt = s.moon.salt) ∧
  (∀ (s : State) (n : Nat), n < 4 →
    ∃ u, exec (.tampInDeassert n) s = .next u ∧ u.tamper.inLevel.testBit n = false ∧
      (∀ m, m ≠ n → u.tamper.inLevel.testBit m = s.tamper.inLevel.testBit m) ∧ u.mode = s.mode ∧ u.slots = s.slots) ∧
  (∀ (s : State) (mv : Nat), s.moon.onVbat = false → s.moon.aonPower = true →
    ∃ u, exec (.vbatLow mv) s = .next u ∧
      u.tamper = { s.tamper with vbatLow := decide (1000 ≤ mv ∧ mv < 2500), vbatAbsent := decide (mv < 1000) } ∧
      u.mode = s.mode ∧ u.slots = s.slots ∧ u.moon.salt = s.moon.salt) ∧
  (∀ (s : State), s.tamper.xtalFail = false →
    exec .xtalFail s = .next (recordEvent { s with tamper := { s.tamper with xtalFail := true } } 0x8C08 2 0 0)) ∧
  (∀ (s : State), exec .crystalRunsAgain s = .next { s with tamper := { s.tamper with xtalFail := false } }) ∧
  (∀ (s : State), s.moon.aonPower = true →
    exec .thermtripAssert s = .next { s with pins := { s.pins with thermtripN := false } }) ∧
  (∀ (s : State) (v : Nat), (s.reg R.TMP_MESH_CFG).testBit 16 = false → field (s.reg R.TMP_MESH_CFG) 7 0 ≤ field v 7 0 →
    field (s.reg R.TMP_MESH_CFG) 15 8 ≤ field v 15 8 → field v 7 0 ≤ field v 15 8 → field v 15 8 ≤ 64 →
    ∃ u, exec (.tmpMeshCfgWrite v) s = .next u ∧ u.reg R.TMP_MESH_CFG = v % 2 ^ 17 ∧ u.slots = s.slots ∧ u.mode = s.mode) ∧
  (∀ (s : State) (v : Nat), ((s.reg R.TMP_MESH_CFG).testBit 16 = true ∨ field v 7 0 < field (s.reg R.TMP_MESH_CFG) 7 0 ∨
      field v 15 8 < field (s.reg R.TMP_MESH_CFG) 15 8 ∨ field v 15 8 < field v 7 0 ∨ 64 < field v 15 8) →
    ∃ u, exec (.tmpMeshCfgWrite v) s = .next u ∧ u.regs = s.regs ∧ u.meas = s.meas) ∧
  (∀ (s : State) (v : Nat), (s.reg R.TMP_IN_CFG).testBit 16 = false → s.tamper.inLevel = 0 →
    ∃ u, exec (.tmpInCfgWrite v) s = .next u ∧ u.reg R.TMP_IN_CFG = (v &&& 0x1FF3F) ||| (s.reg R.TMP_IN_CFG &&& 0x3F) ∧
      u.slots = s.slots ∧ u.mode = s.mode) ∧
  (∀ (s : State) (v : Nat), (s.reg R.TMP_IN_CFG).testBit 16 = true →
    ∃ u, exec (.tmpInCfgWrite v) s = .next u ∧ u.regs = s.regs ∧ u.mode = s.mode)

/-- Ward power and verification (from R133, R361 to R366). In SERVICE a rising WPG starts settling with the manifest of the
ward's record, or leaves it DISABLED without one; a falling WPG turns it OFF with its resets low; the end of settling starts
the flash access. Of a ward with no automatic recovery left and no hold pending, a verification whose run passes ends
RUNNING with RST_N high, one whose run fails, a short input and a silent flash end FAILED with the status. The end of a
commanded recovery, and a silent flash in any, lead to the next verification, or to DISABLED without a manifest. No other
ward changes. -/
def Obligations.WardsFollowPowerAndVerification : Prop :=
  (∀ (s : State) (w : Nat), w < 16 → (s.ward w).wpg = false → s.mode = .service →
    ∃ u, exec (.wpgRise w) s = .next u ∧ (u.ward w).wpg = true ∧ (u.ward w).settling = (if (wardManifest s w).isSome then true else (s.ward w).settling) ∧
      (u.ward w).state = (if (wardManifest s w).isSome then .verifying else .disabled) ∧ (u.ward w).verifications = 0 ∧
      (u.ward w).recovered = false ∧ (∀ x, x ≠ w → u.ward x = s.ward x) ∧ u.mode = .service) ∧
  (∀ (s : State) (w : Nat), w < 16 → (s.ward w).wpg = true →
    ∃ u, exec (.wpgFall w) s = .next u ∧ (u.ward w).wpg = false ∧ (u.ward w).state = .off ∧ (u.ward w).rstHigh = false ∧
      (u.ward w).auxHigh = false ∧ (u.ward w).cmd = none ∧ (∀ x, x ≠ w → u.ward x = s.ward x)) ∧
  (∀ (s : State) (w : Nat), (s.ward w).state = .verifying → (s.ward w).settling = true →
    ∃ u, exec (.wardSettleDone w) s = .next u ∧
      u.ward w = { s.ward w with settling := false, rstHigh := false, auxHigh := false, failedRegions := 0
                                 verifications := satInc 32 (s.ward w).verifications } ∧ (∀ x, x ≠ w → u.ward x = s.ward x)) ∧
  (∀ (s : State) (w : Nat) (sfdp : Bytes) (cs : List Bytes) (c : Nat × DigestCtx), w < 16 → (s.ward w).state = .verifying →
    (s.ward w).settling = false → ctxOf s (wardOrigin w) = some c → ownerWaits s (mSlot (s.ward w).manifest) = false → s.boot.gateOpen = true → s.mode = .service →
    (s.ward w).holdPending = false → (s.ward w).recovered = true → (s.ward w).recStatus = 0 →
    ∃ u, exec (.wardVerifyDone w sfdp cs) s = .next u ∧ (∀ x, x ≠ w → u.ward x = s.ward x) ∧
      ((verifyRun s w sfdp cs).2.1 = S.OK → (u.ward w).state = .running ∧ (u.ward w).rstHigh = true ∧
        (u.ward w).auxHigh = !mFlag (s.ward w).manifest 3) ∧
      ((verifyRun s w sfdp cs).2.1 ≠ S.OK → (u.ward w).state = .failed ∧ (u.ward w).lastStatus = (verifyRun s w sfdp cs).2.1 ∧
        (u.ward w).failedRegions = (verifyRun s w sfdp cs).2.2)) ∧
  (∀ (s : State) (w : Nat) (i : Instr), (i = .digestShort w ∨ i = .wardFlashTimeout w) → w < 16 →
    (s.ward w).state = .verifying → (s.ward w).settling = false → (s.ward w).holdPending = false →
    (s.ward w).recovered = true → (s.ward w).recStatus = 0 →
    ∃ u, exec i s = .next u ∧ (u.ward w).state = .failed ∧ (u.ward w).lastStatus = S.E_WARD_READ ∧
      (∀ x, x ≠ w → u.ward x = s.ward x)) ∧
  (∀ (s : State) (w : Nat) (g : List Bytes) (ok : Bool), w < 16 → (s.ward w).state = .recovering → (s.ward w).settling = false →
    (s.ward w).source ≠ 0 → (s.ward w).holdPending = false →
    ∃ u, exec (.wardRecoveryDone w g ok) s = .next u ∧
      (u.ward w).state = (if (wardManifest s w).isSome then .verifying else .disabled) ∧
      (u.ward w).lastStatus = (if ok then S.OK else S.E_WARD_FLASH) ∧ (∀ x, x ≠ w → u.ward x = s.ward x)) ∧
  (∀ (s : State) (w : Nat), w < 16 → (s.ward w).state = .recovering → (s.ward w).settling = false →
    (s.ward w).holdPending = false →
    ∃ u, exec (.wardFlashTimeout w) s = .next u ∧ (u.ward w).lastStatus = S.E_WARD_FLASH ∧
      (u.ward w).state = (if (wardManifest s w).isSome then .verifying else .disabled))

/-- The SPI filter of a RUNNING ward, addresses below 2^24 (from R351 to R355): a command that the regions of the manifest
allow reaches the flash, the SFDP read apart, which the guard answers with its patched copy; a read that passes its region's
end reads 0xFF there. A refused program, erase or status write is counted, cut, and followed by WRITE_DISABLE; any other
refused command is counted and reads 0xFF. A ward that is not RUNNING passes nothing. -/
def Obligations.SpiFilter : Prop :=
  (∀ (s : State) (w op a len : Nat) (bs : Bytes), w < 16 → (s.ward w).state = .running → op ≤ 255 → op ≠ 0x5A →
    a < 2 ^ 24 → spiAllowed (s.ward w).manifest op a = true →
    ∃ u, exec (.wardSpiCommand w op a len bs) s = .next u ∧
      .spi w (spiBytes op a (spi4 op || (s.ward w).addr4) bs) ∈ u.out ∧
      (u.ward w).modify = (s.ward w).modify ∧ (u.ward w).other = (s.ward w).other ∧ (u.ward w).state = .running ∧
      (∀ x, x ≠ w → u.ward x = s.ward x)) ∧
  (∀ (s : State) (w op a len : Nat) (bs : Bytes), w < 16 → (s.ward w).state = .running → op ≤ 255 → a < 2 ^ 24 →
    spiAllowed (s.ward w).manifest op a = false → 3 ≤ spiClass op → spiClass op ≤ 5 →
    ∃ u, exec (.wardSpiCommand w op a len bs) s = .next u ∧ .spi w [0x04] ∈ u.out ∧
      .spiCut w op (cutCycles op (spi4 op || (s.ward w).addr4)) ∈ u.out ∧
      (u.ward w).modify = satInc 32 (s.ward w).modify ∧ (u.ward w).other = (s.ward w).other ∧ (u.ward w).blockOp = op ∧
      (∀ x, x ≠ w → u.ward x = s.ward x)) ∧
  (∀ (s : State) (w op a len : Nat) (bs : Bytes), w < 16 → (s.ward w).state = .running → op ≤ 255 → a < 2 ^ 24 →
    spiAllowed (s.ward w).manifest op a = false → (spiClass op < 3 ∨ 5 < spiClass op) →
    ∃ u, exec (.wardSpiCommand w op a len bs) s = .next u ∧ .wardData w (List.replicate len 0xFF) ∈ u.out ∧
      (u.ward w).other = satInc 32 (s.ward w).other ∧ (u.ward w).modify = (s.ward w).modify ∧ (u.ward w).blockOp = op) ∧
  (∀ (s : State) (w op a len : Nat) (bs : Bytes), (s.ward w).state ≠ .running →
    exec (.wardSpiCommand w op a len bs) s = .next s) ∧
  (∀ (s : State) (w a len : Nat) (bs : Bytes), w < 16 → (s.ward w).state = .running → a < 2 ^ 24 →
    ∃ u, exec (.wardSpiCommand w 0x5A a len bs) s = .next u ∧ .wardData w (slice (sfdpPatched (s.ward w).sfdp) a len) ∈ u.out ∧
      u.wards = s.wards) ∧
  (∀ (s : State) (w op a len : Nat) (bs : Bytes) (r : Region), w < 16 → (s.ward w).state = .running → op ≤ 255 →
    spiClass op = 0 → a < 2 ^ 24 → regionFor (s.ward w).manifest a = some r → r.read = true → r.start + r.len < a + len →
    ∃ u, exec (.wardSpiCommand w op a len bs) s = .next u ∧
      .wardData w (List.replicate (a + len - (r.start + r.len)) 0xFF) ∈ u.out)

/-- Ward commands (from R360, R366, R367, R370): WARD_MANIFEST_SET begins with the read of the manifest and ends with the
program of its mark, which sets SEQ as the result; WARD_VERIFY and a WARD_RECOVER from the host start the ward's work with
its resets low; WARD_HOLD holds a ward at once, or when its work ends; WARD_AUX sets its auxiliary reset; WARD_INFO reads.
No other ward changes. -/
def Obligations.WardCommands : Prop :=
  (∀ (s : State) (b : BindId) (j : Job), Runs s (.mailbox b) C.WARD_MANIFEST_SET 0 j → u8 j.ops 0 < 16 →
    zeroAt j.ops 1 15 = true → refCheck s j (hostRef j.ops 16) 0 16383 = none → wardBusy s j (u8 j.ops 0) = false →
    canDma s (dmaBind s j (hostRef j.ops 16).port) = true →
    tagFree s (dmaBind s j (hostRef j.ops 16).port).port j.cls = true →
    ∃ u, exec (.wardManifestSet (.mailbox b)) s = .next u ∧ (u.ward (u8 j.ops 0)).cmd = some (.mailbox b) ∧
      readMsg s (dmaBind s j (hostRef j.ops 16).port) (hostRef j.ops 16).addr (hostRef j.ops 16).len ∈ u.out ∧ u.nor = s.nor) ∧
  (∀ (s : State) (b : BindId) (j : Job) (m : Bytes) (a : Nat), Runs s (.mailbox b) C.WARD_MANIFEST_SET 4 j → Plain j →
    m = j.keep.headD [] → a = recAddr (u8 j.ops 0) (listGet 0 j.args 0) + m.length → norByte s a = 0xFF →
    ∃ u, exec (.wardManifestSet (.mailbox b)) s = .next u ∧ norByte u a = 0x5A ∧ (∀ x, x ≠ a → norByte u x = norByte s x) ∧
      (u.ward (u8 j.ops 0)).cmd = none ∧ Ends u b S.OK (leBytes 4 (mSeq m) ++ zeros 4)) ∧
  (∀ (s : State) (b : BindId) (j : Job) (w : Nat), Runs s (.mailbox b) C.WARD_VERIFY 0 j → w = u8 j.ops 0 → w < 16 →
    u8 j.ops 1 = 0 → zeroAt j.ops 2 6 = true → wardBusy s j w = false → (s.ward w).wpg = true →
    (wardManifest s w).isSome = true → (s.ward w).state = .running ∨ (s.ward w).state = .failed ∨ (s.ward w).state = .held →
    s.mode = .service →
    ∃ u k, exec (.wardVerify (.mailbox b)) s = .next u ∧ (u.ward w).state = .verifying ∧ (u.ward w).rstHigh = false ∧
      (u.ward w).auxHigh = false ∧ (u.ward w).cmd = some (.mailbox b) ∧ some (u.ward w).manifest = wardManifest s w ∧
      u.job? (.mailbox b) = some k ∧ k.phase = .ward ∧ k.committed = true ∧ (∀ x, x ≠ w → u.ward x = s.ward x)) ∧
  (∀ (s : State) (b : BindId) (j : Job) (w : Nat), Runs s (.mailbox b) C.WARD_RECOVER 0 j → w = u8 j.ops 0 →
    recoverOperandsOk j.ops = true → u8 j.ops 1 = 1 → u8 j.ops 2 = 0 → refCheck s j (hostRef j.ops 16) 0 (2 ^ 26 + 8192) = none →
    wardBusy s j w = false → (s.ward w).wpg = true →
    (s.ward w).state = .running ∨ (s.ward w).state = .failed ∨ (s.ward w).state = .held ∨ (s.ward w).state = .disabled →
    s.mode = .service → canDma s (dmaBind s j (hostRef j.ops 16).port) = true →
    tagFree s (dmaBind s j (hostRef j.ops 16).port).port j.cls = true →
    ∃ u, exec (.wardRecover (.mailbox b)) s = .next u ∧ (u.ward w).state = .recovering ∧ (u.ward w).settling = true ∧
      (u.ward w).rstHigh = false ∧ (u.ward w).cmd = some (.mailbox b) ∧ (u.ward w).source = 1 ∧
      readMsg s (dmaBind s j (hostRef j.ops 16).port) (hostRef j.ops 16).addr (hostRef j.ops 16).len ∈ u.out ∧ (∀ x, x ≠ w → u.ward x = s.ward x)) ∧
  (∀ (s : State) (b : BindId) (j : Job) (w : Nat), Runs s (.mailbox b) C.WARD_HOLD 0 j → Plain j → w = u8 j.ops 0 →
    w ≤ 15 → zeroAt j.ops 1 7 = true →
    (s.ward w).state = .running ∨ (s.ward w).state = .failed ∨ (s.ward w).state = .held →
    ∃ u, exec (.wardHold (.mailbox b)) s = .next u ∧ Ends u b S.OK [] ∧ (u.ward w).state = .held ∧
      ((s.ward w).state = .running → (u.ward w).rstHigh = false ∧ (u.ward w).auxHigh = false) ∧
      (∀ x, x ≠ w → u.ward x = s.ward x)) ∧
  (∀ (s : State) (b : BindId) (j : Job) (w : Nat), Runs s (.mailbox b) C.WARD_HOLD 0 j → Plain j → w = u8 j.ops 0 →
    w ≤ 15 → zeroAt j.ops 1 7 = true → (s.ward w).state = .verifying ∨ (s.ward w).state = .recovering →
    ∃ u, exec (.wardHold (.mailbox b)) s = .next u ∧ Ends u b S.OK [] ∧ u.ward w = { s.ward w with holdPending := true } ∧
      (∀ x, x ≠ w → u.ward x = s.ward x)) ∧
  (∀ (s : State) (b : BindId) (j : Job) (w : Nat), Runs s (.mailbox b) C.WARD_AUX 0 j → Plain j → w = u8 j.ops 0 → w < 16 →
    u8 j.ops 1 ≤ 1 → zeroAt j.ops 2 6 = true → (s.ward w).state = .running → mFlag (s.ward w).manifest 3 = true →
    wardBusy s j w = false →
    ∃ u, exec (.wardAux (.mailbox b)) s = .next u ∧ Ends u b S.OK [] ∧
      u.ward w = { s.ward w with auxHigh := (u8 j.ops 1 == 1) } ∧ (∀ x, x ≠ w → u.ward x = s.ward x)) ∧
  (∀ (s : State) (b : BindId) (j : Job), Runs s (.mailbox b) C.WARD_INFO 0 j → Plain j → u8 j.ops 0 < 16 →
    zeroAt j.ops 1 7 = true →
    ∃ u, exec (.wardInfo (.mailbox b)) s = .next u ∧ Ends u b S.OK (wardInfoBytes s (u8 j.ops 0)) ∧ u.wards = s.wards)

/-- The token buses (from R373 to R383): identification polls and addresses the cards it finds; the data block of a WRITE
follows its response; when a script is done the command that uses the bus goes on. A bad response ends the command with
E_TKN_CARD, a removal with E_TKN_REMOVED; a WRITE whose busy phase does not end leaves a mark. A card inserted is powered
and identified, one removed loses its power, and so does an idle socket when IDLE_OFF_S is not 0; a delayed UNLOCK is sent
when its second has passed. The other commands of the token port (from R379, R380, R396): TKN_SCAN identifies the escrow bus
and then reports; CARD_FORCE_ERASE ends when its script is done; ESCROW_STORE ends OK once its read-back matches, and
ESCROW_FETCH writes the blob of a good record to OUT. -/
def Obligations.TokenPort : Prop :=
  (∀ (s : State) (b : Nat), b ≤ 2 → s.mode ≠ .startup → s.mode ≠ .dormant → (s.bus b).step = .poll → 0 < (s.bus b).polls →
    (s.bus b).polls < 100 →
    ∃ u, exec (.sendOpCondPoll b) s = .next u ∧ u.bus b = { s.bus b with step := .opCond, polls := (s.bus b).polls + 1 } ∧
      .card b (cardFrame 1 0x00FF8000) ∈ u.out ∧ (∀ x, x ≠ b → u.bus x = s.bus x)) ∧
  (∀ (s : State) (b v : Nat), b ≤ 2 → s.mode ≠ .startup → s.mode ≠ .dormant → (s.bus b).power = true →
    (s.bus b).step = .opCond → v.testBit 31 = true →
    ∃ u, exec (.cardResponse b (.short v)) s = .next u ∧ u.bus b = { s.bus b with step := .allId } ∧
      .card b (cardFrame 2 0) ∈ u.out) ∧
  (∀ (s : State) (b c : Nat), b < 2 → s.mode ≠ .startup → s.mode ≠ .dormant → (s.bus b).power = true →
    (s.bus b).step = .allId →
    ∃ u, exec (.cardResponse b (.long c)) s = .next u ∧
      u.bus b = { s.bus b with cids := (s.bus b).cids ++ [c], step := .relAddr } ∧
      .card b (cardFrame 3 ((1 + (s.bus b).cids.length) * 2 ^ 16)) ∈ u.out) ∧
  (∀ (s : State) (b v n : Nat) (bs : Bytes), b ≤ 2 → s.mode ≠ .startup → s.mode ≠ .dormant → (s.bus b).power = true →
    (s.bus b).step = .response → (s.bus b).cur = some (.write n bs) → (s.bus b).lockOp = 0 → v < 2 ^ 29 →
    ∃ u, exec (.cardResponse b (.short v)) s = .next u ∧ u.bus b = { s.bus b with status := v, step := .crc } ∧
      .card b (fit 512 bs) ∈ u.out) ∧
  (∀ (s : State) (b : Nat) (m : BindId) (j : Job), b ≤ 2 → s.mode ≠ .startup → s.mode ≠ .dormant → (s.bus b).power = true →
    (s.bus b).step = .response → (s.bus b).resolving = 0 → (s.bus b).owner = some (.mailbox m) → s.job? (.mailbox m) = some j →
    Plain j →
    ∃ u, exec (.cardResponse b .bad) s = .next u ∧ Ends u m S.E_TKN_CARD [] ∧ u.tkn.marks = s.tkn.marks) ∧
  (∀ (s : State) (b : Nat) (o : Origin) (j : Job), b ≤ 2 → s.mode ≠ .startup → s.mode ≠ .dormant → (s.bus b).step = .busy →
    (s.bus b).script = [] → (s.bus b).resolving = 0 → (s.bus b).owner = some o → s.job? o = some j → j.phase = .card →
    ∃ u, exec (.cardBusyEnd b) s = .next u ∧ (u.bus b).step = .idle ∧ (u.bus b).cur = none ∧
      u.job? o = some { j with phase := .started, stage := j.stage + 1 }) ∧
  (∀ (s : State) (b n : Nat) (bs : Bytes) (m : BindId) (j : Job), b ≤ 2 → s.mode ≠ .startup → s.mode ≠ .dormant →
    (s.bus b).step = .busy → (s.bus b).cur = some (.write n bs) → (s.bus b).resolving = 0 →
    (s.bus b).owner = some (.mailbox m) → s.job? (.mailbox m) = some j → Plain j →
    ∃ u c, exec (.cardResponseTimeout b) s = .next u ∧ Ends u m S.E_TKN_CARD [] ∧ c ∈ u.tkn.marks ∧ c.bus = b ∧ c.block = n ∧
      c.lock = false ∧ c.cid = listGet 0 j.args 0) ∧
  (∀ (s : State) (b : Nat), b ≤ 2 → s.mode ≠ .startup → s.mode ≠ .dormant → (s.bus b).step = .response →
    (s.bus b).resolving = 0 → (s.bus b).owner = none →
    ∃ u, exec (.cardResponseTimeout b) s = .next u ∧ u.bus b = { s.bus b with script := [], cur := none, step := .idle } ∧
      ((s.bus b).power = true → .card b (cardFrame 7 0) ∈ u.out) ∧ u.tkn.marks = s.tkn.marks) ∧
  (∀ (s : State) (n : Nat), n < 2 → (s.bus n).present = false → s.mode ≠ .startup → s.mode ≠ .dormant →
    ∃ u, exec (.cardInsert n) s = .next u ∧ (u.bus n).present = true ∧ (u.bus n).power = true ∧ (u.bus n).step = .poll ∧
      (u.bus n).polls = 0 ∧ (u.bus n).cids = [] ∧ (∀ x, x ≠ n → u.bus x = s.bus x)) ∧
  (∀ (s : State) (n : Nat), n < 2 → (s.bus n).owner = none →
    ∃ u, exec (.cardRemove n) s = .next u ∧ (u.bus n).present = false ∧ (u.bus n).power = false ∧ (u.bus n).cids = [] ∧
      (u.bus n).step = .idle ∧ (∀ x, x ≠ n → u.bus x = s.bus x) ∧ u.tkn.marks = s.tkn.marks) ∧
  (∀ (s : State) (n : Nat) (m : BindId) (j : Job), n < 2 → (s.bus n).owner = some (.mailbox m) →
    s.job? (.mailbox m) = some j → Plain j →
    ∃ u, exec (.cardRemove n) s = .next u ∧ Ends u m S.E_TKN_REMOVED [] ∧ (u.bus n).present = false ∧ (u.bus n).power = false) ∧
  (∀ (s : State) (n : Nat), n < 2 → (s.bus n).owner = none → (s.bus n).step = .idle → s.regField R.TKN_CFG 15 8 ≠ 0 →
    ∃ u, exec (.socketIdleOff n) s = .next u ∧ u.bus n = { s.bus n with power := false } ∧ (∀ x, x ≠ n → u.bus x = s.bus x)) ∧
  (∀ (s : State) (n : Nat) (op : CardOp), n < 2 → (s.bus n).step = .delay → (s.bus n).cur = some op →
    ∃ u, exec (.unlockDelay n) s = .next u ∧ u.bus n = { s.bus n with failWait := false, step := .response } ∧
      .card n (cardFrame (opFrame op).1 (opFrame op).2) ∈ u.out) ∧
  (∀ (s : State) (b : BindId) (j : Job), Runs s (.mailbox b) C.TKN_SCAN 0 j → zeroAt j.ops 0 8 = true → (s.bus 2).owner = none →
    ∃ u k, exec (.tknScan (.mailbox b)) s = .next u ∧ (u.bus 2).owner = some (.mailbox b) ∧ (u.bus 2).power = true ∧
      (u.bus 2).step = .poll ∧ (u.bus 2).cids = [] ∧ u.job? (.mailbox b) = some k ∧ k.phase = .card) ∧
  (∀ (s : State) (b : BindId) (j : Job), Runs s (.mailbox b) C.TKN_SCAN 1 j → Plain j →
    ∃ u, exec (.tknScan (.mailbox b)) s = .next u ∧ Ends u b S.OK (scanResult s) ∧ (u.bus 2).owner = none) ∧
  (∀ (s : State) (b : BindId) (j : Job), Runs s (.mailbox b) C.CARD_FORCE_ERASE 2 j → Plain j → u8 j.ops 0 ≤ 1 →
    zeroAt j.ops 1 7 = true →
    ∃ u, exec (.cardForceErase (.mailbox b)) s = .next u ∧ Ends u b S.OK [] ∧ (u.bus (u8 j.ops 0)).owner = none ∧
      ((s.bus (u8 j.ops 0)).power = true → .card (u8 j.ops 0) (cardFrame 7 0) ∈ u.out) ∧ u.tkn.marks = s.tkn.marks) ∧
  (∀ (s : State) (b : BindId) (j : Job), Runs s (.mailbox b) C.ESCROW_STORE 3 j → Plain j →
    escrowStoreCheck s j.ops = none →
    ∃ u, exec (.escrowStore (.mailbox b)) s = .next u ∧ (u.tkn.ceremony = s.tkn.ceremony) ∧
      ((s.bus 2).data = fit 512 (listGet [] j.keep 2) → Ends u b S.OK (slice (listGet [] j.keep 2) 8 8)) ∧
      ((s.bus 2).data ≠ fit 512 (listGet [] j.keep 2) → Ends u b S.E_TKN_CARD [])) ∧
  (∀ (s : State) (b : BindId) (j : Job) (r : Bytes), Runs s (.mailbox b) C.ESCROW_FETCH 2 j → Plain j →
    escrowOperands j.ops = true → refCheck s j (hostRef j.ops 16) 104 maxLen = none →
    canDma s (dmaBind s j (hostRef j.ops 16).port) = true → r = (s.bus 2).data → (∃ x ∈ r, x ≠ 0xFF) → 104 < r.length →
    ∃ u, exec (.escrowFetch (.mailbox b)) s = .next u ∧
      (escrowOk r (u16 j.ops 2) = true → ((hostRef j.ops 16).port = 0 → Ends u b S.OK (slice r 8 8)) ∧
        writeMsg s (dmaBind s j (hostRef j.ops 16).port) (hostRef j.ops 16).addr (slice r 16 104) true ∈ u.out) ∧
      (escrowOk r (u16 j.ops 2) = false → Ends u b S.E_ESCROW_RECORD []))

/-- Ceremonies (from R384 to R394): CEREMONY_BEGIN opens the store, and of a CREATE draws SET_ID and the shares'
coefficients; CEREMONY_PRESENT and CEREMONY_ENROL take the socket and select its card; the first presentation of a RECOVER
is recorded when its share opens, and the first enrolment counts when its read-back matches; CEREMONY_STATUS reads; the
store ends by command, or when its window passes. -/
def Obligations.Ceremonies : Prop :=
  (∀ (s : State) (b : BindId) (j : Job), Runs s (.mailbox b) C.CEREMONY_BEGIN 0 j → Plain j → Undisputed s j → beginCheck s j.ops = none →
    u8 j.ops 0 ≠ 1 → u8 j.ops 0 ≠ 3 →
    ∃ u, exec (.ceremonyBegin (.mailbox b)) s = .next u ∧ u.tkn.ceremony = { state := 1, purpose := u8 j.ops 0 } ∧
      Ends u b S.OK (zeros 8) ∧ u.slots = s.slots) ∧
  (∀ (s : State) (b : BindId) (j : Job) (d : Drbg) (id : Bytes), Runs s (.mailbox b) C.CEREMONY_BEGIN 0 j → Plain j → Undisputed s j →
    beginCheck s j.ops = none → u8 j.ops 0 = 1 → d = s.drbgs.get {} 4097 → d.inst = true → d.requests < 2 ^ 19 →
    id = (List.range 8).map (Config.drbgOut d.kv 8) →
    ∃ u, exec (.ceremonyBegin (.mailbox b)) s = .next u ∧ u.tkn.ceremony.state = 1 ∧ u.tkn.ceremony.purpose = 1 ∧
      u.tkn.ceremony.k = u8 j.ops 1 ∧ u.tkn.ceremony.n = u8 j.ops 2 ∧ u.tkn.ceremony.setId = leNat id ∧
      u.tkn.ceremony.coeffs.length = u8 j.ops 1 - 1 ∧ u.tkn.ceremony.shares = [] ∧ u.tkn.ceremony.enrolled = [] ∧
      Ends u b S.OK (fit 8 id) ∧ u.slots = s.slots) ∧
  (∀ (s : State) (b : BindId) (j : Job) (n c : Nat), Runs s (.mailbox b) C.CEREMONY_PRESENT 0 j → Undisputed s j →
    s.tkn.ceremony.state = 1 → s.tkn.ceremony.purpose ≠ 1 →
    n = u8 j.ops 0 → pinOperands j.ops 2 = true → (s.bus n).owner = none → (s.bus n).present = true → (s.bus n).power = true →
    (s.bus n).step = .idle → (s.bus n).resolving = 0 → (s.bus n).failed = false → (s.bus n).cids = [c] → cidKind c = 0x4A →
    s.tkn.marks = [] →
    ∃ u k, exec (.ceremonyPresent (.mailbox b)) s = .next u ∧ (u.bus n).owner = some (.mailbox b) ∧ (u.bus n).cur = some (.select 1) ∧
      (u.bus n).step = .response ∧ .card n (cardFrame 7 (2 ^ 16)) ∈ u.out ∧ u.job? (.mailbox b) = some k ∧ k.phase = .card ∧
      k.args = [c] ∧ u.tkn.ceremony = s.tkn.ceremony) ∧
  (∀ (s : State) (b : BindId) (j : Job) (n c : Nat), Runs s (.mailbox b) C.CEREMONY_ENROL 0 j → Undisputed s j →
    s.tkn.ceremony.state = 1 → s.tkn.ceremony.purpose = 1 → s.tkn.ceremony.enrolled = [] → 1 ≤ u8 j.ops 2 → u8 j.ops 2 ≤ 16 →
    u8 j.ops 2 ≤ s.tkn.ceremony.n →
    n = u8 j.ops 0 → pinOperands j.ops 3 = true → (s.bus n).owner = none → (s.bus n).present = true → (s.bus n).power = true →
    (s.bus n).step = .idle → (s.bus n).resolving = 0 → (s.bus n).failed = false → (s.bus n).cids = [c] → cidKind c = 0x4A →
    s.tkn.marks = [] →
    ∃ u k, exec (.ceremonyEnrol (.mailbox b)) s = .next u ∧ (u.bus n).owner = some (.mailbox b) ∧ (u.bus n).cur = some (.select 1) ∧
      (u.bus n).step = .response ∧ .card n (cardFrame 7 (2 ^ 16)) ∈ u.out ∧ u.job? (.mailbox b) = some k ∧ k.phase = .card ∧
      k.args = [c] ∧ u.tkn.ceremony = s.tkn.ceremony) ∧
  (∀ (s : State) (b : BindId) (j : Job) (n : Nat) (r : Bytes), Runs s (.mailbox b) C.CEREMONY_PRESENT 3 j → Plain j →
    s.tkn.ceremony.state = 1 → s.tkn.ceremony.purpose = 2 → s.tkn.ceremony.shares = [] → s.keyed = false →
    pinOperands j.ops 2 = true → n = u8 j.ops 0 → r = (s.bus n).data →
    ∃ u, exec (.ceremonyPresent (.mailbox b)) s = .next u ∧
      (shareIn r (pinOf j.ops) (listGet 0 j.args 0) = none → Ends u b S.E_TKN_SHARE [] ∧ u.tkn.ceremony = s.tkn.ceremony) ∧
      (∀ sh, shareIn r (pinOf j.ops) (listGet 0 j.args 0) = some sh → 2 ≤ u8 r 2 →
        Ends u b S.OK (cerResult 1 1 (u8 r 4)) ∧ u.tkn.ceremony.shares = [(u8 r 4, listGet 0 j.args 0, sh)] ∧
        u.tkn.ceremony.setK = u8 r 2 ∧ u.tkn.ceremony.setId = u64 r 8 ∧ (u.bus n).power = false)) ∧
  (∀ (s : State) (b : BindId) (j : Job) (n idx cid : Nat), Runs s (.mailbox b) C.CEREMONY_ENROL 4 j → Plain j →
    s.tkn.ceremony.state = 1 → s.tkn.ceremony.purpose = 1 → s.tkn.ceremony.enrolled = [] → pinOperands j.ops 3 = true →
    idx = u8 j.ops 2 → 1 ≤ idx → idx ≤ 16 → idx ≤ s.tkn.ceremony.n → n = u8 j.ops 0 →
    cid = listGet 0 j.args 0 →
    ∃ u, exec (.ceremonyEnrol (.mailbox b)) s = .next u ∧
      (digestField n (s.bus n).data = digestField n (shareRecord s (pinOf j.ops) cid idx) →
        Ends u b S.OK (cerResult 1 1 idx) ∧ u.tkn.ceremony.enrolled = [(idx, cid)]) ∧
      (digestField n (s.bus n).data ≠ digestField n (shareRecord s (pinOf j.ops) cid idx) →
        Ends u b S.E_TKN_CARD [] ∧ u.tkn.ceremony = s.tkn.ceremony)) ∧
  (∀ (s : State) (b : BindId) (j : Job), Runs s (.mailbox b) C.CEREMONY_STATUS 0 j → Plain j → zeroAt j.ops 0 8 = true →
    ∃ u, exec (.ceremonyStatus (.mailbox b)) s = .next u ∧ Ends u b S.OK (cerStatus s) ∧ u.tkn = s.tkn) ∧
  (∀ (s : State) (b : BindId) (j : Job), Runs s (.mailbox b) C.CEREMONY_END 0 j → Plain j → Undisputed s j → zeroAt j.ops 0 8 = true →
    s.tkn.ceremony.state ≠ 0 →
    ∃ u, exec (.ceremonyEnd (.mailbox b)) s = .next u ∧ Ends u b S.OK [] ∧ u.tkn = { s.tkn with marks := [], ceremony := {} }) ∧
  (∀ (s : State), s.tkn.ceremony.state ≠ 0 → s.tkn.ceremony.until_ ≠ none →
    (∀ j ∈ s.jobs, (j.code = C.CEREMONY_PRESENT ∨ j.code = C.CEREMONY_ENROL) → j.stage < 20) →
    ∃ u, exec .ceremonyExpire s = .next u ∧ u.tkn = { s.tkn with
      marks := [], ceremony := { expired := s.tkn.ceremony.state != 3 } } ∧ u.jobs = s.jobs ∧ u.slots = s.slots)

/-- Links (from R400, R404, R414): in SERVICE a DOWN link trains when it has signal, or again a second after a failure;
training that ends leads to TRAINED on a link without a session, training that fails to DOWN, and fast retraining that fails
to full training; a quarantined link trains with its session kept; an ACTIVE link that loses its signal trains. A TRAINED
link sends a beacon each millisecond, and in DORMANT the keep-alive links do. -/
def Obligations.LinkTrainingAndBeacons : Prop :=
  (∀ (s : State) (l : Nat), l < 8 → s.mode = .service → (s.link l).state = .down →
    exec (.swlSignalDetect l) s = .next (s.setLink l { s.link l with signal := true, state := .training })) ∧
  (∀ (s : State) (l : Nat), l < 8 → s.mode = .service → (s.link l).state = .training → (s.link l).level = 0 → (s.link l).queue = [] →
    ∃ u, exec (.swlTrainingDone l) s = .next u ∧ (u.link l).state = .trained ∧ (u.link l).keepAlive = false ∧
      (u.link l).fast = false ∧ (∀ x, x ≠ l → u.link x = s.link x) ∧ u.slots = s.slots) ∧
  (∀ (s : State) (l : Nat), l < 8 → s.mode = .service → (s.link l).state = .quarantined → (s.link l).retraining = true →
    exec (.swlTrainingDone l) s = .next (s.setLink l
      { s.link l with retraining := false, quarTrained := true, goodBeacons := 0, keepAlive := false })) ∧
  (∀ (s : State) (l : Nat), l < 8 → s.mode = .service → (s.link l).state = .training → (s.link l).queue = [] →
    ∃ u, exec (.swlTrainingTimeout l) s = .next u ∧ (u.link l).state = .down ∧ (∀ x, x ≠ l → u.link x = s.link x)) ∧
  (∀ (s : State) (l : Nat), l < 8 → s.mode = .service → (s.link l).state = .active → (s.link l).fast = true → (s.link l).queue = [] →
    ∃ u, exec (.swlTrainingTimeout l) s = .next u ∧ (u.link l).state = .training ∧ (u.link l).former = .active ∧
      (u.link l).fast = false ∧ (u.link l).level = (s.link l).level ∧ (∀ x, x ≠ l → u.link x = s.link x)) ∧
  (∀ (s : State) (l : Nat), l < 8 → s.mode = .service → (s.link l).state = .down → (s.link l).signal = true →
    ∃ u, exec (.swlTrainingRetry l) s = .next u ∧ u.link l = { s.link l with state := .training } ∧
      (∀ x, x ≠ l → u.link x = s.link x)) ∧
  (∀ (s : State) (l : Nat), l < 8 → s.mode = .service → (s.link l).state = .quarantined →
    ∃ u, exec (.swlQuarantineRetrain l) s = .next u ∧ u.link l = { s.link l with retraining := true, quarTrained := false } ∧
      (∀ x, x ≠ l → u.link x = s.link x)) ∧
  (∀ (s : State) (l : Nat), l < 8 → (s.link l).state = .active → (s.link l).queue = [] →
    ∃ u, exec (.swlSignalLoss l) s = .next u ∧ (u.link l).state = .training ∧ (u.link l).former = .active ∧
      (u.link l).signal = false ∧ (u.link l).level = (s.link l).level ∧ (∀ x, x ≠ l → u.link x = s.link x) ∧ u.slots = s.slots) ∧
  (∀ (s : State) (l : Nat), l < 8 → s.mode = .service → (s.link l).level = 0 → (s.link l).state = .trained →
    (s.link l).retraining = false →
    ∃ u, exec .swlBeaconTimer s = .next u ∧ .frame l { ty := 1, payload := beaconBytes s l } ∈ u.out ∧ u.slots = s.slots ∧
      u.fabric = s.fabric) ∧
  (∀ (s : State) (l : Nat), l < 8 → s.mode = .dormant → s.moon.onVbat = false → s.moon.aonPower = true →
    (s.regField R.PWR_KEEPALIVE 7 0).testBit l = true →
    ∃ u, exec .swlBeaconTimer s = .next u ∧ .frame l (kaBeacon s) ∈ u.out ∧ u.links = s.links ∧ u.mode = .dormant)

/-- Beacons, rates and keep-alive frames received on a link that runs undisturbed (from R293, R401, R404, R413, R414, R418):
a good clear beacon gives the partner's fields, and QUARANTINED when it asks; a bad one is counted; a RATE request for
KEEP_ALIVE is followed and answered; a KA_BEACON ends the session; a DORMANT_NOTICE about a frame of this node is logged as
a late failure; an UNREACH ends the SHRED_STAGE it names with E_FAB_UNREACHABLE. A WAKE brings a DORMANT device to STARTUP.
A DISABLED link receives nothing. -/
def Obligations.LinkFramesReceived : Prop :=
  (∀ (s : State) (l : Nat) (f : Frame), Quiet s l → f.ty = 1 → clearGood f = true → u8 f.payload 34 = 0 →
    u8 f.payload 8 % 16 = 5 →
    ∃ u, exec (.beacon l f) s = .next u ∧ (u.link l).partner = u64 f.payload 0 ∧ (u.link l).partnerState = 5 ∧
      (u.link l).partnerAddr = u16 f.payload 32 ∧ (u.link l).partnerKcv = u64 f.payload 16 ∧
      (u.link l).state = (if bitOf (u8 f.payload 9) 2 then .quarantined else .active) ∧ (u.link l).level = 2 ∧
      (∀ x, x ≠ l → u.link x = s.link x) ∧ u.fabric = s.fabric ∧ u.slots = s.slots) ∧
  (∀ (s : State) (l : Nat) (f : Frame), Quiet s l → f.ty = 1 → f.lineOk = false →
    ∃ u, exec (.beacon l f) s = .next u ∧ (u.link l).bad = satInc 32 (s.link l).bad ∧ (u.link l).err = 8 ∧
      (u.link l).partner = (s.link l).partner ∧ u.fabric = s.fabric) ∧
  (∀ (s : State) (l : Nat) (f g : Frame), Hears s l f g → f.ty = 3 → u8 g.payload 0 = 1 → u8 g.payload 1 = 0 →
    ∃ u, exec (.rate l f) s = .next u ∧ (u.link l).partnerKa = true ∧ (u.link l).keepAlive = true ∧ u.mode = .service ∧
      .frame l (sealFrame (slotKey s (16 + 2 * l)) 
        { ty := 3, sealed := true, lseq := (s.link l).txLseq + 1, keyPhase := (s.link l).keyPhase, payload := [1, 1] ++ zeros 30 }) ∈ u.out) ∧
  (∀ (s : State) (l : Nat) (f : Frame), Quiet s l → f.ty = 4 → clearGood f = true →
    ∃ u, exec (.kaBeacon l f) s = .next u ∧ (u.link l).state = .peerDormant ∧ (u.link l).level = 0 ∧
      (u.link l).partnerAddr = u16 f.payload 8 ∧ (u.slot (16 + 2 * l)).active = none ∧ (u.slot (17 + 2 * l)).active = none ∧
      (∀ x, x ≠ l → u.link x = s.link x)) ∧
  (∀ (s : State) (l : Nat) (f : Frame), s.mode = .dormant → l < 8 → s.moon.onVbat = false → s.moon.corePower = true →
    (s.regField R.PWR_KEEPALIVE 7 0).testBit l = true → clearGood f = true → f.ty = 5 →
    f.dst = s.regField R.PWR_KEEPALIVE 23 8 → (s.reg R.PWR_WAKE_CFG).testBit 0 = true → s.regField R.PWR_WAKE_CFG 15 8 = 0 →
    ∃ u, exec (.wake l f) s = .next u ∧ u.mode = .startup ∧ (u.reg R.PWR_WAKE_CAUSE).testBit 0 = true ∧
      (u.reg R.PWR_WAKE_CAUSE).testBit (32 + l) = true ∧ s.clk ∈ u.moon.swlWakes) ∧
  (∀ (s : State) (l : Nat) (f g : Frame), Quiet s l → f.ty = 6 → clearGood f = true →
    (s.link l).sent.find? (fun h => h.tag == u64 f.payload 12 && h.ty == u8 f.payload 10) = some g → g.ty ≠ 0x23 →
    g.src = s.fabric.addr →
    ∃ u e, exec (.dormantNotice l f) s = .next u ∧ e ∈ u.fabric.replLog ∧
      e.payload = nakPayload (itemOf g).1 (itemOf g).2 g.ty 2 s.fabric.addr g.tag ∧ e.state = 1) ∧
  (∀ (s : State) (l : Nat) (f g : Frame) (n : Notice) (b : BindId) (j : Job), Hears s l f g → f.ty = 7 → f.dst = s.fabric.addr →
    s.fabric.notices.find? (fun m => m.tag == u64 g.payload 0) = some n → n.origin = .mailbox b →
    s.job? (.mailbox b) = some j → Plain j →
    ∃ u, exec (.unreach l f) s = .next u ∧ Ends u b S.E_FAB_UNREACHABLE [] ∧
      (∀ m ∈ u.fabric.notices, m.origin ≠ .mailbox b)) ∧
  (∀ (s : State) (l : Nat) (f : Frame), (s.link l).state = .disabled → s.mode = .service →
    exec (.hs l f) s = .next s ∧ exec (.beacon l f) s = .next s ∧ exec (.rate l f) s = .next s)

/-- Sessions (from R406 to R413): a fragment of AUTH, sealed under the keys of the handshake, is kept in order; an INIT with
a valid X448 key is answered with RESP, after which the link waits in HANDSHAKE with its own AUTH sent, or has failed by the
bound of R222; one with a refused key fails; a handshake that fails counts and waits. A retry and a renewal send INIT, given
an engine and seeded instances; the old receive key is dropped in its time; a session that ends clears its key slots. The
link commands (from R419): DISABLE ends the session and empties the queue, ENABLE starts at DOWN, RETRAIN keeps the session,
CLEAR_COUNTS clears the counters; an ACTION that the state does not take is refused; SWL_LINK_INFO reads. -/
def Obligations.LinkSessionsAndCommands : Prop :=
  (∀ (s : State) (l : Nat) (f g : Frame) (h : Handshake), l < 8 → s.mode = .service → s.fabric.isolated = false →
    (s.link l).state = .handshake → (s.link l).level = 0 → (s.link l).queue = [] → (s.link l).hs = some h → h.okm ≠ [] →
    f.ty = 2 → f.sealed = true → openFrame s l f = some g → u8 g.payload 0 = 3 → u8 g.payload 1 = 0 → u8 g.payload 2 = 3 →
    u32 g.payload 4 = 6000 →
    ∃ u, exec (.hs l f) s = .next u ∧
      (u.link l).hs = some { h with partMsg := 3, parts := [(g.payload.drop 8).take 2040], rx := f.lseq } ∧
      (u.link l).state = .handshake ∧ (∀ x, x ≠ l → u.link x = s.link x)) ∧
  (∀ (s : State) (l n : Nat) (f : Frame) (d : Drbg) (a c : SlotHalf) (m : Bytes), l < 8 → s.mode = .service →
    s.fabric.isolated = false → (s.link l).state = .trained → (s.link l).level = 0 → (s.link l).queue = [] →
    (s.link l).hs = none → (s.link l).partner ≠ 0 → f.ty = 2 → clearGood f = true → u8 f.payload 0 = 1 →
    u8 f.payload 1 = 0 → u8 f.payload 2 = 1 → u32 f.payload 4 = 1672 → m = (f.payload.drop 8).take 1672 → helloOk m = true →
    d = s.drbgs.get {} (4099 + l) → d.inst = true → d.requests < 2 ^ 19 → (s.drbgs.get {} 4098).inst = true →
    (s.drbgs.get {} 4098).requests < 2 ^ 19 → freeEngine s = some n → activeHalf s 0 = some a → activeHalf s 1 = some c →
    ∃ u, exec (.hs l f) s = .next u ∧ (∀ x, x ≠ l → u.link x = s.link x) ∧
      (Config.sharedValid 8 0 (keyPriv 8 0 (((List.range 120).map (Config.drbgOut d.kv 120)).take 56)) (slice m 48 56) = true →
        (∃ r, .frame l { ty := 2, payload := fragment 2 r 0 } ∈ u.out ∧ r.length = 1672 ∧ r.take 2 = [1, if s.keyed then 1 else 0] ∧
          u64 r 8 = domainKcv s) ∧
        ((u.link l).state = .handshake ∧ (∃ h, (u.link l).hs = some h ∧ h.init = m ∧ h.initiator = false ∧ h.authSent = true) ∨
          (u.link l).state = .trained ∧ (u.link l).hsWait = true)) ∧
      (Config.sharedValid 8 0 (keyPriv 8 0 (((List.range 120).map (Config.drbgOut d.kv 120)).take 56)) (slice m 48 56) = false →
        (u.link l).state = .trained ∧ (u.link l).hsWait = true ∧ (u.link l).hsFails = satInc 7 (s.link l).hsFails)) ∧
  (∀ (s : State) (l : Nat), l < 8 → s.mode = .service → (s.link l).state = .handshake → (s.link l).level = 0 →
    ∃ u, exec (.swlHsTimeout l) s = .next u ∧ (u.link l).state = .trained ∧ (u.link l).hs = none ∧ (u.link l).hsWait = true ∧
      (u.link l).hsFails = satInc 7 (s.link l).hsFails ∧ (u.slot (16 + 2 * l)).active = none ∧
      (u.slot (17 + 2 * l)).active = none ∧ (∀ x, x ≠ l → u.link x = s.link x)) ∧
  (∀ (s : State) (l n : Nat) (d : Drbg), l < 8 → s.mode = .service → (s.link l).hsWait = true → (s.link l).state = .trained →
    (s.link l).level = 0 → idHash s < (s.link l).partner → d = s.drbgs.get {} (4099 + l) → d.inst = true → d.requests < 2 ^ 19 →
    (s.drbgs.get {} 4098).inst = true → (s.drbgs.get {} 4098).requests < 2 ^ 19 → freeEngine s = some n →
    ∃ u h, exec (.swlHsRetry l) s = .next u ∧ (u.link l).state = .handshake ∧ (u.link l).hsWait = false ∧
      (u.link l).hs = some h ∧ h.initiator = true ∧ h.renewal = false ∧ h.okm = [] ∧ h.init.length = 1672 ∧
      .frame l { ty := 2, payload := fragment 1 h.init 0 } ∈ u.out ∧ (∀ x, x ≠ l → u.link x = s.link x)) ∧
  (∀ (s : State) (l n : Nat) (d : Drbg), l < 8 → s.mode = .service → (s.link l).level ≠ 0 → (s.link l).hs = none →
    d = s.drbgs.get {} (4099 + l) → d.inst = true → d.requests < 2 ^ 19 → (s.drbgs.get {} 4098).inst = true →
    (s.drbgs.get {} 4098).requests < 2 ^ 19 → freeEngine s = some n →
    ∃ u h, exec (.swlRenewal l) s = .next u ∧ (u.link l).state = (s.link l).state ∧ (u.link l).level = (s.link l).level ∧
      (u.link l).hs = some h ∧ h.initiator = true ∧ h.renewal = true ∧ h.okm = [] ∧ h.init.length = 1672 ∧
      .frame l { ty := 2, payload := fragment 1 h.init 0 } ∈ u.out ∧ (∀ x, x ≠ l → u.link x = s.link x)) ∧
  (∀ (s : State) (l : Nat), l < 8 → (s.link l).oldKey.isSome = true →
    ∃ u, exec (.swlOldKeyExpire l) s = .next u ∧ u.link l = { s.link l with oldKey := none, oldRxLseq := 0 } ∧
      (∀ x, x ≠ l → u.link x = s.link x) ∧ u.slots = s.slots) ∧
  (∀ (s : State) (l : Nat), l < 8 → (s.link l).signal = false → (s.link l).level ≠ 0 → (s.link l).queue = [] →
    ∃ u, exec (.swlSessionTimeout l) s = .next u ∧ (u.link l).level = 0 ∧ (u.link l).hs = none ∧
      (u.slot (16 + 2 * l)).active = none ∧ (u.slot (17 + 2 * l)).active = none ∧ (∀ x, x ≠ l → u.link x = s.link x)) ∧
  (∀ (s : State) (l : Nat), l < 8 → s.mode = .service → (s.link l).level ≠ 0 → (s.link l).state = .active → (s.link l).queue = [] →
    ∃ u, exec (.swlPartnerRestart l) s = .next u ∧ (u.link l).state = .trained ∧ (u.link l).level = 0 ∧
      (u.slot (16 + 2 * l)).active = none ∧ (u.slot (17 + 2 * l)).active = none ∧ (∀ x, x ≠ l → u.link x = s.link x)) ∧
  (∀ (s : State) (b : BindId) (j : Job) (l : Nat), Runs s (.mailbox b) C.SWL_LINK_CTRL 0 j → Plain j → l = u8 j.ops 0 →
    l ≤ 7 → u8 j.ops 1 = 0 → zeroAt j.ops 2 6 = true → (s.link l).state = .disabled → (s.link l).queue = [] →
    ∃ u, exec (.swlLinkCtrl (.mailbox b)) s = .next u ∧ Ends u b S.OK [] ∧ (u.link l).state = .down ∧
      (∀ x, x ≠ l → u.link x = s.link x)) ∧
  (∀ (s : State) (b : BindId) (j : Job) (l : Nat), Runs s (.mailbox b) C.SWL_LINK_CTRL 0 j → Plain j → l = u8 j.ops 0 →
    l ≤ 7 → u8 j.ops 1 = 0 → zeroAt j.ops 2 6 = true → (s.link l).state ≠ .disabled →
    ∃ u, exec (.swlLinkCtrl (.mailbox b)) s = .next u ∧ Ends u b S.E_SWL_STATE [] ∧ u.links = s.links) ∧
  (∀ (s : State) (b : BindId) (j : Job) (l : Nat), Runs s (.mailbox b) C.SWL_LINK_CTRL 0 j → Plain j → l = u8 j.ops 0 →
    l ≤ 7 → u8 j.ops 1 = 1 → zeroAt j.ops 2 6 = true → (s.link l).state ≠ .disabled → (s.link l).queue = [] →
    ∃ u, exec (.swlLinkCtrl (.mailbox b)) s = .next u ∧ Ends u b S.OK [] ∧ (u.link l).state = .disabled ∧
      (u.link l).level = 0 ∧ (u.link l).queue = [] ∧ (u.slot (16 + 2 * l)).active = none ∧ (u.slot (17 + 2 * l)).active = none ∧
      (∀ x, x ≠ l → u.link x = s.link x)) ∧
  (∀ (s : State) (b : BindId) (j : Job) (l : Nat), Runs s (.mailbox b) C.SWL_LINK_CTRL 0 j → Plain j → l = u8 j.ops 0 →
    l ≤ 7 → u8 j.ops 1 = 2 → zeroAt j.ops 2 6 = true → (s.link l).state = .active → (s.link l).level ≠ 0 →
    (s.link l).queue = [] →
    ∃ u, exec (.swlLinkCtrl (.mailbox b)) s = .next u ∧ Ends u b S.OK [] ∧ (u.link l).state = .training ∧
      (u.link l).former = .active ∧ (u.link l).level = (s.link l).level ∧ (∀ x, x ≠ l → u.link x = s.link x)) ∧
  (∀ (s : State) (b : BindId) (j : Job) (l : Nat), Runs s (.mailbox b) C.SWL_LINK_CTRL 0 j → Plain j → l = u8 j.ops 0 →
    l ≤ 7 → u8 j.ops 1 = 3 → zeroAt j.ops 2 6 = true → (s.link l).level = 0 →
    ∃ u, exec (.swlLinkCtrl (.mailbox b)) s = .next u ∧ Ends u b S.E_SWL_STATE [] ∧ u.links = s.links) ∧
  (∀ (s : State) (b : BindId) (j : Job) (l : Nat), Runs s (.mailbox b) C.SWL_LINK_CTRL 0 j → Plain j → l = u8 j.ops 0 →
    l ≤ 7 → u8 j.ops 1 = 4 → zeroAt j.ops 2 6 = true →
    ∃ u, exec (.swlLinkCtrl (.mailbox b)) s = .next u ∧ Ends u b S.OK [] ∧ (∀ x, x ≠ l → u.link x = s.link x) ∧
      u.link l = { s.link l with bad := 0, refused := 0, handedBack := 0, fecCorrected := 0, fecUncorrectable := 0 }) ∧
  (∀ (s : State) (b : BindId) (j : Job) (k : Link), Runs s (.mailbox b) C.SWL_LINK_INFO 0 j → Plain j → u8 j.ops 0 ≤ 7 →
    zeroAt j.ops 1 7 = true → k = s.link (u8 j.ops 0) →
    ∃ u, exec (.swlLinkInfo (.mailbox b)) s = .next u ∧ u.links = s.links ∧
      Ends u b S.OK (leBytes 8 (swlInfo k) ++ leBytes 8 k.partner ++ leBytes 8 (swlSession s k) ++ leBytes 8 (swlFrames k) ++
        leBytes 8 (swlFec k) ++ zeros 8))

/-- Topology (from R420, R424, R425, R439): the node originates LSAs on its links with a session, keeps a new one that it
hears from another node, and no older one; it drops one that expires with the holder entries of its origin; its address
becomes OWNED; isolation is entered with an event. -/
def Obligations.FabricTopology : Prop :=
  (∀ (s : State) (l : Nat), s.mode = .service → l < 8 → (s.link l).level ≠ 0 →
    ∃ u f, exec .lsaTimer s = .next u ∧ u.fabric.lsaSeq = (s.fabric.lsaSeq + 1) % 2 ^ 32 ∧ f ∈ (u.link l).queue ∧ f.ty = 0x10 ∧
      f.cls = 1 ∧ f.dst = 0xFFFF ∧ f.src = s.fabric.addr ∧ f.tag = 0x10 * 2 ^ 56 + (s.fabric.tagSeq + 1) % 2 ^ 56 ∧
      u.slots = s.slots) ∧
  (∀ (s : State) (l : Nat) (f g : Frame), Hears s l f g → f.ty = 0x10 → u8 g.payload 10 = 0 →
    s.fabric.db.look? (u64 g.payload 0) = none → s.fabric.db.length < 1024 →
    ∃ u, exec (.lsa l f) s = .next u ∧
      (u64 g.payload 0 ≠ idHash s → u.fabric = { s.fabric with db := s.fabric.db.insert (u64 g.payload 0) (parseLsa g.payload) }) ∧
      (u64 g.payload 0 = idHash s → u.fabric.db = s.fabric.db)) ∧
  (∀ (s : State) (l : Nat) (f g : Frame) (e : LsaEntry), Hears s l f g → f.ty = 0x10 →
    s.fabric.db.look? (u64 g.payload 0) = some e → u32 g.payload 12 ≤ e.seq →
    ∃ u, exec (.lsa l f) s = .next u ∧ u.fabric.db = s.fabric.db) ∧
  (∀ (s : State) (id : Nat), (s.fabric.db.look? id).isSome = true →
    ∃ u, exec (.lsaExpire id) s = .next u ∧ u.fabric = { s.fabric with
      db := s.fabric.db.erase id, holders := s.fabric.holders.filter (·.2 != id) } ∧ u.links = s.links ∧ u.slots = s.slots) ∧
  (∀ (s : State), s.fabric.addrState = 1 →
    ∃ u, exec .addrOwned s = .next u ∧ u.fabric = { s.fabric with addrState := 2 } ∧ u.links = s.links ∧ u.slots = s.slots) ∧
  (∀ (s : State), s.mode = .service → s.fabric.isolated = false →
    ∃ u, exec .isolationEnter s = .next (recordEvent u 0x8E06 1 0 0) ∧ u.fabric = { s.fabric with isolated := true } ∧
      u.links = s.links ∧ u.slots = s.slots)

/-- Holders, notices and late failures (from R417, R433 to R437): HOLD and HOLD_DROP move the holder table; a STAGE_NOTICE
for this node stages its range in a tree that holds the TREE_UID, and is answered when it is of class 0; one for another
node is refused; the last STAGE_ACK ends SHRED_STAGE, and its absence fails it with E_FAB_UNREACHABLE; a LATE_NAK is logged,
or with NOT_HELD ends the fetch it answers; a fetch without an answer ends with E_FAB_TIMEOUT. -/
def Obligations.HoldersNoticesAndNaks : Prop :=
  (∀ (s : State) (l : Nat) (f g : Frame), Hears s l f g → f.ty = 0x11 → f.dst = s.fabric.addr →
    s.fabric.holders.contains (u64 g.payload 0, u64 g.payload 8) = false → s.fabric.holders.length < 4096 →
    ∃ t, Heard s t l f ∧ exec (.hold l f) s = .next { t with fabric := { s.fabric with
      holders := s.fabric.holders ++ [(u64 g.payload 0, u64 g.payload 8)] } }) ∧
  (∀ (s : State) (l : Nat) (f g : Frame), Hears s l f g → f.ty = 0x12 → f.dst = s.fabric.addr →
    ∃ t, Heard s t l f ∧ exec (.holdDrop l f) s = .next { t with fabric := { s.fabric with
      holders := s.fabric.holders.filter (· != (u64 g.payload 0, u64 g.payload 8)) } }) ∧
  (∀ (s : State) (l : Nat) (f g : Frame), Hears s l f g → f.ty = 0x13 → f.dst = s.fabric.addr →
    ∃ t, Heard s t l f ∧
      (u64 g.payload 8 ≠ idHash s → exec (.stageNotice l f) s = .next (sendNak t g 12)) ∧
      (∀ r n k, u64 g.payload 8 = idHash s → rangeAt g.payload 16 = some r → s.jobs = [] → s.agate.trees = [(n, k)] →
        k.uid = u64 g.payload 0 → k.state ≠ .free → k.staged.length < 256 → stagedTotal s < 16384 →
        (f.cls ≠ 0 →
          exec (.stageNotice l f) s = .next (t.setTree n { k with staged := k.staged ++ [{ r with noticed := true }] })) ∧
        (f.cls = 0 →
          exec (.stageNotice l f) s = .next (sendNet (t.setTree n { k with staged := k.staged ++ [{ r with noticed := true }] }) 0x14 0
            f.src (leBytes 8 f.tag ++ leBytes 2 S.OK ++ zeros 22)).2))) ∧
  (∀ (s : State) (l : Nat) (f g : Frame) (n : Notice) (b : BindId) (j : Job), Hears s l f g → f.ty = 0x14 → f.dst = s.fabric.addr →
    s.fabric.notices = [n] → n.tag = u64 g.payload 0 → u16 g.payload 8 = S.OK → n.origin = .mailbox b →
    s.job? (.mailbox b) = some j → Plain j → j.args = [] →
    ∃ u, exec (.stageAck l f) s = .next u ∧ Ends u b S.OK (listGet [] j.keep 0) ∧ u.fabric.notices = []) ∧
  (∀ (s : State) (n : Notice) (b : BindId) (j : Job), s.fabric.notices = [n] → n.origin = .mailbox b →
    s.job? (.mailbox b) = some j → Plain j →
    ∃ u, exec (.stageNoticeTimeout n.tag) s = .next u ∧ Ends u b S.E_FAB_UNREACHABLE [] ∧ u.fabric.notices = []) ∧
  (∀ (s : State) (l : Nat) (f g : Frame), Hears s l f g → f.ty = 0x23 → f.dst = s.fabric.addr →
    u8 (fit 32 g.payload) 10 ≠ 16 →
    ∃ u e, exec (.lateNak l f) s = .next u ∧ e ∈ u.fabric.replLog ∧ e.payload = fit 32 g.payload ∧ e.time = s.time ∧ e.state = 1) ∧
  (∀ (s : State) (l : Nat) (f g : Frame) (n : Fetch) (b : BindId) (j : Job), Hears s l f g → f.ty = 0x23 → f.dst = s.fabric.addr →
    u8 (fit 32 g.payload) 10 = 16 → s.fabric.fetches = [n] → n.tag = u64 (fit 32 g.payload) 0 → n.origin = .mailbox b →
    s.job? (.mailbox b) = some j → Plain j →
    ∃ u, exec (.lateNak l f) s = .next u ∧ Ends u b S.E_FAB_NOT_HELD [] ∧ u.fabric.fetches = [] ∧
      u.fabric.replLog = s.fabric.replLog) ∧
  (∀ (s : State) (n : Fetch) (b : BindId) (j : Job), s.fabric.fetches = [n] → n.origin = .mailbox b →
    s.job? (.mailbox b) = some j → Plain j →
    ∃ u, exec (.fabFetchTimeout n.tag) s = .next u ∧ Ends u b S.E_FAB_TIMEOUT [] ∧ u.fabric.fetches = [])

/-- Replicas and fetches (from R431, R432, R438): an ANCHOR_PUSH of a new TREE_UID whose MAC is good asks for a token as a
replica; a ROOT_PUSH whose blob opens and a ROOT_DROP of a held root start a configuration record; ROOT_FETCH and
IMAGE_FETCH are answered with what is held, and their answers let the waiting command go on. A frame for another node's
ID_HASH is refused, ROOT_DROP apart. -/
def Obligations.ReplicasAndFetches : Prop :=
  (∀ (s : State) (l : Nat) (f g : Frame) (a : Anchor), Hears s l f g → f.ty = 0x20 → f.dst = s.fabric.addr →
    a = parseAnchor (slice g.payload 16 64) →
    ∃ t, Heard s t l f ∧
      (u64 g.payload 0 ≠ idHash s → exec (.anchorPush l f) s = .next (sendNak t g 12)) ∧
      (u64 g.payload 0 = idHash s → s.keyed = false → exec (.anchorPush l f) s = .next (sendNak t g 9)) ∧
      (u64 g.payload 0 = idHash s → s.keyed = true → a.mac = anchorMac s a → u8 g.payload 16 = 1 → anchorOf s a.uid = none →
        anchorsPlanned s 0 < 131072 → s.agate.writes = [] →
        exec (.anchorPush l f) s = .next (askWrite { t with sched := { s.sched with orderSeq := s.sched.orderSeq + 1 } }
          { purpose := .replica, ready := true, tree := a.treeNum, source := (u64 g.payload 8, f.src), seq := s.sched.orderSeq + 1
            frame := some g, anchor := { a with flags := (a.flags &&& 1) ||| 4, mark := 0xFF } }))) ∧
  (∀ (s : State) (l : Nat) (f g : Frame) (c : Bytes), Hears s l f g → f.ty = 0x21 → f.dst = s.fabric.addr → c = s.cdk.getD [] →
    ∃ t, Heard s t l f ∧
      (u64 (fit 128 g.payload) 0 ≠ idHash s → exec (.rootPush l f) s = .next (sendNak t g 12)) ∧
      (u64 (fit 128 g.payload) 0 = idHash s → s.keyed = true → slice (slice (fit 128 g.payload) 24 104) 8 8 = kcv c →
        (openBlob (slice (fit 128 g.payload) 24 104) c 1).1 = S.OK → s.cfg = [] →
        (startCfg s none 3 (u64 (fit 128 g.payload) 8) (.replica (fit 128 g.payload))).isSome = true →
        ∃ u, exec (.rootPush l f) s = .next u ∧
          startCfg t none 3 (u64 (fit 128 g.payload) 8) (.replica (fit 128 g.payload)) = some u)) ∧
  (∀ (s : State) (l : Nat) (f g : Frame), Hears s l f g → f.ty = 0x22 → f.dst = s.fabric.addr →
    ∃ t, Heard s t l f ∧
      (u64 g.payload 0 ≠ idHash s → exec (.rootDrop l f) s = .next t) ∧
      (u64 g.payload 0 = idHash s → (cfgFind s 3 (u64 g.payload 8)).isSome = true →
        (startCfg s none 4 (u64 g.payload 8) (.tombstone 3)).isSome = true →
        ∃ u, exec (.rootDrop l f) s = .next u ∧ startCfg t none 4 (u64 g.payload 8) (.tombstone 3) = some u)) ∧
  (∀ (s : State) (l : Nat) (f g : Frame), Hears s l f g → f.ty = 0x24 → f.dst = s.fabric.addr →
    ∃ t, Heard s t l f ∧
      (∀ r p, u64 g.payload 0 = idHash s → cfgFind s 3 (u64 g.payload 8) = some r → cfgBody s r = .replica p →
        exec (.rootFetch l f) s = .next (sendNet t 0x25 1 g.src p).2) ∧
      (u64 g.payload 0 = idHash s → cfgFind s 3 (u64 g.payload 8) = none →
        exec (.rootFetch l f) s = .next (sendNak t g 16))) ∧
  (∀ (s : State) (l : Nat) (f g : Frame) (n : Fetch) (j : Job), Hears s l f g → f.ty = 0x25 → f.dst = s.fabric.addr →
    s.fabric.fetches = [n] → n.ty = 0x25 → n.item = u64 g.payload 8 → s.job? n.origin = some j → j.phase = .peer →
    ∃ u, exec (.rootData l f) s = .next u ∧ u.fabric.fetches = [] ∧
      u.job? n.origin = some { j with phase := .started, stage := j.stage + 1, data := [fit 128 g.payload] } ∧
      u.slots = s.slots) ∧
  (∀ (s : State) (l w : Nat) (f g : Frame) (img : Bytes), Hears s l f g → f.ty = 0x26 → f.dst = s.fabric.addr → w < 16 →
    (∀ x, x < 16 → x ≠ w → (s.ward x).staged = none) →
    (s.ward w).staged = some img → u64 img 16 = u64 g.payload 16 → u8 img 4 = u8 g.payload 8 → 0 < img.length → img.length ≤ 2016 →
    ∃ t, Heard s t l f ∧
      (u64 g.payload 0 ≠ idHash s → exec (.imageFetch l f) s = .next (sendNak t g 12)) ∧
      (u64 g.payload 0 = idHash s → exec (.imageFetch l f) s =
        .next (sendNet t 0x27 2 g.src (imageFrame ((nodeAt s g.src).getD 0) g.payload img 0)).2)) ∧
  (∀ (s : State) (l : Nat) (f g : Frame) (n : Fetch) (j : Job), Hears s l f g → f.ty = 0x27 → f.dst = s.fabric.addr →
    s.fabric.fetches = [n] → n.ty = 0x27 → n.item = u64 g.payload 16 → n.ward = u8 g.payload 8 → u64 g.payload 24 = n.got.length →
    s.job? n.origin = some j → j.phase = .peer →
    (n.got ++ g.payload.drop 32).length < 64 →
    ∃ u, exec (.imageData l f) s = .next u ∧ u.fabric.fetches = [{ n with got := n.got ++ g.payload.drop 32 }] ∧
      u.jobs = s.jobs) ∧
  (∀ (s : State) (l : Nat) (f g : Frame) (n : Fetch) (j : Job), Hears s l f g → f.ty = 0x27 → f.dst = s.fabric.addr →
    s.fabric.fetches = [n] → n.ty = 0x27 → n.item = u64 g.payload 16 → n.ward = u8 g.payload 8 → u64 g.payload 24 = n.got.length →
    s.job? n.origin = some j → j.phase = .peer →
    64 ≤ (n.got ++ g.payload.drop 32).length →
    imageLen s (n.got ++ g.payload.drop 32) ≤ (n.got ++ g.payload.drop 32).length →
    ∃ u, exec (.imageData l f) s = .next u ∧ u.fabric.fetches = [] ∧
      u.job? n.origin = some { j with phase := .started, stage := j.stage + 1
                                      data := [(n.got ++ g.payload.drop 32).take (imageLen s (n.got ++ g.payload.drop 32))] })

/-- Re-enrolment from a peer (from R441): given an engine and seeded instances, FAB_ENROL sends its request on the link,
unless its ML-DSA signature exceeds the bound of R222, which ends it with E_FAB_ENROL. The donor keeps the fragments of a
request in order, answers a whole one that it does not grant with a refusal, and one that it grants and whose X448 key is
valid once with the answer. A refusal ends FAB_ENROL with E_FAB_ENROL, silence with E_FAB_TIMEOUT; an answer that opens
starts the re-enrolment under its key; the grant lapses. -/
def Obligations.EnrolmentFromAPeer : Prop :=
  (∀ (s : State) (b : BindId) (j : Job), Runs s (.mailbox b) C.FAB_ENROL_GRANT 0 j → Plain j → s.keyed = true →
    ∃ u, exec (.fabEnrolGrant (.mailbox b)) s = .next u ∧ Ends u b S.OK [] ∧
      u.fabric = { s.fabric with grant := some (u64 j.ops 0) } ∧ u.slots = s.slots) ∧
  (∀ (s : State), ∃ u, exec .fabEnrolGrantExpire s = .next u ∧ u.fabric = { s.fabric with grant := none } ∧ u.slots = s.slots) ∧
  (∀ (s : State) (b : BindId) (j : Job) (l n : Nat) (d : Drbg) (a c : SlotHalf), Runs s (.mailbox b) C.FAB_ENROL 0 j → Plain j →
    s.tkn.ceremony.state = 0 → s.fabric.enrol = none → s.keyed = false → l = u8 j.ops 0 → l ≤ 7 → (s.link l).level ≠ 0 →
    d = s.drbgs.get {} 4096 → d.inst = true → d.requests < 2 ^ 19 → (s.drbgs.get {} 4098).inst = true →
    (s.drbgs.get {} 4098).requests < 2 ^ 19 → freeEngine s = some n → s.mode ≠ .hush → activeHalf s 0 = some a →
    activeHalf s 1 = some c →
    ∃ u, exec (.fabEnrol (.mailbox b)) s = .next u ∧ u.slots = s.slots ∧
      ((∃ e k, u.fabric.enrol = some e ∧ e.origin = .mailbox b ∧ e.link = l ∧ e.req.length = 6387 ∧
          u64 e.req 1656 = (s.link l).partner % 2 ^ 64 ∧ u.job? (.mailbox b) = some k ∧ k.phase = .peer ∧
          ∀ i, i < 4 → ∃ g, g ∈ (u.link l).queue ∧ g.ty = 0x28 ∧ g.dst = (s.link l).partnerAddr ∧ g.payload = padPayload (fragment 0 e.req i)) ∨
        (∃ m r, 128 < iterations 6 c.material [] m r) ∧ Ends u b S.E_FAB_ENROL [])) ∧
  (∀ (s : State) (l : Nat) (f g : Frame) (parts : List Bytes), Hears s l f g → f.ty = 0x28 →
    addPart (s.link l).enrolReq g.payload = some parts → wholeOf parts g.payload = none →
    ∃ u, exec (.enrolReq l f) s = .next u ∧ (u.link l).enrolReq = parts ∧ u.fabric = s.fabric ∧ u.slots = s.slots ∧
      (∀ x, x ≠ l → u.link x = s.link x)) ∧
  (∀ (s : State) (l : Nat) (f g : Frame) (parts : List Bytes) (m : Bytes), Hears s l f g → f.ty = 0x28 →
    addPart (s.link l).enrolReq g.payload = some parts → wholeOf parts g.payload = some m →
    ∃ u h, exec (.enrolReq l f) s = .next u ∧ (u.link l).enrolReq = [] ∧ h ∈ (u.link l).queue ∧ h.ty = 0x29 ∧ h.dst = f.src ∧
      u.slots = s.slots ∧
      (enrolGranted s l m = false →
        h.payload = padPayload (fragment 0 (leBytes 1 1 ++ zeros 31) 0) ∧ u.fabric.grant = s.fabric.grant) ∧
      (∀ d n, enrolGranted s l m = true → d = s.drbgs.get {} 4096 → d.inst = true → d.requests < 2 ^ 19 →
        (s.drbgs.get {} 4098).inst = true → (s.drbgs.get {} 4098).requests < 2 ^ 19 → freeEngine s = some n →
        Config.sharedValid 8 0 (keyPriv 8 0 (((List.range 88).map (Config.drbgOut d.kv 88)).take 56)) (m.take 56) = true →
        u.fabric.grant = none ∧ ∃ p, h.payload = padPayload (fragment 0 p 0) ∧ p.length = 1688 ∧ p.take 8 = zeros 8 ∧
          u64 p 1632 = currentSet s % 2 ^ 64)) ∧
  (∀ (s : State) (l : Nat) (f g : Frame) (e : Enrol) (b : BindId) (j : Job) (parts : List Bytes) (m : Bytes), Hears s l f g →
    f.ty = 0x29 → addPart (s.link l).enrolResp g.payload = some parts → wholeOf parts g.payload = some m →
    s.fabric.enrol = some e → e.origin = .mailbox b → e.link = l → s.job? (.mailbox b) = some j → j.phase = .peer → Plain j →
    u8 m 0 ≠ 0 →
    ∃ u, exec (.enrolResp l f) s = .next u ∧ Ends u b S.E_FAB_ENROL [] ∧ u.fabric.enrol = none ∧ u.keyed = s.keyed ∧
      (u.link l).enrolResp = []) ∧
  (∀ (s : State) (l : Nat) (f g : Frame) (e : Enrol) (o : Origin) (j : Job) (parts : List Bytes) (m : Bytes), Hears s l f g →
    f.ty = 0x29 → addPart (s.link l).enrolResp g.payload = some parts → wholeOf parts g.payload = some m →
    s.fabric.enrol = some e → e.origin = o → e.link = l → s.job? o = some j → j.phase = .peer →
    ∃ t, Heard s t l f ∧ (∀ key id, enrolOpen e m (slice j.ops 8 8) = some (key, id) →
      exec (.enrolResp l f) s = .next (reEnrol (t.setLink l { t.link l with enrolResp := [] })
        { j with phase := .started, stage := 20, keep := [key], args := [id] } key id))) ∧
  (∀ (s : State) (e : Enrol) (b : BindId) (j : Job), s.fabric.enrol = some e → e.origin = .mailbox b →
    s.job? (.mailbox b) = some j → j.phase = .peer → Plain j →
    ∃ u, exec .fabEnrolTimeout s = .next u ∧ Ends u b S.E_FAB_TIMEOUT [] ∧ u.fabric.enrol = none)

/-- The fabric commands (from R429, R430, R435, R438, R440): FAB_DOMAIN_SET takes its peers and quorum once the record
stands; FAB_REPL_RESEND of anchors to one peer paces them and ends with its counts, and with a peer index past the list
E_FAB_PEER_LIST; the log is read; a fetched root goes to OUT; FAB_WAKE sends one WAKE. -/
def Obligations.FabricCommands : Prop :=
  (∀ (s : State) (b : BindId) (j : Job), Runs s (.mailbox b) C.FAB_DOMAIN_SET 1 j → Plain j →
    ∃ u, exec (.fabDomainSet (.mailbox b)) s = .next u ∧ Ends u b S.OK [] ∧
      u.fabric = { s.fabric with peers := (namedPeers j.ops).map (fun p => { id := p }), q := u8 j.ops 0 }) ∧
  (∀ (s : State) (b : BindId) (j : Job) (n : Nat) (mine : List Nat), Runs s (.mailbox b) C.FAB_REPL_RESEND 0 j →
    n = u16 j.ops 0 → n < s.fabric.peers.length → n ≠ 0xFFFF → bitOf (u8 j.ops 2) 0 = true → bitOf (u8 j.ops 2) 1 = false →
    mine = (s.agate.anchors.filter fun e => !isReplica e.2).map (·.1) → mine ≠ [] →
    ∃ u k, exec (.fabReplResend (.mailbox b)) s = .next u ∧
      u.fabric = { s.fabric with resend := some { origin := .mailbox b, left := mine.map fun a => (n, a) } } ∧
      u.job? (.mailbox b) = some k ∧ k.phase = .peer) ∧
  (∀ (s : State) (b : BindId) (j : Job), Runs s (.mailbox b) C.FAB_REPL_RESEND 0 j → Plain j → u16 j.ops 0 ≠ 0xFFFF →
    s.fabric.peers.length ≤ u16 j.ops 0 →
    ∃ u, exec (.fabReplResend (.mailbox b)) s = .next u ∧ Ends u b S.E_FAB_PEER_LIST [] ∧ u.fabric.resend = (if
      (s.fabric.resend.map (·.origin)) = some (.mailbox b) then none else s.fabric.resend)) ∧
  (∀ (s : State) (r : Resend) (p a q : Nat) (x : Anchor) (rest : List (Nat × Nat)), s.fabric.resend = some r →
    r.left = (p, a) :: (q, a) :: rest → anchorOf s a = some x →
    ∃ u, exec .fabReplResendPace s = .next u ∧
      u.fabric.resend = some { r with left := (q, a) :: rest, anchors := r.anchors + 1 }) ∧
  (∀ (s : State) (r : Resend) (b : BindId) (j : Job) (p a : Nat), s.fabric.resend = some r → r.left = [(p, a)] →
    anchorOf s a = none → r.origin = .mailbox b → s.job? (.mailbox b) = some j → Plain j →
    ∃ u, exec .fabReplResendPace s = .next u ∧ u.fabric.resend = none ∧
      Ends u b S.OK (leBytes 4 r.anchors ++ leBytes 4 r.roots)) ∧
  (∀ (s : State) (b : BindId) (j : Job) (es : List ReplEntry), Runs s (.mailbox b) C.FAB_REPL_LOG_READ 0 j → Plain j →
    u16 j.ops 0 ≤ 255 → 1 ≤ u16 j.ops 2 → u16 j.ops 2 ≤ 256 → refCheck s j (hostRef j.ops 16) (48 * u16 j.ops 2) maxLen = none →
    canDma s (dmaBind s j (hostRef j.ops 16).port) = true → es = (s.fabric.replLog.drop (u16 j.ops 0)).take (u16 j.ops 2) →
    es ≠ [] →
    ∃ u, exec (.fabReplLogRead (.mailbox b)) s = .next u ∧
      ((hostRef j.ops 16).port = 0 →
        Ends u b S.OK (leBytes 2 es.length ++ leBytes 2 s.fabric.replLog.length ++ leBytes 4 s.fabric.overwritten)) ∧
      writeMsg s (dmaBind s j (hostRef j.ops 16).port) (hostRef j.ops 16).addr (es.map (replEntryBytes s)).flatten true ∈ u.out ∧ u.fabric = s.fabric) ∧
  (∀ (s : State) (b : BindId) (j : Job) (p : Bytes), Runs s (.mailbox b) C.FAB_ROOT_FETCH 1 j → Plain j →
    p = j.data.headD [] → 24 < p.length → canDma s (dmaBind s j (hostRef j.ops 16).port) = true →
    ∃ u, exec (.fabRootFetch (.mailbox b)) s = .next u ∧
      ((hostRef j.ops 16).port = 0 → Ends u b S.OK (slice p 16 2 ++ zeros 6)) ∧
      writeMsg s (dmaBind s j (hostRef j.ops 16).port) (hostRef j.ops 16).addr (slice p 24 104) true ∈ u.out ∧ u.fabric = s.fabric) ∧
  (∀ (s : State) (b : BindId) (j : Job) (l : Nat), Runs s (.mailbox b) C.FAB_WAKE 0 j → Plain j →
    dormantLink s (u16 j.ops 0) = some l →
    ∃ u, exec (.fabWake (.mailbox b)) s = .next u ∧ Ends u b S.OK (leBytes 1 l ++ zeros 7) ∧
      .frame l { ty := 5, dst := u16 j.ops 0, payload := leBytes 8 (idHash s) ++ leBytes 2 (u16 j.ops 0) ++ zeros 22 } ∈ u.out ∧
      u.fabric = s.fabric)

/-- The recorder, while the log is not being cleared and has room (from R462, R468, R472): a record's body is programmed,
then its MARK, and HEAD moves on; a program that fails for the first time kills its position, and the record is tried again
at the next one; the checkpoint timer appends to a control sector with room; a bucket gains a token. Reading and clearing
the log (from R470, R476): EVR_READ writes the records it finds to OUT, sends them by MCTP in the halt loop, and ends with
E_EVR_CLEARING while a clear runs and E_EVR_RANGE past HEAD; EVR_CONFIG_READ writes the control block; EVR_CLEAR that keeps
the configuration commits with CLEAR_BEGIN and ends with an empty log and the next CLEAR_SEQ. -/
def Obligations.RecorderRuns : Prop :=
  (∀ (s : State) (e : EvEntry) (q : List EvEntry), s.recorder.fifo = e :: q → s.recorder.clearing = false →
    s.recorder.settled = true → s.mode ≠ .dormant → s.recorder.head < s.logSize → s.recorder.bodyDone = false →
    refreshing s (12290 + s.recorder.head / logPerSector s) = false →
    exec (.evrRecordWriteDone true) s = .next { s with recorder := { s.recorder with
      bodyDone := true, log := s.recorder.log.insert s.recorder.head { entry := e } } }) ∧
  (∀ (s : State) (e : EvEntry) (q : List EvEntry), s.recorder.fifo = e :: q → s.recorder.clearing = false →
    s.recorder.settled = true → s.mode ≠ .dormant → s.recorder.head + 1 < s.logLast → s.recorder.bodyDone = true →
    (∀ j ∈ s.jobs, j.code ≠ C.EVR_CLEAR) →
    refreshing s (12290 + s.recorder.head / logPerSector s) = false →
    exec (.evrRecordWriteDone true) s = .next { s with recorder := { s.recorder with
      bodyDone := false, retried := false, fifo := q, head := s.recorder.head + 1
      log := s.recorder.log.insert s.recorder.head { entry := e, mark := 0x5A } } }) ∧
  (∀ (s : State) (e : EvEntry) (q : List EvEntry), s.recorder.fifo = e :: q → s.recorder.clearing = false →
    s.recorder.settled = true → s.mode ≠ .dormant → s.recorder.head + 1 < s.logLast → s.recorder.retried = false →
    refreshing s (12290 + s.recorder.head / logPerSector s) = false →
    ∃ u, exec (.evrRecordWriteDone false) s = .next u ∧ u.recorder.head = s.recorder.head + 1 ∧
      u.recorder.fifo = s.recorder.fifo ∧ u.recorder.retried = true ∧ u.recorder.bodyDone = false ∧
      u.recorder.log.look? s.recorder.head = some { entry := e, mark := 0, crcGood := false } ∧ u.slots = s.slots) ∧
  (∀ (s : State), s.mode ≠ .dormant → s.recorder.settled = true → s.recorder.ctl.length < 127 →
    exec .evrCheckpointTimer s = .next { s with recorder := { s.recorder with
      ctl := s.recorder.ctl ++ [{ kind := 1, value := lifeValue s, time := s.time }], ckpt := s.time } }) ∧
  (∀ (s : State) (c : Nat), ∃ u, exec (.evrTokenRefill c) s = .next u ∧
    u.recorder.counts.get {} c = { s.recorder.counts.get {} c with used := (s.recorder.counts.get {} c).used - 1 } ∧
    (∀ d, d ≠ c → u.recorder.counts.get {} d = s.recorder.counts.get {} d) ∧ u.recorder.log = s.recorder.log ∧
    u.recorder.fifo = s.recorder.fifo ∧ u.slots = s.slots) ∧
  (∀ (s : State) (b : BindId) (j : Job) (r : Bytes × Nat × Nat × Nat), Runs s (.mailbox b) C.EVR_READ 0 j → Plain j →
    1 ≤ u16 j.ops 4 → u16 j.ops 4 ≤ 1024 →
    refCheck s j (hostRef j.ops 16) (u16 j.ops 4 * (if s.recorder.compat then 32 else 256)) maxLen = none →
    s.recorder.clearing = false → u32 j.ops 0 < s.recorder.head → canDma s (dmaBind s j (hostRef j.ops 16).port) = true →
    r = readRecords s (s.recorder.head - u32 j.ops 0) (u32 j.ops 0) (u16 j.ops 4) →
    ∃ u, exec (.evrRead (.mailbox b) none) s = .next u ∧
      ((hostRef j.ops 16).port = 0 → Ends u b S.OK (evrReadResult s r.2.1 r.2.2.1 r.2.2.2)) ∧
      (r.1 ≠ [] → writeMsg s (dmaBind s j (hostRef j.ops 16).port) (hostRef j.ops 16).addr r.1 true ∈ u.out) ∧ u.recorder.log = s.recorder.log ∧
      u.slots = s.slots) ∧
  (∀ (s : State) (b : BindId) (j : Job), Runs s (.mailbox b) C.EVR_READ 0 j → Plain j → 1 ≤ u16 j.ops 4 →
    u16 j.ops 4 ≤ 1024 → refCheck s j (hostRef j.ops 16) (u16 j.ops 4 * (if s.recorder.compat then 32 else 256)) maxLen = none →
    s.recorder.clearing = true →
    ∃ u, exec (.evrRead (.mailbox b) none) s = .next u ∧ Ends u b S.E_EVR_CLEARING []) ∧
  (∀ (s : State) (o : Origin) (bs : Bytes) (r : Bytes × Nat × Nat × Nat), s.boot.haltLoop = true → s.recorder.clearing = false →
    1 ≤ u16 bs 4 → u16 bs 4 ≤ 1024 → u32 bs 0 < s.recorder.head →
    r = readRecords s (s.recorder.head - u32 bs 0) (u32 bs 0) (u16 bs 4) →
    exec (.evrRead o (some bs)) s = .next (s.send (.mctp .port 0x7E ([0x11] ++ leBytes 2 S.OK ++
      evrReadResult s r.2.1 r.2.2.1 r.2.2.2 ++ r.1)))) ∧
  (∀ (s : State) (o : Origin) (bs : Bytes), s.boot.haltLoop = true → s.recorder.clearing = false → 1 ≤ u16 bs 4 →
    u16 bs 4 ≤ 1024 → s.recorder.head ≤ u32 bs 0 →
    exec (.evrRead o (some bs)) s = .next (s.send (.mctp .port 0x7E ([0x11] ++ leBytes 2 S.E_EVR_RANGE)))) ∧
  (∀ (s : State) (b : BindId) (j : Job), Runs s (.mailbox b) C.EVR_CONFIG_READ 0 j → Plain j →
    refCheck s j (hostRef j.ops 16) 1728 maxLen = none → canDma s (dmaBind s j (hostRef j.ops 16).port) = true →
    ∃ u, exec (.evrConfigRead (.mailbox b)) s = .next u ∧
      ((hostRef j.ops 16).port = 0 → Ends u b S.OK (leBytes 2 s.recorder.clearSeq ++ leBytes 1 (b2n s.recorder.compat) ++ zeros 5)) ∧
      writeMsg s (dmaBind s j (hostRef j.ops 16).port) (hostRef j.ops 16).addr (controlBytes s) true ∈ u.out ∧ u.recorder.ctl = s.recorder.ctl) ∧
  (∀ (s : State) (b : BindId) (j : Job), Runs s (.mailbox b) C.EVR_CLEAR 0 j → evrClearCheck s j = none → u8 j.ops 1 = 1 →
    s.recorder.fifo = [] →
    ∃ u, exec (.evrClear (.mailbox b)) s = .next u ∧ u.job? (.mailbox b) = some { j with stage := 2 } ∧
      u.recorder = s.recorder ∧ u.slots = s.slots) ∧
  (∀ (s : State) (b : BindId) (j : Job), Runs s (.mailbox b) C.EVR_CLEAR 2 j → s.recorder.bodyDone = false →
    s.recorder.ctl.length < 127 → 0 < s.recorder.head →
    ∃ u k, exec (.evrClear (.mailbox b)) s = .next u ∧ u.recorder.clearing = true ∧ u.recorder.log = s.recorder.log ∧
      u.recorder.ctl = s.recorder.ctl ++ [{ kind := 2, value := (s.recorder.head - 1) / logPerSector s + 2, time := s.time }] ∧
      u.job? (.mailbox b) = some k ∧ k.committed = true ∧ k.stage = 3) ∧
  (∀ (s : State) (b : BindId) (j : Job), Runs s (.mailbox b) C.EVR_CLEAR 3 j → Plain j → u8 j.ops 1 = 1 →
    listGet 0 j.args 0 < 2 →
    ∃ u, exec (.evrClear (.mailbox b)) s = .next u ∧ u.recorder.log = [] ∧ u.recorder.head = 0 ∧ u.recorder.logFull = false ∧
      u.recorder.clearing = false ∧ u.recorder.clearSeq = (s.recorder.clearSeq + 1) % 65536 ∧
      u.recorder.compat = (u8 j.ops 0 == 1) ∧ u.recorder.config = s.recorder.config ∧
      Ends u b S.OK (leBytes 2 ((s.recorder.clearSeq + 1) % 65536) ++ leBytes 4 (listGet 0 j.args 1) ++ zeros 2))

/-- Firmware commands and their waits (from R444, R445, R456 to R458): FW_ACTIVATE of the newest staged image on a quiet
device ends well and puts a restart behind the ACK, and without a staged image ends with E_FW_STATE; FW_COMMIT begins its
fuse blows, each end blows one counter bit, and the blow that reaches both targets ends the command; the watchdog counts,
alerts and restarts the core with nothing of its own, or halts with code 6 when the resident part cannot be read; firmware
raises the event codes that are its own, and any other is dropped and counted. -/
def Obligations.FirmwareCommands : Prop :=
  (∀ (s : State) (b : BindId) (j : Job), Runs s (.mailbox b) C.FW_ACTIVATE 0 j → Plain j →
    imgState s (otherImage s) = .staged → imgFirst s = otherImage s → dormantReady s (.mailbox b) = true →
    ∃ u, exec (.fwActivate (.mailbox b)) s = .next u ∧ Ends u b S.OK [] ∧ u.moon.deferred = some (j.bind, .restart) ∧
      u.mode = s.mode ∧ u.slots = s.slots) ∧
  (∀ (s : State) (b : BindId) (j : Job), Runs s (.mailbox b) C.FW_ACTIVATE 0 j → Plain j →
    imgState s (otherImage s) ≠ .staged →
    ∃ u, exec (.fwActivate (.mailbox b)) s = .next u ∧ Ends u b S.E_FW_STATE [] ∧ u.moon.deferred = s.moon.deferred) ∧
  (∀ (s : State) (b : BindId) (j : Job) (k r : Nat), Runs s (.mailbox b) C.FW_COMMIT 0 j → commitCheck s j = none →
    commitTarget s (bitOf (u8 j.ops 0) 1) = (k, r) →
    ∃ u, exec (.fwCommit (.mailbox b)) s = .next u ∧
      u.job? (.mailbox b) = some { j with phase := .fuse, committed := true, args := [k, r] } ∧ u.fuses = s.fuses ∧
      u.slots = s.slots) ∧
  (∀ (s : State) (j : Job), s.jobs.find? (fun j => j.code == C.FW_COMMIT && j.phase == .fuse) = some j →
    s.fuses.svn + 1 < listGet 0 j.args 0 →
    exec .fuseBlowDone s = .next { s with fuses := { s.fuses with svn := s.fuses.svn + 1 } }) ∧
  (∀ (s : State) (b : BindId) (j : Job), s.jobs.find? (fun j => j.code == C.FW_COMMIT && j.phase == .fuse) = some j →
    j.origin = .mailbox b → Plain j → s.fuses.svn + 1 = listGet 0 j.args 0 → s.fuses.keyRevoke % 16 = listGet 0 j.args 1 →
    ∃ u, exec .fuseBlowDone s = .next u ∧ u.fuses = { s.fuses with svn := s.fuses.svn + 1 } ∧
      Ends u b S.OK (leBytes 2 (s.fuses.svn + 1) ++ leBytes 1 (s.fuses.keyRevoke % 16) ++
        leBytes 1 (b2n (imgBootable s (otherImage s) (s.fuses.svn + 1) (s.fuses.keyRevoke % 16))) ++ zeros 4)) ∧
  (∀ (s : State) (unreadable : Bool), fwRuns s = true →
    ∃ u, exec (.quartzWatchdog unreadable) s = .next u ∧ u.quartz.wdtResets = satInc 8 s.quartz.wdtResets ∧
      u.quartz.alertWatchdog = true ∧ u.quartz.conns = [] ∧ u.quartz.polling = false ∧
      (unreadable = false → bodyStands s = true → u.mode = s.mode ∧ u.slots = s.slots ∧ u.quartz.fd = {}) ∧
      (unreadable = true → u.mode = .lockdown ∧ u.pins.bootCode = 6 ∧ u.keyed = false)) ∧
  (∀ (s : State) (code p0 p1 p2 p3 : Nat), fwRuns s = true → codeAccepted true code = true → codeExempt code = false →
    s.recorder.logFull = false → s.recorder.head < s.logSize → s.evrTokens code ≠ 0 → s.recorder.fifo.length < 60 →
    ∃ u e, exec (.quartzFirmwareEvent code p0 p1 p2 p3) s = .next u ∧ u.recorder.fifo = s.recorder.fifo ++ [e] ∧
      e.code = code ∧ e.params = [p0 % 2 ^ 32, p1 % 2 ^ 32, p2 % 2 ^ 32, p3 % 2 ^ 32] ∧ e.time = s.time ∧ u.slots = s.slots) ∧
  (∀ (s : State) (code p0 p1 p2 p3 : Nat), fwRuns s = true → codeAccepted true code = false →
    exec (.quartzFirmwareEvent code p0 p1 p2 p3) s = .next (s.incRegField R.EVR_DROP_COUNT 7 0))

/-- Requests of Quartz firmware to a dispatcher, the sensors and the management bus (from R285, R444, R446, R447, R453): a
request of no defined form is refused with E_COLOUR, and wakes a device in HUSH as any request to a dispatcher does; a
failure statement is signed by both identity keys over a draw of instance 4,108, up to R222's bound; an SPDM message that a
connection keeps is signed by the P-384 key, and one that none keeps is refused; with the gate closed a request has no
effect; every sensor takes its sample and one outside its limits alerts; an endpoint ID is set and answered; ENTDAA and
RSTDAA give and take the address. -/
def Obligations.QuartzRequestsSensorsAndBus : Prop :=
  (∀ (s : State) (n : Nat) (d : Bytes) (ur : Bool), s.boot.gateOpen = true → fwRuns s = true →
    ∃ u, exec (.quartzInternalRequest n .other d ur) s = .next u ∧
      u.internalDone = s.internalDone ++ [(n, S.E_COLOUR, [])] ∧ u.slots = s.slots) ∧
  (∀ (s : State) (n e : Nat) (d r : Bytes) (ur : Bool), s.boot.gateOpen = true → fwRuns s = true → d.length = 32 →
    hasIdentity s = true → freeEngine s = some e → s.mode ≠ .hush → (s.drbgs.get {} 4108).inst = true →
    (s.drbgs.get {} 4108).requests < 2 ^ 19 → r = (List.range 88).map (Config.drbgOut (s.drbgs.get {} 4108).kv 88) →
    ∃ u, exec (.quartzInternalRequest n .signFail d ur) s = .next u ∧ u.slots = s.slots ∧
      (iterations 6 ((identityReq s "" false []).priv) (ascii "GV-FAIL") (failBody s d) (r.drop 56) ≤ 128 →
        u.internalDone = s.internalDone ++ [(n, S.OK, failBody s d ++
          (signOut (identityReq s "GV-FAIL" true (failBody s d)) (r.take 56) ++
            signOut (identityReq s "GV-FAIL" false (failBody s d)) (r.drop 56)))]) ∧
      (128 < iterations 6 ((identityReq s "" false []).priv) (ascii "GV-FAIL") (failBody s d) (r.drop 56) →
        u.internalDone = s.internalDone ++ [(n, S.E_ITER_LIMIT, [])])) ∧
  (∀ (s : State) (n e : Nat) (m r : Bytes) (ur : Bool), s.boot.gateOpen = true → fwRuns s = true → keptMessage s m = true →
    hasIdentity s = true → freeEngine s = some e → s.mode ≠ .hush → (s.drbgs.get {} 4108).inst = true →
    (s.drbgs.get {} 4108).requests < 2 ^ 19 → r = (List.range 56).map (Config.drbgOut (s.drbgs.get {} 4108).kv 56) →
    ∃ u, exec (.quartzInternalRequest n .signSpdm m ur) s = .next u ∧ u.slots = s.slots ∧
      u.internalDone = s.internalDone ++ [(n, S.OK, signOut { identityReq s "" true m with msg := m } r)]) ∧
  (∀ (s : State) (n : Nat) (m : Bytes) (ur : Bool), s.boot.gateOpen = true → fwRuns s = true → keptMessage s m = false →
    ∃ u v, exec (.quartzInternalRequest n .signSpdm m ur) s = .next u ∧
      exec (.quartzInternalRequest n .cosignSpdm m ur) s = .next v ∧
      u.internalDone = s.internalDone ++ [(n, S.E_COLOUR, [])] ∧ v.internalDone = s.internalDone ++ [(n, S.E_COLOUR, [])]) ∧
  (∀ (s : State) (n : Nat) (req : QuartzReq) (d : Bytes) (ur : Bool), s.boot.gateOpen = false →
    exec (.quartzInternalRequest n req d ur) s = .next s) ∧
  (∀ (s : State) (vs : List Int), s.mode ≠ .dormant →
    ∃ u, exec (.sensorSample vs) s = .next u ∧ u.slots = s.slots ∧
      (∀ n v, n < 57 → vs[n]? = some v → u.sensor n = (s.sensor n).take v s.clk) ∧
      (∀ n, vs.length ≤ n → u.sensor n = s.sensor n) ∧
      (∀ n v, n < 57 → vs[n]? = some v → (s.sensor n).en = true → ((s.sensor n).high < v ∨ v < (s.sensor n).low) →
        u.quartz.alertSensor = true)) ∧
  (∀ (s : State) (c : MgmtConn) (req : Bytes), mgmtOpen s c = true → u8 req 2 % 4 ≤ 1 → u8 req 3 ≠ 0 → u8 req 3 ≠ 0xFF →
    4 ≤ req.length →
    ∃ u, exec (.setEndpointId c req) s = .next u ∧ u.quartz = { s.quartz with eid := u8 req 3 } ∧
      .mctp c 0x00 (leBytes 1 (u8 req 0 % 32) ++ [0x01, 0x00, 0x00] ++ leBytes 1 (u8 req 3) ++ [0x00]) ∈ u.out) ∧
  (∀ (s : State) (c : MgmtConn) (req : Bytes), mgmtOpen s c = false → exec (.setEndpointId c req) s = .next s) ∧
  (∀ (s : State) (a : Nat), mgmtOpen s .port = true → s.quartz.dynAddr = 0 →
    exec (.i3cBroadcastCcc 0x07 a) s = .next { s with quartz := { s.quartz with i3c := true, dynAddr := a % 128 } }) ∧
  (∀ (s : State) (a : Nat), mgmtOpen s .port = true →
    exec (.i3cBroadcastCcc 0x06 a) s = .next { s with quartz := { s.quartz with i3c := true, dynAddr := 0 } }) ∧
  (∀ (s : State) (n : Nat) (d : Bytes) (ur : Bool), s.boot.gateOpen = true → fwRuns s = true → s.mode = .hush →
    ∃ u, exec (.quartzInternalRequest n .other d ur) s = .next u ∧ u.mode = .service ∧ u.slots = s.slots ∧
      u.internalDone = s.internalDone ++ [(n, S.E_COLOUR, [])])

/-- Attestation (from R450 to R453): ATTEST_GET of the owner, undisputed and with an idle engine pool, takes the snapshot of
its statement and goes to an arith engine for the P-384 signature, and its end writes the statement; FAIL_STATEMENT without
identity keys writes the unsigned body. In LOCKDOWN MCTP gives the same statement, unsigned without identity keys, and with
them signed by both, unless no signature is found within R222's bound, which leaves the request unanswered; in another mode
it gives nothing. -/
def Obligations.AttestationCommands : Prop :=
  (∀ (s : State) (b : BindId) (j : Job) (n : Nat), Runs s (.mailbox b) C.ATTEST_GET 0 j → Undisputed s j → j.owner = true →
    attestCheck s j = none → claimFault s (claimSlots j.ops 64 (u8 j.ops 4)) = none → (u8 j.ops 5).testBit 0 = true →
    freeEngine s = some n → (∀ k ∈ s.jobs, k.origin = .mailbox b) → (∀ e ∈ s.arith, e.2.work = none) → s.mode ≠ .hush →
    j.arith = none → (s.drbgs.get {} 4096).inst = true → (s.drbgs.get {} 4096).requests < 2 ^ 19 →
    ∃ u k, exec (.attestGet (.mailbox b)) s = .next u ∧ u.job? (.mailbox b) = some k ∧ k.phase = .arith ∧ k.stage = 50 ∧
      k.args = [1, s.measNext] ∧ k.keep = [(List.range 56).map (Config.drbgOut (s.drbgs.get {} 4096).kv 56),
        attestBody s (u32 j.ops 0) (u8 j.ops 5) (claimSlots j.ops 64 (u8 j.ops 4)) (slice j.ops 16 32), []] ∧
      (u.aeng n).work.map (·.origin) = some (.mailbox b) ∧ u.meas = s.meas ∧ u.slots = s.slots) ∧
  (∀ (s : State) (b : BindId) (j : Job) (sig body : Bytes) (m : Nat), Runs s (.mailbox b) C.ATTEST_GET 51 j → Plain j →
    u8 j.ops 5 = 1 → j.args = [1, m] → j.keep = [sig, body, []] → body ≠ [] → j.arith = none →
    canDma s (dmaBind s j (hostRef j.ops 48).port) = true →
    ∃ u, exec (.attestGet (.mailbox b)) s = .next u ∧
      writeMsg s (dmaBind s j (hostRef j.ops 48).port) (hostRef j.ops 48).addr (body ++ sig) true ∈ u.out ∧
      ((hostRef j.ops 48).port = 0 → Ends u b S.OK (leBytes 4 (body ++ sig).length ++ leBytes 4 m)) ∧ u.slots = s.slots) ∧
  (∀ (s : State) (b : BindId) (j : Job), Runs s (.mailbox b) C.FAIL_STATEMENT 0 j → Plain j → j.arith = none →
    refCheck s j (hostRef j.ops 32) 5331 maxLen = none → canDma s (dmaBind s j (hostRef j.ops 32).port) = true →
    hasIdentity s = false →
    ∃ u, exec (.failStatement (.mailbox b) none) s = .next u ∧
      ((hostRef j.ops 32).port = 0 → Ends u b S.OK (leBytes 4 608 ++ zeros 4)) ∧
      writeMsg s (dmaBind s j (hostRef j.ops 32).port) (hostRef j.ops 32).addr (failBody s (j.ops.take 32)) true ∈ u.out ∧
      u.slots = s.slots) ∧
  (∀ (s : State) (o : Origin) (nonce : Bytes), s.mode = .lockdown → hasIdentity s = false →
    exec (.failStatement o (some nonce)) s = .next (s.send (.mctp .port 0x7E ([0x10] ++ failBody s nonce)))) ∧
  (∀ (s : State) (o : Origin) (nonce r : Bytes) (n : Nat), s.mode = .lockdown → hasIdentity s = true → freeEngine s = some n →
    (s.drbgs.get {} 4108).inst = true → (s.drbgs.get {} 4108).requests < 2 ^ 19 →
    r = (List.range 88).map (Config.drbgOut (s.drbgs.get {} 4108).kv 88) →
    ∃ u, exec (.failStatement o (some nonce)) s = .next u ∧ u.mode = .lockdown ∧ u.slots = s.slots ∧
      (iterations 6 ((identityReq s "" false []).priv) (ascii "GV-FAIL") (failBody s nonce) (r.drop 56) ≤ 128 →
        .mctp .port 0x7E ([0x10] ++ failBody s nonce ++ (signOut (identityReq s "GV-FAIL" true (failBody s nonce)) (r.take 56) ++
          signOut (identityReq s "GV-FAIL" false (failBody s nonce)) (r.drop 56))) ∈ u.out)) ∧
  (∀ (s : State) (o : Origin) (nonce : Bytes), s.mode ≠ .lockdown → exec (.failStatement o (some nonce)) s = .next s)

/-- SPDM negotiation and certificates (from R447, R449): GET_VERSION begins a connection, GET_CAPABILITIES and
NEGOTIATE_ALGORITHMS take it on in that order, each with its answer; a request that comes too early is answered by ERROR
UnexpectedRequest; DIGESTS and CERTIFICATE answer for slot 0; the layouts are those of DSP0274 (PRESUMED, assumption log).
Signed SPDM answers and the co-signature extension (from R216, R222, R444, R447, R448, R451): CHALLENGE signs its answer on
a free arith engine and keeps the signed message; MEASUREMENTS reports the registers asked for, signed or not; GET_PQ_CERT
gives a piece of the ML-DSA-87 chain; COSIGN signs the message kept, once, up to R222's bound, past which the responder is
busy (DESIGN CHOICE, assumption 179); ATTEST gives a piece of a statement made at OFFSET 0, by the keys that SIG_SET names.
-/
def Obligations.SpdmResponder : Prop :=
  (∀ (s : State) (c : MgmtConn) (req : Bytes), mgmtOpen s c = true → u8 req 0 = 0x10 →
    ∃ u, exec (.getVersion c req) s = .next u ∧ .mctp c 0x05 [0x10, 0x04, 0, 0, 0, 2, 0x00, 0x12, 0x00, 0x13] ∈ u.out ∧
      u.conn c = { stage := 1, msgA := req ++ [0x10, 0x04, 0, 0, 0, 2, 0x00, 0x12, 0x00, 0x13] } ∧ u.slots = s.slots) ∧
  (∀ (s : State) (c : MgmtConn) (req : Bytes), mgmtOpen s c = true → 1 ≤ (s.conn c).stage →
    (u8 req 0 = 0x12 ∨ u8 req 0 = 0x13) →
    ∃ u m, exec (.getCapabilities c req) s = .next u ∧ .mctp c 0x05 m ∈ u.out ∧ u8 m 0 = u8 req 0 ∧ u8 m 1 = 0x61 ∧
      (u.conn c).stage = 2 ∧ (u.conn c).version = u8 req 0 ∧ (u.conn c).msgA = (s.conn c).msgA ++ req ++ m ∧ u.slots = s.slots) ∧
  (∀ (s : State) (c : MgmtConn) (req : Bytes), mgmtOpen s c = true → (s.conn c).stage = 0 →
    ∃ u, exec (.getCapabilities c req) s = .next u ∧
      .mctp c 0x05 (leBytes 1 (s.conn c).version ++ [0x7F, 0x04, 0x00]) ∈ u.out ∧ (u.conn c).stage = 0) ∧
  (∀ (s : State) (c : MgmtConn) (req : Bytes), mgmtOpen s c = true → 2 ≤ (s.conn c).stage → u8 req 0 = (s.conn c).version →
    (u32 req 8).testBit 7 = true → (u32 req 12).testBit 1 = true → (u8 req 6).testBit 0 = true →
    ∃ u m, exec (.negotiateAlgorithms c req) s = .next u ∧ .mctp c 0x05 m ∈ u.out ∧ u8 m 1 = 0x63 ∧ u32 m 12 = 128 ∧
      u32 m 16 = 2 ∧ u32 m 8 = (if (u.conn c).sha3 then 64 else 4) ∧ (u.conn c).stage = 3 ∧ (u.conn c).msgB = [] ∧
      (u.conn c).msgL = [] ∧ u.slots = s.slots) ∧
  (∀ (s : State) (c : MgmtConn) (req : Bytes), mgmtOpen s c = true → 3 ≤ (s.conn c).stage → u8 req 0 = (s.conn c).version →
    hasIdentity s = true →
    ∃ u, exec (.getDigests c req) s = .next u ∧ .mctp c 0x05 (spdmHeader (s.conn c) 0x01 0 1 ++ sha384 (ecChain s)) ∈ u.out ∧
      (u.conn c).msgB = (s.conn c).msgB ++ req ++ (spdmHeader (s.conn c) 0x01 0 1 ++ sha384 (ecChain s)) ∧
      (u.conn c).kept = none ∧ u.slots = s.slots) ∧
  (∀ (s : State) (c : MgmtConn) (req : Bytes) (n : Nat), mgmtOpen s c = true → 3 ≤ (s.conn c).stage →
    u8 req 0 = (s.conn c).version → hasIdentity s = true → u8 req 2 % 16 = 0 → u16 req 4 < (ecChain s).length →
    n = min (u16 req 6) (min ((ecChain s).length - u16 req 4) 8184) →
    ∃ u, exec (.getCertificate c req) s = .next u ∧
      .mctp c 0x05 (spdmHeader (s.conn c) 0x02 0 0 ++ leBytes 2 n ++ leBytes 2 ((ecChain s).length - u16 req 4 - n) ++
        slice (ecChain s) (u16 req 4) n) ∈ u.out ∧ (u.conn c).kept = none ∧ u.slots = s.slots) ∧
  (∀ (s : State) (c : MgmtConn) (req r : Bytes) (n : Nat), mgmtOpen s c = true → 3 ≤ (s.conn c).stage →
    u8 req 0 = (s.conn c).version → hasIdentity s = true → u8 req 2 = 0 → (u8 req 3 = 0 ∨ u8 req 3 = 1 ∨ u8 req 3 = 0xFF) →
    36 ≤ req.length → freeEngine s = some n → s.mode ≠ .hush →
    (s.drbgs.get {} 4108).inst = true → (s.drbgs.get {} 4108).requests < 2 ^ 19 →
    r = (List.range 88).map (Config.drbgOut (s.drbgs.get {} 4108).kv 88) →
    ∃ u m a y, exec (.challenge c req) s = .next u ∧
      a = spdmHeader (s.conn c) 0x03 0 1 ++ sha384 (ecChain s) ++ r.take 32 ++ y ++ zeros 2 ++ requesterContext (s.conn c) req 36 ∧
      (u8 req 3 = 0 → y = []) ∧ (u8 req 3 = 0xFF → y = sha384 (measAll s (s.conn c))) ∧
      m = spdmSigned (s.conn c) "responder-challenge_auth signing" ((s.conn c).msgA ++ (s.conn c).msgB ++ req ++ a) ∧
      (u.conn c).kept = some m ∧ (u.conn c).msgB = [] ∧
      .mctp c 0x05 (a ++ signOut { (identityReq s "" true m) with msg := m } (r.drop 32)) ∈ u.out ∧ u.slots = s.slots) ∧
  (∀ (s : State) (c : MgmtConn) (req a : Bytes), mgmtOpen s c = true → 3 ≤ (s.conn c).stage →
    u8 req 0 = (s.conn c).version → (u8 req 2).testBit 0 = false → (u8 req 3 ≤ 32 ∨ u8 req 3 = 0xFF) →
    (s.drbgs.get {} 4108).inst = true → (s.drbgs.get {} 4108).requests < 2 ^ 19 →
    a = spdmHeader (s.conn c) 0x60 (if u8 req 3 = 0 then 32 else 0) 0 ++ leBytes 1 (measRecord s (s.conn c) (u8 req 3)).1 ++
      leBytes 3 (measRecord s (s.conn c) (u8 req 3)).2.length ++ (measRecord s (s.conn c) (u8 req 3)).2 →
    ∃ u w, exec (.getMeasurements c req) s = .next u ∧ .mctp c 0x05 (a ++ w) ∈ u.out ∧
      (u.conn c).msgL = (s.conn c).msgL ++ req ++ (a ++ w) ∧ (u.conn c).kept = none ∧ u.meas = s.meas ∧ u.slots = s.slots) ∧
  (∀ (s : State) (c : MgmtConn) (req r a : Bytes) (n : Nat), mgmtOpen s c = true → 3 ≤ (s.conn c).stage →
    u8 req 0 = (s.conn c).version → (u8 req 2).testBit 0 = true → u8 req 36 % 16 = 0 → (u8 req 3 ≤ 32 ∨ u8 req 3 = 0xFF) →
    hasIdentity s = true → freeEngine s = some n → s.mode ≠ .hush →
    (s.drbgs.get {} 4108).inst = true → (s.drbgs.get {} 4108).requests < 2 ^ 19 →
    r = (List.range 88).map (Config.drbgOut (s.drbgs.get {} 4108).kv 88) →
    a = spdmHeader (s.conn c) 0x60 (if u8 req 3 = 0 then 32 else 0) 0 ++ leBytes 1 (measRecord s (s.conn c) (u8 req 3)).1 ++
      leBytes 3 (measRecord s (s.conn c) (u8 req 3)).2.length ++ (measRecord s (s.conn c) (u8 req 3)).2 ++ r.take 32 ++ zeros 2 ++
      requesterContext (s.conn c) req 37 →
    ∃ u m, exec (.getMeasurements c req) s = .next u ∧
      m = spdmSigned (s.conn c) "responder-measurements signing" ((s.conn c).msgA ++ (s.conn c).msgL ++ req ++ a) ∧
      .mctp c 0x05 (a ++ signOut { (identityReq s "" true m) with msg := m } (r.drop 32)) ∈ u.out ∧
      (u.conn c).msgL = [] ∧ (u.conn c).kept = some m ∧ u.meas = s.meas ∧ u.slots = s.slots) ∧
  (∀ (s : State) (c : MgmtConn) (req p q : Bytes), mgmtOpen s c = true → 3 ≤ (s.conn c).stage → u8 req 0 = (s.conn c).version →
    hasIdentity s = true → vendorPayload req = some p → u8 p 0 = 1 → u16 p 5 ≤ 8000 → u32 p 1 ≤ (dsaChain s).length →
    q = pieceOf (dsaChain s) (u32 p 1) (u16 p 5) →
    ∃ u, exec (.getPqCert c req) s = .next u ∧ u.slots = s.slots ∧ (u.conn c).kept = none ∧
      .mctp c 0x05 (spdmHeader (s.conn c) 0x7E 0 0 ++ leBytes 2 3 ++ [2] ++ leBytes 2 Config.vendorId.toNat ++
        leBytes 2 q.length ++ q) ∈ u.out) ∧
  (∀ (s : State) (c : MgmtConn) (req m r p q : Bytes) (n : Nat), mgmtOpen s c = true → 3 ≤ (s.conn c).stage →
    u8 req 0 = (s.conn c).version → (s.conn c).kept = some m → freeEngine s = some n → s.mode ≠ .hush →
    (s.drbgs.get {} 4108).inst = true → (s.drbgs.get {} 4108).requests < 2 ^ 19 →
    r = (List.range 32).map (Config.drbgOut (s.drbgs.get {} 4108).kv 32) → vendorPayload req = some p → u8 p 0 = 2 →
    q = signOut (identityReq s "GV-SPDM-COSIGN" false m) r →
    ∃ u, exec (.cosign c req) s = .next u ∧ u.slots = s.slots ∧ (u.conn c).kept = none ∧
      (if iterations 6 (identityReq s "" false []).priv (ascii "GV-SPDM-COSIGN") m r ≤ 128 then
        .mctp c 0x05 (spdmHeader (s.conn c) 0x7E 0 0 ++ leBytes 2 3 ++ [2] ++ leBytes 2 Config.vendorId.toNat ++
          leBytes 2 q.length ++ q) ∈ u.out
       else .mctp c 0x05 (spdmHeader (s.conn c) 0x7F 0x03 0) ∈ u.out)) ∧
  (∀ (s : State) (c : MgmtConn) (req r p x y z : Bytes) (n : Nat), mgmtOpen s c = true → 3 ≤ (s.conn c).stage →
    u8 req 0 = (s.conn c).version → hasIdentity s = true → freeEngine s = some n → s.mode ≠ .hush →
    (s.drbgs.get {} 4108).inst = true → (s.drbgs.get {} 4108).requests < 2 ^ 19 →
    r = (List.range 88).map (Config.drbgOut (s.drbgs.get {} 4108).kv 88) →
    vendorPayload req = some p → u8 p 0 = 3 → u32 p 1 = 0 → u16 p 5 ≤ 8000 → x = p.drop 7 → attestOperandsBad x 0 = false →
    x.length = 48 + 2 * u8 x 4 → (claimSlots x 48 (u8 x 4)).any (fun m => !claimOk s true 0 m) = false →
    claimFault s (claimSlots x 48 (u8 x 4)) = none →
    y = attestBody s (u32 x 0) (u8 x 5) (claimSlots x 48 (u8 x 4)) (slice x 16 32) →
    z = (if (u8 x 5).testBit 0 then signOut (identityReq s "GV-ATTEST" true y) (r.take 56) else []) ++
      (if (u8 x 5).testBit 1 then signOut (identityReq s "GV-ATTEST" false y) (r.drop 56) else []) →
    ∃ u, exec (.attest c req) s = .next u ∧ u.slots = s.slots ∧ u.meas = s.meas ∧
      (((u8 x 5).testBit 1 = false ∨
          iterations 6 (identityReq s "" false []).priv (ascii "GV-ATTEST") y (r.drop 56) ≤ 128) →
        (u.conn c).stmt = y ++ z ∧
        .mctp c 0x05 (spdmHeader (s.conn c) 0x7E 0 0 ++ leBytes 2 3 ++ [2] ++ leBytes 2 Config.vendorId.toNat ++
          leBytes 2 (pieceOf (y ++ z) 0 (u16 p 5)).length ++ pieceOf (y ++ z) 0 (u16 p 5)) ∈ u.out))

/-- PLDM base and platform monitoring (from R454, R455): the terminus ID, the types and commands, the 57 sensors' readings
and limits, the PDRs, and the event messages, polled only. The layouts are those of DSP0240 and DSP0248 (PRESUMED,
assumption log). PLDM firmware update (from R315, R317, R454 to R456): an update is requested once, its component named, its
partition erased, its pieces asked for and programmed in order, and it ends with ActivateFirmware, which restarts nothing by
itself, or with CancelUpdate. The layouts are those of DSP0267 (PRESUMED, assumption log). -/
def Obligations.PldmResponder : Prop :=
  (∀ (s : State) (c : MgmtConn) (req : Bytes), mgmtOpen s c = true →
    exec (.getTid c req) s = .next (pldmAnswer (mgmtEntry s c req) c req 0 (leBytes 1 s.quartz.tid)) ∧
    exec (.getPldmTypes c req) s = .next (pldmAnswer (mgmtEntry s c req) c req 0 [0x25, 0, 0, 0, 0, 0, 0, 0]) ∧
    exec (.getTerminusUid c req) s =
      .next (pldmAnswer (mgmtEntry s c req) c req 0 (leBytes 16 (Config.terminusUid s.fuses.deviceId).toNat)) ∧
    exec (.eventMessageSupported c req) s = .next (pldmAnswer (mgmtEntry s c req) c req 0
      (leBytes 1 (if s.quartz.polling then 2 else 0) ++ [5, 1, Config.eventClass]))) ∧
  (∀ (s : State) (c : MgmtConn) (req : Bytes), mgmtOpen s c = true →
    ∃ u, exec (.setTid c req) s = .next u ∧ u.slots = s.slots ∧
      u.quartz = (if u8 req 3 = 0 ∨ u8 req 3 = 0xFF then s.quartz else { s.quartz with tid := u8 req 3 })) ∧
  (∀ (s : State) (c : MgmtConn) (req : Bytes), mgmtOpen s c = true → (u8 req 8 = 0 ∨ u8 req 8 = 2 ∨ u8 req 8 = 5) →
    ∃ d, exec (.getPldmVersion c req) s = .next (pldmAnswer (mgmtEntry s c req) c req 0 d) ∧
      slice d 5 4 = leBytes 4 (Config.pldmVersion (u8 req 8)).toNat) ∧
  (∀ (s : State) (c : MgmtConn) (req : Bytes), mgmtOpen s c = true → (u8 req 3 = 0 ∨ u8 req 3 = 2 ∨ u8 req 3 = 5) →
    ∃ d, exec (.getPldmCommands c req) s = .next (pldmAnswer (mgmtEntry s c req) c req 0 d) ∧ d.length = 32 ∧
      ∀ n, n < 256 → ((leNat d).testBit n = true ↔ n ∈ pldmCommands (u8 req 3))) ∧
  (∀ (s : State) (c : MgmtConn) (req : Bytes), mgmtOpen s c = true → (u8 req 8 = 3 ∨ u8 req 8 = 4 ∨ u8 req 8 = 6) →
    exec (.getPldmVersion c req) s = .next (pldmAnswer (mgmtEntry s c req) c req 0x83 [])) ∧
  (∀ (s : State) (c : MgmtConn) (req : Bytes), mgmtOpen s c = true →
    ∃ u d, exec (.getPdrRepositoryInfo c req) s = .next u ∧
      .mctp c 0x01 (leBytes 1 (u8 req 0 % 32) ++ slice req 1 2 ++ [0] ++ d) ∈ u.out ∧ u32 d 27 = 58 ∧ u.quartz = s.quartz ∧
      u.slots = s.slots) ∧
  (∀ (s : State) (c : MgmtConn) (req : Bytes), mgmtOpen s c = true → 1 ≤ u32 req 3 → u32 req 3 ≤ 58 → u8 req 11 = 1 →
    ∃ d, exec (.getPdr c req) s = .next (pldmAnswer (mgmtEntry s c req) c req 0 d) ∧
      u32 d 0 = (if u32 req 3 = 58 then 0 else u32 req 3 + 1) ∧
      ((pdr (u32 req 3)).length ≤ u16 req 12 → d.drop 4 = zeros 4 ++ [5] ++ leBytes 2 (pdr (u32 req 3)).length ++
        pdr (u32 req 3))) ∧
  (∀ (s : State) (c : MgmtConn) (req : Bytes) (n : Nat), mgmtOpen s c = true → u16 req 3 = n + 1 → n < 57 →
    ∃ d, exec (.getSensorReading c req) s = .next (pldmAnswer (mgmtEntry s c req) c req 0 d) ∧
      u8 d 3 = (s.sensor n).state ∧ d.drop 6 = int32 (s.sensor n).value) ∧
  (∀ (s : State) (c : MgmtConn) (req : Bytes) (n : Nat), mgmtOpen s c = true → u16 req 3 = n + 1 → n < 57 →
    ∃ u d, exec (.getSensorThresholds c req) s = .next u ∧
      .mctp c 0x01 (leBytes 1 (u8 req 0 % 32) ++ slice req 1 2 ++ [0] ++ d) ∈ u.out ∧
      slice d 5 4 = int32 (s.sensor n).high ∧ slice d 17 4 = int32 (s.sensor n).low ∧ u.quartz = s.quartz) ∧
  (∀ (s : State) (c : MgmtConn) (req : Bytes) (n : Nat), mgmtOpen s c = true → u16 req 3 = n + 1 → n < 57 → u8 req 5 = 5 →
    ∃ u, exec (.setSensorThresholds c req) s = .next u ∧
      u.sensor n = { s.sensor n with high := signedOf 24 (u32 req 10 % 2 ^ 24), low := signedOf 24 (u32 req 22 % 2 ^ 24),
                                     en := true } ∧ (∀ m, m ≠ n → u.sensor m = s.sensor m)) ∧
  (∀ (s : State) (c : MgmtConn) (req : Bytes), mgmtOpen s c = true → (u16 req 3 = 0 ∨ 57 < u16 req 3) →
    exec (.getSensorReading c req) s = .next (pldmAnswer (mgmtEntry s c req) c req 0x80 []) ∧
    exec (.setSensorThresholds c req) s = .next (pldmAnswer (mgmtEntry s c req) c req 0x80 [])) ∧
  (∀ (s : State) (c : MgmtConn) (req : Bytes), mgmtOpen s c = true →
    ∃ u, exec (.setEventReceiver c req) s = .next u ∧ u.slots = s.slots ∧
      u.quartz = (if u8 req 3 = 0 ∨ u8 req 3 = 2 then { s.quartz with polling := u8 req 3 == 2 } else s.quartz)) ∧
  (∀ (s : State) (c : MgmtConn) (req : Bytes) (i : Nat) (e : EvEntry), mgmtOpen s c = true → nextPlatformEvent s = some (i, e) →
    ∃ u, exec (.pollForPlatformEventMessage c req) s = .next u ∧ u.slots = s.slots ∧ u.recorder = s.recorder ∧
      u.quartz.nextEvent = (if u16 req 9 = eventId i then i + 1 else s.quartz.nextEvent)) ∧
  (∀ (s : State) (c : MgmtConn) (req : Bytes), mgmtOpen s c = true → nextPlatformEvent s = none →
    exec (.pollForPlatformEventMessage c req) s =
      .next (pldmAnswer (mgmtEntry s c req) c req 0 (leBytes 1 s.quartz.tid ++ zeros 2))) ∧
  (∀ (s : State) (c : MgmtConn) (req : Bytes), mgmtOpen s c = true →
    exec (.queryDeviceIdentifiers c req) s = .next (pldmAnswer (mgmtEntry s c req) c req 0
      (leBytes 4 6 ++ [1] ++ zeros 2 ++ leBytes 2 2 ++ leBytes 2 Config.vendorId.toNat)) ∧
    exec (.getPackageData c req) s = .next (pldmAnswer (mgmtEntry s c req) c req 0 (zeros 4 ++ [5])) ∧
    exec (.getDeviceMetaData c req) s = .next (pldmAnswer (mgmtEntry s c req) c req 0 (zeros 4 ++ [5]))) ∧
  (∀ (s : State) (c : MgmtConn) (req : Bytes), mgmtOpen s c = true →
    ∃ u d, exec (.getFirmwareParameters c req) s = .next u ∧ u.quartz = s.quartz ∧ u.slots = s.slots ∧ u16 d 4 = 1 ∧
      .mctp c 0x01 (leBytes 1 (u8 req 0 % 32) ++ slice req 1 2 ++ [0] ++ d) ∈ u.out) ∧
  (∀ (s : State) (c : MgmtConn) (req : Bytes), mgmtOpen s c = true →
    ∃ d, exec (.getStatus c req) s = .next (pldmAnswer (mgmtEntry s c req) c req 0 d) ∧
      d.take 2 = leBytes 1 s.quartz.fd.state ++ leBytes 1 s.quartz.fd.prev) ∧
  (∀ (s : State) (c : MgmtConn) (req : Bytes), mgmtOpen s c = true → s.quartz.fd.state = 0 →
    ∃ u, exec (.requestUpdate c req) s = .next u ∧ u.quartz = { s.quartz with fd := { state := 1, maxPiece := u32 req 3 } } ∧
      u.boot = s.boot) ∧
  (∀ (s : State) (c : MgmtConn) (req : Bytes), mgmtOpen s c = true → s.quartz.fd.state ≠ 0 →
    exec (.requestUpdate c req) s = .next (pldmAnswer (mgmtEntry s c req) c req 0x81 [])) ∧
  (∀ (s : State) (c : MgmtConn) (req : Bytes), mgmtOpen s c = true → s.quartz.fd.state = 1 → (u8 req 3).testBit 2 = true →
    ∃ u, exec (.passComponentTable c req) s = .next u ∧
      u.quartz = { s.quartz with fd := { s.quartz.fd with state := 2, prev := 1 } } ∧ u.boot = s.boot) ∧
  (∀ (s : State) (c : MgmtConn) (req : Bytes), mgmtOpen s c = true → s.quartz.fd.state = 2 → ownComponent req 3 = true →
    1 ≤ u32 req 12 → u32 req 12 ≤ 2 ^ 23 → s.quartz.fd.maxPiece ≠ 0 → s.boot.haltLoop = false →
    ∃ u, exec (.updateComponent c req) s = .next u ∧ u.quartz.fd.state = 3 ∧ u.quartz.fd.img = otherImage s ∧
      u.quartz.fd.size = u32 req 12 ∧ u.quartz.fd.got = 0 ∧ imgState u (otherImage s) = .invalid ∧
      (∀ i, i < 2 ^ 23 → norByte u (imgBase (otherImage s) + i) = 0xFF) ∧
      .mctp c 0x01 ([0x80, 0x05, 0x15] ++ zeros 4 ++ leBytes 4 (min s.quartz.fd.maxPiece (u32 req 12))) ∈ u.out ∧
      u.slots = s.slots) ∧
  (∀ (s : State) (c : MgmtConn) (req : Bytes) (ur : Bool) (n : Nat), mgmtOpen s c = true → s.quartz.fd.state = 3 →
    u8 req 3 = 0 → req.length = 4 + n → 1 ≤ n → n ≤ s.quartz.fd.maxPiece → s.quartz.fd.got + n < s.quartz.fd.size →
    ∃ u, exec (.firmwareDataReceived c req ur) s = .next u ∧ u.quartz.fd = { s.quartz.fd with got := s.quartz.fd.got + n } ∧
      (∀ i, i < n → norByte u (imgBase s.quartz.fd.img + s.quartz.fd.got + i) =
        norByte s (imgBase s.quartz.fd.img + s.quartz.fd.got + i) &&& req.getD (4 + i) 0) ∧
      (∀ a, (a < imgBase s.quartz.fd.img + s.quartz.fd.got ∨ imgBase s.quartz.fd.img + s.quartz.fd.got + n ≤ a) →
        norByte u a = norByte s a) ∧
      .mctp c 0x01 ([0x80, 0x05, 0x15] ++ leBytes 4 (s.quartz.fd.got + n) ++
        leBytes 4 (min s.quartz.fd.maxPiece (s.quartz.fd.size - (s.quartz.fd.got + n)))) ∈ u.out) ∧
  (∀ (s : State) (c : MgmtConn) (req : Bytes), mgmtOpen s c = true → s.quartz.fd.state = 2 →
    ∃ u, exec (.activateFirmware c req) s = .next u ∧ u.quartz.fd.state = 0 ∧ u.moon.deferred = s.moon.deferred ∧
      u.mode = s.mode ∧ u.boot = s.boot) ∧
  (∀ (s : State) (c : MgmtConn) (req : Bytes), mgmtOpen s c = true → s.quartz.fd.state ≠ 0 →
    ∃ u, exec (.cancelUpdate c req) s = .next u ∧ u.quartz = { s.quartz with fd := { prev := s.quartz.fd.state } } ∧
      u.boot = s.boot) ∧
  (∀ (s : State) (c : MgmtConn) (req : Bytes), mgmtOpen s c = true → s.quartz.fd.state = 0 →
    exec (.cancelUpdate c req) s = .next (pldmAnswer (mgmtEntry s c req) c req 0x80 []) ∧
    exec (.activateFirmware c req) s = .next (pldmAnswer (mgmtEntry s c req) c req 0x80 []) ∧
    exec (.passComponentTable c req) s = .next (pldmAnswer (mgmtEntry s c req) c req 0x80 []))

/-- The journal's registers (from R482, R485, R499): a write to AMB_CFG or to REARM discards the ring and starts a capture
at clock 0; AMB_CFG reads what it was given, but for a ring larger than what is free of the shared pool, and the ring's
lines follow it; FREEZE and the end of POST_MS after a trigger stop the capture, which nothing but a restart starts again.
Export and replay (from R487 to R493): AMB_EXPORT writes the sealed window from the first whole checkpoint on; AMB_REPLAY of
the ring enters REPLAY at the first good checkpoint at or after CKPT_POS with that checkpoint's state, the measurement
registers, wards and fuses as they are, or ends with E_AMB_NO_CHECKPOINT; the end of a replay compares what was run again
with the window, reports OK or I_REPLAY_DIVERGED with the end position and the divergences, and a restart waits for the ACK.
-/
def Obligations.JournalControlAndReplay : Prop :=
  (∀ (s : State) (wide : Bool) (v : Nat), s.mode ≠ .dormant →
    ∃ u, exec (.ambCfgWrite wide v) s = .next u ∧ u.amber = { start := s.clk } ∧ u.slots = s.slots ∧
      u.reg R.AMB_CFG = ambCfgValue s (if wide then v else v % 2 ^ 32 + s.regField R.AMB_CFG 47 32 * 2 ^ 32) % 2 ^ 64 ∧
      (∀ a, a ≠ R.AMB_CFG → u.reg a = s.reg a) ∧ (ringGib s = 0 → ringGib u = 0 → u.mem = s.mem) ∧
      (ringGib s = 0 → 0 < ringGib u → u.mem = allocLines s.mem (ringLines (ringGib u)).1 (ringLines (ringGib u)).2 0xF006)) ∧
  (∀ (s : State), s.mode ≠ .dormant → s.amber.frozen = false →
    ∃ u, exec .ambCtrlFreeze s = .next u ∧ u.amber.frozen = true ∧ u.amber.freezeTime = s.time ∧ u.regs = s.regs ∧
      u.slots = s.slots ∧ u.jobs = s.jobs) ∧
  (∀ (s : State), s.mode ≠ .dormant → s.amber.frozen = true → exec .ambCtrlFreeze s = .next s) ∧
  (∀ (s : State), s.mode ≠ .dormant →
    ∃ u, exec .ambCtrlRearm s = .next u ∧ u.amber = { start := s.clk } ∧ u.regs = s.regs ∧ u.slots = s.slots ∧
      u.jobs = s.jobs) ∧
  (∀ (s : State), s.amber.triggered = true → s.amber.frozen = false →
    ∃ u, exec .ambFreeze s = .next u ∧ u.amber.frozen = true ∧ u.amber.freezeTime = s.time ∧
      u.amber.freezeCode = s.amber.freezeCode ∧ u.regs = s.regs ∧ u.slots = s.slots) ∧
  (∀ (s : State), s.amber.triggered = false → exec .ambFreeze s = .next s) ∧
  (∀ (s : State) (b : BindId) (j : Job) (k id : Bytes) (p : Nat) (ps : List Nat), Runs s (.mailbox b) C.AMB_EXPORT 0 j →
    Plain j → ambExportCheck s j = none → rangeFault s.mem (ringLines (ringGib s)).1 (ringLines (ringGib s)).2 = none →
    ajk s = some k → wholeCkpts s = p :: ps →
    (s.drbgs.get {} (drbgOf j)).inst = true → (s.drbgs.get {} (drbgOf j)).requests < 2 ^ 19 →
    id = (List.range 8).map (Config.drbgOut (s.drbgs.get {} (drbgOf j)).kv 8) →
    canDma s (dmaBind s j (hostRef j.ops 16).port) = true →
    ∃ u, exec (.ambExport (.mailbox b)) s = .next u ∧
      ((hostRef j.ops 16).port = 0 →
        Ends u b S.OK (fit 8 id ++ leBytes 8 (s.amber.head - p) ++ leBytes 8 (exportBytes s k id p).length)) ∧
      writeMsg s (dmaBind s j (hostRef j.ops 16).port) (hostRef j.ops 16).addr (exportBytes s k id p) true ∈ u.out ∧
      u.amber = s.amber ∧ u.slots = s.slots) ∧
  (∀ (s : State) (b : BindId) (j : Job) (p : Nat), Runs s (.mailbox b) C.AMB_REPLAY 0 j → ambReplayCheck s j = none →
    u8 j.ops 0 = 0 → rangeFault s.mem (ringLines (ringGib s)).1 (ringLines (ringGib s)).2 = none →
    ckptFrom s.amber.ring (u64 j.ops 8) = some p →
    ∃ u k, exec (.ambReplay (.mailbox b)) s = .next u ∧
      u.mode = .replay ∧ u.slots = ((s.amber.whole.look? p).getD {}).slots ∧
      u.tenants = ((s.amber.whole.look? p).getD {}).tenants ∧ u.meas = s.meas ∧ u.measLog = s.measLog ∧
      u.wards = s.wards ∧ u.fuses = s.fuses ∧
      u.job? (.mailbox b) = some k ∧ k.phase = .replay ∧ k.committed = true ∧ k.args = [p, 0]) ∧
  (∀ (s : State) (b : BindId) (j : Job), Runs s (.mailbox b) C.AMB_REPLAY 0 j → Plain j → ambReplayCheck s j = none →
    u8 j.ops 0 = 0 → rangeFault s.mem (ringLines (ringGib s)).1 (ringLines (ringGib s)).2 = none →
    ckptFrom s.amber.ring (u64 j.ops 8) = none →
    ∃ u, exec (.ambReplay (.mailbox b)) s = .next u ∧ Ends u b S.E_AMB_NO_CHECKPOINT [] ∧ u.mode = s.mode ∧
      u.slots = s.slots ∧ u.meas = s.meas) ∧
  (∀ (s : State) (b : BindId) (j : Job) (pos : Nat) (run : List ReplayEvent) (absent : Option AbsentWinner) (r : ReplayResult),
    s.jobs.find? (fun j => j.code == C.AMB_REPLAY && j.phase == .replay) = some j → j.origin = .mailbox b → Plain j →
    s.mode = .replay → u8 j.ops 1 / 2 % 4 = 0 → canDma s (dmaBind s j (hostRef j.ops 40).port) = true →
    r = replayResult s j pos run absent →
    ∃ u, exec (.replayEnd pos run absent) s = .next u ∧
      ((hostRef j.ops 40).port = 0 → Ends u b (if r.divs = [] then S.OK else S.I_REPLAY_DIVERGED)
        (leBytes 8 r.endPos ++ zeros 4 ++ leBytes 2 r.divs.length ++ leBytes 1 r.result ++ zeros 1)) ∧
      writeMsg s (dmaBind s j (hostRef j.ops 40).port) (hostRef j.ops 40).addr
        (reportBytes s j r ((windowEntries s (listGet 0 j.args 0)).filter fun e => decide (e.pos < r.endPos))) true ∈ u.out ∧
      u.moon.deferred = some (j.bind, .restart) ∧ u.mode = .replay ∧ u.slots = s.slots) ∧
  (∀ (s : State) (pos : Nat) (run : List ReplayEvent) (absent : Option AbsentWinner), s.mode ≠ .replay → exec (.replayEnd pos run absent) s = .next s)
end

