-- ==== Sys2Proof/Laws/Bytes.lean ====
section
/-! SUPPORT. The lengths of the byte strings that the field helpers give, and the bounds of the fields read from them. -/

namespace Sys2Proof.Machine

@[simp] theorem zeros_length (n : Nat) : (zeros n).length = n := by simp [zeros]

@[simp] theorem leBytes_length (n v : Nat) : (leBytes n v).length = n := by
  induction n generalizing v with
  | zero => rfl
  | succ n ih => simp [leBytes, ih]

@[simp] theorem slice_length (bs : Bytes) (off n : Nat) : (slice bs off n).length = n := by
  simp only [slice, List.length_append, zeros_length]
  have := List.length_take_le n (bs.drop off)
  omega

@[simp] theorem fit_length (n : Nat) (bs : Bytes) : (fit n bs).length = n := slice_length bs 0 n

/-- A byte string of length n spells a number below 256^n (R1). -/
theorem leNat_lt (bs : Bytes) : leNat bs < 256 ^ bs.length := by
  induction bs with
  | nil => simp [leNat]
  | cons b bs ih =>
    have := b.isLt
    simp only [leNat, List.length_cons, Nat.pow_succ]
    omega

/-- Reading back what was written gives the value cut to the field's width (R1). -/
theorem leNat_leBytes (n v : Nat) : leNat (leBytes n v) = v % 256 ^ n := by
  induction n generalizing v with
  | zero => simp [leBytes, leNat, Nat.mod_one]
  | succ n ih =>
    simp only [leBytes, leNat, ih, Nat.pow_succ']
    rw [Nat.mod_mul]
    simp [BitVec.toNat_ofNat]

theorem u8_lt (bs : Bytes) (off : Nat) : u8 bs off < 2 ^ 8 := by
  simpa [u8] using leNat_lt (slice bs off 1)
theorem u16_lt (bs : Bytes) (off : Nat) : u16 bs off < 2 ^ 16 := by
  simpa [u16] using leNat_lt (slice bs off 2)
theorem u32_lt (bs : Bytes) (off : Nat) : u32 bs off < 2 ^ 32 := by
  simpa [u32] using leNat_lt (slice bs off 4)
theorem u64_lt (bs : Bytes) (off : Nat) : u64 bs off < 2 ^ 64 := by
  simpa [u64] using leNat_lt (slice bs off 8)

end Sys2Proof.Machine
end

