-- ==== Sys2Proof/Laws/Maps.lean ====
section
/-! SUPPORT. Reading after writing, and the canonical form, of sparse tables. -/

namespace Sys2Proof.Machine

variable {α : Type}

@[simp] theorem NMap.look?_nil (k : Nat) : NMap.look? ([] : NMap α) k = none := rfl

theorem NMap.look?_cons (e : Nat × α) (m : NMap α) (k : Nat) :
    NMap.look? (e :: m) k = if k = e.1 then some e.2 else NMap.look? m k := rfl

@[simp] theorem NMap.look?_erase_self (m : NMap α) (k : Nat) : (m.erase k).look? k = none := by
  induction m with
  | nil => rfl
  | cons e r ih =>
    by_cases h : k = e.1
    · subst h; simpa [NMap.erase] using ih
    · simp [NMap.erase, NMap.look?_cons, h, ih]

theorem NMap.look?_erase_of_ne (m : NMap α) {k l : Nat} (h : l ≠ k) : (m.erase k).look? l = m.look? l := by
  induction m with
  | nil => rfl
  | cons e r ih =>
    by_cases hk : k = e.1
    · subst hk; simp [NMap.erase, NMap.look?_cons, h, ih]
    · simp [NMap.erase, NMap.look?_cons, hk, ih]

@[simp] theorem NMap.look?_insert_self (m : NMap α) (k : Nat) (v : α) : (NMap.insert m k v).look? k = some v := by
  induction m with
  | nil => simp [NMap.insert, NMap.look?_cons]
  | cons e r ih =>
    by_cases h1 : k < e.1
    · simp [NMap.insert, h1, NMap.look?_cons]
    · by_cases h2 : k = e.1
      · simp [NMap.insert, h2, NMap.look?_cons]
      · simp [NMap.insert, h1, h2, NMap.look?_cons, ih]

theorem NMap.look?_insert_of_ne (m : NMap α) {k l : Nat} (v : α) (h : l ≠ k) :
    (NMap.insert m k v).look? l = m.look? l := by
  induction m with
  | nil => simp [NMap.insert, NMap.look?_cons, h]
  | cons e r ih =>
    by_cases h1 : k < e.1
    · simp [NMap.insert, h1, NMap.look?_cons, h]
    · by_cases h2 : k = e.1
      · subst h2; simp [NMap.insert, NMap.look?_cons, h]
      · simp [NMap.insert, h1, h2, NMap.look?_cons, ih]

/-- A key reads as what was last written to it. -/
@[simp] theorem NMap.get_put_self [DecidableEq α] (d : α) (m : NMap α) (k : Nat) (v : α) : (m.put d k v).get d k = v := by
  unfold NMap.put NMap.get
  by_cases h : v = d <;> simp [h]

/-- Writing one key leaves every other key. -/
theorem NMap.get_put_of_ne [DecidableEq α] (d : α) (m : NMap α) {k l : Nat} (v : α) (h : l ≠ k) :
    (m.put d k v).get d l = m.get d l := by
  unfold NMap.put NMap.get
  by_cases hv : v = d
  · simp [hv, NMap.look?_erase_of_ne m h]
  · simp [hv, NMap.look?_insert_of_ne m v h]

/-- Reading any key after writing one. -/
theorem NMap.get_put [DecidableEq α] (d : α) (m : NMap α) (k l : Nat) (v : α) :
    (m.put d k v).get d l = if l = k then v else m.get d l := by
  by_cases h : l = k
  · subst h; simp
  · simp [h, NMap.get_put_of_ne d m v h]

/-- Writing `vs` from key `k` on leaves the keys outside. -/
theorem NMap.get_putList_outside [DecidableEq α] (d : α) (vs : List α) :
    ∀ (m : NMap α) (k l : Nat), (l < k ∨ k + vs.length ≤ l) → (m.putList d k vs).get d l = m.get d l := by
  induction vs with
  | nil => intro m k l _; rfl
  | cons v vs ih =>
    intro m k l h
    have h' : l < k + 1 ∨ k + 1 + vs.length ≤ l := by
      rcases h with h | h
      · left; omega
      · right; simp only [List.length_cons] at h; omega
    have hne : l ≠ k := by
      rcases h with h | h
      · omega
      · simp only [List.length_cons] at h; omega
    show (NMap.putList d (m.put d k v) (k + 1) vs).get d l = _
    rw [ih _ _ _ h', NMap.get_put_of_ne d m v hne]

/-- Writing `vs` from key `k` on puts entry `i` at key `k + i`. -/
theorem NMap.get_putList_inside [DecidableEq α] (d : α) (vs : List α) :
    ∀ (m : NMap α) (k i : Nat) (h : i < vs.length), (m.putList d k vs).get d (k + i) = vs[i] := by
  induction vs with
  | nil => intro m k i h; simp at h
  | cons v vs ih =>
    intro m k i h
    show (NMap.putList d (m.put d k v) (k + 1) vs).get d (k + i) = _
    cases i with
    | zero => rw [NMap.get_putList_outside d vs _ _ _ (Or.inl (by omega))]; simp
    | succ i =>
      have := ih (m.put d k v) (k + 1) i (by simpa using h)
      rw [show k + (i + 1) = k + 1 + i by omega, this]; simp

/-! ### The canonical form -/

/-- The canonical form of a table with a first entry: the entry's key lies below the others. -/
theorem NMap.wf_cons [DecidableEq α] (d : α) (e : Nat × α) (m : NMap α) :
    NMap.wf d (e :: m) = true ↔ (∀ x ∈ m, e.1 < x.1) ∧ e.2 ≠ d ∧ NMap.wf d m = true := by
  simp [NMap.wf, List.pairwise_cons]
  tauto

@[simp] theorem NMap.wf_nil [DecidableEq α] (d : α) : NMap.wf d ([] : NMap α) = true := rfl

theorem NMap.mem_erase {m : NMap α} {k : Nat} {e : Nat × α} (h : e ∈ m.erase k) : e ∈ m ∧ e.1 ≠ k := by
  induction m with
  | nil => simp [NMap.erase] at h
  | cons x r ih =>
    by_cases hk : k = x.1
    · simp only [NMap.erase, hk, if_true] at h
      have := ih (by rwa [hk])
      exact ⟨List.mem_cons_of_mem _ this.1, this.2⟩
    · simp only [NMap.erase, hk, if_false, List.mem_cons] at h
      rcases h with h | h
      · subst h; exact ⟨List.mem_cons_self, fun he => hk he.symm⟩
      · exact ⟨List.mem_cons_of_mem _ (ih h).1, (ih h).2⟩

theorem NMap.mem_insert {m : NMap α} {k : Nat} {v : α} {e : Nat × α} (h : e ∈ NMap.insert m k v) : e = (k, v) ∨ e ∈ m := by
  induction m with
  | nil => simp [NMap.insert] at h; exact Or.inl h
  | cons x r ih =>
    by_cases h1 : k < x.1
    · simp only [NMap.insert, h1, if_true, List.mem_cons] at h
      simpa using h
    · by_cases h2 : k = x.1
      · simp only [NMap.insert, h2, lt_irrefl, if_false, if_true, List.mem_cons] at h
        rcases h with h | h
        · exact Or.inl (by rw [h, h2])
        · exact Or.inr (List.mem_cons_of_mem _ h)
      · simp only [NMap.insert, h1, h2, if_false, List.mem_cons] at h
        rcases h with h | h
        · exact Or.inr (by simp [h])
        · rcases ih h with h | h
          · exact Or.inl h
          · exact Or.inr (List.mem_cons_of_mem _ h)

/-- Removing a key keeps the canonical form. -/
theorem NMap.wf_erase [DecidableEq α] {d : α} {m : NMap α} (h : NMap.wf d m = true) (k : Nat) : NMap.wf d (m.erase k) = true := by
  induction m with
  | nil => rfl
  | cons x r ih =>
    rw [NMap.wf_cons] at h
    by_cases hk : k = x.1
    · simp only [NMap.erase, hk, if_true]; rw [hk] at ih; exact ih h.2.2
    · simp only [NMap.erase, hk, if_false]
      rw [NMap.wf_cons]
      exact ⟨fun y hy => h.1 y (NMap.mem_erase hy).1, h.2.1, ih h.2.2⟩

/-- Entering a value other than the default keeps the canonical form. -/
theorem NMap.wf_insert [DecidableEq α] {d : α} {m : NMap α} (h : NMap.wf d m = true) (k : Nat) {v : α} (hv : v ≠ d) :
    NMap.wf d (NMap.insert m k v) = true := by
  induction m with
  | nil => simp [NMap.insert, NMap.wf_cons, hv]
  | cons x r ih =>
    have h0 := h
    rw [NMap.wf_cons] at h
    by_cases h1 : k < x.1
    · simp only [NMap.insert, h1, if_true]
      rw [NMap.wf_cons]
      refine ⟨fun y hy => ?_, hv, h0⟩
      rcases List.mem_cons.1 hy with hy | hy
      · rw [hy]; exact h1
      · exact lt_trans h1 (h.1 y hy)
    · by_cases h2 : k = x.1
      · simp only [NMap.insert, h2, lt_irrefl, if_false, if_true]
        rw [NMap.wf_cons]
        exact ⟨h.1, hv, h.2.2⟩
      · simp only [NMap.insert, h1, h2, if_false]
        rw [NMap.wf_cons]
        refine ⟨fun y hy => ?_, h.2.1, ih h.2.2⟩
        rcases NMap.mem_insert hy with hy | hy
        · rw [hy]; show x.1 < k; omega
        · exact h.1 y hy

/-- Every write keeps the canonical form. -/
theorem NMap.wf_put [DecidableEq α] {d : α} {m : NMap α} (h : NMap.wf d m = true) (k : Nat) (v : α) :
    NMap.wf d (m.put d k v) = true := by
  unfold NMap.put
  split
  · exact NMap.wf_erase h k
  · exact NMap.wf_insert h k ‹_›

/-- Every write of several keys keeps the canonical form. -/
theorem NMap.wf_putList [DecidableEq α] {d : α} (vs : List α) :
    ∀ {m : NMap α}, NMap.wf d m = true → ∀ k, NMap.wf d (m.putList d k vs) = true := by
  induction vs with
  | nil => intro m h _; exact h
  | cons v vs ih => intro m h k; exact ih (NMap.wf_put h k v) (k + 1)

/-- Leaving out entries keeps the canonical form. -/
theorem NMap.wf_filter [DecidableEq α] {d : α} {m : NMap α} (h : NMap.wf d m = true) (p : Nat × α → Bool) :
    NMap.wf d (m.filter p) = true := by
  induction m with
  | nil => rfl
  | cons x r ih =>
    rw [NMap.wf_cons] at h
    by_cases hp : p x = true
    · rw [List.filter_cons_of_pos hp, NMap.wf_cons]
      exact ⟨fun y hy => h.1 y (List.mem_of_mem_filter hy), h.2.1, ih h.2.2⟩
    · rw [List.filter_cons_of_neg hp]; exact ih h.2.2

end Sys2Proof.Machine
end

