-- ==== Sys2Proof/Laws/Fields.lean ====
section
/-! SUPPORT. The table that an update of one entry replaces. -/

namespace Sys2Proof.Machine

variable (s : State)

@[simp] theorem setTen_tenants (n : Nat) (c : Tenant) : (s.setTen n c).tenants = s.tenants.put {} n c := rfl
@[simp] theorem setSlot_slots (n : Nat) (v : Slot) : (s.setSlot n v).slots = s.slots.put {} n v := rfl
@[simp] theorem setQp_qps (n : Nat) (q : QueuePair) : (s.setQp n q).qps = s.qps.put {} n q := rfl
@[simp] theorem setMan_manifests (n : Nat) (m : Manifest) : (s.setMan n m).manifests = s.manifests.put {} n m := rfl
@[simp] theorem setSeng_sealEngines (n : Nat) (e : SealEngine) : (s.setSeng n e).sealEngines = s.sealEngines.put {} n e := rfl
@[simp] theorem setAeng_arith (n : Nat) (e : ArithEngine) : (s.setAeng n e).arith = s.arith.put {} n e := rfl
@[simp] theorem setLink_links (l : Nat) (v : Link) : (s.setLink l v).links = s.links.put {} l v := rfl
@[simp] theorem setWard_wards (w : Nat) (v : Ward) : (s.setWard w v).wards = s.wards.put {} w v := rfl
@[simp] theorem setReg_regs (a v : Nat) : (s.setReg a v).regs = s.regs.put 0 a (v % 2 ^ 64) := (rfl)
@[simp] theorem setTree_agate (n : Nat) (t : Tree) :
    (s.setTree n t).agate = { s.agate with trees := s.agate.trees.put {} n t } := rfl
@[simp] theorem setBus_tkn (b : Nat) (v : TknBus) : (s.setBus b v).tkn = { s.tkn with buses := s.tkn.buses.put {} b v } := rfl
@[simp] theorem setCer_tkn (c : Ceremony) : (s.setCer c).tkn = { s.tkn with ceremony := c } := rfl
@[simp] theorem send_out (m : Msg) : (s.send m).out = s.out ++ [m] := rfl

end Sys2Proof.Machine
end

