-- ==== Sys2Proof/Laws/State.lean ====
section
/-! SUPPORT. What each named update of the state leaves as it was, and what reading back an update gives. -/

namespace Sys2Proof.Machine

variable (s : State)

/-! ### State.setReg -/

@[simp] theorem setReg_clk (a v : Nat) : (s.setReg a v).clk = s.clk := (rfl)
@[simp] theorem setReg_mode (a v : Nat) : (s.setReg a v).mode = s.mode := (rfl)
@[simp] theorem setReg_portA (a v : Nat) : (s.setReg a v).portA = s.portA := (rfl)
@[simp] theorem setReg_portB (a v : Nat) : (s.setReg a v).portB = s.portB := (rfl)
@[simp] theorem setReg_jobs (a v : Nat) : (s.setReg a v).jobs = s.jobs := (rfl)
@[simp] theorem setReg_heldJobs (a v : Nat) : (s.setReg a v).heldJobs = s.heldJobs := (rfl)
@[simp] theorem setReg_qps (a v : Nat) : (s.setReg a v).qps = s.qps := (rfl)
@[simp] theorem setReg_sched (a v : Nat) : (s.setReg a v).sched = s.sched := (rfl)
@[simp] theorem setReg_manifests (a v : Nat) : (s.setReg a v).manifests = s.manifests := (rfl)
@[simp] theorem setReg_nextManifest (a v : Nat) : (s.setReg a v).nextManifest = s.nextManifest := (rfl)
@[simp] theorem setReg_sealEngines (a v : Nat) : (s.setReg a v).sealEngines = s.sealEngines := (rfl)
@[simp] theorem setReg_digests (a v : Nat) : (s.setReg a v).digests = s.digests := (rfl)
@[simp] theorem setReg_meas (a v : Nat) : (s.setReg a v).meas = s.meas := (rfl)
@[simp] theorem setReg_measLog (a v : Nat) : (s.setReg a v).measLog = s.measLog := (rfl)
@[simp] theorem setReg_measNext (a v : Nat) : (s.setReg a v).measNext = s.measNext := (rfl)
@[simp] theorem setReg_measOverflow (a v : Nat) : (s.setReg a v).measOverflow = s.measOverflow := (rfl)
@[simp] theorem setReg_truncOffered (a v : Nat) : (s.setReg a v).truncOffered = s.truncOffered := (rfl)
@[simp] theorem setReg_slots (a v : Nat) : (s.setReg a v).slots = s.slots := (rfl)
@[simp] theorem setReg_pufSecret (a v : Nat) : (s.setReg a v).pufSecret = s.pufSecret := (rfl)
@[simp] theorem setReg_keyed (a v : Nat) : (s.setReg a v).keyed = s.keyed := (rfl)
@[simp] theorem setReg_cdk (a v : Nat) : (s.setReg a v).cdk = s.cdk := (rfl)
@[simp] theorem setReg_zeroised (a v : Nat) : (s.setReg a v).zeroised = s.zeroised := (rfl)
@[simp] theorem setReg_agate (a v : Nat) : (s.setReg a v).agate = s.agate := (rfl)
@[simp] theorem setReg_arith (a v : Nat) : (s.setReg a v).arith = s.arith := (rfl)
@[simp] theorem setReg_sources (a v : Nat) : (s.setReg a v).sources = s.sources := (rfl)
@[simp] theorem setReg_entropy (a v : Nat) : (s.setReg a v).entropy = s.entropy := (rfl)
@[simp] theorem setReg_filling (a v : Nat) : (s.setReg a v).filling = s.filling := (rfl)
@[simp] theorem setReg_lfsr (a v : Nat) : (s.setReg a v).lfsr = s.lfsr := (rfl)
@[simp] theorem setReg_drbgs (a v : Nat) : (s.setReg a v).drbgs = s.drbgs := (rfl)
@[simp] theorem setReg_tenants (a v : Nat) : (s.setReg a v).tenants = s.tenants := (rfl)
@[simp] theorem setReg_cfg (a v : Nat) : (s.setReg a v).cfg = s.cfg := (rfl)
@[simp] theorem setReg_moon (a v : Nat) : (s.setReg a v).moon = s.moon := (rfl)
@[simp] theorem setReg_fuses (a v : Nat) : (s.setReg a v).fuses = s.fuses := (rfl)
@[simp] theorem setReg_boot (a v : Nat) : (s.setReg a v).boot = s.boot := (rfl)
@[simp] theorem setReg_lcs (a v : Nat) : (s.setReg a v).lcs = s.lcs := (rfl)
@[simp] theorem setReg_tamper (a v : Nat) : (s.setReg a v).tamper = s.tamper := (rfl)
@[simp] theorem setReg_pins (a v : Nat) : (s.setReg a v).pins = s.pins := (rfl)
@[simp] theorem setReg_wards (a v : Nat) : (s.setReg a v).wards = s.wards := (rfl)
@[simp] theorem setReg_tkn (a v : Nat) : (s.setReg a v).tkn = s.tkn := (rfl)
@[simp] theorem setReg_internalDone (a v : Nat) : (s.setReg a v).internalDone = s.internalDone := (rfl)
@[simp] theorem setReg_recorder (a v : Nat) : (s.setReg a v).recorder = s.recorder := (rfl)
@[simp] theorem setReg_amber (a v : Nat) : (s.setReg a v).amber = s.amber := (rfl)
@[simp] theorem setReg_links (a v : Nat) : (s.setReg a v).links = s.links := (rfl)
@[simp] theorem setReg_fabric (a v : Nat) : (s.setReg a v).fabric = s.fabric := (rfl)
@[simp] theorem setReg_nor (a v : Nat) : (s.setReg a v).nor = s.nor := (rfl)
@[simp] theorem setReg_mem (a v : Nat) : (s.setReg a v).mem = s.mem := (rfl)
@[simp] theorem setReg_quartz (a v : Nat) : (s.setReg a v).quartz = s.quartz := (rfl)
@[simp] theorem setReg_out (a v : Nat) : (s.setReg a v).out = s.out := (rfl)
@[simp] theorem setReg_freeIdx (a v : Nat) : (s.setReg a v).freeIdx = s.freeIdx := (rfl)
@[simp] theorem setReg_pending (a v : Nat) : (s.setReg a v).pending = s.pending := (rfl)

/-! ### State.setRegField -/

@[simp] theorem setRegField_clk (a m l v : Nat) : (s.setRegField a m l v).clk = s.clk := (rfl)
@[simp] theorem setRegField_mode (a m l v : Nat) : (s.setRegField a m l v).mode = s.mode := (rfl)
@[simp] theorem setRegField_portA (a m l v : Nat) : (s.setRegField a m l v).portA = s.portA := (rfl)
@[simp] theorem setRegField_portB (a m l v : Nat) : (s.setRegField a m l v).portB = s.portB := (rfl)
@[simp] theorem setRegField_jobs (a m l v : Nat) : (s.setRegField a m l v).jobs = s.jobs := (rfl)
@[simp] theorem setRegField_heldJobs (a m l v : Nat) : (s.setRegField a m l v).heldJobs = s.heldJobs := (rfl)
@[simp] theorem setRegField_qps (a m l v : Nat) : (s.setRegField a m l v).qps = s.qps := (rfl)
@[simp] theorem setRegField_sched (a m l v : Nat) : (s.setRegField a m l v).sched = s.sched := (rfl)
@[simp] theorem setRegField_manifests (a m l v : Nat) : (s.setRegField a m l v).manifests = s.manifests := (rfl)
@[simp] theorem setRegField_nextManifest (a m l v : Nat) : (s.setRegField a m l v).nextManifest = s.nextManifest := (rfl)
@[simp] theorem setRegField_sealEngines (a m l v : Nat) : (s.setRegField a m l v).sealEngines = s.sealEngines := (rfl)
@[simp] theorem setRegField_digests (a m l v : Nat) : (s.setRegField a m l v).digests = s.digests := (rfl)
@[simp] theorem setRegField_meas (a m l v : Nat) : (s.setRegField a m l v).meas = s.meas := (rfl)
@[simp] theorem setRegField_measLog (a m l v : Nat) : (s.setRegField a m l v).measLog = s.measLog := (rfl)
@[simp] theorem setRegField_measNext (a m l v : Nat) : (s.setRegField a m l v).measNext = s.measNext := (rfl)
@[simp] theorem setRegField_measOverflow (a m l v : Nat) : (s.setRegField a m l v).measOverflow = s.measOverflow := (rfl)
@[simp] theorem setRegField_truncOffered (a m l v : Nat) : (s.setRegField a m l v).truncOffered = s.truncOffered := (rfl)
@[simp] theorem setRegField_slots (a m l v : Nat) : (s.setRegField a m l v).slots = s.slots := (rfl)
@[simp] theorem setRegField_pufSecret (a m l v : Nat) : (s.setRegField a m l v).pufSecret = s.pufSecret := (rfl)
@[simp] theorem setRegField_keyed (a m l v : Nat) : (s.setRegField a m l v).keyed = s.keyed := (rfl)
@[simp] theorem setRegField_cdk (a m l v : Nat) : (s.setRegField a m l v).cdk = s.cdk := (rfl)
@[simp] theorem setRegField_zeroised (a m l v : Nat) : (s.setRegField a m l v).zeroised = s.zeroised := (rfl)
@[simp] theorem setRegField_agate (a m l v : Nat) : (s.setRegField a m l v).agate = s.agate := (rfl)
@[simp] theorem setRegField_arith (a m l v : Nat) : (s.setRegField a m l v).arith = s.arith := (rfl)
@[simp] theorem setRegField_sources (a m l v : Nat) : (s.setRegField a m l v).sources = s.sources := (rfl)
@[simp] theorem setRegField_entropy (a m l v : Nat) : (s.setRegField a m l v).entropy = s.entropy := (rfl)
@[simp] theorem setRegField_filling (a m l v : Nat) : (s.setRegField a m l v).filling = s.filling := (rfl)
@[simp] theorem setRegField_lfsr (a m l v : Nat) : (s.setRegField a m l v).lfsr = s.lfsr := (rfl)
@[simp] theorem setRegField_drbgs (a m l v : Nat) : (s.setRegField a m l v).drbgs = s.drbgs := (rfl)
@[simp] theorem setRegField_tenants (a m l v : Nat) : (s.setRegField a m l v).tenants = s.tenants := (rfl)
@[simp] theorem setRegField_cfg (a m l v : Nat) : (s.setRegField a m l v).cfg = s.cfg := (rfl)
@[simp] theorem setRegField_moon (a m l v : Nat) : (s.setRegField a m l v).moon = s.moon := (rfl)
@[simp] theorem setRegField_fuses (a m l v : Nat) : (s.setRegField a m l v).fuses = s.fuses := (rfl)
@[simp] theorem setRegField_boot (a m l v : Nat) : (s.setRegField a m l v).boot = s.boot := (rfl)
@[simp] theorem setRegField_lcs (a m l v : Nat) : (s.setRegField a m l v).lcs = s.lcs := (rfl)
@[simp] theorem setRegField_tamper (a m l v : Nat) : (s.setRegField a m l v).tamper = s.tamper := (rfl)
@[simp] theorem setRegField_pins (a m l v : Nat) : (s.setRegField a m l v).pins = s.pins := (rfl)
@[simp] theorem setRegField_wards (a m l v : Nat) : (s.setRegField a m l v).wards = s.wards := (rfl)
@[simp] theorem setRegField_tkn (a m l v : Nat) : (s.setRegField a m l v).tkn = s.tkn := (rfl)
@[simp] theorem setRegField_internalDone (a m l v : Nat) : (s.setRegField a m l v).internalDone = s.internalDone := (rfl)
@[simp] theorem setRegField_recorder (a m l v : Nat) : (s.setRegField a m l v).recorder = s.recorder := (rfl)
@[simp] theorem setRegField_amber (a m l v : Nat) : (s.setRegField a m l v).amber = s.amber := (rfl)
@[simp] theorem setRegField_links (a m l v : Nat) : (s.setRegField a m l v).links = s.links := (rfl)
@[simp] theorem setRegField_fabric (a m l v : Nat) : (s.setRegField a m l v).fabric = s.fabric := (rfl)
@[simp] theorem setRegField_nor (a m l v : Nat) : (s.setRegField a m l v).nor = s.nor := (rfl)
@[simp] theorem setRegField_mem (a m l v : Nat) : (s.setRegField a m l v).mem = s.mem := (rfl)
@[simp] theorem setRegField_quartz (a m l v : Nat) : (s.setRegField a m l v).quartz = s.quartz := (rfl)
@[simp] theorem setRegField_out (a m l v : Nat) : (s.setRegField a m l v).out = s.out := (rfl)
@[simp] theorem setRegField_freeIdx (a m l v : Nat) : (s.setRegField a m l v).freeIdx = s.freeIdx := (rfl)
@[simp] theorem setRegField_pending (a m l v : Nat) : (s.setRegField a m l v).pending = s.pending := (rfl)

/-! ### State.incRegField -/

@[simp] theorem incRegField_clk (a m l : Nat) : (s.incRegField a m l).clk = s.clk := (rfl)
@[simp] theorem incRegField_mode (a m l : Nat) : (s.incRegField a m l).mode = s.mode := (rfl)
@[simp] theorem incRegField_portA (a m l : Nat) : (s.incRegField a m l).portA = s.portA := (rfl)
@[simp] theorem incRegField_portB (a m l : Nat) : (s.incRegField a m l).portB = s.portB := (rfl)
@[simp] theorem incRegField_jobs (a m l : Nat) : (s.incRegField a m l).jobs = s.jobs := (rfl)
@[simp] theorem incRegField_heldJobs (a m l : Nat) : (s.incRegField a m l).heldJobs = s.heldJobs := (rfl)
@[simp] theorem incRegField_qps (a m l : Nat) : (s.incRegField a m l).qps = s.qps := (rfl)
@[simp] theorem incRegField_sched (a m l : Nat) : (s.incRegField a m l).sched = s.sched := (rfl)
@[simp] theorem incRegField_manifests (a m l : Nat) : (s.incRegField a m l).manifests = s.manifests := (rfl)
@[simp] theorem incRegField_nextManifest (a m l : Nat) : (s.incRegField a m l).nextManifest = s.nextManifest := (rfl)
@[simp] theorem incRegField_sealEngines (a m l : Nat) : (s.incRegField a m l).sealEngines = s.sealEngines := (rfl)
@[simp] theorem incRegField_digests (a m l : Nat) : (s.incRegField a m l).digests = s.digests := (rfl)
@[simp] theorem incRegField_meas (a m l : Nat) : (s.incRegField a m l).meas = s.meas := (rfl)
@[simp] theorem incRegField_measLog (a m l : Nat) : (s.incRegField a m l).measLog = s.measLog := (rfl)
@[simp] theorem incRegField_measNext (a m l : Nat) : (s.incRegField a m l).measNext = s.measNext := (rfl)
@[simp] theorem incRegField_measOverflow (a m l : Nat) : (s.incRegField a m l).measOverflow = s.measOverflow := (rfl)
@[simp] theorem incRegField_truncOffered (a m l : Nat) : (s.incRegField a m l).truncOffered = s.truncOffered := (rfl)
@[simp] theorem incRegField_slots (a m l : Nat) : (s.incRegField a m l).slots = s.slots := (rfl)
@[simp] theorem incRegField_pufSecret (a m l : Nat) : (s.incRegField a m l).pufSecret = s.pufSecret := (rfl)
@[simp] theorem incRegField_keyed (a m l : Nat) : (s.incRegField a m l).keyed = s.keyed := (rfl)
@[simp] theorem incRegField_cdk (a m l : Nat) : (s.incRegField a m l).cdk = s.cdk := (rfl)
@[simp] theorem incRegField_zeroised (a m l : Nat) : (s.incRegField a m l).zeroised = s.zeroised := (rfl)
@[simp] theorem incRegField_agate (a m l : Nat) : (s.incRegField a m l).agate = s.agate := (rfl)
@[simp] theorem incRegField_arith (a m l : Nat) : (s.incRegField a m l).arith = s.arith := (rfl)
@[simp] theorem incRegField_sources (a m l : Nat) : (s.incRegField a m l).sources = s.sources := (rfl)
@[simp] theorem incRegField_entropy (a m l : Nat) : (s.incRegField a m l).entropy = s.entropy := (rfl)
@[simp] theorem incRegField_filling (a m l : Nat) : (s.incRegField a m l).filling = s.filling := (rfl)
@[simp] theorem incRegField_lfsr (a m l : Nat) : (s.incRegField a m l).lfsr = s.lfsr := (rfl)
@[simp] theorem incRegField_drbgs (a m l : Nat) : (s.incRegField a m l).drbgs = s.drbgs := (rfl)
@[simp] theorem incRegField_tenants (a m l : Nat) : (s.incRegField a m l).tenants = s.tenants := (rfl)
@[simp] theorem incRegField_cfg (a m l : Nat) : (s.incRegField a m l).cfg = s.cfg := (rfl)
@[simp] theorem incRegField_moon (a m l : Nat) : (s.incRegField a m l).moon = s.moon := (rfl)
@[simp] theorem incRegField_fuses (a m l : Nat) : (s.incRegField a m l).fuses = s.fuses := (rfl)
@[simp] theorem incRegField_boot (a m l : Nat) : (s.incRegField a m l).boot = s.boot := (rfl)
@[simp] theorem incRegField_lcs (a m l : Nat) : (s.incRegField a m l).lcs = s.lcs := (rfl)
@[simp] theorem incRegField_tamper (a m l : Nat) : (s.incRegField a m l).tamper = s.tamper := (rfl)
@[simp] theorem incRegField_pins (a m l : Nat) : (s.incRegField a m l).pins = s.pins := (rfl)
@[simp] theorem incRegField_wards (a m l : Nat) : (s.incRegField a m l).wards = s.wards := (rfl)
@[simp] theorem incRegField_tkn (a m l : Nat) : (s.incRegField a m l).tkn = s.tkn := (rfl)
@[simp] theorem incRegField_internalDone (a m l : Nat) : (s.incRegField a m l).internalDone = s.internalDone := (rfl)
@[simp] theorem incRegField_recorder (a m l : Nat) : (s.incRegField a m l).recorder = s.recorder := (rfl)
@[simp] theorem incRegField_amber (a m l : Nat) : (s.incRegField a m l).amber = s.amber := (rfl)
@[simp] theorem incRegField_links (a m l : Nat) : (s.incRegField a m l).links = s.links := (rfl)
@[simp] theorem incRegField_fabric (a m l : Nat) : (s.incRegField a m l).fabric = s.fabric := (rfl)
@[simp] theorem incRegField_nor (a m l : Nat) : (s.incRegField a m l).nor = s.nor := (rfl)
@[simp] theorem incRegField_mem (a m l : Nat) : (s.incRegField a m l).mem = s.mem := (rfl)
@[simp] theorem incRegField_quartz (a m l : Nat) : (s.incRegField a m l).quartz = s.quartz := (rfl)
@[simp] theorem incRegField_out (a m l : Nat) : (s.incRegField a m l).out = s.out := (rfl)
@[simp] theorem incRegField_freeIdx (a m l : Nat) : (s.incRegField a m l).freeIdx = s.freeIdx := (rfl)
@[simp] theorem incRegField_pending (a m l : Nat) : (s.incRegField a m l).pending = s.pending := (rfl)

/-! ### State.tookFree -/

@[simp] theorem tookFree_clk (n : Nat) : (s.tookFree n).clk = s.clk := (rfl)
@[simp] theorem tookFree_mode (n : Nat) : (s.tookFree n).mode = s.mode := (rfl)
@[simp] theorem tookFree_portA (n : Nat) : (s.tookFree n).portA = s.portA := (rfl)
@[simp] theorem tookFree_portB (n : Nat) : (s.tookFree n).portB = s.portB := (rfl)
@[simp] theorem tookFree_jobs (n : Nat) : (s.tookFree n).jobs = s.jobs := (rfl)
@[simp] theorem tookFree_heldJobs (n : Nat) : (s.tookFree n).heldJobs = s.heldJobs := (rfl)
@[simp] theorem tookFree_qps (n : Nat) : (s.tookFree n).qps = s.qps := (rfl)
@[simp] theorem tookFree_sched (n : Nat) : (s.tookFree n).sched = s.sched := (rfl)
@[simp] theorem tookFree_manifests (n : Nat) : (s.tookFree n).manifests = s.manifests := (rfl)
@[simp] theorem tookFree_nextManifest (n : Nat) : (s.tookFree n).nextManifest = s.nextManifest := (rfl)
@[simp] theorem tookFree_sealEngines (n : Nat) : (s.tookFree n).sealEngines = s.sealEngines := (rfl)
@[simp] theorem tookFree_digests (n : Nat) : (s.tookFree n).digests = s.digests := (rfl)
@[simp] theorem tookFree_meas (n : Nat) : (s.tookFree n).meas = s.meas := (rfl)
@[simp] theorem tookFree_measLog (n : Nat) : (s.tookFree n).measLog = s.measLog := (rfl)
@[simp] theorem tookFree_measNext (n : Nat) : (s.tookFree n).measNext = s.measNext := (rfl)
@[simp] theorem tookFree_measOverflow (n : Nat) : (s.tookFree n).measOverflow = s.measOverflow := (rfl)
@[simp] theorem tookFree_truncOffered (n : Nat) : (s.tookFree n).truncOffered = s.truncOffered := (rfl)
@[simp] theorem tookFree_slots (n : Nat) : (s.tookFree n).slots = s.slots := (rfl)
@[simp] theorem tookFree_pufSecret (n : Nat) : (s.tookFree n).pufSecret = s.pufSecret := (rfl)
@[simp] theorem tookFree_keyed (n : Nat) : (s.tookFree n).keyed = s.keyed := (rfl)
@[simp] theorem tookFree_cdk (n : Nat) : (s.tookFree n).cdk = s.cdk := (rfl)
@[simp] theorem tookFree_zeroised (n : Nat) : (s.tookFree n).zeroised = s.zeroised := (rfl)
@[simp] theorem tookFree_agate (n : Nat) : (s.tookFree n).agate = s.agate := (rfl)
@[simp] theorem tookFree_arith (n : Nat) : (s.tookFree n).arith = s.arith := (rfl)
@[simp] theorem tookFree_sources (n : Nat) : (s.tookFree n).sources = s.sources := (rfl)
@[simp] theorem tookFree_entropy (n : Nat) : (s.tookFree n).entropy = s.entropy := (rfl)
@[simp] theorem tookFree_filling (n : Nat) : (s.tookFree n).filling = s.filling := (rfl)
@[simp] theorem tookFree_lfsr (n : Nat) : (s.tookFree n).lfsr = s.lfsr := (rfl)
@[simp] theorem tookFree_drbgs (n : Nat) : (s.tookFree n).drbgs = s.drbgs := (rfl)
@[simp] theorem tookFree_tenants (n : Nat) : (s.tookFree n).tenants = s.tenants := (rfl)
@[simp] theorem tookFree_cfg (n : Nat) : (s.tookFree n).cfg = s.cfg := (rfl)
@[simp] theorem tookFree_moon (n : Nat) : (s.tookFree n).moon = s.moon := (rfl)
@[simp] theorem tookFree_fuses (n : Nat) : (s.tookFree n).fuses = s.fuses := (rfl)
@[simp] theorem tookFree_boot (n : Nat) : (s.tookFree n).boot = s.boot := (rfl)
@[simp] theorem tookFree_lcs (n : Nat) : (s.tookFree n).lcs = s.lcs := (rfl)
@[simp] theorem tookFree_tamper (n : Nat) : (s.tookFree n).tamper = s.tamper := (rfl)
@[simp] theorem tookFree_pins (n : Nat) : (s.tookFree n).pins = s.pins := (rfl)
@[simp] theorem tookFree_wards (n : Nat) : (s.tookFree n).wards = s.wards := (rfl)
@[simp] theorem tookFree_tkn (n : Nat) : (s.tookFree n).tkn = s.tkn := (rfl)
@[simp] theorem tookFree_internalDone (n : Nat) : (s.tookFree n).internalDone = s.internalDone := (rfl)
@[simp] theorem tookFree_recorder (n : Nat) : (s.tookFree n).recorder = s.recorder := (rfl)
@[simp] theorem tookFree_amber (n : Nat) : (s.tookFree n).amber = s.amber := (rfl)
@[simp] theorem tookFree_links (n : Nat) : (s.tookFree n).links = s.links := (rfl)
@[simp] theorem tookFree_fabric (n : Nat) : (s.tookFree n).fabric = s.fabric := (rfl)
@[simp] theorem tookFree_nor (n : Nat) : (s.tookFree n).nor = s.nor := (rfl)
@[simp] theorem tookFree_mem (n : Nat) : (s.tookFree n).mem = s.mem := (rfl)
@[simp] theorem tookFree_quartz (n : Nat) : (s.tookFree n).quartz = s.quartz := (rfl)
@[simp] theorem tookFree_regs (n : Nat) : (s.tookFree n).regs = s.regs := (rfl)
@[simp] theorem tookFree_out (n : Nat) : (s.tookFree n).out = s.out := (rfl)
@[simp] theorem tookFree_pending (n : Nat) : (s.tookFree n).pending = s.pending := (rfl)

/-! ### State.setPort -/

@[simp] theorem setPort_clk (p : PortId) (h : HostPort) : (s.setPort p h).clk = s.clk := by cases p <;> rfl
@[simp] theorem setPort_mode (p : PortId) (h : HostPort) : (s.setPort p h).mode = s.mode := by cases p <;> rfl
@[simp] theorem setPort_jobs (p : PortId) (h : HostPort) : (s.setPort p h).jobs = s.jobs := by cases p <;> rfl
@[simp] theorem setPort_heldJobs (p : PortId) (h : HostPort) : (s.setPort p h).heldJobs = s.heldJobs := by cases p <;> rfl
@[simp] theorem setPort_qps (p : PortId) (h : HostPort) : (s.setPort p h).qps = s.qps := by cases p <;> rfl
@[simp] theorem setPort_sched (p : PortId) (h : HostPort) : (s.setPort p h).sched = s.sched := by cases p <;> rfl
@[simp] theorem setPort_manifests (p : PortId) (h : HostPort) : (s.setPort p h).manifests = s.manifests := by cases p <;> rfl
@[simp] theorem setPort_nextManifest (p : PortId) (h : HostPort) : (s.setPort p h).nextManifest = s.nextManifest := by cases p <;> rfl
@[simp] theorem setPort_sealEngines (p : PortId) (h : HostPort) : (s.setPort p h).sealEngines = s.sealEngines := by cases p <;> rfl
@[simp] theorem setPort_digests (p : PortId) (h : HostPort) : (s.setPort p h).digests = s.digests := by cases p <;> rfl
@[simp] theorem setPort_meas (p : PortId) (h : HostPort) : (s.setPort p h).meas = s.meas := by cases p <;> rfl
@[simp] theorem setPort_measLog (p : PortId) (h : HostPort) : (s.setPort p h).measLog = s.measLog := by cases p <;> rfl
@[simp] theorem setPort_measNext (p : PortId) (h : HostPort) : (s.setPort p h).measNext = s.measNext := by cases p <;> rfl
@[simp] theorem setPort_measOverflow (p : PortId) (h : HostPort) : (s.setPort p h).measOverflow = s.measOverflow := by cases p <;> rfl
@[simp] theorem setPort_truncOffered (p : PortId) (h : HostPort) : (s.setPort p h).truncOffered = s.truncOffered := by cases p <;> rfl
@[simp] theorem setPort_slots (p : PortId) (h : HostPort) : (s.setPort p h).slots = s.slots := by cases p <;> rfl
@[simp] theorem setPort_pufSecret (p : PortId) (h : HostPort) : (s.setPort p h).pufSecret = s.pufSecret := by cases p <;> rfl
@[simp] theorem setPort_keyed (p : PortId) (h : HostPort) : (s.setPort p h).keyed = s.keyed := by cases p <;> rfl
@[simp] theorem setPort_cdk (p : PortId) (h : HostPort) : (s.setPort p h).cdk = s.cdk := by cases p <;> rfl
@[simp] theorem setPort_zeroised (p : PortId) (h : HostPort) : (s.setPort p h).zeroised = s.zeroised := by cases p <;> rfl
@[simp] theorem setPort_agate (p : PortId) (h : HostPort) : (s.setPort p h).agate = s.agate := by cases p <;> rfl
@[simp] theorem setPort_arith (p : PortId) (h : HostPort) : (s.setPort p h).arith = s.arith := by cases p <;> rfl
@[simp] theorem setPort_sources (p : PortId) (h : HostPort) : (s.setPort p h).sources = s.sources := by cases p <;> rfl
@[simp] theorem setPort_entropy (p : PortId) (h : HostPort) : (s.setPort p h).entropy = s.entropy := by cases p <;> rfl
@[simp] theorem setPort_filling (p : PortId) (h : HostPort) : (s.setPort p h).filling = s.filling := by cases p <;> rfl
@[simp] theorem setPort_lfsr (p : PortId) (h : HostPort) : (s.setPort p h).lfsr = s.lfsr := by cases p <;> rfl
@[simp] theorem setPort_drbgs (p : PortId) (h : HostPort) : (s.setPort p h).drbgs = s.drbgs := by cases p <;> rfl
@[simp] theorem setPort_tenants (p : PortId) (h : HostPort) : (s.setPort p h).tenants = s.tenants := by cases p <;> rfl
@[simp] theorem setPort_cfg (p : PortId) (h : HostPort) : (s.setPort p h).cfg = s.cfg := by cases p <;> rfl
@[simp] theorem setPort_moon (p : PortId) (h : HostPort) : (s.setPort p h).moon = s.moon := by cases p <;> rfl
@[simp] theorem setPort_fuses (p : PortId) (h : HostPort) : (s.setPort p h).fuses = s.fuses := by cases p <;> rfl
@[simp] theorem setPort_boot (p : PortId) (h : HostPort) : (s.setPort p h).boot = s.boot := by cases p <;> rfl
@[simp] theorem setPort_lcs (p : PortId) (h : HostPort) : (s.setPort p h).lcs = s.lcs := by cases p <;> rfl
@[simp] theorem setPort_tamper (p : PortId) (h : HostPort) : (s.setPort p h).tamper = s.tamper := by cases p <;> rfl
@[simp] theorem setPort_pins (p : PortId) (h : HostPort) : (s.setPort p h).pins = s.pins := by cases p <;> rfl
@[simp] theorem setPort_wards (p : PortId) (h : HostPort) : (s.setPort p h).wards = s.wards := by cases p <;> rfl
@[simp] theorem setPort_tkn (p : PortId) (h : HostPort) : (s.setPort p h).tkn = s.tkn := by cases p <;> rfl
@[simp] theorem setPort_internalDone (p : PortId) (h : HostPort) : (s.setPort p h).internalDone = s.internalDone := by cases p <;> rfl
@[simp] theorem setPort_recorder (p : PortId) (h : HostPort) : (s.setPort p h).recorder = s.recorder := by cases p <;> rfl
@[simp] theorem setPort_amber (p : PortId) (h : HostPort) : (s.setPort p h).amber = s.amber := by cases p <;> rfl
@[simp] theorem setPort_links (p : PortId) (h : HostPort) : (s.setPort p h).links = s.links := by cases p <;> rfl
@[simp] theorem setPort_fabric (p : PortId) (h : HostPort) : (s.setPort p h).fabric = s.fabric := by cases p <;> rfl
@[simp] theorem setPort_nor (p : PortId) (h : HostPort) : (s.setPort p h).nor = s.nor := by cases p <;> rfl
@[simp] theorem setPort_mem (p : PortId) (h : HostPort) : (s.setPort p h).mem = s.mem := by cases p <;> rfl
@[simp] theorem setPort_quartz (p : PortId) (h : HostPort) : (s.setPort p h).quartz = s.quartz := by cases p <;> rfl
@[simp] theorem setPort_regs (p : PortId) (h : HostPort) : (s.setPort p h).regs = s.regs := by cases p <;> rfl
@[simp] theorem setPort_out (p : PortId) (h : HostPort) : (s.setPort p h).out = s.out := by cases p <;> rfl
@[simp] theorem setPort_freeIdx (p : PortId) (h : HostPort) : (s.setPort p h).freeIdx = s.freeIdx := by cases p <;> rfl
@[simp] theorem setPort_pending (p : PortId) (h : HostPort) : (s.setPort p h).pending = s.pending := by cases p <;> rfl

/-! ### State.setBind -/

@[simp] theorem setBind_clk (b : BindId) (e : BindEntry) : (s.setBind b e).clk = s.clk := setPort_clk _ _ _
@[simp] theorem setBind_mode (b : BindId) (e : BindEntry) : (s.setBind b e).mode = s.mode := setPort_mode _ _ _
@[simp] theorem setBind_jobs (b : BindId) (e : BindEntry) : (s.setBind b e).jobs = s.jobs := setPort_jobs _ _ _
@[simp] theorem setBind_heldJobs (b : BindId) (e : BindEntry) : (s.setBind b e).heldJobs = s.heldJobs := setPort_heldJobs _ _ _
@[simp] theorem setBind_qps (b : BindId) (e : BindEntry) : (s.setBind b e).qps = s.qps := setPort_qps _ _ _
@[simp] theorem setBind_sched (b : BindId) (e : BindEntry) : (s.setBind b e).sched = s.sched := setPort_sched _ _ _
@[simp] theorem setBind_manifests (b : BindId) (e : BindEntry) : (s.setBind b e).manifests = s.manifests := setPort_manifests _ _ _
@[simp] theorem setBind_nextManifest (b : BindId) (e : BindEntry) : (s.setBind b e).nextManifest = s.nextManifest := setPort_nextManifest _ _ _
@[simp] theorem setBind_sealEngines (b : BindId) (e : BindEntry) : (s.setBind b e).sealEngines = s.sealEngines := setPort_sealEngines _ _ _
@[simp] theorem setBind_digests (b : BindId) (e : BindEntry) : (s.setBind b e).digests = s.digests := setPort_digests _ _ _
@[simp] theorem setBind_meas (b : BindId) (e : BindEntry) : (s.setBind b e).meas = s.meas := setPort_meas _ _ _
@[simp] theorem setBind_measLog (b : BindId) (e : BindEntry) : (s.setBind b e).measLog = s.measLog := setPort_measLog _ _ _
@[simp] theorem setBind_measNext (b : BindId) (e : BindEntry) : (s.setBind b e).measNext = s.measNext := setPort_measNext _ _ _
@[simp] theorem setBind_measOverflow (b : BindId) (e : BindEntry) : (s.setBind b e).measOverflow = s.measOverflow := setPort_measOverflow _ _ _
@[simp] theorem setBind_truncOffered (b : BindId) (e : BindEntry) : (s.setBind b e).truncOffered = s.truncOffered := setPort_truncOffered _ _ _
@[simp] theorem setBind_slots (b : BindId) (e : BindEntry) : (s.setBind b e).slots = s.slots := setPort_slots _ _ _
@[simp] theorem setBind_pufSecret (b : BindId) (e : BindEntry) : (s.setBind b e).pufSecret = s.pufSecret := setPort_pufSecret _ _ _
@[simp] theorem setBind_keyed (b : BindId) (e : BindEntry) : (s.setBind b e).keyed = s.keyed := setPort_keyed _ _ _
@[simp] theorem setBind_cdk (b : BindId) (e : BindEntry) : (s.setBind b e).cdk = s.cdk := setPort_cdk _ _ _
@[simp] theorem setBind_zeroised (b : BindId) (e : BindEntry) : (s.setBind b e).zeroised = s.zeroised := setPort_zeroised _ _ _
@[simp] theorem setBind_agate (b : BindId) (e : BindEntry) : (s.setBind b e).agate = s.agate := setPort_agate _ _ _
@[simp] theorem setBind_arith (b : BindId) (e : BindEntry) : (s.setBind b e).arith = s.arith := setPort_arith _ _ _
@[simp] theorem setBind_sources (b : BindId) (e : BindEntry) : (s.setBind b e).sources = s.sources := setPort_sources _ _ _
@[simp] theorem setBind_entropy (b : BindId) (e : BindEntry) : (s.setBind b e).entropy = s.entropy := setPort_entropy _ _ _
@[simp] theorem setBind_filling (b : BindId) (e : BindEntry) : (s.setBind b e).filling = s.filling := setPort_filling _ _ _
@[simp] theorem setBind_lfsr (b : BindId) (e : BindEntry) : (s.setBind b e).lfsr = s.lfsr := setPort_lfsr _ _ _
@[simp] theorem setBind_drbgs (b : BindId) (e : BindEntry) : (s.setBind b e).drbgs = s.drbgs := setPort_drbgs _ _ _
@[simp] theorem setBind_tenants (b : BindId) (e : BindEntry) : (s.setBind b e).tenants = s.tenants := setPort_tenants _ _ _
@[simp] theorem setBind_cfg (b : BindId) (e : BindEntry) : (s.setBind b e).cfg = s.cfg := setPort_cfg _ _ _
@[simp] theorem setBind_moon (b : BindId) (e : BindEntry) : (s.setBind b e).moon = s.moon := setPort_moon _ _ _
@[simp] theorem setBind_fuses (b : BindId) (e : BindEntry) : (s.setBind b e).fuses = s.fuses := setPort_fuses _ _ _
@[simp] theorem setBind_boot (b : BindId) (e : BindEntry) : (s.setBind b e).boot = s.boot := setPort_boot _ _ _
@[simp] theorem setBind_lcs (b : BindId) (e : BindEntry) : (s.setBind b e).lcs = s.lcs := setPort_lcs _ _ _
@[simp] theorem setBind_tamper (b : BindId) (e : BindEntry) : (s.setBind b e).tamper = s.tamper := setPort_tamper _ _ _
@[simp] theorem setBind_pins (b : BindId) (e : BindEntry) : (s.setBind b e).pins = s.pins := setPort_pins _ _ _
@[simp] theorem setBind_wards (b : BindId) (e : BindEntry) : (s.setBind b e).wards = s.wards := setPort_wards _ _ _
@[simp] theorem setBind_tkn (b : BindId) (e : BindEntry) : (s.setBind b e).tkn = s.tkn := setPort_tkn _ _ _
@[simp] theorem setBind_internalDone (b : BindId) (e : BindEntry) : (s.setBind b e).internalDone = s.internalDone := setPort_internalDone _ _ _
@[simp] theorem setBind_recorder (b : BindId) (e : BindEntry) : (s.setBind b e).recorder = s.recorder := setPort_recorder _ _ _
@[simp] theorem setBind_amber (b : BindId) (e : BindEntry) : (s.setBind b e).amber = s.amber := setPort_amber _ _ _
@[simp] theorem setBind_links (b : BindId) (e : BindEntry) : (s.setBind b e).links = s.links := setPort_links _ _ _
@[simp] theorem setBind_fabric (b : BindId) (e : BindEntry) : (s.setBind b e).fabric = s.fabric := setPort_fabric _ _ _
@[simp] theorem setBind_nor (b : BindId) (e : BindEntry) : (s.setBind b e).nor = s.nor := setPort_nor _ _ _
@[simp] theorem setBind_mem (b : BindId) (e : BindEntry) : (s.setBind b e).mem = s.mem := setPort_mem _ _ _
@[simp] theorem setBind_quartz (b : BindId) (e : BindEntry) : (s.setBind b e).quartz = s.quartz := setPort_quartz _ _ _
@[simp] theorem setBind_regs (b : BindId) (e : BindEntry) : (s.setBind b e).regs = s.regs := setPort_regs _ _ _
@[simp] theorem setBind_out (b : BindId) (e : BindEntry) : (s.setBind b e).out = s.out := setPort_out _ _ _
@[simp] theorem setBind_freeIdx (b : BindId) (e : BindEntry) : (s.setBind b e).freeIdx = s.freeIdx := setPort_freeIdx _ _ _
@[simp] theorem setBind_pending (b : BindId) (e : BindEntry) : (s.setBind b e).pending = s.pending := setPort_pending _ _ _

/-! ### State.setMbx -/

@[simp] theorem setMbx_clk (b : BindId) (m : Mailbox) : (s.setMbx b m).clk = s.clk := setPort_clk _ _ _
@[simp] theorem setMbx_mode (b : BindId) (m : Mailbox) : (s.setMbx b m).mode = s.mode := setPort_mode _ _ _
@[simp] theorem setMbx_jobs (b : BindId) (m : Mailbox) : (s.setMbx b m).jobs = s.jobs := setPort_jobs _ _ _
@[simp] theorem setMbx_heldJobs (b : BindId) (m : Mailbox) : (s.setMbx b m).heldJobs = s.heldJobs := setPort_heldJobs _ _ _
@[simp] theorem setMbx_qps (b : BindId) (m : Mailbox) : (s.setMbx b m).qps = s.qps := setPort_qps _ _ _
@[simp] theorem setMbx_sched (b : BindId) (m : Mailbox) : (s.setMbx b m).sched = s.sched := setPort_sched _ _ _
@[simp] theorem setMbx_manifests (b : BindId) (m : Mailbox) : (s.setMbx b m).manifests = s.manifests := setPort_manifests _ _ _
@[simp] theorem setMbx_nextManifest (b : BindId) (m : Mailbox) : (s.setMbx b m).nextManifest = s.nextManifest := setPort_nextManifest _ _ _
@[simp] theorem setMbx_sealEngines (b : BindId) (m : Mailbox) : (s.setMbx b m).sealEngines = s.sealEngines := setPort_sealEngines _ _ _
@[simp] theorem setMbx_digests (b : BindId) (m : Mailbox) : (s.setMbx b m).digests = s.digests := setPort_digests _ _ _
@[simp] theorem setMbx_meas (b : BindId) (m : Mailbox) : (s.setMbx b m).meas = s.meas := setPort_meas _ _ _
@[simp] theorem setMbx_measLog (b : BindId) (m : Mailbox) : (s.setMbx b m).measLog = s.measLog := setPort_measLog _ _ _
@[simp] theorem setMbx_measNext (b : BindId) (m : Mailbox) : (s.setMbx b m).measNext = s.measNext := setPort_measNext _ _ _
@[simp] theorem setMbx_measOverflow (b : BindId) (m : Mailbox) : (s.setMbx b m).measOverflow = s.measOverflow := setPort_measOverflow _ _ _
@[simp] theorem setMbx_truncOffered (b : BindId) (m : Mailbox) : (s.setMbx b m).truncOffered = s.truncOffered := setPort_truncOffered _ _ _
@[simp] theorem setMbx_slots (b : BindId) (m : Mailbox) : (s.setMbx b m).slots = s.slots := setPort_slots _ _ _
@[simp] theorem setMbx_pufSecret (b : BindId) (m : Mailbox) : (s.setMbx b m).pufSecret = s.pufSecret := setPort_pufSecret _ _ _
@[simp] theorem setMbx_keyed (b : BindId) (m : Mailbox) : (s.setMbx b m).keyed = s.keyed := setPort_keyed _ _ _
@[simp] theorem setMbx_cdk (b : BindId) (m : Mailbox) : (s.setMbx b m).cdk = s.cdk := setPort_cdk _ _ _
@[simp] theorem setMbx_zeroised (b : BindId) (m : Mailbox) : (s.setMbx b m).zeroised = s.zeroised := setPort_zeroised _ _ _
@[simp] theorem setMbx_agate (b : BindId) (m : Mailbox) : (s.setMbx b m).agate = s.agate := setPort_agate _ _ _
@[simp] theorem setMbx_arith (b : BindId) (m : Mailbox) : (s.setMbx b m).arith = s.arith := setPort_arith _ _ _
@[simp] theorem setMbx_sources (b : BindId) (m : Mailbox) : (s.setMbx b m).sources = s.sources := setPort_sources _ _ _
@[simp] theorem setMbx_entropy (b : BindId) (m : Mailbox) : (s.setMbx b m).entropy = s.entropy := setPort_entropy _ _ _
@[simp] theorem setMbx_filling (b : BindId) (m : Mailbox) : (s.setMbx b m).filling = s.filling := setPort_filling _ _ _
@[simp] theorem setMbx_lfsr (b : BindId) (m : Mailbox) : (s.setMbx b m).lfsr = s.lfsr := setPort_lfsr _ _ _
@[simp] theorem setMbx_drbgs (b : BindId) (m : Mailbox) : (s.setMbx b m).drbgs = s.drbgs := setPort_drbgs _ _ _
@[simp] theorem setMbx_tenants (b : BindId) (m : Mailbox) : (s.setMbx b m).tenants = s.tenants := setPort_tenants _ _ _
@[simp] theorem setMbx_cfg (b : BindId) (m : Mailbox) : (s.setMbx b m).cfg = s.cfg := setPort_cfg _ _ _
@[simp] theorem setMbx_moon (b : BindId) (m : Mailbox) : (s.setMbx b m).moon = s.moon := setPort_moon _ _ _
@[simp] theorem setMbx_fuses (b : BindId) (m : Mailbox) : (s.setMbx b m).fuses = s.fuses := setPort_fuses _ _ _
@[simp] theorem setMbx_boot (b : BindId) (m : Mailbox) : (s.setMbx b m).boot = s.boot := setPort_boot _ _ _
@[simp] theorem setMbx_lcs (b : BindId) (m : Mailbox) : (s.setMbx b m).lcs = s.lcs := setPort_lcs _ _ _
@[simp] theorem setMbx_tamper (b : BindId) (m : Mailbox) : (s.setMbx b m).tamper = s.tamper := setPort_tamper _ _ _
@[simp] theorem setMbx_pins (b : BindId) (m : Mailbox) : (s.setMbx b m).pins = s.pins := setPort_pins _ _ _
@[simp] theorem setMbx_wards (b : BindId) (m : Mailbox) : (s.setMbx b m).wards = s.wards := setPort_wards _ _ _
@[simp] theorem setMbx_tkn (b : BindId) (m : Mailbox) : (s.setMbx b m).tkn = s.tkn := setPort_tkn _ _ _
@[simp] theorem setMbx_internalDone (b : BindId) (m : Mailbox) : (s.setMbx b m).internalDone = s.internalDone := setPort_internalDone _ _ _
@[simp] theorem setMbx_recorder (b : BindId) (m : Mailbox) : (s.setMbx b m).recorder = s.recorder := setPort_recorder _ _ _
@[simp] theorem setMbx_amber (b : BindId) (m : Mailbox) : (s.setMbx b m).amber = s.amber := setPort_amber _ _ _
@[simp] theorem setMbx_links (b : BindId) (m : Mailbox) : (s.setMbx b m).links = s.links := setPort_links _ _ _
@[simp] theorem setMbx_fabric (b : BindId) (m : Mailbox) : (s.setMbx b m).fabric = s.fabric := setPort_fabric _ _ _
@[simp] theorem setMbx_nor (b : BindId) (m : Mailbox) : (s.setMbx b m).nor = s.nor := setPort_nor _ _ _
@[simp] theorem setMbx_mem (b : BindId) (m : Mailbox) : (s.setMbx b m).mem = s.mem := setPort_mem _ _ _
@[simp] theorem setMbx_quartz (b : BindId) (m : Mailbox) : (s.setMbx b m).quartz = s.quartz := setPort_quartz _ _ _
@[simp] theorem setMbx_regs (b : BindId) (m : Mailbox) : (s.setMbx b m).regs = s.regs := setPort_regs _ _ _
@[simp] theorem setMbx_out (b : BindId) (m : Mailbox) : (s.setMbx b m).out = s.out := setPort_out _ _ _
@[simp] theorem setMbx_freeIdx (b : BindId) (m : Mailbox) : (s.setMbx b m).freeIdx = s.freeIdx := setPort_freeIdx _ _ _
@[simp] theorem setMbx_pending (b : BindId) (m : Mailbox) : (s.setMbx b m).pending = s.pending := setPort_pending _ _ _

/-! ### State.setFn -/

@[simp] theorem setFn_clk (p : PortId) (f : Nat) (v : FuncState) : (s.setFn p f v).clk = s.clk := setPort_clk _ _ _
@[simp] theorem setFn_mode (p : PortId) (f : Nat) (v : FuncState) : (s.setFn p f v).mode = s.mode := setPort_mode _ _ _
@[simp] theorem setFn_jobs (p : PortId) (f : Nat) (v : FuncState) : (s.setFn p f v).jobs = s.jobs := setPort_jobs _ _ _
@[simp] theorem setFn_heldJobs (p : PortId) (f : Nat) (v : FuncState) : (s.setFn p f v).heldJobs = s.heldJobs := setPort_heldJobs _ _ _
@[simp] theorem setFn_qps (p : PortId) (f : Nat) (v : FuncState) : (s.setFn p f v).qps = s.qps := setPort_qps _ _ _
@[simp] theorem setFn_sched (p : PortId) (f : Nat) (v : FuncState) : (s.setFn p f v).sched = s.sched := setPort_sched _ _ _
@[simp] theorem setFn_manifests (p : PortId) (f : Nat) (v : FuncState) : (s.setFn p f v).manifests = s.manifests := setPort_manifests _ _ _
@[simp] theorem setFn_nextManifest (p : PortId) (f : Nat) (v : FuncState) : (s.setFn p f v).nextManifest = s.nextManifest := setPort_nextManifest _ _ _
@[simp] theorem setFn_sealEngines (p : PortId) (f : Nat) (v : FuncState) : (s.setFn p f v).sealEngines = s.sealEngines := setPort_sealEngines _ _ _
@[simp] theorem setFn_digests (p : PortId) (f : Nat) (v : FuncState) : (s.setFn p f v).digests = s.digests := setPort_digests _ _ _
@[simp] theorem setFn_meas (p : PortId) (f : Nat) (v : FuncState) : (s.setFn p f v).meas = s.meas := setPort_meas _ _ _
@[simp] theorem setFn_measLog (p : PortId) (f : Nat) (v : FuncState) : (s.setFn p f v).measLog = s.measLog := setPort_measLog _ _ _
@[simp] theorem setFn_measNext (p : PortId) (f : Nat) (v : FuncState) : (s.setFn p f v).measNext = s.measNext := setPort_measNext _ _ _
@[simp] theorem setFn_measOverflow (p : PortId) (f : Nat) (v : FuncState) : (s.setFn p f v).measOverflow = s.measOverflow := setPort_measOverflow _ _ _
@[simp] theorem setFn_truncOffered (p : PortId) (f : Nat) (v : FuncState) : (s.setFn p f v).truncOffered = s.truncOffered := setPort_truncOffered _ _ _
@[simp] theorem setFn_slots (p : PortId) (f : Nat) (v : FuncState) : (s.setFn p f v).slots = s.slots := setPort_slots _ _ _
@[simp] theorem setFn_pufSecret (p : PortId) (f : Nat) (v : FuncState) : (s.setFn p f v).pufSecret = s.pufSecret := setPort_pufSecret _ _ _
@[simp] theorem setFn_keyed (p : PortId) (f : Nat) (v : FuncState) : (s.setFn p f v).keyed = s.keyed := setPort_keyed _ _ _
@[simp] theorem setFn_cdk (p : PortId) (f : Nat) (v : FuncState) : (s.setFn p f v).cdk = s.cdk := setPort_cdk _ _ _
@[simp] theorem setFn_zeroised (p : PortId) (f : Nat) (v : FuncState) : (s.setFn p f v).zeroised = s.zeroised := setPort_zeroised _ _ _
@[simp] theorem setFn_agate (p : PortId) (f : Nat) (v : FuncState) : (s.setFn p f v).agate = s.agate := setPort_agate _ _ _
@[simp] theorem setFn_arith (p : PortId) (f : Nat) (v : FuncState) : (s.setFn p f v).arith = s.arith := setPort_arith _ _ _
@[simp] theorem setFn_sources (p : PortId) (f : Nat) (v : FuncState) : (s.setFn p f v).sources = s.sources := setPort_sources _ _ _
@[simp] theorem setFn_entropy (p : PortId) (f : Nat) (v : FuncState) : (s.setFn p f v).entropy = s.entropy := setPort_entropy _ _ _
@[simp] theorem setFn_filling (p : PortId) (f : Nat) (v : FuncState) : (s.setFn p f v).filling = s.filling := setPort_filling _ _ _
@[simp] theorem setFn_lfsr (p : PortId) (f : Nat) (v : FuncState) : (s.setFn p f v).lfsr = s.lfsr := setPort_lfsr _ _ _
@[simp] theorem setFn_drbgs (p : PortId) (f : Nat) (v : FuncState) : (s.setFn p f v).drbgs = s.drbgs := setPort_drbgs _ _ _
@[simp] theorem setFn_tenants (p : PortId) (f : Nat) (v : FuncState) : (s.setFn p f v).tenants = s.tenants := setPort_tenants _ _ _
@[simp] theorem setFn_cfg (p : PortId) (f : Nat) (v : FuncState) : (s.setFn p f v).cfg = s.cfg := setPort_cfg _ _ _
@[simp] theorem setFn_moon (p : PortId) (f : Nat) (v : FuncState) : (s.setFn p f v).moon = s.moon := setPort_moon _ _ _
@[simp] theorem setFn_fuses (p : PortId) (f : Nat) (v : FuncState) : (s.setFn p f v).fuses = s.fuses := setPort_fuses _ _ _
@[simp] theorem setFn_boot (p : PortId) (f : Nat) (v : FuncState) : (s.setFn p f v).boot = s.boot := setPort_boot _ _ _
@[simp] theorem setFn_lcs (p : PortId) (f : Nat) (v : FuncState) : (s.setFn p f v).lcs = s.lcs := setPort_lcs _ _ _
@[simp] theorem setFn_tamper (p : PortId) (f : Nat) (v : FuncState) : (s.setFn p f v).tamper = s.tamper := setPort_tamper _ _ _
@[simp] theorem setFn_pins (p : PortId) (f : Nat) (v : FuncState) : (s.setFn p f v).pins = s.pins := setPort_pins _ _ _
@[simp] theorem setFn_wards (p : PortId) (f : Nat) (v : FuncState) : (s.setFn p f v).wards = s.wards := setPort_wards _ _ _
@[simp] theorem setFn_tkn (p : PortId) (f : Nat) (v : FuncState) : (s.setFn p f v).tkn = s.tkn := setPort_tkn _ _ _
@[simp] theorem setFn_internalDone (p : PortId) (f : Nat) (v : FuncState) : (s.setFn p f v).internalDone = s.internalDone := setPort_internalDone _ _ _
@[simp] theorem setFn_recorder (p : PortId) (f : Nat) (v : FuncState) : (s.setFn p f v).recorder = s.recorder := setPort_recorder _ _ _
@[simp] theorem setFn_amber (p : PortId) (f : Nat) (v : FuncState) : (s.setFn p f v).amber = s.amber := setPort_amber _ _ _
@[simp] theorem setFn_links (p : PortId) (f : Nat) (v : FuncState) : (s.setFn p f v).links = s.links := setPort_links _ _ _
@[simp] theorem setFn_fabric (p : PortId) (f : Nat) (v : FuncState) : (s.setFn p f v).fabric = s.fabric := setPort_fabric _ _ _
@[simp] theorem setFn_nor (p : PortId) (f : Nat) (v : FuncState) : (s.setFn p f v).nor = s.nor := setPort_nor _ _ _
@[simp] theorem setFn_mem (p : PortId) (f : Nat) (v : FuncState) : (s.setFn p f v).mem = s.mem := setPort_mem _ _ _
@[simp] theorem setFn_quartz (p : PortId) (f : Nat) (v : FuncState) : (s.setFn p f v).quartz = s.quartz := setPort_quartz _ _ _
@[simp] theorem setFn_regs (p : PortId) (f : Nat) (v : FuncState) : (s.setFn p f v).regs = s.regs := setPort_regs _ _ _
@[simp] theorem setFn_out (p : PortId) (f : Nat) (v : FuncState) : (s.setFn p f v).out = s.out := setPort_out _ _ _
@[simp] theorem setFn_freeIdx (p : PortId) (f : Nat) (v : FuncState) : (s.setFn p f v).freeIdx = s.freeIdx := setPort_freeIdx _ _ _
@[simp] theorem setFn_pending (p : PortId) (f : Nat) (v : FuncState) : (s.setFn p f v).pending = s.pending := setPort_pending _ _ _

/-! ### State.setQp -/

@[simp] theorem setQp_clk (n : Nat) (q : QueuePair) : (s.setQp n q).clk = s.clk := (rfl)
@[simp] theorem setQp_mode (n : Nat) (q : QueuePair) : (s.setQp n q).mode = s.mode := (rfl)
@[simp] theorem setQp_portA (n : Nat) (q : QueuePair) : (s.setQp n q).portA = s.portA := (rfl)
@[simp] theorem setQp_portB (n : Nat) (q : QueuePair) : (s.setQp n q).portB = s.portB := (rfl)
@[simp] theorem setQp_jobs (n : Nat) (q : QueuePair) : (s.setQp n q).jobs = s.jobs := (rfl)
@[simp] theorem setQp_heldJobs (n : Nat) (q : QueuePair) : (s.setQp n q).heldJobs = s.heldJobs := (rfl)
@[simp] theorem setQp_sched (n : Nat) (q : QueuePair) : (s.setQp n q).sched = s.sched := (rfl)
@[simp] theorem setQp_manifests (n : Nat) (q : QueuePair) : (s.setQp n q).manifests = s.manifests := (rfl)
@[simp] theorem setQp_nextManifest (n : Nat) (q : QueuePair) : (s.setQp n q).nextManifest = s.nextManifest := (rfl)
@[simp] theorem setQp_sealEngines (n : Nat) (q : QueuePair) : (s.setQp n q).sealEngines = s.sealEngines := (rfl)
@[simp] theorem setQp_digests (n : Nat) (q : QueuePair) : (s.setQp n q).digests = s.digests := (rfl)
@[simp] theorem setQp_meas (n : Nat) (q : QueuePair) : (s.setQp n q).meas = s.meas := (rfl)
@[simp] theorem setQp_measLog (n : Nat) (q : QueuePair) : (s.setQp n q).measLog = s.measLog := (rfl)
@[simp] theorem setQp_measNext (n : Nat) (q : QueuePair) : (s.setQp n q).measNext = s.measNext := (rfl)
@[simp] theorem setQp_measOverflow (n : Nat) (q : QueuePair) : (s.setQp n q).measOverflow = s.measOverflow := (rfl)
@[simp] theorem setQp_truncOffered (n : Nat) (q : QueuePair) : (s.setQp n q).truncOffered = s.truncOffered := (rfl)
@[simp] theorem setQp_slots (n : Nat) (q : QueuePair) : (s.setQp n q).slots = s.slots := (rfl)
@[simp] theorem setQp_pufSecret (n : Nat) (q : QueuePair) : (s.setQp n q).pufSecret = s.pufSecret := (rfl)
@[simp] theorem setQp_keyed (n : Nat) (q : QueuePair) : (s.setQp n q).keyed = s.keyed := (rfl)
@[simp] theorem setQp_cdk (n : Nat) (q : QueuePair) : (s.setQp n q).cdk = s.cdk := (rfl)
@[simp] theorem setQp_zeroised (n : Nat) (q : QueuePair) : (s.setQp n q).zeroised = s.zeroised := (rfl)
@[simp] theorem setQp_agate (n : Nat) (q : QueuePair) : (s.setQp n q).agate = s.agate := (rfl)
@[simp] theorem setQp_arith (n : Nat) (q : QueuePair) : (s.setQp n q).arith = s.arith := (rfl)
@[simp] theorem setQp_sources (n : Nat) (q : QueuePair) : (s.setQp n q).sources = s.sources := (rfl)
@[simp] theorem setQp_entropy (n : Nat) (q : QueuePair) : (s.setQp n q).entropy = s.entropy := (rfl)
@[simp] theorem setQp_filling (n : Nat) (q : QueuePair) : (s.setQp n q).filling = s.filling := (rfl)
@[simp] theorem setQp_lfsr (n : Nat) (q : QueuePair) : (s.setQp n q).lfsr = s.lfsr := (rfl)
@[simp] theorem setQp_drbgs (n : Nat) (q : QueuePair) : (s.setQp n q).drbgs = s.drbgs := (rfl)
@[simp] theorem setQp_tenants (n : Nat) (q : QueuePair) : (s.setQp n q).tenants = s.tenants := (rfl)
@[simp] theorem setQp_cfg (n : Nat) (q : QueuePair) : (s.setQp n q).cfg = s.cfg := (rfl)
@[simp] theorem setQp_moon (n : Nat) (q : QueuePair) : (s.setQp n q).moon = s.moon := (rfl)
@[simp] theorem setQp_fuses (n : Nat) (q : QueuePair) : (s.setQp n q).fuses = s.fuses := (rfl)
@[simp] theorem setQp_boot (n : Nat) (q : QueuePair) : (s.setQp n q).boot = s.boot := (rfl)
@[simp] theorem setQp_lcs (n : Nat) (q : QueuePair) : (s.setQp n q).lcs = s.lcs := (rfl)
@[simp] theorem setQp_tamper (n : Nat) (q : QueuePair) : (s.setQp n q).tamper = s.tamper := (rfl)
@[simp] theorem setQp_pins (n : Nat) (q : QueuePair) : (s.setQp n q).pins = s.pins := (rfl)
@[simp] theorem setQp_wards (n : Nat) (q : QueuePair) : (s.setQp n q).wards = s.wards := (rfl)
@[simp] theorem setQp_tkn (n : Nat) (q : QueuePair) : (s.setQp n q).tkn = s.tkn := (rfl)
@[simp] theorem setQp_internalDone (n : Nat) (q : QueuePair) : (s.setQp n q).internalDone = s.internalDone := (rfl)
@[simp] theorem setQp_recorder (n : Nat) (q : QueuePair) : (s.setQp n q).recorder = s.recorder := (rfl)
@[simp] theorem setQp_amber (n : Nat) (q : QueuePair) : (s.setQp n q).amber = s.amber := (rfl)
@[simp] theorem setQp_links (n : Nat) (q : QueuePair) : (s.setQp n q).links = s.links := (rfl)
@[simp] theorem setQp_fabric (n : Nat) (q : QueuePair) : (s.setQp n q).fabric = s.fabric := (rfl)
@[simp] theorem setQp_nor (n : Nat) (q : QueuePair) : (s.setQp n q).nor = s.nor := (rfl)
@[simp] theorem setQp_mem (n : Nat) (q : QueuePair) : (s.setQp n q).mem = s.mem := (rfl)
@[simp] theorem setQp_quartz (n : Nat) (q : QueuePair) : (s.setQp n q).quartz = s.quartz := (rfl)
@[simp] theorem setQp_regs (n : Nat) (q : QueuePair) : (s.setQp n q).regs = s.regs := (rfl)
@[simp] theorem setQp_out (n : Nat) (q : QueuePair) : (s.setQp n q).out = s.out := (rfl)
@[simp] theorem setQp_freeIdx (n : Nat) (q : QueuePair) : (s.setQp n q).freeIdx = s.freeIdx := (rfl)
@[simp] theorem setQp_pending (n : Nat) (q : QueuePair) : (s.setQp n q).pending = s.pending := (rfl)

/-! ### State.setTen -/

@[simp] theorem setTen_clk (n : Nat) (c : Tenant) : (s.setTen n c).clk = s.clk := (rfl)
@[simp] theorem setTen_mode (n : Nat) (c : Tenant) : (s.setTen n c).mode = s.mode := (rfl)
@[simp] theorem setTen_portA (n : Nat) (c : Tenant) : (s.setTen n c).portA = s.portA := (rfl)
@[simp] theorem setTen_portB (n : Nat) (c : Tenant) : (s.setTen n c).portB = s.portB := (rfl)
@[simp] theorem setTen_jobs (n : Nat) (c : Tenant) : (s.setTen n c).jobs = s.jobs := (rfl)
@[simp] theorem setTen_heldJobs (n : Nat) (c : Tenant) : (s.setTen n c).heldJobs = s.heldJobs := (rfl)
@[simp] theorem setTen_qps (n : Nat) (c : Tenant) : (s.setTen n c).qps = s.qps := (rfl)
@[simp] theorem setTen_sched (n : Nat) (c : Tenant) : (s.setTen n c).sched = s.sched := (rfl)
@[simp] theorem setTen_manifests (n : Nat) (c : Tenant) : (s.setTen n c).manifests = s.manifests := (rfl)
@[simp] theorem setTen_nextManifest (n : Nat) (c : Tenant) : (s.setTen n c).nextManifest = s.nextManifest := (rfl)
@[simp] theorem setTen_sealEngines (n : Nat) (c : Tenant) : (s.setTen n c).sealEngines = s.sealEngines := (rfl)
@[simp] theorem setTen_digests (n : Nat) (c : Tenant) : (s.setTen n c).digests = s.digests := (rfl)
@[simp] theorem setTen_meas (n : Nat) (c : Tenant) : (s.setTen n c).meas = s.meas := (rfl)
@[simp] theorem setTen_measLog (n : Nat) (c : Tenant) : (s.setTen n c).measLog = s.measLog := (rfl)
@[simp] theorem setTen_measNext (n : Nat) (c : Tenant) : (s.setTen n c).measNext = s.measNext := (rfl)
@[simp] theorem setTen_measOverflow (n : Nat) (c : Tenant) : (s.setTen n c).measOverflow = s.measOverflow := (rfl)
@[simp] theorem setTen_truncOffered (n : Nat) (c : Tenant) : (s.setTen n c).truncOffered = s.truncOffered := (rfl)
@[simp] theorem setTen_slots (n : Nat) (c : Tenant) : (s.setTen n c).slots = s.slots := (rfl)
@[simp] theorem setTen_pufSecret (n : Nat) (c : Tenant) : (s.setTen n c).pufSecret = s.pufSecret := (rfl)
@[simp] theorem setTen_keyed (n : Nat) (c : Tenant) : (s.setTen n c).keyed = s.keyed := (rfl)
@[simp] theorem setTen_cdk (n : Nat) (c : Tenant) : (s.setTen n c).cdk = s.cdk := (rfl)
@[simp] theorem setTen_zeroised (n : Nat) (c : Tenant) : (s.setTen n c).zeroised = s.zeroised := (rfl)
@[simp] theorem setTen_agate (n : Nat) (c : Tenant) : (s.setTen n c).agate = s.agate := (rfl)
@[simp] theorem setTen_arith (n : Nat) (c : Tenant) : (s.setTen n c).arith = s.arith := (rfl)
@[simp] theorem setTen_sources (n : Nat) (c : Tenant) : (s.setTen n c).sources = s.sources := (rfl)
@[simp] theorem setTen_entropy (n : Nat) (c : Tenant) : (s.setTen n c).entropy = s.entropy := (rfl)
@[simp] theorem setTen_filling (n : Nat) (c : Tenant) : (s.setTen n c).filling = s.filling := (rfl)
@[simp] theorem setTen_lfsr (n : Nat) (c : Tenant) : (s.setTen n c).lfsr = s.lfsr := (rfl)
@[simp] theorem setTen_drbgs (n : Nat) (c : Tenant) : (s.setTen n c).drbgs = s.drbgs := (rfl)
@[simp] theorem setTen_cfg (n : Nat) (c : Tenant) : (s.setTen n c).cfg = s.cfg := (rfl)
@[simp] theorem setTen_moon (n : Nat) (c : Tenant) : (s.setTen n c).moon = s.moon := (rfl)
@[simp] theorem setTen_fuses (n : Nat) (c : Tenant) : (s.setTen n c).fuses = s.fuses := (rfl)
@[simp] theorem setTen_boot (n : Nat) (c : Tenant) : (s.setTen n c).boot = s.boot := (rfl)
@[simp] theorem setTen_lcs (n : Nat) (c : Tenant) : (s.setTen n c).lcs = s.lcs := (rfl)
@[simp] theorem setTen_tamper (n : Nat) (c : Tenant) : (s.setTen n c).tamper = s.tamper := (rfl)
@[simp] theorem setTen_pins (n : Nat) (c : Tenant) : (s.setTen n c).pins = s.pins := (rfl)
@[simp] theorem setTen_wards (n : Nat) (c : Tenant) : (s.setTen n c).wards = s.wards := (rfl)
@[simp] theorem setTen_tkn (n : Nat) (c : Tenant) : (s.setTen n c).tkn = s.tkn := (rfl)
@[simp] theorem setTen_internalDone (n : Nat) (c : Tenant) : (s.setTen n c).internalDone = s.internalDone := (rfl)
@[simp] theorem setTen_recorder (n : Nat) (c : Tenant) : (s.setTen n c).recorder = s.recorder := (rfl)
@[simp] theorem setTen_amber (n : Nat) (c : Tenant) : (s.setTen n c).amber = s.amber := (rfl)
@[simp] theorem setTen_links (n : Nat) (c : Tenant) : (s.setTen n c).links = s.links := (rfl)
@[simp] theorem setTen_fabric (n : Nat) (c : Tenant) : (s.setTen n c).fabric = s.fabric := (rfl)
@[simp] theorem setTen_nor (n : Nat) (c : Tenant) : (s.setTen n c).nor = s.nor := (rfl)
@[simp] theorem setTen_mem (n : Nat) (c : Tenant) : (s.setTen n c).mem = s.mem := (rfl)
@[simp] theorem setTen_quartz (n : Nat) (c : Tenant) : (s.setTen n c).quartz = s.quartz := (rfl)
@[simp] theorem setTen_regs (n : Nat) (c : Tenant) : (s.setTen n c).regs = s.regs := (rfl)
@[simp] theorem setTen_out (n : Nat) (c : Tenant) : (s.setTen n c).out = s.out := (rfl)
@[simp] theorem setTen_freeIdx (n : Nat) (c : Tenant) : (s.setTen n c).freeIdx = s.freeIdx := (rfl)
@[simp] theorem setTen_pending (n : Nat) (c : Tenant) : (s.setTen n c).pending = s.pending := (rfl)

/-! ### State.setSlot -/

@[simp] theorem setSlot_clk (n : Nat) (v : Slot) : (s.setSlot n v).clk = s.clk := (rfl)
@[simp] theorem setSlot_mode (n : Nat) (v : Slot) : (s.setSlot n v).mode = s.mode := (rfl)
@[simp] theorem setSlot_portA (n : Nat) (v : Slot) : (s.setSlot n v).portA = s.portA := (rfl)
@[simp] theorem setSlot_portB (n : Nat) (v : Slot) : (s.setSlot n v).portB = s.portB := (rfl)
@[simp] theorem setSlot_jobs (n : Nat) (v : Slot) : (s.setSlot n v).jobs = s.jobs := (rfl)
@[simp] theorem setSlot_heldJobs (n : Nat) (v : Slot) : (s.setSlot n v).heldJobs = s.heldJobs := (rfl)
@[simp] theorem setSlot_qps (n : Nat) (v : Slot) : (s.setSlot n v).qps = s.qps := (rfl)
@[simp] theorem setSlot_sched (n : Nat) (v : Slot) : (s.setSlot n v).sched = s.sched := (rfl)
@[simp] theorem setSlot_manifests (n : Nat) (v : Slot) : (s.setSlot n v).manifests = s.manifests := (rfl)
@[simp] theorem setSlot_nextManifest (n : Nat) (v : Slot) : (s.setSlot n v).nextManifest = s.nextManifest := (rfl)
@[simp] theorem setSlot_sealEngines (n : Nat) (v : Slot) : (s.setSlot n v).sealEngines = s.sealEngines := (rfl)
@[simp] theorem setSlot_digests (n : Nat) (v : Slot) : (s.setSlot n v).digests = s.digests := (rfl)
@[simp] theorem setSlot_meas (n : Nat) (v : Slot) : (s.setSlot n v).meas = s.meas := (rfl)
@[simp] theorem setSlot_measLog (n : Nat) (v : Slot) : (s.setSlot n v).measLog = s.measLog := (rfl)
@[simp] theorem setSlot_measNext (n : Nat) (v : Slot) : (s.setSlot n v).measNext = s.measNext := (rfl)
@[simp] theorem setSlot_measOverflow (n : Nat) (v : Slot) : (s.setSlot n v).measOverflow = s.measOverflow := (rfl)
@[simp] theorem setSlot_truncOffered (n : Nat) (v : Slot) : (s.setSlot n v).truncOffered = s.truncOffered := (rfl)
@[simp] theorem setSlot_pufSecret (n : Nat) (v : Slot) : (s.setSlot n v).pufSecret = s.pufSecret := (rfl)
@[simp] theorem setSlot_keyed (n : Nat) (v : Slot) : (s.setSlot n v).keyed = s.keyed := (rfl)
@[simp] theorem setSlot_cdk (n : Nat) (v : Slot) : (s.setSlot n v).cdk = s.cdk := (rfl)
@[simp] theorem setSlot_zeroised (n : Nat) (v : Slot) : (s.setSlot n v).zeroised = s.zeroised := (rfl)
@[simp] theorem setSlot_agate (n : Nat) (v : Slot) : (s.setSlot n v).agate = s.agate := (rfl)
@[simp] theorem setSlot_arith (n : Nat) (v : Slot) : (s.setSlot n v).arith = s.arith := (rfl)
@[simp] theorem setSlot_sources (n : Nat) (v : Slot) : (s.setSlot n v).sources = s.sources := (rfl)
@[simp] theorem setSlot_entropy (n : Nat) (v : Slot) : (s.setSlot n v).entropy = s.entropy := (rfl)
@[simp] theorem setSlot_filling (n : Nat) (v : Slot) : (s.setSlot n v).filling = s.filling := (rfl)
@[simp] theorem setSlot_lfsr (n : Nat) (v : Slot) : (s.setSlot n v).lfsr = s.lfsr := (rfl)
@[simp] theorem setSlot_drbgs (n : Nat) (v : Slot) : (s.setSlot n v).drbgs = s.drbgs := (rfl)
@[simp] theorem setSlot_tenants (n : Nat) (v : Slot) : (s.setSlot n v).tenants = s.tenants := (rfl)
@[simp] theorem setSlot_cfg (n : Nat) (v : Slot) : (s.setSlot n v).cfg = s.cfg := (rfl)
@[simp] theorem setSlot_moon (n : Nat) (v : Slot) : (s.setSlot n v).moon = s.moon := (rfl)
@[simp] theorem setSlot_fuses (n : Nat) (v : Slot) : (s.setSlot n v).fuses = s.fuses := (rfl)
@[simp] theorem setSlot_boot (n : Nat) (v : Slot) : (s.setSlot n v).boot = s.boot := (rfl)
@[simp] theorem setSlot_lcs (n : Nat) (v : Slot) : (s.setSlot n v).lcs = s.lcs := (rfl)
@[simp] theorem setSlot_tamper (n : Nat) (v : Slot) : (s.setSlot n v).tamper = s.tamper := (rfl)
@[simp] theorem setSlot_pins (n : Nat) (v : Slot) : (s.setSlot n v).pins = s.pins := (rfl)
@[simp] theorem setSlot_wards (n : Nat) (v : Slot) : (s.setSlot n v).wards = s.wards := (rfl)
@[simp] theorem setSlot_tkn (n : Nat) (v : Slot) : (s.setSlot n v).tkn = s.tkn := (rfl)
@[simp] theorem setSlot_internalDone (n : Nat) (v : Slot) : (s.setSlot n v).internalDone = s.internalDone := (rfl)
@[simp] theorem setSlot_recorder (n : Nat) (v : Slot) : (s.setSlot n v).recorder = s.recorder := (rfl)
@[simp] theorem setSlot_amber (n : Nat) (v : Slot) : (s.setSlot n v).amber = s.amber := (rfl)
@[simp] theorem setSlot_links (n : Nat) (v : Slot) : (s.setSlot n v).links = s.links := (rfl)
@[simp] theorem setSlot_fabric (n : Nat) (v : Slot) : (s.setSlot n v).fabric = s.fabric := (rfl)
@[simp] theorem setSlot_nor (n : Nat) (v : Slot) : (s.setSlot n v).nor = s.nor := (rfl)
@[simp] theorem setSlot_mem (n : Nat) (v : Slot) : (s.setSlot n v).mem = s.mem := (rfl)
@[simp] theorem setSlot_quartz (n : Nat) (v : Slot) : (s.setSlot n v).quartz = s.quartz := (rfl)
@[simp] theorem setSlot_regs (n : Nat) (v : Slot) : (s.setSlot n v).regs = s.regs := (rfl)
@[simp] theorem setSlot_out (n : Nat) (v : Slot) : (s.setSlot n v).out = s.out := (rfl)
@[simp] theorem setSlot_freeIdx (n : Nat) (v : Slot) : (s.setSlot n v).freeIdx = s.freeIdx := (rfl)
@[simp] theorem setSlot_pending (n : Nat) (v : Slot) : (s.setSlot n v).pending = s.pending := (rfl)

/-! ### State.setTree -/

@[simp] theorem setTree_clk (n : Nat) (k : Tree) : (s.setTree n k).clk = s.clk := (rfl)
@[simp] theorem setTree_mode (n : Nat) (k : Tree) : (s.setTree n k).mode = s.mode := (rfl)
@[simp] theorem setTree_portA (n : Nat) (k : Tree) : (s.setTree n k).portA = s.portA := (rfl)
@[simp] theorem setTree_portB (n : Nat) (k : Tree) : (s.setTree n k).portB = s.portB := (rfl)
@[simp] theorem setTree_jobs (n : Nat) (k : Tree) : (s.setTree n k).jobs = s.jobs := (rfl)
@[simp] theorem setTree_heldJobs (n : Nat) (k : Tree) : (s.setTree n k).heldJobs = s.heldJobs := (rfl)
@[simp] theorem setTree_qps (n : Nat) (k : Tree) : (s.setTree n k).qps = s.qps := (rfl)
@[simp] theorem setTree_sched (n : Nat) (k : Tree) : (s.setTree n k).sched = s.sched := (rfl)
@[simp] theorem setTree_manifests (n : Nat) (k : Tree) : (s.setTree n k).manifests = s.manifests := (rfl)
@[simp] theorem setTree_nextManifest (n : Nat) (k : Tree) : (s.setTree n k).nextManifest = s.nextManifest := (rfl)
@[simp] theorem setTree_sealEngines (n : Nat) (k : Tree) : (s.setTree n k).sealEngines = s.sealEngines := (rfl)
@[simp] theorem setTree_digests (n : Nat) (k : Tree) : (s.setTree n k).digests = s.digests := (rfl)
@[simp] theorem setTree_meas (n : Nat) (k : Tree) : (s.setTree n k).meas = s.meas := (rfl)
@[simp] theorem setTree_measLog (n : Nat) (k : Tree) : (s.setTree n k).measLog = s.measLog := (rfl)
@[simp] theorem setTree_measNext (n : Nat) (k : Tree) : (s.setTree n k).measNext = s.measNext := (rfl)
@[simp] theorem setTree_measOverflow (n : Nat) (k : Tree) : (s.setTree n k).measOverflow = s.measOverflow := (rfl)
@[simp] theorem setTree_truncOffered (n : Nat) (k : Tree) : (s.setTree n k).truncOffered = s.truncOffered := (rfl)
@[simp] theorem setTree_slots (n : Nat) (k : Tree) : (s.setTree n k).slots = s.slots := (rfl)
@[simp] theorem setTree_pufSecret (n : Nat) (k : Tree) : (s.setTree n k).pufSecret = s.pufSecret := (rfl)
@[simp] theorem setTree_keyed (n : Nat) (k : Tree) : (s.setTree n k).keyed = s.keyed := (rfl)
@[simp] theorem setTree_cdk (n : Nat) (k : Tree) : (s.setTree n k).cdk = s.cdk := (rfl)
@[simp] theorem setTree_zeroised (n : Nat) (k : Tree) : (s.setTree n k).zeroised = s.zeroised := (rfl)
@[simp] theorem setTree_arith (n : Nat) (k : Tree) : (s.setTree n k).arith = s.arith := (rfl)
@[simp] theorem setTree_sources (n : Nat) (k : Tree) : (s.setTree n k).sources = s.sources := (rfl)
@[simp] theorem setTree_entropy (n : Nat) (k : Tree) : (s.setTree n k).entropy = s.entropy := (rfl)
@[simp] theorem setTree_filling (n : Nat) (k : Tree) : (s.setTree n k).filling = s.filling := (rfl)
@[simp] theorem setTree_lfsr (n : Nat) (k : Tree) : (s.setTree n k).lfsr = s.lfsr := (rfl)
@[simp] theorem setTree_drbgs (n : Nat) (k : Tree) : (s.setTree n k).drbgs = s.drbgs := (rfl)
@[simp] theorem setTree_tenants (n : Nat) (k : Tree) : (s.setTree n k).tenants = s.tenants := (rfl)
@[simp] theorem setTree_cfg (n : Nat) (k : Tree) : (s.setTree n k).cfg = s.cfg := (rfl)
@[simp] theorem setTree_moon (n : Nat) (k : Tree) : (s.setTree n k).moon = s.moon := (rfl)
@[simp] theorem setTree_fuses (n : Nat) (k : Tree) : (s.setTree n k).fuses = s.fuses := (rfl)
@[simp] theorem setTree_boot (n : Nat) (k : Tree) : (s.setTree n k).boot = s.boot := (rfl)
@[simp] theorem setTree_lcs (n : Nat) (k : Tree) : (s.setTree n k).lcs = s.lcs := (rfl)
@[simp] theorem setTree_tamper (n : Nat) (k : Tree) : (s.setTree n k).tamper = s.tamper := (rfl)
@[simp] theorem setTree_pins (n : Nat) (k : Tree) : (s.setTree n k).pins = s.pins := (rfl)
@[simp] theorem setTree_wards (n : Nat) (k : Tree) : (s.setTree n k).wards = s.wards := (rfl)
@[simp] theorem setTree_tkn (n : Nat) (k : Tree) : (s.setTree n k).tkn = s.tkn := (rfl)
@[simp] theorem setTree_internalDone (n : Nat) (k : Tree) : (s.setTree n k).internalDone = s.internalDone := (rfl)
@[simp] theorem setTree_recorder (n : Nat) (k : Tree) : (s.setTree n k).recorder = s.recorder := (rfl)
@[simp] theorem setTree_amber (n : Nat) (k : Tree) : (s.setTree n k).amber = s.amber := (rfl)
@[simp] theorem setTree_links (n : Nat) (k : Tree) : (s.setTree n k).links = s.links := (rfl)
@[simp] theorem setTree_fabric (n : Nat) (k : Tree) : (s.setTree n k).fabric = s.fabric := (rfl)
@[simp] theorem setTree_nor (n : Nat) (k : Tree) : (s.setTree n k).nor = s.nor := (rfl)
@[simp] theorem setTree_mem (n : Nat) (k : Tree) : (s.setTree n k).mem = s.mem := (rfl)
@[simp] theorem setTree_quartz (n : Nat) (k : Tree) : (s.setTree n k).quartz = s.quartz := (rfl)
@[simp] theorem setTree_regs (n : Nat) (k : Tree) : (s.setTree n k).regs = s.regs := (rfl)
@[simp] theorem setTree_out (n : Nat) (k : Tree) : (s.setTree n k).out = s.out := (rfl)
@[simp] theorem setTree_freeIdx (n : Nat) (k : Tree) : (s.setTree n k).freeIdx = s.freeIdx := (rfl)
@[simp] theorem setTree_pending (n : Nat) (k : Tree) : (s.setTree n k).pending = s.pending := (rfl)

/-! ### State.setSeng -/

@[simp] theorem setSeng_clk (n : Nat) (e : SealEngine) : (s.setSeng n e).clk = s.clk := (rfl)
@[simp] theorem setSeng_mode (n : Nat) (e : SealEngine) : (s.setSeng n e).mode = s.mode := (rfl)
@[simp] theorem setSeng_portA (n : Nat) (e : SealEngine) : (s.setSeng n e).portA = s.portA := (rfl)
@[simp] theorem setSeng_portB (n : Nat) (e : SealEngine) : (s.setSeng n e).portB = s.portB := (rfl)
@[simp] theorem setSeng_jobs (n : Nat) (e : SealEngine) : (s.setSeng n e).jobs = s.jobs := (rfl)
@[simp] theorem setSeng_heldJobs (n : Nat) (e : SealEngine) : (s.setSeng n e).heldJobs = s.heldJobs := (rfl)
@[simp] theorem setSeng_qps (n : Nat) (e : SealEngine) : (s.setSeng n e).qps = s.qps := (rfl)
@[simp] theorem setSeng_sched (n : Nat) (e : SealEngine) : (s.setSeng n e).sched = s.sched := (rfl)
@[simp] theorem setSeng_manifests (n : Nat) (e : SealEngine) : (s.setSeng n e).manifests = s.manifests := (rfl)
@[simp] theorem setSeng_nextManifest (n : Nat) (e : SealEngine) : (s.setSeng n e).nextManifest = s.nextManifest := (rfl)
@[simp] theorem setSeng_digests (n : Nat) (e : SealEngine) : (s.setSeng n e).digests = s.digests := (rfl)
@[simp] theorem setSeng_meas (n : Nat) (e : SealEngine) : (s.setSeng n e).meas = s.meas := (rfl)
@[simp] theorem setSeng_measLog (n : Nat) (e : SealEngine) : (s.setSeng n e).measLog = s.measLog := (rfl)
@[simp] theorem setSeng_measNext (n : Nat) (e : SealEngine) : (s.setSeng n e).measNext = s.measNext := (rfl)
@[simp] theorem setSeng_measOverflow (n : Nat) (e : SealEngine) : (s.setSeng n e).measOverflow = s.measOverflow := (rfl)
@[simp] theorem setSeng_truncOffered (n : Nat) (e : SealEngine) : (s.setSeng n e).truncOffered = s.truncOffered := (rfl)
@[simp] theorem setSeng_slots (n : Nat) (e : SealEngine) : (s.setSeng n e).slots = s.slots := (rfl)
@[simp] theorem setSeng_pufSecret (n : Nat) (e : SealEngine) : (s.setSeng n e).pufSecret = s.pufSecret := (rfl)
@[simp] theorem setSeng_keyed (n : Nat) (e : SealEngine) : (s.setSeng n e).keyed = s.keyed := (rfl)
@[simp] theorem setSeng_cdk (n : Nat) (e : SealEngine) : (s.setSeng n e).cdk = s.cdk := (rfl)
@[simp] theorem setSeng_zeroised (n : Nat) (e : SealEngine) : (s.setSeng n e).zeroised = s.zeroised := (rfl)
@[simp] theorem setSeng_agate (n : Nat) (e : SealEngine) : (s.setSeng n e).agate = s.agate := (rfl)
@[simp] theorem setSeng_arith (n : Nat) (e : SealEngine) : (s.setSeng n e).arith = s.arith := (rfl)
@[simp] theorem setSeng_sources (n : Nat) (e : SealEngine) : (s.setSeng n e).sources = s.sources := (rfl)
@[simp] theorem setSeng_entropy (n : Nat) (e : SealEngine) : (s.setSeng n e).entropy = s.entropy := (rfl)
@[simp] theorem setSeng_filling (n : Nat) (e : SealEngine) : (s.setSeng n e).filling = s.filling := (rfl)
@[simp] theorem setSeng_lfsr (n : Nat) (e : SealEngine) : (s.setSeng n e).lfsr = s.lfsr := (rfl)
@[simp] theorem setSeng_drbgs (n : Nat) (e : SealEngine) : (s.setSeng n e).drbgs = s.drbgs := (rfl)
@[simp] theorem setSeng_tenants (n : Nat) (e : SealEngine) : (s.setSeng n e).tenants = s.tenants := (rfl)
@[simp] theorem setSeng_cfg (n : Nat) (e : SealEngine) : (s.setSeng n e).cfg = s.cfg := (rfl)
@[simp] theorem setSeng_moon (n : Nat) (e : SealEngine) : (s.setSeng n e).moon = s.moon := (rfl)
@[simp] theorem setSeng_fuses (n : Nat) (e : SealEngine) : (s.setSeng n e).fuses = s.fuses := (rfl)
@[simp] theorem setSeng_boot (n : Nat) (e : SealEngine) : (s.setSeng n e).boot = s.boot := (rfl)
@[simp] theorem setSeng_lcs (n : Nat) (e : SealEngine) : (s.setSeng n e).lcs = s.lcs := (rfl)
@[simp] theorem setSeng_tamper (n : Nat) (e : SealEngine) : (s.setSeng n e).tamper = s.tamper := (rfl)
@[simp] theorem setSeng_pins (n : Nat) (e : SealEngine) : (s.setSeng n e).pins = s.pins := (rfl)
@[simp] theorem setSeng_wards (n : Nat) (e : SealEngine) : (s.setSeng n e).wards = s.wards := (rfl)
@[simp] theorem setSeng_tkn (n : Nat) (e : SealEngine) : (s.setSeng n e).tkn = s.tkn := (rfl)
@[simp] theorem setSeng_internalDone (n : Nat) (e : SealEngine) : (s.setSeng n e).internalDone = s.internalDone := (rfl)
@[simp] theorem setSeng_recorder (n : Nat) (e : SealEngine) : (s.setSeng n e).recorder = s.recorder := (rfl)
@[simp] theorem setSeng_amber (n : Nat) (e : SealEngine) : (s.setSeng n e).amber = s.amber := (rfl)
@[simp] theorem setSeng_links (n : Nat) (e : SealEngine) : (s.setSeng n e).links = s.links := (rfl)
@[simp] theorem setSeng_fabric (n : Nat) (e : SealEngine) : (s.setSeng n e).fabric = s.fabric := (rfl)
@[simp] theorem setSeng_nor (n : Nat) (e : SealEngine) : (s.setSeng n e).nor = s.nor := (rfl)
@[simp] theorem setSeng_mem (n : Nat) (e : SealEngine) : (s.setSeng n e).mem = s.mem := (rfl)
@[simp] theorem setSeng_quartz (n : Nat) (e : SealEngine) : (s.setSeng n e).quartz = s.quartz := (rfl)
@[simp] theorem setSeng_regs (n : Nat) (e : SealEngine) : (s.setSeng n e).regs = s.regs := (rfl)
@[simp] theorem setSeng_out (n : Nat) (e : SealEngine) : (s.setSeng n e).out = s.out := (rfl)
@[simp] theorem setSeng_freeIdx (n : Nat) (e : SealEngine) : (s.setSeng n e).freeIdx = s.freeIdx := (rfl)
@[simp] theorem setSeng_pending (n : Nat) (e : SealEngine) : (s.setSeng n e).pending = s.pending := (rfl)

/-! ### State.setAeng -/

@[simp] theorem setAeng_clk (n : Nat) (e : ArithEngine) : (s.setAeng n e).clk = s.clk := (rfl)
@[simp] theorem setAeng_mode (n : Nat) (e : ArithEngine) : (s.setAeng n e).mode = s.mode := (rfl)
@[simp] theorem setAeng_portA (n : Nat) (e : ArithEngine) : (s.setAeng n e).portA = s.portA := (rfl)
@[simp] theorem setAeng_portB (n : Nat) (e : ArithEngine) : (s.setAeng n e).portB = s.portB := (rfl)
@[simp] theorem setAeng_jobs (n : Nat) (e : ArithEngine) : (s.setAeng n e).jobs = s.jobs := (rfl)
@[simp] theorem setAeng_heldJobs (n : Nat) (e : ArithEngine) : (s.setAeng n e).heldJobs = s.heldJobs := (rfl)
@[simp] theorem setAeng_qps (n : Nat) (e : ArithEngine) : (s.setAeng n e).qps = s.qps := (rfl)
@[simp] theorem setAeng_sched (n : Nat) (e : ArithEngine) : (s.setAeng n e).sched = s.sched := (rfl)
@[simp] theorem setAeng_manifests (n : Nat) (e : ArithEngine) : (s.setAeng n e).manifests = s.manifests := (rfl)
@[simp] theorem setAeng_nextManifest (n : Nat) (e : ArithEngine) : (s.setAeng n e).nextManifest = s.nextManifest := (rfl)
@[simp] theorem setAeng_sealEngines (n : Nat) (e : ArithEngine) : (s.setAeng n e).sealEngines = s.sealEngines := (rfl)
@[simp] theorem setAeng_digests (n : Nat) (e : ArithEngine) : (s.setAeng n e).digests = s.digests := (rfl)
@[simp] theorem setAeng_meas (n : Nat) (e : ArithEngine) : (s.setAeng n e).meas = s.meas := (rfl)
@[simp] theorem setAeng_measLog (n : Nat) (e : ArithEngine) : (s.setAeng n e).measLog = s.measLog := (rfl)
@[simp] theorem setAeng_measNext (n : Nat) (e : ArithEngine) : (s.setAeng n e).measNext = s.measNext := (rfl)
@[simp] theorem setAeng_measOverflow (n : Nat) (e : ArithEngine) : (s.setAeng n e).measOverflow = s.measOverflow := (rfl)
@[simp] theorem setAeng_truncOffered (n : Nat) (e : ArithEngine) : (s.setAeng n e).truncOffered = s.truncOffered := (rfl)
@[simp] theorem setAeng_slots (n : Nat) (e : ArithEngine) : (s.setAeng n e).slots = s.slots := (rfl)
@[simp] theorem setAeng_pufSecret (n : Nat) (e : ArithEngine) : (s.setAeng n e).pufSecret = s.pufSecret := (rfl)
@[simp] theorem setAeng_keyed (n : Nat) (e : ArithEngine) : (s.setAeng n e).keyed = s.keyed := (rfl)
@[simp] theorem setAeng_cdk (n : Nat) (e : ArithEngine) : (s.setAeng n e).cdk = s.cdk := (rfl)
@[simp] theorem setAeng_zeroised (n : Nat) (e : ArithEngine) : (s.setAeng n e).zeroised = s.zeroised := (rfl)
@[simp] theorem setAeng_agate (n : Nat) (e : ArithEngine) : (s.setAeng n e).agate = s.agate := (rfl)
@[simp] theorem setAeng_sources (n : Nat) (e : ArithEngine) : (s.setAeng n e).sources = s.sources := (rfl)
@[simp] theorem setAeng_entropy (n : Nat) (e : ArithEngine) : (s.setAeng n e).entropy = s.entropy := (rfl)
@[simp] theorem setAeng_filling (n : Nat) (e : ArithEngine) : (s.setAeng n e).filling = s.filling := (rfl)
@[simp] theorem setAeng_lfsr (n : Nat) (e : ArithEngine) : (s.setAeng n e).lfsr = s.lfsr := (rfl)
@[simp] theorem setAeng_drbgs (n : Nat) (e : ArithEngine) : (s.setAeng n e).drbgs = s.drbgs := (rfl)
@[simp] theorem setAeng_tenants (n : Nat) (e : ArithEngine) : (s.setAeng n e).tenants = s.tenants := (rfl)
@[simp] theorem setAeng_cfg (n : Nat) (e : ArithEngine) : (s.setAeng n e).cfg = s.cfg := (rfl)
@[simp] theorem setAeng_moon (n : Nat) (e : ArithEngine) : (s.setAeng n e).moon = s.moon := (rfl)
@[simp] theorem setAeng_fuses (n : Nat) (e : ArithEngine) : (s.setAeng n e).fuses = s.fuses := (rfl)
@[simp] theorem setAeng_boot (n : Nat) (e : ArithEngine) : (s.setAeng n e).boot = s.boot := (rfl)
@[simp] theorem setAeng_lcs (n : Nat) (e : ArithEngine) : (s.setAeng n e).lcs = s.lcs := (rfl)
@[simp] theorem setAeng_tamper (n : Nat) (e : ArithEngine) : (s.setAeng n e).tamper = s.tamper := (rfl)
@[simp] theorem setAeng_pins (n : Nat) (e : ArithEngine) : (s.setAeng n e).pins = s.pins := (rfl)
@[simp] theorem setAeng_wards (n : Nat) (e : ArithEngine) : (s.setAeng n e).wards = s.wards := (rfl)
@[simp] theorem setAeng_tkn (n : Nat) (e : ArithEngine) : (s.setAeng n e).tkn = s.tkn := (rfl)
@[simp] theorem setAeng_internalDone (n : Nat) (e : ArithEngine) : (s.setAeng n e).internalDone = s.internalDone := (rfl)
@[simp] theorem setAeng_recorder (n : Nat) (e : ArithEngine) : (s.setAeng n e).recorder = s.recorder := (rfl)
@[simp] theorem setAeng_amber (n : Nat) (e : ArithEngine) : (s.setAeng n e).amber = s.amber := (rfl)
@[simp] theorem setAeng_links (n : Nat) (e : ArithEngine) : (s.setAeng n e).links = s.links := (rfl)
@[simp] theorem setAeng_fabric (n : Nat) (e : ArithEngine) : (s.setAeng n e).fabric = s.fabric := (rfl)
@[simp] theorem setAeng_nor (n : Nat) (e : ArithEngine) : (s.setAeng n e).nor = s.nor := (rfl)
@[simp] theorem setAeng_mem (n : Nat) (e : ArithEngine) : (s.setAeng n e).mem = s.mem := (rfl)
@[simp] theorem setAeng_quartz (n : Nat) (e : ArithEngine) : (s.setAeng n e).quartz = s.quartz := (rfl)
@[simp] theorem setAeng_regs (n : Nat) (e : ArithEngine) : (s.setAeng n e).regs = s.regs := (rfl)
@[simp] theorem setAeng_out (n : Nat) (e : ArithEngine) : (s.setAeng n e).out = s.out := (rfl)
@[simp] theorem setAeng_freeIdx (n : Nat) (e : ArithEngine) : (s.setAeng n e).freeIdx = s.freeIdx := (rfl)
@[simp] theorem setAeng_pending (n : Nat) (e : ArithEngine) : (s.setAeng n e).pending = s.pending := (rfl)

/-! ### State.setMan -/

@[simp] theorem setMan_clk (n : Nat) (m : Manifest) : (s.setMan n m).clk = s.clk := (rfl)
@[simp] theorem setMan_mode (n : Nat) (m : Manifest) : (s.setMan n m).mode = s.mode := (rfl)
@[simp] theorem setMan_portA (n : Nat) (m : Manifest) : (s.setMan n m).portA = s.portA := (rfl)
@[simp] theorem setMan_portB (n : Nat) (m : Manifest) : (s.setMan n m).portB = s.portB := (rfl)
@[simp] theorem setMan_jobs (n : Nat) (m : Manifest) : (s.setMan n m).jobs = s.jobs := (rfl)
@[simp] theorem setMan_heldJobs (n : Nat) (m : Manifest) : (s.setMan n m).heldJobs = s.heldJobs := (rfl)
@[simp] theorem setMan_qps (n : Nat) (m : Manifest) : (s.setMan n m).qps = s.qps := (rfl)
@[simp] theorem setMan_sched (n : Nat) (m : Manifest) : (s.setMan n m).sched = s.sched := (rfl)
@[simp] theorem setMan_nextManifest (n : Nat) (m : Manifest) : (s.setMan n m).nextManifest = s.nextManifest := (rfl)
@[simp] theorem setMan_sealEngines (n : Nat) (m : Manifest) : (s.setMan n m).sealEngines = s.sealEngines := (rfl)
@[simp] theorem setMan_digests (n : Nat) (m : Manifest) : (s.setMan n m).digests = s.digests := (rfl)
@[simp] theorem setMan_meas (n : Nat) (m : Manifest) : (s.setMan n m).meas = s.meas := (rfl)
@[simp] theorem setMan_measLog (n : Nat) (m : Manifest) : (s.setMan n m).measLog = s.measLog := (rfl)
@[simp] theorem setMan_measNext (n : Nat) (m : Manifest) : (s.setMan n m).measNext = s.measNext := (rfl)
@[simp] theorem setMan_measOverflow (n : Nat) (m : Manifest) : (s.setMan n m).measOverflow = s.measOverflow := (rfl)
@[simp] theorem setMan_truncOffered (n : Nat) (m : Manifest) : (s.setMan n m).truncOffered = s.truncOffered := (rfl)
@[simp] theorem setMan_slots (n : Nat) (m : Manifest) : (s.setMan n m).slots = s.slots := (rfl)
@[simp] theorem setMan_pufSecret (n : Nat) (m : Manifest) : (s.setMan n m).pufSecret = s.pufSecret := (rfl)
@[simp] theorem setMan_keyed (n : Nat) (m : Manifest) : (s.setMan n m).keyed = s.keyed := (rfl)
@[simp] theorem setMan_cdk (n : Nat) (m : Manifest) : (s.setMan n m).cdk = s.cdk := (rfl)
@[simp] theorem setMan_zeroised (n : Nat) (m : Manifest) : (s.setMan n m).zeroised = s.zeroised := (rfl)
@[simp] theorem setMan_agate (n : Nat) (m : Manifest) : (s.setMan n m).agate = s.agate := (rfl)
@[simp] theorem setMan_arith (n : Nat) (m : Manifest) : (s.setMan n m).arith = s.arith := (rfl)
@[simp] theorem setMan_sources (n : Nat) (m : Manifest) : (s.setMan n m).sources = s.sources := (rfl)
@[simp] theorem setMan_entropy (n : Nat) (m : Manifest) : (s.setMan n m).entropy = s.entropy := (rfl)
@[simp] theorem setMan_filling (n : Nat) (m : Manifest) : (s.setMan n m).filling = s.filling := (rfl)
@[simp] theorem setMan_lfsr (n : Nat) (m : Manifest) : (s.setMan n m).lfsr = s.lfsr := (rfl)
@[simp] theorem setMan_drbgs (n : Nat) (m : Manifest) : (s.setMan n m).drbgs = s.drbgs := (rfl)
@[simp] theorem setMan_tenants (n : Nat) (m : Manifest) : (s.setMan n m).tenants = s.tenants := (rfl)
@[simp] theorem setMan_cfg (n : Nat) (m : Manifest) : (s.setMan n m).cfg = s.cfg := (rfl)
@[simp] theorem setMan_moon (n : Nat) (m : Manifest) : (s.setMan n m).moon = s.moon := (rfl)
@[simp] theorem setMan_fuses (n : Nat) (m : Manifest) : (s.setMan n m).fuses = s.fuses := (rfl)
@[simp] theorem setMan_boot (n : Nat) (m : Manifest) : (s.setMan n m).boot = s.boot := (rfl)
@[simp] theorem setMan_lcs (n : Nat) (m : Manifest) : (s.setMan n m).lcs = s.lcs := (rfl)
@[simp] theorem setMan_tamper (n : Nat) (m : Manifest) : (s.setMan n m).tamper = s.tamper := (rfl)
@[simp] theorem setMan_pins (n : Nat) (m : Manifest) : (s.setMan n m).pins = s.pins := (rfl)
@[simp] theorem setMan_wards (n : Nat) (m : Manifest) : (s.setMan n m).wards = s.wards := (rfl)
@[simp] theorem setMan_tkn (n : Nat) (m : Manifest) : (s.setMan n m).tkn = s.tkn := (rfl)
@[simp] theorem setMan_internalDone (n : Nat) (m : Manifest) : (s.setMan n m).internalDone = s.internalDone := (rfl)
@[simp] theorem setMan_recorder (n : Nat) (m : Manifest) : (s.setMan n m).recorder = s.recorder := (rfl)
@[simp] theorem setMan_amber (n : Nat) (m : Manifest) : (s.setMan n m).amber = s.amber := (rfl)
@[simp] theorem setMan_links (n : Nat) (m : Manifest) : (s.setMan n m).links = s.links := (rfl)
@[simp] theorem setMan_fabric (n : Nat) (m : Manifest) : (s.setMan n m).fabric = s.fabric := (rfl)
@[simp] theorem setMan_nor (n : Nat) (m : Manifest) : (s.setMan n m).nor = s.nor := (rfl)
@[simp] theorem setMan_mem (n : Nat) (m : Manifest) : (s.setMan n m).mem = s.mem := (rfl)
@[simp] theorem setMan_quartz (n : Nat) (m : Manifest) : (s.setMan n m).quartz = s.quartz := (rfl)
@[simp] theorem setMan_regs (n : Nat) (m : Manifest) : (s.setMan n m).regs = s.regs := (rfl)
@[simp] theorem setMan_out (n : Nat) (m : Manifest) : (s.setMan n m).out = s.out := (rfl)
@[simp] theorem setMan_freeIdx (n : Nat) (m : Manifest) : (s.setMan n m).freeIdx = s.freeIdx := (rfl)
@[simp] theorem setMan_pending (n : Nat) (m : Manifest) : (s.setMan n m).pending = s.pending := (rfl)

/-! ### State.setLink -/

@[simp] theorem setLink_clk (l : Nat) (v : Link) : (s.setLink l v).clk = s.clk := (rfl)
@[simp] theorem setLink_mode (l : Nat) (v : Link) : (s.setLink l v).mode = s.mode := (rfl)
@[simp] theorem setLink_portA (l : Nat) (v : Link) : (s.setLink l v).portA = s.portA := (rfl)
@[simp] theorem setLink_portB (l : Nat) (v : Link) : (s.setLink l v).portB = s.portB := (rfl)
@[simp] theorem setLink_jobs (l : Nat) (v : Link) : (s.setLink l v).jobs = s.jobs := (rfl)
@[simp] theorem setLink_heldJobs (l : Nat) (v : Link) : (s.setLink l v).heldJobs = s.heldJobs := (rfl)
@[simp] theorem setLink_qps (l : Nat) (v : Link) : (s.setLink l v).qps = s.qps := (rfl)
@[simp] theorem setLink_sched (l : Nat) (v : Link) : (s.setLink l v).sched = s.sched := (rfl)
@[simp] theorem setLink_manifests (l : Nat) (v : Link) : (s.setLink l v).manifests = s.manifests := (rfl)
@[simp] theorem setLink_nextManifest (l : Nat) (v : Link) : (s.setLink l v).nextManifest = s.nextManifest := (rfl)
@[simp] theorem setLink_sealEngines (l : Nat) (v : Link) : (s.setLink l v).sealEngines = s.sealEngines := (rfl)
@[simp] theorem setLink_digests (l : Nat) (v : Link) : (s.setLink l v).digests = s.digests := (rfl)
@[simp] theorem setLink_meas (l : Nat) (v : Link) : (s.setLink l v).meas = s.meas := (rfl)
@[simp] theorem setLink_measLog (l : Nat) (v : Link) : (s.setLink l v).measLog = s.measLog := (rfl)
@[simp] theorem setLink_measNext (l : Nat) (v : Link) : (s.setLink l v).measNext = s.measNext := (rfl)
@[simp] theorem setLink_measOverflow (l : Nat) (v : Link) : (s.setLink l v).measOverflow = s.measOverflow := (rfl)
@[simp] theorem setLink_truncOffered (l : Nat) (v : Link) : (s.setLink l v).truncOffered = s.truncOffered := (rfl)
@[simp] theorem setLink_slots (l : Nat) (v : Link) : (s.setLink l v).slots = s.slots := (rfl)
@[simp] theorem setLink_pufSecret (l : Nat) (v : Link) : (s.setLink l v).pufSecret = s.pufSecret := (rfl)
@[simp] theorem setLink_keyed (l : Nat) (v : Link) : (s.setLink l v).keyed = s.keyed := (rfl)
@[simp] theorem setLink_cdk (l : Nat) (v : Link) : (s.setLink l v).cdk = s.cdk := (rfl)
@[simp] theorem setLink_zeroised (l : Nat) (v : Link) : (s.setLink l v).zeroised = s.zeroised := (rfl)
@[simp] theorem setLink_agate (l : Nat) (v : Link) : (s.setLink l v).agate = s.agate := (rfl)
@[simp] theorem setLink_arith (l : Nat) (v : Link) : (s.setLink l v).arith = s.arith := (rfl)
@[simp] theorem setLink_sources (l : Nat) (v : Link) : (s.setLink l v).sources = s.sources := (rfl)
@[simp] theorem setLink_entropy (l : Nat) (v : Link) : (s.setLink l v).entropy = s.entropy := (rfl)
@[simp] theorem setLink_filling (l : Nat) (v : Link) : (s.setLink l v).filling = s.filling := (rfl)
@[simp] theorem setLink_lfsr (l : Nat) (v : Link) : (s.setLink l v).lfsr = s.lfsr := (rfl)
@[simp] theorem setLink_drbgs (l : Nat) (v : Link) : (s.setLink l v).drbgs = s.drbgs := (rfl)
@[simp] theorem setLink_tenants (l : Nat) (v : Link) : (s.setLink l v).tenants = s.tenants := (rfl)
@[simp] theorem setLink_cfg (l : Nat) (v : Link) : (s.setLink l v).cfg = s.cfg := (rfl)
@[simp] theorem setLink_moon (l : Nat) (v : Link) : (s.setLink l v).moon = s.moon := (rfl)
@[simp] theorem setLink_fuses (l : Nat) (v : Link) : (s.setLink l v).fuses = s.fuses := (rfl)
@[simp] theorem setLink_boot (l : Nat) (v : Link) : (s.setLink l v).boot = s.boot := (rfl)
@[simp] theorem setLink_lcs (l : Nat) (v : Link) : (s.setLink l v).lcs = s.lcs := (rfl)
@[simp] theorem setLink_tamper (l : Nat) (v : Link) : (s.setLink l v).tamper = s.tamper := (rfl)
@[simp] theorem setLink_pins (l : Nat) (v : Link) : (s.setLink l v).pins = s.pins := (rfl)
@[simp] theorem setLink_wards (l : Nat) (v : Link) : (s.setLink l v).wards = s.wards := (rfl)
@[simp] theorem setLink_tkn (l : Nat) (v : Link) : (s.setLink l v).tkn = s.tkn := (rfl)
@[simp] theorem setLink_internalDone (l : Nat) (v : Link) : (s.setLink l v).internalDone = s.internalDone := (rfl)
@[simp] theorem setLink_recorder (l : Nat) (v : Link) : (s.setLink l v).recorder = s.recorder := (rfl)
@[simp] theorem setLink_amber (l : Nat) (v : Link) : (s.setLink l v).amber = s.amber := (rfl)
@[simp] theorem setLink_fabric (l : Nat) (v : Link) : (s.setLink l v).fabric = s.fabric := (rfl)
@[simp] theorem setLink_nor (l : Nat) (v : Link) : (s.setLink l v).nor = s.nor := (rfl)
@[simp] theorem setLink_mem (l : Nat) (v : Link) : (s.setLink l v).mem = s.mem := (rfl)
@[simp] theorem setLink_quartz (l : Nat) (v : Link) : (s.setLink l v).quartz = s.quartz := (rfl)
@[simp] theorem setLink_regs (l : Nat) (v : Link) : (s.setLink l v).regs = s.regs := (rfl)
@[simp] theorem setLink_out (l : Nat) (v : Link) : (s.setLink l v).out = s.out := (rfl)
@[simp] theorem setLink_freeIdx (l : Nat) (v : Link) : (s.setLink l v).freeIdx = s.freeIdx := (rfl)
@[simp] theorem setLink_pending (l : Nat) (v : Link) : (s.setLink l v).pending = s.pending := (rfl)

/-! ### State.setWard -/

@[simp] theorem setWard_clk (w : Nat) (v : Ward) : (s.setWard w v).clk = s.clk := (rfl)
@[simp] theorem setWard_mode (w : Nat) (v : Ward) : (s.setWard w v).mode = s.mode := (rfl)
@[simp] theorem setWard_portA (w : Nat) (v : Ward) : (s.setWard w v).portA = s.portA := (rfl)
@[simp] theorem setWard_portB (w : Nat) (v : Ward) : (s.setWard w v).portB = s.portB := (rfl)
@[simp] theorem setWard_jobs (w : Nat) (v : Ward) : (s.setWard w v).jobs = s.jobs := (rfl)
@[simp] theorem setWard_heldJobs (w : Nat) (v : Ward) : (s.setWard w v).heldJobs = s.heldJobs := (rfl)
@[simp] theorem setWard_qps (w : Nat) (v : Ward) : (s.setWard w v).qps = s.qps := (rfl)
@[simp] theorem setWard_sched (w : Nat) (v : Ward) : (s.setWard w v).sched = s.sched := (rfl)
@[simp] theorem setWard_manifests (w : Nat) (v : Ward) : (s.setWard w v).manifests = s.manifests := (rfl)
@[simp] theorem setWard_nextManifest (w : Nat) (v : Ward) : (s.setWard w v).nextManifest = s.nextManifest := (rfl)
@[simp] theorem setWard_sealEngines (w : Nat) (v : Ward) : (s.setWard w v).sealEngines = s.sealEngines := (rfl)
@[simp] theorem setWard_digests (w : Nat) (v : Ward) : (s.setWard w v).digests = s.digests := (rfl)
@[simp] theorem setWard_meas (w : Nat) (v : Ward) : (s.setWard w v).meas = s.meas := (rfl)
@[simp] theorem setWard_measLog (w : Nat) (v : Ward) : (s.setWard w v).measLog = s.measLog := (rfl)
@[simp] theorem setWard_measNext (w : Nat) (v : Ward) : (s.setWard w v).measNext = s.measNext := (rfl)
@[simp] theorem setWard_measOverflow (w : Nat) (v : Ward) : (s.setWard w v).measOverflow = s.measOverflow := (rfl)
@[simp] theorem setWard_truncOffered (w : Nat) (v : Ward) : (s.setWard w v).truncOffered = s.truncOffered := (rfl)
@[simp] theorem setWard_slots (w : Nat) (v : Ward) : (s.setWard w v).slots = s.slots := (rfl)
@[simp] theorem setWard_pufSecret (w : Nat) (v : Ward) : (s.setWard w v).pufSecret = s.pufSecret := (rfl)
@[simp] theorem setWard_keyed (w : Nat) (v : Ward) : (s.setWard w v).keyed = s.keyed := (rfl)
@[simp] theorem setWard_cdk (w : Nat) (v : Ward) : (s.setWard w v).cdk = s.cdk := (rfl)
@[simp] theorem setWard_zeroised (w : Nat) (v : Ward) : (s.setWard w v).zeroised = s.zeroised := (rfl)
@[simp] theorem setWard_agate (w : Nat) (v : Ward) : (s.setWard w v).agate = s.agate := (rfl)
@[simp] theorem setWard_arith (w : Nat) (v : Ward) : (s.setWard w v).arith = s.arith := (rfl)
@[simp] theorem setWard_sources (w : Nat) (v : Ward) : (s.setWard w v).sources = s.sources := (rfl)
@[simp] theorem setWard_entropy (w : Nat) (v : Ward) : (s.setWard w v).entropy = s.entropy := (rfl)
@[simp] theorem setWard_filling (w : Nat) (v : Ward) : (s.setWard w v).filling = s.filling := (rfl)
@[simp] theorem setWard_lfsr (w : Nat) (v : Ward) : (s.setWard w v).lfsr = s.lfsr := (rfl)
@[simp] theorem setWard_drbgs (w : Nat) (v : Ward) : (s.setWard w v).drbgs = s.drbgs := (rfl)
@[simp] theorem setWard_tenants (w : Nat) (v : Ward) : (s.setWard w v).tenants = s.tenants := (rfl)
@[simp] theorem setWard_cfg (w : Nat) (v : Ward) : (s.setWard w v).cfg = s.cfg := (rfl)
@[simp] theorem setWard_moon (w : Nat) (v : Ward) : (s.setWard w v).moon = s.moon := (rfl)
@[simp] theorem setWard_fuses (w : Nat) (v : Ward) : (s.setWard w v).fuses = s.fuses := (rfl)
@[simp] theorem setWard_boot (w : Nat) (v : Ward) : (s.setWard w v).boot = s.boot := (rfl)
@[simp] theorem setWard_lcs (w : Nat) (v : Ward) : (s.setWard w v).lcs = s.lcs := (rfl)
@[simp] theorem setWard_tamper (w : Nat) (v : Ward) : (s.setWard w v).tamper = s.tamper := (rfl)
@[simp] theorem setWard_pins (w : Nat) (v : Ward) : (s.setWard w v).pins = s.pins := (rfl)
@[simp] theorem setWard_tkn (w : Nat) (v : Ward) : (s.setWard w v).tkn = s.tkn := (rfl)
@[simp] theorem setWard_internalDone (w : Nat) (v : Ward) : (s.setWard w v).internalDone = s.internalDone := (rfl)
@[simp] theorem setWard_recorder (w : Nat) (v : Ward) : (s.setWard w v).recorder = s.recorder := (rfl)
@[simp] theorem setWard_amber (w : Nat) (v : Ward) : (s.setWard w v).amber = s.amber := (rfl)
@[simp] theorem setWard_links (w : Nat) (v : Ward) : (s.setWard w v).links = s.links := (rfl)
@[simp] theorem setWard_fabric (w : Nat) (v : Ward) : (s.setWard w v).fabric = s.fabric := (rfl)
@[simp] theorem setWard_nor (w : Nat) (v : Ward) : (s.setWard w v).nor = s.nor := (rfl)
@[simp] theorem setWard_mem (w : Nat) (v : Ward) : (s.setWard w v).mem = s.mem := (rfl)
@[simp] theorem setWard_quartz (w : Nat) (v : Ward) : (s.setWard w v).quartz = s.quartz := (rfl)
@[simp] theorem setWard_regs (w : Nat) (v : Ward) : (s.setWard w v).regs = s.regs := (rfl)
@[simp] theorem setWard_out (w : Nat) (v : Ward) : (s.setWard w v).out = s.out := (rfl)
@[simp] theorem setWard_freeIdx (w : Nat) (v : Ward) : (s.setWard w v).freeIdx = s.freeIdx := (rfl)
@[simp] theorem setWard_pending (w : Nat) (v : Ward) : (s.setWard w v).pending = s.pending := (rfl)

/-! ### State.setBus -/

@[simp] theorem setBus_clk (b : Nat) (v : TknBus) : (s.setBus b v).clk = s.clk := (rfl)
@[simp] theorem setBus_mode (b : Nat) (v : TknBus) : (s.setBus b v).mode = s.mode := (rfl)
@[simp] theorem setBus_portA (b : Nat) (v : TknBus) : (s.setBus b v).portA = s.portA := (rfl)
@[simp] theorem setBus_portB (b : Nat) (v : TknBus) : (s.setBus b v).portB = s.portB := (rfl)
@[simp] theorem setBus_jobs (b : Nat) (v : TknBus) : (s.setBus b v).jobs = s.jobs := (rfl)
@[simp] theorem setBus_heldJobs (b : Nat) (v : TknBus) : (s.setBus b v).heldJobs = s.heldJobs := (rfl)
@[simp] theorem setBus_qps (b : Nat) (v : TknBus) : (s.setBus b v).qps = s.qps := (rfl)
@[simp] theorem setBus_sched (b : Nat) (v : TknBus) : (s.setBus b v).sched = s.sched := (rfl)
@[simp] theorem setBus_manifests (b : Nat) (v : TknBus) : (s.setBus b v).manifests = s.manifests := (rfl)
@[simp] theorem setBus_nextManifest (b : Nat) (v : TknBus) : (s.setBus b v).nextManifest = s.nextManifest := (rfl)
@[simp] theorem setBus_sealEngines (b : Nat) (v : TknBus) : (s.setBus b v).sealEngines = s.sealEngines := (rfl)
@[simp] theorem setBus_digests (b : Nat) (v : TknBus) : (s.setBus b v).digests = s.digests := (rfl)
@[simp] theorem setBus_meas (b : Nat) (v : TknBus) : (s.setBus b v).meas = s.meas := (rfl)
@[simp] theorem setBus_measLog (b : Nat) (v : TknBus) : (s.setBus b v).measLog = s.measLog := (rfl)
@[simp] theorem setBus_measNext (b : Nat) (v : TknBus) : (s.setBus b v).measNext = s.measNext := (rfl)
@[simp] theorem setBus_measOverflow (b : Nat) (v : TknBus) : (s.setBus b v).measOverflow = s.measOverflow := (rfl)
@[simp] theorem setBus_truncOffered (b : Nat) (v : TknBus) : (s.setBus b v).truncOffered = s.truncOffered := (rfl)
@[simp] theorem setBus_slots (b : Nat) (v : TknBus) : (s.setBus b v).slots = s.slots := (rfl)
@[simp] theorem setBus_pufSecret (b : Nat) (v : TknBus) : (s.setBus b v).pufSecret = s.pufSecret := (rfl)
@[simp] theorem setBus_keyed (b : Nat) (v : TknBus) : (s.setBus b v).keyed = s.keyed := (rfl)
@[simp] theorem setBus_cdk (b : Nat) (v : TknBus) : (s.setBus b v).cdk = s.cdk := (rfl)
@[simp] theorem setBus_zeroised (b : Nat) (v : TknBus) : (s.setBus b v).zeroised = s.zeroised := (rfl)
@[simp] theorem setBus_agate (b : Nat) (v : TknBus) : (s.setBus b v).agate = s.agate := (rfl)
@[simp] theorem setBus_arith (b : Nat) (v : TknBus) : (s.setBus b v).arith = s.arith := (rfl)
@[simp] theorem setBus_sources (b : Nat) (v : TknBus) : (s.setBus b v).sources = s.sources := (rfl)
@[simp] theorem setBus_entropy (b : Nat) (v : TknBus) : (s.setBus b v).entropy = s.entropy := (rfl)
@[simp] theorem setBus_filling (b : Nat) (v : TknBus) : (s.setBus b v).filling = s.filling := (rfl)
@[simp] theorem setBus_lfsr (b : Nat) (v : TknBus) : (s.setBus b v).lfsr = s.lfsr := (rfl)
@[simp] theorem setBus_drbgs (b : Nat) (v : TknBus) : (s.setBus b v).drbgs = s.drbgs := (rfl)
@[simp] theorem setBus_tenants (b : Nat) (v : TknBus) : (s.setBus b v).tenants = s.tenants := (rfl)
@[simp] theorem setBus_cfg (b : Nat) (v : TknBus) : (s.setBus b v).cfg = s.cfg := (rfl)
@[simp] theorem setBus_moon (b : Nat) (v : TknBus) : (s.setBus b v).moon = s.moon := (rfl)
@[simp] theorem setBus_fuses (b : Nat) (v : TknBus) : (s.setBus b v).fuses = s.fuses := (rfl)
@[simp] theorem setBus_boot (b : Nat) (v : TknBus) : (s.setBus b v).boot = s.boot := (rfl)
@[simp] theorem setBus_lcs (b : Nat) (v : TknBus) : (s.setBus b v).lcs = s.lcs := (rfl)
@[simp] theorem setBus_tamper (b : Nat) (v : TknBus) : (s.setBus b v).tamper = s.tamper := (rfl)
@[simp] theorem setBus_pins (b : Nat) (v : TknBus) : (s.setBus b v).pins = s.pins := (rfl)
@[simp] theorem setBus_wards (b : Nat) (v : TknBus) : (s.setBus b v).wards = s.wards := (rfl)
@[simp] theorem setBus_internalDone (b : Nat) (v : TknBus) : (s.setBus b v).internalDone = s.internalDone := (rfl)
@[simp] theorem setBus_recorder (b : Nat) (v : TknBus) : (s.setBus b v).recorder = s.recorder := (rfl)
@[simp] theorem setBus_amber (b : Nat) (v : TknBus) : (s.setBus b v).amber = s.amber := (rfl)
@[simp] theorem setBus_links (b : Nat) (v : TknBus) : (s.setBus b v).links = s.links := (rfl)
@[simp] theorem setBus_fabric (b : Nat) (v : TknBus) : (s.setBus b v).fabric = s.fabric := (rfl)
@[simp] theorem setBus_nor (b : Nat) (v : TknBus) : (s.setBus b v).nor = s.nor := (rfl)
@[simp] theorem setBus_mem (b : Nat) (v : TknBus) : (s.setBus b v).mem = s.mem := (rfl)
@[simp] theorem setBus_quartz (b : Nat) (v : TknBus) : (s.setBus b v).quartz = s.quartz := (rfl)
@[simp] theorem setBus_regs (b : Nat) (v : TknBus) : (s.setBus b v).regs = s.regs := (rfl)
@[simp] theorem setBus_out (b : Nat) (v : TknBus) : (s.setBus b v).out = s.out := (rfl)
@[simp] theorem setBus_freeIdx (b : Nat) (v : TknBus) : (s.setBus b v).freeIdx = s.freeIdx := (rfl)
@[simp] theorem setBus_pending (b : Nat) (v : TknBus) : (s.setBus b v).pending = s.pending := (rfl)

/-! ### State.setCer -/

@[simp] theorem setCer_clk (c : Ceremony) : (s.setCer c).clk = s.clk := (rfl)
@[simp] theorem setCer_mode (c : Ceremony) : (s.setCer c).mode = s.mode := (rfl)
@[simp] theorem setCer_portA (c : Ceremony) : (s.setCer c).portA = s.portA := (rfl)
@[simp] theorem setCer_portB (c : Ceremony) : (s.setCer c).portB = s.portB := (rfl)
@[simp] theorem setCer_jobs (c : Ceremony) : (s.setCer c).jobs = s.jobs := (rfl)
@[simp] theorem setCer_heldJobs (c : Ceremony) : (s.setCer c).heldJobs = s.heldJobs := (rfl)
@[simp] theorem setCer_qps (c : Ceremony) : (s.setCer c).qps = s.qps := (rfl)
@[simp] theorem setCer_sched (c : Ceremony) : (s.setCer c).sched = s.sched := (rfl)
@[simp] theorem setCer_manifests (c : Ceremony) : (s.setCer c).manifests = s.manifests := (rfl)
@[simp] theorem setCer_nextManifest (c : Ceremony) : (s.setCer c).nextManifest = s.nextManifest := (rfl)
@[simp] theorem setCer_sealEngines (c : Ceremony) : (s.setCer c).sealEngines = s.sealEngines := (rfl)
@[simp] theorem setCer_digests (c : Ceremony) : (s.setCer c).digests = s.digests := (rfl)
@[simp] theorem setCer_meas (c : Ceremony) : (s.setCer c).meas = s.meas := (rfl)
@[simp] theorem setCer_measLog (c : Ceremony) : (s.setCer c).measLog = s.measLog := (rfl)
@[simp] theorem setCer_measNext (c : Ceremony) : (s.setCer c).measNext = s.measNext := (rfl)
@[simp] theorem setCer_measOverflow (c : Ceremony) : (s.setCer c).measOverflow = s.measOverflow := (rfl)
@[simp] theorem setCer_truncOffered (c : Ceremony) : (s.setCer c).truncOffered = s.truncOffered := (rfl)
@[simp] theorem setCer_slots (c : Ceremony) : (s.setCer c).slots = s.slots := (rfl)
@[simp] theorem setCer_pufSecret (c : Ceremony) : (s.setCer c).pufSecret = s.pufSecret := (rfl)
@[simp] theorem setCer_keyed (c : Ceremony) : (s.setCer c).keyed = s.keyed := (rfl)
@[simp] theorem setCer_cdk (c : Ceremony) : (s.setCer c).cdk = s.cdk := (rfl)
@[simp] theorem setCer_zeroised (c : Ceremony) : (s.setCer c).zeroised = s.zeroised := (rfl)
@[simp] theorem setCer_agate (c : Ceremony) : (s.setCer c).agate = s.agate := (rfl)
@[simp] theorem setCer_arith (c : Ceremony) : (s.setCer c).arith = s.arith := (rfl)
@[simp] theorem setCer_sources (c : Ceremony) : (s.setCer c).sources = s.sources := (rfl)
@[simp] theorem setCer_entropy (c : Ceremony) : (s.setCer c).entropy = s.entropy := (rfl)
@[simp] theorem setCer_filling (c : Ceremony) : (s.setCer c).filling = s.filling := (rfl)
@[simp] theorem setCer_lfsr (c : Ceremony) : (s.setCer c).lfsr = s.lfsr := (rfl)
@[simp] theorem setCer_drbgs (c : Ceremony) : (s.setCer c).drbgs = s.drbgs := (rfl)
@[simp] theorem setCer_tenants (c : Ceremony) : (s.setCer c).tenants = s.tenants := (rfl)
@[simp] theorem setCer_cfg (c : Ceremony) : (s.setCer c).cfg = s.cfg := (rfl)
@[simp] theorem setCer_moon (c : Ceremony) : (s.setCer c).moon = s.moon := (rfl)
@[simp] theorem setCer_fuses (c : Ceremony) : (s.setCer c).fuses = s.fuses := (rfl)
@[simp] theorem setCer_boot (c : Ceremony) : (s.setCer c).boot = s.boot := (rfl)
@[simp] theorem setCer_lcs (c : Ceremony) : (s.setCer c).lcs = s.lcs := (rfl)
@[simp] theorem setCer_tamper (c : Ceremony) : (s.setCer c).tamper = s.tamper := (rfl)
@[simp] theorem setCer_pins (c : Ceremony) : (s.setCer c).pins = s.pins := (rfl)
@[simp] theorem setCer_wards (c : Ceremony) : (s.setCer c).wards = s.wards := (rfl)
@[simp] theorem setCer_internalDone (c : Ceremony) : (s.setCer c).internalDone = s.internalDone := (rfl)
@[simp] theorem setCer_recorder (c : Ceremony) : (s.setCer c).recorder = s.recorder := (rfl)
@[simp] theorem setCer_amber (c : Ceremony) : (s.setCer c).amber = s.amber := (rfl)
@[simp] theorem setCer_links (c : Ceremony) : (s.setCer c).links = s.links := (rfl)
@[simp] theorem setCer_fabric (c : Ceremony) : (s.setCer c).fabric = s.fabric := (rfl)
@[simp] theorem setCer_nor (c : Ceremony) : (s.setCer c).nor = s.nor := (rfl)
@[simp] theorem setCer_mem (c : Ceremony) : (s.setCer c).mem = s.mem := (rfl)
@[simp] theorem setCer_quartz (c : Ceremony) : (s.setCer c).quartz = s.quartz := (rfl)
@[simp] theorem setCer_regs (c : Ceremony) : (s.setCer c).regs = s.regs := (rfl)
@[simp] theorem setCer_out (c : Ceremony) : (s.setCer c).out = s.out := (rfl)
@[simp] theorem setCer_freeIdx (c : Ceremony) : (s.setCer c).freeIdx = s.freeIdx := (rfl)
@[simp] theorem setCer_pending (c : Ceremony) : (s.setCer c).pending = s.pending := (rfl)

/-! ### State.send -/

@[simp] theorem send_clk (m : Msg) : (s.send m).clk = s.clk := (rfl)
@[simp] theorem send_mode (m : Msg) : (s.send m).mode = s.mode := (rfl)
@[simp] theorem send_portA (m : Msg) : (s.send m).portA = s.portA := (rfl)
@[simp] theorem send_portB (m : Msg) : (s.send m).portB = s.portB := (rfl)
@[simp] theorem send_jobs (m : Msg) : (s.send m).jobs = s.jobs := (rfl)
@[simp] theorem send_heldJobs (m : Msg) : (s.send m).heldJobs = s.heldJobs := (rfl)
@[simp] theorem send_qps (m : Msg) : (s.send m).qps = s.qps := (rfl)
@[simp] theorem send_sched (m : Msg) : (s.send m).sched = s.sched := (rfl)
@[simp] theorem send_manifests (m : Msg) : (s.send m).manifests = s.manifests := (rfl)
@[simp] theorem send_nextManifest (m : Msg) : (s.send m).nextManifest = s.nextManifest := (rfl)
@[simp] theorem send_sealEngines (m : Msg) : (s.send m).sealEngines = s.sealEngines := (rfl)
@[simp] theorem send_digests (m : Msg) : (s.send m).digests = s.digests := (rfl)
@[simp] theorem send_meas (m : Msg) : (s.send m).meas = s.meas := (rfl)
@[simp] theorem send_measLog (m : Msg) : (s.send m).measLog = s.measLog := (rfl)
@[simp] theorem send_measNext (m : Msg) : (s.send m).measNext = s.measNext := (rfl)
@[simp] theorem send_measOverflow (m : Msg) : (s.send m).measOverflow = s.measOverflow := (rfl)
@[simp] theorem send_truncOffered (m : Msg) : (s.send m).truncOffered = s.truncOffered := (rfl)
@[simp] theorem send_slots (m : Msg) : (s.send m).slots = s.slots := (rfl)
@[simp] theorem send_pufSecret (m : Msg) : (s.send m).pufSecret = s.pufSecret := (rfl)
@[simp] theorem send_keyed (m : Msg) : (s.send m).keyed = s.keyed := (rfl)
@[simp] theorem send_cdk (m : Msg) : (s.send m).cdk = s.cdk := (rfl)
@[simp] theorem send_zeroised (m : Msg) : (s.send m).zeroised = s.zeroised := (rfl)
@[simp] theorem send_agate (m : Msg) : (s.send m).agate = s.agate := (rfl)
@[simp] theorem send_arith (m : Msg) : (s.send m).arith = s.arith := (rfl)
@[simp] theorem send_sources (m : Msg) : (s.send m).sources = s.sources := (rfl)
@[simp] theorem send_entropy (m : Msg) : (s.send m).entropy = s.entropy := (rfl)
@[simp] theorem send_filling (m : Msg) : (s.send m).filling = s.filling := (rfl)
@[simp] theorem send_lfsr (m : Msg) : (s.send m).lfsr = s.lfsr := (rfl)
@[simp] theorem send_drbgs (m : Msg) : (s.send m).drbgs = s.drbgs := (rfl)
@[simp] theorem send_tenants (m : Msg) : (s.send m).tenants = s.tenants := (rfl)
@[simp] theorem send_cfg (m : Msg) : (s.send m).cfg = s.cfg := (rfl)
@[simp] theorem send_moon (m : Msg) : (s.send m).moon = s.moon := (rfl)
@[simp] theorem send_fuses (m : Msg) : (s.send m).fuses = s.fuses := (rfl)
@[simp] theorem send_boot (m : Msg) : (s.send m).boot = s.boot := (rfl)
@[simp] theorem send_lcs (m : Msg) : (s.send m).lcs = s.lcs := (rfl)
@[simp] theorem send_tamper (m : Msg) : (s.send m).tamper = s.tamper := (rfl)
@[simp] theorem send_pins (m : Msg) : (s.send m).pins = s.pins := (rfl)
@[simp] theorem send_wards (m : Msg) : (s.send m).wards = s.wards := (rfl)
@[simp] theorem send_tkn (m : Msg) : (s.send m).tkn = s.tkn := (rfl)
@[simp] theorem send_internalDone (m : Msg) : (s.send m).internalDone = s.internalDone := (rfl)
@[simp] theorem send_recorder (m : Msg) : (s.send m).recorder = s.recorder := (rfl)
@[simp] theorem send_amber (m : Msg) : (s.send m).amber = s.amber := (rfl)
@[simp] theorem send_links (m : Msg) : (s.send m).links = s.links := (rfl)
@[simp] theorem send_fabric (m : Msg) : (s.send m).fabric = s.fabric := (rfl)
@[simp] theorem send_nor (m : Msg) : (s.send m).nor = s.nor := (rfl)
@[simp] theorem send_mem (m : Msg) : (s.send m).mem = s.mem := (rfl)
@[simp] theorem send_quartz (m : Msg) : (s.send m).quartz = s.quartz := (rfl)
@[simp] theorem send_regs (m : Msg) : (s.send m).regs = s.regs := (rfl)
@[simp] theorem send_freeIdx (m : Msg) : (s.send m).freeIdx = s.freeIdx := (rfl)
@[simp] theorem send_pending (m : Msg) : (s.send m).pending = s.pending := (rfl)

/-! ### State.addJob -/

@[simp] theorem addJob_clk (j : Job) : (s.addJob j).clk = s.clk := (rfl)
@[simp] theorem addJob_mode (j : Job) : (s.addJob j).mode = s.mode := (rfl)
@[simp] theorem addJob_portA (j : Job) : (s.addJob j).portA = s.portA := (rfl)
@[simp] theorem addJob_portB (j : Job) : (s.addJob j).portB = s.portB := (rfl)
@[simp] theorem addJob_heldJobs (j : Job) : (s.addJob j).heldJobs = s.heldJobs := (rfl)
@[simp] theorem addJob_qps (j : Job) : (s.addJob j).qps = s.qps := (rfl)
@[simp] theorem addJob_sched (j : Job) : (s.addJob j).sched = s.sched := (rfl)
@[simp] theorem addJob_manifests (j : Job) : (s.addJob j).manifests = s.manifests := (rfl)
@[simp] theorem addJob_nextManifest (j : Job) : (s.addJob j).nextManifest = s.nextManifest := (rfl)
@[simp] theorem addJob_sealEngines (j : Job) : (s.addJob j).sealEngines = s.sealEngines := (rfl)
@[simp] theorem addJob_digests (j : Job) : (s.addJob j).digests = s.digests := (rfl)
@[simp] theorem addJob_meas (j : Job) : (s.addJob j).meas = s.meas := (rfl)
@[simp] theorem addJob_measLog (j : Job) : (s.addJob j).measLog = s.measLog := (rfl)
@[simp] theorem addJob_measNext (j : Job) : (s.addJob j).measNext = s.measNext := (rfl)
@[simp] theorem addJob_measOverflow (j : Job) : (s.addJob j).measOverflow = s.measOverflow := (rfl)
@[simp] theorem addJob_truncOffered (j : Job) : (s.addJob j).truncOffered = s.truncOffered := (rfl)
@[simp] theorem addJob_slots (j : Job) : (s.addJob j).slots = s.slots := (rfl)
@[simp] theorem addJob_pufSecret (j : Job) : (s.addJob j).pufSecret = s.pufSecret := (rfl)
@[simp] theorem addJob_keyed (j : Job) : (s.addJob j).keyed = s.keyed := (rfl)
@[simp] theorem addJob_cdk (j : Job) : (s.addJob j).cdk = s.cdk := (rfl)
@[simp] theorem addJob_zeroised (j : Job) : (s.addJob j).zeroised = s.zeroised := (rfl)
@[simp] theorem addJob_agate (j : Job) : (s.addJob j).agate = s.agate := (rfl)
@[simp] theorem addJob_arith (j : Job) : (s.addJob j).arith = s.arith := (rfl)
@[simp] theorem addJob_sources (j : Job) : (s.addJob j).sources = s.sources := (rfl)
@[simp] theorem addJob_entropy (j : Job) : (s.addJob j).entropy = s.entropy := (rfl)
@[simp] theorem addJob_filling (j : Job) : (s.addJob j).filling = s.filling := (rfl)
@[simp] theorem addJob_lfsr (j : Job) : (s.addJob j).lfsr = s.lfsr := (rfl)
@[simp] theorem addJob_drbgs (j : Job) : (s.addJob j).drbgs = s.drbgs := (rfl)
@[simp] theorem addJob_tenants (j : Job) : (s.addJob j).tenants = s.tenants := (rfl)
@[simp] theorem addJob_cfg (j : Job) : (s.addJob j).cfg = s.cfg := (rfl)
@[simp] theorem addJob_moon (j : Job) : (s.addJob j).moon = s.moon := (rfl)
@[simp] theorem addJob_fuses (j : Job) : (s.addJob j).fuses = s.fuses := (rfl)
@[simp] theorem addJob_boot (j : Job) : (s.addJob j).boot = s.boot := (rfl)
@[simp] theorem addJob_lcs (j : Job) : (s.addJob j).lcs = s.lcs := (rfl)
@[simp] theorem addJob_tamper (j : Job) : (s.addJob j).tamper = s.tamper := (rfl)
@[simp] theorem addJob_pins (j : Job) : (s.addJob j).pins = s.pins := (rfl)
@[simp] theorem addJob_wards (j : Job) : (s.addJob j).wards = s.wards := (rfl)
@[simp] theorem addJob_tkn (j : Job) : (s.addJob j).tkn = s.tkn := (rfl)
@[simp] theorem addJob_internalDone (j : Job) : (s.addJob j).internalDone = s.internalDone := (rfl)
@[simp] theorem addJob_recorder (j : Job) : (s.addJob j).recorder = s.recorder := (rfl)
@[simp] theorem addJob_amber (j : Job) : (s.addJob j).amber = s.amber := (rfl)
@[simp] theorem addJob_links (j : Job) : (s.addJob j).links = s.links := (rfl)
@[simp] theorem addJob_fabric (j : Job) : (s.addJob j).fabric = s.fabric := (rfl)
@[simp] theorem addJob_nor (j : Job) : (s.addJob j).nor = s.nor := (rfl)
@[simp] theorem addJob_mem (j : Job) : (s.addJob j).mem = s.mem := (rfl)
@[simp] theorem addJob_quartz (j : Job) : (s.addJob j).quartz = s.quartz := (rfl)
@[simp] theorem addJob_regs (j : Job) : (s.addJob j).regs = s.regs := (rfl)
@[simp] theorem addJob_out (j : Job) : (s.addJob j).out = s.out := (rfl)
@[simp] theorem addJob_freeIdx (j : Job) : (s.addJob j).freeIdx = s.freeIdx := (rfl)
@[simp] theorem addJob_pending (j : Job) : (s.addJob j).pending = s.pending := (rfl)

/-! ### State.setJob -/

@[simp] theorem setJob_clk (j : Job) : (s.setJob j).clk = s.clk := (rfl)
@[simp] theorem setJob_mode (j : Job) : (s.setJob j).mode = s.mode := (rfl)
@[simp] theorem setJob_portA (j : Job) : (s.setJob j).portA = s.portA := (rfl)
@[simp] theorem setJob_portB (j : Job) : (s.setJob j).portB = s.portB := (rfl)
@[simp] theorem setJob_heldJobs (j : Job) : (s.setJob j).heldJobs = s.heldJobs := (rfl)
@[simp] theorem setJob_qps (j : Job) : (s.setJob j).qps = s.qps := (rfl)
@[simp] theorem setJob_sched (j : Job) : (s.setJob j).sched = s.sched := (rfl)
@[simp] theorem setJob_manifests (j : Job) : (s.setJob j).manifests = s.manifests := (rfl)
@[simp] theorem setJob_nextManifest (j : Job) : (s.setJob j).nextManifest = s.nextManifest := (rfl)
@[simp] theorem setJob_sealEngines (j : Job) : (s.setJob j).sealEngines = s.sealEngines := (rfl)
@[simp] theorem setJob_digests (j : Job) : (s.setJob j).digests = s.digests := (rfl)
@[simp] theorem setJob_meas (j : Job) : (s.setJob j).meas = s.meas := (rfl)
@[simp] theorem setJob_measLog (j : Job) : (s.setJob j).measLog = s.measLog := (rfl)
@[simp] theorem setJob_measNext (j : Job) : (s.setJob j).measNext = s.measNext := (rfl)
@[simp] theorem setJob_measOverflow (j : Job) : (s.setJob j).measOverflow = s.measOverflow := (rfl)
@[simp] theorem setJob_truncOffered (j : Job) : (s.setJob j).truncOffered = s.truncOffered := (rfl)
@[simp] theorem setJob_slots (j : Job) : (s.setJob j).slots = s.slots := (rfl)
@[simp] theorem setJob_pufSecret (j : Job) : (s.setJob j).pufSecret = s.pufSecret := (rfl)
@[simp] theorem setJob_keyed (j : Job) : (s.setJob j).keyed = s.keyed := (rfl)
@[simp] theorem setJob_cdk (j : Job) : (s.setJob j).cdk = s.cdk := (rfl)
@[simp] theorem setJob_zeroised (j : Job) : (s.setJob j).zeroised = s.zeroised := (rfl)
@[simp] theorem setJob_agate (j : Job) : (s.setJob j).agate = s.agate := (rfl)
@[simp] theorem setJob_arith (j : Job) : (s.setJob j).arith = s.arith := (rfl)
@[simp] theorem setJob_sources (j : Job) : (s.setJob j).sources = s.sources := (rfl)
@[simp] theorem setJob_entropy (j : Job) : (s.setJob j).entropy = s.entropy := (rfl)
@[simp] theorem setJob_filling (j : Job) : (s.setJob j).filling = s.filling := (rfl)
@[simp] theorem setJob_lfsr (j : Job) : (s.setJob j).lfsr = s.lfsr := (rfl)
@[simp] theorem setJob_drbgs (j : Job) : (s.setJob j).drbgs = s.drbgs := (rfl)
@[simp] theorem setJob_tenants (j : Job) : (s.setJob j).tenants = s.tenants := (rfl)
@[simp] theorem setJob_cfg (j : Job) : (s.setJob j).cfg = s.cfg := (rfl)
@[simp] theorem setJob_moon (j : Job) : (s.setJob j).moon = s.moon := (rfl)
@[simp] theorem setJob_fuses (j : Job) : (s.setJob j).fuses = s.fuses := (rfl)
@[simp] theorem setJob_boot (j : Job) : (s.setJob j).boot = s.boot := (rfl)
@[simp] theorem setJob_lcs (j : Job) : (s.setJob j).lcs = s.lcs := (rfl)
@[simp] theorem setJob_tamper (j : Job) : (s.setJob j).tamper = s.tamper := (rfl)
@[simp] theorem setJob_pins (j : Job) : (s.setJob j).pins = s.pins := (rfl)
@[simp] theorem setJob_wards (j : Job) : (s.setJob j).wards = s.wards := (rfl)
@[simp] theorem setJob_tkn (j : Job) : (s.setJob j).tkn = s.tkn := (rfl)
@[simp] theorem setJob_internalDone (j : Job) : (s.setJob j).internalDone = s.internalDone := (rfl)
@[simp] theorem setJob_recorder (j : Job) : (s.setJob j).recorder = s.recorder := (rfl)
@[simp] theorem setJob_amber (j : Job) : (s.setJob j).amber = s.amber := (rfl)
@[simp] theorem setJob_links (j : Job) : (s.setJob j).links = s.links := (rfl)
@[simp] theorem setJob_fabric (j : Job) : (s.setJob j).fabric = s.fabric := (rfl)
@[simp] theorem setJob_nor (j : Job) : (s.setJob j).nor = s.nor := (rfl)
@[simp] theorem setJob_mem (j : Job) : (s.setJob j).mem = s.mem := (rfl)
@[simp] theorem setJob_quartz (j : Job) : (s.setJob j).quartz = s.quartz := (rfl)
@[simp] theorem setJob_regs (j : Job) : (s.setJob j).regs = s.regs := (rfl)
@[simp] theorem setJob_out (j : Job) : (s.setJob j).out = s.out := (rfl)
@[simp] theorem setJob_freeIdx (j : Job) : (s.setJob j).freeIdx = s.freeIdx := (rfl)
@[simp] theorem setJob_pending (j : Job) : (s.setJob j).pending = s.pending := (rfl)

/-! ### State.dropJob -/

@[simp] theorem dropJob_clk (o : Origin) : (s.dropJob o).clk = s.clk := (rfl)
@[simp] theorem dropJob_mode (o : Origin) : (s.dropJob o).mode = s.mode := (rfl)
@[simp] theorem dropJob_portA (o : Origin) : (s.dropJob o).portA = s.portA := (rfl)
@[simp] theorem dropJob_portB (o : Origin) : (s.dropJob o).portB = s.portB := (rfl)
@[simp] theorem dropJob_heldJobs (o : Origin) : (s.dropJob o).heldJobs = s.heldJobs := (rfl)
@[simp] theorem dropJob_qps (o : Origin) : (s.dropJob o).qps = s.qps := (rfl)
@[simp] theorem dropJob_sched (o : Origin) : (s.dropJob o).sched = s.sched := (rfl)
@[simp] theorem dropJob_manifests (o : Origin) : (s.dropJob o).manifests = s.manifests := (rfl)
@[simp] theorem dropJob_nextManifest (o : Origin) : (s.dropJob o).nextManifest = s.nextManifest := (rfl)
@[simp] theorem dropJob_sealEngines (o : Origin) : (s.dropJob o).sealEngines = s.sealEngines := (rfl)
@[simp] theorem dropJob_digests (o : Origin) : (s.dropJob o).digests = s.digests := (rfl)
@[simp] theorem dropJob_meas (o : Origin) : (s.dropJob o).meas = s.meas := (rfl)
@[simp] theorem dropJob_measLog (o : Origin) : (s.dropJob o).measLog = s.measLog := (rfl)
@[simp] theorem dropJob_measNext (o : Origin) : (s.dropJob o).measNext = s.measNext := (rfl)
@[simp] theorem dropJob_measOverflow (o : Origin) : (s.dropJob o).measOverflow = s.measOverflow := (rfl)
@[simp] theorem dropJob_truncOffered (o : Origin) : (s.dropJob o).truncOffered = s.truncOffered := (rfl)
@[simp] theorem dropJob_slots (o : Origin) : (s.dropJob o).slots = s.slots := (rfl)
@[simp] theorem dropJob_pufSecret (o : Origin) : (s.dropJob o).pufSecret = s.pufSecret := (rfl)
@[simp] theorem dropJob_keyed (o : Origin) : (s.dropJob o).keyed = s.keyed := (rfl)
@[simp] theorem dropJob_cdk (o : Origin) : (s.dropJob o).cdk = s.cdk := (rfl)
@[simp] theorem dropJob_zeroised (o : Origin) : (s.dropJob o).zeroised = s.zeroised := (rfl)
@[simp] theorem dropJob_agate (o : Origin) : (s.dropJob o).agate = s.agate := (rfl)
@[simp] theorem dropJob_arith (o : Origin) : (s.dropJob o).arith = s.arith := (rfl)
@[simp] theorem dropJob_sources (o : Origin) : (s.dropJob o).sources = s.sources := (rfl)
@[simp] theorem dropJob_entropy (o : Origin) : (s.dropJob o).entropy = s.entropy := (rfl)
@[simp] theorem dropJob_filling (o : Origin) : (s.dropJob o).filling = s.filling := (rfl)
@[simp] theorem dropJob_lfsr (o : Origin) : (s.dropJob o).lfsr = s.lfsr := (rfl)
@[simp] theorem dropJob_drbgs (o : Origin) : (s.dropJob o).drbgs = s.drbgs := (rfl)
@[simp] theorem dropJob_tenants (o : Origin) : (s.dropJob o).tenants = s.tenants := (rfl)
@[simp] theorem dropJob_cfg (o : Origin) : (s.dropJob o).cfg = s.cfg := (rfl)
@[simp] theorem dropJob_moon (o : Origin) : (s.dropJob o).moon = s.moon := (rfl)
@[simp] theorem dropJob_fuses (o : Origin) : (s.dropJob o).fuses = s.fuses := (rfl)
@[simp] theorem dropJob_boot (o : Origin) : (s.dropJob o).boot = s.boot := (rfl)
@[simp] theorem dropJob_lcs (o : Origin) : (s.dropJob o).lcs = s.lcs := (rfl)
@[simp] theorem dropJob_tamper (o : Origin) : (s.dropJob o).tamper = s.tamper := (rfl)
@[simp] theorem dropJob_pins (o : Origin) : (s.dropJob o).pins = s.pins := (rfl)
@[simp] theorem dropJob_wards (o : Origin) : (s.dropJob o).wards = s.wards := (rfl)
@[simp] theorem dropJob_tkn (o : Origin) : (s.dropJob o).tkn = s.tkn := (rfl)
@[simp] theorem dropJob_internalDone (o : Origin) : (s.dropJob o).internalDone = s.internalDone := (rfl)
@[simp] theorem dropJob_recorder (o : Origin) : (s.dropJob o).recorder = s.recorder := (rfl)
@[simp] theorem dropJob_amber (o : Origin) : (s.dropJob o).amber = s.amber := (rfl)
@[simp] theorem dropJob_links (o : Origin) : (s.dropJob o).links = s.links := (rfl)
@[simp] theorem dropJob_fabric (o : Origin) : (s.dropJob o).fabric = s.fabric := (rfl)
@[simp] theorem dropJob_nor (o : Origin) : (s.dropJob o).nor = s.nor := (rfl)
@[simp] theorem dropJob_mem (o : Origin) : (s.dropJob o).mem = s.mem := (rfl)
@[simp] theorem dropJob_quartz (o : Origin) : (s.dropJob o).quartz = s.quartz := (rfl)
@[simp] theorem dropJob_regs (o : Origin) : (s.dropJob o).regs = s.regs := (rfl)
@[simp] theorem dropJob_out (o : Origin) : (s.dropJob o).out = s.out := (rfl)
@[simp] theorem dropJob_freeIdx (o : Origin) : (s.dropJob o).freeIdx = s.freeIdx := (rfl)
@[simp] theorem dropJob_pending (o : Origin) : (s.dropJob o).pending = s.pending := (rfl)

/-! ### Reading back -/

@[simp] theorem reg_setReg_self (a v : Nat) : (s.setReg a v).reg a = v % 2 ^ 64 := by simp [State.reg, State.setReg]

theorem reg_setReg_of_ne {a b : Nat} (v : Nat) (h : b ≠ a) : (s.setReg a v).reg b = s.reg b := by
  simp [State.reg, State.setReg, NMap.get_put_of_ne _ _ _ h]

@[simp] theorem port_setPort_self (p : PortId) (h : HostPort) : (s.setPort p h).port p = h := by cases p <;> rfl

theorem port_setPort_of_ne {p q : PortId} (h : HostPort) (hq : q ≠ p) : (s.setPort p h).port q = s.port q := by
  cases p <;> cases q <;> first | rfl | exact absurd rfl hq

@[simp] theorem mbx_setMbx_self (b : BindId) (m : Mailbox) : (s.setMbx b m).mbx b = m := by simp [State.mbx, State.setMbx]

@[simp] theorem bindOf_setMbx (b c : BindId) (m : Mailbox) : (s.setMbx b m).bindOf c = s.bindOf c := by
  unfold State.bindOf State.setMbx
  by_cases h : c.port = b.port
  · rw [h]; simp
  · rw [port_setPort_of_ne _ _ h]

@[simp] theorem bindOf_setBind_self (b : BindId) (e : BindEntry) : (s.setBind b e).bindOf b = e := by simp [State.bindOf, State.setBind]

@[simp] theorem fn_setMbx (b : BindId) (m : Mailbox) (p : PortId) (f : Nat) : (s.setMbx b m).fn p f = s.fn p f := by
  unfold State.fn State.setMbx
  by_cases h : p = b.port
  · rw [h]; simp
  · rw [port_setPort_of_ne _ _ h]

@[simp] theorem fn_setFn_self (p : PortId) (f : Nat) (v : FuncState) : (s.setFn p f v).fn p f = v := by simp [State.fn, State.setFn]

@[simp] theorem qp_setQp_self (n : Nat) (v : QueuePair) : (s.setQp n v).qp n = v := by simp [State.qp, State.setQp]

theorem qp_setQp_of_ne {n m : Nat} (v : QueuePair) (h : m ≠ n) : (s.setQp n v).qp m = s.qp m := by
  simp [State.qp, State.setQp, NMap.get_put_of_ne _ _ _ h]

@[simp] theorem ten_setTen_self (n : Nat) (v : Tenant) : (s.setTen n v).ten n = v := by simp [State.ten, State.setTen]

theorem ten_setTen_of_ne {n m : Nat} (v : Tenant) (h : m ≠ n) : (s.setTen n v).ten m = s.ten m := by
  simp [State.ten, State.setTen, NMap.get_put_of_ne _ _ _ h]

@[simp] theorem slot_setSlot_self (n : Nat) (v : Slot) : (s.setSlot n v).slot n = v := by simp [State.slot, State.setSlot]

theorem slot_setSlot_of_ne {n m : Nat} (v : Slot) (h : m ≠ n) : (s.setSlot n v).slot m = s.slot m := by
  simp [State.slot, State.setSlot, NMap.get_put_of_ne _ _ _ h]

@[simp] theorem seng_setSeng_self (n : Nat) (v : SealEngine) : (s.setSeng n v).seng n = v := by simp [State.seng, State.setSeng]

theorem seng_setSeng_of_ne {n m : Nat} (v : SealEngine) (h : m ≠ n) : (s.setSeng n v).seng m = s.seng m := by
  simp [State.seng, State.setSeng, NMap.get_put_of_ne _ _ _ h]

@[simp] theorem aeng_setAeng_self (n : Nat) (v : ArithEngine) : (s.setAeng n v).aeng n = v := by simp [State.aeng, State.setAeng]

theorem aeng_setAeng_of_ne {n m : Nat} (v : ArithEngine) (h : m ≠ n) : (s.setAeng n v).aeng m = s.aeng m := by
  simp [State.aeng, State.setAeng, NMap.get_put_of_ne _ _ _ h]

@[simp] theorem man_setMan_self (n : Nat) (v : Manifest) : (s.setMan n v).man n = v := by simp [State.man, State.setMan]

theorem man_setMan_of_ne {n m : Nat} (v : Manifest) (h : m ≠ n) : (s.setMan n v).man m = s.man m := by
  simp [State.man, State.setMan, NMap.get_put_of_ne _ _ _ h]

@[simp] theorem link_setLink_self (n : Nat) (v : Link) : (s.setLink n v).link n = v := by simp [State.link, State.setLink]

theorem link_setLink_of_ne {n m : Nat} (v : Link) (h : m ≠ n) : (s.setLink n v).link m = s.link m := by
  simp [State.link, State.setLink, NMap.get_put_of_ne _ _ _ h]

@[simp] theorem ward_setWard_self (n : Nat) (v : Ward) : (s.setWard n v).ward n = v := by simp [State.ward, State.setWard]

theorem ward_setWard_of_ne {n m : Nat} (v : Ward) (h : m ≠ n) : (s.setWard n v).ward m = s.ward m := by
  simp [State.ward, State.setWard, NMap.get_put_of_ne _ _ _ h]

@[simp] theorem tree_setTree_self (n : Nat) (v : Tree) : (s.setTree n v).tree n = v := by simp [State.tree, State.setTree]

theorem tree_setTree_of_ne {n m : Nat} (v : Tree) (h : m ≠ n) : (s.setTree n v).tree m = s.tree m := by
  simp [State.tree, State.setTree, NMap.get_put_of_ne _ _ _ h]

@[simp] theorem bus_setBus_self (n : Nat) (v : TknBus) : (s.setBus n v).bus n = v := by simp [State.bus, State.setBus]

theorem bus_setBus_of_ne {n m : Nat} (v : TknBus) (h : m ≠ n) : (s.setBus n v).bus m = s.bus m := by
  simp [State.bus, State.setBus, NMap.get_put_of_ne _ _ _ h]

/-! ### Accessors through updates of other fields -/

@[simp] theorem slot_setReg (a v : Nat) (x : Nat) : (s.setReg a v).slot x = s.slot x := by simp [State.slot]
@[simp] theorem ten_setReg (a v : Nat) (x : Nat) : (s.setReg a v).ten x = s.ten x := by simp [State.ten]
@[simp] theorem qp_setReg (a v : Nat) (x : Nat) : (s.setReg a v).qp x = s.qp x := by simp [State.qp]
@[simp] theorem seng_setReg (a v : Nat) (x : Nat) : (s.setReg a v).seng x = s.seng x := by simp [State.seng]
@[simp] theorem aeng_setReg (a v : Nat) (x : Nat) : (s.setReg a v).aeng x = s.aeng x := by simp [State.aeng]
@[simp] theorem man_setReg (a v : Nat) (x : Nat) : (s.setReg a v).man x = s.man x := by simp [State.man]
@[simp] theorem link_setReg (a v : Nat) (x : Nat) : (s.setReg a v).link x = s.link x := by simp [State.link]
@[simp] theorem ward_setReg (a v : Nat) (x : Nat) : (s.setReg a v).ward x = s.ward x := by simp [State.ward]
@[simp] theorem job_setReg (a v : Nat) (x : Origin) : (s.setReg a v).job? x = s.job? x := by simp [State.job?]
@[simp] theorem tree_setReg (a v : Nat) (x : Nat) : (s.setReg a v).tree x = s.tree x := by simp [State.tree]
@[simp] theorem bus_setReg (a v : Nat) (x : Nat) : (s.setReg a v).bus x = s.bus x := by simp [State.bus]
@[simp] theorem mr_setReg (a v : Nat) (x : Nat) : (s.setReg a v).mr x = s.mr x := by simp [State.mr]
@[simp] theorem slot_setRegField (a m l v : Nat) (x : Nat) : (s.setRegField a m l v).slot x = s.slot x := by simp [State.slot]
@[simp] theorem ten_setRegField (a m l v : Nat) (x : Nat) : (s.setRegField a m l v).ten x = s.ten x := by simp [State.ten]
@[simp] theorem qp_setRegField (a m l v : Nat) (x : Nat) : (s.setRegField a m l v).qp x = s.qp x := by simp [State.qp]
@[simp] theorem seng_setRegField (a m l v : Nat) (x : Nat) : (s.setRegField a m l v).seng x = s.seng x := by simp [State.seng]
@[simp] theorem aeng_setRegField (a m l v : Nat) (x : Nat) : (s.setRegField a m l v).aeng x = s.aeng x := by simp [State.aeng]
@[simp] theorem man_setRegField (a m l v : Nat) (x : Nat) : (s.setRegField a m l v).man x = s.man x := by simp [State.man]
@[simp] theorem link_setRegField (a m l v : Nat) (x : Nat) : (s.setRegField a m l v).link x = s.link x := by simp [State.link]
@[simp] theorem ward_setRegField (a m l v : Nat) (x : Nat) : (s.setRegField a m l v).ward x = s.ward x := by simp [State.ward]
@[simp] theorem job_setRegField (a m l v : Nat) (x : Origin) : (s.setRegField a m l v).job? x = s.job? x := by simp [State.job?]
@[simp] theorem tree_setRegField (a m l v : Nat) (x : Nat) : (s.setRegField a m l v).tree x = s.tree x := by simp [State.tree]
@[simp] theorem bus_setRegField (a m l v : Nat) (x : Nat) : (s.setRegField a m l v).bus x = s.bus x := by simp [State.bus]
@[simp] theorem mr_setRegField (a m l v : Nat) (x : Nat) : (s.setRegField a m l v).mr x = s.mr x := by simp [State.mr]
@[simp] theorem slot_incRegField (a m l : Nat) (x : Nat) : (s.incRegField a m l).slot x = s.slot x := by simp [State.slot]
@[simp] theorem ten_incRegField (a m l : Nat) (x : Nat) : (s.incRegField a m l).ten x = s.ten x := by simp [State.ten]
@[simp] theorem qp_incRegField (a m l : Nat) (x : Nat) : (s.incRegField a m l).qp x = s.qp x := by simp [State.qp]
@[simp] theorem seng_incRegField (a m l : Nat) (x : Nat) : (s.incRegField a m l).seng x = s.seng x := by simp [State.seng]
@[simp] theorem aeng_incRegField (a m l : Nat) (x : Nat) : (s.incRegField a m l).aeng x = s.aeng x := by simp [State.aeng]
@[simp] theorem man_incRegField (a m l : Nat) (x : Nat) : (s.incRegField a m l).man x = s.man x := by simp [State.man]
@[simp] theorem link_incRegField (a m l : Nat) (x : Nat) : (s.incRegField a m l).link x = s.link x := by simp [State.link]
@[simp] theorem ward_incRegField (a m l : Nat) (x : Nat) : (s.incRegField a m l).ward x = s.ward x := by simp [State.ward]
@[simp] theorem job_incRegField (a m l : Nat) (x : Origin) : (s.incRegField a m l).job? x = s.job? x := by simp [State.job?]
@[simp] theorem tree_incRegField (a m l : Nat) (x : Nat) : (s.incRegField a m l).tree x = s.tree x := by simp [State.tree]
@[simp] theorem bus_incRegField (a m l : Nat) (x : Nat) : (s.incRegField a m l).bus x = s.bus x := by simp [State.bus]
@[simp] theorem mr_incRegField (a m l : Nat) (x : Nat) : (s.incRegField a m l).mr x = s.mr x := by simp [State.mr]
@[simp] theorem reg_tookFree (n : Nat) (x : Nat) : (s.tookFree n).reg x = s.reg x := by simp [State.reg]
@[simp] theorem slot_tookFree (n : Nat) (x : Nat) : (s.tookFree n).slot x = s.slot x := by simp [State.slot]
@[simp] theorem ten_tookFree (n : Nat) (x : Nat) : (s.tookFree n).ten x = s.ten x := by simp [State.ten]
@[simp] theorem qp_tookFree (n : Nat) (x : Nat) : (s.tookFree n).qp x = s.qp x := by simp [State.qp]
@[simp] theorem seng_tookFree (n : Nat) (x : Nat) : (s.tookFree n).seng x = s.seng x := by simp [State.seng]
@[simp] theorem aeng_tookFree (n : Nat) (x : Nat) : (s.tookFree n).aeng x = s.aeng x := by simp [State.aeng]
@[simp] theorem man_tookFree (n : Nat) (x : Nat) : (s.tookFree n).man x = s.man x := by simp [State.man]
@[simp] theorem link_tookFree (n : Nat) (x : Nat) : (s.tookFree n).link x = s.link x := by simp [State.link]
@[simp] theorem ward_tookFree (n : Nat) (x : Nat) : (s.tookFree n).ward x = s.ward x := by simp [State.ward]
@[simp] theorem job_tookFree (n : Nat) (x : Origin) : (s.tookFree n).job? x = s.job? x := by simp [State.job?]
@[simp] theorem tree_tookFree (n : Nat) (x : Nat) : (s.tookFree n).tree x = s.tree x := by simp [State.tree]
@[simp] theorem bus_tookFree (n : Nat) (x : Nat) : (s.tookFree n).bus x = s.bus x := by simp [State.bus]
@[simp] theorem mr_tookFree (n : Nat) (x : Nat) : (s.tookFree n).mr x = s.mr x := by simp [State.mr]
@[simp] theorem reg_setPort (p : PortId) (h : HostPort) (x : Nat) : (s.setPort p h).reg x = s.reg x := by simp [State.reg]
@[simp] theorem slot_setPort (p : PortId) (h : HostPort) (x : Nat) : (s.setPort p h).slot x = s.slot x := by simp [State.slot]
@[simp] theorem ten_setPort (p : PortId) (h : HostPort) (x : Nat) : (s.setPort p h).ten x = s.ten x := by simp [State.ten]
@[simp] theorem qp_setPort (p : PortId) (h : HostPort) (x : Nat) : (s.setPort p h).qp x = s.qp x := by simp [State.qp]
@[simp] theorem seng_setPort (p : PortId) (h : HostPort) (x : Nat) : (s.setPort p h).seng x = s.seng x := by simp [State.seng]
@[simp] theorem aeng_setPort (p : PortId) (h : HostPort) (x : Nat) : (s.setPort p h).aeng x = s.aeng x := by simp [State.aeng]
@[simp] theorem man_setPort (p : PortId) (h : HostPort) (x : Nat) : (s.setPort p h).man x = s.man x := by simp [State.man]
@[simp] theorem link_setPort (p : PortId) (h : HostPort) (x : Nat) : (s.setPort p h).link x = s.link x := by simp [State.link]
@[simp] theorem ward_setPort (p : PortId) (h : HostPort) (x : Nat) : (s.setPort p h).ward x = s.ward x := by simp [State.ward]
@[simp] theorem job_setPort (p : PortId) (h : HostPort) (x : Origin) : (s.setPort p h).job? x = s.job? x := by simp [State.job?]
@[simp] theorem tree_setPort (p : PortId) (h : HostPort) (x : Nat) : (s.setPort p h).tree x = s.tree x := by simp [State.tree]
@[simp] theorem bus_setPort (p : PortId) (h : HostPort) (x : Nat) : (s.setPort p h).bus x = s.bus x := by simp [State.bus]
@[simp] theorem mr_setPort (p : PortId) (h : HostPort) (x : Nat) : (s.setPort p h).mr x = s.mr x := by simp [State.mr]
@[simp] theorem reg_setBind (b : BindId) (e : BindEntry) (x : Nat) : (s.setBind b e).reg x = s.reg x := by simp [State.reg]
@[simp] theorem slot_setBind (b : BindId) (e : BindEntry) (x : Nat) : (s.setBind b e).slot x = s.slot x := by simp [State.slot]
@[simp] theorem ten_setBind (b : BindId) (e : BindEntry) (x : Nat) : (s.setBind b e).ten x = s.ten x := by simp [State.ten]
@[simp] theorem qp_setBind (b : BindId) (e : BindEntry) (x : Nat) : (s.setBind b e).qp x = s.qp x := by simp [State.qp]
@[simp] theorem seng_setBind (b : BindId) (e : BindEntry) (x : Nat) : (s.setBind b e).seng x = s.seng x := by simp [State.seng]
@[simp] theorem aeng_setBind (b : BindId) (e : BindEntry) (x : Nat) : (s.setBind b e).aeng x = s.aeng x := by simp [State.aeng]
@[simp] theorem man_setBind (b : BindId) (e : BindEntry) (x : Nat) : (s.setBind b e).man x = s.man x := by simp [State.man]
@[simp] theorem link_setBind (b : BindId) (e : BindEntry) (x : Nat) : (s.setBind b e).link x = s.link x := by simp [State.link]
@[simp] theorem ward_setBind (b : BindId) (e : BindEntry) (x : Nat) : (s.setBind b e).ward x = s.ward x := by simp [State.ward]
@[simp] theorem job_setBind (b : BindId) (e : BindEntry) (x : Origin) : (s.setBind b e).job? x = s.job? x := by simp [State.job?]
@[simp] theorem tree_setBind (b : BindId) (e : BindEntry) (x : Nat) : (s.setBind b e).tree x = s.tree x := by simp [State.tree]
@[simp] theorem bus_setBind (b : BindId) (e : BindEntry) (x : Nat) : (s.setBind b e).bus x = s.bus x := by simp [State.bus]
@[simp] theorem mr_setBind (b : BindId) (e : BindEntry) (x : Nat) : (s.setBind b e).mr x = s.mr x := by simp [State.mr]
@[simp] theorem reg_setMbx (b : BindId) (m : Mailbox) (x : Nat) : (s.setMbx b m).reg x = s.reg x := by simp [State.reg]
@[simp] theorem slot_setMbx (b : BindId) (m : Mailbox) (x : Nat) : (s.setMbx b m).slot x = s.slot x := by simp [State.slot]
@[simp] theorem ten_setMbx (b : BindId) (m : Mailbox) (x : Nat) : (s.setMbx b m).ten x = s.ten x := by simp [State.ten]
@[simp] theorem qp_setMbx (b : BindId) (m : Mailbox) (x : Nat) : (s.setMbx b m).qp x = s.qp x := by simp [State.qp]
@[simp] theorem seng_setMbx (b : BindId) (m : Mailbox) (x : Nat) : (s.setMbx b m).seng x = s.seng x := by simp [State.seng]
@[simp] theorem aeng_setMbx (b : BindId) (m : Mailbox) (x : Nat) : (s.setMbx b m).aeng x = s.aeng x := by simp [State.aeng]
@[simp] theorem man_setMbx (b : BindId) (m : Mailbox) (x : Nat) : (s.setMbx b m).man x = s.man x := by simp [State.man]
@[simp] theorem link_setMbx (b : BindId) (m : Mailbox) (x : Nat) : (s.setMbx b m).link x = s.link x := by simp [State.link]
@[simp] theorem ward_setMbx (b : BindId) (m : Mailbox) (x : Nat) : (s.setMbx b m).ward x = s.ward x := by simp [State.ward]
@[simp] theorem job_setMbx (b : BindId) (m : Mailbox) (x : Origin) : (s.setMbx b m).job? x = s.job? x := by simp [State.job?]
@[simp] theorem tree_setMbx (b : BindId) (m : Mailbox) (x : Nat) : (s.setMbx b m).tree x = s.tree x := by simp [State.tree]
@[simp] theorem bus_setMbx (b : BindId) (m : Mailbox) (x : Nat) : (s.setMbx b m).bus x = s.bus x := by simp [State.bus]
@[simp] theorem mr_setMbx (b : BindId) (m : Mailbox) (x : Nat) : (s.setMbx b m).mr x = s.mr x := by simp [State.mr]
@[simp] theorem reg_setFn (p : PortId) (f : Nat) (v : FuncState) (x : Nat) : (s.setFn p f v).reg x = s.reg x := by simp [State.reg]
@[simp] theorem slot_setFn (p : PortId) (f : Nat) (v : FuncState) (x : Nat) : (s.setFn p f v).slot x = s.slot x := by simp [State.slot]
@[simp] theorem ten_setFn (p : PortId) (f : Nat) (v : FuncState) (x : Nat) : (s.setFn p f v).ten x = s.ten x := by simp [State.ten]
@[simp] theorem qp_setFn (p : PortId) (f : Nat) (v : FuncState) (x : Nat) : (s.setFn p f v).qp x = s.qp x := by simp [State.qp]
@[simp] theorem seng_setFn (p : PortId) (f : Nat) (v : FuncState) (x : Nat) : (s.setFn p f v).seng x = s.seng x := by simp [State.seng]
@[simp] theorem aeng_setFn (p : PortId) (f : Nat) (v : FuncState) (x : Nat) : (s.setFn p f v).aeng x = s.aeng x := by simp [State.aeng]
@[simp] theorem man_setFn (p : PortId) (f : Nat) (v : FuncState) (x : Nat) : (s.setFn p f v).man x = s.man x := by simp [State.man]
@[simp] theorem link_setFn (p : PortId) (f : Nat) (v : FuncState) (x : Nat) : (s.setFn p f v).link x = s.link x := by simp [State.link]
@[simp] theorem ward_setFn (p : PortId) (f : Nat) (v : FuncState) (x : Nat) : (s.setFn p f v).ward x = s.ward x := by simp [State.ward]
@[simp] theorem job_setFn (p : PortId) (f : Nat) (v : FuncState) (x : Origin) : (s.setFn p f v).job? x = s.job? x := by simp [State.job?]
@[simp] theorem tree_setFn (p : PortId) (f : Nat) (v : FuncState) (x : Nat) : (s.setFn p f v).tree x = s.tree x := by simp [State.tree]
@[simp] theorem bus_setFn (p : PortId) (f : Nat) (v : FuncState) (x : Nat) : (s.setFn p f v).bus x = s.bus x := by simp [State.bus]
@[simp] theorem mr_setFn (p : PortId) (f : Nat) (v : FuncState) (x : Nat) : (s.setFn p f v).mr x = s.mr x := by simp [State.mr]
@[simp] theorem reg_setQp (n : Nat) (q : QueuePair) (x : Nat) : (s.setQp n q).reg x = s.reg x := by simp [State.reg]
@[simp] theorem slot_setQp (n : Nat) (q : QueuePair) (x : Nat) : (s.setQp n q).slot x = s.slot x := by simp [State.slot]
@[simp] theorem ten_setQp (n : Nat) (q : QueuePair) (x : Nat) : (s.setQp n q).ten x = s.ten x := by simp [State.ten]
@[simp] theorem seng_setQp (n : Nat) (q : QueuePair) (x : Nat) : (s.setQp n q).seng x = s.seng x := by simp [State.seng]
@[simp] theorem aeng_setQp (n : Nat) (q : QueuePair) (x : Nat) : (s.setQp n q).aeng x = s.aeng x := by simp [State.aeng]
@[simp] theorem man_setQp (n : Nat) (q : QueuePair) (x : Nat) : (s.setQp n q).man x = s.man x := by simp [State.man]
@[simp] theorem link_setQp (n : Nat) (q : QueuePair) (x : Nat) : (s.setQp n q).link x = s.link x := by simp [State.link]
@[simp] theorem ward_setQp (n : Nat) (q : QueuePair) (x : Nat) : (s.setQp n q).ward x = s.ward x := by simp [State.ward]
@[simp] theorem job_setQp (n : Nat) (q : QueuePair) (x : Origin) : (s.setQp n q).job? x = s.job? x := by simp [State.job?]
@[simp] theorem tree_setQp (n : Nat) (q : QueuePair) (x : Nat) : (s.setQp n q).tree x = s.tree x := by simp [State.tree]
@[simp] theorem bus_setQp (n : Nat) (q : QueuePair) (x : Nat) : (s.setQp n q).bus x = s.bus x := by simp [State.bus]
@[simp] theorem mr_setQp (n : Nat) (q : QueuePair) (x : Nat) : (s.setQp n q).mr x = s.mr x := by simp [State.mr]
@[simp] theorem reg_setTen (n : Nat) (c : Tenant) (x : Nat) : (s.setTen n c).reg x = s.reg x := by simp [State.reg]
@[simp] theorem slot_setTen (n : Nat) (c : Tenant) (x : Nat) : (s.setTen n c).slot x = s.slot x := by simp [State.slot]
@[simp] theorem qp_setTen (n : Nat) (c : Tenant) (x : Nat) : (s.setTen n c).qp x = s.qp x := by simp [State.qp]
@[simp] theorem seng_setTen (n : Nat) (c : Tenant) (x : Nat) : (s.setTen n c).seng x = s.seng x := by simp [State.seng]
@[simp] theorem aeng_setTen (n : Nat) (c : Tenant) (x : Nat) : (s.setTen n c).aeng x = s.aeng x := by simp [State.aeng]
@[simp] theorem man_setTen (n : Nat) (c : Tenant) (x : Nat) : (s.setTen n c).man x = s.man x := by simp [State.man]
@[simp] theorem link_setTen (n : Nat) (c : Tenant) (x : Nat) : (s.setTen n c).link x = s.link x := by simp [State.link]
@[simp] theorem ward_setTen (n : Nat) (c : Tenant) (x : Nat) : (s.setTen n c).ward x = s.ward x := by simp [State.ward]
@[simp] theorem job_setTen (n : Nat) (c : Tenant) (x : Origin) : (s.setTen n c).job? x = s.job? x := by simp [State.job?]
@[simp] theorem tree_setTen (n : Nat) (c : Tenant) (x : Nat) : (s.setTen n c).tree x = s.tree x := by simp [State.tree]
@[simp] theorem bus_setTen (n : Nat) (c : Tenant) (x : Nat) : (s.setTen n c).bus x = s.bus x := by simp [State.bus]
@[simp] theorem mr_setTen (n : Nat) (c : Tenant) (x : Nat) : (s.setTen n c).mr x = s.mr x := by simp [State.mr]
@[simp] theorem reg_setSlot (n : Nat) (v : Slot) (x : Nat) : (s.setSlot n v).reg x = s.reg x := by simp [State.reg]
@[simp] theorem ten_setSlot (n : Nat) (v : Slot) (x : Nat) : (s.setSlot n v).ten x = s.ten x := by simp [State.ten]
@[simp] theorem qp_setSlot (n : Nat) (v : Slot) (x : Nat) : (s.setSlot n v).qp x = s.qp x := by simp [State.qp]
@[simp] theorem seng_setSlot (n : Nat) (v : Slot) (x : Nat) : (s.setSlot n v).seng x = s.seng x := by simp [State.seng]
@[simp] theorem aeng_setSlot (n : Nat) (v : Slot) (x : Nat) : (s.setSlot n v).aeng x = s.aeng x := by simp [State.aeng]
@[simp] theorem man_setSlot (n : Nat) (v : Slot) (x : Nat) : (s.setSlot n v).man x = s.man x := by simp [State.man]
@[simp] theorem link_setSlot (n : Nat) (v : Slot) (x : Nat) : (s.setSlot n v).link x = s.link x := by simp [State.link]
@[simp] theorem ward_setSlot (n : Nat) (v : Slot) (x : Nat) : (s.setSlot n v).ward x = s.ward x := by simp [State.ward]
@[simp] theorem job_setSlot (n : Nat) (v : Slot) (x : Origin) : (s.setSlot n v).job? x = s.job? x := by simp [State.job?]
@[simp] theorem tree_setSlot (n : Nat) (v : Slot) (x : Nat) : (s.setSlot n v).tree x = s.tree x := by simp [State.tree]
@[simp] theorem bus_setSlot (n : Nat) (v : Slot) (x : Nat) : (s.setSlot n v).bus x = s.bus x := by simp [State.bus]
@[simp] theorem mr_setSlot (n : Nat) (v : Slot) (x : Nat) : (s.setSlot n v).mr x = s.mr x := by simp [State.mr]
@[simp] theorem reg_setTree (n : Nat) (k : Tree) (x : Nat) : (s.setTree n k).reg x = s.reg x := by simp [State.reg]
@[simp] theorem slot_setTree (n : Nat) (k : Tree) (x : Nat) : (s.setTree n k).slot x = s.slot x := by simp [State.slot]
@[simp] theorem ten_setTree (n : Nat) (k : Tree) (x : Nat) : (s.setTree n k).ten x = s.ten x := by simp [State.ten]
@[simp] theorem qp_setTree (n : Nat) (k : Tree) (x : Nat) : (s.setTree n k).qp x = s.qp x := by simp [State.qp]
@[simp] theorem seng_setTree (n : Nat) (k : Tree) (x : Nat) : (s.setTree n k).seng x = s.seng x := by simp [State.seng]
@[simp] theorem aeng_setTree (n : Nat) (k : Tree) (x : Nat) : (s.setTree n k).aeng x = s.aeng x := by simp [State.aeng]
@[simp] theorem man_setTree (n : Nat) (k : Tree) (x : Nat) : (s.setTree n k).man x = s.man x := by simp [State.man]
@[simp] theorem link_setTree (n : Nat) (k : Tree) (x : Nat) : (s.setTree n k).link x = s.link x := by simp [State.link]
@[simp] theorem ward_setTree (n : Nat) (k : Tree) (x : Nat) : (s.setTree n k).ward x = s.ward x := by simp [State.ward]
@[simp] theorem job_setTree (n : Nat) (k : Tree) (x : Origin) : (s.setTree n k).job? x = s.job? x := by simp [State.job?]
@[simp] theorem bus_setTree (n : Nat) (k : Tree) (x : Nat) : (s.setTree n k).bus x = s.bus x := by simp [State.bus]
@[simp] theorem mr_setTree (n : Nat) (k : Tree) (x : Nat) : (s.setTree n k).mr x = s.mr x := by simp [State.mr]
@[simp] theorem reg_setSeng (n : Nat) (e : SealEngine) (x : Nat) : (s.setSeng n e).reg x = s.reg x := by simp [State.reg]
@[simp] theorem slot_setSeng (n : Nat) (e : SealEngine) (x : Nat) : (s.setSeng n e).slot x = s.slot x := by simp [State.slot]
@[simp] theorem ten_setSeng (n : Nat) (e : SealEngine) (x : Nat) : (s.setSeng n e).ten x = s.ten x := by simp [State.ten]
@[simp] theorem qp_setSeng (n : Nat) (e : SealEngine) (x : Nat) : (s.setSeng n e).qp x = s.qp x := by simp [State.qp]
@[simp] theorem aeng_setSeng (n : Nat) (e : SealEngine) (x : Nat) : (s.setSeng n e).aeng x = s.aeng x := by simp [State.aeng]
@[simp] theorem man_setSeng (n : Nat) (e : SealEngine) (x : Nat) : (s.setSeng n e).man x = s.man x := by simp [State.man]
@[simp] theorem link_setSeng (n : Nat) (e : SealEngine) (x : Nat) : (s.setSeng n e).link x = s.link x := by simp [State.link]
@[simp] theorem ward_setSeng (n : Nat) (e : SealEngine) (x : Nat) : (s.setSeng n e).ward x = s.ward x := by simp [State.ward]
@[simp] theorem job_setSeng (n : Nat) (e : SealEngine) (x : Origin) : (s.setSeng n e).job? x = s.job? x := by simp [State.job?]
@[simp] theorem tree_setSeng (n : Nat) (e : SealEngine) (x : Nat) : (s.setSeng n e).tree x = s.tree x := by simp [State.tree]
@[simp] theorem bus_setSeng (n : Nat) (e : SealEngine) (x : Nat) : (s.setSeng n e).bus x = s.bus x := by simp [State.bus]
@[simp] theorem mr_setSeng (n : Nat) (e : SealEngine) (x : Nat) : (s.setSeng n e).mr x = s.mr x := by simp [State.mr]
@[simp] theorem reg_setAeng (n : Nat) (e : ArithEngine) (x : Nat) : (s.setAeng n e).reg x = s.reg x := by simp [State.reg]
@[simp] theorem slot_setAeng (n : Nat) (e : ArithEngine) (x : Nat) : (s.setAeng n e).slot x = s.slot x := by simp [State.slot]
@[simp] theorem ten_setAeng (n : Nat) (e : ArithEngine) (x : Nat) : (s.setAeng n e).ten x = s.ten x := by simp [State.ten]
@[simp] theorem qp_setAeng (n : Nat) (e : ArithEngine) (x : Nat) : (s.setAeng n e).qp x = s.qp x := by simp [State.qp]
@[simp] theorem seng_setAeng (n : Nat) (e : ArithEngine) (x : Nat) : (s.setAeng n e).seng x = s.seng x := by simp [State.seng]
@[simp] theorem man_setAeng (n : Nat) (e : ArithEngine) (x : Nat) : (s.setAeng n e).man x = s.man x := by simp [State.man]
@[simp] theorem link_setAeng (n : Nat) (e : ArithEngine) (x : Nat) : (s.setAeng n e).link x = s.link x := by simp [State.link]
@[simp] theorem ward_setAeng (n : Nat) (e : ArithEngine) (x : Nat) : (s.setAeng n e).ward x = s.ward x := by simp [State.ward]
@[simp] theorem job_setAeng (n : Nat) (e : ArithEngine) (x : Origin) : (s.setAeng n e).job? x = s.job? x := by simp [State.job?]
@[simp] theorem tree_setAeng (n : Nat) (e : ArithEngine) (x : Nat) : (s.setAeng n e).tree x = s.tree x := by simp [State.tree]
@[simp] theorem bus_setAeng (n : Nat) (e : ArithEngine) (x : Nat) : (s.setAeng n e).bus x = s.bus x := by simp [State.bus]
@[simp] theorem mr_setAeng (n : Nat) (e : ArithEngine) (x : Nat) : (s.setAeng n e).mr x = s.mr x := by simp [State.mr]
@[simp] theorem reg_setMan (n : Nat) (m : Manifest) (x : Nat) : (s.setMan n m).reg x = s.reg x := by simp [State.reg]
@[simp] theorem slot_setMan (n : Nat) (m : Manifest) (x : Nat) : (s.setMan n m).slot x = s.slot x := by simp [State.slot]
@[simp] theorem ten_setMan (n : Nat) (m : Manifest) (x : Nat) : (s.setMan n m).ten x = s.ten x := by simp [State.ten]
@[simp] theorem qp_setMan (n : Nat) (m : Manifest) (x : Nat) : (s.setMan n m).qp x = s.qp x := by simp [State.qp]
@[simp] theorem seng_setMan (n : Nat) (m : Manifest) (x : Nat) : (s.setMan n m).seng x = s.seng x := by simp [State.seng]
@[simp] theorem aeng_setMan (n : Nat) (m : Manifest) (x : Nat) : (s.setMan n m).aeng x = s.aeng x := by simp [State.aeng]
@[simp] theorem link_setMan (n : Nat) (m : Manifest) (x : Nat) : (s.setMan n m).link x = s.link x := by simp [State.link]
@[simp] theorem ward_setMan (n : Nat) (m : Manifest) (x : Nat) : (s.setMan n m).ward x = s.ward x := by simp [State.ward]
@[simp] theorem job_setMan (n : Nat) (m : Manifest) (x : Origin) : (s.setMan n m).job? x = s.job? x := by simp [State.job?]
@[simp] theorem tree_setMan (n : Nat) (m : Manifest) (x : Nat) : (s.setMan n m).tree x = s.tree x := by simp [State.tree]
@[simp] theorem bus_setMan (n : Nat) (m : Manifest) (x : Nat) : (s.setMan n m).bus x = s.bus x := by simp [State.bus]
@[simp] theorem mr_setMan (n : Nat) (m : Manifest) (x : Nat) : (s.setMan n m).mr x = s.mr x := by simp [State.mr]
@[simp] theorem reg_setLink (l : Nat) (v : Link) (x : Nat) : (s.setLink l v).reg x = s.reg x := by simp [State.reg]
@[simp] theorem slot_setLink (l : Nat) (v : Link) (x : Nat) : (s.setLink l v).slot x = s.slot x := by simp [State.slot]
@[simp] theorem ten_setLink (l : Nat) (v : Link) (x : Nat) : (s.setLink l v).ten x = s.ten x := by simp [State.ten]
@[simp] theorem qp_setLink (l : Nat) (v : Link) (x : Nat) : (s.setLink l v).qp x = s.qp x := by simp [State.qp]
@[simp] theorem seng_setLink (l : Nat) (v : Link) (x : Nat) : (s.setLink l v).seng x = s.seng x := by simp [State.seng]
@[simp] theorem aeng_setLink (l : Nat) (v : Link) (x : Nat) : (s.setLink l v).aeng x = s.aeng x := by simp [State.aeng]
@[simp] theorem man_setLink (l : Nat) (v : Link) (x : Nat) : (s.setLink l v).man x = s.man x := by simp [State.man]
@[simp] theorem ward_setLink (l : Nat) (v : Link) (x : Nat) : (s.setLink l v).ward x = s.ward x := by simp [State.ward]
@[simp] theorem job_setLink (l : Nat) (v : Link) (x : Origin) : (s.setLink l v).job? x = s.job? x := by simp [State.job?]
@[simp] theorem tree_setLink (l : Nat) (v : Link) (x : Nat) : (s.setLink l v).tree x = s.tree x := by simp [State.tree]
@[simp] theorem bus_setLink (l : Nat) (v : Link) (x : Nat) : (s.setLink l v).bus x = s.bus x := by simp [State.bus]
@[simp] theorem mr_setLink (l : Nat) (v : Link) (x : Nat) : (s.setLink l v).mr x = s.mr x := by simp [State.mr]
@[simp] theorem reg_setWard (w : Nat) (v : Ward) (x : Nat) : (s.setWard w v).reg x = s.reg x := by simp [State.reg]
@[simp] theorem slot_setWard (w : Nat) (v : Ward) (x : Nat) : (s.setWard w v).slot x = s.slot x := by simp [State.slot]
@[simp] theorem ten_setWard (w : Nat) (v : Ward) (x : Nat) : (s.setWard w v).ten x = s.ten x := by simp [State.ten]
@[simp] theorem qp_setWard (w : Nat) (v : Ward) (x : Nat) : (s.setWard w v).qp x = s.qp x := by simp [State.qp]
@[simp] theorem seng_setWard (w : Nat) (v : Ward) (x : Nat) : (s.setWard w v).seng x = s.seng x := by simp [State.seng]
@[simp] theorem aeng_setWard (w : Nat) (v : Ward) (x : Nat) : (s.setWard w v).aeng x = s.aeng x := by simp [State.aeng]
@[simp] theorem man_setWard (w : Nat) (v : Ward) (x : Nat) : (s.setWard w v).man x = s.man x := by simp [State.man]
@[simp] theorem link_setWard (w : Nat) (v : Ward) (x : Nat) : (s.setWard w v).link x = s.link x := by simp [State.link]
@[simp] theorem job_setWard (w : Nat) (v : Ward) (x : Origin) : (s.setWard w v).job? x = s.job? x := by simp [State.job?]
@[simp] theorem tree_setWard (w : Nat) (v : Ward) (x : Nat) : (s.setWard w v).tree x = s.tree x := by simp [State.tree]
@[simp] theorem bus_setWard (w : Nat) (v : Ward) (x : Nat) : (s.setWard w v).bus x = s.bus x := by simp [State.bus]
@[simp] theorem mr_setWard (w : Nat) (v : Ward) (x : Nat) : (s.setWard w v).mr x = s.mr x := by simp [State.mr]
@[simp] theorem reg_setBus (b : Nat) (v : TknBus) (x : Nat) : (s.setBus b v).reg x = s.reg x := by simp [State.reg]
@[simp] theorem slot_setBus (b : Nat) (v : TknBus) (x : Nat) : (s.setBus b v).slot x = s.slot x := by simp [State.slot]
@[simp] theorem ten_setBus (b : Nat) (v : TknBus) (x : Nat) : (s.setBus b v).ten x = s.ten x := by simp [State.ten]
@[simp] theorem qp_setBus (b : Nat) (v : TknBus) (x : Nat) : (s.setBus b v).qp x = s.qp x := by simp [State.qp]
@[simp] theorem seng_setBus (b : Nat) (v : TknBus) (x : Nat) : (s.setBus b v).seng x = s.seng x := by simp [State.seng]
@[simp] theorem aeng_setBus (b : Nat) (v : TknBus) (x : Nat) : (s.setBus b v).aeng x = s.aeng x := by simp [State.aeng]
@[simp] theorem man_setBus (b : Nat) (v : TknBus) (x : Nat) : (s.setBus b v).man x = s.man x := by simp [State.man]
@[simp] theorem link_setBus (b : Nat) (v : TknBus) (x : Nat) : (s.setBus b v).link x = s.link x := by simp [State.link]
@[simp] theorem ward_setBus (b : Nat) (v : TknBus) (x : Nat) : (s.setBus b v).ward x = s.ward x := by simp [State.ward]
@[simp] theorem job_setBus (b : Nat) (v : TknBus) (x : Origin) : (s.setBus b v).job? x = s.job? x := by simp [State.job?]
@[simp] theorem tree_setBus (b : Nat) (v : TknBus) (x : Nat) : (s.setBus b v).tree x = s.tree x := by simp [State.tree]
@[simp] theorem mr_setBus (b : Nat) (v : TknBus) (x : Nat) : (s.setBus b v).mr x = s.mr x := by simp [State.mr]
@[simp] theorem reg_setCer (c : Ceremony) (x : Nat) : (s.setCer c).reg x = s.reg x := by simp [State.reg]
@[simp] theorem slot_setCer (c : Ceremony) (x : Nat) : (s.setCer c).slot x = s.slot x := by simp [State.slot]
@[simp] theorem ten_setCer (c : Ceremony) (x : Nat) : (s.setCer c).ten x = s.ten x := by simp [State.ten]
@[simp] theorem qp_setCer (c : Ceremony) (x : Nat) : (s.setCer c).qp x = s.qp x := by simp [State.qp]
@[simp] theorem seng_setCer (c : Ceremony) (x : Nat) : (s.setCer c).seng x = s.seng x := by simp [State.seng]
@[simp] theorem aeng_setCer (c : Ceremony) (x : Nat) : (s.setCer c).aeng x = s.aeng x := by simp [State.aeng]
@[simp] theorem man_setCer (c : Ceremony) (x : Nat) : (s.setCer c).man x = s.man x := by simp [State.man]
@[simp] theorem link_setCer (c : Ceremony) (x : Nat) : (s.setCer c).link x = s.link x := by simp [State.link]
@[simp] theorem ward_setCer (c : Ceremony) (x : Nat) : (s.setCer c).ward x = s.ward x := by simp [State.ward]
@[simp] theorem job_setCer (c : Ceremony) (x : Origin) : (s.setCer c).job? x = s.job? x := by simp [State.job?]
@[simp] theorem tree_setCer (c : Ceremony) (x : Nat) : (s.setCer c).tree x = s.tree x := by simp [State.tree]
@[simp] theorem mr_setCer (c : Ceremony) (x : Nat) : (s.setCer c).mr x = s.mr x := by simp [State.mr]
@[simp] theorem reg_send (m : Msg) (x : Nat) : (s.send m).reg x = s.reg x := by simp [State.reg]
@[simp] theorem slot_send (m : Msg) (x : Nat) : (s.send m).slot x = s.slot x := by simp [State.slot]
@[simp] theorem ten_send (m : Msg) (x : Nat) : (s.send m).ten x = s.ten x := by simp [State.ten]
@[simp] theorem qp_send (m : Msg) (x : Nat) : (s.send m).qp x = s.qp x := by simp [State.qp]
@[simp] theorem seng_send (m : Msg) (x : Nat) : (s.send m).seng x = s.seng x := by simp [State.seng]
@[simp] theorem aeng_send (m : Msg) (x : Nat) : (s.send m).aeng x = s.aeng x := by simp [State.aeng]
@[simp] theorem man_send (m : Msg) (x : Nat) : (s.send m).man x = s.man x := by simp [State.man]
@[simp] theorem link_send (m : Msg) (x : Nat) : (s.send m).link x = s.link x := by simp [State.link]
@[simp] theorem ward_send (m : Msg) (x : Nat) : (s.send m).ward x = s.ward x := by simp [State.ward]
@[simp] theorem job_send (m : Msg) (x : Origin) : (s.send m).job? x = s.job? x := by simp [State.job?]
@[simp] theorem tree_send (m : Msg) (x : Nat) : (s.send m).tree x = s.tree x := by simp [State.tree]
@[simp] theorem bus_send (m : Msg) (x : Nat) : (s.send m).bus x = s.bus x := by simp [State.bus]
@[simp] theorem mr_send (m : Msg) (x : Nat) : (s.send m).mr x = s.mr x := by simp [State.mr]
@[simp] theorem reg_addJob (j : Job) (x : Nat) : (s.addJob j).reg x = s.reg x := by simp [State.reg]
@[simp] theorem slot_addJob (j : Job) (x : Nat) : (s.addJob j).slot x = s.slot x := by simp [State.slot]
@[simp] theorem ten_addJob (j : Job) (x : Nat) : (s.addJob j).ten x = s.ten x := by simp [State.ten]
@[simp] theorem qp_addJob (j : Job) (x : Nat) : (s.addJob j).qp x = s.qp x := by simp [State.qp]
@[simp] theorem seng_addJob (j : Job) (x : Nat) : (s.addJob j).seng x = s.seng x := by simp [State.seng]
@[simp] theorem aeng_addJob (j : Job) (x : Nat) : (s.addJob j).aeng x = s.aeng x := by simp [State.aeng]
@[simp] theorem man_addJob (j : Job) (x : Nat) : (s.addJob j).man x = s.man x := by simp [State.man]
@[simp] theorem link_addJob (j : Job) (x : Nat) : (s.addJob j).link x = s.link x := by simp [State.link]
@[simp] theorem ward_addJob (j : Job) (x : Nat) : (s.addJob j).ward x = s.ward x := by simp [State.ward]
@[simp] theorem tree_addJob (j : Job) (x : Nat) : (s.addJob j).tree x = s.tree x := by simp [State.tree]
@[simp] theorem bus_addJob (j : Job) (x : Nat) : (s.addJob j).bus x = s.bus x := by simp [State.bus]
@[simp] theorem mr_addJob (j : Job) (x : Nat) : (s.addJob j).mr x = s.mr x := by simp [State.mr]
@[simp] theorem reg_setJob (j : Job) (x : Nat) : (s.setJob j).reg x = s.reg x := by simp [State.reg]
@[simp] theorem slot_setJob (j : Job) (x : Nat) : (s.setJob j).slot x = s.slot x := by simp [State.slot]
@[simp] theorem ten_setJob (j : Job) (x : Nat) : (s.setJob j).ten x = s.ten x := by simp [State.ten]
@[simp] theorem qp_setJob (j : Job) (x : Nat) : (s.setJob j).qp x = s.qp x := by simp [State.qp]
@[simp] theorem seng_setJob (j : Job) (x : Nat) : (s.setJob j).seng x = s.seng x := by simp [State.seng]
@[simp] theorem aeng_setJob (j : Job) (x : Nat) : (s.setJob j).aeng x = s.aeng x := by simp [State.aeng]
@[simp] theorem man_setJob (j : Job) (x : Nat) : (s.setJob j).man x = s.man x := by simp [State.man]
@[simp] theorem link_setJob (j : Job) (x : Nat) : (s.setJob j).link x = s.link x := by simp [State.link]
@[simp] theorem ward_setJob (j : Job) (x : Nat) : (s.setJob j).ward x = s.ward x := by simp [State.ward]
@[simp] theorem tree_setJob (j : Job) (x : Nat) : (s.setJob j).tree x = s.tree x := by simp [State.tree]
@[simp] theorem bus_setJob (j : Job) (x : Nat) : (s.setJob j).bus x = s.bus x := by simp [State.bus]
@[simp] theorem mr_setJob (j : Job) (x : Nat) : (s.setJob j).mr x = s.mr x := by simp [State.mr]
@[simp] theorem reg_dropJob (o : Origin) (x : Nat) : (s.dropJob o).reg x = s.reg x := by simp [State.reg]
@[simp] theorem slot_dropJob (o : Origin) (x : Nat) : (s.dropJob o).slot x = s.slot x := by simp [State.slot]
@[simp] theorem ten_dropJob (o : Origin) (x : Nat) : (s.dropJob o).ten x = s.ten x := by simp [State.ten]
@[simp] theorem qp_dropJob (o : Origin) (x : Nat) : (s.dropJob o).qp x = s.qp x := by simp [State.qp]
@[simp] theorem seng_dropJob (o : Origin) (x : Nat) : (s.dropJob o).seng x = s.seng x := by simp [State.seng]
@[simp] theorem aeng_dropJob (o : Origin) (x : Nat) : (s.dropJob o).aeng x = s.aeng x := by simp [State.aeng]
@[simp] theorem man_dropJob (o : Origin) (x : Nat) : (s.dropJob o).man x = s.man x := by simp [State.man]
@[simp] theorem link_dropJob (o : Origin) (x : Nat) : (s.dropJob o).link x = s.link x := by simp [State.link]
@[simp] theorem ward_dropJob (o : Origin) (x : Nat) : (s.dropJob o).ward x = s.ward x := by simp [State.ward]
@[simp] theorem tree_dropJob (o : Origin) (x : Nat) : (s.dropJob o).tree x = s.tree x := by simp [State.tree]
@[simp] theorem bus_dropJob (o : Origin) (x : Nat) : (s.dropJob o).bus x = s.bus x := by simp [State.bus]
@[simp] theorem mr_dropJob (o : Origin) (x : Nat) : (s.dropJob o).mr x = s.mr x := by simp [State.mr]

end Sys2Proof.Machine
end

