-- ==== Sys2Proof/Laws/Frames.lean ====
section
/-! SUPPORT. What the operations that every command shares leave as it was. -/

set_option linter.all false

namespace Sys2Proof.Machine

/-! ### ambAppend -/

@[simp] theorem ambAppend_clk (s : State) (ty island : Nat) (body : List Nat) : (ambAppend s ty island body).clk = s.clk := by
  unfold ambAppend; (repeat' split) <;> rfl
@[simp] theorem ambAppend_mode (s : State) (ty island : Nat) (body : List Nat) : (ambAppend s ty island body).mode = s.mode := by
  unfold ambAppend; (repeat' split) <;> rfl
@[simp] theorem ambAppend_portA (s : State) (ty island : Nat) (body : List Nat) : (ambAppend s ty island body).portA = s.portA := by
  unfold ambAppend; (repeat' split) <;> rfl
@[simp] theorem ambAppend_portB (s : State) (ty island : Nat) (body : List Nat) : (ambAppend s ty island body).portB = s.portB := by
  unfold ambAppend; (repeat' split) <;> rfl
@[simp] theorem ambAppend_jobs (s : State) (ty island : Nat) (body : List Nat) : (ambAppend s ty island body).jobs = s.jobs := by
  unfold ambAppend; (repeat' split) <;> rfl
@[simp] theorem ambAppend_heldJobs (s : State) (ty island : Nat) (body : List Nat) : (ambAppend s ty island body).heldJobs = s.heldJobs := by
  unfold ambAppend; (repeat' split) <;> rfl
@[simp] theorem ambAppend_qps (s : State) (ty island : Nat) (body : List Nat) : (ambAppend s ty island body).qps = s.qps := by
  unfold ambAppend; (repeat' split) <;> rfl
@[simp] theorem ambAppend_sched (s : State) (ty island : Nat) (body : List Nat) : (ambAppend s ty island body).sched = s.sched := by
  unfold ambAppend; (repeat' split) <;> rfl
@[simp] theorem ambAppend_manifests (s : State) (ty island : Nat) (body : List Nat) : (ambAppend s ty island body).manifests = s.manifests := by
  unfold ambAppend; (repeat' split) <;> rfl
@[simp] theorem ambAppend_nextManifest (s : State) (ty island : Nat) (body : List Nat) : (ambAppend s ty island body).nextManifest = s.nextManifest := by
  unfold ambAppend; (repeat' split) <;> rfl
@[simp] theorem ambAppend_sealEngines (s : State) (ty island : Nat) (body : List Nat) : (ambAppend s ty island body).sealEngines = s.sealEngines := by
  unfold ambAppend; (repeat' split) <;> rfl
@[simp] theorem ambAppend_digests (s : State) (ty island : Nat) (body : List Nat) : (ambAppend s ty island body).digests = s.digests := by
  unfold ambAppend; (repeat' split) <;> rfl
@[simp] theorem ambAppend_meas (s : State) (ty island : Nat) (body : List Nat) : (ambAppend s ty island body).meas = s.meas := by
  unfold ambAppend; (repeat' split) <;> rfl
@[simp] theorem ambAppend_measLog (s : State) (ty island : Nat) (body : List Nat) : (ambAppend s ty island body).measLog = s.measLog := by
  unfold ambAppend; (repeat' split) <;> rfl
@[simp] theorem ambAppend_measNext (s : State) (ty island : Nat) (body : List Nat) : (ambAppend s ty island body).measNext = s.measNext := by
  unfold ambAppend; (repeat' split) <;> rfl
@[simp] theorem ambAppend_measOverflow (s : State) (ty island : Nat) (body : List Nat) : (ambAppend s ty island body).measOverflow = s.measOverflow := by
  unfold ambAppend; (repeat' split) <;> rfl
@[simp] theorem ambAppend_truncOffered (s : State) (ty island : Nat) (body : List Nat) : (ambAppend s ty island body).truncOffered = s.truncOffered := by
  unfold ambAppend; (repeat' split) <;> rfl
@[simp] theorem ambAppend_slots (s : State) (ty island : Nat) (body : List Nat) : (ambAppend s ty island body).slots = s.slots := by
  unfold ambAppend; (repeat' split) <;> rfl
@[simp] theorem ambAppend_pufSecret (s : State) (ty island : Nat) (body : List Nat) : (ambAppend s ty island body).pufSecret = s.pufSecret := by
  unfold ambAppend; (repeat' split) <;> rfl
@[simp] theorem ambAppend_keyed (s : State) (ty island : Nat) (body : List Nat) : (ambAppend s ty island body).keyed = s.keyed := by
  unfold ambAppend; (repeat' split) <;> rfl
@[simp] theorem ambAppend_cdk (s : State) (ty island : Nat) (body : List Nat) : (ambAppend s ty island body).cdk = s.cdk := by
  unfold ambAppend; (repeat' split) <;> rfl
@[simp] theorem ambAppend_zeroised (s : State) (ty island : Nat) (body : List Nat) : (ambAppend s ty island body).zeroised = s.zeroised := by
  unfold ambAppend; (repeat' split) <;> rfl
@[simp] theorem ambAppend_agate (s : State) (ty island : Nat) (body : List Nat) : (ambAppend s ty island body).agate = s.agate := by
  unfold ambAppend; (repeat' split) <;> rfl
@[simp] theorem ambAppend_arith (s : State) (ty island : Nat) (body : List Nat) : (ambAppend s ty island body).arith = s.arith := by
  unfold ambAppend; (repeat' split) <;> rfl
@[simp] theorem ambAppend_sources (s : State) (ty island : Nat) (body : List Nat) : (ambAppend s ty island body).sources = s.sources := by
  unfold ambAppend; (repeat' split) <;> rfl
@[simp] theorem ambAppend_entropy (s : State) (ty island : Nat) (body : List Nat) : (ambAppend s ty island body).entropy = s.entropy := by
  unfold ambAppend; (repeat' split) <;> rfl
@[simp] theorem ambAppend_filling (s : State) (ty island : Nat) (body : List Nat) : (ambAppend s ty island body).filling = s.filling := by
  unfold ambAppend; (repeat' split) <;> rfl
@[simp] theorem ambAppend_lfsr (s : State) (ty island : Nat) (body : List Nat) : (ambAppend s ty island body).lfsr = s.lfsr := by
  unfold ambAppend; (repeat' split) <;> rfl
@[simp] theorem ambAppend_drbgs (s : State) (ty island : Nat) (body : List Nat) : (ambAppend s ty island body).drbgs = s.drbgs := by
  unfold ambAppend; (repeat' split) <;> rfl
@[simp] theorem ambAppend_tenants (s : State) (ty island : Nat) (body : List Nat) : (ambAppend s ty island body).tenants = s.tenants := by
  unfold ambAppend; (repeat' split) <;> rfl
@[simp] theorem ambAppend_cfg (s : State) (ty island : Nat) (body : List Nat) : (ambAppend s ty island body).cfg = s.cfg := by
  unfold ambAppend; (repeat' split) <;> rfl
@[simp] theorem ambAppend_fuses (s : State) (ty island : Nat) (body : List Nat) : (ambAppend s ty island body).fuses = s.fuses := by
  unfold ambAppend; (repeat' split) <;> rfl
@[simp] theorem ambAppend_boot (s : State) (ty island : Nat) (body : List Nat) : (ambAppend s ty island body).boot = s.boot := by
  unfold ambAppend; (repeat' split) <;> rfl
@[simp] theorem ambAppend_lcs (s : State) (ty island : Nat) (body : List Nat) : (ambAppend s ty island body).lcs = s.lcs := by
  unfold ambAppend; (repeat' split) <;> rfl
@[simp] theorem ambAppend_tamper (s : State) (ty island : Nat) (body : List Nat) : (ambAppend s ty island body).tamper = s.tamper := by
  unfold ambAppend; (repeat' split) <;> rfl
@[simp] theorem ambAppend_pins (s : State) (ty island : Nat) (body : List Nat) : (ambAppend s ty island body).pins = s.pins := by
  unfold ambAppend; (repeat' split) <;> rfl
@[simp] theorem ambAppend_wards (s : State) (ty island : Nat) (body : List Nat) : (ambAppend s ty island body).wards = s.wards := by
  unfold ambAppend; (repeat' split) <;> rfl
@[simp] theorem ambAppend_tkn (s : State) (ty island : Nat) (body : List Nat) : (ambAppend s ty island body).tkn = s.tkn := by
  unfold ambAppend; (repeat' split) <;> rfl
@[simp] theorem ambAppend_internalDone (s : State) (ty island : Nat) (body : List Nat) : (ambAppend s ty island body).internalDone = s.internalDone := by
  unfold ambAppend; (repeat' split) <;> rfl
@[simp] theorem ambAppend_recorder (s : State) (ty island : Nat) (body : List Nat) : (ambAppend s ty island body).recorder = s.recorder := by
  unfold ambAppend; (repeat' split) <;> rfl
@[simp] theorem ambAppend_links (s : State) (ty island : Nat) (body : List Nat) : (ambAppend s ty island body).links = s.links := by
  unfold ambAppend; (repeat' split) <;> rfl
@[simp] theorem ambAppend_fabric (s : State) (ty island : Nat) (body : List Nat) : (ambAppend s ty island body).fabric = s.fabric := by
  unfold ambAppend; (repeat' split) <;> rfl
@[simp] theorem ambAppend_nor (s : State) (ty island : Nat) (body : List Nat) : (ambAppend s ty island body).nor = s.nor := by
  unfold ambAppend; (repeat' split) <;> rfl
@[simp] theorem ambAppend_mem (s : State) (ty island : Nat) (body : List Nat) : (ambAppend s ty island body).mem = s.mem := by
  unfold ambAppend; (repeat' split) <;> rfl
@[simp] theorem ambAppend_quartz (s : State) (ty island : Nat) (body : List Nat) : (ambAppend s ty island body).quartz = s.quartz := by
  unfold ambAppend; (repeat' split) <;> rfl
@[simp] theorem ambAppend_regs (s : State) (ty island : Nat) (body : List Nat) : (ambAppend s ty island body).regs = s.regs := by
  unfold ambAppend; (repeat' split) <;> rfl
@[simp] theorem ambAppend_out (s : State) (ty island : Nat) (body : List Nat) : (ambAppend s ty island body).out = s.out := by
  unfold ambAppend; (repeat' split) <;> rfl
@[simp] theorem ambAppend_freeIdx (s : State) (ty island : Nat) (body : List Nat) : (ambAppend s ty island body).freeIdx = s.freeIdx := by
  unfold ambAppend; (repeat' split) <;> rfl
@[simp] theorem ambAppend_pending (s : State) (ty island : Nat) (body : List Nat) : (ambAppend s ty island body).pending = s.pending := by
  unfold ambAppend; (repeat' split) <;> rfl

/-! ### capture -/

@[simp] theorem capture_clk (s : State) (ty island : Nat) (body : List Nat) : (capture s ty island body).clk = s.clk := by
  unfold capture; (repeat' split) <;> (simp; done)
@[simp] theorem capture_mode (s : State) (ty island : Nat) (body : List Nat) : (capture s ty island body).mode = s.mode := by
  unfold capture; (repeat' split) <;> (simp; done)
@[simp] theorem capture_portA (s : State) (ty island : Nat) (body : List Nat) : (capture s ty island body).portA = s.portA := by
  unfold capture; (repeat' split) <;> (simp; done)
@[simp] theorem capture_portB (s : State) (ty island : Nat) (body : List Nat) : (capture s ty island body).portB = s.portB := by
  unfold capture; (repeat' split) <;> (simp; done)
@[simp] theorem capture_jobs (s : State) (ty island : Nat) (body : List Nat) : (capture s ty island body).jobs = s.jobs := by
  unfold capture; (repeat' split) <;> (simp; done)
@[simp] theorem capture_heldJobs (s : State) (ty island : Nat) (body : List Nat) : (capture s ty island body).heldJobs = s.heldJobs := by
  unfold capture; (repeat' split) <;> (simp; done)
@[simp] theorem capture_qps (s : State) (ty island : Nat) (body : List Nat) : (capture s ty island body).qps = s.qps := by
  unfold capture; (repeat' split) <;> (simp; done)
@[simp] theorem capture_sched (s : State) (ty island : Nat) (body : List Nat) : (capture s ty island body).sched = s.sched := by
  unfold capture; (repeat' split) <;> (simp; done)
@[simp] theorem capture_manifests (s : State) (ty island : Nat) (body : List Nat) : (capture s ty island body).manifests = s.manifests := by
  unfold capture; (repeat' split) <;> (simp; done)
@[simp] theorem capture_nextManifest (s : State) (ty island : Nat) (body : List Nat) : (capture s ty island body).nextManifest = s.nextManifest := by
  unfold capture; (repeat' split) <;> (simp; done)
@[simp] theorem capture_sealEngines (s : State) (ty island : Nat) (body : List Nat) : (capture s ty island body).sealEngines = s.sealEngines := by
  unfold capture; (repeat' split) <;> (simp; done)
@[simp] theorem capture_digests (s : State) (ty island : Nat) (body : List Nat) : (capture s ty island body).digests = s.digests := by
  unfold capture; (repeat' split) <;> (simp; done)
@[simp] theorem capture_meas (s : State) (ty island : Nat) (body : List Nat) : (capture s ty island body).meas = s.meas := by
  unfold capture; (repeat' split) <;> (simp; done)
@[simp] theorem capture_measLog (s : State) (ty island : Nat) (body : List Nat) : (capture s ty island body).measLog = s.measLog := by
  unfold capture; (repeat' split) <;> (simp; done)
@[simp] theorem capture_measNext (s : State) (ty island : Nat) (body : List Nat) : (capture s ty island body).measNext = s.measNext := by
  unfold capture; (repeat' split) <;> (simp; done)
@[simp] theorem capture_measOverflow (s : State) (ty island : Nat) (body : List Nat) : (capture s ty island body).measOverflow = s.measOverflow := by
  unfold capture; (repeat' split) <;> (simp; done)
@[simp] theorem capture_truncOffered (s : State) (ty island : Nat) (body : List Nat) : (capture s ty island body).truncOffered = s.truncOffered := by
  unfold capture; (repeat' split) <;> (simp; done)
@[simp] theorem capture_slots (s : State) (ty island : Nat) (body : List Nat) : (capture s ty island body).slots = s.slots := by
  unfold capture; (repeat' split) <;> (simp; done)
@[simp] theorem capture_pufSecret (s : State) (ty island : Nat) (body : List Nat) : (capture s ty island body).pufSecret = s.pufSecret := by
  unfold capture; (repeat' split) <;> (simp; done)
@[simp] theorem capture_keyed (s : State) (ty island : Nat) (body : List Nat) : (capture s ty island body).keyed = s.keyed := by
  unfold capture; (repeat' split) <;> (simp; done)
@[simp] theorem capture_cdk (s : State) (ty island : Nat) (body : List Nat) : (capture s ty island body).cdk = s.cdk := by
  unfold capture; (repeat' split) <;> (simp; done)
@[simp] theorem capture_zeroised (s : State) (ty island : Nat) (body : List Nat) : (capture s ty island body).zeroised = s.zeroised := by
  unfold capture; (repeat' split) <;> (simp; done)
@[simp] theorem capture_agate (s : State) (ty island : Nat) (body : List Nat) : (capture s ty island body).agate = s.agate := by
  unfold capture; (repeat' split) <;> (simp; done)
@[simp] theorem capture_arith (s : State) (ty island : Nat) (body : List Nat) : (capture s ty island body).arith = s.arith := by
  unfold capture; (repeat' split) <;> (simp; done)
@[simp] theorem capture_sources (s : State) (ty island : Nat) (body : List Nat) : (capture s ty island body).sources = s.sources := by
  unfold capture; (repeat' split) <;> (simp; done)
@[simp] theorem capture_entropy (s : State) (ty island : Nat) (body : List Nat) : (capture s ty island body).entropy = s.entropy := by
  unfold capture; (repeat' split) <;> (simp; done)
@[simp] theorem capture_filling (s : State) (ty island : Nat) (body : List Nat) : (capture s ty island body).filling = s.filling := by
  unfold capture; (repeat' split) <;> (simp; done)
@[simp] theorem capture_lfsr (s : State) (ty island : Nat) (body : List Nat) : (capture s ty island body).lfsr = s.lfsr := by
  unfold capture; (repeat' split) <;> (simp; done)
@[simp] theorem capture_drbgs (s : State) (ty island : Nat) (body : List Nat) : (capture s ty island body).drbgs = s.drbgs := by
  unfold capture; (repeat' split) <;> (simp; done)
@[simp] theorem capture_tenants (s : State) (ty island : Nat) (body : List Nat) : (capture s ty island body).tenants = s.tenants := by
  unfold capture; (repeat' split) <;> (simp; done)
@[simp] theorem capture_cfg (s : State) (ty island : Nat) (body : List Nat) : (capture s ty island body).cfg = s.cfg := by
  unfold capture; (repeat' split) <;> (simp; done)
@[simp] theorem capture_fuses (s : State) (ty island : Nat) (body : List Nat) : (capture s ty island body).fuses = s.fuses := by
  unfold capture; (repeat' split) <;> (simp; done)
@[simp] theorem capture_boot (s : State) (ty island : Nat) (body : List Nat) : (capture s ty island body).boot = s.boot := by
  unfold capture; (repeat' split) <;> (simp; done)
@[simp] theorem capture_lcs (s : State) (ty island : Nat) (body : List Nat) : (capture s ty island body).lcs = s.lcs := by
  unfold capture; (repeat' split) <;> (simp; done)
@[simp] theorem capture_tamper (s : State) (ty island : Nat) (body : List Nat) : (capture s ty island body).tamper = s.tamper := by
  unfold capture; (repeat' split) <;> (simp; done)
@[simp] theorem capture_pins (s : State) (ty island : Nat) (body : List Nat) : (capture s ty island body).pins = s.pins := by
  unfold capture; (repeat' split) <;> (simp; done)
@[simp] theorem capture_wards (s : State) (ty island : Nat) (body : List Nat) : (capture s ty island body).wards = s.wards := by
  unfold capture; (repeat' split) <;> (simp; done)
@[simp] theorem capture_tkn (s : State) (ty island : Nat) (body : List Nat) : (capture s ty island body).tkn = s.tkn := by
  unfold capture; (repeat' split) <;> (simp; done)
@[simp] theorem capture_internalDone (s : State) (ty island : Nat) (body : List Nat) : (capture s ty island body).internalDone = s.internalDone := by
  unfold capture; (repeat' split) <;> (simp; done)
@[simp] theorem capture_recorder (s : State) (ty island : Nat) (body : List Nat) : (capture s ty island body).recorder = s.recorder := by
  unfold capture; (repeat' split) <;> (simp; done)
@[simp] theorem capture_links (s : State) (ty island : Nat) (body : List Nat) : (capture s ty island body).links = s.links := by
  unfold capture; (repeat' split) <;> (simp; done)
@[simp] theorem capture_fabric (s : State) (ty island : Nat) (body : List Nat) : (capture s ty island body).fabric = s.fabric := by
  unfold capture; (repeat' split) <;> (simp; done)
@[simp] theorem capture_nor (s : State) (ty island : Nat) (body : List Nat) : (capture s ty island body).nor = s.nor := by
  unfold capture; (repeat' split) <;> (simp; done)
@[simp] theorem capture_mem (s : State) (ty island : Nat) (body : List Nat) : (capture s ty island body).mem = s.mem := by
  unfold capture; (repeat' split) <;> (simp; done)
@[simp] theorem capture_quartz (s : State) (ty island : Nat) (body : List Nat) : (capture s ty island body).quartz = s.quartz := by
  unfold capture; (repeat' split) <;> (simp; done)
@[simp] theorem capture_regs (s : State) (ty island : Nat) (body : List Nat) : (capture s ty island body).regs = s.regs := by
  unfold capture; (repeat' split) <;> (simp; done)
@[simp] theorem capture_out (s : State) (ty island : Nat) (body : List Nat) : (capture s ty island body).out = s.out := by
  unfold capture; (repeat' split) <;> (simp; done)
@[simp] theorem capture_freeIdx (s : State) (ty island : Nat) (body : List Nat) : (capture s ty island body).freeIdx = s.freeIdx := by
  unfold capture; (repeat' split) <;> (simp; done)
@[simp] theorem capture_pending (s : State) (ty island : Nat) (body : List Nat) : (capture s ty island body).pending = s.pending := by
  unfold capture; (repeat' split) <;> (simp; done)

/-! ### crossing -/

@[simp] theorem crossing_clk (s : State) (mp inst input cands : Nat) : (crossing s mp inst input cands).clk = s.clk := by
  unfold crossing; (repeat' split) <;> (simp; done)
@[simp] theorem crossing_mode (s : State) (mp inst input cands : Nat) : (crossing s mp inst input cands).mode = s.mode := by
  unfold crossing; (repeat' split) <;> (simp; done)
@[simp] theorem crossing_portA (s : State) (mp inst input cands : Nat) : (crossing s mp inst input cands).portA = s.portA := by
  unfold crossing; (repeat' split) <;> (simp; done)
@[simp] theorem crossing_portB (s : State) (mp inst input cands : Nat) : (crossing s mp inst input cands).portB = s.portB := by
  unfold crossing; (repeat' split) <;> (simp; done)
@[simp] theorem crossing_jobs (s : State) (mp inst input cands : Nat) : (crossing s mp inst input cands).jobs = s.jobs := by
  unfold crossing; (repeat' split) <;> (simp; done)
@[simp] theorem crossing_heldJobs (s : State) (mp inst input cands : Nat) : (crossing s mp inst input cands).heldJobs = s.heldJobs := by
  unfold crossing; (repeat' split) <;> (simp; done)
@[simp] theorem crossing_qps (s : State) (mp inst input cands : Nat) : (crossing s mp inst input cands).qps = s.qps := by
  unfold crossing; (repeat' split) <;> (simp; done)
@[simp] theorem crossing_sched (s : State) (mp inst input cands : Nat) : (crossing s mp inst input cands).sched = s.sched := by
  unfold crossing; (repeat' split) <;> (simp; done)
@[simp] theorem crossing_manifests (s : State) (mp inst input cands : Nat) : (crossing s mp inst input cands).manifests = s.manifests := by
  unfold crossing; (repeat' split) <;> (simp; done)
@[simp] theorem crossing_nextManifest (s : State) (mp inst input cands : Nat) : (crossing s mp inst input cands).nextManifest = s.nextManifest := by
  unfold crossing; (repeat' split) <;> (simp; done)
@[simp] theorem crossing_sealEngines (s : State) (mp inst input cands : Nat) : (crossing s mp inst input cands).sealEngines = s.sealEngines := by
  unfold crossing; (repeat' split) <;> (simp; done)
@[simp] theorem crossing_digests (s : State) (mp inst input cands : Nat) : (crossing s mp inst input cands).digests = s.digests := by
  unfold crossing; (repeat' split) <;> (simp; done)
@[simp] theorem crossing_meas (s : State) (mp inst input cands : Nat) : (crossing s mp inst input cands).meas = s.meas := by
  unfold crossing; (repeat' split) <;> (simp; done)
@[simp] theorem crossing_measLog (s : State) (mp inst input cands : Nat) : (crossing s mp inst input cands).measLog = s.measLog := by
  unfold crossing; (repeat' split) <;> (simp; done)
@[simp] theorem crossing_measNext (s : State) (mp inst input cands : Nat) : (crossing s mp inst input cands).measNext = s.measNext := by
  unfold crossing; (repeat' split) <;> (simp; done)
@[simp] theorem crossing_measOverflow (s : State) (mp inst input cands : Nat) : (crossing s mp inst input cands).measOverflow = s.measOverflow := by
  unfold crossing; (repeat' split) <;> (simp; done)
@[simp] theorem crossing_truncOffered (s : State) (mp inst input cands : Nat) : (crossing s mp inst input cands).truncOffered = s.truncOffered := by
  unfold crossing; (repeat' split) <;> (simp; done)
@[simp] theorem crossing_slots (s : State) (mp inst input cands : Nat) : (crossing s mp inst input cands).slots = s.slots := by
  unfold crossing; (repeat' split) <;> (simp; done)
@[simp] theorem crossing_pufSecret (s : State) (mp inst input cands : Nat) : (crossing s mp inst input cands).pufSecret = s.pufSecret := by
  unfold crossing; (repeat' split) <;> (simp; done)
@[simp] theorem crossing_keyed (s : State) (mp inst input cands : Nat) : (crossing s mp inst input cands).keyed = s.keyed := by
  unfold crossing; (repeat' split) <;> (simp; done)
@[simp] theorem crossing_cdk (s : State) (mp inst input cands : Nat) : (crossing s mp inst input cands).cdk = s.cdk := by
  unfold crossing; (repeat' split) <;> (simp; done)
@[simp] theorem crossing_zeroised (s : State) (mp inst input cands : Nat) : (crossing s mp inst input cands).zeroised = s.zeroised := by
  unfold crossing; (repeat' split) <;> (simp; done)
@[simp] theorem crossing_agate (s : State) (mp inst input cands : Nat) : (crossing s mp inst input cands).agate = s.agate := by
  unfold crossing; (repeat' split) <;> (simp; done)
@[simp] theorem crossing_arith (s : State) (mp inst input cands : Nat) : (crossing s mp inst input cands).arith = s.arith := by
  unfold crossing; (repeat' split) <;> (simp; done)
@[simp] theorem crossing_sources (s : State) (mp inst input cands : Nat) : (crossing s mp inst input cands).sources = s.sources := by
  unfold crossing; (repeat' split) <;> (simp; done)
@[simp] theorem crossing_entropy (s : State) (mp inst input cands : Nat) : (crossing s mp inst input cands).entropy = s.entropy := by
  unfold crossing; (repeat' split) <;> (simp; done)
@[simp] theorem crossing_filling (s : State) (mp inst input cands : Nat) : (crossing s mp inst input cands).filling = s.filling := by
  unfold crossing; (repeat' split) <;> (simp; done)
@[simp] theorem crossing_lfsr (s : State) (mp inst input cands : Nat) : (crossing s mp inst input cands).lfsr = s.lfsr := by
  unfold crossing; (repeat' split) <;> (simp; done)
@[simp] theorem crossing_drbgs (s : State) (mp inst input cands : Nat) : (crossing s mp inst input cands).drbgs = s.drbgs := by
  unfold crossing; (repeat' split) <;> (simp; done)
@[simp] theorem crossing_tenants (s : State) (mp inst input cands : Nat) : (crossing s mp inst input cands).tenants = s.tenants := by
  unfold crossing; (repeat' split) <;> (simp; done)
@[simp] theorem crossing_cfg (s : State) (mp inst input cands : Nat) : (crossing s mp inst input cands).cfg = s.cfg := by
  unfold crossing; (repeat' split) <;> (simp; done)
@[simp] theorem crossing_fuses (s : State) (mp inst input cands : Nat) : (crossing s mp inst input cands).fuses = s.fuses := by
  unfold crossing; (repeat' split) <;> (simp; done)
@[simp] theorem crossing_boot (s : State) (mp inst input cands : Nat) : (crossing s mp inst input cands).boot = s.boot := by
  unfold crossing; (repeat' split) <;> (simp; done)
@[simp] theorem crossing_lcs (s : State) (mp inst input cands : Nat) : (crossing s mp inst input cands).lcs = s.lcs := by
  unfold crossing; (repeat' split) <;> (simp; done)
@[simp] theorem crossing_tamper (s : State) (mp inst input cands : Nat) : (crossing s mp inst input cands).tamper = s.tamper := by
  unfold crossing; (repeat' split) <;> (simp; done)
@[simp] theorem crossing_pins (s : State) (mp inst input cands : Nat) : (crossing s mp inst input cands).pins = s.pins := by
  unfold crossing; (repeat' split) <;> (simp; done)
@[simp] theorem crossing_wards (s : State) (mp inst input cands : Nat) : (crossing s mp inst input cands).wards = s.wards := by
  unfold crossing; (repeat' split) <;> (simp; done)
@[simp] theorem crossing_tkn (s : State) (mp inst input cands : Nat) : (crossing s mp inst input cands).tkn = s.tkn := by
  unfold crossing; (repeat' split) <;> (simp; done)
@[simp] theorem crossing_internalDone (s : State) (mp inst input cands : Nat) : (crossing s mp inst input cands).internalDone = s.internalDone := by
  unfold crossing; (repeat' split) <;> (simp; done)
@[simp] theorem crossing_recorder (s : State) (mp inst input cands : Nat) : (crossing s mp inst input cands).recorder = s.recorder := by
  unfold crossing; (repeat' split) <;> (simp; done)
@[simp] theorem crossing_links (s : State) (mp inst input cands : Nat) : (crossing s mp inst input cands).links = s.links := by
  unfold crossing; (repeat' split) <;> (simp; done)
@[simp] theorem crossing_fabric (s : State) (mp inst input cands : Nat) : (crossing s mp inst input cands).fabric = s.fabric := by
  unfold crossing; (repeat' split) <;> (simp; done)
@[simp] theorem crossing_nor (s : State) (mp inst input cands : Nat) : (crossing s mp inst input cands).nor = s.nor := by
  unfold crossing; (repeat' split) <;> (simp; done)
@[simp] theorem crossing_mem (s : State) (mp inst input cands : Nat) : (crossing s mp inst input cands).mem = s.mem := by
  unfold crossing; (repeat' split) <;> (simp; done)
@[simp] theorem crossing_quartz (s : State) (mp inst input cands : Nat) : (crossing s mp inst input cands).quartz = s.quartz := by
  unfold crossing; (repeat' split) <;> (simp; done)
@[simp] theorem crossing_regs (s : State) (mp inst input cands : Nat) : (crossing s mp inst input cands).regs = s.regs := by
  unfold crossing; (repeat' split) <;> (simp; done)
@[simp] theorem crossing_out (s : State) (mp inst input cands : Nat) : (crossing s mp inst input cands).out = s.out := by
  unfold crossing; (repeat' split) <;> (simp; done)
@[simp] theorem crossing_freeIdx (s : State) (mp inst input cands : Nat) : (crossing s mp inst input cands).freeIdx = s.freeIdx := by
  unfold crossing; (repeat' split) <;> (simp; done)
@[simp] theorem crossing_pending (s : State) (mp inst input cands : Nat) : (crossing s mp inst input cands).pending = s.pending := by
  unfold crossing; (repeat' split) <;> (simp; done)

/-! ### timerTaken -/

@[simp] theorem timerTaken_clk (s : State) (island : Nat) : (timerTaken s island).clk = s.clk := by
  unfold timerTaken; (repeat' split) <;> (simp; done)
@[simp] theorem timerTaken_mode (s : State) (island : Nat) : (timerTaken s island).mode = s.mode := by
  unfold timerTaken; (repeat' split) <;> (simp; done)
@[simp] theorem timerTaken_portA (s : State) (island : Nat) : (timerTaken s island).portA = s.portA := by
  unfold timerTaken; (repeat' split) <;> (simp; done)
@[simp] theorem timerTaken_portB (s : State) (island : Nat) : (timerTaken s island).portB = s.portB := by
  unfold timerTaken; (repeat' split) <;> (simp; done)
@[simp] theorem timerTaken_jobs (s : State) (island : Nat) : (timerTaken s island).jobs = s.jobs := by
  unfold timerTaken; (repeat' split) <;> (simp; done)
@[simp] theorem timerTaken_heldJobs (s : State) (island : Nat) : (timerTaken s island).heldJobs = s.heldJobs := by
  unfold timerTaken; (repeat' split) <;> (simp; done)
@[simp] theorem timerTaken_qps (s : State) (island : Nat) : (timerTaken s island).qps = s.qps := by
  unfold timerTaken; (repeat' split) <;> (simp; done)
@[simp] theorem timerTaken_sched (s : State) (island : Nat) : (timerTaken s island).sched = s.sched := by
  unfold timerTaken; (repeat' split) <;> (simp; done)
@[simp] theorem timerTaken_manifests (s : State) (island : Nat) : (timerTaken s island).manifests = s.manifests := by
  unfold timerTaken; (repeat' split) <;> (simp; done)
@[simp] theorem timerTaken_nextManifest (s : State) (island : Nat) : (timerTaken s island).nextManifest = s.nextManifest := by
  unfold timerTaken; (repeat' split) <;> (simp; done)
@[simp] theorem timerTaken_sealEngines (s : State) (island : Nat) : (timerTaken s island).sealEngines = s.sealEngines := by
  unfold timerTaken; (repeat' split) <;> (simp; done)
@[simp] theorem timerTaken_digests (s : State) (island : Nat) : (timerTaken s island).digests = s.digests := by
  unfold timerTaken; (repeat' split) <;> (simp; done)
@[simp] theorem timerTaken_meas (s : State) (island : Nat) : (timerTaken s island).meas = s.meas := by
  unfold timerTaken; (repeat' split) <;> (simp; done)
@[simp] theorem timerTaken_measLog (s : State) (island : Nat) : (timerTaken s island).measLog = s.measLog := by
  unfold timerTaken; (repeat' split) <;> (simp; done)
@[simp] theorem timerTaken_measNext (s : State) (island : Nat) : (timerTaken s island).measNext = s.measNext := by
  unfold timerTaken; (repeat' split) <;> (simp; done)
@[simp] theorem timerTaken_measOverflow (s : State) (island : Nat) : (timerTaken s island).measOverflow = s.measOverflow := by
  unfold timerTaken; (repeat' split) <;> (simp; done)
@[simp] theorem timerTaken_truncOffered (s : State) (island : Nat) : (timerTaken s island).truncOffered = s.truncOffered := by
  unfold timerTaken; (repeat' split) <;> (simp; done)
@[simp] theorem timerTaken_slots (s : State) (island : Nat) : (timerTaken s island).slots = s.slots := by
  unfold timerTaken; (repeat' split) <;> (simp; done)
@[simp] theorem timerTaken_pufSecret (s : State) (island : Nat) : (timerTaken s island).pufSecret = s.pufSecret := by
  unfold timerTaken; (repeat' split) <;> (simp; done)
@[simp] theorem timerTaken_keyed (s : State) (island : Nat) : (timerTaken s island).keyed = s.keyed := by
  unfold timerTaken; (repeat' split) <;> (simp; done)
@[simp] theorem timerTaken_cdk (s : State) (island : Nat) : (timerTaken s island).cdk = s.cdk := by
  unfold timerTaken; (repeat' split) <;> (simp; done)
@[simp] theorem timerTaken_zeroised (s : State) (island : Nat) : (timerTaken s island).zeroised = s.zeroised := by
  unfold timerTaken; (repeat' split) <;> (simp; done)
@[simp] theorem timerTaken_agate (s : State) (island : Nat) : (timerTaken s island).agate = s.agate := by
  unfold timerTaken; (repeat' split) <;> (simp; done)
@[simp] theorem timerTaken_arith (s : State) (island : Nat) : (timerTaken s island).arith = s.arith := by
  unfold timerTaken; (repeat' split) <;> (simp; done)
@[simp] theorem timerTaken_sources (s : State) (island : Nat) : (timerTaken s island).sources = s.sources := by
  unfold timerTaken; (repeat' split) <;> (simp; done)
@[simp] theorem timerTaken_entropy (s : State) (island : Nat) : (timerTaken s island).entropy = s.entropy := by
  unfold timerTaken; (repeat' split) <;> (simp; done)
@[simp] theorem timerTaken_filling (s : State) (island : Nat) : (timerTaken s island).filling = s.filling := by
  unfold timerTaken; (repeat' split) <;> (simp; done)
@[simp] theorem timerTaken_lfsr (s : State) (island : Nat) : (timerTaken s island).lfsr = s.lfsr := by
  unfold timerTaken; (repeat' split) <;> (simp; done)
@[simp] theorem timerTaken_drbgs (s : State) (island : Nat) : (timerTaken s island).drbgs = s.drbgs := by
  unfold timerTaken; (repeat' split) <;> (simp; done)
@[simp] theorem timerTaken_tenants (s : State) (island : Nat) : (timerTaken s island).tenants = s.tenants := by
  unfold timerTaken; (repeat' split) <;> (simp; done)
@[simp] theorem timerTaken_cfg (s : State) (island : Nat) : (timerTaken s island).cfg = s.cfg := by
  unfold timerTaken; (repeat' split) <;> (simp; done)
@[simp] theorem timerTaken_fuses (s : State) (island : Nat) : (timerTaken s island).fuses = s.fuses := by
  unfold timerTaken; (repeat' split) <;> (simp; done)
@[simp] theorem timerTaken_boot (s : State) (island : Nat) : (timerTaken s island).boot = s.boot := by
  unfold timerTaken; (repeat' split) <;> (simp; done)
@[simp] theorem timerTaken_lcs (s : State) (island : Nat) : (timerTaken s island).lcs = s.lcs := by
  unfold timerTaken; (repeat' split) <;> (simp; done)
@[simp] theorem timerTaken_tamper (s : State) (island : Nat) : (timerTaken s island).tamper = s.tamper := by
  unfold timerTaken; (repeat' split) <;> (simp; done)
@[simp] theorem timerTaken_pins (s : State) (island : Nat) : (timerTaken s island).pins = s.pins := by
  unfold timerTaken; (repeat' split) <;> (simp; done)
@[simp] theorem timerTaken_wards (s : State) (island : Nat) : (timerTaken s island).wards = s.wards := by
  unfold timerTaken; (repeat' split) <;> (simp; done)
@[simp] theorem timerTaken_tkn (s : State) (island : Nat) : (timerTaken s island).tkn = s.tkn := by
  unfold timerTaken; (repeat' split) <;> (simp; done)
@[simp] theorem timerTaken_internalDone (s : State) (island : Nat) : (timerTaken s island).internalDone = s.internalDone := by
  unfold timerTaken; (repeat' split) <;> (simp; done)
@[simp] theorem timerTaken_recorder (s : State) (island : Nat) : (timerTaken s island).recorder = s.recorder := by
  unfold timerTaken; (repeat' split) <;> (simp; done)
@[simp] theorem timerTaken_links (s : State) (island : Nat) : (timerTaken s island).links = s.links := by
  unfold timerTaken; (repeat' split) <;> (simp; done)
@[simp] theorem timerTaken_fabric (s : State) (island : Nat) : (timerTaken s island).fabric = s.fabric := by
  unfold timerTaken; (repeat' split) <;> (simp; done)
@[simp] theorem timerTaken_nor (s : State) (island : Nat) : (timerTaken s island).nor = s.nor := by
  unfold timerTaken; (repeat' split) <;> (simp; done)
@[simp] theorem timerTaken_mem (s : State) (island : Nat) : (timerTaken s island).mem = s.mem := by
  unfold timerTaken; (repeat' split) <;> (simp; done)
@[simp] theorem timerTaken_quartz (s : State) (island : Nat) : (timerTaken s island).quartz = s.quartz := by
  unfold timerTaken; (repeat' split) <;> (simp; done)
@[simp] theorem timerTaken_regs (s : State) (island : Nat) : (timerTaken s island).regs = s.regs := by
  unfold timerTaken; (repeat' split) <;> (simp; done)
@[simp] theorem timerTaken_out (s : State) (island : Nat) : (timerTaken s island).out = s.out := by
  unfold timerTaken; (repeat' split) <;> (simp; done)
@[simp] theorem timerTaken_freeIdx (s : State) (island : Nat) : (timerTaken s island).freeIdx = s.freeIdx := by
  unfold timerTaken; (repeat' split) <;> (simp; done)
@[simp] theorem timerTaken_pending (s : State) (island : Nat) : (timerTaken s island).pending = s.pending := by
  unfold timerTaken; (repeat' split) <;> (simp; done)

/-! ### ambTrigger -/

@[simp] theorem ambTrigger_clk (s : State) (code : Nat) : (ambTrigger s code).clk = s.clk := by
  unfold ambTrigger; (repeat' split) <;> (simp; done)
@[simp] theorem ambTrigger_mode (s : State) (code : Nat) : (ambTrigger s code).mode = s.mode := by
  unfold ambTrigger; (repeat' split) <;> (simp; done)
@[simp] theorem ambTrigger_portA (s : State) (code : Nat) : (ambTrigger s code).portA = s.portA := by
  unfold ambTrigger; (repeat' split) <;> (simp; done)
@[simp] theorem ambTrigger_portB (s : State) (code : Nat) : (ambTrigger s code).portB = s.portB := by
  unfold ambTrigger; (repeat' split) <;> (simp; done)
@[simp] theorem ambTrigger_jobs (s : State) (code : Nat) : (ambTrigger s code).jobs = s.jobs := by
  unfold ambTrigger; (repeat' split) <;> (simp; done)
@[simp] theorem ambTrigger_heldJobs (s : State) (code : Nat) : (ambTrigger s code).heldJobs = s.heldJobs := by
  unfold ambTrigger; (repeat' split) <;> (simp; done)
@[simp] theorem ambTrigger_qps (s : State) (code : Nat) : (ambTrigger s code).qps = s.qps := by
  unfold ambTrigger; (repeat' split) <;> (simp; done)
@[simp] theorem ambTrigger_sched (s : State) (code : Nat) : (ambTrigger s code).sched = s.sched := by
  unfold ambTrigger; (repeat' split) <;> (simp; done)
@[simp] theorem ambTrigger_manifests (s : State) (code : Nat) : (ambTrigger s code).manifests = s.manifests := by
  unfold ambTrigger; (repeat' split) <;> (simp; done)
@[simp] theorem ambTrigger_nextManifest (s : State) (code : Nat) : (ambTrigger s code).nextManifest = s.nextManifest := by
  unfold ambTrigger; (repeat' split) <;> (simp; done)
@[simp] theorem ambTrigger_sealEngines (s : State) (code : Nat) : (ambTrigger s code).sealEngines = s.sealEngines := by
  unfold ambTrigger; (repeat' split) <;> (simp; done)
@[simp] theorem ambTrigger_digests (s : State) (code : Nat) : (ambTrigger s code).digests = s.digests := by
  unfold ambTrigger; (repeat' split) <;> (simp; done)
@[simp] theorem ambTrigger_meas (s : State) (code : Nat) : (ambTrigger s code).meas = s.meas := by
  unfold ambTrigger; (repeat' split) <;> (simp; done)
@[simp] theorem ambTrigger_measLog (s : State) (code : Nat) : (ambTrigger s code).measLog = s.measLog := by
  unfold ambTrigger; (repeat' split) <;> (simp; done)
@[simp] theorem ambTrigger_measNext (s : State) (code : Nat) : (ambTrigger s code).measNext = s.measNext := by
  unfold ambTrigger; (repeat' split) <;> (simp; done)
@[simp] theorem ambTrigger_measOverflow (s : State) (code : Nat) : (ambTrigger s code).measOverflow = s.measOverflow := by
  unfold ambTrigger; (repeat' split) <;> (simp; done)
@[simp] theorem ambTrigger_truncOffered (s : State) (code : Nat) : (ambTrigger s code).truncOffered = s.truncOffered := by
  unfold ambTrigger; (repeat' split) <;> (simp; done)
@[simp] theorem ambTrigger_slots (s : State) (code : Nat) : (ambTrigger s code).slots = s.slots := by
  unfold ambTrigger; (repeat' split) <;> (simp; done)
@[simp] theorem ambTrigger_pufSecret (s : State) (code : Nat) : (ambTrigger s code).pufSecret = s.pufSecret := by
  unfold ambTrigger; (repeat' split) <;> (simp; done)
@[simp] theorem ambTrigger_keyed (s : State) (code : Nat) : (ambTrigger s code).keyed = s.keyed := by
  unfold ambTrigger; (repeat' split) <;> (simp; done)
@[simp] theorem ambTrigger_cdk (s : State) (code : Nat) : (ambTrigger s code).cdk = s.cdk := by
  unfold ambTrigger; (repeat' split) <;> (simp; done)
@[simp] theorem ambTrigger_zeroised (s : State) (code : Nat) : (ambTrigger s code).zeroised = s.zeroised := by
  unfold ambTrigger; (repeat' split) <;> (simp; done)
@[simp] theorem ambTrigger_agate (s : State) (code : Nat) : (ambTrigger s code).agate = s.agate := by
  unfold ambTrigger; (repeat' split) <;> (simp; done)
@[simp] theorem ambTrigger_arith (s : State) (code : Nat) : (ambTrigger s code).arith = s.arith := by
  unfold ambTrigger; (repeat' split) <;> (simp; done)
@[simp] theorem ambTrigger_sources (s : State) (code : Nat) : (ambTrigger s code).sources = s.sources := by
  unfold ambTrigger; (repeat' split) <;> (simp; done)
@[simp] theorem ambTrigger_entropy (s : State) (code : Nat) : (ambTrigger s code).entropy = s.entropy := by
  unfold ambTrigger; (repeat' split) <;> (simp; done)
@[simp] theorem ambTrigger_filling (s : State) (code : Nat) : (ambTrigger s code).filling = s.filling := by
  unfold ambTrigger; (repeat' split) <;> (simp; done)
@[simp] theorem ambTrigger_lfsr (s : State) (code : Nat) : (ambTrigger s code).lfsr = s.lfsr := by
  unfold ambTrigger; (repeat' split) <;> (simp; done)
@[simp] theorem ambTrigger_drbgs (s : State) (code : Nat) : (ambTrigger s code).drbgs = s.drbgs := by
  unfold ambTrigger; (repeat' split) <;> (simp; done)
@[simp] theorem ambTrigger_tenants (s : State) (code : Nat) : (ambTrigger s code).tenants = s.tenants := by
  unfold ambTrigger; (repeat' split) <;> (simp; done)
@[simp] theorem ambTrigger_cfg (s : State) (code : Nat) : (ambTrigger s code).cfg = s.cfg := by
  unfold ambTrigger; (repeat' split) <;> (simp; done)
@[simp] theorem ambTrigger_moon (s : State) (code : Nat) : (ambTrigger s code).moon = s.moon := by
  unfold ambTrigger; (repeat' split) <;> (simp; done)
@[simp] theorem ambTrigger_fuses (s : State) (code : Nat) : (ambTrigger s code).fuses = s.fuses := by
  unfold ambTrigger; (repeat' split) <;> (simp; done)
@[simp] theorem ambTrigger_boot (s : State) (code : Nat) : (ambTrigger s code).boot = s.boot := by
  unfold ambTrigger; (repeat' split) <;> (simp; done)
@[simp] theorem ambTrigger_lcs (s : State) (code : Nat) : (ambTrigger s code).lcs = s.lcs := by
  unfold ambTrigger; (repeat' split) <;> (simp; done)
@[simp] theorem ambTrigger_tamper (s : State) (code : Nat) : (ambTrigger s code).tamper = s.tamper := by
  unfold ambTrigger; (repeat' split) <;> (simp; done)
@[simp] theorem ambTrigger_pins (s : State) (code : Nat) : (ambTrigger s code).pins = s.pins := by
  unfold ambTrigger; (repeat' split) <;> (simp; done)
@[simp] theorem ambTrigger_wards (s : State) (code : Nat) : (ambTrigger s code).wards = s.wards := by
  unfold ambTrigger; (repeat' split) <;> (simp; done)
@[simp] theorem ambTrigger_tkn (s : State) (code : Nat) : (ambTrigger s code).tkn = s.tkn := by
  unfold ambTrigger; (repeat' split) <;> (simp; done)
@[simp] theorem ambTrigger_internalDone (s : State) (code : Nat) : (ambTrigger s code).internalDone = s.internalDone := by
  unfold ambTrigger; (repeat' split) <;> (simp; done)
@[simp] theorem ambTrigger_recorder (s : State) (code : Nat) : (ambTrigger s code).recorder = s.recorder := by
  unfold ambTrigger; (repeat' split) <;> (simp; done)
@[simp] theorem ambTrigger_links (s : State) (code : Nat) : (ambTrigger s code).links = s.links := by
  unfold ambTrigger; (repeat' split) <;> (simp; done)
@[simp] theorem ambTrigger_fabric (s : State) (code : Nat) : (ambTrigger s code).fabric = s.fabric := by
  unfold ambTrigger; (repeat' split) <;> (simp; done)
@[simp] theorem ambTrigger_nor (s : State) (code : Nat) : (ambTrigger s code).nor = s.nor := by
  unfold ambTrigger; (repeat' split) <;> (simp; done)
@[simp] theorem ambTrigger_mem (s : State) (code : Nat) : (ambTrigger s code).mem = s.mem := by
  unfold ambTrigger; (repeat' split) <;> (simp; done)
@[simp] theorem ambTrigger_quartz (s : State) (code : Nat) : (ambTrigger s code).quartz = s.quartz := by
  unfold ambTrigger; (repeat' split) <;> (simp; done)
@[simp] theorem ambTrigger_regs (s : State) (code : Nat) : (ambTrigger s code).regs = s.regs := by
  unfold ambTrigger; (repeat' split) <;> (simp; done)
@[simp] theorem ambTrigger_out (s : State) (code : Nat) : (ambTrigger s code).out = s.out := by
  unfold ambTrigger; (repeat' split) <;> (simp; done)
@[simp] theorem ambTrigger_freeIdx (s : State) (code : Nat) : (ambTrigger s code).freeIdx = s.freeIdx := by
  unfold ambTrigger; (repeat' split) <;> (simp; done)
@[simp] theorem ambTrigger_pending (s : State) (code : Nat) : (ambTrigger s code).pending = s.pending := by
  unfold ambTrigger; (repeat' split) <;> (simp; done)

/-! ### evrDrop -/

@[simp] theorem evrDrop_clk (s : State) (c : Nat) : (evrDrop s c).clk = s.clk := by
  unfold evrDrop; (repeat' split) <;> (simp; done)
@[simp] theorem evrDrop_mode (s : State) (c : Nat) : (evrDrop s c).mode = s.mode := by
  unfold evrDrop; (repeat' split) <;> (simp; done)
@[simp] theorem evrDrop_portA (s : State) (c : Nat) : (evrDrop s c).portA = s.portA := by
  unfold evrDrop; (repeat' split) <;> (simp; done)
@[simp] theorem evrDrop_portB (s : State) (c : Nat) : (evrDrop s c).portB = s.portB := by
  unfold evrDrop; (repeat' split) <;> (simp; done)
@[simp] theorem evrDrop_jobs (s : State) (c : Nat) : (evrDrop s c).jobs = s.jobs := by
  unfold evrDrop; (repeat' split) <;> (simp; done)
@[simp] theorem evrDrop_heldJobs (s : State) (c : Nat) : (evrDrop s c).heldJobs = s.heldJobs := by
  unfold evrDrop; (repeat' split) <;> (simp; done)
@[simp] theorem evrDrop_qps (s : State) (c : Nat) : (evrDrop s c).qps = s.qps := by
  unfold evrDrop; (repeat' split) <;> (simp; done)
@[simp] theorem evrDrop_sched (s : State) (c : Nat) : (evrDrop s c).sched = s.sched := by
  unfold evrDrop; (repeat' split) <;> (simp; done)
@[simp] theorem evrDrop_manifests (s : State) (c : Nat) : (evrDrop s c).manifests = s.manifests := by
  unfold evrDrop; (repeat' split) <;> (simp; done)
@[simp] theorem evrDrop_nextManifest (s : State) (c : Nat) : (evrDrop s c).nextManifest = s.nextManifest := by
  unfold evrDrop; (repeat' split) <;> (simp; done)
@[simp] theorem evrDrop_sealEngines (s : State) (c : Nat) : (evrDrop s c).sealEngines = s.sealEngines := by
  unfold evrDrop; (repeat' split) <;> (simp; done)
@[simp] theorem evrDrop_digests (s : State) (c : Nat) : (evrDrop s c).digests = s.digests := by
  unfold evrDrop; (repeat' split) <;> (simp; done)
@[simp] theorem evrDrop_meas (s : State) (c : Nat) : (evrDrop s c).meas = s.meas := by
  unfold evrDrop; (repeat' split) <;> (simp; done)
@[simp] theorem evrDrop_measLog (s : State) (c : Nat) : (evrDrop s c).measLog = s.measLog := by
  unfold evrDrop; (repeat' split) <;> (simp; done)
@[simp] theorem evrDrop_measNext (s : State) (c : Nat) : (evrDrop s c).measNext = s.measNext := by
  unfold evrDrop; (repeat' split) <;> (simp; done)
@[simp] theorem evrDrop_measOverflow (s : State) (c : Nat) : (evrDrop s c).measOverflow = s.measOverflow := by
  unfold evrDrop; (repeat' split) <;> (simp; done)
@[simp] theorem evrDrop_truncOffered (s : State) (c : Nat) : (evrDrop s c).truncOffered = s.truncOffered := by
  unfold evrDrop; (repeat' split) <;> (simp; done)
@[simp] theorem evrDrop_slots (s : State) (c : Nat) : (evrDrop s c).slots = s.slots := by
  unfold evrDrop; (repeat' split) <;> (simp; done)
@[simp] theorem evrDrop_pufSecret (s : State) (c : Nat) : (evrDrop s c).pufSecret = s.pufSecret := by
  unfold evrDrop; (repeat' split) <;> (simp; done)
@[simp] theorem evrDrop_keyed (s : State) (c : Nat) : (evrDrop s c).keyed = s.keyed := by
  unfold evrDrop; (repeat' split) <;> (simp; done)
@[simp] theorem evrDrop_cdk (s : State) (c : Nat) : (evrDrop s c).cdk = s.cdk := by
  unfold evrDrop; (repeat' split) <;> (simp; done)
@[simp] theorem evrDrop_zeroised (s : State) (c : Nat) : (evrDrop s c).zeroised = s.zeroised := by
  unfold evrDrop; (repeat' split) <;> (simp; done)
@[simp] theorem evrDrop_agate (s : State) (c : Nat) : (evrDrop s c).agate = s.agate := by
  unfold evrDrop; (repeat' split) <;> (simp; done)
@[simp] theorem evrDrop_arith (s : State) (c : Nat) : (evrDrop s c).arith = s.arith := by
  unfold evrDrop; (repeat' split) <;> (simp; done)
@[simp] theorem evrDrop_sources (s : State) (c : Nat) : (evrDrop s c).sources = s.sources := by
  unfold evrDrop; (repeat' split) <;> (simp; done)
@[simp] theorem evrDrop_entropy (s : State) (c : Nat) : (evrDrop s c).entropy = s.entropy := by
  unfold evrDrop; (repeat' split) <;> (simp; done)
@[simp] theorem evrDrop_filling (s : State) (c : Nat) : (evrDrop s c).filling = s.filling := by
  unfold evrDrop; (repeat' split) <;> (simp; done)
@[simp] theorem evrDrop_lfsr (s : State) (c : Nat) : (evrDrop s c).lfsr = s.lfsr := by
  unfold evrDrop; (repeat' split) <;> (simp; done)
@[simp] theorem evrDrop_drbgs (s : State) (c : Nat) : (evrDrop s c).drbgs = s.drbgs := by
  unfold evrDrop; (repeat' split) <;> (simp; done)
@[simp] theorem evrDrop_tenants (s : State) (c : Nat) : (evrDrop s c).tenants = s.tenants := by
  unfold evrDrop; (repeat' split) <;> (simp; done)
@[simp] theorem evrDrop_cfg (s : State) (c : Nat) : (evrDrop s c).cfg = s.cfg := by
  unfold evrDrop; (repeat' split) <;> (simp; done)
@[simp] theorem evrDrop_moon (s : State) (c : Nat) : (evrDrop s c).moon = s.moon := by
  unfold evrDrop; (repeat' split) <;> (simp; done)
@[simp] theorem evrDrop_fuses (s : State) (c : Nat) : (evrDrop s c).fuses = s.fuses := by
  unfold evrDrop; (repeat' split) <;> (simp; done)
@[simp] theorem evrDrop_boot (s : State) (c : Nat) : (evrDrop s c).boot = s.boot := by
  unfold evrDrop; (repeat' split) <;> (simp; done)
@[simp] theorem evrDrop_lcs (s : State) (c : Nat) : (evrDrop s c).lcs = s.lcs := by
  unfold evrDrop; (repeat' split) <;> (simp; done)
@[simp] theorem evrDrop_tamper (s : State) (c : Nat) : (evrDrop s c).tamper = s.tamper := by
  unfold evrDrop; (repeat' split) <;> (simp; done)
@[simp] theorem evrDrop_pins (s : State) (c : Nat) : (evrDrop s c).pins = s.pins := by
  unfold evrDrop; (repeat' split) <;> (simp; done)
@[simp] theorem evrDrop_wards (s : State) (c : Nat) : (evrDrop s c).wards = s.wards := by
  unfold evrDrop; (repeat' split) <;> (simp; done)
@[simp] theorem evrDrop_tkn (s : State) (c : Nat) : (evrDrop s c).tkn = s.tkn := by
  unfold evrDrop; (repeat' split) <;> (simp; done)
@[simp] theorem evrDrop_internalDone (s : State) (c : Nat) : (evrDrop s c).internalDone = s.internalDone := by
  unfold evrDrop; (repeat' split) <;> (simp; done)
@[simp] theorem evrDrop_amber (s : State) (c : Nat) : (evrDrop s c).amber = s.amber := by
  unfold evrDrop; (repeat' split) <;> (simp; done)
@[simp] theorem evrDrop_links (s : State) (c : Nat) : (evrDrop s c).links = s.links := by
  unfold evrDrop; (repeat' split) <;> (simp; done)
@[simp] theorem evrDrop_fabric (s : State) (c : Nat) : (evrDrop s c).fabric = s.fabric := by
  unfold evrDrop; (repeat' split) <;> (simp; done)
@[simp] theorem evrDrop_nor (s : State) (c : Nat) : (evrDrop s c).nor = s.nor := by
  unfold evrDrop; (repeat' split) <;> (simp; done)
@[simp] theorem evrDrop_mem (s : State) (c : Nat) : (evrDrop s c).mem = s.mem := by
  unfold evrDrop; (repeat' split) <;> (simp; done)
@[simp] theorem evrDrop_quartz (s : State) (c : Nat) : (evrDrop s c).quartz = s.quartz := by
  unfold evrDrop; (repeat' split) <;> (simp; done)
@[simp] theorem evrDrop_regs (s : State) (c : Nat) : (evrDrop s c).regs = s.regs := by
  unfold evrDrop; (repeat' split) <;> (simp; done)
@[simp] theorem evrDrop_out (s : State) (c : Nat) : (evrDrop s c).out = s.out := by
  unfold evrDrop; (repeat' split) <;> (simp; done)
@[simp] theorem evrDrop_freeIdx (s : State) (c : Nat) : (evrDrop s c).freeIdx = s.freeIdx := by
  unfold evrDrop; (repeat' split) <;> (simp; done)
@[simp] theorem evrDrop_pending (s : State) (c : Nat) : (evrDrop s c).pending = s.pending := by
  unfold evrDrop; (repeat' split) <;> (simp; done)

/-! ### evrSuppress -/

@[simp] theorem evrSuppress_clk (s : State) (c : Nat) : (evrSuppress s c).clk = s.clk := by
  unfold evrSuppress; (repeat' split) <;> (simp; done)
@[simp] theorem evrSuppress_mode (s : State) (c : Nat) : (evrSuppress s c).mode = s.mode := by
  unfold evrSuppress; (repeat' split) <;> (simp; done)
@[simp] theorem evrSuppress_portA (s : State) (c : Nat) : (evrSuppress s c).portA = s.portA := by
  unfold evrSuppress; (repeat' split) <;> (simp; done)
@[simp] theorem evrSuppress_portB (s : State) (c : Nat) : (evrSuppress s c).portB = s.portB := by
  unfold evrSuppress; (repeat' split) <;> (simp; done)
@[simp] theorem evrSuppress_jobs (s : State) (c : Nat) : (evrSuppress s c).jobs = s.jobs := by
  unfold evrSuppress; (repeat' split) <;> (simp; done)
@[simp] theorem evrSuppress_heldJobs (s : State) (c : Nat) : (evrSuppress s c).heldJobs = s.heldJobs := by
  unfold evrSuppress; (repeat' split) <;> (simp; done)
@[simp] theorem evrSuppress_qps (s : State) (c : Nat) : (evrSuppress s c).qps = s.qps := by
  unfold evrSuppress; (repeat' split) <;> (simp; done)
@[simp] theorem evrSuppress_sched (s : State) (c : Nat) : (evrSuppress s c).sched = s.sched := by
  unfold evrSuppress; (repeat' split) <;> (simp; done)
@[simp] theorem evrSuppress_manifests (s : State) (c : Nat) : (evrSuppress s c).manifests = s.manifests := by
  unfold evrSuppress; (repeat' split) <;> (simp; done)
@[simp] theorem evrSuppress_nextManifest (s : State) (c : Nat) : (evrSuppress s c).nextManifest = s.nextManifest := by
  unfold evrSuppress; (repeat' split) <;> (simp; done)
@[simp] theorem evrSuppress_sealEngines (s : State) (c : Nat) : (evrSuppress s c).sealEngines = s.sealEngines := by
  unfold evrSuppress; (repeat' split) <;> (simp; done)
@[simp] theorem evrSuppress_digests (s : State) (c : Nat) : (evrSuppress s c).digests = s.digests := by
  unfold evrSuppress; (repeat' split) <;> (simp; done)
@[simp] theorem evrSuppress_meas (s : State) (c : Nat) : (evrSuppress s c).meas = s.meas := by
  unfold evrSuppress; (repeat' split) <;> (simp; done)
@[simp] theorem evrSuppress_measLog (s : State) (c : Nat) : (evrSuppress s c).measLog = s.measLog := by
  unfold evrSuppress; (repeat' split) <;> (simp; done)
@[simp] theorem evrSuppress_measNext (s : State) (c : Nat) : (evrSuppress s c).measNext = s.measNext := by
  unfold evrSuppress; (repeat' split) <;> (simp; done)
@[simp] theorem evrSuppress_measOverflow (s : State) (c : Nat) : (evrSuppress s c).measOverflow = s.measOverflow := by
  unfold evrSuppress; (repeat' split) <;> (simp; done)
@[simp] theorem evrSuppress_truncOffered (s : State) (c : Nat) : (evrSuppress s c).truncOffered = s.truncOffered := by
  unfold evrSuppress; (repeat' split) <;> (simp; done)
@[simp] theorem evrSuppress_slots (s : State) (c : Nat) : (evrSuppress s c).slots = s.slots := by
  unfold evrSuppress; (repeat' split) <;> (simp; done)
@[simp] theorem evrSuppress_pufSecret (s : State) (c : Nat) : (evrSuppress s c).pufSecret = s.pufSecret := by
  unfold evrSuppress; (repeat' split) <;> (simp; done)
@[simp] theorem evrSuppress_keyed (s : State) (c : Nat) : (evrSuppress s c).keyed = s.keyed := by
  unfold evrSuppress; (repeat' split) <;> (simp; done)
@[simp] theorem evrSuppress_cdk (s : State) (c : Nat) : (evrSuppress s c).cdk = s.cdk := by
  unfold evrSuppress; (repeat' split) <;> (simp; done)
@[simp] theorem evrSuppress_zeroised (s : State) (c : Nat) : (evrSuppress s c).zeroised = s.zeroised := by
  unfold evrSuppress; (repeat' split) <;> (simp; done)
@[simp] theorem evrSuppress_agate (s : State) (c : Nat) : (evrSuppress s c).agate = s.agate := by
  unfold evrSuppress; (repeat' split) <;> (simp; done)
@[simp] theorem evrSuppress_arith (s : State) (c : Nat) : (evrSuppress s c).arith = s.arith := by
  unfold evrSuppress; (repeat' split) <;> (simp; done)
@[simp] theorem evrSuppress_sources (s : State) (c : Nat) : (evrSuppress s c).sources = s.sources := by
  unfold evrSuppress; (repeat' split) <;> (simp; done)
@[simp] theorem evrSuppress_entropy (s : State) (c : Nat) : (evrSuppress s c).entropy = s.entropy := by
  unfold evrSuppress; (repeat' split) <;> (simp; done)
@[simp] theorem evrSuppress_filling (s : State) (c : Nat) : (evrSuppress s c).filling = s.filling := by
  unfold evrSuppress; (repeat' split) <;> (simp; done)
@[simp] theorem evrSuppress_lfsr (s : State) (c : Nat) : (evrSuppress s c).lfsr = s.lfsr := by
  unfold evrSuppress; (repeat' split) <;> (simp; done)
@[simp] theorem evrSuppress_drbgs (s : State) (c : Nat) : (evrSuppress s c).drbgs = s.drbgs := by
  unfold evrSuppress; (repeat' split) <;> (simp; done)
@[simp] theorem evrSuppress_tenants (s : State) (c : Nat) : (evrSuppress s c).tenants = s.tenants := by
  unfold evrSuppress; (repeat' split) <;> (simp; done)
@[simp] theorem evrSuppress_cfg (s : State) (c : Nat) : (evrSuppress s c).cfg = s.cfg := by
  unfold evrSuppress; (repeat' split) <;> (simp; done)
@[simp] theorem evrSuppress_moon (s : State) (c : Nat) : (evrSuppress s c).moon = s.moon := by
  unfold evrSuppress; (repeat' split) <;> (simp; done)
@[simp] theorem evrSuppress_fuses (s : State) (c : Nat) : (evrSuppress s c).fuses = s.fuses := by
  unfold evrSuppress; (repeat' split) <;> (simp; done)
@[simp] theorem evrSuppress_boot (s : State) (c : Nat) : (evrSuppress s c).boot = s.boot := by
  unfold evrSuppress; (repeat' split) <;> (simp; done)
@[simp] theorem evrSuppress_lcs (s : State) (c : Nat) : (evrSuppress s c).lcs = s.lcs := by
  unfold evrSuppress; (repeat' split) <;> (simp; done)
@[simp] theorem evrSuppress_tamper (s : State) (c : Nat) : (evrSuppress s c).tamper = s.tamper := by
  unfold evrSuppress; (repeat' split) <;> (simp; done)
@[simp] theorem evrSuppress_pins (s : State) (c : Nat) : (evrSuppress s c).pins = s.pins := by
  unfold evrSuppress; (repeat' split) <;> (simp; done)
@[simp] theorem evrSuppress_wards (s : State) (c : Nat) : (evrSuppress s c).wards = s.wards := by
  unfold evrSuppress; (repeat' split) <;> (simp; done)
@[simp] theorem evrSuppress_tkn (s : State) (c : Nat) : (evrSuppress s c).tkn = s.tkn := by
  unfold evrSuppress; (repeat' split) <;> (simp; done)
@[simp] theorem evrSuppress_internalDone (s : State) (c : Nat) : (evrSuppress s c).internalDone = s.internalDone := by
  unfold evrSuppress; (repeat' split) <;> (simp; done)
@[simp] theorem evrSuppress_amber (s : State) (c : Nat) : (evrSuppress s c).amber = s.amber := by
  unfold evrSuppress; (repeat' split) <;> (simp; done)
@[simp] theorem evrSuppress_links (s : State) (c : Nat) : (evrSuppress s c).links = s.links := by
  unfold evrSuppress; (repeat' split) <;> (simp; done)
@[simp] theorem evrSuppress_fabric (s : State) (c : Nat) : (evrSuppress s c).fabric = s.fabric := by
  unfold evrSuppress; (repeat' split) <;> (simp; done)
@[simp] theorem evrSuppress_nor (s : State) (c : Nat) : (evrSuppress s c).nor = s.nor := by
  unfold evrSuppress; (repeat' split) <;> (simp; done)
@[simp] theorem evrSuppress_mem (s : State) (c : Nat) : (evrSuppress s c).mem = s.mem := by
  unfold evrSuppress; (repeat' split) <;> (simp; done)
@[simp] theorem evrSuppress_quartz (s : State) (c : Nat) : (evrSuppress s c).quartz = s.quartz := by
  unfold evrSuppress; (repeat' split) <;> (simp; done)
@[simp] theorem evrSuppress_regs (s : State) (c : Nat) : (evrSuppress s c).regs = s.regs := by
  unfold evrSuppress; (repeat' split) <;> (simp; done)
@[simp] theorem evrSuppress_out (s : State) (c : Nat) : (evrSuppress s c).out = s.out := by
  unfold evrSuppress; (repeat' split) <;> (simp; done)
@[simp] theorem evrSuppress_freeIdx (s : State) (c : Nat) : (evrSuppress s c).freeIdx = s.freeIdx := by
  unfold evrSuppress; (repeat' split) <;> (simp; done)
@[simp] theorem evrSuppress_pending (s : State) (c : Nat) : (evrSuppress s c).pending = s.pending := by
  unfold evrSuppress; (repeat' split) <;> (simp; done)

/-! ### evrAppend -/

@[simp] theorem evrAppend_clk (s : State) (c : Nat) (params : List Nat) (firmware late : Bool) : (evrAppend s c params firmware late).clk = s.clk := by
  unfold evrAppend; (repeat' split) <;> (simp; done)
@[simp] theorem evrAppend_mode (s : State) (c : Nat) (params : List Nat) (firmware late : Bool) : (evrAppend s c params firmware late).mode = s.mode := by
  unfold evrAppend; (repeat' split) <;> (simp; done)
@[simp] theorem evrAppend_portA (s : State) (c : Nat) (params : List Nat) (firmware late : Bool) : (evrAppend s c params firmware late).portA = s.portA := by
  unfold evrAppend; (repeat' split) <;> (simp; done)
@[simp] theorem evrAppend_portB (s : State) (c : Nat) (params : List Nat) (firmware late : Bool) : (evrAppend s c params firmware late).portB = s.portB := by
  unfold evrAppend; (repeat' split) <;> (simp; done)
@[simp] theorem evrAppend_jobs (s : State) (c : Nat) (params : List Nat) (firmware late : Bool) : (evrAppend s c params firmware late).jobs = s.jobs := by
  unfold evrAppend; (repeat' split) <;> (simp; done)
@[simp] theorem evrAppend_heldJobs (s : State) (c : Nat) (params : List Nat) (firmware late : Bool) : (evrAppend s c params firmware late).heldJobs = s.heldJobs := by
  unfold evrAppend; (repeat' split) <;> (simp; done)
@[simp] theorem evrAppend_qps (s : State) (c : Nat) (params : List Nat) (firmware late : Bool) : (evrAppend s c params firmware late).qps = s.qps := by
  unfold evrAppend; (repeat' split) <;> (simp; done)
@[simp] theorem evrAppend_sched (s : State) (c : Nat) (params : List Nat) (firmware late : Bool) : (evrAppend s c params firmware late).sched = s.sched := by
  unfold evrAppend; (repeat' split) <;> (simp; done)
@[simp] theorem evrAppend_manifests (s : State) (c : Nat) (params : List Nat) (firmware late : Bool) : (evrAppend s c params firmware late).manifests = s.manifests := by
  unfold evrAppend; (repeat' split) <;> (simp; done)
@[simp] theorem evrAppend_nextManifest (s : State) (c : Nat) (params : List Nat) (firmware late : Bool) : (evrAppend s c params firmware late).nextManifest = s.nextManifest := by
  unfold evrAppend; (repeat' split) <;> (simp; done)
@[simp] theorem evrAppend_sealEngines (s : State) (c : Nat) (params : List Nat) (firmware late : Bool) : (evrAppend s c params firmware late).sealEngines = s.sealEngines := by
  unfold evrAppend; (repeat' split) <;> (simp; done)
@[simp] theorem evrAppend_digests (s : State) (c : Nat) (params : List Nat) (firmware late : Bool) : (evrAppend s c params firmware late).digests = s.digests := by
  unfold evrAppend; (repeat' split) <;> (simp; done)
@[simp] theorem evrAppend_meas (s : State) (c : Nat) (params : List Nat) (firmware late : Bool) : (evrAppend s c params firmware late).meas = s.meas := by
  unfold evrAppend; (repeat' split) <;> (simp; done)
@[simp] theorem evrAppend_measLog (s : State) (c : Nat) (params : List Nat) (firmware late : Bool) : (evrAppend s c params firmware late).measLog = s.measLog := by
  unfold evrAppend; (repeat' split) <;> (simp; done)
@[simp] theorem evrAppend_measNext (s : State) (c : Nat) (params : List Nat) (firmware late : Bool) : (evrAppend s c params firmware late).measNext = s.measNext := by
  unfold evrAppend; (repeat' split) <;> (simp; done)
@[simp] theorem evrAppend_measOverflow (s : State) (c : Nat) (params : List Nat) (firmware late : Bool) : (evrAppend s c params firmware late).measOverflow = s.measOverflow := by
  unfold evrAppend; (repeat' split) <;> (simp; done)
@[simp] theorem evrAppend_truncOffered (s : State) (c : Nat) (params : List Nat) (firmware late : Bool) : (evrAppend s c params firmware late).truncOffered = s.truncOffered := by
  unfold evrAppend; (repeat' split) <;> (simp; done)
@[simp] theorem evrAppend_slots (s : State) (c : Nat) (params : List Nat) (firmware late : Bool) : (evrAppend s c params firmware late).slots = s.slots := by
  unfold evrAppend; (repeat' split) <;> (simp; done)
@[simp] theorem evrAppend_pufSecret (s : State) (c : Nat) (params : List Nat) (firmware late : Bool) : (evrAppend s c params firmware late).pufSecret = s.pufSecret := by
  unfold evrAppend; (repeat' split) <;> (simp; done)
@[simp] theorem evrAppend_keyed (s : State) (c : Nat) (params : List Nat) (firmware late : Bool) : (evrAppend s c params firmware late).keyed = s.keyed := by
  unfold evrAppend; (repeat' split) <;> (simp; done)
@[simp] theorem evrAppend_cdk (s : State) (c : Nat) (params : List Nat) (firmware late : Bool) : (evrAppend s c params firmware late).cdk = s.cdk := by
  unfold evrAppend; (repeat' split) <;> (simp; done)
@[simp] theorem evrAppend_zeroised (s : State) (c : Nat) (params : List Nat) (firmware late : Bool) : (evrAppend s c params firmware late).zeroised = s.zeroised := by
  unfold evrAppend; (repeat' split) <;> (simp; done)
@[simp] theorem evrAppend_agate (s : State) (c : Nat) (params : List Nat) (firmware late : Bool) : (evrAppend s c params firmware late).agate = s.agate := by
  unfold evrAppend; (repeat' split) <;> (simp; done)
@[simp] theorem evrAppend_arith (s : State) (c : Nat) (params : List Nat) (firmware late : Bool) : (evrAppend s c params firmware late).arith = s.arith := by
  unfold evrAppend; (repeat' split) <;> (simp; done)
@[simp] theorem evrAppend_sources (s : State) (c : Nat) (params : List Nat) (firmware late : Bool) : (evrAppend s c params firmware late).sources = s.sources := by
  unfold evrAppend; (repeat' split) <;> (simp; done)
@[simp] theorem evrAppend_entropy (s : State) (c : Nat) (params : List Nat) (firmware late : Bool) : (evrAppend s c params firmware late).entropy = s.entropy := by
  unfold evrAppend; (repeat' split) <;> (simp; done)
@[simp] theorem evrAppend_filling (s : State) (c : Nat) (params : List Nat) (firmware late : Bool) : (evrAppend s c params firmware late).filling = s.filling := by
  unfold evrAppend; (repeat' split) <;> (simp; done)
@[simp] theorem evrAppend_lfsr (s : State) (c : Nat) (params : List Nat) (firmware late : Bool) : (evrAppend s c params firmware late).lfsr = s.lfsr := by
  unfold evrAppend; (repeat' split) <;> (simp; done)
@[simp] theorem evrAppend_drbgs (s : State) (c : Nat) (params : List Nat) (firmware late : Bool) : (evrAppend s c params firmware late).drbgs = s.drbgs := by
  unfold evrAppend; (repeat' split) <;> (simp; done)
@[simp] theorem evrAppend_tenants (s : State) (c : Nat) (params : List Nat) (firmware late : Bool) : (evrAppend s c params firmware late).tenants = s.tenants := by
  unfold evrAppend; (repeat' split) <;> (simp; done)
@[simp] theorem evrAppend_cfg (s : State) (c : Nat) (params : List Nat) (firmware late : Bool) : (evrAppend s c params firmware late).cfg = s.cfg := by
  unfold evrAppend; (repeat' split) <;> (simp; done)
@[simp] theorem evrAppend_moon (s : State) (c : Nat) (params : List Nat) (firmware late : Bool) : (evrAppend s c params firmware late).moon = s.moon := by
  unfold evrAppend; (repeat' split) <;> (simp; done)
@[simp] theorem evrAppend_fuses (s : State) (c : Nat) (params : List Nat) (firmware late : Bool) : (evrAppend s c params firmware late).fuses = s.fuses := by
  unfold evrAppend; (repeat' split) <;> (simp; done)
@[simp] theorem evrAppend_boot (s : State) (c : Nat) (params : List Nat) (firmware late : Bool) : (evrAppend s c params firmware late).boot = s.boot := by
  unfold evrAppend; (repeat' split) <;> (simp; done)
@[simp] theorem evrAppend_lcs (s : State) (c : Nat) (params : List Nat) (firmware late : Bool) : (evrAppend s c params firmware late).lcs = s.lcs := by
  unfold evrAppend; (repeat' split) <;> (simp; done)
@[simp] theorem evrAppend_tamper (s : State) (c : Nat) (params : List Nat) (firmware late : Bool) : (evrAppend s c params firmware late).tamper = s.tamper := by
  unfold evrAppend; (repeat' split) <;> (simp; done)
@[simp] theorem evrAppend_pins (s : State) (c : Nat) (params : List Nat) (firmware late : Bool) : (evrAppend s c params firmware late).pins = s.pins := by
  unfold evrAppend; (repeat' split) <;> (simp; done)
@[simp] theorem evrAppend_wards (s : State) (c : Nat) (params : List Nat) (firmware late : Bool) : (evrAppend s c params firmware late).wards = s.wards := by
  unfold evrAppend; (repeat' split) <;> (simp; done)
@[simp] theorem evrAppend_tkn (s : State) (c : Nat) (params : List Nat) (firmware late : Bool) : (evrAppend s c params firmware late).tkn = s.tkn := by
  unfold evrAppend; (repeat' split) <;> (simp; done)
@[simp] theorem evrAppend_internalDone (s : State) (c : Nat) (params : List Nat) (firmware late : Bool) : (evrAppend s c params firmware late).internalDone = s.internalDone := by
  unfold evrAppend; (repeat' split) <;> (simp; done)
@[simp] theorem evrAppend_amber (s : State) (c : Nat) (params : List Nat) (firmware late : Bool) : (evrAppend s c params firmware late).amber = s.amber := by
  unfold evrAppend; (repeat' split) <;> (simp; done)
@[simp] theorem evrAppend_links (s : State) (c : Nat) (params : List Nat) (firmware late : Bool) : (evrAppend s c params firmware late).links = s.links := by
  unfold evrAppend; (repeat' split) <;> (simp; done)
@[simp] theorem evrAppend_fabric (s : State) (c : Nat) (params : List Nat) (firmware late : Bool) : (evrAppend s c params firmware late).fabric = s.fabric := by
  unfold evrAppend; (repeat' split) <;> (simp; done)
@[simp] theorem evrAppend_nor (s : State) (c : Nat) (params : List Nat) (firmware late : Bool) : (evrAppend s c params firmware late).nor = s.nor := by
  unfold evrAppend; (repeat' split) <;> (simp; done)
@[simp] theorem evrAppend_mem (s : State) (c : Nat) (params : List Nat) (firmware late : Bool) : (evrAppend s c params firmware late).mem = s.mem := by
  unfold evrAppend; (repeat' split) <;> (simp; done)
@[simp] theorem evrAppend_quartz (s : State) (c : Nat) (params : List Nat) (firmware late : Bool) : (evrAppend s c params firmware late).quartz = s.quartz := by
  unfold evrAppend; (repeat' split) <;> (simp; done)
@[simp] theorem evrAppend_regs (s : State) (c : Nat) (params : List Nat) (firmware late : Bool) : (evrAppend s c params firmware late).regs = s.regs := by
  unfold evrAppend; (repeat' split) <;> (simp; done)
@[simp] theorem evrAppend_out (s : State) (c : Nat) (params : List Nat) (firmware late : Bool) : (evrAppend s c params firmware late).out = s.out := by
  unfold evrAppend; (repeat' split) <;> (simp; done)
@[simp] theorem evrAppend_freeIdx (s : State) (c : Nat) (params : List Nat) (firmware late : Bool) : (evrAppend s c params firmware late).freeIdx = s.freeIdx := by
  unfold evrAppend; (repeat' split) <;> (simp; done)
@[simp] theorem evrAppend_pending (s : State) (c : Nat) (params : List Nat) (firmware late : Bool) : (evrAppend s c params firmware late).pending = s.pending := by
  unfold evrAppend; (repeat' split) <;> (simp; done)

/-! ### evrAdmit -/

@[simp] theorem evrAdmit_clk (s : State) (c : Nat) (params : List Nat) (firmware late : Bool) : (evrAdmit s c params firmware late).clk = s.clk := by
  unfold evrAdmit; dsimp only; (repeat' split) <;> (simp; done)
@[simp] theorem evrAdmit_mode (s : State) (c : Nat) (params : List Nat) (firmware late : Bool) : (evrAdmit s c params firmware late).mode = s.mode := by
  unfold evrAdmit; dsimp only; (repeat' split) <;> (simp; done)
@[simp] theorem evrAdmit_portA (s : State) (c : Nat) (params : List Nat) (firmware late : Bool) : (evrAdmit s c params firmware late).portA = s.portA := by
  unfold evrAdmit; dsimp only; (repeat' split) <;> (simp; done)
@[simp] theorem evrAdmit_portB (s : State) (c : Nat) (params : List Nat) (firmware late : Bool) : (evrAdmit s c params firmware late).portB = s.portB := by
  unfold evrAdmit; dsimp only; (repeat' split) <;> (simp; done)
@[simp] theorem evrAdmit_jobs (s : State) (c : Nat) (params : List Nat) (firmware late : Bool) : (evrAdmit s c params firmware late).jobs = s.jobs := by
  unfold evrAdmit; dsimp only; (repeat' split) <;> (simp; done)
@[simp] theorem evrAdmit_heldJobs (s : State) (c : Nat) (params : List Nat) (firmware late : Bool) : (evrAdmit s c params firmware late).heldJobs = s.heldJobs := by
  unfold evrAdmit; dsimp only; (repeat' split) <;> (simp; done)
@[simp] theorem evrAdmit_qps (s : State) (c : Nat) (params : List Nat) (firmware late : Bool) : (evrAdmit s c params firmware late).qps = s.qps := by
  unfold evrAdmit; dsimp only; (repeat' split) <;> (simp; done)
@[simp] theorem evrAdmit_sched (s : State) (c : Nat) (params : List Nat) (firmware late : Bool) : (evrAdmit s c params firmware late).sched = s.sched := by
  unfold evrAdmit; dsimp only; (repeat' split) <;> (simp; done)
@[simp] theorem evrAdmit_manifests (s : State) (c : Nat) (params : List Nat) (firmware late : Bool) : (evrAdmit s c params firmware late).manifests = s.manifests := by
  unfold evrAdmit; dsimp only; (repeat' split) <;> (simp; done)
@[simp] theorem evrAdmit_nextManifest (s : State) (c : Nat) (params : List Nat) (firmware late : Bool) : (evrAdmit s c params firmware late).nextManifest = s.nextManifest := by
  unfold evrAdmit; dsimp only; (repeat' split) <;> (simp; done)
@[simp] theorem evrAdmit_sealEngines (s : State) (c : Nat) (params : List Nat) (firmware late : Bool) : (evrAdmit s c params firmware late).sealEngines = s.sealEngines := by
  unfold evrAdmit; dsimp only; (repeat' split) <;> (simp; done)
@[simp] theorem evrAdmit_digests (s : State) (c : Nat) (params : List Nat) (firmware late : Bool) : (evrAdmit s c params firmware late).digests = s.digests := by
  unfold evrAdmit; dsimp only; (repeat' split) <;> (simp; done)
@[simp] theorem evrAdmit_meas (s : State) (c : Nat) (params : List Nat) (firmware late : Bool) : (evrAdmit s c params firmware late).meas = s.meas := by
  unfold evrAdmit; dsimp only; (repeat' split) <;> (simp; done)
@[simp] theorem evrAdmit_measLog (s : State) (c : Nat) (params : List Nat) (firmware late : Bool) : (evrAdmit s c params firmware late).measLog = s.measLog := by
  unfold evrAdmit; dsimp only; (repeat' split) <;> (simp; done)
@[simp] theorem evrAdmit_measNext (s : State) (c : Nat) (params : List Nat) (firmware late : Bool) : (evrAdmit s c params firmware late).measNext = s.measNext := by
  unfold evrAdmit; dsimp only; (repeat' split) <;> (simp; done)
@[simp] theorem evrAdmit_measOverflow (s : State) (c : Nat) (params : List Nat) (firmware late : Bool) : (evrAdmit s c params firmware late).measOverflow = s.measOverflow := by
  unfold evrAdmit; dsimp only; (repeat' split) <;> (simp; done)
@[simp] theorem evrAdmit_truncOffered (s : State) (c : Nat) (params : List Nat) (firmware late : Bool) : (evrAdmit s c params firmware late).truncOffered = s.truncOffered := by
  unfold evrAdmit; dsimp only; (repeat' split) <;> (simp; done)
@[simp] theorem evrAdmit_slots (s : State) (c : Nat) (params : List Nat) (firmware late : Bool) : (evrAdmit s c params firmware late).slots = s.slots := by
  unfold evrAdmit; dsimp only; (repeat' split) <;> (simp; done)
@[simp] theorem evrAdmit_pufSecret (s : State) (c : Nat) (params : List Nat) (firmware late : Bool) : (evrAdmit s c params firmware late).pufSecret = s.pufSecret := by
  unfold evrAdmit; dsimp only; (repeat' split) <;> (simp; done)
@[simp] theorem evrAdmit_keyed (s : State) (c : Nat) (params : List Nat) (firmware late : Bool) : (evrAdmit s c params firmware late).keyed = s.keyed := by
  unfold evrAdmit; dsimp only; (repeat' split) <;> (simp; done)
@[simp] theorem evrAdmit_cdk (s : State) (c : Nat) (params : List Nat) (firmware late : Bool) : (evrAdmit s c params firmware late).cdk = s.cdk := by
  unfold evrAdmit; dsimp only; (repeat' split) <;> (simp; done)
@[simp] theorem evrAdmit_zeroised (s : State) (c : Nat) (params : List Nat) (firmware late : Bool) : (evrAdmit s c params firmware late).zeroised = s.zeroised := by
  unfold evrAdmit; dsimp only; (repeat' split) <;> (simp; done)
@[simp] theorem evrAdmit_agate (s : State) (c : Nat) (params : List Nat) (firmware late : Bool) : (evrAdmit s c params firmware late).agate = s.agate := by
  unfold evrAdmit; dsimp only; (repeat' split) <;> (simp; done)
@[simp] theorem evrAdmit_arith (s : State) (c : Nat) (params : List Nat) (firmware late : Bool) : (evrAdmit s c params firmware late).arith = s.arith := by
  unfold evrAdmit; dsimp only; (repeat' split) <;> (simp; done)
@[simp] theorem evrAdmit_sources (s : State) (c : Nat) (params : List Nat) (firmware late : Bool) : (evrAdmit s c params firmware late).sources = s.sources := by
  unfold evrAdmit; dsimp only; (repeat' split) <;> (simp; done)
@[simp] theorem evrAdmit_entropy (s : State) (c : Nat) (params : List Nat) (firmware late : Bool) : (evrAdmit s c params firmware late).entropy = s.entropy := by
  unfold evrAdmit; dsimp only; (repeat' split) <;> (simp; done)
@[simp] theorem evrAdmit_filling (s : State) (c : Nat) (params : List Nat) (firmware late : Bool) : (evrAdmit s c params firmware late).filling = s.filling := by
  unfold evrAdmit; dsimp only; (repeat' split) <;> (simp; done)
@[simp] theorem evrAdmit_lfsr (s : State) (c : Nat) (params : List Nat) (firmware late : Bool) : (evrAdmit s c params firmware late).lfsr = s.lfsr := by
  unfold evrAdmit; dsimp only; (repeat' split) <;> (simp; done)
@[simp] theorem evrAdmit_drbgs (s : State) (c : Nat) (params : List Nat) (firmware late : Bool) : (evrAdmit s c params firmware late).drbgs = s.drbgs := by
  unfold evrAdmit; dsimp only; (repeat' split) <;> (simp; done)
@[simp] theorem evrAdmit_tenants (s : State) (c : Nat) (params : List Nat) (firmware late : Bool) : (evrAdmit s c params firmware late).tenants = s.tenants := by
  unfold evrAdmit; dsimp only; (repeat' split) <;> (simp; done)
@[simp] theorem evrAdmit_cfg (s : State) (c : Nat) (params : List Nat) (firmware late : Bool) : (evrAdmit s c params firmware late).cfg = s.cfg := by
  unfold evrAdmit; dsimp only; (repeat' split) <;> (simp; done)
@[simp] theorem evrAdmit_moon (s : State) (c : Nat) (params : List Nat) (firmware late : Bool) : (evrAdmit s c params firmware late).moon = s.moon := by
  unfold evrAdmit; dsimp only; (repeat' split) <;> (simp; done)
@[simp] theorem evrAdmit_fuses (s : State) (c : Nat) (params : List Nat) (firmware late : Bool) : (evrAdmit s c params firmware late).fuses = s.fuses := by
  unfold evrAdmit; dsimp only; (repeat' split) <;> (simp; done)
@[simp] theorem evrAdmit_boot (s : State) (c : Nat) (params : List Nat) (firmware late : Bool) : (evrAdmit s c params firmware late).boot = s.boot := by
  unfold evrAdmit; dsimp only; (repeat' split) <;> (simp; done)
@[simp] theorem evrAdmit_lcs (s : State) (c : Nat) (params : List Nat) (firmware late : Bool) : (evrAdmit s c params firmware late).lcs = s.lcs := by
  unfold evrAdmit; dsimp only; (repeat' split) <;> (simp; done)
@[simp] theorem evrAdmit_tamper (s : State) (c : Nat) (params : List Nat) (firmware late : Bool) : (evrAdmit s c params firmware late).tamper = s.tamper := by
  unfold evrAdmit; dsimp only; (repeat' split) <;> (simp; done)
@[simp] theorem evrAdmit_pins (s : State) (c : Nat) (params : List Nat) (firmware late : Bool) : (evrAdmit s c params firmware late).pins = s.pins := by
  unfold evrAdmit; dsimp only; (repeat' split) <;> (simp; done)
@[simp] theorem evrAdmit_wards (s : State) (c : Nat) (params : List Nat) (firmware late : Bool) : (evrAdmit s c params firmware late).wards = s.wards := by
  unfold evrAdmit; dsimp only; (repeat' split) <;> (simp; done)
@[simp] theorem evrAdmit_tkn (s : State) (c : Nat) (params : List Nat) (firmware late : Bool) : (evrAdmit s c params firmware late).tkn = s.tkn := by
  unfold evrAdmit; dsimp only; (repeat' split) <;> (simp; done)
@[simp] theorem evrAdmit_internalDone (s : State) (c : Nat) (params : List Nat) (firmware late : Bool) : (evrAdmit s c params firmware late).internalDone = s.internalDone := by
  unfold evrAdmit; dsimp only; (repeat' split) <;> (simp; done)
@[simp] theorem evrAdmit_amber (s : State) (c : Nat) (params : List Nat) (firmware late : Bool) : (evrAdmit s c params firmware late).amber = s.amber := by
  unfold evrAdmit; dsimp only; (repeat' split) <;> (simp; done)
@[simp] theorem evrAdmit_links (s : State) (c : Nat) (params : List Nat) (firmware late : Bool) : (evrAdmit s c params firmware late).links = s.links := by
  unfold evrAdmit; dsimp only; (repeat' split) <;> (simp; done)
@[simp] theorem evrAdmit_fabric (s : State) (c : Nat) (params : List Nat) (firmware late : Bool) : (evrAdmit s c params firmware late).fabric = s.fabric := by
  unfold evrAdmit; dsimp only; (repeat' split) <;> (simp; done)
@[simp] theorem evrAdmit_nor (s : State) (c : Nat) (params : List Nat) (firmware late : Bool) : (evrAdmit s c params firmware late).nor = s.nor := by
  unfold evrAdmit; dsimp only; (repeat' split) <;> (simp; done)
@[simp] theorem evrAdmit_mem (s : State) (c : Nat) (params : List Nat) (firmware late : Bool) : (evrAdmit s c params firmware late).mem = s.mem := by
  unfold evrAdmit; dsimp only; (repeat' split) <;> (simp; done)
@[simp] theorem evrAdmit_quartz (s : State) (c : Nat) (params : List Nat) (firmware late : Bool) : (evrAdmit s c params firmware late).quartz = s.quartz := by
  unfold evrAdmit; dsimp only; (repeat' split) <;> (simp; done)
@[simp] theorem evrAdmit_out (s : State) (c : Nat) (params : List Nat) (firmware late : Bool) : (evrAdmit s c params firmware late).out = s.out := by
  unfold evrAdmit; dsimp only; (repeat' split) <;> (simp; done)
@[simp] theorem evrAdmit_freeIdx (s : State) (c : Nat) (params : List Nat) (firmware late : Bool) : (evrAdmit s c params firmware late).freeIdx = s.freeIdx := by
  unfold evrAdmit; dsimp only; (repeat' split) <;> (simp; done)
@[simp] theorem evrAdmit_pending (s : State) (c : Nat) (params : List Nat) (firmware late : Bool) : (evrAdmit s c params firmware late).pending = s.pending := by
  unfold evrAdmit; dsimp only; (repeat' split) <;> (simp; done)

/-! ### takeEvent -/

@[simp] theorem takeEvent_clk (s : State) (c : Nat) (params : List Nat) (firmware late : Bool) : (takeEvent s c params firmware late).clk = s.clk := by
  unfold takeEvent; (repeat' split) <;> (simp; done)
@[simp] theorem takeEvent_mode (s : State) (c : Nat) (params : List Nat) (firmware late : Bool) : (takeEvent s c params firmware late).mode = s.mode := by
  unfold takeEvent; (repeat' split) <;> (simp; done)
@[simp] theorem takeEvent_portA (s : State) (c : Nat) (params : List Nat) (firmware late : Bool) : (takeEvent s c params firmware late).portA = s.portA := by
  unfold takeEvent; (repeat' split) <;> (simp; done)
@[simp] theorem takeEvent_portB (s : State) (c : Nat) (params : List Nat) (firmware late : Bool) : (takeEvent s c params firmware late).portB = s.portB := by
  unfold takeEvent; (repeat' split) <;> (simp; done)
@[simp] theorem takeEvent_jobs (s : State) (c : Nat) (params : List Nat) (firmware late : Bool) : (takeEvent s c params firmware late).jobs = s.jobs := by
  unfold takeEvent; (repeat' split) <;> (simp; done)
@[simp] theorem takeEvent_heldJobs (s : State) (c : Nat) (params : List Nat) (firmware late : Bool) : (takeEvent s c params firmware late).heldJobs = s.heldJobs := by
  unfold takeEvent; (repeat' split) <;> (simp; done)
@[simp] theorem takeEvent_qps (s : State) (c : Nat) (params : List Nat) (firmware late : Bool) : (takeEvent s c params firmware late).qps = s.qps := by
  unfold takeEvent; (repeat' split) <;> (simp; done)
@[simp] theorem takeEvent_sched (s : State) (c : Nat) (params : List Nat) (firmware late : Bool) : (takeEvent s c params firmware late).sched = s.sched := by
  unfold takeEvent; (repeat' split) <;> (simp; done)
@[simp] theorem takeEvent_manifests (s : State) (c : Nat) (params : List Nat) (firmware late : Bool) : (takeEvent s c params firmware late).manifests = s.manifests := by
  unfold takeEvent; (repeat' split) <;> (simp; done)
@[simp] theorem takeEvent_nextManifest (s : State) (c : Nat) (params : List Nat) (firmware late : Bool) : (takeEvent s c params firmware late).nextManifest = s.nextManifest := by
  unfold takeEvent; (repeat' split) <;> (simp; done)
@[simp] theorem takeEvent_sealEngines (s : State) (c : Nat) (params : List Nat) (firmware late : Bool) : (takeEvent s c params firmware late).sealEngines = s.sealEngines := by
  unfold takeEvent; (repeat' split) <;> (simp; done)
@[simp] theorem takeEvent_digests (s : State) (c : Nat) (params : List Nat) (firmware late : Bool) : (takeEvent s c params firmware late).digests = s.digests := by
  unfold takeEvent; (repeat' split) <;> (simp; done)
@[simp] theorem takeEvent_meas (s : State) (c : Nat) (params : List Nat) (firmware late : Bool) : (takeEvent s c params firmware late).meas = s.meas := by
  unfold takeEvent; (repeat' split) <;> (simp; done)
@[simp] theorem takeEvent_measLog (s : State) (c : Nat) (params : List Nat) (firmware late : Bool) : (takeEvent s c params firmware late).measLog = s.measLog := by
  unfold takeEvent; (repeat' split) <;> (simp; done)
@[simp] theorem takeEvent_measNext (s : State) (c : Nat) (params : List Nat) (firmware late : Bool) : (takeEvent s c params firmware late).measNext = s.measNext := by
  unfold takeEvent; (repeat' split) <;> (simp; done)
@[simp] theorem takeEvent_measOverflow (s : State) (c : Nat) (params : List Nat) (firmware late : Bool) : (takeEvent s c params firmware late).measOverflow = s.measOverflow := by
  unfold takeEvent; (repeat' split) <;> (simp; done)
@[simp] theorem takeEvent_truncOffered (s : State) (c : Nat) (params : List Nat) (firmware late : Bool) : (takeEvent s c params firmware late).truncOffered = s.truncOffered := by
  unfold takeEvent; (repeat' split) <;> (simp; done)
@[simp] theorem takeEvent_slots (s : State) (c : Nat) (params : List Nat) (firmware late : Bool) : (takeEvent s c params firmware late).slots = s.slots := by
  unfold takeEvent; (repeat' split) <;> (simp; done)
@[simp] theorem takeEvent_pufSecret (s : State) (c : Nat) (params : List Nat) (firmware late : Bool) : (takeEvent s c params firmware late).pufSecret = s.pufSecret := by
  unfold takeEvent; (repeat' split) <;> (simp; done)
@[simp] theorem takeEvent_keyed (s : State) (c : Nat) (params : List Nat) (firmware late : Bool) : (takeEvent s c params firmware late).keyed = s.keyed := by
  unfold takeEvent; (repeat' split) <;> (simp; done)
@[simp] theorem takeEvent_cdk (s : State) (c : Nat) (params : List Nat) (firmware late : Bool) : (takeEvent s c params firmware late).cdk = s.cdk := by
  unfold takeEvent; (repeat' split) <;> (simp; done)
@[simp] theorem takeEvent_zeroised (s : State) (c : Nat) (params : List Nat) (firmware late : Bool) : (takeEvent s c params firmware late).zeroised = s.zeroised := by
  unfold takeEvent; (repeat' split) <;> (simp; done)
@[simp] theorem takeEvent_agate (s : State) (c : Nat) (params : List Nat) (firmware late : Bool) : (takeEvent s c params firmware late).agate = s.agate := by
  unfold takeEvent; (repeat' split) <;> (simp; done)
@[simp] theorem takeEvent_arith (s : State) (c : Nat) (params : List Nat) (firmware late : Bool) : (takeEvent s c params firmware late).arith = s.arith := by
  unfold takeEvent; (repeat' split) <;> (simp; done)
@[simp] theorem takeEvent_sources (s : State) (c : Nat) (params : List Nat) (firmware late : Bool) : (takeEvent s c params firmware late).sources = s.sources := by
  unfold takeEvent; (repeat' split) <;> (simp; done)
@[simp] theorem takeEvent_entropy (s : State) (c : Nat) (params : List Nat) (firmware late : Bool) : (takeEvent s c params firmware late).entropy = s.entropy := by
  unfold takeEvent; (repeat' split) <;> (simp; done)
@[simp] theorem takeEvent_filling (s : State) (c : Nat) (params : List Nat) (firmware late : Bool) : (takeEvent s c params firmware late).filling = s.filling := by
  unfold takeEvent; (repeat' split) <;> (simp; done)
@[simp] theorem takeEvent_lfsr (s : State) (c : Nat) (params : List Nat) (firmware late : Bool) : (takeEvent s c params firmware late).lfsr = s.lfsr := by
  unfold takeEvent; (repeat' split) <;> (simp; done)
@[simp] theorem takeEvent_drbgs (s : State) (c : Nat) (params : List Nat) (firmware late : Bool) : (takeEvent s c params firmware late).drbgs = s.drbgs := by
  unfold takeEvent; (repeat' split) <;> (simp; done)
@[simp] theorem takeEvent_tenants (s : State) (c : Nat) (params : List Nat) (firmware late : Bool) : (takeEvent s c params firmware late).tenants = s.tenants := by
  unfold takeEvent; (repeat' split) <;> (simp; done)
@[simp] theorem takeEvent_cfg (s : State) (c : Nat) (params : List Nat) (firmware late : Bool) : (takeEvent s c params firmware late).cfg = s.cfg := by
  unfold takeEvent; (repeat' split) <;> (simp; done)
@[simp] theorem takeEvent_fuses (s : State) (c : Nat) (params : List Nat) (firmware late : Bool) : (takeEvent s c params firmware late).fuses = s.fuses := by
  unfold takeEvent; (repeat' split) <;> (simp; done)
@[simp] theorem takeEvent_boot (s : State) (c : Nat) (params : List Nat) (firmware late : Bool) : (takeEvent s c params firmware late).boot = s.boot := by
  unfold takeEvent; (repeat' split) <;> (simp; done)
@[simp] theorem takeEvent_lcs (s : State) (c : Nat) (params : List Nat) (firmware late : Bool) : (takeEvent s c params firmware late).lcs = s.lcs := by
  unfold takeEvent; (repeat' split) <;> (simp; done)
@[simp] theorem takeEvent_tamper (s : State) (c : Nat) (params : List Nat) (firmware late : Bool) : (takeEvent s c params firmware late).tamper = s.tamper := by
  unfold takeEvent; (repeat' split) <;> (simp; done)
@[simp] theorem takeEvent_pins (s : State) (c : Nat) (params : List Nat) (firmware late : Bool) : (takeEvent s c params firmware late).pins = s.pins := by
  unfold takeEvent; (repeat' split) <;> (simp; done)
@[simp] theorem takeEvent_wards (s : State) (c : Nat) (params : List Nat) (firmware late : Bool) : (takeEvent s c params firmware late).wards = s.wards := by
  unfold takeEvent; (repeat' split) <;> (simp; done)
@[simp] theorem takeEvent_tkn (s : State) (c : Nat) (params : List Nat) (firmware late : Bool) : (takeEvent s c params firmware late).tkn = s.tkn := by
  unfold takeEvent; (repeat' split) <;> (simp; done)
@[simp] theorem takeEvent_internalDone (s : State) (c : Nat) (params : List Nat) (firmware late : Bool) : (takeEvent s c params firmware late).internalDone = s.internalDone := by
  unfold takeEvent; (repeat' split) <;> (simp; done)
@[simp] theorem takeEvent_links (s : State) (c : Nat) (params : List Nat) (firmware late : Bool) : (takeEvent s c params firmware late).links = s.links := by
  unfold takeEvent; (repeat' split) <;> (simp; done)
@[simp] theorem takeEvent_fabric (s : State) (c : Nat) (params : List Nat) (firmware late : Bool) : (takeEvent s c params firmware late).fabric = s.fabric := by
  unfold takeEvent; (repeat' split) <;> (simp; done)
@[simp] theorem takeEvent_nor (s : State) (c : Nat) (params : List Nat) (firmware late : Bool) : (takeEvent s c params firmware late).nor = s.nor := by
  unfold takeEvent; (repeat' split) <;> (simp; done)
@[simp] theorem takeEvent_mem (s : State) (c : Nat) (params : List Nat) (firmware late : Bool) : (takeEvent s c params firmware late).mem = s.mem := by
  unfold takeEvent; (repeat' split) <;> (simp; done)
@[simp] theorem takeEvent_quartz (s : State) (c : Nat) (params : List Nat) (firmware late : Bool) : (takeEvent s c params firmware late).quartz = s.quartz := by
  unfold takeEvent; (repeat' split) <;> (simp; done)
@[simp] theorem takeEvent_out (s : State) (c : Nat) (params : List Nat) (firmware late : Bool) : (takeEvent s c params firmware late).out = s.out := by
  unfold takeEvent; (repeat' split) <;> (simp; done)
@[simp] theorem takeEvent_freeIdx (s : State) (c : Nat) (params : List Nat) (firmware late : Bool) : (takeEvent s c params firmware late).freeIdx = s.freeIdx := by
  unfold takeEvent; (repeat' split) <;> (simp; done)
@[simp] theorem takeEvent_pending (s : State) (c : Nat) (params : List Nat) (firmware late : Bool) : (takeEvent s c params firmware late).pending = s.pending := by
  unfold takeEvent; (repeat' split) <;> (simp; done)

/-! ### recordEvent -/

@[simp] theorem recordEvent_clk (s : State) (c : Nat) (p0 p1 p2 : Nat) : (recordEvent s c p0 p1 p2).clk = s.clk := by
  unfold recordEvent; (repeat' split) <;> (simp; done)
@[simp] theorem recordEvent_mode (s : State) (c : Nat) (p0 p1 p2 : Nat) : (recordEvent s c p0 p1 p2).mode = s.mode := by
  unfold recordEvent; (repeat' split) <;> (simp; done)
@[simp] theorem recordEvent_portA (s : State) (c : Nat) (p0 p1 p2 : Nat) : (recordEvent s c p0 p1 p2).portA = s.portA := by
  unfold recordEvent; (repeat' split) <;> (simp; done)
@[simp] theorem recordEvent_portB (s : State) (c : Nat) (p0 p1 p2 : Nat) : (recordEvent s c p0 p1 p2).portB = s.portB := by
  unfold recordEvent; (repeat' split) <;> (simp; done)
@[simp] theorem recordEvent_jobs (s : State) (c : Nat) (p0 p1 p2 : Nat) : (recordEvent s c p0 p1 p2).jobs = s.jobs := by
  unfold recordEvent; (repeat' split) <;> (simp; done)
@[simp] theorem recordEvent_heldJobs (s : State) (c : Nat) (p0 p1 p2 : Nat) : (recordEvent s c p0 p1 p2).heldJobs = s.heldJobs := by
  unfold recordEvent; (repeat' split) <;> (simp; done)
@[simp] theorem recordEvent_qps (s : State) (c : Nat) (p0 p1 p2 : Nat) : (recordEvent s c p0 p1 p2).qps = s.qps := by
  unfold recordEvent; (repeat' split) <;> (simp; done)
@[simp] theorem recordEvent_sched (s : State) (c : Nat) (p0 p1 p2 : Nat) : (recordEvent s c p0 p1 p2).sched = s.sched := by
  unfold recordEvent; (repeat' split) <;> (simp; done)
@[simp] theorem recordEvent_manifests (s : State) (c : Nat) (p0 p1 p2 : Nat) : (recordEvent s c p0 p1 p2).manifests = s.manifests := by
  unfold recordEvent; (repeat' split) <;> (simp; done)
@[simp] theorem recordEvent_nextManifest (s : State) (c : Nat) (p0 p1 p2 : Nat) : (recordEvent s c p0 p1 p2).nextManifest = s.nextManifest := by
  unfold recordEvent; (repeat' split) <;> (simp; done)
@[simp] theorem recordEvent_sealEngines (s : State) (c : Nat) (p0 p1 p2 : Nat) : (recordEvent s c p0 p1 p2).sealEngines = s.sealEngines := by
  unfold recordEvent; (repeat' split) <;> (simp; done)
@[simp] theorem recordEvent_digests (s : State) (c : Nat) (p0 p1 p2 : Nat) : (recordEvent s c p0 p1 p2).digests = s.digests := by
  unfold recordEvent; (repeat' split) <;> (simp; done)
@[simp] theorem recordEvent_meas (s : State) (c : Nat) (p0 p1 p2 : Nat) : (recordEvent s c p0 p1 p2).meas = s.meas := by
  unfold recordEvent; (repeat' split) <;> (simp; done)
@[simp] theorem recordEvent_measLog (s : State) (c : Nat) (p0 p1 p2 : Nat) : (recordEvent s c p0 p1 p2).measLog = s.measLog := by
  unfold recordEvent; (repeat' split) <;> (simp; done)
@[simp] theorem recordEvent_measNext (s : State) (c : Nat) (p0 p1 p2 : Nat) : (recordEvent s c p0 p1 p2).measNext = s.measNext := by
  unfold recordEvent; (repeat' split) <;> (simp; done)
@[simp] theorem recordEvent_measOverflow (s : State) (c : Nat) (p0 p1 p2 : Nat) : (recordEvent s c p0 p1 p2).measOverflow = s.measOverflow := by
  unfold recordEvent; (repeat' split) <;> (simp; done)
@[simp] theorem recordEvent_truncOffered (s : State) (c : Nat) (p0 p1 p2 : Nat) : (recordEvent s c p0 p1 p2).truncOffered = s.truncOffered := by
  unfold recordEvent; (repeat' split) <;> (simp; done)
@[simp] theorem recordEvent_slots (s : State) (c : Nat) (p0 p1 p2 : Nat) : (recordEvent s c p0 p1 p2).slots = s.slots := by
  unfold recordEvent; (repeat' split) <;> (simp; done)
@[simp] theorem recordEvent_pufSecret (s : State) (c : Nat) (p0 p1 p2 : Nat) : (recordEvent s c p0 p1 p2).pufSecret = s.pufSecret := by
  unfold recordEvent; (repeat' split) <;> (simp; done)
@[simp] theorem recordEvent_keyed (s : State) (c : Nat) (p0 p1 p2 : Nat) : (recordEvent s c p0 p1 p2).keyed = s.keyed := by
  unfold recordEvent; (repeat' split) <;> (simp; done)
@[simp] theorem recordEvent_cdk (s : State) (c : Nat) (p0 p1 p2 : Nat) : (recordEvent s c p0 p1 p2).cdk = s.cdk := by
  unfold recordEvent; (repeat' split) <;> (simp; done)
@[simp] theorem recordEvent_zeroised (s : State) (c : Nat) (p0 p1 p2 : Nat) : (recordEvent s c p0 p1 p2).zeroised = s.zeroised := by
  unfold recordEvent; (repeat' split) <;> (simp; done)
@[simp] theorem recordEvent_agate (s : State) (c : Nat) (p0 p1 p2 : Nat) : (recordEvent s c p0 p1 p2).agate = s.agate := by
  unfold recordEvent; (repeat' split) <;> (simp; done)
@[simp] theorem recordEvent_arith (s : State) (c : Nat) (p0 p1 p2 : Nat) : (recordEvent s c p0 p1 p2).arith = s.arith := by
  unfold recordEvent; (repeat' split) <;> (simp; done)
@[simp] theorem recordEvent_sources (s : State) (c : Nat) (p0 p1 p2 : Nat) : (recordEvent s c p0 p1 p2).sources = s.sources := by
  unfold recordEvent; (repeat' split) <;> (simp; done)
@[simp] theorem recordEvent_entropy (s : State) (c : Nat) (p0 p1 p2 : Nat) : (recordEvent s c p0 p1 p2).entropy = s.entropy := by
  unfold recordEvent; (repeat' split) <;> (simp; done)
@[simp] theorem recordEvent_filling (s : State) (c : Nat) (p0 p1 p2 : Nat) : (recordEvent s c p0 p1 p2).filling = s.filling := by
  unfold recordEvent; (repeat' split) <;> (simp; done)
@[simp] theorem recordEvent_lfsr (s : State) (c : Nat) (p0 p1 p2 : Nat) : (recordEvent s c p0 p1 p2).lfsr = s.lfsr := by
  unfold recordEvent; (repeat' split) <;> (simp; done)
@[simp] theorem recordEvent_drbgs (s : State) (c : Nat) (p0 p1 p2 : Nat) : (recordEvent s c p0 p1 p2).drbgs = s.drbgs := by
  unfold recordEvent; (repeat' split) <;> (simp; done)
@[simp] theorem recordEvent_tenants (s : State) (c : Nat) (p0 p1 p2 : Nat) : (recordEvent s c p0 p1 p2).tenants = s.tenants := by
  unfold recordEvent; (repeat' split) <;> (simp; done)
@[simp] theorem recordEvent_cfg (s : State) (c : Nat) (p0 p1 p2 : Nat) : (recordEvent s c p0 p1 p2).cfg = s.cfg := by
  unfold recordEvent; (repeat' split) <;> (simp; done)
@[simp] theorem recordEvent_fuses (s : State) (c : Nat) (p0 p1 p2 : Nat) : (recordEvent s c p0 p1 p2).fuses = s.fuses := by
  unfold recordEvent; (repeat' split) <;> (simp; done)
@[simp] theorem recordEvent_boot (s : State) (c : Nat) (p0 p1 p2 : Nat) : (recordEvent s c p0 p1 p2).boot = s.boot := by
  unfold recordEvent; (repeat' split) <;> (simp; done)
@[simp] theorem recordEvent_lcs (s : State) (c : Nat) (p0 p1 p2 : Nat) : (recordEvent s c p0 p1 p2).lcs = s.lcs := by
  unfold recordEvent; (repeat' split) <;> (simp; done)
@[simp] theorem recordEvent_tamper (s : State) (c : Nat) (p0 p1 p2 : Nat) : (recordEvent s c p0 p1 p2).tamper = s.tamper := by
  unfold recordEvent; (repeat' split) <;> (simp; done)
@[simp] theorem recordEvent_pins (s : State) (c : Nat) (p0 p1 p2 : Nat) : (recordEvent s c p0 p1 p2).pins = s.pins := by
  unfold recordEvent; (repeat' split) <;> (simp; done)
@[simp] theorem recordEvent_wards (s : State) (c : Nat) (p0 p1 p2 : Nat) : (recordEvent s c p0 p1 p2).wards = s.wards := by
  unfold recordEvent; (repeat' split) <;> (simp; done)
@[simp] theorem recordEvent_tkn (s : State) (c : Nat) (p0 p1 p2 : Nat) : (recordEvent s c p0 p1 p2).tkn = s.tkn := by
  unfold recordEvent; (repeat' split) <;> (simp; done)
@[simp] theorem recordEvent_internalDone (s : State) (c : Nat) (p0 p1 p2 : Nat) : (recordEvent s c p0 p1 p2).internalDone = s.internalDone := by
  unfold recordEvent; (repeat' split) <;> (simp; done)
@[simp] theorem recordEvent_links (s : State) (c : Nat) (p0 p1 p2 : Nat) : (recordEvent s c p0 p1 p2).links = s.links := by
  unfold recordEvent; (repeat' split) <;> (simp; done)
@[simp] theorem recordEvent_fabric (s : State) (c : Nat) (p0 p1 p2 : Nat) : (recordEvent s c p0 p1 p2).fabric = s.fabric := by
  unfold recordEvent; (repeat' split) <;> (simp; done)
@[simp] theorem recordEvent_nor (s : State) (c : Nat) (p0 p1 p2 : Nat) : (recordEvent s c p0 p1 p2).nor = s.nor := by
  unfold recordEvent; (repeat' split) <;> (simp; done)
@[simp] theorem recordEvent_mem (s : State) (c : Nat) (p0 p1 p2 : Nat) : (recordEvent s c p0 p1 p2).mem = s.mem := by
  unfold recordEvent; (repeat' split) <;> (simp; done)
@[simp] theorem recordEvent_quartz (s : State) (c : Nat) (p0 p1 p2 : Nat) : (recordEvent s c p0 p1 p2).quartz = s.quartz := by
  unfold recordEvent; (repeat' split) <;> (simp; done)
@[simp] theorem recordEvent_out (s : State) (c : Nat) (p0 p1 p2 : Nat) : (recordEvent s c p0 p1 p2).out = s.out := by
  unfold recordEvent; (repeat' split) <;> (simp; done)
@[simp] theorem recordEvent_freeIdx (s : State) (c : Nat) (p0 p1 p2 : Nat) : (recordEvent s c p0 p1 p2).freeIdx = s.freeIdx := by
  unfold recordEvent; (repeat' split) <;> (simp; done)
@[simp] theorem recordEvent_pending (s : State) (c : Nat) (p0 p1 p2 : Nat) : (recordEvent s c p0 p1 p2).pending = s.pending := by
  unfold recordEvent; (repeat' split) <;> (simp; done)

/-! ### recordStatus -/

@[simp] theorem recordStatus_clk (s : State) (st : Nat) (j : Job) (p3 : Nat) : (recordStatus s st j p3).clk = s.clk := by
  unfold recordStatus; (repeat' split) <;> (simp; done)
@[simp] theorem recordStatus_mode (s : State) (st : Nat) (j : Job) (p3 : Nat) : (recordStatus s st j p3).mode = s.mode := by
  unfold recordStatus; (repeat' split) <;> (simp; done)
@[simp] theorem recordStatus_portA (s : State) (st : Nat) (j : Job) (p3 : Nat) : (recordStatus s st j p3).portA = s.portA := by
  unfold recordStatus; (repeat' split) <;> (simp; done)
@[simp] theorem recordStatus_portB (s : State) (st : Nat) (j : Job) (p3 : Nat) : (recordStatus s st j p3).portB = s.portB := by
  unfold recordStatus; (repeat' split) <;> (simp; done)
@[simp] theorem recordStatus_jobs (s : State) (st : Nat) (j : Job) (p3 : Nat) : (recordStatus s st j p3).jobs = s.jobs := by
  unfold recordStatus; (repeat' split) <;> (simp; done)
@[simp] theorem recordStatus_heldJobs (s : State) (st : Nat) (j : Job) (p3 : Nat) : (recordStatus s st j p3).heldJobs = s.heldJobs := by
  unfold recordStatus; (repeat' split) <;> (simp; done)
@[simp] theorem recordStatus_qps (s : State) (st : Nat) (j : Job) (p3 : Nat) : (recordStatus s st j p3).qps = s.qps := by
  unfold recordStatus; (repeat' split) <;> (simp; done)
@[simp] theorem recordStatus_sched (s : State) (st : Nat) (j : Job) (p3 : Nat) : (recordStatus s st j p3).sched = s.sched := by
  unfold recordStatus; (repeat' split) <;> (simp; done)
@[simp] theorem recordStatus_manifests (s : State) (st : Nat) (j : Job) (p3 : Nat) : (recordStatus s st j p3).manifests = s.manifests := by
  unfold recordStatus; (repeat' split) <;> (simp; done)
@[simp] theorem recordStatus_nextManifest (s : State) (st : Nat) (j : Job) (p3 : Nat) : (recordStatus s st j p3).nextManifest = s.nextManifest := by
  unfold recordStatus; (repeat' split) <;> (simp; done)
@[simp] theorem recordStatus_sealEngines (s : State) (st : Nat) (j : Job) (p3 : Nat) : (recordStatus s st j p3).sealEngines = s.sealEngines := by
  unfold recordStatus; (repeat' split) <;> (simp; done)
@[simp] theorem recordStatus_digests (s : State) (st : Nat) (j : Job) (p3 : Nat) : (recordStatus s st j p3).digests = s.digests := by
  unfold recordStatus; (repeat' split) <;> (simp; done)
@[simp] theorem recordStatus_meas (s : State) (st : Nat) (j : Job) (p3 : Nat) : (recordStatus s st j p3).meas = s.meas := by
  unfold recordStatus; (repeat' split) <;> (simp; done)
@[simp] theorem recordStatus_measLog (s : State) (st : Nat) (j : Job) (p3 : Nat) : (recordStatus s st j p3).measLog = s.measLog := by
  unfold recordStatus; (repeat' split) <;> (simp; done)
@[simp] theorem recordStatus_measNext (s : State) (st : Nat) (j : Job) (p3 : Nat) : (recordStatus s st j p3).measNext = s.measNext := by
  unfold recordStatus; (repeat' split) <;> (simp; done)
@[simp] theorem recordStatus_measOverflow (s : State) (st : Nat) (j : Job) (p3 : Nat) : (recordStatus s st j p3).measOverflow = s.measOverflow := by
  unfold recordStatus; (repeat' split) <;> (simp; done)
@[simp] theorem recordStatus_truncOffered (s : State) (st : Nat) (j : Job) (p3 : Nat) : (recordStatus s st j p3).truncOffered = s.truncOffered := by
  unfold recordStatus; (repeat' split) <;> (simp; done)
@[simp] theorem recordStatus_slots (s : State) (st : Nat) (j : Job) (p3 : Nat) : (recordStatus s st j p3).slots = s.slots := by
  unfold recordStatus; (repeat' split) <;> (simp; done)
@[simp] theorem recordStatus_pufSecret (s : State) (st : Nat) (j : Job) (p3 : Nat) : (recordStatus s st j p3).pufSecret = s.pufSecret := by
  unfold recordStatus; (repeat' split) <;> (simp; done)
@[simp] theorem recordStatus_keyed (s : State) (st : Nat) (j : Job) (p3 : Nat) : (recordStatus s st j p3).keyed = s.keyed := by
  unfold recordStatus; (repeat' split) <;> (simp; done)
@[simp] theorem recordStatus_cdk (s : State) (st : Nat) (j : Job) (p3 : Nat) : (recordStatus s st j p3).cdk = s.cdk := by
  unfold recordStatus; (repeat' split) <;> (simp; done)
@[simp] theorem recordStatus_zeroised (s : State) (st : Nat) (j : Job) (p3 : Nat) : (recordStatus s st j p3).zeroised = s.zeroised := by
  unfold recordStatus; (repeat' split) <;> (simp; done)
@[simp] theorem recordStatus_agate (s : State) (st : Nat) (j : Job) (p3 : Nat) : (recordStatus s st j p3).agate = s.agate := by
  unfold recordStatus; (repeat' split) <;> (simp; done)
@[simp] theorem recordStatus_arith (s : State) (st : Nat) (j : Job) (p3 : Nat) : (recordStatus s st j p3).arith = s.arith := by
  unfold recordStatus; (repeat' split) <;> (simp; done)
@[simp] theorem recordStatus_sources (s : State) (st : Nat) (j : Job) (p3 : Nat) : (recordStatus s st j p3).sources = s.sources := by
  unfold recordStatus; (repeat' split) <;> (simp; done)
@[simp] theorem recordStatus_entropy (s : State) (st : Nat) (j : Job) (p3 : Nat) : (recordStatus s st j p3).entropy = s.entropy := by
  unfold recordStatus; (repeat' split) <;> (simp; done)
@[simp] theorem recordStatus_filling (s : State) (st : Nat) (j : Job) (p3 : Nat) : (recordStatus s st j p3).filling = s.filling := by
  unfold recordStatus; (repeat' split) <;> (simp; done)
@[simp] theorem recordStatus_lfsr (s : State) (st : Nat) (j : Job) (p3 : Nat) : (recordStatus s st j p3).lfsr = s.lfsr := by
  unfold recordStatus; (repeat' split) <;> (simp; done)
@[simp] theorem recordStatus_drbgs (s : State) (st : Nat) (j : Job) (p3 : Nat) : (recordStatus s st j p3).drbgs = s.drbgs := by
  unfold recordStatus; (repeat' split) <;> (simp; done)
@[simp] theorem recordStatus_tenants (s : State) (st : Nat) (j : Job) (p3 : Nat) : (recordStatus s st j p3).tenants = s.tenants := by
  unfold recordStatus; (repeat' split) <;> (simp; done)
@[simp] theorem recordStatus_cfg (s : State) (st : Nat) (j : Job) (p3 : Nat) : (recordStatus s st j p3).cfg = s.cfg := by
  unfold recordStatus; (repeat' split) <;> (simp; done)
@[simp] theorem recordStatus_fuses (s : State) (st : Nat) (j : Job) (p3 : Nat) : (recordStatus s st j p3).fuses = s.fuses := by
  unfold recordStatus; (repeat' split) <;> (simp; done)
@[simp] theorem recordStatus_boot (s : State) (st : Nat) (j : Job) (p3 : Nat) : (recordStatus s st j p3).boot = s.boot := by
  unfold recordStatus; (repeat' split) <;> (simp; done)
@[simp] theorem recordStatus_lcs (s : State) (st : Nat) (j : Job) (p3 : Nat) : (recordStatus s st j p3).lcs = s.lcs := by
  unfold recordStatus; (repeat' split) <;> (simp; done)
@[simp] theorem recordStatus_tamper (s : State) (st : Nat) (j : Job) (p3 : Nat) : (recordStatus s st j p3).tamper = s.tamper := by
  unfold recordStatus; (repeat' split) <;> (simp; done)
@[simp] theorem recordStatus_pins (s : State) (st : Nat) (j : Job) (p3 : Nat) : (recordStatus s st j p3).pins = s.pins := by
  unfold recordStatus; (repeat' split) <;> (simp; done)
@[simp] theorem recordStatus_wards (s : State) (st : Nat) (j : Job) (p3 : Nat) : (recordStatus s st j p3).wards = s.wards := by
  unfold recordStatus; (repeat' split) <;> (simp; done)
@[simp] theorem recordStatus_tkn (s : State) (st : Nat) (j : Job) (p3 : Nat) : (recordStatus s st j p3).tkn = s.tkn := by
  unfold recordStatus; (repeat' split) <;> (simp; done)
@[simp] theorem recordStatus_internalDone (s : State) (st : Nat) (j : Job) (p3 : Nat) : (recordStatus s st j p3).internalDone = s.internalDone := by
  unfold recordStatus; (repeat' split) <;> (simp; done)
@[simp] theorem recordStatus_links (s : State) (st : Nat) (j : Job) (p3 : Nat) : (recordStatus s st j p3).links = s.links := by
  unfold recordStatus; (repeat' split) <;> (simp; done)
@[simp] theorem recordStatus_fabric (s : State) (st : Nat) (j : Job) (p3 : Nat) : (recordStatus s st j p3).fabric = s.fabric := by
  unfold recordStatus; (repeat' split) <;> (simp; done)
@[simp] theorem recordStatus_nor (s : State) (st : Nat) (j : Job) (p3 : Nat) : (recordStatus s st j p3).nor = s.nor := by
  unfold recordStatus; (repeat' split) <;> (simp; done)
@[simp] theorem recordStatus_mem (s : State) (st : Nat) (j : Job) (p3 : Nat) : (recordStatus s st j p3).mem = s.mem := by
  unfold recordStatus; (repeat' split) <;> (simp; done)
@[simp] theorem recordStatus_quartz (s : State) (st : Nat) (j : Job) (p3 : Nat) : (recordStatus s st j p3).quartz = s.quartz := by
  unfold recordStatus; (repeat' split) <;> (simp; done)
@[simp] theorem recordStatus_out (s : State) (st : Nat) (j : Job) (p3 : Nat) : (recordStatus s st j p3).out = s.out := by
  unfold recordStatus; (repeat' split) <;> (simp; done)
@[simp] theorem recordStatus_freeIdx (s : State) (st : Nat) (j : Job) (p3 : Nat) : (recordStatus s st j p3).freeIdx = s.freeIdx := by
  unfold recordStatus; (repeat' split) <;> (simp; done)
@[simp] theorem recordStatus_pending (s : State) (st : Nat) (j : Job) (p3 : Nat) : (recordStatus s st j p3).pending = s.pending := by
  unfold recordStatus; (repeat' split) <;> (simp; done)

/-! ### recordStatusFree -/

@[simp] theorem recordStatusFree_clk (s : State) (st who p3 : Nat) : (recordStatusFree s st who p3).clk = s.clk := by
  unfold recordStatusFree; (repeat' split) <;> (simp; done)
@[simp] theorem recordStatusFree_mode (s : State) (st who p3 : Nat) : (recordStatusFree s st who p3).mode = s.mode := by
  unfold recordStatusFree; (repeat' split) <;> (simp; done)
@[simp] theorem recordStatusFree_portA (s : State) (st who p3 : Nat) : (recordStatusFree s st who p3).portA = s.portA := by
  unfold recordStatusFree; (repeat' split) <;> (simp; done)
@[simp] theorem recordStatusFree_portB (s : State) (st who p3 : Nat) : (recordStatusFree s st who p3).portB = s.portB := by
  unfold recordStatusFree; (repeat' split) <;> (simp; done)
@[simp] theorem recordStatusFree_jobs (s : State) (st who p3 : Nat) : (recordStatusFree s st who p3).jobs = s.jobs := by
  unfold recordStatusFree; (repeat' split) <;> (simp; done)
@[simp] theorem recordStatusFree_heldJobs (s : State) (st who p3 : Nat) : (recordStatusFree s st who p3).heldJobs = s.heldJobs := by
  unfold recordStatusFree; (repeat' split) <;> (simp; done)
@[simp] theorem recordStatusFree_qps (s : State) (st who p3 : Nat) : (recordStatusFree s st who p3).qps = s.qps := by
  unfold recordStatusFree; (repeat' split) <;> (simp; done)
@[simp] theorem recordStatusFree_sched (s : State) (st who p3 : Nat) : (recordStatusFree s st who p3).sched = s.sched := by
  unfold recordStatusFree; (repeat' split) <;> (simp; done)
@[simp] theorem recordStatusFree_manifests (s : State) (st who p3 : Nat) : (recordStatusFree s st who p3).manifests = s.manifests := by
  unfold recordStatusFree; (repeat' split) <;> (simp; done)
@[simp] theorem recordStatusFree_nextManifest (s : State) (st who p3 : Nat) : (recordStatusFree s st who p3).nextManifest = s.nextManifest := by
  unfold recordStatusFree; (repeat' split) <;> (simp; done)
@[simp] theorem recordStatusFree_sealEngines (s : State) (st who p3 : Nat) : (recordStatusFree s st who p3).sealEngines = s.sealEngines := by
  unfold recordStatusFree; (repeat' split) <;> (simp; done)
@[simp] theorem recordStatusFree_digests (s : State) (st who p3 : Nat) : (recordStatusFree s st who p3).digests = s.digests := by
  unfold recordStatusFree; (repeat' split) <;> (simp; done)
@[simp] theorem recordStatusFree_meas (s : State) (st who p3 : Nat) : (recordStatusFree s st who p3).meas = s.meas := by
  unfold recordStatusFree; (repeat' split) <;> (simp; done)
@[simp] theorem recordStatusFree_measLog (s : State) (st who p3 : Nat) : (recordStatusFree s st who p3).measLog = s.measLog := by
  unfold recordStatusFree; (repeat' split) <;> (simp; done)
@[simp] theorem recordStatusFree_measNext (s : State) (st who p3 : Nat) : (recordStatusFree s st who p3).measNext = s.measNext := by
  unfold recordStatusFree; (repeat' split) <;> (simp; done)
@[simp] theorem recordStatusFree_measOverflow (s : State) (st who p3 : Nat) : (recordStatusFree s st who p3).measOverflow = s.measOverflow := by
  unfold recordStatusFree; (repeat' split) <;> (simp; done)
@[simp] theorem recordStatusFree_truncOffered (s : State) (st who p3 : Nat) : (recordStatusFree s st who p3).truncOffered = s.truncOffered := by
  unfold recordStatusFree; (repeat' split) <;> (simp; done)
@[simp] theorem recordStatusFree_slots (s : State) (st who p3 : Nat) : (recordStatusFree s st who p3).slots = s.slots := by
  unfold recordStatusFree; (repeat' split) <;> (simp; done)
@[simp] theorem recordStatusFree_pufSecret (s : State) (st who p3 : Nat) : (recordStatusFree s st who p3).pufSecret = s.pufSecret := by
  unfold recordStatusFree; (repeat' split) <;> (simp; done)
@[simp] theorem recordStatusFree_keyed (s : State) (st who p3 : Nat) : (recordStatusFree s st who p3).keyed = s.keyed := by
  unfold recordStatusFree; (repeat' split) <;> (simp; done)
@[simp] theorem recordStatusFree_cdk (s : State) (st who p3 : Nat) : (recordStatusFree s st who p3).cdk = s.cdk := by
  unfold recordStatusFree; (repeat' split) <;> (simp; done)
@[simp] theorem recordStatusFree_zeroised (s : State) (st who p3 : Nat) : (recordStatusFree s st who p3).zeroised = s.zeroised := by
  unfold recordStatusFree; (repeat' split) <;> (simp; done)
@[simp] theorem recordStatusFree_agate (s : State) (st who p3 : Nat) : (recordStatusFree s st who p3).agate = s.agate := by
  unfold recordStatusFree; (repeat' split) <;> (simp; done)
@[simp] theorem recordStatusFree_arith (s : State) (st who p3 : Nat) : (recordStatusFree s st who p3).arith = s.arith := by
  unfold recordStatusFree; (repeat' split) <;> (simp; done)
@[simp] theorem recordStatusFree_sources (s : State) (st who p3 : Nat) : (recordStatusFree s st who p3).sources = s.sources := by
  unfold recordStatusFree; (repeat' split) <;> (simp; done)
@[simp] theorem recordStatusFree_entropy (s : State) (st who p3 : Nat) : (recordStatusFree s st who p3).entropy = s.entropy := by
  unfold recordStatusFree; (repeat' split) <;> (simp; done)
@[simp] theorem recordStatusFree_filling (s : State) (st who p3 : Nat) : (recordStatusFree s st who p3).filling = s.filling := by
  unfold recordStatusFree; (repeat' split) <;> (simp; done)
@[simp] theorem recordStatusFree_lfsr (s : State) (st who p3 : Nat) : (recordStatusFree s st who p3).lfsr = s.lfsr := by
  unfold recordStatusFree; (repeat' split) <;> (simp; done)
@[simp] theorem recordStatusFree_drbgs (s : State) (st who p3 : Nat) : (recordStatusFree s st who p3).drbgs = s.drbgs := by
  unfold recordStatusFree; (repeat' split) <;> (simp; done)
@[simp] theorem recordStatusFree_tenants (s : State) (st who p3 : Nat) : (recordStatusFree s st who p3).tenants = s.tenants := by
  unfold recordStatusFree; (repeat' split) <;> (simp; done)
@[simp] theorem recordStatusFree_cfg (s : State) (st who p3 : Nat) : (recordStatusFree s st who p3).cfg = s.cfg := by
  unfold recordStatusFree; (repeat' split) <;> (simp; done)
@[simp] theorem recordStatusFree_fuses (s : State) (st who p3 : Nat) : (recordStatusFree s st who p3).fuses = s.fuses := by
  unfold recordStatusFree; (repeat' split) <;> (simp; done)
@[simp] theorem recordStatusFree_boot (s : State) (st who p3 : Nat) : (recordStatusFree s st who p3).boot = s.boot := by
  unfold recordStatusFree; (repeat' split) <;> (simp; done)
@[simp] theorem recordStatusFree_lcs (s : State) (st who p3 : Nat) : (recordStatusFree s st who p3).lcs = s.lcs := by
  unfold recordStatusFree; (repeat' split) <;> (simp; done)
@[simp] theorem recordStatusFree_tamper (s : State) (st who p3 : Nat) : (recordStatusFree s st who p3).tamper = s.tamper := by
  unfold recordStatusFree; (repeat' split) <;> (simp; done)
@[simp] theorem recordStatusFree_pins (s : State) (st who p3 : Nat) : (recordStatusFree s st who p3).pins = s.pins := by
  unfold recordStatusFree; (repeat' split) <;> (simp; done)
@[simp] theorem recordStatusFree_wards (s : State) (st who p3 : Nat) : (recordStatusFree s st who p3).wards = s.wards := by
  unfold recordStatusFree; (repeat' split) <;> (simp; done)
@[simp] theorem recordStatusFree_tkn (s : State) (st who p3 : Nat) : (recordStatusFree s st who p3).tkn = s.tkn := by
  unfold recordStatusFree; (repeat' split) <;> (simp; done)
@[simp] theorem recordStatusFree_internalDone (s : State) (st who p3 : Nat) : (recordStatusFree s st who p3).internalDone = s.internalDone := by
  unfold recordStatusFree; (repeat' split) <;> (simp; done)
@[simp] theorem recordStatusFree_links (s : State) (st who p3 : Nat) : (recordStatusFree s st who p3).links = s.links := by
  unfold recordStatusFree; (repeat' split) <;> (simp; done)
@[simp] theorem recordStatusFree_fabric (s : State) (st who p3 : Nat) : (recordStatusFree s st who p3).fabric = s.fabric := by
  unfold recordStatusFree; (repeat' split) <;> (simp; done)
@[simp] theorem recordStatusFree_nor (s : State) (st who p3 : Nat) : (recordStatusFree s st who p3).nor = s.nor := by
  unfold recordStatusFree; (repeat' split) <;> (simp; done)
@[simp] theorem recordStatusFree_mem (s : State) (st who p3 : Nat) : (recordStatusFree s st who p3).mem = s.mem := by
  unfold recordStatusFree; (repeat' split) <;> (simp; done)
@[simp] theorem recordStatusFree_quartz (s : State) (st who p3 : Nat) : (recordStatusFree s st who p3).quartz = s.quartz := by
  unfold recordStatusFree; (repeat' split) <;> (simp; done)
@[simp] theorem recordStatusFree_out (s : State) (st who p3 : Nat) : (recordStatusFree s st who p3).out = s.out := by
  unfold recordStatusFree; (repeat' split) <;> (simp; done)
@[simp] theorem recordStatusFree_freeIdx (s : State) (st who p3 : Nat) : (recordStatusFree s st who p3).freeIdx = s.freeIdx := by
  unfold recordStatusFree; (repeat' split) <;> (simp; done)
@[simp] theorem recordStatusFree_pending (s : State) (st who p3 : Nat) : (recordStatusFree s st who p3).pending = s.pending := by
  unfold recordStatusFree; (repeat' split) <;> (simp; done)

/-! ### freeSched -/

@[simp] theorem freeSched_clk (s : State) (o : Origin) : (freeSched s o).clk = s.clk := by
  unfold freeSched; (repeat' split) <;> (simp; done)
@[simp] theorem freeSched_mode (s : State) (o : Origin) : (freeSched s o).mode = s.mode := by
  unfold freeSched; (repeat' split) <;> (simp; done)
@[simp] theorem freeSched_portA (s : State) (o : Origin) : (freeSched s o).portA = s.portA := by
  unfold freeSched; (repeat' split) <;> (simp; done)
@[simp] theorem freeSched_portB (s : State) (o : Origin) : (freeSched s o).portB = s.portB := by
  unfold freeSched; (repeat' split) <;> (simp; done)
@[simp] theorem freeSched_jobs (s : State) (o : Origin) : (freeSched s o).jobs = s.jobs := by
  unfold freeSched; (repeat' split) <;> (simp; done)
@[simp] theorem freeSched_heldJobs (s : State) (o : Origin) : (freeSched s o).heldJobs = s.heldJobs := by
  unfold freeSched; (repeat' split) <;> (simp; done)
@[simp] theorem freeSched_qps (s : State) (o : Origin) : (freeSched s o).qps = s.qps := by
  unfold freeSched; (repeat' split) <;> (simp; done)
@[simp] theorem freeSched_manifests (s : State) (o : Origin) : (freeSched s o).manifests = s.manifests := by
  unfold freeSched; (repeat' split) <;> (simp; done)
@[simp] theorem freeSched_nextManifest (s : State) (o : Origin) : (freeSched s o).nextManifest = s.nextManifest := by
  unfold freeSched; (repeat' split) <;> (simp; done)
@[simp] theorem freeSched_sealEngines (s : State) (o : Origin) : (freeSched s o).sealEngines = s.sealEngines := by
  unfold freeSched; (repeat' split) <;> (simp; done)
@[simp] theorem freeSched_digests (s : State) (o : Origin) : (freeSched s o).digests = s.digests := by
  unfold freeSched; (repeat' split) <;> (simp; done)
@[simp] theorem freeSched_meas (s : State) (o : Origin) : (freeSched s o).meas = s.meas := by
  unfold freeSched; (repeat' split) <;> (simp; done)
@[simp] theorem freeSched_measLog (s : State) (o : Origin) : (freeSched s o).measLog = s.measLog := by
  unfold freeSched; (repeat' split) <;> (simp; done)
@[simp] theorem freeSched_measNext (s : State) (o : Origin) : (freeSched s o).measNext = s.measNext := by
  unfold freeSched; (repeat' split) <;> (simp; done)
@[simp] theorem freeSched_measOverflow (s : State) (o : Origin) : (freeSched s o).measOverflow = s.measOverflow := by
  unfold freeSched; (repeat' split) <;> (simp; done)
@[simp] theorem freeSched_truncOffered (s : State) (o : Origin) : (freeSched s o).truncOffered = s.truncOffered := by
  unfold freeSched; (repeat' split) <;> (simp; done)
@[simp] theorem freeSched_slots (s : State) (o : Origin) : (freeSched s o).slots = s.slots := by
  unfold freeSched; (repeat' split) <;> (simp; done)
@[simp] theorem freeSched_pufSecret (s : State) (o : Origin) : (freeSched s o).pufSecret = s.pufSecret := by
  unfold freeSched; (repeat' split) <;> (simp; done)
@[simp] theorem freeSched_keyed (s : State) (o : Origin) : (freeSched s o).keyed = s.keyed := by
  unfold freeSched; (repeat' split) <;> (simp; done)
@[simp] theorem freeSched_cdk (s : State) (o : Origin) : (freeSched s o).cdk = s.cdk := by
  unfold freeSched; (repeat' split) <;> (simp; done)
@[simp] theorem freeSched_zeroised (s : State) (o : Origin) : (freeSched s o).zeroised = s.zeroised := by
  unfold freeSched; (repeat' split) <;> (simp; done)
@[simp] theorem freeSched_agate (s : State) (o : Origin) : (freeSched s o).agate = s.agate := by
  unfold freeSched; (repeat' split) <;> (simp; done)
@[simp] theorem freeSched_arith (s : State) (o : Origin) : (freeSched s o).arith = s.arith := by
  unfold freeSched; (repeat' split) <;> (simp; done)
@[simp] theorem freeSched_sources (s : State) (o : Origin) : (freeSched s o).sources = s.sources := by
  unfold freeSched; (repeat' split) <;> (simp; done)
@[simp] theorem freeSched_entropy (s : State) (o : Origin) : (freeSched s o).entropy = s.entropy := by
  unfold freeSched; (repeat' split) <;> (simp; done)
@[simp] theorem freeSched_filling (s : State) (o : Origin) : (freeSched s o).filling = s.filling := by
  unfold freeSched; (repeat' split) <;> (simp; done)
@[simp] theorem freeSched_lfsr (s : State) (o : Origin) : (freeSched s o).lfsr = s.lfsr := by
  unfold freeSched; (repeat' split) <;> (simp; done)
@[simp] theorem freeSched_drbgs (s : State) (o : Origin) : (freeSched s o).drbgs = s.drbgs := by
  unfold freeSched; (repeat' split) <;> (simp; done)
@[simp] theorem freeSched_tenants (s : State) (o : Origin) : (freeSched s o).tenants = s.tenants := by
  unfold freeSched; (repeat' split) <;> (simp; done)
@[simp] theorem freeSched_cfg (s : State) (o : Origin) : (freeSched s o).cfg = s.cfg := by
  unfold freeSched; (repeat' split) <;> (simp; done)
@[simp] theorem freeSched_moon (s : State) (o : Origin) : (freeSched s o).moon = s.moon := by
  unfold freeSched; (repeat' split) <;> (simp; done)
@[simp] theorem freeSched_fuses (s : State) (o : Origin) : (freeSched s o).fuses = s.fuses := by
  unfold freeSched; (repeat' split) <;> (simp; done)
@[simp] theorem freeSched_boot (s : State) (o : Origin) : (freeSched s o).boot = s.boot := by
  unfold freeSched; (repeat' split) <;> (simp; done)
@[simp] theorem freeSched_lcs (s : State) (o : Origin) : (freeSched s o).lcs = s.lcs := by
  unfold freeSched; (repeat' split) <;> (simp; done)
@[simp] theorem freeSched_tamper (s : State) (o : Origin) : (freeSched s o).tamper = s.tamper := by
  unfold freeSched; (repeat' split) <;> (simp; done)
@[simp] theorem freeSched_pins (s : State) (o : Origin) : (freeSched s o).pins = s.pins := by
  unfold freeSched; (repeat' split) <;> (simp; done)
@[simp] theorem freeSched_wards (s : State) (o : Origin) : (freeSched s o).wards = s.wards := by
  unfold freeSched; (repeat' split) <;> (simp; done)
@[simp] theorem freeSched_tkn (s : State) (o : Origin) : (freeSched s o).tkn = s.tkn := by
  unfold freeSched; (repeat' split) <;> (simp; done)
@[simp] theorem freeSched_internalDone (s : State) (o : Origin) : (freeSched s o).internalDone = s.internalDone := by
  unfold freeSched; (repeat' split) <;> (simp; done)
@[simp] theorem freeSched_recorder (s : State) (o : Origin) : (freeSched s o).recorder = s.recorder := by
  unfold freeSched; (repeat' split) <;> (simp; done)
@[simp] theorem freeSched_amber (s : State) (o : Origin) : (freeSched s o).amber = s.amber := by
  unfold freeSched; (repeat' split) <;> (simp; done)
@[simp] theorem freeSched_links (s : State) (o : Origin) : (freeSched s o).links = s.links := by
  unfold freeSched; (repeat' split) <;> (simp; done)
@[simp] theorem freeSched_fabric (s : State) (o : Origin) : (freeSched s o).fabric = s.fabric := by
  unfold freeSched; (repeat' split) <;> (simp; done)
@[simp] theorem freeSched_nor (s : State) (o : Origin) : (freeSched s o).nor = s.nor := by
  unfold freeSched; (repeat' split) <;> (simp; done)
@[simp] theorem freeSched_mem (s : State) (o : Origin) : (freeSched s o).mem = s.mem := by
  unfold freeSched; (repeat' split) <;> (simp; done)
@[simp] theorem freeSched_quartz (s : State) (o : Origin) : (freeSched s o).quartz = s.quartz := by
  unfold freeSched; (repeat' split) <;> (simp; done)
@[simp] theorem freeSched_regs (s : State) (o : Origin) : (freeSched s o).regs = s.regs := by
  unfold freeSched; (repeat' split) <;> (simp; done)
@[simp] theorem freeSched_out (s : State) (o : Origin) : (freeSched s o).out = s.out := by
  unfold freeSched; (repeat' split) <;> (simp; done)
@[simp] theorem freeSched_freeIdx (s : State) (o : Origin) : (freeSched s o).freeIdx = s.freeIdx := by
  unfold freeSched; (repeat' split) <;> (simp; done)
@[simp] theorem freeSched_pending (s : State) (o : Origin) : (freeSched s o).pending = s.pending := by
  unfold freeSched; (repeat' split) <;> (simp; done)

/-! ### takeCredit -/

@[simp] theorem takeCredit_clk (s : State) (m : MergePoint) (o : Origin) : (takeCredit s m o).clk = s.clk := by
  unfold takeCredit; (repeat' split) <;> (simp; done)
@[simp] theorem takeCredit_mode (s : State) (m : MergePoint) (o : Origin) : (takeCredit s m o).mode = s.mode := by
  unfold takeCredit; (repeat' split) <;> (simp; done)
@[simp] theorem takeCredit_portA (s : State) (m : MergePoint) (o : Origin) : (takeCredit s m o).portA = s.portA := by
  unfold takeCredit; (repeat' split) <;> (simp; done)
@[simp] theorem takeCredit_portB (s : State) (m : MergePoint) (o : Origin) : (takeCredit s m o).portB = s.portB := by
  unfold takeCredit; (repeat' split) <;> (simp; done)
@[simp] theorem takeCredit_jobs (s : State) (m : MergePoint) (o : Origin) : (takeCredit s m o).jobs = s.jobs := by
  unfold takeCredit; (repeat' split) <;> (simp; done)
@[simp] theorem takeCredit_heldJobs (s : State) (m : MergePoint) (o : Origin) : (takeCredit s m o).heldJobs = s.heldJobs := by
  unfold takeCredit; (repeat' split) <;> (simp; done)
@[simp] theorem takeCredit_qps (s : State) (m : MergePoint) (o : Origin) : (takeCredit s m o).qps = s.qps := by
  unfold takeCredit; (repeat' split) <;> (simp; done)
@[simp] theorem takeCredit_manifests (s : State) (m : MergePoint) (o : Origin) : (takeCredit s m o).manifests = s.manifests := by
  unfold takeCredit; (repeat' split) <;> (simp; done)
@[simp] theorem takeCredit_nextManifest (s : State) (m : MergePoint) (o : Origin) : (takeCredit s m o).nextManifest = s.nextManifest := by
  unfold takeCredit; (repeat' split) <;> (simp; done)
@[simp] theorem takeCredit_sealEngines (s : State) (m : MergePoint) (o : Origin) : (takeCredit s m o).sealEngines = s.sealEngines := by
  unfold takeCredit; (repeat' split) <;> (simp; done)
@[simp] theorem takeCredit_digests (s : State) (m : MergePoint) (o : Origin) : (takeCredit s m o).digests = s.digests := by
  unfold takeCredit; (repeat' split) <;> (simp; done)
@[simp] theorem takeCredit_meas (s : State) (m : MergePoint) (o : Origin) : (takeCredit s m o).meas = s.meas := by
  unfold takeCredit; (repeat' split) <;> (simp; done)
@[simp] theorem takeCredit_measLog (s : State) (m : MergePoint) (o : Origin) : (takeCredit s m o).measLog = s.measLog := by
  unfold takeCredit; (repeat' split) <;> (simp; done)
@[simp] theorem takeCredit_measNext (s : State) (m : MergePoint) (o : Origin) : (takeCredit s m o).measNext = s.measNext := by
  unfold takeCredit; (repeat' split) <;> (simp; done)
@[simp] theorem takeCredit_measOverflow (s : State) (m : MergePoint) (o : Origin) : (takeCredit s m o).measOverflow = s.measOverflow := by
  unfold takeCredit; (repeat' split) <;> (simp; done)
@[simp] theorem takeCredit_truncOffered (s : State) (m : MergePoint) (o : Origin) : (takeCredit s m o).truncOffered = s.truncOffered := by
  unfold takeCredit; (repeat' split) <;> (simp; done)
@[simp] theorem takeCredit_slots (s : State) (m : MergePoint) (o : Origin) : (takeCredit s m o).slots = s.slots := by
  unfold takeCredit; (repeat' split) <;> (simp; done)
@[simp] theorem takeCredit_pufSecret (s : State) (m : MergePoint) (o : Origin) : (takeCredit s m o).pufSecret = s.pufSecret := by
  unfold takeCredit; (repeat' split) <;> (simp; done)
@[simp] theorem takeCredit_keyed (s : State) (m : MergePoint) (o : Origin) : (takeCredit s m o).keyed = s.keyed := by
  unfold takeCredit; (repeat' split) <;> (simp; done)
@[simp] theorem takeCredit_cdk (s : State) (m : MergePoint) (o : Origin) : (takeCredit s m o).cdk = s.cdk := by
  unfold takeCredit; (repeat' split) <;> (simp; done)
@[simp] theorem takeCredit_zeroised (s : State) (m : MergePoint) (o : Origin) : (takeCredit s m o).zeroised = s.zeroised := by
  unfold takeCredit; (repeat' split) <;> (simp; done)
@[simp] theorem takeCredit_agate (s : State) (m : MergePoint) (o : Origin) : (takeCredit s m o).agate = s.agate := by
  unfold takeCredit; (repeat' split) <;> (simp; done)
@[simp] theorem takeCredit_arith (s : State) (m : MergePoint) (o : Origin) : (takeCredit s m o).arith = s.arith := by
  unfold takeCredit; (repeat' split) <;> (simp; done)
@[simp] theorem takeCredit_sources (s : State) (m : MergePoint) (o : Origin) : (takeCredit s m o).sources = s.sources := by
  unfold takeCredit; (repeat' split) <;> (simp; done)
@[simp] theorem takeCredit_entropy (s : State) (m : MergePoint) (o : Origin) : (takeCredit s m o).entropy = s.entropy := by
  unfold takeCredit; (repeat' split) <;> (simp; done)
@[simp] theorem takeCredit_filling (s : State) (m : MergePoint) (o : Origin) : (takeCredit s m o).filling = s.filling := by
  unfold takeCredit; (repeat' split) <;> (simp; done)
@[simp] theorem takeCredit_lfsr (s : State) (m : MergePoint) (o : Origin) : (takeCredit s m o).lfsr = s.lfsr := by
  unfold takeCredit; (repeat' split) <;> (simp; done)
@[simp] theorem takeCredit_drbgs (s : State) (m : MergePoint) (o : Origin) : (takeCredit s m o).drbgs = s.drbgs := by
  unfold takeCredit; (repeat' split) <;> (simp; done)
@[simp] theorem takeCredit_tenants (s : State) (m : MergePoint) (o : Origin) : (takeCredit s m o).tenants = s.tenants := by
  unfold takeCredit; (repeat' split) <;> (simp; done)
@[simp] theorem takeCredit_cfg (s : State) (m : MergePoint) (o : Origin) : (takeCredit s m o).cfg = s.cfg := by
  unfold takeCredit; (repeat' split) <;> (simp; done)
@[simp] theorem takeCredit_moon (s : State) (m : MergePoint) (o : Origin) : (takeCredit s m o).moon = s.moon := by
  unfold takeCredit; (repeat' split) <;> (simp; done)
@[simp] theorem takeCredit_fuses (s : State) (m : MergePoint) (o : Origin) : (takeCredit s m o).fuses = s.fuses := by
  unfold takeCredit; (repeat' split) <;> (simp; done)
@[simp] theorem takeCredit_boot (s : State) (m : MergePoint) (o : Origin) : (takeCredit s m o).boot = s.boot := by
  unfold takeCredit; (repeat' split) <;> (simp; done)
@[simp] theorem takeCredit_lcs (s : State) (m : MergePoint) (o : Origin) : (takeCredit s m o).lcs = s.lcs := by
  unfold takeCredit; (repeat' split) <;> (simp; done)
@[simp] theorem takeCredit_tamper (s : State) (m : MergePoint) (o : Origin) : (takeCredit s m o).tamper = s.tamper := by
  unfold takeCredit; (repeat' split) <;> (simp; done)
@[simp] theorem takeCredit_pins (s : State) (m : MergePoint) (o : Origin) : (takeCredit s m o).pins = s.pins := by
  unfold takeCredit; (repeat' split) <;> (simp; done)
@[simp] theorem takeCredit_wards (s : State) (m : MergePoint) (o : Origin) : (takeCredit s m o).wards = s.wards := by
  unfold takeCredit; (repeat' split) <;> (simp; done)
@[simp] theorem takeCredit_tkn (s : State) (m : MergePoint) (o : Origin) : (takeCredit s m o).tkn = s.tkn := by
  unfold takeCredit; (repeat' split) <;> (simp; done)
@[simp] theorem takeCredit_internalDone (s : State) (m : MergePoint) (o : Origin) : (takeCredit s m o).internalDone = s.internalDone := by
  unfold takeCredit; (repeat' split) <;> (simp; done)
@[simp] theorem takeCredit_recorder (s : State) (m : MergePoint) (o : Origin) : (takeCredit s m o).recorder = s.recorder := by
  unfold takeCredit; (repeat' split) <;> (simp; done)
@[simp] theorem takeCredit_amber (s : State) (m : MergePoint) (o : Origin) : (takeCredit s m o).amber = s.amber := by
  unfold takeCredit; (repeat' split) <;> (simp; done)
@[simp] theorem takeCredit_links (s : State) (m : MergePoint) (o : Origin) : (takeCredit s m o).links = s.links := by
  unfold takeCredit; (repeat' split) <;> (simp; done)
@[simp] theorem takeCredit_fabric (s : State) (m : MergePoint) (o : Origin) : (takeCredit s m o).fabric = s.fabric := by
  unfold takeCredit; (repeat' split) <;> (simp; done)
@[simp] theorem takeCredit_nor (s : State) (m : MergePoint) (o : Origin) : (takeCredit s m o).nor = s.nor := by
  unfold takeCredit; (repeat' split) <;> (simp; done)
@[simp] theorem takeCredit_mem (s : State) (m : MergePoint) (o : Origin) : (takeCredit s m o).mem = s.mem := by
  unfold takeCredit; (repeat' split) <;> (simp; done)
@[simp] theorem takeCredit_quartz (s : State) (m : MergePoint) (o : Origin) : (takeCredit s m o).quartz = s.quartz := by
  unfold takeCredit; (repeat' split) <;> (simp; done)
@[simp] theorem takeCredit_regs (s : State) (m : MergePoint) (o : Origin) : (takeCredit s m o).regs = s.regs := by
  unfold takeCredit; (repeat' split) <;> (simp; done)
@[simp] theorem takeCredit_out (s : State) (m : MergePoint) (o : Origin) : (takeCredit s m o).out = s.out := by
  unfold takeCredit; (repeat' split) <;> (simp; done)
@[simp] theorem takeCredit_freeIdx (s : State) (m : MergePoint) (o : Origin) : (takeCredit s m o).freeIdx = s.freeIdx := by
  unfold takeCredit; (repeat' split) <;> (simp; done)
@[simp] theorem takeCredit_pending (s : State) (m : MergePoint) (o : Origin) : (takeCredit s m o).pending = s.pending := by
  unfold takeCredit; (repeat' split) <;> (simp; done)

/-! ### giveCredit -/

@[simp] theorem giveCredit_clk (s : State) (m : MergePoint) (o : Origin) : (giveCredit s m o).clk = s.clk := by
  unfold giveCredit; (repeat' split) <;> (simp; done)
@[simp] theorem giveCredit_mode (s : State) (m : MergePoint) (o : Origin) : (giveCredit s m o).mode = s.mode := by
  unfold giveCredit; (repeat' split) <;> (simp; done)
@[simp] theorem giveCredit_portA (s : State) (m : MergePoint) (o : Origin) : (giveCredit s m o).portA = s.portA := by
  unfold giveCredit; (repeat' split) <;> (simp; done)
@[simp] theorem giveCredit_portB (s : State) (m : MergePoint) (o : Origin) : (giveCredit s m o).portB = s.portB := by
  unfold giveCredit; (repeat' split) <;> (simp; done)
@[simp] theorem giveCredit_jobs (s : State) (m : MergePoint) (o : Origin) : (giveCredit s m o).jobs = s.jobs := by
  unfold giveCredit; (repeat' split) <;> (simp; done)
@[simp] theorem giveCredit_heldJobs (s : State) (m : MergePoint) (o : Origin) : (giveCredit s m o).heldJobs = s.heldJobs := by
  unfold giveCredit; (repeat' split) <;> (simp; done)
@[simp] theorem giveCredit_qps (s : State) (m : MergePoint) (o : Origin) : (giveCredit s m o).qps = s.qps := by
  unfold giveCredit; (repeat' split) <;> (simp; done)
@[simp] theorem giveCredit_manifests (s : State) (m : MergePoint) (o : Origin) : (giveCredit s m o).manifests = s.manifests := by
  unfold giveCredit; (repeat' split) <;> (simp; done)
@[simp] theorem giveCredit_nextManifest (s : State) (m : MergePoint) (o : Origin) : (giveCredit s m o).nextManifest = s.nextManifest := by
  unfold giveCredit; (repeat' split) <;> (simp; done)
@[simp] theorem giveCredit_sealEngines (s : State) (m : MergePoint) (o : Origin) : (giveCredit s m o).sealEngines = s.sealEngines := by
  unfold giveCredit; (repeat' split) <;> (simp; done)
@[simp] theorem giveCredit_digests (s : State) (m : MergePoint) (o : Origin) : (giveCredit s m o).digests = s.digests := by
  unfold giveCredit; (repeat' split) <;> (simp; done)
@[simp] theorem giveCredit_meas (s : State) (m : MergePoint) (o : Origin) : (giveCredit s m o).meas = s.meas := by
  unfold giveCredit; (repeat' split) <;> (simp; done)
@[simp] theorem giveCredit_measLog (s : State) (m : MergePoint) (o : Origin) : (giveCredit s m o).measLog = s.measLog := by
  unfold giveCredit; (repeat' split) <;> (simp; done)
@[simp] theorem giveCredit_measNext (s : State) (m : MergePoint) (o : Origin) : (giveCredit s m o).measNext = s.measNext := by
  unfold giveCredit; (repeat' split) <;> (simp; done)
@[simp] theorem giveCredit_measOverflow (s : State) (m : MergePoint) (o : Origin) : (giveCredit s m o).measOverflow = s.measOverflow := by
  unfold giveCredit; (repeat' split) <;> (simp; done)
@[simp] theorem giveCredit_truncOffered (s : State) (m : MergePoint) (o : Origin) : (giveCredit s m o).truncOffered = s.truncOffered := by
  unfold giveCredit; (repeat' split) <;> (simp; done)
@[simp] theorem giveCredit_slots (s : State) (m : MergePoint) (o : Origin) : (giveCredit s m o).slots = s.slots := by
  unfold giveCredit; (repeat' split) <;> (simp; done)
@[simp] theorem giveCredit_pufSecret (s : State) (m : MergePoint) (o : Origin) : (giveCredit s m o).pufSecret = s.pufSecret := by
  unfold giveCredit; (repeat' split) <;> (simp; done)
@[simp] theorem giveCredit_keyed (s : State) (m : MergePoint) (o : Origin) : (giveCredit s m o).keyed = s.keyed := by
  unfold giveCredit; (repeat' split) <;> (simp; done)
@[simp] theorem giveCredit_cdk (s : State) (m : MergePoint) (o : Origin) : (giveCredit s m o).cdk = s.cdk := by
  unfold giveCredit; (repeat' split) <;> (simp; done)
@[simp] theorem giveCredit_zeroised (s : State) (m : MergePoint) (o : Origin) : (giveCredit s m o).zeroised = s.zeroised := by
  unfold giveCredit; (repeat' split) <;> (simp; done)
@[simp] theorem giveCredit_agate (s : State) (m : MergePoint) (o : Origin) : (giveCredit s m o).agate = s.agate := by
  unfold giveCredit; (repeat' split) <;> (simp; done)
@[simp] theorem giveCredit_arith (s : State) (m : MergePoint) (o : Origin) : (giveCredit s m o).arith = s.arith := by
  unfold giveCredit; (repeat' split) <;> (simp; done)
@[simp] theorem giveCredit_sources (s : State) (m : MergePoint) (o : Origin) : (giveCredit s m o).sources = s.sources := by
  unfold giveCredit; (repeat' split) <;> (simp; done)
@[simp] theorem giveCredit_entropy (s : State) (m : MergePoint) (o : Origin) : (giveCredit s m o).entropy = s.entropy := by
  unfold giveCredit; (repeat' split) <;> (simp; done)
@[simp] theorem giveCredit_filling (s : State) (m : MergePoint) (o : Origin) : (giveCredit s m o).filling = s.filling := by
  unfold giveCredit; (repeat' split) <;> (simp; done)
@[simp] theorem giveCredit_lfsr (s : State) (m : MergePoint) (o : Origin) : (giveCredit s m o).lfsr = s.lfsr := by
  unfold giveCredit; (repeat' split) <;> (simp; done)
@[simp] theorem giveCredit_drbgs (s : State) (m : MergePoint) (o : Origin) : (giveCredit s m o).drbgs = s.drbgs := by
  unfold giveCredit; (repeat' split) <;> (simp; done)
@[simp] theorem giveCredit_tenants (s : State) (m : MergePoint) (o : Origin) : (giveCredit s m o).tenants = s.tenants := by
  unfold giveCredit; (repeat' split) <;> (simp; done)
@[simp] theorem giveCredit_cfg (s : State) (m : MergePoint) (o : Origin) : (giveCredit s m o).cfg = s.cfg := by
  unfold giveCredit; (repeat' split) <;> (simp; done)
@[simp] theorem giveCredit_moon (s : State) (m : MergePoint) (o : Origin) : (giveCredit s m o).moon = s.moon := by
  unfold giveCredit; (repeat' split) <;> (simp; done)
@[simp] theorem giveCredit_fuses (s : State) (m : MergePoint) (o : Origin) : (giveCredit s m o).fuses = s.fuses := by
  unfold giveCredit; (repeat' split) <;> (simp; done)
@[simp] theorem giveCredit_boot (s : State) (m : MergePoint) (o : Origin) : (giveCredit s m o).boot = s.boot := by
  unfold giveCredit; (repeat' split) <;> (simp; done)
@[simp] theorem giveCredit_lcs (s : State) (m : MergePoint) (o : Origin) : (giveCredit s m o).lcs = s.lcs := by
  unfold giveCredit; (repeat' split) <;> (simp; done)
@[simp] theorem giveCredit_tamper (s : State) (m : MergePoint) (o : Origin) : (giveCredit s m o).tamper = s.tamper := by
  unfold giveCredit; (repeat' split) <;> (simp; done)
@[simp] theorem giveCredit_pins (s : State) (m : MergePoint) (o : Origin) : (giveCredit s m o).pins = s.pins := by
  unfold giveCredit; (repeat' split) <;> (simp; done)
@[simp] theorem giveCredit_wards (s : State) (m : MergePoint) (o : Origin) : (giveCredit s m o).wards = s.wards := by
  unfold giveCredit; (repeat' split) <;> (simp; done)
@[simp] theorem giveCredit_tkn (s : State) (m : MergePoint) (o : Origin) : (giveCredit s m o).tkn = s.tkn := by
  unfold giveCredit; (repeat' split) <;> (simp; done)
@[simp] theorem giveCredit_internalDone (s : State) (m : MergePoint) (o : Origin) : (giveCredit s m o).internalDone = s.internalDone := by
  unfold giveCredit; (repeat' split) <;> (simp; done)
@[simp] theorem giveCredit_recorder (s : State) (m : MergePoint) (o : Origin) : (giveCredit s m o).recorder = s.recorder := by
  unfold giveCredit; (repeat' split) <;> (simp; done)
@[simp] theorem giveCredit_amber (s : State) (m : MergePoint) (o : Origin) : (giveCredit s m o).amber = s.amber := by
  unfold giveCredit; (repeat' split) <;> (simp; done)
@[simp] theorem giveCredit_links (s : State) (m : MergePoint) (o : Origin) : (giveCredit s m o).links = s.links := by
  unfold giveCredit; (repeat' split) <;> (simp; done)
@[simp] theorem giveCredit_fabric (s : State) (m : MergePoint) (o : Origin) : (giveCredit s m o).fabric = s.fabric := by
  unfold giveCredit; (repeat' split) <;> (simp; done)
@[simp] theorem giveCredit_nor (s : State) (m : MergePoint) (o : Origin) : (giveCredit s m o).nor = s.nor := by
  unfold giveCredit; (repeat' split) <;> (simp; done)
@[simp] theorem giveCredit_mem (s : State) (m : MergePoint) (o : Origin) : (giveCredit s m o).mem = s.mem := by
  unfold giveCredit; (repeat' split) <;> (simp; done)
@[simp] theorem giveCredit_quartz (s : State) (m : MergePoint) (o : Origin) : (giveCredit s m o).quartz = s.quartz := by
  unfold giveCredit; (repeat' split) <;> (simp; done)
@[simp] theorem giveCredit_regs (s : State) (m : MergePoint) (o : Origin) : (giveCredit s m o).regs = s.regs := by
  unfold giveCredit; (repeat' split) <;> (simp; done)
@[simp] theorem giveCredit_out (s : State) (m : MergePoint) (o : Origin) : (giveCredit s m o).out = s.out := by
  unfold giveCredit; (repeat' split) <;> (simp; done)
@[simp] theorem giveCredit_freeIdx (s : State) (m : MergePoint) (o : Origin) : (giveCredit s m o).freeIdx = s.freeIdx := by
  unfold giveCredit; (repeat' split) <;> (simp; done)
@[simp] theorem giveCredit_pending (s : State) (m : MergePoint) (o : Origin) : (giveCredit s m o).pending = s.pending := by
  unfold giveCredit; (repeat' split) <;> (simp; done)

/-! ### raiseVector -/

@[simp] theorem raiseVector_clk (s : State) (p : PortId) (f v : Nat) : (raiseVector s p f v).clk = s.clk := by
  unfold raiseVector; dsimp only; (repeat' split) <;> (simp; done)
@[simp] theorem raiseVector_mode (s : State) (p : PortId) (f v : Nat) : (raiseVector s p f v).mode = s.mode := by
  unfold raiseVector; dsimp only; (repeat' split) <;> (simp; done)
@[simp] theorem raiseVector_jobs (s : State) (p : PortId) (f v : Nat) : (raiseVector s p f v).jobs = s.jobs := by
  unfold raiseVector; dsimp only; (repeat' split) <;> (simp; done)
@[simp] theorem raiseVector_heldJobs (s : State) (p : PortId) (f v : Nat) : (raiseVector s p f v).heldJobs = s.heldJobs := by
  unfold raiseVector; dsimp only; (repeat' split) <;> (simp; done)
@[simp] theorem raiseVector_qps (s : State) (p : PortId) (f v : Nat) : (raiseVector s p f v).qps = s.qps := by
  unfold raiseVector; dsimp only; (repeat' split) <;> (simp; done)
@[simp] theorem raiseVector_sched (s : State) (p : PortId) (f v : Nat) : (raiseVector s p f v).sched = s.sched := by
  unfold raiseVector; dsimp only; (repeat' split) <;> (simp; done)
@[simp] theorem raiseVector_manifests (s : State) (p : PortId) (f v : Nat) : (raiseVector s p f v).manifests = s.manifests := by
  unfold raiseVector; dsimp only; (repeat' split) <;> (simp; done)
@[simp] theorem raiseVector_nextManifest (s : State) (p : PortId) (f v : Nat) : (raiseVector s p f v).nextManifest = s.nextManifest := by
  unfold raiseVector; dsimp only; (repeat' split) <;> (simp; done)
@[simp] theorem raiseVector_sealEngines (s : State) (p : PortId) (f v : Nat) : (raiseVector s p f v).sealEngines = s.sealEngines := by
  unfold raiseVector; dsimp only; (repeat' split) <;> (simp; done)
@[simp] theorem raiseVector_digests (s : State) (p : PortId) (f v : Nat) : (raiseVector s p f v).digests = s.digests := by
  unfold raiseVector; dsimp only; (repeat' split) <;> (simp; done)
@[simp] theorem raiseVector_meas (s : State) (p : PortId) (f v : Nat) : (raiseVector s p f v).meas = s.meas := by
  unfold raiseVector; dsimp only; (repeat' split) <;> (simp; done)
@[simp] theorem raiseVector_measLog (s : State) (p : PortId) (f v : Nat) : (raiseVector s p f v).measLog = s.measLog := by
  unfold raiseVector; dsimp only; (repeat' split) <;> (simp; done)
@[simp] theorem raiseVector_measNext (s : State) (p : PortId) (f v : Nat) : (raiseVector s p f v).measNext = s.measNext := by
  unfold raiseVector; dsimp only; (repeat' split) <;> (simp; done)
@[simp] theorem raiseVector_measOverflow (s : State) (p : PortId) (f v : Nat) : (raiseVector s p f v).measOverflow = s.measOverflow := by
  unfold raiseVector; dsimp only; (repeat' split) <;> (simp; done)
@[simp] theorem raiseVector_truncOffered (s : State) (p : PortId) (f v : Nat) : (raiseVector s p f v).truncOffered = s.truncOffered := by
  unfold raiseVector; dsimp only; (repeat' split) <;> (simp; done)
@[simp] theorem raiseVector_slots (s : State) (p : PortId) (f v : Nat) : (raiseVector s p f v).slots = s.slots := by
  unfold raiseVector; dsimp only; (repeat' split) <;> (simp; done)
@[simp] theorem raiseVector_pufSecret (s : State) (p : PortId) (f v : Nat) : (raiseVector s p f v).pufSecret = s.pufSecret := by
  unfold raiseVector; dsimp only; (repeat' split) <;> (simp; done)
@[simp] theorem raiseVector_keyed (s : State) (p : PortId) (f v : Nat) : (raiseVector s p f v).keyed = s.keyed := by
  unfold raiseVector; dsimp only; (repeat' split) <;> (simp; done)
@[simp] theorem raiseVector_cdk (s : State) (p : PortId) (f v : Nat) : (raiseVector s p f v).cdk = s.cdk := by
  unfold raiseVector; dsimp only; (repeat' split) <;> (simp; done)
@[simp] theorem raiseVector_zeroised (s : State) (p : PortId) (f v : Nat) : (raiseVector s p f v).zeroised = s.zeroised := by
  unfold raiseVector; dsimp only; (repeat' split) <;> (simp; done)
@[simp] theorem raiseVector_agate (s : State) (p : PortId) (f v : Nat) : (raiseVector s p f v).agate = s.agate := by
  unfold raiseVector; dsimp only; (repeat' split) <;> (simp; done)
@[simp] theorem raiseVector_arith (s : State) (p : PortId) (f v : Nat) : (raiseVector s p f v).arith = s.arith := by
  unfold raiseVector; dsimp only; (repeat' split) <;> (simp; done)
@[simp] theorem raiseVector_sources (s : State) (p : PortId) (f v : Nat) : (raiseVector s p f v).sources = s.sources := by
  unfold raiseVector; dsimp only; (repeat' split) <;> (simp; done)
@[simp] theorem raiseVector_entropy (s : State) (p : PortId) (f v : Nat) : (raiseVector s p f v).entropy = s.entropy := by
  unfold raiseVector; dsimp only; (repeat' split) <;> (simp; done)
@[simp] theorem raiseVector_filling (s : State) (p : PortId) (f v : Nat) : (raiseVector s p f v).filling = s.filling := by
  unfold raiseVector; dsimp only; (repeat' split) <;> (simp; done)
@[simp] theorem raiseVector_lfsr (s : State) (p : PortId) (f v : Nat) : (raiseVector s p f v).lfsr = s.lfsr := by
  unfold raiseVector; dsimp only; (repeat' split) <;> (simp; done)
@[simp] theorem raiseVector_drbgs (s : State) (p : PortId) (f v : Nat) : (raiseVector s p f v).drbgs = s.drbgs := by
  unfold raiseVector; dsimp only; (repeat' split) <;> (simp; done)
@[simp] theorem raiseVector_tenants (s : State) (p : PortId) (f v : Nat) : (raiseVector s p f v).tenants = s.tenants := by
  unfold raiseVector; dsimp only; (repeat' split) <;> (simp; done)
@[simp] theorem raiseVector_cfg (s : State) (p : PortId) (f v : Nat) : (raiseVector s p f v).cfg = s.cfg := by
  unfold raiseVector; dsimp only; (repeat' split) <;> (simp; done)
@[simp] theorem raiseVector_fuses (s : State) (p : PortId) (f v : Nat) : (raiseVector s p f v).fuses = s.fuses := by
  unfold raiseVector; dsimp only; (repeat' split) <;> (simp; done)
@[simp] theorem raiseVector_boot (s : State) (p : PortId) (f v : Nat) : (raiseVector s p f v).boot = s.boot := by
  unfold raiseVector; dsimp only; (repeat' split) <;> (simp; done)
@[simp] theorem raiseVector_lcs (s : State) (p : PortId) (f v : Nat) : (raiseVector s p f v).lcs = s.lcs := by
  unfold raiseVector; dsimp only; (repeat' split) <;> (simp; done)
@[simp] theorem raiseVector_tamper (s : State) (p : PortId) (f v : Nat) : (raiseVector s p f v).tamper = s.tamper := by
  unfold raiseVector; dsimp only; (repeat' split) <;> (simp; done)
@[simp] theorem raiseVector_pins (s : State) (p : PortId) (f v : Nat) : (raiseVector s p f v).pins = s.pins := by
  unfold raiseVector; dsimp only; (repeat' split) <;> (simp; done)
@[simp] theorem raiseVector_wards (s : State) (p : PortId) (f v : Nat) : (raiseVector s p f v).wards = s.wards := by
  unfold raiseVector; dsimp only; (repeat' split) <;> (simp; done)
@[simp] theorem raiseVector_tkn (s : State) (p : PortId) (f v : Nat) : (raiseVector s p f v).tkn = s.tkn := by
  unfold raiseVector; dsimp only; (repeat' split) <;> (simp; done)
@[simp] theorem raiseVector_internalDone (s : State) (p : PortId) (f v : Nat) : (raiseVector s p f v).internalDone = s.internalDone := by
  unfold raiseVector; dsimp only; (repeat' split) <;> (simp; done)
@[simp] theorem raiseVector_recorder (s : State) (p : PortId) (f v : Nat) : (raiseVector s p f v).recorder = s.recorder := by
  unfold raiseVector; dsimp only; (repeat' split) <;> (simp; done)
@[simp] theorem raiseVector_links (s : State) (p : PortId) (f v : Nat) : (raiseVector s p f v).links = s.links := by
  unfold raiseVector; dsimp only; (repeat' split) <;> (simp; done)
@[simp] theorem raiseVector_fabric (s : State) (p : PortId) (f v : Nat) : (raiseVector s p f v).fabric = s.fabric := by
  unfold raiseVector; dsimp only; (repeat' split) <;> (simp; done)
@[simp] theorem raiseVector_nor (s : State) (p : PortId) (f v : Nat) : (raiseVector s p f v).nor = s.nor := by
  unfold raiseVector; dsimp only; (repeat' split) <;> (simp; done)
@[simp] theorem raiseVector_mem (s : State) (p : PortId) (f v : Nat) : (raiseVector s p f v).mem = s.mem := by
  unfold raiseVector; dsimp only; (repeat' split) <;> (simp; done)
@[simp] theorem raiseVector_quartz (s : State) (p : PortId) (f v : Nat) : (raiseVector s p f v).quartz = s.quartz := by
  unfold raiseVector; dsimp only; (repeat' split) <;> (simp; done)
@[simp] theorem raiseVector_regs (s : State) (p : PortId) (f v : Nat) : (raiseVector s p f v).regs = s.regs := by
  unfold raiseVector; dsimp only; (repeat' split) <;> (simp; done)
@[simp] theorem raiseVector_freeIdx (s : State) (p : PortId) (f v : Nat) : (raiseVector s p f v).freeIdx = s.freeIdx := by
  unfold raiseVector; dsimp only; (repeat' split) <;> (simp; done)
@[simp] theorem raiseVector_pending (s : State) (p : PortId) (f v : Nat) : (raiseVector s p f v).pending = s.pending := by
  unfold raiseVector; dsimp only; (repeat' split) <;> (simp; done)

/-! ### setErr -/

@[simp] theorem setErr_clk (s : State) (p : PortId) (bit f : Nat) : (setErr s p bit f).clk = s.clk := by
  unfold setErr; (repeat' split) <;> (simp; done)
@[simp] theorem setErr_mode (s : State) (p : PortId) (bit f : Nat) : (setErr s p bit f).mode = s.mode := by
  unfold setErr; (repeat' split) <;> (simp; done)
@[simp] theorem setErr_jobs (s : State) (p : PortId) (bit f : Nat) : (setErr s p bit f).jobs = s.jobs := by
  unfold setErr; (repeat' split) <;> (simp; done)
@[simp] theorem setErr_heldJobs (s : State) (p : PortId) (bit f : Nat) : (setErr s p bit f).heldJobs = s.heldJobs := by
  unfold setErr; (repeat' split) <;> (simp; done)
@[simp] theorem setErr_qps (s : State) (p : PortId) (bit f : Nat) : (setErr s p bit f).qps = s.qps := by
  unfold setErr; (repeat' split) <;> (simp; done)
@[simp] theorem setErr_sched (s : State) (p : PortId) (bit f : Nat) : (setErr s p bit f).sched = s.sched := by
  unfold setErr; (repeat' split) <;> (simp; done)
@[simp] theorem setErr_manifests (s : State) (p : PortId) (bit f : Nat) : (setErr s p bit f).manifests = s.manifests := by
  unfold setErr; (repeat' split) <;> (simp; done)
@[simp] theorem setErr_nextManifest (s : State) (p : PortId) (bit f : Nat) : (setErr s p bit f).nextManifest = s.nextManifest := by
  unfold setErr; (repeat' split) <;> (simp; done)
@[simp] theorem setErr_sealEngines (s : State) (p : PortId) (bit f : Nat) : (setErr s p bit f).sealEngines = s.sealEngines := by
  unfold setErr; (repeat' split) <;> (simp; done)
@[simp] theorem setErr_digests (s : State) (p : PortId) (bit f : Nat) : (setErr s p bit f).digests = s.digests := by
  unfold setErr; (repeat' split) <;> (simp; done)
@[simp] theorem setErr_meas (s : State) (p : PortId) (bit f : Nat) : (setErr s p bit f).meas = s.meas := by
  unfold setErr; (repeat' split) <;> (simp; done)
@[simp] theorem setErr_measLog (s : State) (p : PortId) (bit f : Nat) : (setErr s p bit f).measLog = s.measLog := by
  unfold setErr; (repeat' split) <;> (simp; done)
@[simp] theorem setErr_measNext (s : State) (p : PortId) (bit f : Nat) : (setErr s p bit f).measNext = s.measNext := by
  unfold setErr; (repeat' split) <;> (simp; done)
@[simp] theorem setErr_measOverflow (s : State) (p : PortId) (bit f : Nat) : (setErr s p bit f).measOverflow = s.measOverflow := by
  unfold setErr; (repeat' split) <;> (simp; done)
@[simp] theorem setErr_truncOffered (s : State) (p : PortId) (bit f : Nat) : (setErr s p bit f).truncOffered = s.truncOffered := by
  unfold setErr; (repeat' split) <;> (simp; done)
@[simp] theorem setErr_slots (s : State) (p : PortId) (bit f : Nat) : (setErr s p bit f).slots = s.slots := by
  unfold setErr; (repeat' split) <;> (simp; done)
@[simp] theorem setErr_pufSecret (s : State) (p : PortId) (bit f : Nat) : (setErr s p bit f).pufSecret = s.pufSecret := by
  unfold setErr; (repeat' split) <;> (simp; done)
@[simp] theorem setErr_keyed (s : State) (p : PortId) (bit f : Nat) : (setErr s p bit f).keyed = s.keyed := by
  unfold setErr; (repeat' split) <;> (simp; done)
@[simp] theorem setErr_cdk (s : State) (p : PortId) (bit f : Nat) : (setErr s p bit f).cdk = s.cdk := by
  unfold setErr; (repeat' split) <;> (simp; done)
@[simp] theorem setErr_zeroised (s : State) (p : PortId) (bit f : Nat) : (setErr s p bit f).zeroised = s.zeroised := by
  unfold setErr; (repeat' split) <;> (simp; done)
@[simp] theorem setErr_agate (s : State) (p : PortId) (bit f : Nat) : (setErr s p bit f).agate = s.agate := by
  unfold setErr; (repeat' split) <;> (simp; done)
@[simp] theorem setErr_arith (s : State) (p : PortId) (bit f : Nat) : (setErr s p bit f).arith = s.arith := by
  unfold setErr; (repeat' split) <;> (simp; done)
@[simp] theorem setErr_sources (s : State) (p : PortId) (bit f : Nat) : (setErr s p bit f).sources = s.sources := by
  unfold setErr; (repeat' split) <;> (simp; done)
@[simp] theorem setErr_entropy (s : State) (p : PortId) (bit f : Nat) : (setErr s p bit f).entropy = s.entropy := by
  unfold setErr; (repeat' split) <;> (simp; done)
@[simp] theorem setErr_filling (s : State) (p : PortId) (bit f : Nat) : (setErr s p bit f).filling = s.filling := by
  unfold setErr; (repeat' split) <;> (simp; done)
@[simp] theorem setErr_lfsr (s : State) (p : PortId) (bit f : Nat) : (setErr s p bit f).lfsr = s.lfsr := by
  unfold setErr; (repeat' split) <;> (simp; done)
@[simp] theorem setErr_drbgs (s : State) (p : PortId) (bit f : Nat) : (setErr s p bit f).drbgs = s.drbgs := by
  unfold setErr; (repeat' split) <;> (simp; done)
@[simp] theorem setErr_tenants (s : State) (p : PortId) (bit f : Nat) : (setErr s p bit f).tenants = s.tenants := by
  unfold setErr; (repeat' split) <;> (simp; done)
@[simp] theorem setErr_cfg (s : State) (p : PortId) (bit f : Nat) : (setErr s p bit f).cfg = s.cfg := by
  unfold setErr; (repeat' split) <;> (simp; done)
@[simp] theorem setErr_moon (s : State) (p : PortId) (bit f : Nat) : (setErr s p bit f).moon = s.moon := by
  unfold setErr; (repeat' split) <;> (simp; done)
@[simp] theorem setErr_fuses (s : State) (p : PortId) (bit f : Nat) : (setErr s p bit f).fuses = s.fuses := by
  unfold setErr; (repeat' split) <;> (simp; done)
@[simp] theorem setErr_boot (s : State) (p : PortId) (bit f : Nat) : (setErr s p bit f).boot = s.boot := by
  unfold setErr; (repeat' split) <;> (simp; done)
@[simp] theorem setErr_lcs (s : State) (p : PortId) (bit f : Nat) : (setErr s p bit f).lcs = s.lcs := by
  unfold setErr; (repeat' split) <;> (simp; done)
@[simp] theorem setErr_tamper (s : State) (p : PortId) (bit f : Nat) : (setErr s p bit f).tamper = s.tamper := by
  unfold setErr; (repeat' split) <;> (simp; done)
@[simp] theorem setErr_pins (s : State) (p : PortId) (bit f : Nat) : (setErr s p bit f).pins = s.pins := by
  unfold setErr; (repeat' split) <;> (simp; done)
@[simp] theorem setErr_wards (s : State) (p : PortId) (bit f : Nat) : (setErr s p bit f).wards = s.wards := by
  unfold setErr; (repeat' split) <;> (simp; done)
@[simp] theorem setErr_tkn (s : State) (p : PortId) (bit f : Nat) : (setErr s p bit f).tkn = s.tkn := by
  unfold setErr; (repeat' split) <;> (simp; done)
@[simp] theorem setErr_internalDone (s : State) (p : PortId) (bit f : Nat) : (setErr s p bit f).internalDone = s.internalDone := by
  unfold setErr; (repeat' split) <;> (simp; done)
@[simp] theorem setErr_recorder (s : State) (p : PortId) (bit f : Nat) : (setErr s p bit f).recorder = s.recorder := by
  unfold setErr; (repeat' split) <;> (simp; done)
@[simp] theorem setErr_amber (s : State) (p : PortId) (bit f : Nat) : (setErr s p bit f).amber = s.amber := by
  unfold setErr; (repeat' split) <;> (simp; done)
@[simp] theorem setErr_links (s : State) (p : PortId) (bit f : Nat) : (setErr s p bit f).links = s.links := by
  unfold setErr; (repeat' split) <;> (simp; done)
@[simp] theorem setErr_fabric (s : State) (p : PortId) (bit f : Nat) : (setErr s p bit f).fabric = s.fabric := by
  unfold setErr; (repeat' split) <;> (simp; done)
@[simp] theorem setErr_nor (s : State) (p : PortId) (bit f : Nat) : (setErr s p bit f).nor = s.nor := by
  unfold setErr; (repeat' split) <;> (simp; done)
@[simp] theorem setErr_mem (s : State) (p : PortId) (bit f : Nat) : (setErr s p bit f).mem = s.mem := by
  unfold setErr; (repeat' split) <;> (simp; done)
@[simp] theorem setErr_quartz (s : State) (p : PortId) (bit f : Nat) : (setErr s p bit f).quartz = s.quartz := by
  unfold setErr; (repeat' split) <;> (simp; done)
@[simp] theorem setErr_regs (s : State) (p : PortId) (bit f : Nat) : (setErr s p bit f).regs = s.regs := by
  unfold setErr; (repeat' split) <;> (simp; done)
@[simp] theorem setErr_out (s : State) (p : PortId) (bit f : Nat) : (setErr s p bit f).out = s.out := by
  unfold setErr; (repeat' split) <;> (simp; done)
@[simp] theorem setErr_freeIdx (s : State) (p : PortId) (bit f : Nat) : (setErr s p bit f).freeIdx = s.freeIdx := by
  unfold setErr; (repeat' split) <;> (simp; done)
@[simp] theorem setErr_pending (s : State) (p : PortId) (bit f : Nat) : (setErr s p bit f).pending = s.pending := by
  unfold setErr; (repeat' split) <;> (simp; done)

/-! ### noteBlocked -/

@[simp] theorem noteBlocked_clk (s : State) (b : BindId) : (noteBlocked s b).clk = s.clk := by
  unfold noteBlocked; (repeat' split) <;> (simp; done)
@[simp] theorem noteBlocked_mode (s : State) (b : BindId) : (noteBlocked s b).mode = s.mode := by
  unfold noteBlocked; (repeat' split) <;> (simp; done)
@[simp] theorem noteBlocked_jobs (s : State) (b : BindId) : (noteBlocked s b).jobs = s.jobs := by
  unfold noteBlocked; (repeat' split) <;> (simp; done)
@[simp] theorem noteBlocked_heldJobs (s : State) (b : BindId) : (noteBlocked s b).heldJobs = s.heldJobs := by
  unfold noteBlocked; (repeat' split) <;> (simp; done)
@[simp] theorem noteBlocked_qps (s : State) (b : BindId) : (noteBlocked s b).qps = s.qps := by
  unfold noteBlocked; (repeat' split) <;> (simp; done)
@[simp] theorem noteBlocked_sched (s : State) (b : BindId) : (noteBlocked s b).sched = s.sched := by
  unfold noteBlocked; (repeat' split) <;> (simp; done)
@[simp] theorem noteBlocked_manifests (s : State) (b : BindId) : (noteBlocked s b).manifests = s.manifests := by
  unfold noteBlocked; (repeat' split) <;> (simp; done)
@[simp] theorem noteBlocked_nextManifest (s : State) (b : BindId) : (noteBlocked s b).nextManifest = s.nextManifest := by
  unfold noteBlocked; (repeat' split) <;> (simp; done)
@[simp] theorem noteBlocked_sealEngines (s : State) (b : BindId) : (noteBlocked s b).sealEngines = s.sealEngines := by
  unfold noteBlocked; (repeat' split) <;> (simp; done)
@[simp] theorem noteBlocked_digests (s : State) (b : BindId) : (noteBlocked s b).digests = s.digests := by
  unfold noteBlocked; (repeat' split) <;> (simp; done)
@[simp] theorem noteBlocked_meas (s : State) (b : BindId) : (noteBlocked s b).meas = s.meas := by
  unfold noteBlocked; (repeat' split) <;> (simp; done)
@[simp] theorem noteBlocked_measLog (s : State) (b : BindId) : (noteBlocked s b).measLog = s.measLog := by
  unfold noteBlocked; (repeat' split) <;> (simp; done)
@[simp] theorem noteBlocked_measNext (s : State) (b : BindId) : (noteBlocked s b).measNext = s.measNext := by
  unfold noteBlocked; (repeat' split) <;> (simp; done)
@[simp] theorem noteBlocked_measOverflow (s : State) (b : BindId) : (noteBlocked s b).measOverflow = s.measOverflow := by
  unfold noteBlocked; (repeat' split) <;> (simp; done)
@[simp] theorem noteBlocked_truncOffered (s : State) (b : BindId) : (noteBlocked s b).truncOffered = s.truncOffered := by
  unfold noteBlocked; (repeat' split) <;> (simp; done)
@[simp] theorem noteBlocked_slots (s : State) (b : BindId) : (noteBlocked s b).slots = s.slots := by
  unfold noteBlocked; (repeat' split) <;> (simp; done)
@[simp] theorem noteBlocked_pufSecret (s : State) (b : BindId) : (noteBlocked s b).pufSecret = s.pufSecret := by
  unfold noteBlocked; (repeat' split) <;> (simp; done)
@[simp] theorem noteBlocked_keyed (s : State) (b : BindId) : (noteBlocked s b).keyed = s.keyed := by
  unfold noteBlocked; (repeat' split) <;> (simp; done)
@[simp] theorem noteBlocked_cdk (s : State) (b : BindId) : (noteBlocked s b).cdk = s.cdk := by
  unfold noteBlocked; (repeat' split) <;> (simp; done)
@[simp] theorem noteBlocked_zeroised (s : State) (b : BindId) : (noteBlocked s b).zeroised = s.zeroised := by
  unfold noteBlocked; (repeat' split) <;> (simp; done)
@[simp] theorem noteBlocked_agate (s : State) (b : BindId) : (noteBlocked s b).agate = s.agate := by
  unfold noteBlocked; (repeat' split) <;> (simp; done)
@[simp] theorem noteBlocked_arith (s : State) (b : BindId) : (noteBlocked s b).arith = s.arith := by
  unfold noteBlocked; (repeat' split) <;> (simp; done)
@[simp] theorem noteBlocked_sources (s : State) (b : BindId) : (noteBlocked s b).sources = s.sources := by
  unfold noteBlocked; (repeat' split) <;> (simp; done)
@[simp] theorem noteBlocked_entropy (s : State) (b : BindId) : (noteBlocked s b).entropy = s.entropy := by
  unfold noteBlocked; (repeat' split) <;> (simp; done)
@[simp] theorem noteBlocked_filling (s : State) (b : BindId) : (noteBlocked s b).filling = s.filling := by
  unfold noteBlocked; (repeat' split) <;> (simp; done)
@[simp] theorem noteBlocked_lfsr (s : State) (b : BindId) : (noteBlocked s b).lfsr = s.lfsr := by
  unfold noteBlocked; (repeat' split) <;> (simp; done)
@[simp] theorem noteBlocked_drbgs (s : State) (b : BindId) : (noteBlocked s b).drbgs = s.drbgs := by
  unfold noteBlocked; (repeat' split) <;> (simp; done)
@[simp] theorem noteBlocked_tenants (s : State) (b : BindId) : (noteBlocked s b).tenants = s.tenants := by
  unfold noteBlocked; (repeat' split) <;> (simp; done)
@[simp] theorem noteBlocked_cfg (s : State) (b : BindId) : (noteBlocked s b).cfg = s.cfg := by
  unfold noteBlocked; (repeat' split) <;> (simp; done)
@[simp] theorem noteBlocked_moon (s : State) (b : BindId) : (noteBlocked s b).moon = s.moon := by
  unfold noteBlocked; (repeat' split) <;> (simp; done)
@[simp] theorem noteBlocked_fuses (s : State) (b : BindId) : (noteBlocked s b).fuses = s.fuses := by
  unfold noteBlocked; (repeat' split) <;> (simp; done)
@[simp] theorem noteBlocked_boot (s : State) (b : BindId) : (noteBlocked s b).boot = s.boot := by
  unfold noteBlocked; (repeat' split) <;> (simp; done)
@[simp] theorem noteBlocked_lcs (s : State) (b : BindId) : (noteBlocked s b).lcs = s.lcs := by
  unfold noteBlocked; (repeat' split) <;> (simp; done)
@[simp] theorem noteBlocked_tamper (s : State) (b : BindId) : (noteBlocked s b).tamper = s.tamper := by
  unfold noteBlocked; (repeat' split) <;> (simp; done)
@[simp] theorem noteBlocked_pins (s : State) (b : BindId) : (noteBlocked s b).pins = s.pins := by
  unfold noteBlocked; (repeat' split) <;> (simp; done)
@[simp] theorem noteBlocked_wards (s : State) (b : BindId) : (noteBlocked s b).wards = s.wards := by
  unfold noteBlocked; (repeat' split) <;> (simp; done)
@[simp] theorem noteBlocked_tkn (s : State) (b : BindId) : (noteBlocked s b).tkn = s.tkn := by
  unfold noteBlocked; (repeat' split) <;> (simp; done)
@[simp] theorem noteBlocked_internalDone (s : State) (b : BindId) : (noteBlocked s b).internalDone = s.internalDone := by
  unfold noteBlocked; (repeat' split) <;> (simp; done)
@[simp] theorem noteBlocked_recorder (s : State) (b : BindId) : (noteBlocked s b).recorder = s.recorder := by
  unfold noteBlocked; (repeat' split) <;> (simp; done)
@[simp] theorem noteBlocked_amber (s : State) (b : BindId) : (noteBlocked s b).amber = s.amber := by
  unfold noteBlocked; (repeat' split) <;> (simp; done)
@[simp] theorem noteBlocked_links (s : State) (b : BindId) : (noteBlocked s b).links = s.links := by
  unfold noteBlocked; (repeat' split) <;> (simp; done)
@[simp] theorem noteBlocked_fabric (s : State) (b : BindId) : (noteBlocked s b).fabric = s.fabric := by
  unfold noteBlocked; (repeat' split) <;> (simp; done)
@[simp] theorem noteBlocked_nor (s : State) (b : BindId) : (noteBlocked s b).nor = s.nor := by
  unfold noteBlocked; (repeat' split) <;> (simp; done)
@[simp] theorem noteBlocked_mem (s : State) (b : BindId) : (noteBlocked s b).mem = s.mem := by
  unfold noteBlocked; (repeat' split) <;> (simp; done)
@[simp] theorem noteBlocked_quartz (s : State) (b : BindId) : (noteBlocked s b).quartz = s.quartz := by
  unfold noteBlocked; (repeat' split) <;> (simp; done)
@[simp] theorem noteBlocked_regs (s : State) (b : BindId) : (noteBlocked s b).regs = s.regs := by
  unfold noteBlocked; (repeat' split) <;> (simp; done)
@[simp] theorem noteBlocked_out (s : State) (b : BindId) : (noteBlocked s b).out = s.out := by
  unfold noteBlocked; (repeat' split) <;> (simp; done)
@[simp] theorem noteBlocked_freeIdx (s : State) (b : BindId) : (noteBlocked s b).freeIdx = s.freeIdx := by
  unfold noteBlocked; (repeat' split) <;> (simp; done)
@[simp] theorem noteBlocked_pending (s : State) (b : BindId) : (noteBlocked s b).pending = s.pending := by
  unfold noteBlocked; (repeat' split) <;> (simp; done)

/-! ### hostWrite and issueReads -/

theorem hostWrite_clk {s t : State} {j k : Job} {r : HostRef} {off : Nat} {bs : Bytes} {rel : Bool}
    (h : hostWrite s j r off bs rel = some (t, k)) : t.clk = s.clk := by
  unfold hostWrite at h
  split at h
  · simp only [Option.some.injEq, Prod.mk.injEq] at h; rw [← h.1]
  · dsimp only at h
    split at h
    · simp at h
    · simp only [Option.some.injEq, Prod.mk.injEq] at h; rw [← h.1]; rfl
theorem hostWrite_mode {s t : State} {j k : Job} {r : HostRef} {off : Nat} {bs : Bytes} {rel : Bool}
    (h : hostWrite s j r off bs rel = some (t, k)) : t.mode = s.mode := by
  unfold hostWrite at h
  split at h
  · simp only [Option.some.injEq, Prod.mk.injEq] at h; rw [← h.1]
  · dsimp only at h
    split at h
    · simp at h
    · simp only [Option.some.injEq, Prod.mk.injEq] at h; rw [← h.1]; rfl
theorem hostWrite_portA {s t : State} {j k : Job} {r : HostRef} {off : Nat} {bs : Bytes} {rel : Bool}
    (h : hostWrite s j r off bs rel = some (t, k)) : t.portA = s.portA := by
  unfold hostWrite at h
  split at h
  · simp only [Option.some.injEq, Prod.mk.injEq] at h; rw [← h.1]
  · dsimp only at h
    split at h
    · simp at h
    · simp only [Option.some.injEq, Prod.mk.injEq] at h; rw [← h.1]; rfl
theorem hostWrite_portB {s t : State} {j k : Job} {r : HostRef} {off : Nat} {bs : Bytes} {rel : Bool}
    (h : hostWrite s j r off bs rel = some (t, k)) : t.portB = s.portB := by
  unfold hostWrite at h
  split at h
  · simp only [Option.some.injEq, Prod.mk.injEq] at h; rw [← h.1]
  · dsimp only at h
    split at h
    · simp at h
    · simp only [Option.some.injEq, Prod.mk.injEq] at h; rw [← h.1]; rfl
theorem hostWrite_jobs {s t : State} {j k : Job} {r : HostRef} {off : Nat} {bs : Bytes} {rel : Bool}
    (h : hostWrite s j r off bs rel = some (t, k)) : t.jobs = s.jobs := by
  unfold hostWrite at h
  split at h
  · simp only [Option.some.injEq, Prod.mk.injEq] at h; rw [← h.1]
  · dsimp only at h
    split at h
    · simp at h
    · simp only [Option.some.injEq, Prod.mk.injEq] at h; rw [← h.1]; rfl
theorem hostWrite_heldJobs {s t : State} {j k : Job} {r : HostRef} {off : Nat} {bs : Bytes} {rel : Bool}
    (h : hostWrite s j r off bs rel = some (t, k)) : t.heldJobs = s.heldJobs := by
  unfold hostWrite at h
  split at h
  · simp only [Option.some.injEq, Prod.mk.injEq] at h; rw [← h.1]
  · dsimp only at h
    split at h
    · simp at h
    · simp only [Option.some.injEq, Prod.mk.injEq] at h; rw [← h.1]; rfl
theorem hostWrite_qps {s t : State} {j k : Job} {r : HostRef} {off : Nat} {bs : Bytes} {rel : Bool}
    (h : hostWrite s j r off bs rel = some (t, k)) : t.qps = s.qps := by
  unfold hostWrite at h
  split at h
  · simp only [Option.some.injEq, Prod.mk.injEq] at h; rw [← h.1]
  · dsimp only at h
    split at h
    · simp at h
    · simp only [Option.some.injEq, Prod.mk.injEq] at h; rw [← h.1]; rfl
theorem hostWrite_sched {s t : State} {j k : Job} {r : HostRef} {off : Nat} {bs : Bytes} {rel : Bool}
    (h : hostWrite s j r off bs rel = some (t, k)) : t.sched = s.sched := by
  unfold hostWrite at h
  split at h
  · simp only [Option.some.injEq, Prod.mk.injEq] at h; rw [← h.1]
  · dsimp only at h
    split at h
    · simp at h
    · simp only [Option.some.injEq, Prod.mk.injEq] at h; rw [← h.1]; rfl
theorem hostWrite_manifests {s t : State} {j k : Job} {r : HostRef} {off : Nat} {bs : Bytes} {rel : Bool}
    (h : hostWrite s j r off bs rel = some (t, k)) : t.manifests = s.manifests := by
  unfold hostWrite at h
  split at h
  · simp only [Option.some.injEq, Prod.mk.injEq] at h; rw [← h.1]
  · dsimp only at h
    split at h
    · simp at h
    · simp only [Option.some.injEq, Prod.mk.injEq] at h; rw [← h.1]; rfl
theorem hostWrite_nextManifest {s t : State} {j k : Job} {r : HostRef} {off : Nat} {bs : Bytes} {rel : Bool}
    (h : hostWrite s j r off bs rel = some (t, k)) : t.nextManifest = s.nextManifest := by
  unfold hostWrite at h
  split at h
  · simp only [Option.some.injEq, Prod.mk.injEq] at h; rw [← h.1]
  · dsimp only at h
    split at h
    · simp at h
    · simp only [Option.some.injEq, Prod.mk.injEq] at h; rw [← h.1]; rfl
theorem hostWrite_sealEngines {s t : State} {j k : Job} {r : HostRef} {off : Nat} {bs : Bytes} {rel : Bool}
    (h : hostWrite s j r off bs rel = some (t, k)) : t.sealEngines = s.sealEngines := by
  unfold hostWrite at h
  split at h
  · simp only [Option.some.injEq, Prod.mk.injEq] at h; rw [← h.1]
  · dsimp only at h
    split at h
    · simp at h
    · simp only [Option.some.injEq, Prod.mk.injEq] at h; rw [← h.1]; rfl
theorem hostWrite_digests {s t : State} {j k : Job} {r : HostRef} {off : Nat} {bs : Bytes} {rel : Bool}
    (h : hostWrite s j r off bs rel = some (t, k)) : t.digests = s.digests := by
  unfold hostWrite at h
  split at h
  · simp only [Option.some.injEq, Prod.mk.injEq] at h; rw [← h.1]
  · dsimp only at h
    split at h
    · simp at h
    · simp only [Option.some.injEq, Prod.mk.injEq] at h; rw [← h.1]; rfl
theorem hostWrite_meas {s t : State} {j k : Job} {r : HostRef} {off : Nat} {bs : Bytes} {rel : Bool}
    (h : hostWrite s j r off bs rel = some (t, k)) : t.meas = s.meas := by
  unfold hostWrite at h
  split at h
  · simp only [Option.some.injEq, Prod.mk.injEq] at h; rw [← h.1]
  · dsimp only at h
    split at h
    · simp at h
    · simp only [Option.some.injEq, Prod.mk.injEq] at h; rw [← h.1]; rfl
theorem hostWrite_measLog {s t : State} {j k : Job} {r : HostRef} {off : Nat} {bs : Bytes} {rel : Bool}
    (h : hostWrite s j r off bs rel = some (t, k)) : t.measLog = s.measLog := by
  unfold hostWrite at h
  split at h
  · simp only [Option.some.injEq, Prod.mk.injEq] at h; rw [← h.1]
  · dsimp only at h
    split at h
    · simp at h
    · simp only [Option.some.injEq, Prod.mk.injEq] at h; rw [← h.1]; rfl
theorem hostWrite_measNext {s t : State} {j k : Job} {r : HostRef} {off : Nat} {bs : Bytes} {rel : Bool}
    (h : hostWrite s j r off bs rel = some (t, k)) : t.measNext = s.measNext := by
  unfold hostWrite at h
  split at h
  · simp only [Option.some.injEq, Prod.mk.injEq] at h; rw [← h.1]
  · dsimp only at h
    split at h
    · simp at h
    · simp only [Option.some.injEq, Prod.mk.injEq] at h; rw [← h.1]; rfl
theorem hostWrite_measOverflow {s t : State} {j k : Job} {r : HostRef} {off : Nat} {bs : Bytes} {rel : Bool}
    (h : hostWrite s j r off bs rel = some (t, k)) : t.measOverflow = s.measOverflow := by
  unfold hostWrite at h
  split at h
  · simp only [Option.some.injEq, Prod.mk.injEq] at h; rw [← h.1]
  · dsimp only at h
    split at h
    · simp at h
    · simp only [Option.some.injEq, Prod.mk.injEq] at h; rw [← h.1]; rfl
theorem hostWrite_truncOffered {s t : State} {j k : Job} {r : HostRef} {off : Nat} {bs : Bytes} {rel : Bool}
    (h : hostWrite s j r off bs rel = some (t, k)) : t.truncOffered = s.truncOffered := by
  unfold hostWrite at h
  split at h
  · simp only [Option.some.injEq, Prod.mk.injEq] at h; rw [← h.1]
  · dsimp only at h
    split at h
    · simp at h
    · simp only [Option.some.injEq, Prod.mk.injEq] at h; rw [← h.1]; rfl
theorem hostWrite_slots {s t : State} {j k : Job} {r : HostRef} {off : Nat} {bs : Bytes} {rel : Bool}
    (h : hostWrite s j r off bs rel = some (t, k)) : t.slots = s.slots := by
  unfold hostWrite at h
  split at h
  · simp only [Option.some.injEq, Prod.mk.injEq] at h; rw [← h.1]
  · dsimp only at h
    split at h
    · simp at h
    · simp only [Option.some.injEq, Prod.mk.injEq] at h; rw [← h.1]; rfl
theorem hostWrite_pufSecret {s t : State} {j k : Job} {r : HostRef} {off : Nat} {bs : Bytes} {rel : Bool}
    (h : hostWrite s j r off bs rel = some (t, k)) : t.pufSecret = s.pufSecret := by
  unfold hostWrite at h
  split at h
  · simp only [Option.some.injEq, Prod.mk.injEq] at h; rw [← h.1]
  · dsimp only at h
    split at h
    · simp at h
    · simp only [Option.some.injEq, Prod.mk.injEq] at h; rw [← h.1]; rfl
theorem hostWrite_keyed {s t : State} {j k : Job} {r : HostRef} {off : Nat} {bs : Bytes} {rel : Bool}
    (h : hostWrite s j r off bs rel = some (t, k)) : t.keyed = s.keyed := by
  unfold hostWrite at h
  split at h
  · simp only [Option.some.injEq, Prod.mk.injEq] at h; rw [← h.1]
  · dsimp only at h
    split at h
    · simp at h
    · simp only [Option.some.injEq, Prod.mk.injEq] at h; rw [← h.1]; rfl
theorem hostWrite_cdk {s t : State} {j k : Job} {r : HostRef} {off : Nat} {bs : Bytes} {rel : Bool}
    (h : hostWrite s j r off bs rel = some (t, k)) : t.cdk = s.cdk := by
  unfold hostWrite at h
  split at h
  · simp only [Option.some.injEq, Prod.mk.injEq] at h; rw [← h.1]
  · dsimp only at h
    split at h
    · simp at h
    · simp only [Option.some.injEq, Prod.mk.injEq] at h; rw [← h.1]; rfl
theorem hostWrite_zeroised {s t : State} {j k : Job} {r : HostRef} {off : Nat} {bs : Bytes} {rel : Bool}
    (h : hostWrite s j r off bs rel = some (t, k)) : t.zeroised = s.zeroised := by
  unfold hostWrite at h
  split at h
  · simp only [Option.some.injEq, Prod.mk.injEq] at h; rw [← h.1]
  · dsimp only at h
    split at h
    · simp at h
    · simp only [Option.some.injEq, Prod.mk.injEq] at h; rw [← h.1]; rfl
theorem hostWrite_agate {s t : State} {j k : Job} {r : HostRef} {off : Nat} {bs : Bytes} {rel : Bool}
    (h : hostWrite s j r off bs rel = some (t, k)) : t.agate = s.agate := by
  unfold hostWrite at h
  split at h
  · simp only [Option.some.injEq, Prod.mk.injEq] at h; rw [← h.1]
  · dsimp only at h
    split at h
    · simp at h
    · simp only [Option.some.injEq, Prod.mk.injEq] at h; rw [← h.1]; rfl
theorem hostWrite_arith {s t : State} {j k : Job} {r : HostRef} {off : Nat} {bs : Bytes} {rel : Bool}
    (h : hostWrite s j r off bs rel = some (t, k)) : t.arith = s.arith := by
  unfold hostWrite at h
  split at h
  · simp only [Option.some.injEq, Prod.mk.injEq] at h; rw [← h.1]
  · dsimp only at h
    split at h
    · simp at h
    · simp only [Option.some.injEq, Prod.mk.injEq] at h; rw [← h.1]; rfl
theorem hostWrite_sources {s t : State} {j k : Job} {r : HostRef} {off : Nat} {bs : Bytes} {rel : Bool}
    (h : hostWrite s j r off bs rel = some (t, k)) : t.sources = s.sources := by
  unfold hostWrite at h
  split at h
  · simp only [Option.some.injEq, Prod.mk.injEq] at h; rw [← h.1]
  · dsimp only at h
    split at h
    · simp at h
    · simp only [Option.some.injEq, Prod.mk.injEq] at h; rw [← h.1]; rfl
theorem hostWrite_entropy {s t : State} {j k : Job} {r : HostRef} {off : Nat} {bs : Bytes} {rel : Bool}
    (h : hostWrite s j r off bs rel = some (t, k)) : t.entropy = s.entropy := by
  unfold hostWrite at h
  split at h
  · simp only [Option.some.injEq, Prod.mk.injEq] at h; rw [← h.1]
  · dsimp only at h
    split at h
    · simp at h
    · simp only [Option.some.injEq, Prod.mk.injEq] at h; rw [← h.1]; rfl
theorem hostWrite_filling {s t : State} {j k : Job} {r : HostRef} {off : Nat} {bs : Bytes} {rel : Bool}
    (h : hostWrite s j r off bs rel = some (t, k)) : t.filling = s.filling := by
  unfold hostWrite at h
  split at h
  · simp only [Option.some.injEq, Prod.mk.injEq] at h; rw [← h.1]
  · dsimp only at h
    split at h
    · simp at h
    · simp only [Option.some.injEq, Prod.mk.injEq] at h; rw [← h.1]; rfl
theorem hostWrite_lfsr {s t : State} {j k : Job} {r : HostRef} {off : Nat} {bs : Bytes} {rel : Bool}
    (h : hostWrite s j r off bs rel = some (t, k)) : t.lfsr = s.lfsr := by
  unfold hostWrite at h
  split at h
  · simp only [Option.some.injEq, Prod.mk.injEq] at h; rw [← h.1]
  · dsimp only at h
    split at h
    · simp at h
    · simp only [Option.some.injEq, Prod.mk.injEq] at h; rw [← h.1]; rfl
theorem hostWrite_drbgs {s t : State} {j k : Job} {r : HostRef} {off : Nat} {bs : Bytes} {rel : Bool}
    (h : hostWrite s j r off bs rel = some (t, k)) : t.drbgs = s.drbgs := by
  unfold hostWrite at h
  split at h
  · simp only [Option.some.injEq, Prod.mk.injEq] at h; rw [← h.1]
  · dsimp only at h
    split at h
    · simp at h
    · simp only [Option.some.injEq, Prod.mk.injEq] at h; rw [← h.1]; rfl
theorem hostWrite_tenants {s t : State} {j k : Job} {r : HostRef} {off : Nat} {bs : Bytes} {rel : Bool}
    (h : hostWrite s j r off bs rel = some (t, k)) : t.tenants = s.tenants := by
  unfold hostWrite at h
  split at h
  · simp only [Option.some.injEq, Prod.mk.injEq] at h; rw [← h.1]
  · dsimp only at h
    split at h
    · simp at h
    · simp only [Option.some.injEq, Prod.mk.injEq] at h; rw [← h.1]; rfl
theorem hostWrite_cfg {s t : State} {j k : Job} {r : HostRef} {off : Nat} {bs : Bytes} {rel : Bool}
    (h : hostWrite s j r off bs rel = some (t, k)) : t.cfg = s.cfg := by
  unfold hostWrite at h
  split at h
  · simp only [Option.some.injEq, Prod.mk.injEq] at h; rw [← h.1]
  · dsimp only at h
    split at h
    · simp at h
    · simp only [Option.some.injEq, Prod.mk.injEq] at h; rw [← h.1]; rfl
theorem hostWrite_moon {s t : State} {j k : Job} {r : HostRef} {off : Nat} {bs : Bytes} {rel : Bool}
    (h : hostWrite s j r off bs rel = some (t, k)) : t.moon = s.moon := by
  unfold hostWrite at h
  split at h
  · simp only [Option.some.injEq, Prod.mk.injEq] at h; rw [← h.1]
  · dsimp only at h
    split at h
    · simp at h
    · simp only [Option.some.injEq, Prod.mk.injEq] at h; rw [← h.1]; rfl
theorem hostWrite_fuses {s t : State} {j k : Job} {r : HostRef} {off : Nat} {bs : Bytes} {rel : Bool}
    (h : hostWrite s j r off bs rel = some (t, k)) : t.fuses = s.fuses := by
  unfold hostWrite at h
  split at h
  · simp only [Option.some.injEq, Prod.mk.injEq] at h; rw [← h.1]
  · dsimp only at h
    split at h
    · simp at h
    · simp only [Option.some.injEq, Prod.mk.injEq] at h; rw [← h.1]; rfl
theorem hostWrite_boot {s t : State} {j k : Job} {r : HostRef} {off : Nat} {bs : Bytes} {rel : Bool}
    (h : hostWrite s j r off bs rel = some (t, k)) : t.boot = s.boot := by
  unfold hostWrite at h
  split at h
  · simp only [Option.some.injEq, Prod.mk.injEq] at h; rw [← h.1]
  · dsimp only at h
    split at h
    · simp at h
    · simp only [Option.some.injEq, Prod.mk.injEq] at h; rw [← h.1]; rfl
theorem hostWrite_lcs {s t : State} {j k : Job} {r : HostRef} {off : Nat} {bs : Bytes} {rel : Bool}
    (h : hostWrite s j r off bs rel = some (t, k)) : t.lcs = s.lcs := by
  unfold hostWrite at h
  split at h
  · simp only [Option.some.injEq, Prod.mk.injEq] at h; rw [← h.1]
  · dsimp only at h
    split at h
    · simp at h
    · simp only [Option.some.injEq, Prod.mk.injEq] at h; rw [← h.1]; rfl
theorem hostWrite_tamper {s t : State} {j k : Job} {r : HostRef} {off : Nat} {bs : Bytes} {rel : Bool}
    (h : hostWrite s j r off bs rel = some (t, k)) : t.tamper = s.tamper := by
  unfold hostWrite at h
  split at h
  · simp only [Option.some.injEq, Prod.mk.injEq] at h; rw [← h.1]
  · dsimp only at h
    split at h
    · simp at h
    · simp only [Option.some.injEq, Prod.mk.injEq] at h; rw [← h.1]; rfl
theorem hostWrite_pins {s t : State} {j k : Job} {r : HostRef} {off : Nat} {bs : Bytes} {rel : Bool}
    (h : hostWrite s j r off bs rel = some (t, k)) : t.pins = s.pins := by
  unfold hostWrite at h
  split at h
  · simp only [Option.some.injEq, Prod.mk.injEq] at h; rw [← h.1]
  · dsimp only at h
    split at h
    · simp at h
    · simp only [Option.some.injEq, Prod.mk.injEq] at h; rw [← h.1]; rfl
theorem hostWrite_wards {s t : State} {j k : Job} {r : HostRef} {off : Nat} {bs : Bytes} {rel : Bool}
    (h : hostWrite s j r off bs rel = some (t, k)) : t.wards = s.wards := by
  unfold hostWrite at h
  split at h
  · simp only [Option.some.injEq, Prod.mk.injEq] at h; rw [← h.1]
  · dsimp only at h
    split at h
    · simp at h
    · simp only [Option.some.injEq, Prod.mk.injEq] at h; rw [← h.1]; rfl
theorem hostWrite_tkn {s t : State} {j k : Job} {r : HostRef} {off : Nat} {bs : Bytes} {rel : Bool}
    (h : hostWrite s j r off bs rel = some (t, k)) : t.tkn = s.tkn := by
  unfold hostWrite at h
  split at h
  · simp only [Option.some.injEq, Prod.mk.injEq] at h; rw [← h.1]
  · dsimp only at h
    split at h
    · simp at h
    · simp only [Option.some.injEq, Prod.mk.injEq] at h; rw [← h.1]; rfl
theorem hostWrite_internalDone {s t : State} {j k : Job} {r : HostRef} {off : Nat} {bs : Bytes} {rel : Bool}
    (h : hostWrite s j r off bs rel = some (t, k)) : t.internalDone = s.internalDone := by
  unfold hostWrite at h
  split at h
  · simp only [Option.some.injEq, Prod.mk.injEq] at h; rw [← h.1]
  · dsimp only at h
    split at h
    · simp at h
    · simp only [Option.some.injEq, Prod.mk.injEq] at h; rw [← h.1]; rfl
theorem hostWrite_recorder {s t : State} {j k : Job} {r : HostRef} {off : Nat} {bs : Bytes} {rel : Bool}
    (h : hostWrite s j r off bs rel = some (t, k)) : t.recorder = s.recorder := by
  unfold hostWrite at h
  split at h
  · simp only [Option.some.injEq, Prod.mk.injEq] at h; rw [← h.1]
  · dsimp only at h
    split at h
    · simp at h
    · simp only [Option.some.injEq, Prod.mk.injEq] at h; rw [← h.1]; rfl
theorem hostWrite_amber {s t : State} {j k : Job} {r : HostRef} {off : Nat} {bs : Bytes} {rel : Bool}
    (h : hostWrite s j r off bs rel = some (t, k)) : t.amber = s.amber := by
  unfold hostWrite at h
  split at h
  · simp only [Option.some.injEq, Prod.mk.injEq] at h; rw [← h.1]
  · dsimp only at h
    split at h
    · simp at h
    · simp only [Option.some.injEq, Prod.mk.injEq] at h; rw [← h.1]; rfl
theorem hostWrite_links {s t : State} {j k : Job} {r : HostRef} {off : Nat} {bs : Bytes} {rel : Bool}
    (h : hostWrite s j r off bs rel = some (t, k)) : t.links = s.links := by
  unfold hostWrite at h
  split at h
  · simp only [Option.some.injEq, Prod.mk.injEq] at h; rw [← h.1]
  · dsimp only at h
    split at h
    · simp at h
    · simp only [Option.some.injEq, Prod.mk.injEq] at h; rw [← h.1]; rfl
theorem hostWrite_fabric {s t : State} {j k : Job} {r : HostRef} {off : Nat} {bs : Bytes} {rel : Bool}
    (h : hostWrite s j r off bs rel = some (t, k)) : t.fabric = s.fabric := by
  unfold hostWrite at h
  split at h
  · simp only [Option.some.injEq, Prod.mk.injEq] at h; rw [← h.1]
  · dsimp only at h
    split at h
    · simp at h
    · simp only [Option.some.injEq, Prod.mk.injEq] at h; rw [← h.1]; rfl
theorem hostWrite_nor {s t : State} {j k : Job} {r : HostRef} {off : Nat} {bs : Bytes} {rel : Bool}
    (h : hostWrite s j r off bs rel = some (t, k)) : t.nor = s.nor := by
  unfold hostWrite at h
  split at h
  · simp only [Option.some.injEq, Prod.mk.injEq] at h; rw [← h.1]
  · dsimp only at h
    split at h
    · simp at h
    · simp only [Option.some.injEq, Prod.mk.injEq] at h; rw [← h.1]; rfl
theorem hostWrite_mem {s t : State} {j k : Job} {r : HostRef} {off : Nat} {bs : Bytes} {rel : Bool}
    (h : hostWrite s j r off bs rel = some (t, k)) : t.mem = s.mem := by
  unfold hostWrite at h
  split at h
  · simp only [Option.some.injEq, Prod.mk.injEq] at h; rw [← h.1]
  · dsimp only at h
    split at h
    · simp at h
    · simp only [Option.some.injEq, Prod.mk.injEq] at h; rw [← h.1]; rfl
theorem hostWrite_quartz {s t : State} {j k : Job} {r : HostRef} {off : Nat} {bs : Bytes} {rel : Bool}
    (h : hostWrite s j r off bs rel = some (t, k)) : t.quartz = s.quartz := by
  unfold hostWrite at h
  split at h
  · simp only [Option.some.injEq, Prod.mk.injEq] at h; rw [← h.1]
  · dsimp only at h
    split at h
    · simp at h
    · simp only [Option.some.injEq, Prod.mk.injEq] at h; rw [← h.1]; rfl
theorem hostWrite_regs {s t : State} {j k : Job} {r : HostRef} {off : Nat} {bs : Bytes} {rel : Bool}
    (h : hostWrite s j r off bs rel = some (t, k)) : t.regs = s.regs := by
  unfold hostWrite at h
  split at h
  · simp only [Option.some.injEq, Prod.mk.injEq] at h; rw [← h.1]
  · dsimp only at h
    split at h
    · simp at h
    · simp only [Option.some.injEq, Prod.mk.injEq] at h; rw [← h.1]; rfl
theorem hostWrite_freeIdx {s t : State} {j k : Job} {r : HostRef} {off : Nat} {bs : Bytes} {rel : Bool}
    (h : hostWrite s j r off bs rel = some (t, k)) : t.freeIdx = s.freeIdx := by
  unfold hostWrite at h
  split at h
  · simp only [Option.some.injEq, Prod.mk.injEq] at h; rw [← h.1]
  · dsimp only at h
    split at h
    · simp at h
    · simp only [Option.some.injEq, Prod.mk.injEq] at h; rw [← h.1]; rfl
theorem hostWrite_pending {s t : State} {j k : Job} {r : HostRef} {off : Nat} {bs : Bytes} {rel : Bool}
    (h : hostWrite s j r off bs rel = some (t, k)) : t.pending = s.pending := by
  unfold hostWrite at h
  split at h
  · simp only [Option.some.injEq, Prod.mk.injEq] at h; rw [← h.1]
  · dsimp only at h
    split at h
    · simp at h
    · simp only [Option.some.injEq, Prod.mk.injEq] at h; rw [← h.1]; rfl
theorem issueReads_clk {s t : State} {j k : Job} {refs : List HostRef}
    (h : issueReads s j refs = some (t, k)) : t.clk = s.clk := by
  unfold issueReads at h
  split at h
  · simp only [Option.some.injEq, Prod.mk.injEq] at h; rw [← h.1]
  · dsimp only at h
    split at h
    · simp at h
    · split at h <;> · simp only [Option.some.injEq, Prod.mk.injEq] at h; rw [← h.1]; try rfl
theorem issueReads_mode {s t : State} {j k : Job} {refs : List HostRef}
    (h : issueReads s j refs = some (t, k)) : t.mode = s.mode := by
  unfold issueReads at h
  split at h
  · simp only [Option.some.injEq, Prod.mk.injEq] at h; rw [← h.1]
  · dsimp only at h
    split at h
    · simp at h
    · split at h <;> · simp only [Option.some.injEq, Prod.mk.injEq] at h; rw [← h.1]; try rfl
theorem issueReads_portA {s t : State} {j k : Job} {refs : List HostRef}
    (h : issueReads s j refs = some (t, k)) : t.portA = s.portA := by
  unfold issueReads at h
  split at h
  · simp only [Option.some.injEq, Prod.mk.injEq] at h; rw [← h.1]
  · dsimp only at h
    split at h
    · simp at h
    · split at h <;> · simp only [Option.some.injEq, Prod.mk.injEq] at h; rw [← h.1]; try rfl
theorem issueReads_portB {s t : State} {j k : Job} {refs : List HostRef}
    (h : issueReads s j refs = some (t, k)) : t.portB = s.portB := by
  unfold issueReads at h
  split at h
  · simp only [Option.some.injEq, Prod.mk.injEq] at h; rw [← h.1]
  · dsimp only at h
    split at h
    · simp at h
    · split at h <;> · simp only [Option.some.injEq, Prod.mk.injEq] at h; rw [← h.1]; try rfl
theorem issueReads_jobs {s t : State} {j k : Job} {refs : List HostRef}
    (h : issueReads s j refs = some (t, k)) : t.jobs = s.jobs := by
  unfold issueReads at h
  split at h
  · simp only [Option.some.injEq, Prod.mk.injEq] at h; rw [← h.1]
  · dsimp only at h
    split at h
    · simp at h
    · split at h <;> · simp only [Option.some.injEq, Prod.mk.injEq] at h; rw [← h.1]; try rfl
theorem issueReads_heldJobs {s t : State} {j k : Job} {refs : List HostRef}
    (h : issueReads s j refs = some (t, k)) : t.heldJobs = s.heldJobs := by
  unfold issueReads at h
  split at h
  · simp only [Option.some.injEq, Prod.mk.injEq] at h; rw [← h.1]
  · dsimp only at h
    split at h
    · simp at h
    · split at h <;> · simp only [Option.some.injEq, Prod.mk.injEq] at h; rw [← h.1]; try rfl
theorem issueReads_qps {s t : State} {j k : Job} {refs : List HostRef}
    (h : issueReads s j refs = some (t, k)) : t.qps = s.qps := by
  unfold issueReads at h
  split at h
  · simp only [Option.some.injEq, Prod.mk.injEq] at h; rw [← h.1]
  · dsimp only at h
    split at h
    · simp at h
    · split at h <;> · simp only [Option.some.injEq, Prod.mk.injEq] at h; rw [← h.1]; try rfl
theorem issueReads_sched {s t : State} {j k : Job} {refs : List HostRef}
    (h : issueReads s j refs = some (t, k)) : t.sched = s.sched := by
  unfold issueReads at h
  split at h
  · simp only [Option.some.injEq, Prod.mk.injEq] at h; rw [← h.1]
  · dsimp only at h
    split at h
    · simp at h
    · split at h <;> · simp only [Option.some.injEq, Prod.mk.injEq] at h; rw [← h.1]; try rfl
theorem issueReads_manifests {s t : State} {j k : Job} {refs : List HostRef}
    (h : issueReads s j refs = some (t, k)) : t.manifests = s.manifests := by
  unfold issueReads at h
  split at h
  · simp only [Option.some.injEq, Prod.mk.injEq] at h; rw [← h.1]
  · dsimp only at h
    split at h
    · simp at h
    · split at h <;> · simp only [Option.some.injEq, Prod.mk.injEq] at h; rw [← h.1]; try rfl
theorem issueReads_nextManifest {s t : State} {j k : Job} {refs : List HostRef}
    (h : issueReads s j refs = some (t, k)) : t.nextManifest = s.nextManifest := by
  unfold issueReads at h
  split at h
  · simp only [Option.some.injEq, Prod.mk.injEq] at h; rw [← h.1]
  · dsimp only at h
    split at h
    · simp at h
    · split at h <;> · simp only [Option.some.injEq, Prod.mk.injEq] at h; rw [← h.1]; try rfl
theorem issueReads_sealEngines {s t : State} {j k : Job} {refs : List HostRef}
    (h : issueReads s j refs = some (t, k)) : t.sealEngines = s.sealEngines := by
  unfold issueReads at h
  split at h
  · simp only [Option.some.injEq, Prod.mk.injEq] at h; rw [← h.1]
  · dsimp only at h
    split at h
    · simp at h
    · split at h <;> · simp only [Option.some.injEq, Prod.mk.injEq] at h; rw [← h.1]; try rfl
theorem issueReads_digests {s t : State} {j k : Job} {refs : List HostRef}
    (h : issueReads s j refs = some (t, k)) : t.digests = s.digests := by
  unfold issueReads at h
  split at h
  · simp only [Option.some.injEq, Prod.mk.injEq] at h; rw [← h.1]
  · dsimp only at h
    split at h
    · simp at h
    · split at h <;> · simp only [Option.some.injEq, Prod.mk.injEq] at h; rw [← h.1]; try rfl
theorem issueReads_meas {s t : State} {j k : Job} {refs : List HostRef}
    (h : issueReads s j refs = some (t, k)) : t.meas = s.meas := by
  unfold issueReads at h
  split at h
  · simp only [Option.some.injEq, Prod.mk.injEq] at h; rw [← h.1]
  · dsimp only at h
    split at h
    · simp at h
    · split at h <;> · simp only [Option.some.injEq, Prod.mk.injEq] at h; rw [← h.1]; try rfl
theorem issueReads_measLog {s t : State} {j k : Job} {refs : List HostRef}
    (h : issueReads s j refs = some (t, k)) : t.measLog = s.measLog := by
  unfold issueReads at h
  split at h
  · simp only [Option.some.injEq, Prod.mk.injEq] at h; rw [← h.1]
  · dsimp only at h
    split at h
    · simp at h
    · split at h <;> · simp only [Option.some.injEq, Prod.mk.injEq] at h; rw [← h.1]; try rfl
theorem issueReads_measNext {s t : State} {j k : Job} {refs : List HostRef}
    (h : issueReads s j refs = some (t, k)) : t.measNext = s.measNext := by
  unfold issueReads at h
  split at h
  · simp only [Option.some.injEq, Prod.mk.injEq] at h; rw [← h.1]
  · dsimp only at h
    split at h
    · simp at h
    · split at h <;> · simp only [Option.some.injEq, Prod.mk.injEq] at h; rw [← h.1]; try rfl
theorem issueReads_measOverflow {s t : State} {j k : Job} {refs : List HostRef}
    (h : issueReads s j refs = some (t, k)) : t.measOverflow = s.measOverflow := by
  unfold issueReads at h
  split at h
  · simp only [Option.some.injEq, Prod.mk.injEq] at h; rw [← h.1]
  · dsimp only at h
    split at h
    · simp at h
    · split at h <;> · simp only [Option.some.injEq, Prod.mk.injEq] at h; rw [← h.1]; try rfl
theorem issueReads_truncOffered {s t : State} {j k : Job} {refs : List HostRef}
    (h : issueReads s j refs = some (t, k)) : t.truncOffered = s.truncOffered := by
  unfold issueReads at h
  split at h
  · simp only [Option.some.injEq, Prod.mk.injEq] at h; rw [← h.1]
  · dsimp only at h
    split at h
    · simp at h
    · split at h <;> · simp only [Option.some.injEq, Prod.mk.injEq] at h; rw [← h.1]; try rfl
theorem issueReads_slots {s t : State} {j k : Job} {refs : List HostRef}
    (h : issueReads s j refs = some (t, k)) : t.slots = s.slots := by
  unfold issueReads at h
  split at h
  · simp only [Option.some.injEq, Prod.mk.injEq] at h; rw [← h.1]
  · dsimp only at h
    split at h
    · simp at h
    · split at h <;> · simp only [Option.some.injEq, Prod.mk.injEq] at h; rw [← h.1]; try rfl
theorem issueReads_pufSecret {s t : State} {j k : Job} {refs : List HostRef}
    (h : issueReads s j refs = some (t, k)) : t.pufSecret = s.pufSecret := by
  unfold issueReads at h
  split at h
  · simp only [Option.some.injEq, Prod.mk.injEq] at h; rw [← h.1]
  · dsimp only at h
    split at h
    · simp at h
    · split at h <;> · simp only [Option.some.injEq, Prod.mk.injEq] at h; rw [← h.1]; try rfl
theorem issueReads_keyed {s t : State} {j k : Job} {refs : List HostRef}
    (h : issueReads s j refs = some (t, k)) : t.keyed = s.keyed := by
  unfold issueReads at h
  split at h
  · simp only [Option.some.injEq, Prod.mk.injEq] at h; rw [← h.1]
  · dsimp only at h
    split at h
    · simp at h
    · split at h <;> · simp only [Option.some.injEq, Prod.mk.injEq] at h; rw [← h.1]; try rfl
theorem issueReads_cdk {s t : State} {j k : Job} {refs : List HostRef}
    (h : issueReads s j refs = some (t, k)) : t.cdk = s.cdk := by
  unfold issueReads at h
  split at h
  · simp only [Option.some.injEq, Prod.mk.injEq] at h; rw [← h.1]
  · dsimp only at h
    split at h
    · simp at h
    · split at h <;> · simp only [Option.some.injEq, Prod.mk.injEq] at h; rw [← h.1]; try rfl
theorem issueReads_zeroised {s t : State} {j k : Job} {refs : List HostRef}
    (h : issueReads s j refs = some (t, k)) : t.zeroised = s.zeroised := by
  unfold issueReads at h
  split at h
  · simp only [Option.some.injEq, Prod.mk.injEq] at h; rw [← h.1]
  · dsimp only at h
    split at h
    · simp at h
    · split at h <;> · simp only [Option.some.injEq, Prod.mk.injEq] at h; rw [← h.1]; try rfl
theorem issueReads_agate {s t : State} {j k : Job} {refs : List HostRef}
    (h : issueReads s j refs = some (t, k)) : t.agate = s.agate := by
  unfold issueReads at h
  split at h
  · simp only [Option.some.injEq, Prod.mk.injEq] at h; rw [← h.1]
  · dsimp only at h
    split at h
    · simp at h
    · split at h <;> · simp only [Option.some.injEq, Prod.mk.injEq] at h; rw [← h.1]; try rfl
theorem issueReads_arith {s t : State} {j k : Job} {refs : List HostRef}
    (h : issueReads s j refs = some (t, k)) : t.arith = s.arith := by
  unfold issueReads at h
  split at h
  · simp only [Option.some.injEq, Prod.mk.injEq] at h; rw [← h.1]
  · dsimp only at h
    split at h
    · simp at h
    · split at h <;> · simp only [Option.some.injEq, Prod.mk.injEq] at h; rw [← h.1]; try rfl
theorem issueReads_sources {s t : State} {j k : Job} {refs : List HostRef}
    (h : issueReads s j refs = some (t, k)) : t.sources = s.sources := by
  unfold issueReads at h
  split at h
  · simp only [Option.some.injEq, Prod.mk.injEq] at h; rw [← h.1]
  · dsimp only at h
    split at h
    · simp at h
    · split at h <;> · simp only [Option.some.injEq, Prod.mk.injEq] at h; rw [← h.1]; try rfl
theorem issueReads_entropy {s t : State} {j k : Job} {refs : List HostRef}
    (h : issueReads s j refs = some (t, k)) : t.entropy = s.entropy := by
  unfold issueReads at h
  split at h
  · simp only [Option.some.injEq, Prod.mk.injEq] at h; rw [← h.1]
  · dsimp only at h
    split at h
    · simp at h
    · split at h <;> · simp only [Option.some.injEq, Prod.mk.injEq] at h; rw [← h.1]; try rfl
theorem issueReads_filling {s t : State} {j k : Job} {refs : List HostRef}
    (h : issueReads s j refs = some (t, k)) : t.filling = s.filling := by
  unfold issueReads at h
  split at h
  · simp only [Option.some.injEq, Prod.mk.injEq] at h; rw [← h.1]
  · dsimp only at h
    split at h
    · simp at h
    · split at h <;> · simp only [Option.some.injEq, Prod.mk.injEq] at h; rw [← h.1]; try rfl
theorem issueReads_lfsr {s t : State} {j k : Job} {refs : List HostRef}
    (h : issueReads s j refs = some (t, k)) : t.lfsr = s.lfsr := by
  unfold issueReads at h
  split at h
  · simp only [Option.some.injEq, Prod.mk.injEq] at h; rw [← h.1]
  · dsimp only at h
    split at h
    · simp at h
    · split at h <;> · simp only [Option.some.injEq, Prod.mk.injEq] at h; rw [← h.1]; try rfl
theorem issueReads_drbgs {s t : State} {j k : Job} {refs : List HostRef}
    (h : issueReads s j refs = some (t, k)) : t.drbgs = s.drbgs := by
  unfold issueReads at h
  split at h
  · simp only [Option.some.injEq, Prod.mk.injEq] at h; rw [← h.1]
  · dsimp only at h
    split at h
    · simp at h
    · split at h <;> · simp only [Option.some.injEq, Prod.mk.injEq] at h; rw [← h.1]; try rfl
theorem issueReads_tenants {s t : State} {j k : Job} {refs : List HostRef}
    (h : issueReads s j refs = some (t, k)) : t.tenants = s.tenants := by
  unfold issueReads at h
  split at h
  · simp only [Option.some.injEq, Prod.mk.injEq] at h; rw [← h.1]
  · dsimp only at h
    split at h
    · simp at h
    · split at h <;> · simp only [Option.some.injEq, Prod.mk.injEq] at h; rw [← h.1]; try rfl
theorem issueReads_cfg {s t : State} {j k : Job} {refs : List HostRef}
    (h : issueReads s j refs = some (t, k)) : t.cfg = s.cfg := by
  unfold issueReads at h
  split at h
  · simp only [Option.some.injEq, Prod.mk.injEq] at h; rw [← h.1]
  · dsimp only at h
    split at h
    · simp at h
    · split at h <;> · simp only [Option.some.injEq, Prod.mk.injEq] at h; rw [← h.1]; try rfl
theorem issueReads_moon {s t : State} {j k : Job} {refs : List HostRef}
    (h : issueReads s j refs = some (t, k)) : t.moon = s.moon := by
  unfold issueReads at h
  split at h
  · simp only [Option.some.injEq, Prod.mk.injEq] at h; rw [← h.1]
  · dsimp only at h
    split at h
    · simp at h
    · split at h <;> · simp only [Option.some.injEq, Prod.mk.injEq] at h; rw [← h.1]; try rfl
theorem issueReads_fuses {s t : State} {j k : Job} {refs : List HostRef}
    (h : issueReads s j refs = some (t, k)) : t.fuses = s.fuses := by
  unfold issueReads at h
  split at h
  · simp only [Option.some.injEq, Prod.mk.injEq] at h; rw [← h.1]
  · dsimp only at h
    split at h
    · simp at h
    · split at h <;> · simp only [Option.some.injEq, Prod.mk.injEq] at h; rw [← h.1]; try rfl
theorem issueReads_boot {s t : State} {j k : Job} {refs : List HostRef}
    (h : issueReads s j refs = some (t, k)) : t.boot = s.boot := by
  unfold issueReads at h
  split at h
  · simp only [Option.some.injEq, Prod.mk.injEq] at h; rw [← h.1]
  · dsimp only at h
    split at h
    · simp at h
    · split at h <;> · simp only [Option.some.injEq, Prod.mk.injEq] at h; rw [← h.1]; try rfl
theorem issueReads_lcs {s t : State} {j k : Job} {refs : List HostRef}
    (h : issueReads s j refs = some (t, k)) : t.lcs = s.lcs := by
  unfold issueReads at h
  split at h
  · simp only [Option.some.injEq, Prod.mk.injEq] at h; rw [← h.1]
  · dsimp only at h
    split at h
    · simp at h
    · split at h <;> · simp only [Option.some.injEq, Prod.mk.injEq] at h; rw [← h.1]; try rfl
theorem issueReads_tamper {s t : State} {j k : Job} {refs : List HostRef}
    (h : issueReads s j refs = some (t, k)) : t.tamper = s.tamper := by
  unfold issueReads at h
  split at h
  · simp only [Option.some.injEq, Prod.mk.injEq] at h; rw [← h.1]
  · dsimp only at h
    split at h
    · simp at h
    · split at h <;> · simp only [Option.some.injEq, Prod.mk.injEq] at h; rw [← h.1]; try rfl
theorem issueReads_pins {s t : State} {j k : Job} {refs : List HostRef}
    (h : issueReads s j refs = some (t, k)) : t.pins = s.pins := by
  unfold issueReads at h
  split at h
  · simp only [Option.some.injEq, Prod.mk.injEq] at h; rw [← h.1]
  · dsimp only at h
    split at h
    · simp at h
    · split at h <;> · simp only [Option.some.injEq, Prod.mk.injEq] at h; rw [← h.1]; try rfl
theorem issueReads_wards {s t : State} {j k : Job} {refs : List HostRef}
    (h : issueReads s j refs = some (t, k)) : t.wards = s.wards := by
  unfold issueReads at h
  split at h
  · simp only [Option.some.injEq, Prod.mk.injEq] at h; rw [← h.1]
  · dsimp only at h
    split at h
    · simp at h
    · split at h <;> · simp only [Option.some.injEq, Prod.mk.injEq] at h; rw [← h.1]; try rfl
theorem issueReads_tkn {s t : State} {j k : Job} {refs : List HostRef}
    (h : issueReads s j refs = some (t, k)) : t.tkn = s.tkn := by
  unfold issueReads at h
  split at h
  · simp only [Option.some.injEq, Prod.mk.injEq] at h; rw [← h.1]
  · dsimp only at h
    split at h
    · simp at h
    · split at h <;> · simp only [Option.some.injEq, Prod.mk.injEq] at h; rw [← h.1]; try rfl
theorem issueReads_internalDone {s t : State} {j k : Job} {refs : List HostRef}
    (h : issueReads s j refs = some (t, k)) : t.internalDone = s.internalDone := by
  unfold issueReads at h
  split at h
  · simp only [Option.some.injEq, Prod.mk.injEq] at h; rw [← h.1]
  · dsimp only at h
    split at h
    · simp at h
    · split at h <;> · simp only [Option.some.injEq, Prod.mk.injEq] at h; rw [← h.1]; try rfl
theorem issueReads_recorder {s t : State} {j k : Job} {refs : List HostRef}
    (h : issueReads s j refs = some (t, k)) : t.recorder = s.recorder := by
  unfold issueReads at h
  split at h
  · simp only [Option.some.injEq, Prod.mk.injEq] at h; rw [← h.1]
  · dsimp only at h
    split at h
    · simp at h
    · split at h <;> · simp only [Option.some.injEq, Prod.mk.injEq] at h; rw [← h.1]; try rfl
theorem issueReads_amber {s t : State} {j k : Job} {refs : List HostRef}
    (h : issueReads s j refs = some (t, k)) : t.amber = s.amber := by
  unfold issueReads at h
  split at h
  · simp only [Option.some.injEq, Prod.mk.injEq] at h; rw [← h.1]
  · dsimp only at h
    split at h
    · simp at h
    · split at h <;> · simp only [Option.some.injEq, Prod.mk.injEq] at h; rw [← h.1]; try rfl
theorem issueReads_links {s t : State} {j k : Job} {refs : List HostRef}
    (h : issueReads s j refs = some (t, k)) : t.links = s.links := by
  unfold issueReads at h
  split at h
  · simp only [Option.some.injEq, Prod.mk.injEq] at h; rw [← h.1]
  · dsimp only at h
    split at h
    · simp at h
    · split at h <;> · simp only [Option.some.injEq, Prod.mk.injEq] at h; rw [← h.1]; try rfl
theorem issueReads_fabric {s t : State} {j k : Job} {refs : List HostRef}
    (h : issueReads s j refs = some (t, k)) : t.fabric = s.fabric := by
  unfold issueReads at h
  split at h
  · simp only [Option.some.injEq, Prod.mk.injEq] at h; rw [← h.1]
  · dsimp only at h
    split at h
    · simp at h
    · split at h <;> · simp only [Option.some.injEq, Prod.mk.injEq] at h; rw [← h.1]; try rfl
theorem issueReads_nor {s t : State} {j k : Job} {refs : List HostRef}
    (h : issueReads s j refs = some (t, k)) : t.nor = s.nor := by
  unfold issueReads at h
  split at h
  · simp only [Option.some.injEq, Prod.mk.injEq] at h; rw [← h.1]
  · dsimp only at h
    split at h
    · simp at h
    · split at h <;> · simp only [Option.some.injEq, Prod.mk.injEq] at h; rw [← h.1]; try rfl
theorem issueReads_mem {s t : State} {j k : Job} {refs : List HostRef}
    (h : issueReads s j refs = some (t, k)) : t.mem = s.mem := by
  unfold issueReads at h
  split at h
  · simp only [Option.some.injEq, Prod.mk.injEq] at h; rw [← h.1]
  · dsimp only at h
    split at h
    · simp at h
    · split at h <;> · simp only [Option.some.injEq, Prod.mk.injEq] at h; rw [← h.1]; try rfl
theorem issueReads_quartz {s t : State} {j k : Job} {refs : List HostRef}
    (h : issueReads s j refs = some (t, k)) : t.quartz = s.quartz := by
  unfold issueReads at h
  split at h
  · simp only [Option.some.injEq, Prod.mk.injEq] at h; rw [← h.1]
  · dsimp only at h
    split at h
    · simp at h
    · split at h <;> · simp only [Option.some.injEq, Prod.mk.injEq] at h; rw [← h.1]; try rfl
theorem issueReads_regs {s t : State} {j k : Job} {refs : List HostRef}
    (h : issueReads s j refs = some (t, k)) : t.regs = s.regs := by
  unfold issueReads at h
  split at h
  · simp only [Option.some.injEq, Prod.mk.injEq] at h; rw [← h.1]
  · dsimp only at h
    split at h
    · simp at h
    · split at h <;> · simp only [Option.some.injEq, Prod.mk.injEq] at h; rw [← h.1]; try rfl
theorem issueReads_freeIdx {s t : State} {j k : Job} {refs : List HostRef}
    (h : issueReads s j refs = some (t, k)) : t.freeIdx = s.freeIdx := by
  unfold issueReads at h
  split at h
  · simp only [Option.some.injEq, Prod.mk.injEq] at h; rw [← h.1]
  · dsimp only at h
    split at h
    · simp at h
    · split at h <;> · simp only [Option.some.injEq, Prod.mk.injEq] at h; rw [← h.1]; try rfl
theorem issueReads_pending {s t : State} {j k : Job} {refs : List HostRef}
    (h : issueReads s j refs = some (t, k)) : t.pending = s.pending := by
  unfold issueReads at h
  split at h
  · simp only [Option.some.injEq, Prod.mk.injEq] at h; rw [← h.1]
  · dsimp only at h
    split at h
    · simp at h
    · split at h <;> · simp only [Option.some.injEq, Prod.mk.injEq] at h; rw [← h.1]; try rfl

/-! ### Folds -/

@[simp] theorem foldSend_clk (ms : List Msg) : ∀ s : State, (ms.foldl State.send s).clk = s.clk := by
  induction ms with
  | nil => intro s; rfl
  | cons m r ih => intro s; exact (ih _).trans (send_clk s m)
@[simp] theorem foldSend_mode (ms : List Msg) : ∀ s : State, (ms.foldl State.send s).mode = s.mode := by
  induction ms with
  | nil => intro s; rfl
  | cons m r ih => intro s; exact (ih _).trans (send_mode s m)
@[simp] theorem foldSend_portA (ms : List Msg) : ∀ s : State, (ms.foldl State.send s).portA = s.portA := by
  induction ms with
  | nil => intro s; rfl
  | cons m r ih => intro s; exact (ih _).trans (send_portA s m)
@[simp] theorem foldSend_portB (ms : List Msg) : ∀ s : State, (ms.foldl State.send s).portB = s.portB := by
  induction ms with
  | nil => intro s; rfl
  | cons m r ih => intro s; exact (ih _).trans (send_portB s m)
@[simp] theorem foldSend_jobs (ms : List Msg) : ∀ s : State, (ms.foldl State.send s).jobs = s.jobs := by
  induction ms with
  | nil => intro s; rfl
  | cons m r ih => intro s; exact (ih _).trans (send_jobs s m)
@[simp] theorem foldSend_heldJobs (ms : List Msg) : ∀ s : State, (ms.foldl State.send s).heldJobs = s.heldJobs := by
  induction ms with
  | nil => intro s; rfl
  | cons m r ih => intro s; exact (ih _).trans (send_heldJobs s m)
@[simp] theorem foldSend_qps (ms : List Msg) : ∀ s : State, (ms.foldl State.send s).qps = s.qps := by
  induction ms with
  | nil => intro s; rfl
  | cons m r ih => intro s; exact (ih _).trans (send_qps s m)
@[simp] theorem foldSend_sched (ms : List Msg) : ∀ s : State, (ms.foldl State.send s).sched = s.sched := by
  induction ms with
  | nil => intro s; rfl
  | cons m r ih => intro s; exact (ih _).trans (send_sched s m)
@[simp] theorem foldSend_manifests (ms : List Msg) : ∀ s : State, (ms.foldl State.send s).manifests = s.manifests := by
  induction ms with
  | nil => intro s; rfl
  | cons m r ih => intro s; exact (ih _).trans (send_manifests s m)
@[simp] theorem foldSend_nextManifest (ms : List Msg) : ∀ s : State, (ms.foldl State.send s).nextManifest = s.nextManifest := by
  induction ms with
  | nil => intro s; rfl
  | cons m r ih => intro s; exact (ih _).trans (send_nextManifest s m)
@[simp] theorem foldSend_sealEngines (ms : List Msg) : ∀ s : State, (ms.foldl State.send s).sealEngines = s.sealEngines := by
  induction ms with
  | nil => intro s; rfl
  | cons m r ih => intro s; exact (ih _).trans (send_sealEngines s m)
@[simp] theorem foldSend_digests (ms : List Msg) : ∀ s : State, (ms.foldl State.send s).digests = s.digests := by
  induction ms with
  | nil => intro s; rfl
  | cons m r ih => intro s; exact (ih _).trans (send_digests s m)
@[simp] theorem foldSend_meas (ms : List Msg) : ∀ s : State, (ms.foldl State.send s).meas = s.meas := by
  induction ms with
  | nil => intro s; rfl
  | cons m r ih => intro s; exact (ih _).trans (send_meas s m)
@[simp] theorem foldSend_measLog (ms : List Msg) : ∀ s : State, (ms.foldl State.send s).measLog = s.measLog := by
  induction ms with
  | nil => intro s; rfl
  | cons m r ih => intro s; exact (ih _).trans (send_measLog s m)
@[simp] theorem foldSend_measNext (ms : List Msg) : ∀ s : State, (ms.foldl State.send s).measNext = s.measNext := by
  induction ms with
  | nil => intro s; rfl
  | cons m r ih => intro s; exact (ih _).trans (send_measNext s m)
@[simp] theorem foldSend_measOverflow (ms : List Msg) : ∀ s : State, (ms.foldl State.send s).measOverflow = s.measOverflow := by
  induction ms with
  | nil => intro s; rfl
  | cons m r ih => intro s; exact (ih _).trans (send_measOverflow s m)
@[simp] theorem foldSend_truncOffered (ms : List Msg) : ∀ s : State, (ms.foldl State.send s).truncOffered = s.truncOffered := by
  induction ms with
  | nil => intro s; rfl
  | cons m r ih => intro s; exact (ih _).trans (send_truncOffered s m)
@[simp] theorem foldSend_slots (ms : List Msg) : ∀ s : State, (ms.foldl State.send s).slots = s.slots := by
  induction ms with
  | nil => intro s; rfl
  | cons m r ih => intro s; exact (ih _).trans (send_slots s m)
@[simp] theorem foldSend_pufSecret (ms : List Msg) : ∀ s : State, (ms.foldl State.send s).pufSecret = s.pufSecret := by
  induction ms with
  | nil => intro s; rfl
  | cons m r ih => intro s; exact (ih _).trans (send_pufSecret s m)
@[simp] theorem foldSend_keyed (ms : List Msg) : ∀ s : State, (ms.foldl State.send s).keyed = s.keyed := by
  induction ms with
  | nil => intro s; rfl
  | cons m r ih => intro s; exact (ih _).trans (send_keyed s m)
@[simp] theorem foldSend_cdk (ms : List Msg) : ∀ s : State, (ms.foldl State.send s).cdk = s.cdk := by
  induction ms with
  | nil => intro s; rfl
  | cons m r ih => intro s; exact (ih _).trans (send_cdk s m)
@[simp] theorem foldSend_zeroised (ms : List Msg) : ∀ s : State, (ms.foldl State.send s).zeroised = s.zeroised := by
  induction ms with
  | nil => intro s; rfl
  | cons m r ih => intro s; exact (ih _).trans (send_zeroised s m)
@[simp] theorem foldSend_agate (ms : List Msg) : ∀ s : State, (ms.foldl State.send s).agate = s.agate := by
  induction ms with
  | nil => intro s; rfl
  | cons m r ih => intro s; exact (ih _).trans (send_agate s m)
@[simp] theorem foldSend_arith (ms : List Msg) : ∀ s : State, (ms.foldl State.send s).arith = s.arith := by
  induction ms with
  | nil => intro s; rfl
  | cons m r ih => intro s; exact (ih _).trans (send_arith s m)
@[simp] theorem foldSend_sources (ms : List Msg) : ∀ s : State, (ms.foldl State.send s).sources = s.sources := by
  induction ms with
  | nil => intro s; rfl
  | cons m r ih => intro s; exact (ih _).trans (send_sources s m)
@[simp] theorem foldSend_entropy (ms : List Msg) : ∀ s : State, (ms.foldl State.send s).entropy = s.entropy := by
  induction ms with
  | nil => intro s; rfl
  | cons m r ih => intro s; exact (ih _).trans (send_entropy s m)
@[simp] theorem foldSend_filling (ms : List Msg) : ∀ s : State, (ms.foldl State.send s).filling = s.filling := by
  induction ms with
  | nil => intro s; rfl
  | cons m r ih => intro s; exact (ih _).trans (send_filling s m)
@[simp] theorem foldSend_lfsr (ms : List Msg) : ∀ s : State, (ms.foldl State.send s).lfsr = s.lfsr := by
  induction ms with
  | nil => intro s; rfl
  | cons m r ih => intro s; exact (ih _).trans (send_lfsr s m)
@[simp] theorem foldSend_drbgs (ms : List Msg) : ∀ s : State, (ms.foldl State.send s).drbgs = s.drbgs := by
  induction ms with
  | nil => intro s; rfl
  | cons m r ih => intro s; exact (ih _).trans (send_drbgs s m)
@[simp] theorem foldSend_tenants (ms : List Msg) : ∀ s : State, (ms.foldl State.send s).tenants = s.tenants := by
  induction ms with
  | nil => intro s; rfl
  | cons m r ih => intro s; exact (ih _).trans (send_tenants s m)
@[simp] theorem foldSend_cfg (ms : List Msg) : ∀ s : State, (ms.foldl State.send s).cfg = s.cfg := by
  induction ms with
  | nil => intro s; rfl
  | cons m r ih => intro s; exact (ih _).trans (send_cfg s m)
@[simp] theorem foldSend_moon (ms : List Msg) : ∀ s : State, (ms.foldl State.send s).moon = s.moon := by
  induction ms with
  | nil => intro s; rfl
  | cons m r ih => intro s; exact (ih _).trans (send_moon s m)
@[simp] theorem foldSend_fuses (ms : List Msg) : ∀ s : State, (ms.foldl State.send s).fuses = s.fuses := by
  induction ms with
  | nil => intro s; rfl
  | cons m r ih => intro s; exact (ih _).trans (send_fuses s m)
@[simp] theorem foldSend_boot (ms : List Msg) : ∀ s : State, (ms.foldl State.send s).boot = s.boot := by
  induction ms with
  | nil => intro s; rfl
  | cons m r ih => intro s; exact (ih _).trans (send_boot s m)
@[simp] theorem foldSend_lcs (ms : List Msg) : ∀ s : State, (ms.foldl State.send s).lcs = s.lcs := by
  induction ms with
  | nil => intro s; rfl
  | cons m r ih => intro s; exact (ih _).trans (send_lcs s m)
@[simp] theorem foldSend_tamper (ms : List Msg) : ∀ s : State, (ms.foldl State.send s).tamper = s.tamper := by
  induction ms with
  | nil => intro s; rfl
  | cons m r ih => intro s; exact (ih _).trans (send_tamper s m)
@[simp] theorem foldSend_pins (ms : List Msg) : ∀ s : State, (ms.foldl State.send s).pins = s.pins := by
  induction ms with
  | nil => intro s; rfl
  | cons m r ih => intro s; exact (ih _).trans (send_pins s m)
@[simp] theorem foldSend_wards (ms : List Msg) : ∀ s : State, (ms.foldl State.send s).wards = s.wards := by
  induction ms with
  | nil => intro s; rfl
  | cons m r ih => intro s; exact (ih _).trans (send_wards s m)
@[simp] theorem foldSend_tkn (ms : List Msg) : ∀ s : State, (ms.foldl State.send s).tkn = s.tkn := by
  induction ms with
  | nil => intro s; rfl
  | cons m r ih => intro s; exact (ih _).trans (send_tkn s m)
@[simp] theorem foldSend_internalDone (ms : List Msg) : ∀ s : State, (ms.foldl State.send s).internalDone = s.internalDone := by
  induction ms with
  | nil => intro s; rfl
  | cons m r ih => intro s; exact (ih _).trans (send_internalDone s m)
@[simp] theorem foldSend_recorder (ms : List Msg) : ∀ s : State, (ms.foldl State.send s).recorder = s.recorder := by
  induction ms with
  | nil => intro s; rfl
  | cons m r ih => intro s; exact (ih _).trans (send_recorder s m)
@[simp] theorem foldSend_amber (ms : List Msg) : ∀ s : State, (ms.foldl State.send s).amber = s.amber := by
  induction ms with
  | nil => intro s; rfl
  | cons m r ih => intro s; exact (ih _).trans (send_amber s m)
@[simp] theorem foldSend_links (ms : List Msg) : ∀ s : State, (ms.foldl State.send s).links = s.links := by
  induction ms with
  | nil => intro s; rfl
  | cons m r ih => intro s; exact (ih _).trans (send_links s m)
@[simp] theorem foldSend_fabric (ms : List Msg) : ∀ s : State, (ms.foldl State.send s).fabric = s.fabric := by
  induction ms with
  | nil => intro s; rfl
  | cons m r ih => intro s; exact (ih _).trans (send_fabric s m)
@[simp] theorem foldSend_nor (ms : List Msg) : ∀ s : State, (ms.foldl State.send s).nor = s.nor := by
  induction ms with
  | nil => intro s; rfl
  | cons m r ih => intro s; exact (ih _).trans (send_nor s m)
@[simp] theorem foldSend_mem (ms : List Msg) : ∀ s : State, (ms.foldl State.send s).mem = s.mem := by
  induction ms with
  | nil => intro s; rfl
  | cons m r ih => intro s; exact (ih _).trans (send_mem s m)
@[simp] theorem foldSend_quartz (ms : List Msg) : ∀ s : State, (ms.foldl State.send s).quartz = s.quartz := by
  induction ms with
  | nil => intro s; rfl
  | cons m r ih => intro s; exact (ih _).trans (send_quartz s m)
@[simp] theorem foldSend_regs (ms : List Msg) : ∀ s : State, (ms.foldl State.send s).regs = s.regs := by
  induction ms with
  | nil => intro s; rfl
  | cons m r ih => intro s; exact (ih _).trans (send_regs s m)
@[simp] theorem foldSend_freeIdx (ms : List Msg) : ∀ s : State, (ms.foldl State.send s).freeIdx = s.freeIdx := by
  induction ms with
  | nil => intro s; rfl
  | cons m r ih => intro s; exact (ih _).trans (send_freeIdx s m)
@[simp] theorem foldSend_pending (ms : List Msg) : ∀ s : State, (ms.foldl State.send s).pending = s.pending := by
  induction ms with
  | nil => intro s; rfl
  | cons m r ih => intro s; exact (ih _).trans (send_pending s m)

/-! ### issueFetch -/

@[simp] theorem issueFetch_clk (s : State) (n : Nat) : (issueFetch s n).clk = s.clk := by
  unfold issueFetch; (repeat' split) <;> (simp; done)
@[simp] theorem issueFetch_mode (s : State) (n : Nat) : (issueFetch s n).mode = s.mode := by
  unfold issueFetch; (repeat' split) <;> (simp; done)
@[simp] theorem issueFetch_portA (s : State) (n : Nat) : (issueFetch s n).portA = s.portA := by
  unfold issueFetch; (repeat' split) <;> (simp; done)
@[simp] theorem issueFetch_portB (s : State) (n : Nat) : (issueFetch s n).portB = s.portB := by
  unfold issueFetch; (repeat' split) <;> (simp; done)
@[simp] theorem issueFetch_jobs (s : State) (n : Nat) : (issueFetch s n).jobs = s.jobs := by
  unfold issueFetch; (repeat' split) <;> (simp; done)
@[simp] theorem issueFetch_heldJobs (s : State) (n : Nat) : (issueFetch s n).heldJobs = s.heldJobs := by
  unfold issueFetch; (repeat' split) <;> (simp; done)
@[simp] theorem issueFetch_sched (s : State) (n : Nat) : (issueFetch s n).sched = s.sched := by
  unfold issueFetch; (repeat' split) <;> (simp; done)
@[simp] theorem issueFetch_manifests (s : State) (n : Nat) : (issueFetch s n).manifests = s.manifests := by
  unfold issueFetch; (repeat' split) <;> (simp; done)
@[simp] theorem issueFetch_nextManifest (s : State) (n : Nat) : (issueFetch s n).nextManifest = s.nextManifest := by
  unfold issueFetch; (repeat' split) <;> (simp; done)
@[simp] theorem issueFetch_sealEngines (s : State) (n : Nat) : (issueFetch s n).sealEngines = s.sealEngines := by
  unfold issueFetch; (repeat' split) <;> (simp; done)
@[simp] theorem issueFetch_digests (s : State) (n : Nat) : (issueFetch s n).digests = s.digests := by
  unfold issueFetch; (repeat' split) <;> (simp; done)
@[simp] theorem issueFetch_meas (s : State) (n : Nat) : (issueFetch s n).meas = s.meas := by
  unfold issueFetch; (repeat' split) <;> (simp; done)
@[simp] theorem issueFetch_measLog (s : State) (n : Nat) : (issueFetch s n).measLog = s.measLog := by
  unfold issueFetch; (repeat' split) <;> (simp; done)
@[simp] theorem issueFetch_measNext (s : State) (n : Nat) : (issueFetch s n).measNext = s.measNext := by
  unfold issueFetch; (repeat' split) <;> (simp; done)
@[simp] theorem issueFetch_measOverflow (s : State) (n : Nat) : (issueFetch s n).measOverflow = s.measOverflow := by
  unfold issueFetch; (repeat' split) <;> (simp; done)
@[simp] theorem issueFetch_truncOffered (s : State) (n : Nat) : (issueFetch s n).truncOffered = s.truncOffered := by
  unfold issueFetch; (repeat' split) <;> (simp; done)
@[simp] theorem issueFetch_slots (s : State) (n : Nat) : (issueFetch s n).slots = s.slots := by
  unfold issueFetch; (repeat' split) <;> (simp; done)
@[simp] theorem issueFetch_pufSecret (s : State) (n : Nat) : (issueFetch s n).pufSecret = s.pufSecret := by
  unfold issueFetch; (repeat' split) <;> (simp; done)
@[simp] theorem issueFetch_keyed (s : State) (n : Nat) : (issueFetch s n).keyed = s.keyed := by
  unfold issueFetch; (repeat' split) <;> (simp; done)
@[simp] theorem issueFetch_cdk (s : State) (n : Nat) : (issueFetch s n).cdk = s.cdk := by
  unfold issueFetch; (repeat' split) <;> (simp; done)
@[simp] theorem issueFetch_zeroised (s : State) (n : Nat) : (issueFetch s n).zeroised = s.zeroised := by
  unfold issueFetch; (repeat' split) <;> (simp; done)
@[simp] theorem issueFetch_agate (s : State) (n : Nat) : (issueFetch s n).agate = s.agate := by
  unfold issueFetch; (repeat' split) <;> (simp; done)
@[simp] theorem issueFetch_arith (s : State) (n : Nat) : (issueFetch s n).arith = s.arith := by
  unfold issueFetch; (repeat' split) <;> (simp; done)
@[simp] theorem issueFetch_sources (s : State) (n : Nat) : (issueFetch s n).sources = s.sources := by
  unfold issueFetch; (repeat' split) <;> (simp; done)
@[simp] theorem issueFetch_entropy (s : State) (n : Nat) : (issueFetch s n).entropy = s.entropy := by
  unfold issueFetch; (repeat' split) <;> (simp; done)
@[simp] theorem issueFetch_filling (s : State) (n : Nat) : (issueFetch s n).filling = s.filling := by
  unfold issueFetch; (repeat' split) <;> (simp; done)
@[simp] theorem issueFetch_lfsr (s : State) (n : Nat) : (issueFetch s n).lfsr = s.lfsr := by
  unfold issueFetch; (repeat' split) <;> (simp; done)
@[simp] theorem issueFetch_drbgs (s : State) (n : Nat) : (issueFetch s n).drbgs = s.drbgs := by
  unfold issueFetch; (repeat' split) <;> (simp; done)
@[simp] theorem issueFetch_tenants (s : State) (n : Nat) : (issueFetch s n).tenants = s.tenants := by
  unfold issueFetch; (repeat' split) <;> (simp; done)
@[simp] theorem issueFetch_cfg (s : State) (n : Nat) : (issueFetch s n).cfg = s.cfg := by
  unfold issueFetch; (repeat' split) <;> (simp; done)
@[simp] theorem issueFetch_moon (s : State) (n : Nat) : (issueFetch s n).moon = s.moon := by
  unfold issueFetch; (repeat' split) <;> (simp; done)
@[simp] theorem issueFetch_fuses (s : State) (n : Nat) : (issueFetch s n).fuses = s.fuses := by
  unfold issueFetch; (repeat' split) <;> (simp; done)
@[simp] theorem issueFetch_boot (s : State) (n : Nat) : (issueFetch s n).boot = s.boot := by
  unfold issueFetch; (repeat' split) <;> (simp; done)
@[simp] theorem issueFetch_lcs (s : State) (n : Nat) : (issueFetch s n).lcs = s.lcs := by
  unfold issueFetch; (repeat' split) <;> (simp; done)
@[simp] theorem issueFetch_tamper (s : State) (n : Nat) : (issueFetch s n).tamper = s.tamper := by
  unfold issueFetch; (repeat' split) <;> (simp; done)
@[simp] theorem issueFetch_pins (s : State) (n : Nat) : (issueFetch s n).pins = s.pins := by
  unfold issueFetch; (repeat' split) <;> (simp; done)
@[simp] theorem issueFetch_wards (s : State) (n : Nat) : (issueFetch s n).wards = s.wards := by
  unfold issueFetch; (repeat' split) <;> (simp; done)
@[simp] theorem issueFetch_tkn (s : State) (n : Nat) : (issueFetch s n).tkn = s.tkn := by
  unfold issueFetch; (repeat' split) <;> (simp; done)
@[simp] theorem issueFetch_internalDone (s : State) (n : Nat) : (issueFetch s n).internalDone = s.internalDone := by
  unfold issueFetch; (repeat' split) <;> (simp; done)
@[simp] theorem issueFetch_recorder (s : State) (n : Nat) : (issueFetch s n).recorder = s.recorder := by
  unfold issueFetch; (repeat' split) <;> (simp; done)
@[simp] theorem issueFetch_amber (s : State) (n : Nat) : (issueFetch s n).amber = s.amber := by
  unfold issueFetch; (repeat' split) <;> (simp; done)
@[simp] theorem issueFetch_links (s : State) (n : Nat) : (issueFetch s n).links = s.links := by
  unfold issueFetch; (repeat' split) <;> (simp; done)
@[simp] theorem issueFetch_fabric (s : State) (n : Nat) : (issueFetch s n).fabric = s.fabric := by
  unfold issueFetch; (repeat' split) <;> (simp; done)
@[simp] theorem issueFetch_nor (s : State) (n : Nat) : (issueFetch s n).nor = s.nor := by
  unfold issueFetch; (repeat' split) <;> (simp; done)
@[simp] theorem issueFetch_mem (s : State) (n : Nat) : (issueFetch s n).mem = s.mem := by
  unfold issueFetch; (repeat' split) <;> (simp; done)
@[simp] theorem issueFetch_quartz (s : State) (n : Nat) : (issueFetch s n).quartz = s.quartz := by
  unfold issueFetch; (repeat' split) <;> (simp; done)
@[simp] theorem issueFetch_regs (s : State) (n : Nat) : (issueFetch s n).regs = s.regs := by
  unfold issueFetch; (repeat' split) <;> (simp; done)
@[simp] theorem issueFetch_freeIdx (s : State) (n : Nat) : (issueFetch s n).freeIdx = s.freeIdx := by
  unfold issueFetch; (repeat' split) <;> (simp; done)
@[simp] theorem issueFetch_pending (s : State) (n : Nat) : (issueFetch s n).pending = s.pending := by
  unfold issueFetch; (repeat' split) <;> (simp; done)

/-! ### fetchStart -/

@[simp] theorem fetchStart_clk (s : State) (n : Nat) : (fetchStart s n).clk = s.clk := by
  unfold fetchStart; dsimp only; (repeat' split) <;> (simp; done)
@[simp] theorem fetchStart_mode (s : State) (n : Nat) : (fetchStart s n).mode = s.mode := by
  unfold fetchStart; dsimp only; (repeat' split) <;> (simp; done)
@[simp] theorem fetchStart_portA (s : State) (n : Nat) : (fetchStart s n).portA = s.portA := by
  unfold fetchStart; dsimp only; (repeat' split) <;> (simp; done)
@[simp] theorem fetchStart_portB (s : State) (n : Nat) : (fetchStart s n).portB = s.portB := by
  unfold fetchStart; dsimp only; (repeat' split) <;> (simp; done)
@[simp] theorem fetchStart_jobs (s : State) (n : Nat) : (fetchStart s n).jobs = s.jobs := by
  unfold fetchStart; dsimp only; (repeat' split) <;> (simp; done)
@[simp] theorem fetchStart_heldJobs (s : State) (n : Nat) : (fetchStart s n).heldJobs = s.heldJobs := by
  unfold fetchStart; dsimp only; (repeat' split) <;> (simp; done)
@[simp] theorem fetchStart_sched (s : State) (n : Nat) : (fetchStart s n).sched = s.sched := by
  unfold fetchStart; dsimp only; (repeat' split) <;> (simp; done)
@[simp] theorem fetchStart_manifests (s : State) (n : Nat) : (fetchStart s n).manifests = s.manifests := by
  unfold fetchStart; dsimp only; (repeat' split) <;> (simp; done)
@[simp] theorem fetchStart_nextManifest (s : State) (n : Nat) : (fetchStart s n).nextManifest = s.nextManifest := by
  unfold fetchStart; dsimp only; (repeat' split) <;> (simp; done)
@[simp] theorem fetchStart_sealEngines (s : State) (n : Nat) : (fetchStart s n).sealEngines = s.sealEngines := by
  unfold fetchStart; dsimp only; (repeat' split) <;> (simp; done)
@[simp] theorem fetchStart_digests (s : State) (n : Nat) : (fetchStart s n).digests = s.digests := by
  unfold fetchStart; dsimp only; (repeat' split) <;> (simp; done)
@[simp] theorem fetchStart_meas (s : State) (n : Nat) : (fetchStart s n).meas = s.meas := by
  unfold fetchStart; dsimp only; (repeat' split) <;> (simp; done)
@[simp] theorem fetchStart_measLog (s : State) (n : Nat) : (fetchStart s n).measLog = s.measLog := by
  unfold fetchStart; dsimp only; (repeat' split) <;> (simp; done)
@[simp] theorem fetchStart_measNext (s : State) (n : Nat) : (fetchStart s n).measNext = s.measNext := by
  unfold fetchStart; dsimp only; (repeat' split) <;> (simp; done)
@[simp] theorem fetchStart_measOverflow (s : State) (n : Nat) : (fetchStart s n).measOverflow = s.measOverflow := by
  unfold fetchStart; dsimp only; (repeat' split) <;> (simp; done)
@[simp] theorem fetchStart_truncOffered (s : State) (n : Nat) : (fetchStart s n).truncOffered = s.truncOffered := by
  unfold fetchStart; dsimp only; (repeat' split) <;> (simp; done)
@[simp] theorem fetchStart_slots (s : State) (n : Nat) : (fetchStart s n).slots = s.slots := by
  unfold fetchStart; dsimp only; (repeat' split) <;> (simp; done)
@[simp] theorem fetchStart_pufSecret (s : State) (n : Nat) : (fetchStart s n).pufSecret = s.pufSecret := by
  unfold fetchStart; dsimp only; (repeat' split) <;> (simp; done)
@[simp] theorem fetchStart_keyed (s : State) (n : Nat) : (fetchStart s n).keyed = s.keyed := by
  unfold fetchStart; dsimp only; (repeat' split) <;> (simp; done)
@[simp] theorem fetchStart_cdk (s : State) (n : Nat) : (fetchStart s n).cdk = s.cdk := by
  unfold fetchStart; dsimp only; (repeat' split) <;> (simp; done)
@[simp] theorem fetchStart_zeroised (s : State) (n : Nat) : (fetchStart s n).zeroised = s.zeroised := by
  unfold fetchStart; dsimp only; (repeat' split) <;> (simp; done)
@[simp] theorem fetchStart_agate (s : State) (n : Nat) : (fetchStart s n).agate = s.agate := by
  unfold fetchStart; dsimp only; (repeat' split) <;> (simp; done)
@[simp] theorem fetchStart_arith (s : State) (n : Nat) : (fetchStart s n).arith = s.arith := by
  unfold fetchStart; dsimp only; (repeat' split) <;> (simp; done)
@[simp] theorem fetchStart_sources (s : State) (n : Nat) : (fetchStart s n).sources = s.sources := by
  unfold fetchStart; dsimp only; (repeat' split) <;> (simp; done)
@[simp] theorem fetchStart_entropy (s : State) (n : Nat) : (fetchStart s n).entropy = s.entropy := by
  unfold fetchStart; dsimp only; (repeat' split) <;> (simp; done)
@[simp] theorem fetchStart_filling (s : State) (n : Nat) : (fetchStart s n).filling = s.filling := by
  unfold fetchStart; dsimp only; (repeat' split) <;> (simp; done)
@[simp] theorem fetchStart_lfsr (s : State) (n : Nat) : (fetchStart s n).lfsr = s.lfsr := by
  unfold fetchStart; dsimp only; (repeat' split) <;> (simp; done)
@[simp] theorem fetchStart_drbgs (s : State) (n : Nat) : (fetchStart s n).drbgs = s.drbgs := by
  unfold fetchStart; dsimp only; (repeat' split) <;> (simp; done)
@[simp] theorem fetchStart_tenants (s : State) (n : Nat) : (fetchStart s n).tenants = s.tenants := by
  unfold fetchStart; dsimp only; (repeat' split) <;> (simp; done)
@[simp] theorem fetchStart_cfg (s : State) (n : Nat) : (fetchStart s n).cfg = s.cfg := by
  unfold fetchStart; dsimp only; (repeat' split) <;> (simp; done)
@[simp] theorem fetchStart_moon (s : State) (n : Nat) : (fetchStart s n).moon = s.moon := by
  unfold fetchStart; dsimp only; (repeat' split) <;> (simp; done)
@[simp] theorem fetchStart_fuses (s : State) (n : Nat) : (fetchStart s n).fuses = s.fuses := by
  unfold fetchStart; dsimp only; (repeat' split) <;> (simp; done)
@[simp] theorem fetchStart_boot (s : State) (n : Nat) : (fetchStart s n).boot = s.boot := by
  unfold fetchStart; dsimp only; (repeat' split) <;> (simp; done)
@[simp] theorem fetchStart_lcs (s : State) (n : Nat) : (fetchStart s n).lcs = s.lcs := by
  unfold fetchStart; dsimp only; (repeat' split) <;> (simp; done)
@[simp] theorem fetchStart_tamper (s : State) (n : Nat) : (fetchStart s n).tamper = s.tamper := by
  unfold fetchStart; dsimp only; (repeat' split) <;> (simp; done)
@[simp] theorem fetchStart_pins (s : State) (n : Nat) : (fetchStart s n).pins = s.pins := by
  unfold fetchStart; dsimp only; (repeat' split) <;> (simp; done)
@[simp] theorem fetchStart_wards (s : State) (n : Nat) : (fetchStart s n).wards = s.wards := by
  unfold fetchStart; dsimp only; (repeat' split) <;> (simp; done)
@[simp] theorem fetchStart_tkn (s : State) (n : Nat) : (fetchStart s n).tkn = s.tkn := by
  unfold fetchStart; dsimp only; (repeat' split) <;> (simp; done)
@[simp] theorem fetchStart_internalDone (s : State) (n : Nat) : (fetchStart s n).internalDone = s.internalDone := by
  unfold fetchStart; dsimp only; (repeat' split) <;> (simp; done)
@[simp] theorem fetchStart_recorder (s : State) (n : Nat) : (fetchStart s n).recorder = s.recorder := by
  unfold fetchStart; dsimp only; (repeat' split) <;> (simp; done)
@[simp] theorem fetchStart_amber (s : State) (n : Nat) : (fetchStart s n).amber = s.amber := by
  unfold fetchStart; dsimp only; (repeat' split) <;> (simp; done)
@[simp] theorem fetchStart_links (s : State) (n : Nat) : (fetchStart s n).links = s.links := by
  unfold fetchStart; dsimp only; (repeat' split) <;> (simp; done)
@[simp] theorem fetchStart_fabric (s : State) (n : Nat) : (fetchStart s n).fabric = s.fabric := by
  unfold fetchStart; dsimp only; (repeat' split) <;> (simp; done)
@[simp] theorem fetchStart_nor (s : State) (n : Nat) : (fetchStart s n).nor = s.nor := by
  unfold fetchStart; dsimp only; (repeat' split) <;> (simp; done)
@[simp] theorem fetchStart_mem (s : State) (n : Nat) : (fetchStart s n).mem = s.mem := by
  unfold fetchStart; dsimp only; (repeat' split) <;> (simp; done)
@[simp] theorem fetchStart_quartz (s : State) (n : Nat) : (fetchStart s n).quartz = s.quartz := by
  unfold fetchStart; dsimp only; (repeat' split) <;> (simp; done)
@[simp] theorem fetchStart_regs (s : State) (n : Nat) : (fetchStart s n).regs = s.regs := by
  unfold fetchStart; dsimp only; (repeat' split) <;> (simp; done)
@[simp] theorem fetchStart_freeIdx (s : State) (n : Nat) : (fetchStart s n).freeIdx = s.freeIdx := by
  unfold fetchStart; dsimp only; (repeat' split) <;> (simp; done)
@[simp] theorem fetchStart_pending (s : State) (n : Nat) : (fetchStart s n).pending = s.pending := by
  unfold fetchStart; dsimp only; (repeat' split) <;> (simp; done)

/-! ### Folds of SQ reads -/

@[simp] theorem foldFetch_clk (l : List Nat) : ∀ s : State, (l.foldl fetchStart s).clk = s.clk := by
  induction l with
  | nil => intro s; rfl
  | cons n r ih => intro s; exact (ih _).trans (fetchStart_clk s n)
@[simp] theorem foldFetch_mode (l : List Nat) : ∀ s : State, (l.foldl fetchStart s).mode = s.mode := by
  induction l with
  | nil => intro s; rfl
  | cons n r ih => intro s; exact (ih _).trans (fetchStart_mode s n)
@[simp] theorem foldFetch_portA (l : List Nat) : ∀ s : State, (l.foldl fetchStart s).portA = s.portA := by
  induction l with
  | nil => intro s; rfl
  | cons n r ih => intro s; exact (ih _).trans (fetchStart_portA s n)
@[simp] theorem foldFetch_portB (l : List Nat) : ∀ s : State, (l.foldl fetchStart s).portB = s.portB := by
  induction l with
  | nil => intro s; rfl
  | cons n r ih => intro s; exact (ih _).trans (fetchStart_portB s n)
@[simp] theorem foldFetch_jobs (l : List Nat) : ∀ s : State, (l.foldl fetchStart s).jobs = s.jobs := by
  induction l with
  | nil => intro s; rfl
  | cons n r ih => intro s; exact (ih _).trans (fetchStart_jobs s n)
@[simp] theorem foldFetch_heldJobs (l : List Nat) : ∀ s : State, (l.foldl fetchStart s).heldJobs = s.heldJobs := by
  induction l with
  | nil => intro s; rfl
  | cons n r ih => intro s; exact (ih _).trans (fetchStart_heldJobs s n)
@[simp] theorem foldFetch_sched (l : List Nat) : ∀ s : State, (l.foldl fetchStart s).sched = s.sched := by
  induction l with
  | nil => intro s; rfl
  | cons n r ih => intro s; exact (ih _).trans (fetchStart_sched s n)
@[simp] theorem foldFetch_manifests (l : List Nat) : ∀ s : State, (l.foldl fetchStart s).manifests = s.manifests := by
  induction l with
  | nil => intro s; rfl
  | cons n r ih => intro s; exact (ih _).trans (fetchStart_manifests s n)
@[simp] theorem foldFetch_nextManifest (l : List Nat) : ∀ s : State, (l.foldl fetchStart s).nextManifest = s.nextManifest := by
  induction l with
  | nil => intro s; rfl
  | cons n r ih => intro s; exact (ih _).trans (fetchStart_nextManifest s n)
@[simp] theorem foldFetch_sealEngines (l : List Nat) : ∀ s : State, (l.foldl fetchStart s).sealEngines = s.sealEngines := by
  induction l with
  | nil => intro s; rfl
  | cons n r ih => intro s; exact (ih _).trans (fetchStart_sealEngines s n)
@[simp] theorem foldFetch_digests (l : List Nat) : ∀ s : State, (l.foldl fetchStart s).digests = s.digests := by
  induction l with
  | nil => intro s; rfl
  | cons n r ih => intro s; exact (ih _).trans (fetchStart_digests s n)
@[simp] theorem foldFetch_meas (l : List Nat) : ∀ s : State, (l.foldl fetchStart s).meas = s.meas := by
  induction l with
  | nil => intro s; rfl
  | cons n r ih => intro s; exact (ih _).trans (fetchStart_meas s n)
@[simp] theorem foldFetch_measLog (l : List Nat) : ∀ s : State, (l.foldl fetchStart s).measLog = s.measLog := by
  induction l with
  | nil => intro s; rfl
  | cons n r ih => intro s; exact (ih _).trans (fetchStart_measLog s n)
@[simp] theorem foldFetch_measNext (l : List Nat) : ∀ s : State, (l.foldl fetchStart s).measNext = s.measNext := by
  induction l with
  | nil => intro s; rfl
  | cons n r ih => intro s; exact (ih _).trans (fetchStart_measNext s n)
@[simp] theorem foldFetch_measOverflow (l : List Nat) : ∀ s : State, (l.foldl fetchStart s).measOverflow = s.measOverflow := by
  induction l with
  | nil => intro s; rfl
  | cons n r ih => intro s; exact (ih _).trans (fetchStart_measOverflow s n)
@[simp] theorem foldFetch_truncOffered (l : List Nat) : ∀ s : State, (l.foldl fetchStart s).truncOffered = s.truncOffered := by
  induction l with
  | nil => intro s; rfl
  | cons n r ih => intro s; exact (ih _).trans (fetchStart_truncOffered s n)
@[simp] theorem foldFetch_slots (l : List Nat) : ∀ s : State, (l.foldl fetchStart s).slots = s.slots := by
  induction l with
  | nil => intro s; rfl
  | cons n r ih => intro s; exact (ih _).trans (fetchStart_slots s n)
@[simp] theorem foldFetch_pufSecret (l : List Nat) : ∀ s : State, (l.foldl fetchStart s).pufSecret = s.pufSecret := by
  induction l with
  | nil => intro s; rfl
  | cons n r ih => intro s; exact (ih _).trans (fetchStart_pufSecret s n)
@[simp] theorem foldFetch_keyed (l : List Nat) : ∀ s : State, (l.foldl fetchStart s).keyed = s.keyed := by
  induction l with
  | nil => intro s; rfl
  | cons n r ih => intro s; exact (ih _).trans (fetchStart_keyed s n)
@[simp] theorem foldFetch_cdk (l : List Nat) : ∀ s : State, (l.foldl fetchStart s).cdk = s.cdk := by
  induction l with
  | nil => intro s; rfl
  | cons n r ih => intro s; exact (ih _).trans (fetchStart_cdk s n)
@[simp] theorem foldFetch_zeroised (l : List Nat) : ∀ s : State, (l.foldl fetchStart s).zeroised = s.zeroised := by
  induction l with
  | nil => intro s; rfl
  | cons n r ih => intro s; exact (ih _).trans (fetchStart_zeroised s n)
@[simp] theorem foldFetch_agate (l : List Nat) : ∀ s : State, (l.foldl fetchStart s).agate = s.agate := by
  induction l with
  | nil => intro s; rfl
  | cons n r ih => intro s; exact (ih _).trans (fetchStart_agate s n)
@[simp] theorem foldFetch_arith (l : List Nat) : ∀ s : State, (l.foldl fetchStart s).arith = s.arith := by
  induction l with
  | nil => intro s; rfl
  | cons n r ih => intro s; exact (ih _).trans (fetchStart_arith s n)
@[simp] theorem foldFetch_sources (l : List Nat) : ∀ s : State, (l.foldl fetchStart s).sources = s.sources := by
  induction l with
  | nil => intro s; rfl
  | cons n r ih => intro s; exact (ih _).trans (fetchStart_sources s n)
@[simp] theorem foldFetch_entropy (l : List Nat) : ∀ s : State, (l.foldl fetchStart s).entropy = s.entropy := by
  induction l with
  | nil => intro s; rfl
  | cons n r ih => intro s; exact (ih _).trans (fetchStart_entropy s n)
@[simp] theorem foldFetch_filling (l : List Nat) : ∀ s : State, (l.foldl fetchStart s).filling = s.filling := by
  induction l with
  | nil => intro s; rfl
  | cons n r ih => intro s; exact (ih _).trans (fetchStart_filling s n)
@[simp] theorem foldFetch_lfsr (l : List Nat) : ∀ s : State, (l.foldl fetchStart s).lfsr = s.lfsr := by
  induction l with
  | nil => intro s; rfl
  | cons n r ih => intro s; exact (ih _).trans (fetchStart_lfsr s n)
@[simp] theorem foldFetch_drbgs (l : List Nat) : ∀ s : State, (l.foldl fetchStart s).drbgs = s.drbgs := by
  induction l with
  | nil => intro s; rfl
  | cons n r ih => intro s; exact (ih _).trans (fetchStart_drbgs s n)
@[simp] theorem foldFetch_tenants (l : List Nat) : ∀ s : State, (l.foldl fetchStart s).tenants = s.tenants := by
  induction l with
  | nil => intro s; rfl
  | cons n r ih => intro s; exact (ih _).trans (fetchStart_tenants s n)
@[simp] theorem foldFetch_cfg (l : List Nat) : ∀ s : State, (l.foldl fetchStart s).cfg = s.cfg := by
  induction l with
  | nil => intro s; rfl
  | cons n r ih => intro s; exact (ih _).trans (fetchStart_cfg s n)
@[simp] theorem foldFetch_moon (l : List Nat) : ∀ s : State, (l.foldl fetchStart s).moon = s.moon := by
  induction l with
  | nil => intro s; rfl
  | cons n r ih => intro s; exact (ih _).trans (fetchStart_moon s n)
@[simp] theorem foldFetch_fuses (l : List Nat) : ∀ s : State, (l.foldl fetchStart s).fuses = s.fuses := by
  induction l with
  | nil => intro s; rfl
  | cons n r ih => intro s; exact (ih _).trans (fetchStart_fuses s n)
@[simp] theorem foldFetch_boot (l : List Nat) : ∀ s : State, (l.foldl fetchStart s).boot = s.boot := by
  induction l with
  | nil => intro s; rfl
  | cons n r ih => intro s; exact (ih _).trans (fetchStart_boot s n)
@[simp] theorem foldFetch_lcs (l : List Nat) : ∀ s : State, (l.foldl fetchStart s).lcs = s.lcs := by
  induction l with
  | nil => intro s; rfl
  | cons n r ih => intro s; exact (ih _).trans (fetchStart_lcs s n)
@[simp] theorem foldFetch_tamper (l : List Nat) : ∀ s : State, (l.foldl fetchStart s).tamper = s.tamper := by
  induction l with
  | nil => intro s; rfl
  | cons n r ih => intro s; exact (ih _).trans (fetchStart_tamper s n)
@[simp] theorem foldFetch_pins (l : List Nat) : ∀ s : State, (l.foldl fetchStart s).pins = s.pins := by
  induction l with
  | nil => intro s; rfl
  | cons n r ih => intro s; exact (ih _).trans (fetchStart_pins s n)
@[simp] theorem foldFetch_wards (l : List Nat) : ∀ s : State, (l.foldl fetchStart s).wards = s.wards := by
  induction l with
  | nil => intro s; rfl
  | cons n r ih => intro s; exact (ih _).trans (fetchStart_wards s n)
@[simp] theorem foldFetch_tkn (l : List Nat) : ∀ s : State, (l.foldl fetchStart s).tkn = s.tkn := by
  induction l with
  | nil => intro s; rfl
  | cons n r ih => intro s; exact (ih _).trans (fetchStart_tkn s n)
@[simp] theorem foldFetch_internalDone (l : List Nat) : ∀ s : State, (l.foldl fetchStart s).internalDone = s.internalDone := by
  induction l with
  | nil => intro s; rfl
  | cons n r ih => intro s; exact (ih _).trans (fetchStart_internalDone s n)
@[simp] theorem foldFetch_recorder (l : List Nat) : ∀ s : State, (l.foldl fetchStart s).recorder = s.recorder := by
  induction l with
  | nil => intro s; rfl
  | cons n r ih => intro s; exact (ih _).trans (fetchStart_recorder s n)
@[simp] theorem foldFetch_amber (l : List Nat) : ∀ s : State, (l.foldl fetchStart s).amber = s.amber := by
  induction l with
  | nil => intro s; rfl
  | cons n r ih => intro s; exact (ih _).trans (fetchStart_amber s n)
@[simp] theorem foldFetch_links (l : List Nat) : ∀ s : State, (l.foldl fetchStart s).links = s.links := by
  induction l with
  | nil => intro s; rfl
  | cons n r ih => intro s; exact (ih _).trans (fetchStart_links s n)
@[simp] theorem foldFetch_fabric (l : List Nat) : ∀ s : State, (l.foldl fetchStart s).fabric = s.fabric := by
  induction l with
  | nil => intro s; rfl
  | cons n r ih => intro s; exact (ih _).trans (fetchStart_fabric s n)
@[simp] theorem foldFetch_nor (l : List Nat) : ∀ s : State, (l.foldl fetchStart s).nor = s.nor := by
  induction l with
  | nil => intro s; rfl
  | cons n r ih => intro s; exact (ih _).trans (fetchStart_nor s n)
@[simp] theorem foldFetch_mem (l : List Nat) : ∀ s : State, (l.foldl fetchStart s).mem = s.mem := by
  induction l with
  | nil => intro s; rfl
  | cons n r ih => intro s; exact (ih _).trans (fetchStart_mem s n)
@[simp] theorem foldFetch_quartz (l : List Nat) : ∀ s : State, (l.foldl fetchStart s).quartz = s.quartz := by
  induction l with
  | nil => intro s; rfl
  | cons n r ih => intro s; exact (ih _).trans (fetchStart_quartz s n)
@[simp] theorem foldFetch_regs (l : List Nat) : ∀ s : State, (l.foldl fetchStart s).regs = s.regs := by
  induction l with
  | nil => intro s; rfl
  | cons n r ih => intro s; exact (ih _).trans (fetchStart_regs s n)
@[simp] theorem foldFetch_freeIdx (l : List Nat) : ∀ s : State, (l.foldl fetchStart s).freeIdx = s.freeIdx := by
  induction l with
  | nil => intro s; rfl
  | cons n r ih => intro s; exact (ih _).trans (fetchStart_freeIdx s n)
@[simp] theorem foldFetch_pending (l : List Nat) : ∀ s : State, (l.foldl fetchStart s).pending = s.pending := by
  induction l with
  | nil => intro s; rfl
  | cons n r ih => intro s; exact (ih _).trans (fetchStart_pending s n)

/-! ### fetchAll -/

@[simp] theorem fetchAll_clk (s : State) : (fetchAll s).clk = s.clk := by
  unfold fetchAll; (repeat' split) <;> (simp; done)
@[simp] theorem fetchAll_mode (s : State) : (fetchAll s).mode = s.mode := by
  unfold fetchAll; (repeat' split) <;> (simp; done)
@[simp] theorem fetchAll_portA (s : State) : (fetchAll s).portA = s.portA := by
  unfold fetchAll; (repeat' split) <;> (simp; done)
@[simp] theorem fetchAll_portB (s : State) : (fetchAll s).portB = s.portB := by
  unfold fetchAll; (repeat' split) <;> (simp; done)
@[simp] theorem fetchAll_jobs (s : State) : (fetchAll s).jobs = s.jobs := by
  unfold fetchAll; (repeat' split) <;> (simp; done)
@[simp] theorem fetchAll_heldJobs (s : State) : (fetchAll s).heldJobs = s.heldJobs := by
  unfold fetchAll; (repeat' split) <;> (simp; done)
@[simp] theorem fetchAll_sched (s : State) : (fetchAll s).sched = s.sched := by
  unfold fetchAll; (repeat' split) <;> (simp; done)
@[simp] theorem fetchAll_manifests (s : State) : (fetchAll s).manifests = s.manifests := by
  unfold fetchAll; (repeat' split) <;> (simp; done)
@[simp] theorem fetchAll_nextManifest (s : State) : (fetchAll s).nextManifest = s.nextManifest := by
  unfold fetchAll; (repeat' split) <;> (simp; done)
@[simp] theorem fetchAll_sealEngines (s : State) : (fetchAll s).sealEngines = s.sealEngines := by
  unfold fetchAll; (repeat' split) <;> (simp; done)
@[simp] theorem fetchAll_digests (s : State) : (fetchAll s).digests = s.digests := by
  unfold fetchAll; (repeat' split) <;> (simp; done)
@[simp] theorem fetchAll_meas (s : State) : (fetchAll s).meas = s.meas := by
  unfold fetchAll; (repeat' split) <;> (simp; done)
@[simp] theorem fetchAll_measLog (s : State) : (fetchAll s).measLog = s.measLog := by
  unfold fetchAll; (repeat' split) <;> (simp; done)
@[simp] theorem fetchAll_measNext (s : State) : (fetchAll s).measNext = s.measNext := by
  unfold fetchAll; (repeat' split) <;> (simp; done)
@[simp] theorem fetchAll_measOverflow (s : State) : (fetchAll s).measOverflow = s.measOverflow := by
  unfold fetchAll; (repeat' split) <;> (simp; done)
@[simp] theorem fetchAll_truncOffered (s : State) : (fetchAll s).truncOffered = s.truncOffered := by
  unfold fetchAll; (repeat' split) <;> (simp; done)
@[simp] theorem fetchAll_slots (s : State) : (fetchAll s).slots = s.slots := by
  unfold fetchAll; (repeat' split) <;> (simp; done)
@[simp] theorem fetchAll_pufSecret (s : State) : (fetchAll s).pufSecret = s.pufSecret := by
  unfold fetchAll; (repeat' split) <;> (simp; done)
@[simp] theorem fetchAll_keyed (s : State) : (fetchAll s).keyed = s.keyed := by
  unfold fetchAll; (repeat' split) <;> (simp; done)
@[simp] theorem fetchAll_cdk (s : State) : (fetchAll s).cdk = s.cdk := by
  unfold fetchAll; (repeat' split) <;> (simp; done)
@[simp] theorem fetchAll_zeroised (s : State) : (fetchAll s).zeroised = s.zeroised := by
  unfold fetchAll; (repeat' split) <;> (simp; done)
@[simp] theorem fetchAll_agate (s : State) : (fetchAll s).agate = s.agate := by
  unfold fetchAll; (repeat' split) <;> (simp; done)
@[simp] theorem fetchAll_arith (s : State) : (fetchAll s).arith = s.arith := by
  unfold fetchAll; (repeat' split) <;> (simp; done)
@[simp] theorem fetchAll_sources (s : State) : (fetchAll s).sources = s.sources := by
  unfold fetchAll; (repeat' split) <;> (simp; done)
@[simp] theorem fetchAll_entropy (s : State) : (fetchAll s).entropy = s.entropy := by
  unfold fetchAll; (repeat' split) <;> (simp; done)
@[simp] theorem fetchAll_filling (s : State) : (fetchAll s).filling = s.filling := by
  unfold fetchAll; (repeat' split) <;> (simp; done)
@[simp] theorem fetchAll_lfsr (s : State) : (fetchAll s).lfsr = s.lfsr := by
  unfold fetchAll; (repeat' split) <;> (simp; done)
@[simp] theorem fetchAll_drbgs (s : State) : (fetchAll s).drbgs = s.drbgs := by
  unfold fetchAll; (repeat' split) <;> (simp; done)
@[simp] theorem fetchAll_tenants (s : State) : (fetchAll s).tenants = s.tenants := by
  unfold fetchAll; (repeat' split) <;> (simp; done)
@[simp] theorem fetchAll_cfg (s : State) : (fetchAll s).cfg = s.cfg := by
  unfold fetchAll; (repeat' split) <;> (simp; done)
@[simp] theorem fetchAll_moon (s : State) : (fetchAll s).moon = s.moon := by
  unfold fetchAll; (repeat' split) <;> (simp; done)
@[simp] theorem fetchAll_fuses (s : State) : (fetchAll s).fuses = s.fuses := by
  unfold fetchAll; (repeat' split) <;> (simp; done)
@[simp] theorem fetchAll_boot (s : State) : (fetchAll s).boot = s.boot := by
  unfold fetchAll; (repeat' split) <;> (simp; done)
@[simp] theorem fetchAll_lcs (s : State) : (fetchAll s).lcs = s.lcs := by
  unfold fetchAll; (repeat' split) <;> (simp; done)
@[simp] theorem fetchAll_tamper (s : State) : (fetchAll s).tamper = s.tamper := by
  unfold fetchAll; (repeat' split) <;> (simp; done)
@[simp] theorem fetchAll_pins (s : State) : (fetchAll s).pins = s.pins := by
  unfold fetchAll; (repeat' split) <;> (simp; done)
@[simp] theorem fetchAll_wards (s : State) : (fetchAll s).wards = s.wards := by
  unfold fetchAll; (repeat' split) <;> (simp; done)
@[simp] theorem fetchAll_tkn (s : State) : (fetchAll s).tkn = s.tkn := by
  unfold fetchAll; (repeat' split) <;> (simp; done)
@[simp] theorem fetchAll_internalDone (s : State) : (fetchAll s).internalDone = s.internalDone := by
  unfold fetchAll; (repeat' split) <;> (simp; done)
@[simp] theorem fetchAll_recorder (s : State) : (fetchAll s).recorder = s.recorder := by
  unfold fetchAll; (repeat' split) <;> (simp; done)
@[simp] theorem fetchAll_amber (s : State) : (fetchAll s).amber = s.amber := by
  unfold fetchAll; (repeat' split) <;> (simp; done)
@[simp] theorem fetchAll_links (s : State) : (fetchAll s).links = s.links := by
  unfold fetchAll; (repeat' split) <;> (simp; done)
@[simp] theorem fetchAll_fabric (s : State) : (fetchAll s).fabric = s.fabric := by
  unfold fetchAll; (repeat' split) <;> (simp; done)
@[simp] theorem fetchAll_nor (s : State) : (fetchAll s).nor = s.nor := by
  unfold fetchAll; (repeat' split) <;> (simp; done)
@[simp] theorem fetchAll_mem (s : State) : (fetchAll s).mem = s.mem := by
  unfold fetchAll; (repeat' split) <;> (simp; done)
@[simp] theorem fetchAll_quartz (s : State) : (fetchAll s).quartz = s.quartz := by
  unfold fetchAll; (repeat' split) <;> (simp; done)
@[simp] theorem fetchAll_regs (s : State) : (fetchAll s).regs = s.regs := by
  unfold fetchAll; (repeat' split) <;> (simp; done)
@[simp] theorem fetchAll_freeIdx (s : State) : (fetchAll s).freeIdx = s.freeIdx := by
  unfold fetchAll; (repeat' split) <;> (simp; done)
@[simp] theorem fetchAll_pending (s : State) : (fetchAll s).pending = s.pending := by
  unfold fetchAll; (repeat' split) <;> (simp; done)

/-! ### mailboxDone -/

@[simp] theorem mailboxDone_clk (s : State) (b : BindId) (st : Nat) (res : Bytes) (appr : Bool) : (mailboxDone s b st res appr).clk = s.clk := by
  unfold mailboxDone; dsimp only; (repeat' split) <;> (simp; done)
@[simp] theorem mailboxDone_mode (s : State) (b : BindId) (st : Nat) (res : Bytes) (appr : Bool) : (mailboxDone s b st res appr).mode = s.mode := by
  unfold mailboxDone; dsimp only; (repeat' split) <;> (simp; done)
@[simp] theorem mailboxDone_jobs (s : State) (b : BindId) (st : Nat) (res : Bytes) (appr : Bool) : (mailboxDone s b st res appr).jobs = s.jobs := by
  unfold mailboxDone; dsimp only; (repeat' split) <;> (simp; done)
@[simp] theorem mailboxDone_heldJobs (s : State) (b : BindId) (st : Nat) (res : Bytes) (appr : Bool) : (mailboxDone s b st res appr).heldJobs = s.heldJobs := by
  unfold mailboxDone; dsimp only; (repeat' split) <;> (simp; done)
@[simp] theorem mailboxDone_qps (s : State) (b : BindId) (st : Nat) (res : Bytes) (appr : Bool) : (mailboxDone s b st res appr).qps = s.qps := by
  unfold mailboxDone; dsimp only; (repeat' split) <;> (simp; done)
@[simp] theorem mailboxDone_sched (s : State) (b : BindId) (st : Nat) (res : Bytes) (appr : Bool) : (mailboxDone s b st res appr).sched = s.sched := by
  unfold mailboxDone; dsimp only; (repeat' split) <;> (simp; done)
@[simp] theorem mailboxDone_manifests (s : State) (b : BindId) (st : Nat) (res : Bytes) (appr : Bool) : (mailboxDone s b st res appr).manifests = s.manifests := by
  unfold mailboxDone; dsimp only; (repeat' split) <;> (simp; done)
@[simp] theorem mailboxDone_nextManifest (s : State) (b : BindId) (st : Nat) (res : Bytes) (appr : Bool) : (mailboxDone s b st res appr).nextManifest = s.nextManifest := by
  unfold mailboxDone; dsimp only; (repeat' split) <;> (simp; done)
@[simp] theorem mailboxDone_sealEngines (s : State) (b : BindId) (st : Nat) (res : Bytes) (appr : Bool) : (mailboxDone s b st res appr).sealEngines = s.sealEngines := by
  unfold mailboxDone; dsimp only; (repeat' split) <;> (simp; done)
@[simp] theorem mailboxDone_digests (s : State) (b : BindId) (st : Nat) (res : Bytes) (appr : Bool) : (mailboxDone s b st res appr).digests = s.digests := by
  unfold mailboxDone; dsimp only; (repeat' split) <;> (simp; done)
@[simp] theorem mailboxDone_meas (s : State) (b : BindId) (st : Nat) (res : Bytes) (appr : Bool) : (mailboxDone s b st res appr).meas = s.meas := by
  unfold mailboxDone; dsimp only; (repeat' split) <;> (simp; done)
@[simp] theorem mailboxDone_measLog (s : State) (b : BindId) (st : Nat) (res : Bytes) (appr : Bool) : (mailboxDone s b st res appr).measLog = s.measLog := by
  unfold mailboxDone; dsimp only; (repeat' split) <;> (simp; done)
@[simp] theorem mailboxDone_measNext (s : State) (b : BindId) (st : Nat) (res : Bytes) (appr : Bool) : (mailboxDone s b st res appr).measNext = s.measNext := by
  unfold mailboxDone; dsimp only; (repeat' split) <;> (simp; done)
@[simp] theorem mailboxDone_measOverflow (s : State) (b : BindId) (st : Nat) (res : Bytes) (appr : Bool) : (mailboxDone s b st res appr).measOverflow = s.measOverflow := by
  unfold mailboxDone; dsimp only; (repeat' split) <;> (simp; done)
@[simp] theorem mailboxDone_truncOffered (s : State) (b : BindId) (st : Nat) (res : Bytes) (appr : Bool) : (mailboxDone s b st res appr).truncOffered = s.truncOffered := by
  unfold mailboxDone; dsimp only; (repeat' split) <;> (simp; done)
@[simp] theorem mailboxDone_slots (s : State) (b : BindId) (st : Nat) (res : Bytes) (appr : Bool) : (mailboxDone s b st res appr).slots = s.slots := by
  unfold mailboxDone; dsimp only; (repeat' split) <;> (simp; done)
@[simp] theorem mailboxDone_pufSecret (s : State) (b : BindId) (st : Nat) (res : Bytes) (appr : Bool) : (mailboxDone s b st res appr).pufSecret = s.pufSecret := by
  unfold mailboxDone; dsimp only; (repeat' split) <;> (simp; done)
@[simp] theorem mailboxDone_keyed (s : State) (b : BindId) (st : Nat) (res : Bytes) (appr : Bool) : (mailboxDone s b st res appr).keyed = s.keyed := by
  unfold mailboxDone; dsimp only; (repeat' split) <;> (simp; done)
@[simp] theorem mailboxDone_cdk (s : State) (b : BindId) (st : Nat) (res : Bytes) (appr : Bool) : (mailboxDone s b st res appr).cdk = s.cdk := by
  unfold mailboxDone; dsimp only; (repeat' split) <;> (simp; done)
@[simp] theorem mailboxDone_zeroised (s : State) (b : BindId) (st : Nat) (res : Bytes) (appr : Bool) : (mailboxDone s b st res appr).zeroised = s.zeroised := by
  unfold mailboxDone; dsimp only; (repeat' split) <;> (simp; done)
@[simp] theorem mailboxDone_agate (s : State) (b : BindId) (st : Nat) (res : Bytes) (appr : Bool) : (mailboxDone s b st res appr).agate = s.agate := by
  unfold mailboxDone; dsimp only; (repeat' split) <;> (simp; done)
@[simp] theorem mailboxDone_arith (s : State) (b : BindId) (st : Nat) (res : Bytes) (appr : Bool) : (mailboxDone s b st res appr).arith = s.arith := by
  unfold mailboxDone; dsimp only; (repeat' split) <;> (simp; done)
@[simp] theorem mailboxDone_sources (s : State) (b : BindId) (st : Nat) (res : Bytes) (appr : Bool) : (mailboxDone s b st res appr).sources = s.sources := by
  unfold mailboxDone; dsimp only; (repeat' split) <;> (simp; done)
@[simp] theorem mailboxDone_entropy (s : State) (b : BindId) (st : Nat) (res : Bytes) (appr : Bool) : (mailboxDone s b st res appr).entropy = s.entropy := by
  unfold mailboxDone; dsimp only; (repeat' split) <;> (simp; done)
@[simp] theorem mailboxDone_filling (s : State) (b : BindId) (st : Nat) (res : Bytes) (appr : Bool) : (mailboxDone s b st res appr).filling = s.filling := by
  unfold mailboxDone; dsimp only; (repeat' split) <;> (simp; done)
@[simp] theorem mailboxDone_lfsr (s : State) (b : BindId) (st : Nat) (res : Bytes) (appr : Bool) : (mailboxDone s b st res appr).lfsr = s.lfsr := by
  unfold mailboxDone; dsimp only; (repeat' split) <;> (simp; done)
@[simp] theorem mailboxDone_drbgs (s : State) (b : BindId) (st : Nat) (res : Bytes) (appr : Bool) : (mailboxDone s b st res appr).drbgs = s.drbgs := by
  unfold mailboxDone; dsimp only; (repeat' split) <;> (simp; done)
@[simp] theorem mailboxDone_tenants (s : State) (b : BindId) (st : Nat) (res : Bytes) (appr : Bool) : (mailboxDone s b st res appr).tenants = s.tenants := by
  unfold mailboxDone; dsimp only; (repeat' split) <;> (simp; done)
@[simp] theorem mailboxDone_cfg (s : State) (b : BindId) (st : Nat) (res : Bytes) (appr : Bool) : (mailboxDone s b st res appr).cfg = s.cfg := by
  unfold mailboxDone; dsimp only; (repeat' split) <;> (simp; done)
@[simp] theorem mailboxDone_fuses (s : State) (b : BindId) (st : Nat) (res : Bytes) (appr : Bool) : (mailboxDone s b st res appr).fuses = s.fuses := by
  unfold mailboxDone; dsimp only; (repeat' split) <;> (simp; done)
@[simp] theorem mailboxDone_boot (s : State) (b : BindId) (st : Nat) (res : Bytes) (appr : Bool) : (mailboxDone s b st res appr).boot = s.boot := by
  unfold mailboxDone; dsimp only; (repeat' split) <;> (simp; done)
@[simp] theorem mailboxDone_lcs (s : State) (b : BindId) (st : Nat) (res : Bytes) (appr : Bool) : (mailboxDone s b st res appr).lcs = s.lcs := by
  unfold mailboxDone; dsimp only; (repeat' split) <;> (simp; done)
@[simp] theorem mailboxDone_tamper (s : State) (b : BindId) (st : Nat) (res : Bytes) (appr : Bool) : (mailboxDone s b st res appr).tamper = s.tamper := by
  unfold mailboxDone; dsimp only; (repeat' split) <;> (simp; done)
@[simp] theorem mailboxDone_pins (s : State) (b : BindId) (st : Nat) (res : Bytes) (appr : Bool) : (mailboxDone s b st res appr).pins = s.pins := by
  unfold mailboxDone; dsimp only; (repeat' split) <;> (simp; done)
@[simp] theorem mailboxDone_wards (s : State) (b : BindId) (st : Nat) (res : Bytes) (appr : Bool) : (mailboxDone s b st res appr).wards = s.wards := by
  unfold mailboxDone; dsimp only; (repeat' split) <;> (simp; done)
@[simp] theorem mailboxDone_tkn (s : State) (b : BindId) (st : Nat) (res : Bytes) (appr : Bool) : (mailboxDone s b st res appr).tkn = s.tkn := by
  unfold mailboxDone; dsimp only; (repeat' split) <;> (simp; done)
@[simp] theorem mailboxDone_internalDone (s : State) (b : BindId) (st : Nat) (res : Bytes) (appr : Bool) : (mailboxDone s b st res appr).internalDone = s.internalDone := by
  unfold mailboxDone; dsimp only; (repeat' split) <;> (simp; done)
@[simp] theorem mailboxDone_recorder (s : State) (b : BindId) (st : Nat) (res : Bytes) (appr : Bool) : (mailboxDone s b st res appr).recorder = s.recorder := by
  unfold mailboxDone; dsimp only; (repeat' split) <;> (simp; done)
@[simp] theorem mailboxDone_links (s : State) (b : BindId) (st : Nat) (res : Bytes) (appr : Bool) : (mailboxDone s b st res appr).links = s.links := by
  unfold mailboxDone; dsimp only; (repeat' split) <;> (simp; done)
@[simp] theorem mailboxDone_fabric (s : State) (b : BindId) (st : Nat) (res : Bytes) (appr : Bool) : (mailboxDone s b st res appr).fabric = s.fabric := by
  unfold mailboxDone; dsimp only; (repeat' split) <;> (simp; done)
@[simp] theorem mailboxDone_nor (s : State) (b : BindId) (st : Nat) (res : Bytes) (appr : Bool) : (mailboxDone s b st res appr).nor = s.nor := by
  unfold mailboxDone; dsimp only; (repeat' split) <;> (simp; done)
@[simp] theorem mailboxDone_mem (s : State) (b : BindId) (st : Nat) (res : Bytes) (appr : Bool) : (mailboxDone s b st res appr).mem = s.mem := by
  unfold mailboxDone; dsimp only; (repeat' split) <;> (simp; done)
@[simp] theorem mailboxDone_quartz (s : State) (b : BindId) (st : Nat) (res : Bytes) (appr : Bool) : (mailboxDone s b st res appr).quartz = s.quartz := by
  unfold mailboxDone; dsimp only; (repeat' split) <;> (simp; done)
@[simp] theorem mailboxDone_regs (s : State) (b : BindId) (st : Nat) (res : Bytes) (appr : Bool) : (mailboxDone s b st res appr).regs = s.regs := by
  unfold mailboxDone; dsimp only; (repeat' split) <;> (simp; done)
@[simp] theorem mailboxDone_freeIdx (s : State) (b : BindId) (st : Nat) (res : Bytes) (appr : Bool) : (mailboxDone s b st res appr).freeIdx = s.freeIdx := by
  unfold mailboxDone; dsimp only; (repeat' split) <;> (simp; done)
@[simp] theorem mailboxDone_pending (s : State) (b : BindId) (st : Nat) (res : Bytes) (appr : Bool) : (mailboxDone s b st res appr).pending = s.pending := by
  unfold mailboxDone; dsimp only; (repeat' split) <;> (simp; done)

/-! ### coalesce -/

@[simp] theorem coalesce_clk (s : State) (qpn : Nat) : (coalesce s qpn).clk = s.clk := by
  unfold coalesce; dsimp only; (repeat' split) <;> (simp; done)
@[simp] theorem coalesce_mode (s : State) (qpn : Nat) : (coalesce s qpn).mode = s.mode := by
  unfold coalesce; dsimp only; (repeat' split) <;> (simp; done)
@[simp] theorem coalesce_jobs (s : State) (qpn : Nat) : (coalesce s qpn).jobs = s.jobs := by
  unfold coalesce; dsimp only; (repeat' split) <;> (simp; done)
@[simp] theorem coalesce_heldJobs (s : State) (qpn : Nat) : (coalesce s qpn).heldJobs = s.heldJobs := by
  unfold coalesce; dsimp only; (repeat' split) <;> (simp; done)
@[simp] theorem coalesce_sched (s : State) (qpn : Nat) : (coalesce s qpn).sched = s.sched := by
  unfold coalesce; dsimp only; (repeat' split) <;> (simp; done)
@[simp] theorem coalesce_manifests (s : State) (qpn : Nat) : (coalesce s qpn).manifests = s.manifests := by
  unfold coalesce; dsimp only; (repeat' split) <;> (simp; done)
@[simp] theorem coalesce_nextManifest (s : State) (qpn : Nat) : (coalesce s qpn).nextManifest = s.nextManifest := by
  unfold coalesce; dsimp only; (repeat' split) <;> (simp; done)
@[simp] theorem coalesce_sealEngines (s : State) (qpn : Nat) : (coalesce s qpn).sealEngines = s.sealEngines := by
  unfold coalesce; dsimp only; (repeat' split) <;> (simp; done)
@[simp] theorem coalesce_digests (s : State) (qpn : Nat) : (coalesce s qpn).digests = s.digests := by
  unfold coalesce; dsimp only; (repeat' split) <;> (simp; done)
@[simp] theorem coalesce_meas (s : State) (qpn : Nat) : (coalesce s qpn).meas = s.meas := by
  unfold coalesce; dsimp only; (repeat' split) <;> (simp; done)
@[simp] theorem coalesce_measLog (s : State) (qpn : Nat) : (coalesce s qpn).measLog = s.measLog := by
  unfold coalesce; dsimp only; (repeat' split) <;> (simp; done)
@[simp] theorem coalesce_measNext (s : State) (qpn : Nat) : (coalesce s qpn).measNext = s.measNext := by
  unfold coalesce; dsimp only; (repeat' split) <;> (simp; done)
@[simp] theorem coalesce_measOverflow (s : State) (qpn : Nat) : (coalesce s qpn).measOverflow = s.measOverflow := by
  unfold coalesce; dsimp only; (repeat' split) <;> (simp; done)
@[simp] theorem coalesce_truncOffered (s : State) (qpn : Nat) : (coalesce s qpn).truncOffered = s.truncOffered := by
  unfold coalesce; dsimp only; (repeat' split) <;> (simp; done)
@[simp] theorem coalesce_slots (s : State) (qpn : Nat) : (coalesce s qpn).slots = s.slots := by
  unfold coalesce; dsimp only; (repeat' split) <;> (simp; done)
@[simp] theorem coalesce_pufSecret (s : State) (qpn : Nat) : (coalesce s qpn).pufSecret = s.pufSecret := by
  unfold coalesce; dsimp only; (repeat' split) <;> (simp; done)
@[simp] theorem coalesce_keyed (s : State) (qpn : Nat) : (coalesce s qpn).keyed = s.keyed := by
  unfold coalesce; dsimp only; (repeat' split) <;> (simp; done)
@[simp] theorem coalesce_cdk (s : State) (qpn : Nat) : (coalesce s qpn).cdk = s.cdk := by
  unfold coalesce; dsimp only; (repeat' split) <;> (simp; done)
@[simp] theorem coalesce_zeroised (s : State) (qpn : Nat) : (coalesce s qpn).zeroised = s.zeroised := by
  unfold coalesce; dsimp only; (repeat' split) <;> (simp; done)
@[simp] theorem coalesce_agate (s : State) (qpn : Nat) : (coalesce s qpn).agate = s.agate := by
  unfold coalesce; dsimp only; (repeat' split) <;> (simp; done)
@[simp] theorem coalesce_arith (s : State) (qpn : Nat) : (coalesce s qpn).arith = s.arith := by
  unfold coalesce; dsimp only; (repeat' split) <;> (simp; done)
@[simp] theorem coalesce_sources (s : State) (qpn : Nat) : (coalesce s qpn).sources = s.sources := by
  unfold coalesce; dsimp only; (repeat' split) <;> (simp; done)
@[simp] theorem coalesce_entropy (s : State) (qpn : Nat) : (coalesce s qpn).entropy = s.entropy := by
  unfold coalesce; dsimp only; (repeat' split) <;> (simp; done)
@[simp] theorem coalesce_filling (s : State) (qpn : Nat) : (coalesce s qpn).filling = s.filling := by
  unfold coalesce; dsimp only; (repeat' split) <;> (simp; done)
@[simp] theorem coalesce_lfsr (s : State) (qpn : Nat) : (coalesce s qpn).lfsr = s.lfsr := by
  unfold coalesce; dsimp only; (repeat' split) <;> (simp; done)
@[simp] theorem coalesce_drbgs (s : State) (qpn : Nat) : (coalesce s qpn).drbgs = s.drbgs := by
  unfold coalesce; dsimp only; (repeat' split) <;> (simp; done)
@[simp] theorem coalesce_tenants (s : State) (qpn : Nat) : (coalesce s qpn).tenants = s.tenants := by
  unfold coalesce; dsimp only; (repeat' split) <;> (simp; done)
@[simp] theorem coalesce_cfg (s : State) (qpn : Nat) : (coalesce s qpn).cfg = s.cfg := by
  unfold coalesce; dsimp only; (repeat' split) <;> (simp; done)
@[simp] theorem coalesce_fuses (s : State) (qpn : Nat) : (coalesce s qpn).fuses = s.fuses := by
  unfold coalesce; dsimp only; (repeat' split) <;> (simp; done)
@[simp] theorem coalesce_boot (s : State) (qpn : Nat) : (coalesce s qpn).boot = s.boot := by
  unfold coalesce; dsimp only; (repeat' split) <;> (simp; done)
@[simp] theorem coalesce_lcs (s : State) (qpn : Nat) : (coalesce s qpn).lcs = s.lcs := by
  unfold coalesce; dsimp only; (repeat' split) <;> (simp; done)
@[simp] theorem coalesce_tamper (s : State) (qpn : Nat) : (coalesce s qpn).tamper = s.tamper := by
  unfold coalesce; dsimp only; (repeat' split) <;> (simp; done)
@[simp] theorem coalesce_pins (s : State) (qpn : Nat) : (coalesce s qpn).pins = s.pins := by
  unfold coalesce; dsimp only; (repeat' split) <;> (simp; done)
@[simp] theorem coalesce_wards (s : State) (qpn : Nat) : (coalesce s qpn).wards = s.wards := by
  unfold coalesce; dsimp only; (repeat' split) <;> (simp; done)
@[simp] theorem coalesce_tkn (s : State) (qpn : Nat) : (coalesce s qpn).tkn = s.tkn := by
  unfold coalesce; dsimp only; (repeat' split) <;> (simp; done)
@[simp] theorem coalesce_internalDone (s : State) (qpn : Nat) : (coalesce s qpn).internalDone = s.internalDone := by
  unfold coalesce; dsimp only; (repeat' split) <;> (simp; done)
@[simp] theorem coalesce_recorder (s : State) (qpn : Nat) : (coalesce s qpn).recorder = s.recorder := by
  unfold coalesce; dsimp only; (repeat' split) <;> (simp; done)
@[simp] theorem coalesce_links (s : State) (qpn : Nat) : (coalesce s qpn).links = s.links := by
  unfold coalesce; dsimp only; (repeat' split) <;> (simp; done)
@[simp] theorem coalesce_fabric (s : State) (qpn : Nat) : (coalesce s qpn).fabric = s.fabric := by
  unfold coalesce; dsimp only; (repeat' split) <;> (simp; done)
@[simp] theorem coalesce_nor (s : State) (qpn : Nat) : (coalesce s qpn).nor = s.nor := by
  unfold coalesce; dsimp only; (repeat' split) <;> (simp; done)
@[simp] theorem coalesce_mem (s : State) (qpn : Nat) : (coalesce s qpn).mem = s.mem := by
  unfold coalesce; dsimp only; (repeat' split) <;> (simp; done)
@[simp] theorem coalesce_quartz (s : State) (qpn : Nat) : (coalesce s qpn).quartz = s.quartz := by
  unfold coalesce; dsimp only; (repeat' split) <;> (simp; done)
@[simp] theorem coalesce_regs (s : State) (qpn : Nat) : (coalesce s qpn).regs = s.regs := by
  unfold coalesce; dsimp only; (repeat' split) <;> (simp; done)
@[simp] theorem coalesce_freeIdx (s : State) (qpn : Nat) : (coalesce s qpn).freeIdx = s.freeIdx := by
  unfold coalesce; dsimp only; (repeat' split) <;> (simp; done)
@[simp] theorem coalesce_pending (s : State) (qpn : Nat) : (coalesce s qpn).pending = s.pending := by
  unfold coalesce; dsimp only; (repeat' split) <;> (simp; done)

/-! ### dmdStats -/

@[simp] theorem dmdStats_clk (s : State) (qpn : Nat) (j : Job) : (dmdStats s qpn j).clk = s.clk := by
  unfold dmdStats; dsimp only; (repeat' split) <;> (simp; done)
@[simp] theorem dmdStats_mode (s : State) (qpn : Nat) (j : Job) : (dmdStats s qpn j).mode = s.mode := by
  unfold dmdStats; dsimp only; (repeat' split) <;> (simp; done)
@[simp] theorem dmdStats_portA (s : State) (qpn : Nat) (j : Job) : (dmdStats s qpn j).portA = s.portA := by
  unfold dmdStats; dsimp only; (repeat' split) <;> (simp; done)
@[simp] theorem dmdStats_portB (s : State) (qpn : Nat) (j : Job) : (dmdStats s qpn j).portB = s.portB := by
  unfold dmdStats; dsimp only; (repeat' split) <;> (simp; done)
@[simp] theorem dmdStats_jobs (s : State) (qpn : Nat) (j : Job) : (dmdStats s qpn j).jobs = s.jobs := by
  unfold dmdStats; dsimp only; (repeat' split) <;> (simp; done)
@[simp] theorem dmdStats_heldJobs (s : State) (qpn : Nat) (j : Job) : (dmdStats s qpn j).heldJobs = s.heldJobs := by
  unfold dmdStats; dsimp only; (repeat' split) <;> (simp; done)
@[simp] theorem dmdStats_qps (s : State) (qpn : Nat) (j : Job) : (dmdStats s qpn j).qps = s.qps := by
  unfold dmdStats; dsimp only; (repeat' split) <;> (simp; done)
@[simp] theorem dmdStats_sched (s : State) (qpn : Nat) (j : Job) : (dmdStats s qpn j).sched = s.sched := by
  unfold dmdStats; dsimp only; (repeat' split) <;> (simp; done)
@[simp] theorem dmdStats_manifests (s : State) (qpn : Nat) (j : Job) : (dmdStats s qpn j).manifests = s.manifests := by
  unfold dmdStats; dsimp only; (repeat' split) <;> (simp; done)
@[simp] theorem dmdStats_nextManifest (s : State) (qpn : Nat) (j : Job) : (dmdStats s qpn j).nextManifest = s.nextManifest := by
  unfold dmdStats; dsimp only; (repeat' split) <;> (simp; done)
@[simp] theorem dmdStats_sealEngines (s : State) (qpn : Nat) (j : Job) : (dmdStats s qpn j).sealEngines = s.sealEngines := by
  unfold dmdStats; dsimp only; (repeat' split) <;> (simp; done)
@[simp] theorem dmdStats_digests (s : State) (qpn : Nat) (j : Job) : (dmdStats s qpn j).digests = s.digests := by
  unfold dmdStats; dsimp only; (repeat' split) <;> (simp; done)
@[simp] theorem dmdStats_meas (s : State) (qpn : Nat) (j : Job) : (dmdStats s qpn j).meas = s.meas := by
  unfold dmdStats; dsimp only; (repeat' split) <;> (simp; done)
@[simp] theorem dmdStats_measLog (s : State) (qpn : Nat) (j : Job) : (dmdStats s qpn j).measLog = s.measLog := by
  unfold dmdStats; dsimp only; (repeat' split) <;> (simp; done)
@[simp] theorem dmdStats_measNext (s : State) (qpn : Nat) (j : Job) : (dmdStats s qpn j).measNext = s.measNext := by
  unfold dmdStats; dsimp only; (repeat' split) <;> (simp; done)
@[simp] theorem dmdStats_measOverflow (s : State) (qpn : Nat) (j : Job) : (dmdStats s qpn j).measOverflow = s.measOverflow := by
  unfold dmdStats; dsimp only; (repeat' split) <;> (simp; done)
@[simp] theorem dmdStats_truncOffered (s : State) (qpn : Nat) (j : Job) : (dmdStats s qpn j).truncOffered = s.truncOffered := by
  unfold dmdStats; dsimp only; (repeat' split) <;> (simp; done)
@[simp] theorem dmdStats_slots (s : State) (qpn : Nat) (j : Job) : (dmdStats s qpn j).slots = s.slots := by
  unfold dmdStats; dsimp only; (repeat' split) <;> (simp; done)
@[simp] theorem dmdStats_pufSecret (s : State) (qpn : Nat) (j : Job) : (dmdStats s qpn j).pufSecret = s.pufSecret := by
  unfold dmdStats; dsimp only; (repeat' split) <;> (simp; done)
@[simp] theorem dmdStats_keyed (s : State) (qpn : Nat) (j : Job) : (dmdStats s qpn j).keyed = s.keyed := by
  unfold dmdStats; dsimp only; (repeat' split) <;> (simp; done)
@[simp] theorem dmdStats_cdk (s : State) (qpn : Nat) (j : Job) : (dmdStats s qpn j).cdk = s.cdk := by
  unfold dmdStats; dsimp only; (repeat' split) <;> (simp; done)
@[simp] theorem dmdStats_zeroised (s : State) (qpn : Nat) (j : Job) : (dmdStats s qpn j).zeroised = s.zeroised := by
  unfold dmdStats; dsimp only; (repeat' split) <;> (simp; done)
@[simp] theorem dmdStats_agate (s : State) (qpn : Nat) (j : Job) : (dmdStats s qpn j).agate = s.agate := by
  unfold dmdStats; dsimp only; (repeat' split) <;> (simp; done)
@[simp] theorem dmdStats_arith (s : State) (qpn : Nat) (j : Job) : (dmdStats s qpn j).arith = s.arith := by
  unfold dmdStats; dsimp only; (repeat' split) <;> (simp; done)
@[simp] theorem dmdStats_sources (s : State) (qpn : Nat) (j : Job) : (dmdStats s qpn j).sources = s.sources := by
  unfold dmdStats; dsimp only; (repeat' split) <;> (simp; done)
@[simp] theorem dmdStats_entropy (s : State) (qpn : Nat) (j : Job) : (dmdStats s qpn j).entropy = s.entropy := by
  unfold dmdStats; dsimp only; (repeat' split) <;> (simp; done)
@[simp] theorem dmdStats_filling (s : State) (qpn : Nat) (j : Job) : (dmdStats s qpn j).filling = s.filling := by
  unfold dmdStats; dsimp only; (repeat' split) <;> (simp; done)
@[simp] theorem dmdStats_lfsr (s : State) (qpn : Nat) (j : Job) : (dmdStats s qpn j).lfsr = s.lfsr := by
  unfold dmdStats; dsimp only; (repeat' split) <;> (simp; done)
@[simp] theorem dmdStats_drbgs (s : State) (qpn : Nat) (j : Job) : (dmdStats s qpn j).drbgs = s.drbgs := by
  unfold dmdStats; dsimp only; (repeat' split) <;> (simp; done)
@[simp] theorem dmdStats_tenants (s : State) (qpn : Nat) (j : Job) : (dmdStats s qpn j).tenants = s.tenants := by
  unfold dmdStats; dsimp only; (repeat' split) <;> (simp; done)
@[simp] theorem dmdStats_cfg (s : State) (qpn : Nat) (j : Job) : (dmdStats s qpn j).cfg = s.cfg := by
  unfold dmdStats; dsimp only; (repeat' split) <;> (simp; done)
@[simp] theorem dmdStats_fuses (s : State) (qpn : Nat) (j : Job) : (dmdStats s qpn j).fuses = s.fuses := by
  unfold dmdStats; dsimp only; (repeat' split) <;> (simp; done)
@[simp] theorem dmdStats_boot (s : State) (qpn : Nat) (j : Job) : (dmdStats s qpn j).boot = s.boot := by
  unfold dmdStats; dsimp only; (repeat' split) <;> (simp; done)
@[simp] theorem dmdStats_lcs (s : State) (qpn : Nat) (j : Job) : (dmdStats s qpn j).lcs = s.lcs := by
  unfold dmdStats; dsimp only; (repeat' split) <;> (simp; done)
@[simp] theorem dmdStats_tamper (s : State) (qpn : Nat) (j : Job) : (dmdStats s qpn j).tamper = s.tamper := by
  unfold dmdStats; dsimp only; (repeat' split) <;> (simp; done)
@[simp] theorem dmdStats_pins (s : State) (qpn : Nat) (j : Job) : (dmdStats s qpn j).pins = s.pins := by
  unfold dmdStats; dsimp only; (repeat' split) <;> (simp; done)
@[simp] theorem dmdStats_wards (s : State) (qpn : Nat) (j : Job) : (dmdStats s qpn j).wards = s.wards := by
  unfold dmdStats; dsimp only; (repeat' split) <;> (simp; done)
@[simp] theorem dmdStats_tkn (s : State) (qpn : Nat) (j : Job) : (dmdStats s qpn j).tkn = s.tkn := by
  unfold dmdStats; dsimp only; (repeat' split) <;> (simp; done)
@[simp] theorem dmdStats_internalDone (s : State) (qpn : Nat) (j : Job) : (dmdStats s qpn j).internalDone = s.internalDone := by
  unfold dmdStats; dsimp only; (repeat' split) <;> (simp; done)
@[simp] theorem dmdStats_links (s : State) (qpn : Nat) (j : Job) : (dmdStats s qpn j).links = s.links := by
  unfold dmdStats; dsimp only; (repeat' split) <;> (simp; done)
@[simp] theorem dmdStats_fabric (s : State) (qpn : Nat) (j : Job) : (dmdStats s qpn j).fabric = s.fabric := by
  unfold dmdStats; dsimp only; (repeat' split) <;> (simp; done)
@[simp] theorem dmdStats_nor (s : State) (qpn : Nat) (j : Job) : (dmdStats s qpn j).nor = s.nor := by
  unfold dmdStats; dsimp only; (repeat' split) <;> (simp; done)
@[simp] theorem dmdStats_mem (s : State) (qpn : Nat) (j : Job) : (dmdStats s qpn j).mem = s.mem := by
  unfold dmdStats; dsimp only; (repeat' split) <;> (simp; done)
@[simp] theorem dmdStats_quartz (s : State) (qpn : Nat) (j : Job) : (dmdStats s qpn j).quartz = s.quartz := by
  unfold dmdStats; dsimp only; (repeat' split) <;> (simp; done)
@[simp] theorem dmdStats_out (s : State) (qpn : Nat) (j : Job) : (dmdStats s qpn j).out = s.out := by
  unfold dmdStats; dsimp only; (repeat' split) <;> (simp; done)
@[simp] theorem dmdStats_freeIdx (s : State) (qpn : Nat) (j : Job) : (dmdStats s qpn j).freeIdx = s.freeIdx := by
  unfold dmdStats; dsimp only; (repeat' split) <;> (simp; done)
@[simp] theorem dmdStats_pending (s : State) (qpn : Nat) (j : Job) : (dmdStats s qpn j).pending = s.pending := by
  unfold dmdStats; dsimp only; (repeat' split) <;> (simp; done)

/-! ### postCompletion -/

@[simp] theorem postCompletion_clk (s : State) (qpn : Nat) (j : Job) (st : Nat) (res : Bytes) (resLen : Nat) (appr : Bool) : (postCompletion s qpn j st res resLen appr).clk = s.clk := by
  unfold postCompletion; dsimp only; (repeat' split) <;> (simp; done)
@[simp] theorem postCompletion_mode (s : State) (qpn : Nat) (j : Job) (st : Nat) (res : Bytes) (resLen : Nat) (appr : Bool) : (postCompletion s qpn j st res resLen appr).mode = s.mode := by
  unfold postCompletion; dsimp only; (repeat' split) <;> (simp; done)
@[simp] theorem postCompletion_jobs (s : State) (qpn : Nat) (j : Job) (st : Nat) (res : Bytes) (resLen : Nat) (appr : Bool) : (postCompletion s qpn j st res resLen appr).jobs = s.jobs := by
  unfold postCompletion; dsimp only; (repeat' split) <;> (simp; done)
@[simp] theorem postCompletion_heldJobs (s : State) (qpn : Nat) (j : Job) (st : Nat) (res : Bytes) (resLen : Nat) (appr : Bool) : (postCompletion s qpn j st res resLen appr).heldJobs = s.heldJobs := by
  unfold postCompletion; dsimp only; (repeat' split) <;> (simp; done)
@[simp] theorem postCompletion_sched (s : State) (qpn : Nat) (j : Job) (st : Nat) (res : Bytes) (resLen : Nat) (appr : Bool) : (postCompletion s qpn j st res resLen appr).sched = s.sched := by
  unfold postCompletion; dsimp only; (repeat' split) <;> (simp; done)
@[simp] theorem postCompletion_manifests (s : State) (qpn : Nat) (j : Job) (st : Nat) (res : Bytes) (resLen : Nat) (appr : Bool) : (postCompletion s qpn j st res resLen appr).manifests = s.manifests := by
  unfold postCompletion; dsimp only; (repeat' split) <;> (simp; done)
@[simp] theorem postCompletion_nextManifest (s : State) (qpn : Nat) (j : Job) (st : Nat) (res : Bytes) (resLen : Nat) (appr : Bool) : (postCompletion s qpn j st res resLen appr).nextManifest = s.nextManifest := by
  unfold postCompletion; dsimp only; (repeat' split) <;> (simp; done)
@[simp] theorem postCompletion_sealEngines (s : State) (qpn : Nat) (j : Job) (st : Nat) (res : Bytes) (resLen : Nat) (appr : Bool) : (postCompletion s qpn j st res resLen appr).sealEngines = s.sealEngines := by
  unfold postCompletion; dsimp only; (repeat' split) <;> (simp; done)
@[simp] theorem postCompletion_digests (s : State) (qpn : Nat) (j : Job) (st : Nat) (res : Bytes) (resLen : Nat) (appr : Bool) : (postCompletion s qpn j st res resLen appr).digests = s.digests := by
  unfold postCompletion; dsimp only; (repeat' split) <;> (simp; done)
@[simp] theorem postCompletion_meas (s : State) (qpn : Nat) (j : Job) (st : Nat) (res : Bytes) (resLen : Nat) (appr : Bool) : (postCompletion s qpn j st res resLen appr).meas = s.meas := by
  unfold postCompletion; dsimp only; (repeat' split) <;> (simp; done)
@[simp] theorem postCompletion_measLog (s : State) (qpn : Nat) (j : Job) (st : Nat) (res : Bytes) (resLen : Nat) (appr : Bool) : (postCompletion s qpn j st res resLen appr).measLog = s.measLog := by
  unfold postCompletion; dsimp only; (repeat' split) <;> (simp; done)
@[simp] theorem postCompletion_measNext (s : State) (qpn : Nat) (j : Job) (st : Nat) (res : Bytes) (resLen : Nat) (appr : Bool) : (postCompletion s qpn j st res resLen appr).measNext = s.measNext := by
  unfold postCompletion; dsimp only; (repeat' split) <;> (simp; done)
@[simp] theorem postCompletion_measOverflow (s : State) (qpn : Nat) (j : Job) (st : Nat) (res : Bytes) (resLen : Nat) (appr : Bool) : (postCompletion s qpn j st res resLen appr).measOverflow = s.measOverflow := by
  unfold postCompletion; dsimp only; (repeat' split) <;> (simp; done)
@[simp] theorem postCompletion_truncOffered (s : State) (qpn : Nat) (j : Job) (st : Nat) (res : Bytes) (resLen : Nat) (appr : Bool) : (postCompletion s qpn j st res resLen appr).truncOffered = s.truncOffered := by
  unfold postCompletion; dsimp only; (repeat' split) <;> (simp; done)
@[simp] theorem postCompletion_slots (s : State) (qpn : Nat) (j : Job) (st : Nat) (res : Bytes) (resLen : Nat) (appr : Bool) : (postCompletion s qpn j st res resLen appr).slots = s.slots := by
  unfold postCompletion; dsimp only; (repeat' split) <;> (simp; done)
@[simp] theorem postCompletion_pufSecret (s : State) (qpn : Nat) (j : Job) (st : Nat) (res : Bytes) (resLen : Nat) (appr : Bool) : (postCompletion s qpn j st res resLen appr).pufSecret = s.pufSecret := by
  unfold postCompletion; dsimp only; (repeat' split) <;> (simp; done)
@[simp] theorem postCompletion_keyed (s : State) (qpn : Nat) (j : Job) (st : Nat) (res : Bytes) (resLen : Nat) (appr : Bool) : (postCompletion s qpn j st res resLen appr).keyed = s.keyed := by
  unfold postCompletion; dsimp only; (repeat' split) <;> (simp; done)
@[simp] theorem postCompletion_cdk (s : State) (qpn : Nat) (j : Job) (st : Nat) (res : Bytes) (resLen : Nat) (appr : Bool) : (postCompletion s qpn j st res resLen appr).cdk = s.cdk := by
  unfold postCompletion; dsimp only; (repeat' split) <;> (simp; done)
@[simp] theorem postCompletion_zeroised (s : State) (qpn : Nat) (j : Job) (st : Nat) (res : Bytes) (resLen : Nat) (appr : Bool) : (postCompletion s qpn j st res resLen appr).zeroised = s.zeroised := by
  unfold postCompletion; dsimp only; (repeat' split) <;> (simp; done)
@[simp] theorem postCompletion_agate (s : State) (qpn : Nat) (j : Job) (st : Nat) (res : Bytes) (resLen : Nat) (appr : Bool) : (postCompletion s qpn j st res resLen appr).agate = s.agate := by
  unfold postCompletion; dsimp only; (repeat' split) <;> (simp; done)
@[simp] theorem postCompletion_arith (s : State) (qpn : Nat) (j : Job) (st : Nat) (res : Bytes) (resLen : Nat) (appr : Bool) : (postCompletion s qpn j st res resLen appr).arith = s.arith := by
  unfold postCompletion; dsimp only; (repeat' split) <;> (simp; done)
@[simp] theorem postCompletion_sources (s : State) (qpn : Nat) (j : Job) (st : Nat) (res : Bytes) (resLen : Nat) (appr : Bool) : (postCompletion s qpn j st res resLen appr).sources = s.sources := by
  unfold postCompletion; dsimp only; (repeat' split) <;> (simp; done)
@[simp] theorem postCompletion_entropy (s : State) (qpn : Nat) (j : Job) (st : Nat) (res : Bytes) (resLen : Nat) (appr : Bool) : (postCompletion s qpn j st res resLen appr).entropy = s.entropy := by
  unfold postCompletion; dsimp only; (repeat' split) <;> (simp; done)
@[simp] theorem postCompletion_filling (s : State) (qpn : Nat) (j : Job) (st : Nat) (res : Bytes) (resLen : Nat) (appr : Bool) : (postCompletion s qpn j st res resLen appr).filling = s.filling := by
  unfold postCompletion; dsimp only; (repeat' split) <;> (simp; done)
@[simp] theorem postCompletion_lfsr (s : State) (qpn : Nat) (j : Job) (st : Nat) (res : Bytes) (resLen : Nat) (appr : Bool) : (postCompletion s qpn j st res resLen appr).lfsr = s.lfsr := by
  unfold postCompletion; dsimp only; (repeat' split) <;> (simp; done)
@[simp] theorem postCompletion_drbgs (s : State) (qpn : Nat) (j : Job) (st : Nat) (res : Bytes) (resLen : Nat) (appr : Bool) : (postCompletion s qpn j st res resLen appr).drbgs = s.drbgs := by
  unfold postCompletion; dsimp only; (repeat' split) <;> (simp; done)
@[simp] theorem postCompletion_tenants (s : State) (qpn : Nat) (j : Job) (st : Nat) (res : Bytes) (resLen : Nat) (appr : Bool) : (postCompletion s qpn j st res resLen appr).tenants = s.tenants := by
  unfold postCompletion; dsimp only; (repeat' split) <;> (simp; done)
@[simp] theorem postCompletion_cfg (s : State) (qpn : Nat) (j : Job) (st : Nat) (res : Bytes) (resLen : Nat) (appr : Bool) : (postCompletion s qpn j st res resLen appr).cfg = s.cfg := by
  unfold postCompletion; dsimp only; (repeat' split) <;> (simp; done)
@[simp] theorem postCompletion_fuses (s : State) (qpn : Nat) (j : Job) (st : Nat) (res : Bytes) (resLen : Nat) (appr : Bool) : (postCompletion s qpn j st res resLen appr).fuses = s.fuses := by
  unfold postCompletion; dsimp only; (repeat' split) <;> (simp; done)
@[simp] theorem postCompletion_boot (s : State) (qpn : Nat) (j : Job) (st : Nat) (res : Bytes) (resLen : Nat) (appr : Bool) : (postCompletion s qpn j st res resLen appr).boot = s.boot := by
  unfold postCompletion; dsimp only; (repeat' split) <;> (simp; done)
@[simp] theorem postCompletion_lcs (s : State) (qpn : Nat) (j : Job) (st : Nat) (res : Bytes) (resLen : Nat) (appr : Bool) : (postCompletion s qpn j st res resLen appr).lcs = s.lcs := by
  unfold postCompletion; dsimp only; (repeat' split) <;> (simp; done)
@[simp] theorem postCompletion_tamper (s : State) (qpn : Nat) (j : Job) (st : Nat) (res : Bytes) (resLen : Nat) (appr : Bool) : (postCompletion s qpn j st res resLen appr).tamper = s.tamper := by
  unfold postCompletion; dsimp only; (repeat' split) <;> (simp; done)
@[simp] theorem postCompletion_pins (s : State) (qpn : Nat) (j : Job) (st : Nat) (res : Bytes) (resLen : Nat) (appr : Bool) : (postCompletion s qpn j st res resLen appr).pins = s.pins := by
  unfold postCompletion; dsimp only; (repeat' split) <;> (simp; done)
@[simp] theorem postCompletion_wards (s : State) (qpn : Nat) (j : Job) (st : Nat) (res : Bytes) (resLen : Nat) (appr : Bool) : (postCompletion s qpn j st res resLen appr).wards = s.wards := by
  unfold postCompletion; dsimp only; (repeat' split) <;> (simp; done)
@[simp] theorem postCompletion_tkn (s : State) (qpn : Nat) (j : Job) (st : Nat) (res : Bytes) (resLen : Nat) (appr : Bool) : (postCompletion s qpn j st res resLen appr).tkn = s.tkn := by
  unfold postCompletion; dsimp only; (repeat' split) <;> (simp; done)
@[simp] theorem postCompletion_internalDone (s : State) (qpn : Nat) (j : Job) (st : Nat) (res : Bytes) (resLen : Nat) (appr : Bool) : (postCompletion s qpn j st res resLen appr).internalDone = s.internalDone := by
  unfold postCompletion; dsimp only; (repeat' split) <;> (simp; done)
@[simp] theorem postCompletion_links (s : State) (qpn : Nat) (j : Job) (st : Nat) (res : Bytes) (resLen : Nat) (appr : Bool) : (postCompletion s qpn j st res resLen appr).links = s.links := by
  unfold postCompletion; dsimp only; (repeat' split) <;> (simp; done)
@[simp] theorem postCompletion_fabric (s : State) (qpn : Nat) (j : Job) (st : Nat) (res : Bytes) (resLen : Nat) (appr : Bool) : (postCompletion s qpn j st res resLen appr).fabric = s.fabric := by
  unfold postCompletion; dsimp only; (repeat' split) <;> (simp; done)
@[simp] theorem postCompletion_nor (s : State) (qpn : Nat) (j : Job) (st : Nat) (res : Bytes) (resLen : Nat) (appr : Bool) : (postCompletion s qpn j st res resLen appr).nor = s.nor := by
  unfold postCompletion; dsimp only; (repeat' split) <;> (simp; done)
@[simp] theorem postCompletion_mem (s : State) (qpn : Nat) (j : Job) (st : Nat) (res : Bytes) (resLen : Nat) (appr : Bool) : (postCompletion s qpn j st res resLen appr).mem = s.mem := by
  unfold postCompletion; dsimp only; (repeat' split) <;> (simp; done)
@[simp] theorem postCompletion_quartz (s : State) (qpn : Nat) (j : Job) (st : Nat) (res : Bytes) (resLen : Nat) (appr : Bool) : (postCompletion s qpn j st res resLen appr).quartz = s.quartz := by
  unfold postCompletion; dsimp only; (repeat' split) <;> (simp; done)
@[simp] theorem postCompletion_freeIdx (s : State) (qpn : Nat) (j : Job) (st : Nat) (res : Bytes) (resLen : Nat) (appr : Bool) : (postCompletion s qpn j st res resLen appr).freeIdx = s.freeIdx := by
  unfold postCompletion; dsimp only; (repeat' split) <;> (simp; done)
@[simp] theorem postCompletion_pending (s : State) (qpn : Nat) (j : Job) (st : Nat) (res : Bytes) (resLen : Nat) (appr : Bool) : (postCompletion s qpn j st res resLen appr).pending = s.pending := by
  unfold postCompletion; dsimp only; (repeat' split) <;> (simp; done)

/-! ### countEnded -/

@[simp] theorem countEnded_clk (s : State) (j : Job) (st : Nat) : (countEnded s j st).clk = s.clk := by
  unfold countEnded; (repeat' split) <;> (simp; done)
@[simp] theorem countEnded_mode (s : State) (j : Job) (st : Nat) : (countEnded s j st).mode = s.mode := by
  unfold countEnded; (repeat' split) <;> (simp; done)
@[simp] theorem countEnded_portA (s : State) (j : Job) (st : Nat) : (countEnded s j st).portA = s.portA := by
  unfold countEnded; (repeat' split) <;> (simp; done)
@[simp] theorem countEnded_portB (s : State) (j : Job) (st : Nat) : (countEnded s j st).portB = s.portB := by
  unfold countEnded; (repeat' split) <;> (simp; done)
@[simp] theorem countEnded_jobs (s : State) (j : Job) (st : Nat) : (countEnded s j st).jobs = s.jobs := by
  unfold countEnded; (repeat' split) <;> (simp; done)
@[simp] theorem countEnded_heldJobs (s : State) (j : Job) (st : Nat) : (countEnded s j st).heldJobs = s.heldJobs := by
  unfold countEnded; (repeat' split) <;> (simp; done)
@[simp] theorem countEnded_qps (s : State) (j : Job) (st : Nat) : (countEnded s j st).qps = s.qps := by
  unfold countEnded; (repeat' split) <;> (simp; done)
@[simp] theorem countEnded_sched (s : State) (j : Job) (st : Nat) : (countEnded s j st).sched = s.sched := by
  unfold countEnded; (repeat' split) <;> (simp; done)
@[simp] theorem countEnded_manifests (s : State) (j : Job) (st : Nat) : (countEnded s j st).manifests = s.manifests := by
  unfold countEnded; (repeat' split) <;> (simp; done)
@[simp] theorem countEnded_nextManifest (s : State) (j : Job) (st : Nat) : (countEnded s j st).nextManifest = s.nextManifest := by
  unfold countEnded; (repeat' split) <;> (simp; done)
@[simp] theorem countEnded_sealEngines (s : State) (j : Job) (st : Nat) : (countEnded s j st).sealEngines = s.sealEngines := by
  unfold countEnded; (repeat' split) <;> (simp; done)
@[simp] theorem countEnded_digests (s : State) (j : Job) (st : Nat) : (countEnded s j st).digests = s.digests := by
  unfold countEnded; (repeat' split) <;> (simp; done)
@[simp] theorem countEnded_meas (s : State) (j : Job) (st : Nat) : (countEnded s j st).meas = s.meas := by
  unfold countEnded; (repeat' split) <;> (simp; done)
@[simp] theorem countEnded_measLog (s : State) (j : Job) (st : Nat) : (countEnded s j st).measLog = s.measLog := by
  unfold countEnded; (repeat' split) <;> (simp; done)
@[simp] theorem countEnded_measNext (s : State) (j : Job) (st : Nat) : (countEnded s j st).measNext = s.measNext := by
  unfold countEnded; (repeat' split) <;> (simp; done)
@[simp] theorem countEnded_measOverflow (s : State) (j : Job) (st : Nat) : (countEnded s j st).measOverflow = s.measOverflow := by
  unfold countEnded; (repeat' split) <;> (simp; done)
@[simp] theorem countEnded_truncOffered (s : State) (j : Job) (st : Nat) : (countEnded s j st).truncOffered = s.truncOffered := by
  unfold countEnded; (repeat' split) <;> (simp; done)
@[simp] theorem countEnded_slots (s : State) (j : Job) (st : Nat) : (countEnded s j st).slots = s.slots := by
  unfold countEnded; (repeat' split) <;> (simp; done)
@[simp] theorem countEnded_pufSecret (s : State) (j : Job) (st : Nat) : (countEnded s j st).pufSecret = s.pufSecret := by
  unfold countEnded; (repeat' split) <;> (simp; done)
@[simp] theorem countEnded_keyed (s : State) (j : Job) (st : Nat) : (countEnded s j st).keyed = s.keyed := by
  unfold countEnded; (repeat' split) <;> (simp; done)
@[simp] theorem countEnded_cdk (s : State) (j : Job) (st : Nat) : (countEnded s j st).cdk = s.cdk := by
  unfold countEnded; (repeat' split) <;> (simp; done)
@[simp] theorem countEnded_zeroised (s : State) (j : Job) (st : Nat) : (countEnded s j st).zeroised = s.zeroised := by
  unfold countEnded; (repeat' split) <;> (simp; done)
@[simp] theorem countEnded_agate (s : State) (j : Job) (st : Nat) : (countEnded s j st).agate = s.agate := by
  unfold countEnded; (repeat' split) <;> (simp; done)
@[simp] theorem countEnded_arith (s : State) (j : Job) (st : Nat) : (countEnded s j st).arith = s.arith := by
  unfold countEnded; (repeat' split) <;> (simp; done)
@[simp] theorem countEnded_sources (s : State) (j : Job) (st : Nat) : (countEnded s j st).sources = s.sources := by
  unfold countEnded; (repeat' split) <;> (simp; done)
@[simp] theorem countEnded_entropy (s : State) (j : Job) (st : Nat) : (countEnded s j st).entropy = s.entropy := by
  unfold countEnded; (repeat' split) <;> (simp; done)
@[simp] theorem countEnded_filling (s : State) (j : Job) (st : Nat) : (countEnded s j st).filling = s.filling := by
  unfold countEnded; (repeat' split) <;> (simp; done)
@[simp] theorem countEnded_lfsr (s : State) (j : Job) (st : Nat) : (countEnded s j st).lfsr = s.lfsr := by
  unfold countEnded; (repeat' split) <;> (simp; done)
@[simp] theorem countEnded_drbgs (s : State) (j : Job) (st : Nat) : (countEnded s j st).drbgs = s.drbgs := by
  unfold countEnded; (repeat' split) <;> (simp; done)
@[simp] theorem countEnded_cfg (s : State) (j : Job) (st : Nat) : (countEnded s j st).cfg = s.cfg := by
  unfold countEnded; (repeat' split) <;> (simp; done)
@[simp] theorem countEnded_moon (s : State) (j : Job) (st : Nat) : (countEnded s j st).moon = s.moon := by
  unfold countEnded; (repeat' split) <;> (simp; done)
@[simp] theorem countEnded_fuses (s : State) (j : Job) (st : Nat) : (countEnded s j st).fuses = s.fuses := by
  unfold countEnded; (repeat' split) <;> (simp; done)
@[simp] theorem countEnded_boot (s : State) (j : Job) (st : Nat) : (countEnded s j st).boot = s.boot := by
  unfold countEnded; (repeat' split) <;> (simp; done)
@[simp] theorem countEnded_lcs (s : State) (j : Job) (st : Nat) : (countEnded s j st).lcs = s.lcs := by
  unfold countEnded; (repeat' split) <;> (simp; done)
@[simp] theorem countEnded_tamper (s : State) (j : Job) (st : Nat) : (countEnded s j st).tamper = s.tamper := by
  unfold countEnded; (repeat' split) <;> (simp; done)
@[simp] theorem countEnded_pins (s : State) (j : Job) (st : Nat) : (countEnded s j st).pins = s.pins := by
  unfold countEnded; (repeat' split) <;> (simp; done)
@[simp] theorem countEnded_wards (s : State) (j : Job) (st : Nat) : (countEnded s j st).wards = s.wards := by
  unfold countEnded; (repeat' split) <;> (simp; done)
@[simp] theorem countEnded_tkn (s : State) (j : Job) (st : Nat) : (countEnded s j st).tkn = s.tkn := by
  unfold countEnded; (repeat' split) <;> (simp; done)
@[simp] theorem countEnded_internalDone (s : State) (j : Job) (st : Nat) : (countEnded s j st).internalDone = s.internalDone := by
  unfold countEnded; (repeat' split) <;> (simp; done)
@[simp] theorem countEnded_recorder (s : State) (j : Job) (st : Nat) : (countEnded s j st).recorder = s.recorder := by
  unfold countEnded; (repeat' split) <;> (simp; done)
@[simp] theorem countEnded_amber (s : State) (j : Job) (st : Nat) : (countEnded s j st).amber = s.amber := by
  unfold countEnded; (repeat' split) <;> (simp; done)
@[simp] theorem countEnded_links (s : State) (j : Job) (st : Nat) : (countEnded s j st).links = s.links := by
  unfold countEnded; (repeat' split) <;> (simp; done)
@[simp] theorem countEnded_fabric (s : State) (j : Job) (st : Nat) : (countEnded s j st).fabric = s.fabric := by
  unfold countEnded; (repeat' split) <;> (simp; done)
@[simp] theorem countEnded_nor (s : State) (j : Job) (st : Nat) : (countEnded s j st).nor = s.nor := by
  unfold countEnded; (repeat' split) <;> (simp; done)
@[simp] theorem countEnded_mem (s : State) (j : Job) (st : Nat) : (countEnded s j st).mem = s.mem := by
  unfold countEnded; (repeat' split) <;> (simp; done)
@[simp] theorem countEnded_quartz (s : State) (j : Job) (st : Nat) : (countEnded s j st).quartz = s.quartz := by
  unfold countEnded; (repeat' split) <;> (simp; done)
@[simp] theorem countEnded_regs (s : State) (j : Job) (st : Nat) : (countEnded s j st).regs = s.regs := by
  unfold countEnded; (repeat' split) <;> (simp; done)
@[simp] theorem countEnded_out (s : State) (j : Job) (st : Nat) : (countEnded s j st).out = s.out := by
  unfold countEnded; (repeat' split) <;> (simp; done)
@[simp] theorem countEnded_freeIdx (s : State) (j : Job) (st : Nat) : (countEnded s j st).freeIdx = s.freeIdx := by
  unfold countEnded; (repeat' split) <;> (simp; done)
@[simp] theorem countEnded_pending (s : State) (j : Job) (st : Nat) : (countEnded s j st).pending = s.pending := by
  unfold countEnded; (repeat' split) <;> (simp; done)

/-! ### countSealErr -/

@[simp] theorem countSealErr_clk (s : State) (st : Nat) : (countSealErr s st).clk = s.clk := by
  unfold countSealErr; (repeat' split) <;> (simp; done)
@[simp] theorem countSealErr_mode (s : State) (st : Nat) : (countSealErr s st).mode = s.mode := by
  unfold countSealErr; (repeat' split) <;> (simp; done)
@[simp] theorem countSealErr_portA (s : State) (st : Nat) : (countSealErr s st).portA = s.portA := by
  unfold countSealErr; (repeat' split) <;> (simp; done)
@[simp] theorem countSealErr_portB (s : State) (st : Nat) : (countSealErr s st).portB = s.portB := by
  unfold countSealErr; (repeat' split) <;> (simp; done)
@[simp] theorem countSealErr_jobs (s : State) (st : Nat) : (countSealErr s st).jobs = s.jobs := by
  unfold countSealErr; (repeat' split) <;> (simp; done)
@[simp] theorem countSealErr_heldJobs (s : State) (st : Nat) : (countSealErr s st).heldJobs = s.heldJobs := by
  unfold countSealErr; (repeat' split) <;> (simp; done)
@[simp] theorem countSealErr_qps (s : State) (st : Nat) : (countSealErr s st).qps = s.qps := by
  unfold countSealErr; (repeat' split) <;> (simp; done)
@[simp] theorem countSealErr_sched (s : State) (st : Nat) : (countSealErr s st).sched = s.sched := by
  unfold countSealErr; (repeat' split) <;> (simp; done)
@[simp] theorem countSealErr_manifests (s : State) (st : Nat) : (countSealErr s st).manifests = s.manifests := by
  unfold countSealErr; (repeat' split) <;> (simp; done)
@[simp] theorem countSealErr_nextManifest (s : State) (st : Nat) : (countSealErr s st).nextManifest = s.nextManifest := by
  unfold countSealErr; (repeat' split) <;> (simp; done)
@[simp] theorem countSealErr_sealEngines (s : State) (st : Nat) : (countSealErr s st).sealEngines = s.sealEngines := by
  unfold countSealErr; (repeat' split) <;> (simp; done)
@[simp] theorem countSealErr_digests (s : State) (st : Nat) : (countSealErr s st).digests = s.digests := by
  unfold countSealErr; (repeat' split) <;> (simp; done)
@[simp] theorem countSealErr_meas (s : State) (st : Nat) : (countSealErr s st).meas = s.meas := by
  unfold countSealErr; (repeat' split) <;> (simp; done)
@[simp] theorem countSealErr_measLog (s : State) (st : Nat) : (countSealErr s st).measLog = s.measLog := by
  unfold countSealErr; (repeat' split) <;> (simp; done)
@[simp] theorem countSealErr_measNext (s : State) (st : Nat) : (countSealErr s st).measNext = s.measNext := by
  unfold countSealErr; (repeat' split) <;> (simp; done)
@[simp] theorem countSealErr_measOverflow (s : State) (st : Nat) : (countSealErr s st).measOverflow = s.measOverflow := by
  unfold countSealErr; (repeat' split) <;> (simp; done)
@[simp] theorem countSealErr_truncOffered (s : State) (st : Nat) : (countSealErr s st).truncOffered = s.truncOffered := by
  unfold countSealErr; (repeat' split) <;> (simp; done)
@[simp] theorem countSealErr_slots (s : State) (st : Nat) : (countSealErr s st).slots = s.slots := by
  unfold countSealErr; (repeat' split) <;> (simp; done)
@[simp] theorem countSealErr_pufSecret (s : State) (st : Nat) : (countSealErr s st).pufSecret = s.pufSecret := by
  unfold countSealErr; (repeat' split) <;> (simp; done)
@[simp] theorem countSealErr_keyed (s : State) (st : Nat) : (countSealErr s st).keyed = s.keyed := by
  unfold countSealErr; (repeat' split) <;> (simp; done)
@[simp] theorem countSealErr_cdk (s : State) (st : Nat) : (countSealErr s st).cdk = s.cdk := by
  unfold countSealErr; (repeat' split) <;> (simp; done)
@[simp] theorem countSealErr_zeroised (s : State) (st : Nat) : (countSealErr s st).zeroised = s.zeroised := by
  unfold countSealErr; (repeat' split) <;> (simp; done)
@[simp] theorem countSealErr_agate (s : State) (st : Nat) : (countSealErr s st).agate = s.agate := by
  unfold countSealErr; (repeat' split) <;> (simp; done)
@[simp] theorem countSealErr_arith (s : State) (st : Nat) : (countSealErr s st).arith = s.arith := by
  unfold countSealErr; (repeat' split) <;> (simp; done)
@[simp] theorem countSealErr_sources (s : State) (st : Nat) : (countSealErr s st).sources = s.sources := by
  unfold countSealErr; (repeat' split) <;> (simp; done)
@[simp] theorem countSealErr_entropy (s : State) (st : Nat) : (countSealErr s st).entropy = s.entropy := by
  unfold countSealErr; (repeat' split) <;> (simp; done)
@[simp] theorem countSealErr_filling (s : State) (st : Nat) : (countSealErr s st).filling = s.filling := by
  unfold countSealErr; (repeat' split) <;> (simp; done)
@[simp] theorem countSealErr_lfsr (s : State) (st : Nat) : (countSealErr s st).lfsr = s.lfsr := by
  unfold countSealErr; (repeat' split) <;> (simp; done)
@[simp] theorem countSealErr_drbgs (s : State) (st : Nat) : (countSealErr s st).drbgs = s.drbgs := by
  unfold countSealErr; (repeat' split) <;> (simp; done)
@[simp] theorem countSealErr_tenants (s : State) (st : Nat) : (countSealErr s st).tenants = s.tenants := by
  unfold countSealErr; (repeat' split) <;> (simp; done)
@[simp] theorem countSealErr_cfg (s : State) (st : Nat) : (countSealErr s st).cfg = s.cfg := by
  unfold countSealErr; (repeat' split) <;> (simp; done)
@[simp] theorem countSealErr_moon (s : State) (st : Nat) : (countSealErr s st).moon = s.moon := by
  unfold countSealErr; (repeat' split) <;> (simp; done)
@[simp] theorem countSealErr_fuses (s : State) (st : Nat) : (countSealErr s st).fuses = s.fuses := by
  unfold countSealErr; (repeat' split) <;> (simp; done)
@[simp] theorem countSealErr_boot (s : State) (st : Nat) : (countSealErr s st).boot = s.boot := by
  unfold countSealErr; (repeat' split) <;> (simp; done)
@[simp] theorem countSealErr_lcs (s : State) (st : Nat) : (countSealErr s st).lcs = s.lcs := by
  unfold countSealErr; (repeat' split) <;> (simp; done)
@[simp] theorem countSealErr_tamper (s : State) (st : Nat) : (countSealErr s st).tamper = s.tamper := by
  unfold countSealErr; (repeat' split) <;> (simp; done)
@[simp] theorem countSealErr_pins (s : State) (st : Nat) : (countSealErr s st).pins = s.pins := by
  unfold countSealErr; (repeat' split) <;> (simp; done)
@[simp] theorem countSealErr_wards (s : State) (st : Nat) : (countSealErr s st).wards = s.wards := by
  unfold countSealErr; (repeat' split) <;> (simp; done)
@[simp] theorem countSealErr_tkn (s : State) (st : Nat) : (countSealErr s st).tkn = s.tkn := by
  unfold countSealErr; (repeat' split) <;> (simp; done)
@[simp] theorem countSealErr_internalDone (s : State) (st : Nat) : (countSealErr s st).internalDone = s.internalDone := by
  unfold countSealErr; (repeat' split) <;> (simp; done)
@[simp] theorem countSealErr_recorder (s : State) (st : Nat) : (countSealErr s st).recorder = s.recorder := by
  unfold countSealErr; (repeat' split) <;> (simp; done)
@[simp] theorem countSealErr_amber (s : State) (st : Nat) : (countSealErr s st).amber = s.amber := by
  unfold countSealErr; (repeat' split) <;> (simp; done)
@[simp] theorem countSealErr_links (s : State) (st : Nat) : (countSealErr s st).links = s.links := by
  unfold countSealErr; (repeat' split) <;> (simp; done)
@[simp] theorem countSealErr_fabric (s : State) (st : Nat) : (countSealErr s st).fabric = s.fabric := by
  unfold countSealErr; (repeat' split) <;> (simp; done)
@[simp] theorem countSealErr_nor (s : State) (st : Nat) : (countSealErr s st).nor = s.nor := by
  unfold countSealErr; (repeat' split) <;> (simp; done)
@[simp] theorem countSealErr_mem (s : State) (st : Nat) : (countSealErr s st).mem = s.mem := by
  unfold countSealErr; (repeat' split) <;> (simp; done)
@[simp] theorem countSealErr_quartz (s : State) (st : Nat) : (countSealErr s st).quartz = s.quartz := by
  unfold countSealErr; (repeat' split) <;> (simp; done)
@[simp] theorem countSealErr_out (s : State) (st : Nat) : (countSealErr s st).out = s.out := by
  unfold countSealErr; (repeat' split) <;> (simp; done)
@[simp] theorem countSealErr_freeIdx (s : State) (st : Nat) : (countSealErr s st).freeIdx = s.freeIdx := by
  unfold countSealErr; (repeat' split) <;> (simp; done)
@[simp] theorem countSealErr_pending (s : State) (st : Nat) : (countSealErr s st).pending = s.pending := by
  unfold countSealErr; (repeat' split) <;> (simp; done)

/-! ### takeHeld -/

@[simp] theorem takeHeld_clk (s : State) (o : Origin) : (takeHeld s o).clk = s.clk := by
  unfold takeHeld; (repeat' split) <;> (simp; done)
@[simp] theorem takeHeld_mode (s : State) (o : Origin) : (takeHeld s o).mode = s.mode := by
  unfold takeHeld; (repeat' split) <;> (simp; done)
@[simp] theorem takeHeld_portA (s : State) (o : Origin) : (takeHeld s o).portA = s.portA := by
  unfold takeHeld; (repeat' split) <;> (simp; done)
@[simp] theorem takeHeld_portB (s : State) (o : Origin) : (takeHeld s o).portB = s.portB := by
  unfold takeHeld; (repeat' split) <;> (simp; done)
@[simp] theorem takeHeld_qps (s : State) (o : Origin) : (takeHeld s o).qps = s.qps := by
  unfold takeHeld; (repeat' split) <;> (simp; done)
@[simp] theorem takeHeld_sched (s : State) (o : Origin) : (takeHeld s o).sched = s.sched := by
  unfold takeHeld; (repeat' split) <;> (simp; done)
@[simp] theorem takeHeld_manifests (s : State) (o : Origin) : (takeHeld s o).manifests = s.manifests := by
  unfold takeHeld; (repeat' split) <;> (simp; done)
@[simp] theorem takeHeld_nextManifest (s : State) (o : Origin) : (takeHeld s o).nextManifest = s.nextManifest := by
  unfold takeHeld; (repeat' split) <;> (simp; done)
@[simp] theorem takeHeld_sealEngines (s : State) (o : Origin) : (takeHeld s o).sealEngines = s.sealEngines := by
  unfold takeHeld; (repeat' split) <;> (simp; done)
@[simp] theorem takeHeld_digests (s : State) (o : Origin) : (takeHeld s o).digests = s.digests := by
  unfold takeHeld; (repeat' split) <;> (simp; done)
@[simp] theorem takeHeld_meas (s : State) (o : Origin) : (takeHeld s o).meas = s.meas := by
  unfold takeHeld; (repeat' split) <;> (simp; done)
@[simp] theorem takeHeld_measLog (s : State) (o : Origin) : (takeHeld s o).measLog = s.measLog := by
  unfold takeHeld; (repeat' split) <;> (simp; done)
@[simp] theorem takeHeld_measNext (s : State) (o : Origin) : (takeHeld s o).measNext = s.measNext := by
  unfold takeHeld; (repeat' split) <;> (simp; done)
@[simp] theorem takeHeld_measOverflow (s : State) (o : Origin) : (takeHeld s o).measOverflow = s.measOverflow := by
  unfold takeHeld; (repeat' split) <;> (simp; done)
@[simp] theorem takeHeld_truncOffered (s : State) (o : Origin) : (takeHeld s o).truncOffered = s.truncOffered := by
  unfold takeHeld; (repeat' split) <;> (simp; done)
@[simp] theorem takeHeld_slots (s : State) (o : Origin) : (takeHeld s o).slots = s.slots := by
  unfold takeHeld; (repeat' split) <;> (simp; done)
@[simp] theorem takeHeld_pufSecret (s : State) (o : Origin) : (takeHeld s o).pufSecret = s.pufSecret := by
  unfold takeHeld; (repeat' split) <;> (simp; done)
@[simp] theorem takeHeld_keyed (s : State) (o : Origin) : (takeHeld s o).keyed = s.keyed := by
  unfold takeHeld; (repeat' split) <;> (simp; done)
@[simp] theorem takeHeld_cdk (s : State) (o : Origin) : (takeHeld s o).cdk = s.cdk := by
  unfold takeHeld; (repeat' split) <;> (simp; done)
@[simp] theorem takeHeld_zeroised (s : State) (o : Origin) : (takeHeld s o).zeroised = s.zeroised := by
  unfold takeHeld; (repeat' split) <;> (simp; done)
@[simp] theorem takeHeld_agate (s : State) (o : Origin) : (takeHeld s o).agate = s.agate := by
  unfold takeHeld; (repeat' split) <;> (simp; done)
@[simp] theorem takeHeld_arith (s : State) (o : Origin) : (takeHeld s o).arith = s.arith := by
  unfold takeHeld; (repeat' split) <;> (simp; done)
@[simp] theorem takeHeld_sources (s : State) (o : Origin) : (takeHeld s o).sources = s.sources := by
  unfold takeHeld; (repeat' split) <;> (simp; done)
@[simp] theorem takeHeld_entropy (s : State) (o : Origin) : (takeHeld s o).entropy = s.entropy := by
  unfold takeHeld; (repeat' split) <;> (simp; done)
@[simp] theorem takeHeld_filling (s : State) (o : Origin) : (takeHeld s o).filling = s.filling := by
  unfold takeHeld; (repeat' split) <;> (simp; done)
@[simp] theorem takeHeld_lfsr (s : State) (o : Origin) : (takeHeld s o).lfsr = s.lfsr := by
  unfold takeHeld; (repeat' split) <;> (simp; done)
@[simp] theorem takeHeld_drbgs (s : State) (o : Origin) : (takeHeld s o).drbgs = s.drbgs := by
  unfold takeHeld; (repeat' split) <;> (simp; done)
@[simp] theorem takeHeld_tenants (s : State) (o : Origin) : (takeHeld s o).tenants = s.tenants := by
  unfold takeHeld; (repeat' split) <;> (simp; done)
@[simp] theorem takeHeld_cfg (s : State) (o : Origin) : (takeHeld s o).cfg = s.cfg := by
  unfold takeHeld; (repeat' split) <;> (simp; done)
@[simp] theorem takeHeld_moon (s : State) (o : Origin) : (takeHeld s o).moon = s.moon := by
  unfold takeHeld; (repeat' split) <;> (simp; done)
@[simp] theorem takeHeld_fuses (s : State) (o : Origin) : (takeHeld s o).fuses = s.fuses := by
  unfold takeHeld; (repeat' split) <;> (simp; done)
@[simp] theorem takeHeld_boot (s : State) (o : Origin) : (takeHeld s o).boot = s.boot := by
  unfold takeHeld; (repeat' split) <;> (simp; done)
@[simp] theorem takeHeld_lcs (s : State) (o : Origin) : (takeHeld s o).lcs = s.lcs := by
  unfold takeHeld; (repeat' split) <;> (simp; done)
@[simp] theorem takeHeld_tamper (s : State) (o : Origin) : (takeHeld s o).tamper = s.tamper := by
  unfold takeHeld; (repeat' split) <;> (simp; done)
@[simp] theorem takeHeld_pins (s : State) (o : Origin) : (takeHeld s o).pins = s.pins := by
  unfold takeHeld; (repeat' split) <;> (simp; done)
@[simp] theorem takeHeld_wards (s : State) (o : Origin) : (takeHeld s o).wards = s.wards := by
  unfold takeHeld; (repeat' split) <;> (simp; done)
@[simp] theorem takeHeld_tkn (s : State) (o : Origin) : (takeHeld s o).tkn = s.tkn := by
  unfold takeHeld; (repeat' split) <;> (simp; done)
@[simp] theorem takeHeld_internalDone (s : State) (o : Origin) : (takeHeld s o).internalDone = s.internalDone := by
  unfold takeHeld; (repeat' split) <;> (simp; done)
@[simp] theorem takeHeld_recorder (s : State) (o : Origin) : (takeHeld s o).recorder = s.recorder := by
  unfold takeHeld; (repeat' split) <;> (simp; done)
@[simp] theorem takeHeld_amber (s : State) (o : Origin) : (takeHeld s o).amber = s.amber := by
  unfold takeHeld; (repeat' split) <;> (simp; done)
@[simp] theorem takeHeld_links (s : State) (o : Origin) : (takeHeld s o).links = s.links := by
  unfold takeHeld; (repeat' split) <;> (simp; done)
@[simp] theorem takeHeld_fabric (s : State) (o : Origin) : (takeHeld s o).fabric = s.fabric := by
  unfold takeHeld; (repeat' split) <;> (simp; done)
@[simp] theorem takeHeld_nor (s : State) (o : Origin) : (takeHeld s o).nor = s.nor := by
  unfold takeHeld; (repeat' split) <;> (simp; done)
@[simp] theorem takeHeld_mem (s : State) (o : Origin) : (takeHeld s o).mem = s.mem := by
  unfold takeHeld; (repeat' split) <;> (simp; done)
@[simp] theorem takeHeld_quartz (s : State) (o : Origin) : (takeHeld s o).quartz = s.quartz := by
  unfold takeHeld; (repeat' split) <;> (simp; done)
@[simp] theorem takeHeld_regs (s : State) (o : Origin) : (takeHeld s o).regs = s.regs := by
  unfold takeHeld; (repeat' split) <;> (simp; done)
@[simp] theorem takeHeld_out (s : State) (o : Origin) : (takeHeld s o).out = s.out := by
  unfold takeHeld; (repeat' split) <;> (simp; done)
@[simp] theorem takeHeld_freeIdx (s : State) (o : Origin) : (takeHeld s o).freeIdx = s.freeIdx := by
  unfold takeHeld; (repeat' split) <;> (simp; done)
@[simp] theorem takeHeld_pending (s : State) (o : Origin) : (takeHeld s o).pending = s.pending := by
  unfold takeHeld; (repeat' split) <;> (simp; done)

/-! ### manifestEntry -/

@[simp] theorem manifestEntry_clk (s : State) (j : Job) (st : Nat) : (manifestEntry s j st).clk = s.clk := by
  unfold manifestEntry; (repeat' split) <;> (simp; done)
@[simp] theorem manifestEntry_mode (s : State) (j : Job) (st : Nat) : (manifestEntry s j st).mode = s.mode := by
  unfold manifestEntry; (repeat' split) <;> (simp; done)
@[simp] theorem manifestEntry_portA (s : State) (j : Job) (st : Nat) : (manifestEntry s j st).portA = s.portA := by
  unfold manifestEntry; (repeat' split) <;> (simp; done)
@[simp] theorem manifestEntry_portB (s : State) (j : Job) (st : Nat) : (manifestEntry s j st).portB = s.portB := by
  unfold manifestEntry; (repeat' split) <;> (simp; done)
@[simp] theorem manifestEntry_jobs (s : State) (j : Job) (st : Nat) : (manifestEntry s j st).jobs = s.jobs := by
  unfold manifestEntry; (repeat' split) <;> (simp; done)
@[simp] theorem manifestEntry_heldJobs (s : State) (j : Job) (st : Nat) : (manifestEntry s j st).heldJobs = s.heldJobs := by
  unfold manifestEntry; (repeat' split) <;> (simp; done)
@[simp] theorem manifestEntry_qps (s : State) (j : Job) (st : Nat) : (manifestEntry s j st).qps = s.qps := by
  unfold manifestEntry; (repeat' split) <;> (simp; done)
@[simp] theorem manifestEntry_sched (s : State) (j : Job) (st : Nat) : (manifestEntry s j st).sched = s.sched := by
  unfold manifestEntry; (repeat' split) <;> (simp; done)
@[simp] theorem manifestEntry_nextManifest (s : State) (j : Job) (st : Nat) : (manifestEntry s j st).nextManifest = s.nextManifest := by
  unfold manifestEntry; (repeat' split) <;> (simp; done)
@[simp] theorem manifestEntry_sealEngines (s : State) (j : Job) (st : Nat) : (manifestEntry s j st).sealEngines = s.sealEngines := by
  unfold manifestEntry; (repeat' split) <;> (simp; done)
@[simp] theorem manifestEntry_digests (s : State) (j : Job) (st : Nat) : (manifestEntry s j st).digests = s.digests := by
  unfold manifestEntry; (repeat' split) <;> (simp; done)
@[simp] theorem manifestEntry_meas (s : State) (j : Job) (st : Nat) : (manifestEntry s j st).meas = s.meas := by
  unfold manifestEntry; (repeat' split) <;> (simp; done)
@[simp] theorem manifestEntry_measLog (s : State) (j : Job) (st : Nat) : (manifestEntry s j st).measLog = s.measLog := by
  unfold manifestEntry; (repeat' split) <;> (simp; done)
@[simp] theorem manifestEntry_measNext (s : State) (j : Job) (st : Nat) : (manifestEntry s j st).measNext = s.measNext := by
  unfold manifestEntry; (repeat' split) <;> (simp; done)
@[simp] theorem manifestEntry_measOverflow (s : State) (j : Job) (st : Nat) : (manifestEntry s j st).measOverflow = s.measOverflow := by
  unfold manifestEntry; (repeat' split) <;> (simp; done)
@[simp] theorem manifestEntry_truncOffered (s : State) (j : Job) (st : Nat) : (manifestEntry s j st).truncOffered = s.truncOffered := by
  unfold manifestEntry; (repeat' split) <;> (simp; done)
@[simp] theorem manifestEntry_slots (s : State) (j : Job) (st : Nat) : (manifestEntry s j st).slots = s.slots := by
  unfold manifestEntry; (repeat' split) <;> (simp; done)
@[simp] theorem manifestEntry_pufSecret (s : State) (j : Job) (st : Nat) : (manifestEntry s j st).pufSecret = s.pufSecret := by
  unfold manifestEntry; (repeat' split) <;> (simp; done)
@[simp] theorem manifestEntry_keyed (s : State) (j : Job) (st : Nat) : (manifestEntry s j st).keyed = s.keyed := by
  unfold manifestEntry; (repeat' split) <;> (simp; done)
@[simp] theorem manifestEntry_cdk (s : State) (j : Job) (st : Nat) : (manifestEntry s j st).cdk = s.cdk := by
  unfold manifestEntry; (repeat' split) <;> (simp; done)
@[simp] theorem manifestEntry_zeroised (s : State) (j : Job) (st : Nat) : (manifestEntry s j st).zeroised = s.zeroised := by
  unfold manifestEntry; (repeat' split) <;> (simp; done)
@[simp] theorem manifestEntry_agate (s : State) (j : Job) (st : Nat) : (manifestEntry s j st).agate = s.agate := by
  unfold manifestEntry; (repeat' split) <;> (simp; done)
@[simp] theorem manifestEntry_arith (s : State) (j : Job) (st : Nat) : (manifestEntry s j st).arith = s.arith := by
  unfold manifestEntry; (repeat' split) <;> (simp; done)
@[simp] theorem manifestEntry_sources (s : State) (j : Job) (st : Nat) : (manifestEntry s j st).sources = s.sources := by
  unfold manifestEntry; (repeat' split) <;> (simp; done)
@[simp] theorem manifestEntry_entropy (s : State) (j : Job) (st : Nat) : (manifestEntry s j st).entropy = s.entropy := by
  unfold manifestEntry; (repeat' split) <;> (simp; done)
@[simp] theorem manifestEntry_filling (s : State) (j : Job) (st : Nat) : (manifestEntry s j st).filling = s.filling := by
  unfold manifestEntry; (repeat' split) <;> (simp; done)
@[simp] theorem manifestEntry_lfsr (s : State) (j : Job) (st : Nat) : (manifestEntry s j st).lfsr = s.lfsr := by
  unfold manifestEntry; (repeat' split) <;> (simp; done)
@[simp] theorem manifestEntry_drbgs (s : State) (j : Job) (st : Nat) : (manifestEntry s j st).drbgs = s.drbgs := by
  unfold manifestEntry; (repeat' split) <;> (simp; done)
@[simp] theorem manifestEntry_tenants (s : State) (j : Job) (st : Nat) : (manifestEntry s j st).tenants = s.tenants := by
  unfold manifestEntry; (repeat' split) <;> (simp; done)
@[simp] theorem manifestEntry_cfg (s : State) (j : Job) (st : Nat) : (manifestEntry s j st).cfg = s.cfg := by
  unfold manifestEntry; (repeat' split) <;> (simp; done)
@[simp] theorem manifestEntry_moon (s : State) (j : Job) (st : Nat) : (manifestEntry s j st).moon = s.moon := by
  unfold manifestEntry; (repeat' split) <;> (simp; done)
@[simp] theorem manifestEntry_fuses (s : State) (j : Job) (st : Nat) : (manifestEntry s j st).fuses = s.fuses := by
  unfold manifestEntry; (repeat' split) <;> (simp; done)
@[simp] theorem manifestEntry_boot (s : State) (j : Job) (st : Nat) : (manifestEntry s j st).boot = s.boot := by
  unfold manifestEntry; (repeat' split) <;> (simp; done)
@[simp] theorem manifestEntry_lcs (s : State) (j : Job) (st : Nat) : (manifestEntry s j st).lcs = s.lcs := by
  unfold manifestEntry; (repeat' split) <;> (simp; done)
@[simp] theorem manifestEntry_tamper (s : State) (j : Job) (st : Nat) : (manifestEntry s j st).tamper = s.tamper := by
  unfold manifestEntry; (repeat' split) <;> (simp; done)
@[simp] theorem manifestEntry_pins (s : State) (j : Job) (st : Nat) : (manifestEntry s j st).pins = s.pins := by
  unfold manifestEntry; (repeat' split) <;> (simp; done)
@[simp] theorem manifestEntry_wards (s : State) (j : Job) (st : Nat) : (manifestEntry s j st).wards = s.wards := by
  unfold manifestEntry; (repeat' split) <;> (simp; done)
@[simp] theorem manifestEntry_tkn (s : State) (j : Job) (st : Nat) : (manifestEntry s j st).tkn = s.tkn := by
  unfold manifestEntry; (repeat' split) <;> (simp; done)
@[simp] theorem manifestEntry_internalDone (s : State) (j : Job) (st : Nat) : (manifestEntry s j st).internalDone = s.internalDone := by
  unfold manifestEntry; (repeat' split) <;> (simp; done)
@[simp] theorem manifestEntry_recorder (s : State) (j : Job) (st : Nat) : (manifestEntry s j st).recorder = s.recorder := by
  unfold manifestEntry; (repeat' split) <;> (simp; done)
@[simp] theorem manifestEntry_amber (s : State) (j : Job) (st : Nat) : (manifestEntry s j st).amber = s.amber := by
  unfold manifestEntry; (repeat' split) <;> (simp; done)
@[simp] theorem manifestEntry_links (s : State) (j : Job) (st : Nat) : (manifestEntry s j st).links = s.links := by
  unfold manifestEntry; (repeat' split) <;> (simp; done)
@[simp] theorem manifestEntry_fabric (s : State) (j : Job) (st : Nat) : (manifestEntry s j st).fabric = s.fabric := by
  unfold manifestEntry; (repeat' split) <;> (simp; done)
@[simp] theorem manifestEntry_nor (s : State) (j : Job) (st : Nat) : (manifestEntry s j st).nor = s.nor := by
  unfold manifestEntry; (repeat' split) <;> (simp; done)
@[simp] theorem manifestEntry_mem (s : State) (j : Job) (st : Nat) : (manifestEntry s j st).mem = s.mem := by
  unfold manifestEntry; (repeat' split) <;> (simp; done)
@[simp] theorem manifestEntry_quartz (s : State) (j : Job) (st : Nat) : (manifestEntry s j st).quartz = s.quartz := by
  unfold manifestEntry; (repeat' split) <;> (simp; done)
@[simp] theorem manifestEntry_regs (s : State) (j : Job) (st : Nat) : (manifestEntry s j st).regs = s.regs := by
  unfold manifestEntry; (repeat' split) <;> (simp; done)
@[simp] theorem manifestEntry_out (s : State) (j : Job) (st : Nat) : (manifestEntry s j st).out = s.out := by
  unfold manifestEntry; (repeat' split) <;> (simp; done)
@[simp] theorem manifestEntry_freeIdx (s : State) (j : Job) (st : Nat) : (manifestEntry s j st).freeIdx = s.freeIdx := by
  unfold manifestEntry; (repeat' split) <;> (simp; done)
@[simp] theorem manifestEntry_pending (s : State) (j : Job) (st : Nat) : (manifestEntry s j st).pending = s.pending := by
  unfold manifestEntry; (repeat' split) <;> (simp; done)

/-! ### finishJob -/

@[simp] theorem finishJob_clk (s : State) (j : Job) (st : Nat) (res : Bytes) (resLen : Nat) (appr : Bool) : (finishJob s j st res resLen appr).clk = s.clk := by
  unfold finishJob; (repeat' split) <;> (simp; done)
@[simp] theorem finishJob_mode (s : State) (j : Job) (st : Nat) (res : Bytes) (resLen : Nat) (appr : Bool) : (finishJob s j st res resLen appr).mode = s.mode := by
  unfold finishJob; (repeat' split) <;> (simp; done)
@[simp] theorem finishJob_nextManifest (s : State) (j : Job) (st : Nat) (res : Bytes) (resLen : Nat) (appr : Bool) : (finishJob s j st res resLen appr).nextManifest = s.nextManifest := by
  unfold finishJob; (repeat' split) <;> (simp; done)
@[simp] theorem finishJob_sealEngines (s : State) (j : Job) (st : Nat) (res : Bytes) (resLen : Nat) (appr : Bool) : (finishJob s j st res resLen appr).sealEngines = s.sealEngines := by
  unfold finishJob; (repeat' split) <;> (simp; done)
@[simp] theorem finishJob_digests (s : State) (j : Job) (st : Nat) (res : Bytes) (resLen : Nat) (appr : Bool) : (finishJob s j st res resLen appr).digests = s.digests := by
  unfold finishJob; (repeat' split) <;> (simp; done)
@[simp] theorem finishJob_meas (s : State) (j : Job) (st : Nat) (res : Bytes) (resLen : Nat) (appr : Bool) : (finishJob s j st res resLen appr).meas = s.meas := by
  unfold finishJob; (repeat' split) <;> (simp; done)
@[simp] theorem finishJob_measLog (s : State) (j : Job) (st : Nat) (res : Bytes) (resLen : Nat) (appr : Bool) : (finishJob s j st res resLen appr).measLog = s.measLog := by
  unfold finishJob; (repeat' split) <;> (simp; done)
@[simp] theorem finishJob_measNext (s : State) (j : Job) (st : Nat) (res : Bytes) (resLen : Nat) (appr : Bool) : (finishJob s j st res resLen appr).measNext = s.measNext := by
  unfold finishJob; (repeat' split) <;> (simp; done)
@[simp] theorem finishJob_measOverflow (s : State) (j : Job) (st : Nat) (res : Bytes) (resLen : Nat) (appr : Bool) : (finishJob s j st res resLen appr).measOverflow = s.measOverflow := by
  unfold finishJob; (repeat' split) <;> (simp; done)
@[simp] theorem finishJob_truncOffered (s : State) (j : Job) (st : Nat) (res : Bytes) (resLen : Nat) (appr : Bool) : (finishJob s j st res resLen appr).truncOffered = s.truncOffered := by
  unfold finishJob; (repeat' split) <;> (simp; done)
@[simp] theorem finishJob_slots (s : State) (j : Job) (st : Nat) (res : Bytes) (resLen : Nat) (appr : Bool) : (finishJob s j st res resLen appr).slots = s.slots := by
  unfold finishJob; (repeat' split) <;> (simp; done)
@[simp] theorem finishJob_pufSecret (s : State) (j : Job) (st : Nat) (res : Bytes) (resLen : Nat) (appr : Bool) : (finishJob s j st res resLen appr).pufSecret = s.pufSecret := by
  unfold finishJob; (repeat' split) <;> (simp; done)
@[simp] theorem finishJob_keyed (s : State) (j : Job) (st : Nat) (res : Bytes) (resLen : Nat) (appr : Bool) : (finishJob s j st res resLen appr).keyed = s.keyed := by
  unfold finishJob; (repeat' split) <;> (simp; done)
@[simp] theorem finishJob_cdk (s : State) (j : Job) (st : Nat) (res : Bytes) (resLen : Nat) (appr : Bool) : (finishJob s j st res resLen appr).cdk = s.cdk := by
  unfold finishJob; (repeat' split) <;> (simp; done)
@[simp] theorem finishJob_zeroised (s : State) (j : Job) (st : Nat) (res : Bytes) (resLen : Nat) (appr : Bool) : (finishJob s j st res resLen appr).zeroised = s.zeroised := by
  unfold finishJob; (repeat' split) <;> (simp; done)
@[simp] theorem finishJob_agate (s : State) (j : Job) (st : Nat) (res : Bytes) (resLen : Nat) (appr : Bool) : (finishJob s j st res resLen appr).agate = s.agate := by
  unfold finishJob; (repeat' split) <;> (simp; done)
@[simp] theorem finishJob_arith (s : State) (j : Job) (st : Nat) (res : Bytes) (resLen : Nat) (appr : Bool) : (finishJob s j st res resLen appr).arith = s.arith := by
  unfold finishJob; (repeat' split) <;> (simp; done)
@[simp] theorem finishJob_sources (s : State) (j : Job) (st : Nat) (res : Bytes) (resLen : Nat) (appr : Bool) : (finishJob s j st res resLen appr).sources = s.sources := by
  unfold finishJob; (repeat' split) <;> (simp; done)
@[simp] theorem finishJob_entropy (s : State) (j : Job) (st : Nat) (res : Bytes) (resLen : Nat) (appr : Bool) : (finishJob s j st res resLen appr).entropy = s.entropy := by
  unfold finishJob; (repeat' split) <;> (simp; done)
@[simp] theorem finishJob_filling (s : State) (j : Job) (st : Nat) (res : Bytes) (resLen : Nat) (appr : Bool) : (finishJob s j st res resLen appr).filling = s.filling := by
  unfold finishJob; (repeat' split) <;> (simp; done)
@[simp] theorem finishJob_lfsr (s : State) (j : Job) (st : Nat) (res : Bytes) (resLen : Nat) (appr : Bool) : (finishJob s j st res resLen appr).lfsr = s.lfsr := by
  unfold finishJob; (repeat' split) <;> (simp; done)
@[simp] theorem finishJob_drbgs (s : State) (j : Job) (st : Nat) (res : Bytes) (resLen : Nat) (appr : Bool) : (finishJob s j st res resLen appr).drbgs = s.drbgs := by
  unfold finishJob; (repeat' split) <;> (simp; done)
@[simp] theorem finishJob_cfg (s : State) (j : Job) (st : Nat) (res : Bytes) (resLen : Nat) (appr : Bool) : (finishJob s j st res resLen appr).cfg = s.cfg := by
  unfold finishJob; (repeat' split) <;> (simp; done)
@[simp] theorem finishJob_fuses (s : State) (j : Job) (st : Nat) (res : Bytes) (resLen : Nat) (appr : Bool) : (finishJob s j st res resLen appr).fuses = s.fuses := by
  unfold finishJob; (repeat' split) <;> (simp; done)
@[simp] theorem finishJob_boot (s : State) (j : Job) (st : Nat) (res : Bytes) (resLen : Nat) (appr : Bool) : (finishJob s j st res resLen appr).boot = s.boot := by
  unfold finishJob; (repeat' split) <;> (simp; done)
@[simp] theorem finishJob_lcs (s : State) (j : Job) (st : Nat) (res : Bytes) (resLen : Nat) (appr : Bool) : (finishJob s j st res resLen appr).lcs = s.lcs := by
  unfold finishJob; (repeat' split) <;> (simp; done)
@[simp] theorem finishJob_tamper (s : State) (j : Job) (st : Nat) (res : Bytes) (resLen : Nat) (appr : Bool) : (finishJob s j st res resLen appr).tamper = s.tamper := by
  unfold finishJob; (repeat' split) <;> (simp; done)
@[simp] theorem finishJob_pins (s : State) (j : Job) (st : Nat) (res : Bytes) (resLen : Nat) (appr : Bool) : (finishJob s j st res resLen appr).pins = s.pins := by
  unfold finishJob; (repeat' split) <;> (simp; done)
@[simp] theorem finishJob_wards (s : State) (j : Job) (st : Nat) (res : Bytes) (resLen : Nat) (appr : Bool) : (finishJob s j st res resLen appr).wards = s.wards := by
  unfold finishJob; (repeat' split) <;> (simp; done)
@[simp] theorem finishJob_tkn (s : State) (j : Job) (st : Nat) (res : Bytes) (resLen : Nat) (appr : Bool) : (finishJob s j st res resLen appr).tkn = s.tkn := by
  unfold finishJob; (repeat' split) <;> (simp; done)
@[simp] theorem finishJob_links (s : State) (j : Job) (st : Nat) (res : Bytes) (resLen : Nat) (appr : Bool) : (finishJob s j st res resLen appr).links = s.links := by
  unfold finishJob; (repeat' split) <;> (simp; done)
@[simp] theorem finishJob_fabric (s : State) (j : Job) (st : Nat) (res : Bytes) (resLen : Nat) (appr : Bool) : (finishJob s j st res resLen appr).fabric = s.fabric := by
  unfold finishJob; (repeat' split) <;> (simp; done)
@[simp] theorem finishJob_nor (s : State) (j : Job) (st : Nat) (res : Bytes) (resLen : Nat) (appr : Bool) : (finishJob s j st res resLen appr).nor = s.nor := by
  unfold finishJob; (repeat' split) <;> (simp; done)
@[simp] theorem finishJob_mem (s : State) (j : Job) (st : Nat) (res : Bytes) (resLen : Nat) (appr : Bool) : (finishJob s j st res resLen appr).mem = s.mem := by
  unfold finishJob; (repeat' split) <;> (simp; done)
@[simp] theorem finishJob_quartz (s : State) (j : Job) (st : Nat) (res : Bytes) (resLen : Nat) (appr : Bool) : (finishJob s j st res resLen appr).quartz = s.quartz := by
  unfold finishJob; (repeat' split) <;> (simp; done)
@[simp] theorem finishJob_freeIdx (s : State) (j : Job) (st : Nat) (res : Bytes) (resLen : Nat) (appr : Bool) : (finishJob s j st res resLen appr).freeIdx = s.freeIdx := by
  unfold finishJob; (repeat' split) <;> (simp; done)
@[simp] theorem finishJob_pending (s : State) (j : Job) (st : Nat) (res : Bytes) (resLen : Nat) (appr : Bool) : (finishJob s j st res resLen appr).pending = s.pending := by
  unfold finishJob; (repeat' split) <;> (simp; done)

/-! ### orderAndFinish -/

@[simp] theorem orderAndFinish_clk (s : State) (j : Job) (st : Nat) (res : Bytes) (resLen : Nat) (appr : Bool) : (orderAndFinish s j st res resLen appr).clk = s.clk := by
  unfold orderAndFinish; dsimp only; (repeat' split) <;> (simp; done)
@[simp] theorem orderAndFinish_mode (s : State) (j : Job) (st : Nat) (res : Bytes) (resLen : Nat) (appr : Bool) : (orderAndFinish s j st res resLen appr).mode = s.mode := by
  unfold orderAndFinish; dsimp only; (repeat' split) <;> (simp; done)
@[simp] theorem orderAndFinish_nextManifest (s : State) (j : Job) (st : Nat) (res : Bytes) (resLen : Nat) (appr : Bool) : (orderAndFinish s j st res resLen appr).nextManifest = s.nextManifest := by
  unfold orderAndFinish; dsimp only; (repeat' split) <;> (simp; done)
@[simp] theorem orderAndFinish_sealEngines (s : State) (j : Job) (st : Nat) (res : Bytes) (resLen : Nat) (appr : Bool) : (orderAndFinish s j st res resLen appr).sealEngines = s.sealEngines := by
  unfold orderAndFinish; dsimp only; (repeat' split) <;> (simp; done)
@[simp] theorem orderAndFinish_digests (s : State) (j : Job) (st : Nat) (res : Bytes) (resLen : Nat) (appr : Bool) : (orderAndFinish s j st res resLen appr).digests = s.digests := by
  unfold orderAndFinish; dsimp only; (repeat' split) <;> (simp; done)
@[simp] theorem orderAndFinish_meas (s : State) (j : Job) (st : Nat) (res : Bytes) (resLen : Nat) (appr : Bool) : (orderAndFinish s j st res resLen appr).meas = s.meas := by
  unfold orderAndFinish; dsimp only; (repeat' split) <;> (simp; done)
@[simp] theorem orderAndFinish_measLog (s : State) (j : Job) (st : Nat) (res : Bytes) (resLen : Nat) (appr : Bool) : (orderAndFinish s j st res resLen appr).measLog = s.measLog := by
  unfold orderAndFinish; dsimp only; (repeat' split) <;> (simp; done)
@[simp] theorem orderAndFinish_measNext (s : State) (j : Job) (st : Nat) (res : Bytes) (resLen : Nat) (appr : Bool) : (orderAndFinish s j st res resLen appr).measNext = s.measNext := by
  unfold orderAndFinish; dsimp only; (repeat' split) <;> (simp; done)
@[simp] theorem orderAndFinish_measOverflow (s : State) (j : Job) (st : Nat) (res : Bytes) (resLen : Nat) (appr : Bool) : (orderAndFinish s j st res resLen appr).measOverflow = s.measOverflow := by
  unfold orderAndFinish; dsimp only; (repeat' split) <;> (simp; done)
@[simp] theorem orderAndFinish_truncOffered (s : State) (j : Job) (st : Nat) (res : Bytes) (resLen : Nat) (appr : Bool) : (orderAndFinish s j st res resLen appr).truncOffered = s.truncOffered := by
  unfold orderAndFinish; dsimp only; (repeat' split) <;> (simp; done)
@[simp] theorem orderAndFinish_slots (s : State) (j : Job) (st : Nat) (res : Bytes) (resLen : Nat) (appr : Bool) : (orderAndFinish s j st res resLen appr).slots = s.slots := by
  unfold orderAndFinish; dsimp only; (repeat' split) <;> (simp; done)
@[simp] theorem orderAndFinish_pufSecret (s : State) (j : Job) (st : Nat) (res : Bytes) (resLen : Nat) (appr : Bool) : (orderAndFinish s j st res resLen appr).pufSecret = s.pufSecret := by
  unfold orderAndFinish; dsimp only; (repeat' split) <;> (simp; done)
@[simp] theorem orderAndFinish_keyed (s : State) (j : Job) (st : Nat) (res : Bytes) (resLen : Nat) (appr : Bool) : (orderAndFinish s j st res resLen appr).keyed = s.keyed := by
  unfold orderAndFinish; dsimp only; (repeat' split) <;> (simp; done)
@[simp] theorem orderAndFinish_cdk (s : State) (j : Job) (st : Nat) (res : Bytes) (resLen : Nat) (appr : Bool) : (orderAndFinish s j st res resLen appr).cdk = s.cdk := by
  unfold orderAndFinish; dsimp only; (repeat' split) <;> (simp; done)
@[simp] theorem orderAndFinish_zeroised (s : State) (j : Job) (st : Nat) (res : Bytes) (resLen : Nat) (appr : Bool) : (orderAndFinish s j st res resLen appr).zeroised = s.zeroised := by
  unfold orderAndFinish; dsimp only; (repeat' split) <;> (simp; done)
@[simp] theorem orderAndFinish_agate (s : State) (j : Job) (st : Nat) (res : Bytes) (resLen : Nat) (appr : Bool) : (orderAndFinish s j st res resLen appr).agate = s.agate := by
  unfold orderAndFinish; dsimp only; (repeat' split) <;> (simp; done)
@[simp] theorem orderAndFinish_arith (s : State) (j : Job) (st : Nat) (res : Bytes) (resLen : Nat) (appr : Bool) : (orderAndFinish s j st res resLen appr).arith = s.arith := by
  unfold orderAndFinish; dsimp only; (repeat' split) <;> (simp; done)
@[simp] theorem orderAndFinish_sources (s : State) (j : Job) (st : Nat) (res : Bytes) (resLen : Nat) (appr : Bool) : (orderAndFinish s j st res resLen appr).sources = s.sources := by
  unfold orderAndFinish; dsimp only; (repeat' split) <;> (simp; done)
@[simp] theorem orderAndFinish_entropy (s : State) (j : Job) (st : Nat) (res : Bytes) (resLen : Nat) (appr : Bool) : (orderAndFinish s j st res resLen appr).entropy = s.entropy := by
  unfold orderAndFinish; dsimp only; (repeat' split) <;> (simp; done)
@[simp] theorem orderAndFinish_filling (s : State) (j : Job) (st : Nat) (res : Bytes) (resLen : Nat) (appr : Bool) : (orderAndFinish s j st res resLen appr).filling = s.filling := by
  unfold orderAndFinish; dsimp only; (repeat' split) <;> (simp; done)
@[simp] theorem orderAndFinish_lfsr (s : State) (j : Job) (st : Nat) (res : Bytes) (resLen : Nat) (appr : Bool) : (orderAndFinish s j st res resLen appr).lfsr = s.lfsr := by
  unfold orderAndFinish; dsimp only; (repeat' split) <;> (simp; done)
@[simp] theorem orderAndFinish_drbgs (s : State) (j : Job) (st : Nat) (res : Bytes) (resLen : Nat) (appr : Bool) : (orderAndFinish s j st res resLen appr).drbgs = s.drbgs := by
  unfold orderAndFinish; dsimp only; (repeat' split) <;> (simp; done)
@[simp] theorem orderAndFinish_cfg (s : State) (j : Job) (st : Nat) (res : Bytes) (resLen : Nat) (appr : Bool) : (orderAndFinish s j st res resLen appr).cfg = s.cfg := by
  unfold orderAndFinish; dsimp only; (repeat' split) <;> (simp; done)
@[simp] theorem orderAndFinish_fuses (s : State) (j : Job) (st : Nat) (res : Bytes) (resLen : Nat) (appr : Bool) : (orderAndFinish s j st res resLen appr).fuses = s.fuses := by
  unfold orderAndFinish; dsimp only; (repeat' split) <;> (simp; done)
@[simp] theorem orderAndFinish_boot (s : State) (j : Job) (st : Nat) (res : Bytes) (resLen : Nat) (appr : Bool) : (orderAndFinish s j st res resLen appr).boot = s.boot := by
  unfold orderAndFinish; dsimp only; (repeat' split) <;> (simp; done)
@[simp] theorem orderAndFinish_lcs (s : State) (j : Job) (st : Nat) (res : Bytes) (resLen : Nat) (appr : Bool) : (orderAndFinish s j st res resLen appr).lcs = s.lcs := by
  unfold orderAndFinish; dsimp only; (repeat' split) <;> (simp; done)
@[simp] theorem orderAndFinish_tamper (s : State) (j : Job) (st : Nat) (res : Bytes) (resLen : Nat) (appr : Bool) : (orderAndFinish s j st res resLen appr).tamper = s.tamper := by
  unfold orderAndFinish; dsimp only; (repeat' split) <;> (simp; done)
@[simp] theorem orderAndFinish_pins (s : State) (j : Job) (st : Nat) (res : Bytes) (resLen : Nat) (appr : Bool) : (orderAndFinish s j st res resLen appr).pins = s.pins := by
  unfold orderAndFinish; dsimp only; (repeat' split) <;> (simp; done)
@[simp] theorem orderAndFinish_wards (s : State) (j : Job) (st : Nat) (res : Bytes) (resLen : Nat) (appr : Bool) : (orderAndFinish s j st res resLen appr).wards = s.wards := by
  unfold orderAndFinish; dsimp only; (repeat' split) <;> (simp; done)
@[simp] theorem orderAndFinish_tkn (s : State) (j : Job) (st : Nat) (res : Bytes) (resLen : Nat) (appr : Bool) : (orderAndFinish s j st res resLen appr).tkn = s.tkn := by
  unfold orderAndFinish; dsimp only; (repeat' split) <;> (simp; done)
@[simp] theorem orderAndFinish_links (s : State) (j : Job) (st : Nat) (res : Bytes) (resLen : Nat) (appr : Bool) : (orderAndFinish s j st res resLen appr).links = s.links := by
  unfold orderAndFinish; dsimp only; (repeat' split) <;> (simp; done)
@[simp] theorem orderAndFinish_fabric (s : State) (j : Job) (st : Nat) (res : Bytes) (resLen : Nat) (appr : Bool) : (orderAndFinish s j st res resLen appr).fabric = s.fabric := by
  unfold orderAndFinish; dsimp only; (repeat' split) <;> (simp; done)
@[simp] theorem orderAndFinish_nor (s : State) (j : Job) (st : Nat) (res : Bytes) (resLen : Nat) (appr : Bool) : (orderAndFinish s j st res resLen appr).nor = s.nor := by
  unfold orderAndFinish; dsimp only; (repeat' split) <;> (simp; done)
@[simp] theorem orderAndFinish_mem (s : State) (j : Job) (st : Nat) (res : Bytes) (resLen : Nat) (appr : Bool) : (orderAndFinish s j st res resLen appr).mem = s.mem := by
  unfold orderAndFinish; dsimp only; (repeat' split) <;> (simp; done)
@[simp] theorem orderAndFinish_quartz (s : State) (j : Job) (st : Nat) (res : Bytes) (resLen : Nat) (appr : Bool) : (orderAndFinish s j st res resLen appr).quartz = s.quartz := by
  unfold orderAndFinish; dsimp only; (repeat' split) <;> (simp; done)
@[simp] theorem orderAndFinish_freeIdx (s : State) (j : Job) (st : Nat) (res : Bytes) (resLen : Nat) (appr : Bool) : (orderAndFinish s j st res resLen appr).freeIdx = s.freeIdx := by
  unfold orderAndFinish; dsimp only; (repeat' split) <;> (simp; done)
@[simp] theorem orderAndFinish_pending (s : State) (j : Job) (st : Nat) (res : Bytes) (resLen : Nat) (appr : Bool) : (orderAndFinish s j st res resLen appr).pending = s.pending := by
  unfold orderAndFinish; dsimp only; (repeat' split) <;> (simp; done)

/-! ### endJob -/

@[simp] theorem endJob_clk (s : State) (j : Job) (st : Nat) (res : Bytes) (appr : Bool) : (endJob s j st res appr).clk = s.clk := by
  unfold endJob; (repeat' split) <;> first | (simp; done) | (rename_i h; simp [hostWrite_clk h]; done)
@[simp] theorem endJob_mode (s : State) (j : Job) (st : Nat) (res : Bytes) (appr : Bool) : (endJob s j st res appr).mode = s.mode := by
  unfold endJob; (repeat' split) <;> first | (simp; done) | (rename_i h; simp [hostWrite_mode h]; done)
@[simp] theorem endJob_nextManifest (s : State) (j : Job) (st : Nat) (res : Bytes) (appr : Bool) : (endJob s j st res appr).nextManifest = s.nextManifest := by
  unfold endJob; (repeat' split) <;> first | (simp; done) | (rename_i h; simp [hostWrite_nextManifest h]; done)
@[simp] theorem endJob_sealEngines (s : State) (j : Job) (st : Nat) (res : Bytes) (appr : Bool) : (endJob s j st res appr).sealEngines = s.sealEngines := by
  unfold endJob; (repeat' split) <;> first | (simp; done) | (rename_i h; simp [hostWrite_sealEngines h]; done)
@[simp] theorem endJob_digests (s : State) (j : Job) (st : Nat) (res : Bytes) (appr : Bool) : (endJob s j st res appr).digests = s.digests := by
  unfold endJob; (repeat' split) <;> first | (simp; done) | (rename_i h; simp [hostWrite_digests h]; done)
@[simp] theorem endJob_meas (s : State) (j : Job) (st : Nat) (res : Bytes) (appr : Bool) : (endJob s j st res appr).meas = s.meas := by
  unfold endJob; (repeat' split) <;> first | (simp; done) | (rename_i h; simp [hostWrite_meas h]; done)
@[simp] theorem endJob_measLog (s : State) (j : Job) (st : Nat) (res : Bytes) (appr : Bool) : (endJob s j st res appr).measLog = s.measLog := by
  unfold endJob; (repeat' split) <;> first | (simp; done) | (rename_i h; simp [hostWrite_measLog h]; done)
@[simp] theorem endJob_measNext (s : State) (j : Job) (st : Nat) (res : Bytes) (appr : Bool) : (endJob s j st res appr).measNext = s.measNext := by
  unfold endJob; (repeat' split) <;> first | (simp; done) | (rename_i h; simp [hostWrite_measNext h]; done)
@[simp] theorem endJob_measOverflow (s : State) (j : Job) (st : Nat) (res : Bytes) (appr : Bool) : (endJob s j st res appr).measOverflow = s.measOverflow := by
  unfold endJob; (repeat' split) <;> first | (simp; done) | (rename_i h; simp [hostWrite_measOverflow h]; done)
@[simp] theorem endJob_truncOffered (s : State) (j : Job) (st : Nat) (res : Bytes) (appr : Bool) : (endJob s j st res appr).truncOffered = s.truncOffered := by
  unfold endJob; (repeat' split) <;> first | (simp; done) | (rename_i h; simp [hostWrite_truncOffered h]; done)
@[simp] theorem endJob_slots (s : State) (j : Job) (st : Nat) (res : Bytes) (appr : Bool) : (endJob s j st res appr).slots = s.slots := by
  unfold endJob; (repeat' split) <;> first | (simp; done) | (rename_i h; simp [hostWrite_slots h]; done)
@[simp] theorem endJob_pufSecret (s : State) (j : Job) (st : Nat) (res : Bytes) (appr : Bool) : (endJob s j st res appr).pufSecret = s.pufSecret := by
  unfold endJob; (repeat' split) <;> first | (simp; done) | (rename_i h; simp [hostWrite_pufSecret h]; done)
@[simp] theorem endJob_keyed (s : State) (j : Job) (st : Nat) (res : Bytes) (appr : Bool) : (endJob s j st res appr).keyed = s.keyed := by
  unfold endJob; (repeat' split) <;> first | (simp; done) | (rename_i h; simp [hostWrite_keyed h]; done)
@[simp] theorem endJob_cdk (s : State) (j : Job) (st : Nat) (res : Bytes) (appr : Bool) : (endJob s j st res appr).cdk = s.cdk := by
  unfold endJob; (repeat' split) <;> first | (simp; done) | (rename_i h; simp [hostWrite_cdk h]; done)
@[simp] theorem endJob_zeroised (s : State) (j : Job) (st : Nat) (res : Bytes) (appr : Bool) : (endJob s j st res appr).zeroised = s.zeroised := by
  unfold endJob; (repeat' split) <;> first | (simp; done) | (rename_i h; simp [hostWrite_zeroised h]; done)
@[simp] theorem endJob_agate (s : State) (j : Job) (st : Nat) (res : Bytes) (appr : Bool) : (endJob s j st res appr).agate = s.agate := by
  unfold endJob; (repeat' split) <;> first | (simp; done) | (rename_i h; simp [hostWrite_agate h]; done)
@[simp] theorem endJob_arith (s : State) (j : Job) (st : Nat) (res : Bytes) (appr : Bool) : (endJob s j st res appr).arith = s.arith := by
  unfold endJob; (repeat' split) <;> first | (simp; done) | (rename_i h; simp [hostWrite_arith h]; done)
@[simp] theorem endJob_sources (s : State) (j : Job) (st : Nat) (res : Bytes) (appr : Bool) : (endJob s j st res appr).sources = s.sources := by
  unfold endJob; (repeat' split) <;> first | (simp; done) | (rename_i h; simp [hostWrite_sources h]; done)
@[simp] theorem endJob_entropy (s : State) (j : Job) (st : Nat) (res : Bytes) (appr : Bool) : (endJob s j st res appr).entropy = s.entropy := by
  unfold endJob; (repeat' split) <;> first | (simp; done) | (rename_i h; simp [hostWrite_entropy h]; done)
@[simp] theorem endJob_filling (s : State) (j : Job) (st : Nat) (res : Bytes) (appr : Bool) : (endJob s j st res appr).filling = s.filling := by
  unfold endJob; (repeat' split) <;> first | (simp; done) | (rename_i h; simp [hostWrite_filling h]; done)
@[simp] theorem endJob_lfsr (s : State) (j : Job) (st : Nat) (res : Bytes) (appr : Bool) : (endJob s j st res appr).lfsr = s.lfsr := by
  unfold endJob; (repeat' split) <;> first | (simp; done) | (rename_i h; simp [hostWrite_lfsr h]; done)
@[simp] theorem endJob_drbgs (s : State) (j : Job) (st : Nat) (res : Bytes) (appr : Bool) : (endJob s j st res appr).drbgs = s.drbgs := by
  unfold endJob; (repeat' split) <;> first | (simp; done) | (rename_i h; simp [hostWrite_drbgs h]; done)
@[simp] theorem endJob_cfg (s : State) (j : Job) (st : Nat) (res : Bytes) (appr : Bool) : (endJob s j st res appr).cfg = s.cfg := by
  unfold endJob; (repeat' split) <;> first | (simp; done) | (rename_i h; simp [hostWrite_cfg h]; done)
@[simp] theorem endJob_fuses (s : State) (j : Job) (st : Nat) (res : Bytes) (appr : Bool) : (endJob s j st res appr).fuses = s.fuses := by
  unfold endJob; (repeat' split) <;> first | (simp; done) | (rename_i h; simp [hostWrite_fuses h]; done)
@[simp] theorem endJob_boot (s : State) (j : Job) (st : Nat) (res : Bytes) (appr : Bool) : (endJob s j st res appr).boot = s.boot := by
  unfold endJob; (repeat' split) <;> first | (simp; done) | (rename_i h; simp [hostWrite_boot h]; done)
@[simp] theorem endJob_lcs (s : State) (j : Job) (st : Nat) (res : Bytes) (appr : Bool) : (endJob s j st res appr).lcs = s.lcs := by
  unfold endJob; (repeat' split) <;> first | (simp; done) | (rename_i h; simp [hostWrite_lcs h]; done)
@[simp] theorem endJob_tamper (s : State) (j : Job) (st : Nat) (res : Bytes) (appr : Bool) : (endJob s j st res appr).tamper = s.tamper := by
  unfold endJob; (repeat' split) <;> first | (simp; done) | (rename_i h; simp [hostWrite_tamper h]; done)
@[simp] theorem endJob_pins (s : State) (j : Job) (st : Nat) (res : Bytes) (appr : Bool) : (endJob s j st res appr).pins = s.pins := by
  unfold endJob; (repeat' split) <;> first | (simp; done) | (rename_i h; simp [hostWrite_pins h]; done)
@[simp] theorem endJob_wards (s : State) (j : Job) (st : Nat) (res : Bytes) (appr : Bool) : (endJob s j st res appr).wards = s.wards := by
  unfold endJob; (repeat' split) <;> first | (simp; done) | (rename_i h; simp [hostWrite_wards h]; done)
@[simp] theorem endJob_tkn (s : State) (j : Job) (st : Nat) (res : Bytes) (appr : Bool) : (endJob s j st res appr).tkn = s.tkn := by
  unfold endJob; (repeat' split) <;> first | (simp; done) | (rename_i h; simp [hostWrite_tkn h]; done)
@[simp] theorem endJob_links (s : State) (j : Job) (st : Nat) (res : Bytes) (appr : Bool) : (endJob s j st res appr).links = s.links := by
  unfold endJob; (repeat' split) <;> first | (simp; done) | (rename_i h; simp [hostWrite_links h]; done)
@[simp] theorem endJob_fabric (s : State) (j : Job) (st : Nat) (res : Bytes) (appr : Bool) : (endJob s j st res appr).fabric = s.fabric := by
  unfold endJob; (repeat' split) <;> first | (simp; done) | (rename_i h; simp [hostWrite_fabric h]; done)
@[simp] theorem endJob_nor (s : State) (j : Job) (st : Nat) (res : Bytes) (appr : Bool) : (endJob s j st res appr).nor = s.nor := by
  unfold endJob; (repeat' split) <;> first | (simp; done) | (rename_i h; simp [hostWrite_nor h]; done)
@[simp] theorem endJob_mem (s : State) (j : Job) (st : Nat) (res : Bytes) (appr : Bool) : (endJob s j st res appr).mem = s.mem := by
  unfold endJob; (repeat' split) <;> first | (simp; done) | (rename_i h; simp [hostWrite_mem h]; done)
@[simp] theorem endJob_quartz (s : State) (j : Job) (st : Nat) (res : Bytes) (appr : Bool) : (endJob s j st res appr).quartz = s.quartz := by
  unfold endJob; (repeat' split) <;> first | (simp; done) | (rename_i h; simp [hostWrite_quartz h]; done)
@[simp] theorem endJob_freeIdx (s : State) (j : Job) (st : Nat) (res : Bytes) (appr : Bool) : (endJob s j st res appr).freeIdx = s.freeIdx := by
  unfold endJob; (repeat' split) <;> first | (simp; done) | (rename_i h; simp [hostWrite_freeIdx h]; done)
@[simp] theorem endJob_pending (s : State) (j : Job) (st : Nat) (res : Bytes) (appr : Bool) : (endJob s j st res appr).pending = s.pending := by
  unfold endJob; (repeat' split) <;> first | (simp; done) | (rename_i h; simp [hostWrite_pending h]; done)

/-! ### failJob -/

@[simp] theorem failJob_clk (s : State) (j : Job) (st : Nat) : (failJob s j st).clk = s.clk := by
  unfold failJob; (repeat' split) <;> (simp; done)
@[simp] theorem failJob_mode (s : State) (j : Job) (st : Nat) : (failJob s j st).mode = s.mode := by
  unfold failJob; (repeat' split) <;> (simp; done)
@[simp] theorem failJob_nextManifest (s : State) (j : Job) (st : Nat) : (failJob s j st).nextManifest = s.nextManifest := by
  unfold failJob; (repeat' split) <;> (simp; done)
@[simp] theorem failJob_sealEngines (s : State) (j : Job) (st : Nat) : (failJob s j st).sealEngines = s.sealEngines := by
  unfold failJob; (repeat' split) <;> (simp; done)
@[simp] theorem failJob_digests (s : State) (j : Job) (st : Nat) : (failJob s j st).digests = s.digests := by
  unfold failJob; (repeat' split) <;> (simp; done)
@[simp] theorem failJob_meas (s : State) (j : Job) (st : Nat) : (failJob s j st).meas = s.meas := by
  unfold failJob; (repeat' split) <;> (simp; done)
@[simp] theorem failJob_measLog (s : State) (j : Job) (st : Nat) : (failJob s j st).measLog = s.measLog := by
  unfold failJob; (repeat' split) <;> (simp; done)
@[simp] theorem failJob_measNext (s : State) (j : Job) (st : Nat) : (failJob s j st).measNext = s.measNext := by
  unfold failJob; (repeat' split) <;> (simp; done)
@[simp] theorem failJob_measOverflow (s : State) (j : Job) (st : Nat) : (failJob s j st).measOverflow = s.measOverflow := by
  unfold failJob; (repeat' split) <;> (simp; done)
@[simp] theorem failJob_truncOffered (s : State) (j : Job) (st : Nat) : (failJob s j st).truncOffered = s.truncOffered := by
  unfold failJob; (repeat' split) <;> (simp; done)
@[simp] theorem failJob_slots (s : State) (j : Job) (st : Nat) : (failJob s j st).slots = s.slots := by
  unfold failJob; (repeat' split) <;> (simp; done)
@[simp] theorem failJob_pufSecret (s : State) (j : Job) (st : Nat) : (failJob s j st).pufSecret = s.pufSecret := by
  unfold failJob; (repeat' split) <;> (simp; done)
@[simp] theorem failJob_keyed (s : State) (j : Job) (st : Nat) : (failJob s j st).keyed = s.keyed := by
  unfold failJob; (repeat' split) <;> (simp; done)
@[simp] theorem failJob_cdk (s : State) (j : Job) (st : Nat) : (failJob s j st).cdk = s.cdk := by
  unfold failJob; (repeat' split) <;> (simp; done)
@[simp] theorem failJob_zeroised (s : State) (j : Job) (st : Nat) : (failJob s j st).zeroised = s.zeroised := by
  unfold failJob; (repeat' split) <;> (simp; done)
@[simp] theorem failJob_agate (s : State) (j : Job) (st : Nat) : (failJob s j st).agate = s.agate := by
  unfold failJob; (repeat' split) <;> (simp; done)
@[simp] theorem failJob_arith (s : State) (j : Job) (st : Nat) : (failJob s j st).arith = s.arith := by
  unfold failJob; (repeat' split) <;> (simp; done)
@[simp] theorem failJob_sources (s : State) (j : Job) (st : Nat) : (failJob s j st).sources = s.sources := by
  unfold failJob; (repeat' split) <;> (simp; done)
@[simp] theorem failJob_entropy (s : State) (j : Job) (st : Nat) : (failJob s j st).entropy = s.entropy := by
  unfold failJob; (repeat' split) <;> (simp; done)
@[simp] theorem failJob_filling (s : State) (j : Job) (st : Nat) : (failJob s j st).filling = s.filling := by
  unfold failJob; (repeat' split) <;> (simp; done)
@[simp] theorem failJob_lfsr (s : State) (j : Job) (st : Nat) : (failJob s j st).lfsr = s.lfsr := by
  unfold failJob; (repeat' split) <;> (simp; done)
@[simp] theorem failJob_drbgs (s : State) (j : Job) (st : Nat) : (failJob s j st).drbgs = s.drbgs := by
  unfold failJob; (repeat' split) <;> (simp; done)
@[simp] theorem failJob_cfg (s : State) (j : Job) (st : Nat) : (failJob s j st).cfg = s.cfg := by
  unfold failJob; (repeat' split) <;> (simp; done)
@[simp] theorem failJob_fuses (s : State) (j : Job) (st : Nat) : (failJob s j st).fuses = s.fuses := by
  unfold failJob; (repeat' split) <;> (simp; done)
@[simp] theorem failJob_boot (s : State) (j : Job) (st : Nat) : (failJob s j st).boot = s.boot := by
  unfold failJob; (repeat' split) <;> (simp; done)
@[simp] theorem failJob_lcs (s : State) (j : Job) (st : Nat) : (failJob s j st).lcs = s.lcs := by
  unfold failJob; (repeat' split) <;> (simp; done)
@[simp] theorem failJob_tamper (s : State) (j : Job) (st : Nat) : (failJob s j st).tamper = s.tamper := by
  unfold failJob; (repeat' split) <;> (simp; done)
@[simp] theorem failJob_pins (s : State) (j : Job) (st : Nat) : (failJob s j st).pins = s.pins := by
  unfold failJob; (repeat' split) <;> (simp; done)
@[simp] theorem failJob_wards (s : State) (j : Job) (st : Nat) : (failJob s j st).wards = s.wards := by
  unfold failJob; (repeat' split) <;> (simp; done)
@[simp] theorem failJob_tkn (s : State) (j : Job) (st : Nat) : (failJob s j st).tkn = s.tkn := by
  unfold failJob; (repeat' split) <;> (simp; done)
@[simp] theorem failJob_links (s : State) (j : Job) (st : Nat) : (failJob s j st).links = s.links := by
  unfold failJob; (repeat' split) <;> (simp; done)
@[simp] theorem failJob_fabric (s : State) (j : Job) (st : Nat) : (failJob s j st).fabric = s.fabric := by
  unfold failJob; (repeat' split) <;> (simp; done)
@[simp] theorem failJob_nor (s : State) (j : Job) (st : Nat) : (failJob s j st).nor = s.nor := by
  unfold failJob; (repeat' split) <;> (simp; done)
@[simp] theorem failJob_mem (s : State) (j : Job) (st : Nat) : (failJob s j st).mem = s.mem := by
  unfold failJob; (repeat' split) <;> (simp; done)
@[simp] theorem failJob_quartz (s : State) (j : Job) (st : Nat) : (failJob s j st).quartz = s.quartz := by
  unfold failJob; (repeat' split) <;> (simp; done)
@[simp] theorem failJob_freeIdx (s : State) (j : Job) (st : Nat) : (failJob s j st).freeIdx = s.freeIdx := by
  unfold failJob; (repeat' split) <;> (simp; done)
@[simp] theorem failJob_pending (s : State) (j : Job) (st : Nat) : (failJob s j st).pending = s.pending := by
  unfold failJob; (repeat' split) <;> (simp; done)

/-! ### okJob -/

@[simp] theorem okJob_clk (s : State) (j : Job) (res : Bytes) : (okJob s j res).clk = s.clk := by
  unfold okJob; (repeat' split) <;> (simp; done)
@[simp] theorem okJob_mode (s : State) (j : Job) (res : Bytes) : (okJob s j res).mode = s.mode := by
  unfold okJob; (repeat' split) <;> (simp; done)
@[simp] theorem okJob_nextManifest (s : State) (j : Job) (res : Bytes) : (okJob s j res).nextManifest = s.nextManifest := by
  unfold okJob; (repeat' split) <;> (simp; done)
@[simp] theorem okJob_sealEngines (s : State) (j : Job) (res : Bytes) : (okJob s j res).sealEngines = s.sealEngines := by
  unfold okJob; (repeat' split) <;> (simp; done)
@[simp] theorem okJob_digests (s : State) (j : Job) (res : Bytes) : (okJob s j res).digests = s.digests := by
  unfold okJob; (repeat' split) <;> (simp; done)
@[simp] theorem okJob_meas (s : State) (j : Job) (res : Bytes) : (okJob s j res).meas = s.meas := by
  unfold okJob; (repeat' split) <;> (simp; done)
@[simp] theorem okJob_measLog (s : State) (j : Job) (res : Bytes) : (okJob s j res).measLog = s.measLog := by
  unfold okJob; (repeat' split) <;> (simp; done)
@[simp] theorem okJob_measNext (s : State) (j : Job) (res : Bytes) : (okJob s j res).measNext = s.measNext := by
  unfold okJob; (repeat' split) <;> (simp; done)
@[simp] theorem okJob_measOverflow (s : State) (j : Job) (res : Bytes) : (okJob s j res).measOverflow = s.measOverflow := by
  unfold okJob; (repeat' split) <;> (simp; done)
@[simp] theorem okJob_truncOffered (s : State) (j : Job) (res : Bytes) : (okJob s j res).truncOffered = s.truncOffered := by
  unfold okJob; (repeat' split) <;> (simp; done)
@[simp] theorem okJob_slots (s : State) (j : Job) (res : Bytes) : (okJob s j res).slots = s.slots := by
  unfold okJob; (repeat' split) <;> (simp; done)
@[simp] theorem okJob_pufSecret (s : State) (j : Job) (res : Bytes) : (okJob s j res).pufSecret = s.pufSecret := by
  unfold okJob; (repeat' split) <;> (simp; done)
@[simp] theorem okJob_keyed (s : State) (j : Job) (res : Bytes) : (okJob s j res).keyed = s.keyed := by
  unfold okJob; (repeat' split) <;> (simp; done)
@[simp] theorem okJob_cdk (s : State) (j : Job) (res : Bytes) : (okJob s j res).cdk = s.cdk := by
  unfold okJob; (repeat' split) <;> (simp; done)
@[simp] theorem okJob_zeroised (s : State) (j : Job) (res : Bytes) : (okJob s j res).zeroised = s.zeroised := by
  unfold okJob; (repeat' split) <;> (simp; done)
@[simp] theorem okJob_agate (s : State) (j : Job) (res : Bytes) : (okJob s j res).agate = s.agate := by
  unfold okJob; (repeat' split) <;> (simp; done)
@[simp] theorem okJob_arith (s : State) (j : Job) (res : Bytes) : (okJob s j res).arith = s.arith := by
  unfold okJob; (repeat' split) <;> (simp; done)
@[simp] theorem okJob_sources (s : State) (j : Job) (res : Bytes) : (okJob s j res).sources = s.sources := by
  unfold okJob; (repeat' split) <;> (simp; done)
@[simp] theorem okJob_entropy (s : State) (j : Job) (res : Bytes) : (okJob s j res).entropy = s.entropy := by
  unfold okJob; (repeat' split) <;> (simp; done)
@[simp] theorem okJob_filling (s : State) (j : Job) (res : Bytes) : (okJob s j res).filling = s.filling := by
  unfold okJob; (repeat' split) <;> (simp; done)
@[simp] theorem okJob_lfsr (s : State) (j : Job) (res : Bytes) : (okJob s j res).lfsr = s.lfsr := by
  unfold okJob; (repeat' split) <;> (simp; done)
@[simp] theorem okJob_drbgs (s : State) (j : Job) (res : Bytes) : (okJob s j res).drbgs = s.drbgs := by
  unfold okJob; (repeat' split) <;> (simp; done)
@[simp] theorem okJob_cfg (s : State) (j : Job) (res : Bytes) : (okJob s j res).cfg = s.cfg := by
  unfold okJob; (repeat' split) <;> (simp; done)
@[simp] theorem okJob_fuses (s : State) (j : Job) (res : Bytes) : (okJob s j res).fuses = s.fuses := by
  unfold okJob; (repeat' split) <;> (simp; done)
@[simp] theorem okJob_boot (s : State) (j : Job) (res : Bytes) : (okJob s j res).boot = s.boot := by
  unfold okJob; (repeat' split) <;> (simp; done)
@[simp] theorem okJob_lcs (s : State) (j : Job) (res : Bytes) : (okJob s j res).lcs = s.lcs := by
  unfold okJob; (repeat' split) <;> (simp; done)
@[simp] theorem okJob_tamper (s : State) (j : Job) (res : Bytes) : (okJob s j res).tamper = s.tamper := by
  unfold okJob; (repeat' split) <;> (simp; done)
@[simp] theorem okJob_pins (s : State) (j : Job) (res : Bytes) : (okJob s j res).pins = s.pins := by
  unfold okJob; (repeat' split) <;> (simp; done)
@[simp] theorem okJob_wards (s : State) (j : Job) (res : Bytes) : (okJob s j res).wards = s.wards := by
  unfold okJob; (repeat' split) <;> (simp; done)
@[simp] theorem okJob_tkn (s : State) (j : Job) (res : Bytes) : (okJob s j res).tkn = s.tkn := by
  unfold okJob; (repeat' split) <;> (simp; done)
@[simp] theorem okJob_links (s : State) (j : Job) (res : Bytes) : (okJob s j res).links = s.links := by
  unfold okJob; (repeat' split) <;> (simp; done)
@[simp] theorem okJob_fabric (s : State) (j : Job) (res : Bytes) : (okJob s j res).fabric = s.fabric := by
  unfold okJob; (repeat' split) <;> (simp; done)
@[simp] theorem okJob_nor (s : State) (j : Job) (res : Bytes) : (okJob s j res).nor = s.nor := by
  unfold okJob; (repeat' split) <;> (simp; done)
@[simp] theorem okJob_mem (s : State) (j : Job) (res : Bytes) : (okJob s j res).mem = s.mem := by
  unfold okJob; (repeat' split) <;> (simp; done)
@[simp] theorem okJob_quartz (s : State) (j : Job) (res : Bytes) : (okJob s j res).quartz = s.quartz := by
  unfold okJob; (repeat' split) <;> (simp; done)
@[simp] theorem okJob_freeIdx (s : State) (j : Job) (res : Bytes) : (okJob s j res).freeIdx = s.freeIdx := by
  unfold okJob; (repeat' split) <;> (simp; done)
@[simp] theorem okJob_pending (s : State) (j : Job) (res : Bytes) : (okJob s j res).pending = s.pending := by
  unfold okJob; (repeat' split) <;> (simp; done)

/-! ### blockedJob -/

@[simp] theorem blockedJob_clk (s : State) (j : Job) (r : HostRef) : (blockedJob s j r).clk = s.clk := by
  unfold blockedJob; (repeat' split) <;> (simp; done)
@[simp] theorem blockedJob_mode (s : State) (j : Job) (r : HostRef) : (blockedJob s j r).mode = s.mode := by
  unfold blockedJob; (repeat' split) <;> (simp; done)
@[simp] theorem blockedJob_nextManifest (s : State) (j : Job) (r : HostRef) : (blockedJob s j r).nextManifest = s.nextManifest := by
  unfold blockedJob; (repeat' split) <;> (simp; done)
@[simp] theorem blockedJob_sealEngines (s : State) (j : Job) (r : HostRef) : (blockedJob s j r).sealEngines = s.sealEngines := by
  unfold blockedJob; (repeat' split) <;> (simp; done)
@[simp] theorem blockedJob_digests (s : State) (j : Job) (r : HostRef) : (blockedJob s j r).digests = s.digests := by
  unfold blockedJob; (repeat' split) <;> (simp; done)
@[simp] theorem blockedJob_meas (s : State) (j : Job) (r : HostRef) : (blockedJob s j r).meas = s.meas := by
  unfold blockedJob; (repeat' split) <;> (simp; done)
@[simp] theorem blockedJob_measLog (s : State) (j : Job) (r : HostRef) : (blockedJob s j r).measLog = s.measLog := by
  unfold blockedJob; (repeat' split) <;> (simp; done)
@[simp] theorem blockedJob_measNext (s : State) (j : Job) (r : HostRef) : (blockedJob s j r).measNext = s.measNext := by
  unfold blockedJob; (repeat' split) <;> (simp; done)
@[simp] theorem blockedJob_measOverflow (s : State) (j : Job) (r : HostRef) : (blockedJob s j r).measOverflow = s.measOverflow := by
  unfold blockedJob; (repeat' split) <;> (simp; done)
@[simp] theorem blockedJob_truncOffered (s : State) (j : Job) (r : HostRef) : (blockedJob s j r).truncOffered = s.truncOffered := by
  unfold blockedJob; (repeat' split) <;> (simp; done)
@[simp] theorem blockedJob_slots (s : State) (j : Job) (r : HostRef) : (blockedJob s j r).slots = s.slots := by
  unfold blockedJob; (repeat' split) <;> (simp; done)
@[simp] theorem blockedJob_pufSecret (s : State) (j : Job) (r : HostRef) : (blockedJob s j r).pufSecret = s.pufSecret := by
  unfold blockedJob; (repeat' split) <;> (simp; done)
@[simp] theorem blockedJob_keyed (s : State) (j : Job) (r : HostRef) : (blockedJob s j r).keyed = s.keyed := by
  unfold blockedJob; (repeat' split) <;> (simp; done)
@[simp] theorem blockedJob_cdk (s : State) (j : Job) (r : HostRef) : (blockedJob s j r).cdk = s.cdk := by
  unfold blockedJob; (repeat' split) <;> (simp; done)
@[simp] theorem blockedJob_zeroised (s : State) (j : Job) (r : HostRef) : (blockedJob s j r).zeroised = s.zeroised := by
  unfold blockedJob; (repeat' split) <;> (simp; done)
@[simp] theorem blockedJob_agate (s : State) (j : Job) (r : HostRef) : (blockedJob s j r).agate = s.agate := by
  unfold blockedJob; (repeat' split) <;> (simp; done)
@[simp] theorem blockedJob_arith (s : State) (j : Job) (r : HostRef) : (blockedJob s j r).arith = s.arith := by
  unfold blockedJob; (repeat' split) <;> (simp; done)
@[simp] theorem blockedJob_sources (s : State) (j : Job) (r : HostRef) : (blockedJob s j r).sources = s.sources := by
  unfold blockedJob; (repeat' split) <;> (simp; done)
@[simp] theorem blockedJob_entropy (s : State) (j : Job) (r : HostRef) : (blockedJob s j r).entropy = s.entropy := by
  unfold blockedJob; (repeat' split) <;> (simp; done)
@[simp] theorem blockedJob_filling (s : State) (j : Job) (r : HostRef) : (blockedJob s j r).filling = s.filling := by
  unfold blockedJob; (repeat' split) <;> (simp; done)
@[simp] theorem blockedJob_lfsr (s : State) (j : Job) (r : HostRef) : (blockedJob s j r).lfsr = s.lfsr := by
  unfold blockedJob; (repeat' split) <;> (simp; done)
@[simp] theorem blockedJob_drbgs (s : State) (j : Job) (r : HostRef) : (blockedJob s j r).drbgs = s.drbgs := by
  unfold blockedJob; (repeat' split) <;> (simp; done)
@[simp] theorem blockedJob_cfg (s : State) (j : Job) (r : HostRef) : (blockedJob s j r).cfg = s.cfg := by
  unfold blockedJob; (repeat' split) <;> (simp; done)
@[simp] theorem blockedJob_fuses (s : State) (j : Job) (r : HostRef) : (blockedJob s j r).fuses = s.fuses := by
  unfold blockedJob; (repeat' split) <;> (simp; done)
@[simp] theorem blockedJob_boot (s : State) (j : Job) (r : HostRef) : (blockedJob s j r).boot = s.boot := by
  unfold blockedJob; (repeat' split) <;> (simp; done)
@[simp] theorem blockedJob_lcs (s : State) (j : Job) (r : HostRef) : (blockedJob s j r).lcs = s.lcs := by
  unfold blockedJob; (repeat' split) <;> (simp; done)
@[simp] theorem blockedJob_tamper (s : State) (j : Job) (r : HostRef) : (blockedJob s j r).tamper = s.tamper := by
  unfold blockedJob; (repeat' split) <;> (simp; done)
@[simp] theorem blockedJob_pins (s : State) (j : Job) (r : HostRef) : (blockedJob s j r).pins = s.pins := by
  unfold blockedJob; (repeat' split) <;> (simp; done)
@[simp] theorem blockedJob_wards (s : State) (j : Job) (r : HostRef) : (blockedJob s j r).wards = s.wards := by
  unfold blockedJob; (repeat' split) <;> (simp; done)
@[simp] theorem blockedJob_tkn (s : State) (j : Job) (r : HostRef) : (blockedJob s j r).tkn = s.tkn := by
  unfold blockedJob; (repeat' split) <;> (simp; done)
@[simp] theorem blockedJob_links (s : State) (j : Job) (r : HostRef) : (blockedJob s j r).links = s.links := by
  unfold blockedJob; (repeat' split) <;> (simp; done)
@[simp] theorem blockedJob_fabric (s : State) (j : Job) (r : HostRef) : (blockedJob s j r).fabric = s.fabric := by
  unfold blockedJob; (repeat' split) <;> (simp; done)
@[simp] theorem blockedJob_nor (s : State) (j : Job) (r : HostRef) : (blockedJob s j r).nor = s.nor := by
  unfold blockedJob; (repeat' split) <;> (simp; done)
@[simp] theorem blockedJob_mem (s : State) (j : Job) (r : HostRef) : (blockedJob s j r).mem = s.mem := by
  unfold blockedJob; (repeat' split) <;> (simp; done)
@[simp] theorem blockedJob_quartz (s : State) (j : Job) (r : HostRef) : (blockedJob s j r).quartz = s.quartz := by
  unfold blockedJob; (repeat' split) <;> (simp; done)
@[simp] theorem blockedJob_freeIdx (s : State) (j : Job) (r : HostRef) : (blockedJob s j r).freeIdx = s.freeIdx := by
  unfold blockedJob; (repeat' split) <;> (simp; done)
@[simp] theorem blockedJob_pending (s : State) (j : Job) (r : HostRef) : (blockedJob s j r).pending = s.pending := by
  unfold blockedJob; (repeat' split) <;> (simp; done)

/-! ### writeAndEnd -/

@[simp] theorem writeAndEnd_clk (s : State) (j : Job) (r : HostRef) (bs : Bytes) (st : Nat) (res : Bytes) (appr : Bool) : (writeAndEnd s j r bs st res appr).clk = s.clk := by
  unfold writeAndEnd; (repeat' split) <;> first | (simp; done) | (rename_i h; simp [hostWrite_clk h]; done)
@[simp] theorem writeAndEnd_mode (s : State) (j : Job) (r : HostRef) (bs : Bytes) (st : Nat) (res : Bytes) (appr : Bool) : (writeAndEnd s j r bs st res appr).mode = s.mode := by
  unfold writeAndEnd; (repeat' split) <;> first | (simp; done) | (rename_i h; simp [hostWrite_mode h]; done)
@[simp] theorem writeAndEnd_nextManifest (s : State) (j : Job) (r : HostRef) (bs : Bytes) (st : Nat) (res : Bytes) (appr : Bool) : (writeAndEnd s j r bs st res appr).nextManifest = s.nextManifest := by
  unfold writeAndEnd; (repeat' split) <;> first | (simp; done) | (rename_i h; simp [hostWrite_nextManifest h]; done)
@[simp] theorem writeAndEnd_sealEngines (s : State) (j : Job) (r : HostRef) (bs : Bytes) (st : Nat) (res : Bytes) (appr : Bool) : (writeAndEnd s j r bs st res appr).sealEngines = s.sealEngines := by
  unfold writeAndEnd; (repeat' split) <;> first | (simp; done) | (rename_i h; simp [hostWrite_sealEngines h]; done)
@[simp] theorem writeAndEnd_digests (s : State) (j : Job) (r : HostRef) (bs : Bytes) (st : Nat) (res : Bytes) (appr : Bool) : (writeAndEnd s j r bs st res appr).digests = s.digests := by
  unfold writeAndEnd; (repeat' split) <;> first | (simp; done) | (rename_i h; simp [hostWrite_digests h]; done)
@[simp] theorem writeAndEnd_meas (s : State) (j : Job) (r : HostRef) (bs : Bytes) (st : Nat) (res : Bytes) (appr : Bool) : (writeAndEnd s j r bs st res appr).meas = s.meas := by
  unfold writeAndEnd; (repeat' split) <;> first | (simp; done) | (rename_i h; simp [hostWrite_meas h]; done)
@[simp] theorem writeAndEnd_measLog (s : State) (j : Job) (r : HostRef) (bs : Bytes) (st : Nat) (res : Bytes) (appr : Bool) : (writeAndEnd s j r bs st res appr).measLog = s.measLog := by
  unfold writeAndEnd; (repeat' split) <;> first | (simp; done) | (rename_i h; simp [hostWrite_measLog h]; done)
@[simp] theorem writeAndEnd_measNext (s : State) (j : Job) (r : HostRef) (bs : Bytes) (st : Nat) (res : Bytes) (appr : Bool) : (writeAndEnd s j r bs st res appr).measNext = s.measNext := by
  unfold writeAndEnd; (repeat' split) <;> first | (simp; done) | (rename_i h; simp [hostWrite_measNext h]; done)
@[simp] theorem writeAndEnd_measOverflow (s : State) (j : Job) (r : HostRef) (bs : Bytes) (st : Nat) (res : Bytes) (appr : Bool) : (writeAndEnd s j r bs st res appr).measOverflow = s.measOverflow := by
  unfold writeAndEnd; (repeat' split) <;> first | (simp; done) | (rename_i h; simp [hostWrite_measOverflow h]; done)
@[simp] theorem writeAndEnd_truncOffered (s : State) (j : Job) (r : HostRef) (bs : Bytes) (st : Nat) (res : Bytes) (appr : Bool) : (writeAndEnd s j r bs st res appr).truncOffered = s.truncOffered := by
  unfold writeAndEnd; (repeat' split) <;> first | (simp; done) | (rename_i h; simp [hostWrite_truncOffered h]; done)
@[simp] theorem writeAndEnd_slots (s : State) (j : Job) (r : HostRef) (bs : Bytes) (st : Nat) (res : Bytes) (appr : Bool) : (writeAndEnd s j r bs st res appr).slots = s.slots := by
  unfold writeAndEnd; (repeat' split) <;> first | (simp; done) | (rename_i h; simp [hostWrite_slots h]; done)
@[simp] theorem writeAndEnd_pufSecret (s : State) (j : Job) (r : HostRef) (bs : Bytes) (st : Nat) (res : Bytes) (appr : Bool) : (writeAndEnd s j r bs st res appr).pufSecret = s.pufSecret := by
  unfold writeAndEnd; (repeat' split) <;> first | (simp; done) | (rename_i h; simp [hostWrite_pufSecret h]; done)
@[simp] theorem writeAndEnd_keyed (s : State) (j : Job) (r : HostRef) (bs : Bytes) (st : Nat) (res : Bytes) (appr : Bool) : (writeAndEnd s j r bs st res appr).keyed = s.keyed := by
  unfold writeAndEnd; (repeat' split) <;> first | (simp; done) | (rename_i h; simp [hostWrite_keyed h]; done)
@[simp] theorem writeAndEnd_cdk (s : State) (j : Job) (r : HostRef) (bs : Bytes) (st : Nat) (res : Bytes) (appr : Bool) : (writeAndEnd s j r bs st res appr).cdk = s.cdk := by
  unfold writeAndEnd; (repeat' split) <;> first | (simp; done) | (rename_i h; simp [hostWrite_cdk h]; done)
@[simp] theorem writeAndEnd_zeroised (s : State) (j : Job) (r : HostRef) (bs : Bytes) (st : Nat) (res : Bytes) (appr : Bool) : (writeAndEnd s j r bs st res appr).zeroised = s.zeroised := by
  unfold writeAndEnd; (repeat' split) <;> first | (simp; done) | (rename_i h; simp [hostWrite_zeroised h]; done)
@[simp] theorem writeAndEnd_agate (s : State) (j : Job) (r : HostRef) (bs : Bytes) (st : Nat) (res : Bytes) (appr : Bool) : (writeAndEnd s j r bs st res appr).agate = s.agate := by
  unfold writeAndEnd; (repeat' split) <;> first | (simp; done) | (rename_i h; simp [hostWrite_agate h]; done)
@[simp] theorem writeAndEnd_arith (s : State) (j : Job) (r : HostRef) (bs : Bytes) (st : Nat) (res : Bytes) (appr : Bool) : (writeAndEnd s j r bs st res appr).arith = s.arith := by
  unfold writeAndEnd; (repeat' split) <;> first | (simp; done) | (rename_i h; simp [hostWrite_arith h]; done)
@[simp] theorem writeAndEnd_sources (s : State) (j : Job) (r : HostRef) (bs : Bytes) (st : Nat) (res : Bytes) (appr : Bool) : (writeAndEnd s j r bs st res appr).sources = s.sources := by
  unfold writeAndEnd; (repeat' split) <;> first | (simp; done) | (rename_i h; simp [hostWrite_sources h]; done)
@[simp] theorem writeAndEnd_entropy (s : State) (j : Job) (r : HostRef) (bs : Bytes) (st : Nat) (res : Bytes) (appr : Bool) : (writeAndEnd s j r bs st res appr).entropy = s.entropy := by
  unfold writeAndEnd; (repeat' split) <;> first | (simp; done) | (rename_i h; simp [hostWrite_entropy h]; done)
@[simp] theorem writeAndEnd_filling (s : State) (j : Job) (r : HostRef) (bs : Bytes) (st : Nat) (res : Bytes) (appr : Bool) : (writeAndEnd s j r bs st res appr).filling = s.filling := by
  unfold writeAndEnd; (repeat' split) <;> first | (simp; done) | (rename_i h; simp [hostWrite_filling h]; done)
@[simp] theorem writeAndEnd_lfsr (s : State) (j : Job) (r : HostRef) (bs : Bytes) (st : Nat) (res : Bytes) (appr : Bool) : (writeAndEnd s j r bs st res appr).lfsr = s.lfsr := by
  unfold writeAndEnd; (repeat' split) <;> first | (simp; done) | (rename_i h; simp [hostWrite_lfsr h]; done)
@[simp] theorem writeAndEnd_drbgs (s : State) (j : Job) (r : HostRef) (bs : Bytes) (st : Nat) (res : Bytes) (appr : Bool) : (writeAndEnd s j r bs st res appr).drbgs = s.drbgs := by
  unfold writeAndEnd; (repeat' split) <;> first | (simp; done) | (rename_i h; simp [hostWrite_drbgs h]; done)
@[simp] theorem writeAndEnd_cfg (s : State) (j : Job) (r : HostRef) (bs : Bytes) (st : Nat) (res : Bytes) (appr : Bool) : (writeAndEnd s j r bs st res appr).cfg = s.cfg := by
  unfold writeAndEnd; (repeat' split) <;> first | (simp; done) | (rename_i h; simp [hostWrite_cfg h]; done)
@[simp] theorem writeAndEnd_fuses (s : State) (j : Job) (r : HostRef) (bs : Bytes) (st : Nat) (res : Bytes) (appr : Bool) : (writeAndEnd s j r bs st res appr).fuses = s.fuses := by
  unfold writeAndEnd; (repeat' split) <;> first | (simp; done) | (rename_i h; simp [hostWrite_fuses h]; done)
@[simp] theorem writeAndEnd_boot (s : State) (j : Job) (r : HostRef) (bs : Bytes) (st : Nat) (res : Bytes) (appr : Bool) : (writeAndEnd s j r bs st res appr).boot = s.boot := by
  unfold writeAndEnd; (repeat' split) <;> first | (simp; done) | (rename_i h; simp [hostWrite_boot h]; done)
@[simp] theorem writeAndEnd_lcs (s : State) (j : Job) (r : HostRef) (bs : Bytes) (st : Nat) (res : Bytes) (appr : Bool) : (writeAndEnd s j r bs st res appr).lcs = s.lcs := by
  unfold writeAndEnd; (repeat' split) <;> first | (simp; done) | (rename_i h; simp [hostWrite_lcs h]; done)
@[simp] theorem writeAndEnd_tamper (s : State) (j : Job) (r : HostRef) (bs : Bytes) (st : Nat) (res : Bytes) (appr : Bool) : (writeAndEnd s j r bs st res appr).tamper = s.tamper := by
  unfold writeAndEnd; (repeat' split) <;> first | (simp; done) | (rename_i h; simp [hostWrite_tamper h]; done)
@[simp] theorem writeAndEnd_pins (s : State) (j : Job) (r : HostRef) (bs : Bytes) (st : Nat) (res : Bytes) (appr : Bool) : (writeAndEnd s j r bs st res appr).pins = s.pins := by
  unfold writeAndEnd; (repeat' split) <;> first | (simp; done) | (rename_i h; simp [hostWrite_pins h]; done)
@[simp] theorem writeAndEnd_wards (s : State) (j : Job) (r : HostRef) (bs : Bytes) (st : Nat) (res : Bytes) (appr : Bool) : (writeAndEnd s j r bs st res appr).wards = s.wards := by
  unfold writeAndEnd; (repeat' split) <;> first | (simp; done) | (rename_i h; simp [hostWrite_wards h]; done)
@[simp] theorem writeAndEnd_tkn (s : State) (j : Job) (r : HostRef) (bs : Bytes) (st : Nat) (res : Bytes) (appr : Bool) : (writeAndEnd s j r bs st res appr).tkn = s.tkn := by
  unfold writeAndEnd; (repeat' split) <;> first | (simp; done) | (rename_i h; simp [hostWrite_tkn h]; done)
@[simp] theorem writeAndEnd_links (s : State) (j : Job) (r : HostRef) (bs : Bytes) (st : Nat) (res : Bytes) (appr : Bool) : (writeAndEnd s j r bs st res appr).links = s.links := by
  unfold writeAndEnd; (repeat' split) <;> first | (simp; done) | (rename_i h; simp [hostWrite_links h]; done)
@[simp] theorem writeAndEnd_fabric (s : State) (j : Job) (r : HostRef) (bs : Bytes) (st : Nat) (res : Bytes) (appr : Bool) : (writeAndEnd s j r bs st res appr).fabric = s.fabric := by
  unfold writeAndEnd; (repeat' split) <;> first | (simp; done) | (rename_i h; simp [hostWrite_fabric h]; done)
@[simp] theorem writeAndEnd_nor (s : State) (j : Job) (r : HostRef) (bs : Bytes) (st : Nat) (res : Bytes) (appr : Bool) : (writeAndEnd s j r bs st res appr).nor = s.nor := by
  unfold writeAndEnd; (repeat' split) <;> first | (simp; done) | (rename_i h; simp [hostWrite_nor h]; done)
@[simp] theorem writeAndEnd_mem (s : State) (j : Job) (r : HostRef) (bs : Bytes) (st : Nat) (res : Bytes) (appr : Bool) : (writeAndEnd s j r bs st res appr).mem = s.mem := by
  unfold writeAndEnd; (repeat' split) <;> first | (simp; done) | (rename_i h; simp [hostWrite_mem h]; done)
@[simp] theorem writeAndEnd_quartz (s : State) (j : Job) (r : HostRef) (bs : Bytes) (st : Nat) (res : Bytes) (appr : Bool) : (writeAndEnd s j r bs st res appr).quartz = s.quartz := by
  unfold writeAndEnd; (repeat' split) <;> first | (simp; done) | (rename_i h; simp [hostWrite_quartz h]; done)
@[simp] theorem writeAndEnd_freeIdx (s : State) (j : Job) (r : HostRef) (bs : Bytes) (st : Nat) (res : Bytes) (appr : Bool) : (writeAndEnd s j r bs st res appr).freeIdx = s.freeIdx := by
  unfold writeAndEnd; (repeat' split) <;> first | (simp; done) | (rename_i h; simp [hostWrite_freeIdx h]; done)
@[simp] theorem writeAndEnd_pending (s : State) (j : Job) (r : HostRef) (bs : Bytes) (st : Nat) (res : Bytes) (appr : Bool) : (writeAndEnd s j r bs st res appr).pending = s.pending := by
  unfold writeAndEnd; (repeat' split) <;> first | (simp; done) | (rename_i h; simp [hostWrite_pending h]; done)

/-! ### readOrEnd -/

@[simp] theorem readOrEnd_clk (s : State) (j : Job) (refs : List HostRef) : (readOrEnd s j refs).clk = s.clk := by
  unfold readOrEnd; (repeat' split) <;> first | (simp; done) | (rename_i h; simp [issueReads_clk h]; done)
@[simp] theorem readOrEnd_mode (s : State) (j : Job) (refs : List HostRef) : (readOrEnd s j refs).mode = s.mode := by
  unfold readOrEnd; (repeat' split) <;> first | (simp; done) | (rename_i h; simp [issueReads_mode h]; done)
@[simp] theorem readOrEnd_nextManifest (s : State) (j : Job) (refs : List HostRef) : (readOrEnd s j refs).nextManifest = s.nextManifest := by
  unfold readOrEnd; (repeat' split) <;> first | (simp; done) | (rename_i h; simp [issueReads_nextManifest h]; done)
@[simp] theorem readOrEnd_sealEngines (s : State) (j : Job) (refs : List HostRef) : (readOrEnd s j refs).sealEngines = s.sealEngines := by
  unfold readOrEnd; (repeat' split) <;> first | (simp; done) | (rename_i h; simp [issueReads_sealEngines h]; done)
@[simp] theorem readOrEnd_digests (s : State) (j : Job) (refs : List HostRef) : (readOrEnd s j refs).digests = s.digests := by
  unfold readOrEnd; (repeat' split) <;> first | (simp; done) | (rename_i h; simp [issueReads_digests h]; done)
@[simp] theorem readOrEnd_meas (s : State) (j : Job) (refs : List HostRef) : (readOrEnd s j refs).meas = s.meas := by
  unfold readOrEnd; (repeat' split) <;> first | (simp; done) | (rename_i h; simp [issueReads_meas h]; done)
@[simp] theorem readOrEnd_measLog (s : State) (j : Job) (refs : List HostRef) : (readOrEnd s j refs).measLog = s.measLog := by
  unfold readOrEnd; (repeat' split) <;> first | (simp; done) | (rename_i h; simp [issueReads_measLog h]; done)
@[simp] theorem readOrEnd_measNext (s : State) (j : Job) (refs : List HostRef) : (readOrEnd s j refs).measNext = s.measNext := by
  unfold readOrEnd; (repeat' split) <;> first | (simp; done) | (rename_i h; simp [issueReads_measNext h]; done)
@[simp] theorem readOrEnd_measOverflow (s : State) (j : Job) (refs : List HostRef) : (readOrEnd s j refs).measOverflow = s.measOverflow := by
  unfold readOrEnd; (repeat' split) <;> first | (simp; done) | (rename_i h; simp [issueReads_measOverflow h]; done)
@[simp] theorem readOrEnd_truncOffered (s : State) (j : Job) (refs : List HostRef) : (readOrEnd s j refs).truncOffered = s.truncOffered := by
  unfold readOrEnd; (repeat' split) <;> first | (simp; done) | (rename_i h; simp [issueReads_truncOffered h]; done)
@[simp] theorem readOrEnd_slots (s : State) (j : Job) (refs : List HostRef) : (readOrEnd s j refs).slots = s.slots := by
  unfold readOrEnd; (repeat' split) <;> first | (simp; done) | (rename_i h; simp [issueReads_slots h]; done)
@[simp] theorem readOrEnd_pufSecret (s : State) (j : Job) (refs : List HostRef) : (readOrEnd s j refs).pufSecret = s.pufSecret := by
  unfold readOrEnd; (repeat' split) <;> first | (simp; done) | (rename_i h; simp [issueReads_pufSecret h]; done)
@[simp] theorem readOrEnd_keyed (s : State) (j : Job) (refs : List HostRef) : (readOrEnd s j refs).keyed = s.keyed := by
  unfold readOrEnd; (repeat' split) <;> first | (simp; done) | (rename_i h; simp [issueReads_keyed h]; done)
@[simp] theorem readOrEnd_cdk (s : State) (j : Job) (refs : List HostRef) : (readOrEnd s j refs).cdk = s.cdk := by
  unfold readOrEnd; (repeat' split) <;> first | (simp; done) | (rename_i h; simp [issueReads_cdk h]; done)
@[simp] theorem readOrEnd_zeroised (s : State) (j : Job) (refs : List HostRef) : (readOrEnd s j refs).zeroised = s.zeroised := by
  unfold readOrEnd; (repeat' split) <;> first | (simp; done) | (rename_i h; simp [issueReads_zeroised h]; done)
@[simp] theorem readOrEnd_agate (s : State) (j : Job) (refs : List HostRef) : (readOrEnd s j refs).agate = s.agate := by
  unfold readOrEnd; (repeat' split) <;> first | (simp; done) | (rename_i h; simp [issueReads_agate h]; done)
@[simp] theorem readOrEnd_arith (s : State) (j : Job) (refs : List HostRef) : (readOrEnd s j refs).arith = s.arith := by
  unfold readOrEnd; (repeat' split) <;> first | (simp; done) | (rename_i h; simp [issueReads_arith h]; done)
@[simp] theorem readOrEnd_sources (s : State) (j : Job) (refs : List HostRef) : (readOrEnd s j refs).sources = s.sources := by
  unfold readOrEnd; (repeat' split) <;> first | (simp; done) | (rename_i h; simp [issueReads_sources h]; done)
@[simp] theorem readOrEnd_entropy (s : State) (j : Job) (refs : List HostRef) : (readOrEnd s j refs).entropy = s.entropy := by
  unfold readOrEnd; (repeat' split) <;> first | (simp; done) | (rename_i h; simp [issueReads_entropy h]; done)
@[simp] theorem readOrEnd_filling (s : State) (j : Job) (refs : List HostRef) : (readOrEnd s j refs).filling = s.filling := by
  unfold readOrEnd; (repeat' split) <;> first | (simp; done) | (rename_i h; simp [issueReads_filling h]; done)
@[simp] theorem readOrEnd_lfsr (s : State) (j : Job) (refs : List HostRef) : (readOrEnd s j refs).lfsr = s.lfsr := by
  unfold readOrEnd; (repeat' split) <;> first | (simp; done) | (rename_i h; simp [issueReads_lfsr h]; done)
@[simp] theorem readOrEnd_drbgs (s : State) (j : Job) (refs : List HostRef) : (readOrEnd s j refs).drbgs = s.drbgs := by
  unfold readOrEnd; (repeat' split) <;> first | (simp; done) | (rename_i h; simp [issueReads_drbgs h]; done)
@[simp] theorem readOrEnd_cfg (s : State) (j : Job) (refs : List HostRef) : (readOrEnd s j refs).cfg = s.cfg := by
  unfold readOrEnd; (repeat' split) <;> first | (simp; done) | (rename_i h; simp [issueReads_cfg h]; done)
@[simp] theorem readOrEnd_fuses (s : State) (j : Job) (refs : List HostRef) : (readOrEnd s j refs).fuses = s.fuses := by
  unfold readOrEnd; (repeat' split) <;> first | (simp; done) | (rename_i h; simp [issueReads_fuses h]; done)
@[simp] theorem readOrEnd_boot (s : State) (j : Job) (refs : List HostRef) : (readOrEnd s j refs).boot = s.boot := by
  unfold readOrEnd; (repeat' split) <;> first | (simp; done) | (rename_i h; simp [issueReads_boot h]; done)
@[simp] theorem readOrEnd_lcs (s : State) (j : Job) (refs : List HostRef) : (readOrEnd s j refs).lcs = s.lcs := by
  unfold readOrEnd; (repeat' split) <;> first | (simp; done) | (rename_i h; simp [issueReads_lcs h]; done)
@[simp] theorem readOrEnd_tamper (s : State) (j : Job) (refs : List HostRef) : (readOrEnd s j refs).tamper = s.tamper := by
  unfold readOrEnd; (repeat' split) <;> first | (simp; done) | (rename_i h; simp [issueReads_tamper h]; done)
@[simp] theorem readOrEnd_pins (s : State) (j : Job) (refs : List HostRef) : (readOrEnd s j refs).pins = s.pins := by
  unfold readOrEnd; (repeat' split) <;> first | (simp; done) | (rename_i h; simp [issueReads_pins h]; done)
@[simp] theorem readOrEnd_wards (s : State) (j : Job) (refs : List HostRef) : (readOrEnd s j refs).wards = s.wards := by
  unfold readOrEnd; (repeat' split) <;> first | (simp; done) | (rename_i h; simp [issueReads_wards h]; done)
@[simp] theorem readOrEnd_tkn (s : State) (j : Job) (refs : List HostRef) : (readOrEnd s j refs).tkn = s.tkn := by
  unfold readOrEnd; (repeat' split) <;> first | (simp; done) | (rename_i h; simp [issueReads_tkn h]; done)
@[simp] theorem readOrEnd_links (s : State) (j : Job) (refs : List HostRef) : (readOrEnd s j refs).links = s.links := by
  unfold readOrEnd; (repeat' split) <;> first | (simp; done) | (rename_i h; simp [issueReads_links h]; done)
@[simp] theorem readOrEnd_fabric (s : State) (j : Job) (refs : List HostRef) : (readOrEnd s j refs).fabric = s.fabric := by
  unfold readOrEnd; (repeat' split) <;> first | (simp; done) | (rename_i h; simp [issueReads_fabric h]; done)
@[simp] theorem readOrEnd_nor (s : State) (j : Job) (refs : List HostRef) : (readOrEnd s j refs).nor = s.nor := by
  unfold readOrEnd; (repeat' split) <;> first | (simp; done) | (rename_i h; simp [issueReads_nor h]; done)
@[simp] theorem readOrEnd_mem (s : State) (j : Job) (refs : List HostRef) : (readOrEnd s j refs).mem = s.mem := by
  unfold readOrEnd; (repeat' split) <;> first | (simp; done) | (rename_i h; simp [issueReads_mem h]; done)
@[simp] theorem readOrEnd_quartz (s : State) (j : Job) (refs : List HostRef) : (readOrEnd s j refs).quartz = s.quartz := by
  unfold readOrEnd; (repeat' split) <;> first | (simp; done) | (rename_i h; simp [issueReads_quartz h]; done)
@[simp] theorem readOrEnd_freeIdx (s : State) (j : Job) (refs : List HostRef) : (readOrEnd s j refs).freeIdx = s.freeIdx := by
  unfold readOrEnd; (repeat' split) <;> first | (simp; done) | (rename_i h; simp [issueReads_freeIdx h]; done)
@[simp] theorem readOrEnd_pending (s : State) (j : Job) (refs : List HostRef) : (readOrEnd s j refs).pending = s.pending := by
  unfold readOrEnd; (repeat' split) <;> first | (simp; done) | (rename_i h; simp [issueReads_pending h]; done)

/-! ### stopTests -/

@[simp] theorem stopTests_clk (s : State) (o : Origin) : (stopTests s o).clk = s.clk := by
  unfold stopTests; (repeat' split) <;> (simp; done)
@[simp] theorem stopTests_mode (s : State) (o : Origin) : (stopTests s o).mode = s.mode := by
  unfold stopTests; (repeat' split) <;> (simp; done)
@[simp] theorem stopTests_portA (s : State) (o : Origin) : (stopTests s o).portA = s.portA := by
  unfold stopTests; (repeat' split) <;> (simp; done)
@[simp] theorem stopTests_portB (s : State) (o : Origin) : (stopTests s o).portB = s.portB := by
  unfold stopTests; (repeat' split) <;> (simp; done)
@[simp] theorem stopTests_jobs (s : State) (o : Origin) : (stopTests s o).jobs = s.jobs := by
  unfold stopTests; (repeat' split) <;> (simp; done)
@[simp] theorem stopTests_heldJobs (s : State) (o : Origin) : (stopTests s o).heldJobs = s.heldJobs := by
  unfold stopTests; (repeat' split) <;> (simp; done)
@[simp] theorem stopTests_qps (s : State) (o : Origin) : (stopTests s o).qps = s.qps := by
  unfold stopTests; (repeat' split) <;> (simp; done)
@[simp] theorem stopTests_sched (s : State) (o : Origin) : (stopTests s o).sched = s.sched := by
  unfold stopTests; (repeat' split) <;> (simp; done)
@[simp] theorem stopTests_manifests (s : State) (o : Origin) : (stopTests s o).manifests = s.manifests := by
  unfold stopTests; (repeat' split) <;> (simp; done)
@[simp] theorem stopTests_nextManifest (s : State) (o : Origin) : (stopTests s o).nextManifest = s.nextManifest := by
  unfold stopTests; (repeat' split) <;> (simp; done)
@[simp] theorem stopTests_digests (s : State) (o : Origin) : (stopTests s o).digests = s.digests := by
  unfold stopTests; (repeat' split) <;> (simp; done)
@[simp] theorem stopTests_meas (s : State) (o : Origin) : (stopTests s o).meas = s.meas := by
  unfold stopTests; (repeat' split) <;> (simp; done)
@[simp] theorem stopTests_measLog (s : State) (o : Origin) : (stopTests s o).measLog = s.measLog := by
  unfold stopTests; (repeat' split) <;> (simp; done)
@[simp] theorem stopTests_measNext (s : State) (o : Origin) : (stopTests s o).measNext = s.measNext := by
  unfold stopTests; (repeat' split) <;> (simp; done)
@[simp] theorem stopTests_measOverflow (s : State) (o : Origin) : (stopTests s o).measOverflow = s.measOverflow := by
  unfold stopTests; (repeat' split) <;> (simp; done)
@[simp] theorem stopTests_truncOffered (s : State) (o : Origin) : (stopTests s o).truncOffered = s.truncOffered := by
  unfold stopTests; (repeat' split) <;> (simp; done)
@[simp] theorem stopTests_slots (s : State) (o : Origin) : (stopTests s o).slots = s.slots := by
  unfold stopTests; (repeat' split) <;> (simp; done)
@[simp] theorem stopTests_pufSecret (s : State) (o : Origin) : (stopTests s o).pufSecret = s.pufSecret := by
  unfold stopTests; (repeat' split) <;> (simp; done)
@[simp] theorem stopTests_keyed (s : State) (o : Origin) : (stopTests s o).keyed = s.keyed := by
  unfold stopTests; (repeat' split) <;> (simp; done)
@[simp] theorem stopTests_cdk (s : State) (o : Origin) : (stopTests s o).cdk = s.cdk := by
  unfold stopTests; (repeat' split) <;> (simp; done)
@[simp] theorem stopTests_zeroised (s : State) (o : Origin) : (stopTests s o).zeroised = s.zeroised := by
  unfold stopTests; (repeat' split) <;> (simp; done)
@[simp] theorem stopTests_agate (s : State) (o : Origin) : (stopTests s o).agate = s.agate := by
  unfold stopTests; (repeat' split) <;> (simp; done)
@[simp] theorem stopTests_sources (s : State) (o : Origin) : (stopTests s o).sources = s.sources := by
  unfold stopTests; (repeat' split) <;> (simp; done)
@[simp] theorem stopTests_entropy (s : State) (o : Origin) : (stopTests s o).entropy = s.entropy := by
  unfold stopTests; (repeat' split) <;> (simp; done)
@[simp] theorem stopTests_filling (s : State) (o : Origin) : (stopTests s o).filling = s.filling := by
  unfold stopTests; (repeat' split) <;> (simp; done)
@[simp] theorem stopTests_lfsr (s : State) (o : Origin) : (stopTests s o).lfsr = s.lfsr := by
  unfold stopTests; (repeat' split) <;> (simp; done)
@[simp] theorem stopTests_drbgs (s : State) (o : Origin) : (stopTests s o).drbgs = s.drbgs := by
  unfold stopTests; (repeat' split) <;> (simp; done)
@[simp] theorem stopTests_tenants (s : State) (o : Origin) : (stopTests s o).tenants = s.tenants := by
  unfold stopTests; (repeat' split) <;> (simp; done)
@[simp] theorem stopTests_cfg (s : State) (o : Origin) : (stopTests s o).cfg = s.cfg := by
  unfold stopTests; (repeat' split) <;> (simp; done)
@[simp] theorem stopTests_moon (s : State) (o : Origin) : (stopTests s o).moon = s.moon := by
  unfold stopTests; (repeat' split) <;> (simp; done)
@[simp] theorem stopTests_fuses (s : State) (o : Origin) : (stopTests s o).fuses = s.fuses := by
  unfold stopTests; (repeat' split) <;> (simp; done)
@[simp] theorem stopTests_boot (s : State) (o : Origin) : (stopTests s o).boot = s.boot := by
  unfold stopTests; (repeat' split) <;> (simp; done)
@[simp] theorem stopTests_lcs (s : State) (o : Origin) : (stopTests s o).lcs = s.lcs := by
  unfold stopTests; (repeat' split) <;> (simp; done)
@[simp] theorem stopTests_tamper (s : State) (o : Origin) : (stopTests s o).tamper = s.tamper := by
  unfold stopTests; (repeat' split) <;> (simp; done)
@[simp] theorem stopTests_pins (s : State) (o : Origin) : (stopTests s o).pins = s.pins := by
  unfold stopTests; (repeat' split) <;> (simp; done)
@[simp] theorem stopTests_wards (s : State) (o : Origin) : (stopTests s o).wards = s.wards := by
  unfold stopTests; (repeat' split) <;> (simp; done)
@[simp] theorem stopTests_tkn (s : State) (o : Origin) : (stopTests s o).tkn = s.tkn := by
  unfold stopTests; (repeat' split) <;> (simp; done)
@[simp] theorem stopTests_internalDone (s : State) (o : Origin) : (stopTests s o).internalDone = s.internalDone := by
  unfold stopTests; (repeat' split) <;> (simp; done)
@[simp] theorem stopTests_recorder (s : State) (o : Origin) : (stopTests s o).recorder = s.recorder := by
  unfold stopTests; (repeat' split) <;> (simp; done)
@[simp] theorem stopTests_amber (s : State) (o : Origin) : (stopTests s o).amber = s.amber := by
  unfold stopTests; (repeat' split) <;> (simp; done)
@[simp] theorem stopTests_links (s : State) (o : Origin) : (stopTests s o).links = s.links := by
  unfold stopTests; (repeat' split) <;> (simp; done)
@[simp] theorem stopTests_fabric (s : State) (o : Origin) : (stopTests s o).fabric = s.fabric := by
  unfold stopTests; (repeat' split) <;> (simp; done)
@[simp] theorem stopTests_nor (s : State) (o : Origin) : (stopTests s o).nor = s.nor := by
  unfold stopTests; (repeat' split) <;> (simp; done)
@[simp] theorem stopTests_mem (s : State) (o : Origin) : (stopTests s o).mem = s.mem := by
  unfold stopTests; (repeat' split) <;> (simp; done)
@[simp] theorem stopTests_quartz (s : State) (o : Origin) : (stopTests s o).quartz = s.quartz := by
  unfold stopTests; (repeat' split) <;> (simp; done)
@[simp] theorem stopTests_regs (s : State) (o : Origin) : (stopTests s o).regs = s.regs := by
  unfold stopTests; (repeat' split) <;> (simp; done)
@[simp] theorem stopTests_out (s : State) (o : Origin) : (stopTests s o).out = s.out := by
  unfold stopTests; (repeat' split) <;> (simp; done)
@[simp] theorem stopTests_freeIdx (s : State) (o : Origin) : (stopTests s o).freeIdx = s.freeIdx := by
  unfold stopTests; (repeat' split) <;> (simp; done)
@[simp] theorem stopTests_pending (s : State) (o : Origin) : (stopTests s o).pending = s.pending := by
  unfold stopTests; (repeat' split) <;> (simp; done)

/-! ### undoCreate -/

@[simp] theorem undoCreate_clk (s : State) (o : Origin) : (undoCreate s o).clk = s.clk := by
  unfold undoCreate; (repeat' split) <;> (simp; done)
@[simp] theorem undoCreate_mode (s : State) (o : Origin) : (undoCreate s o).mode = s.mode := by
  unfold undoCreate; (repeat' split) <;> (simp; done)
@[simp] theorem undoCreate_portA (s : State) (o : Origin) : (undoCreate s o).portA = s.portA := by
  unfold undoCreate; (repeat' split) <;> (simp; done)
@[simp] theorem undoCreate_portB (s : State) (o : Origin) : (undoCreate s o).portB = s.portB := by
  unfold undoCreate; (repeat' split) <;> (simp; done)
@[simp] theorem undoCreate_jobs (s : State) (o : Origin) : (undoCreate s o).jobs = s.jobs := by
  unfold undoCreate; (repeat' split) <;> (simp; done)
@[simp] theorem undoCreate_heldJobs (s : State) (o : Origin) : (undoCreate s o).heldJobs = s.heldJobs := by
  unfold undoCreate; (repeat' split) <;> (simp; done)
@[simp] theorem undoCreate_qps (s : State) (o : Origin) : (undoCreate s o).qps = s.qps := by
  unfold undoCreate; (repeat' split) <;> (simp; done)
@[simp] theorem undoCreate_sched (s : State) (o : Origin) : (undoCreate s o).sched = s.sched := by
  unfold undoCreate; (repeat' split) <;> (simp; done)
@[simp] theorem undoCreate_manifests (s : State) (o : Origin) : (undoCreate s o).manifests = s.manifests := by
  unfold undoCreate; (repeat' split) <;> (simp; done)
@[simp] theorem undoCreate_nextManifest (s : State) (o : Origin) : (undoCreate s o).nextManifest = s.nextManifest := by
  unfold undoCreate; (repeat' split) <;> (simp; done)
@[simp] theorem undoCreate_sealEngines (s : State) (o : Origin) : (undoCreate s o).sealEngines = s.sealEngines := by
  unfold undoCreate; (repeat' split) <;> (simp; done)
@[simp] theorem undoCreate_digests (s : State) (o : Origin) : (undoCreate s o).digests = s.digests := by
  unfold undoCreate; (repeat' split) <;> (simp; done)
@[simp] theorem undoCreate_meas (s : State) (o : Origin) : (undoCreate s o).meas = s.meas := by
  unfold undoCreate; (repeat' split) <;> (simp; done)
@[simp] theorem undoCreate_measLog (s : State) (o : Origin) : (undoCreate s o).measLog = s.measLog := by
  unfold undoCreate; (repeat' split) <;> (simp; done)
@[simp] theorem undoCreate_measNext (s : State) (o : Origin) : (undoCreate s o).measNext = s.measNext := by
  unfold undoCreate; (repeat' split) <;> (simp; done)
@[simp] theorem undoCreate_measOverflow (s : State) (o : Origin) : (undoCreate s o).measOverflow = s.measOverflow := by
  unfold undoCreate; (repeat' split) <;> (simp; done)
@[simp] theorem undoCreate_truncOffered (s : State) (o : Origin) : (undoCreate s o).truncOffered = s.truncOffered := by
  unfold undoCreate; (repeat' split) <;> (simp; done)
@[simp] theorem undoCreate_slots (s : State) (o : Origin) : (undoCreate s o).slots = s.slots := by
  unfold undoCreate; (repeat' split) <;> (simp; done)
@[simp] theorem undoCreate_pufSecret (s : State) (o : Origin) : (undoCreate s o).pufSecret = s.pufSecret := by
  unfold undoCreate; (repeat' split) <;> (simp; done)
@[simp] theorem undoCreate_keyed (s : State) (o : Origin) : (undoCreate s o).keyed = s.keyed := by
  unfold undoCreate; (repeat' split) <;> (simp; done)
@[simp] theorem undoCreate_cdk (s : State) (o : Origin) : (undoCreate s o).cdk = s.cdk := by
  unfold undoCreate; (repeat' split) <;> (simp; done)
@[simp] theorem undoCreate_zeroised (s : State) (o : Origin) : (undoCreate s o).zeroised = s.zeroised := by
  unfold undoCreate; (repeat' split) <;> (simp; done)
@[simp] theorem undoCreate_agate (s : State) (o : Origin) : (undoCreate s o).agate = s.agate := by
  unfold undoCreate; (repeat' split) <;> (simp; done)
@[simp] theorem undoCreate_arith (s : State) (o : Origin) : (undoCreate s o).arith = s.arith := by
  unfold undoCreate; (repeat' split) <;> (simp; done)
@[simp] theorem undoCreate_sources (s : State) (o : Origin) : (undoCreate s o).sources = s.sources := by
  unfold undoCreate; (repeat' split) <;> (simp; done)
@[simp] theorem undoCreate_entropy (s : State) (o : Origin) : (undoCreate s o).entropy = s.entropy := by
  unfold undoCreate; (repeat' split) <;> (simp; done)
@[simp] theorem undoCreate_filling (s : State) (o : Origin) : (undoCreate s o).filling = s.filling := by
  unfold undoCreate; (repeat' split) <;> (simp; done)
@[simp] theorem undoCreate_lfsr (s : State) (o : Origin) : (undoCreate s o).lfsr = s.lfsr := by
  unfold undoCreate; (repeat' split) <;> (simp; done)
@[simp] theorem undoCreate_tenants (s : State) (o : Origin) : (undoCreate s o).tenants = s.tenants := by
  unfold undoCreate; (repeat' split) <;> (simp; done)
@[simp] theorem undoCreate_cfg (s : State) (o : Origin) : (undoCreate s o).cfg = s.cfg := by
  unfold undoCreate; (repeat' split) <;> (simp; done)
@[simp] theorem undoCreate_moon (s : State) (o : Origin) : (undoCreate s o).moon = s.moon := by
  unfold undoCreate; (repeat' split) <;> (simp; done)
@[simp] theorem undoCreate_fuses (s : State) (o : Origin) : (undoCreate s o).fuses = s.fuses := by
  unfold undoCreate; (repeat' split) <;> (simp; done)
@[simp] theorem undoCreate_boot (s : State) (o : Origin) : (undoCreate s o).boot = s.boot := by
  unfold undoCreate; (repeat' split) <;> (simp; done)
@[simp] theorem undoCreate_lcs (s : State) (o : Origin) : (undoCreate s o).lcs = s.lcs := by
  unfold undoCreate; (repeat' split) <;> (simp; done)
@[simp] theorem undoCreate_tamper (s : State) (o : Origin) : (undoCreate s o).tamper = s.tamper := by
  unfold undoCreate; (repeat' split) <;> (simp; done)
@[simp] theorem undoCreate_pins (s : State) (o : Origin) : (undoCreate s o).pins = s.pins := by
  unfold undoCreate; (repeat' split) <;> (simp; done)
@[simp] theorem undoCreate_wards (s : State) (o : Origin) : (undoCreate s o).wards = s.wards := by
  unfold undoCreate; (repeat' split) <;> (simp; done)
@[simp] theorem undoCreate_tkn (s : State) (o : Origin) : (undoCreate s o).tkn = s.tkn := by
  unfold undoCreate; (repeat' split) <;> (simp; done)
@[simp] theorem undoCreate_internalDone (s : State) (o : Origin) : (undoCreate s o).internalDone = s.internalDone := by
  unfold undoCreate; (repeat' split) <;> (simp; done)
@[simp] theorem undoCreate_recorder (s : State) (o : Origin) : (undoCreate s o).recorder = s.recorder := by
  unfold undoCreate; (repeat' split) <;> (simp; done)
@[simp] theorem undoCreate_amber (s : State) (o : Origin) : (undoCreate s o).amber = s.amber := by
  unfold undoCreate; (repeat' split) <;> (simp; done)
@[simp] theorem undoCreate_links (s : State) (o : Origin) : (undoCreate s o).links = s.links := by
  unfold undoCreate; (repeat' split) <;> (simp; done)
@[simp] theorem undoCreate_fabric (s : State) (o : Origin) : (undoCreate s o).fabric = s.fabric := by
  unfold undoCreate; (repeat' split) <;> (simp; done)
@[simp] theorem undoCreate_nor (s : State) (o : Origin) : (undoCreate s o).nor = s.nor := by
  unfold undoCreate; (repeat' split) <;> (simp; done)
@[simp] theorem undoCreate_mem (s : State) (o : Origin) : (undoCreate s o).mem = s.mem := by
  unfold undoCreate; (repeat' split) <;> (simp; done)
@[simp] theorem undoCreate_quartz (s : State) (o : Origin) : (undoCreate s o).quartz = s.quartz := by
  unfold undoCreate; (repeat' split) <;> (simp; done)
@[simp] theorem undoCreate_regs (s : State) (o : Origin) : (undoCreate s o).regs = s.regs := by
  unfold undoCreate; (repeat' split) <;> (simp; done)
@[simp] theorem undoCreate_out (s : State) (o : Origin) : (undoCreate s o).out = s.out := by
  unfold undoCreate; (repeat' split) <;> (simp; done)
@[simp] theorem undoCreate_freeIdx (s : State) (o : Origin) : (undoCreate s o).freeIdx = s.freeIdx := by
  unfold undoCreate; (repeat' split) <;> (simp; done)
@[simp] theorem undoCreate_pending (s : State) (o : Origin) : (undoCreate s o).pending = s.pending := by
  unfold undoCreate; (repeat' split) <;> (simp; done)

/-! ### undoDormant -/

@[simp] theorem undoDormant_clk (s : State) (o : Origin) : (undoDormant s o).clk = s.clk := by
  unfold undoDormant; (repeat' split) <;> (simp; done)
@[simp] theorem undoDormant_mode (s : State) (o : Origin) : (undoDormant s o).mode = s.mode := by
  unfold undoDormant; (repeat' split) <;> (simp; done)
@[simp] theorem undoDormant_portA (s : State) (o : Origin) : (undoDormant s o).portA = s.portA := by
  unfold undoDormant; (repeat' split) <;> (simp; done)
@[simp] theorem undoDormant_portB (s : State) (o : Origin) : (undoDormant s o).portB = s.portB := by
  unfold undoDormant; (repeat' split) <;> (simp; done)
@[simp] theorem undoDormant_jobs (s : State) (o : Origin) : (undoDormant s o).jobs = s.jobs := by
  unfold undoDormant; (repeat' split) <;> (simp; done)
@[simp] theorem undoDormant_heldJobs (s : State) (o : Origin) : (undoDormant s o).heldJobs = s.heldJobs := by
  unfold undoDormant; (repeat' split) <;> (simp; done)
@[simp] theorem undoDormant_qps (s : State) (o : Origin) : (undoDormant s o).qps = s.qps := by
  unfold undoDormant; (repeat' split) <;> (simp; done)
@[simp] theorem undoDormant_sched (s : State) (o : Origin) : (undoDormant s o).sched = s.sched := by
  unfold undoDormant; (repeat' split) <;> (simp; done)
@[simp] theorem undoDormant_manifests (s : State) (o : Origin) : (undoDormant s o).manifests = s.manifests := by
  unfold undoDormant; (repeat' split) <;> (simp; done)
@[simp] theorem undoDormant_nextManifest (s : State) (o : Origin) : (undoDormant s o).nextManifest = s.nextManifest := by
  unfold undoDormant; (repeat' split) <;> (simp; done)
@[simp] theorem undoDormant_sealEngines (s : State) (o : Origin) : (undoDormant s o).sealEngines = s.sealEngines := by
  unfold undoDormant; (repeat' split) <;> (simp; done)
@[simp] theorem undoDormant_digests (s : State) (o : Origin) : (undoDormant s o).digests = s.digests := by
  unfold undoDormant; (repeat' split) <;> (simp; done)
@[simp] theorem undoDormant_meas (s : State) (o : Origin) : (undoDormant s o).meas = s.meas := by
  unfold undoDormant; (repeat' split) <;> (simp; done)
@[simp] theorem undoDormant_measLog (s : State) (o : Origin) : (undoDormant s o).measLog = s.measLog := by
  unfold undoDormant; (repeat' split) <;> (simp; done)
@[simp] theorem undoDormant_measNext (s : State) (o : Origin) : (undoDormant s o).measNext = s.measNext := by
  unfold undoDormant; (repeat' split) <;> (simp; done)
@[simp] theorem undoDormant_measOverflow (s : State) (o : Origin) : (undoDormant s o).measOverflow = s.measOverflow := by
  unfold undoDormant; (repeat' split) <;> (simp; done)
@[simp] theorem undoDormant_truncOffered (s : State) (o : Origin) : (undoDormant s o).truncOffered = s.truncOffered := by
  unfold undoDormant; (repeat' split) <;> (simp; done)
@[simp] theorem undoDormant_slots (s : State) (o : Origin) : (undoDormant s o).slots = s.slots := by
  unfold undoDormant; (repeat' split) <;> (simp; done)
@[simp] theorem undoDormant_pufSecret (s : State) (o : Origin) : (undoDormant s o).pufSecret = s.pufSecret := by
  unfold undoDormant; (repeat' split) <;> (simp; done)
@[simp] theorem undoDormant_keyed (s : State) (o : Origin) : (undoDormant s o).keyed = s.keyed := by
  unfold undoDormant; (repeat' split) <;> (simp; done)
@[simp] theorem undoDormant_cdk (s : State) (o : Origin) : (undoDormant s o).cdk = s.cdk := by
  unfold undoDormant; (repeat' split) <;> (simp; done)
@[simp] theorem undoDormant_zeroised (s : State) (o : Origin) : (undoDormant s o).zeroised = s.zeroised := by
  unfold undoDormant; (repeat' split) <;> (simp; done)
@[simp] theorem undoDormant_agate (s : State) (o : Origin) : (undoDormant s o).agate = s.agate := by
  unfold undoDormant; (repeat' split) <;> (simp; done)
@[simp] theorem undoDormant_arith (s : State) (o : Origin) : (undoDormant s o).arith = s.arith := by
  unfold undoDormant; (repeat' split) <;> (simp; done)
@[simp] theorem undoDormant_sources (s : State) (o : Origin) : (undoDormant s o).sources = s.sources := by
  unfold undoDormant; (repeat' split) <;> (simp; done)
@[simp] theorem undoDormant_entropy (s : State) (o : Origin) : (undoDormant s o).entropy = s.entropy := by
  unfold undoDormant; (repeat' split) <;> (simp; done)
@[simp] theorem undoDormant_filling (s : State) (o : Origin) : (undoDormant s o).filling = s.filling := by
  unfold undoDormant; (repeat' split) <;> (simp; done)
@[simp] theorem undoDormant_lfsr (s : State) (o : Origin) : (undoDormant s o).lfsr = s.lfsr := by
  unfold undoDormant; (repeat' split) <;> (simp; done)
@[simp] theorem undoDormant_drbgs (s : State) (o : Origin) : (undoDormant s o).drbgs = s.drbgs := by
  unfold undoDormant; (repeat' split) <;> (simp; done)
@[simp] theorem undoDormant_tenants (s : State) (o : Origin) : (undoDormant s o).tenants = s.tenants := by
  unfold undoDormant; (repeat' split) <;> (simp; done)
@[simp] theorem undoDormant_cfg (s : State) (o : Origin) : (undoDormant s o).cfg = s.cfg := by
  unfold undoDormant; (repeat' split) <;> (simp; done)
@[simp] theorem undoDormant_fuses (s : State) (o : Origin) : (undoDormant s o).fuses = s.fuses := by
  unfold undoDormant; (repeat' split) <;> (simp; done)
@[simp] theorem undoDormant_boot (s : State) (o : Origin) : (undoDormant s o).boot = s.boot := by
  unfold undoDormant; (repeat' split) <;> (simp; done)
@[simp] theorem undoDormant_lcs (s : State) (o : Origin) : (undoDormant s o).lcs = s.lcs := by
  unfold undoDormant; (repeat' split) <;> (simp; done)
@[simp] theorem undoDormant_tamper (s : State) (o : Origin) : (undoDormant s o).tamper = s.tamper := by
  unfold undoDormant; (repeat' split) <;> (simp; done)
@[simp] theorem undoDormant_pins (s : State) (o : Origin) : (undoDormant s o).pins = s.pins := by
  unfold undoDormant; (repeat' split) <;> (simp; done)
@[simp] theorem undoDormant_wards (s : State) (o : Origin) : (undoDormant s o).wards = s.wards := by
  unfold undoDormant; (repeat' split) <;> (simp; done)
@[simp] theorem undoDormant_tkn (s : State) (o : Origin) : (undoDormant s o).tkn = s.tkn := by
  unfold undoDormant; (repeat' split) <;> (simp; done)
@[simp] theorem undoDormant_internalDone (s : State) (o : Origin) : (undoDormant s o).internalDone = s.internalDone := by
  unfold undoDormant; (repeat' split) <;> (simp; done)
@[simp] theorem undoDormant_recorder (s : State) (o : Origin) : (undoDormant s o).recorder = s.recorder := by
  unfold undoDormant; (repeat' split) <;> (simp; done)
@[simp] theorem undoDormant_amber (s : State) (o : Origin) : (undoDormant s o).amber = s.amber := by
  unfold undoDormant; (repeat' split) <;> (simp; done)
@[simp] theorem undoDormant_links (s : State) (o : Origin) : (undoDormant s o).links = s.links := by
  unfold undoDormant; (repeat' split) <;> (simp; done)
@[simp] theorem undoDormant_fabric (s : State) (o : Origin) : (undoDormant s o).fabric = s.fabric := by
  unfold undoDormant; (repeat' split) <;> (simp; done)
@[simp] theorem undoDormant_nor (s : State) (o : Origin) : (undoDormant s o).nor = s.nor := by
  unfold undoDormant; (repeat' split) <;> (simp; done)
@[simp] theorem undoDormant_mem (s : State) (o : Origin) : (undoDormant s o).mem = s.mem := by
  unfold undoDormant; (repeat' split) <;> (simp; done)
@[simp] theorem undoDormant_quartz (s : State) (o : Origin) : (undoDormant s o).quartz = s.quartz := by
  unfold undoDormant; (repeat' split) <;> (simp; done)
@[simp] theorem undoDormant_regs (s : State) (o : Origin) : (undoDormant s o).regs = s.regs := by
  unfold undoDormant; (repeat' split) <;> (simp; done)
@[simp] theorem undoDormant_out (s : State) (o : Origin) : (undoDormant s o).out = s.out := by
  unfold undoDormant; (repeat' split) <;> (simp; done)
@[simp] theorem undoDormant_freeIdx (s : State) (o : Origin) : (undoDormant s o).freeIdx = s.freeIdx := by
  unfold undoDormant; (repeat' split) <;> (simp; done)
@[simp] theorem undoDormant_pending (s : State) (o : Origin) : (undoDormant s o).pending = s.pending := by
  unfold undoDormant; (repeat' split) <;> (simp; done)

/-! ### dropWrites -/

@[simp] theorem dropWrites_clk (s : State) (p : AnchorWrite → Bool) : (dropWrites s p).clk = s.clk := by
  unfold dropWrites; (repeat' split) <;> (simp; done)
@[simp] theorem dropWrites_mode (s : State) (p : AnchorWrite → Bool) : (dropWrites s p).mode = s.mode := by
  unfold dropWrites; (repeat' split) <;> (simp; done)
@[simp] theorem dropWrites_portA (s : State) (p : AnchorWrite → Bool) : (dropWrites s p).portA = s.portA := by
  unfold dropWrites; (repeat' split) <;> (simp; done)
@[simp] theorem dropWrites_portB (s : State) (p : AnchorWrite → Bool) : (dropWrites s p).portB = s.portB := by
  unfold dropWrites; (repeat' split) <;> (simp; done)
@[simp] theorem dropWrites_jobs (s : State) (p : AnchorWrite → Bool) : (dropWrites s p).jobs = s.jobs := by
  unfold dropWrites; (repeat' split) <;> (simp; done)
@[simp] theorem dropWrites_heldJobs (s : State) (p : AnchorWrite → Bool) : (dropWrites s p).heldJobs = s.heldJobs := by
  unfold dropWrites; (repeat' split) <;> (simp; done)
@[simp] theorem dropWrites_qps (s : State) (p : AnchorWrite → Bool) : (dropWrites s p).qps = s.qps := by
  unfold dropWrites; (repeat' split) <;> (simp; done)
@[simp] theorem dropWrites_sched (s : State) (p : AnchorWrite → Bool) : (dropWrites s p).sched = s.sched := by
  unfold dropWrites; (repeat' split) <;> (simp; done)
@[simp] theorem dropWrites_manifests (s : State) (p : AnchorWrite → Bool) : (dropWrites s p).manifests = s.manifests := by
  unfold dropWrites; (repeat' split) <;> (simp; done)
@[simp] theorem dropWrites_nextManifest (s : State) (p : AnchorWrite → Bool) : (dropWrites s p).nextManifest = s.nextManifest := by
  unfold dropWrites; (repeat' split) <;> (simp; done)
@[simp] theorem dropWrites_sealEngines (s : State) (p : AnchorWrite → Bool) : (dropWrites s p).sealEngines = s.sealEngines := by
  unfold dropWrites; (repeat' split) <;> (simp; done)
@[simp] theorem dropWrites_digests (s : State) (p : AnchorWrite → Bool) : (dropWrites s p).digests = s.digests := by
  unfold dropWrites; (repeat' split) <;> (simp; done)
@[simp] theorem dropWrites_meas (s : State) (p : AnchorWrite → Bool) : (dropWrites s p).meas = s.meas := by
  unfold dropWrites; (repeat' split) <;> (simp; done)
@[simp] theorem dropWrites_measLog (s : State) (p : AnchorWrite → Bool) : (dropWrites s p).measLog = s.measLog := by
  unfold dropWrites; (repeat' split) <;> (simp; done)
@[simp] theorem dropWrites_measNext (s : State) (p : AnchorWrite → Bool) : (dropWrites s p).measNext = s.measNext := by
  unfold dropWrites; (repeat' split) <;> (simp; done)
@[simp] theorem dropWrites_measOverflow (s : State) (p : AnchorWrite → Bool) : (dropWrites s p).measOverflow = s.measOverflow := by
  unfold dropWrites; (repeat' split) <;> (simp; done)
@[simp] theorem dropWrites_truncOffered (s : State) (p : AnchorWrite → Bool) : (dropWrites s p).truncOffered = s.truncOffered := by
  unfold dropWrites; (repeat' split) <;> (simp; done)
@[simp] theorem dropWrites_slots (s : State) (p : AnchorWrite → Bool) : (dropWrites s p).slots = s.slots := by
  unfold dropWrites; (repeat' split) <;> (simp; done)
@[simp] theorem dropWrites_pufSecret (s : State) (p : AnchorWrite → Bool) : (dropWrites s p).pufSecret = s.pufSecret := by
  unfold dropWrites; (repeat' split) <;> (simp; done)
@[simp] theorem dropWrites_keyed (s : State) (p : AnchorWrite → Bool) : (dropWrites s p).keyed = s.keyed := by
  unfold dropWrites; (repeat' split) <;> (simp; done)
@[simp] theorem dropWrites_cdk (s : State) (p : AnchorWrite → Bool) : (dropWrites s p).cdk = s.cdk := by
  unfold dropWrites; (repeat' split) <;> (simp; done)
@[simp] theorem dropWrites_zeroised (s : State) (p : AnchorWrite → Bool) : (dropWrites s p).zeroised = s.zeroised := by
  unfold dropWrites; (repeat' split) <;> (simp; done)
@[simp] theorem dropWrites_arith (s : State) (p : AnchorWrite → Bool) : (dropWrites s p).arith = s.arith := by
  unfold dropWrites; (repeat' split) <;> (simp; done)
@[simp] theorem dropWrites_sources (s : State) (p : AnchorWrite → Bool) : (dropWrites s p).sources = s.sources := by
  unfold dropWrites; (repeat' split) <;> (simp; done)
@[simp] theorem dropWrites_entropy (s : State) (p : AnchorWrite → Bool) : (dropWrites s p).entropy = s.entropy := by
  unfold dropWrites; (repeat' split) <;> (simp; done)
@[simp] theorem dropWrites_filling (s : State) (p : AnchorWrite → Bool) : (dropWrites s p).filling = s.filling := by
  unfold dropWrites; (repeat' split) <;> (simp; done)
@[simp] theorem dropWrites_lfsr (s : State) (p : AnchorWrite → Bool) : (dropWrites s p).lfsr = s.lfsr := by
  unfold dropWrites; (repeat' split) <;> (simp; done)
@[simp] theorem dropWrites_drbgs (s : State) (p : AnchorWrite → Bool) : (dropWrites s p).drbgs = s.drbgs := by
  unfold dropWrites; (repeat' split) <;> (simp; done)
@[simp] theorem dropWrites_tenants (s : State) (p : AnchorWrite → Bool) : (dropWrites s p).tenants = s.tenants := by
  unfold dropWrites; (repeat' split) <;> (simp; done)
@[simp] theorem dropWrites_cfg (s : State) (p : AnchorWrite → Bool) : (dropWrites s p).cfg = s.cfg := by
  unfold dropWrites; (repeat' split) <;> (simp; done)
@[simp] theorem dropWrites_moon (s : State) (p : AnchorWrite → Bool) : (dropWrites s p).moon = s.moon := by
  unfold dropWrites; (repeat' split) <;> (simp; done)
@[simp] theorem dropWrites_fuses (s : State) (p : AnchorWrite → Bool) : (dropWrites s p).fuses = s.fuses := by
  unfold dropWrites; (repeat' split) <;> (simp; done)
@[simp] theorem dropWrites_boot (s : State) (p : AnchorWrite → Bool) : (dropWrites s p).boot = s.boot := by
  unfold dropWrites; (repeat' split) <;> (simp; done)
@[simp] theorem dropWrites_lcs (s : State) (p : AnchorWrite → Bool) : (dropWrites s p).lcs = s.lcs := by
  unfold dropWrites; (repeat' split) <;> (simp; done)
@[simp] theorem dropWrites_tamper (s : State) (p : AnchorWrite → Bool) : (dropWrites s p).tamper = s.tamper := by
  unfold dropWrites; (repeat' split) <;> (simp; done)
@[simp] theorem dropWrites_pins (s : State) (p : AnchorWrite → Bool) : (dropWrites s p).pins = s.pins := by
  unfold dropWrites; (repeat' split) <;> (simp; done)
@[simp] theorem dropWrites_wards (s : State) (p : AnchorWrite → Bool) : (dropWrites s p).wards = s.wards := by
  unfold dropWrites; (repeat' split) <;> (simp; done)
@[simp] theorem dropWrites_tkn (s : State) (p : AnchorWrite → Bool) : (dropWrites s p).tkn = s.tkn := by
  unfold dropWrites; (repeat' split) <;> (simp; done)
@[simp] theorem dropWrites_internalDone (s : State) (p : AnchorWrite → Bool) : (dropWrites s p).internalDone = s.internalDone := by
  unfold dropWrites; (repeat' split) <;> (simp; done)
@[simp] theorem dropWrites_recorder (s : State) (p : AnchorWrite → Bool) : (dropWrites s p).recorder = s.recorder := by
  unfold dropWrites; (repeat' split) <;> (simp; done)
@[simp] theorem dropWrites_amber (s : State) (p : AnchorWrite → Bool) : (dropWrites s p).amber = s.amber := by
  unfold dropWrites; (repeat' split) <;> (simp; done)
@[simp] theorem dropWrites_links (s : State) (p : AnchorWrite → Bool) : (dropWrites s p).links = s.links := by
  unfold dropWrites; (repeat' split) <;> (simp; done)
@[simp] theorem dropWrites_fabric (s : State) (p : AnchorWrite → Bool) : (dropWrites s p).fabric = s.fabric := by
  unfold dropWrites; (repeat' split) <;> (simp; done)
@[simp] theorem dropWrites_nor (s : State) (p : AnchorWrite → Bool) : (dropWrites s p).nor = s.nor := by
  unfold dropWrites; (repeat' split) <;> (simp; done)
@[simp] theorem dropWrites_quartz (s : State) (p : AnchorWrite → Bool) : (dropWrites s p).quartz = s.quartz := by
  unfold dropWrites; (repeat' split) <;> (simp; done)
@[simp] theorem dropWrites_regs (s : State) (p : AnchorWrite → Bool) : (dropWrites s p).regs = s.regs := by
  unfold dropWrites; (repeat' split) <;> (simp; done)
@[simp] theorem dropWrites_out (s : State) (p : AnchorWrite → Bool) : (dropWrites s p).out = s.out := by
  unfold dropWrites; (repeat' split) <;> (simp; done)
@[simp] theorem dropWrites_freeIdx (s : State) (p : AnchorWrite → Bool) : (dropWrites s p).freeIdx = s.freeIdx := by
  unfold dropWrites; (repeat' split) <;> (simp; done)
@[simp] theorem dropWrites_pending (s : State) (p : AnchorWrite → Bool) : (dropWrites s p).pending = s.pending := by
  unfold dropWrites; (repeat' split) <;> (simp; done)

/-! ### releaseJob -/

@[simp] theorem releaseJob_clk (s0 : State) (o : Origin) : (releaseJob s0 o).clk = s0.clk := by
  unfold releaseJob; (repeat' split) <;> (simp; done)
@[simp] theorem releaseJob_mode (s0 : State) (o : Origin) : (releaseJob s0 o).mode = s0.mode := by
  unfold releaseJob; (repeat' split) <;> (simp; done)
@[simp] theorem releaseJob_portA (s0 : State) (o : Origin) : (releaseJob s0 o).portA = s0.portA := by
  unfold releaseJob; (repeat' split) <;> (simp; done)
@[simp] theorem releaseJob_portB (s0 : State) (o : Origin) : (releaseJob s0 o).portB = s0.portB := by
  unfold releaseJob; (repeat' split) <;> (simp; done)
@[simp] theorem releaseJob_jobs (s0 : State) (o : Origin) : (releaseJob s0 o).jobs = s0.jobs := by
  unfold releaseJob; (repeat' split) <;> (simp; done)
@[simp] theorem releaseJob_heldJobs (s0 : State) (o : Origin) : (releaseJob s0 o).heldJobs = s0.heldJobs := by
  unfold releaseJob; (repeat' split) <;> (simp; done)
@[simp] theorem releaseJob_qps (s0 : State) (o : Origin) : (releaseJob s0 o).qps = s0.qps := by
  unfold releaseJob; (repeat' split) <;> (simp; done)
@[simp] theorem releaseJob_nextManifest (s0 : State) (o : Origin) : (releaseJob s0 o).nextManifest = s0.nextManifest := by
  unfold releaseJob; (repeat' split) <;> (simp; done)
@[simp] theorem releaseJob_meas (s0 : State) (o : Origin) : (releaseJob s0 o).meas = s0.meas := by
  unfold releaseJob; (repeat' split) <;> (simp; done)
@[simp] theorem releaseJob_measLog (s0 : State) (o : Origin) : (releaseJob s0 o).measLog = s0.measLog := by
  unfold releaseJob; (repeat' split) <;> (simp; done)
@[simp] theorem releaseJob_measNext (s0 : State) (o : Origin) : (releaseJob s0 o).measNext = s0.measNext := by
  unfold releaseJob; (repeat' split) <;> (simp; done)
@[simp] theorem releaseJob_measOverflow (s0 : State) (o : Origin) : (releaseJob s0 o).measOverflow = s0.measOverflow := by
  unfold releaseJob; (repeat' split) <;> (simp; done)
@[simp] theorem releaseJob_truncOffered (s0 : State) (o : Origin) : (releaseJob s0 o).truncOffered = s0.truncOffered := by
  unfold releaseJob; (repeat' split) <;> (simp; done)
@[simp] theorem releaseJob_pufSecret (s0 : State) (o : Origin) : (releaseJob s0 o).pufSecret = s0.pufSecret := by
  unfold releaseJob; (repeat' split) <;> (simp; done)
@[simp] theorem releaseJob_keyed (s0 : State) (o : Origin) : (releaseJob s0 o).keyed = s0.keyed := by
  unfold releaseJob; (repeat' split) <;> (simp; done)
@[simp] theorem releaseJob_cdk (s0 : State) (o : Origin) : (releaseJob s0 o).cdk = s0.cdk := by
  unfold releaseJob; (repeat' split) <;> (simp; done)
@[simp] theorem releaseJob_zeroised (s0 : State) (o : Origin) : (releaseJob s0 o).zeroised = s0.zeroised := by
  unfold releaseJob; (repeat' split) <;> (simp; done)
@[simp] theorem releaseJob_sources (s0 : State) (o : Origin) : (releaseJob s0 o).sources = s0.sources := by
  unfold releaseJob; (repeat' split) <;> (simp; done)
@[simp] theorem releaseJob_entropy (s0 : State) (o : Origin) : (releaseJob s0 o).entropy = s0.entropy := by
  unfold releaseJob; (repeat' split) <;> (simp; done)
@[simp] theorem releaseJob_filling (s0 : State) (o : Origin) : (releaseJob s0 o).filling = s0.filling := by
  unfold releaseJob; (repeat' split) <;> (simp; done)
@[simp] theorem releaseJob_lfsr (s0 : State) (o : Origin) : (releaseJob s0 o).lfsr = s0.lfsr := by
  unfold releaseJob; (repeat' split) <;> (simp; done)
@[simp] theorem releaseJob_tenants (s0 : State) (o : Origin) : (releaseJob s0 o).tenants = s0.tenants := by
  unfold releaseJob; (repeat' split) <;> (simp; done)
@[simp] theorem releaseJob_cfg (s0 : State) (o : Origin) : (releaseJob s0 o).cfg = s0.cfg := by
  unfold releaseJob; (repeat' split) <;> (simp; done)
@[simp] theorem releaseJob_fuses (s0 : State) (o : Origin) : (releaseJob s0 o).fuses = s0.fuses := by
  unfold releaseJob; (repeat' split) <;> (simp; done)
@[simp] theorem releaseJob_boot (s0 : State) (o : Origin) : (releaseJob s0 o).boot = s0.boot := by
  unfold releaseJob; (repeat' split) <;> (simp; done)
@[simp] theorem releaseJob_lcs (s0 : State) (o : Origin) : (releaseJob s0 o).lcs = s0.lcs := by
  unfold releaseJob; (repeat' split) <;> (simp; done)
@[simp] theorem releaseJob_tamper (s0 : State) (o : Origin) : (releaseJob s0 o).tamper = s0.tamper := by
  unfold releaseJob; (repeat' split) <;> (simp; done)
@[simp] theorem releaseJob_pins (s0 : State) (o : Origin) : (releaseJob s0 o).pins = s0.pins := by
  unfold releaseJob; (repeat' split) <;> (simp; done)
@[simp] theorem releaseJob_internalDone (s0 : State) (o : Origin) : (releaseJob s0 o).internalDone = s0.internalDone := by
  unfold releaseJob; (repeat' split) <;> (simp; done)
@[simp] theorem releaseJob_recorder (s0 : State) (o : Origin) : (releaseJob s0 o).recorder = s0.recorder := by
  unfold releaseJob; (repeat' split) <;> (simp; done)
@[simp] theorem releaseJob_amber (s0 : State) (o : Origin) : (releaseJob s0 o).amber = s0.amber := by
  unfold releaseJob; (repeat' split) <;> (simp; done)
@[simp] theorem releaseJob_links (s0 : State) (o : Origin) : (releaseJob s0 o).links = s0.links := by
  unfold releaseJob; (repeat' split) <;> (simp; done)
@[simp] theorem releaseJob_quartz (s0 : State) (o : Origin) : (releaseJob s0 o).quartz = s0.quartz := by
  unfold releaseJob; (repeat' split) <;> (simp; done)
@[simp] theorem releaseJob_regs (s0 : State) (o : Origin) : (releaseJob s0 o).regs = s0.regs := by
  unfold releaseJob; (repeat' split) <;> (simp; done)
@[simp] theorem releaseJob_out (s0 : State) (o : Origin) : (releaseJob s0 o).out = s0.out := by
  unfold releaseJob; (repeat' split) <;> (simp; done)
@[simp] theorem releaseJob_freeIdx (s0 : State) (o : Origin) : (releaseJob s0 o).freeIdx = s0.freeIdx := by
  unfold releaseJob; (repeat' split) <;> (simp; done)
@[simp] theorem releaseJob_pending (s0 : State) (o : Origin) : (releaseJob s0 o).pending = s0.pending := by
  unfold releaseJob; (repeat' split) <;> (simp; done)

/-! ### dropWith -/

@[simp] theorem dropWith_clk (s : State) (j : Job) (st : Nat) : (dropWith s j st).clk = s.clk := by
  unfold dropWith; (repeat' split) <;> (simp; done)
@[simp] theorem dropWith_mode (s : State) (j : Job) (st : Nat) : (dropWith s j st).mode = s.mode := by
  unfold dropWith; (repeat' split) <;> (simp; done)
@[simp] theorem dropWith_nextManifest (s : State) (j : Job) (st : Nat) : (dropWith s j st).nextManifest = s.nextManifest := by
  unfold dropWith; (repeat' split) <;> (simp; done)
@[simp] theorem dropWith_meas (s : State) (j : Job) (st : Nat) : (dropWith s j st).meas = s.meas := by
  unfold dropWith; (repeat' split) <;> (simp; done)
@[simp] theorem dropWith_measLog (s : State) (j : Job) (st : Nat) : (dropWith s j st).measLog = s.measLog := by
  unfold dropWith; (repeat' split) <;> (simp; done)
@[simp] theorem dropWith_measNext (s : State) (j : Job) (st : Nat) : (dropWith s j st).measNext = s.measNext := by
  unfold dropWith; (repeat' split) <;> (simp; done)
@[simp] theorem dropWith_measOverflow (s : State) (j : Job) (st : Nat) : (dropWith s j st).measOverflow = s.measOverflow := by
  unfold dropWith; (repeat' split) <;> (simp; done)
@[simp] theorem dropWith_truncOffered (s : State) (j : Job) (st : Nat) : (dropWith s j st).truncOffered = s.truncOffered := by
  unfold dropWith; (repeat' split) <;> (simp; done)
@[simp] theorem dropWith_pufSecret (s : State) (j : Job) (st : Nat) : (dropWith s j st).pufSecret = s.pufSecret := by
  unfold dropWith; (repeat' split) <;> (simp; done)
@[simp] theorem dropWith_keyed (s : State) (j : Job) (st : Nat) : (dropWith s j st).keyed = s.keyed := by
  unfold dropWith; (repeat' split) <;> (simp; done)
@[simp] theorem dropWith_cdk (s : State) (j : Job) (st : Nat) : (dropWith s j st).cdk = s.cdk := by
  unfold dropWith; (repeat' split) <;> (simp; done)
@[simp] theorem dropWith_zeroised (s : State) (j : Job) (st : Nat) : (dropWith s j st).zeroised = s.zeroised := by
  unfold dropWith; (repeat' split) <;> (simp; done)
@[simp] theorem dropWith_sources (s : State) (j : Job) (st : Nat) : (dropWith s j st).sources = s.sources := by
  unfold dropWith; (repeat' split) <;> (simp; done)
@[simp] theorem dropWith_entropy (s : State) (j : Job) (st : Nat) : (dropWith s j st).entropy = s.entropy := by
  unfold dropWith; (repeat' split) <;> (simp; done)
@[simp] theorem dropWith_filling (s : State) (j : Job) (st : Nat) : (dropWith s j st).filling = s.filling := by
  unfold dropWith; (repeat' split) <;> (simp; done)
@[simp] theorem dropWith_lfsr (s : State) (j : Job) (st : Nat) : (dropWith s j st).lfsr = s.lfsr := by
  unfold dropWith; (repeat' split) <;> (simp; done)
@[simp] theorem dropWith_cfg (s : State) (j : Job) (st : Nat) : (dropWith s j st).cfg = s.cfg := by
  unfold dropWith; (repeat' split) <;> (simp; done)
@[simp] theorem dropWith_fuses (s : State) (j : Job) (st : Nat) : (dropWith s j st).fuses = s.fuses := by
  unfold dropWith; (repeat' split) <;> (simp; done)
@[simp] theorem dropWith_boot (s : State) (j : Job) (st : Nat) : (dropWith s j st).boot = s.boot := by
  unfold dropWith; (repeat' split) <;> (simp; done)
@[simp] theorem dropWith_lcs (s : State) (j : Job) (st : Nat) : (dropWith s j st).lcs = s.lcs := by
  unfold dropWith; (repeat' split) <;> (simp; done)
@[simp] theorem dropWith_tamper (s : State) (j : Job) (st : Nat) : (dropWith s j st).tamper = s.tamper := by
  unfold dropWith; (repeat' split) <;> (simp; done)
@[simp] theorem dropWith_pins (s : State) (j : Job) (st : Nat) : (dropWith s j st).pins = s.pins := by
  unfold dropWith; (repeat' split) <;> (simp; done)
@[simp] theorem dropWith_links (s : State) (j : Job) (st : Nat) : (dropWith s j st).links = s.links := by
  unfold dropWith; (repeat' split) <;> (simp; done)
@[simp] theorem dropWith_quartz (s : State) (j : Job) (st : Nat) : (dropWith s j st).quartz = s.quartz := by
  unfold dropWith; (repeat' split) <;> (simp; done)
@[simp] theorem dropWith_freeIdx (s : State) (j : Job) (st : Nat) : (dropWith s j st).freeIdx = s.freeIdx := by
  unfold dropWith; (repeat' split) <;> (simp; done)
@[simp] theorem dropWith_pending (s : State) (j : Job) (st : Nat) : (dropWith s j st).pending = s.pending := by
  unfold dropWith; (repeat' split) <;> (simp; done)

/-! ### mmio -/

@[simp] theorem mmio_clk (s : State) (p : PortId) (f off len v : Nat) : (mmio s p f off len v).clk = s.clk := by
  unfold mmio; (repeat' split) <;> (simp; done)
@[simp] theorem mmio_mode (s : State) (p : PortId) (f off len v : Nat) : (mmio s p f off len v).mode = s.mode := by
  unfold mmio; (repeat' split) <;> (simp; done)
@[simp] theorem mmio_portA (s : State) (p : PortId) (f off len v : Nat) : (mmio s p f off len v).portA = s.portA := by
  unfold mmio; (repeat' split) <;> (simp; done)
@[simp] theorem mmio_portB (s : State) (p : PortId) (f off len v : Nat) : (mmio s p f off len v).portB = s.portB := by
  unfold mmio; (repeat' split) <;> (simp; done)
@[simp] theorem mmio_jobs (s : State) (p : PortId) (f off len v : Nat) : (mmio s p f off len v).jobs = s.jobs := by
  unfold mmio; (repeat' split) <;> (simp; done)
@[simp] theorem mmio_heldJobs (s : State) (p : PortId) (f off len v : Nat) : (mmio s p f off len v).heldJobs = s.heldJobs := by
  unfold mmio; (repeat' split) <;> (simp; done)
@[simp] theorem mmio_qps (s : State) (p : PortId) (f off len v : Nat) : (mmio s p f off len v).qps = s.qps := by
  unfold mmio; (repeat' split) <;> (simp; done)
@[simp] theorem mmio_sched (s : State) (p : PortId) (f off len v : Nat) : (mmio s p f off len v).sched = s.sched := by
  unfold mmio; (repeat' split) <;> (simp; done)
@[simp] theorem mmio_manifests (s : State) (p : PortId) (f off len v : Nat) : (mmio s p f off len v).manifests = s.manifests := by
  unfold mmio; (repeat' split) <;> (simp; done)
@[simp] theorem mmio_nextManifest (s : State) (p : PortId) (f off len v : Nat) : (mmio s p f off len v).nextManifest = s.nextManifest := by
  unfold mmio; (repeat' split) <;> (simp; done)
@[simp] theorem mmio_sealEngines (s : State) (p : PortId) (f off len v : Nat) : (mmio s p f off len v).sealEngines = s.sealEngines := by
  unfold mmio; (repeat' split) <;> (simp; done)
@[simp] theorem mmio_digests (s : State) (p : PortId) (f off len v : Nat) : (mmio s p f off len v).digests = s.digests := by
  unfold mmio; (repeat' split) <;> (simp; done)
@[simp] theorem mmio_meas (s : State) (p : PortId) (f off len v : Nat) : (mmio s p f off len v).meas = s.meas := by
  unfold mmio; (repeat' split) <;> (simp; done)
@[simp] theorem mmio_measLog (s : State) (p : PortId) (f off len v : Nat) : (mmio s p f off len v).measLog = s.measLog := by
  unfold mmio; (repeat' split) <;> (simp; done)
@[simp] theorem mmio_measNext (s : State) (p : PortId) (f off len v : Nat) : (mmio s p f off len v).measNext = s.measNext := by
  unfold mmio; (repeat' split) <;> (simp; done)
@[simp] theorem mmio_measOverflow (s : State) (p : PortId) (f off len v : Nat) : (mmio s p f off len v).measOverflow = s.measOverflow := by
  unfold mmio; (repeat' split) <;> (simp; done)
@[simp] theorem mmio_truncOffered (s : State) (p : PortId) (f off len v : Nat) : (mmio s p f off len v).truncOffered = s.truncOffered := by
  unfold mmio; (repeat' split) <;> (simp; done)
@[simp] theorem mmio_slots (s : State) (p : PortId) (f off len v : Nat) : (mmio s p f off len v).slots = s.slots := by
  unfold mmio; (repeat' split) <;> (simp; done)
@[simp] theorem mmio_pufSecret (s : State) (p : PortId) (f off len v : Nat) : (mmio s p f off len v).pufSecret = s.pufSecret := by
  unfold mmio; (repeat' split) <;> (simp; done)
@[simp] theorem mmio_keyed (s : State) (p : PortId) (f off len v : Nat) : (mmio s p f off len v).keyed = s.keyed := by
  unfold mmio; (repeat' split) <;> (simp; done)
@[simp] theorem mmio_cdk (s : State) (p : PortId) (f off len v : Nat) : (mmio s p f off len v).cdk = s.cdk := by
  unfold mmio; (repeat' split) <;> (simp; done)
@[simp] theorem mmio_zeroised (s : State) (p : PortId) (f off len v : Nat) : (mmio s p f off len v).zeroised = s.zeroised := by
  unfold mmio; (repeat' split) <;> (simp; done)
@[simp] theorem mmio_agate (s : State) (p : PortId) (f off len v : Nat) : (mmio s p f off len v).agate = s.agate := by
  unfold mmio; (repeat' split) <;> (simp; done)
@[simp] theorem mmio_arith (s : State) (p : PortId) (f off len v : Nat) : (mmio s p f off len v).arith = s.arith := by
  unfold mmio; (repeat' split) <;> (simp; done)
@[simp] theorem mmio_sources (s : State) (p : PortId) (f off len v : Nat) : (mmio s p f off len v).sources = s.sources := by
  unfold mmio; (repeat' split) <;> (simp; done)
@[simp] theorem mmio_entropy (s : State) (p : PortId) (f off len v : Nat) : (mmio s p f off len v).entropy = s.entropy := by
  unfold mmio; (repeat' split) <;> (simp; done)
@[simp] theorem mmio_filling (s : State) (p : PortId) (f off len v : Nat) : (mmio s p f off len v).filling = s.filling := by
  unfold mmio; (repeat' split) <;> (simp; done)
@[simp] theorem mmio_lfsr (s : State) (p : PortId) (f off len v : Nat) : (mmio s p f off len v).lfsr = s.lfsr := by
  unfold mmio; (repeat' split) <;> (simp; done)
@[simp] theorem mmio_drbgs (s : State) (p : PortId) (f off len v : Nat) : (mmio s p f off len v).drbgs = s.drbgs := by
  unfold mmio; (repeat' split) <;> (simp; done)
@[simp] theorem mmio_tenants (s : State) (p : PortId) (f off len v : Nat) : (mmio s p f off len v).tenants = s.tenants := by
  unfold mmio; (repeat' split) <;> (simp; done)
@[simp] theorem mmio_cfg (s : State) (p : PortId) (f off len v : Nat) : (mmio s p f off len v).cfg = s.cfg := by
  unfold mmio; (repeat' split) <;> (simp; done)
@[simp] theorem mmio_fuses (s : State) (p : PortId) (f off len v : Nat) : (mmio s p f off len v).fuses = s.fuses := by
  unfold mmio; (repeat' split) <;> (simp; done)
@[simp] theorem mmio_boot (s : State) (p : PortId) (f off len v : Nat) : (mmio s p f off len v).boot = s.boot := by
  unfold mmio; (repeat' split) <;> (simp; done)
@[simp] theorem mmio_lcs (s : State) (p : PortId) (f off len v : Nat) : (mmio s p f off len v).lcs = s.lcs := by
  unfold mmio; (repeat' split) <;> (simp; done)
@[simp] theorem mmio_tamper (s : State) (p : PortId) (f off len v : Nat) : (mmio s p f off len v).tamper = s.tamper := by
  unfold mmio; (repeat' split) <;> (simp; done)
@[simp] theorem mmio_pins (s : State) (p : PortId) (f off len v : Nat) : (mmio s p f off len v).pins = s.pins := by
  unfold mmio; (repeat' split) <;> (simp; done)
@[simp] theorem mmio_wards (s : State) (p : PortId) (f off len v : Nat) : (mmio s p f off len v).wards = s.wards := by
  unfold mmio; (repeat' split) <;> (simp; done)
@[simp] theorem mmio_tkn (s : State) (p : PortId) (f off len v : Nat) : (mmio s p f off len v).tkn = s.tkn := by
  unfold mmio; (repeat' split) <;> (simp; done)
@[simp] theorem mmio_internalDone (s : State) (p : PortId) (f off len v : Nat) : (mmio s p f off len v).internalDone = s.internalDone := by
  unfold mmio; (repeat' split) <;> (simp; done)
@[simp] theorem mmio_recorder (s : State) (p : PortId) (f off len v : Nat) : (mmio s p f off len v).recorder = s.recorder := by
  unfold mmio; (repeat' split) <;> (simp; done)
@[simp] theorem mmio_links (s : State) (p : PortId) (f off len v : Nat) : (mmio s p f off len v).links = s.links := by
  unfold mmio; (repeat' split) <;> (simp; done)
@[simp] theorem mmio_fabric (s : State) (p : PortId) (f off len v : Nat) : (mmio s p f off len v).fabric = s.fabric := by
  unfold mmio; (repeat' split) <;> (simp; done)
@[simp] theorem mmio_nor (s : State) (p : PortId) (f off len v : Nat) : (mmio s p f off len v).nor = s.nor := by
  unfold mmio; (repeat' split) <;> (simp; done)
@[simp] theorem mmio_mem (s : State) (p : PortId) (f off len v : Nat) : (mmio s p f off len v).mem = s.mem := by
  unfold mmio; (repeat' split) <;> (simp; done)
@[simp] theorem mmio_quartz (s : State) (p : PortId) (f off len v : Nat) : (mmio s p f off len v).quartz = s.quartz := by
  unfold mmio; (repeat' split) <;> (simp; done)
@[simp] theorem mmio_regs (s : State) (p : PortId) (f off len v : Nat) : (mmio s p f off len v).regs = s.regs := by
  unfold mmio; (repeat' split) <;> (simp; done)
@[simp] theorem mmio_out (s : State) (p : PortId) (f off len v : Nat) : (mmio s p f off len v).out = s.out := by
  unfold mmio; (repeat' split) <;> (simp; done)
@[simp] theorem mmio_freeIdx (s : State) (p : PortId) (f off len v : Nat) : (mmio s p f off len v).freeIdx = s.freeIdx := by
  unfold mmio; (repeat' split) <;> (simp; done)
@[simp] theorem mmio_pending (s : State) (p : PortId) (f off len v : Nat) : (mmio s p f off len v).pending = s.pending := by
  unfold mmio; (repeat' split) <;> (simp; done)

/-! ### regEntry -/

@[simp] theorem regEntry_clk (s : State) (a v : Nat) : (regEntry s a v).clk = s.clk := by
  unfold regEntry; (repeat' split) <;> (simp; done)
@[simp] theorem regEntry_mode (s : State) (a v : Nat) : (regEntry s a v).mode = s.mode := by
  unfold regEntry; (repeat' split) <;> (simp; done)
@[simp] theorem regEntry_portA (s : State) (a v : Nat) : (regEntry s a v).portA = s.portA := by
  unfold regEntry; (repeat' split) <;> (simp; done)
@[simp] theorem regEntry_portB (s : State) (a v : Nat) : (regEntry s a v).portB = s.portB := by
  unfold regEntry; (repeat' split) <;> (simp; done)
@[simp] theorem regEntry_jobs (s : State) (a v : Nat) : (regEntry s a v).jobs = s.jobs := by
  unfold regEntry; (repeat' split) <;> (simp; done)
@[simp] theorem regEntry_heldJobs (s : State) (a v : Nat) : (regEntry s a v).heldJobs = s.heldJobs := by
  unfold regEntry; (repeat' split) <;> (simp; done)
@[simp] theorem regEntry_qps (s : State) (a v : Nat) : (regEntry s a v).qps = s.qps := by
  unfold regEntry; (repeat' split) <;> (simp; done)
@[simp] theorem regEntry_sched (s : State) (a v : Nat) : (regEntry s a v).sched = s.sched := by
  unfold regEntry; (repeat' split) <;> (simp; done)
@[simp] theorem regEntry_manifests (s : State) (a v : Nat) : (regEntry s a v).manifests = s.manifests := by
  unfold regEntry; (repeat' split) <;> (simp; done)
@[simp] theorem regEntry_nextManifest (s : State) (a v : Nat) : (regEntry s a v).nextManifest = s.nextManifest := by
  unfold regEntry; (repeat' split) <;> (simp; done)
@[simp] theorem regEntry_sealEngines (s : State) (a v : Nat) : (regEntry s a v).sealEngines = s.sealEngines := by
  unfold regEntry; (repeat' split) <;> (simp; done)
@[simp] theorem regEntry_digests (s : State) (a v : Nat) : (regEntry s a v).digests = s.digests := by
  unfold regEntry; (repeat' split) <;> (simp; done)
@[simp] theorem regEntry_meas (s : State) (a v : Nat) : (regEntry s a v).meas = s.meas := by
  unfold regEntry; (repeat' split) <;> (simp; done)
@[simp] theorem regEntry_measLog (s : State) (a v : Nat) : (regEntry s a v).measLog = s.measLog := by
  unfold regEntry; (repeat' split) <;> (simp; done)
@[simp] theorem regEntry_measNext (s : State) (a v : Nat) : (regEntry s a v).measNext = s.measNext := by
  unfold regEntry; (repeat' split) <;> (simp; done)
@[simp] theorem regEntry_measOverflow (s : State) (a v : Nat) : (regEntry s a v).measOverflow = s.measOverflow := by
  unfold regEntry; (repeat' split) <;> (simp; done)
@[simp] theorem regEntry_truncOffered (s : State) (a v : Nat) : (regEntry s a v).truncOffered = s.truncOffered := by
  unfold regEntry; (repeat' split) <;> (simp; done)
@[simp] theorem regEntry_slots (s : State) (a v : Nat) : (regEntry s a v).slots = s.slots := by
  unfold regEntry; (repeat' split) <;> (simp; done)
@[simp] theorem regEntry_pufSecret (s : State) (a v : Nat) : (regEntry s a v).pufSecret = s.pufSecret := by
  unfold regEntry; (repeat' split) <;> (simp; done)
@[simp] theorem regEntry_keyed (s : State) (a v : Nat) : (regEntry s a v).keyed = s.keyed := by
  unfold regEntry; (repeat' split) <;> (simp; done)
@[simp] theorem regEntry_cdk (s : State) (a v : Nat) : (regEntry s a v).cdk = s.cdk := by
  unfold regEntry; (repeat' split) <;> (simp; done)
@[simp] theorem regEntry_zeroised (s : State) (a v : Nat) : (regEntry s a v).zeroised = s.zeroised := by
  unfold regEntry; (repeat' split) <;> (simp; done)
@[simp] theorem regEntry_agate (s : State) (a v : Nat) : (regEntry s a v).agate = s.agate := by
  unfold regEntry; (repeat' split) <;> (simp; done)
@[simp] theorem regEntry_arith (s : State) (a v : Nat) : (regEntry s a v).arith = s.arith := by
  unfold regEntry; (repeat' split) <;> (simp; done)
@[simp] theorem regEntry_sources (s : State) (a v : Nat) : (regEntry s a v).sources = s.sources := by
  unfold regEntry; (repeat' split) <;> (simp; done)
@[simp] theorem regEntry_entropy (s : State) (a v : Nat) : (regEntry s a v).entropy = s.entropy := by
  unfold regEntry; (repeat' split) <;> (simp; done)
@[simp] theorem regEntry_filling (s : State) (a v : Nat) : (regEntry s a v).filling = s.filling := by
  unfold regEntry; (repeat' split) <;> (simp; done)
@[simp] theorem regEntry_lfsr (s : State) (a v : Nat) : (regEntry s a v).lfsr = s.lfsr := by
  unfold regEntry; (repeat' split) <;> (simp; done)
@[simp] theorem regEntry_drbgs (s : State) (a v : Nat) : (regEntry s a v).drbgs = s.drbgs := by
  unfold regEntry; (repeat' split) <;> (simp; done)
@[simp] theorem regEntry_tenants (s : State) (a v : Nat) : (regEntry s a v).tenants = s.tenants := by
  unfold regEntry; (repeat' split) <;> (simp; done)
@[simp] theorem regEntry_cfg (s : State) (a v : Nat) : (regEntry s a v).cfg = s.cfg := by
  unfold regEntry; (repeat' split) <;> (simp; done)
@[simp] theorem regEntry_fuses (s : State) (a v : Nat) : (regEntry s a v).fuses = s.fuses := by
  unfold regEntry; (repeat' split) <;> (simp; done)
@[simp] theorem regEntry_boot (s : State) (a v : Nat) : (regEntry s a v).boot = s.boot := by
  unfold regEntry; (repeat' split) <;> (simp; done)
@[simp] theorem regEntry_lcs (s : State) (a v : Nat) : (regEntry s a v).lcs = s.lcs := by
  unfold regEntry; (repeat' split) <;> (simp; done)
@[simp] theorem regEntry_tamper (s : State) (a v : Nat) : (regEntry s a v).tamper = s.tamper := by
  unfold regEntry; (repeat' split) <;> (simp; done)
@[simp] theorem regEntry_pins (s : State) (a v : Nat) : (regEntry s a v).pins = s.pins := by
  unfold regEntry; (repeat' split) <;> (simp; done)
@[simp] theorem regEntry_wards (s : State) (a v : Nat) : (regEntry s a v).wards = s.wards := by
  unfold regEntry; (repeat' split) <;> (simp; done)
@[simp] theorem regEntry_tkn (s : State) (a v : Nat) : (regEntry s a v).tkn = s.tkn := by
  unfold regEntry; (repeat' split) <;> (simp; done)
@[simp] theorem regEntry_internalDone (s : State) (a v : Nat) : (regEntry s a v).internalDone = s.internalDone := by
  unfold regEntry; (repeat' split) <;> (simp; done)
@[simp] theorem regEntry_recorder (s : State) (a v : Nat) : (regEntry s a v).recorder = s.recorder := by
  unfold regEntry; (repeat' split) <;> (simp; done)
@[simp] theorem regEntry_links (s : State) (a v : Nat) : (regEntry s a v).links = s.links := by
  unfold regEntry; (repeat' split) <;> (simp; done)
@[simp] theorem regEntry_fabric (s : State) (a v : Nat) : (regEntry s a v).fabric = s.fabric := by
  unfold regEntry; (repeat' split) <;> (simp; done)
@[simp] theorem regEntry_nor (s : State) (a v : Nat) : (regEntry s a v).nor = s.nor := by
  unfold regEntry; (repeat' split) <;> (simp; done)
@[simp] theorem regEntry_mem (s : State) (a v : Nat) : (regEntry s a v).mem = s.mem := by
  unfold regEntry; (repeat' split) <;> (simp; done)
@[simp] theorem regEntry_quartz (s : State) (a v : Nat) : (regEntry s a v).quartz = s.quartz := by
  unfold regEntry; (repeat' split) <;> (simp; done)
@[simp] theorem regEntry_regs (s : State) (a v : Nat) : (regEntry s a v).regs = s.regs := by
  unfold regEntry; (repeat' split) <;> (simp; done)
@[simp] theorem regEntry_out (s : State) (a v : Nat) : (regEntry s a v).out = s.out := by
  unfold regEntry; (repeat' split) <;> (simp; done)
@[simp] theorem regEntry_freeIdx (s : State) (a v : Nat) : (regEntry s a v).freeIdx = s.freeIdx := by
  unfold regEntry; (repeat' split) <;> (simp; done)
@[simp] theorem regEntry_pending (s : State) (a v : Nat) : (regEntry s a v).pending = s.pending := by
  unfold regEntry; (repeat' split) <;> (simp; done)

/-! ### setMode -/

@[simp] theorem setMode_clk (s : State) (m : Mode) : (setMode s m).clk = s.clk := by
  unfold setMode; (repeat' split) <;> (simp; done)
@[simp] theorem setMode_portA (s : State) (m : Mode) : (setMode s m).portA = s.portA := by
  unfold setMode; (repeat' split) <;> (simp; done)
@[simp] theorem setMode_portB (s : State) (m : Mode) : (setMode s m).portB = s.portB := by
  unfold setMode; (repeat' split) <;> (simp; done)
@[simp] theorem setMode_jobs (s : State) (m : Mode) : (setMode s m).jobs = s.jobs := by
  unfold setMode; (repeat' split) <;> (simp; done)
@[simp] theorem setMode_heldJobs (s : State) (m : Mode) : (setMode s m).heldJobs = s.heldJobs := by
  unfold setMode; (repeat' split) <;> (simp; done)
@[simp] theorem setMode_qps (s : State) (m : Mode) : (setMode s m).qps = s.qps := by
  unfold setMode; (repeat' split) <;> (simp; done)
@[simp] theorem setMode_sched (s : State) (m : Mode) : (setMode s m).sched = s.sched := by
  unfold setMode; (repeat' split) <;> (simp; done)
@[simp] theorem setMode_manifests (s : State) (m : Mode) : (setMode s m).manifests = s.manifests := by
  unfold setMode; (repeat' split) <;> (simp; done)
@[simp] theorem setMode_nextManifest (s : State) (m : Mode) : (setMode s m).nextManifest = s.nextManifest := by
  unfold setMode; (repeat' split) <;> (simp; done)
@[simp] theorem setMode_sealEngines (s : State) (m : Mode) : (setMode s m).sealEngines = s.sealEngines := by
  unfold setMode; (repeat' split) <;> (simp; done)
@[simp] theorem setMode_digests (s : State) (m : Mode) : (setMode s m).digests = s.digests := by
  unfold setMode; (repeat' split) <;> (simp; done)
@[simp] theorem setMode_meas (s : State) (m : Mode) : (setMode s m).meas = s.meas := by
  unfold setMode; (repeat' split) <;> (simp; done)
@[simp] theorem setMode_measLog (s : State) (m : Mode) : (setMode s m).measLog = s.measLog := by
  unfold setMode; (repeat' split) <;> (simp; done)
@[simp] theorem setMode_measNext (s : State) (m : Mode) : (setMode s m).measNext = s.measNext := by
  unfold setMode; (repeat' split) <;> (simp; done)
@[simp] theorem setMode_measOverflow (s : State) (m : Mode) : (setMode s m).measOverflow = s.measOverflow := by
  unfold setMode; (repeat' split) <;> (simp; done)
@[simp] theorem setMode_truncOffered (s : State) (m : Mode) : (setMode s m).truncOffered = s.truncOffered := by
  unfold setMode; (repeat' split) <;> (simp; done)
@[simp] theorem setMode_slots (s : State) (m : Mode) : (setMode s m).slots = s.slots := by
  unfold setMode; (repeat' split) <;> (simp; done)
@[simp] theorem setMode_pufSecret (s : State) (m : Mode) : (setMode s m).pufSecret = s.pufSecret := by
  unfold setMode; (repeat' split) <;> (simp; done)
@[simp] theorem setMode_keyed (s : State) (m : Mode) : (setMode s m).keyed = s.keyed := by
  unfold setMode; (repeat' split) <;> (simp; done)
@[simp] theorem setMode_cdk (s : State) (m : Mode) : (setMode s m).cdk = s.cdk := by
  unfold setMode; (repeat' split) <;> (simp; done)
@[simp] theorem setMode_zeroised (s : State) (m : Mode) : (setMode s m).zeroised = s.zeroised := by
  unfold setMode; (repeat' split) <;> (simp; done)
@[simp] theorem setMode_agate (s : State) (m : Mode) : (setMode s m).agate = s.agate := by
  unfold setMode; (repeat' split) <;> (simp; done)
@[simp] theorem setMode_arith (s : State) (m : Mode) : (setMode s m).arith = s.arith := by
  unfold setMode; (repeat' split) <;> (simp; done)
@[simp] theorem setMode_sources (s : State) (m : Mode) : (setMode s m).sources = s.sources := by
  unfold setMode; (repeat' split) <;> (simp; done)
@[simp] theorem setMode_entropy (s : State) (m : Mode) : (setMode s m).entropy = s.entropy := by
  unfold setMode; (repeat' split) <;> (simp; done)
@[simp] theorem setMode_filling (s : State) (m : Mode) : (setMode s m).filling = s.filling := by
  unfold setMode; (repeat' split) <;> (simp; done)
@[simp] theorem setMode_lfsr (s : State) (m : Mode) : (setMode s m).lfsr = s.lfsr := by
  unfold setMode; (repeat' split) <;> (simp; done)
@[simp] theorem setMode_drbgs (s : State) (m : Mode) : (setMode s m).drbgs = s.drbgs := by
  unfold setMode; (repeat' split) <;> (simp; done)
@[simp] theorem setMode_tenants (s : State) (m : Mode) : (setMode s m).tenants = s.tenants := by
  unfold setMode; (repeat' split) <;> (simp; done)
@[simp] theorem setMode_cfg (s : State) (m : Mode) : (setMode s m).cfg = s.cfg := by
  unfold setMode; (repeat' split) <;> (simp; done)
@[simp] theorem setMode_fuses (s : State) (m : Mode) : (setMode s m).fuses = s.fuses := by
  unfold setMode; (repeat' split) <;> (simp; done)
@[simp] theorem setMode_boot (s : State) (m : Mode) : (setMode s m).boot = s.boot := by
  unfold setMode; (repeat' split) <;> (simp; done)
@[simp] theorem setMode_lcs (s : State) (m : Mode) : (setMode s m).lcs = s.lcs := by
  unfold setMode; (repeat' split) <;> (simp; done)
@[simp] theorem setMode_tamper (s : State) (m : Mode) : (setMode s m).tamper = s.tamper := by
  unfold setMode; (repeat' split) <;> (simp; done)
@[simp] theorem setMode_pins (s : State) (m : Mode) : (setMode s m).pins = s.pins := by
  unfold setMode; (repeat' split) <;> (simp; done)
@[simp] theorem setMode_wards (s : State) (m : Mode) : (setMode s m).wards = s.wards := by
  unfold setMode; (repeat' split) <;> (simp; done)
@[simp] theorem setMode_tkn (s : State) (m : Mode) : (setMode s m).tkn = s.tkn := by
  unfold setMode; (repeat' split) <;> (simp; done)
@[simp] theorem setMode_internalDone (s : State) (m : Mode) : (setMode s m).internalDone = s.internalDone := by
  unfold setMode; (repeat' split) <;> (simp; done)
@[simp] theorem setMode_links (s : State) (m : Mode) : (setMode s m).links = s.links := by
  unfold setMode; (repeat' split) <;> (simp; done)
@[simp] theorem setMode_fabric (s : State) (m : Mode) : (setMode s m).fabric = s.fabric := by
  unfold setMode; (repeat' split) <;> (simp; done)
@[simp] theorem setMode_nor (s : State) (m : Mode) : (setMode s m).nor = s.nor := by
  unfold setMode; (repeat' split) <;> (simp; done)
@[simp] theorem setMode_mem (s : State) (m : Mode) : (setMode s m).mem = s.mem := by
  unfold setMode; (repeat' split) <;> (simp; done)
@[simp] theorem setMode_quartz (s : State) (m : Mode) : (setMode s m).quartz = s.quartz := by
  unfold setMode; (repeat' split) <;> (simp; done)
@[simp] theorem setMode_out (s : State) (m : Mode) : (setMode s m).out = s.out := by
  unfold setMode; (repeat' split) <;> (simp; done)
@[simp] theorem setMode_freeIdx (s : State) (m : Mode) : (setMode s m).freeIdx = s.freeIdx := by
  unfold setMode; (repeat' split) <;> (simp; done)
@[simp] theorem setMode_pending (s : State) (m : Mode) : (setMode s m).pending = s.pending := by
  unfold setMode; (repeat' split) <;> (simp; done)

/-! ### extendNow -/

@[simp] theorem extendNow_clk (s : State) (i eventType : Nat) (trunc : Bool) (d384 d512 : Bytes) : (extendNow s i eventType trunc d384 d512).clk = s.clk := by
  unfold extendNow; (repeat' split) <;> (simp; done)
@[simp] theorem extendNow_mode (s : State) (i eventType : Nat) (trunc : Bool) (d384 d512 : Bytes) : (extendNow s i eventType trunc d384 d512).mode = s.mode := by
  unfold extendNow; (repeat' split) <;> (simp; done)
@[simp] theorem extendNow_portA (s : State) (i eventType : Nat) (trunc : Bool) (d384 d512 : Bytes) : (extendNow s i eventType trunc d384 d512).portA = s.portA := by
  unfold extendNow; (repeat' split) <;> (simp; done)
@[simp] theorem extendNow_portB (s : State) (i eventType : Nat) (trunc : Bool) (d384 d512 : Bytes) : (extendNow s i eventType trunc d384 d512).portB = s.portB := by
  unfold extendNow; (repeat' split) <;> (simp; done)
@[simp] theorem extendNow_jobs (s : State) (i eventType : Nat) (trunc : Bool) (d384 d512 : Bytes) : (extendNow s i eventType trunc d384 d512).jobs = s.jobs := by
  unfold extendNow; (repeat' split) <;> (simp; done)
@[simp] theorem extendNow_heldJobs (s : State) (i eventType : Nat) (trunc : Bool) (d384 d512 : Bytes) : (extendNow s i eventType trunc d384 d512).heldJobs = s.heldJobs := by
  unfold extendNow; (repeat' split) <;> (simp; done)
@[simp] theorem extendNow_qps (s : State) (i eventType : Nat) (trunc : Bool) (d384 d512 : Bytes) : (extendNow s i eventType trunc d384 d512).qps = s.qps := by
  unfold extendNow; (repeat' split) <;> (simp; done)
@[simp] theorem extendNow_sched (s : State) (i eventType : Nat) (trunc : Bool) (d384 d512 : Bytes) : (extendNow s i eventType trunc d384 d512).sched = s.sched := by
  unfold extendNow; (repeat' split) <;> (simp; done)
@[simp] theorem extendNow_manifests (s : State) (i eventType : Nat) (trunc : Bool) (d384 d512 : Bytes) : (extendNow s i eventType trunc d384 d512).manifests = s.manifests := by
  unfold extendNow; (repeat' split) <;> (simp; done)
@[simp] theorem extendNow_nextManifest (s : State) (i eventType : Nat) (trunc : Bool) (d384 d512 : Bytes) : (extendNow s i eventType trunc d384 d512).nextManifest = s.nextManifest := by
  unfold extendNow; (repeat' split) <;> (simp; done)
@[simp] theorem extendNow_sealEngines (s : State) (i eventType : Nat) (trunc : Bool) (d384 d512 : Bytes) : (extendNow s i eventType trunc d384 d512).sealEngines = s.sealEngines := by
  unfold extendNow; (repeat' split) <;> (simp; done)
@[simp] theorem extendNow_digests (s : State) (i eventType : Nat) (trunc : Bool) (d384 d512 : Bytes) : (extendNow s i eventType trunc d384 d512).digests = s.digests := by
  unfold extendNow; (repeat' split) <;> (simp; done)
@[simp] theorem extendNow_truncOffered (s : State) (i eventType : Nat) (trunc : Bool) (d384 d512 : Bytes) : (extendNow s i eventType trunc d384 d512).truncOffered = s.truncOffered := by
  unfold extendNow; (repeat' split) <;> (simp; done)
@[simp] theorem extendNow_slots (s : State) (i eventType : Nat) (trunc : Bool) (d384 d512 : Bytes) : (extendNow s i eventType trunc d384 d512).slots = s.slots := by
  unfold extendNow; (repeat' split) <;> (simp; done)
@[simp] theorem extendNow_pufSecret (s : State) (i eventType : Nat) (trunc : Bool) (d384 d512 : Bytes) : (extendNow s i eventType trunc d384 d512).pufSecret = s.pufSecret := by
  unfold extendNow; (repeat' split) <;> (simp; done)
@[simp] theorem extendNow_keyed (s : State) (i eventType : Nat) (trunc : Bool) (d384 d512 : Bytes) : (extendNow s i eventType trunc d384 d512).keyed = s.keyed := by
  unfold extendNow; (repeat' split) <;> (simp; done)
@[simp] theorem extendNow_cdk (s : State) (i eventType : Nat) (trunc : Bool) (d384 d512 : Bytes) : (extendNow s i eventType trunc d384 d512).cdk = s.cdk := by
  unfold extendNow; (repeat' split) <;> (simp; done)
@[simp] theorem extendNow_zeroised (s : State) (i eventType : Nat) (trunc : Bool) (d384 d512 : Bytes) : (extendNow s i eventType trunc d384 d512).zeroised = s.zeroised := by
  unfold extendNow; (repeat' split) <;> (simp; done)
@[simp] theorem extendNow_agate (s : State) (i eventType : Nat) (trunc : Bool) (d384 d512 : Bytes) : (extendNow s i eventType trunc d384 d512).agate = s.agate := by
  unfold extendNow; (repeat' split) <;> (simp; done)
@[simp] theorem extendNow_arith (s : State) (i eventType : Nat) (trunc : Bool) (d384 d512 : Bytes) : (extendNow s i eventType trunc d384 d512).arith = s.arith := by
  unfold extendNow; (repeat' split) <;> (simp; done)
@[simp] theorem extendNow_sources (s : State) (i eventType : Nat) (trunc : Bool) (d384 d512 : Bytes) : (extendNow s i eventType trunc d384 d512).sources = s.sources := by
  unfold extendNow; (repeat' split) <;> (simp; done)
@[simp] theorem extendNow_entropy (s : State) (i eventType : Nat) (trunc : Bool) (d384 d512 : Bytes) : (extendNow s i eventType trunc d384 d512).entropy = s.entropy := by
  unfold extendNow; (repeat' split) <;> (simp; done)
@[simp] theorem extendNow_filling (s : State) (i eventType : Nat) (trunc : Bool) (d384 d512 : Bytes) : (extendNow s i eventType trunc d384 d512).filling = s.filling := by
  unfold extendNow; (repeat' split) <;> (simp; done)
@[simp] theorem extendNow_lfsr (s : State) (i eventType : Nat) (trunc : Bool) (d384 d512 : Bytes) : (extendNow s i eventType trunc d384 d512).lfsr = s.lfsr := by
  unfold extendNow; (repeat' split) <;> (simp; done)
@[simp] theorem extendNow_drbgs (s : State) (i eventType : Nat) (trunc : Bool) (d384 d512 : Bytes) : (extendNow s i eventType trunc d384 d512).drbgs = s.drbgs := by
  unfold extendNow; (repeat' split) <;> (simp; done)
@[simp] theorem extendNow_tenants (s : State) (i eventType : Nat) (trunc : Bool) (d384 d512 : Bytes) : (extendNow s i eventType trunc d384 d512).tenants = s.tenants := by
  unfold extendNow; (repeat' split) <;> (simp; done)
@[simp] theorem extendNow_cfg (s : State) (i eventType : Nat) (trunc : Bool) (d384 d512 : Bytes) : (extendNow s i eventType trunc d384 d512).cfg = s.cfg := by
  unfold extendNow; (repeat' split) <;> (simp; done)
@[simp] theorem extendNow_fuses (s : State) (i eventType : Nat) (trunc : Bool) (d384 d512 : Bytes) : (extendNow s i eventType trunc d384 d512).fuses = s.fuses := by
  unfold extendNow; (repeat' split) <;> (simp; done)
@[simp] theorem extendNow_boot (s : State) (i eventType : Nat) (trunc : Bool) (d384 d512 : Bytes) : (extendNow s i eventType trunc d384 d512).boot = s.boot := by
  unfold extendNow; (repeat' split) <;> (simp; done)
@[simp] theorem extendNow_lcs (s : State) (i eventType : Nat) (trunc : Bool) (d384 d512 : Bytes) : (extendNow s i eventType trunc d384 d512).lcs = s.lcs := by
  unfold extendNow; (repeat' split) <;> (simp; done)
@[simp] theorem extendNow_tamper (s : State) (i eventType : Nat) (trunc : Bool) (d384 d512 : Bytes) : (extendNow s i eventType trunc d384 d512).tamper = s.tamper := by
  unfold extendNow; (repeat' split) <;> (simp; done)
@[simp] theorem extendNow_pins (s : State) (i eventType : Nat) (trunc : Bool) (d384 d512 : Bytes) : (extendNow s i eventType trunc d384 d512).pins = s.pins := by
  unfold extendNow; (repeat' split) <;> (simp; done)
@[simp] theorem extendNow_wards (s : State) (i eventType : Nat) (trunc : Bool) (d384 d512 : Bytes) : (extendNow s i eventType trunc d384 d512).wards = s.wards := by
  unfold extendNow; (repeat' split) <;> (simp; done)
@[simp] theorem extendNow_tkn (s : State) (i eventType : Nat) (trunc : Bool) (d384 d512 : Bytes) : (extendNow s i eventType trunc d384 d512).tkn = s.tkn := by
  unfold extendNow; (repeat' split) <;> (simp; done)
@[simp] theorem extendNow_internalDone (s : State) (i eventType : Nat) (trunc : Bool) (d384 d512 : Bytes) : (extendNow s i eventType trunc d384 d512).internalDone = s.internalDone := by
  unfold extendNow; (repeat' split) <;> (simp; done)
@[simp] theorem extendNow_recorder (s : State) (i eventType : Nat) (trunc : Bool) (d384 d512 : Bytes) : (extendNow s i eventType trunc d384 d512).recorder = s.recorder := by
  unfold extendNow; (repeat' split) <;> (simp; done)
@[simp] theorem extendNow_links (s : State) (i eventType : Nat) (trunc : Bool) (d384 d512 : Bytes) : (extendNow s i eventType trunc d384 d512).links = s.links := by
  unfold extendNow; (repeat' split) <;> (simp; done)
@[simp] theorem extendNow_fabric (s : State) (i eventType : Nat) (trunc : Bool) (d384 d512 : Bytes) : (extendNow s i eventType trunc d384 d512).fabric = s.fabric := by
  unfold extendNow; (repeat' split) <;> (simp; done)
@[simp] theorem extendNow_nor (s : State) (i eventType : Nat) (trunc : Bool) (d384 d512 : Bytes) : (extendNow s i eventType trunc d384 d512).nor = s.nor := by
  unfold extendNow; (repeat' split) <;> (simp; done)
@[simp] theorem extendNow_mem (s : State) (i eventType : Nat) (trunc : Bool) (d384 d512 : Bytes) : (extendNow s i eventType trunc d384 d512).mem = s.mem := by
  unfold extendNow; (repeat' split) <;> (simp; done)
@[simp] theorem extendNow_quartz (s : State) (i eventType : Nat) (trunc : Bool) (d384 d512 : Bytes) : (extendNow s i eventType trunc d384 d512).quartz = s.quartz := by
  unfold extendNow; (repeat' split) <;> (simp; done)
@[simp] theorem extendNow_regs (s : State) (i eventType : Nat) (trunc : Bool) (d384 d512 : Bytes) : (extendNow s i eventType trunc d384 d512).regs = s.regs := by
  unfold extendNow; (repeat' split) <;> (simp; done)
@[simp] theorem extendNow_out (s : State) (i eventType : Nat) (trunc : Bool) (d384 d512 : Bytes) : (extendNow s i eventType trunc d384 d512).out = s.out := by
  unfold extendNow; (repeat' split) <;> (simp; done)
@[simp] theorem extendNow_freeIdx (s : State) (i eventType : Nat) (trunc : Bool) (d384 d512 : Bytes) : (extendNow s i eventType trunc d384 d512).freeIdx = s.freeIdx := by
  unfold extendNow; (repeat' split) <;> (simp; done)
@[simp] theorem extendNow_pending (s : State) (i eventType : Nat) (trunc : Bool) (d384 d512 : Bytes) : (extendNow s i eventType trunc d384 d512).pending = s.pending := by
  unfold extendNow; (repeat' split) <;> (simp; done)

/-! ### extendFrom -/

@[simp] theorem extendFrom_clk (s : State) (src i eventType : Nat) (trunc : Bool) (stream : Bytes) : (extendFrom s src i eventType trunc stream).clk = s.clk := by
  unfold extendFrom; (repeat' split) <;> (simp; done)
@[simp] theorem extendFrom_mode (s : State) (src i eventType : Nat) (trunc : Bool) (stream : Bytes) : (extendFrom s src i eventType trunc stream).mode = s.mode := by
  unfold extendFrom; (repeat' split) <;> (simp; done)
@[simp] theorem extendFrom_portA (s : State) (src i eventType : Nat) (trunc : Bool) (stream : Bytes) : (extendFrom s src i eventType trunc stream).portA = s.portA := by
  unfold extendFrom; (repeat' split) <;> (simp; done)
@[simp] theorem extendFrom_portB (s : State) (src i eventType : Nat) (trunc : Bool) (stream : Bytes) : (extendFrom s src i eventType trunc stream).portB = s.portB := by
  unfold extendFrom; (repeat' split) <;> (simp; done)
@[simp] theorem extendFrom_jobs (s : State) (src i eventType : Nat) (trunc : Bool) (stream : Bytes) : (extendFrom s src i eventType trunc stream).jobs = s.jobs := by
  unfold extendFrom; (repeat' split) <;> (simp; done)
@[simp] theorem extendFrom_heldJobs (s : State) (src i eventType : Nat) (trunc : Bool) (stream : Bytes) : (extendFrom s src i eventType trunc stream).heldJobs = s.heldJobs := by
  unfold extendFrom; (repeat' split) <;> (simp; done)
@[simp] theorem extendFrom_qps (s : State) (src i eventType : Nat) (trunc : Bool) (stream : Bytes) : (extendFrom s src i eventType trunc stream).qps = s.qps := by
  unfold extendFrom; (repeat' split) <;> (simp; done)
@[simp] theorem extendFrom_sched (s : State) (src i eventType : Nat) (trunc : Bool) (stream : Bytes) : (extendFrom s src i eventType trunc stream).sched = s.sched := by
  unfold extendFrom; (repeat' split) <;> (simp; done)
@[simp] theorem extendFrom_manifests (s : State) (src i eventType : Nat) (trunc : Bool) (stream : Bytes) : (extendFrom s src i eventType trunc stream).manifests = s.manifests := by
  unfold extendFrom; (repeat' split) <;> (simp; done)
@[simp] theorem extendFrom_nextManifest (s : State) (src i eventType : Nat) (trunc : Bool) (stream : Bytes) : (extendFrom s src i eventType trunc stream).nextManifest = s.nextManifest := by
  unfold extendFrom; (repeat' split) <;> (simp; done)
@[simp] theorem extendFrom_sealEngines (s : State) (src i eventType : Nat) (trunc : Bool) (stream : Bytes) : (extendFrom s src i eventType trunc stream).sealEngines = s.sealEngines := by
  unfold extendFrom; (repeat' split) <;> (simp; done)
@[simp] theorem extendFrom_digests (s : State) (src i eventType : Nat) (trunc : Bool) (stream : Bytes) : (extendFrom s src i eventType trunc stream).digests = s.digests := by
  unfold extendFrom; (repeat' split) <;> (simp; done)
@[simp] theorem extendFrom_truncOffered (s : State) (src i eventType : Nat) (trunc : Bool) (stream : Bytes) : (extendFrom s src i eventType trunc stream).truncOffered = s.truncOffered := by
  unfold extendFrom; (repeat' split) <;> (simp; done)
@[simp] theorem extendFrom_slots (s : State) (src i eventType : Nat) (trunc : Bool) (stream : Bytes) : (extendFrom s src i eventType trunc stream).slots = s.slots := by
  unfold extendFrom; (repeat' split) <;> (simp; done)
@[simp] theorem extendFrom_pufSecret (s : State) (src i eventType : Nat) (trunc : Bool) (stream : Bytes) : (extendFrom s src i eventType trunc stream).pufSecret = s.pufSecret := by
  unfold extendFrom; (repeat' split) <;> (simp; done)
@[simp] theorem extendFrom_keyed (s : State) (src i eventType : Nat) (trunc : Bool) (stream : Bytes) : (extendFrom s src i eventType trunc stream).keyed = s.keyed := by
  unfold extendFrom; (repeat' split) <;> (simp; done)
@[simp] theorem extendFrom_cdk (s : State) (src i eventType : Nat) (trunc : Bool) (stream : Bytes) : (extendFrom s src i eventType trunc stream).cdk = s.cdk := by
  unfold extendFrom; (repeat' split) <;> (simp; done)
@[simp] theorem extendFrom_zeroised (s : State) (src i eventType : Nat) (trunc : Bool) (stream : Bytes) : (extendFrom s src i eventType trunc stream).zeroised = s.zeroised := by
  unfold extendFrom; (repeat' split) <;> (simp; done)
@[simp] theorem extendFrom_agate (s : State) (src i eventType : Nat) (trunc : Bool) (stream : Bytes) : (extendFrom s src i eventType trunc stream).agate = s.agate := by
  unfold extendFrom; (repeat' split) <;> (simp; done)
@[simp] theorem extendFrom_arith (s : State) (src i eventType : Nat) (trunc : Bool) (stream : Bytes) : (extendFrom s src i eventType trunc stream).arith = s.arith := by
  unfold extendFrom; (repeat' split) <;> (simp; done)
@[simp] theorem extendFrom_sources (s : State) (src i eventType : Nat) (trunc : Bool) (stream : Bytes) : (extendFrom s src i eventType trunc stream).sources = s.sources := by
  unfold extendFrom; (repeat' split) <;> (simp; done)
@[simp] theorem extendFrom_entropy (s : State) (src i eventType : Nat) (trunc : Bool) (stream : Bytes) : (extendFrom s src i eventType trunc stream).entropy = s.entropy := by
  unfold extendFrom; (repeat' split) <;> (simp; done)
@[simp] theorem extendFrom_filling (s : State) (src i eventType : Nat) (trunc : Bool) (stream : Bytes) : (extendFrom s src i eventType trunc stream).filling = s.filling := by
  unfold extendFrom; (repeat' split) <;> (simp; done)
@[simp] theorem extendFrom_lfsr (s : State) (src i eventType : Nat) (trunc : Bool) (stream : Bytes) : (extendFrom s src i eventType trunc stream).lfsr = s.lfsr := by
  unfold extendFrom; (repeat' split) <;> (simp; done)
@[simp] theorem extendFrom_drbgs (s : State) (src i eventType : Nat) (trunc : Bool) (stream : Bytes) : (extendFrom s src i eventType trunc stream).drbgs = s.drbgs := by
  unfold extendFrom; (repeat' split) <;> (simp; done)
@[simp] theorem extendFrom_tenants (s : State) (src i eventType : Nat) (trunc : Bool) (stream : Bytes) : (extendFrom s src i eventType trunc stream).tenants = s.tenants := by
  unfold extendFrom; (repeat' split) <;> (simp; done)
@[simp] theorem extendFrom_cfg (s : State) (src i eventType : Nat) (trunc : Bool) (stream : Bytes) : (extendFrom s src i eventType trunc stream).cfg = s.cfg := by
  unfold extendFrom; (repeat' split) <;> (simp; done)
@[simp] theorem extendFrom_fuses (s : State) (src i eventType : Nat) (trunc : Bool) (stream : Bytes) : (extendFrom s src i eventType trunc stream).fuses = s.fuses := by
  unfold extendFrom; (repeat' split) <;> (simp; done)
@[simp] theorem extendFrom_boot (s : State) (src i eventType : Nat) (trunc : Bool) (stream : Bytes) : (extendFrom s src i eventType trunc stream).boot = s.boot := by
  unfold extendFrom; (repeat' split) <;> (simp; done)
@[simp] theorem extendFrom_lcs (s : State) (src i eventType : Nat) (trunc : Bool) (stream : Bytes) : (extendFrom s src i eventType trunc stream).lcs = s.lcs := by
  unfold extendFrom; (repeat' split) <;> (simp; done)
@[simp] theorem extendFrom_tamper (s : State) (src i eventType : Nat) (trunc : Bool) (stream : Bytes) : (extendFrom s src i eventType trunc stream).tamper = s.tamper := by
  unfold extendFrom; (repeat' split) <;> (simp; done)
@[simp] theorem extendFrom_pins (s : State) (src i eventType : Nat) (trunc : Bool) (stream : Bytes) : (extendFrom s src i eventType trunc stream).pins = s.pins := by
  unfold extendFrom; (repeat' split) <;> (simp; done)
@[simp] theorem extendFrom_wards (s : State) (src i eventType : Nat) (trunc : Bool) (stream : Bytes) : (extendFrom s src i eventType trunc stream).wards = s.wards := by
  unfold extendFrom; (repeat' split) <;> (simp; done)
@[simp] theorem extendFrom_tkn (s : State) (src i eventType : Nat) (trunc : Bool) (stream : Bytes) : (extendFrom s src i eventType trunc stream).tkn = s.tkn := by
  unfold extendFrom; (repeat' split) <;> (simp; done)
@[simp] theorem extendFrom_internalDone (s : State) (src i eventType : Nat) (trunc : Bool) (stream : Bytes) : (extendFrom s src i eventType trunc stream).internalDone = s.internalDone := by
  unfold extendFrom; (repeat' split) <;> (simp; done)
@[simp] theorem extendFrom_links (s : State) (src i eventType : Nat) (trunc : Bool) (stream : Bytes) : (extendFrom s src i eventType trunc stream).links = s.links := by
  unfold extendFrom; (repeat' split) <;> (simp; done)
@[simp] theorem extendFrom_fabric (s : State) (src i eventType : Nat) (trunc : Bool) (stream : Bytes) : (extendFrom s src i eventType trunc stream).fabric = s.fabric := by
  unfold extendFrom; (repeat' split) <;> (simp; done)
@[simp] theorem extendFrom_nor (s : State) (src i eventType : Nat) (trunc : Bool) (stream : Bytes) : (extendFrom s src i eventType trunc stream).nor = s.nor := by
  unfold extendFrom; (repeat' split) <;> (simp; done)
@[simp] theorem extendFrom_mem (s : State) (src i eventType : Nat) (trunc : Bool) (stream : Bytes) : (extendFrom s src i eventType trunc stream).mem = s.mem := by
  unfold extendFrom; (repeat' split) <;> (simp; done)
@[simp] theorem extendFrom_quartz (s : State) (src i eventType : Nat) (trunc : Bool) (stream : Bytes) : (extendFrom s src i eventType trunc stream).quartz = s.quartz := by
  unfold extendFrom; (repeat' split) <;> (simp; done)
@[simp] theorem extendFrom_out (s : State) (src i eventType : Nat) (trunc : Bool) (stream : Bytes) : (extendFrom s src i eventType trunc stream).out = s.out := by
  unfold extendFrom; (repeat' split) <;> (simp; done)
@[simp] theorem extendFrom_freeIdx (s : State) (src i eventType : Nat) (trunc : Bool) (stream : Bytes) : (extendFrom s src i eventType trunc stream).freeIdx = s.freeIdx := by
  unfold extendFrom; (repeat' split) <;> (simp; done)
@[simp] theorem extendFrom_pending (s : State) (src i eventType : Nat) (trunc : Bool) (stream : Bytes) : (extendFrom s src i eventType trunc stream).pending = s.pending := by
  unfold extendFrom; (repeat' split) <;> (simp; done)

end Sys2Proof.Machine
end

