-- ==== Sys2Proof/Laws/Runs.lean ====
section
/-! SUPPORT. A command that a dispatcher may act on runs its own effect, and the dispatcher is free again (03 R545). -/

namespace Sys2Proof.Machine

theorem runCommand_runs {s : State} {o : Origin} {code n : Nat} {j : Job} (h : Runs s o code n j) (body : Job → State → State) :
    runCommand code o s body = body j (freeSched s o) := by
  obtain ⟨h1, h2, h3, h4, h5, h6, h7⟩ := h
  unfold runCommand
  rw [h1]
  by_cases h0 : n = 0 <;> simp [h2, h3, h4, h5, h6, h0, h7]

end Sys2Proof.Machine
end

