-- ==== Sys2Proof/Laws/Host.lean ====
section
/-! SUPPORT. Mailboxes, bindings and commands in flight through the operations that every command shares. -/

namespace Sys2Proof.Machine

@[simp] theorem mbx_capture (s : State) (ty i : Nat) (l : List Nat) (b : BindId) : (capture s ty i l).mbx b = s.mbx b := by
  simp only [State.mbx, State.port]; cases b.port <;> simp

@[simp] theorem mbx_mmio (s : State) (p : PortId) (f o l v : Nat) (b : BindId) : (mmio s p f o l v).mbx b = s.mbx b := by
  simp [mmio]

@[simp] theorem port_capture (s : State) (ty i : Nat) (l : List Nat) (p : PortId) : (capture s ty i l).port p = s.port p := by
  cases p <;> simp [State.port]

@[simp] theorem port_mmio (s : State) (p : PortId) (f o l v : Nat) (q : PortId) : (mmio s p f o l v).port q = s.port q := by
  simp [mmio]

@[simp] theorem deferred_capture (s : State) (ty i : Nat) (l : List Nat) : (capture s ty i l).moon.deferred = s.moon.deferred := by
  unfold capture ambAppend; (repeat' split) <;> rfl

@[simp] theorem deferred_mmio (s : State) (p : PortId) (f o l v : Nat) : (mmio s p f o l v).moon.deferred = s.moon.deferred :=
  deferred_capture ..

/-- A binding answers alike in states whose ports and mode agree. -/
theorem bindLive_congr {s t : State} (b : BindId) (h1 : t.portA = s.portA) (h2 : t.portB = s.portB) (h3 : t.mode = s.mode) :
    bindLive t b = bindLive s b := by
  unfold bindLive State.bindOf State.port
  cases b.port <;> simp [h1, h2, h3]

@[simp] theorem bindLive_capture (s : State) (ty i : Nat) (l : List Nat) (b : BindId) : bindLive (capture s ty i l) b = bindLive s b :=
  bindLive_congr b (by simp) (by simp) (by simp)

@[simp] theorem bindLive_mmio (s : State) (p : PortId) (f o l v : Nat) (b : BindId) : bindLive (mmio s p f o l v) b = bindLive s b :=
  bindLive_capture ..

@[simp] theorem bindLive_setMbx (s : State) (b : BindId) (m : Mailbox) : bindLive (s.setMbx b m) b = bindLive s b := by
  unfold bindLive
  simp only [bindOf_setMbx, setMbx_mode]
  have : ((s.setMbx b m).port b.port).numVfs = (s.port b.port).numVfs := by simp [State.setMbx]
  rw [this]

theorem port_congr {s t : State} (h1 : t.portA = s.portA) (h2 : t.portB = s.portB) (p : PortId) : t.port p = s.port p := by
  cases p <;> simp [State.port, h1, h2]

theorem mbx_congr {s t : State} (h1 : t.portA = s.portA) (h2 : t.portB = s.portB) (b : BindId) : t.mbx b = s.mbx b := by
  simp [State.mbx, port_congr h1 h2]

theorem bindOf_congr {s t : State} (h1 : t.portA = s.portA) (h2 : t.portB = s.portB) (b : BindId) : t.bindOf b = s.bindOf b := by
  simp [State.bindOf, port_congr h1 h2]

theorem fn_congr {s t : State} (h1 : t.portA = s.portA) (h2 : t.portB = s.portB) (p : PortId) (f : Nat) : t.fn p f = s.fn p f := by
  simp [State.fn, port_congr h1 h2]

@[simp] theorem mbx_addJob (s : State) (j : Job) (b : BindId) : (s.addJob j).mbx b = s.mbx b := mbx_congr (by simp) (by simp) b

@[simp] theorem jobs_addJob (s : State) (j : Job) : (s.addJob j).jobs = s.jobs ++ [j] := rfl

@[simp] theorem mbx_setJob (s : State) (j : Job) (b : BindId) : (s.setJob j).mbx b = s.mbx b := mbx_congr (by simp) (by simp) b

@[simp] theorem mbx_dropJob (s : State) (o : Origin) (b : BindId) : (s.dropJob o).mbx b = s.mbx b := mbx_congr (by simp) (by simp) b

@[simp] theorem bindOf_capture (s : State) (ty i : Nat) (l : List Nat) (b : BindId) : (capture s ty i l).bindOf b = s.bindOf b :=
  bindOf_congr (by simp) (by simp) b

@[simp] theorem bindOf_mmio (s : State) (p : PortId) (f o l v : Nat) (b : BindId) : (mmio s p f o l v).bindOf b = s.bindOf b :=
  bindOf_congr (by simp) (by simp) b

/-- The state is left by `hushExit` outside HUSH. -/
theorem hushExit_of_ne {s : State} (h : s.mode ≠ .hush) : hushExit s = s := by simp [hushExit, h]

theorem job?_congr {s t : State} (h : t.jobs = s.jobs) (o : Origin) : t.job? o = s.job? o := by simp [State.job?, h]

theorem origin_of_job? {s : State} {o : Origin} {j : Job} (h : s.job? o = some j) : j.origin = o := by
  have := List.find?_some h
  simpa using this

theorem Runs.origin {s : State} {o : Origin} {c n : Nat} {j : Job} (h : Runs s o c n j) : j.origin = o := origin_of_job? h.1

theorem find_replace (l : List Job) (o : Origin) (j k : Job) (h : l.find? (fun j => j.origin == o) = some j) (hk : k.origin = o) :
    (l.map (fun x => if x.origin == k.origin then k else x)).find? (fun j => j.origin == o) = some k := by
  induction l with
  | nil => simp at h
  | cons a l ih =>
    by_cases ha : a.origin = o
    · simp [ha, hk]
    · have h' : (a.origin == o) = false := by simpa using ha
      simp only [List.find?_cons, h'] at h
      simp only [List.map_cons, List.find?_cons, hk, h', Bool.false_eq_true, if_false]
      simpa [hk] using ih h

/-- A command in flight reads as last set. -/
theorem job?_setJob_self {s : State} {o : Origin} {j k : Job} (h : s.job? o = some j) (hk : k.origin = o) :
    (s.setJob k).job? o = some k := find_replace s.jobs o j k h hk

@[simp] theorem job?_dropJob_self (s : State) (o : Origin) : (s.dropJob o).job? o = none := by
  simp [State.job?, State.dropJob, List.find?_eq_none]

/-- A field that no RATE frame changes is as it was after every link was asked. -/
theorem askRate_field {α : Type} (f : State → α) (h : ∀ s l r, f (sendRate s l r 0) = f s) (s : State) (r : Nat) :
    f (askRate s r) = f s := by
  have hf : ∀ (l : List (Nat × Link)) (t : State), f (l.foldl (fun t e => sendRate t e.1 r 0) t) = f t := by
    intro l
    induction l with
    | nil => intro t; rfl
    | cons n l ih => intro t; rw [List.foldl_cons, ih, h]
  exact hf _ _

/-- The exit from HUSH leads to SERVICE. -/
theorem hushExit_mode {s : State} (h : s.mode = .hush) : (hushExit s).mode = .service := by
  unfold hushExit
  simp only [h, ne_eq, not_true_eq_false, if_false, fetchAll_mode, serviceEntered]
  split <;> simp [identBus, askRate_field (·.mode) (by intro s l r; simp [sendRate, sendSealed, State.setLink, State.send]), setMode, h]

@[simp] theorem hushExit_slots (s : State) : (hushExit s).slots = s.slots := by
  unfold hushExit
  split
  · rfl
  · simp only [fetchAll_slots, serviceEntered]
    split <;> simp [identBus, setMode, askRate_field (·.slots) (by intro s l r; simp [sendRate, sendSealed, State.setLink, State.send])] <;>
      split <;> simp
@[simp] theorem hushExit_quartz (s : State) : (hushExit s).quartz = s.quartz := by
  unfold hushExit
  split
  · rfl
  · simp only [fetchAll_quartz, serviceEntered]
    split <;> simp [identBus, setMode, askRate_field (·.quartz) (by intro s l r; simp [sendRate, sendSealed, State.setLink, State.send])] <;>
      split <;> simp
@[simp] theorem hushExit_internalDone (s : State) : (hushExit s).internalDone = s.internalDone := by
  unfold hushExit
  split
  · rfl
  · simp only [fetchAll_internalDone, serviceEntered]
    split <;> simp [identBus, setMode, askRate_field (·.internalDone) (by intro s l r; simp [sendRate, sendSealed, State.setLink, State.send])] <;>
      split <;> simp
@[simp] theorem hushExit_drbgs (s : State) : (hushExit s).drbgs = s.drbgs := by
  unfold hushExit
  split
  · rfl
  · simp only [fetchAll_drbgs, serviceEntered]
    split <;> simp [identBus, setMode, askRate_field (·.drbgs) (by intro s l r; simp [sendRate, sendSealed, State.setLink, State.send])] <;>
      split <;> simp
@[simp] theorem hushExit_meas (s : State) : (hushExit s).meas = s.meas := by
  unfold hushExit
  split
  · rfl
  · simp only [fetchAll_meas, serviceEntered]
    split <;> simp [identBus, setMode, askRate_field (·.meas) (by intro s l r; simp [sendRate, sendSealed, State.setLink, State.send])] <;>
      split <;> simp
@[simp] theorem hushExit_measLog (s : State) : (hushExit s).measLog = s.measLog := by
  unfold hushExit
  split
  · rfl
  · simp only [fetchAll_measLog, serviceEntered]
    split <;> simp [identBus, setMode, askRate_field (·.measLog) (by intro s l r; simp [sendRate, sendSealed, State.setLink, State.send])] <;>
      split <;> simp
@[simp] theorem hushExit_measNext (s : State) : (hushExit s).measNext = s.measNext := by
  unfold hushExit
  split
  · rfl
  · simp only [fetchAll_measNext, serviceEntered]
    split <;> simp [identBus, setMode, askRate_field (·.measNext) (by intro s l r; simp [sendRate, sendSealed, State.setLink, State.send])] <;>
      split <;> simp
@[simp] theorem hushExit_arith (s : State) : (hushExit s).arith = s.arith := by
  unfold hushExit
  split
  · rfl
  · simp only [fetchAll_arith, serviceEntered]
    split <;> simp [identBus, setMode, askRate_field (·.arith) (by intro s l r; simp [sendRate, sendSealed, State.setLink, State.send])] <;>
      split <;> simp
@[simp] theorem hushExit_fuses (s : State) : (hushExit s).fuses = s.fuses := by
  unfold hushExit
  split
  · rfl
  · simp only [fetchAll_fuses, serviceEntered]
    split <;> simp [identBus, setMode, askRate_field (·.fuses) (by intro s l r; simp [sendRate, sendSealed, State.setLink, State.send])] <;>
      split <;> simp
@[simp] theorem hushExit_boot (s : State) : (hushExit s).boot = s.boot := by
  unfold hushExit
  split
  · rfl
  · simp only [fetchAll_boot, serviceEntered]
    split <;> simp [identBus, setMode, askRate_field (·.boot) (by intro s l r; simp [sendRate, sendSealed, State.setLink, State.send])] <;>
      split <;> simp
@[simp] theorem hushExit_keyed (s : State) : (hushExit s).keyed = s.keyed := by
  unfold hushExit
  split
  · rfl
  · simp only [fetchAll_keyed, serviceEntered]
    split <;> simp [identBus, setMode, askRate_field (·.keyed) (by intro s l r; simp [sendRate, sendSealed, State.setLink, State.send])] <;>
      split <;> simp
@[simp] theorem hushExit_agate (s : State) : (hushExit s).agate = s.agate := by
  unfold hushExit
  split
  · rfl
  · simp only [fetchAll_agate, serviceEntered]
    split <;> simp [identBus, setMode, askRate_field (·.agate) (by intro s l r; simp [sendRate, sendSealed, State.setLink, State.send])] <;>
      split <;> simp
@[simp] theorem hushExit_clk (s : State) : (hushExit s).clk = s.clk := by
  unfold hushExit
  split
  · rfl
  · simp only [fetchAll_clk, serviceEntered]
    split <;> simp [identBus, setMode, askRate_field (·.clk) (by intro s l r; simp [sendRate, sendSealed, State.setLink, State.send])] <;>
      split <;> simp
@[simp] theorem hushExit_wards (s : State) : (hushExit s).wards = s.wards := by
  unfold hushExit
  split
  · rfl
  · simp only [fetchAll_wards, serviceEntered]
    split <;> simp [identBus, setMode, askRate_field (·.wards) (by intro s l r; simp [sendRate, sendSealed, State.setLink, State.send])] <;>
      split <;> simp
@[simp] theorem hushExit_fabric (s : State) : (hushExit s).fabric = s.fabric := by
  unfold hushExit
  split
  · rfl
  · simp only [fetchAll_fabric, serviceEntered]
    split <;> simp [identBus, setMode, askRate_field (·.fabric) (by intro s l r; simp [sendRate, sendSealed, State.setLink, State.send])] <;>
      split <;> simp

end Sys2Proof.Machine
end

