-- ==== Sys2Proof/Laws/Ends.lean ====
section
/-! SUPPORT. The end of a mailbox command, and the vault arbiter's choice of an order. -/

namespace Sys2Proof.Machine

@[simp] theorem mbx_setFn (s : State) (p : PortId) (f : Nat) (v : FuncState) (b : BindId) : (s.setFn p f v).mbx b = s.mbx b := by
  unfold State.mbx State.setFn
  by_cases h : b.port = p
  · subst h; simp
  · cases hb : b.port <;> cases p <;> simp_all [State.port, State.setPort]

@[simp] theorem mbx_send (s : State) (m : Msg) (b : BindId) : (s.send m).mbx b = s.mbx b := mbx_congr (by simp) (by simp) b

@[simp] theorem mbx_crossing (s : State) (mp i w c : Nat) (b : BindId) : (crossing s mp i w c).mbx b = s.mbx b := mbx_capture ..

@[simp] theorem bindOf_crossing (s : State) (mp i w c : Nat) (b : BindId) : (crossing s mp i w c).bindOf b = s.bindOf b :=
  bindOf_capture ..

@[simp] theorem bindOf_send (s : State) (m : Msg) (b : BindId) : (s.send m).bindOf b = s.bindOf b := bindOf_congr (by simp) (by simp) b

/-- An interrupt changes no mailbox. -/
@[simp] theorem mbx_raiseVector (s : State) (p : PortId) (f v : Nat) (b : BindId) : (raiseVector s p f v).mbx b = s.mbx b := by
  unfold raiseVector; dsimp only; (repeat' split) <;> first | rfl | simp

@[simp] theorem bindOf_setMbx' (s : State) (b c : BindId) (m : Mailbox) : (s.setMbx b m).bindOf c = s.bindOf c := by
  unfold State.bindOf State.setMbx
  cases hb : b.port <;> cases hc : c.port <;> simp [State.port, State.setPort]

@[simp] theorem bindOf_setFn (s : State) (p : PortId) (f : Nat) (v : FuncState) (b : BindId) : (s.setFn p f v).bindOf b = s.bindOf b := by
  unfold State.bindOf State.setFn
  cases p <;> cases hb : b.port <;> simp [State.port, State.setPort]

@[simp] theorem bindOf_raiseVector (s : State) (p : PortId) (f v : Nat) (b : BindId) : (raiseVector s p f v).bindOf b = s.bindOf b := by
  unfold raiseVector; dsimp only; (repeat' split) <;> first | rfl | simp

@[simp] theorem bindOf_dropJob (s : State) (o : Origin) (b : BindId) : (s.dropJob o).bindOf b = s.bindOf b := rfl

@[simp] theorem bindOf_mailboxDone (s : State) (b c : BindId) (st : Nat) (res : Bytes) (appr : Bool) :
    (mailboxDone s b st res appr).bindOf c = s.bindOf c := by
  unfold mailboxDone; dsimp only; split <;> simp

/-- The end of a command changes no other mailbox. -/
theorem mbx_setMbx_of_ne (s : State) {b c : BindId} (m : Mailbox) (h : c.port = b.port → c.key ≠ b.key) : (s.setMbx b m).mbx c = s.mbx c := by
  unfold State.mbx State.setMbx
  by_cases hp : c.port = b.port
  · rw [hp]; simp [NMap.get_put_of_ne _ _ _ (h hp)]
  · cases hb : b.port <;> cases hc : c.port <;> simp_all [State.port, State.setPort]

theorem mbx_mailboxDone (s : State) (b : BindId) (st : Nat) (res : Bytes) (appr : Bool) :
    (mailboxDone s b st res appr).mbx b =
      { s.mbx b with result := res.take 1792, status := st, approved := appr && s.approvedMode, aborted := st == S.E_ABORTED,
                     state := .done, doneCount := ((s.mbx b).doneCount + 1) % 2 ^ 32 } := by
  unfold mailboxDone; dsimp only; split <;> simp

/-- The state in which a mailbox command's own end is written: its manifest entry and the counts kept, its dispatcher freed. -/
def endState (s : State) (j : Job) (b : BindId) (st : Nat) : State :=
  (freeSched (countSealErr (countEnded (manifestEntry s j st) j st) st) (.mailbox b)).dropJob (.mailbox b)

/-- The end of a mailbox command whose bytes all went through its own port. -/
theorem endJob_mailbox {s : State} {j : Job} {b : BindId} (ho : j.origin = .mailbox b) (hp : Plain j) (st : Nat) (res : Bytes)
    (appr : Bool) : endJob s j st res appr = mailboxDone (endState s j b st) b st res appr := by
  simp [endJob, ho, orderAndFinish, hp.1, hp.2, finishJob, endState]

/-- A mailbox command whose bytes all went through its own port ends in its mailbox. -/
theorem endJob_ends {s : State} {j : Job} {b : BindId} (ho : j.origin = .mailbox b) (hp : Plain j) (st : Nat) (res : Bytes)
    (appr : Bool) : Ends (endJob s j st res appr) b st res := by
  rw [endJob_mailbox ho hp]
  refine ⟨?_, ?_, ?_, ?_⟩
  · rw [job?_congr (by simp : _ = (endState s j b st).jobs)]; exact job?_dropJob_self ..
  all_goals rw [mbx_mailboxDone]

theorem okJob_ends {s : State} {j : Job} {b : BindId} (ho : j.origin = .mailbox b) (hp : Plain j) (res : Bytes) :
    Ends (okJob s j res) b S.OK res := endJob_ends ho hp ..

@[simp] theorem countSealErr_ok (s : State) : countSealErr s S.OK = s := by
  simp [countSealErr, S.OK, S.E_TAG_FAIL, S.E_DIGEST_MISMATCH, S.E_SOURCE_CHANGED]

/-- Work of the owner is no tenant's (R256). -/
theorem countEnded_owner (s : State) {j : Job} (h : j.owner = true) (st : Nat) : countEnded s j st = s := by
  simp [countEnded, isTenantWork, h]

/-- An undisputed order does not wait at the vault arbiter. -/
theorem orderWaits_undisputed {s : State} {j : Job} (h : Undisputed s j) (names : List Nat) : orderWaits s j names = false := by
  obtain ⟨-, -, ho, hc, -, -, -, hs⟩ := h
  have hr : higherRunning s j.origin j.code names = false := by
    simp only [higherRunning, List.any_eq_false]
    intro k hk
    by_cases he : k.origin = j.origin
    · simp [he]
    · simp [hs k hk he]
  simp [orderWaits, hr, ho, hc]

/-- With nothing that delays or overtakes it the vault arbiter takes an order at once. -/
theorem takeOrder_undisputed {s : State} {j : Job} (h : Undisputed s j) (names : List Nat) (k : State → Job → State) :
    takeOrder s j names k = k (bindOrder s j names).1 (bindOrder s j names).2 := by
  have hw := orderWaits_undisputed h names
  obtain ⟨hc, hz, -, -, -, -, hs, -⟩ := h
  simp [takeOrder, hz, hc, hs, hw]

end Sys2Proof.Machine
end

