-- ==== Sys2Proof/Laws/Seals.lean ====
section
/-! SUPPORT. What was sealed opens to what went in: AES-256-GCM, the frames of a link (16 R411), the return wrap (08 R218) and the
SECDED words of a snapshot (00 R3). -/

namespace Sys2Proof.Machine

/-- GCM decrypts with the function that encrypts. -/
theorem gcmCrypt_involutive (k iv pt : Bytes) :
    (List.range pt.length).map (Config.gcmCrypt k iv ((List.range pt.length).map (Config.gcmCrypt k iv pt))) = pt := by
  apply List.ext_getElem
  · simp
  · intro i h1 h2
    simp [Config.gcmCrypt, h2, BitVec.xor_assoc]

/-- The mask of the return wrap taken twice is gone. -/
theorem xorBytes_self (a m : Bytes) (h : m.length = a.length) : xorBytes (xorBytes a m) m = a := by
  apply List.ext_getElem
  · simp [xorBytes, h]
  · intro i h1 h2
    simp [xorBytes, BitVec.xor_assoc]

/-- Wrapped material whose tag stands is the material (R218). -/
@[simp] theorem returnOpen_returnWrap (rk : Bytes) (o : Origin) (m : Bytes) : returnOpen rk o (returnWrap rk o m) = some m := by
  have hl : (xorBytes m (wrapMask rk o m.length)).length = m.length := by simp [xorBytes, wrapMask]
  simp only [returnOpen, returnWrap, if_true, hl]
  rw [xorBytes_self _ _ (by simp [wrapMask])]

/-- A sealed frame opens, under the key it was sealed with, to the frame that was sealed (R411). -/
theorem unsealFrame_sealFrame (key : Bytes) (f : Frame) (h : f.mac = []) : unsealFrame key (sealFrame key f) = some f := by
  have hb : headerBytes (sealFrame key f) = headerBytes f := by simp [headerBytes, sealFrame, gcmSeal]
  have hi : frameIv (sealFrame key f) = frameIv f := rfl
  simp only [unsealFrame, hb, hi]
  simp only [sealFrame, gcmSeal, if_true, List.length_map, List.length_range, gcmCrypt_involutive]
  rw [← h]

/-- A frame that a partner sealed under the key in force, with an LSEQ past the last one, opens to what was sealed (R405, R411). -/
theorem openFrame_sealFrame {s : State} {l : Nat} {f : Frame} {key : Bytes} {last : Nat}
    (hk : openKey s l (sealFrame key f) = some (key, last)) (hm : f.mac = []) (hs : f.sealed = true) (hl : f.lineOk = true)
    (hn : lenOk f = true) (hr : rsvdSet f = false) (hq : last < f.lseq) : openFrame s l (sealFrame key f) = some f := by
  have h1 : (sealFrame key f).lineOk = true := hl
  have h2 : lenOk (sealFrame key f) = true := by simpa [lenOk, sealFrame, gcmSeal] using hn
  have h3 : (sealFrame key f).sealed = true := hs
  have h4 : ¬(sealFrame key f).lseq ≤ last := Nat.not_le.mpr hq
  simp [openFrame, h1, h2, h3, hk, h4, unsealFrame_sealFrame key f hm, hr]

/-- A word with the check bits of its payload reads as that payload (R3). -/
@[simp] theorem readWord72_word72 (v : Nat) (h : v < 2 ^ 64) : readWord72 (word72 v) = some v := by
  have h1 : word72 v % 2 ^ 64 = v := by simp only [word72]; omega
  have h2 : word72 v / 2 ^ 64 = (Config.checkBits v).toNat := by simp only [word72]; omega
  have hc : wordClean (word72 v) = true := by
    rw [wordClean, h1, h2, BitVec.ofNat_toNat, BitVec.setWidth_eq, beq_self_eq_true]
  rw [readWord72, if_pos hc, h1]

end Sys2Proof.Machine
end

