-- ==== Sys2Proof/Tests/Slice0.lean ====
section
/-! SUPPORT. Tests: an ill-formed command for each check of the well-formedness; the worked examples of the specification that
give values; and for every statement of Certificates/Slice0/Obligations.lean states and operands that meet the premises of
each of its clauses. -/

namespace Sys2Proof.Tests

set_option maxRecDepth 20000
set_option Elab.async false

open Sys2Proof.Machine

/-! ### Operands and states of the tests -/

/-- The owner's mailbox of port A. -/
def own : BindId := { port := .a, vf := false, n := 0 }

/-- The mailbox of VF 1 of port A, which is tenant 1's. -/
def vf1 : BindId := { port := .a, vf := true, n := 1 }

/-- `n` bytes with the given bytes at their offsets. -/
def ops (n : Nat) (l : List (Nat × Bytes)) : Bytes := l.foldl (fun o e => patch o e.1 e.2) (zeros n)

/-- A host buffer reference to address 0x1000 of port A (R39). -/
def ref (len : Nat) : Bytes := leBytes 8 0x1000 ++ leBytes 5 len ++ zeros 3

/-- A command of the owner's mailbox, acted on at a stage. -/
def job (code stage : Nat) (o : Bytes) : Job :=
  { origin := .mailbox own, bind := own, code := code, ops := o, owner := true, phase := .started, stage := stage }

/-- The same with operand bytes of the length that the command fixes. -/
def cmd (code stage : Nat) (l : List (Nat × Bytes)) : Job := job code stage (ops (((cmdInfo? code).map (·.fixed)).getD 0) l)

/-- The same from a queue pair of tenant 1. -/
def qcmd (code stage : Nat) (l : List (Nat × Bytes)) : Job :=
  { cmd code stage l with origin := .queue 9 1, bind := vf1, owner := false, tenant := 1, result := { len := 128, addr := 0x3000 } }

/-- A port with its link up, the owner's binding and that of VF 1. -/
def port1 : HostPort :=
  { dlUp := true, rate := 5, width := 8, everUp := true, numVfs := 8
    funcs := [(0, { bme := true, msixEnable := true }), (1, { bme := true })]
    binds := [(0, { valid := true, owner := true }), (4097, { valid := true, tenant := 1, pasid := 7 })] }

/-- A generator that serves draws. -/
def gen : Drbg := { inst := true, requests := 1 }

/-- The device in SERVICE, keyed, with both ports up, tenant 1 ACTIVE on VF 1, and the firmware running. -/
def svc : State :=
  { State.reset with
    mode := .service, portA := port1, portB := port1, keyed := true, cdk := some (zeros 32)
    drbgs := [(1, gen), (4096, gen), (4098, gen), (4107, gen), (4108, gen)]
    tenants := [(1, { state := .active, primary := some vf1, pasid := 7, rootSlot := 300, grant := { opRate := 1, byteRate := 1 } })]
    moon := { salt := some (zeros 32) }, quartz := { fwRunning := true }, boot := { gateOpen := true }
    lcs := { state := 3, copyA := .word (codeword 3), copyB := .word (codeword 3) } }

/-- The same with one command in flight. -/
def with1 (j : Job) : State := { svc with jobs := [j] }

/-- A NOR die that holds `bs` from address `a`. -/
def norAt (a : Nat) (bs : Bytes) : Nor := { raw := NMap.putList 0xFF [] a bs }

/-- A ward manifest of one region of 4 KiB with FLAGS `fl`, and its record with the mark. -/
def manif (w fl : Nat) : Bytes :=
  ops 128 [(0, [1, 0x40, BitVec.ofNat 8 w, 1, 32, 0, 20, 15]), (14, [4]), (68, leBytes 4 4096), (72, [BitVec.ofNat 8 fl])]

/-- `svc` with link 2 as given. -/
def lnk (k : Link) : State := { svc with links := [(2, k)] }

/-- A link with a DOMAIN session on which nothing waits. -/
def act : Link :=
  { state := .active, signal := true, level := 2, partner := 77, partnerAddr := 9, partnerState := 5, rxLseq := 5, hs := none }

/-- A good sealed frame of a type for such a link. -/
def sealedFrame (ty : Nat) (p : Bytes) : Frame := { ty := ty, sealed := true, lseq := 6, src := 9, payload := p }

/-- Two identity keys. -/
def ids : NMap Slot := [(0, { active := some { cls := 6 } }), (1, { active := some { cls := 9 } })]

/-- A vendor-defined request of version 1.3 with a payload (R448). -/
def vendorReq (p : Bytes) : Bytes := [0x13, 0xFE, 0, 0, 3, 0, 2] ++ leBytes 2 Config.vendorId.toNat ++ leBytes 2 p.length ++ p

/-- Its payload is the one put in. -/
theorem vendorPayload_vendorReq (p : Bytes) (h : p.length < 2 ^ 16) : vendorPayload (vendorReq p) = some p := by
  have hv := Config.vendorId.isLt
  have h1 : u16 (vendorReq p) 7 = Config.vendorId.toNat := by
    have e : slice (vendorReq p) 7 2 = leBytes 2 Config.vendorId.toNat := by simp [slice, vendorReq, leBytes, zeros]
    rw [u16, e, leNat_leBytes]; omega
  have h2 : u16 (vendorReq p) 9 = p.length := by
    have e : slice (vendorReq p) 9 2 = leBytes 2 p.length := by simp [slice, vendorReq, leBytes, zeros]
    rw [u16, e, leNat_leBytes]; omega
  have h3 : slice (vendorReq p) 11 p.length = p := by simp [vendorReq, slice, leBytes, zeros]
  have h4 : u8 (vendorReq p) 1 = 0xFE ∧ u16 (vendorReq p) 4 = 3 ∧ u8 (vendorReq p) 6 = 2 := by
    simp [u8, u16, vendorReq, slice, leBytes, leNat, zeros]
  simp [vendorPayload, h1, h2, h3, h4]

/-! ### The specification's own examples -/

/-- The example of R1: a field at offset 0x10 of the bytes 00 40 10 00 is 0x0010_4000, and its bit 14 is 1. -/
theorem test_byte_order : u32 (zeros 16 ++ [0x00, 0x40, 0x10, 0x00]) 0x10 = 0x104000 ∧
    (u32 (zeros 16 ++ [0x00, 0x40, 0x10, 0x00]) 0x10).testBit 14 = true := by decide

/-- The example of 06: the attribute word of VLT_SLOT_4100 before KEY_GENERATE writes its pending half, and after. -/
theorem test_attribute_word :
    attrWord { colour := 42, dest := 2, usage := 4, cls := 6, version := 3 } true false = 0x002A020460040003 ∧
    attrWord { colour := 42, dest := 2, usage := 4, cls := 6, version := 3 } true true = 0x002A0204600C0003 := by decide

/-- The example of 04: the operands of a SEAL of 1 MiB. -/
def exampleSeal : Job :=
  qcmd C.SEAL 0 [(0, ref 1048576), (16, ref 1048576), (29, [1]), (32, ref 48), (48, [0x40, 0x2C, 0x01]), (53, [3]), (55, [2])]

/-- Its context block (R94) and its IV (R93). -/
theorem test_seal_context_and_iv :
    contextBlock (specOf exampleSeal) =
      [0x01, 0x00, 0x02, 0x03, 0x40, 0x2C, 0x01, 0x00, 0x00, 0x00, 0x00, 0x10, 0x00, 0x00, 0x30, 0x00, 0x00] ++ zeros 15 ∧
    ivOf (specOf exampleSeal) = [0x03, 0x40, 0x2C, 0x01] ++ zeros 8 := by decide +kernel

/-- The statement of a manifest with both attestation slots has 4,851 bytes (04). -/
theorem test_statement_length : stmtLen { tenant := 42, p384Slot := 4100, mldsaSlot := 4101 } = 4851 := by decide

/-- The example of 07: shredding three extents replaces the depth-1 node with 39 nodes, of which the first in depth 37 of the
path and the leaf 0x12C46 stay readable, and the shredded leaves do not. -/
theorem test_puncture :
    let f := puncture [{ depth := 1, pfx := 0, key := [] }] [{ first := 0x12C40, count := 2 }, { first := 0x12C47, count := 1 }]
    f.length = 39 ∧ (f.filter (fun n => decide (n.depth ≤ 37))).length = 36 ∧
      (f.filter (fun n => n.depth == 39)).map (·.pfx) = [0x9621, 0x9622] ∧
      (f.filter (fun n => n.depth == 40)).map (·.pfx) = [0x12C46] := by decide +kernel

/-- The example of 11: a blob of a P-384 key makes an image entry of 136 bytes, one of an ML-DSA-87 key of 4,984 bytes. -/
theorem test_image_entries : 16 + pad8 (blobLen 48) = 136 ∧ 16 + pad8 (blobLen 4896) = 4984 := by decide

/-- The example of 14: a ward whose region 0 (READ and MEASURE) ends at 0x007_FFFF may send WREN, and its sector erase at
0x001_0000 is refused with WRDI to the flash. -/
theorem test_refused_erase :
    let m : Bytes := ops 128 [(0, [1, 0x40, 3, 1, 32, 0, 20]), (14, [4]), (68, leBytes 4 0x80000), (72, [5])]
    let s : State := { svc with wards := [(3, { state := .running, manifest := m })] }
    spiAllowed m 0x06 0 = true ∧
      (match exec (.wardSpiCommand 3 0x20 0x10000 0 []) s with
        | .next t => ((t.ward 3).blockOp, (t.ward 3).blockAddr, (t.ward 3).modify)
        | _ => (0, 0, 0)) = (0x20, 0x10000, 1) := by decide +kernel

/-- The example of 22: a year of 9,811.2 weighted hours reads as LIFE 156,979, PERCENT 2. -/
theorem test_life : field (pwrLife { svc with nor := { life := 98112 * 3600 } }) 30 0 = 156979 ∧
    field (pwrLife { svc with nor := { life := 98112 * 3600 } }) 47 40 = 2 := by decide +kernel

/-- The example of 02: GO hands a command of 48 operand bytes to the device and STATE reads BUSY; ACK empties the result. -/
theorem test_mailbox_go_and_ack :
    let b : BindId := { port := .b, vf := false, n := 0 }
    let s := svc.setMbx b { code := C.RNG_GENERATE, tag := 0x31, oplen := 0x30 }
    let d := svc.setMbx b { stTag := 0x31, state := .done, approved := true, result := zeros 96 }
    (match exec (.mbxGo b false false true) s with
      | .next t => ((t.mbx b).state, (t.mbx b).stTag, (t.mbx b).irqEn, (t.job? (.mailbox b)).map (fun j => j.ops.length))
      | _ => (.idle, 0, false, none)) = (.busy, 0x31, true, some 48) ∧
    (match exec (.mbxAck b false true) d with
      | .next t => ((t.mbx b).state, (t.mbx b).result)
      | _ => (.busy, [])) = (.idle, []) := by decide +kernel

/-- The example of 13: an enabled cover switch on TAMP_IN_N[1] sets its bit of TMP_LATCH.TAMP_IN, clears the root salt and ends
in LOCKDOWN (R340). -/
theorem test_cover_switch :
    (match exec (.tampInAssert 1) (svc.setReg R.TMP_IN_CFG 0x0002) with
      | .next t => (t.mode, field (t.reg R.TMP_LATCH) 4 1, t.moon.salt)
      | _ => (.service, 0, none)) = (.lockdown, 2, none) := by decide +kernel

/-- No row of the table gives bits, so no word spells a command. -/
theorem test_no_word_spells_a_command : decodeTableWord 16 0x0101 = none := by decide

/-- On an empty queue a step is one tick of the clock. -/
theorem test_idle_step : (match step svc with | .next t => t.clk | _ => 0) = svc.clk + 1 := by decide +kernel


/-- The codewords of R318, and that each transition clears one field of the one before it (R319). -/
theorem test_codewords : codeword 2 = 0xFFFFFFFFFFFFFFFFFFFF000000000000#128 ∧ codeword 5 = 0xFF000000000000000000000000000000#128 ∧
    (List.range 5).all (fun k => (LcsCopy.word (codeword k)).program (k + 1) == .word (codeword (k + 1))) = true := by decide
/-! ### Well-formedness -/

/-- Each check of the well-formedness refuses a command that fails it, part 1. -/
theorem test_wf_refuses_1 : ([.mbxCmdWrite ⟨.a, true, 0⟩ 0 [], .mbxCmdWrite ⟨.a, true, 4096⟩ 0 [], .mbxCmdWrite ⟨.b, false, 2048⟩ 0 [],
    .mbxCmdWrite own 0x1000 [], .mbxGo ⟨.a, true, 0⟩ false false false, .mbxAck ⟨.a, true, 0⟩ false false,
    .mbxAbort ⟨.a, true, 0⟩ false, .abortPointReached (.mailbox ⟨.a, false, 2048⟩), .abortPointReached (.queue 65536 0),
    .cmdUnknown (.mailbox ⟨.a, false, 2048⟩), .sqTailDoorbell ⟨.a, true, 0⟩ 0 0, .sqTailDoorbell own 1024 0,
    .sqTailDoorbell own 0 (2 ^ 32), .cqHeadDoorbell ⟨.a, true, 0⟩ 0 0, .cqHeadDoorbell own 1024 0,
    .cqHeadDoorbell own 0 (2 ^ 32), .sqEntryFetch 65536 .ur, .spoofLimitReached 4096,
    .schedJobStart (.mailbox ⟨.a, false, 2048⟩), .tenantBucketRefill 4096 0, .tenantBucketRefill 0 (2 ^ 32),
    .coalTimeExpire 65536, .msixUnmask .a 4096 0, .msixUnmask .a 0 2048,
    .hostDmaReadCompletion (.mailbox ⟨.a, false, 2048⟩) .ur, .cplTimeout (.mailbox ⟨.a, false, 2048⟩),
    .orderingReadCompletion (.mailbox ⟨.a, false, 2048⟩) false, .pcieLinkUp .a 7 0 false, .pcieLinkUp .a 0 (16 + 1) false,
    .flr .a 4096, .bmeClear .a 4096, .tenantCreate (.mailbox ⟨.a, false, 2048⟩), .tenantSetGrant (.mailbox ⟨.a, false, 2048⟩),
    .tenantBind (.mailbox ⟨.a, false, 2048⟩), .tenantUnbind (.mailbox ⟨.a, false, 2048⟩),
    .tenantQuiesce (.mailbox ⟨.a, false, 2048⟩), .tenantQuiesced 4096, .tenantEnable (.mailbox ⟨.a, false, 2048⟩),
    .tenantReset (.mailbox ⟨.a, false, 2048⟩), .tenantDestroy (.mailbox ⟨.a, false, 2048⟩), .tombstoneRetry 4096,
    .tenantInfo (.mailbox ⟨.a, false, 2048⟩), .policyQuery (.mailbox ⟨.a, false, 2048⟩),
    .qpCreate (.mailbox ⟨.a, false, 2048⟩), .qpDelete (.mailbox ⟨.a, false, 2048⟩)] :
    List Instr).all (fun i => !i.wf) = true := by decide +kernel

/-- Each check of the well-formedness refuses a command that fails it, part 2. -/
theorem test_wf_refuses_2 : ([.keyGenerate (.mailbox ⟨.a, false, 2048⟩), .keyDerive (.mailbox ⟨.a, false, 2048⟩), .keyWrap (.mailbox ⟨.a, false, 2048⟩),
    .keyUnwrap (.mailbox ⟨.a, false, 2048⟩), .keyImportPublic (.mailbox ⟨.a, false, 2048⟩),
    .keyProve (.mailbox ⟨.a, false, 2048⟩), .keyCommit (.mailbox ⟨.a, false, 2048⟩), .keyDiscard (.mailbox ⟨.a, false, 2048⟩),
    .keyDestroy (.mailbox ⟨.a, false, 2048⟩), .keyAttrRead (.mailbox ⟨.a, false, 2048⟩),
    .keyAttrSet (.mailbox ⟨.a, false, 2048⟩), .keyPublic (.mailbox ⟨.a, false, 2048⟩),
    .engineRevokeStop (.mailbox ⟨.a, false, 2048⟩), .agateTreeCreate (.mailbox ⟨.a, false, 2048⟩),
    .agateLoad (.mailbox ⟨.a, false, 2048⟩), .agateExport (.mailbox ⟨.a, false, 2048⟩),
    .shredStage (.mailbox ⟨.a, false, 2048⟩), .shredCommit (.mailbox ⟨.a, false, 2048⟩),
    .anchorStatus (.mailbox ⟨.a, false, 2048⟩), .seal (.mailbox ⟨.a, false, 2048⟩), .recall (.mailbox ⟨.a, false, 2048⟩),
    .verify (.mailbox ⟨.a, false, 2048⟩), .digestOnly (.mailbox ⟨.a, false, 2048⟩),
    .sealEngineJobDone (.mailbox ⟨.a, false, 2048⟩), .reservedSlicePark 144, .parkedJobResume 144, .engineAttemptFail 144 0,
    .engineAttemptFail 0 256, .sealEngineWatchdog 144, .engineDrained 144, .engineTestDone 144 0, .engineTestDone 0 65536,
    .engineReadmit (.mailbox ⟨.a, false, 2048⟩), .engineQuarantine (.mailbox ⟨.a, false, 2048⟩),
    .manifestOpen (.mailbox ⟨.a, false, 2048⟩), .manifestClose (.mailbox ⟨.a, false, 2048⟩), .manifestHeaderForm (2 ^ 16),
    .digestMac (.mailbox ⟨.a, false, 2048⟩), .digestJobDone (.mailbox ⟨.a, false, 2048⟩), .digestShort 16,
    .dguContextYield (.mailbox ⟨.a, false, 2048⟩), .measRead (.mailbox ⟨.a, false, 2048⟩),
    .measExtend (.mailbox ⟨.a, false, 2048⟩), .measLogRead (.mailbox ⟨.a, false, 2048⟩), .dgtMrSelWrite (2 ^ 64)] :
    List Instr).all (fun i => !i.wf) = true := by decide +kernel

/-- Each check of the well-formedness refuses a command that fails it, part 3. -/
theorem test_wf_refuses_3 : ([.sign (.mailbox ⟨.a, false, 2048⟩), .sigVerify (.mailbox ⟨.a, false, 2048⟩), .deriveShared (.mailbox ⟨.a, false, 2048⟩),
    .encaps (.mailbox ⟨.a, false, 2048⟩), .decaps (.mailbox ⟨.a, false, 2048⟩), .arithJobDone (.mailbox ⟨.a, false, 2048⟩) {},
    .arithJobDone (.mailbox own) { errs := [(4096, 0)] }, .arithJobDone (.mailbox own) { errs := [(0, 2 ^ 72)] },
    .invStrikesClear 24, .arithEngineFault 24 0, .arithEngineFault 0 256, .arithWatchdog 24, .ariTestDone 24 0,
    .ariTestDone 0 65536, .ariDrained 24, .ariReadmit (.mailbox ⟨.a, false, 2048⟩),
    .ariQuarantine (.mailbox ⟨.a, false, 2048⟩), .rngGenerate (.mailbox ⟨.a, false, 2048⟩),
    .rngStarvedTimeout (.mailbox ⟨.a, false, 2048⟩), .noiseStartupTestDone 8 [], .noiseSourceFail 8 [],
    .noiseSourceRetest 8 [], .rngTestWrite (2 ^ 64), .pwrHush (.mailbox ⟨.a, false, 2048⟩),
    .hushConditionMet (.mailbox ⟨.a, false, 2048⟩), .hushWaitExpire (.mailbox ⟨.a, false, 2048⟩),
    .pwrDormant (.mailbox ⟨.a, false, 2048⟩), .pwrImageRestore (.mailbox ⟨.a, false, 2048⟩),
    .pwrImageDiscard (.mailbox ⟨.a, false, 2048⟩), .vbatLow 65536, .lcsChallenge (.mailbox ⟨.a, false, 2048⟩),
    .lcsTransition (.mailbox ⟨.a, false, 2048⟩) 0 [], .lcsTransition (.mailbox own) 65536 [], .tloopAlarm 2, .envAlarm 6,
    .envAlarm 13, .clockAlarm 20, .tampInAssert 4, .tmpZeroise (.mailbox ⟨.a, false, 2048⟩), .tmpMeshCfgWrite (2 ^ 64),
    .tmpInCfgWrite (2 ^ 64), .wpgRise 16, .wpgFall 16, .wardSettleDone 16, .wardVerifyDone 16 [] []] :
    List Instr).all (fun i => !i.wf) = true := by decide +kernel

/-- Each check of the well-formedness refuses a command that fails it, part 4. -/
theorem test_wf_refuses_4 : ([.wardRecoveryDone 16 [] false, .wardFlashTimeout 16, .wardSpiCommand 16 0 0 0 [], .wardSpiCommand 0 256 0 0 [],
    .wardSpiCommand 0 0 (2 ^ 32) 0 [], .wardSpiCommand 0 0 0 (2 ^ 24 + 1) [], .wardManifestSet (.mailbox ⟨.a, false, 2048⟩),
    .wardVerify (.mailbox ⟨.a, false, 2048⟩), .wardRecover (.mailbox ⟨.a, false, 2048⟩),
    .wardHold (.mailbox ⟨.a, false, 2048⟩), .wardAux (.mailbox ⟨.a, false, 2048⟩), .wardInfo (.mailbox ⟨.a, false, 2048⟩),
    .cardInsert 2, .cardRemove 2, .cardResponse 3 .bad, .cardResponse 0 (.short (2 ^ 32)), .cardResponse 0 (.long (2 ^ 120)),
    .cardResponse 0 (.block []), .cardBusyEnd 3, .socketIdleOff 2, .unlockDelay 2, .tknScan (.mailbox ⟨.a, false, 2048⟩),
    .ceremonyBegin (.mailbox ⟨.a, false, 2048⟩), .ceremonyPresent (.mailbox ⟨.a, false, 2048⟩),
    .ceremonyEnrol (.mailbox ⟨.a, false, 2048⟩), .ceremonyStatus (.mailbox ⟨.a, false, 2048⟩),
    .ceremonyEnd (.mailbox ⟨.a, false, 2048⟩), .cardForceErase (.mailbox ⟨.a, false, 2048⟩),
    .escrowStore (.mailbox ⟨.a, false, 2048⟩), .escrowFetch (.mailbox ⟨.a, false, 2048⟩), .swlSignalDetect 8,
    .swlTrainingDone 8, .swlTrainingTimeout 8, .beacon 8 { ty := 1 }, .beacon 0 { ty := 256 }, .beacon 0 { ty := 1, cls := 4 },
    .beacon 0 { ty := 1, hops := 256 }, .beacon 0 { ty := 1, dst := 2 ^ 16 }, .beacon 0 { ty := 1, src := 2 ^ 16 },
    .beacon 0 { ty := 1, tag := 2 ^ 64 }, .beacon 0 { ty := 1, lseq := 2 ^ 64 }, .beacon 0 { ty := 1, mac := zeros 17 },
    .hs 8 { ty := 1 }, .hs 0 { ty := 256 }, .swlHsTimeout 8] :
    List Instr).all (fun i => !i.wf) = true := by decide +kernel

/-- Each check of the well-formedness refuses a command that fails it, part 5. -/
theorem test_wf_refuses_5 : ([.swlHsRetry 8, .swlRenewal 8, .swlOldKeyExpire 8, .rate 8 { ty := 1 }, .rate 0 { ty := 256 }, .kaBeacon 8 { ty := 1 },
    .kaBeacon 0 { ty := 256 }, .wake 8 { ty := 1 }, .wake 0 { ty := 256 }, .dormantNotice 8 { ty := 1 },
    .dormantNotice 0 { ty := 256 }, .unreach 8 { ty := 1 }, .unreach 0 { ty := 256 }, .swlSignalLoss 8, .swlSessionTimeout 8,
    .swlPartnerRestart 8, .swlQuarantineRetrain 8, .swlLinkCtrl (.mailbox ⟨.a, false, 2048⟩),
    .swlLinkInfo (.mailbox ⟨.a, false, 2048⟩), .lsa 8 { ty := 1 }, .lsa 0 { ty := 256 }, .lsaExpire (2 ^ 64),
    .hold 8 { ty := 1 }, .hold 0 { ty := 256 }, .holdDrop 8 { ty := 1 }, .holdDrop 0 { ty := 256 }, .stageNotice 8 { ty := 1 },
    .stageNotice 0 { ty := 256 }, .stageAck 8 { ty := 1 }, .stageAck 0 { ty := 256 }, .stageNoticeTimeout (2 ^ 64),
    .anchorPush 8 { ty := 1 }, .anchorPush 0 { ty := 256 }, .rootPush 8 { ty := 1 }, .rootPush 0 { ty := 256 },
    .rootDrop 8 { ty := 1 }, .rootDrop 0 { ty := 256 }, .lateNak 8 { ty := 1 }, .lateNak 0 { ty := 256 },
    .rootFetch 8 { ty := 1 }, .rootFetch 0 { ty := 256 }, .rootData 8 { ty := 1 }, .rootData 0 { ty := 256 },
    .imageFetch 8 { ty := 1 }, .imageFetch 0 { ty := 256 }] :
    List Instr).all (fun i => !i.wf) = true := by decide +kernel

/-- Each check of the well-formedness refuses a command that fails it, part 6. -/
theorem test_wf_refuses_6 : ([.imageData 8 { ty := 1 }, .imageData 0 { ty := 256 }, .fabFetchTimeout (2 ^ 64), .enrolReq 8 { ty := 1 },
    .enrolReq 0 { ty := 256 }, .enrolResp 8 { ty := 1 }, .enrolResp 0 { ty := 256 },
    .fabDomainSet (.mailbox ⟨.a, false, 2048⟩), .fabReplResend (.mailbox ⟨.a, false, 2048⟩),
    .fabReplLogRead (.mailbox ⟨.a, false, 2048⟩), .fabRootFetch (.mailbox ⟨.a, false, 2048⟩),
    .fabEnrolGrant (.mailbox ⟨.a, false, 2048⟩), .fabEnrol (.mailbox ⟨.a, false, 2048⟩), .fabWake (.mailbox ⟨.a, false, 2048⟩),
    .attestGet (.mailbox ⟨.a, false, 2048⟩), .failStatement (.mailbox ⟨.a, false, 2048⟩) none,
    .fwActivate (.mailbox ⟨.a, false, 2048⟩), .fwCommit (.mailbox ⟨.a, false, 2048⟩), .sensorSample (List.replicate 56 0),
    .evrRead (.mailbox ⟨.a, false, 2048⟩) none, .evrConfigRead (.mailbox ⟨.a, false, 2048⟩),
    .evrClear (.mailbox ⟨.a, false, 2048⟩), .evrTokenRefill (2 ^ 16), .ambCfgWrite false (2 ^ 64),
    .ambExport (.mailbox ⟨.a, false, 2048⟩), .ambReplay (.mailbox ⟨.a, false, 2048⟩),
    .replayEnd 0 ([.done 65536 [] [] false]) none, .replayEnd 0 ([.done 0 (List.replicate 9 0) [] false]) none,
    .replayEnd 0 ([.done 0 [] (List.replicate 7 0) false]) none, .replayEnd 0 ([.needs 256 0 0 0]) none,
    .replayEnd 0 ([.needs 0 256 0 0]) none, .replayEnd 0 ([.needs 0 0 65536 0]) none, .replayEnd 0 ([.needs 0 0 0 65536]) none,
    .replayEnd 0 [] ((some (0, 65536))), .nvmProgram (2 ^ 32) 0 [], .nvmProgram 0 (2 ^ 32) [], .nvmErase (2 ^ 32),
    .nvmRefresh (2 ^ 32), .nvmReadProgramVerify (2 ^ 32) 0 0, .nvmReadProgramVerify 0 (2 ^ 24 + 1) 0,
    .nvmReadProgramVerify 0 0 (2 ^ 32), .nvmReadEraseVerify (2 ^ 32) 0 0, .nvmReadEraseVerify 0 (2 ^ 24 + 1) 0,
    .nvmReadEraseVerify 0 0 (2 ^ 32), .norOpDone 4 false] :
    List Instr).all (fun i => !i.wf) = true := by decide +kernel

/-- Each check of the well-formedness refuses a command that fails it, part 7. -/
theorem test_wf_refuses_7 : ([.norResume 4, .registerWrite (.mailbox ⟨.a, true, 0⟩) 0 0 0, .registerWrite (.doorbell ⟨.a, true, 0⟩) 0 0 0,
    .registerWrite (.msixTable .a 4096) 0 0 0, .registerWrite (.msixControl .b 4096) 0 0 0,
    .registerWrite (.bar .a 4096) 0 0 0, .registerWrite (.devControl .a 4096) 0 0 0,
    .registerWrite (.devControl2 .a 4096) 0 0 0, .registerWrite (.control .a) 0x2000000 0 0,
    .registerWrite (.control .a) 0 (64 + 1) 0, .registerWrite (.control .a) 0 0 (2 ^ 64), .busMasterEnableSet .a 4096,
    .vfEnableSet .a 4096, .cardResponseTimeout 3, .sendOpCondPoll 3, .swlTrainingRetry 8, .i3cBroadcastCcc 256 0,
    .i3cBroadcastCcc 0 128, .quartzFirmwareEvent (2 ^ 16) 0 0 0 0, .quartzFirmwareEvent 0 (2 ^ 64) 0 0 0,
    .quartzFirmwareEvent 0 0 (2 ^ 64) 0 0, .quartzFirmwareEvent 0 0 0 (2 ^ 64) 0, .quartzFirmwareEvent 0 0 0 0 (2 ^ 64),
    .tampInDeassert 4] :
    List Instr).all (fun i => !i.wf) = true := by decide +kernel

/-- The same commands with good operands are well formed, part 1. -/
theorem test_wf_accepts_1 : ([.mbxCmdWrite own 0 [], .mbxGo own false false false, .mbxAck own false false, .mbxAbort own false,
    .abortPointReached (.mailbox own), .cmdUnknown (.mailbox own), .sqTailDoorbell own 0 0, .cqHeadDoorbell own 0 0,
    .sqEntryFetch 0 .ur, .spoofLimitReached 0, .schedJobStart (.mailbox own), .tenantBucketRefill 0 0, .coalTimeExpire 0,
    .msixUnmask .a 0 0, .hostDmaReadCompletion (.mailbox own) .ur, .cplTimeout (.mailbox own),
    .orderingReadCompletion (.mailbox own) false, .pcieLinkUp .a 0 0 false, .flr .a 0, .bmeClear .a 0,
    .tenantCreate (.mailbox own), .tenantSetGrant (.mailbox own), .tenantBind (.mailbox own), .tenantUnbind (.mailbox own),
    .tenantQuiesce (.mailbox own), .tenantQuiesced 0, .tenantEnable (.mailbox own), .tenantReset (.mailbox own),
    .tenantDestroy (.mailbox own), .tombstoneRetry 0, .tenantInfo (.mailbox own), .policyQuery (.mailbox own),
    .qpCreate (.mailbox own), .qpDelete (.mailbox own), .keyGenerate (.mailbox own), .keyDerive (.mailbox own),
    .keyWrap (.mailbox own), .keyUnwrap (.mailbox own), .keyImportPublic (.mailbox own), .keyProve (.mailbox own),
    .keyCommit (.mailbox own), .keyDiscard (.mailbox own), .keyDestroy (.mailbox own), .keyAttrRead (.mailbox own),
    .keyAttrSet (.mailbox own)] :
    List Instr).all (fun i => i.wf) = true := by decide +kernel

/-- The same commands with good operands are well formed, part 2. -/
theorem test_wf_accepts_2 : ([.keyPublic (.mailbox own), .engineRevokeStop (.mailbox own), .agateTreeCreate (.mailbox own), .agateLoad (.mailbox own),
    .agateExport (.mailbox own), .shredStage (.mailbox own), .shredCommit (.mailbox own), .anchorStatus (.mailbox own),
    .seal (.mailbox own), .recall (.mailbox own), .verify (.mailbox own), .digestOnly (.mailbox own),
    .sealEngineJobDone (.mailbox own), .reservedSlicePark 0, .parkedJobResume 0, .engineAttemptFail 0 0, .sealEngineWatchdog 0,
    .engineDrained 0, .engineTestDone 0 0, .engineReadmit (.mailbox own), .engineQuarantine (.mailbox own),
    .manifestOpen (.mailbox own), .manifestClose (.mailbox own), .manifestHeaderForm 0, .digestMac (.mailbox own),
    .digestJobDone (.mailbox own), .digestShort 0, .dguContextYield (.mailbox own), .measRead (.mailbox own),
    .measExtend (.mailbox own), .measLogRead (.mailbox own), .dgtMrSelWrite 0, .sign (.mailbox own), .sigVerify (.mailbox own),
    .deriveShared (.mailbox own), .encaps (.mailbox own), .decaps (.mailbox own), .arithJobDone (.mailbox own) {},
    .invStrikesClear 0, .arithEngineFault 0 0, .arithWatchdog 0, .ariTestDone 0 0, .ariDrained 0, .ariReadmit (.mailbox own),
    .ariQuarantine (.mailbox own)] :
    List Instr).all (fun i => i.wf) = true := by decide +kernel

/-- The same commands with good operands are well formed, part 3. -/
theorem test_wf_accepts_3 : ([.rngGenerate (.mailbox own), .rngStarvedTimeout (.mailbox own), .noiseStartupTestDone 0 [], .noiseSourceFail 0 [],
    .noiseSourceRetest 0 [], .rngTestWrite 0, .pwrHush (.mailbox own), .hushConditionMet (.mailbox own),
    .hushWaitExpire (.mailbox own), .pwrDormant (.mailbox own), .pwrImageRestore (.mailbox own),
    .pwrImageDiscard (.mailbox own), .vbatLow 0, .lcsChallenge (.mailbox own), .lcsTransition (.mailbox own) 0 [],
    .tloopAlarm 0, .envAlarm 7, .clockAlarm 0, .tampInAssert 0, .tmpZeroise (.mailbox own), .tmpMeshCfgWrite 0,
    .tmpInCfgWrite 0, .wpgRise 0, .wpgFall 0, .wardSettleDone 0, .wardVerifyDone 0 [] [], .wardRecoveryDone 0 [] false,
    .wardFlashTimeout 0, .wardSpiCommand 0 0 0 0 [], .wardManifestSet (.mailbox own), .wardVerify (.mailbox own),
    .wardRecover (.mailbox own), .wardHold (.mailbox own), .wardAux (.mailbox own), .wardInfo (.mailbox own), .cardInsert 0,
    .cardRemove 0, .cardResponse 0 .bad, .cardBusyEnd 0, .socketIdleOff 0, .unlockDelay 0, .tknScan (.mailbox own),
    .ceremonyBegin (.mailbox own), .ceremonyPresent (.mailbox own), .ceremonyEnrol (.mailbox own)] :
    List Instr).all (fun i => i.wf) = true := by decide +kernel

/-- The same commands with good operands are well formed, part 4. -/
theorem test_wf_accepts_4 : ([.ceremonyStatus (.mailbox own), .ceremonyEnd (.mailbox own), .cardForceErase (.mailbox own), .escrowStore (.mailbox own),
    .escrowFetch (.mailbox own), .swlSignalDetect 0, .swlTrainingDone 0, .swlTrainingTimeout 0, .beacon 0 { ty := 1 },
    .hs 0 { ty := 1 }, .swlHsTimeout 0, .swlHsRetry 0, .swlRenewal 0, .swlOldKeyExpire 0, .rate 0 { ty := 1 },
    .kaBeacon 0 { ty := 1 }, .wake 0 { ty := 1 }, .dormantNotice 0 { ty := 1 }, .unreach 0 { ty := 1 }, .swlSignalLoss 0,
    .swlSessionTimeout 0, .swlPartnerRestart 0, .swlQuarantineRetrain 0, .swlLinkCtrl (.mailbox own),
    .swlLinkInfo (.mailbox own), .lsa 0 { ty := 1 }, .lsaExpire 0, .hold 0 { ty := 1 }, .holdDrop 0 { ty := 1 },
    .stageNotice 0 { ty := 1 }, .stageAck 0 { ty := 1 }, .stageNoticeTimeout 0, .anchorPush 0 { ty := 1 },
    .rootPush 0 { ty := 1 }, .rootDrop 0 { ty := 1 }, .lateNak 0 { ty := 1 }, .rootFetch 0 { ty := 1 },
    .rootData 0 { ty := 1 }, .imageFetch 0 { ty := 1 }, .imageData 0 { ty := 1 }, .fabFetchTimeout 0, .enrolReq 0 { ty := 1 },
    .enrolResp 0 { ty := 1 }, .fabDomainSet (.mailbox own), .fabReplResend (.mailbox own)] :
    List Instr).all (fun i => i.wf) = true := by decide +kernel

/-- The same commands with good operands are well formed, part 5. -/
theorem test_wf_accepts_5 : ([.fabReplLogRead (.mailbox own), .fabRootFetch (.mailbox own), .fabEnrolGrant (.mailbox own), .fabEnrol (.mailbox own),
    .fabWake (.mailbox own), .attestGet (.mailbox own), .failStatement (.mailbox own) none, .fwActivate (.mailbox own),
    .fwCommit (.mailbox own), .sensorSample (List.replicate 57 0), .evrRead (.mailbox own) none, .evrConfigRead (.mailbox own),
    .evrClear (.mailbox own), .evrTokenRefill 0, .ambCfgWrite false 0, .ambExport (.mailbox own), .ambReplay (.mailbox own),
    .replayEnd 0 [] none, .nvmProgram 0 0 [], .nvmErase 0, .nvmRefresh 0, .nvmReadProgramVerify 0 0 0,
    .nvmReadEraseVerify 0 0 0, .norOpDone 0 false, .norResume 0, .registerWrite (.control .a) 0 0 0, .busMasterEnableSet .a 0,
    .vfEnableSet .a 0, .cardResponseTimeout 0, .sendOpCondPoll 0, .swlTrainingRetry 0, .i3cBroadcastCcc 0 0,
    .quartzFirmwareEvent 0 0 0 0 0, .tampInDeassert 0] :
    List Instr).all (fun i => i.wf) = true := by decide +kernel

/-- The length checks refuse strings one byte too long. -/
theorem test_wf_refuses_lengths :
    (Instr.mbxCmdWrite own 0 (List.replicate (2 ^ 24 + 1) 0)).wf = false ∧
    (Instr.wardSpiCommand 0 0 0 0 (List.replicate (2 ^ 24 + 1) 0)).wf = false ∧
    (Instr.nvmProgram 0 0 (List.replicate (2 ^ 32) 0)).wf = false ∧
    (Instr.sqEntryFetch 0 (.data (List.replicate (2 ^ 40) 0))).wf = false ∧
    (Instr.arithJobDone (.mailbox own) { wire := List.replicate (2 ^ 24 + 1) 0 }).wf = false ∧
    (Instr.noiseStartupTestDone 0 (List.replicate (2 ^ 24 + 1) 0)).wf = false ∧
    (Instr.noiseSourceFail 0 (List.replicate (2 ^ 24 + 1) 0)).wf = false ∧
    (Instr.noiseSourceRetest 0 (List.replicate (2 ^ 24 + 1) 0)).wf = false ∧
    (Instr.beacon 0 { ty := 1, payload := List.replicate 2049 0 }).wf = false := by
  simp only [Instr.wf, DmaResult.wf, Frame.wf, List.length_replicate]
  decide

/-! ### Witnesses of the statements -/

/-- States and operands that meet the premises of IdleStepIsTick, clause by clause. -/
theorem witness_IdleStepIsTick :
    ∃ (s : State), s.pending = [] ∧ s.mode ≠ .hush ∧ (∀ n, n < 8 → (s.link n).queue = []) :=
  ⟨svc, by decide +kernel⟩

/-- States and operands that meet the premises of ResetValues, clause by clause. -/
theorem witness_ResetValues :
    ∃ d ∈ allRegs, ∃ f ∈ d.fields, f.acc ≠ .ro ∧ 0 < d.count :=
  by decide +kernel

/-- States and operands that meet the premises of StepKeepsInvariant, clause by clause. -/
theorem witness_StepKeepsInvariant :
    ∃ s t : State, Canonical s ∧ step s = .next t :=
  ⟨svc, _, by unfold Canonical; decide +kernel, rfl⟩

/-- States and operands that meet the premises of MailboxRegisters, clause by clause. -/
theorem witness_MailboxRegisters :
    (∃ (s : State) (b : BindId) (off : Nat) (bs : Bytes), bindLive s b = true ∧ bs ≠ [] ∧ 0x100 ≤ off ∧
      off + bs.length ≤ 0x900 ∧ (s.mbx b).state ≠ .busy) ∧
    (∃ (s : State) (b : BindId) (v : Bytes), bindLive s b = true ∧ v.length = 8 ∧ (s.mbx b).state ≠ .busy) ∧
    (∃ (s : State) (b : BindId) (off : Nat) (bs : Bytes), bindLive s b = true ∧ bs ≠ [] ∧ 0x100 ≤ off ∧
      off + bs.length ≤ 0x900 ∧ (s.mbx b).state = .busy) ∧
    (∃ (s : State) (b : BindId), bindLive s b = true ∧ s.mode ≠ .hush ∧ (s.mbx b).state = .idle ∧
      s.job? (.mailbox b) = none) ∧
    (∃ (s : State) (b : BindId), bindLive s b = true ∧ (s.mbx b).state ≠ .idle) ∧
    (∃ (s : State) (b : BindId), bindLive s b = true ∧ s.moon.deferred = none ∧ (s.mbx b).state = .done) ∧
    (∃ (s : State) (b : BindId), bindLive s b = true ∧ s.moon.deferred = none ∧ (s.mbx b).state ≠ .done) ∧
    (∃ (s : State) (b : BindId), bindLive s b = true ∧ s.mode ≠ .hush ∧ s.moon.deferred = none ∧ (s.mbx b).state = .done ∧
      s.job? (.mailbox b) = none) ∧
    (∃ (s : State) (b : BindId) (j : Job), bindLive s b = true ∧ (s.mbx b).state = .busy ∧ s.job? (.mailbox b) = some j ∧
      j.committed = false ∧ (∀ k ∈ s.heldJobs, k.origin ≠ .mailbox b)) ∧
    (∃ (s : State) (b : BindId), bindLive s b = true ∧ (s.mbx b).state ≠ .busy) :=
  ⟨⟨svc, own, 0x8FF, [1], by decide +kernel⟩,
   ⟨svc, own, [1, 2, 3, 4, 5, 6, 7, 8], by decide +kernel⟩,
   ⟨svc.setMbx own { state := .busy }, own, 0x100, zeros 2048, by decide +kernel⟩,
   ⟨svc, own, by decide +kernel⟩,
   ⟨svc.setMbx own { state := .done, tag := 5 }, own, by decide +kernel⟩,
   ⟨svc.setMbx own { state := .done, result := [1] }, own, by decide +kernel⟩,
   ⟨svc.setMbx own { state := .busy }, own, by decide +kernel⟩,
   ⟨svc.setMbx own { state := .done, result := [1], code := 7, oplen := 8 }, own, by decide +kernel⟩,
   ⟨(with1 (job C.PWR_HUSH 0 [])).setMbx own { state := .busy }, own, job C.PWR_HUSH 0 [], by decide +kernel⟩,
   ⟨svc, own, by decide +kernel⟩⟩

/-- States and operands that meet the premises of UnknownCodesEnd, clause by clause. -/
theorem witness_UnknownCodesEnd :
    (∃ (c : Nat), (c = 0 ∨ 0x0B ≤ c / 256)) ∧
    (∃ (s : State) (o : Origin) (j : Job), s.job? o = some j ∧ cmdInfo? j.code = none ∧ s.mode ≠ .startup ∧
      s.mode ≠ .dormant) :=
  ⟨⟨0x0B00, by decide +kernel⟩,
   ⟨with1 (job 0x0BFF 0 []), .mailbox own, job 0x0BFF 0 [], by decide +kernel⟩⟩

/-- States and operands that meet the premises of CommandsEndInTheirMailbox, clause by clause. -/
theorem witness_CommandsEndInTheirMailbox :
    (∃ (s : State) (b : BindId) (j : Job), s.job? (.mailbox b) = some j ∧ Plain j ∧ j.abortReq = true ∧ j.committed = false) ∧
    (∃ (b : BindId) (j : Job), j.origin = .mailbox b ∧ j.wroteOther = false ∧ j.discard = false) :=
  ⟨⟨with1 ({ job C.PWR_HUSH 0 [] with abortReq := true }), own, { job C.PWR_HUSH 0 [] with abortReq := true },
    by unfold Plain; decide +kernel⟩,
   ⟨own, job C.PWR_HUSH 0 [], by decide +kernel⟩⟩

/-- States and operands that meet the premises of HostAccessesComplete, clause by clause. -/
theorem witness_HostAccessesComplete :
    (∃ (s : State) (o : Origin) (j : Job) (q : HostRef) (bs : Bytes), s.job? o = some j ∧ j.phase = .hostRead ∧
      j.unsent = false ∧ j.reads = [q] ∧ bs.length = q.len ∧ (∀ k ∈ s.jobs, k.unsent = false)) ∧
    (∃ (s : State) (b : BindId) (j : Job) (q : HostRef) (rest : List HostRef) (r : DmaResult) (bit : Nat),
      s.job? (.mailbox b) = some j ∧ Plain j ∧ j.phase = .hostRead ∧ j.unsent = false ∧ j.reads = q :: rest ∧ (∀ k ∈ s.jobs,
      k.unsent = false) ∧ (r = .ur ∧ bit = errUrCa ∨ r = .ca ∧ bit = errUrCa ∨ r = .poisoned ∧ bit = errPoisoned)) ∧
    (∃ (s : State) (b : BindId) (j : Job) (q : HostRef) (rest : List HostRef), s.job? (.mailbox b) = some j ∧ Plain j ∧
      j.phase = .hostRead ∧ j.unsent = false ∧ j.reads = q :: rest ∧ (∀ k ∈ s.jobs, k.unsent = false)) ∧
    (∃ (s : State) (b : BindId) (j : Job) (st : Nat) (bs : Bytes) (appr : Bool), s.job? (.mailbox b) = some j ∧
      j.discard = false ∧ j.phase = .ordering ∧ j.final = some (st, bs, appr) ∧ (∀ k ∈ s.jobs, k.unsent = false)) ∧
    (∃ (s : State) (b : BindId) (j : Job) (st : Nat) (bs : Bytes) (appr : Bool), s.job? (.mailbox b) = some j ∧
      j.discard = false ∧ j.phase = .ordering ∧ j.final = some (st, bs, appr) ∧ (∀ k ∈ s.jobs, k.unsent = false)) :=
  ⟨⟨with1 ({ job C.MEAS_EXTEND 0 [] with phase := .hostRead, reads := [{ len := 2, addr := 16 }] }),
    .mailbox own,
    { job C.MEAS_EXTEND 0 [] with phase := .hostRead, reads := [{ len := 2, addr := 16 }] },
    { len := 2, addr := 16 },
    [1, 2],
    by decide +kernel⟩,
   ⟨with1 ({ job C.MEAS_EXTEND 0 [] with phase := .hostRead, reads := [{ len := 2, addr := 16 }] }),
    own,
    { job C.MEAS_EXTEND 0 [] with phase := .hostRead, reads := [{ len := 2, addr := 16 }] },
    { len := 2, addr := 16 },
    [],
    .poisoned,
    errPoisoned,
    by unfold Plain; decide +kernel⟩,
   ⟨with1 ({ job C.MEAS_EXTEND 0 [] with phase := .hostRead, reads := [{ len := 2, addr := 16 }] }),
    own,
    { job C.MEAS_EXTEND 0 [] with phase := .hostRead, reads := [{ len := 2, addr := 16 }] },
    { len := 2, addr := 16 },
    [],
    by unfold Plain; decide +kernel⟩,
   ⟨with1 ({ job C.KEY_PUBLIC 0 [] with phase := .ordering, final := some (0, [1, 0, 0, 0, 9], false) }),
    own,
    { job C.KEY_PUBLIC 0 [] with phase := .ordering, final := some (0, [1, 0, 0, 0, 9], false) },
    0,
    [1, 0, 0, 0, 9],
    false,
    by decide +kernel⟩,
   ⟨with1 ({ job C.KEY_PUBLIC 0 [] with phase := .ordering, final := some (0, [1, 0, 0, 0, 9], false) }),
    own,
    { job C.KEY_PUBLIC 0 [] with phase := .ordering, final := some (0, [1, 0, 0, 0, 9], false) },
    0,
    [1, 0, 0, 0, 9],
    false,
    by decide +kernel⟩⟩

/-- States and operands that meet the premises of HostPortsFollowLinksAndResets, clause by clause. -/
theorem witness_HostPortsFollowLinksAndResets :
    (∃ (s : State) (p : PortId) (rate width : Nat) (flit : Bool), (s.port p).perst = false ∧ s.mode ≠ .dormant ∧ 4 ≤ rate ∧
      rate ≤ 6 ∧ (rate = 6 → flit = true) ∧ (width = 4 ∨ width = 8 ∨ width = 16)) ∧
    (∃ (s : State) (p : PortId) (rate width : Nat), (s.port p).perst = false ∧ s.mode ≠ .dormant ∧ 1 ≤ rate ∧ rate ≤ 3 ∧
      (width = 4 ∨ width = 8 ∨ width = 16)) ∧
    (∃ (s : State), (∀ j ∈ s.jobs, j.phase ≠ .hostRead ∧ j.phase ≠ .ordering) ∧ (∀ e ∈ s.qps, e.2.reading = none)) ∧
    (∃ (s : State), (∀ j ∈ s.jobs, j.phase ≠ .hostRead ∧ j.phase ≠ .ordering) ∧ (∀ e ∈ s.qps, e.2.reading = none)) ∧
    (∃ (s : State), (∀ j ∈ s.jobs, j.phase ≠ .hostRead ∧ j.phase ≠ .ordering)) ∧
    (∃ (n : Nat), n ≤ 4095) ∧
    (∃ (s : State) (p : PortId) (f v : Nat), v ∈ (s.fn p f).pba ∧ (s.fn p f).msixEnable = true ∧
      (s.fn p f).funcMask = false ∧ v ∉ (s.fn p f).unmasked) ∧
    (∃ (s : State) (p : PortId) (f v : Nat), v ∉ (s.fn p f).pba ∧ v ∉ (s.fn p f).unmasked) ∧
    (∃ (s : State) (p : PortId) (f : Nat), f ≠ 0 ∧ s.jobs = [] ∧ (s.bindOf ⟨p, true, f⟩).valid = true ∧ (s.bindOf ⟨p, true,
      f⟩).twin = false) ∧
    (∃ (s : State) (p : PortId), (s.port p).perst = true ∧ s.mode = .service ∧ s.moon.dormantTaken = false) ∧
    (∃ (s : State) (p : PortId), (s.port p).perst = true ∧ s.mode = .dormant ∧ s.moon.corePower = true ∧
      s.moon.onVbat = false ∧ (s.reg R.PWR_WAKE_CFG).testBit (4 + p.num) = true) :=
  ⟨⟨svc, .a, 4, 16, true, by decide +kernel⟩,
   ⟨svc, .b, 3, 4, by decide +kernel⟩,
   ⟨svc, by decide +kernel⟩,
   ⟨svc, by decide +kernel⟩,
   ⟨svc, by decide +kernel⟩,
   ⟨4095, by decide +kernel⟩,
   ⟨svc.setFn .a 1 { msixEnable := true, pba := [3] }, .a, 1, 3, by decide +kernel⟩,
   ⟨svc.setFn .a 1 { msixEnable := true, pba := [3] }, .a, 1, 4, by decide +kernel⟩,
   ⟨svc.setMbx vf1 { state := .done, doneCount := 4, result := [1] }, .a, 1, by decide +kernel⟩,
   ⟨(svc.setPort .a { port1 with perst := true }).setQp 9 { bind := own, state := .stopped }, .a, by decide +kernel⟩,
   ⟨{ svc.setPort .b { port1 with perst := true } with mode := .dormant }, .b, by decide +kernel⟩⟩

/-- States and operands that meet the premises of QueueRingsMove, clause by clause. -/
theorem witness_QueueRingsMove :
    (∃ (s : State) (b : BindId) (q v n : Nat), bindLive s b = true ∧ s.mode ≠ .hush ∧ qpnOf s b q = some n ∧
      (s.qp n).state ≠ .faulted ∧ v < 2 ^ (s.qp n).sqLog2) ∧
    (∃ (s : State) (b : BindId) (q v n : Nat), bindLive s b = true ∧ s.mode = .service ∧ s.moon.dormantTaken = false ∧
      qpnOf s b q = some n ∧ (s.qp n).state = .active ∧ (s.qp n).cls ≠ 0 ∧ (s.qp n).keptHeader = none ∧
      (s.qp n).reading = none ∧ (s.qp n).bind = b ∧ canDma s b = true ∧ cqSpace s n = true ∧
      tagFree s b.port (s.qp n).cls = true ∧ v < 2 ^ (s.qp n).sqLog2 ∧ v ≠ (s.qp n).sqHead ∧ (s.qp n).sqHead < v) ∧
    (∃ (s : State) (b : BindId) (q v n : Nat), bindLive s b = true ∧ s.mode ≠ .hush ∧ qpnOf s b q = some n ∧
      (s.qp n).state ≠ .faulted ∧ 2 ^ (s.qp n).sqLog2 ≤ v) ∧
    (∃ (s : State) (b : BindId) (q v n : Nat), bindLive s b = true ∧ s.mode ≠ .hush ∧ qpnOf s b q = some n ∧
      (s.qp n).state ≠ .faulted ∧ v < 2 ^ (s.qp n).cqLog2 ∧
      ringCount (s.qp n).cqHead v (2 ^ (s.qp n).cqLog2) ≤ ringCount (s.qp n).cqHead (s.qp n).cqTail (2 ^ (s.qp n).cqLog2)) ∧
    (∃ (s : State) (b : BindId) (q v n : Nat), bindLive s b = true ∧ s.mode ≠ .hush ∧ qpnOf s b q = some n ∧
      (s.qp n).state ≠ .faulted ∧ v < 2 ^ (s.qp n).cqLog2 ∧
      ringCount (s.qp n).cqHead (s.qp n).cqTail (2 ^ (s.qp n).cqLog2) < ringCount (s.qp n).cqHead v (2 ^ (s.qp n).cqLog2)) ∧
    (∃ (s : State) (b : BindId) (q : Nat), bindLive s b = true ∧ s.mode ≠ .hush ∧ qpnOf s b q = none) ∧
    (∃ (s : State) (n : Nat) (r : DmaResult) (bit : Nat), canFetch s n = true ∧ (s.qp n).reading ≠ none ∧
      rangeFault s.mem (qpLines n).1 (qpLines n).2 = none ∧ (∀ k ∈ s.jobs, k.unsent = false) ∧ (r = .ur ∧
      bit = errUrCa ∨ r = .ca ∧ bit = errUrCa ∨ r = .poisoned ∧ bit = errPoisoned)) ∧
    (∃ (s : State) (n : Nat) (bs : Bytes), canFetch s n = true ∧ (s.qp n).reading ≠ none ∧
      rangeFault s.mem (qpLines n).1 (qpLines n).2 = none ∧ (∀ k ∈ s.jobs, k.unsent = false) ∧ (s.qp n).cls ≠ 0 ∧
      (s.qp n).keptHeader = none ∧ framingBad (s.qp n) (bs.take 64) = false ∧ bs.length = 64 * entrySlots (bs.take 64) ∧
      entrySlots (bs.take 64) ≤ ringCount (s.qp n).sqHead (s.qp n).sqTail (2 ^ (s.qp n).sqLog2) ∧
      entryCheck s (entryJob s n (s.qp n) bs) bs = none) :=
  ⟨⟨svc.setQp 9 { state := .active, bind := own, localIndex := 2, cls := 1, sqLog2 := 6, cqLog2 := 6 }, own, 2, 63, 9,
    by decide +kernel⟩,
   ⟨svc.setQp 9 { state := .active
                  bind := own
                  localIndex := 2
                  cls := 1
                  sqLog2 := 6
                  cqLog2 := 6
                  sqHead := 7
                  sqTail := 7
                  sqBase := 0x4000 },
    own,
    2,
    63,
    9,
    by decide +kernel⟩,
   ⟨svc.setQp 9 { state := .active, bind := own, localIndex := 2, cls := 1, sqLog2 := 6, cqLog2 := 6 }, own, 2, 64, 9,
    by decide +kernel⟩,
   ⟨svc.setQp 9 { state := .active
                  bind := own
                  localIndex := 2
                  cls := 1
                  sqLog2 := 6
                  cqLog2 := 6
                  cqHead := 60
                  cqTail := 3 },
    own,
    2,
    3,
    9,
    by decide +kernel⟩,
   ⟨svc.setQp 9 { state := .active
                  bind := own
                  localIndex := 2
                  cls := 1
                  sqLog2 := 6
                  cqLog2 := 6
                  cqHead := 60
                  cqTail := 3 },
    own,
    2,
    4,
    9,
    by decide +kernel⟩,
   ⟨svc.setQp 9 { state := .active, bind := own, localIndex := 2, cls := 1, sqLog2 := 6, cqLog2 := 6 }, own, 3,
    by decide +kernel⟩,
   ⟨svc.setQp 9 { state := .active
                  bind := own
                  localIndex := 2
                  cls := 1
                  sqLog2 := 6
                  cqLog2 := 6
                  sqTail := 3
                  reading := some 0 },
    9,
    .ca,
    errUrCa,
    by decide +kernel⟩,
   ⟨svc.setQp 9 { state := .active
                  bind := own
                  localIndex := 2
                  cls := 1
                  sqLog2 := 6
                  cqLog2 := 6
                  sqHead := 63
                  sqTail := 1
                  reading := some 0 },
    9,
    ops 128 [(0, leBytes 2 C.TENANT_INFO), (4, leBytes 2 8), (16, ref 64)],
    by decide +kernel⟩⟩

/-- States and operands that meet the premises of SchedulerAndBuckets, clause by clause. -/
theorem witness_SchedulerAndBuckets :
    (∃ (s : State) (o : Origin) (j : Job) (d : Nat), s.job? o = some j ∧ eligible s j = true ∧ (j.cls ≠ 0 → ∀ i ∈ s.jobs,
      i.cls = 0 → eligible s i = false) ∧ reached s j = true ∧ (j.cls = 0 → creditFree s .vault = true) ∧
      dispatcherFor s j = some d) ∧
    (∃ (s : State) (o : Origin) (j : Job) (d : Nat), s.job? o = some j ∧ eligible s j = true ∧ j.owner = false ∧ j.cls ≠ 0 ∧
      (∀ i ∈ s.jobs, i.cls = 0 → eligible s i = false) ∧ reached s j = true ∧ dispatcherFor s j = some d ∧ (∀ n,
      j.origin ≠ .internal n) ∧ (s.ten j.tenant).grant.opRate ≠ 0 ∧ (s.ten j.tenant).grant.byteRate ≠ 0) ∧
    (∃ (s : State) (o : Origin) (j i : Job), s.job? o = some j ∧ j.cls ≠ 0 ∧ i ∈ s.jobs ∧ i.cls = 0 ∧ eligible s i = true) ∧
    (∃ (s : State) (o : Origin) (j i : Job), s.job? o = some j ∧ i ∈ s.jobs ∧ i.cls = j.cls ∧ eligible s i = true ∧
      isHead s i = true ∧ tenantRounds s i < tenantRounds s j ∧ (∀ k ∈ s.jobs, k.origin = j.origin → k = j)) ∧
    (∃ (s : State) (t : Nat), (s.ten t).state ≠ .free ∧ (s.ten t).grant.opRate ≠ 0 ∧ (s.ten t).grant.byteRate ≠ 0) ∧
    (∃ (s : State) (t : Nat), (s.ten t).state = .active ∧ (s.ten t).grant.spoofLimit ≠ 0 ∧
      (s.ten t).grant.spoofLimit ≤ (s.ten t).spoofCount) ∧
    (∃ (s : State) (n : Nat), (s.qp n).state ≠ .free ∧ (s.qp n).uncoalesced ≠ 0 ∧ (s.qp n).coalTime ≠ 0) :=
  ⟨⟨with1 ({ job C.POLICY_QUERY 0 [] with phase := .queued }),
    .mailbox own,
    { job C.POLICY_QUERY 0 [] with phase := .queued },
    2,
    by decide +kernel⟩,
   ⟨(with1 ({ job C.POLICY_QUERY 0 [] with
                origin := .mailbox vf1
                bind := vf1
                owner := false
                tenant := 1
                phase := .queued })).setTen 1 { svc.ten 1 with opBalance := 5, byteBalance := 5000 },
    .mailbox vf1,
    { job C.POLICY_QUERY 0 [] with origin := .mailbox vf1, bind := vf1, owner := false, tenant := 1, phase := .queued },
    2,
    by and_intros <;> first | decide +kernel | (intro n h; cases h)⟩,
   ⟨{ svc with
        jobs := [({ job C.POLICY_QUERY 0 [] with phase := .queued }),
                 ({ job C.POLICY_QUERY 0 [] with origin := .queue 3 0, cls := 0, phase := .queued })] },
    .mailbox own,
    { job C.POLICY_QUERY 0 [] with phase := .queued },
    { job C.POLICY_QUERY 0 [] with origin := .queue 3 0, cls := 0, phase := .queued },
    by decide +kernel⟩,
   ⟨{ { svc with
               jobs := [({ job C.POLICY_QUERY 0 [] with phase := .queued }),
                        ({ job C.POLICY_QUERY 0 [] with
                             origin := .mailbox vf1
                             bind := vf1
                             owner := false
                             tenant := 1
                             phase := .queued })] }.setTen 1 { svc.ten 1 with grant := { sealWeight := 1 } } with
        sched := { tenantDeficit := [(4098, 5000)] } },
    .mailbox own,
    { job C.POLICY_QUERY 0 [] with phase := .queued },
    { job C.POLICY_QUERY 0 [] with origin := .mailbox vf1, bind := vf1, owner := false, tenant := 1, phase := .queued },
    by decide +kernel⟩,
   ⟨svc, 1, by decide +kernel⟩,
   ⟨svc.setTen 1 { svc.ten 1 with spoofCount := 3, grant := { spoofLimit := 3 } }, 1, by decide +kernel⟩,
   ⟨svc.setQp 9 { state := .active
                  bind := own
                  localIndex := 2
                  cls := 1
                  sqLog2 := 6
                  cqLog2 := 6
                  coalTime := 3
                  uncoalesced := 1 },
    9,
    by decide +kernel⟩⟩

/-- States and operands that meet the premises of QueuePairsCreatedAndDeleted, clause by clause. -/
theorem witness_QueuePairsCreatedAndDeleted :
    (∃ (s : State) (b : BindId) (j : Job) (n : Nat), Runs s (.mailbox b) C.QP_CREATE 0 j ∧ Plain j ∧
      qpCreateCheck s j = none ∧ freeQpn s = some n) ∧
    (∃ (s : State) (b : BindId) (j : Job), Runs s (.mailbox b) C.QP_DELETE 0 j ∧ Plain j ∧
      (s.qp (u16 j.ops 0)).state ≠ .free ∧ (s.qp (u16 j.ops 0)).bind = j.bind ∧ qpJobs s (u16 j.ops 0) = [] ∧
      ((s.qp (u16 j.ops 0)).state = .active → (s.qp (u16 j.ops 0)).sqHead = (s.qp (u16 j.ops 0)).sqTail)) ∧
    (∃ (s : State) (b : BindId) (j : Job), Runs s (.mailbox b) C.QP_DELETE 0 j ∧ Plain j ∧
      (s.qp (u16 j.ops 0)).state = .free) :=
  ⟨⟨with1 (job C.QP_CREATE 0 (ops 32 [(0, leBytes 2 4), (2, [1, 6, 16]), (16, leBytes 8 0x1000), (24, leBytes 8 0x2000)])),
    own,
    job C.QP_CREATE 0 (ops 32 [(0, leBytes 2 4), (2, [1, 6, 16]), (16, leBytes 8 0x1000), (24, leBytes 8 0x2000)]),
    0,
    by unfold Runs Plain; decide +kernel⟩,
   ⟨(with1 (job C.QP_DELETE 0 (ops 8 [(0, leBytes 2 9)]))).setQp 9 { state := .active
                                                                     bind := own
                                                                     localIndex := 2
                                                                     cls := 1
                                                                     sqLog2 := 6
                                                                     cqLog2 := 6 },
    own,
    job C.QP_DELETE 0 (ops 8 [(0, leBytes 2 9)]),
    by unfold Runs Plain; decide +kernel⟩,
   ⟨with1 (job C.QP_DELETE 0 (ops 8 [(0, leBytes 2 9)])), own, job C.QP_DELETE 0 (ops 8 [(0, leBytes 2 9)]),
    by unfold Runs Plain; decide +kernel⟩⟩

/-- States and operands that meet the premises of RegisterWritesFollowAccess, clause by clause. -/
theorem witness_RegisterWritesFollowAccess :
    (∃ (s : State), s.mode ≠ .dormant) ∧
    (∃ (s : State), s.mode ≠ .dormant ∧ (s.reg R.SCH_CTRL).testBit 0 = true) ∧
    (∃ (s : State), s.mode ≠ .dormant ∧ (s.reg R.CLR_CTRL).testBit 0 = true) ∧
    (∃ (s : State), s.mode ≠ .dormant ∧ (s.reg R.SCH_CTRL).testBit 0 = false) ∧
    (∃ (s : State), s.mode ≠ .dormant ∧ (s.reg R.CLR_CTRL).testBit 0 = false) ∧
    (∃ (s : State), s.mode ≠ .dormant ∧ s.mode ≠ .hush ∧ (s.reg R.SCH_CTRL).testBit 0 = true) ∧
    (∃ (s : State), s.mode ≠ .dormant ∧ s.mode ≠ .hush) ∧
    (∃ (s : State) (off size : Nat), s.mode ≠ .dormant ∧ s.mode ≠ .hush ∧ aligned off size = false) :=
  ⟨⟨svc, by decide +kernel⟩,
   ⟨svc.setReg R.SCH_CTRL 1, by decide +kernel⟩,
   ⟨svc.setReg R.CLR_CTRL 1, by decide +kernel⟩,
   ⟨svc, by decide +kernel⟩,
   ⟨svc, by decide +kernel⟩,
   ⟨svc.setReg R.SCH_CTRL 1, by decide +kernel⟩,
   ⟨svc, by decide +kernel⟩,
   ⟨svc, R.SCH_CTRL + 2, 4, by decide +kernel⟩⟩

/-- States and operands that meet the premises of TenantGrantsAndBindings, clause by clause. -/
theorem witness_TenantGrantsAndBindings :
    (∃ (s : State) (b : BindId) (j : Job), Runs s (.mailbox b) C.TENANT_SET_GRANT 1 j ∧ Plain j ∧ j.owner = true) ∧
    (∃ (s : State) (b : BindId) (j : Job), Runs s (.mailbox b) C.TENANT_BIND 1 j ∧ Plain j ∧ j.owner = true ∧
      u8 j.ops 4 = 0) ∧
    (∃ (s : State) (b : BindId) (j : Job), Runs s (.mailbox b) C.TENANT_BIND 1 j ∧ Plain j ∧ j.owner = true ∧
      u8 j.ops 4 = 1) ∧
    (∃ (s : State) (b : BindId) (j : Job), Runs s (.mailbox b) C.TENANT_UNBIND 1 j ∧ Plain j ∧ j.owner = true ∧
      (s.ten (u16 j.ops 0)).primary = some (namedBind j.ops)) :=
  ⟨⟨with1 (job C.TENANT_SET_GRANT 1 (ops 40 [(0, leBytes 2 1)])), own, job C.TENANT_SET_GRANT 1 (ops 40 [(0, leBytes 2 1)]),
    by unfold Runs Plain; decide +kernel⟩,
   ⟨with1 (job C.TENANT_BIND 1 (ops 16 [(0, leBytes 2 2), (6, leBytes 2 3), (8, leBytes 4 55)])),
    own,
    job C.TENANT_BIND 1 (ops 16 [(0, leBytes 2 2), (6, leBytes 2 3), (8, leBytes 4 55)]),
    by unfold Runs Plain; decide +kernel⟩,
   ⟨with1 (job C.TENANT_BIND 1 (ops 16 [(0, leBytes 2 1), (2, [1]), (4, [1]), (6, leBytes 2 3), (8, leBytes 4 55)])),
    own,
    job C.TENANT_BIND 1 (ops 16 [(0, leBytes 2 1), (2, [1]), (4, [1]), (6, leBytes 2 3), (8, leBytes 4 55)]),
    by unfold Runs Plain; decide +kernel⟩,
   ⟨with1 (job C.TENANT_UNBIND 1 (ops 16 [(0, leBytes 2 1), (6, leBytes 2 1)])),
    own,
    job C.TENANT_UNBIND 1 (ops 16 [(0, leBytes 2 1), (6, leBytes 2 1)]),
    by unfold Runs Plain; decide +kernel⟩⟩

/-- States and operands that meet the premises of TenantLifecycleAndQueries, clause by clause. -/
theorem witness_TenantLifecycleAndQueries :
    (∃ (s : State) (b : BindId) (j : Job) (n h : Nat), Runs s (.mailbox b) C.TENANT_CREATE 1 j ∧ Plain j ∧ j.owner = true ∧
      j.committed = true ∧ j.target = some (n, h)) ∧
    (∃ (s : State) (b : BindId) (j : Job), Runs s (.mailbox b) C.TENANT_ENABLE 0 j ∧ Plain j ∧ Undisputed s j ∧
      j.owner = true ∧ u16 j.ops 0 < 4096 ∧ (s.ten (u16 j.ops 0)).state = .quiesced ∧ (s.ten (u16 j.ops 0)).primary ≠ none) ∧
    (∃ (s : State) (b : BindId) (j : Job), Runs s (.mailbox b) C.TENANT_QUIESCE 0 j ∧ Plain j ∧ Undisputed s j ∧
      j.owner = true ∧ u16 j.ops 0 < 4096 ∧ (s.ten (u16 j.ops 0)).state = .active ∧ u8 j.ops 2 = 0 ∧ u8 j.ops 3 = 0 ∧
      zeroAt j.ops 4 4 = true ∧ noWork s (u16 j.ops 0) = false) ∧
    (∃ (s : State) (t : Nat), (s.ten t).state = .quiescing ∧ (∀ j ∈ s.jobs, isTenantWork t j = false) ∧ (∀ j ∈ s.jobs,
      j.code = C.TENANT_QUIESCE → j.phase ≠ .quiesce)) ∧
    (∃ (s : State) (b : BindId) (j : Job), Runs s (.mailbox b) C.TENANT_RESET 4 j ∧ Plain j ∧ j.owner = true) ∧
    (∃ (s : State) (b : BindId) (j : Job), Runs s (.mailbox b) C.TENANT_DESTROY 4 j ∧ Plain j ∧ j.owner = true) ∧
    (∃ (s : State) (b : BindId) (j : Job), Runs s (.mailbox b) C.TENANT_INFO 0 j ∧ Plain j ∧ j.owner = true ∧
      u16 j.ops 0 < 4096 ∧ (s.ten (u16 j.ops 0)).state ≠ .free ∧ zeroAt j.ops 2 6 = true) ∧
    (∃ (s : State) (b : BindId) (j : Job), Runs s (.mailbox b) C.POLICY_QUERY 0 j ∧ Plain j ∧ Undisputed s j ∧
      j.owner = true ∧ u8 j.ops 2 ≤ 7 ∧ u8 j.ops 3 ≤ 7 ∧ zeroAt j.ops 4 4 = true) :=
  ⟨⟨with1 ({ job C.TENANT_CREATE 1 (ops 64 []) with
               committed := true
               target := some (300, 0)
               args := [5]
               keep := [zeros 32] }),
    own,
    { job C.TENANT_CREATE 1 (ops 64 []) with committed := true, target := some (300, 0), args := [5], keep := [zeros 32] },
    300,
    0,
    by unfold Runs Plain; decide +kernel⟩,
   ⟨(with1 (job C.TENANT_ENABLE 0 (ops 8 [(0, leBytes 2 1)]))).setTen 1 { svc.ten 1 with state := .quiesced },
    own,
    job C.TENANT_ENABLE 0 (ops 8 [(0, leBytes 2 1)]),
    by unfold Runs Plain Undisputed; decide +kernel⟩,
   ⟨{ svc with
        jobs := [(job C.TENANT_QUIESCE 0 (ops 8 [(0, leBytes 2 1)])),
                 { job C.SEAL 0 [] with origin := .queue 9 1, owner := false, tenant := 1 }] },
    own,
    job C.TENANT_QUIESCE 0 (ops 8 [(0, leBytes 2 1)]),
    by unfold Runs Plain Undisputed; decide +kernel⟩,
   ⟨svc.setTen 1 { svc.ten 1 with state := .quiescing }, 1, by decide +kernel⟩,
   ⟨(with1 (job C.TENANT_RESET 4 (ops 8 [(0, leBytes 2 1)]))).setTen 1 { svc.ten 1 with state := .quiesced },
    own,
    job C.TENANT_RESET 4 (ops 8 [(0, leBytes 2 1)]),
    by unfold Runs Plain; decide +kernel⟩,
   ⟨(with1 (job C.TENANT_DESTROY 4 (ops 8 [(0, leBytes 2 1)]))).setTen 1 { svc.ten 1 with state := .quiesced },
    own,
    job C.TENANT_DESTROY 4 (ops 8 [(0, leBytes 2 1)]),
    by unfold Runs Plain; decide +kernel⟩,
   ⟨with1 (job C.TENANT_INFO 0 (ops 8 [(0, leBytes 2 1)])), own, job C.TENANT_INFO 0 (ops 8 [(0, leBytes 2 1)]),
    by unfold Runs Plain; decide +kernel⟩,
   ⟨with1 (job C.POLICY_QUERY 0 (ops 8 [(0, leBytes 2 0xFFFF)])), own, job C.POLICY_QUERY 0 (ops 8 [(0, leBytes 2 0xFFFF)]),
    by unfold Runs Plain Undisputed; decide +kernel⟩⟩

/-- States and operands that meet the premises of KeysEnterSlots, clause by clause. -/
theorem witness_KeysEnterSlots :
    (∃ (s : State) (b : BindId) (j : Job) (n : Nat), Runs s (.mailbox b) C.KEY_GENERATE 0 j ∧ Plain j ∧ Undisputed s j ∧
      j.owner = true ∧ j.target = none ∧ n = u16 j.ops 0 ∧ 64 ≤ n ∧ n < 192 ∧ s.slot n = {} ∧
      (templateAt j.ops 8).rsvdOk = true ∧ zeroAt j.ops 3 5 = true ∧ u8 j.ops 2 = 0 ∧ (templateAt j.ops 8).cls ≤ 2 ∧
      (templateAt j.ops 8).size < 8 ∧
      attrsSuit (templateAt j.ops 8).cls (templateAt j.ops 8).size (templateAt j.ops 8).dest (templateAt j.ops 8).usage = true ∧
      (s.drbgs.get {} 4096).inst = true ∧ (s.drbgs.get {} 4096).requests < 2 ^ 19 ∧ recordsUsed s ≤ 32768) ∧
    (∃ (s : State) (b : BindId) (j : Job) (n p : Nat) (k : SlotHalf), Runs s (.mailbox b) C.KEY_DERIVE 0 j ∧ Plain j ∧
      Undisputed s j ∧ j.owner = true ∧ j.target = none ∧ n = u16 j.ops 2 ∧ 64 ≤ n ∧ n < 192 ∧ s.slot n = {} ∧
      p = u16 j.ops 0 ∧ 64 ≤ p ∧ p < 192 ∧ (s.slot p).active = some k ∧ k.act = true ∧ k.colour = 0xF001 ∧ k.cls = 1 ∧
      k.usage &&& 16 = 16 ∧ k.record = none ∧ k.pubRecord = none ∧ s.keyed = true ∧ (templateAt j.ops 8).rsvdOk = true ∧
      zeroAt j.ops 6 2 = true ∧ u8 j.ops 4 = 0 ∧ u8 j.ops 5 = 0 ∧ zeroAt j.ops 16 64 = true ∧ (templateAt j.ops 8).cls = 1 ∧
      (templateAt j.ops 8).size = 0 ∧ attrsSuit 1 0 (templateAt j.ops 8).dest (templateAt j.ops 8).usage = true ∧
      recordsUsed s ≤ 32768) ∧
    (∃ (s : State) (b : BindId) (j : Job) (n : Nat) (wk : SlotHalf), Runs s (.mailbox b) C.KEY_UNWRAP 1 j ∧ Plain j ∧
      j.owner = true ∧ j.overtaken = none ∧ u8 j.ops 3 = 3 ∧ u8 j.ops 2 = 0 ∧ n = u16 j.ops 0 ∧ 65 ≤ n ∧ n < 192 ∧
      j.target = some (n, 0) ∧ (s.slot n).active = none ∧ s.keyed = true ∧ u16 j.ops 4 = 64 ∧ (s.slot 64).active = some wk ∧
      wk.act = true ∧ wk.colour = 0xF001 ∧ wk.record = none ∧ wk.pubRecord = none ∧ wk.cls = 1 ∧ wk.dest = 8 ∧
      wk.usage = 64 ∧ blobFormatOk (j.data.headD []) 3 = true ∧ u8 (j.data.headD []) 2 = 0x10 ∧
      attrsSuit 1 0 (u8 (j.data.headD []) 3) (u8 (j.data.headD []) 4) = true ∧ recordsUsed s ≤ 32768) ∧
    (∃ (s : State) (b : BindId) (j : Job) (n : Nat), Runs s (.mailbox b) C.KEY_IMPORT_PUBLIC 1 j ∧ Plain j ∧
      j.overtaken = none ∧ j.target = some (n, 0) ∧ j.data.headD [] ≠ [] ∧ recordsUsed s < 32768 ∧
      rangeFault s.mem (recordLines (freeHandle (handlesUsed s) 32768 0)).1 (((j.data.headD []).length + 63) / 64) = none) :=
  ⟨⟨with1 (cmd C.KEY_GENERATE 0 [(0, leBytes 2 64), (8, [0x10, 8, 64])]),
    own,
    cmd C.KEY_GENERATE 0 [(0, leBytes 2 64), (8, [0x10, 8, 64])],
    _,
    by unfold Runs; decide +kernel, by unfold Plain; decide +kernel, by unfold Undisputed; decide +kernel,
       by decide +kernel, by decide +kernel, rfl, by decide +kernel⟩,
   ⟨{ with1 (cmd C.KEY_DERIVE 0 [(0, leBytes 2 64), (2, leBytes 2 191), (8, [0x10, 8, 64])]) with
        slots := [(64, { active := some ({ material := zeros 32
                                           colour := 0xF001
                                           cls := 1
                                           size := 0
                                           dest := 0
                                           usage := 16
                                           version := 1 }) })] },
    own,
    cmd C.KEY_DERIVE 0 [(0, leBytes 2 64), (2, leBytes 2 191), (8, [0x10, 8, 64])],
    _,
    _,
    { material := zeros 32, colour := 0xF001, cls := 1, size := 0, dest := 0, usage := 16, version := 1 },
    by unfold Runs; decide +kernel, by unfold Plain; decide +kernel, by unfold Undisputed; decide +kernel,
       by decide +kernel, by decide +kernel, rfl, by decide +kernel, by decide +kernel, by decide +kernel, rfl,
       by decide +kernel⟩,
   ⟨{ with1 ({ cmd C.KEY_UNWRAP 1 [(0, leBytes 2 65), (3, [3]), (4, leBytes 2 64)] with
                      target := some (65, 0)
                      data := [ops 104 [(0, [1, 3, 0x10, 8, 64]), (6, leBytes 2 32), (16, leBytes 2 4)]] }) with
        slots := [(64, { active := some ({ material := zeros 32
                                           colour := 0xF001
                                           cls := 1
                                           size := 0
                                           dest := 8
                                           usage := 64
                                           version := 1 }) })] },
    own,
    { cmd C.KEY_UNWRAP 1 [(0, leBytes 2 65), (3, [3]), (4, leBytes 2 64)] with
        target := some (65, 0)
        data := [ops 104 [(0, [1, 3, 0x10, 8, 64]), (6, leBytes 2 32), (16, leBytes 2 4)]] },
    _,
    { material := zeros 32, colour := 0xF001, cls := 1, size := 0, dest := 8, usage := 64, version := 1 },
    by unfold Runs; decide +kernel, by unfold Plain; decide +kernel, by decide +kernel, by decide +kernel,
       by decide +kernel, by decide +kernel, rfl, by decide +kernel⟩,
   ⟨with1 ({ cmd C.KEY_IMPORT_PUBLIC 1 [(0, leBytes 2 70), (8, [0x68, 2, 8])] with
               target := some (70, 0)
               data := [zeros 97] }),
    own,
    { cmd C.KEY_IMPORT_PUBLIC 1 [(0, leBytes 2 70), (8, [0x68, 2, 8])] with target := some (70, 0), data := [zeros 97] },
    70,
    by unfold Runs Plain; decide +kernel⟩⟩

/-- States and operands that meet the premises of KeyStatesMove, clause by clause. -/
theorem witness_KeyStatesMove :
    (∃ (s : State) (b : BindId) (j : Job) (n : Nat) (p : SlotHalf), Runs s (.mailbox b) C.KEY_PROVE 0 j ∧ Plain j ∧
      Undisputed s j ∧ n = u16 j.ops 0 ∧ n < 16384 ∧ zeroAt j.ops 2 6 = true ∧
      slotCheck s j .use n (fun _ => true) 0 0 = none ∧ (s.slot n).pending = some p ∧ p.act = true ∧ p.record = none ∧
      p.pubRecord = none ∧ p.cls ≤ 2 ∧ (zeroAt j.ops 8 8 = true ∨ slice j.ops 8 8 = kcv p.material)) ∧
    (∃ (s : State) (b : BindId) (j : Job) (n : Nat) (p : SlotHalf), Runs s (.mailbox b) C.KEY_PROVE 0 j ∧ Plain j ∧
      Undisputed s j ∧ n = u16 j.ops 0 ∧ n < 16384 ∧ zeroAt j.ops 2 6 = true ∧
      slotCheck s j .use n (fun _ => true) 0 0 = none ∧ (s.slot n).pending = some p ∧ p.act = true ∧ p.record = none ∧
      p.pubRecord = none ∧ p.cls ≤ 2 ∧ zeroAt j.ops 8 8 = false ∧ slice j.ops 8 8 ≠ kcv p.material) ∧
    (∃ (s : State) (b : BindId) (j : Job) (n : Nat) (a p : SlotHalf), Runs s (.mailbox b) C.KEY_COMMIT 0 j ∧ Plain j ∧
      Undisputed s j ∧ n = u16 j.ops 0 ∧ n < 16384 ∧ zeroAt j.ops 4 4 = true ∧
      slotCheck s j .use n (fun _ => true) 0 0 = none ∧ (s.slot n).active = some a ∧ a.version = u16 j.ops 2 ∧
      (s.slot n).pending = some p ∧ p.proven = true) ∧
    (∃ (s : State) (b : BindId) (j : Job) (n : Nat), Runs s (.mailbox b) C.KEY_DISCARD 0 j ∧ Plain j ∧ Undisputed s j ∧
      n = u16 j.ops 0 ∧ n < 16384 ∧ zeroAt j.ops 2 6 = true ∧ slotCheck s j .use n (fun _ => true) 0 0 = none ∧
      (s.slot n).pending ≠ none) ∧
    (∃ (s : State) (b : BindId) (j : Job) (n : Nat), Runs s (.mailbox b) C.KEY_DESTROY 0 j ∧ Plain j ∧ Undisputed s j ∧
      n = u16 j.ops 0 ∧ destroyCheck s j n = none ∧ treeOfSlot s n = none) ∧
    (∃ (s : State) (b : BindId) (j : Job) (n : Nat) (a : SlotHalf), Runs s (.mailbox b) C.KEY_ATTR_SET 0 j ∧ Plain j ∧
      Undisputed s j ∧ n = u16 j.ops 0 ∧ zeroAt j.ops 5 3 = true ∧ u8 j.ops 4 / 4 = 0 ∧
      slotCheck s j .use n (fun _ => true) 0 0 = none ∧ (s.slot n).active = some a ∧ a.locked = false ∧
      (s.slot n).pending = none) :=
  ⟨⟨{ with1 (cmd C.KEY_PROVE 0 [(0, leBytes 2 64)]) with
        slots := [(64, { active := some ({ material := zeros 32
                                           colour := 0xF001
                                           cls := 1
                                           size := 0
                                           dest := 8
                                           usage := 64
                                           version := 1 })
                         pending := some ({ material := zeros 32
                                            colour := 0xF001
                                            cls := 1
                                            size := 0
                                            dest := 8
                                            usage := 64
                                            version := 1 }) })] },
    own,
    cmd C.KEY_PROVE 0 [(0, leBytes 2 64)],
    _,
    { material := zeros 32, colour := 0xF001, cls := 1, size := 0, dest := 8, usage := 64, version := 1 },
    by unfold Runs; decide +kernel, by unfold Plain; decide +kernel, by unfold Undisputed; decide +kernel, rfl,
       by decide +kernel⟩,
   by
    rcases Classical.em (kcv (zeros 32) = [1, 0, 0, 0, 0, 0, 0, 0]) with h | h
    · exact ⟨{ with1 (cmd C.KEY_PROVE 0 [(0, leBytes 2 64), (8, [2])]) with
                 slots := [(64, { active := some ({ material := zeros 32
                                                    colour := 0xF001
                                                    cls := 1
                                                    size := 0
                                                    dest := 8
                                                    usage := 64
                                                    version := 1 })
                                  pending := some ({ material := zeros 32
                                                     colour := 0xF001
                                                     cls := 1
                                                     size := 0
                                                     dest := 8
                                                     usage := 64
                                                     version := 1 }) })] },
             own,
             cmd C.KEY_PROVE 0 [(0, leBytes 2 64), (8, [2])],
             64,
             { material := zeros 32, colour := 0xF001, cls := 1, size := 0, dest := 8, usage := 64, version := 1 },
             by unfold Runs; decide +kernel, by unfold Plain; decide +kernel, by unfold Undisputed; decide +kernel, by decide +kernel, by decide +kernel, by decide +kernel, by decide +kernel, by decide +kernel, by decide +kernel, by decide +kernel, by decide +kernel, by decide +kernel, by decide +kernel,
       by show _ ≠ kcv (zeros 32); rw [h]; decide +kernel⟩
    · exact ⟨{ with1 (cmd C.KEY_PROVE 0 [(0, leBytes 2 64), (8, [1])]) with
                 slots := [(64, { active := some ({ material := zeros 32
                                                    colour := 0xF001
                                                    cls := 1
                                                    size := 0
                                                    dest := 8
                                                    usage := 64
                                                    version := 1 })
                                  pending := some ({ material := zeros 32
                                                     colour := 0xF001
                                                     cls := 1
                                                     size := 0
                                                     dest := 8
                                                     usage := 64
                                                     version := 1 }) })] },
             own,
             cmd C.KEY_PROVE 0 [(0, leBytes 2 64), (8, [1])],
             64,
             { material := zeros 32, colour := 0xF001, cls := 1, size := 0, dest := 8, usage := 64, version := 1 },
             by unfold Runs; decide +kernel, by unfold Plain; decide +kernel, by unfold Undisputed; decide +kernel, by decide +kernel, by decide +kernel, by decide +kernel, by decide +kernel, by decide +kernel, by decide +kernel, by decide +kernel, by decide +kernel, by decide +kernel, by decide +kernel,
       fun e => h (Eq.trans (Eq.symm e) (by decide +kernel))⟩,
   ⟨{ with1 (cmd C.KEY_COMMIT 0 [(0, leBytes 2 191), (2, leBytes 2 0xFFFF)]) with
        slots := [(191, { active := some ({ material := zeros 32
                                            colour := 0xF001
                                            cls := 1
                                            size := 0
                                            dest := 8
                                            usage := 64
                                            version := 0xFFFF })
                          pending := some ({ material := zeros 32
                                             colour := 0xF001
                                             cls := 1
                                             size := 0
                                             dest := 8
                                             usage := 64
                                             version := 1
                                             proven := true }) })] },
    own,
    cmd C.KEY_COMMIT 0 [(0, leBytes 2 191), (2, leBytes 2 0xFFFF)],
    _,
    { material := zeros 32, colour := 0xF001, cls := 1, size := 0, dest := 8, usage := 64, version := 0xFFFF },
    { material := zeros 32, colour := 0xF001, cls := 1, size := 0, dest := 8, usage := 64, version := 1, proven := true },
    by unfold Runs; decide +kernel, by unfold Plain; decide +kernel, by unfold Undisputed; decide +kernel, rfl,
       by decide +kernel⟩,
   ⟨{ with1 (cmd C.KEY_DISCARD 0 [(0, leBytes 2 64)]) with
        slots := [(64, { active := some { material := zeros 32
                                          colour := 0xF001
                                          cls := 1
                                          size := 0
                                          dest := 8
                                          usage := 64
                                          version := 1 }
                         pending := some { material := zeros 32
                                           colour := 0xF001
                                           cls := 1
                                           size := 0
                                           dest := 8
                                           usage := 64
                                           version := 1 } })] },
    own,
    cmd C.KEY_DISCARD 0 [(0, leBytes 2 64)],
    _,
    by unfold Runs; decide +kernel, by unfold Plain; decide +kernel, by unfold Undisputed; decide +kernel, rfl,
       by decide +kernel⟩,
   ⟨{ with1 (cmd C.KEY_DESTROY 0 [(0, leBytes 2 64)]) with
        slots := [(64, { active := some { material := zeros 32
                                          colour := 0xF001
                                          cls := 1
                                          size := 0
                                          dest := 8
                                          usage := 64
                                          version := 1 }
                         pending := some { material := zeros 32
                                           colour := 0xF001
                                           cls := 1
                                           size := 0
                                           dest := 8
                                           usage := 64
                                           version := 1 } })] },
    own,
    cmd C.KEY_DESTROY 0 [(0, leBytes 2 64)],
    _,
    by unfold Runs; decide +kernel, by unfold Plain; decide +kernel, by unfold Undisputed; decide +kernel, rfl,
       by decide +kernel⟩,
   ⟨{ with1 (cmd C.KEY_ATTR_SET 0 [(0, leBytes 2 64), (2, [8, 64, 3])]) with
        slots := [(64, { active := some ({ material := zeros 32
                                           colour := 0xF001
                                           cls := 1
                                           size := 0
                                           dest := 8
                                           usage := 64
                                           version := 1 }) })] },
    own,
    cmd C.KEY_ATTR_SET 0 [(0, leBytes 2 64), (2, [8, 64, 3])],
    _,
    { material := zeros 32, colour := 0xF001, cls := 1, size := 0, dest := 8, usage := 64, version := 1 },
    by unfold Runs; decide +kernel, by unfold Plain; decide +kernel, by unfold Undisputed; decide +kernel, rfl,
       by decide +kernel⟩⟩

/-- States and operands that meet the premises of KeyReadsAndWraps, clause by clause. -/
theorem witness_KeyReadsAndWraps :
    (∃ (s : State) (b : BindId) (j : Job) (n : Nat), Runs s (.mailbox b) C.KEY_ATTR_READ 0 j ∧ Plain j ∧ Undisputed s j ∧
      n = u16 j.ops 0 ∧ zeroAt j.ops 2 6 = true ∧ slotNamed s j.owner .attrRead n = true ∧
      slotAccess s j.owner j.tenant .attrRead n = true) ∧
    (∃ (s : State) (b : BindId) (j : Job) (n : Nat) (h : SlotHalf), Runs s (.mailbox b) C.KEY_PUBLIC 0 j ∧ Plain j ∧
      Undisputed s j ∧ n = u16 j.ops 0 ∧ zeroAt j.ops 3 13 = true ∧ u8 j.ops 2 = 0 ∧
      refCheck s j (hostRef j.ops 16) 0 maxLen = none ∧ (hostRef j.ops 16).port = 0 ∧ canDma s j.bind = true ∧
      accessCheck s j .keyPublic n = none ∧ (s.slot n).active = some h ∧ h.act = true ∧ 6 ≤ h.cls ∧ h.record = none ∧
      h.pubRecord = none ∧ h.pubKey ≠ [] ∧ h.pubKey.length ≤ (hostRef j.ops 16).len) ∧
    (∃ (s : State) (b : BindId) (j : Job) (n : Nat) (h : SlotHalf) (k : Bytes), Runs s (.mailbox b) C.KEY_WRAP 0 j ∧
      Plain j ∧ Undisputed s j ∧ n = u16 j.ops 0 ∧ u8 j.ops 2 = 1 ∧ zeroAt j.ops 3 1 = true ∧ u16 j.ops 4 = 0xFFFF ∧
      zeroAt j.ops 6 10 = true ∧ refCheck s j (hostRef j.ops 16) 0 maxLen = none ∧ (hostRef j.ops 16).port = 0 ∧
      canDma s j.bind = true ∧ slotCheck s j .wrapRoot n (fun h => h.cls == 4) 0 0 = none ∧ (s.slot n).active = some h ∧
      h.record = none ∧ h.pubRecord = none ∧ s.keyed = true ∧ s.cdk = some k ∧
      (blobOf 1 h k).length ≤ (hostRef j.ops 16).len) ∧
    (∃ (s : State) (o : Origin) (j : Job) (c : Nat), s.job? o = some j ∧ j.revokedBy = some c) :=
  ⟨⟨{ with1 (cmd C.KEY_ATTR_READ 0 [(0, leBytes 2 64)]) with
        slots := [(64, { active := some { material := zeros 32
                                          colour := 0xF001
                                          cls := 1
                                          size := 0
                                          dest := 8
                                          usage := 64
                                          version := 1 } })] },
    own,
    cmd C.KEY_ATTR_READ 0 [(0, leBytes 2 64)],
    _,
    by unfold Runs; decide +kernel, by unfold Plain; decide +kernel, by unfold Undisputed; decide +kernel, rfl,
       by decide +kernel⟩,
   ⟨{ with1 (cmd C.KEY_PUBLIC 0 [(0, leBytes 2 64), (16, ref 97)]) with
        slots := [(64, { active := some ({ material := zeros 32
                                           colour := 0xF001
                                           cls := 6
                                           size := 0
                                           dest := 2
                                           usage := 8
                                           version := 1
                                           pubKey := [1, 2] }) })] },
    own,
    cmd C.KEY_PUBLIC 0 [(0, leBytes 2 64), (16, ref 97)],
    _,
    { material := zeros 32, colour := 0xF001, cls := 6, size := 0, dest := 2, usage := 8, version := 1, pubKey := [1, 2] },
    by unfold Runs; decide +kernel, by unfold Plain; decide +kernel, by unfold Undisputed; decide +kernel, rfl,
       by decide +kernel⟩,
   ⟨{ with1 (cmd C.KEY_WRAP 0 [(0, leBytes 2 300), (2, [1]), (4, leBytes 2 0xFFFF), (16, ref 4096)]) with
        slots := [(300, { active := some ({ material := zeros 32
                                            colour := 0xF001
                                            cls := 4
                                            size := 0
                                            dest := 4
                                            usage := 16
                                            version := 1 }) })] },
    own,
    cmd C.KEY_WRAP 0 [(0, leBytes 2 300), (2, [1]), (4, leBytes 2 0xFFFF), (16, ref 4096)],
    _,
    { material := zeros 32, colour := 0xF001, cls := 4, size := 0, dest := 4, usage := 16, version := 1 },
    zeros 32,
    by unfold Runs; decide +kernel, by unfold Plain; decide +kernel, by unfold Undisputed; decide +kernel, rfl,
       by decide +kernel⟩,
   ⟨with1 ({ qcmd C.SEAL 50 [] with revokedBy := some C.KEY_DESTROY, phase := .engine }),
    .queue 9 1,
    { qcmd C.SEAL 50 [] with revokedBy := some C.KEY_DESTROY, phase := .engine },
    C.KEY_DESTROY,
    by decide +kernel⟩⟩

/-- States and operands that meet the premises of SealingTakesAnEngine, clause by clause. -/
theorem witness_SealingTakesAnEngine :
    (∃ (s : State) (o : Origin) (j : Job) (n : Nat) (leaf : Bytes) (r : HostRef), Runs s o C.SEAL 50 j ∧ Undisputed s j ∧
      (∀ k ∈ s.jobs, k.origin = o → k = j) ∧ anyUsable s j.cls j = true ∧ laneOf s j = j.lane ∧ engineFor s j = some n ∧
      j.keep = [] ∧ leafCheck s j (specOf j).epoch (specOf j).index = none ∧
      pagesFault s.mem (s.tree (treeNum j.tenant (specOf j).epoch)).pages = none ∧
      slotCheck s j .use (s.tree (treeNum j.tenant (specOf j).epoch)).rootSlot (fun h => h.cls == 3) 1 1 = none ∧
      leafKey (s.tree (treeNum j.tenant (specOf j).epoch)).frontier (specOf j).index = some leaf ∧
      (s.drbgs.get {} (drbgOf j)).inst = true ∧ (s.drbgs.get {} (drbgOf j)).requests < 2 ^ 19 ∧
      r = (if (specOf j).aad.len = 0 then (specOf j).src else (specOf j).aad) ∧ canDma s (dmaBind s j r.port) = true ∧
      tagFree s (dmaBind s j r.port).port j.cls = true) ∧
    (∃ (s : State) (o : Origin) (j : Job) (n : Nat) (i : Instr) (leaf : Bytes) (r : HostRef), (i = .recall o ∧
      Runs s o C.RECALL 50 j ∨ i = .verify o ∧ Runs s o C.VERIFY 50 j) ∧ Undisputed s j ∧ (∀ k ∈ s.jobs, k.origin = o →
      k = j) ∧ anyUsable s j.cls j = true ∧ laneOf s j = j.lane ∧ engineFor s j = some n ∧ j.keep = [] ∧
      leafCheck s j (specOf j).epoch (specOf j).index = none ∧
      pagesFault s.mem (s.tree (treeNum j.tenant (specOf j).epoch)).pages = none ∧
      slotCheck s j .use (s.tree (treeNum j.tenant (specOf j).epoch)).rootSlot (fun h => h.cls == 3) 1 2 = none ∧
      leafKey (s.tree (treeNum j.tenant (specOf j).epoch)).frontier (specOf j).index = some leaf ∧
      r = (if (specOf j).aad.len = 0 then (specOf j).src else (specOf j).aad) ∧ canDma s (dmaBind s j r.port) = true ∧
      tagFree s (dmaBind s j r.port).port j.cls = true) ∧
    (∃ (s : State) (o : Origin) (j : Job) (n : Nat), Runs s o C.DIGEST_ONLY 50 j ∧ (∀ k ∈ s.jobs, k.origin = o → k = j) ∧
      anyUsable s j.cls j = true ∧ laneOf s j = j.lane ∧ engineFor s j = some n ∧ (hostRef j.ops 0).len ≠ 0 ∧
      canDma s (dmaBind s j (hostRef j.ops 0).port) = true ∧
      tagFree s (dmaBind s j (hostRef j.ops 0).port).port j.cls = true) :=
  ⟨⟨{ with1 (qcmd C.SEAL 50 [(0, ref 64), (16, ref 64), (48, leBytes 5 0xFFFFFFFFFF)]) with
        slots := [(301, { active := some { material := zeros 32
                                           colour := 1
                                           cls := 3
                                           dest := 1
                                           usage := 3
                                           version := 1 } })]
        agate := { trees := [(16, { state := .ready
                                    uid := 5
                                    rootSlot := 301
                                    frontier := [{ depth := 0, pfx := 0, key := zeros 32 }] })] } },
    .queue 9 1,
    qcmd C.SEAL 50 [(0, ref 64), (16, ref 64), (48, leBytes 5 0xFFFFFFFFFF)],
    0,
    (leafKey (({ with1 (qcmd C.SEAL 50 [(0, ref 64), (16, ref 64), (48, leBytes 5 0xFFFFFFFFFF)]) with
                   slots := [(301, { active := some { material := zeros 32
                                                      colour := 1
                                                      cls := 3
                                                      dest := 1
                                                      usage := 3
                                                      version := 1 } })]
                   agate := { trees := [(16, { state := .ready
                                               uid := 5
                                               rootSlot := 301
                                               frontier := [{ depth := 0, pfx := 0, key := zeros 32 }] })] } }).tree (treeNum 1 0)).frontier (specOf (qcmd C.SEAL 50 [(0, ref 64), (16, ref 64), (48, leBytes 5 0xFFFFFFFFFF)])).index).getD [],
    _,
    by unfold Runs; and_intros <;> first | decide +kernel | rfl,
       by unfold Undisputed; and_intros <;> first | decide +kernel | rfl, by and_intros <;> first | decide +kernel | rfl,
       by and_intros <;> first | decide +kernel | rfl, by and_intros <;> first | decide +kernel | rfl,
       by and_intros <;> first | decide +kernel | rfl, by and_intros <;> first | decide +kernel | rfl,
       by and_intros <;> first | decide +kernel | rfl, by and_intros <;> first | decide +kernel | rfl,
       by and_intros <;> first | decide +kernel | rfl, by and_intros <;> first | decide +kernel | rfl,
       by and_intros <;> first | decide +kernel | rfl, by and_intros <;> first | decide +kernel | rfl, rfl,
       by and_intros <;> first | decide +kernel | rfl⟩,
   ⟨{ with1 (qcmd C.VERIFY 50 [(0, ref 64)]) with
        slots := [(301, { active := some { material := zeros 32
                                           colour := 1
                                           cls := 3
                                           dest := 1
                                           usage := 3
                                           version := 1 } })]
        agate := { trees := [(16, { state := .ready
                                    uid := 5
                                    rootSlot := 301
                                    frontier := [{ depth := 0, pfx := 0, key := zeros 32 }] })] } },
    .queue 9 1,
    qcmd C.VERIFY 50 [(0, ref 64)],
    0,
    .verify (.queue 9 1),
    (leafKey (({ with1 (qcmd C.VERIFY 50 [(0, ref 64)]) with
                   slots := [(301, { active := some { material := zeros 32
                                                      colour := 1
                                                      cls := 3
                                                      dest := 1
                                                      usage := 3
                                                      version := 1 } })]
                   agate := { trees := [(16, { state := .ready
                                               uid := 5
                                               rootSlot := 301
                                               frontier := [{ depth := 0, pfx := 0, key := zeros 32 }] })] } }).tree (treeNum 1 0)).frontier (specOf (qcmd C.VERIFY 50 [(0, ref 64)])).index).getD [],
    _,
    by unfold Runs; and_intros <;> first | decide +kernel | rfl,
       by unfold Undisputed; and_intros <;> first | decide +kernel | rfl, by and_intros <;> first | decide +kernel | rfl,
       by and_intros <;> first | decide +kernel | rfl, by and_intros <;> first | decide +kernel | rfl,
       by and_intros <;> first | decide +kernel | rfl, by and_intros <;> first | decide +kernel | rfl,
       by and_intros <;> first | decide +kernel | rfl, by and_intros <;> first | decide +kernel | rfl,
       by and_intros <;> first | decide +kernel | rfl, by and_intros <;> first | decide +kernel | rfl, rfl,
       by and_intros <;> first | decide +kernel | rfl⟩,
   ⟨with1 (qcmd C.DIGEST_ONLY 50 [(0, ref 64)]), .queue 9 1, qcmd C.DIGEST_ONLY 50 [(0, ref 64)], 0,
    by unfold Runs; decide +kernel⟩⟩

/-- States and operands that meet the premises of SealingJobsEnd, clause by clause. -/
theorem witness_SealingJobsEnd :
    (∃ (s : State) (q m n : Nat) (j : Job) (w : SealWork) (src a t1 ct tag : Bytes), s.job? (.queue q m) = some j ∧
      j.phase = .engine ∧ j.revokedBy = none ∧ j.discard = false ∧ j.wroteOther = false ∧ j.code = C.SEAL ∧
      sealWorkOf s (.queue q m) = some (n, w) ∧ w.attempt = 1 ∧ (specOf j).mode ≤ 1 ∧ src ≠ [] ∧
      j.data = (if (specOf j).aad.len = 0 then [] else [a]) ++ (if (specOf j).mode = 1 then [src, src] else [src]) ∧
      ((specOf j).aad.len = 0 → a = []) ∧ t1 = tagOf 1 w.dk (ivOf (specOf j)) (contextBlock (specOf j) ++ a) [] src ∧
      ct = cipher (specOf j).mode w.dk (ivOf (specOf j)) (if (specOf j).mode = 1 then t1 else []) src ∧
      tag = (if (specOf j).mode = 1 then t1 else tagOf 0 w.dk (ivOf (specOf j)) (contextBlock (specOf j) ++ a) ct src) ∧
      canDma s (dmaBind s j (specOf j).dst.port) = true ∧ canDma s (dmaBind s j j.result.port) = true) ∧
    (∃ (s : State) (q m n : Nat) (j : Job) (w : SealWork) (ct a : Bytes), s.job? (.queue q m) = some j ∧ j.phase = .engine ∧
      j.revokedBy = none ∧ j.code = C.RECALL ∧ sealWorkOf s (.queue q m) = some (n, w) ∧
      j.data = (if (specOf j).aad.len = 0 then [] else [a]) ++ [ct] ∧ ct ≠ [] ∧
      canDma s (dmaBind s j (specOf j).dst.port) = true) ∧
    (∃ (s : State) (q m n : Nat) (j : Job) (w : SealWork), s.job? (.queue q m) = some j ∧ j.phase = .engine ∧
      j.revokedBy = none ∧ j.discard = false ∧ j.code = C.DIGEST_ONLY ∧ sealWorkOf s (.queue q m) = some (n, w) ∧
      canDma s (dmaBind s j j.result.port) = true) :=
  ⟨⟨{ with1 ({ qcmd C.SEAL 50 [(0, ref 64), (16, ref 64), (48, leBytes 5 0xFFFFFFFFFF)] with
                      phase := .engine
                      data := [[1, 2, 3]] }) with
        sealEngines := [(143, { work := some ({ origin := .queue 9 1, nonce := zeros 12, dk := zeros 32 }) })] },
    9,
    1,
    143,
    { qcmd C.SEAL 50 [(0, ref 64), (16, ref 64), (48, leBytes 5 0xFFFFFFFFFF)] with phase := .engine, data := [[1, 2, 3]] },
    { origin := .queue 9 1, nonce := zeros 12, dk := zeros 32 },
    [1, 2, 3],
    [],
    _,
    _,
    _,
    by and_intros <;> first | decide +kernel | rfl, by and_intros <;> first | decide +kernel | rfl,
       by and_intros <;> first | decide +kernel | rfl, by and_intros <;> first | decide +kernel | rfl,
       by and_intros <;> first | decide +kernel | rfl, by and_intros <;> first | decide +kernel | rfl,
       by and_intros <;> first | decide +kernel | rfl, by and_intros <;> first | decide +kernel | rfl,
       by and_intros <;> first | decide +kernel | rfl, by and_intros <;> first | decide +kernel | rfl,
       by and_intros <;> first | decide +kernel | rfl, by and_intros <;> first | decide +kernel | rfl, rfl, rfl, rfl,
       by and_intros <;> first | decide +kernel | rfl⟩,
   ⟨{ with1 ({ qcmd C.RECALL 50 [(0, ref 64), (16, ref 64), (48, leBytes 5 0xFFFFFFFFFF)] with
                      phase := .engine
                      data := [[1, 2, 3]] }) with
        sealEngines := [(143, { work := some ({ origin := .queue 9 1, nonce := zeros 12, dk := zeros 32 }) })] },
    9,
    1,
    143,
    { qcmd C.RECALL 50 [(0, ref 64), (16, ref 64), (48, leBytes 5 0xFFFFFFFFFF)] with
        phase := .engine
        data := [[1, 2, 3]] },
    { origin := .queue 9 1, nonce := zeros 12, dk := zeros 32 },
    [1, 2, 3],
    [],
    by decide +kernel⟩,
   ⟨{ with1 ({ qcmd C.DIGEST_ONLY 50 [(0, ref 64), (16, ref 64), (48, leBytes 5 0xFFFFFFFFFF)] with
                      phase := .engine
                      data := [[1, 2, 3]] }) with
        sealEngines := [(143, { work := some ({ origin := .queue 9 1, nonce := zeros 12, dk := zeros 32 }) })] },
    9,
    1,
    143,
    { qcmd C.DIGEST_ONLY 50 [(0, ref 64), (16, ref 64), (48, leBytes 5 0xFFFFFFFFFF)] with
        phase := .engine
        data := [[1, 2, 3]] },
    { origin := .queue 9 1, nonce := zeros 12, dk := zeros 32 },
    by decide +kernel⟩⟩

/-- States and operands that meet the premises of SealEnginesMove, clause by clause. -/
theorem witness_SealEnginesMove :
    (∃ (s : State) (n : Nat) (w : SealWork) (j : Job), n < 144 ∧ (s.seng n).work = some w ∧ (s.seng n).reserved = true ∧
      w.cls ≠ 0 ∧ (s.seng n).parked = none ∧ laneWaits s (n / 12) = true ∧ s.job? w.origin = some j ∧
      w.slice < sliceBoundaries j) ∧
    (∃ (s : State) (n : Nat) (w : SealWork), n < 144 ∧ (s.seng n).work = none ∧ (s.seng n).parked = some w ∧
      laneWaits s (n / 12) = false) ∧
    (∃ (s : State) (n m cause : Nat) (w : SealWork) (j : Job) (i : Instr), (i = .engineAttemptFail n cause ∧ 1 ≤ cause ∧
      cause ≤ 6 ∧ cause ≠ 5 ∨ i = .sealEngineWatchdog n ∧ cause = 5) ∧ n < 144 ∧ (s.seng n).state = .inService ∧
      (s.seng n).work = some w ∧ (s.seng n).parked = none ∧ s.job? w.origin = some j ∧ j.revokedBy = none ∧
      attemptOf j < 3 ∧ j.cls ≠ 0 ∧ m < 144 ∧ m ≠ n ∧ (s.seng m).state = .inService ∧ (∀ k ∈ s.jobs,
      k.code ≠ C.ENGINE_QUARANTINE)) ∧
    (∃ (s : State) (n : Nat), n < 144 ∧ (s.seng n).state = .draining ∧ (s.seng n).work = none ∧ (s.seng n).parked = none ∧
      (∀ k ∈ s.jobs, k.code ≠ C.ENGINE_QUARANTINE)) ∧
    (∃ (s : State) (n : Nat) (b : BindId) (j : Job), n < 144 ∧ (s.seng n).state = .testing ∧
      engineWaiter s C.ENGINE_READMIT n .engineTest = some j ∧ j.origin = .mailbox b ∧ j.wroteOther = false ∧
      j.discard = false) ∧
    (∃ (s : State) (n failed : Nat), n < 144 ∧ (s.seng n).state = .testing ∧ failed ≠ 0 ∧ failed < 128 ∧ (∀ k ∈ s.jobs,
      k.code ≠ C.ENGINE_READMIT)) ∧
    (∃ (s : State) (b : BindId) (j : Job), Runs s (.mailbox b) C.ENGINE_READMIT 0 j ∧ u8 j.ops 0 < 144 ∧
      zeroAt j.ops 1 7 = true ∧ (s.seng (u8 j.ops 0)).state = .quarantined) ∧
    (∃ (s : State) (b : BindId) (j : Job), Runs s (.mailbox b) C.ENGINE_QUARANTINE 0 j ∧ u8 j.ops 0 < 144 ∧
      zeroAt j.ops 1 7 = true ∧ (s.seng (u8 j.ops 0)).state = .inService) :=
  ⟨⟨{ svc with
        jobs := [(qcmd C.SEAL 50 [(0, ref 8192)]),
                 { qcmd C.RECALL 50 [] with origin := .queue 8 1, cls := 0, lane := some 11 }]
        sealEngines := [(143, { reserved := true
                                work := some ({ origin := .queue 9 1, nonce := zeros 12, dk := zeros 32 }) })] },
    143,
    { origin := .queue 9 1, nonce := zeros 12, dk := zeros 32 },
    qcmd C.SEAL 50 [(0, ref 8192)],
    by decide +kernel⟩,
   ⟨{ svc with
        sealEngines := [(0, { reserved := true
                              parked := some ({ origin := .queue 9 1, nonce := zeros 12, dk := zeros 32 }) })] },
    0,
    { origin := .queue 9 1, nonce := zeros 12, dk := zeros 32 },
    by decide +kernel⟩,
   ⟨{ with1 ({ qcmd C.SEAL 50 [] with phase := .engine }) with
        sealEngines := [(0, { work := some ({ origin := .queue 9 1, nonce := zeros 12, dk := zeros 32 }) })] },
    0,
    143,
    5,
    { origin := .queue 9 1, nonce := zeros 12, dk := zeros 32 },
    { qcmd C.SEAL 50 [] with phase := .engine },
    .sealEngineWatchdog 0,
    by decide +kernel⟩,
   ⟨svc.setSeng 143 { state := .draining }, 143, by decide +kernel⟩,
   ⟨(with1 ({ cmd C.ENGINE_READMIT 0 [(0, [143])] with phase := .engineTest, args := [143] })).setSeng 143 { state := .testing },
    143,
    own,
    { cmd C.ENGINE_READMIT 0 [(0, [143])] with phase := .engineTest, args := [143] },
    by decide +kernel⟩,
   ⟨svc.setSeng 0 { state := .testing }, 0, 127, by decide +kernel⟩,
   ⟨(with1 (cmd C.ENGINE_READMIT 0 [(0, [143])])).setSeng 143 { state := .quarantined },
    own,
    cmd C.ENGINE_READMIT 0 [(0, [143])],
    by unfold Runs; decide +kernel⟩,
   ⟨with1 (cmd C.ENGINE_QUARANTINE 0 [(0, [143])]), own, cmd C.ENGINE_QUARANTINE 0 [(0, [143])],
    by unfold Runs; decide +kernel⟩⟩

/-- States and operands that meet the premises of ManifestsOpenAndClose, clause by clause. -/
theorem witness_ManifestsOpenAndClose :
    (∃ (s : State) (b : BindId) (j : Job) (h id : Nat), Runs s (.mailbox b) C.MANIFEST_OPEN 0 j ∧ Plain j ∧ Undisputed s j ∧
      manOpenCheck j = none ∧ manOpenSlots s j = none ∧ (s.drbgs.get {} (drbgOf j)).inst = true ∧
      (s.drbgs.get {} (drbgOf j)).requests < 2 ^ 19 ∧ h = nextHandle s 4097 s.nextManifest ∧
      id = u64 ((List.range 8).map (Config.drbgOut (s.drbgs.get {} (drbgOf j)).kv 8)) 0) ∧
    (∃ (s : State) (b : BindId) (j : Job), Runs s (.mailbox b) C.MANIFEST_CLOSE 0 j ∧ Plain j ∧ manCloseCheck s j = none ∧
      colourAllows s (manifestAccess j (u16 j.ops 0)) = true ∧
      rangeFault s.mem (manifestLines (u16 j.ops 0 - 1)).1 (manifestLines (u16 j.ops 0 - 1)).2 = none ∧
      bitOf (u8 j.ops 2) 0 = true ∧ manBusy s (u16 j.ops 0) = false) ∧
    (∃ (s : State) (o : Origin) (j : Job), Runs s o C.MANIFEST_CLOSE 0 j ∧ manCloseCheck s j = none ∧
      colourAllows s (manifestAccess j (u16 j.ops 0)) = true ∧
      rangeFault s.mem (manifestLines (u16 j.ops 0 - 1)).1 (manifestLines (u16 j.ops 0 - 1)).2 = none ∧
      bitOf (u8 j.ops 2) 0 = false ∧ manBusy s (u16 j.ops 0) = false) ∧
    (∃ (s : State) (h : Nat) (o : Origin) (j : Job), (s.man h).closer = some o ∧ s.job? o = some j ∧
      (s.man h).state = .closing ∧ j.phase = .quiesce ∧ j.code = C.MANIFEST_CLOSE ∧ u16 j.ops 0 = h ∧ manBusy s h = false ∧
      bitOf (u8 j.ops 2) 0 = false) :=
  ⟨⟨{ with1 (cmd C.MANIFEST_OPEN 0 [(0, leBytes 2 64), (2, leBytes 2 0xFFFF), (4, leBytes 2 1024)]) with
        slots := [(64, { active := some { colour := 0xF001
                                          cls := 6
                                          size := 0
                                          dest := 2
                                          usage := 4
                                          version := 1
                                          material := zeros 48 } })] },
    own,
    cmd C.MANIFEST_OPEN 0 [(0, leBytes 2 64), (2, leBytes 2 0xFFFF), (4, leBytes 2 1024)],
    _,
    _,
    by unfold Runs; and_intros <;> first | decide +kernel | rfl,
       by unfold Plain; and_intros <;> first | decide +kernel | rfl,
       by unfold Undisputed; and_intros <;> first | decide +kernel | rfl, by and_intros <;> first | decide +kernel | rfl,
       by and_intros <;> first | decide +kernel | rfl, by and_intros <;> first | decide +kernel | rfl,
       by and_intros <;> first | decide +kernel | rfl, rfl, rfl⟩,
   ⟨{ with1 (cmd C.MANIFEST_CLOSE 0 [(0, leBytes 2 7), (2, [1]), (16, ref 0)]) with
        slots := [(64, { active := some { colour := 0xF001
                                          cls := 6
                                          size := 0
                                          dest := 2
                                          usage := 4
                                          version := 1
                                          material := zeros 48 } })]
        manifests := [(7, { state := .opened
                            tenant := 0xF001
                            id := 3
                            p384Slot := 64
                            capacity := 4
                            highPos := 1
                            entries := [(0, zeros 48)]
                            closer := none })]
        arith := [(0, { state := .draining })] },
    own,
    cmd C.MANIFEST_CLOSE 0 [(0, leBytes 2 7), (2, [1]), (16, ref 0)],
    by unfold Runs Plain; decide +kernel⟩,
   ⟨{ with1 (cmd C.MANIFEST_CLOSE 0 [(0, leBytes 2 7), (16, ref 100000)]) with
        slots := [(64, { active := some { colour := 0xF001
                                          cls := 6
                                          size := 0
                                          dest := 2
                                          usage := 4
                                          version := 1
                                          material := zeros 48 } })]
        manifests := [(7, { state := .opened
                            tenant := 0xF001
                            id := 3
                            p384Slot := 64
                            capacity := 4
                            highPos := 1
                            entries := [(0, zeros 48)]
                            closer := none })]
        arith := ((List.range 24).map fun n => (n, { work := some { origin := .internal 3 } })) },
    .mailbox own,
    cmd C.MANIFEST_CLOSE 0 [(0, leBytes 2 7), (16, ref 100000)],
    by unfold Runs; decide +kernel⟩,
   ⟨{ with1 ({ cmd C.MANIFEST_CLOSE 0 [(0, leBytes 2 7), (16, ref 100000)] with phase := .quiesce }) with
        slots := [(64, { active := some { colour := 0xF001
                                          cls := 6
                                          size := 0
                                          dest := 2
                                          usage := 4
                                          version := 1
                                          material := zeros 48 } })]
        manifests := [(7, { state := .closing
                            tenant := 0xF001
                            id := 3
                            p384Slot := 64
                            capacity := 4
                            highPos := 1
                            entries := [(0, zeros 48)]
                            closer := some (.mailbox own) })]
        arith := ((List.range 24).map fun n => (n, { work := some { origin := .internal 3 } })) },
    7,
    .mailbox own,
    { cmd C.MANIFEST_CLOSE 0 [(0, leBytes 2 7), (16, ref 100000)] with phase := .quiesce },
    by decide +kernel⟩⟩

/-- States and operands that meet the premises of DigestsAndMeasurements, clause by clause. -/
theorem witness_DigestsAndMeasurements :
    (∃ (s : State) (b : BindId) (j : Job) (k : Nat), Runs s (.mailbox b) C.DIGEST_MAC 0 j ∧ guardCtx s = some k ∧
      wardWaits s = false ∧ u16 j.ops 18 = 0xFFFF ∧ digestMacCheck s j = none ∧ (hostRef j.ops 0).len ≠ 0 ∧
      canDma s (dmaBind s j (hostRef j.ops 0).port) = true ∧
      tagFree s (dmaBind s j (hostRef j.ops 0).port).port j.cls = true) ∧
    (∃ (s : State) (b : BindId) (j : Job) (k : Nat) (h h' : SlotHalf), Runs s (.mailbox b) C.DIGEST_MAC 0 j ∧
      Undisputed s j ∧ guardCtx s = some k ∧ wardWaits s = false ∧ u16 j.ops 18 ≠ 0xFFFF ∧ digestMacCheck s j = none ∧
      (s.slot (u16 j.ops 18)).active = some h ∧ openHalf s h = some h' ∧ (hostRef j.ops 0).len ≠ 0 ∧
      canDma s (dmaBind s j (hostRef j.ops 0).port) = true ∧
      tagFree s (dmaBind s j (hostRef j.ops 0).port).port j.cls = true) ∧
    (∃ (s : State) (b : BindId) (j : Job) (k : Nat) (c : DigestCtx), s.job? (.mailbox b) = some j ∧ j.code = C.DIGEST_MAC ∧
      j.phase = .engine ∧ Plain j ∧ ctxOf s (.mailbox b) = some (k, c) ∧ c.yielded = false) ∧
    (∃ (s : State) (o : Origin) (k m : Nat) (c : DigestCtx), ctxOf s o = some (k, c) ∧ k < 32 ∧ guardCtx s = none ∧
      wardWaits s = true ∧ c.ward = none ∧ 65536 < c.declLen ∧ freeCtx s 64 64 = some m) ∧
    (∃ (s : State) (b : BindId) (j : Job), Runs s (.mailbox b) C.MEAS_READ 0 j ∧ Plain j ∧ u8 j.ops 0 < 32 ∧
      zeroAt j.ops 1 7 = true) ∧
    (∃ (s : State) (b : BindId) (j : Job), Runs s (.mailbox b) C.MEAS_LOG_READ 0 j ∧ Plain j ∧ zeroAt j.ops 6 10 = true ∧
      1 ≤ u16 j.ops 4 ∧ u16 j.ops 4 ≤ 1024 ∧ refCheck s j (hostRef j.ops 16) (128 * u16 j.ops 4) maxLen = none ∧
      u32 j.ops 0 < s.measLog.length ∧ canDma s (dmaBind s j (hostRef j.ops 16).port) = true) ∧
    (∃ (s : State) (b : BindId) (j : Job) (k : Nat), Runs s (.mailbox b) C.MEAS_EXTEND 0 j ∧ quartzCtx s = some k ∧
      zeroAt j.ops 1 3 = true ∧ zeroAt j.ops 8 8 = true ∧ refCheck s j (hostRef j.ops 16) 0 16777216 = none ∧
      28 ≤ u8 j.ops 0 ∧ u8 j.ops 0 ≤ 31 ∧ (hostRef j.ops 16).len ≠ 0 ∧
      canDma s (dmaBind s j (hostRef j.ops 16).port) = true ∧
      tagFree s (dmaBind s j (hostRef j.ops 16).port).port j.cls = true) ∧
    (∃ (s : State) (b : BindId) (j : Job) (k : Nat) (c : DigestCtx), s.job? (.mailbox b) = some j ∧ j.code = C.MEAS_EXTEND ∧
      j.phase = .engine ∧ Plain j ∧ ctxOf s (.mailbox b) = some (k, c) ∧ c.yielded = false ∧ s.measLog.length < 1024) :=
  ⟨⟨{ with1 (cmd C.DIGEST_MAC 0 [(0, ref 64), (16, [1]), (18, leBytes 2 0xFFFF)]) with
        digests := [(0, { origin := .internal 1 })] },
    own,
    cmd C.DIGEST_MAC 0 [(0, ref 64), (16, [1]), (18, leBytes 2 0xFFFF)],
    1,
    by unfold Runs; decide +kernel⟩,
   ⟨{ with1 (cmd C.DIGEST_MAC 0 [(0, ref 64), (16, [0x11]), (18, leBytes 2 64)]) with
        slots := [(64, { active := some ({ material := zeros 32
                                           colour := 0xF001
                                           cls := 2
                                           size := 0
                                           dest := 32
                                           usage := 128
                                           version := 1 }) })] },
    own,
    cmd C.DIGEST_MAC 0 [(0, ref 64), (16, [0x11]), (18, leBytes 2 64)],
    0,
    { material := zeros 32, colour := 0xF001, cls := 2, size := 0, dest := 32, usage := 128, version := 1 },
    ({ material := zeros 32, colour := 0xF001, cls := 2, size := 0, dest := 32, usage := 128, version := 1 }),
    by unfold Runs Undisputed; decide +kernel⟩,
   ⟨{ with1 ({ cmd C.DIGEST_MAC 0 [(0, ref 70000), (18, leBytes 2 0xFFFF)] with phase := .engine, data := [[1]] }) with
        digests := [(31, ({ origin := .mailbox own, declLen := 70000 }))] },
    own,
    { cmd C.DIGEST_MAC 0 [(0, ref 70000), (18, leBytes 2 0xFFFF)] with phase := .engine, data := [[1]] },
    31,
    { origin := .mailbox own, declLen := 70000 },
    by unfold Plain; decide +kernel⟩,
   ⟨{ svc with
        wards := [(0, { state := .verifying, settling := false })]
        digests := ((List.range 32).map fun n => (n, if n = 31 then ({ origin := .mailbox own, declLen := 70000 }) else { origin := .internal n })) },
    .mailbox own,
    31,
    64,
    { origin := .mailbox own, declLen := 70000 },
    by decide +kernel⟩,
   ⟨{ with1 (cmd C.MEAS_READ 0 [(0, [31])]) with meas := [(31, { sha384 := [1], count := 2 })] },
    own,
    cmd C.MEAS_READ 0 [(0, [31])],
    by unfold Runs Plain; decide +kernel⟩,
   ⟨{ with1 (cmd C.MEAS_LOG_READ 0 [(4, leBytes 2 1024), (16, ref 131072)]) with
        measLog := [{ index := 1, source := 1, seq := 0, eventType := 3, d384 := [], d512 := [] }] },
    own,
    cmd C.MEAS_LOG_READ 0 [(4, leBytes 2 1024), (16, ref 131072)],
    by unfold Runs Plain; decide +kernel⟩,
   ⟨with1 (cmd C.MEAS_EXTEND 0 [(0, [31]), (16, ref 16777216)]),
    own,
    cmd C.MEAS_EXTEND 0 [(0, [31]), (16, ref 16777216)],
    32,
    by unfold Runs; decide +kernel⟩,
   ⟨{ with1 ({ cmd C.MEAS_EXTEND 0 [(0, [28]), (16, ref 64)] with phase := .engine, data := [[1, 2]] }) with
        digests := [(32, ({ origin := .mailbox own, declLen := 70000 }))] },
    own,
    { cmd C.MEAS_EXTEND 0 [(0, [28]), (16, ref 64)] with phase := .engine, data := [[1, 2]] },
    32,
    { origin := .mailbox own, declLen := 70000 },
    by unfold Plain; decide +kernel⟩⟩

/-- States and operands that meet the premises of ArithJobsRun, clause by clause. -/
theorem witness_ArithJobsRun :
    (∃ (s : State) (b : BindId) (j : Job) (n op code : Nat) (i : Instr), Runs s (.mailbox b) code 50 j ∧
      (i = .sign (.mailbox b) ∧ code = C.SIGN ∧ op = 1 ∨ i = .sigVerify (.mailbox b) ∧ code = C.SIG_VERIFY ∧
      op = 2 ∨ i = .deriveShared (.mailbox b) ∧ code = C.DERIVE_SHARED ∧ op = 4 ∨ i = .encaps (.mailbox b) ∧
      code = C.ENCAPS ∧ op = 5 ∨ i = .decaps (.mailbox b) ∧ code = C.DECAPS ∧ op = 6) ∧ freeEngine s = some n ∧
      mayPlace s j = true ∧ s.mode ≠ .hush ∧ canDma s (dmaBind s j (hostRef j.ops 16).port) = true ∧
      tagFree s (dmaBind s j (hostRef j.ops 16).port).port j.cls = true ∧ (s.drbgs.get {} (drbgOf j)).inst = true ∧
      (s.drbgs.get {} (drbgOf j)).requests < 2 ^ 19 ∧ (s.drbgs.get {} 4098).inst = true ∧
      (s.drbgs.get {} 4098).requests < 2 ^ 19) ∧
    (∃ (s : State) (b : BindId) (j : Job) (n st : Nat) (r : ArithReq) (res : Bytes), s.job? (.mailbox b) = some j ∧
      engineOf s (.mailbox b) = some n ∧ j.phase = .arith ∧ j.revokedBy = none ∧ Plain j ∧ j.arith = some r ∧
      r.sign = none ∧ (j.code = C.SIG_VERIFY ∧ st = (if verifyDecision j then (arithOk s j).1 else S.E_SIG_INVALID) ∧
      res = [] ∨ j.code = C.DECAPS ∧ u8 j.ops 2 = 0 ∧ st = (arithOk s j).1 ∧ res = decapsKey j ∨ j.code = C.DERIVE_SHARED ∧
      u8 j.ops 2 = 0 ∧ sharedOk j = true ∧ st = (arithOk s j).1 ∧ res = sharedSecret j)) ∧
    (∃ (s : State) (b : BindId) (j : Job) (n : Nat) (q : SignReq), s.job? (.mailbox b) = some j ∧
      engineOf s (.mailbox b) = some n ∧ j.phase = .arith ∧ j.revokedBy = none ∧ j.code = C.SIGN ∧ signInputs j = some q ∧
      signIts j ≤ 128 ∧ canDma s (dmaBind s j (hostRef j.ops 32).port) = true) ∧
    (∃ (s : State) (b : BindId) (j : Job) (n : Nat) (errs : List MemError), s.job? (.mailbox b) = some j ∧
      engineOf s (.mailbox b) = some n ∧ j.phase = .arith ∧ j.revokedBy = none ∧ Plain j ∧ j.code ≠ C.KEY_PROVE ∧
      boundReached j = false ∧ (j.code = C.DERIVE_SHARED → sharedOk j = true) ∧
      invariantPasses j errs (readResult (arithLane j) errs (arithOutput j)) = false) ∧
    (∃ (s : State) (n : Nat), n < 24 ∧ 1048576 ≤ (s.aeng n).goodJobs) :=
  ⟨⟨{ with1 (cmd C.SIGN 50 [(0, leBytes 2 64), (2, [7]), (16, ref 64)]) with
        slots := [(64, { active := some { colour := 0xF001
                                          cls := 6
                                          size := 0
                                          dest := 2
                                          usage := 4
                                          version := 1
                                          material := zeros 48 } })]
        arith := [(0, { state := .quarantined })] },
    own,
    cmd C.SIGN 50 [(0, leBytes 2 64), (2, [7]), (16, ref 64)],
    1,
    1,
    C.SIGN,
    .sign (.mailbox own),
    by unfold Runs; decide +kernel⟩,
   ⟨{ with1 ({ cmd C.DECAPS 0 [] with
                      phase := .arith
                      keep := [zeros 32, [1]]
                      data := [[1]]
                      arith := some ({ op := 6 }) }) with
        arith := [(23, { work := some { origin := .mailbox own }, mem := [(1, 2)], keys := [1] })] },
    own,
    { cmd C.DECAPS 0 [] with phase := .arith, keep := [zeros 32, [1]], data := [[1]], arith := some ({ op := 6 }) },
    23,
    S.OK,
    { op := 6 },
    decapsKey ({ cmd C.DECAPS 0 [] with
                   phase := .arith
                   keep := [zeros 32, [1]]
                   data := [[1]]
                   arith := some ({ op := 6 }) }),
    by unfold Plain; and_intros <;> first | decide +kernel | exact Or.inr (Or.inl ⟨rfl, by decide, rfl, rfl⟩)⟩,
   ⟨{ with1 ({ cmd C.SIGN 0 [(2, [1]), (32, ref 96)] with
                      phase := .arith
                      keep := [zeros 56]
                      data := [[1]]
                      arith := some { op := 1, sign := some { scheme := 1, priv := zeros 48, pub := [1], msg := [] } } }) with
        arith := [(23, { work := some { origin := .mailbox own }, mem := [(1, 2)], keys := [1] })] },
    own,
    { cmd C.SIGN 0 [(2, [1]), (32, ref 96)] with
        phase := .arith
        keep := [zeros 56]
        data := [[1]]
        arith := some { op := 1, sign := some { scheme := 1, priv := zeros 48, pub := [1], msg := [] } } },
    23,
    { scheme := 1, priv := zeros 48, pub := [1], msg := [1] },
    by and_intros <;> first | decide +kernel | rfl⟩,
   ⟨{ with1 ({ cmd C.SIG_VERIFY 50 [(0, leBytes 2 64), (2, [1])] with
                      phase := .arith
                      keep := [[], [1]]
                      data := [[1]]
                      arith := some { op := 2 } }) with
        arith := [(23, { work := some { origin := .mailbox own }, mem := [(1, 2)], keys := [1] })] },
    own,
    { cmd C.SIG_VERIFY 50 [(0, leBytes 2 64), (2, [1])] with
        phase := .arith
        keep := [[], [1]]
        data := [[1]]
        arith := some { op := 2 } },
    23,
    [(0, 1)],
    by unfold Plain; and_intros <;> first | decide +kernel | (
      have : ∀ d, invariantHolds { cmd C.SIG_VERIFY 50 [] with arith := some { op := 2 } } (decisionWords d)
          (readResult false [(0, 1)] (decisionWords d)) = false := by decide +kernel
      exact this (verifyDecision _))⟩,
   ⟨svc.setAeng 23 { goodJobs := 1048576, invStrikes := 1 }, 23, by decide +kernel⟩⟩

/-- States and operands that meet the premises of ArithEnginesMove, clause by clause. -/
theorem witness_ArithEnginesMove :
    (∃ (s : State) (n m cause : Nat) (w : ArithWork) (j : Job) (r : ArithReq) (i : Instr), (i = .arithEngineFault n cause ∧
      (cause = 0x04 ∨ cause = 0x06 ∨ cause = 0x08 ∨ cause = 0x09) ∨ i = .arithWatchdog n ∧ cause = 0x05) ∧ n < 24 ∧
      ((s.aeng n).state = .inService ∨ (s.aeng n).state = .draining) ∧ (s.aeng n).work = some w ∧ s.job? w.origin = some j ∧
      j.revokedBy = none ∧ j.arith = some r ∧ r.attempt < 3 ∧ m < 24 ∧ m ≠ n ∧ (s.aeng m).state = .inService ∧
      (∀ k ∈ s.jobs, k.code ≠ C.ARI_QUARANTINE)) ∧
    (∃ (s : State) (n : Nat), n < 24 ∧ (s.aeng n).state = .testing ∧ (∀ k ∈ s.jobs, k.code ≠ C.ARI_READMIT)) ∧
    (∃ (s : State) (b : BindId) (j : Job), Runs s (.mailbox b) C.ARI_READMIT 0 j ∧ u8 j.ops 0 < 24 ∧
      zeroAt j.ops 1 7 = true ∧ (s.aeng (u8 j.ops 0)).state = .quarantined) ∧
    (∃ (s : State) (b : BindId) (j : Job), Runs s (.mailbox b) C.ARI_READMIT 0 j ∧ Plain j ∧ u8 j.ops 0 < 24 ∧
      zeroAt j.ops 1 7 = true ∧ (s.aeng (u8 j.ops 0)).state ≠ .quarantined) ∧
    (∃ (s : State) (n : Nat), n < 24 ∧ (s.aeng n).state = .draining ∧ (s.aeng n).work = none ∧ (∀ k ∈ s.jobs,
      k.code ≠ C.ARI_QUARANTINE)) ∧
    (∃ (s : State) (b : BindId) (j : Job), Runs s (.mailbox b) C.ARI_QUARANTINE 0 j ∧ u8 j.ops 0 < 24 ∧
      zeroAt j.ops 1 7 = true ∧ (s.aeng (u8 j.ops 0)).state = .inService) :=
  ⟨⟨{ with1 ({ cmd C.SIGN 50 [] with phase := .arith, arith := some ({ op := 1, attempt := 2 }) }) with
        arith := [(0, { work := some ({ origin := .mailbox own }) })] },
    0,
    23,
    4,
    { origin := .mailbox own },
    { cmd C.SIGN 50 [] with phase := .arith, arith := some ({ op := 1, attempt := 2 }) },
    { op := 1, attempt := 2 },
    .arithEngineFault 0 4,
    by decide +kernel⟩,
   ⟨svc.setAeng 23 { state := .testing, invStrikes := 1, readmitFails := 1 }, 23, by decide +kernel⟩,
   ⟨(with1 (cmd C.ARI_READMIT 0 [(0, [23])])).setAeng 23 { state := .quarantined, mem := [(0, 1)] },
    own,
    cmd C.ARI_READMIT 0 [(0, [23])],
    by unfold Runs; decide +kernel⟩,
   ⟨with1 (cmd C.ARI_READMIT 0 [(0, [23])]), own, cmd C.ARI_READMIT 0 [(0, [23])], by unfold Runs Plain; decide +kernel⟩,
   ⟨svc.setAeng 0 { state := .draining }, 0, by decide +kernel⟩,
   ⟨with1 (cmd C.ARI_QUARANTINE 0 [(0, [23])]), own, cmd C.ARI_QUARANTINE 0 [(0, [23])], by unfold Runs; decide +kernel⟩⟩

/-- States and operands that meet the premises of JournalWritesFollowTokens, clause by clause. -/
theorem witness_JournalWritesFollowTokens :
    (∃ (s : State), s.agate.writes = []) ∧
    (∃ (s : State) (a : Anchor) (l : List Anchor) (n : Nat), s.keyed = true ∧ s.agate.writes = [] ∧ s.agate.tokens ≠ 0 ∧
      oldestSector s = some n ∧ liveEntries s n = a :: l ∧ (anchorOf s a.uid).map (fun x => (x.batch,
      x.root)) = some (a.batch, a.root)) ∧
    (∃ (s : State) (w : AnchorWrite) (n : Nat), s.agate.writes = [w] ∧ w.pos = some n ∧ w.marking = false ∧
      refreshing s (8192 + n / 64) = false) ∧
    (∃ (s : State) (w : AnchorWrite) (n : Nat), s.agate.writes = [w] ∧ w.pos = some n ∧ w.attempt = 0 ∧ s.agate.tokens = 0 ∧
      refreshing s (8192 + n / 64) = false) ∧
    (∃ (s : State) (t : Nat) (w : AnchorWrite), s.agate.writes = [w] ∧ w.attempt = 2 ∧ w.tree / 16 = t ∧
      s.nor.remapFull = false ∧ s.agate.tokens = 0) :=
  ⟨⟨svc, by decide +kernel⟩,
   ⟨{ svc with
        agate := { journal := [(192, ({ uid := 5, batch := 3, jseq := 9, mark := 0xA5, flags := 1 }))]
                   anchors := [(5, ({ uid := 5, batch := 3, jseq := 9, mark := 0xA5, flags := 1 }))]
                   head := 127 } },
    { uid := 5, batch := 3, jseq := 9, mark := 0xA5, flags := 1 },
    [],
    3,
    by decide +kernel⟩,
   ⟨{ svc with
        agate := { writes := [({ purpose := .commit
                                 anchor := { uid := 5, batch := 3, jseq := 9, mark := 0xA5, flags := 1 }
                                 pos := some 7 })] } },
    { purpose := .commit, anchor := { uid := 5, batch := 3, jseq := 9, mark := 0xA5, flags := 1 }, pos := some 7 },
    7,
    by decide +kernel⟩,
   ⟨{ svc with
        agate := { writes := [({ purpose := .commit
                                 anchor := { uid := 5, batch := 3, jseq := 9, mark := 0xA5, flags := 1 }
                                 pos := some 7
                                 marking := true
                                 token := true })]
                   tokens := 0 } },
    { purpose := .commit
      anchor := { uid := 5, batch := 3, jseq := 9, mark := 0xA5, flags := 1 }
      pos := some 7
      marking := true
      token := true },
    7,
    by decide +kernel⟩,
   ⟨{ svc with
        agate := { writes := [({ purpose := .tombstone
                                 anchor := { uid := 5, batch := 3, jseq := 9, mark := 0xA5, flags := 1 }
                                 attempt := 2
                                 tree := 17 })]
                   tokens := 0 } },
    1,
    { purpose := .tombstone
      anchor := { uid := 5, batch := 3, jseq := 9, mark := 0xA5, flags := 1 }
      attempt := 2
      tree := 17 },
    by decide +kernel⟩⟩

/-- States and operands that meet the premises of AgateCommands, clause by clause. -/
theorem witness_AgateCommands :
    (∃ (s : State) (b : BindId) (j : Job) (ps : List Nat), Runs s (.mailbox b) C.AGATE_TREE_CREATE 1 j ∧ s.keyed = true ∧
      s.agate.writes = [] ∧ s.agate.tokens ≠ 0 ∧ carryNeeded s = false ∧ newPages s (firstFrontier j) = some ps) ∧
    (∃ (s : State) (b : BindId) (j : Job) (n st : Nat) (f : List Node) (ps : List Nat),
      Runs s (.mailbox b) C.AGATE_LOAD n j ∧ Plain j ∧ (n = 3 ∨ n = 2 ∧ u16 j.ops 2 = 0xFFFF) ∧ j.overtaken = none ∧
      loadAgain s j = (st, f, ps)) ∧
    (∃ (s : State) (b : BindId) (j : Job) (k : Tree) (bs : Bytes), Runs s (.mailbox b) C.AGATE_EXPORT 0 j ∧ Plain j ∧
      Undisputed s j ∧ k = s.tree (treeNum j.tenant (u8 j.ops 0)) ∧ treeCheck s j (u8 j.ops 0) = none ∧
      pagesFault s.mem k.pages = none ∧ refCheck s j (hostRef j.ops 16) (4176 * k.pages.length) maxLen = none ∧
      canDma s (dmaBind s j (hostRef j.ops 16).port) = true ∧
      bs = blobSet (((s.slot k.rootSlot).active.map (·.material)).getD []) (u8 j.ops 0) k.uid ((anchorOf s k.uid).getD {}).batch k.frontier) ∧
    (∃ (s : State) (b : BindId) (j : Job) (r : IdxRange) (k : Tree), Runs s (.mailbox b) C.SHRED_STAGE 0 j ∧ Plain j ∧
      Undisputed s j ∧ k = s.tree (treeNum j.tenant (u8 j.ops 0)) ∧ stageCheck s j = none ∧ rangeAt j.ops 8 = some r ∧
      (∀ e ∈ s.fabric.holders, e.1 ≠ k.uid) ∧ (∀ n ∈ s.fabric.notices, n.origin ≠ .mailbox b) ∧ (∀ m ∈ s.jobs,
      sealJob m = false)) ∧
    (∃ (s : State) (b : BindId) (j : Job) (k : Tree) (ps : List Nat), Runs s (.mailbox b) C.SHRED_COMMIT 0 j ∧
      Undisputed s j ∧ k = s.tree (treeNum j.tenant (u8 j.ops 0)) ∧ shredCommitCheck s j = none ∧ s.agate.writes = [] ∧
      s.agate.tokens ≠ 0 ∧ carryNeeded s = false ∧ pagesFault s.mem k.pages = none ∧
      newPages s (puncture k.frontier k.staged) = some ps ∧ ps.length * 4176 ≤ (hostRef j.ops 16).len) ∧
    (∃ (s : State) (b : BindId) (j : Job) (k : Tree) (a : Anchor), Runs s (.mailbox b) C.ANCHOR_STATUS 0 j ∧ Plain j ∧
      s.keyed = true ∧ u8 j.ops 0 < 16 ∧ zeroAt j.ops 1 7 = true ∧ j.owner = false ∧
      k = s.tree (treeNum j.tenant (u8 j.ops 0)) ∧ k.state ≠ .free ∧ a = (anchorOf s k.uid).getD {}) :=
  ⟨⟨with1 ({ cmd C.AGATE_TREE_CREATE 1 [(0, [2])] with
               origin := .mailbox vf1
               bind := vf1
               owner := false
               tenant := 1
               keep := [zeros 32, zeros 8, leBytes 8 77]
               target := some (302, 0) }),
    vf1,
    { cmd C.AGATE_TREE_CREATE 1 [(0, [2])] with
        origin := .mailbox vf1
        bind := vf1
        owner := false
        tenant := 1
        keep := [zeros 32, zeros 8, leBytes 8 77]
        target := some (302, 0) },
    (newPages (with1 ({ cmd C.AGATE_TREE_CREATE 1 [(0, [2])] with origin := .mailbox vf1, bind := vf1, owner := false, tenant := 1, keep := [zeros 32, zeros 8, leBytes 8 77], target := some (302, 0) })) (firstFrontier ({ cmd C.AGATE_TREE_CREATE 1 [(0, [2])] with
                                                                                                                                                                                                                               origin := .mailbox vf1
                                                                                                                                                                                                                               bind := vf1
                                                                                                                                                                                                                               owner := false
                                                                                                                                                                                                                               tenant := 1
                                                                                                                                                                                                                               keep := [zeros 32,
                                                                                                                                                                                                                                        zeros 8,
                                                                                                                                                                                                                                        leBytes 8 77]
                                                                                                                                                                                                                               target := some (302, 0) }))).getD [],
    by unfold Runs; decide +kernel⟩,
   ⟨{ with1 ({ cmd C.AGATE_LOAD 2 [(0, [0]), (2, leBytes 2 0xFFFF)] with
                      origin := .mailbox vf1
                      bind := vf1
                      owner := false
                      tenant := 1
                      data := [zeros 4176] }) with
        slots := [(301, { active := some { material := zeros 32
                                           colour := 1
                                           cls := 3
                                           dest := 1
                                           usage := 3
                                           version := 1 } })]
        agate := { trees := [(16, { state := .unloaded
                                    uid := 5
                                    rootSlot := 301
                                    frontier := [{ depth := 0, pfx := 0, key := zeros 32 }] })]
                   anchors := [(5, { uid := 5, batch := 3, jseq := 9, mark := 0xA5, flags := 0 })] } },
    vf1,
    { cmd C.AGATE_LOAD 2 [(0, [0]), (2, leBytes 2 0xFFFF)] with
        origin := .mailbox vf1
        bind := vf1
        owner := false
        tenant := 1
        data := [zeros 4176] },
    2,
    S.E_AGATE_BLOB,
    [],
    [],
    by unfold Runs Plain; decide +kernel⟩,
   ⟨{ with1 ({ cmd C.AGATE_EXPORT 0 [(0, [0]), (1, [1]), (16, ref 8352)] with
                      origin := .mailbox vf1
                      bind := vf1
                      owner := false
                      tenant := 1 }) with
        slots := [(301, { active := some { material := zeros 32
                                           colour := 1
                                           cls := 3
                                           dest := 1
                                           usage := 3
                                           version := 1 } })]
        agate := { trees := [(16, { state := .ready
                                    uid := 5
                                    rootSlot := 301
                                    frontier := [{ depth := 0, pfx := 0, key := zeros 32 }] })]
                   anchors := [(5, { uid := 5, batch := 3, jseq := 9, mark := 0xA5, flags := 0 })] } },
    vf1,
    { cmd C.AGATE_EXPORT 0 [(0, [0]), (1, [1]), (16, ref 8352)] with
        origin := .mailbox vf1
        bind := vf1
        owner := false
        tenant := 1 },
    _,
    _,
    by unfold Runs; and_intros <;> first | decide +kernel | rfl,
       by unfold Plain; and_intros <;> first | decide +kernel | rfl,
       by unfold Undisputed; and_intros <;> first | decide +kernel | rfl, rfl,
       by and_intros <;> first | decide +kernel | rfl, by and_intros <;> first | decide +kernel | rfl,
       by and_intros <;> first | decide +kernel | rfl, by and_intros <;> first | decide +kernel | rfl, rfl⟩,
   ⟨{ with1 ({ cmd C.SHRED_STAGE 0 [(0, [0]), (8, leBytes 5 0xFFFFFFFFFF), (16, [1])] with
                      origin := .mailbox vf1
                      bind := vf1
                      owner := false
                      tenant := 1 }) with
        slots := [(301, { active := some { material := zeros 32
                                           colour := 1
                                           cls := 3
                                           dest := 1
                                           usage := 3
                                           version := 1 } })]
        agate := { trees := [(16, { state := .ready
                                    uid := 5
                                    rootSlot := 301
                                    frontier := [{ depth := 0, pfx := 0, key := zeros 32 }] })]
                   anchors := [(5, { uid := 5, batch := 3, jseq := 9, mark := 0xA5, flags := 0 })] } },
    vf1,
    { cmd C.SHRED_STAGE 0 [(0, [0]), (8, leBytes 5 0xFFFFFFFFFF), (16, [1])] with
        origin := .mailbox vf1
        bind := vf1
        owner := false
        tenant := 1 },
    { first := 0xFFFFFFFFFF, count := 1 },
    _,
    by unfold Runs; decide +kernel, by unfold Plain; decide +kernel, by unfold Undisputed; decide +kernel, rfl,
       by decide +kernel⟩,
   ⟨{ with1 ({ cmd C.SHRED_COMMIT 0 [(0, [0]), (8, leBytes 6 3), (16, ref 1048576)] with
                      origin := .mailbox vf1
                      bind := vf1
                      owner := false
                      tenant := 1 }) with
        slots := [(301, { active := some { material := zeros 32
                                           colour := 1
                                           cls := 3
                                           dest := 1
                                           usage := 3
                                           version := 1 } })]
        agate := { trees := [(16, { state := .ready
                                    uid := 5
                                    rootSlot := 301
                                    frontier := [{ depth := 0, pfx := 0, key := zeros 32 }]
                                    staged := [{ first := 0, count := 1 }] })]
                   anchors := [(5, { uid := 5, batch := 3, jseq := 9, mark := 0xA5, flags := 0 })] } },
    vf1,
    { cmd C.SHRED_COMMIT 0 [(0, [0]), (8, leBytes 6 3), (16, ref 1048576)] with
        origin := .mailbox vf1
        bind := vf1
        owner := false
        tenant := 1 },
    _,
    (newPages ({ with1 ({ cmd C.SHRED_COMMIT 0 [(0, [0]), (8, leBytes 6 3), (16, ref 1048576)] with origin := .mailbox vf1, bind := vf1, owner := false, tenant := 1 }) with slots := [(301, { active := some { material := zeros 32, colour := 1, cls := 3, dest := 1, usage := 3, version := 1 } })], agate := { trees := [(16, { state := .ready, uid := 5, rootSlot := 301, frontier := [{ depth := 0, pfx := 0, key := zeros 32 }], staged := [{ first := 0, count := 1 }] })], anchors := [(5, { uid := 5, batch := 3, jseq := 9, mark := 0xA5, flags := 0 })] } }) (puncture (({ with1 ({ cmd C.SHRED_COMMIT 0 [(0, [0]),
                                                                                                                                                                                                                                                                                                                                                                                                                                                                                                                                                                                                                                 (8, leBytes 6 3),
                                                                                                                                                                                                                                                                                                                                                                                                                                                                                                                                                                                                                                 (16, ref 1048576)] with
                                                                                                                                                                                                                                                                                                                                                                                                                                                                                                                                                                                                        origin := .mailbox vf1
                                                                                                                                                                                                                                                                                                                                                                                                                                                                                                                                                                                                        bind := vf1
                                                                                                                                                                                                                                                                                                                                                                                                                                                                                                                                                                                                        owner := false
                                                                                                                                                                                                                                                                                                                                                                                                                                                                                                                                                                                                        tenant := 1 }) with
                                                                                                                                                                                                                                                                                                                                                                                                                                                                                                                                                                                          slots := [(301, { active := some { material := zeros 32
                                                                                                                                                                                                                                                                                                                                                                                                                                                                                                                                                                                                                             colour := 1
                                                                                                                                                                                                                                                                                                                                                                                                                                                                                                                                                                                                                             cls := 3
                                                                                                                                                                                                                                                                                                                                                                                                                                                                                                                                                                                                                             dest := 1
                                                                                                                                                                                                                                                                                                                                                                                                                                                                                                                                                                                                                             usage := 3
                                                                                                                                                                                                                                                                                                                                                                                                                                                                                                                                                                                                                             version := 1 } })]
                                                                                                                                                                                                                                                                                                                                                                                                                                                                                                                                                                                          agate := { trees := [(16, { state := .ready
                                                                                                                                                                                                                                                                                                                                                                                                                                                                                                                                                                                                                      uid := 5
                                                                                                                                                                                                                                                                                                                                                                                                                                                                                                                                                                                                                      rootSlot := 301
                                                                                                                                                                                                                                                                                                                                                                                                                                                                                                                                                                                                                      frontier := [{ depth := 0
                                                                                                                                                                                                                                                                                                                                                                                                                                                                                                                                                                                                                                     pfx := 0
                                                                                                                                                                                                                                                                                                                                                                                                                                                                                                                                                                                                                                     key := zeros 32 }]
                                                                                                                                                                                                                                                                                                                                                                                                                                                                                                                                                                                                                      staged := [{ first := 0
                                                                                                                                                                                                                                                                                                                                                                                                                                                                                                                                                                                                                                   count := 1 }] })]
                                                                                                                                                                                                                                                                                                                                                                                                                                                                                                                                                                                                     anchors := [(5, { uid := 5
                                                                                                                                                                                                                                                                                                                                                                                                                                                                                                                                                                                                                       batch := 3
                                                                                                                                                                                                                                                                                                                                                                                                                                                                                                                                                                                                                       jseq := 9
                                                                                                                                                                                                                                                                                                                                                                                                                                                                                                                                                                                                                       mark := 0xA5
                                                                                                                                                                                                                                                                                                                                                                                                                                                                                                                                                                                                                       flags := 0 })] } }).tree (treeNum ({ cmd C.SHRED_COMMIT 0 [(0, [0]), (8, leBytes 6 3), (16, ref 1048576)] with origin := .mailbox vf1, bind := vf1, owner := false, tenant := 1 }).tenant (u8 ({ cmd C.SHRED_COMMIT 0 [(0, [0]), (8, leBytes 6 3), (16, ref 1048576)] with origin := .mailbox vf1, bind := vf1, owner := false, tenant := 1 }).ops 0))).frontier (({ with1 ({ cmd C.SHRED_COMMIT 0 [(0, [0]), (8, leBytes 6 3), (16, ref 1048576)] with origin := .mailbox vf1, bind := vf1, owner := false, tenant := 1 }) with slots := [(301, { active := some { material := zeros 32, colour := 1, cls := 3, dest := 1, usage := 3, version := 1 } })], agate := { trees := [(16, { state := .ready, uid := 5, rootSlot := 301, frontier := [{ depth := 0, pfx := 0, key := zeros 32 }], staged := [{ first := 0, count := 1 }] })], anchors := [(5, { uid := 5, batch := 3, jseq := 9, mark := 0xA5, flags := 0 })] } }).tree (treeNum ({ cmd C.SHRED_COMMIT 0 [(0, [0]), (8, leBytes 6 3), (16, ref 1048576)] with origin := .mailbox vf1, bind := vf1, owner := false, tenant := 1 }).tenant (u8 ({ cmd C.SHRED_COMMIT 0 [(0, [0]), (8, leBytes 6 3), (16, ref 1048576)] with origin := .mailbox vf1, bind := vf1, owner := false, tenant := 1 }).ops 0))).staged)).getD [],
    by unfold Runs; decide +kernel, by unfold Undisputed; decide +kernel, rfl, by decide +kernel⟩,
   ⟨{ with1 ({ cmd C.ANCHOR_STATUS 0 [(0, [0])] with origin := .mailbox vf1, bind := vf1, owner := false, tenant := 1 }) with
        slots := [(301, { active := some { material := zeros 32
                                           colour := 1
                                           cls := 3
                                           dest := 1
                                           usage := 3
                                           version := 1 } })]
        agate := { trees := [(16, { state := .ready
                                    uid := 5
                                    rootSlot := 301
                                    frontier := [{ depth := 0, pfx := 0, key := zeros 32 }] })]
                   anchors := [(5, { uid := 5, batch := 3, jseq := 9, mark := 0xA5, flags := 0 })] } },
    vf1,
    { cmd C.ANCHOR_STATUS 0 [(0, [0])] with origin := .mailbox vf1, bind := vf1, owner := false, tenant := 1 },
    _,
    _,
    by unfold Runs; decide +kernel, by unfold Plain; decide +kernel, by decide +kernel, by decide +kernel,
       by decide +kernel, by decide +kernel, rfl, by decide +kernel, rfl⟩⟩

/-- States and operands that meet the premises of NorControllerOperations, clause by clause. -/
theorem witness_NorControllerOperations :
    (∃ (s : State) (a : Nat) (bs : Bytes), fwRuns s = true ∧ s.mode = .service ∧ a < 2 ^ 26 ∧ bs ≠ [] ∧
      a % 256 + bs.length ≤ 256 ∧ bankOf (a / 4096) ≠ execBank s ∧ refreshing s (a / 4096) = false ∧
      notBlank s a bs = false) ∧
    (∃ (s : State) (n : Nat), fwRuns s = true ∧ s.mode = .service ∧ n < 16384 ∧ bankOf n ≠ execBank s ∧
      refreshing s n = false) ∧
    (∃ (s : State) (n : Nat), fwRuns s = true ∧ s.mode = .service ∧ n < 16384 ∧ bankOf n = execBank s) ∧
    (∃ (s : State) (n : Nat), fwRuns s = true ∧ s.mode = .service ∧ n < 16384 ∧ refreshing s n = false) ∧
    (∃ (s : State) (a len src : Nat), fwRuns s = true ∧ s.mode = .service ∧ a < 2 ^ 26 ∧ len < 512 ∧ src + len ≤ 2 ^ 19) ∧
    (∃ (s : State), s.mode = .service ∧ s.nor.ageSecs + 1 < 86400 ∧ hottest s ≤ 340) ∧
    (∃ (s : State), s.mode = .service ∧ 43800 * 3600000 ≤ s.nor.eqAge ∧ s.nor.passActive = false) ∧
    (∃ (s : State) (n : Nat), s.mode = .service ∧ s.nor.passActive = true ∧ s.nor.ops = [] ∧
      nextRefresh s 16384 s.nor.nextSector = n ∧ n < 16384) :=
  ⟨⟨svc, 0x3FFFFFF, [0x0F], by decide +kernel⟩,
   ⟨svc, 16383, by decide +kernel⟩,
   ⟨svc, 4095, by decide +kernel⟩,
   ⟨svc, 0, by decide +kernel⟩,
   ⟨svc, 0x3FFFFF0, 511, 0x7FE01, by decide +kernel⟩,
   ⟨svc, by decide +kernel⟩,
   ⟨{ svc with nor := { eqAge := 43800 * 3600000 } }, by decide +kernel⟩,
   ⟨{ svc with nor := { passActive := true, raw := [(16777216, 1)], nextSector := 1 } }, 4096, by decide +kernel⟩⟩

/-- States and operands that meet the premises of ProgramsClearBitsErasesSetOnes, clause by clause. -/
theorem witness_ProgramsClearBitsErasesSetOnes :
    (∃ (s : State) (a : Nat) (bs : Bytes) (k : Nat), s.nor.ops = [{ bank := k, job := .fwProgram a bs }]) ∧
    (∃ (s : State) (n k : Nat), s.nor.ops = [{ bank := k, job := .fwErase n }]) :=
  ⟨⟨{ svc with nor := { raw := [(4095, 0x3C)], ops := [{ bank := 0, job := .fwProgram 4094 ([0x0F, 0xF0, 1]) }] } },
    4094,
    [0x0F, 0xF0, 1],
    0,
    by decide +kernel⟩,
   ⟨{ svc with
        nor := { raw := [(4095, 0x3C), (4096, 0), (8191, 1), (8192, 2)], ops := [{ bank := 0, job := .fwErase 1 }] } },
    1,
    0,
    by decide +kernel⟩⟩

/-- States and operands that meet the premises of EntropySources, clause by clause. -/
theorem witness_EntropySources :
    (∃ (s : State) (n : Nat) (bs : Bytes) (h : HealthTest) (i : Instr), (i = .noiseStartupTestDone n bs ∧
      s.mode ≠ .startup ∧ (s.sources.get {} n).retestDue = false ∨ i = .noiseSourceRetest n bs ∧
      (s.sources.get {} n).retestDue = true) ∧ s.mode ≠ .hush ∧ n < 8 ∧ (s.sources.get {} n).state = .offline ∧
      bs.length = 512 ∧ healthBits {} (bitsOf bs) = (h, none)) ∧
    (∃ (s : State) (n k : Nat) (bs : Bytes) (h : HealthTest) (i : Instr), s.mode ≠ .startup ∧ s.mode ≠ .hush ∧
      s.mode ≠ .dormant ∧ (i = .noiseSourceFail n bs ∧ (s.sources.get {} n).state = .healthy ∧
      healthBits (s.sources.get {} n).health (bitsOf bs) = (h, some k) ∨ i = .noiseStartupTestDone n bs ∧
      (s.sources.get {} n).state = .offline ∧ (s.sources.get {} n).retestDue = false ∧ bs.length = 512 ∧
      healthBits {} (bitsOf bs) = (h, some k)) ∧ n < 8) ∧
    (∃ (s : State) (raw : Bytes) (srcs : NMap NoiseSource), entropyState s ≠ 2 ∧ s.filling = true ∧ s.mode = .service ∧
      raw.length = 128 ∧ rngMode s = 0 ∧ (∀ e ∈ s.drbgs, e.2.wanted = false) ∧ testInput s (bitsOf raw) = (srcs, [])) ∧
    (∃ (s : State), (s.mode = .dormant ∨ s.mode = .hush) ∧ (∀ e ∈ s.drbgs, e.2.wanted = false)) ∧
    (∃ (s : State), s.lcs.state ≠ 1) ∧
    (∃ (s : State) (v : Nat), s.lcs.state = 1 ∧ v % 4 ≠ s.regField R.RNG_TEST 1 0) ∧
    (∃ (s : State) (v : Nat), s.lcs.state = 1 ∧ v % 4 = s.regField R.RNG_TEST 1 0) ∧
    (∃ (s : State), 1 < s.lcs.state) ∧
    (∃ (s : State), s.lcs.state ≤ 1 ∧ rngMode s ≠ 1) ∧
    (∃ (s : State), s.lcs.state = 1 ∧ rngMode s = 1) :=
  ⟨⟨{ svc with sources := [(7, { fails := 2, retestDue := true })] },
    7,
    List.replicate 512 0x55,
    (healthBits {} (bitsOf (List.replicate 512 0x55))).1,
    .noiseSourceRetest 7 (List.replicate 512 0x55),
    by decide +kernel⟩,
   ⟨{ svc with sources := [(0, { state := .healthy, fails := 2 })] },
    0,
    2,
    zeros 6,
    (healthBits {} (bitsOf (zeros 6))).1,
    .noiseSourceFail 0 (zeros 6),
    by decide +kernel⟩,
   ⟨{ svc with sources := [(0, { state := .healthy }), (7, { state := .healthy })] },
    (List.replicate 64 [0x00, 0xFF]).flatten,
    (testInput ({ svc with sources := [(0, { state := .healthy }), (7, { state := .healthy })] }) (bitsOf ((List.replicate 64 [0x00, 0xFF]).flatten))).1,
    by decide +kernel⟩,
   ⟨{ svc with mode := .hush }, by decide +kernel⟩,
   ⟨svc, by decide +kernel⟩,
   ⟨{ svc with lcs := { state := 1 } }, 0x71, by decide +kernel⟩,
   ⟨{ svc with lcs := { state := 1 } }, 0x70, by decide +kernel⟩,
   ⟨svc, by decide +kernel⟩,
   ⟨{ svc with lcs := { state := 1 } }, by decide +kernel⟩,
   ⟨{ svc with lcs := { state := 1 } }.setReg R.RNG_TEST 1, by decide +kernel⟩⟩

/-- States and operands that meet the premises of DrawsFollowTheInstance, clause by clause. -/
theorem witness_DrawsFollowTheInstance :
    (∃ (s : State) (b : BindId) (j : Job) (d : Drbg), Runs s (.mailbox b) C.RNG_GENERATE 0 j ∧ Plain j ∧
      rngGenerateCheck s j = none ∧ bitOf (u8 j.ops 4) 0 = false ∧ d = s.drbgs.get {} (drbgOf j) ∧ d.inst = true ∧
      d.requests < 2 ^ 19 ∧ canDma s (dmaBind s j (hostRef j.ops 16).port) = true) ∧
    (∃ (s : State) (b : BindId) (j : Job) (d : Drbg), Runs s (.mailbox b) C.RNG_GENERATE 0 j ∧ Plain j ∧ s.mode ≠ .replay ∧
      rngGenerateCheck s j = none ∧ bitOf (u8 j.ops 4) 0 = true ∧ d = s.drbgs.get {} (drbgOf j) ∧ d.inst = true ∧
      85 < s.entropy.length ∧ canDma s (dmaBind s j (hostRef j.ops 16).port) = true) ∧
    (∃ (s : State) (b : BindId) (j : Job), s.job? (.mailbox b) = some j ∧ j.phase = .rng ∧ Plain j) :=
  ⟨⟨with1 (cmd C.RNG_GENERATE 0 [(0, leBytes 4 5), (16, ref 65536)]),
    own,
    cmd C.RNG_GENERATE 0 [(0, leBytes 4 5), (16, ref 65536)],
    _,
    by unfold Runs; decide +kernel, by unfold Plain; decide +kernel, by decide +kernel, by decide +kernel, rfl,
       by decide +kernel⟩,
   ⟨{ with1 (cmd C.RNG_GENERATE 0 [(0, leBytes 4 5), (4, [1]), (16, ref 65536)]) with
        entropy := List.replicate 86 (zeros 48) },
    own,
    cmd C.RNG_GENERATE 0 [(0, leBytes 4 5), (4, [1]), (16, ref 65536)],
    _,
    by unfold Runs; decide +kernel, by unfold Plain; decide +kernel, by decide +kernel, by decide +kernel,
       by decide +kernel, rfl, by decide +kernel⟩,
   ⟨with1 ({ cmd C.RNG_GENERATE 0 [] with phase := .rng }), own, { cmd C.RNG_GENERATE 0 [] with phase := .rng },
    by unfold Plain; decide +kernel⟩⟩

/-- States and operands that meet the premises of StartupRuns, clause by clause. -/
theorem witness_StartupRuns :
    (∃ (s : State) (i : StartInput), s.mode = .startup ∧ s.boot.input = none ∧ s.lcs.copyA = .word (codeword 0) ∧
      s.lcs.copyB = .word (codeword 0) ∧ s.fuses.floor = 0 ∧ field (s.reg R.TMP_LATCH) 13 0 = 0 ∧ s.lcs.wipes = [] ∧
      s.boot.trimA.valid = true ∧ s.boot.trimB.valid = true ∧ i.trimShadowOk = true ∧ i.romOk = true ∧ s.entropy = [] ∧
      (s.drbgs.get {} 4096).inst = false ∧ i.testsOk = true ∧ i.sealFailed = [] ∧ i.arithFailed = [] ∧ i.dguFailed = 0 ∧
      i.routeFailed = 0 ∧ (∀ n, n < 144 → (s.seng n).state = .inService) ∧ (∀ n, n < 24 → (s.aeng n).state = .inService)) ∧
    (∃ (s : State), s.mode = .service) ∧
    (∃ (s : State), s.mode = .startup ∧ s.boot.input ≠ none ∧ s.boot.step = 16 ∧ s.lcs.state ≠ 4 ∧ s.tenants = []) ∧
    (∃ (s : State), s.mode = .startup ∧ s.boot.input ≠ none ∧ (s.boot.step = 8 ∨ s.boot.step = 16)) :=
  ⟨⟨State.reset, { romDigests := zeros 48 }, by decide +kernel⟩,
   ⟨svc, by decide +kernel⟩,
   ⟨{ svc with mode := .startup, tenants := [], boot := { step := 16, input := some {} } }, by decide +kernel⟩,
   ⟨{ svc with mode := .startup, boot := { step := 16, input := some {} } }, by decide +kernel⟩⟩

/-- States and operands that meet the premises of WakesAndPowerLosses, clause by clause. -/
theorem witness_WakesAndPowerLosses :
    (∃ (s : State) (i : Instr) (bit : Nat), s.mode = .dormant ∧ s.moon.onVbat = false ∧ s.moon.corePower = true ∧
      (i = .wakeInAssert ∧ bit = 1 ∨ i = .rtcAlarm ∧ bit = 2 ∧ s.reg R.PWR_RTC_ALARM ≠ 0 ∨ i = .i3cWakeCommand ∧ bit = 3) ∧
      (s.reg R.PWR_WAKE_CFG).testBit bit = true) ∧
    (∃ (s : State) (i : Instr) (bit : Nat), s.mode = .dormant ∧ (i = .wakeInAssert ∧ bit = 1 ∨ i = .rtcAlarm ∧
      bit = 2 ∨ i = .i3cWakeCommand ∧ bit = 3) ∧ (s.reg R.PWR_WAKE_CFG).testBit bit = false) ∧
    (∃ (s : State) (i : Instr), s.mode = .hush ∧ (i = .wakeInAssert ∨ i = .rtcAlarm ∧ s.reg R.PWR_RTC_ALARM ≠ 0)) ∧
    (∃ (s : State), s.lcs.vholdOk = true) ∧
    (∃ (s : State), s.lcs.vholdOk = false ∧ s.mode ≠ .startup) ∧
    (∃ (s : State), s.mode ≠ .startup) ∧
    (∃ (s : State), s.mode ≠ .startup) ∧
    (∃ (s : State), s.moon.onVbat = true) ∧
    (∃ (s : State), s.mode = .dormant) :=
  ⟨⟨{ svc with mode := .dormant }, .i3cWakeCommand, 3, by decide +kernel⟩,
   ⟨{ svc with mode := .dormant }.setReg R.PWR_WAKE_CFG 0, .wakeInAssert, 1, by decide +kernel⟩,
   ⟨{ svc with mode := .hush, mem := { selfRefresh := true } }, .wakeInAssert, by decide +kernel⟩,
   ⟨{ svc with lcs := { vholdOk := true } }, by decide +kernel⟩,
   ⟨{ svc with slots := [(2, {  active := some {} })] }, by decide +kernel⟩,
   ⟨svc, by decide +kernel⟩,
   ⟨svc, by decide +kernel⟩,
   ⟨{ svc with moon := { onVbat := true, salt := some [] } }, by decide +kernel⟩,
   ⟨{ svc with mode := .dormant }, by decide +kernel⟩⟩

/-- States and operands that meet the premises of HushEntryAndAbandon, clause by clause. -/
theorem witness_HushEntryAndAbandon :
    (∃ (s : State) (b : BindId) (j : Job), Runs s (.mailbox b) C.PWR_HUSH 0 j ∧ Plain j ∧ s.mode = .service ∧
      u16 j.ops 0 ≤ 1000 ∧ zeroAt j.ops 2 6 = true ∧ hushCondition s (some (.mailbox b)) = true) ∧
    (∃ (s : State) (b : BindId) (j : Job), Runs s (.mailbox b) C.PWR_HUSH 0 j ∧ s.mode = .service ∧ u16 j.ops 0 ≤ 1000 ∧
      zeroAt j.ops 2 6 = true ∧ hushCondition s (some (.mailbox b)) = false) ∧
    (∃ (s : State) (b : BindId) (j : Job), s.job? (.mailbox b) = some j ∧ j.code = C.PWR_HUSH ∧ j.phase = .hush ∧ Plain j ∧
      s.mode = .service ∧ hushCondition s (some (.mailbox b)) = true) ∧
    (∃ (s : State) (b : BindId) (j : Job), s.job? (.mailbox b) = some j ∧ j.code = C.PWR_HUSH ∧ j.phase = .hush ∧ Plain j) ∧
    (∃ (s : State), s.mode = .service ∧ s.regField R.PWR_CTRL 7 0 ≠ 0 ∧ hushCondition s none = true) ∧
    (∃ (s : State), s.regField R.PWR_CTRL 7 0 = 0) :=
  ⟨⟨with1 (cmd C.PWR_HUSH 0 [(0, leBytes 2 1000)]), own, cmd C.PWR_HUSH 0 [(0, leBytes 2 1000)],
    by unfold Runs Plain; decide +kernel⟩,
   ⟨{ svc with jobs := [(cmd C.PWR_HUSH 0 [(0, leBytes 2 1000)]), qcmd C.SEAL 50 []] },
    own,
    cmd C.PWR_HUSH 0 [(0, leBytes 2 1000)],
    by unfold Runs; decide +kernel⟩,
   ⟨with1 ({ cmd C.PWR_HUSH 0 [(0, leBytes 2 1000)] with phase := .hush }),
    own,
    { cmd C.PWR_HUSH 0 [(0, leBytes 2 1000)] with phase := .hush },
    by unfold Plain; decide +kernel⟩,
   ⟨with1 ({ cmd C.PWR_HUSH 0 [(0, leBytes 2 1000)] with phase := .hush }),
    own,
    { cmd C.PWR_HUSH 0 [(0, leBytes 2 1000)] with phase := .hush },
    by unfold Plain; decide +kernel⟩,
   ⟨svc.setReg R.PWR_CTRL 255, by decide +kernel⟩,
   ⟨svc.setReg R.PWR_CTRL 256, by decide +kernel⟩⟩

/-- States and operands that meet the premises of DormantEntryAndImage, clause by clause. -/
theorem witness_DormantEntryAndImage :
    (∃ (s : State) (b : BindId) (j : Job), Runs s (.mailbox b) C.PWR_DORMANT 0 j ∧ Plain j ∧
      dormantReady s (.mailbox b) = true ∧ s.keyed = false ∧ refCheck s j (hostRef j.ops 0) 0 maxLen = none ∧
      (hostRef j.ops 0).len = 0) ∧
    (∃ (s : State) (b : BindId) (j : Job), Runs s (.mailbox b) C.PWR_DORMANT 1 j ∧ Plain j ∧ s.keyed = true) ∧
    (∃ (s : State) (i : Instr) (b : BindId) (irq : Bool), s.moon.deferred = some (b, .dormant) ∧ s.moon.wakeLatched = 0 ∧
      (i = .doneTimeout ∨ i = .mbxAck b false irq ∧ bindLive s b = true ∧ (s.mbx b).state = .done)) ∧
    (∃ (s : State) (i : Instr) (b : BindId) (irq : Bool), s.moon.deferred = some (b, .restart) ∧
      (i = .doneTimeout ∨ i = .mbxAck b false irq ∧ bindLive s b = true ∧ (s.mbx b).state = .done)) ∧
    (∃ (s : State) (b : BindId) (j : Job), Runs s (.mailbox b) C.PWR_IMAGE_RESTORE 1 j ∧ Plain j ∧
      s.moon.imageValid = true ∧ sha384 (j.data.headD []) ≠ s.moon.imageDigest) ∧
    (∃ (s : State) (b : BindId) (j : Job) (es : List (Nat × Nat × Bytes)), Runs s (.mailbox b) C.PWR_IMAGE_RESTORE 1 j ∧
      Plain j ∧ s.moon.imageValid = true ∧ u32 (j.data.headD []) 12 = s.moon.dseq ∧
      sha384 (j.data.headD []) = s.moon.imageDigest ∧ imageParse s (j.data.headD []) = some es) ∧
    (∃ (s : State) (b : BindId) (j : Job), Runs s (.mailbox b) C.PWR_IMAGE_RESTORE 0 j ∧ s.moon.imageValid = true ∧
      s.keyed = true ∧ refCheck s j (hostRef j.ops 0) 64 maxLen = none ∧
      canDma s (dmaBind s j (hostRef j.ops 0).port) = true ∧
      tagFree s (dmaBind s j (hostRef j.ops 0).port).port j.cls = true) ∧
    (∃ (s : State) (b : BindId) (j : Job), Runs s (.mailbox b) C.PWR_IMAGE_DISCARD 0 j ∧ Plain j ∧ s.moon.imageValid = true) ∧
    (∃ (s : State) (b : BindId) (j : Job), Runs s (.mailbox b) C.PWR_IMAGE_DISCARD 0 j ∧ Plain j ∧
      s.moon.imageValid = false) :=
  ⟨⟨{ with1 (cmd C.PWR_DORMANT 0 []) with
        keyed := false
        tenants := [(1, { svc.ten 1 with state := .quiesced })]
        slots := [(64, { active := some {}, pending := some {} })] },
    own,
    cmd C.PWR_DORMANT 0 [],
    by unfold Runs Plain; decide +kernel⟩,
   ⟨{ with1 (cmd C.PWR_DORMANT 1 [(0, ref 64)]) with tenants := [(1, { svc.ten 1 with state := .quiesced })] },
    own,
    cmd C.PWR_DORMANT 1 [(0, ref 64)],
    by unfold Runs Plain; decide +kernel⟩,
   ⟨{ svc with moon := { svc.moon with deferred := some (own, .dormant), dormantTaken := true }, slots := [(3, {})] },
    .doneTimeout,
    own,
    false,
    by decide +kernel⟩,
   ⟨{ svc with moon := { svc.moon with deferred := some (own, .restart) } }.setMbx own { state := .done },
    .mbxAck own false false,
    own,
    false,
    by decide +kernel⟩,
   ⟨{ with1 ({ cmd C.PWR_IMAGE_RESTORE 1 [(0, ref 64)] with data := [zeros 64] }) with moon := { imageValid := true } },
    own,
    { cmd C.PWR_IMAGE_RESTORE 1 [(0, ref 64)] with data := [zeros 64] },
    by unfold Runs Plain; decide +kernel⟩,
   ⟨{ with1 ({ cmd C.PWR_IMAGE_RESTORE 1 [(0, ref 64)] with
                      data := [[1, 0x20] ++ zeros 10 ++ leBytes 4 7 ++ leBytes 8 64 ++ kcv [] ++ zeros 32] }) with
        moon := { imageValid := true
                  dseq := 7
                  imageDigest := sha384 (({ cmd C.PWR_IMAGE_RESTORE 1 [(0, ref 64)] with
                                              data := [[1, 0x20] ++ zeros 10 ++ leBytes 4 7 ++ leBytes 8 64 ++ kcv [] ++ zeros 32] }).data.headD []) } },
    own,
    { cmd C.PWR_IMAGE_RESTORE 1 [(0, ref 64)] with
        data := [[1, 0x20] ++ zeros 10 ++ leBytes 4 7 ++ leBytes 8 64 ++ kcv [] ++ zeros 32] },
    [],
    by unfold Runs Plain; and_intros <;> first | decide +kernel | rfl | (
      rw [imageParse, if_pos ⟨by decide +kernel, by decide +kernel, by decide +kernel, by decide +kernel, by decide +kernel, rfl⟩]; rfl)⟩,
   ⟨{ with1 (cmd C.PWR_IMAGE_RESTORE 0 [(0, ref 64)]) with moon := { imageValid := true } },
    own,
    cmd C.PWR_IMAGE_RESTORE 0 [(0, ref 64)],
    by unfold Runs; decide +kernel⟩,
   ⟨{ with1 (cmd C.PWR_IMAGE_DISCARD 0 []) with moon := { imageValid := true, dseq := 4 } },
    own,
    cmd C.PWR_IMAGE_DISCARD 0 [],
    by unfold Runs Plain; decide +kernel⟩,
   ⟨with1 (cmd C.PWR_IMAGE_DISCARD 0 []), own, cmd C.PWR_IMAGE_DISCARD 0 [], by unfold Runs Plain; decide +kernel⟩⟩

/-- States and operands that meet the premises of LifecycleAndDebugTokens, clause by clause. -/
theorem witness_LifecycleAndDebugTokens :
    (∃ (s : State) (b : BindId) (j : Job) (d : Drbg) (bs : Bytes), Runs s (.mailbox b) C.LCS_CHALLENGE 0 j ∧ Plain j ∧
      d = s.drbgs.get {} 4107 ∧ d.inst = true ∧ d.requests < 2 ^ 19 ∧ bs = (List.range 32).map (Config.drbgOut d.kv 32)) ∧
    (∃ (s : State) (d : Drbg) (bs : Bytes), debugLocked s = true ∧ d = s.drbgs.get {} 4107 ∧ d.inst = true ∧
      d.requests < 2 ^ 19 ∧ bs = (List.range 32).map (Config.drbgOut d.kv 32)) ∧
    (∃ (s : State), debugLocked s = false) ∧
    (∃ (s : State), debugLocked s = false) ∧
    (∃ (s : State) (t : Bytes) (c : Option Nat), debugLocked s = true ∧ u8 t 1 = 0x30 ∧ tokenHeld s t = false ∧
      tokenCheck s t = c) ∧
    (∃ (s : State) (t : Bytes), debugLocked s = true ∧ tokenFormat s t = false) ∧
    (∃ (s : State) (b : BindId) (j : Job), Runs s (.mailbox b) C.LCS_TRANSITION 0 j ∧ Plain j ∧
      u8 j.ops 0 ≠ s.lcs.state + 1) ∧
    (∃ (s : State) (b : BindId) (j : Job) (v n : Nat) (h : SlotHalf), Runs s (.mailbox b) C.LCS_TRANSITION 0 j ∧
      Undisputed s j ∧ u8 j.ops 0 = 3 ∧ s.lcs.state = 2 ∧ zeroAt j.ops 16 16 = true ∧ n < 32 ∧
      activeHalf s (32 + n) = some h ∧ dormantReady s (.mailbox b) = true ∧ 800 ≤ v) ∧
    (∃ (s : State) (b : BindId) (j : Job), Runs s (.mailbox b) C.LCS_TRANSITION 0 j ∧ Plain j ∧ u8 j.ops 0 = 3 ∧
      s.lcs.state = 2 ∧ zeroAt j.ops 16 16 = true ∧ (∀ n, n < 32 → activeHalf s (32 + n) = none)) ∧
    (∃ (s : State) (b : BindId) (j : Job), Runs s (.mailbox b) C.LCS_TRANSITION 10 j) ∧
    (∃ (s : State) (b : BindId) (j : Job), Runs s (.mailbox b) C.LCS_TRANSITION 11 j ∧ Plain j ∧ u8 j.ops 0 = 3 ∧
      s.lcs.wipes = []) :=
  ⟨⟨with1 (cmd C.LCS_CHALLENGE 0 []), own, cmd C.LCS_CHALLENGE 0 [], _, _,
    by unfold Runs; and_intros <;> first | decide +kernel | rfl,
       by unfold Plain; and_intros <;> first | decide +kernel | rfl, rfl, by and_intros <;> first | decide +kernel | rfl,
       by and_intros <;> first | decide +kernel | rfl, rfl⟩,
   ⟨svc, _, _,
    by and_intros <;> first | decide +kernel | rfl, rfl, by and_intros <;> first | decide +kernel | rfl,
       by and_intros <;> first | decide +kernel | rfl, rfl⟩,
   ⟨{ svc with lcs := { svc.lcs with unlocked := true } }, by decide +kernel⟩,
   ⟨{ svc with lcs := { svc.lcs with unlocked := true } }, by decide +kernel⟩,
   ⟨{ svc with lcs := { svc.lcs with challenge := some [] } }, [1, 0x30], some S.E_TOKEN_FORMAT, by decide +kernel⟩,
   ⟨{ svc with lcs := { svc.lcs with challenge := some [] } }, [2, 0x10], by decide +kernel⟩,
   ⟨with1 (cmd C.LCS_TRANSITION 0 [(0, [3])]), own, cmd C.LCS_TRANSITION 0 [(0, [3])],
    by unfold Runs Plain; decide +kernel⟩,
   ⟨{ with1 (cmd C.LCS_TRANSITION 0 [(0, [3])]) with
        lcs := { state := 2, copyA := .word (codeword 2), copyB := .word (codeword 2) }
        tenants := [(1, { svc.ten 1 with state := .quiesced })]
        slots := [(63, { active := some ({ cls := 6, version := 1 }) })] },
    own,
    cmd C.LCS_TRANSITION 0 [(0, [3])],
    800,
    31,
    { cls := 6, version := 1 },
    by unfold Runs Undisputed; decide +kernel⟩,
   ⟨{ with1 (cmd C.LCS_TRANSITION 0 [(0, [3])]) with
        lcs := { state := 2, copyA := .word (codeword 2), copyB := .word (codeword 2) }
        tenants := [(1, { svc.ten 1 with state := .quiesced })] },
    own,
    cmd C.LCS_TRANSITION 0 [(0, [3])],
    by unfold Runs Plain; decide +kernel⟩,
   ⟨{ with1 ({ cmd C.LCS_TRANSITION 10 [(0, [3])] with committed := true }) with
        lcs := { state := 2, copyA := .word (codeword 2), copyB := .word (codeword 2) } },
    own,
    { cmd C.LCS_TRANSITION 10 [(0, [3])] with committed := true },
    by unfold Runs; decide +kernel⟩,
   ⟨{ with1 ({ cmd C.LCS_TRANSITION 11 [(0, [3])] with committed := true }) with
        lcs := { state := 2, copyA := .word (codeword 2), copyB := .word (codeword 2) } },
    own,
    { cmd C.LCS_TRANSITION 11 [(0, [3])] with committed := true },
    by unfold Runs Plain; decide +kernel⟩⟩

/-- States and operands that meet the premises of AlarmsAndZeroise, clause by clause. -/
theorem witness_AlarmsAndZeroise :
    (∃ (s : State) (i : Instr) (k bit : Nat), s.mode ≠ .dormant ∧ s.moon.onVbat = false ∧ (i = .meshAlarm ∧ bit = 0 ∧
      windowFull s s.tamper.meshHist = true ∨ i = .tloopAlarm 0 ∧ bit = 5 ∧ (s.regField R.TMP_IN_CFG 5 4).testBit 0 = true ∧
      windowFull s s.tamper.loop0Hist = true ∨ i = .tloopAlarm 1 ∧ bit = 6 ∧
      (s.regField R.TMP_IN_CFG 5 4).testBit 1 = true ∧ windowFull s s.tamper.loop1Hist = true ∨ i = .envAlarm bit ∧
      8 ≤ bit ∧ bit ≤ 12 ∨ i = .envAlarm 7 ∧ bit = 7 ∧ s.lcs.vholdOk = true ∨ i = .clockAlarm k ∧ bit = 13 ∧
      islandClocked s.mode k = true ∨ i = .tampInAssert k ∧ k < 4 ∧ bit = 1 + k ∧
      (s.regField R.TMP_IN_CFG 3 0).testBit k = true)) ∧
    (∃ (s : State) (i : Instr), s.mode = .dormant ∧ s.moon.onVbat = false ∧ s.moon.corePower = true ∧ (i = .meshAlarm ∧
      windowFull s s.tamper.meshHist = true ∨ i = .envAlarm 12 ∨ i = .tampInAssert 0 ∧
      (s.regField R.TMP_IN_CFG 3 0).testBit 0 = true)) ∧
    (∃ (s : State), windowFull s s.tamper.meshHist = false) ∧
    (∃ (s : State) (k : Nat), k < 2 ∧ (s.regField R.TMP_IN_CFG 5 4).testBit k = false) ∧
    (∃ (s : State), s.lcs.vholdOk = false) ∧
    (∃ (s : State) (k : Nat), islandClocked s.mode k = false) ∧
    (∃ (s : State) (b : BindId) (j : Job), Runs s (.mailbox b) C.TMP_ZEROISE 0 j ∧ Plain j ∧ u32 j.ops 0 = 0x4F52455A ∧
      zeroAt j.ops 4 4 = true) ∧
    (∃ (s : State) (b : BindId) (j : Job), Runs s (.mailbox b) C.TMP_ZEROISE 0 j ∧ Plain j ∧ j.owner = true ∧
      u32 j.ops 0 ≠ 0x4F52455A) :=
  ⟨⟨{ svc with jobs := [qcmd C.SEAL 50 []] }, .envAlarm 12, 0, 12, by decide +kernel⟩,
   ⟨{ svc with mode := .dormant }, .envAlarm 12, by decide +kernel⟩,
   ⟨svc, by decide +kernel⟩,
   ⟨svc, 1, by decide +kernel⟩,
   ⟨svc, by decide +kernel⟩,
   ⟨svc, 20, by decide +kernel⟩,
   ⟨{ with1 (cmd C.TMP_ZEROISE 0 [(0, leBytes 4 0x4F52455A)]) with slots := [(3, {})] },
    own,
    cmd C.TMP_ZEROISE 0 [(0, leBytes 4 0x4F52455A)],
    by unfold Runs Plain; decide +kernel⟩,
   ⟨with1 (cmd C.TMP_ZEROISE 0 [(0, leBytes 4 0x4F52455B)]), own, cmd C.TMP_ZEROISE 0 [(0, leBytes 4 0x4F52455B)],
    by unfold Runs Plain; decide +kernel⟩⟩

/-- States and operands that meet the premises of TamperMonitors, clause by clause. -/
theorem witness_TamperMonitors :
    (∃ (s : State), s.moon.aonPower = true) ∧
    (∃ (s : State) (n : Nat), n < 4 ∧ (s.regField R.TMP_IN_CFG 3 0).testBit n = false) ∧
    (∃ (n : Nat), n < 4) ∧
    (∃ (s : State), s.moon.onVbat = false ∧ s.moon.aonPower = true) ∧
    (∃ (s : State), s.tamper.xtalFail = false) ∧
    (∃ (s : State), s.moon.aonPower = true) ∧
    (∃ (s : State) (v : Nat), (s.reg R.TMP_MESH_CFG).testBit 16 = false ∧ field (s.reg R.TMP_MESH_CFG) 7 0 ≤ field v 7 0 ∧
      field (s.reg R.TMP_MESH_CFG) 15 8 ≤ field v 15 8 ∧ field v 7 0 ≤ field v 15 8 ∧ field v 15 8 ≤ 64) ∧
    (∃ (s : State) (v : Nat),
      ((s.reg R.TMP_MESH_CFG).testBit 16 = true ∨ field v 7 0 < field (s.reg R.TMP_MESH_CFG) 7 0 ∨ field v 15 8 < field (s.reg R.TMP_MESH_CFG) 15 8 ∨ field v 15 8 < field v 7 0 ∨ 64 < field v 15 8)) ∧
    (∃ (s : State), (s.reg R.TMP_IN_CFG).testBit 16 = false ∧ s.tamper.inLevel = 0) ∧
    (∃ (s : State), (s.reg R.TMP_IN_CFG).testBit 16 = true) :=
  ⟨⟨svc, by decide +kernel⟩,
   ⟨svc, 3, by decide +kernel⟩,
   ⟨3, by decide +kernel⟩,
   ⟨svc, by decide +kernel⟩,
   ⟨svc, by decide +kernel⟩,
   ⟨svc, by decide +kernel⟩,
   ⟨svc, 0x14040, by decide +kernel⟩,
   ⟨svc, 0x0803, by decide +kernel⟩,
   ⟨svc, by decide +kernel⟩,
   ⟨svc.setReg R.TMP_IN_CFG 0x10000, by decide +kernel⟩⟩

/-- States and operands that meet the premises of WardsFollowPowerAndVerification, clause by clause. -/
theorem witness_WardsFollowPowerAndVerification :
    (∃ (s : State) (w : Nat), w < 16 ∧ (s.ward w).wpg = false ∧ s.mode = .service) ∧
    (∃ (s : State) (w : Nat), w < 16 ∧ (s.ward w).wpg = true) ∧
    (∃ (s : State) (w : Nat), (s.ward w).state = .verifying ∧ (s.ward w).settling = true) ∧
    (∃ (s : State) (w : Nat) (c : Nat × DigestCtx), w < 16 ∧ (s.ward w).state = .verifying ∧ (s.ward w).settling = false ∧
      ctxOf s (wardOrigin w) = some c ∧ ownerWaits s (mSlot (s.ward w).manifest) = false ∧ s.boot.gateOpen = true ∧
      s.mode = .service ∧ (s.ward w).holdPending = false ∧ (s.ward w).recovered = true ∧ (s.ward w).recStatus = 0) ∧
    (∃ (s : State) (w : Nat) (i : Instr), (i = .digestShort w ∨ i = .wardFlashTimeout w) ∧ w < 16 ∧
      (s.ward w).state = .verifying ∧ (s.ward w).settling = false ∧ (s.ward w).holdPending = false ∧
      (s.ward w).recovered = true ∧ (s.ward w).recStatus = 0) ∧
    (∃ (s : State) (w : Nat), w < 16 ∧ (s.ward w).state = .recovering ∧ (s.ward w).settling = false ∧
      (s.ward w).source ≠ 0 ∧ (s.ward w).holdPending = false) ∧
    (∃ (s : State) (w : Nat), w < 16 ∧ (s.ward w).state = .recovering ∧ (s.ward w).settling = false ∧
      (s.ward w).holdPending = false) :=
  ⟨⟨{ svc with nor := norAt (recAddr 3 0) (manif 3 1 ++ zeros 96 ++ [0x5A]) }, 3, by decide +kernel⟩,
   ⟨{ svc with wards := [(3, { state := .running, wpg := true, rstHigh := true })] }, 3, by decide +kernel⟩,
   ⟨{ svc with wards := [(3, { state := .verifying, settling := true })] }, 3, by decide +kernel⟩,
   ⟨{ svc with
        wards := [(3, { state := .verifying, manifest := manif 3 1, recovered := true })]
        digests := [(2, { origin := wardOrigin 3 })] },
    3,
    (2, { origin := wardOrigin 3 }),
    by decide +kernel⟩,
   ⟨{ svc with wards := [(3, { state := .verifying, recovered := true })] }, 3, .digestShort 3, by decide +kernel⟩,
   ⟨{ svc with
        wards := [(3, { state := .recovering, source := 1 })]
        nor := norAt (recAddr 3 0) (manif 3 1 ++ zeros 96 ++ [0x5A]) },
    3,
    by decide +kernel⟩,
   ⟨{ svc with wards := [(3, { state := .recovering })] }, 3, by decide +kernel⟩⟩

/-- States and operands that meet the premises of SpiFilter, clause by clause. -/
theorem witness_SpiFilter :
    (∃ (s : State) (w op a : Nat), w < 16 ∧ (s.ward w).state = .running ∧ op ≤ 255 ∧ op ≠ 0x5A ∧ a < 2 ^ 24 ∧
      spiAllowed (s.ward w).manifest op a = true) ∧
    (∃ (s : State) (w op a : Nat), w < 16 ∧ (s.ward w).state = .running ∧ op ≤ 255 ∧ a < 2 ^ 24 ∧
      spiAllowed (s.ward w).manifest op a = false ∧ 3 ≤ spiClass op ∧ spiClass op ≤ 5) ∧
    (∃ (s : State) (w op a : Nat), w < 16 ∧ (s.ward w).state = .running ∧ op ≤ 255 ∧ a < 2 ^ 24 ∧
      spiAllowed (s.ward w).manifest op a = false ∧ (spiClass op < 3 ∨ 5 < spiClass op)) ∧
    (∃ (s : State) (w : Nat), (s.ward w).state ≠ .running) ∧
    (∃ (s : State) (w a : Nat), w < 16 ∧ (s.ward w).state = .running ∧ a < 2 ^ 24) ∧
    (∃ (s : State) (w op a len : Nat) (r : Region), w < 16 ∧ (s.ward w).state = .running ∧ op ≤ 255 ∧ spiClass op = 0 ∧
      a < 2 ^ 24 ∧ regionFor (s.ward w).manifest a = some r ∧ r.read = true ∧ r.start + r.len < a + len) :=
  ⟨⟨{ svc with wards := [(3, { state := .running, manifest := manif 3 1 })] }, 3, 0x03, 0xFFF, by decide +kernel⟩,
   ⟨{ svc with wards := [(3, { state := .running, manifest := manif 3 1 })] }, 3, 0x02, 0xFFF, by decide +kernel⟩,
   ⟨{ svc with wards := [(3, { state := .running, manifest := manif 3 1 })] }, 3, 0x03, 0x1000, by decide +kernel⟩,
   ⟨svc, 3, by decide +kernel⟩,
   ⟨{ svc with wards := [(3, { state := .running, manifest := manif 3 1, sfdp := zeros 64 })] }, 3, 8, by decide +kernel⟩,
   ⟨{ svc with wards := [(3, { state := .running, manifest := manif 3 1 })] }, 3, 0x03, 0xFFF, 16, regionAt (manif 3 1) 0,
    by decide +kernel⟩⟩

/-- States and operands that meet the premises of WardCommands, clause by clause. -/
theorem witness_WardCommands :
    (∃ (s : State) (b : BindId) (j : Job), Runs s (.mailbox b) C.WARD_MANIFEST_SET 0 j ∧ u8 j.ops 0 < 16 ∧
      zeroAt j.ops 1 15 = true ∧ refCheck s j (hostRef j.ops 16) 0 16383 = none ∧ wardBusy s j (u8 j.ops 0) = false ∧
      canDma s (dmaBind s j (hostRef j.ops 16).port) = true ∧
      tagFree s (dmaBind s j (hostRef j.ops 16).port).port j.cls = true) ∧
    (∃ (s : State) (b : BindId) (j : Job) (m : Bytes) (a : Nat), Runs s (.mailbox b) C.WARD_MANIFEST_SET 4 j ∧ Plain j ∧
      m = j.keep.headD [] ∧ a = recAddr (u8 j.ops 0) (listGet 0 j.args 0) + m.length ∧ norByte s a = 0xFF) ∧
    (∃ (s : State) (b : BindId) (j : Job) (w : Nat), Runs s (.mailbox b) C.WARD_VERIFY 0 j ∧ w = u8 j.ops 0 ∧ w < 16 ∧
      u8 j.ops 1 = 0 ∧ zeroAt j.ops 2 6 = true ∧ wardBusy s j w = false ∧ (s.ward w).wpg = true ∧
      (wardManifest s w).isSome = true ∧
      ((s.ward w).state = .running ∨ (s.ward w).state = .failed ∨ (s.ward w).state = .held) ∧ s.mode = .service) ∧
    (∃ (s : State) (b : BindId) (j : Job) (w : Nat), Runs s (.mailbox b) C.WARD_RECOVER 0 j ∧ w = u8 j.ops 0 ∧
      recoverOperandsOk j.ops = true ∧ u8 j.ops 1 = 1 ∧ u8 j.ops 2 = 0 ∧
      refCheck s j (hostRef j.ops 16) 0 (2 ^ 26 + 8192) = none ∧ wardBusy s j w = false ∧ (s.ward w).wpg = true ∧
      ((s.ward w).state = .running ∨ (s.ward w).state = .failed ∨ (s.ward w).state = .held ∨ (s.ward w).state = .disabled) ∧
      s.mode = .service ∧ canDma s (dmaBind s j (hostRef j.ops 16).port) = true ∧
      tagFree s (dmaBind s j (hostRef j.ops 16).port).port j.cls = true) ∧
    (∃ (s : State) (b : BindId) (j : Job) (w : Nat), Runs s (.mailbox b) C.WARD_HOLD 0 j ∧ Plain j ∧ w = u8 j.ops 0 ∧
      w ≤ 15 ∧ zeroAt j.ops 1 7 = true ∧
      ((s.ward w).state = .running ∨ (s.ward w).state = .failed ∨ (s.ward w).state = .held)) ∧
    (∃ (s : State) (b : BindId) (j : Job) (w : Nat), Runs s (.mailbox b) C.WARD_HOLD 0 j ∧ Plain j ∧ w = u8 j.ops 0 ∧
      w ≤ 15 ∧ zeroAt j.ops 1 7 = true ∧ ((s.ward w).state = .verifying ∨ (s.ward w).state = .recovering)) ∧
    (∃ (s : State) (b : BindId) (j : Job) (w : Nat), Runs s (.mailbox b) C.WARD_AUX 0 j ∧ Plain j ∧ w = u8 j.ops 0 ∧
      w < 16 ∧ u8 j.ops 1 ≤ 1 ∧ zeroAt j.ops 2 6 = true ∧ (s.ward w).state = .running ∧ mFlag (s.ward w).manifest 3 = true ∧
      wardBusy s j w = false) ∧
    (∃ (s : State) (b : BindId) (j : Job), Runs s (.mailbox b) C.WARD_INFO 0 j ∧ Plain j ∧ u8 j.ops 0 < 16 ∧
      zeroAt j.ops 1 7 = true) :=
  ⟨⟨with1 (cmd C.WARD_MANIFEST_SET 0 [(0, [3]), (16, ref 224)]), own, cmd C.WARD_MANIFEST_SET 0 [(0, [3]), (16, ref 224)],
    by unfold Runs; decide +kernel⟩,
   ⟨with1 ({ cmd C.WARD_MANIFEST_SET 4 [(0, [3])] with keep := [manif 3 1 ++ zeros 96], args := [1] }),
    own,
    { cmd C.WARD_MANIFEST_SET 4 [(0, [3])] with keep := [manif 3 1 ++ zeros 96], args := [1] },
    _,
    _,
    by unfold Runs; decide +kernel, by unfold Plain; decide +kernel, rfl, rfl, by decide +kernel⟩,
   ⟨{ svc with
        wards := [(3, { state := .running, wpg := true, rstHigh := true })]
        jobs := [(cmd C.WARD_VERIFY 0 [(0, [3])])]
        nor := norAt (recAddr 3 0) (manif 3 1 ++ zeros 96 ++ [0x5A]) },
    own,
    cmd C.WARD_VERIFY 0 [(0, [3])],
    _,
    by unfold Runs; decide +kernel, rfl, by decide +kernel⟩,
   ⟨{ svc with
        wards := [(3, { state := .running, wpg := true, rstHigh := true })]
        jobs := [(cmd C.WARD_RECOVER 0 [(0, [3]), (1, [1]), (16, ref 65536)])]
        nor := norAt (recAddr 3 0) (manif 3 1 ++ zeros 96 ++ [0x5A]) },
    own,
    cmd C.WARD_RECOVER 0 [(0, [3]), (1, [1]), (16, ref 65536)],
    _,
    by unfold Runs; decide +kernel, rfl, by decide +kernel⟩,
   ⟨{ svc with
        wards := [(3, { state := .running, wpg := true, rstHigh := true })]
        jobs := [(cmd C.WARD_HOLD 0 [(0, [3])])]
        nor := norAt (recAddr 3 0) (manif 3 1 ++ zeros 96 ++ [0x5A]) },
    own,
    cmd C.WARD_HOLD 0 [(0, [3])],
    _,
    by unfold Runs; decide +kernel, by unfold Plain; decide +kernel, rfl, by decide +kernel⟩,
   ⟨{ svc with
        wards := [(3, { state := .verifying, wpg := true })]
        jobs := [(cmd C.WARD_HOLD 0 [(0, [3])])]
        nor := norAt (recAddr 3 0) (manif 3 1 ++ zeros 96 ++ [0x5A]) },
    own,
    cmd C.WARD_HOLD 0 [(0, [3])],
    _,
    by unfold Runs; decide +kernel, by unfold Plain; decide +kernel, rfl, by decide +kernel⟩,
   ⟨{ svc with
        wards := [(3, { state := .running, wpg := true, manifest := manif 3 1 })]
        jobs := [(cmd C.WARD_AUX 0 [(0, [3]), (1, [1])])] },
    own,
    cmd C.WARD_AUX 0 [(0, [3]), (1, [1])],
    _,
    by unfold Runs; decide +kernel, by unfold Plain; decide +kernel, rfl, by decide +kernel⟩,
   ⟨{ svc with
        wards := [(3, { state := .running, wpg := true, manifest := manif 3 1 })]
        jobs := [(cmd C.WARD_INFO 0 [(0, [3])])]
        nor := norAt (recAddr 3 0) (manif 3 1 ++ zeros 96 ++ [0x5A]) },
    own,
    cmd C.WARD_INFO 0 [(0, [3])],
    by unfold Runs Plain; decide +kernel⟩⟩

/-- States and operands that meet the premises of TokenPort, clause by clause. -/
theorem witness_TokenPort :
    (∃ (s : State) (b : Nat), b ≤ 2 ∧ s.mode ≠ .startup ∧ s.mode ≠ .dormant ∧ (s.bus b).step = .poll ∧ 0 < (s.bus b).polls ∧
      (s.bus b).polls < 100) ∧
    (∃ (s : State) (b v : Nat), b ≤ 2 ∧ s.mode ≠ .startup ∧ s.mode ≠ .dormant ∧ (s.bus b).power = true ∧
      (s.bus b).step = .opCond ∧ v.testBit 31 = true) ∧
    (∃ (s : State) (b : Nat), b < 2 ∧ s.mode ≠ .startup ∧ s.mode ≠ .dormant ∧ (s.bus b).power = true ∧
      (s.bus b).step = .allId) ∧
    (∃ (s : State) (b v n : Nat) (bs : Bytes), b ≤ 2 ∧ s.mode ≠ .startup ∧ s.mode ≠ .dormant ∧ (s.bus b).power = true ∧
      (s.bus b).step = .response ∧ (s.bus b).cur = some (.write n bs) ∧ (s.bus b).lockOp = 0 ∧ v < 2 ^ 29) ∧
    (∃ (s : State) (b : Nat) (m : BindId) (j : Job), b ≤ 2 ∧ s.mode ≠ .startup ∧ s.mode ≠ .dormant ∧
      (s.bus b).power = true ∧ (s.bus b).step = .response ∧ (s.bus b).resolving = 0 ∧ (s.bus b).owner = some (.mailbox m) ∧
      s.job? (.mailbox m) = some j ∧ Plain j) ∧
    (∃ (s : State) (b : Nat) (o : Origin) (j : Job), b ≤ 2 ∧ s.mode ≠ .startup ∧ s.mode ≠ .dormant ∧
      (s.bus b).step = .busy ∧ (s.bus b).script = [] ∧ (s.bus b).resolving = 0 ∧ (s.bus b).owner = some o ∧
      s.job? o = some j ∧ j.phase = .card) ∧
    (∃ (s : State) (b n : Nat) (bs : Bytes) (m : BindId) (j : Job), b ≤ 2 ∧ s.mode ≠ .startup ∧ s.mode ≠ .dormant ∧
      (s.bus b).step = .busy ∧ (s.bus b).cur = some (.write n bs) ∧ (s.bus b).resolving = 0 ∧
      (s.bus b).owner = some (.mailbox m) ∧ s.job? (.mailbox m) = some j ∧ Plain j) ∧
    (∃ (s : State) (b : Nat), b ≤ 2 ∧ s.mode ≠ .startup ∧ s.mode ≠ .dormant ∧ (s.bus b).step = .response ∧
      (s.bus b).resolving = 0 ∧ (s.bus b).owner = none) ∧
    (∃ (s : State) (n : Nat), n < 2 ∧ (s.bus n).present = false ∧ s.mode ≠ .startup ∧ s.mode ≠ .dormant) ∧
    (∃ (s : State) (n : Nat), n < 2 ∧ (s.bus n).owner = none) ∧
    (∃ (s : State) (n : Nat) (m : BindId) (j : Job), n < 2 ∧ (s.bus n).owner = some (.mailbox m) ∧
      s.job? (.mailbox m) = some j ∧ Plain j) ∧
    (∃ (s : State) (n : Nat), n < 2 ∧ (s.bus n).owner = none ∧ (s.bus n).step = .idle ∧ s.regField R.TKN_CFG 15 8 ≠ 0) ∧
    (∃ (s : State) (n : Nat) (op : CardOp), n < 2 ∧ (s.bus n).step = .delay ∧ (s.bus n).cur = some op) ∧
    (∃ (s : State) (b : BindId) (j : Job), Runs s (.mailbox b) C.TKN_SCAN 0 j ∧ zeroAt j.ops 0 8 = true ∧
      (s.bus 2).owner = none) ∧
    (∃ (s : State) (b : BindId) (j : Job), Runs s (.mailbox b) C.TKN_SCAN 1 j ∧ Plain j) ∧
    (∃ (s : State) (b : BindId) (j : Job), Runs s (.mailbox b) C.CARD_FORCE_ERASE 2 j ∧ Plain j ∧ u8 j.ops 0 ≤ 1 ∧
      zeroAt j.ops 1 7 = true) ∧
    (∃ (s : State) (b : BindId) (j : Job), Runs s (.mailbox b) C.ESCROW_STORE 3 j ∧ Plain j ∧
      escrowStoreCheck s j.ops = none) ∧
    (∃ (s : State) (b : BindId) (j : Job) (r : Bytes), Runs s (.mailbox b) C.ESCROW_FETCH 2 j ∧ Plain j ∧
      escrowOperands j.ops = true ∧ refCheck s j (hostRef j.ops 16) 104 maxLen = none ∧
      canDma s (dmaBind s j (hostRef j.ops 16).port) = true ∧ r = (s.bus 2).data ∧ (∃ x ∈ r, x ≠ 0xFF) ∧ 104 < r.length) :=
  ⟨⟨{ svc with tkn := { svc.tkn with buses := [(1, { power := true, present := true, step := .poll, polls := 7 })] } }, 1,
    by decide +kernel⟩,
   ⟨{ svc with tkn := { svc.tkn with buses := [(1, { power := true, present := true, step := .opCond })] } }, 1, 0x80FF8000,
    by decide +kernel⟩,
   ⟨{ svc with tkn := { svc.tkn with buses := [(1, { power := true, present := true, step := .allId })] } }, 1,
    by decide +kernel⟩,
   ⟨{ svc with
        tkn := { svc.tkn with
                   buses := [(1, { power := true, present := true, step := .response, cur := some (.write 0 []) })] } },
    1,
    0x900,
    0,
    [],
    by decide +kernel⟩,
   ⟨{ svc with
        tkn := { svc.tkn with
                   buses := [(1, { power := true
                                   present := true
                                   step := .response
                                   cur := some (.read 0)
                                   owner := some (.mailbox own) })] }
        jobs := [({ cmd C.TKN_SCAN 0 [] with phase := .card })] },
    1,
    own,
    { cmd C.TKN_SCAN 0 [] with phase := .card },
    by unfold Plain; decide +kernel⟩,
   ⟨{ svc with
        tkn := { svc.tkn with
                   buses := [(1, { power := true
                                   present := true
                                   step := .busy
                                   cur := some .forceErase
                                   owner := some (.mailbox own) })] }
        jobs := [({ cmd C.TKN_SCAN 0 [] with phase := .card })] },
    1,
    .mailbox own,
    { cmd C.TKN_SCAN 0 [] with phase := .card },
    by decide +kernel⟩,
   ⟨{ svc with
        tkn := { svc.tkn with
                   buses := [(1, { power := true
                                   present := true
                                   step := .busy
                                   cur := some (.write 0 [])
                                   owner := some (.mailbox own) })] }
        jobs := [({ cmd C.TKN_SCAN 0 [] with phase := .card, args := [77] })] },
    1,
    0,
    [],
    own,
    { cmd C.TKN_SCAN 0 [] with phase := .card, args := [77] },
    by unfold Plain; decide +kernel⟩,
   ⟨{ svc with tkn := { svc.tkn with buses := [(1, { power := true, present := true, step := .response })] } }, 1,
    by decide +kernel⟩,
   ⟨svc, 1, by decide +kernel⟩,
   ⟨{ svc with tkn := { svc.tkn with buses := [(1, { power := true, present := true, cids := [5] })] } }, 1,
    by decide +kernel⟩,
   ⟨{ svc with
        tkn := { svc.tkn with
                   buses := [(1, { power := true, present := true, step := .busy, owner := some (.mailbox own) })] }
        jobs := [({ cmd C.TKN_SCAN 0 [] with phase := .card })] },
    1,
    own,
    { cmd C.TKN_SCAN 0 [] with phase := .card },
    by unfold Plain; decide +kernel⟩,
   ⟨{ svc with tkn := { svc.tkn with buses := [(1, { power := true, present := true, cids := [5] })] } }.setReg R.TKN_CFG 0x0200,
    1,
    by decide +kernel⟩,
   ⟨{ svc with
        tkn := { svc.tkn with
                   buses := [(1, { power := true
                                   present := true
                                   step := .delay
                                   cur := some (.unlock [1])
                                   failWait := true })] } },
    1,
    .unlock [1],
    by decide +kernel⟩,
   ⟨with1 (cmd C.TKN_SCAN 0 []), own, cmd C.TKN_SCAN 0 [], by unfold Runs; decide +kernel⟩,
   ⟨{ svc with
        tkn := { svc.tkn with
                   buses := [(2, { power := true
                                   present := true
                                   cids := [0x4B000000000005]
                                   owner := some (.mailbox own) })] }
        jobs := [(cmd C.TKN_SCAN 1 [])] },
    own,
    cmd C.TKN_SCAN 1 [],
    by unfold Runs Plain; decide +kernel⟩,
   ⟨{ svc with
        tkn := { svc.tkn with buses := [(1, { power := true, present := true, owner := some (.mailbox own) })] }
        jobs := [(cmd C.CARD_FORCE_ERASE 2 [(0, [1])])] },
    own,
    cmd C.CARD_FORCE_ERASE 2 [(0, [1])],
    by unfold Runs Plain; decide +kernel⟩,
   ⟨{ svc with
        tkn := { svc.tkn with buses := [(2, { power := true, present := true, owner := some (.mailbox own) })] }
        jobs := [(cmd C.ESCROW_STORE 3 [(2, [1])])]
        slots := [(300, { active := some {} })] },
    own,
    cmd C.ESCROW_STORE 3 [(2, [1])],
    by unfold Runs Plain; decide +kernel⟩,
   ⟨{ svc with
        tkn := { svc.tkn with
                   buses := [(2, { power := true, present := true, data := zeros 512, owner := some (.mailbox own) })] }
        jobs := [(cmd C.ESCROW_FETCH 2 [(2, [1]), (16, ref 104)])] },
    own,
    cmd C.ESCROW_FETCH 2 [(2, [1]), (16, ref 104)],
    _,
    by unfold Runs; decide +kernel, by unfold Plain; decide +kernel, by decide +kernel, by decide +kernel,
       by decide +kernel, rfl, by decide +kernel⟩⟩

/-- States and operands that meet the premises of Ceremonies, clause by clause. -/
theorem witness_Ceremonies :
    (∃ (s : State) (b : BindId) (j : Job), Runs s (.mailbox b) C.CEREMONY_BEGIN 0 j ∧ Plain j ∧ Undisputed s j ∧
      beginCheck s j.ops = none ∧ u8 j.ops 0 ≠ 1 ∧ u8 j.ops 0 ≠ 3) ∧
    (∃ (s : State) (b : BindId) (j : Job) (d : Drbg) (id : Bytes), Runs s (.mailbox b) C.CEREMONY_BEGIN 0 j ∧ Plain j ∧
      Undisputed s j ∧ beginCheck s j.ops = none ∧ u8 j.ops 0 = 1 ∧ d = s.drbgs.get {} 4097 ∧ d.inst = true ∧
      d.requests < 2 ^ 19 ∧ id = (List.range 8).map (Config.drbgOut d.kv 8)) ∧
    (∃ (s : State) (b : BindId) (j : Job) (n c : Nat), Runs s (.mailbox b) C.CEREMONY_PRESENT 0 j ∧ Undisputed s j ∧
      s.tkn.ceremony.state = 1 ∧ s.tkn.ceremony.purpose ≠ 1 ∧ n = u8 j.ops 0 ∧ pinOperands j.ops 2 = true ∧
      (s.bus n).owner = none ∧ (s.bus n).present = true ∧ (s.bus n).power = true ∧ (s.bus n).step = .idle ∧
      (s.bus n).resolving = 0 ∧ (s.bus n).failed = false ∧ (s.bus n).cids = [c] ∧ cidKind c = 0x4A ∧ s.tkn.marks = []) ∧
    (∃ (s : State) (b : BindId) (j : Job) (n c : Nat), Runs s (.mailbox b) C.CEREMONY_ENROL 0 j ∧ Undisputed s j ∧
      s.tkn.ceremony.state = 1 ∧ s.tkn.ceremony.purpose = 1 ∧ s.tkn.ceremony.enrolled = [] ∧ 1 ≤ u8 j.ops 2 ∧
      u8 j.ops 2 ≤ 16 ∧ u8 j.ops 2 ≤ s.tkn.ceremony.n ∧ n = u8 j.ops 0 ∧ pinOperands j.ops 3 = true ∧
      (s.bus n).owner = none ∧ (s.bus n).present = true ∧ (s.bus n).power = true ∧ (s.bus n).step = .idle ∧
      (s.bus n).resolving = 0 ∧ (s.bus n).failed = false ∧ (s.bus n).cids = [c] ∧ cidKind c = 0x4A ∧ s.tkn.marks = []) ∧
    (∃ (s : State) (b : BindId) (j : Job) (n : Nat) (r : Bytes), Runs s (.mailbox b) C.CEREMONY_PRESENT 3 j ∧ Plain j ∧
      s.tkn.ceremony.state = 1 ∧ s.tkn.ceremony.purpose = 2 ∧ s.tkn.ceremony.shares = [] ∧ s.keyed = false ∧
      pinOperands j.ops 2 = true ∧ n = u8 j.ops 0 ∧ r = (s.bus n).data) ∧
    (∃ (s : State) (b : BindId) (j : Job) (n idx cid : Nat), Runs s (.mailbox b) C.CEREMONY_ENROL 4 j ∧ Plain j ∧
      s.tkn.ceremony.state = 1 ∧ s.tkn.ceremony.purpose = 1 ∧ s.tkn.ceremony.enrolled = [] ∧ pinOperands j.ops 3 = true ∧
      idx = u8 j.ops 2 ∧ 1 ≤ idx ∧ idx ≤ 16 ∧ idx ≤ s.tkn.ceremony.n ∧ n = u8 j.ops 0 ∧ cid = listGet 0 j.args 0) ∧
    (∃ (s : State) (b : BindId) (j : Job), Runs s (.mailbox b) C.CEREMONY_STATUS 0 j ∧ Plain j ∧ zeroAt j.ops 0 8 = true) ∧
    (∃ (s : State) (b : BindId) (j : Job), Runs s (.mailbox b) C.CEREMONY_END 0 j ∧ Plain j ∧ Undisputed s j ∧
      zeroAt j.ops 0 8 = true ∧ s.tkn.ceremony.state ≠ 0) ∧
    (∃ (s : State), s.tkn.ceremony.state ≠ 0 ∧ s.tkn.ceremony.until_ ≠ none ∧ (∀ j ∈ s.jobs,
      (j.code = C.CEREMONY_PRESENT ∨ j.code = C.CEREMONY_ENROL) → j.stage < 20)) :=
  ⟨⟨{ svc with keyed := false, tkn := { svc.tkn with ceremony := {  } }, jobs := [(cmd C.CEREMONY_BEGIN 0 [(0, [2])])] },
    own,
    cmd C.CEREMONY_BEGIN 0 [(0, [2])],
    by unfold Runs Plain Undisputed; decide +kernel⟩,
   ⟨{ svc with
        keyed := false
        tkn := { svc.tkn with ceremony := {  } }
        jobs := [(cmd C.CEREMONY_BEGIN 0 [(0, [1, 2, 3])])]
        drbgs := (4097, gen) :: [] },
    own,
    cmd C.CEREMONY_BEGIN 0 [(0, [1, 2, 3])],
    _,
    _,
    by unfold Runs; and_intros <;> first | decide +kernel | rfl,
       by unfold Plain; and_intros <;> first | decide +kernel | rfl,
       by unfold Undisputed; and_intros <;> first | decide +kernel | rfl, by and_intros <;> first | decide +kernel | rfl,
       by and_intros <;> first | decide +kernel | rfl, rfl, by and_intros <;> first | decide +kernel | rfl,
       by and_intros <;> first | decide +kernel | rfl, rfl⟩,
   ⟨{ svc with
        keyed := false
        tkn := { svc.tkn with
                   ceremony := { state := 1, purpose := 2 }
                   buses := [(1, { power := true, present := true, cids := [0x4A000000000005] })] }
        jobs := [(cmd C.CEREMONY_PRESENT 0 [(0, [1, 6])])] },
    own,
    cmd C.CEREMONY_PRESENT 0 [(0, [1, 6])],
    _,
    0x4A000000000005,
    by unfold Runs; decide +kernel, by unfold Undisputed; decide +kernel, by decide +kernel, by decide +kernel, rfl,
       by decide +kernel⟩,
   ⟨{ svc with
        keyed := false
        tkn := { svc.tkn with
                   ceremony := { state := 1, purpose := 1, k := 2, n := 3 }
                   buses := [(1, { power := true, present := true, cids := [0x4A000000000005] })] }
        jobs := [(cmd C.CEREMONY_ENROL 0 [(0, [1, 6, 1])])] },
    own,
    cmd C.CEREMONY_ENROL 0 [(0, [1, 6, 1])],
    _,
    0x4A000000000005,
    by unfold Runs; decide +kernel, by unfold Undisputed; decide +kernel, by decide +kernel, by decide +kernel,
       by decide +kernel, by decide +kernel, by decide +kernel, by decide +kernel, rfl, by decide +kernel⟩,
   ⟨{ svc with
        keyed := false
        tkn := { svc.tkn with
                   ceremony := { state := 1, purpose := 2 }
                   buses := [(1, { power := true, present := true, data := zeros 512 })] }
        jobs := [({ cmd C.CEREMONY_PRESENT 3 [(0, [1, 6])] with args := [5] })] },
    own,
    { cmd C.CEREMONY_PRESENT 3 [(0, [1, 6])] with args := [5] },
    _,
    _,
    by unfold Runs; decide +kernel, by unfold Plain; decide +kernel, by decide +kernel, by decide +kernel,
       by decide +kernel, by decide +kernel, by decide +kernel, rfl, rfl⟩,
   ⟨{ svc with
        keyed := false
        tkn := { svc.tkn with
                   ceremony := { state := 1, purpose := 1, k := 2, n := 3, cdk := zeros 32, coeffs := [zeros 32] }
                   buses := [(1, { power := true, present := true, data := zeros 512 })] }
        jobs := [({ cmd C.CEREMONY_ENROL 4 [(0, [1, 6, 1])] with args := [5] })] },
    own,
    { cmd C.CEREMONY_ENROL 4 [(0, [1, 6, 1])] with args := [5] },
    _,
    _,
    _,
    by unfold Runs; decide +kernel, by unfold Plain; decide +kernel, by decide +kernel, by decide +kernel,
       by decide +kernel, by decide +kernel, rfl, by decide +kernel, by decide +kernel, by decide +kernel, rfl, rfl⟩,
   ⟨with1 (cmd C.CEREMONY_STATUS 0 []), own, cmd C.CEREMONY_STATUS 0 [], by unfold Runs Plain; decide +kernel⟩,
   ⟨{ svc with
        keyed := false
        tkn := { svc.tkn with ceremony := { state := 1, purpose := 2 } }
        jobs := [(cmd C.CEREMONY_END 0 [])] },
    own,
    cmd C.CEREMONY_END 0 [],
    by unfold Runs Plain Undisputed; decide +kernel⟩,
   ⟨{ svc with keyed := false, tkn := { svc.tkn with ceremony := { state := 1, purpose := 2, until_ := some 5 } } },
    by decide +kernel⟩⟩

/-- States and operands that meet the premises of LinkTrainingAndBeacons, clause by clause. -/
theorem witness_LinkTrainingAndBeacons :
    (∃ (s : State) (l : Nat), l < 8 ∧ s.mode = .service ∧ (s.link l).state = .down) ∧
    (∃ (s : State) (l : Nat), l < 8 ∧ s.mode = .service ∧ (s.link l).state = .training ∧ (s.link l).level = 0 ∧
      (s.link l).queue = []) ∧
    (∃ (s : State) (l : Nat), l < 8 ∧ s.mode = .service ∧ (s.link l).state = .quarantined ∧ (s.link l).retraining = true) ∧
    (∃ (s : State) (l : Nat), l < 8 ∧ s.mode = .service ∧ (s.link l).state = .training ∧ (s.link l).queue = []) ∧
    (∃ (s : State) (l : Nat), l < 8 ∧ s.mode = .service ∧ (s.link l).state = .active ∧ (s.link l).fast = true ∧
      (s.link l).queue = []) ∧
    (∃ (s : State) (l : Nat), l < 8 ∧ s.mode = .service ∧ (s.link l).state = .down ∧ (s.link l).signal = true) ∧
    (∃ (s : State) (l : Nat), l < 8 ∧ s.mode = .service ∧ (s.link l).state = .quarantined) ∧
    (∃ (s : State) (l : Nat), l < 8 ∧ (s.link l).state = .active ∧ (s.link l).queue = []) ∧
    (∃ (s : State) (l : Nat), l < 8 ∧ s.mode = .service ∧ (s.link l).level = 0 ∧ (s.link l).state = .trained ∧
      (s.link l).retraining = false) ∧
    (∃ (s : State) (l : Nat), l < 8 ∧ s.mode = .dormant ∧ s.moon.onVbat = false ∧ s.moon.aonPower = true ∧
      (s.regField R.PWR_KEEPALIVE 7 0).testBit l = true) :=
  ⟨⟨lnk { state := .down }, 2, by decide +kernel⟩,
   ⟨lnk { state := .training, signal := true }, 2, by decide +kernel⟩,
   ⟨lnk { state := .quarantined, retraining := true }, 2, by decide +kernel⟩,
   ⟨lnk { state := .training }, 2, by decide +kernel⟩,
   ⟨lnk { act with fast := true }, 2, by decide +kernel⟩,
   ⟨lnk { state := .down, signal := true }, 2, by decide +kernel⟩,
   ⟨lnk { state := .quarantined }, 2, by decide +kernel⟩,
   ⟨lnk act, 2, by decide +kernel⟩,
   ⟨lnk { state := .trained }, 2, by decide +kernel⟩,
   ⟨{ svc with mode := .dormant, moon := { aonPower := true, corePower := true, idHash := 3 } }.setReg R.PWR_KEEPALIVE 0x1904,
    2,
    by decide +kernel⟩⟩

/-- States and operands that meet the premises of LinkFramesReceived, clause by clause. -/
theorem witness_LinkFramesReceived :
    (∃ (s : State) (l : Nat) (f : Frame), Quiet s l ∧ f.ty = 1 ∧ clearGood f = true ∧ u8 f.payload 34 = 0 ∧
      u8 f.payload 8 % 16 = 5) ∧
    (∃ (s : State) (l : Nat) (f : Frame), Quiet s l ∧ f.ty = 1 ∧ f.lineOk = false) ∧
    (∃ (s : State) (l : Nat) (f g : Frame), Hears s l f g ∧ f.ty = 3 ∧ u8 g.payload 0 = 1 ∧ u8 g.payload 1 = 0) ∧
    (∃ (s : State) (l : Nat) (f : Frame), Quiet s l ∧ f.ty = 4 ∧ clearGood f = true) ∧
    (∃ (s : State) (l : Nat) (f : Frame), s.mode = .dormant ∧ l < 8 ∧ s.moon.onVbat = false ∧ s.moon.corePower = true ∧
      (s.regField R.PWR_KEEPALIVE 7 0).testBit l = true ∧ clearGood f = true ∧ f.ty = 5 ∧
      f.dst = s.regField R.PWR_KEEPALIVE 23 8 ∧ (s.reg R.PWR_WAKE_CFG).testBit 0 = true ∧
      s.regField R.PWR_WAKE_CFG 15 8 = 0) ∧
    (∃ (s : State) (l : Nat) (f g : Frame), Quiet s l ∧ f.ty = 6 ∧ clearGood f = true ∧
      (s.link l).sent.find? (fun h => h.tag == u64 f.payload 12 && h.ty == u8 f.payload 10) = some g ∧ g.ty ≠ 0x23 ∧
      g.src = s.fabric.addr) ∧
    (∃ (s : State) (l : Nat) (f g : Frame) (n : Notice) (b : BindId) (j : Job), Hears s l f g ∧ f.ty = 7 ∧
      f.dst = s.fabric.addr ∧ s.fabric.notices.find? (fun m => m.tag == u64 g.payload 0) = some n ∧ n.origin = .mailbox b ∧
      s.job? (.mailbox b) = some j ∧ Plain j) ∧
    (∃ (s : State) (l : Nat), (s.link l).state = .disabled ∧ s.mode = .service) :=
  ⟨⟨lnk act, 2, { ty := 1, payload := ops 64 [(0, [77]), (8, [5])] }, by unfold Quiet; decide +kernel⟩,
   ⟨lnk act, 2, { ty := 1, lineOk := false }, by unfold Quiet; decide +kernel⟩,
   ⟨lnk act,
    2,
    sealFrame [] ({ ty := 3, sealed := true, lseq := 6, src := 9, payload := padPayload ([1, 0]) }),
    { ty := 3, sealed := true, lseq := 6, src := 9, payload := padPayload ([1, 0]) },
    by unfold Hears Quiet; and_intros <;> first | decide +kernel | rfl | exact openFrame_sealFrame rfl rfl rfl rfl (by decide +kernel) (by decide +kernel) (by decide +kernel)⟩,
   ⟨lnk act, 2, { ty := 4, payload := zeros 32 }, by unfold Quiet; decide +kernel⟩,
   ⟨({ svc with mode := .dormant, moon := { aonPower := true, corePower := true, idHash := 3 } }.setReg R.PWR_KEEPALIVE 0x1904).setReg R.PWR_WAKE_CFG 1,
    2,
    { ty := 5, dst := 25, payload := zeros 32 },
    by decide +kernel⟩,
   ⟨lnk { act with sent := [{ ty := 0x20, tag := 300, payload := zeros 80 }] },
    2,
    { ty := 6, payload := ops 64 [(10, [0x20]), (12, leBytes 8 300)] },
    { ty := 0x20, tag := 300, payload := zeros 80 },
    by unfold Quiet; decide +kernel⟩,
   ⟨{ lnk act with
        fabric := { notices := [({ tag := 300, origin := .mailbox own })] }
        jobs := [({ cmd C.SHRED_STAGE 1 [] with phase := .peer })] },
    2,
    sealFrame [] ({ ty := 7, sealed := true, lseq := 6, src := 9, payload := padPayload (leBytes 8 300) }),
    { ty := 7, sealed := true, lseq := 6, src := 9, payload := padPayload (leBytes 8 300) },
    { tag := 300, origin := .mailbox own },
    own,
    { cmd C.SHRED_STAGE 1 [] with phase := .peer },
    by unfold Plain Hears Quiet; and_intros <;> first | decide +kernel | rfl | exact openFrame_sealFrame rfl rfl rfl rfl (by decide +kernel) (by decide +kernel) (by decide +kernel)⟩,
   ⟨lnk { state := .disabled }, 2, by decide +kernel⟩⟩

/-- States and operands that meet the premises of LinkSessionsAndCommands, clause by clause. -/
theorem witness_LinkSessionsAndCommands :
    (∃ (s : State) (l : Nat) (f g : Frame) (h : Handshake), l < 8 ∧ s.mode = .service ∧ s.fabric.isolated = false ∧
      (s.link l).state = .handshake ∧ (s.link l).level = 0 ∧ (s.link l).queue = [] ∧ (s.link l).hs = some h ∧ h.okm ≠ [] ∧
      f.ty = 2 ∧ f.sealed = true ∧ openFrame s l f = some g ∧ u8 g.payload 0 = 3 ∧ u8 g.payload 1 = 0 ∧ u8 g.payload 2 = 3 ∧
      u32 g.payload 4 = 6000) ∧
    (∃ (s : State) (l n : Nat) (f : Frame) (d : Drbg) (a c : SlotHalf) (m : Bytes), l < 8 ∧ s.mode = .service ∧
      s.fabric.isolated = false ∧ (s.link l).state = .trained ∧ (s.link l).level = 0 ∧ (s.link l).queue = [] ∧
      (s.link l).hs = none ∧ (s.link l).partner ≠ 0 ∧ f.ty = 2 ∧ clearGood f = true ∧ u8 f.payload 0 = 1 ∧
      u8 f.payload 1 = 0 ∧ u8 f.payload 2 = 1 ∧ u32 f.payload 4 = 1672 ∧ m = (f.payload.drop 8).take 1672 ∧
      helloOk m = true ∧ d = s.drbgs.get {} (4099 + l) ∧ d.inst = true ∧ d.requests < 2 ^ 19 ∧
      (s.drbgs.get {} 4098).inst = true ∧ (s.drbgs.get {} 4098).requests < 2 ^ 19 ∧ freeEngine s = some n ∧
      activeHalf s 0 = some a ∧ activeHalf s 1 = some c) ∧
    (∃ (s : State) (l : Nat), l < 8 ∧ s.mode = .service ∧ (s.link l).state = .handshake ∧ (s.link l).level = 0) ∧
    (∃ (s : State) (l n : Nat) (d : Drbg), l < 8 ∧ s.mode = .service ∧ (s.link l).hsWait = true ∧
      (s.link l).state = .trained ∧ (s.link l).level = 0 ∧ idHash s < (s.link l).partner ∧ d = s.drbgs.get {} (4099 + l) ∧
      d.inst = true ∧ d.requests < 2 ^ 19 ∧ (s.drbgs.get {} 4098).inst = true ∧ (s.drbgs.get {} 4098).requests < 2 ^ 19 ∧
      freeEngine s = some n) ∧
    (∃ (s : State) (l n : Nat) (d : Drbg), l < 8 ∧ s.mode = .service ∧ (s.link l).level ≠ 0 ∧ (s.link l).hs = none ∧
      d = s.drbgs.get {} (4099 + l) ∧ d.inst = true ∧ d.requests < 2 ^ 19 ∧ (s.drbgs.get {} 4098).inst = true ∧
      (s.drbgs.get {} 4098).requests < 2 ^ 19 ∧ freeEngine s = some n) ∧
    (∃ (s : State) (l : Nat), l < 8 ∧ (s.link l).oldKey.isSome = true) ∧
    (∃ (s : State) (l : Nat), l < 8 ∧ (s.link l).signal = false ∧ (s.link l).level ≠ 0 ∧ (s.link l).queue = []) ∧
    (∃ (s : State) (l : Nat), l < 8 ∧ s.mode = .service ∧ (s.link l).level ≠ 0 ∧ (s.link l).state = .active ∧
      (s.link l).queue = []) ∧
    (∃ (s : State) (b : BindId) (j : Job) (l : Nat), Runs s (.mailbox b) C.SWL_LINK_CTRL 0 j ∧ Plain j ∧ l = u8 j.ops 0 ∧
      l ≤ 7 ∧ u8 j.ops 1 = 0 ∧ zeroAt j.ops 2 6 = true ∧ (s.link l).state = .disabled ∧ (s.link l).queue = []) ∧
    (∃ (s : State) (b : BindId) (j : Job) (l : Nat), Runs s (.mailbox b) C.SWL_LINK_CTRL 0 j ∧ Plain j ∧ l = u8 j.ops 0 ∧
      l ≤ 7 ∧ u8 j.ops 1 = 0 ∧ zeroAt j.ops 2 6 = true ∧ (s.link l).state ≠ .disabled) ∧
    (∃ (s : State) (b : BindId) (j : Job) (l : Nat), Runs s (.mailbox b) C.SWL_LINK_CTRL 0 j ∧ Plain j ∧ l = u8 j.ops 0 ∧
      l ≤ 7 ∧ u8 j.ops 1 = 1 ∧ zeroAt j.ops 2 6 = true ∧ (s.link l).state ≠ .disabled ∧ (s.link l).queue = []) ∧
    (∃ (s : State) (b : BindId) (j : Job) (l : Nat), Runs s (.mailbox b) C.SWL_LINK_CTRL 0 j ∧ Plain j ∧ l = u8 j.ops 0 ∧
      l ≤ 7 ∧ u8 j.ops 1 = 2 ∧ zeroAt j.ops 2 6 = true ∧ (s.link l).state = .active ∧ (s.link l).level ≠ 0 ∧
      (s.link l).queue = []) ∧
    (∃ (s : State) (b : BindId) (j : Job) (l : Nat), Runs s (.mailbox b) C.SWL_LINK_CTRL 0 j ∧ Plain j ∧ l = u8 j.ops 0 ∧
      l ≤ 7 ∧ u8 j.ops 1 = 3 ∧ zeroAt j.ops 2 6 = true ∧ (s.link l).level = 0) ∧
    (∃ (s : State) (b : BindId) (j : Job) (l : Nat), Runs s (.mailbox b) C.SWL_LINK_CTRL 0 j ∧ Plain j ∧ l = u8 j.ops 0 ∧
      l ≤ 7 ∧ u8 j.ops 1 = 4 ∧ zeroAt j.ops 2 6 = true) ∧
    (∃ (s : State) (b : BindId) (j : Job) (k : Link), Runs s (.mailbox b) C.SWL_LINK_INFO 0 j ∧ Plain j ∧ u8 j.ops 0 ≤ 7 ∧
      zeroAt j.ops 1 7 = true ∧ k = s.link (u8 j.ops 0)) :=
  ⟨⟨lnk { state := .handshake, hs := some ({ okm := zeros 64 }) },
    2,
    sealFrame (zeros 32) ({ ty := 2, sealed := true, lseq := 1, payload := [3, 0, 3, 0] ++ leBytes 4 6000 ++ zeros 2040 }),
    { ty := 2, sealed := true, lseq := 1, payload := [3, 0, 3, 0] ++ leBytes 4 6000 ++ zeros 2040 },
    { okm := zeros 64 },
    by and_intros <;> first | decide +kernel | rfl | exact openFrame_sealFrame rfl rfl rfl rfl (by decide +kernel) (by decide +kernel) (by decide +kernel)⟩,
   ⟨{ lnk { state := .trained, partner := 77 } with slots := ids, drbgs := [(4098, gen), (4101, gen)] },
    2,
    0,
    { ty := 2, payload := [1, 0, 1, 0] ++ leBytes 4 1672 ++ ([1] ++ zeros 1671) },
    _,
    { cls := 6 },
    { cls := 9 },
    _,
    by decide +kernel, by decide +kernel, by decide +kernel, by decide +kernel, by decide +kernel, by decide +kernel,
       by decide +kernel, by decide +kernel, by decide +kernel, by decide +kernel, by decide +kernel, by decide +kernel,
       by decide +kernel, by decide +kernel, rfl, by decide +kernel, rfl, by decide +kernel⟩,
   ⟨lnk { state := .handshake, hs := some {} }, 2, by decide +kernel⟩,
   ⟨{ lnk { state := .trained, hsWait := true, partner := 2 ^ 64 } with drbgs := [(4098, gen), (4101, gen)] }, 2, 0, gen,
    by and_intros <;> first | exact u64_lt _ _ | decide +kernel⟩,
   ⟨{ lnk act with drbgs := [(4098, gen), (4101, gen)] }, 2, 0, _,
    by decide +kernel, by decide +kernel, by decide +kernel, by decide +kernel, rfl, by decide +kernel⟩,
   ⟨lnk { act with oldKey := some (zeros 32), oldRxLseq := 4 }, 2, by decide +kernel⟩,
   ⟨lnk { act with signal := false, state := .training, former := .active }, 2, by decide +kernel⟩,
   ⟨lnk act, 2, by decide +kernel⟩,
   ⟨{ lnk { state := .disabled } with jobs := [(cmd C.SWL_LINK_CTRL 0 [(0, [2, 0])])] },
    own,
    cmd C.SWL_LINK_CTRL 0 [(0, [2, 0])],
    _,
    by unfold Runs; decide +kernel, by unfold Plain; decide +kernel, rfl, by decide +kernel⟩,
   ⟨{ lnk act with jobs := [(cmd C.SWL_LINK_CTRL 0 [(0, [2, 0])])] }, own, cmd C.SWL_LINK_CTRL 0 [(0, [2, 0])], _,
    by unfold Runs; decide +kernel, by unfold Plain; decide +kernel, rfl, by decide +kernel⟩,
   ⟨{ lnk act with jobs := [(cmd C.SWL_LINK_CTRL 0 [(0, [2, 1])])] }, own, cmd C.SWL_LINK_CTRL 0 [(0, [2, 1])], _,
    by unfold Runs; decide +kernel, by unfold Plain; decide +kernel, rfl, by decide +kernel⟩,
   ⟨{ lnk act with jobs := [(cmd C.SWL_LINK_CTRL 0 [(0, [2, 2])])] }, own, cmd C.SWL_LINK_CTRL 0 [(0, [2, 2])], _,
    by unfold Runs; decide +kernel, by unfold Plain; decide +kernel, rfl, by decide +kernel⟩,
   ⟨{ lnk { act with level := 0 } with jobs := [(cmd C.SWL_LINK_CTRL 0 [(0, [2, 3])])] },
    own,
    cmd C.SWL_LINK_CTRL 0 [(0, [2, 3])],
    _,
    by unfold Runs; decide +kernel, by unfold Plain; decide +kernel, rfl, by decide +kernel⟩,
   ⟨{ lnk act with jobs := [(cmd C.SWL_LINK_CTRL 0 [(0, [2, 4])])] }, own, cmd C.SWL_LINK_CTRL 0 [(0, [2, 4])], _,
    by unfold Runs; decide +kernel, by unfold Plain; decide +kernel, rfl, by decide +kernel⟩,
   ⟨{ lnk act with jobs := [(cmd C.SWL_LINK_INFO 0 [(0, [2])])] }, own, cmd C.SWL_LINK_INFO 0 [(0, [2])], _,
    by unfold Runs; decide +kernel, by unfold Plain; decide +kernel, by decide +kernel, by decide +kernel, rfl⟩⟩

/-- States and operands that meet the premises of FabricTopology, clause by clause. -/
theorem witness_FabricTopology :
    (∃ (s : State) (l : Nat), s.mode = .service ∧ l < 8 ∧ (s.link l).level ≠ 0) ∧
    (∃ (s : State) (l : Nat) (f g : Frame), Hears s l f g ∧ f.ty = 0x10 ∧ u8 g.payload 10 = 0 ∧
      s.fabric.db.look? (u64 g.payload 0) = none ∧ s.fabric.db.length < 1024) ∧
    (∃ (s : State) (l : Nat) (f g : Frame) (e : LsaEntry), Hears s l f g ∧ f.ty = 0x10 ∧
      s.fabric.db.look? (u64 g.payload 0) = some e ∧ u32 g.payload 12 ≤ e.seq) ∧
    (∃ (s : State) (id : Nat), (s.fabric.db.look? id).isSome = true) ∧
    (∃ (s : State), s.fabric.addrState = 1) ∧
    (∃ (s : State), s.mode = .service ∧ s.fabric.isolated = false) :=
  ⟨⟨lnk act, 2, by decide +kernel⟩,
   ⟨lnk act,
    2,
    sealFrame [] ({ ty := 16
                    sealed := true
                    lseq := 6
                    src := 9
                    payload := padPayload (ops 64 [(0, [77]), (8, [9]), (12, [4])]) }),
    { ty := 16, sealed := true, lseq := 6, src := 9, payload := padPayload (ops 64 [(0, [77]), (8, [9]), (12, [4])]) },
    by unfold Hears Quiet; and_intros <;> first | decide +kernel | rfl | exact openFrame_sealFrame rfl rfl rfl rfl (by decide +kernel) (by decide +kernel) (by decide +kernel)⟩,
   ⟨{ lnk act with fabric := { db := [(77, ({ seq := 4 }))] } },
    2,
    sealFrame [] ({ ty := 16
                    sealed := true
                    lseq := 6
                    src := 9
                    payload := padPayload (ops 64 [(0, [77]), (8, [9]), (12, [4])]) }),
    { ty := 16, sealed := true, lseq := 6, src := 9, payload := padPayload (ops 64 [(0, [77]), (8, [9]), (12, [4])]) },
    { seq := 4 },
    by unfold Hears Quiet; and_intros <;> first | decide +kernel | rfl | exact openFrame_sealFrame rfl rfl rfl rfl (by decide +kernel) (by decide +kernel) (by decide +kernel)⟩,
   ⟨{ svc with fabric := { db := [(77, {  seq := 4 })], holders := [(3, 77), (3, 78)] } }, 77, by decide +kernel⟩,
   ⟨{ svc with fabric := { addr := 5, addrState := 1 } }, by decide +kernel⟩,
   ⟨svc, by decide +kernel⟩⟩

/-- States and operands that meet the premises of HoldersNoticesAndNaks, clause by clause. -/
theorem witness_HoldersNoticesAndNaks :
    (∃ (s : State) (l : Nat) (f g : Frame), Hears s l f g ∧ f.ty = 0x11 ∧ f.dst = s.fabric.addr ∧
      s.fabric.holders.contains (u64 g.payload 0, u64 g.payload 8) = false ∧ s.fabric.holders.length < 4096) ∧
    (∃ (s : State) (l : Nat) (f g : Frame), Hears s l f g ∧ f.ty = 0x12 ∧ f.dst = s.fabric.addr) ∧
    (∃ (s : State) (l : Nat) (f g : Frame), Hears s l f g ∧ f.ty = 0x13 ∧ f.dst = s.fabric.addr) ∧
    (∃ (s : State) (l : Nat) (f g : Frame) (n : Notice) (b : BindId) (j : Job), Hears s l f g ∧ f.ty = 0x14 ∧
      f.dst = s.fabric.addr ∧ s.fabric.notices = [n] ∧ n.tag = u64 g.payload 0 ∧ u16 g.payload 8 = S.OK ∧
      n.origin = .mailbox b ∧ s.job? (.mailbox b) = some j ∧ Plain j ∧ j.args = []) ∧
    (∃ (s : State) (n : Notice) (b : BindId) (j : Job), s.fabric.notices = [n] ∧ n.origin = .mailbox b ∧
      s.job? (.mailbox b) = some j ∧ Plain j) ∧
    (∃ (s : State) (l : Nat) (f g : Frame), Hears s l f g ∧ f.ty = 0x23 ∧ f.dst = s.fabric.addr ∧
      u8 (fit 32 g.payload) 10 ≠ 16) ∧
    (∃ (s : State) (l : Nat) (f g : Frame) (n : Fetch) (b : BindId) (j : Job), Hears s l f g ∧ f.ty = 0x23 ∧
      f.dst = s.fabric.addr ∧ u8 (fit 32 g.payload) 10 = 16 ∧ s.fabric.fetches = [n] ∧ n.tag = u64 (fit 32 g.payload) 0 ∧
      n.origin = .mailbox b ∧ s.job? (.mailbox b) = some j ∧ Plain j) ∧
    (∃ (s : State) (n : Fetch) (b : BindId) (j : Job), s.fabric.fetches = [n] ∧ n.origin = .mailbox b ∧
      s.job? (.mailbox b) = some j ∧ Plain j) :=
  ⟨⟨lnk act,
    2,
    sealFrame [] ({ ty := 17, sealed := true, lseq := 6, src := 9, payload := padPayload (leBytes 8 3 ++ leBytes 8 77) }),
    { ty := 17, sealed := true, lseq := 6, src := 9, payload := padPayload (leBytes 8 3 ++ leBytes 8 77) },
    by unfold Hears Quiet; and_intros <;> first | decide +kernel | rfl | exact openFrame_sealFrame rfl rfl rfl rfl (by decide +kernel) (by decide +kernel) (by decide +kernel)⟩,
   ⟨{ lnk act with fabric := { holders := [(3, 77)] } },
    2,
    sealFrame [] ({ ty := 18, sealed := true, lseq := 6, src := 9, payload := padPayload (leBytes 8 3 ++ leBytes 8 77) }),
    { ty := 18, sealed := true, lseq := 6, src := 9, payload := padPayload (leBytes 8 3 ++ leBytes 8 77) },
    by unfold Hears Quiet; and_intros <;> first | decide +kernel | rfl | exact openFrame_sealFrame rfl rfl rfl rfl (by decide +kernel) (by decide +kernel) (by decide +kernel)⟩,
   ⟨lnk act,
    2,
    sealFrame [] ({ ty := 19
                    sealed := true
                    lseq := 6
                    src := 9
                    payload := padPayload (leBytes 8 3 ++ leBytes 8 77 ++ zeros 16) }),
    { ty := 19, sealed := true, lseq := 6, src := 9, payload := padPayload (leBytes 8 3 ++ leBytes 8 77 ++ zeros 16) },
    by unfold Hears Quiet; and_intros <;> first | decide +kernel | rfl | exact openFrame_sealFrame rfl rfl rfl rfl (by decide +kernel) (by decide +kernel) (by decide +kernel)⟩,
   ⟨{ lnk act with
        fabric := { notices := [({ tag := 300, origin := .mailbox own })] }
        jobs := [({ cmd C.SHRED_STAGE 1 [] with phase := .peer })] },
    2,
    sealFrame [] ({ ty := 20, sealed := true, lseq := 6, src := 9, payload := padPayload (leBytes 8 300 ++ [0, 0]) }),
    { ty := 20, sealed := true, lseq := 6, src := 9, payload := padPayload (leBytes 8 300 ++ [0, 0]) },
    { tag := 300, origin := .mailbox own },
    own,
    { cmd C.SHRED_STAGE 1 [] with phase := .peer },
    by unfold Plain Hears Quiet; and_intros <;> first | decide +kernel | rfl | exact openFrame_sealFrame rfl rfl rfl rfl (by decide +kernel) (by decide +kernel) (by decide +kernel)⟩,
   ⟨{ lnk act with
        fabric := { notices := [({ tag := 300, origin := .mailbox own })] }
        jobs := [({ cmd C.SHRED_STAGE 1 [] with phase := .peer })] },
    { tag := 300, origin := .mailbox own },
    own,
    { cmd C.SHRED_STAGE 1 [] with phase := .peer },
    by unfold Plain; decide +kernel⟩,
   ⟨lnk act,
    2,
    sealFrame [] ({ ty := 35, sealed := true, lseq := 6, src := 9, payload := padPayload (ops 32 [(10, [0x20])]) }),
    { ty := 35, sealed := true, lseq := 6, src := 9, payload := padPayload (ops 32 [(10, [0x20])]) },
    by unfold Hears Quiet; and_intros <;> first | decide +kernel | rfl | exact openFrame_sealFrame rfl rfl rfl rfl (by decide +kernel) (by decide +kernel) (by decide +kernel)⟩,
   ⟨{ lnk act with
        fabric := { fetches := [({ origin := .mailbox own, tag := 300, ty := 0x25, item := 3 })] }
        jobs := [({ cmd C.SHRED_STAGE 1 [] with phase := .peer })] },
    2,
    sealFrame [] ({ ty := 35
                    sealed := true
                    lseq := 6
                    src := 9
                    payload := padPayload (ops 32 [(0, leBytes 8 300), (10, [16])]) }),
    { ty := 35, sealed := true, lseq := 6, src := 9, payload := padPayload (ops 32 [(0, leBytes 8 300), (10, [16])]) },
    { origin := .mailbox own, tag := 300, ty := 0x25, item := 3 },
    own,
    { cmd C.SHRED_STAGE 1 [] with phase := .peer },
    by unfold Plain Hears Quiet; and_intros <;> first | decide +kernel | rfl | exact openFrame_sealFrame rfl rfl rfl rfl (by decide +kernel) (by decide +kernel) (by decide +kernel)⟩,
   ⟨{ lnk act with
        fabric := { fetches := [({ origin := .mailbox own, tag := 300, ty := 0x25, item := 3 })] }
        jobs := [({ cmd C.SHRED_STAGE 1 [] with phase := .peer })] },
    { origin := .mailbox own, tag := 300, ty := 0x25, item := 3 },
    own,
    { cmd C.SHRED_STAGE 1 [] with phase := .peer },
    by unfold Plain; decide +kernel⟩⟩

/-- States and operands that meet the premises of ReplicasAndFetches, clause by clause. -/
theorem witness_ReplicasAndFetches :
    (∃ (s : State) (l : Nat) (f g : Frame) (a : Anchor), Hears s l f g ∧ f.ty = 0x20 ∧ f.dst = s.fabric.addr ∧
      a = parseAnchor (slice g.payload 16 64)) ∧
    (∃ (s : State) (l : Nat) (f g : Frame) (c : Bytes), Hears s l f g ∧ f.ty = 0x21 ∧ f.dst = s.fabric.addr ∧
      c = s.cdk.getD []) ∧
    (∃ (s : State) (l : Nat) (f g : Frame), Hears s l f g ∧ f.ty = 0x22 ∧ f.dst = s.fabric.addr) ∧
    (∃ (s : State) (l : Nat) (f g : Frame), Hears s l f g ∧ f.ty = 0x24 ∧ f.dst = s.fabric.addr) ∧
    (∃ (s : State) (l : Nat) (f g : Frame) (n : Fetch) (j : Job), Hears s l f g ∧ f.ty = 0x25 ∧ f.dst = s.fabric.addr ∧
      s.fabric.fetches = [n] ∧ n.ty = 0x25 ∧ n.item = u64 g.payload 8 ∧ s.job? n.origin = some j ∧ j.phase = .peer) ∧
    (∃ (s : State) (l w : Nat) (f g : Frame) (img : Bytes), Hears s l f g ∧ f.ty = 0x26 ∧ f.dst = s.fabric.addr ∧ w < 16 ∧
      (∀ x, x < 16 → x ≠ w → (s.ward x).staged = none) ∧ (s.ward w).staged = some img ∧ u64 img 16 = u64 g.payload 16 ∧
      u8 img 4 = u8 g.payload 8 ∧ 0 < img.length ∧ img.length ≤ 2016) ∧
    (∃ (s : State) (l : Nat) (f g : Frame) (n : Fetch) (j : Job), Hears s l f g ∧ f.ty = 0x27 ∧ f.dst = s.fabric.addr ∧
      s.fabric.fetches = [n] ∧ n.ty = 0x27 ∧ n.item = u64 g.payload 16 ∧ n.ward = u8 g.payload 8 ∧
      u64 g.payload 24 = n.got.length ∧ s.job? n.origin = some j ∧ j.phase = .peer ∧ (n.got ++
      g.payload.drop 32).length < 64) ∧
    (∃ (s : State) (l : Nat) (f g : Frame) (n : Fetch) (j : Job), Hears s l f g ∧ f.ty = 0x27 ∧ f.dst = s.fabric.addr ∧
      s.fabric.fetches = [n] ∧ n.ty = 0x27 ∧ n.item = u64 g.payload 16 ∧ n.ward = u8 g.payload 8 ∧
      u64 g.payload 24 = n.got.length ∧ s.job? n.origin = some j ∧ j.phase = .peer ∧ 64 ≤ (n.got ++
      g.payload.drop 32).length ∧ imageLen s (n.got ++ g.payload.drop 32) ≤ (n.got ++ g.payload.drop 32).length) :=
  ⟨⟨lnk act,
    2,
    sealFrame [] ({ ty := 32, sealed := true, lseq := 6, src := 9, payload := padPayload (leBytes 8 77 ++ zeros 72) }),
    { ty := 32, sealed := true, lseq := 6, src := 9, payload := padPayload (leBytes 8 77 ++ zeros 72) },
    _,
    by unfold Hears Quiet; and_intros <;> first | decide +kernel | rfl | exact openFrame_sealFrame rfl rfl rfl rfl (by decide +kernel) (by decide +kernel) (by decide +kernel),
       by and_intros <;> first | decide +kernel | rfl, by and_intros <;> first | decide +kernel | rfl, rfl⟩,
   ⟨lnk act,
    2,
    sealFrame [] ({ ty := 33, sealed := true, lseq := 6, src := 9, payload := padPayload (leBytes 8 77 ++ zeros 120) }),
    { ty := 33, sealed := true, lseq := 6, src := 9, payload := padPayload (leBytes 8 77 ++ zeros 120) },
    _,
    by unfold Hears Quiet; and_intros <;> first | decide +kernel | rfl | exact openFrame_sealFrame rfl rfl rfl rfl (by decide +kernel) (by decide +kernel) (by decide +kernel),
       by and_intros <;> first | decide +kernel | rfl, by and_intros <;> first | decide +kernel | rfl, rfl⟩,
   ⟨lnk act,
    2,
    sealFrame [] ({ ty := 34, sealed := true, lseq := 6, src := 9, payload := padPayload (leBytes 8 77 ++ zeros 8) }),
    { ty := 34, sealed := true, lseq := 6, src := 9, payload := padPayload (leBytes 8 77 ++ zeros 8) },
    by unfold Hears Quiet; and_intros <;> first | decide +kernel | rfl | exact openFrame_sealFrame rfl rfl rfl rfl (by decide +kernel) (by decide +kernel) (by decide +kernel)⟩,
   ⟨lnk act,
    2,
    sealFrame [] ({ ty := 36, sealed := true, lseq := 6, src := 9, payload := padPayload (leBytes 8 77 ++ zeros 8) }),
    { ty := 36, sealed := true, lseq := 6, src := 9, payload := padPayload (leBytes 8 77 ++ zeros 8) },
    by unfold Hears Quiet; and_intros <;> first | decide +kernel | rfl | exact openFrame_sealFrame rfl rfl rfl rfl (by decide +kernel) (by decide +kernel) (by decide +kernel)⟩,
   ⟨{ lnk act with
        fabric := { fetches := [({ origin := .mailbox own, tag := 300, ty := 0x25, item := 3 })] }
        jobs := [({ cmd C.SHRED_STAGE 1 [] with phase := .peer })] },
    2,
    sealFrame [] ({ ty := 37
                    sealed := true
                    lseq := 6
                    src := 9
                    payload := padPayload (leBytes 8 77 ++ leBytes 8 3 ++ zeros 112) }),
    { ty := 37, sealed := true, lseq := 6, src := 9, payload := padPayload (leBytes 8 77 ++ leBytes 8 3 ++ zeros 112) },
    { origin := .mailbox own, tag := 300, ty := 0x25, item := 3 },
    { cmd C.SHRED_STAGE 1 [] with phase := .peer },
    by unfold Hears Quiet; and_intros <;> first | decide +kernel | rfl | exact openFrame_sealFrame rfl rfl rfl rfl (by decide +kernel) (by decide +kernel) (by decide +kernel)⟩,
   ⟨{ lnk act with wards := [(3, { staged := some (ops 64 [(4, [2]), (16, [7])]) })] },
    2,
    3,
    sealFrame [] ({ ty := 38
                    sealed := true
                    lseq := 6
                    src := 9
                    payload := padPayload (ops 32 [(0, leBytes 8 77), (8, [2]), (16, [7])]) }),
    { ty := 38
      sealed := true
      lseq := 6
      src := 9
      payload := padPayload (ops 32 [(0, leBytes 8 77), (8, [2]), (16, [7])]) },
    ops 64 [(4, [2]), (16, [7])],
    by unfold Hears Quiet; and_intros <;> first | decide +kernel | rfl | exact openFrame_sealFrame rfl rfl rfl rfl (by decide +kernel) (by decide +kernel) (by decide +kernel)⟩,
   ⟨{ lnk act with
        fabric := { fetches := [({ origin := .mailbox own, tag := 300, ty := 0x27, item := 7, ward := 3 })] }
        jobs := [({ cmd C.SHRED_STAGE 1 [] with phase := .peer })] },
    2,
    sealFrame [] ({ ty := 39, sealed := true, lseq := 6, src := 9, payload := padPayload (ops 48 [(8, [3]), (16, [7])]) }),
    { ty := 39, sealed := true, lseq := 6, src := 9, payload := padPayload (ops 48 [(8, [3]), (16, [7])]) },
    { origin := .mailbox own, tag := 300, ty := 0x27, item := 7, ward := 3 },
    { cmd C.SHRED_STAGE 1 [] with phase := .peer },
    by unfold Hears Quiet; and_intros <;> first | decide +kernel | rfl | exact openFrame_sealFrame rfl rfl rfl rfl (by decide +kernel) (by decide +kernel) (by decide +kernel)⟩,
   ⟨{ lnk act with
        fabric := { fetches := [({ origin := .mailbox own, tag := 300, ty := 0x27, item := 7, ward := 3 })] }
        jobs := [({ cmd C.SHRED_STAGE 1 [] with phase := .peer })] },
    2,
    sealFrame [] ({ ty := 39, sealed := true, lseq := 6, src := 9, payload := padPayload (ops 96 [(8, [3]), (16, [7])]) }),
    { ty := 39, sealed := true, lseq := 6, src := 9, payload := padPayload (ops 96 [(8, [3]), (16, [7])]) },
    { origin := .mailbox own, tag := 300, ty := 0x27, item := 7, ward := 3 },
    { cmd C.SHRED_STAGE 1 [] with phase := .peer },
    by unfold Hears Quiet; and_intros <;> first | decide +kernel | rfl | exact openFrame_sealFrame rfl rfl rfl rfl (by decide +kernel) (by decide +kernel) (by decide +kernel)⟩⟩

/-- States and operands that meet the premises of EnrolmentFromAPeer, clause by clause. -/
theorem witness_EnrolmentFromAPeer :
    (∃ (s : State) (b : BindId) (j : Job), Runs s (.mailbox b) C.FAB_ENROL_GRANT 0 j ∧ Plain j ∧ s.keyed = true) ∧
    (∃ (s : State) (b : BindId) (j : Job) (l n : Nat) (d : Drbg) (a c : SlotHalf), Runs s (.mailbox b) C.FAB_ENROL 0 j ∧
      Plain j ∧ s.tkn.ceremony.state = 0 ∧ s.fabric.enrol = none ∧ s.keyed = false ∧ l = u8 j.ops 0 ∧ l ≤ 7 ∧
      (s.link l).level ≠ 0 ∧ d = s.drbgs.get {} 4096 ∧ d.inst = true ∧ d.requests < 2 ^ 19 ∧
      (s.drbgs.get {} 4098).inst = true ∧ (s.drbgs.get {} 4098).requests < 2 ^ 19 ∧ freeEngine s = some n ∧ s.mode ≠ .hush ∧
      activeHalf s 0 = some a ∧ activeHalf s 1 = some c) ∧
    (∃ (s : State) (l : Nat) (f g : Frame) (parts : List Bytes), Hears s l f g ∧ f.ty = 0x28 ∧
      addPart (s.link l).enrolReq g.payload = some parts ∧ wholeOf parts g.payload = none) ∧
    (∃ (s : State) (l : Nat) (f g : Frame) (parts : List Bytes) (m : Bytes), Hears s l f g ∧ f.ty = 0x28 ∧
      addPart (s.link l).enrolReq g.payload = some parts ∧ wholeOf parts g.payload = some m) ∧
    (∃ (s : State) (l : Nat) (f g : Frame) (e : Enrol) (b : BindId) (j : Job) (parts : List Bytes) (m : Bytes),
      Hears s l f g ∧ f.ty = 0x29 ∧ addPart (s.link l).enrolResp g.payload = some parts ∧ wholeOf parts g.payload = some m ∧
      s.fabric.enrol = some e ∧ e.origin = .mailbox b ∧ e.link = l ∧ s.job? (.mailbox b) = some j ∧ j.phase = .peer ∧
      Plain j ∧ u8 m 0 ≠ 0) ∧
    (∃ (s : State) (l : Nat) (f g : Frame) (e : Enrol) (o : Origin) (j : Job) (parts : List Bytes) (m : Bytes),
      Hears s l f g ∧ f.ty = 0x29 ∧ addPart (s.link l).enrolResp g.payload = some parts ∧ wholeOf parts g.payload = some m ∧
      s.fabric.enrol = some e ∧ e.origin = o ∧ e.link = l ∧ s.job? o = some j ∧ j.phase = .peer) ∧
    (∃ (s : State) (e : Enrol) (b : BindId) (j : Job), s.fabric.enrol = some e ∧ e.origin = .mailbox b ∧
      s.job? (.mailbox b) = some j ∧ j.phase = .peer ∧ Plain j) :=
  ⟨⟨with1 (cmd C.FAB_ENROL_GRANT 0 [(0, leBytes 8 77)]), own, cmd C.FAB_ENROL_GRANT 0 [(0, leBytes 8 77)],
    by unfold Runs Plain; decide +kernel⟩,
   ⟨{ lnk act with
        keyed := false
        drbgs := [(4096, gen), (4098, gen)]
        slots := ids
        jobs := [(cmd C.FAB_ENROL 0 [(0, [2])])] },
    own,
    cmd C.FAB_ENROL 0 [(0, [2])],
    _,
    0,
    _,
    { cls := 6 },
    { cls := 9 },
    by unfold Runs; decide +kernel, by unfold Plain; decide +kernel, by decide +kernel, by decide +kernel,
       by decide +kernel, rfl, by decide +kernel, by decide +kernel, rfl, by decide +kernel⟩,
   ⟨lnk act,
    2,
    sealFrame [] ({ ty := 40
                    sealed := true
                    lseq := 6
                    src := 9
                    payload := padPayload ([0, 0, 4, 0] ++ leBytes 4 6387 ++ zeros 2040) }),
    { ty := 40, sealed := true, lseq := 6, src := 9, payload := padPayload ([0, 0, 4, 0] ++ leBytes 4 6387 ++ zeros 2040) },
    [zeros 2040],
    by unfold Hears Quiet; and_intros <;> first | decide +kernel | rfl | exact openFrame_sealFrame rfl rfl rfl rfl (by decide +kernel) (by decide +kernel) (by decide +kernel)⟩,
   ⟨lnk act,
    2,
    sealFrame [] ({ ty := 40
                    sealed := true
                    lseq := 6
                    src := 9
                    payload := padPayload ([0, 0, 1, 0] ++ leBytes 4 64 ++ zeros 64) }),
    { ty := 40, sealed := true, lseq := 6, src := 9, payload := padPayload ([0, 0, 1, 0] ++ leBytes 4 64 ++ zeros 64) },
    [zeros 64],
    zeros 64,
    by unfold Hears Quiet; and_intros <;> first | decide +kernel | rfl | exact openFrame_sealFrame rfl rfl rfl rfl (by decide +kernel) (by decide +kernel) (by decide +kernel)⟩,
   ⟨{ lnk act with
        fabric := { enrol := some ({ origin := .mailbox own, link := 2, req := [1], x448 := [2], kem := [3] }) }
        jobs := [({ cmd C.FAB_ENROL 1 [] with phase := .peer })] },
    2,
    sealFrame [] ({ ty := 41
                    sealed := true
                    lseq := 6
                    src := 9
                    payload := padPayload ([0, 0, 1, 0] ++ leBytes 4 32 ++ [1] ++ zeros 31) }),
    { ty := 41
      sealed := true
      lseq := 6
      src := 9
      payload := padPayload ([0, 0, 1, 0] ++ leBytes 4 32 ++ [1] ++ zeros 31) },
    { origin := .mailbox own, link := 2, req := [1], x448 := [2], kem := [3] },
    own,
    { cmd C.FAB_ENROL 1 [] with phase := .peer },
    [([1] ++ zeros 31)],
    [1] ++ zeros 31,
    by unfold Plain Hears Quiet; and_intros <;> first | decide +kernel | rfl | exact openFrame_sealFrame rfl rfl rfl rfl (by decide +kernel) (by decide +kernel) (by decide +kernel)⟩,
   ⟨{ lnk act with
        fabric := { enrol := some ({ origin := .mailbox own, link := 2, req := [1], x448 := [2], kem := [3] }) }
        jobs := [({ cmd C.FAB_ENROL 1 [] with phase := .peer })] },
    2,
    sealFrame [] ({ ty := 41
                    sealed := true
                    lseq := 6
                    src := 9
                    payload := padPayload ([0, 0, 1, 0] ++ leBytes 4 1688 ++ zeros 1688) }),
    { ty := 41, sealed := true, lseq := 6, src := 9, payload := padPayload ([0, 0, 1, 0] ++ leBytes 4 1688 ++ zeros 1688) },
    { origin := .mailbox own, link := 2, req := [1], x448 := [2], kem := [3] },
    .mailbox own,
    { cmd C.FAB_ENROL 1 [] with phase := .peer },
    [(zeros 1688)],
    zeros 1688,
    by unfold Hears Quiet; and_intros <;> first | decide +kernel | rfl | exact openFrame_sealFrame rfl rfl rfl rfl (by decide +kernel) (by decide +kernel) (by decide +kernel)⟩,
   ⟨{ lnk act with
        fabric := { enrol := some ({ origin := .mailbox own, link := 2, req := [1], x448 := [2], kem := [3] }) }
        jobs := [({ cmd C.FAB_ENROL 1 [] with phase := .peer })] },
    { origin := .mailbox own, link := 2, req := [1], x448 := [2], kem := [3] },
    own,
    { cmd C.FAB_ENROL 1 [] with phase := .peer },
    by unfold Plain; decide +kernel⟩⟩

/-- States and operands that meet the premises of FabricCommands, clause by clause. -/
theorem witness_FabricCommands :
    (∃ (s : State) (b : BindId) (j : Job), Runs s (.mailbox b) C.FAB_DOMAIN_SET 1 j ∧ Plain j) ∧
    (∃ (s : State) (b : BindId) (j : Job) (n : Nat) (mine : List Nat), Runs s (.mailbox b) C.FAB_REPL_RESEND 0 j ∧
      n = u16 j.ops 0 ∧ n < s.fabric.peers.length ∧ n ≠ 0xFFFF ∧ bitOf (u8 j.ops 2) 0 = true ∧
      bitOf (u8 j.ops 2) 1 = false ∧ mine = (s.agate.anchors.filter fun e => !isReplica e.2).map (·.1) ∧ mine ≠ []) ∧
    (∃ (s : State) (b : BindId) (j : Job), Runs s (.mailbox b) C.FAB_REPL_RESEND 0 j ∧ Plain j ∧ u16 j.ops 0 ≠ 0xFFFF ∧
      s.fabric.peers.length ≤ u16 j.ops 0) ∧
    (∃ (s : State) (r : Resend) (p a q : Nat) (x : Anchor) (rest : List (Nat × Nat)), s.fabric.resend = some r ∧
      r.left = (p, a) :: (q, a) :: rest ∧ anchorOf s a = some x) ∧
    (∃ (s : State) (r : Resend) (b : BindId) (j : Job) (p a : Nat), s.fabric.resend = some r ∧ r.left = [(p, a)] ∧
      anchorOf s a = none ∧ r.origin = .mailbox b ∧ s.job? (.mailbox b) = some j ∧ Plain j) ∧
    (∃ (s : State) (b : BindId) (j : Job) (es : List ReplEntry), Runs s (.mailbox b) C.FAB_REPL_LOG_READ 0 j ∧ Plain j ∧
      u16 j.ops 0 ≤ 255 ∧ 1 ≤ u16 j.ops 2 ∧ u16 j.ops 2 ≤ 256 ∧
      refCheck s j (hostRef j.ops 16) (48 * u16 j.ops 2) maxLen = none ∧
      canDma s (dmaBind s j (hostRef j.ops 16).port) = true ∧
      es = (s.fabric.replLog.drop (u16 j.ops 0)).take (u16 j.ops 2) ∧ es ≠ []) ∧
    (∃ (s : State) (b : BindId) (j : Job) (p : Bytes), Runs s (.mailbox b) C.FAB_ROOT_FETCH 1 j ∧ Plain j ∧
      p = j.data.headD [] ∧ 24 < p.length ∧ canDma s (dmaBind s j (hostRef j.ops 16).port) = true) ∧
    (∃ (s : State) (b : BindId) (j : Job) (l : Nat), Runs s (.mailbox b) C.FAB_WAKE 0 j ∧ Plain j ∧
      dormantLink s (u16 j.ops 0) = some l) :=
  ⟨⟨with1 (cmd C.FAB_DOMAIN_SET 1 [(0, [2, 1]), (8, [77])]), own, cmd C.FAB_DOMAIN_SET 1 [(0, [2, 1]), (8, [77])],
    by unfold Runs Plain; decide +kernel⟩,
   ⟨{ with1 (cmd C.FAB_REPL_RESEND 0 [(2, [1])]) with
        fabric := { peers := [{ id := 77 }] }
        agate := { svc.agate with anchors := [(5, { uid := 5 }), (6, { uid := 6 })] } },
    own,
    cmd C.FAB_REPL_RESEND 0 [(2, [1])],
    _,
    _,
    by unfold Runs; decide +kernel, rfl, by decide +kernel, by decide +kernel, by decide +kernel, by decide +kernel, rfl,
       by decide +kernel⟩,
   ⟨{ with1 (cmd C.FAB_REPL_RESEND 0 [(0, [1]), (2, [1])]) with
        fabric := { peers := [{ id := 77 }] }
        agate := { svc.agate with anchors := [(5, { uid := 5 }), (6, { uid := 6 })] } },
    own,
    cmd C.FAB_REPL_RESEND 0 [(0, [1]), (2, [1])],
    by unfold Runs Plain; decide +kernel⟩,
   ⟨{ svc with
        agate := { svc.agate with anchors := [(5, { uid := 5 })] }
        fabric := { peers := [{ id := 77 }], resend := some ({ origin := .mailbox own, left := [(0, 5), (0, 5)] }) } },
    { origin := .mailbox own, left := [(0, 5), (0, 5)] },
    0,
    5,
    0,
    { uid := 5 },
    [],
    by decide +kernel⟩,
   ⟨{ with1 ({ cmd C.FAB_REPL_RESEND 1 [] with phase := .peer }) with
        fabric := { resend := some ({ origin := .mailbox own, left := [(0, 7)], anchors := 3 }) } },
    { origin := .mailbox own, left := [(0, 7)], anchors := 3 },
    own,
    { cmd C.FAB_REPL_RESEND 1 [] with phase := .peer },
    0,
    7,
    by unfold Plain; decide +kernel⟩,
   ⟨{ with1 (cmd C.FAB_REPL_LOG_READ 0 [(2, [1]), (16, ref 48)]) with
        fabric := { replLog := ([{ payload := zeros 32, time := 5, state := 1, peer := 0 }]) } },
    own,
    cmd C.FAB_REPL_LOG_READ 0 [(2, [1]), (16, ref 48)],
    _,
    by unfold Runs; decide +kernel, by unfold Plain; decide +kernel, by decide +kernel, by decide +kernel,
       by decide +kernel, by decide +kernel, by decide +kernel, rfl, by decide +kernel⟩,
   ⟨with1 ({ cmd C.FAB_ROOT_FETCH 1 [(16, ref 104)] with data := [zeros 128] }),
    own,
    { cmd C.FAB_ROOT_FETCH 1 [(16, ref 104)] with data := [zeros 128] },
    _,
    by unfold Runs; decide +kernel, by unfold Plain; decide +kernel, rfl, by decide +kernel⟩,
   ⟨{ lnk { state := .peerDormant, partnerAddr := 9 } with jobs := [(cmd C.FAB_WAKE 0 [(0, [9])])] },
    own,
    cmd C.FAB_WAKE 0 [(0, [9])],
    2,
    by unfold Runs Plain; decide +kernel⟩⟩

/-- States and operands that meet the premises of RecorderRuns, clause by clause. -/
theorem witness_RecorderRuns :
    (∃ (s : State) (e : EvEntry) (q : List EvEntry), s.recorder.fifo = e :: q ∧ s.recorder.clearing = false ∧
      s.recorder.settled = true ∧ s.mode ≠ .dormant ∧ s.recorder.head < s.logSize ∧ s.recorder.bodyDone = false ∧
      refreshing s (12290 + s.recorder.head / logPerSector s) = false) ∧
    (∃ (s : State) (e : EvEntry) (q : List EvEntry), s.recorder.fifo = e :: q ∧ s.recorder.clearing = false ∧
      s.recorder.settled = true ∧ s.mode ≠ .dormant ∧ s.recorder.head + 1 < s.logLast ∧ s.recorder.bodyDone = true ∧
      (∀ j ∈ s.jobs, j.code ≠ C.EVR_CLEAR) ∧ refreshing s (12290 + s.recorder.head / logPerSector s) = false) ∧
    (∃ (s : State) (e : EvEntry) (q : List EvEntry), s.recorder.fifo = e :: q ∧ s.recorder.clearing = false ∧
      s.recorder.settled = true ∧ s.mode ≠ .dormant ∧ s.recorder.head + 1 < s.logLast ∧ s.recorder.retried = false ∧
      refreshing s (12290 + s.recorder.head / logPerSector s) = false) ∧
    (∃ (s : State), s.mode ≠ .dormant ∧ s.recorder.settled = true ∧ s.recorder.ctl.length < 127) ∧
    (∃ (s : State) (b : BindId) (j : Job) (r : Bytes × Nat × Nat × Nat), Runs s (.mailbox b) C.EVR_READ 0 j ∧ Plain j ∧
      1 ≤ u16 j.ops 4 ∧ u16 j.ops 4 ≤ 1024 ∧
      refCheck s j (hostRef j.ops 16) (u16 j.ops 4 * (if s.recorder.compat then 32 else 256)) maxLen = none ∧
      s.recorder.clearing = false ∧ u32 j.ops 0 < s.recorder.head ∧ canDma s (dmaBind s j (hostRef j.ops 16).port) = true ∧
      r = readRecords s (s.recorder.head - u32 j.ops 0) (u32 j.ops 0) (u16 j.ops 4)) ∧
    (∃ (s : State) (b : BindId) (j : Job), Runs s (.mailbox b) C.EVR_READ 0 j ∧ Plain j ∧ 1 ≤ u16 j.ops 4 ∧
      u16 j.ops 4 ≤ 1024 ∧
      refCheck s j (hostRef j.ops 16) (u16 j.ops 4 * (if s.recorder.compat then 32 else 256)) maxLen = none ∧
      s.recorder.clearing = true) ∧
    (∃ (s : State) (bs : Bytes) (r : Bytes × Nat × Nat × Nat), s.boot.haltLoop = true ∧ s.recorder.clearing = false ∧
      1 ≤ u16 bs 4 ∧ u16 bs 4 ≤ 1024 ∧ u32 bs 0 < s.recorder.head ∧
      r = readRecords s (s.recorder.head - u32 bs 0) (u32 bs 0) (u16 bs 4)) ∧
    (∃ (s : State) (bs : Bytes), s.boot.haltLoop = true ∧ s.recorder.clearing = false ∧ 1 ≤ u16 bs 4 ∧ u16 bs 4 ≤ 1024 ∧
      s.recorder.head ≤ u32 bs 0) ∧
    (∃ (s : State) (b : BindId) (j : Job), Runs s (.mailbox b) C.EVR_CONFIG_READ 0 j ∧ Plain j ∧
      refCheck s j (hostRef j.ops 16) 1728 maxLen = none ∧ canDma s (dmaBind s j (hostRef j.ops 16).port) = true) ∧
    (∃ (s : State) (b : BindId) (j : Job), Runs s (.mailbox b) C.EVR_CLEAR 0 j ∧ evrClearCheck s j = none ∧ u8 j.ops 1 = 1 ∧
      s.recorder.fifo = []) ∧
    (∃ (s : State) (b : BindId) (j : Job), Runs s (.mailbox b) C.EVR_CLEAR 2 j ∧ s.recorder.bodyDone = false ∧
      s.recorder.ctl.length < 127 ∧ 0 < s.recorder.head) ∧
    (∃ (s : State) (b : BindId) (j : Job), Runs s (.mailbox b) C.EVR_CLEAR 3 j ∧ Plain j ∧ u8 j.ops 1 = 1 ∧
      listGet 0 j.args 0 < 2) :=
  ⟨⟨{ svc with recorder := { fifo := [({ code := 0x8101 })], settled := true } }, { code := 0x8101 }, [],
    by decide +kernel⟩,
   ⟨{ svc with
        recorder := { fifo := [({ code := 0x8101 })]
                      settled := true
                      bodyDone := true
                      log := [(0, { entry := ({ code := 0x8101 }) })] } },
    { code := 0x8101 },
    [],
    by decide +kernel⟩,
   ⟨{ svc with recorder := { fifo := [({ code := 0x8101 })], settled := true } }, { code := 0x8101 }, [],
    by decide +kernel⟩,
   ⟨{ svc with recorder := { settled := true } }, by decide +kernel⟩,
   ⟨{ svc with
        recorder := { settled := true
                      head := 2
                      log := [(0, { entry := { code := 0x8101 }, mark := 0x5A }), (1, { entry := { code := 0x8101 } })] }
        jobs := [(cmd C.EVR_READ 0 [(4, [2]), (16, ref 512)])] },
    own,
    cmd C.EVR_READ 0 [(4, [2]), (16, ref 512)],
    _,
    by unfold Runs; decide +kernel, by unfold Plain; decide +kernel, by decide +kernel, by decide +kernel,
       by decide +kernel, by decide +kernel, by decide +kernel, by decide +kernel, rfl⟩,
   ⟨{ svc with recorder := { clearing := true }, jobs := [(cmd C.EVR_READ 0 [(4, [2]), (16, ref 512)])] },
    own,
    cmd C.EVR_READ 0 [(4, [2]), (16, ref 512)],
    by unfold Runs Plain; decide +kernel⟩,
   ⟨{ svc with
        boot := { svc.boot with haltLoop := true }
        recorder := { settled := true
                      head := 2
                      log := [(0, { entry := { code := 0x8101 }, mark := 0x5A }), (1, { entry := { code := 0x8101 } })] } },
    ops 16 [(4, [2])],
    _,
    by decide +kernel, by decide +kernel, by decide +kernel, by decide +kernel, by decide +kernel, rfl⟩,
   ⟨{ svc with boot := { svc.boot with haltLoop := true }, recorder := { head := 5 } }, ops 16 [(0, [5]), (4, [2])],
    by decide +kernel⟩,
   ⟨with1 (cmd C.EVR_CONFIG_READ 0 [(16, ref 1728)]), own, cmd C.EVR_CONFIG_READ 0 [(16, ref 1728)],
    by unfold Runs Plain; decide +kernel⟩,
   ⟨{ svc with
        recorder := { settled := true
                      head := 2
                      log := [(0, { entry := { code := 0x8101 }, mark := 0x5A }), (1, { entry := { code := 0x8101 } })] }
        jobs := [(cmd C.EVR_CLEAR 0 [(1, [1])])] },
    own,
    cmd C.EVR_CLEAR 0 [(1, [1])],
    by unfold Runs; decide +kernel⟩,
   ⟨{ svc with
        recorder := { settled := true
                      head := 2
                      log := [(0, { entry := { code := 0x8101 }, mark := 0x5A }), (1, { entry := { code := 0x8101 } })] }
        jobs := [(cmd C.EVR_CLEAR 2 [(1, [1])])] },
    own,
    cmd C.EVR_CLEAR 2 [(1, [1])],
    by unfold Runs; decide +kernel⟩,
   ⟨{ svc with
        recorder := { settled := true
                      head := 2
                      log := [(0, { entry := { code := 0x8101 }, mark := 0x5A }), (1, { entry := { code := 0x8101 } })]
                      clearing := true }
        jobs := [(cmd C.EVR_CLEAR 3 [(1, [1])])] },
    own,
    cmd C.EVR_CLEAR 3 [(1, [1])],
    by unfold Runs Plain; decide +kernel⟩⟩

/-- States and operands that meet the premises of FirmwareCommands, clause by clause. -/
theorem witness_FirmwareCommands :
    (∃ (s : State) (b : BindId) (j : Job), Runs s (.mailbox b) C.FW_ACTIVATE 0 j ∧ Plain j ∧
      imgState s (otherImage s) = .staged ∧ imgFirst s = otherImage s ∧ dormantReady s (.mailbox b) = true) ∧
    (∃ (s : State) (b : BindId) (j : Job), Runs s (.mailbox b) C.FW_ACTIVATE 0 j ∧ Plain j ∧
      imgState s (otherImage s) ≠ .staged) ∧
    (∃ (s : State) (b : BindId) (j : Job) (k r : Nat), Runs s (.mailbox b) C.FW_COMMIT 0 j ∧ commitCheck s j = none ∧
      commitTarget s (bitOf (u8 j.ops 0) 1) = (k, r)) ∧
    (∃ (s : State) (j : Job), s.jobs.find? (fun j => j.code == C.FW_COMMIT && j.phase == .fuse) = some j ∧
      s.fuses.svn + 1 < listGet 0 j.args 0) ∧
    (∃ (s : State) (b : BindId) (j : Job), s.jobs.find? (fun j => j.code == C.FW_COMMIT && j.phase == .fuse) = some j ∧
      j.origin = .mailbox b ∧ Plain j ∧ s.fuses.svn + 1 = listGet 0 j.args 0 ∧ s.fuses.keyRevoke % 16 = listGet 0 j.args 1) ∧
    (∃ (s : State), fwRuns s = true) ∧
    (∃ (s : State) (code : Nat), fwRuns s = true ∧ codeAccepted true code = true ∧ codeExempt code = false ∧
      s.recorder.logFull = false ∧ s.recorder.head < s.logSize ∧ s.evrTokens code ≠ 0 ∧ s.recorder.fifo.length < 60) ∧
    (∃ (s : State) (code : Nat), fwRuns s = true ∧ codeAccepted true code = false) :=
  ⟨⟨{ with1 (cmd C.FW_ACTIVATE 0 []) with
        tenants := []
        nor := norAt (imgBase 0 + 6) [1, 0]
        boot := { svc.boot with imgB := { state := .staged } } },
    own,
    cmd C.FW_ACTIVATE 0 [],
    by unfold Runs Plain; decide +kernel⟩,
   ⟨with1 (cmd C.FW_ACTIVATE 0 []), own, cmd C.FW_ACTIVATE 0 [], by unfold Runs Plain; decide +kernel⟩,
   ⟨{ with1 (cmd C.FW_COMMIT 0 [(0, [1])]) with nor := norAt (imgBase 0 + 6) [7, 0] },
    own,
    cmd C.FW_COMMIT 0 [(0, [1])],
    7,
    0,
    by unfold Runs; decide +kernel⟩,
   ⟨with1 ({ cmd C.FW_COMMIT 0 [] with phase := .fuse, args := [7, 0] }),
    { cmd C.FW_COMMIT 0 [] with phase := .fuse, args := [7, 0] },
    by decide +kernel⟩,
   ⟨with1 ({ cmd C.FW_COMMIT 0 [] with phase := .fuse, args := [1, 0] }),
    own,
    { cmd C.FW_COMMIT 0 [] with phase := .fuse, args := [1, 0] },
    by unfold Plain; decide +kernel⟩,
   ⟨{ svc with nor := norAt (imgBase 0 + 16) (zeros 4) }, by decide +kernel⟩,
   ⟨{ svc with recorder := { counts := [(0x8EC1, {})] } }, 0x8EC1, by decide +kernel⟩,
   ⟨svc, 5, by decide +kernel⟩⟩

/-- States and operands that meet the premises of QuartzRequestsSensorsAndBus, clause by clause. -/
theorem witness_QuartzRequestsSensorsAndBus :
    (∃ (s : State), s.boot.gateOpen = true ∧ fwRuns s = true) ∧
    (∃ (s : State) (e : Nat) (d r : Bytes), s.boot.gateOpen = true ∧ fwRuns s = true ∧ d.length = 32 ∧
      hasIdentity s = true ∧ freeEngine s = some e ∧ s.mode ≠ .hush ∧ (s.drbgs.get {} 4108).inst = true ∧
      (s.drbgs.get {} 4108).requests < 2 ^ 19 ∧ r = (List.range 88).map (Config.drbgOut (s.drbgs.get {} 4108).kv 88)) ∧
    (∃ (s : State) (e : Nat) (m r : Bytes), s.boot.gateOpen = true ∧ fwRuns s = true ∧ keptMessage s m = true ∧
      hasIdentity s = true ∧ freeEngine s = some e ∧ s.mode ≠ .hush ∧ (s.drbgs.get {} 4108).inst = true ∧
      (s.drbgs.get {} 4108).requests < 2 ^ 19 ∧ r = (List.range 56).map (Config.drbgOut (s.drbgs.get {} 4108).kv 56)) ∧
    (∃ (s : State) (m : Bytes), s.boot.gateOpen = true ∧ fwRuns s = true ∧ keptMessage s m = false) ∧
    (∃ (s : State), s.boot.gateOpen = false) ∧
    (∃ (s : State), s.mode ≠ .dormant) ∧
    (∃ (s : State) (c : MgmtConn) (req : Bytes), mgmtOpen s c = true ∧ u8 req 2 % 4 ≤ 1 ∧ u8 req 3 ≠ 0 ∧ u8 req 3 ≠ 0xFF ∧
      4 ≤ req.length) ∧
    (∃ (s : State) (c : MgmtConn), mgmtOpen s c = false) ∧
    (∃ (s : State), mgmtOpen s .port = true ∧ s.quartz.dynAddr = 0) ∧
    (∃ (s : State), mgmtOpen s .port = true) ∧
    (∃ (s : State), s.boot.gateOpen = true ∧ fwRuns s = true ∧ s.mode = .hush) :=
  ⟨⟨svc, by decide +kernel⟩,
   ⟨{ svc with slots := ids }, 0, zeros 32, _,
    by and_intros <;> first | decide +kernel | rfl, by and_intros <;> first | decide +kernel | rfl,
       by and_intros <;> first | decide +kernel | rfl, by and_intros <;> first | decide +kernel | rfl,
       by and_intros <;> first | decide +kernel | rfl, by and_intros <;> first | decide +kernel | rfl,
       by and_intros <;> first | decide +kernel | rfl, by and_intros <;> first | decide +kernel | rfl, rfl⟩,
   ⟨{ svc with slots := ids, quartz := { fwRunning := true, conns := [(0, { kept := some [1] })] } }, 0, [1], _,
    by and_intros <;> first | decide +kernel | rfl, by and_intros <;> first | decide +kernel | rfl,
       by and_intros <;> first | decide +kernel | rfl, by and_intros <;> first | decide +kernel | rfl,
       by and_intros <;> first | decide +kernel | rfl, by and_intros <;> first | decide +kernel | rfl,
       by and_intros <;> first | decide +kernel | rfl, by and_intros <;> first | decide +kernel | rfl, rfl⟩,
   ⟨svc, [1], by decide +kernel⟩,
   ⟨State.reset, by decide +kernel⟩,
   ⟨svc, by decide +kernel⟩,
   ⟨svc, .port, [0, 1, 0, 9], by decide +kernel⟩,
   ⟨State.reset, .port, by decide +kernel⟩,
   ⟨svc, by decide +kernel⟩,
   ⟨{ svc with quartz := { fwRunning := true, dynAddr := 9 } }, by decide +kernel⟩,
   ⟨{ svc with mode := .hush }, by decide +kernel⟩⟩

/-- States and operands that meet the premises of AttestationCommands, clause by clause. -/
theorem witness_AttestationCommands :
    (∃ (s : State) (b : BindId) (j : Job) (n : Nat), Runs s (.mailbox b) C.ATTEST_GET 0 j ∧ Undisputed s j ∧
      j.owner = true ∧ attestCheck s j = none ∧ claimFault s (claimSlots j.ops 64 (u8 j.ops 4)) = none ∧
      (u8 j.ops 5).testBit 0 = true ∧ freeEngine s = some n ∧ (∀ k ∈ s.jobs, k.origin = .mailbox b) ∧ (∀ e ∈ s.arith,
      e.2.work = none) ∧ s.mode ≠ .hush ∧ j.arith = none ∧ (s.drbgs.get {} 4096).inst = true ∧
      (s.drbgs.get {} 4096).requests < 2 ^ 19) ∧
    (∃ (s : State) (b : BindId) (j : Job) (sig body : Bytes) (m : Nat), Runs s (.mailbox b) C.ATTEST_GET 51 j ∧ Plain j ∧
      u8 j.ops 5 = 1 ∧ j.args = [1, m] ∧ j.keep = [sig, body, []] ∧ body ≠ [] ∧ j.arith = none ∧
      canDma s (dmaBind s j (hostRef j.ops 48).port) = true) ∧
    (∃ (s : State) (b : BindId) (j : Job), Runs s (.mailbox b) C.FAIL_STATEMENT 0 j ∧ Plain j ∧ j.arith = none ∧
      refCheck s j (hostRef j.ops 32) 5331 maxLen = none ∧ canDma s (dmaBind s j (hostRef j.ops 32).port) = true ∧
      hasIdentity s = false) ∧
    (∃ (s : State), s.mode = .lockdown ∧ hasIdentity s = false) ∧
    (∃ (s : State) (r : Bytes) (n : Nat), s.mode = .lockdown ∧ hasIdentity s = true ∧ freeEngine s = some n ∧
      (s.drbgs.get {} 4108).inst = true ∧ (s.drbgs.get {} 4108).requests < 2 ^ 19 ∧
      r = (List.range 88).map (Config.drbgOut (s.drbgs.get {} 4108).kv 88)) ∧
    (∃ (s : State), s.mode ≠ .lockdown) :=
  ⟨⟨{ { svc with slots := ids } with drbgs := [(4096, gen)], jobs := [(cmd C.ATTEST_GET 0 [(5, [1]), (48, ref 16384)])] },
    own,
    cmd C.ATTEST_GET 0 [(5, [1]), (48, ref 16384)],
    0,
    by unfold Runs Undisputed; decide +kernel⟩,
   ⟨{ { svc with slots := ids } with
        jobs := [({ cmd C.ATTEST_GET 51 [(5, [1]), (48, ref 16384)] with args := [1, 1], keep := [zeros 40, zeros 64, []] })] },
    own,
    { cmd C.ATTEST_GET 51 [(5, [1]), (48, ref 16384)] with args := [1, 1], keep := [zeros 40, zeros 64, []] },
    zeros 40,
    zeros 64,
    1,
    by unfold Runs Plain; decide +kernel⟩,
   ⟨with1 (cmd C.FAIL_STATEMENT 0 [(32, ref 5331)]), own, cmd C.FAIL_STATEMENT 0 [(32, ref 5331)],
    by unfold Runs Plain; decide +kernel⟩,
   ⟨{ svc with mode := .lockdown }, by decide +kernel⟩,
   ⟨{ { svc with slots := ids } with mode := .lockdown, drbgs := [(4108, gen)] }, _, 0,
    by and_intros <;> first | decide +kernel | rfl, by and_intros <;> first | decide +kernel | rfl,
       by and_intros <;> first | decide +kernel | rfl, by and_intros <;> first | decide +kernel | rfl,
       by and_intros <;> first | decide +kernel | rfl, rfl⟩,
   ⟨svc, by decide +kernel⟩⟩

/-- States and operands that meet the premises of SpdmResponder, clause by clause. -/
theorem witness_SpdmResponder :
    (∃ (s : State) (c : MgmtConn) (req : Bytes), mgmtOpen s c = true ∧ u8 req 0 = 0x10) ∧
    (∃ (s : State) (c : MgmtConn) (req : Bytes), mgmtOpen s c = true ∧ 1 ≤ (s.conn c).stage ∧
      (u8 req 0 = 0x12 ∨ u8 req 0 = 0x13)) ∧
    (∃ (s : State) (c : MgmtConn), mgmtOpen s c = true ∧ (s.conn c).stage = 0) ∧
    (∃ (s : State) (c : MgmtConn) (req : Bytes), mgmtOpen s c = true ∧ 2 ≤ (s.conn c).stage ∧
      u8 req 0 = (s.conn c).version ∧ (u32 req 8).testBit 7 = true ∧ (u32 req 12).testBit 1 = true ∧
      (u8 req 6).testBit 0 = true) ∧
    (∃ (s : State) (c : MgmtConn) (req : Bytes), mgmtOpen s c = true ∧ 3 ≤ (s.conn c).stage ∧
      u8 req 0 = (s.conn c).version ∧ hasIdentity s = true) ∧
    (∃ (s : State) (c : MgmtConn) (req : Bytes) (n : Nat), mgmtOpen s c = true ∧ 3 ≤ (s.conn c).stage ∧
      u8 req 0 = (s.conn c).version ∧ hasIdentity s = true ∧ u8 req 2 % 16 = 0 ∧ u16 req 4 < (ecChain s).length ∧
      n = min (u16 req 6) (min ((ecChain s).length - u16 req 4) 8184)) ∧
    (∃ (s : State) (c : MgmtConn) (req r : Bytes) (n : Nat), mgmtOpen s c = true ∧ 3 ≤ (s.conn c).stage ∧
      u8 req 0 = (s.conn c).version ∧ hasIdentity s = true ∧ u8 req 2 = 0 ∧
      (u8 req 3 = 0 ∨ u8 req 3 = 1 ∨ u8 req 3 = 0xFF) ∧ 36 ≤ req.length ∧ freeEngine s = some n ∧ s.mode ≠ .hush ∧
      (s.drbgs.get {} 4108).inst = true ∧ (s.drbgs.get {} 4108).requests < 2 ^ 19 ∧
      r = (List.range 88).map (Config.drbgOut (s.drbgs.get {} 4108).kv 88)) ∧
    (∃ (s : State) (c : MgmtConn) (req a : Bytes), mgmtOpen s c = true ∧ 3 ≤ (s.conn c).stage ∧
      u8 req 0 = (s.conn c).version ∧ (u8 req 2).testBit 0 = false ∧ (u8 req 3 ≤ 32 ∨ u8 req 3 = 0xFF) ∧
      (s.drbgs.get {} 4108).inst = true ∧ (s.drbgs.get {} 4108).requests < 2 ^ 19 ∧
      a = spdmHeader (s.conn c) 0x60 (if u8 req 3 = 0 then 32 else 0) 0 ++
      leBytes 1 (measRecord s (s.conn c) (u8 req 3)).1 ++ leBytes 3 (measRecord s (s.conn c) (u8 req 3)).2.length ++
      (measRecord s (s.conn c) (u8 req 3)).2) ∧
    (∃ (s : State) (c : MgmtConn) (req r a : Bytes) (n : Nat), mgmtOpen s c = true ∧ 3 ≤ (s.conn c).stage ∧
      u8 req 0 = (s.conn c).version ∧ (u8 req 2).testBit 0 = true ∧ u8 req 36 % 16 = 0 ∧ (u8 req 3 ≤ 32 ∨ u8 req 3 = 0xFF) ∧
      hasIdentity s = true ∧ freeEngine s = some n ∧ s.mode ≠ .hush ∧ (s.drbgs.get {} 4108).inst = true ∧
      (s.drbgs.get {} 4108).requests < 2 ^ 19 ∧ r = (List.range 88).map (Config.drbgOut (s.drbgs.get {} 4108).kv 88) ∧
      a = spdmHeader (s.conn c) 0x60 (if u8 req 3 = 0 then 32 else 0) 0 ++
      leBytes 1 (measRecord s (s.conn c) (u8 req 3)).1 ++ leBytes 3 (measRecord s (s.conn c) (u8 req 3)).2.length ++
      (measRecord s (s.conn c) (u8 req 3)).2 ++ r.take 32 ++ zeros 2 ++ requesterContext (s.conn c) req 37) ∧
    (∃ (s : State) (c : MgmtConn) (req p q : Bytes), mgmtOpen s c = true ∧ 3 ≤ (s.conn c).stage ∧
      u8 req 0 = (s.conn c).version ∧ hasIdentity s = true ∧ vendorPayload req = some p ∧ u8 p 0 = 1 ∧ u16 p 5 ≤ 8000 ∧
      u32 p 1 ≤ (dsaChain s).length ∧ q = pieceOf (dsaChain s) (u32 p 1) (u16 p 5)) ∧
    (∃ (s : State) (c : MgmtConn) (req m r p q : Bytes) (n : Nat), mgmtOpen s c = true ∧ 3 ≤ (s.conn c).stage ∧
      u8 req 0 = (s.conn c).version ∧ (s.conn c).kept = some m ∧ freeEngine s = some n ∧ s.mode ≠ .hush ∧
      (s.drbgs.get {} 4108).inst = true ∧ (s.drbgs.get {} 4108).requests < 2 ^ 19 ∧
      r = (List.range 32).map (Config.drbgOut (s.drbgs.get {} 4108).kv 32) ∧ vendorPayload req = some p ∧ u8 p 0 = 2 ∧
      q = signOut (identityReq s "GV-SPDM-COSIGN" false m) r) ∧
    (∃ (s : State) (c : MgmtConn) (req r p x y z : Bytes) (n : Nat), mgmtOpen s c = true ∧ 3 ≤ (s.conn c).stage ∧
      u8 req 0 = (s.conn c).version ∧ hasIdentity s = true ∧ freeEngine s = some n ∧ s.mode ≠ .hush ∧
      (s.drbgs.get {} 4108).inst = true ∧ (s.drbgs.get {} 4108).requests < 2 ^ 19 ∧
      r = (List.range 88).map (Config.drbgOut (s.drbgs.get {} 4108).kv 88) ∧ vendorPayload req = some p ∧ u8 p 0 = 3 ∧
      u32 p 1 = 0 ∧ u16 p 5 ≤ 8000 ∧ x = p.drop 7 ∧ attestOperandsBad x 0 = false ∧ x.length = 48 + 2 * u8 x 4 ∧
      (claimSlots x 48 (u8 x 4)).any (fun m => !claimOk s true 0 m) = false ∧
      claimFault s (claimSlots x 48 (u8 x 4)) = none ∧
      y = attestBody s (u32 x 0) (u8 x 5) (claimSlots x 48 (u8 x 4)) (slice x 16 32) ∧
      z = (if (u8 x 5).testBit 0 then signOut (identityReq s "GV-ATTEST" true y) (r.take 56) else []) ++
      (if (u8 x 5).testBit 1 then signOut (identityReq s "GV-ATTEST" false y) (r.drop 56) else [])) :=
  ⟨⟨svc, .port, [0x10, 0x84, 0, 0], by decide +kernel⟩,
   ⟨{ svc with slots := ids, quartz := { fwRunning := true, conns := [(0, { stage := 1 })] } },
    .port,
    [0x13] ++ [0xE1] ++ zeros 18,
    by decide +kernel⟩,
   ⟨svc, .port, by decide +kernel⟩,
   ⟨{ svc with slots := ids, quartz := { fwRunning := true, conns := [(0, { stage := 2, version := 0x13 })] } },
    .port,
    ops 32 [(0, [0x13, 0xE3, 0, 0]), (6, [1]), (8, leBytes 4 128), (12, leBytes 4 2)],
    by decide +kernel⟩,
   ⟨{ svc with slots := ids, quartz := { fwRunning := true, conns := [(0, { stage := 3, version := 0x13 })] } },
    .port,
    [0x13, 0x81, 0, 0],
    by decide +kernel⟩,
   ⟨{ svc with slots := ids, quartz := { fwRunning := true, conns := [(0, { stage := 3, version := 0x13 })] } },
    .port,
    [0x13, 0x82, 0, 0, 0, 0, 0, 4],
    _,
    by decide +kernel, by decide +kernel, by decide +kernel, by decide +kernel, by decide +kernel, by decide +kernel, rfl⟩,
   ⟨{ svc with slots := ids, quartz := { fwRunning := true, conns := [(0, { stage := 3, version := 0x13 })] } },
    .port,
    [0x13, 0x83, 0, 0xFF] ++ zeros 40,
    _,
    0,
    by and_intros <;> first | decide +kernel | rfl, by and_intros <;> first | decide +kernel | rfl,
       by and_intros <;> first | decide +kernel | rfl, by and_intros <;> first | decide +kernel | rfl,
       by and_intros <;> first | decide +kernel | rfl, by and_intros <;> first | decide +kernel | rfl,
       by and_intros <;> first | decide +kernel | rfl, by and_intros <;> first | decide +kernel | rfl,
       by and_intros <;> first | decide +kernel | rfl, by and_intros <;> first | decide +kernel | rfl,
       by and_intros <;> first | decide +kernel | rfl, rfl⟩,
   ⟨{ svc with slots := ids, quartz := { fwRunning := true, conns := [(0, { stage := 3, version := 0x13 })] } },
    .port,
    [0x13, 0xE0, 0, 1],
    _,
    by and_intros <;> first | decide +kernel | rfl, by and_intros <;> first | decide +kernel | rfl,
       by and_intros <;> first | decide +kernel | rfl, by and_intros <;> first | decide +kernel | rfl,
       by and_intros <;> first | decide +kernel | rfl, by and_intros <;> first | decide +kernel | rfl,
       by and_intros <;> first | decide +kernel | rfl, rfl⟩,
   ⟨{ svc with slots := ids, quartz := { fwRunning := true, conns := [(0, { stage := 3, version := 0x13 })] } },
    .port,
    [0x13, 0xE0, 1, 2] ++ zeros 33,
    _,
    _,
    0,
    by and_intros <;> first | decide +kernel | rfl, by and_intros <;> first | decide +kernel | rfl,
       by and_intros <;> first | decide +kernel | rfl, by and_intros <;> first | decide +kernel | rfl,
       by and_intros <;> first | decide +kernel | rfl, by and_intros <;> first | decide +kernel | rfl,
       by and_intros <;> first | decide +kernel | rfl, by and_intros <;> first | decide +kernel | rfl,
       by and_intros <;> first | decide +kernel | rfl, by and_intros <;> first | decide +kernel | rfl,
       by and_intros <;> first | decide +kernel | rfl, rfl, rfl⟩,
   ⟨{ svc with slots := ids, quartz := { fwRunning := true, conns := [(0, { stage := 3, version := 0x13 })] } },
    .port,
    vendorReq ([1, 0, 0, 0, 0, 10, 0]),
    [1, 0, 0, 0, 0, 10, 0],
    _,
    by and_intros <;> first | decide +kernel | rfl, by and_intros <;> first | decide +kernel | rfl,
       by and_intros <;> first | decide +kernel | rfl, by and_intros <;> first | decide +kernel | rfl,
       by and_intros <;> first | decide +kernel | rfl | exact vendorPayload_vendorReq _ (by decide),
       by and_intros <;> first | decide +kernel | rfl, by and_intros <;> first | decide +kernel | rfl,
       by and_intros <;> first | decide +kernel | rfl, rfl⟩,
   ⟨{ svc with
        slots := ids
        quartz := { fwRunning := true, conns := [(0, { stage := 3, version := 0x13, kept := some [1] })] } },
    .port,
    vendorReq ([2]),
    [1],
    _,
    [2],
    _,
    0,
    by and_intros <;> first | decide +kernel | rfl, by and_intros <;> first | decide +kernel | rfl,
       by and_intros <;> first | decide +kernel | rfl, by and_intros <;> first | decide +kernel | rfl,
       by and_intros <;> first | decide +kernel | rfl, by and_intros <;> first | decide +kernel | rfl,
       by and_intros <;> first | decide +kernel | rfl, by and_intros <;> first | decide +kernel | rfl, rfl,
       by and_intros <;> first | decide +kernel | rfl | exact vendorPayload_vendorReq _ (by decide),
       by and_intros <;> first | decide +kernel | rfl, rfl⟩,
   ⟨{ svc with slots := ids, quartz := { fwRunning := true, conns := [(0, { stage := 3, version := 0x13 })] } },
    .port,
    vendorReq ([3, 0, 0, 0, 0, 10, 0] ++ ops 48 [(5, [1])]),
    _,
    [3, 0, 0, 0, 0, 10, 0] ++ ops 48 [(5, [1])],
    _,
    _,
    _,
    0,
    by and_intros <;> first | decide +kernel | rfl, by and_intros <;> first | decide +kernel | rfl,
       by and_intros <;> first | decide +kernel | rfl, by and_intros <;> first | decide +kernel | rfl,
       by and_intros <;> first | decide +kernel | rfl, by and_intros <;> first | decide +kernel | rfl,
       by and_intros <;> first | decide +kernel | rfl, by and_intros <;> first | decide +kernel | rfl, rfl,
       by and_intros <;> first | decide +kernel | rfl | exact vendorPayload_vendorReq _ (by decide),
       by and_intros <;> first | decide +kernel | rfl, by and_intros <;> first | decide +kernel | rfl,
       by and_intros <;> first | decide +kernel | rfl, rfl, by and_intros <;> first | decide +kernel | rfl,
       by and_intros <;> first | decide +kernel | rfl, by and_intros <;> first | decide +kernel | rfl,
       by and_intros <;> first | decide +kernel | rfl, rfl, rfl⟩⟩

/-- States and operands that meet the premises of PldmResponder, clause by clause. -/
theorem witness_PldmResponder :
    (∃ (s : State) (c : MgmtConn), mgmtOpen s c = true) ∧
    (∃ (s : State) (c : MgmtConn), mgmtOpen s c = true) ∧
    (∃ (s : State) (c : MgmtConn) (req : Bytes), mgmtOpen s c = true ∧ (u8 req 8 = 0 ∨ u8 req 8 = 2 ∨ u8 req 8 = 5)) ∧
    (∃ (s : State) (c : MgmtConn) (req : Bytes), mgmtOpen s c = true ∧ (u8 req 3 = 0 ∨ u8 req 3 = 2 ∨ u8 req 3 = 5)) ∧
    (∃ (s : State) (c : MgmtConn) (req : Bytes), mgmtOpen s c = true ∧ (u8 req 8 = 3 ∨ u8 req 8 = 4 ∨ u8 req 8 = 6)) ∧
    (∃ (s : State) (c : MgmtConn), mgmtOpen s c = true) ∧
    (∃ (s : State) (c : MgmtConn) (req : Bytes), mgmtOpen s c = true ∧ 1 ≤ u32 req 3 ∧ u32 req 3 ≤ 58 ∧ u8 req 11 = 1) ∧
    (∃ (s : State) (c : MgmtConn) (req : Bytes) (n : Nat), mgmtOpen s c = true ∧ u16 req 3 = n + 1 ∧ n < 57) ∧
    (∃ (s : State) (c : MgmtConn) (req : Bytes) (n : Nat), mgmtOpen s c = true ∧ u16 req 3 = n + 1 ∧ n < 57) ∧
    (∃ (s : State) (c : MgmtConn) (req : Bytes) (n : Nat), mgmtOpen s c = true ∧ u16 req 3 = n + 1 ∧ n < 57 ∧ u8 req 5 = 5) ∧
    (∃ (s : State) (c : MgmtConn) (req : Bytes), mgmtOpen s c = true ∧ (u16 req 3 = 0 ∨ 57 < u16 req 3)) ∧
    (∃ (s : State) (c : MgmtConn), mgmtOpen s c = true) ∧
    (∃ (s : State) (c : MgmtConn) (i : Nat) (e : EvEntry), mgmtOpen s c = true ∧ nextPlatformEvent s = some (i, e)) ∧
    (∃ (s : State) (c : MgmtConn), mgmtOpen s c = true ∧ nextPlatformEvent s = none) ∧
    (∃ (s : State) (c : MgmtConn), mgmtOpen s c = true) ∧
    (∃ (s : State) (c : MgmtConn), mgmtOpen s c = true) ∧
    (∃ (s : State) (c : MgmtConn), mgmtOpen s c = true) ∧
    (∃ (s : State) (c : MgmtConn), mgmtOpen s c = true ∧ s.quartz.fd.state = 0) ∧
    (∃ (s : State) (c : MgmtConn), mgmtOpen s c = true ∧ s.quartz.fd.state ≠ 0) ∧
    (∃ (s : State) (c : MgmtConn) (req : Bytes), mgmtOpen s c = true ∧ s.quartz.fd.state = 1 ∧ (u8 req 3).testBit 2 = true) ∧
    (∃ (s : State) (c : MgmtConn) (req : Bytes), mgmtOpen s c = true ∧ s.quartz.fd.state = 2 ∧ ownComponent req 3 = true ∧
      1 ≤ u32 req 12 ∧ u32 req 12 ≤ 2 ^ 23 ∧ s.quartz.fd.maxPiece ≠ 0 ∧ s.boot.haltLoop = false) ∧
    (∃ (s : State) (c : MgmtConn) (req : Bytes) (n : Nat), mgmtOpen s c = true ∧ s.quartz.fd.state = 3 ∧ u8 req 3 = 0 ∧
      req.length = 4 + n ∧ 1 ≤ n ∧ n ≤ s.quartz.fd.maxPiece ∧ s.quartz.fd.got + n < s.quartz.fd.size) ∧
    (∃ (s : State) (c : MgmtConn), mgmtOpen s c = true ∧ s.quartz.fd.state = 2) ∧
    (∃ (s : State) (c : MgmtConn), mgmtOpen s c = true ∧ s.quartz.fd.state ≠ 0) ∧
    (∃ (s : State) (c : MgmtConn), mgmtOpen s c = true ∧ s.quartz.fd.state = 0) :=
  ⟨⟨svc, .port, by decide +kernel⟩,
   ⟨svc, .port, by decide +kernel⟩,
   ⟨svc, .port, [0x80, 2, 0x11] ++ [0, 0, 0, 0, 1, 2], by decide +kernel⟩,
   ⟨svc, .port, [0x80, 2, 0x11] ++ [2], by decide +kernel⟩,
   ⟨svc, .port, [0x80, 2, 0x11] ++ [0, 0, 0, 0, 1, 6], by decide +kernel⟩,
   ⟨svc, .port, by decide +kernel⟩,
   ⟨svc, .port, [0x80, 2, 0x11] ++ [58, 0, 0, 0, 0, 0, 0, 0, 1, 0xFF, 0xFF], by decide +kernel⟩,
   ⟨svc, .port, [0x80, 2, 0x11] ++ [57, 0], 56, by decide +kernel⟩,
   ⟨svc, .port, [0x80, 2, 0x11] ++ [57, 0], 56, by decide +kernel⟩,
   ⟨svc, .port, [0x80, 2, 0x11] ++ [57, 0, 5], 56, by decide +kernel⟩,
   ⟨svc, .port, [0x80, 2, 0x11] ++ [58, 0], by decide +kernel⟩,
   ⟨svc, .port, by decide +kernel⟩,
   ⟨{ svc with recorder := { head := 1, log := [(0, { entry := { code := 0x8E06 }, mark := 0x5A })] } },
    .port,
    0,
    { code := 0x8E06 },
    by decide +kernel⟩,
   ⟨svc, .port, by decide +kernel⟩,
   ⟨svc, .port, by decide +kernel⟩,
   ⟨svc, .port, by decide +kernel⟩,
   ⟨svc, .port, by decide +kernel⟩,
   ⟨svc, .port, by decide +kernel⟩,
   ⟨{ svc with quartz := { fwRunning := true, fd := { state := 3 } } }, .port, by decide +kernel⟩,
   ⟨{ svc with quartz := { fwRunning := true, fd := { state := 1 } } }, .port, [0x80, 2, 0x11] ++ [4], by decide +kernel⟩,
   ⟨{ svc with quartz := { fwRunning := true, fd := { state := 2, maxPiece := 512 } } },
    .port,
    [0x80, 2, 0x11] ++ [0x0A, 0, 0x40, 9, 0, 0, 0, 0, 0, 0, 0, 8, 0],
    by decide +kernel⟩,
   ⟨{ svc with quartz := { fwRunning := true, fd := { state := 3, size := 1024, maxPiece := 512 } } },
    .port,
    [0x80, 2, 0x11] ++ [0] ++ zeros 4,
    4,
    by decide +kernel⟩,
   ⟨{ svc with quartz := { fwRunning := true, fd := { state := 2 } } }, .port, by decide +kernel⟩,
   ⟨{ svc with quartz := { fwRunning := true, fd := { state := 3 } } }, .port, by decide +kernel⟩,
   ⟨{ svc with quartz := { fwRunning := true, fd := {  } } }, .port, by decide +kernel⟩⟩

/-- States and operands that meet the premises of JournalControlAndReplay, clause by clause. -/
theorem witness_JournalControlAndReplay :
    (∃ (s : State), s.mode ≠ .dormant) ∧
    (∃ (s : State), s.mode ≠ .dormant ∧ s.amber.frozen = false) ∧
    (∃ (s : State), s.mode ≠ .dormant ∧ s.amber.frozen = true) ∧
    (∃ (s : State), s.mode ≠ .dormant) ∧
    (∃ (s : State), s.amber.triggered = true ∧ s.amber.frozen = false) ∧
    (∃ (s : State), s.amber.triggered = false) ∧
    (∃ (s : State) (b : BindId) (j : Job) (k id : Bytes) (p : Nat) (ps : List Nat), Runs s (.mailbox b) C.AMB_EXPORT 0 j ∧
      Plain j ∧ ambExportCheck s j = none ∧ rangeFault s.mem (ringLines (ringGib s)).1 (ringLines (ringGib s)).2 = none ∧
      ajk s = some k ∧ wholeCkpts s = p :: ps ∧ (s.drbgs.get {} (drbgOf j)).inst = true ∧
      (s.drbgs.get {} (drbgOf j)).requests < 2 ^ 19 ∧
      id = (List.range 8).map (Config.drbgOut (s.drbgs.get {} (drbgOf j)).kv 8) ∧
      canDma s (dmaBind s j (hostRef j.ops 16).port) = true) ∧
    (∃ (s : State) (b : BindId) (j : Job) (p : Nat), Runs s (.mailbox b) C.AMB_REPLAY 0 j ∧ ambReplayCheck s j = none ∧
      u8 j.ops 0 = 0 ∧ rangeFault s.mem (ringLines (ringGib s)).1 (ringLines (ringGib s)).2 = none ∧
      ckptFrom s.amber.ring (u64 j.ops 8) = some p) ∧
    (∃ (s : State) (b : BindId) (j : Job), Runs s (.mailbox b) C.AMB_REPLAY 0 j ∧ Plain j ∧ ambReplayCheck s j = none ∧
      u8 j.ops 0 = 0 ∧ rangeFault s.mem (ringLines (ringGib s)).1 (ringLines (ringGib s)).2 = none ∧
      ckptFrom s.amber.ring (u64 j.ops 8) = none) ∧
    (∃ (s : State) (b : BindId) (j : Job) (pos : Nat) (run : List ReplayEvent) (absent : Option AbsentWinner) (r : ReplayResult),
      s.jobs.find? (fun j => j.code == C.AMB_REPLAY && j.phase == .replay) = some j ∧ j.origin = .mailbox b ∧ Plain j ∧
      s.mode = .replay ∧ u8 j.ops 1 / 2 % 4 = 0 ∧ canDma s (dmaBind s j (hostRef j.ops 40).port) = true ∧
      r = replayResult s j pos run absent) ∧
    (∃ (s : State), s.mode ≠ .replay) :=
  ⟨⟨svc, by decide +kernel⟩,
   ⟨svc, by decide +kernel⟩,
   ⟨{ svc with amber := { svc.amber with frozen := true } }, by decide +kernel⟩,
   ⟨{ svc with amber := { svc.amber with frozen := true } }, by decide +kernel⟩,
   ⟨{ svc with amber := { svc.amber with triggered := true } }, by decide +kernel⟩,
   ⟨svc, by decide +kernel⟩,
   ⟨{ with1 (cmd C.AMB_EXPORT 0 [(16, ref 1179728)]) with
        pufSecret := some (zeros 32)
        drbgs := [(drbgOf (cmd C.AMB_EXPORT 0 [(16, ref 1179728)]), gen)]
        amber := { svc.amber with
                     frozen := true
                     head := 9
                     ring := [{ ty := 1, island := 0, time := 0, body := [], pos := 4 }]
                     whole := [(4, {})] } },
    own,
    cmd C.AMB_EXPORT 0 [(16, ref 1179728)],
    kdf (zeros 32) (ascii "GV-AMB") (leBytes 8 0) 256,
    _,
    4,
    [],
    by unfold Runs; and_intros <;> first | decide +kernel | rfl,
       by unfold Plain; and_intros <;> first | decide +kernel | rfl, by and_intros <;> first | decide +kernel | rfl,
       by and_intros <;> first | decide +kernel | rfl, by and_intros <;> first | decide +kernel | rfl,
       by and_intros <;> first | decide +kernel | rfl, by and_intros <;> first | decide +kernel | rfl,
       by and_intros <;> first | decide +kernel | rfl, rfl, by and_intros <;> first | decide +kernel | rfl⟩,
   ⟨{ with1 (cmd C.AMB_REPLAY 0 [(40, ref 8256)]) with
        tenants := []
        amber := { svc.amber with
                     frozen := true
                     head := 9
                     ring := [{ ty := 1, island := 0, time := 0, body := [], pos := 4 },
                              { ty := 3, island := 0, time := 0, body := 0 :: wordsOf (partsDigest []), pos := 5 }]
                     whole := [(4, {})] } },
    own,
    cmd C.AMB_REPLAY 0 [(40, ref 8256)],
    4,
    by unfold Runs; and_intros <;> first | decide +kernel | (
      exact List.find?_cons_of_pos (l := []) (beq_self_eq_true (wordsOf (partsDigest []))))⟩,
   ⟨{ with1 (cmd C.AMB_REPLAY 0 [(40, ref 8256)]) with
        tenants := []
        amber := { svc.amber with
                     frozen := true
                     head := 9
                     ring := [{ ty := 1, island := 0, time := 0, body := [], pos := 4 }]
                     whole := [(4, {})] } },
    own,
    cmd C.AMB_REPLAY 0 [(40, ref 8256)],
    by unfold Runs Plain; decide +kernel⟩,
   ⟨{ with1 ({ cmd C.AMB_REPLAY 1 [(40, ref 8256)] with phase := .replay, args := [4, 0] }) with
        mode := .replay
        amber := { svc.amber with
                     frozen := true
                     head := 9
                     ring := [{ ty := 1, island := 0, time := 0, body := [], pos := 4 }]
                     whole := [(4, {})] } },
    own,
    { cmd C.AMB_REPLAY 1 [(40, ref 8256)] with phase := .replay, args := [4, 0] },
    4,
    [.done 0 [2, 0, 0, 0] [] false],
    none,
    _,
    by decide +kernel, by decide +kernel, by unfold Plain; decide +kernel, by decide +kernel, by decide +kernel,
       by decide +kernel, rfl⟩,
   ⟨svc, by decide +kernel⟩⟩

end Sys2Proof.Tests
end

section
/-! The form that every step keeps (R3, R501), part by part, and how the writes to a part keep it. -/

namespace Sys2Proof.Machine

variable {s t : State} {m : NMap Nat} {a v n : Nat} {bs : Bytes}

/-- The form of a table of register words: canonical, and every word below 2^64. -/
def RegsForm (m : NMap Nat) : Prop := NMap.wf 0 m = true ∧ ∀ e ∈ m, e.2 < 2 ^ 64

theorem canonical_iff :
    Canonical s ↔ RegsForm s.regs ∧ NMap.wf 0xFF s.nor.raw = true ∧ NMap.wf 0 s.nor.sram = true := by
  simp only [Canonical, RegsForm, and_assoc]

protected theorem Canonical.regs (h : Canonical s) : RegsForm s.regs := (canonical_iff.1 h).1
protected theorem Canonical.raw (h : Canonical s) : NMap.wf 0xFF s.nor.raw = true := (canonical_iff.1 h).2.1
protected theorem Canonical.sram (h : Canonical s) : NMap.wf 0 s.nor.sram = true := (canonical_iff.1 h).2.2

/-- The form speaks of the registers and the NOR's bytes only. -/
protected theorem Canonical.of_eq (h : Canonical s) (hregs : t.regs = s.regs) (hraw : t.nor.raw = s.nor.raw)
    (hsram : t.nor.sram = s.nor.sram) : Canonical t :=
  canonical_iff.2 ⟨hregs ▸ h.regs, hraw ▸ h.raw, hsram ▸ h.sram⟩

/-- An update of other fields keeps the form, and so does one of the NOR's other fields. -/
protected theorem Canonical.update
    {clk nextManifest measNext truncOffered lfsr freeIdx : Nat} {mode : Mode} {portA portB : HostPort}
    {jobs heldJobs : List Job} {qps : NMap QueuePair} {sched : Scheduler} {manifests : NMap Manifest}
    {sealEngines : NMap SealEngine} {digests : NMap DigestCtx} {meas : NMap MeasReg} {measLog : List MeasLogEntry}
    {measOverflow keyed zeroised filling : Bool} {slots : NMap Slot} {pufSecret cdk : Option Bytes} {agate : Agate}
    {arith : NMap ArithEngine} {sources : NMap NoiseSource} {entropy : List Bytes} {drbgs : NMap Drbg}
    {tenants : NMap Tenant} {cfg : List CfgRecord} {moon : Moonstone} {fuses : Fuses} {boot : Boot} {lcs : Lcs}
    {tamper : Tamper} {pins : Pins} {wards : NMap Ward} {tkn : Tkn} {internalDone : List (Nat × Nat × Bytes)}
    {recorder : Recorder} {amber : Amber} {links : NMap Link} {fabric : Fabric} {mem : Mem} {quartz : Quartz}
    {out : List Msg} {pending : List Instr} {nor : Nor}
    (h : Canonical s) (hraw : nor.raw = s.nor.raw) (hsram : nor.sram = s.nor.sram) :
    Canonical (State.mk
      clk mode portA portB jobs heldJobs qps sched manifests nextManifest sealEngines digests meas measLog measNext
      measOverflow truncOffered slots pufSecret keyed cdk zeroised agate arith sources entropy filling lfsr drbgs tenants
      cfg moon fuses boot lcs tamper pins wards tkn internalDone recorder amber links fabric nor mem quartz s.regs out
      freeIdx pending) :=
  h.of_eq rfl hraw hsram

protected theorem Canonical.ite {c : Prop} [Decidable c] (hs : Canonical s) (ht : Canonical t) :
    Canonical (if c then s else t) := by
  split
  · exact hs
  · exact ht

/-- Steps that each keep the form keep it together. -/
protected theorem Canonical.foldl {α : Type} {f : State → α → State} (h : Canonical s)
    (hf : ∀ {u x}, Canonical u → Canonical (f u x)) (l : List α) : Canonical (l.foldl f s) := by
  induction l generalizing s with
  | nil => exact h
  | cons x l ih => exact ih (hf h)

/-- The state beside what is accumulated keeps the form, wherever it stands in the pair. -/
theorem Canonical.foldl_fst {α β : Type} {f : State × β → α → State × β} {acc : State × β} (h : Canonical acc.1)
    (hf : ∀ {acc x}, Canonical acc.1 → Canonical (f acc x).1) (l : List α) : Canonical (l.foldl f acc).1 := by
  induction l generalizing acc with
  | nil => exact h
  | cons x l ih => exact ih (hf h)

@[inherit_doc Canonical.foldl_fst]
theorem Canonical.foldl_snd {α β : Type} {f : β × State → α → β × State} {acc : β × State} (h : Canonical acc.2)
    (hf : ∀ {acc x}, Canonical acc.2 → Canonical (f acc x).2) (l : List α) : Canonical (l.foldl f acc).2 := by
  induction l generalizing acc with
  | nil => exact h
  | cons x l ih => exact ih (hf h)

protected theorem Canonical.getD {o : Option State} (h : Canonical s) (ho : ∀ {u}, o = some u → Canonical u) :
    Canonical (o.getD s) := by
  cases o with
  | none => exact h
  | some u => exact ho rfl

/-! ### Register words -/

theorem RegsForm.nil : RegsForm [] := ⟨rfl, by simp⟩

/-- A word written is the only new one. -/
theorem RegsForm.put (h : RegsForm m) (hv : v < 2 ^ 64) : RegsForm (m.put 0 a v) := by
  refine ⟨NMap.wf_put h.1 a v, fun e he => ?_⟩
  unfold NMap.put at he
  split at he
  · exact h.2 e (NMap.mem_erase he).1
  · rcases NMap.mem_insert he with rfl | he
    · exact hv
    · exact h.2 e he

theorem RegsForm.filter (h : RegsForm m) (p : Nat × Nat → Bool) : RegsForm (m.filter p) :=
  ⟨NMap.wf_filter h.1 p, fun e he => h.2 e (List.mem_of_mem_filter he)⟩

/-- Whatever a register holds, it is a 64-bit word. -/
theorem RegsForm.get_lt (h : RegsForm m) (a : Nat) : m.get 0 a < 2 ^ 64 := by
  have words : ∀ m : NMap Nat, (∀ e ∈ m, e.2 < 2 ^ 64) → m.get 0 a < 2 ^ 64 := by
    intro m hm
    induction m with
    | nil => simp [NMap.get]
    | cons e r ih =>
      simp only [NMap.get, NMap.look?_cons]
      split
      · exact hm e List.mem_cons_self
      · exact ih fun x hx => hm x (List.mem_cons_of_mem _ hx)
  exact words m h.2

protected theorem Canonical.reg_lt (h : Canonical s) (a : Nat) : s.reg a < 2 ^ 64 := h.regs.get_lt a

/-- Words entered one by one keep the form of the table. -/
theorem RegsForm.foldl {α : Type} {key val : α → Nat} (hval : ∀ x, val x < 2 ^ 64) (l : List α) (h : RegsForm m) :
    RegsForm (l.foldl (fun m x => m.put 0 (key x) (val x)) m) := by
  induction l generalizing m with
  | nil => exact h
  | cons x l ih => exact ih (h.put (hval x))

protected theorem Canonical.setReg (h : Canonical s) : Canonical (s.setReg a v) :=
  canonical_iff.2 ⟨h.regs.put (Nat.mod_lt _ (by decide)), h.raw, h.sram⟩

/-! ### The state after reset, and after a loss of power -/

theorem regsForm_reset : RegsForm State.reset.regs := by unfold RegsForm; decide

theorem canonical_reset : Canonical State.reset := canonical_iff.2 ⟨regsForm_reset, rfl, rfl⟩

/-- A register's word after a reset mixes bits of its Reset value and bits that it held (R542). -/
theorem regsForm_regsAfter (h : RegsForm m) (warm : Bool) : RegsForm (regsAfter warm m) := by
  refine RegsForm.foldl (key := id) (fun a => ?_) _ RegsForm.nil
  refine Nat.or_lt_two_pow ?_ (Nat.lt_of_le_of_lt Nat.and_le_left (h.get_lt a))
  exact Nat.lt_of_le_of_lt (Nat.sub_le _ _) (regsForm_reset.get_lt a)

protected theorem Canonical.loseMoonstone (h : Canonical s) : Canonical (loseMoonstone s) :=
  canonical_iff.2 ⟨regsForm_reset, h.raw, h.sram⟩

/-! ### The NOR's bytes -/

protected theorem Canonical.norProgram (h : Canonical s) : Canonical (norProgram s a bs) :=
  canonical_iff.2 ⟨h.regs, NMap.wf_putList _ h.raw _, h.sram⟩

protected theorem Canonical.dropRaw (h : Canonical s) : Canonical (dropRaw s n) :=
  canonical_iff.2 ⟨h.regs, NMap.wf_filter h.raw _, h.sram⟩

protected theorem Canonical.runWipe {x : Wipe} (h : Canonical s) : Canonical (runWipe s x) := by
  cases x with
  | journal =>
    refine Canonical.foldl ?_ Canonical.dropRaw _
    exact h.of_eq rfl rfl rfl
  | wardsAndConfig => exact canonical_iff.2 ⟨h.regs, NMap.wf_filter h.raw _, h.sram⟩
  | helpers => exact h.of_eq rfl rfl rfl
  | everything => exact canonical_iff.2 ⟨h.regs, rfl, h.sram⟩

protected theorem Canonical.loadCkpt {c : Ckpt} (h : Canonical s) : Canonical (loadCkpt s c) :=
  canonical_iff.2 ⟨RegsForm.foldl (fun _ => Nat.mod_lt _ (by decide)) _ (h.regs.filter _), h.raw, h.sram⟩

theorem rtcAfter_lt (h : Canonical s) : rtcAfter s < 2 ^ 64 := by
  unfold rtcAfter
  dsimp only
  split
  · exact Nat.mod_lt _ (by decide)
  · exact h.reg_lt _

end Sys2Proof.Machine
end

section
/-! The functions of the model keep the form: `Canonical.f` says it of the function `f`, and the lemmas stand in the model's
order. A proof follows the function's branches: `.ite` and `split` open one, `.update` is a change of fields that the form
does not speak of, and every call has its own lemma. Where `f` answers with more than a state, or with none on some
branches, the lemma speaks of the state among what it answers; where `f` takes what to do next, it asks the same of that. -/

namespace Sys2Proof.Machine

variable {s t : State} {j k : Job} {o : Origin} {n m w l a : Nat} {b : BindId} {bs : Bytes} {f g : Frame} {p : PortId}
  {c : MgmtConn}

/-! ### The accessors of the state -/

protected theorem Canonical.setRegField {msb lsb v : Nat} (h : Canonical s) : Canonical (s.setRegField a msb lsb v) :=
  .setReg h

protected theorem Canonical.incRegField {msb lsb : Nat} (h : Canonical s) : Canonical (s.incRegField a msb lsb) :=
  .setRegField h

protected theorem Canonical.tookFree (h : Canonical s) : Canonical (s.tookFree n) := h

protected theorem Canonical.setPort {h : HostPort} (hs : Canonical s) : Canonical (s.setPort p h) := by
  unfold State.setPort
  split
  · exact hs
  · exact hs

protected theorem Canonical.setBind {e : BindEntry} (h : Canonical s) : Canonical (s.setBind b e) := .setPort h
protected theorem Canonical.setMbx {m : Mailbox} (h : Canonical s) : Canonical (s.setMbx b m) := .setPort h
protected theorem Canonical.setFn {f : Nat} {v : FuncState} (h : Canonical s) : Canonical (s.setFn p f v) := .setPort h
protected theorem Canonical.setQp {q : QueuePair} (h : Canonical s) : Canonical (s.setQp n q) := h
protected theorem Canonical.setTen {t : Tenant} (h : Canonical s) : Canonical (s.setTen n t) := h
protected theorem Canonical.setSlot {v : Slot} (h : Canonical s) : Canonical (s.setSlot n v) := h
protected theorem Canonical.setTree {t : Tree} (h : Canonical s) : Canonical (s.setTree n t) := h
protected theorem Canonical.setSeng {e : SealEngine} (h : Canonical s) : Canonical (s.setSeng n e) := h
protected theorem Canonical.setAeng {e : ArithEngine} (h : Canonical s) : Canonical (s.setAeng n e) := h
protected theorem Canonical.setMan {m : Manifest} (h : Canonical s) : Canonical (s.setMan n m) := h
protected theorem Canonical.setLink {v : Link} (h : Canonical s) : Canonical (s.setLink l v) := h
protected theorem Canonical.setWard {v : Ward} (h : Canonical s) : Canonical (s.setWard w v) := h
protected theorem Canonical.setBus {b : Nat} {v : TknBus} (h : Canonical s) : Canonical (s.setBus b v) := h
protected theorem Canonical.setCer {c : Ceremony} (h : Canonical s) : Canonical (s.setCer c) := h
protected theorem Canonical.send {m : Msg} (h : Canonical s) : Canonical (s.send m) := h
protected theorem Canonical.addJob (h : Canonical s) : Canonical (s.addJob j) := h
protected theorem Canonical.setJob (h : Canonical s) : Canonical (s.setJob j) := h
protected theorem Canonical.dropJob (h : Canonical s) : Canonical (s.dropJob o) := h

/-! ### The journal's capture and the recorder's admission (19, 20) -/

protected theorem Canonical.ambAppend {ty island : Nat} {body : List Nat} (h : Canonical s) :
    Canonical (ambAppend s ty island body) :=
  h

protected theorem Canonical.capture {ty island : Nat} {body : List Nat} (h : Canonical s) :
    Canonical (capture s ty island body) :=
  .ite h (.ambAppend h)

protected theorem Canonical.crossing {mp inst input cands : Nat} (h : Canonical s) :
    Canonical (crossing s mp inst input cands) :=
  .capture h

protected theorem Canonical.timerTaken {island : Nat} (h : Canonical s) : Canonical (timerTaken s island) := .crossing h
protected theorem Canonical.ambRestart (h : Canonical s) : Canonical (ambRestart s) := h

protected theorem Canonical.ambFreeze {code : Nat} (h : Canonical s) : Canonical (ambFreeze s code) :=
  .ite h (.update (.foldl h Canonical.capture _) rfl rfl)

protected theorem Canonical.ambTrigger {code : Nat} (h : Canonical s) : Canonical (ambTrigger s code) := .ite h h
protected theorem Canonical.evrDrop {c : Nat} (h : Canonical s) : Canonical (evrDrop s c) := h
protected theorem Canonical.evrSuppress {c : Nat} (h : Canonical s) : Canonical (evrSuppress s c) := h

protected theorem Canonical.evrAppend {c : Nat} {params : List Nat} {firmware late : Bool} (h : Canonical s) :
    Canonical (evrAppend s c params firmware late) :=
  h

protected theorem Canonical.evrAdmit {c : Nat} {params : List Nat} {firmware late : Bool} (h : Canonical s) :
    Canonical (evrAdmit s c params firmware late) := by
  unfold evrAdmit
  refine .ite (.incRegField (.evrDrop h)) ?_
  exact .ite (.incRegField (.evrSuppress h)) (.ite (.incRegField (.evrDrop h)) (.evrAppend h))

protected theorem Canonical.takeEvent {c : Nat} {params : List Nat} {firmware late : Bool} (h : Canonical s) :
    Canonical (takeEvent s c params firmware late) :=
  .ite (.incRegField h) (.evrAdmit (.ambTrigger (.crossing h)))

protected theorem Canonical.recordEvent {c p0 p1 p2 : Nat} (h : Canonical s) : Canonical (recordEvent s c p0 p1 p2) :=
  .takeEvent h

protected theorem Canonical.recordStatus {st : Nat} {p3 : Nat} (h : Canonical s) : Canonical (recordStatus s st j p3) :=
  .takeEvent h

protected theorem Canonical.recordStatusFree {st who p3 : Nat} (h : Canonical s) :
    Canonical (recordStatusFree s st who p3) :=
  .takeEvent h

/-! ### The sealed memory (21) -/

protected theorem Canonical.memError {f : LineFault} (h : Canonical s) : Canonical (memError s j l f) :=
  .recordStatus (.setReg (.incRegField h))

protected theorem Canonical.recordsFree {rs : List KeyRecord} (h : Canonical s) : Canonical (recordsFree s rs) := h

protected theorem Canonical.storeRecords {h : SlotHalf} (hs : Canonical s) : Canonical (storeRecords s h).1 := by
  unfold storeRecords
  dsimp only
  split
  · split
    · exact hs
    · exact hs
  · split
    · exact hs
    · exact hs

/-! ### The shared operations of every command (02, 03) -/

protected theorem Canonical.raiseVector {f v : Nat} (h : Canonical s) : Canonical (raiseVector s p f v) :=
  .ite h (.ite (.setFn h) (.crossing (.send h)))

protected theorem Canonical.setErr {bit f : Nat} (h : Canonical s) : Canonical (setErr s p bit f) := .setPort h
protected theorem Canonical.noteBlocked (h : Canonical s) : Canonical (noteBlocked s b) := .ite (.setErr h) (.setErr h)

protected theorem Canonical.hostWrite {r : HostRef} {off : Nat} {relaxed : Bool}
    (e : hostWrite s j r off bs relaxed = some (t, k)) (h : Canonical s) : Canonical t := by
  unfold hostWrite at e
  split at e
  · cases e
    exact h
  · dsimp only at e
    split at e
    · cases e
    · cases e
      exact .send h

protected theorem Canonical.issueReads {refs : List HostRef} (e : issueReads s j refs = some (t, k)) (h : Canonical s) :
    Canonical t := by
  unfold issueReads at e
  split at e
  · cases e
    exact h
  · dsimp only at e
    split at e
    · cases e
    · split at e
      · cases e
        exact h
      · cases e
        exact .send h

protected theorem Canonical.issueWaiting (h : Canonical s) : Canonical (issueWaiting s o) := by
  unfold issueWaiting
  split
  · split
    · exact .ite (.setJob (.send h)) h
    · exact h
  · exact h

protected theorem Canonical.readsGo (h : Canonical s) : Canonical (readsGo s) := .foldl h Canonical.issueWaiting _
protected theorem Canonical.takeCredit {m : MergePoint} (h : Canonical s) : Canonical (takeCredit s m o) := .ite h h
protected theorem Canonical.giveCredit {m : MergePoint} (h : Canonical s) : Canonical (giveCredit s m o) := h
protected theorem Canonical.holdDispatcher {d : Nat} (h : Canonical s) : Canonical (holdDispatcher s d o) := h
protected theorem Canonical.freeSched (h : Canonical s) : Canonical (freeSched s o) := h
protected theorem Canonical.flagClass0 (h : Canonical s) : Canonical (flagClass0 s) := h

protected theorem Canonical.class0Arrives {t : Nat} (h : Canonical s) : Canonical (class0Arrives s t) :=
  .ite (.flagClass0 h) h

protected theorem Canonical.issueFetch (h : Canonical s) : Canonical (issueFetch s n) :=
  .foldl (.setQp h) Canonical.send _

protected theorem Canonical.fetchStart (h : Canonical s) : Canonical (fetchStart s n) :=
  .ite h (.ite (.setQp h) (.ite h (.issueFetch h)))

protected theorem Canonical.fetchAll (h : Canonical s) : Canonical (fetchAll s) :=
  .foldl (.foldl h Canonical.fetchStart _) Canonical.fetchStart _

protected theorem Canonical.mailboxDone {st : Nat} {res : Bytes} {appr : Bool} (h : Canonical s) :
    Canonical (mailboxDone s b st res appr) :=
  .ite (.raiseVector (.capture (.setMbx h))) (.capture (.setMbx h))

protected theorem Canonical.coalesce {qpn : Nat} (h : Canonical s) : Canonical (coalesce s qpn) :=
  .ite (.raiseVector (.setQp h)) (.setQp h)

protected theorem Canonical.dmdStats {qpn : Nat} (h : Canonical s) : Canonical (dmdStats s qpn j) := by
  unfold dmdStats
  refine .ite h ?_
  refine .ite (.incRegField (.ite (.setRegField h) h)) ?_
  exact .ite (.recordEvent (.incRegField (.ite (.setRegField h) h))) (.ite (.setRegField h) h)

protected theorem Canonical.postCompletion {qpn : Nat} {st : Nat} {res : Bytes} {resLen : Nat} {appr : Bool}
    (h : Canonical s) : Canonical (postCompletion s qpn j st res resLen appr) := by
  unfold postCompletion
  refine .ite h ?_
  refine .ite (.setErr h) ?_
  exact .ite (.setQp h) (.coalesce (.dmdStats (.capture (.crossing (.setQp (.send h))))))

protected theorem Canonical.countEnded {st : Nat} (h : Canonical s) : Canonical (countEnded s j st) :=
  .ite (.setTen h) h

protected theorem Canonical.countSealErr {st : Nat} (h : Canonical s) : Canonical (countSealErr s st) :=
  .ite (.incRegField h) (.ite (.incRegField h) (.ite (.incRegField h) h))

protected theorem Canonical.takeHeld (h : Canonical s) : Canonical (takeHeld s o) := by
  unfold takeHeld
  split
  · exact h
  · exact h

protected theorem Canonical.manifestEntry {st : Nat} (h : Canonical s) : Canonical (manifestEntry s j st) :=
  .ite (.setMan h) h

protected theorem Canonical.finishJob {st : Nat} {res : Bytes} {resLen : Nat} {appr : Bool} (h : Canonical s) :
    Canonical (finishJob s j st res resLen appr) := by
  unfold finishJob
  extract_lets s1
  have h1 : Canonical s1 := .dropJob (.freeSched (.countSealErr (.countEnded (.manifestEntry h))))
  refine .ite (.takeHeld h1) ?_
  split
  · exact .mailboxDone h1
  · exact .ite (.fetchAll (.postCompletion h1)) (.fetchStart (.postCompletion h1))
  · exact .update h1 rfl rfl

protected theorem Canonical.orderAndFinish {st : Nat} {res : Bytes} {resLen : Nat} {appr : Bool} (h : Canonical s) :
    Canonical (orderAndFinish s j st res resLen appr) :=
  .ite (.finishJob h) (.ite (.finishJob (.setErr (.noteBlocked h))) (.setJob (.send h)))

protected theorem Canonical.endJob {st : Nat} {res : Bytes} {appr : Bool} (h : Canonical s) :
    Canonical (endJob s j st res appr) := by
  unfold endJob
  split
  · refine .ite ?_ (.orderAndFinish h)
    split
    next e => exact .orderAndFinish (.capture (.hostWrite e h))
    · exact .orderAndFinish (.noteBlocked h)
  · exact .orderAndFinish h

protected theorem Canonical.failJob {st : Nat} (h : Canonical s) : Canonical (failJob s j st) := .endJob h
protected theorem Canonical.okJob {res : Bytes} (h : Canonical s) : Canonical (okJob s j res) := .endJob h

protected theorem Canonical.blockedJob {r : HostRef} (h : Canonical s) : Canonical (blockedJob s j r) :=
  .failJob (.noteBlocked h)

protected theorem Canonical.writeAndEnd {r : HostRef} {st : Nat} {res : Bytes} {appr : Bool} (h : Canonical s) :
    Canonical (writeAndEnd s j r bs st res appr) := by
  unfold writeAndEnd
  split
  next e => exact .endJob (.hostWrite e h)
  · exact .blockedJob h

protected theorem Canonical.readOrEnd {refs : List HostRef} (h : Canonical s) : Canonical (readOrEnd s j refs) := by
  unfold readOrEnd
  split
  next e => exact .setJob (.issueReads e h)
  · split
    · exact .blockedJob h
    · exact .setJob h

/-! ### The frame of a command: operands, checks, release -/

protected theorem Canonical.dropWrites {p : AnchorWrite → Bool} (h : Canonical s) : Canonical (dropWrites s p) := h

protected theorem Canonical.stopTests (h : Canonical s) : Canonical (stopTests s o) := by
  unfold stopTests
  split
  · exact h
  · exact .ite h (.ite (.setAeng h) (.ite (.setSeng h) h))

protected theorem Canonical.undoCreate (h : Canonical s) : Canonical (undoCreate s o) := by
  unfold undoCreate
  split
  · exact .ite h h
  · exact h

protected theorem Canonical.undoDormant (h : Canonical s) : Canonical (undoDormant s o) := by
  unfold undoDormant
  split
  · exact .ite h h
  · exact h

protected theorem Canonical.releaseJob {s0 : State} (h : Canonical s0) : Canonical (releaseJob s0 o) :=
  .update (.dropWrites (.undoDormant (.undoCreate (.stopTests (.freeSched h))))) rfl rfl

protected theorem Canonical.dropWith {st : Nat} (h : Canonical s) : Canonical (dropWith s j st) :=
  .failJob (.releaseJob h)

protected theorem Canonical.memFail {f : LineFault} (h : Canonical s) : Canonical (memFail s j l f) :=
  .dropWith (.memError h)

protected theorem Canonical.withLines {lines : Nat × Nat} {k : State} (h : Canonical s) (hk : Canonical k) :
    Canonical (withLines s j lines k) := by
  unfold withLines
  split
  · exact .memFail h
  · exact hk

protected theorem Canonical.runCommand {code : Nat} {body : Job → State → State} (h : Canonical s)
    (hbody : ∀ {i u}, Canonical u → Canonical (body i u)) : Canonical (runCommand code o s body) := by
  unfold runCommand
  split
  · exact h
  · refine .ite h ?_
    split
    · exact .failJob h
    · split
      · exact .memFail h
      · exact hbody (.freeSched h)

protected theorem Canonical.checked {c : Option Nat} {effect : State} (h : Canonical s) (heffect : Canonical effect) :
    Canonical (checked c j s effect) := by
  unfold checked
  split
  · exact .dropWith h
  · exact heffect

/-! ### The NOR die (21) -/

protected theorem Canonical.norQueue {ops : List NorOp} (h : Canonical s) : Canonical (norQueue s ops) := h

protected theorem Canonical.eraseSector {sector : Nat} (h : Canonical s) : Canonical (eraseSector s sector) :=
  .ite (.dropRaw h) (.ite (.dropRaw h) (.ite (.dropRaw h) (.dropRaw h)))

protected theorem Canonical.damageAt (h : Canonical s) : Canonical (damageAt s a n) := h

protected theorem Canonical.cfgPut {h : CfgRecord} {pt : Bytes} {valid : Bool} (hs : Canonical s) :
    Canonical (cfgPut s h pt valid) :=
  hs

protected theorem Canonical.cfgAppend {ty key : Nat} {body : CfgBody} {valid : Bool} (h : Canonical s) :
    Canonical (cfgAppend s ty key body valid) :=
  .cfgPut h

protected theorem Canonical.cfgCompactOne (h : Canonical s) : Canonical (cfgCompactOne s) :=
  .eraseSector (.foldl h Canonical.cfgPut _)

protected theorem Canonical.cfgCompact (h : Canonical s) : Canonical (cfgCompact n s) := by
  induction n generalizing s with
  | zero => exact h
  | succ n ih => exact .ite (ih (.cfgCompactOne h)) h

protected theorem Canonical.startCfg {waiter : Option Origin} {ty key : Nat} {body : CfgBody}
    (e : startCfg s waiter ty key body = some t) (h : Canonical s) : Canonical t := by
  unfold startCfg at e
  dsimp only at e
  split at e
  · cases e
  · cases e
    exact .norQueue (.cfgAppend (.cfgCompact h))

protected theorem Canonical.cfgThen {ty key : Nat} {body : CfgBody} {commits : Bool} (h : Canonical s) :
    Canonical (cfgThen s j ty key body commits) := by
  unfold cfgThen
  split
  · exact .ite (.okJob h) (.dropWith h)
  next e => exact .setJob (.startCfg e h)

protected theorem Canonical.norWake (h : Canonical s) : Canonical (norWake s o) := by
  unfold norWake
  split
  · exact .ite (.setJob h) h
  · exact h

protected theorem Canonical.norFail {st : Nat} (h : Canonical s) : Canonical (norFail s o st) := by
  unfold norFail
  split
  · exact .ite h (.ite (.okJob h) (.dropWith h))
  · exact h

protected theorem Canonical.countProgram (h : Canonical s) : Canonical (countProgram s) := .incRegField h

protected theorem Canonical.cfgDone {seq : Nat} {w : Option Origin} {mark second ok : Bool} (h : Canonical s) :
    Canonical (cfgDone s seq w mark second ok) := by
  unfold cfgDone
  refine .ite (.ite ?_ h) ?_
  · dsimp only
    split
    · exact .norWake h
    · exact h
  · dsimp only
    split
    · exact .countProgram h
    · split
      · exact .norFail (.countProgram h)
      · exact .countProgram h

protected theorem Canonical.countUnread {unreadable : Bool} (h : Canonical s) : Canonical (countUnread s unreadable) :=
  .ite (.incRegField h) h

protected theorem Canonical.refreshLog {e : RefreshEntry} (h : Canonical s) : Canonical (refreshLog s e) := h

protected theorem Canonical.remapSector {sector spare : Nat} (h : Canonical s) :
    Canonical (remapSector s sector spare) :=
  .ite h (.refreshLog h)

protected theorem Canonical.takeSpare (h : Canonical s) : Canonical (takeSpare s).2 := h

protected theorem Canonical.retireSector {sector : Nat} (h : Canonical s) : Canonical (retireSector s sector).2 := by
  unfold retireSector
  extract_lets s1
  have h1 : Canonical s1 := .setRegField h
  clear_value s1
  split
  · exact .update h1 rfl rfl
  · exact .remapSector (.takeSpare h1)

protected theorem Canonical.passStart (h : Canonical s) : Canonical (passStart s) := .refreshLog h

protected theorem Canonical.passEnd (h : Canonical s) : Canonical (passEnd s) :=
  .ite (.passStart (.refreshLog h)) (.refreshLog h)

protected theorem Canonical.refreshBegin {sector : Nat} {firmware : Bool} (h : Canonical s) :
    Canonical (refreshBegin s sector firmware) :=
  .norQueue (.takeSpare h)

protected theorem Canonical.setNvmLast {st : Nat} (h : Canonical s) : Canonical (setNvmLast s st) := h

protected theorem Canonical.refreshDone {sector spare step : Nat} {fw ok : Bool} (h : Canonical s) :
    Canonical (refreshDone s sector spare step fw ok) := by
  unfold refreshDone
  extract_lets _ next fin r2 _ r3 _ s1 _ full s2 _ s3
  have hnext : ∀ {u b k}, Canonical u → Canonical (next u b k) := fun hu => hu.update rfl rfl
  have hfin : ∀ {u st}, Canonical u → Canonical (fin u st) := fun hu => .ite (.setNvmLast hu) (.update hu rfl rfl)
  have h1 : Canonical s1 := .setRegField h
  have hfull : Canonical full := .update h1 rfl rfl
  have h2 : Canonical s2 := .remapSector h1
  have h3 : Canonical s3 := .countProgram h
  clear_value next fin s1 full s2 s3
  refine .ite (.ite (hnext h) (.ite (hnext (.update (.refreshLog h) rfl rfl)) (.ite (hnext h) ?_))) ?_
  · exact hfin (.update (.refreshLog h) rfl rfl)
  · refine .ite (.ite (.ite (.setNvmLast hfull) hfull) ?_) (.ite (.setNvmLast h3) h3)
    exact hfin (.update h2 rfl rfl)

protected theorem Canonical.fwProgramDone {ok : Bool} (h : Canonical s) : Canonical (fwProgramDone s a bs ok) := by
  unfold fwProgramDone
  refine .ite (.setNvmLast (.norProgram (.damageAt h))) ?_
  exact .setNvmLast (.countProgram (.norProgram (.damageAt (.tookFree h))))

protected theorem Canonical.fwEraseDone {sector : Nat} {ok : Bool} (h : Canonical s) :
    Canonical (fwEraseDone s sector ok) := by
  unfold fwEraseDone
  refine .ite (.setNvmLast (.eraseSector h)) ?_
  exact .ite (.setNvmLast (.eraseSector (.retireSector h))) (.setNvmLast (.retireSector h))

protected theorem Canonical.copyFail {sector : Nat} (h : Canonical s) : Canonical (copyFail s sector) :=
  .ite h (.ite h h)

protected theorem Canonical.commandNorDone {sector : Nat} {erase ok : Bool} (h : Canonical s) :
    Canonical (commandNorDone s o sector erase ok) := by
  unfold commandNorDone
  refine .ite (.norWake h) ?_
  refine .ite ?_ (.norFail (.countProgram (.copyFail h)))
  exact .ite (.norWake (.retireSector h)) (.norFail (.retireSector h))

protected theorem Canonical.norOpDone {bank : Nat} {ok : Bool} (h : Canonical s) : Canonical (norOpDone s bank ok) := by
  unfold norOpDone
  split
  · exact h
  · refine .ite h ?_
    dsimp only
    split
    · exact .cfgDone (.capture h)
    · exact .fwProgramDone (.capture h)
    · exact .fwEraseDone (.capture h)
    · exact .refreshDone (.capture h)
    · exact .commandNorDone (.capture h)

protected theorem Canonical.norThen {sector : Nat} {erase commits : Bool} (h : Canonical s) :
    Canonical (norThen s j sector erase commits) :=
  .setJob (.norQueue h)

protected theorem Canonical.norResume {bank : Nat} (h : Canonical s) : Canonical (norResume s bank) := h

/-! ### The colour units (10) -/

protected theorem Canonical.colourFault {a : Access} (h : Canonical s) : Canonical (colourFault s j a) :=
  .dropWith (.recordStatus (.setReg (.setReg (.ite (.incRegField h) (.incRegField h)))))

protected theorem Canonical.withManifest {h : Nat} {k : State} (hs : Canonical s) (hk : Canonical k) :
    Canonical (withManifest s j h k) :=
  .ite (.withLines hs hk) (.colourFault hs)

protected theorem Canonical.manFree {h : Nat} (hs : Canonical s) : Canonical (manFree s h) := hs

/-! ### The frames of a link (16) -/

protected theorem Canonical.sendSealed (h : Canonical s) : Canonical (sendSealed s l f) := .send (.setLink h)

/-! ### Mode changes (11) -/

protected theorem Canonical.setMode {m : Mode} (h : Canonical s) : Canonical (setMode s m) := .ite h (.recordEvent h)

protected theorem Canonical.sendRate {req ack : Nat} (h : Canonical s) : Canonical (sendRate s l req ack) :=
  .sendSealed (.setLink h)

protected theorem Canonical.askRate {req : Nat} (h : Canonical s) : Canonical (askRate s req) :=
  .foldl h Canonical.sendRate _

protected theorem Canonical.ambCheckpoint (h : Canonical s) : Canonical (ambCheckpoint s) :=
  .ite h (.update (.capture (.foldl (.capture h) Canonical.capture _)) rfl rfl)

protected theorem Canonical.hushEnter (h : Canonical s) : Canonical (hushEnter s) :=
  .update (.ambCheckpoint (.askRate (.setMode h))) rfl rfl

protected theorem Canonical.identBus {b : Nat} (h : Canonical s) : Canonical (identBus s b) := .setBus h
protected theorem Canonical.serviceEntered (h : Canonical s) : Canonical (serviceEntered s) := .ite h (.identBus h)

protected theorem Canonical.hushExit (h : Canonical s) : Canonical (hushExit s) :=
  .ite h (.fetchAll (.serviceEntered (.askRate (.setMode h))))

protected theorem Canonical.stagingCheck (h : Canonical s) : Canonical (stagingCheck s) := .ite (.hushExit h) h

/-! ### Host ports, functions and mailboxes (02) -/

protected theorem Canonical.sizeError (h : Canonical s) : Canonical (sizeError s b) := .ite (.setErr h) h
protected theorem Canonical.mmio {f off len v : Nat} (h : Canonical s) : Canonical (mmio s p f off len v) := .capture h
protected theorem Canonical.dispatchMerge (h : Canonical s) : Canonical (dispatchMerge s b) := .crossing h

protected theorem Canonical.mbxCmdWrite {off : Nat} (h : Canonical s) : Canonical (mbxCmdWrite s b off bs) := by
  unfold mbxCmdWrite
  refine .ite h ?_
  refine .ite (.sizeError h) ?_
  refine .ite h ?_
  exact .ite (.ite (.setMbx (.dispatchMerge (.mmio h))) (.setMbx (.dispatchMerge (.mmio h)))) h

protected theorem Canonical.passJob (h : Canonical s) : Canonical (passJob s j) := .ite h (.addJob h)

protected theorem Canonical.goAct (h : Canonical s) : Canonical (goAct s b) :=
  .ite (.hushExit (.passJob (.setMbx h))) (.setMbx h)

protected theorem Canonical.abortAct (h : Canonical s) : Canonical (abortAct s b) := by
  unfold abortAct
  refine .ite h (.ite (.mailboxDone h) ?_)
  split
  · exact .ite (.setJob h) h
  · exact h

protected theorem Canonical.ackClear (h : Canonical s) : Canonical (ackClear s b) := .ite (.setMbx h) (.setMbx h)
protected theorem Canonical.setIrq {irqEn : Bool} (h : Canonical s) : Canonical (setIrq s b irqEn) := .setMbx h

protected theorem Canonical.abortPoint (h : Canonical s) : Canonical (abortPoint s o) := by
  unfold abortPoint
  split
  · exact .ite (.dropWith h) h
  · exact h

protected theorem Canonical.cmdUnknown (h : Canonical s) : Canonical (cmdUnknown s o) := by
  unfold cmdUnknown
  split
  · exact .ite (.failJob h) h
  · exact h

protected theorem Canonical.readFailed {bit : Nat} (h : Canonical s) : Canonical (readFailed s j bit) := by
  unfold readFailed
  split
  · exact h
  · refine .ite (.readsGo (.finishJob (.releaseJob (.setErr (.setErr h))))) ?_
    exact .readsGo (.failJob (.releaseJob (.setErr h)))

protected theorem Canonical.fetchFailed {bit : Nat} (h : Canonical s) : Canonical (fetchFailed s n bit) :=
  .readsGo (.setErr (.setQp h))

protected theorem Canonical.controlRead (h : Canonical s) : Canonical (controlRead s b bs) := .capture h

protected theorem Canonical.journalPayload {src : Bytes} (h : Canonical s) : Canonical (journalPayload s j src) :=
  .capture (.capture h)

protected theorem Canonical.journalRead (h : Canonical s) : Canonical (journalRead s j b bs) :=
  .ite h (.ite (.controlRead h) (.journalPayload h))

protected theorem Canonical.readArrived {r : HostRef} {rest : List HostRef} (h : Canonical s) :
    Canonical (readArrived s j r rest bs) := by
  unfold readArrived
  dsimp only
  split
  · exact .readsGo (.setJob (.journalRead h))
  · split
    next e => exact .readsGo (.setJob (.issueReads e (.setJob (.journalRead h))))
    · split
      · exact .readsGo (.failJob (.releaseJob (.noteBlocked (.journalRead h))))
      · exact .journalRead h

protected theorem Canonical.hostDmaReadCompletion {r : DmaResult} (h : Canonical s) :
    Canonical (hostDmaReadCompletion s o r) := by
  unfold hostDmaReadCompletion
  split
  · exact h
  · split
    · split
      · exact .ite (.readArrived h) h
      · exact .readFailed h
      · exact .readFailed h
      · exact .readFailed h
    · exact h

protected theorem Canonical.cplTimeout (h : Canonical s) : Canonical (cplTimeout s o) := by
  unfold cplTimeout
  split
  · exact .ite h (.readFailed (.timerTaken h))
  · split
    · exact .ite (.fetchFailed (.timerTaken h)) h
    · exact h

protected theorem Canonical.orderingRead {ok : Bool} (h : Canonical s) : Canonical (orderingRead s o ok) := by
  unfold orderingRead
  split
  · split
    · exact .ite (.readsGo (.finishJob h)) (.readFailed h)
    · exact .ite (.setJob h) (.readFailed h)
    · exact h
  · exact h

protected theorem Canonical.endReaders {sel : BindId → Bool} {bit : Nat} (h : Canonical s) :
    Canonical (endReaders s sel bit) := by
  unfold endReaders
  refine .foldl (.foldl h (fun h1 => ?_) _) Canonical.fetchFailed _
  split
  · exact .readFailed h1
  · exact h1

protected theorem Canonical.linkUp {rate width : Nat} {flit : Bool} (h : Canonical s) :
    Canonical (linkUp s p rate width flit) :=
  .ite h (.fetchAll (.ite (.recordEvent (.setPort h)) (.setPort h)))

protected theorem Canonical.linkDown (h : Canonical s) : Canonical (linkDown s p) := .endReaders (.setPort h)

protected theorem Canonical.failedTraining (h : Canonical s) : Canonical (failedTraining s p) :=
  .endReaders (.setPort h)

protected theorem Canonical.bmeSet {f : Nat} (h : Canonical s) : Canonical (bmeSet s p f) := .fetchAll (.setFn h)
protected theorem Canonical.bmeClear {f : Nat} (h : Canonical s) : Canonical (bmeClear s p f) := .endReaders (.setFn h)
protected theorem Canonical.vfEnable (h : Canonical s) : Canonical (vfEnable s p n) := .setPort h

protected theorem Canonical.msixUnmask {f v : Nat} (h : Canonical s) : Canonical (msixUnmask s p f v) :=
  .ite (.send (.setFn h)) (.setFn h)

protected theorem Canonical.mapQps {sel : QueuePair → Bool} {f : QueuePair → QueuePair} (h : Canonical s) :
    Canonical (mapQps s sel f) :=
  h

protected theorem Canonical.resetJob (h : Canonical s) : Canonical (resetJob s j) :=
  .ite (.setJob h) (.dropJob (.releaseJob h))

protected theorem Canonical.resetTenant {t : Nat} (h : Canonical s) : Canonical (resetTenant s t) := .ite (.setTen h) h

protected theorem Canonical.resetPrimary (h : Canonical s) : Canonical (resetPrimary s b) := by
  unfold resetPrimary
  extract_lets s1 s2 s3
  have h2 : Canonical s2 := .foldl (.update (.mapQps h) rfl rfl) Canonical.resetJob _
  have h3 : Canonical s3 := .readsGo (.setMbx h2)
  exact .ite h3 (.resetTenant h3)

protected theorem Canonical.resetTwin (h : Canonical s) : Canonical (resetTwin s b) := .endReaders h

protected theorem Canonical.resetBinding (h : Canonical s) : Canonical (resetBinding s b) :=
  .ite h (.ite (.resetTwin h) (.resetPrimary h))

protected theorem Canonical.resetPortRegs (h : Canonical s) : Canonical (resetPortRegs s p) := .setPort h

protected theorem Canonical.resetFunction {f : Nat} (h : Canonical s) : Canonical (resetFunction s p f) := by
  unfold resetFunction
  exact .resetPortRegs (.ite (.setPort (.foldl h Canonical.resetBinding _))
    (.setFn (.foldl h Canonical.resetBinding _)))

protected theorem Canonical.ownerResume (h : Canonical s) : Canonical (ownerResume s p) := .mapQps h

protected theorem Canonical.flr {f : Nat} (h : Canonical s) : Canonical (flr s p f) :=
  .ite (.ownerResume (.resetFunction h)) (.resetFunction h)

protected theorem Canonical.perstAssert (h : Canonical s) : Canonical (perstAssert s p) :=
  .setPort (.resetFunction (.linkDown h))

/-! ### Queue pairs and the scheduler (03) -/

protected theorem Canonical.dbBad (h : Canonical s) : Canonical (dbBad s n) := .setQp h

protected theorem Canonical.doorbell {q off v : Nat} {act : State → Nat → State} (h : Canonical s)
    (hact : ∀ {u m}, Canonical u → Canonical (act u m)) : Canonical (doorbell s b q off v act) := by
  unfold doorbell
  refine .ite h ?_
  dsimp only
  split
  · exact .hushExit (.setErr (.dispatchMerge (.mmio h)))
  · refine .ite (.hushExit (.dispatchMerge (.mmio h))) ?_
    exact .fetchStart (.hushExit (hact (.dispatchMerge (.mmio h))))

protected theorem Canonical.tailArrives {v : Nat} (h : Canonical s) : Canonical (tailArrives s n v) :=
  .ite (.class0Arrives (.setQp h)) (.setQp h)

protected theorem Canonical.sqTail {q v : Nat} (h : Canonical s) : Canonical (sqTail s b q v) :=
  .doorbell h (fun h1 => .ite (.dbBad h1) (.tailArrives h1))

protected theorem Canonical.cqHead {q v : Nat} (h : Canonical s) : Canonical (cqHead s b q v) :=
  .doorbell h (fun h1 => .ite (.dbBad h1) (.setQp h1))

protected theorem Canonical.noteSpoof {claimed : Nat} (h : Canonical s) : Canonical (noteSpoof s n j claimed) := by
  unfold noteSpoof
  exact .recordStatus (.setRegField (.setRegField (.setRegField (.setRegField (.incRegField (.ite h (.setTen h)))))))

protected theorem Canonical.countArrival {a : Arrival} (h : Canonical s) : Canonical (countArrival s j a) :=
  .ite h (.ite (.flagClass0 (.ite (.class0Arrives h) h)) (.ite (.class0Arrives h) h))

protected theorem Canonical.takeEntry {entry : Bytes} (h : Canonical s) : Canonical (takeEntry s n entry) := by
  unfold takeEntry
  extract_lets q slots j q' s1 s2 s3
  have h3 : Canonical s3 := .fetchStart (.countArrival (.addJob (.controlRead (.setQp h))))
  split
  · exact h3
  · exact .failJob (.ite (.noteSpoof h3) h3)

protected theorem Canonical.framingError {h : Bytes} (hs : Canonical s) : Canonical (framingError s n h) :=
  .setQp (.failJob (.addJob (.setQp hs)))

protected theorem Canonical.sqBytes (h : Canonical s) : Canonical (sqBytes s n bs) := by
  unfold sqBytes
  dsimp only
  split
  · exact .ite (.takeEntry h) h
  · exact .ite h (.ite (.framingError h) (.ite (.setQp h) (.ite (.takeEntry h) h)))

protected theorem Canonical.fetchArrives {r : DmaResult} (h : Canonical s) : Canonical (fetchArrives s n r) := by
  unfold fetchArrives
  split
  · exact .readsGo (.sqBytes h)
  · exact .fetchFailed h
  · exact .fetchFailed h
  · exact .fetchFailed h

protected theorem Canonical.contextLost {f : LineFault} (h : Canonical s) : Canonical (contextLost s n l f) :=
  .readsGo (.setQp (.memError h))

protected theorem Canonical.sqFetch {r : DmaResult} (h : Canonical s) : Canonical (sqFetch s n r) := by
  unfold sqFetch
  dsimp only
  split
  · exact .ite (.contextLost h) h
  · refine .ite (.ite (.readsGo (.setQp h)) h) ?_
    exact .ite (.fetchArrives h) (.ite h (.ite (.fetchArrives (.fetchStart h)) (.fetchStart h)))

protected theorem Canonical.chargeDeficits (h : Canonical s) : Canonical (chargeDeficits s j) := h

protected theorem Canonical.chargeBuckets (h : Canonical s) : Canonical (chargeBuckets s j) := by
  unfold chargeBuckets
  refine .ite h ?_
  split
  · exact h
  · exact .setTen h

protected theorem Canonical.schedStart (h : Canonical s) : Canonical (schedStart s o) := by
  unfold schedStart
  split
  · exact h
  · refine .ite h (.ite h (.ite h ?_))
    split
    · exact h
    · exact .holdDispatcher (.ite (.takeCredit (.setJob (.chargeBuckets (.chargeDeficits h))))
        (.setJob (.chargeBuckets (.chargeDeficits h))))

protected theorem Canonical.bucketRefill {t us : Nat} (h : Canonical s) : Canonical (bucketRefill s t us) :=
  .ite h (.setTen (.timerTaken h))

protected theorem Canonical.quiesceTenant {t : Nat} {abort : Bool} (h : Canonical s) :
    Canonical (quiesceTenant s t abort) :=
  .ite (.ite (.mapQps (.setTen h)) h) (.ite (.mapQps (.setTen h)) h)

protected theorem Canonical.spoofLimit {t : Nat} (h : Canonical s) : Canonical (spoofLimit s t) :=
  .ite (.recordEvent (.quiesceTenant h)) h

protected theorem Canonical.coalExpire (h : Canonical s) : Canonical (coalExpire s n) :=
  .ite h (.raiseVector (.timerTaken (.setQp h)))

protected theorem Canonical.openQp {q : QueuePair} (h : Canonical s) : Canonical (openQp s n q) := h
protected theorem Canonical.closeQp (h : Canonical s) : Canonical (closeQp s n) := h
protected theorem Canonical.qpCreate (h : Canonical s) : Canonical (qpCreate j s) := .checked h (.okJob (.openQp h))
protected theorem Canonical.qpDelete (h : Canonical s) : Canonical (qpDelete j s) := .checked h (.okJob (.closeQp h))

/-! ### Random bit generation (09) -/

protected theorem Canonical.noteEntropy {before : Nat} (h : Canonical s) : Canonical (noteEntropy before s) :=
  .ite h (.recordEvent h)

protected theorem Canonical.setSource {v : NoiseSource} {test : Nat} (h : Canonical s) :
    Canonical (setSource s n v test) :=
  .noteEntropy (.recordEvent h)

protected theorem Canonical.sourceFails {test kind : Nat} (h : Canonical s) : Canonical (sourceFails s n test kind) :=
  .setSource (.ite (.incRegField h) (.incRegField h))

protected theorem Canonical.startupTest {samples : Bytes} (h : Canonical s) : Canonical (startupTest s n samples) := by
  unfold startupTest
  dsimp only
  split
  · exact .ite h (.setSource h)
  · exact .sourceFails h

protected theorem Canonical.startupTestDone {samples : Bytes} (h : Canonical s) :
    Canonical (startupTestDone s n samples) :=
  .ite h (.startupTest h)

protected theorem Canonical.discardBlock (h : Canonical s) : Canonical (discardBlock s) := .incRegField h

protected theorem Canonical.sourceFail {samples : Bytes} (h : Canonical s) : Canonical (sourceFail s n samples) := by
  unfold sourceFail
  refine .ite h ?_
  split
  · exact h
  · exact .sourceFails (.ite (.discardBlock h) h)

protected theorem Canonical.sourceRetest {samples : Bytes} (h : Canonical s) : Canonical (sourceRetest s n samples) :=
  .ite h (.ite h (.ite h (.startupTest (.timerTaken h))))

protected theorem Canonical.pushBlock {block : Bytes} (h : Canonical s) : Canonical (pushBlock s block) := h

protected theorem Canonical.conditionerBlock {raw : Bytes} (h : Canonical s) : Canonical (conditionerBlock s raw) := by
  unfold conditionerBlock
  refine .ite h ?_
  dsimp only
  refine .ite (.pushBlock h) ?_
  refine .foldl ?_ Canonical.sourceFails _
  exact .discardBlock (.update h rfl rfl)

protected theorem Canonical.takeBlock {inst : Nat} (h : Canonical s) : Canonical (takeBlock s inst).2 := by
  unfold takeBlock
  dsimp only
  split
  · split
    · exact h
    · exact h
  · exact .capture h

protected theorem Canonical.setDrbg {d : Drbg} (h : Canonical s) : Canonical (setDrbg s n d) := h
protected theorem Canonical.instantiateNow (h : Canonical s) : Canonical (instantiateNow s n) := .setDrbg (.takeBlock h)

protected theorem Canonical.serveWanted (h : Canonical s) : Canonical (serveWanted s) := by
  unfold serveWanted
  split
  · exact .ite (.instantiateNow h) h
  · exact h

protected theorem Canonical.uninstantiate (h : Canonical s) : Canonical (uninstantiate s n) := .setDrbg h

theorem seedGate_ne_ok {cls0 : Bool} : seedGate s n cls0 ≠ some (.ok bs t) := by
  unfold seedGate
  split_ifs <;> simp

protected theorem Canonical.instantiate (e : instantiate s n = .ok bs t) (h : Canonical s) : Canonical t := by
  unfold instantiate at e
  split at e
  next hd => exact absurd (hd.trans (congrArg some e)) seedGate_ne_ok
  · cases e
    exact .instantiateNow h

protected theorem Canonical.reseedNow (h : Canonical s) : Canonical (reseedNow s n) := .setDrbg (.takeBlock h)

protected theorem Canonical.request {len : Nat} (h : Canonical s) : Canonical (request s n len).2 :=
  .ite (.reseedNow (.setDrbg h)) (.setDrbg h)

protected theorem Canonical.requests {cls0 : Bool} {k len : Nat} {acc : Bytes}
    (e : requests n cls0 k len s acc = .ok bs t) (h : Canonical s) : Canonical t := by
  induction k generalizing s len acc with
  | zero => cases e; exact h
  | succ k ih =>
    unfold requests at e
    dsimp only at e
    split at e
    · split at e
      next hd => exact absurd (hd.trans (congrArg some e)) seedGate_ne_ok
      · exact ih e (.request (.reseedNow h))
    · exact ih e (.request h)

protected theorem Canonical.draw {len : Nat} {cls0 : Bool} (e : draw s n len cls0 = .ok bs t) (h : Canonical s) :
    Canonical t := by
  unfold draw at e
  split at e
  · cases e
  · exact .requests e (.crossing h)

protected theorem Canonical.withDraw {len : Nat} {k : Bytes → State → State} (h : Canonical s)
    (hk : ∀ {bs u}, Canonical u → Canonical (k bs u)) : Canonical (withDraw s j n len k) := by
  unfold withDraw
  split
  next e => exact hk (.draw e h)
  next e => exact .dropWith (.ite (.incRegField h) h)
  · exact .setJob h

protected theorem Canonical.rngStarved (h : Canonical s) : Canonical (rngStarved s o) := by
  unfold rngStarved
  split
  · exact .ite (.dropWith (.incRegField (.timerTaken h))) h
  · exact h

protected theorem Canonical.rngModeChanged (h : Canonical s) : Canonical (rngModeChanged s) := h

protected theorem Canonical.rngTestWrite {v : Nat} (h : Canonical s) : Canonical (rngTestWrite s v) :=
  .ite h (.ite (.setRegField (.setRegField h)) (.rngModeChanged (.setRegField (.setRegField h))))

protected theorem Canonical.rngRawRead {samples : Nat} (h : Canonical s) : Canonical (rngRawRead s samples) :=
  .ite (.ite (.send h) (.send h)) (.send h)

protected theorem Canonical.rngGenerateDraw (h : Canonical s) : Canonical (rngGenerateDraw j s) :=
  .withDraw h Canonical.writeAndEnd

protected theorem Canonical.rngGenerate (h : Canonical s) : Canonical (rngGenerate j s) := by
  unfold rngGenerate
  exact .checked h (.ite (.dropWith h) (.ite (.ite (.rngGenerateDraw (.reseedNow h)) (.setJob h)) (.rngGenerateDraw h)))

/-! ### The key vault's shared operations (06) -/

protected theorem Canonical.recordFail {pend : Bool} (h : Canonical s) : Canonical (recordFail s j n pend) :=
  .recordStatus (.setSlot h)

protected theorem Canonical.recordFailed {pend : Bool} {h : SlotHalf} (hs : Canonical s) :
    Canonical (recordFailed s j n pend h) := by
  unfold recordFailed
  refine .dropWith (.recordFail ?_)
  split
  · exact .memError hs
  · exact hs

protected theorem Canonical.materialStep {st : Nat} (h : Canonical s) : Canonical (materialStep s j n st) := .capture h

protected theorem Canonical.withMaterial {pend : Bool} {k : State → SlotHalf → State} (h : Canonical s)
    (hk : ∀ {u v}, Canonical u → Canonical (k u v)) : Canonical (withMaterial s j n pend k) := by
  unfold withMaterial
  split
  · exact .dropWith h
  · split
    · exact hk (.materialStep h)
    · exact .recordFailed (.materialStep h)

protected theorem Canonical.withPublic {pend : Bool} {k : SlotHalf → State} (h : Canonical s)
    (hk : ∀ {v}, Canonical (k v)) : Canonical (withPublic s j n pend k) := by
  unfold withPublic
  split
  · exact .dropWith h
  · split
    · exact hk
    · exact .recordFailed h

protected theorem Canonical.arbiterOutcome (h : Canonical s) : Canonical (arbiterOutcome s) := .crossing h

protected theorem Canonical.holdOrder {names : List Nat} (h : Canonical s) : Canonical (holdOrder s j names) :=
  .ite h (.ite (.takeCredit (.arbiterOutcome (.setJob h))) (.arbiterOutcome (.setJob h)))

protected theorem Canonical.arbiterLost {by_ : Nat} (h : Canonical s) : Canonical (arbiterLost s j by_) :=
  .recordStatus (.incRegField (.arbiterOutcome h))

protected theorem Canonical.supersede {by_ : Nat} (h : Canonical s) : Canonical (supersede s j by_) :=
  .dropWith (.arbiterLost h)

protected theorem Canonical.supersedeLower {me : Job} (h : Canonical s) : Canonical (supersedeLower s me) := by
  unfold supersedeLower
  refine .foldl h (fun h1 => ?_) _
  split
  · exact h1
  · exact .ite (.setJob (.incRegField h1)) (.supersede h1)

protected theorem Canonical.prevail {k : State → Job → State} (h : Canonical s)
    (hk : ∀ {u i}, Canonical u → Canonical (k u i)) : Canonical (prevail s j k) :=
  .ite (.setJob (.supersedeLower (.setJob h))) (hk (.supersedeLower (.setJob h)))

protected theorem Canonical.bindOrder {names : List Nat} (h : Canonical s) : Canonical (bindOrder s j names).1 :=
  .arbiterOutcome (.setJob h)

protected theorem Canonical.orderZeroised (h : Canonical s) : Canonical (orderZeroised s j) := .dropWith h
protected theorem Canonical.orderFault (h : Canonical s) : Canonical (orderFault s j) := .colourFault h

protected theorem Canonical.takeOrder {names : List Nat} {k : State → Job → State} (h : Canonical s)
    (hk : ∀ {u i}, Canonical u → Canonical (k u i)) : Canonical (takeOrder s j names k) := by
  unfold takeOrder
  refine .ite (.orderZeroised h) ?_
  exact .ite (.orderFault h) (.ite (.ite (hk h) (hk h)) (.ite (.holdOrder h) (hk (.bindOrder h))))

protected theorem Canonical.touched {pend : Bool} {code seq : Nat} (h : Canonical s) :
    Canonical (touched s n pend code seq) :=
  .ite (.setSlot h) h

protected theorem Canonical.commitOrder {k : State} (h : Canonical s) (hk : Canonical k) :
    Canonical (commitOrder s j k) := by
  unfold commitOrder
  split
  · exact .supersede h
  · exact hk

protected theorem Canonical.clearSlot {code seq : Nat} (h : Canonical s) : Canonical (clearSlot s n code seq) :=
  .touched (.setSlot (.recordsFree h))

protected theorem Canonical.clearPending {code seq : Nat} (h : Canonical s) : Canonical (clearPending s n code seq) :=
  .touched (.setSlot (.recordsFree h))

protected theorem Canonical.allPendingGone {code : Nat} (h : Canonical s) : Canonical (allPendingGone s code) :=
  .foldl h Canonical.clearPending _

protected theorem Canonical.reserve {half : Nat} (h : Canonical s) : Canonical (reserve s j n half).1 :=
  .setJob (.setSlot h)

protected theorem Canonical.withTarget {half cls size dest usage : Nat} {k : State → Job → Nat → State}
    (h : Canonical s) (hk : ∀ {u i m}, Canonical u → Canonical (k u i m)) :
    Canonical (withTarget s j n half cls size dest usage k) := by
  unfold withTarget
  split
  · exact hk h
  · split
    · exact .dropWith h
    · dsimp only
      split
      · exact .dropWith h
      · exact hk (.reserve h)

protected theorem Canonical.writeHalf {half code seq : Nat} {h : SlotHalf} (hs : Canonical s) :
    Canonical (writeHalf s n half code seq h) := by
  unfold writeHalf
  dsimp only
  refine .touched (.setSlot ?_)
  split
  · exact hs
  · exact .storeRecords hs

protected theorem Canonical.storeKey {h : SlotHalf} {done : State → Bytes → State} (hs : Canonical s)
    (hdone : ∀ {u bs}, Canonical u → Canonical (done u bs)) : Canonical (storeKey s j h done) := by
  unfold storeKey
  split
  · exact .dropWith hs
  · refine .ite (.dropWith hs) ?_
    split
    · exact .memFail hs
    · exact .commitOrder hs (hdone (.writeHalf (.materialStep hs)))

/-! ### What the links and the fabric share (16, 17) -/

protected theorem Canonical.sendLink (h : Canonical s) : Canonical (sendLink s l f) := .ite (.sendSealed h) (.send h)
protected theorem Canonical.enqueue (h : Canonical s) : Canonical (enqueue s l f) := .setLink h

protected theorem Canonical.drainLink (h : Canonical s) : Canonical (drainLink s l) := by
  unfold drainLink
  dsimp only
  split
  · exact h
  · exact .crossing (.sendLink (.setLink h))

protected theorem Canonical.logNak {payload : Bytes} {peer : Option Nat} (h : Canonical s) :
    Canonical (logNak s payload peer) :=
  .recordEvent (.setRegField (.incRegField h))

protected theorem Canonical.routeIntake (h : Canonical s) : Canonical (routeIntake s f l) := .ite (.crossing h) h

protected theorem Canonical.forwardPlain (e : forwardPlain s f = some t) (h : Canonical s) : Canonical t := by
  unfold forwardPlain at e
  split at e
  · cases e
  · split at e
    · cases e
      exact .enqueue (.routeIntake h)
    · cases e

protected theorem Canonical.delivered {ty : Nat} (h : Canonical s) : Canonical (delivered s l ty) :=
  .ite (.crossing h) (.crossing h)

protected theorem Canonical.newFrame {ty cls dst : Nat} {payload : Bytes} (h : Canonical s) :
    Canonical (newFrame s ty cls dst payload).2 :=
  h

protected theorem Canonical.noticeUnreachable {tag : Nat} (h : Canonical s) : Canonical (noticeUnreachable s tag) := by
  unfold noticeUnreachable
  split
  · exact h
  · dsimp only
    split
    · exact .failJob h
    · exact h

protected theorem Canonical.endFetch {tag st : Nat} (h : Canonical s) : Canonical (endFetch s tag st) := by
  unfold endFetch
  split
  · exact h
  · dsimp only
    split
    · exact .dropWith h
    · exact h

protected theorem Canonical.takeNak {payload : Bytes} (h : Canonical s) : Canonical (takeNak s payload) :=
  .ite (.endFetch h) (.ite (.endFetch (.logNak h)) (.ite (.endFetch (.logNak h)) (.logNak h)))

protected theorem Canonical.sendNak {reason : Nat} (h : Canonical s) : Canonical (sendNak s f reason) := by
  unfold sendNak
  refine .ite h (.ite (.takeNak h) ?_)
  exact .getD h fun e => .forwardPlain e h

protected theorem Canonical.noPath0 (h : Canonical s) : Canonical (noPath0 s f) := by
  unfold noPath0
  refine .ite (.noticeUnreachable h) (.ite (.recordEvent h) ?_)
  dsimp only
  split
  next e => exact .forwardPlain e h
  · exact .recordEvent h

protected theorem Canonical.forward (h : Canonical s) : Canonical (forward s f) := by
  unfold forward
  split
  next e => exact .forwardPlain e h
  · exact .ite (.noPath0 h) (.sendNak h)

protected theorem Canonical.sendNet {ty cls dst : Nat} {payload : Bytes} (h : Canonical s) :
    Canonical (sendNet s ty cls dst payload).2 := by
  unfold sendNet
  exact .forward (.newFrame h)

protected theorem Canonical.handBack (h : Canonical s) : Canonical (handBack s l) :=
  .foldl (.setLink h) Canonical.forward _

protected theorem Canonical.endSession (h : Canonical s) : Canonical (endSession s l) :=
  .setLink (.clearSlot (.clearSlot h))

protected theorem Canonical.linkTo {st : LinkState} {event : Bool} (h : Canonical s) :
    Canonical (linkTo s l st event) :=
  .handBack (.ite (.recordEvent (.setLink h)) (.setLink h))

protected theorem Canonical.quarantineLink (h : Canonical s) : Canonical (quarantineLink s l) := .linkTo (.setLink h)

protected theorem Canonical.settleLink (h : Canonical s) : Canonical (settleLink s l) :=
  .ite (.quarantineLink h) (.ite (.linkTo h) (.ite (.linkTo h) (.handBack h)))

protected theorem Canonical.accountFrame {bad : Bool} (h : Canonical s) : Canonical (accountFrame s l f bad) :=
  .settleLink (.setLink h)

protected theorem Canonical.leaveIsolation (h : Canonical s) : Canonical (leaveIsolation s) := .ite (.recordEvent h) h

protected theorem Canonical.dormantFrame (h : Canonical s) : Canonical (dormantFrame s l f) :=
  .ite h (.send (.setLink h))

protected theorem Canonical.recvFrame {ty : Nat} {act : Frame → State → State} (h : Canonical s)
    (hact : ∀ {g u}, Canonical u → Canonical (act g u)) : Canonical (recvFrame s l ty f act) := by
  unfold recvFrame
  refine .ite (.dormantFrame h) (.ite h ?_)
  split
  · exact .accountFrame h
  · refine .ite (.setLink (.accountFrame h)) ?_
    exact hact (.ite (.leaveIsolation (.capture (.accountFrame h)))
      (.hushExit (.leaveIsolation (.capture (.accountFrame h)))))

protected theorem Canonical.recvNet {ty : Nat} {act : Frame → State → State} (h : Canonical s)
    (hact : ∀ {g u}, Canonical u → Canonical (act g u)) : Canonical (recvNet s l ty f act) := by
  unfold recvNet
  exact .recvFrame h (fun h1 => .ite h1
    (.ite (.setLink h1) (.ite (hact (.delivered (.crossing h1)))
    (.ite (.ite (.noPath0 (.crossing h1)) (.sendNak (.crossing h1))) (.forward (.crossing h1))))))

protected theorem Canonical.markResent {ty item peer : Nat} (h : Canonical s) : Canonical (markResent s ty item peer) :=
  h

protected theorem Canonical.pushTo {p ty item batch : Nat} {mk : Nat → Bytes} (h : Canonical s) :
    Canonical (pushTo s p ty item batch mk) := by
  unfold pushTo
  split
  · exact h
  · exact .ite (.incRegField (.update (.sendNet (.markResent h)) rfl rfl)) (.logNak h)

protected theorem Canonical.pushAll {ty item batch : Nat} {mk : Nat → Bytes} (h : Canonical s) :
    Canonical (pushAll s ty item batch mk) :=
  .foldl h Canonical.pushTo _

protected theorem Canonical.startFetch {ty cls addr item ward : Nat} {mk : Nat → Bytes} (h : Canonical s) :
    Canonical (startFetch s j ty cls addr item ward mk) := by
  unfold startFetch
  split
  · exact .forward (.setJob h)
  · exact .dropWith h

protected theorem Canonical.fetchDone {f : Fetch} (h : Canonical s) : Canonical (fetchDone s f bs) := by
  unfold fetchDone
  dsimp only
  split
  · exact .ite (.setJob h) h
  · exact h

protected theorem Canonical.flood {skip : Nat} (h : Canonical s) : Canonical (flood s skip f) :=
  .foldl h (fun h1 => .ite (.enqueue h1) h1) _

protected theorem Canonical.originate {s0 : State} (h : Canonical s0) : Canonical (originate s0) := by
  unfold originate
  exact .flood h

protected theorem Canonical.drainLinks (h : Canonical s) : Canonical (drainLinks s) :=
  .ite h (.foldl h Canonical.drainLink _)

/-! ### The passage of device time -/

protected theorem Canonical.tick (h : Canonical s) : Canonical (tick s) :=
  .stagingCheck (.drainLinks (canonical_iff.2 ⟨h.regs.put (rtcAfter_lt h), h.raw, h.sram⟩))

/-! ### The Agate unit's shared operations (07) -/

protected theorem Canonical.putAnchor {a : Anchor} (h : Canonical s) : Canonical (putAnchor s a) := h
protected theorem Canonical.scanJournal (h : Canonical s) : Canonical (scanJournal s) := .ite (.eraseSector h) h

protected theorem Canonical.sendHold {uid ty : Nat} (h : Canonical s) : Canonical (sendHold s uid ty) := by
  unfold sendHold
  split
  · exact .ite (.sendNet h) h
  · exact h

protected theorem Canonical.treeTo {t : Nat} {st : TreeState} (h : Canonical s) : Canonical (treeTo s t st) :=
  .ite (.sendHold (.setTree h)) (.setTree h)

protected theorem Canonical.treeFault {t why : Nat} (h : Canonical s) : Canonical (treeFault s t why) :=
  .recordEvent (.treeTo h)

protected theorem Canonical.forUid {uid : Nat} {f : State → Nat → State} (h : Canonical s)
    (hf : ∀ {u m}, Canonical u → Canonical (f u m)) : Canonical (forUid s uid f) :=
  .foldl h (fun h1 => hf h1) _

protected theorem Canonical.supersedeExtents {by_ t : Nat} {r : IdxRange} (h : Canonical s) :
    Canonical (supersedeExtents s by_ t r) := by
  unfold supersedeExtents
  refine .foldl h (fun h1 => ?_) _
  split
  · exact h1
  · exact .ite (.supersede h1) (.setJob h1)

protected theorem Canonical.withFrontier {t : Nat} {k : State} (h : Canonical s) (hk : Canonical k) :
    Canonical (withFrontier s j t k) := by
  unfold withFrontier
  split
  · exact .memFail h
  · exact hk

protected theorem Canonical.setWrites {w : List AnchorWrite} (h : Canonical s) : Canonical (setWrites s w) := h

protected theorem Canonical.placeEntry {w : AnchorWrite} (h : Canonical s) : Canonical (placeEntry s w).2 :=
  .incRegField h

protected theorem Canonical.replicaNak {w : AnchorWrite} {reason : Nat} (h : Canonical s) :
    Canonical (replicaNak s w reason) := by
  unfold replicaNak
  split
  · exact .sendNak h
  · exact h

protected theorem Canonical.replicaConflict {uid : Nat} (h : Canonical s) : Canonical (replicaConflict s uid) :=
  .forUid h Canonical.treeFault

protected theorem Canonical.answerReplica {w : AnchorWrite} {o : Replica} (h : Canonical s) :
    Canonical (answerReplica s w o) := by
  unfold answerReplica
  split
  · exact .replicaNak h
  · exact .replicaNak (.replicaConflict h)
  · exact h

protected theorem Canonical.dropWrite {i : Nat} (h : Canonical s) : Canonical (dropWrite s i) := h

protected theorem Canonical.startWrite {i : Nat} {w : AnchorWrite} (h : Canonical s) :
    Canonical (startWrite s i w) := by
  unfold startWrite
  split
  · exact .ite (.setWrites (.placeEntry h)) (.dropWrite h)
  · split
    · exact .setWrites (.placeEntry h)
    · exact .answerReplica (.dropWrite h)
  · exact .ite (.commitOrder h h) (.setWrites (.placeEntry h))
  · exact .dropWrite h

protected theorem Canonical.startWrites (h : Canonical s) : Canonical (startWrites s) := by
  unfold startWrites
  refine .ite h (.foldl h (fun h1 => ?_) _)
  split
  · exact h1
  · split
    · exact h1
    · exact .startWrite h1

protected theorem Canonical.anchorWake {o : Option Origin} (h : Canonical s) : Canonical (anchorWake s o) := by
  unfold anchorWake
  split
  · exact .ite (.setJob h) h
  · exact h

protected theorem Canonical.serveToken (h : Canonical s) : Canonical (serveToken s) := by
  unfold serveToken
  refine .ite h ?_
  split
  · exact h
  · split
    · exact h
    · exact .ite (.startWrites (.setWrites h)) (.anchorWake (.setWrites h))

protected theorem Canonical.askWrite {w : AnchorWrite} (h : Canonical s) : Canonical (askWrite s w) :=
  .serveToken (.setWrites h)

protected theorem Canonical.withToken {p : AnchorPurpose} {t : Nat} {k : State → Job → State} (h : Canonical s)
    (hk : ∀ {u i}, Canonical u → Canonical (k u i)) : Canonical (withToken s j p t k) := by
  unfold withToken
  dsimp only
  split
  · exact .ite (.askWrite (.setJob h)) (hk (.askWrite (.setJob h)))
  · exact .askWrite (.setJob h)

protected theorem Canonical.programAnchor {a : Anchor} {f : List Node} {ps : List Nat} (h : Canonical s) :
    Canonical (programAnchor s j a f ps) :=
  .startWrites (.setWrites (.setJob h))

protected theorem Canonical.tokenRefill (h : Canonical s) : Canonical (tokenRefill s) := .serveToken h

protected theorem Canonical.journalFull (h : Canonical s) : Canonical (journalFull s) := by
  unfold journalFull
  refine .foldl h (fun h1 => ?_) _
  split
  · exact .ite h1 (.dropWith h1)
  · exact h1

protected theorem Canonical.carryForward {eraseOk : Bool} (h : Canonical s) : Canonical (carryForward s eraseOk) := by
  unfold carryForward
  refine .ite h ?_
  split
  · exact h
  · split
    · exact .askWrite h
    · refine .ite (.startWrites (.eraseSector h)) ?_
      exact .ite (.startWrites (.eraseSector (.retireSector h))) (.journalFull (.retireSector h))

protected theorem Canonical.pushAnchor {a : Anchor} (h : Canonical s) : Canonical (pushAnchor s a) := .pushAll h
protected theorem Canonical.freeTreeNow {t : Nat} (h : Canonical s) : Canonical (freeTreeNow s t) := .treeTo h

protected theorem Canonical.blobsOut {out : HostRef} {res : Bytes} (h : Canonical s) :
    Canonical (blobsOut s j out bs res) := by
  unfold blobsOut
  split
  next e => exact .endJob (.hostWrite e h)
  · exact .endJob (.noteBlocked h)

protected theorem Canonical.createCommit {w : AnchorWrite} (h : Canonical s) : Canonical (createCommit s j w) :=
  .blobsOut (.pushAnchor (.putAnchor (.touched (.setTree (.writeHalf h)))))

protected theorem Canonical.shredCommit {w : AnchorWrite} (h : Canonical s) : Canonical (shredCommit s j w) := by
  unfold shredCommit
  refine .blobsOut (.pushAnchor (.touched (.foldl (.setTree (.update (.putAnchor h) rfl rfl)) (fun h1 => ?_) _)))
  split
  · exact .supersede h1
  · exact h1

protected theorem Canonical.supersedeCommits {code t : Nat} (h : Canonical s) :
    Canonical (supersedeCommits s o code t) := by
  unfold supersedeCommits
  refine .foldl h (fun h1 => ?_) _
  split
  · exact .supersede h1
  · exact h1

protected theorem Canonical.shredTree {o : Option Origin} {code seq t : Nat} {a : Anchor} (h : Canonical s) :
    Canonical (shredTree s o code seq t a) := by
  unfold shredTree
  refine .pushAnchor (.freeTreeNow (.touched (.clearSlot (.foldl (.putAnchor h) (fun h1 => ?_) _))))
  split
  · exact .supersede h1
  · exact h1

protected theorem Canonical.ageOut (h : Canonical s) : Canonical (ageOut s) := by
  unfold ageOut
  split
  · exact h
  · exact .recordEvent h

protected theorem Canonical.replicaCommit {w : AnchorWrite} (h : Canonical s) : Canonical (replicaCommit s w) := by
  unfold replicaCommit
  refine .update (.putAnchor (.forUid (.ite (.ageOut h) h) (fun h1 => ?_))) rfl rfl
  split
  · exact .touched (.setTree (.treeTo h1))
  · exact .touched (.setTree (.treeTo h1))
  · exact .touched h1

protected theorem Canonical.nextTombstone {t : Nat} (h : Canonical s) : Canonical (nextTombstone s j t) := by
  unfold nextTombstone
  split
  · exact .askWrite (.setJob h)
  · exact .setJob h

protected theorem Canonical.markEntry {w : AnchorWrite} (h : Canonical s) : Canonical (markEntry s w) := h

protected theorem Canonical.anchorCommitted {w : AnchorWrite} (h : Canonical s) : Canonical (anchorCommitted s w) := by
  unfold anchorCommitted
  dsimp only
  split
  · exact .replicaCommit (.markEntry h)
  · exact .incRegField (.putAnchor (.markEntry h))
  · split
    · exact .markEntry h
    · split
      · exact .createCommit (.markEntry h)
      · exact .shredCommit (.markEntry h)
      · split
        · exact .shredTree (.markEntry h)
        · exact .ite (.cfgThen (.shredTree (.markEntry h))) (.nextTombstone (.shredTree (.markEntry h)))

protected theorem Canonical.anchorProgramDone {ok : Bool} (h : Canonical s) : Canonical (anchorProgramDone s ok) := by
  unfold anchorProgramDone
  split
  · exact h
  · split
    · exact h
    · refine .ite ?_ ?_
      · exact .ite (.startWrites (.anchorCommitted (.setWrites (.capture h)))) (.setWrites (.capture h))
      · refine .ite (.serveToken (.setWrites (.countProgram (.capture h)))) ?_
        split
        · exact .setWrites (.countProgram (.capture h))
        · refine .ite (.setWrites (.countProgram (.capture h))) ?_
          exact .dropWith (.setWrites (.countProgram (.capture h)))

protected theorem Canonical.tombstoneRetry {t : Nat} (h : Canonical s) : Canonical (tombstoneRetry s t) := by
  unfold tombstoneRetry
  split
  · exact h
  · split
    · exact h
    · refine .ite ?_ (.serveToken (.setWrites (.timerTaken h)))
      split
      · exact .dropWith (.setWrites h)
      · exact .setWrites h

protected theorem Canonical.writeNow {w : AnchorWrite} (h : Canonical s) : Canonical (writeNow s w).1 :=
  .markEntry (.placeEntry (.ite h h))

protected theorem Canonical.carryNow (h : Canonical s) : Canonical (carryNow n s) := by
  induction n generalizing s with
  | zero => exact h
  | succ n ih =>
    refine .ite h ?_
    split
    · exact h
    · split
      · exact ih (.incRegField (.putAnchor (.writeNow h)))
      · exact ih (.eraseSector h)

protected theorem Canonical.tombstoneNow {t : Nat} (h : Canonical s) : Canonical (tombstoneNow s t) :=
  .shredTree (.writeNow (.carryNow h))

/-! ### The commands of the Agate unit (07) -/

protected theorem Canonical.firstProgram (h : Canonical s) : Canonical (firstProgram s j) := by
  unfold firstProgram
  split
  · exact .dropWith h
  · exact .programAnchor h

protected theorem Canonical.agateTreeCreate (h : Canonical s) : Canonical (agateTreeCreate j s) := by
  unfold agateTreeCreate
  refine .ite ?_ (.ite (.withToken h Canonical.firstProgram) (.firstProgram h))
  refine .takeOrder h (fun h1 => ?_)
  split
  · exact .dropWith h1
  · exact .withTarget h1 (fun h2 => .withDraw h2 (fun h3 => .cfgThen h3))

protected theorem Canonical.loadFinish {f : List Node} {ps : List Nat} (h : Canonical s) :
    Canonical (loadFinish s j f ps) :=
  .okJob (.sendHold (.touched (.setTree h)))

protected theorem Canonical.loadRead (h : Canonical s) : Canonical (loadRead s j) := by
  unfold loadRead
  split
  · exact .dropWith h
  · exact .ite (.dropWith h) (.readOrEnd h)

protected theorem Canonical.loadFail {st : Nat} (h : Canonical s) : Canonical (loadFail s j st) :=
  .ite (.cfgThen (.setJob (.ite (.recordEvent h) h))) (.dropWith (.ite (.recordEvent h) h))

protected theorem Canonical.agateLoad (h : Canonical s) : Canonical (agateLoad j s) := by
  unfold agateLoad
  refine .ite ?_ ?_
  · refine .takeOrder h (fun h1 => ?_)
    split
    · exact .dropWith h1
    · exact .ite (.readOrEnd h1) (.loadRead h1)
  · refine .ite (.ite (.dropWith h) (.loadRead h)) ?_
    refine .ite (.dropWith h) ?_
    refine .ite (.loadFail h) ?_
    exact .ite (.loadFail (.arbiterLost h)) (.ite (.cfgThen h) (.commitOrder h (.loadFinish h)))

protected theorem Canonical.agateExport (h : Canonical s) : Canonical (agateExport j s) := by
  unfold agateExport
  refine .takeOrder h (fun h1 => ?_)
  dsimp only
  split
  · exact .dropWith h1
  · refine .withFrontier h1 ?_
    split
    · exact .blockedJob h1
    next e => exact .ite (.okJob (.touched (.treeTo (.hostWrite e h1)))) (.okJob (.hostWrite e h1))

protected theorem Canonical.sendNotice {uid id : Nat} {range : Bytes} (h : Canonical s) :
    Canonical (sendNotice s o uid id range) := by
  unfold sendNotice
  dsimp only
  split
  · exact .forward (.ite (.incRegField (.newFrame h)) (.incRegField (.newFrame h)))
  · exact .forward (.ite (.incRegField (.newFrame h)) (.incRegField (.newFrame h)))

protected theorem Canonical.shredStage (h : Canonical s) : Canonical (shredStage j s) := by
  unfold shredStage
  refine .takeOrder h (fun h1 => ?_)
  split
  · exact .dropWith h1
  · exact .dropWith h1
  · dsimp only
    split
    · refine .ite ?_ ?_
      · exact .foldl (.setJob (.supersedeExtents (.setTree h1))) Canonical.sendNotice _
      · exact .okJob (.foldl (.setJob (.supersedeExtents (.setTree h1))) Canonical.sendNotice _)
    · exact .foldl (.setJob (.supersedeExtents (.setTree h1))) Canonical.sendNotice _

protected theorem Canonical.shredPuncture (h : Canonical s) : Canonical (shredPuncture s j) := by
  unfold shredPuncture
  dsimp only
  split
  · exact .dropWith h
  · refine .withFrontier h ?_
    split
    · exact .dropWith h
    · exact .ite (.dropWith h) (.programAnchor h)

protected theorem Canonical.shredCommitCmd (h : Canonical s) : Canonical (shredCommitCmd j s) := by
  unfold shredCommitCmd
  refine .ite (.takeOrder h (fun h1 => ?_)) (.shredPuncture h)
  split
  · exact .dropWith h1
  · exact .prevail h1 (fun h2 => .withToken h2 Canonical.shredPuncture)

protected theorem Canonical.anchorStatus (h : Canonical s) : Canonical (anchorStatus j s) := by
  unfold anchorStatus
  dsimp only
  split
  · exact .dropWith h
  · exact .okJob h

protected theorem Canonical.shredProgram (h : Canonical s) : Canonical (shredProgram s j) := by
  unfold shredProgram
  split
  · exact .programAnchor h
  · exact .supersede h

protected theorem Canonical.keyDestroy (h : Canonical s) : Canonical (keyDestroy j s) := by
  unfold keyDestroy
  refine .ite (.takeOrder h (fun h1 => ?_)) (.ite (.okJob h) (.shredProgram h))
  split
  · exact .dropWith h1
  · refine .prevail h1 (fun h2 => ?_)
    split
    · exact .commitOrder h2 (.okJob (.clearSlot h2))
    · exact .withToken (.supersedeCommits h2) Canonical.shredProgram

/-! ### The event recorder (19) -/

protected theorem Canonical.ctlWrite {kind value : Nat} (h : Canonical s) : Canonical (ctlWrite s kind value) :=
  .ite h h

protected theorem Canonical.checkpoint (h : Canonical s) : Canonical (checkpoint s) := .ctlWrite h

protected theorem Canonical.ctlSwitch {compat : Bool} {cfg : Bytes} {clearSeq : Nat} (h : Canonical s) :
    Canonical (ctlSwitch s compat cfg clearSeq) :=
  .checkpoint h

protected theorem Canonical.dropFull {e : EvEntry} (h : Canonical s) : Canonical (dropFull s e) :=
  .incRegField (.evrDrop h)

protected theorem Canonical.headOn (h : Canonical s) : Canonical (headOn s) := by
  have h1 : Canonical { s with recorder := { s.recorder with head := s.recorder.head + 1, fifo := [] } } := h
  refine .ite (.update (.recordEvent ?_) rfl rfl) (.ite ?_ h)
  · exact .foldl h1 Canonical.dropFull _
  · exact .foldl h1 Canonical.dropFull _

protected theorem Canonical.fifoPop (h : Canonical s) : Canonical (fifoPop s) := h
protected theorem Canonical.logPut {i : Nat} {p : LogPos} (h : Canonical s) : Canonical (logPut s i p) := h

protected theorem Canonical.clearWake (h : Canonical s) : Canonical (clearWake s) := by
  unfold clearWake
  split
  · exact .setJob h
  · exact h

protected theorem Canonical.recordWriteDone {ok : Bool} (h : Canonical s) : Canonical (recordWriteDone s ok) := by
  unfold recordWriteDone
  dsimp only
  split
  · exact h
  · refine .ite h ?_
    refine .ite ?_ ?_
    · exact .ite (.clearWake (.headOn (.fifoPop (.logPut h)))) (.logPut h)
    · refine .ite ?_ (.headOn (.countProgram (.logPut h)))
      exact .clearWake (.headOn (.incRegField (.fifoPop (.countProgram (.logPut h)))))

protected theorem Canonical.flushRecords (h : Canonical s) : Canonical (flushRecords n s) := by
  induction n generalizing s with
  | zero => exact h
  | succ n ih => exact .ite h (ih (.recordWriteDone (.ite h (.recordWriteDone h))))

protected theorem Canonical.tokenBack {c : Nat} (h : Canonical s) : Canonical (tokenBack s c) := h

protected theorem Canonical.recorderStart (h : Canonical s) : Canonical (recorderStart s) := by
  unfold recorderStart
  extract_lets r s1 hd _ s2 c _ s3 v _ s3' fifo _ s4
  have h1 : Canonical s1 := by
    dsimp only [s1]
    split
    · exact .ite (.ctlSwitch h) h
    · exact h
  have h2 : Canonical s2 := .update h1 rfl rfl
  have h3 : Canonical s3' := .update (.ite (.update h2 rfl rfl) h2) rfl rfl
  have h4 : Canonical s4 := .checkpoint (.update h3 rfl rfl)
  exact .ite h4 (.recordEvent (.update h4 rfl rfl))

protected theorem Canonical.evrRead (h : Canonical s) : Canonical (evrRead j s) := by
  unfold evrRead
  dsimp only
  split
  · exact .dropWith h
  · exact .writeAndEnd h

protected theorem Canonical.evrReadMctp {o : Bytes} (h : Canonical s) : Canonical (evrReadMctp s o) := by
  unfold evrReadMctp
  refine .ite h ?_
  split
  · exact .send h
  · exact .send h

protected theorem Canonical.evrConfigRead (h : Canonical s) : Canonical (evrConfigRead j s) := by
  unfold evrConfigRead
  split
  · exact .dropWith h
  · exact .writeAndEnd h

protected theorem Canonical.clearWait (h : Canonical s) : Canonical (clearWait s j) := .ite (.setJob h) (.setJob h)
protected theorem Canonical.clearBegin (h : Canonical s) : Canonical (clearBegin s j) := .setJob (.ctlWrite h)

protected theorem Canonical.clearEnd (h : Canonical s) : Canonical (clearEnd s j) :=
  .okJob (.update (.ctlSwitch h) rfl rfl)

protected theorem Canonical.evrClear (h : Canonical s) : Canonical (evrClear j s) := by
  unfold evrClear
  refine .ite ?_ ?_
  · split
    · exact .dropWith h
    · exact .ite (.clearWait h) (.readOrEnd h)
  · refine .ite (.ite (.clearWait h) (.dropWith h)) ?_
    refine .ite (.ite (.clearWait h) (.clearBegin h)) ?_
    exact .ite (.ite (.clearEnd h) (.norThen h)) (.setJob (.eraseSector h))

/-! ### Tenancy (10) -/

protected theorem Canonical.createRecord {t : Nat} {h : SlotHalf} (hs : Canonical s) :
    Canonical (createRecord s j t n h) :=
  .cfgThen (.reserve hs)

protected theorem Canonical.createRestore {t : Nat} (h : Canonical s) : Canonical (createRestore s j t n) :=
  .ite (.dropWith h) (.ite (.dropWith h) (.createRecord h))

protected theorem Canonical.createDone (h : Canonical s) : Canonical (createDone s j) :=
  .okJob (.pushAll (.writeHalf h))

protected theorem Canonical.createRoot {t : Nat} (h : Canonical s) : Canonical (createRoot s j t) := by
  unfold createRoot
  split
  · exact .dropWith h
  · exact .setJob h
  next s1 e =>
    have h1 : Canonical s1 := by
      split at e
      · cases e
        exact h
      · exact .instantiate e h
    exact .ite (.readOrEnd (.setJob h1)) (.withDraw (.setJob h1) Canonical.createRecord)

protected theorem Canonical.createTaken (h : Canonical s) : Canonical (createTaken s j) := by
  unfold createTaken
  split
  · exact .createRoot h
  · split
    · exact .dropWith h
    · exact .dropWith h
    · exact .createRoot (.reserve h)

protected theorem Canonical.tenantCreate (h : Canonical s) : Canonical (tenantCreate j s) := by
  unfold tenantCreate
  refine .ite (.checked h (.takeOrder h Canonical.createTaken)) ?_
  exact .ite (.createDone h) (.createRestore h)

protected theorem Canonical.writeTenant {t : Nat} {c : Tenant} (h : Canonical s) : Canonical (writeTenant s j t c) :=
  .cfgThen h

protected theorem Canonical.tenantSetGrant (h : Canonical s) : Canonical (tenantSetGrant j s) := by
  unfold tenantSetGrant
  refine .ite ?_ (.okJob (.setTen h))
  split
  · exact .dropWith h
  · exact .ite h (.writeTenant h)

protected theorem Canonical.tenantBind (h : Canonical s) : Canonical (tenantBind j s) := by
  unfold tenantBind
  refine .ite ?_ (.okJob (.setBind (.setTen h)))
  split
  · exact .dropWith h
  · exact .ite h (.writeTenant h)

protected theorem Canonical.dropBind (h : Canonical s) : Canonical (dropBind s b) :=
  .ite (.setFn (.setMbx (.setBind h))) (.setFn (.setMbx (.setBind h)))

protected theorem Canonical.tenantUnbind (h : Canonical s) : Canonical (tenantUnbind j s) := by
  unfold tenantUnbind
  refine .ite ?_ (.okJob (.dropBind (.setTen h)))
  split
  · exact .dropWith h
  · exact .ite h (.writeTenant h)

protected theorem Canonical.tenantQuiesced {t : Nat} (h : Canonical s) : Canonical (tenantQuiesced s t) :=
  .ite (.foldl (.setTen h) Canonical.okJob _) h

protected theorem Canonical.tenantQuiesce (h : Canonical s) : Canonical (tenantQuiesce j s) := by
  unfold tenantQuiesce
  refine .ite (.dropWith h) ?_
  exact .takeOrder h (fun h1 => .ite (.dropWith h1)
    (.ite (.okJob h1) (.ite (.okJob (.tenantQuiesced (.setJob (.quiesceTenant h1))))
    (.tenantQuiesced (.setJob (.quiesceTenant h1))))))

protected theorem Canonical.tenantEnable (h : Canonical s) : Canonical (tenantEnable j s) := by
  unfold tenantEnable
  refine .takeOrder h (fun h1 => .ite (.dropWith h1) ?_)
  split
  · exact .dropWith h1
  · exact .ite (.dropWith h1) (.okJob (.fetchAll (.mapQps (.setTen h1))))
  · exact .okJob h1

protected theorem Canonical.supersedeQuiet {t : Nat} (h : Canonical s) : Canonical (supersedeQuiet s j t) := by
  unfold supersedeQuiet
  refine .foldl h (fun h1 => ?_) _
  split
  · exact .supersede h1
  · exact h1

protected theorem Canonical.clearTenant {me : Option Origin} {t : Nat} {destroy : Bool} (h : Canonical s) :
    Canonical (clearTenant s me t destroy).1 := by
  unfold clearTenant
  extract_lets slots qps mans code s1 s2 s3 s4 c s5 c'
  have h1 : Canonical s1 := by
    dsimp only [s1]
    split
    · exact .supersedeLower h
    · exact h
  have h4 : Canonical s4 :=
    .uninstantiate (.foldl (.foldl (.foldl h1 Canonical.clearSlot _) Canonical.closeQp _) Canonical.manFree _)
  have h5 : Canonical s5 := by
    refine .ite (.foldl (.update h4 rfl rfl) Canonical.dropBind _) ?_
    split
    next e => exact .instantiate e h4
    · exact .setDrbg h4
  exact .setTen h5

protected theorem Canonical.tenantClear {destroy : Bool} (h : Canonical s) : Canonical (tenantClear destroy j s) := by
  unfold tenantClear
  refine .ite ?_ ?_
  · refine .ite (.dropWith h) ?_
    exact .takeOrder h (fun h1 => .ite (.dropWith h1)
      (.ite (.dropWith h1) (.ite (.dropWith h1) (.prevail h1 (fun h2 => .ite h2 (.writeTenant (.supersedeQuiet h2)))))))
  · refine .ite (.nextTombstone (.ite (.pushAll (.setTen h)) (.setTen h))) ?_
    refine .ite (.setJob (.clearTenant h)) ?_
    exact .ite (.ite (.cfgThen h) (.ite h (.cfgThen h))) (.okJob (.setTen h))

protected theorem Canonical.tenantInfo (h : Canonical s) : Canonical (tenantInfo j s) := by
  unfold tenantInfo
  dsimp only
  split
  · exact .dropWith h
  · exact .okJob h

protected theorem Canonical.policyQuery (h : Canonical s) : Canonical (policyQuery j s) :=
  .ite (.dropWith h) (.takeOrder h (fun h1 => .okJob h1))

/-! ### Modes and power (11) -/

protected theorem Canonical.interruptAnchor {w : AnchorWrite} (h : Canonical s) : Canonical (interruptAnchor s w) := by
  unfold interruptAnchor
  split
  · exact h
  · exact h

protected theorem Canonical.interruptNor {p : NorOp} (h : Canonical s) : Canonical (interruptNor s p) := by
  unfold interruptNor
  dsimp only
  split
  · exact h
  · exact .norProgram (.damageAt (.tookFree h))
  · exact h
  · exact h
  · exact h
  · exact h
  · exact h

protected theorem Canonical.interruptRecord (h : Canonical s) : Canonical (interruptRecord s) := by
  unfold interruptRecord
  dsimp only
  split
  · exact h
  · exact .ite h (.logPut (.tookFree h))

protected theorem Canonical.interrupted (h : Canonical s) : Canonical (interrupted s) :=
  .foldl (.foldl (.interruptRecord h) Canonical.interruptAnchor _) Canonical.interruptNor _

protected theorem Canonical.offState {s0 : State} {warm : Bool} (h : Canonical s0) : Canonical (offState s0 warm) := by
  have h1 := Canonical.interrupted h
  exact canonical_iff.2 ⟨regsForm_regsAfter h1.regs warm, h1.raw, rfl⟩

protected theorem Canonical.enterStartup (h : Canonical s) : Canonical (enterStartup s) := .setMode h
protected theorem Canonical.deviceRestart (h : Canonical s) : Canonical (deviceRestart s) := .enterStartup (.offState h)

protected theorem Canonical.qualify {bit : Nat} (h : Canonical s) : Canonical (qualify s bit) :=
  .ite h (.ite (.ite (.enterStartup (.setReg h)) (.setReg h)) (.ite (.setReg h) (.ite h h)))

protected theorem Canonical.wakeSource {bit : Nat} (h : Canonical s) : Canonical (wakeSource s bit) :=
  .ite (.hushExit h) (.qualify h)

protected theorem Canonical.perstDeassert (h : Canonical s) : Canonical (perstDeassert s p) :=
  .ite h (.qualify (.ownerResume (.capture (.setPort h))))

protected theorem Canonical.enterDormant (h : Canonical s) : Canonical (enterDormant s) := by
  unfold enterDormant
  exact .foldl (.update (.offState
    (.update (.setRegField (.flushRecords
    (.refreshLog (.checkpoint (.recordEvent (.recordEvent h)))))) rfl rfl)) rfl rfl) (fun h1 => .ite (.qualify h1) h1) _

protected theorem Canonical.powerLost (h : Canonical s) : Canonical (powerLost s) := .ite (.offState h) (.offState h)

protected theorem Canonical.runDeferred {w : AfterDone} (h : Canonical s) : Canonical (runDeferred s w) := by
  unfold runDeferred
  dsimp only
  split
  · exact .enterDormant h
  · exact .deviceRestart h

protected theorem Canonical.doneTimeout (h : Canonical s) : Canonical (doneTimeout s) := by
  unfold doneTimeout
  split
  · exact .runDeferred (.timerTaken h)
  · exact h

protected theorem Canonical.ackAct (h : Canonical s) : Canonical (ackAct s b) := by
  unfold ackAct
  dsimp only
  split
  · exact .ite (.runDeferred (.ackClear h)) (.ackClear h)
  · exact .ackClear h

protected theorem Canonical.ctrlWrite {ack abort go irqEn : Bool} (h : Canonical s) :
    Canonical (ctrlWrite s b ack abort go irqEn) := by
  unfold ctrlWrite
  extract_lets v s1 s2 s3
  have h1 : Canonical s1 := .setIrq (.dispatchMerge (.mmio h))
  have h2 : Canonical s2 := .ite (.ackAct h1) h1
  have h3 : Canonical s3 := .ite (.abortAct h2) h2
  exact .ite h (.ite (.goAct h3) h3)

protected theorem Canonical.hushConditionMet (h : Canonical s) : Canonical (hushConditionMet s o) := by
  unfold hushConditionMet
  split
  · exact .ite (.hushEnter (.okJob h)) h
  · exact h

protected theorem Canonical.hushWaitExpire (h : Canonical s) : Canonical (hushWaitExpire s o) := by
  unfold hushWaitExpire
  split
  · exact .ite (.endJob (.timerTaken h)) h
  · exact h

protected theorem Canonical.pwrHush (h : Canonical s) : Canonical (pwrHush j s) := by
  unfold pwrHush
  split
  · exact .dropWith h
  · exact .hushConditionMet (.setJob h)

protected theorem Canonical.dormantCommit (h : Canonical s) : Canonical (dormantCommit s j) :=
  .okJob (.allPendingGone h)

protected theorem Canonical.pwrDormant (h : Canonical s) : Canonical (pwrDormant j s) := by
  unfold pwrDormant
  refine .ite ?_ (.dormantCommit h)
  split
  · exact .dropWith h
  · refine .ite (.dormantCommit h) ?_
    split
    · exact .recordFailed h
    · split
      · exact .dropWith (.noteBlocked h)
      next e => exact .setJob (.send (.hostWrite e h))

protected theorem Canonical.restoreEntry {acc : State × Nat × Nat} {x : Nat × Nat × Bytes} (h : Canonical acc.1) :
    Canonical (restoreEntry j acc x).1 := by
  obtain ⟨s, ok, bad⟩ := acc
  obtain ⟨n, colour, blob⟩ := x
  replace h : Canonical s := h
  unfold restoreEntry
  rcases openBlob blob (slotKey s 6) 2 with ⟨st, mat⟩
  dsimp -zeta only
  extract_lets hb why
  by_cases hw : why = S.OK
  · rw [if_pos hw]
    split
    · exact .recordEvent (.memError h)
    · exact .writeHalf h
  · rw [if_neg hw]
    exact .recordEvent h

protected theorem Canonical.imageRestore (h : Canonical s) : Canonical (imageRestore j s) := by
  unfold imageRestore
  refine .ite ?_ (.ite (.dropWith h) (.ite (.dropWith h) ?_))
  · split
    · exact .dropWith h
    · exact .readOrEnd h
  · split
    · exact .dropWith h
    · exact .okJob (.update (Canonical.foldl_fst h Canonical.restoreEntry _) rfl rfl)

protected theorem Canonical.imageDiscard (h : Canonical s) : Canonical (imageDiscard j s) :=
  .ite (.okJob h) (.dropWith h)

protected theorem Canonical.vddCoreLoss (h : Canonical s) : Canonical (vddCoreLoss s) := .ite h (.powerLost h)

protected theorem Canonical.vddAonLoss {vbat : Bool} (h : Canonical s) : Canonical (vddAonLoss s vbat) :=
  .ite (.setReg (.powerLost h)) (.loseMoonstone (.powerLost h))

/-! ### The arith engines' shared operations (08) -/

protected theorem Canonical.operandUse {op : Nat} {key : Nat × Nat} (h : Canonical s) :
    Canonical (operandUse s op key).2 := by
  unfold operandUse
  dsimp only
  split
  · exact h
  · exact .tookFree h

protected theorem Canonical.arithExhausted (h : Canonical s) : Canonical (arithExhausted s j) :=
  .dropWith (.incRegField h)

protected theorem Canonical.engineTakes {op : Nat} {key : Nat × Nat} {req : ArithReq} {seed rk : Bytes}
    {holds : List Nat} (h : Canonical s) : Canonical (engineTakes s j n op key req seed rk holds) := by
  have h1 : Canonical (operandUse s op key).2 := .operandUse h
  unfold engineTakes
  dsimp only
  split
  · exact .setJob (.crossing (.tookFree (.setAeng h1)))
  · split
    next e => exact .setJob (.issueReads e (.crossing (.tookFree (.setAeng h1))))
    · exact .dropWith (.noteBlocked (.crossing (.tookFree (.setAeng h1))))

protected theorem Canonical.drawIf {len : Nat} {k : Bytes → State → State} (h : Canonical s)
    (hk : ∀ {bs u}, Canonical u → Canonical (k bs u)) : Canonical (drawIf s j n len k) :=
  .ite (hk h) (.withDraw h (fun h1 => hk h1))

protected theorem Canonical.placeArith {op : Nat} {key : Nat × Nat} {rnd : Nat} {toVault : Bool} {holds : List Nat}
    {reads : List HostRef} (h : Canonical s) : Canonical (placeArith s j op key rnd toVault holds reads) := by
  unfold placeArith
  refine .ite (.arithExhausted h) (.ite (.setJob h) ?_)
  split
  · exact .setJob h
  · exact .drawIf (.setJob h) (fun h1 => .drawIf h1 Canonical.engineTakes)

protected theorem Canonical.arithNow (e : arithNow s = some t) (h : Canonical s) : Canonical t := by
  unfold arithNow at e
  split at e
  · cases e
  · obtain ⟨n, -, rfl⟩ := Option.map_eq_some_iff.1 e
    exact .setAeng (.crossing h)

protected theorem Canonical.freeArith (h : Canonical s) : Canonical (freeArith s n) := .setAeng h
protected theorem Canonical.goodArith (h : Canonical s) : Canonical (goodArith s n) := .setAeng h

protected theorem Canonical.arithOk (h : Canonical s) : Canonical (arithOk s j).2 := by
  unfold arithOk
  split
  · exact .incRegField h
  · exact h

protected theorem Canonical.quarantineArith {cause : Nat} (h : Canonical s) :
    Canonical (quarantineArith s n cause) := by
  unfold quarantineArith
  dsimp only
  split
  · exact .okJob (.recordEvent (.setAeng h))
  · exact .recordEvent (.setAeng h)

protected theorem Canonical.invariantFail (h : Canonical s) : Canonical (invariantFail s j n) := by
  unfold invariantFail
  exact .dropWith (.ite (.quarantineArith (.recordStatus (.incRegField (.setAeng h))))
    (.recordStatus (.incRegField (.setAeng h))))

protected theorem Canonical.iterLimit (h : Canonical s) : Canonical (iterLimit s j) := .dropWith (.incRegField h)

protected theorem Canonical.rerunArith (h : Canonical s) : Canonical (rerunArith s j) := by
  unfold rerunArith
  dsimp only
  split
  · exact .supersede h
  · exact .ite (.arithExhausted h) (.readsGo (.setJob h))

protected theorem Canonical.arithFault {cause : Nat} (h : Canonical s) : Canonical (arithFault s n cause) := by
  unfold arithFault
  refine .ite h ?_
  dsimp only
  split
  · exact .rerunArith (.quarantineArith (.setAeng h))
  · exact .quarantineArith (.setAeng h)

/-! ### The key commands (06) -/

protected theorem Canonical.keygenPlace (h : Canonical s) : Canonical (keygenPlace j s) := .placeArith h

protected theorem Canonical.keygenRelease {priv pub : Bytes} (h : Canonical s) :
    Canonical (keygenRelease s j priv pub) :=
  .storeKey h (fun h1 => .endJob (.arithOk h1))

protected theorem Canonical.keyGenerate (h : Canonical s) : Canonical (keyGenerate j s) := by
  unfold keyGenerate
  refine .ite (.keygenPlace h) ?_
  refine .ite (.dropWith h) ?_
  exact .takeOrder h (fun h1 => .withTarget h1
    (fun h2 => .ite (.dropWith h2) (.ite (.keygenPlace h2) (.withDraw h2 (fun h3 => .storeKey h3 Canonical.okJob)))))

protected theorem Canonical.keyDerive (h : Canonical s) : Canonical (keyDerive j s) := by
  unfold keyDerive
  refine .ite (.dropWith h) (.takeOrder h (fun h1 => ?_))
  split
  · exact .dropWith h1
  · exact .withTarget h1 (fun h2 => .ite (.dropWith h2) (.withMaterial h2 (fun h3 => .storeKey h3 Canonical.okJob)))

protected theorem Canonical.keyWrap (h : Canonical s) : Canonical (keyWrap j s) := by
  unfold keyWrap
  refine .ite (.dropWith h) ?_
  split
  · exact .dropWith h
  · refine .takeOrder h (fun h1 => ?_)
    split
    · exact .dropWith h1
    · exact .withMaterial h1 (fun h2 => .ite (.dropWith h2)
        (.ite (.dropWith h2) (.ite (.dropWith h2) (.ite (.dropWith h2) (.writeAndEnd h2)))))

protected theorem Canonical.keyUnwrapRead (h : Canonical s) : Canonical (keyUnwrapRead j s) := by
  unfold keyUnwrapRead
  refine .ite (.dropWith h) (.ite (.dropWith h) (.ite (.dropWith h) (.ite (.dropWith h) ?_)))
  split
  · exact .dropWith h
  · split
    · exact .dropWith h
    · exact .storeKey h Canonical.okJob

protected theorem Canonical.keyUnwrap (h : Canonical s) : Canonical (keyUnwrap j s) := by
  unfold keyUnwrap
  refine .ite (.ite (.dropWith h) ?_) (.keyUnwrapRead h)
  split
  · exact .dropWith h
  · refine .takeOrder h (fun h1 => ?_)
    split
    · exact .dropWith h1
    · split
      · exact .readOrEnd h1
      · exact .readOrEnd (.reserve h1)

protected theorem Canonical.keyImportPublic (h : Canonical s) : Canonical (keyImportPublic j s) := by
  unfold keyImportPublic
  refine .ite (.ite (.dropWith h) ?_) (.ite (.dropWith h) (.storeKey h Canonical.okJob))
  split
  · exact .dropWith h
  · exact .takeOrder h (fun h1 => .withTarget h1 (fun h2 => .ite (.dropWith h2) (.readOrEnd h2)))

protected theorem Canonical.proveReport {k : State} (h : Canonical s) (hk : Canonical k) :
    Canonical (proveReport s j n k) :=
  .commitOrder h (.ite (.dropWith h) hk)

protected theorem Canonical.provePass {st : Nat} {res : Bytes} (h : Canonical s) : Canonical (provePass s j n st res) :=
  .proveReport h (.endJob (.touched (.setSlot h)))

protected theorem Canonical.proveFail (h : Canonical s) : Canonical (proveFail s j n) :=
  .proveReport h (.dropWith (.clearPending h))

protected theorem Canonical.proveRelease {pub : Bytes} (h : Canonical s) : Canonical (proveRelease s j pub) :=
  .ite (.provePass (.arithOk h)) (.proveFail h)

protected theorem Canonical.provePlace (h : Canonical s) : Canonical (provePlace j s) := .placeArith h

protected theorem Canonical.keyProve (h : Canonical s) : Canonical (keyProve j s) := by
  unfold keyProve
  refine .ite (.provePlace h) (.ite (.dropWith h) (.takeOrder h (fun h1 => ?_)))
  split
  · exact .dropWith h1
  · split
    · exact .dropWith h1
    · refine .ite (.dropWith h1) ?_
      refine .ite (.dropWith h1) ?_
      exact .withMaterial h1 (fun h2 => .ite (.ite (.provePass h2) (.proveFail h2))
        (.ite (.ite (.provePass h2) (.proveFail h2)) (.provePlace h2)))

protected theorem Canonical.flipSlot {code seq : Nat} {p : SlotHalf} (h : Canonical s) :
    Canonical (flipSlot s n code seq p) :=
  .touched (.setSlot (.recordsFree h))

protected theorem Canonical.keyCommit (h : Canonical s) : Canonical (keyCommit j s) := by
  unfold keyCommit
  refine .ite (.dropWith h) (.takeOrder h (fun h1 => ?_))
  split
  · exact .dropWith h1
  · dsimp only
    split
    · exact .dropWith h1
    · refine .ite (.supersede h1) ?_
      split
      · exact .dropWith h1
      · exact .ite (.dropWith h1) (.okJob (.flipSlot h1))

protected theorem Canonical.keyDiscard (h : Canonical s) : Canonical (keyDiscard j s) := by
  unfold keyDiscard
  refine .ite (.dropWith h) (.takeOrder h (fun h1 => ?_))
  split
  · exact .dropWith h1
  · exact .ite (.dropWith h1) (.okJob (.clearPending h1))

protected theorem Canonical.keyAttrRead (h : Canonical s) : Canonical (keyAttrRead j s) := by
  unfold keyAttrRead
  refine .ite (.dropWith h) ?_
  exact .takeOrder h (fun h1 => .ite (.dropWith h1) (.ite (.dropWith h1) (.okJob h1)))

protected theorem Canonical.keyAttrSet (h : Canonical s) : Canonical (keyAttrSet j s) := by
  unfold keyAttrSet
  refine .ite (.dropWith h) (.takeOrder h (fun h1 => ?_))
  split
  · exact .dropWith h1
  · dsimp only
    split
    · exact .dropWith h1
    · exact .ite (.dropWith h1) (.ite (.dropWith h1) (.okJob (.touched (.setSlot h1))))

protected theorem Canonical.keyPublic (h : Canonical s) : Canonical (keyPublic j s) := by
  unfold keyPublic
  refine .ite (.dropWith h) ?_
  split
  · exact .dropWith h
  · refine .takeOrder h (fun h1 => ?_)
    split
    · exact .dropWith h1
    · split
      · exact .dropWith h1
      · exact .ite (.dropWith h1) (.withPublic h1 (.ite (.dropWith h1) (.writeAndEnd h1)))

protected theorem Canonical.revokeStop (h : Canonical s) : Canonical (revokeStop s o) := by
  unfold revokeStop
  split
  · exact h
  · split
    · exact h
    · exact .supersede h

/-! ### The arith commands (08) -/

protected theorem Canonical.signPlace (h : Canonical s) : Canonical (signPlace j s) := .placeArith h

protected theorem Canonical.signCmd (h : Canonical s) : Canonical (signCmd j s) := by
  unfold signCmd
  refine .ite (.signPlace h) ?_
  exact .takeOrder h (fun h1 => .checked h1 (.withMaterial h1 Canonical.signPlace))

protected theorem Canonical.signRelease {its : Nat} {sig : Bytes} (h : Canonical s) :
    Canonical (signRelease s j its sig) :=
  .writeAndEnd (.arithOk h)

protected theorem Canonical.verifyPlace (h : Canonical s) : Canonical (verifyPlace j s) := .placeArith h

protected theorem Canonical.sigVerify (h : Canonical s) : Canonical (sigVerify j s) := by
  unfold sigVerify
  refine .ite (.verifyPlace h) ?_
  refine .ite ?_ (.ite (.dropWith h) (.verifyPlace h))
  exact .takeOrder h (fun h1 => .checked h1 (.ite (.readOrEnd h1) (.withPublic h1 (.verifyPlace h1))))

protected theorem Canonical.verifyRelease {ok : Bool} (h : Canonical s) : Canonical (verifyRelease s j ok) :=
  .endJob (.arithOk h)

protected theorem Canonical.agreeTarget {kind maxBytes : Nat} {k : State → Job → State} (h : Canonical s)
    (hk : ∀ {u i}, Canonical u → Canonical (k u i)) : Canonical (agreeTarget s j kind maxBytes k) :=
  .ite (hk h) (.withTarget h (fun h1 => .ite (hk h1) (.dropWith h1)))

protected theorem Canonical.agreeRelease {kind : Nat} {expKey : Bool} {secret stored : Bytes} {appr : Bool}
    (h : Canonical s) : Canonical (agreeRelease s j kind expKey secret stored appr) :=
  .ite (.endJob (.arithOk h)) (.storeKey (.arithOk h) Canonical.endJob)

protected theorem Canonical.sharedPlace (h : Canonical s) : Canonical (sharedPlace j s) := .placeArith h

protected theorem Canonical.deriveShared (h : Canonical s) : Canonical (deriveShared j s) := by
  unfold deriveShared
  refine .ite (.sharedPlace h) ?_
  exact .takeOrder h (fun h1 => .checked h1 (.withMaterial h1 (fun h2 => .agreeTarget h2 Canonical.sharedPlace)))

protected theorem Canonical.sharedRelease {z stored : Bytes} (h : Canonical s) :
    Canonical (sharedRelease s j z stored) :=
  .agreeRelease h

protected theorem Canonical.encapsPlace (h : Canonical s) : Canonical (encapsPlace j s) := .placeArith h

protected theorem Canonical.encapsReserve (h : Canonical s) : Canonical (encapsReserve s j).1 := by
  unfold encapsReserve
  dsimp only
  split
  · exact h
  · split
    · exact h
    · exact .reserve h

protected theorem Canonical.encapsRead (h : Canonical s) : Canonical (encapsRead j s) := by
  unfold encapsRead
  refine .ite (.dropWith h) (.ite (.encapsPlace h) ?_)
  split
  · exact .dropWith h
  · split
    · exact .dropWith h
    · exact .ite (.encapsPlace h) (.dropWith h)

protected theorem Canonical.encaps (h : Canonical s) : Canonical (encaps j s) := by
  unfold encaps
  refine .ite (.encapsPlace h) ?_
  refine .ite ?_ (.encapsRead h)
  exact .takeOrder h (fun h1 => .checked h1
    (.ite (.readOrEnd (.encapsReserve h1)) (.withPublic h1 (.agreeTarget h1 Canonical.encapsPlace))))

protected theorem Canonical.encapsRelease {ct k stored : Bytes} (h : Canonical s) :
    Canonical (encapsRelease s j ct k stored) := by
  unfold encapsRelease
  split
  · exact .dropWith (.noteBlocked h)
  next e => exact .agreeRelease (.setJob (.hostWrite e h))

protected theorem Canonical.decapsPlace (h : Canonical s) : Canonical (decapsPlace j s) := .placeArith h

protected theorem Canonical.decaps (h : Canonical s) : Canonical (decaps j s) := by
  unfold decaps
  refine .ite (.decapsPlace h) ?_
  exact .takeOrder h (fun h1 => .checked h1 (.withMaterial h1 (fun h2 => .agreeTarget h2 Canonical.decapsPlace)))

protected theorem Canonical.decapsRelease {k stored : Bytes} (h : Canonical s) :
    Canonical (decapsRelease s j k stored) :=
  .agreeRelease h

protected theorem Canonical.invStrikesClear (h : Canonical s) : Canonical (invStrikesClear s n) := .ite (.setAeng h) h

protected theorem Canonical.arithEngineFault {cause : Nat} (h : Canonical s) : Canonical (arithEngineFault s n cause) :=
  .ite (.arithFault h) h

protected theorem Canonical.arithWatchdog (h : Canonical s) : Canonical (arithWatchdog s n) :=
  .ite (.arithFault (.timerTaken h)) h

protected theorem Canonical.ariTestDone {failed : Nat} (h : Canonical s) : Canonical (ariTestDone s n failed) := by
  unfold ariTestDone
  refine .ite h ?_
  dsimp only
  split
  · exact .endJob (.ite (.recordEvent (.setAeng h)) (.setAeng h))
  · exact .ite (.recordEvent (.setAeng h)) (.setAeng h)

protected theorem Canonical.ariReadmit (h : Canonical s) : Canonical (ariReadmit j s) :=
  .ite (.dropWith h) (.ite (.dropWith h) (.setJob (.setAeng h)))

protected theorem Canonical.ariDrained (h : Canonical s) : Canonical (ariDrained s n) := by
  unfold ariDrained
  refine .ite h ?_
  dsimp only
  split
  · exact .okJob (.recordEvent (.setAeng h))
  · exact .recordEvent (.setAeng h)

protected theorem Canonical.ariQuarantine (h : Canonical s) : Canonical (ariQuarantine j s) :=
  .ite (.dropWith h) (.ite (.dropWith h) (.setJob (.setAeng h)))

/-! ### Digest units and measurement registers (05) -/

protected theorem Canonical.extendNow {i eventType : Nat} {trunc : Bool} {d384 d512 : Bytes} (h : Canonical s) :
    Canonical (extendNow s i eventType trunc d384 d512) :=
  .crossing h

protected theorem Canonical.extendFrom {src i eventType : Nat} {trunc : Bool} {stream : Bytes} (h : Canonical s) :
    Canonical (extendFrom s src i eventType trunc stream) :=
  .ite (.extendNow h) (.recordEvent h)

protected theorem Canonical.extendFed {src i eventType declLen : Nat} {offered : Bytes} (h : Canonical s) :
    Canonical (extendFed s src i eventType declLen offered) := by
  unfold extendFed
  split
  · exact .incRegField h
  · exact .extendFrom (.ite (.incRegField h) h)

protected theorem Canonical.measRead (h : Canonical s) : Canonical (measRead j s) := .ite (.dropWith h) (.okJob h)

protected theorem Canonical.measLogRead (h : Canonical s) : Canonical (measLogRead j s) := by
  unfold measLogRead
  dsimp only
  split
  · exact .dropWith h
  · exact .writeAndEnd h

protected theorem Canonical.mrSelWrite {v : Nat} (h : Canonical s) : Canonical (mrSelWrite s v) :=
  .setReg (.foldl (.setReg h) Canonical.setReg _)

protected theorem Canonical.setCtx {k : Nat} {c : DigestCtx} (h : Canonical s) : Canonical (setCtx s k c) :=
  .ite (.crossing h) h

protected theorem Canonical.dropCtx (h : Canonical s) : Canonical (dropCtx s o) := h

protected theorem Canonical.digestMacStart {k : Nat} {key : Bytes} (h : Canonical s) :
    Canonical (digestMacStart s j k key) := by
  unfold digestMacStart
  refine .ite (.setJob (.setCtx h)) ?_
  split
  next e => exact .setJob (.issueReads e (.setCtx h))
  · exact .dropWith (.noteBlocked (.setCtx h))

protected theorem Canonical.digestMac (h : Canonical s) : Canonical (digestMac j s) := by
  unfold digestMac
  dsimp only
  split
  · exact h
  · refine .ite h ?_
    refine .ite (.checked h (.digestMacStart h)) ?_
    exact .takeOrder h (fun h1 => .checked h1 (.withMaterial h1 Canonical.digestMacStart))

protected theorem Canonical.measExtend (h : Canonical s) : Canonical (measExtend j s) := by
  unfold measExtend
  dsimp only
  split
  · exact h
  · split
    · exact .dropWith h
    · refine .ite (.setJob (.setCtx h)) ?_
      split
      next e => exact .setJob (.issueReads e (.setCtx h))
      · exact .dropWith (.noteBlocked (.setCtx h))

protected theorem Canonical.measExtendDone {msg : Bytes} (h : Canonical s) : Canonical (measExtendDone s j msg) :=
  .okJob (.extendNow h)

protected theorem Canonical.digestJobDone (h : Canonical s) : Canonical (digestJobDone s o) := by
  unfold digestJobDone
  split
  · exact .ite h (.ite (.endJob (.dropCtx h)) (.ite (.measExtendDone (.dropCtx h)) h))
  · exact h

protected theorem Canonical.ctxYield (h : Canonical s) : Canonical (ctxYield s o) := by
  unfold ctxYield
  split
  · refine .ite ?_ h
    split
    · exact h
    · exact h
  · exact h

/-! ### Tamper and zeroisation (13) -/

protected theorem Canonical.clearCeremony (h : Canonical s) : Canonical (clearCeremony s) := h
protected theorem Canonical.holdWards (h : Canonical s) : Canonical (holdWards s) := h
protected theorem Canonical.stopLinks (h : Canonical s) : Canonical (stopLinks s) := h
protected theorem Canonical.zeroise (h : Canonical s) : Canonical (zeroise s) := h

protected theorem Canonical.lockdownOff (h : Canonical s) : Canonical (lockdownOff s) :=
  .update (.stopLinks (.holdWards (.clearCeremony h))) rfl rfl

protected theorem Canonical.enterLockdown (h : Canonical s) : Canonical (enterLockdown s) := .setMode (.lockdownOff h)
protected theorem Canonical.zeroisedMailbox (h : Canonical s) : Canonical (zeroisedMailbox s b) := .setMbx h
protected theorem Canonical.endSched {spare : Option Origin} (h : Canonical s) : Canonical (endSched s spare) := h

protected theorem Canonical.endZeroised {spare : Option Origin} (h : Canonical s) :
    Canonical (endZeroised s spare) := by
  unfold endZeroised
  refine .foldl (.foldl (.endSched (.foldl h (fun h1 => .dropJob (.releaseJob h1)) _))
    (fun h2 => ?_) _) Canonical.send _
  split
  · exact .zeroisedMailbox h2
  · exact h2

protected theorem Canonical.finishCopy (h : Canonical s) : Canonical (finishCopy s) := by
  unfold finishCopy
  split
  · exact h
  · refine .foldl h (fun h1 => ?_) _
    split
    · exact .ite h1 (.ite h1 h1)
    · exact h1

protected theorem Canonical.stopNor {s0 : State} (h : Canonical s0) : Canonical (stopNor s0) := by
  unfold stopNor
  refine .ite (.interrupted (.finishCopy h)) ?_
  refine .ite (.headOn (.fifoPop (.interrupted (.finishCopy h)))) ?_
  exact .headOn (.interrupted (.finishCopy h))

protected theorem Canonical.destroyHelpers (h : Canonical s) : Canonical (destroyHelpers s) := .setReg h

protected theorem Canonical.latchAlarm {bit island : Nat} (h : Canonical s) : Canonical (latchAlarm s bit island) :=
  .setReg h

protected theorem Canonical.showHalt {code : Nat} (h : Canonical s) : Canonical (showHalt s code) := h

protected theorem Canonical.alarmResponse (h : Canonical s) : Canonical (alarmResponse s) := by
  unfold alarmResponse
  exact .setMode (.showHalt (.recordEvent (.destroyHelpers (.lockdownOff (.endZeroised (.zeroise (.stopNor h)))))))

protected theorem Canonical.alarm {bit island : Nat} (h : Canonical s) : Canonical (alarm s bit island) := by
  unfold alarm
  refine .ite (.latchAlarm h) ?_
  exact .ite (.ite (.enterStartup (.latchAlarm h)) (.latchAlarm h)) (.alarmResponse (.latchAlarm h))

protected theorem Canonical.patternPeriod {mesh loop0 loop1 : Bool} (h : Canonical s) :
    Canonical (patternPeriod s mesh loop0 loop1) := by
  unfold patternPeriod
  extract_lets t s1 s2 n s3 s4
  have h1 : Canonical s1 := .update h rfl rfl
  have h2 : Canonical s2 := .ite (.incRegField h1) h1
  have h3 : Canonical s3 := .ite (.setRegField h2) h2
  have h4 : Canonical s4 := .ite (.incRegField h3) h3
  exact .ite (.incRegField h4) h4

protected theorem Canonical.loopAlarm {k : Nat} (h : Canonical s) : Canonical (loopAlarm s k) := .ite (.alarm h) h
protected theorem Canonical.coreDip (h : Canonical s) : Canonical (coreDip s) := h

protected theorem Canonical.envAlarm {bit : Nat} (h : Canonical s) : Canonical (envAlarm s bit) :=
  .ite h (.ite (.coreDip (.alarm h)) (.alarm h))

protected theorem Canonical.tampIn (h : Canonical s) : Canonical (tampIn s n) :=
  .ite h (.ite (.alarm (.capture h)) (.capture h))

protected theorem Canonical.vbatReads {mv : Nat} (h : Canonical s) : Canonical (vbatReads s mv) :=
  .ite h (.ite (.recordEvent h) h)

protected theorem Canonical.extendLock (h : Canonical s) : Canonical (extendLock s) := .extendFrom (.tookFree h)
protected theorem Canonical.regEntry {v : Nat} (h : Canonical s) : Canonical (regEntry s a v) := .crossing (.capture h)

protected theorem Canonical.meshCfgWrite {s0 : State} {v : Nat} (h : Canonical s0) : Canonical (meshCfgWrite s0 v) :=
  .ite (.regEntry h) (.ite (.extendLock (.setReg (.regEntry h))) (.setReg (.regEntry h)))

protected theorem Canonical.inputAlarms (h : Canonical s) : Canonical (inputAlarms s) :=
  .foldl h (fun h1 => .ite (.alarm h1) h1) _

protected theorem Canonical.inCfgWrite {s0 : State} {v : Nat} (h : Canonical s0) : Canonical (inCfgWrite s0 v) := by
  unfold inCfgWrite
  refine .ite (.regEntry h) ?_
  exact .inputAlarms (.ite (.extendLock (.setReg (.regEntry h))) (.setReg (.regEntry h)))

protected theorem Canonical.zeroiseNow {o : Option Origin} {code : Nat} (h : Canonical s) :
    Canonical (zeroiseNow s o code) :=
  .recordEvent (.stopLinks (.holdWards (.endZeroised (.zeroise h))))

protected theorem Canonical.deliberate {o : Option Origin} {code : Nat} (h : Canonical s) :
    Canonical (deliberate s o code) :=
  .enterLockdown (.zeroiseNow h)

protected theorem Canonical.tmpZeroise (h : Canonical s) : Canonical (tmpZeroise j s) :=
  .ite (.dropWith h) (.okJob (.deliberate h))

/-! ### The Amber journal and replay (20) -/

protected theorem Canonical.ringMem (h : Canonical t) : Canonical (ringMem s t) := h

protected theorem Canonical.ambCfgWrite {s0 : State} {wide : Bool} {v : Nat} (h : Canonical s0) :
    Canonical (ambCfgWrite s0 wide v) :=
  .ringMem (.ambRestart (.setReg (.regEntry h)))

protected theorem Canonical.ambExport (h : Canonical s) : Canonical (ambExport j s) := by
  unfold ambExport
  refine .checked h (.withLines h (.withDraw h (fun h1 => ?_)))
  split
  · exact .writeAndEnd h1
  · exact .dropWith h1

protected theorem Canonical.replayBegin {p : Nat} {id : Bytes} (h : Canonical s) : Canonical (replayBegin s j p id) :=
  .setJob (.setMode (.loadCkpt h))

protected theorem Canonical.ambReplay (h : Canonical s) : Canonical (ambReplay j s) := by
  unfold ambReplay
  refine .ite ?_ (.ite (.dropWith h) ?_)
  · split
    · exact .dropWith h
    · refine .ite (.readOrEnd h) (.withLines h ?_)
      split
      · exact .replayBegin h
      · exact .dropWith h
  · split
    · exact .dropWith h
    · dsimp only
      split
      · exact .replayBegin h
      · exact .dropWith h

protected theorem Canonical.replayEnd {pos : Nat} {run : List ReplayEvent} {absent : Option AbsentWinner}
    (h : Canonical s) : Canonical (replayEnd s j pos run absent) := by
  unfold replayEnd
  dsimp only
  split
  · exact .blockedJob h
  next e =>
    split
    · exact .blockedJob (.hostWrite e h)
    next e1 => exact .endJob (.hostWrite e1 (.hostWrite e h))

/-! ### The end of an arith engine's job (08) -/

protected theorem Canonical.arithRelease {res stored : Bytes} (h : Canonical s) :
    Canonical (arithRelease s j res stored) := by
  unfold arithRelease
  refine .ite (.keygenRelease h) ?_
  refine .ite (.proveRelease h) ?_
  refine .ite (.signRelease h) ?_
  refine .ite (.verifyRelease h) ?_
  exact .ite (.sharedRelease h) (.ite (.encapsRelease h) (.ite (.decapsRelease h) (.setJob h)))

protected theorem Canonical.arithLeaves {res wire : Bytes} (h : Canonical s) :
    Canonical (arithLeaves s j n res wire) := by
  unfold arithLeaves
  dsimp only
  split
  · exact .arithRelease (.goodArith (.freeArith h))
  · split
    · exact .arithRelease (.crossing (.goodArith (.freeArith h)))
    · exact .arithFault h

protected theorem Canonical.arithOutcome {st : Nat} (h : Canonical s) : Canonical (arithOutcome s j n st) := .capture h

protected theorem Canonical.arithJobDone {e : ArithEnd} (h : Canonical s) : Canonical (arithJobDone s o e) := by
  unfold arithJobDone
  split
  · refine .ite h ?_
    split
    · exact .supersede h
    · extract_lets res good s1
      have h1 : Canonical s1 := .crossing (.arithOutcome h)
      have hfree : ∀ {n}, Canonical (goodArith (freeArith s1 n) n) := .goodArith (.freeArith h1)
      refine .ite (.iterLimit hfree) (.ite (.dropWith hfree) (.ite (.arithLeaves h1) ?_))
      exact .ite (.proveFail hfree) (.invariantFail h1)
  · exact h

protected theorem Canonical.returnNow {m b : Bytes} (e : returnNow s o m = some (b, t)) (h : Canonical s) :
    Canonical t := by
  unfold returnNow at e
  split at e
  next hd =>
    obtain ⟨x, -, hx⟩ := Option.map_eq_some_iff.1 e
    cases hx
    exact .draw hd h
  · cases e

protected theorem Canonical.keygenNow {cls size : Nat} {seed b : Bytes}
    (e : keygenNow s o cls size seed = some (b, t)) (h : Canonical s) : Canonical t := by
  obtain ⟨s1, h1, e⟩ := Option.bind_eq_some_iff.1 e
  exact .returnNow e (.arithNow h1 h)

protected theorem Canonical.signReqNow {q : SignReq} {rnd b : Bytes} (e : signReqNow s q rnd = some (b, t))
    (h : Canonical s) : Canonical t := by
  obtain ⟨s1, h1, e⟩ := Option.bind_eq_some_iff.1 e
  split at e
  · cases e
  · cases e
    exact .arithNow h1 h

/-! ### The seal engine pool (05) -/

protected theorem Canonical.handover {c : Nat} (h : Canonical s) : Canonical (handover s c) := by
  unfold handover
  refine .ite h ?_
  split
  · exact h
  · exact .setSeng h

protected theorem Canonical.engineExhausted (h : Canonical s) : Canonical (engineExhausted s j) :=
  .dropWith (.incRegField h)

protected theorem Canonical.enterLane (h : Canonical s) : Canonical (enterLane s j).1 := by
  unfold enterLane
  dsimp only
  split
  · exact h
  · split
    · dsimp only
      split
      · exact .giveCredit h
      · exact h
    · split
      · split
        · exact .crossing (.takeCredit (.giveCredit h))
        · exact .giveCredit h
      · split
        · exact .crossing (.takeCredit h)
        · exact h

protected theorem Canonical.placeSeal {start : State → Job → Nat → State} (h : Canonical s)
    (hstart : ∀ {u i m}, Canonical u → Canonical (start u i m)) : Canonical (placeSeal s j start) := by
  have h1 : Canonical (enterLane s j).1 := .enterLane h
  unfold placeSeal
  dsimp only
  refine .ite (.engineExhausted h) ?_
  split
  · exact .setJob h1
  · refine hstart ?_
    split
    · exact .giveCredit (.setJob h1)
    · exact .crossing (.setJob h1)

protected theorem Canonical.leaveSeng (h : Canonical s) : Canonical (leaveSeng s o) := h

protected theorem Canonical.slicePark (h : Canonical s) : Canonical (slicePark s n) := by
  unfold slicePark
  dsimp only
  split
  · exact .ite (.setSeng h) h
  · exact h

protected theorem Canonical.resumeParked (h : Canonical s) : Canonical (resumeParked s n) := .ite (.setSeng h) h

protected theorem Canonical.quarantineSeal {cause : Nat} (h : Canonical s) : Canonical (quarantineSeal s n cause) := by
  unfold quarantineSeal
  dsimp only
  split
  · exact .okJob (.ite (.flagClass0 (.handover (.recordEvent (.setSeng h)))) (.handover (.recordEvent (.setSeng h))))
  · refine .ite (.flagClass0 (.handover (.recordEvent (.setSeng h)))) ?_
    exact .handover (.recordEvent (.setSeng h))

protected theorem Canonical.engineDrained (h : Canonical s) : Canonical (engineDrained s n) :=
  .ite h (.quarantineSeal h)

protected theorem Canonical.engineTestDone {failed : Nat} (h : Canonical s) :
    Canonical (engineTestDone s n failed) := by
  unfold engineTestDone
  refine .ite h ?_
  dsimp only
  split
  · exact .endJob (.ite (.recordEvent (.setSeng h)) (.handover (.setSeng h)))
  · exact .ite (.recordEvent (.setSeng h)) (.handover (.setSeng h))

protected theorem Canonical.engineReadmit (h : Canonical s) : Canonical (engineReadmit j s) :=
  .ite (.dropWith h) (.ite (.dropWith h) (.setJob (.setSeng h)))

protected theorem Canonical.engineQuarantine (h : Canonical s) : Canonical (engineQuarantine j s) :=
  .ite (.dropWith h) (.ite (.dropWith h) (.setJob (.handover (.setSeng h))))

/-! ### Sealing and recall (04) -/

protected theorem Canonical.sealReads {w : SealWork} {reads : List HostRef} (h : Canonical s) :
    Canonical (sealReads s j n w reads) := by
  unfold sealReads
  dsimp only
  split
  · exact .setJob (.setSeng h)
  · split
    next e => exact .setJob (.issueReads e (.setSeng h))
    · exact .dropWith (.noteBlocked (.setSeng h))

protected theorem Canonical.sealDeliver {leaf : Bytes} (h : Canonical s) : Canonical (sealDeliver s j n leaf) :=
  .drawIf h (fun h1 => .sealReads (.setTree h1))

protected theorem Canonical.sealStart (h : Canonical s) : Canonical (sealStart s j n) := by
  unfold sealStart
  dsimp only
  split
  · exact .sealDeliver h
  · refine .takeOrder h (fun h1 => ?_)
    split
    · exact .dropWith h1
    · refine .withFrontier h1 ?_
      split
      · exact .dropWith h1
      · split
        · exact .dropWith h1
        · exact .sealDeliver (.setJob h1)

protected theorem Canonical.digestStart (h : Canonical s) : Canonical (digestStart s j n) := .sealReads h

protected theorem Canonical.assignPosition (h : Canonical s) : Canonical (assignPosition s j).1 := by
  unfold assignPosition
  dsimp only
  split
  · exact .setMan h
  · exact h

protected theorem Canonical.sealCmd (h : Canonical s) : Canonical (sealCmd j s) := by
  unfold sealCmd
  refine .ite (.placeSeal h Canonical.sealStart) ?_
  split
  · exact .dropWith h
  · have h1 : Canonical (assignPosition s j).1 := .assignPosition h
    exact .ite (.withManifest h (.placeSeal h1 Canonical.sealStart)) (.placeSeal h1 Canonical.sealStart)

protected theorem Canonical.recallCmd (h : Canonical s) : Canonical (recallCmd j s) := by
  unfold recallCmd
  refine .ite (.placeSeal h Canonical.sealStart) ?_
  split
  · exact .dropWith h
  · exact .placeSeal h Canonical.sealStart

protected theorem Canonical.verifyCmd (h : Canonical s) : Canonical (verifyCmd j s) := .recallCmd h

protected theorem Canonical.digestOnlyCmd (h : Canonical s) : Canonical (digestOnlyCmd j s) := by
  unfold digestOnlyCmd
  refine .ite (.placeSeal h Canonical.digestStart) ?_
  split
  · exact .dropWith h
  · exact .placeSeal h Canonical.digestStart

protected theorem Canonical.sealOk {w : SealWork} (h : Canonical s) : Canonical (sealOk s w).2 := by
  unfold sealOk
  split
  · exact .incRegField h
  · exact h

protected theorem Canonical.sealEnd {st : Nat} {res : Bytes} {mode : Nat} (h : Canonical s) :
    Canonical (sealEnd s j st res mode) :=
  .endJob h

protected theorem Canonical.sealDone {w : SealWork} (h : Canonical s) : Canonical (sealDone s j w) := by
  unfold sealDone
  refine .ite (.sealEnd h) ?_
  dsimp only
  split
  · exact .sealEnd (.noteBlocked h)
  next e => exact .sealEnd (.sealOk (.capture (.hostWrite e h)))

protected theorem Canonical.recallFail {p : SealSpec} {st : Nat} (h : Canonical s) :
    Canonical (recallFail s j p st) := by
  unfold recallFail
  refine .ite ?_ (.sealEnd h)
  split
  next e => exact .sealEnd (.capture (.hostWrite e h))
  · exact .sealEnd (.noteBlocked h)

protected theorem Canonical.recallDone {w : SealWork} (h : Canonical s) : Canonical (recallDone s j w) := by
  unfold recallDone
  dsimp only
  split
  · exact .sealEnd (.noteBlocked h)
  next s1 j1 e =>
    have h1 : Canonical s1 := by
      split at e
      · obtain ⟨⟨u, i⟩, hw, hx⟩ := Option.map_eq_some_iff.1 e
        cases hx
        exact .capture (.hostWrite hw h)
      · cases e
        exact h
    exact .ite (.recallFail h1) (.sealEnd (.sealOk h1))

protected theorem Canonical.digestOnlyDone {w : SealWork} (h : Canonical s) : Canonical (digestOnlyDone s j w) :=
  .endJob (.sealOk h)

protected theorem Canonical.sealOutcome {st cause : Nat} (h : Canonical s) : Canonical (sealOutcome s o n st cause) :=
  .crossing (.capture h)

protected theorem Canonical.journalAad (h : Canonical s) : Canonical (journalAad s j) := .ite h (.capture h)

protected theorem Canonical.sealJobDone (h : Canonical s) : Canonical (sealJobDone s o) := by
  unfold sealJobDone
  split
  · refine .ite h ?_
    extract_lets s1 j1 s2
    have h2 : Canonical s2 := .journalAad (.journalPayload (.sealOutcome (.leaveSeng h)))
    exact .ite (.sealDone h2) (.ite (.recallDone h2) (.ite (.digestOnlyDone h2) h))
  · exact h

protected theorem Canonical.attemptWrites {w : SealWork} (h : Canonical s) : Canonical (attemptWrites s j w) := by
  unfold attemptWrites
  refine .ite h ?_
  dsimp only
  split
  next e => exact .setJob (.hostWrite e (.tookFree h))
  · exact h

protected theorem Canonical.rerunSeal {s0 : State} {w : SealWork} (h : Canonical s0) :
    Canonical (rerunSeal s0 n w) := by
  unfold rerunSeal
  split
  · exact h
  · refine .ite (.supersede (.setJob (.attemptWrites h))) ?_
    exact .ite (.engineExhausted (.attemptWrites h)) (.setJob (.attemptWrites h))

protected theorem Canonical.attemptFail {cause : Nat} (h : Canonical s) : Canonical (attemptFail s n cause) := by
  unfold attemptFail
  refine .ite h ?_
  dsimp only
  split
  · refine .rerunSeal ?_
    split
    · exact .rerunSeal (.sealOutcome (.quarantineSeal (.setSeng h)))
    · exact .quarantineSeal (.setSeng h)
  · split
    · exact .rerunSeal (.sealOutcome (.quarantineSeal (.setSeng h)))
    · exact .quarantineSeal (.setSeng h)

/-! ### Manifests (04) -/

protected theorem Canonical.noteManifests (h : Canonical s) : Canonical (noteManifests s) := .ite (.setRegField h) h

protected theorem Canonical.manifestOpen (h : Canonical s) : Canonical (manifestOpen j s) := by
  unfold manifestOpen
  exact .checked h (.takeOrder h
    (fun h1 => .checked h1 (.withDraw h1 (fun h2 => .commitOrder h2 (.okJob (.noteManifests h2))))))

protected theorem Canonical.manPlace (h : Canonical s) : Canonical (manPlace s j) := .placeArith h

protected theorem Canonical.manSign (h : Canonical s) : Canonical (manSign s j) :=
  .takeOrder h (fun h1 => .checked h1 (.withMaterial h1 (fun h2 => .manPlace h2)))

protected theorem Canonical.manStep {step : Nat} {sigs : Bytes} (h : Canonical s) : Canonical (manStep s j step sigs) :=
  .manSign (.setJob h)

protected theorem Canonical.manWrite {sigs : Bytes} (h : Canonical s) : Canonical (manWrite s j sigs) := by
  unfold manWrite
  dsimp only
  split
  next e => exact .endJob (.manFree (.arithOk (.hostWrite e h)))
  · exact .dropWith (.noteBlocked h)

protected theorem Canonical.manSigned (h : Canonical s) : Canonical (manSigned s j) := .ite (.manStep h) (.manWrite h)

protected theorem Canonical.manForm (h : Canonical s) : Canonical (manForm s j) :=
  .ite (.okJob (.manFree h)) (.manStep (.setMan h))

protected theorem Canonical.manifestClose (h : Canonical s) : Canonical (manifestClose j s) := by
  unfold manifestClose
  refine .ite (.manSign h) ?_
  refine .ite (.manPlace h) ?_
  refine .ite (.manSigned h) ?_
  exact .checked h (.withManifest h (.ite (.setJob (.setMan h)) (.manForm (.setMan h))))

protected theorem Canonical.manHeaderForm {h : Nat} (hs : Canonical s) : Canonical (manHeaderForm s h) := by
  unfold manHeaderForm
  dsimp only
  split
  · exact .ite (.manForm hs) hs
  · exact hs

/-! ### The platform guard (14) -/

protected theorem Canonical.ownerArith (h : Canonical s) : Canonical (ownerArith s) := .getD h fun e => .arithNow e h
protected theorem Canonical.flashReset (h : Canonical s) : Canonical (flashReset s w) := .foldl h Canonical.send _

protected theorem Canonical.startVerify {s0 : State} (h : Canonical s0) : Canonical (startVerify s0 w) := by
  unfold startVerify
  dsimp only
  split
  · exact .ite (.setWard (.flashReset h)) (.setCtx (.setWard (.flashReset h)))
  · exact .setWard (.flashReset h)

protected theorem Canonical.wardBegin (h : Canonical s) : Canonical (wardBegin s w) := by
  unfold wardBegin
  refine .ite h ?_
  split
  · exact .setWard h
  · exact .setWard h

protected theorem Canonical.wardsStart (h : Canonical s) : Canonical (wardsStart s) := .foldl h Canonical.wardBegin _

protected theorem Canonical.wardEnd {st : Nat} (h : Canonical s) : Canonical (wardEnd s w st) := by
  unfold wardEnd
  dsimp only
  split
  · exact .ite (.endJob (.setWard h)) (.setWard h)
  · exact .setWard h

protected theorem Canonical.assertReset {cause : Nat} (h : Canonical s) : Canonical (assertReset s w cause) :=
  .ite (.extendFrom (.setWard h)) (.setWard h)

protected theorem Canonical.settleWard {st : WardState} {status : Nat} (h : Canonical s) :
    Canonical (settleWard s w st status) :=
  .wardEnd (.setWard (.dropCtx h))

protected theorem Canonical.wpgRise (h : Canonical s) : Canonical (wpgRise s w) :=
  .ite h (.ite (.capture (.setWard h)) (.wardBegin (.hushExit (.capture (.setWard h)))))

protected theorem Canonical.wpgFall (h : Canonical s) : Canonical (wpgFall s w) := by
  unfold wpgFall
  refine .ite h ?_
  exact .wardEnd (.dropCtx (.setWard (.ite (.incRegField (.capture (.assertReset h))) (.capture (.assertReset h)))))

protected theorem Canonical.measureRegions {rs : List Region} {cs : List Bytes} (h : Canonical s) :
    Canonical (measureRegions w rs cs n s).1 := by
  induction rs generalizing cs n s with
  | nil => exact h
  | cons r rs ih =>
    unfold measureRegions
    split
    · exact h
    · exact ih (.extendFed h)

protected theorem Canonical.verifyFail {st failed : Nat} (h : Canonical s) : Canonical (verifyFail s w st failed) :=
  .ite (.dropCtx (.setWard h)) (.settleWard (.recordEvent (.setWard h)))

protected theorem Canonical.wardRelease (h : Canonical s) : Canonical (wardRelease s w) :=
  .settleWard (.setWard (.extendFrom h))

protected theorem Canonical.flashOutcome {st : Nat} (h : Canonical s) : Canonical (flashOutcome s w st) := .capture h

protected theorem Canonical.quadEnable {sfdp : Bytes} (h : Canonical s) : Canonical (quadEnable s w sfdp) :=
  .ite h (.send h)

protected theorem Canonical.verifyRun {sfdp : Bytes} {contents : List Bytes} (h : Canonical s) :
    Canonical (verifyRun s w sfdp contents).1 := by
  unfold verifyRun
  dsimp only
  split
  · exact .extendFrom h
  · split
    · exact .ownerArith (.extendFrom h)
    · split
      · exact .ownerArith (.extendFrom h)
      · split
        · exact .incRegField (.measureRegions (.quadEnable (.setWard (.ownerArith (.extendFrom h)))))
        · exact .measureRegions (.quadEnable (.setWard (.ownerArith (.extendFrom h))))

protected theorem Canonical.verifyDone {sfdp : Bytes} {contents : List Bytes} (h : Canonical s) :
    Canonical (verifyDone s w sfdp contents) := by
  unfold verifyDone
  refine .ite h ?_
  refine .ite h ?_
  refine .ite (.verifyFail (.flashOutcome (.verifyRun h))) ?_
  refine .ite (.wardRelease (.flashOutcome ?_)) h
  dsimp only
  split
  · exact .extendFrom h
  · split
    · exact .ownerArith (.extendFrom h)
    · split
      · exact .ownerArith (.extendFrom h)
      · split
        · exact .incRegField (.measureRegions (.quadEnable (.setWard (.ownerArith (.extendFrom h)))))
        · exact .measureRegions (.quadEnable (.setWard (.ownerArith (.extendFrom h))))

protected theorem Canonical.digestShort (h : Canonical s) : Canonical (digestShort s w) :=
  .ite (.incRegField h) (.ite (.verifyFail (.flashOutcome (.incRegField h))) h)

protected theorem Canonical.recoveryEnd {st : Nat} (h : Canonical s) : Canonical (recoveryEnd s w st) := by
  unfold recoveryEnd
  refine .ite (.settleWard (.setWard h)) ?_
  split
  · exact .startVerify (.setWard (.setWard h))
  · exact .settleWard (.setWard h)

protected theorem Canonical.rewriteRegion {golden : Bool} {ts : List (Nat × Nat)} {e : Nat × Bytes} (h : Canonical s) :
    Canonical (rewriteRegion w golden ts s e) :=
  .foldl (.foldl h Canonical.send _) Canonical.send _

protected theorem Canonical.recoveryWrites {golden : List Bytes} (h : Canonical s) :
    Canonical (recoveryWrites s w golden) :=
  .extendFrom (.foldl h Canonical.rewriteRegion _)

protected theorem Canonical.recoveryDone {golden : List Bytes} {ok : Bool} (h : Canonical s) :
    Canonical (recoveryDone s w golden ok) := by
  unfold recoveryDone
  refine .ite h ?_
  refine .ite (.recoveryEnd (.flashOutcome h)) ?_
  exact .ite (.recoveryEnd (.flashOutcome h)) (.recoveryEnd (.flashOutcome (.recoveryWrites h)))

protected theorem Canonical.flashTimeout (h : Canonical s) : Canonical (flashTimeout s w) := by
  unfold flashTimeout
  refine .ite h ?_
  refine .ite (.verifyFail (.flashOutcome (.timerTaken h))) ?_
  exact .ite (.recoveryEnd (.flashOutcome (.timerTaken h))) h

protected theorem Canonical.dropStaged (h : Canonical s) : Canonical (dropStaged s w) := h

protected theorem Canonical.keepStaged {s0 : State} {b : Bytes} (h : Canonical s0) : Canonical (keepStaged s0 w b) :=
  .update (.setWard (.dropStaged h)) rfl rfl

protected theorem Canonical.spiRefuse {op len : Nat} {addrKnown : Bool} (h : Canonical s) :
    Canonical (spiRefuse s w op a len addrKnown) := by
  unfold spiRefuse
  extract_lets v c modifying v1 s0 s1
  have h0 : Canonical s0 := .recordEvent (.setWard h)
  have h1 : Canonical s1 := .ite h0 (.send h0)
  exact .ite (.send h1) (.send h1)

protected theorem Canonical.spiCommand {s0 : State} {op addr len : Nat} (h : Canonical s0) :
    Canonical (spiCommand s0 w op addr len bs) := by
  unfold spiCommand
  refine .ite h (.ite (.spiRefuse (.capture h)) (.ite (.send (.capture h)) ?_))
  dsimp only
  split
  · exact .ite (.send (.send (.setWard (.capture h)))) (.send (.setWard (.capture h)))
  · exact .send (.setWard (.capture h))

protected theorem Canonical.takeWard (h : Canonical s) : Canonical (takeWard s j w) := .setWard h

protected theorem Canonical.manifestAccepted {m : Bytes} (h : Canonical s) : Canonical (manifestAccepted s w m) :=
  .ite (.startVerify (.setWard h)) h

protected theorem Canonical.wardManifestSet (h : Canonical s) : Canonical (wardManifestSet j s) := by
  unfold wardManifestSet
  refine .ite ?_ ?_
  · split
    · exact .dropWith h
    · exact .readOrEnd (.takeWard h)
  · refine .ite ?_ ?_
    · refine .ite h ?_
      split
      · exact .dropWith h
      · exact .norThen (.ownerArith h)
    · refine .ite (.norThen (.foldl h Canonical.eraseSector _)) ?_
      exact .ite (.norThen (.norProgram h)) (.manifestAccepted (.okJob (.setWard (.norProgram h))))

protected theorem Canonical.wardVerify (h : Canonical s) : Canonical (wardVerify j s) := by
  unfold wardVerify
  dsimp only
  split
  · exact .dropWith h
  · exact .startVerify (.setJob
      (.setWard (.ite (.dropStaged (.takeWard (.assertReset h))) (.takeWard (.assertReset h)))))

protected theorem Canonical.recoverImage {b : Bytes} (h : Canonical s) : Canonical (recoverImage s j w b) := by
  unfold recoverImage
  refine .ite h ?_
  split
  · exact .recoveryEnd (.setJob (.dropStaged (.ownerArith h)))
  · exact .setJob (.setWard (.keepStaged (.ownerArith h)))

protected theorem Canonical.wardRecover (h : Canonical s) : Canonical (wardRecover j s) := by
  unfold wardRecover
  refine .ite ?_ (.recoverImage h)
  split
  · exact .dropWith h
  · refine .ite (.setJob (.setWard (.takeWard (.assertReset h)))) ?_
    refine .ite (.readOrEnd (.setWard (.takeWard (.assertReset h)))) ?_
    exact .startFetch (.setWard (.takeWard (.assertReset h)))

protected theorem Canonical.wardHold (h : Canonical s) : Canonical (wardHold j s) := by
  unfold wardHold
  refine .ite (.dropWith h) ?_
  dsimp only
  split
  · exact .okJob (.setWard (.assertReset h))
  · exact .okJob (.setWard h)
  · exact .okJob (.setWard h)
  · exact .okJob (.setWard h)
  · exact .okJob (.setWard h)
  · exact .dropWith h
  · exact .dropWith h

protected theorem Canonical.wardAux (h : Canonical s) : Canonical (wardAux j s) := by
  unfold wardAux
  dsimp only
  split
  · exact .dropWith h
  · exact .okJob (.setWard h)

protected theorem Canonical.wardInfo (h : Canonical s) : Canonical (wardInfo j s) := .ite (.dropWith h) (.okJob h)

/-! ### Start-up and secure boot (12) -/

protected theorem Canonical.endHeld (h : Canonical s) : Canonical (endHeld s) :=
  .foldl (.foldl h Canonical.dropWith _) Canonical.dropWith _

protected theorem Canonical.haltStart {code : Nat} (h : Canonical s) : Canonical (haltStart s code) :=
  .enterLockdown (.endHeld (.recordEvent (.ite h (.showHalt h))))

protected theorem Canonical.onStart {f : State → State} (h : Canonical s) (hf : ∀ {u}, Canonical u → Canonical (f u)) :
    Canonical (onStart n f s) :=
  .ite (hf h) h

protected theorem Canonical.vholdReads {mv : Nat} (h : Canonical s) : Canonical (vholdReads s mv) := h

protected theorem Canonical.startBegin {i : StartInput} (h : Canonical s) : Canonical (startBegin s i) :=
  .setMode (.setReg (.ite (.setReg (.vholdReads h)) (.vholdReads h)))

protected theorem Canonical.refreshStart (h : Canonical s) : Canonical (refreshStart s) := by
  refine .foldl ?_ Canonical.norQueue _
  exact .ite h h

protected theorem Canonical.startRecorder (h : Canonical s) : Canonical (startRecorder s) :=
  .refreshStart (.recorderStart h)

protected theorem Canonical.runWipes (h : Canonical s) : Canonical (runWipes s) := .foldl h Canonical.runWipe _

protected theorem Canonical.startLifecycle (h : Canonical s) : Canonical (startLifecycle s) := by
  unfold startLifecycle
  rcases lcsDecide s.lcs.copyA.num s.lcs.copyB.num s.fuses.floor with ⟨st, fix⟩
  dsimp -zeta only
  extract_lets _ s1 _ s2 both _ s3
  have h1 : Canonical s1 := .update h rfl rfl
  have h2 : Canonical s2 := .ite (.ite (.update h1 rfl rfl) (.recordEvent h1)) h1
  have h3 : Canonical s3 := .ite (.update h2 rfl rfl) h2
  exact .ite (.haltStart (.destroyHelpers h3)) (.ite (.haltStart h3) (.ite (.haltStart (.runWipes h3)) (.runWipes h3)))

protected theorem Canonical.startTrims (h : Canonical s) : Canonical (startTrims s) :=
  .ite (.haltStart h) (.ite (.recordEvent h) h)

protected theorem Canonical.startRom (h : Canonical s) : Canonical (startRom s) :=
  .ite (.haltStart h) (.extendFrom (.extendFrom h))

protected theorem Canonical.reEnrolPuf {h : PufCopy} {ok : Bool} (hs : Canonical s) : Canonical (reEnrolPuf s h ok) :=
  .ite hs (.ite hs hs)

protected theorem Canonical.pufDone {c : PufCopy} {other : Bool} {p : Bytes} (h : Canonical s) :
    Canonical (pufDone s c other p n) :=
  .ite h (.recordEvent (.reEnrolPuf h))

protected theorem Canonical.startPuf (h : Canonical s) : Canonical (startPuf s) := by
  unfold startPuf
  refine .ite h ?_
  dsimp only
  split
  · exact .pufDone h
  · split
    · exact .pufDone h
    · exact .haltStart h

protected theorem Canonical.startEngines (h : Canonical s) : Canonical (startEngines s) := by
  unfold startEngines
  exact .foldl (.foldl (.foldl h Canonical.setSeng _) (fun h2 => .ite (.quarantineSeal h2) h2) _)
    (fun h3 => .ite (.quarantineArith h3) h3) _

protected theorem Canonical.startTests (h : Canonical s) : Canonical (startTests s) :=
  .ite (.haltStart (.startEngines h)) (.startEngines h)

protected theorem Canonical.instantiateAll {l : List Nat} (h : Canonical s) : Canonical (instantiateAll l s) := by
  induction l generalizing s with
  | nil => exact h
  | cons n l ih => exact .ite (ih h) (.ite (ih (.instantiateNow h)) h)

protected theorem Canonical.loadSystem {origin : Nat} {mat : Bytes} (h : Canonical s) :
    Canonical (loadSystem s n origin mat) :=
  .setSlot h

protected theorem Canonical.startIdentity (h : Canonical s) : Canonical (startIdentity s) := by
  unfold startIdentity
  split
  · exact h
  · exact .setSlot (.setSlot h)

protected theorem Canonical.setImg {img : Nat} {st : ImageState} (h : Canonical s) : Canonical (setImg s img st) :=
  .ite h h

protected theorem Canonical.imgRuns {img : Nat} (h : Canonical s) : Canonical (imgRuns s img) :=
  .extendFed (.tookFree (.extendFrom (.extendFrom (.extendFrom (.extendFrom (.setImg h))))))

protected theorem Canonical.startImage (h : Canonical s) : Canonical (startImage s) := by
  unfold startImage
  refine .ite (.imgRuns h) ?_
  exact .ite (.recordEvent (.imgRuns (.update (.setImg (.update (.countUnread h) rfl rfl)) rfl rfl)))
    (.haltStart (.setImg (.countUnread (.setImg (.update (.countUnread h) rfl rfl)))))

protected theorem Canonical.loadCustody {salt : Bytes} (h : Canonical s) : Canonical (loadCustody s salt) :=
  .loadSystem (.loadSystem (.loadSystem h))

protected theorem Canonical.startCustody (h : Canonical s) : Canonical (startCustody s) := by
  unfold startCustody
  refine .ite h ?_
  split
  · exact h
  · dsimp only
    split
    · exact .ite (.update (.loadSystem (.loadCustody h)) rfl rfl) (.loadCustody h)
    · exact .loadCustody h

protected theorem Canonical.systemDraw {len : Nat} (h : Canonical s) : Canonical (systemDraw s n len).2 := by
  unfold systemDraw
  split
  next e => exact .draw e h
  · exact h

protected theorem Canonical.startMemory (h : Canonical s) : Canonical (startMemory s) :=
  .ite (.haltStart h) (.update (.loadSystem (.loadSystem (.systemDraw (.systemDraw (.systemDraw h))))) rfl rfl)

protected theorem Canonical.badRecords (h : Canonical s) : Canonical (badRecords s) := .foldl h Canonical.recordEvent _

protected theorem Canonical.cfgNow {ty key : Nat} {body : CfgBody} (h : Canonical s) :
    Canonical (cfgNow s ty key body) :=
  .cfgAppend (.cfgCompact h)

protected theorem Canonical.rebind {t : Nat} {b : Option BindId} {twin : Bool} {pasid : Nat} (h : Canonical s) :
    Canonical (rebind s t b twin pasid) := by
  unfold rebind
  split
  · exact h
  · exact .setBind h

protected theorem Canonical.rebuildTenant {t : Nat} {c : Tenant} {root : SlotHalf} {atts : List Attachment}
    (h : Canonical s) : Canonical (rebuildTenant s t c root atts) := by
  unfold rebuildTenant
  refine .ite ?_ ?_
  · exact .cfgNow (.foldl (.setSlot (.update (.rebind (.rebind (.setTen h))) rfl rfl))
      (fun h1 => .setTree (.setSlot h1)) _)
  · exact .foldl (.setSlot (.update (.rebind (.rebind (.setTen h))) rfl rfl)) (fun h1 => .setTree (.setSlot h1)) _

protected theorem Canonical.finishTenant {t : Nat} (h : Canonical s) : Canonical (finishTenant s t) := by
  unfold finishTenant
  dsimp only
  split
  · exact h
  · refine .ite ?_ ?_
    · exact .cfgNow (.setTen (.clearTenant (.foldl h Canonical.tombstoneNow _)))
    · exact .cfgNow (.setTen (.clearTenant (.foldl h Canonical.tombstoneNow _)))

protected theorem Canonical.faultBad {bad : NMap Anchor} (h : Canonical s) : Canonical (faultBad bad s) :=
  .foldl h (fun h1 => .ite (.forUid h1 Canonical.treeFault) h1) _

protected theorem Canonical.startTenants (h : Canonical s) : Canonical (startTenants s) := by
  unfold startTenants
  refine .ite h ?_
  refine .foldl (.faultBad (.foldl (.badRecords (.scanJournal h)) (fun h1 => ?_) _)) Canonical.finishTenant _
  split
  · exact .rebuildTenant h1
  · exact h1

protected theorem Canonical.claimAddress (h : Canonical s) : Canonical (claimAddress s) := h
protected theorem Canonical.linksUp (h : Canonical s) : Canonical (linksUp s) := .foldl h Canonical.setLink _

protected theorem Canonical.startService (h : Canonical s) : Canonical (startService s) := by
  unfold startService
  refine .ite (.enterLockdown (.endHeld h)) ?_
  exact .wardsStart (.fetchAll (.serviceEntered (.setMode (.linksUp (.claimAddress h)))))

protected theorem Canonical.startTail {s0 : State} (h : Canonical s0) : Canonical (startTail s0) :=
  .ite (.instantiateAll h) (.onStart (.instantiateAll h) Canonical.startService)

protected theorem Canonical.startMiddle (h : Canonical s) : Canonical (startMiddle s) := by
  unfold startMiddle
  extract_lets s1 s2
  have h1 : Canonical s1 :=
    .onStart (.onStart (.onStart h Canonical.startIdentity) Canonical.startImage) Canonical.startCustody
  have h2 : Canonical s2 := .onStart (.onStart h1 Canonical.startMemory) Canonical.startTenants
  exact .onStart h2 Canonical.startTail

protected theorem Canonical.startResume (h : Canonical s) : Canonical (startResume s) := by
  unfold startResume
  refine .ite h ?_
  exact .ite (.ite (.instantiateAll h) (.startMiddle (.instantiateAll h))) (.ite (.startTail h) h)

protected theorem Canonical.startRun {i : StartInput} (h : Canonical s) : Canonical (startRun s i) := by
  unfold startRun
  extract_lets s1 s2
  have h1 : Canonical s1 := .onStart (.onStart (.startBegin h) Canonical.startRecorder) Canonical.startLifecycle
  have h2 : Canonical s2 := .onStart (.onStart h1 Canonical.startTrims) Canonical.startRom
  exact .startResume (.onStart (.onStart h2 Canonical.startPuf) Canonical.startTests)

protected theorem Canonical.powerGood {i : StartInput} (h : Canonical s) : Canonical (powerGood s i) :=
  .ite (.startRun h) h

protected theorem Canonical.entropyHalt (h : Canonical s) : Canonical (entropyHalt s) := .ite (.haltStart h) h

/-! ### Lifecycle and debug (12) -/

protected theorem Canonical.lcsChallenge (h : Canonical s) : Canonical (lcsChallenge j s) :=
  .withDraw h (fun h1 => .okJob h1)

protected theorem Canonical.dbgChallenge (h : Canonical s) : Canonical (dbgChallenge s) := by
  unfold dbgChallenge
  refine .ite h ?_
  split
  next e => exact .send (.update (.draw e h) rfl rfl)
  · exact .send h

protected theorem Canonical.tokenArith {t : Bytes} (h : Canonical s) : Canonical (tokenArith s t) :=
  .ite (.ownerArith h) h

protected theorem Canonical.tokenUsed {c : Option Nat} (h : Canonical s) : Canonical (tokenUsed s c) := h

protected theorem Canonical.testModeOff (h : Canonical s) : Canonical (testModeOff s) :=
  .ite h (.rngModeChanged (.setRegField h))

protected theorem Canonical.beforeProgram {cells p : Bytes} (h : Canonical s) :
    Canonical (beforeProgram s j cells p) := by
  unfold beforeProgram
  split
  · exact .startIdentity h
  · exact .testModeOff h
  · exact .zeroiseNow (.clearCeremony h)
  · exact h

protected theorem Canonical.programA {cells p : Bytes} (h : Canonical s) : Canonical (programA s j cells p) :=
  .norThen (.beforeProgram h)

protected theorem Canonical.authorised {cells : Bytes} (h : Canonical s) : Canonical (authorised s j cells) := by
  unfold authorised
  refine .ite (.dropWith h) ?_
  refine .ite (.dropWith h) ?_
  exact .takeOrder h (fun h1 => .prevail h1
    (fun h2 => .ite (.withDraw (.testModeOff h2) Canonical.programA) (.programA h2)))

protected theorem Canonical.transitionDone (h : Canonical s) : Canonical (transitionDone s j) :=
  .ite (.okJob (.runWipes h)) (.enterLockdown (.okJob (.runWipes h)))

protected theorem Canonical.lcsTransition {vhold : Nat} {cells : Bytes} {s0 : State} (h : Canonical s0) :
    Canonical (lcsTransition vhold cells j s0) := by
  unfold lcsTransition
  dsimp only
  split
  · refine .ite (.dropWith (.vholdReads h)) (.ite ?_ ?_)
    · split
      · exact .dropWith (.vholdReads h)
      · exact .readOrEnd (.vholdReads h)
    · split
      · exact .dropWith (.vholdReads h)
      · exact .authorised (.vholdReads h)
  · refine .ite (.vholdReads h) ?_
    split
    · exact .dropWith (.tokenUsed (.tokenArith (.vholdReads h)))
    · exact .authorised (.tokenUsed (.tokenArith (.vholdReads h)))
  · exact .authorised (.vholdReads h)
  · exact .norThen h
  · exact .ite (.transitionDone h) (.norThen h)
  · exact .transitionDone (.vholdReads h)

protected theorem Canonical.openDebug (h : Canonical s) : Canonical (openDebug s) := .extendFrom h

protected theorem Canonical.tokenActs {t : Bytes} (h : Canonical s) : Canonical (tokenActs s t) := by
  unfold tokenActs
  refine .ite (.ite h (.programA (.addJob h))) ?_
  exact .ite (.openDebug h) (.enterLockdown (.openDebug (.zeroiseNow (.clearCeremony h))))

protected theorem Canonical.dbgToken {s0 : State} {t : Bytes} (h : Canonical s0) : Canonical (dbgToken s0 t) :=
  .ite h (.ite (.update (.tokenUsed (.tokenArith h)) rfl rfl)
    (.tokenActs (.update (.tokenUsed (.tokenArith h)) rfl rfl)))

/-! ### The token port's buses (15) -/

protected theorem Canonical.sendCard {b index arg : Nat} (h : Canonical s) : Canonical (sendCard s b index arg) :=
  .send h

protected theorem Canonical.sendBlock {b : Nat} (h : Canonical s) : Canonical (sendBlock s b bs) := .send h

protected theorem Canonical.beginOp {b : Nat} {op : CardOp} {rest : List CardOp} (h : Canonical s) :
    Canonical (beginOp s b op rest) :=
  .ite (.setBus h) (.sendCard (.setBus h))

protected theorem Canonical.startScript {b : Nat} {a1 : List CardOp} (h : Canonical s) :
    Canonical (startScript s b a1) := by
  unfold startScript
  split
  · exact h
  · exact .beginOp h

protected theorem Canonical.cardWake {b : Nat} (h : Canonical s) : Canonical (cardWake s b) := by
  unfold cardWake
  split
  · exact h
  · split
    · exact .ite (.setJob h) h
    · exact h

protected theorem Canonical.parkCard {b rca : Nat} (h : Canonical s) : Canonical (parkCard s b rca) :=
  .ite h (.ite (.sendCard (.sendCard h)) (.sendCard h))

protected theorem Canonical.busLast {b st : Nat} (h : Canonical s) : Canonical (busLast s b st) := .setBus h

protected theorem Canonical.busEnd {b st : Nat} (h : Canonical s) : Canonical (busEnd s b st) := by
  unfold busEnd
  split
  · exact .setBus h
  · dsimp only
    split
    · exact .dropWith (.busLast (.setBus h))
    · exact .busLast (.setBus h)

protected theorem Canonical.markCut {m : CardMark} (h : Canonical s) : Canonical (markCut s m) := h

protected theorem Canonical.afterIdent {b : Nat} (h : Canonical s) : Canonical (afterIdent s b) := by
  unfold afterIdent
  split
  · exact .startScript (.setBus h)
  · exact .cardWake (.setBus h)

protected theorem Canonical.eraseConfig (h : Canonical s) : Canonical (eraseConfig s) := h

protected theorem Canonical.reEnrol {key : Bytes} {setId : Nat} (h : Canonical s) : Canonical (reEnrol s j key setId) :=
  .withDraw h (fun h1 => .cfgThen (.eraseConfig (.loadCustody h1)))

protected theorem Canonical.commitStart (h : Canonical s) : Canonical (commitStart s j) :=
  .ite (.cfgThen h) (.reEnrol h)

protected theorem Canonical.keyVault {origin : Nat} {key : Bytes} (h : Canonical s) :
    Canonical (keyVault s origin key) :=
  .update (.loadSystem h) rfl rfl

protected theorem Canonical.commitDone (h : Canonical s) : Canonical (commitDone s j) := .clearCeremony (.keyVault h)

protected theorem Canonical.confirmEnrol {idx cid : Nat} (h : Canonical s) : Canonical (confirmEnrol s idx cid) :=
  .ite (.ite (.setCer h) (.setCer h)) (.setCer h)

protected theorem Canonical.commitInside (h : Canonical s) : Canonical (commitInside s) :=
  .ite h (.commitStart (.addJob h))

protected theorem Canonical.resolveEnd {b : Nat} {m : CardMark} {out : Nat} (h : Canonical s) :
    Canonical (resolveEnd s b m out) := by
  unfold resolveEnd
  extract_lets _ s1 _ s2 s3 u s4
  have h3 : Canonical s3 := .recordEvent (.parkCard (.setBus (.update h rfl rfl)))
  have hu : Canonical u := .confirmEnrol h3
  have h4 : Canonical s4 := .ite (.ite (.commitInside hu) hu) h3
  exact .ite (.busEnd h4) (.afterIdent h4)

protected theorem Canonical.resolveStep {b : Nat} (h : Canonical s) : Canonical (resolveStep s b) := by
  unfold resolveStep
  split
  · exact .cardWake (.setBus h)
  · exact .ite (.ite (.resolveEnd h) (.startScript (.setBus h))) (.resolveEnd h)

protected theorem Canonical.scriptEnd {b : Nat} (h : Canonical s) : Canonical (scriptEnd s b) :=
  .ite (.cardWake (.setBus h)) (.resolveStep (.setBus h))

protected theorem Canonical.opDone {b : Nat} (h : Canonical s) : Canonical (opDone s b) := by
  unfold opDone
  dsimp only
  split
  · exact .scriptEnd (.setBus h)
  · exact .beginOp (.setBus h)

protected theorem Canonical.opFail {b st : Nat} (h : Canonical s) : Canonical (opFail s b st) := by
  unfold opFail
  split
  · exact .parkCard (.busEnd h)
  · exact .resolveEnd h
  · exact .busEnd h

protected theorem Canonical.cutOp {b : Nat} (h : Canonical s) : Canonical (cutOp s b) := by
  unfold cutOp
  split
  · exact .markCut h
  · exact h

protected theorem Canonical.opCondPoll {b : Nat} (h : Canonical s) : Canonical (opCondPoll s b) :=
  .ite h (.ite (.afterIdent (.setBus h)) (.sendCard (.setBus (.ite (.sendCard h) h))))

protected theorem Canonical.identDone {b : Nat} (h : Canonical s) : Canonical (identDone s b) :=
  .afterIdent (.ite (.foldl (.setBus h) Canonical.sendCard _) (.setBus h))

protected theorem Canonical.cardFound {b cid : Nat} (h : Canonical s) : Canonical (cardFound s b cid) := by
  unfold cardFound
  refine .ite (.identDone (.recordEvent (.setBus h))) ?_
  exact .sendCard (.ite (.recordEvent (.setBus h)) (.setBus h))

protected theorem Canonical.identFail {b : Nat} (h : Canonical s) : Canonical (identFail s b) := .identDone (.setBus h)

protected theorem Canonical.opResponse {b v : Nat} (h : Canonical s) : Canonical (opResponse s b v) := by
  unfold opResponse
  refine .ite (.opFail (.setBus (.setBus h))) (.ite (.opFail (.setBus h)) ?_)
  split
  · exact .setBus (.sendBlock (.setBus h))
  · exact .setBus (.sendBlock (.setBus h))
  · exact .setBus (.sendBlock (.setBus h))
  · exact .setBus (.setBus h)
  · exact .setBus (.setBus h)
  · exact .opDone (.setBus h)

protected theorem Canonical.crcAnswer {b : Nat} {ok : Bool} (h : Canonical s) : Canonical (crcAnswer s b ok) := by
  unfold crcAnswer
  refine .ite (.opFail h) ?_
  split
  · exact .opDone h
  · exact .setBus h

protected theorem Canonical.cardResponse {s0 : State} {b : Nat} {r : CardResp} (h : Canonical s0) :
    Canonical (cardResponse s0 b r) := by
  unfold cardResponse
  refine .ite h ?_
  dsimp only
  split
  · exact .ite (.sendCard (.setBus (.capture h))) (.setBus (.capture h))
  · exact .setBus (.capture h)
  · exact .cardFound (.capture h)
  · exact .identFail (.capture h)
  · exact .sendCard (.setBus (.capture h))
  · exact .identFail (.capture h)
  · exact .opResponse (.capture h)
  · exact .opFail (.capture h)
  · exact .opDone (.setBus (.capture h))
  · exact .opFail (.capture h)
  · exact .crcAnswer (.capture h)
  · exact .opFail (.capture h)
  · exact .capture h

protected theorem Canonical.busyEnd {b : Nat} (h : Canonical s) : Canonical (busyEnd s b) := .ite h (.opDone h)

protected theorem Canonical.cardTimeout {b : Nat} (h : Canonical s) : Canonical (cardTimeout s b) := by
  unfold cardTimeout
  refine .ite h ?_
  split
  · exact .setBus h
  · exact .identDone h
  · exact .identFail h
  · exact .opFail h
  · exact .opFail h
  · exact .opFail h
  · exact .opFail (.cutOp h)
  · exact h

protected theorem Canonical.cardInsert {s0 : State} {b : Nat} (h : Canonical s0) : Canonical (cardInsert s0 b) :=
  .ite h (.ite (.identBus (.capture (.setBus h))) (.setBus h))

protected theorem Canonical.cardRemove {s0 : State} {b : Nat} (h : Canonical s0) : Canonical (cardRemove s0 b) :=
  .ite h (.setBus (.busEnd (.cutOp (.capture h))))

protected theorem Canonical.socketIdleOff {b : Nat} (h : Canonical s) : Canonical (socketIdleOff s b) :=
  .ite h (.setBus (.timerTaken h))

protected theorem Canonical.unlockDelay {b : Nat} (h : Canonical s) : Canonical (unlockDelay s b) := by
  unfold unlockDelay
  refine .ite h ?_
  dsimp only
  split
  · exact .beginOp (.setBus (.ite (.timerTaken h) h))
  · exact .setBus (.ite (.timerTaken h) h)

/-! ### The commands of the token port (15) -/

protected theorem Canonical.tknFail {b st : Nat} (h : Canonical s) : Canonical (tknFail s j b st) :=
  .dropWith (.ite (.busLast h) h)

protected theorem Canonical.claimBus {b : Nat} {go : Job → State → State} (h : Canonical s)
    (hgo : ∀ {i u}, Canonical u → Canonical (go i u)) : Canonical (claimBus s j b go) := by
  unfold claimBus
  refine .ite (.dropWith h) ?_
  refine .ite (.tknFail h) ?_
  exact .ite (.setJob (.identBus (.setBus h))) (.ite (.setJob (.setBus h)) (hgo (.setBus h)))

protected theorem Canonical.cardScript {b : Nat} {ops : List CardOp} (h : Canonical s) :
    Canonical (cardScript s j b ops) :=
  .startScript (.setJob h)

protected theorem Canonical.ceremonyOrder {k : State → Job → State} (h : Canonical s)
    (hk : ∀ {u i}, Canonical u → Canonical (k u i)) : Canonical (ceremonyOrder s j k) :=
  .ite (.takeOrder h (fun h1 => hk h1)) (hk h)

protected theorem Canonical.cardEnd {b rca st : Nat} {res : Bytes} (h : Canonical s) :
    Canonical (cardEnd s j b rca st res) :=
  .ite (.okJob (.parkCard (.busLast (.setBus h)))) (.dropWith (.parkCard (.busLast (.setBus h))))

protected theorem Canonical.socketOff {b : Nat} (h : Canonical s) : Canonical (socketOff s b) := .setBus h

protected theorem Canonical.tknScan (h : Canonical s) : Canonical (tknScan j s) :=
  .ite (.ite (.dropWith h) (.claimBus h Canonical.setJob)) (.okJob (.busLast (.setBus h)))

protected theorem Canonical.ceremonyBegin {j0 : Job} {s0 : State} (h : Canonical s0) :
    Canonical (ceremonyBegin j0 s0) := by
  unfold ceremonyBegin
  refine .ceremonyOrder h (fun h1 => ?_)
  dsimp only
  split
  · exact .dropWith h1
  · refine .ite ?_ (.okJob (.setCer h1))
    exact .withDraw h1 (fun h2 => .withDraw h2 (fun h3 => .withDraw h3 (fun h4 => .okJob (.setCer h4))))

protected theorem Canonical.accept {b cid : Nat} {r sh : Bytes} (h : Canonical s) :
    Canonical (accept s j b cid r sh) := by
  unfold accept
  refine .ite (.cardEnd (.socketOff (.setCer h))) ?_
  refine .ite (.cardEnd (.clearCeremony (.socketOff (.setCer h)))) ?_
  refine .ite (.cardEnd (.setCer (.socketOff (.setCer h)))) ?_
  refine .ite (.commitStart (.setBus (.setCer (.socketOff (.setCer h))))) ?_
  exact .cardEnd (.setCer (.socketOff (.setCer h)))

protected theorem Canonical.present {b : Nat} (h : Canonical s) : Canonical (present s j b) := by
  unfold present
  dsimp only
  split
  · exact .cardEnd (.socketOff h)
  · exact .ite (.cardEnd (.socketOff h)) (.ite (.cardEnd (.socketOff h)) (.accept h))

protected theorem Canonical.selectCard {b : Nat} (h : Canonical s) : Canonical (selectCard s j b) := by
  unfold selectCard
  split
  · exact .cardScript h
  · exact .tknFail (.setBus h)

protected theorem Canonical.commitEnd (h : Canonical s) : Canonical (commitEnd s j) := .okJob (.commitDone h)

protected theorem Canonical.ceremonyPresent {j0 : Job} {s0 : State} (h : Canonical s0) :
    Canonical (ceremonyPresent j0 s0) := by
  unfold ceremonyPresent
  refine .ceremonyOrder h (fun h1 => .ite (.commitStart h1) (.ite (.commitEnd h1) ?_))
  split
  · exact .ite (.dropWith h1) (.tknFail h1)
  · split
    · exact .claimBus h1 Canonical.selectCard
    · exact .selectCard h1
    · exact .ite (.cardEnd h1) (.cardScript h1)
    · exact .present h1

protected theorem Canonical.confirm {b : Nat} (h : Canonical s) : Canonical (confirm s j b) := by
  unfold confirm
  refine .ite (.cardEnd h) ?_
  refine .ite ?_ (.cardEnd (.confirmEnrol h))
  exact .commitStart (.parkCard (.busLast (.setBus (.confirmEnrol h))))

protected theorem Canonical.ceremonyEnrol {j0 : Job} {s0 : State} (h : Canonical s0) :
    Canonical (ceremonyEnrol j0 s0) := by
  unfold ceremonyEnrol
  refine .ceremonyOrder h (fun h1 => .ite (.commitStart h1) (.ite (.commitEnd h1) ?_))
  split
  · exact .ite (.dropWith h1) (.tknFail h1)
  · refine .ite (.ite (.tknFail h1) (.cardEnd h1)) ?_
    split
    · exact .claimBus h1 Canonical.selectCard
    · exact .selectCard h1
    · exact .ite (.cardEnd h1) (.cardScript h1)
    · exact .ite (.cardEnd h1) (.cardScript h1)
    · exact .confirm h1

protected theorem Canonical.ceremonyStatus (h : Canonical s) : Canonical (ceremonyStatus j s) :=
  .ite (.dropWith h) (.okJob h)

protected theorem Canonical.ceremonyEnd {j0 : Job} {s0 : State} (h : Canonical s0) : Canonical (ceremonyEnd j0 s0) := by
  unfold ceremonyEnd
  exact .ceremonyOrder h (fun h1 => .ite (.dropWith h1) (.ite (.dropWith h1) (.okJob (.clearCeremony h1))))

protected theorem Canonical.ceremonyExpire (h : Canonical s) : Canonical (ceremonyExpire s) :=
  .ite h (.setCer (.clearCeremony (.timerTaken h)))

protected theorem Canonical.cardForceErase (h : Canonical s) : Canonical (cardForceErase j s) := by
  unfold cardForceErase
  refine .ite (.dropWith h) ?_
  split
  · refine .claimBus h fun h1 => ?_
    split
    · exact .cardScript h1
    · exact .tknFail (.setBus h1)
  · dsimp only
    split
    · exact .cardScript h
    · exact .tknFail (.setBus h)
  · exact .cardEnd h

protected theorem Canonical.escrowRead (h : Canonical s) : Canonical (escrowRead s j) :=
  .ite (.tknFail (.setBus h)) (.cardScript h)

protected theorem Canonical.escrowStore (h : Canonical s) : Canonical (escrowStore j s) := by
  unfold escrowStore
  dsimp only
  split
  · exact .ite (.dropWith h) (.cardEnd h)
  · split
    · exact .claimBus h Canonical.escrowRead
    · exact .escrowRead h
    · refine .takeOrder h (fun h1 => ?_)
      split
      · exact .cardEnd h1
      · exact .cardScript h1
    · exact .ite (.cardEnd h) (.cardEnd h)

protected theorem Canonical.escrowFetch (h : Canonical s) : Canonical (escrowFetch j s) := by
  unfold escrowFetch
  dsimp only
  split
  · exact .ite (.dropWith h) (.cardEnd h)
  · split
    · exact .claimBus h Canonical.escrowRead
    · exact .escrowRead h
    · exact .ite (.cardEnd h) (.ite (.cardEnd h) (.writeAndEnd (.parkCard (.busLast (.setBus h)))))

/-! ### The Swivawa links (16) -/

protected theorem Canonical.signalDetect (h : Canonical s) : Canonical (signalDetect s l) :=
  .ite h (.ite (.setLink h) (.setLink h))

protected theorem Canonical.trainingDone (h : Canonical s) : Canonical (trainingDone s l) :=
  .ite h (.ite (.settleLink (.setLink h)) (.ite (.setLink h) (.ite (.setLink h) h)))

protected theorem Canonical.trainingTimeout (h : Canonical s) : Canonical (trainingTimeout s l) := by
  unfold trainingTimeout
  refine .ite h ?_
  exact .ite (.linkTo (.timerTaken h)) (.ite (.linkTo (.setLink h)) (.ite (.linkTo (.setLink h)) h))

protected theorem Canonical.trainingRetry (h : Canonical s) : Canonical (trainingRetry s l) :=
  .ite (.setLink (.timerTaken h)) h

protected theorem Canonical.quarantineRetrain (h : Canonical s) : Canonical (quarantineRetrain s l) :=
  .ite (.setLink (.timerTaken h)) h

protected theorem Canonical.sendBeacon (h : Canonical s) : Canonical (sendBeacon s l) := .ite (.sendLink h) h

protected theorem Canonical.beaconTimer (h : Canonical s) : Canonical (beaconTimer s) := by
  unfold beaconTimer
  refine .ite (.ite h (.foldl h Canonical.send _)) ?_
  exact .ite (.foldl (.timerTaken h) Canonical.sendBeacon _) h

protected theorem Canonical.sendHello {msg : Nat} {m : Bytes} (h : Canonical s) : Canonical (sendHello s l msg m) :=
  .foldl h Canonical.send _

protected theorem Canonical.sendAuth {m : Bytes} (h : Canonical s) : Canonical (sendAuth s l m) := by
  unfold sendAuth
  refine .foldl h (fun h1 => ?_) _
  dsimp only
  split
  · exact h1
  · exact .send (.setLink h1)

protected theorem Canonical.identitySigs {m rnd : Bytes} {ctx : String} {b b' : Bytes}
    (e : identitySigs s m rnd ctx = some ((b, b'), t)) (h : Canonical s) : Canonical t := by
  unfold identitySigs at e
  split at e
  · obtain ⟨x, hx, e⟩ := Option.bind_eq_some_iff.1 e
    obtain ⟨y, hy, e⟩ := Option.map_eq_some_iff.1 e
    cases e
    exact .signReqNow hy (.signReqNow hx h)
  · cases e

protected theorem Canonical.setHs {h : Option Handshake} (hs : Canonical s) : Canonical (setHs s l h) := .setLink hs

protected theorem Canonical.hsFail {msg : Nat} (h : Canonical s) : Canonical (hsFail s l msg) := by
  unfold hsFail
  refine .ite ?_ (.recordEvent (.setLink h))
  exact .setLink (.clearSlot (.clearSlot (.recordEvent (.setLink h))))

protected theorem Canonical.hsDraw {b : Bytes} (e : hsDraw s l n = some (b, t)) (h : Canonical s) : Canonical t := by
  unfold hsDraw at e
  split at e
  next hd =>
    cases e
    exact .draw hd h
  · cases e

protected theorem Canonical.helloKeys {b b' b'' : Bytes} (e : helloKeys s l = some ((b, b', b''), t))
    (h : Canonical s) : Canonical t := by
  obtain ⟨r, hr, e⟩ := Option.bind_eq_some_iff.1 e
  obtain ⟨x, hx, e⟩ := Option.bind_eq_some_iff.1 e
  obtain ⟨d, hd, e⟩ := Option.map_eq_some_iff.1 e
  cases e
  exact .keygenNow hd (.keygenNow hx (.hsDraw hr h))

protected theorem Canonical.sendInit (h : Canonical s) : Canonical (sendInit s l) := by
  unfold sendInit
  split
  · exact .hsFail h
  next e => exact .sendHello (.setHs (.helloKeys e h))

protected theorem Canonical.startHandshake (h : Canonical s) : Canonical (startHandshake s l) :=
  .ite (.sendInit (.setLink h)) (.setLink h)

protected theorem Canonical.deriveOkm {k z th b : Bytes} (e : deriveOkm s l k z th = some (b, t)) (h : Canonical s) :
    Canonical t := by
  obtain ⟨s1, h1, e⟩ := Option.bind_eq_some_iff.1 e
  exact .returnNow e (.arithNow h1 h)

protected theorem Canonical.ownAuth (h : Canonical s) : Canonical (ownAuth s l) := by
  unfold ownAuth
  split
  next e =>
    split
    next e1 => exact .sendAuth (.setHs (.identitySigs e1 (.hsDraw e h)))
    · exact .hsFail (.hsDraw e h)
  · exact .hsFail h

protected theorem Canonical.linkKeys {tx rx : Bytes} (h : Canonical s) : Canonical (linkKeys s l tx rx) :=
  .setSlot (.setSlot h)

protected theorem Canonical.hsDone {h : Handshake} {keys : Bytes × Bytes} (hs : Canonical s) :
    Canonical (hsDone s l h keys) := by
  unfold hsDone
  refine .ite (.setLink (.ite (.linkKeys hs) (.linkKeys hs))) ?_
  exact .linkTo (.setLink (.ite (.linkKeys hs) (.linkKeys hs)))

protected theorem Canonical.respond {m b b' : Bytes} (e : respond s l m = some ((b, b'), t)) (h : Canonical s) :
    Canonical t := by
  obtain ⟨r, hr, e⟩ := Option.bind_eq_some_iff.1 e
  obtain ⟨x, hx, e⟩ := Option.bind_eq_some_iff.1 e
  obtain ⟨z, -, e⟩ := Option.bind_eq_some_iff.1 e
  obtain ⟨k, hk, e⟩ := Option.map_eq_some_iff.1 e
  cases e
  exact .deriveOkm hk (.keygenNow hx (.hsDraw hr h))

protected theorem Canonical.takeInit {m : Bytes} (h : Canonical s) : Canonical (takeInit s l m) := by
  unfold takeInit
  refine .ite h (.ite (.hsFail h) ?_)
  split
  · exact .hsFail h
  next e => exact .ownAuth (.sendHello (.setLink (.respond e h)))

protected theorem Canonical.takeResp {h : Handshake} {m : Bytes} (hs : Canonical s) : Canonical (takeResp s l h m) := by
  unfold takeResp
  refine .ite hs (.ite (.hsFail hs) ?_)
  dsimp only
  split
  · exact .hsFail hs
  next e =>
    obtain ⟨z, -, e⟩ := Option.bind_eq_some_iff.1 e
    exact .setHs (.deriveOkm e hs)

protected theorem Canonical.takeAuth {h : Handshake} {m : Bytes} (hs : Canonical s) : Canonical (takeAuth s l h m) := by
  unfold takeAuth
  refine .ite hs ?_
  split
  · exact .hsFail hs
  · refine .ite (.hsFail hs) ?_
    dsimp only
    split
    · refine .ite (.hsDone (.ite (.ownAuth (.setHs hs)) (.setHs hs))) ?_
      exact .ite (.ownAuth (.setHs hs)) (.setHs hs)
    · exact .ite (.ownAuth (.setHs hs)) (.setHs hs)

protected theorem Canonical.hsMessage {msg : Nat} {m : Bytes} (h : Canonical s) : Canonical (hsMessage s l msg m) := by
  unfold hsMessage
  split
  · exact .takeInit h
  · exact .takeResp h
  · exact .takeAuth h
  · exact h

protected theorem Canonical.hsFragment (h : Canonical s) : Canonical (hsFragment s l f) := by
  unfold hsFragment
  dsimp only
  split
  · exact h
  · split
    · exact .hsMessage (.ite (.setHs h) h)
    · exact .ite (.setHs h) h

protected theorem Canonical.hsTimeout (h : Canonical s) : Canonical (hsTimeout s l) := by
  unfold hsTimeout
  refine .ite h ?_
  split
  · exact .hsFail (.timerTaken h)
  · exact .ite (.hsFail (.timerTaken h)) h

protected theorem Canonical.hsRetry (h : Canonical s) : Canonical (hsRetry s l) := by
  unfold hsRetry
  refine .ite h ?_
  refine .ite (.startHandshake (.setLink (.timerTaken h))) ?_
  exact .ite (.sendInit (.setLink (.timerTaken h))) (.setLink (.timerTaken h))

protected theorem Canonical.startRenewal (h : Canonical s) : Canonical (startRenewal s l) := .ite h (.sendInit h)

protected theorem Canonical.clash {id addr st : Nat} (h : Canonical s) : Canonical (clash s id addr st) :=
  .ite h (.originate (.recordEvent h))

protected theorem Canonical.beaconLink (h : Canonical s) : Canonical (beaconLink s l f) := by
  unfold beaconLink
  refine .ite ?_ ?_
  · exact .ite (.recordEvent (.linkTo (.setLink h))) (.ite (.setLink h) (.startHandshake (.setLink h)))
  · refine .ite ?_ ?_
    · exact .ite (.ite (.linkTo (.setLink (.setLink h))) (.setLink (.setLink h))) (.setLink h)
    · exact .ite (.quarantineLink (.setLink h)) (.settleLink (.setLink h))

protected theorem Canonical.applyRate (h : Canonical s) : Canonical (applyRate s l) :=
  .ite (.handBack (.setLink h)) (.ite (.setLink h) h)

protected theorem Canonical.takeRate {p : Bytes} (h : Canonical s) : Canonical (takeRate s l p) :=
  .ite (.applyRate (.sendRate (.setLink h))) (.applyRate (.setLink h))

protected theorem Canonical.kaBeaconIn (h : Canonical s) : Canonical (kaBeaconIn s l f) := by
  unfold kaBeaconIn
  refine .ite (.dormantFrame h) ?_
  refine .ite h ?_
  refine .ite (.accountFrame h) ?_
  exact .ite (.accountFrame h) (.linkTo (.endSession (.setLink (.accountFrame h))))

protected theorem Canonical.wakeFrame (h : Canonical s) : Canonical (wakeFrame s l f) :=
  .ite h (.ite (.dormantFrame h) (.ite h (.ite (.incRegField h) (.qualify (.setReg h)))))

protected theorem Canonical.noticeIn {p : Bytes} (h : Canonical s) : Canonical (noticeIn s l p) := by
  unfold noticeIn
  split
  · exact .sendNak h
  · exact h

protected theorem Canonical.signalLoss (h : Canonical s) : Canonical (signalLoss s l) := by
  unfold signalLoss
  refine .ite h ?_
  dsimp only
  split
  · exact .linkTo (.setLink (.setLink h))
  · exact .linkTo (.setLink (.setLink h))
  · exact .linkTo (.setLink (.setLink h))
  · exact .linkTo (.setLink h)
  · exact .linkTo (.setLink h)
  · exact .setLink h

protected theorem Canonical.sessionTimeout (h : Canonical s) : Canonical (sessionTimeout s l) :=
  .ite (.handBack (.endSession (.timerTaken h))) h

protected theorem Canonical.partnerRestart (h : Canonical s) : Canonical (partnerRestart s l) :=
  .ite (.linkTo (.endSession (.timerTaken h))) h

protected theorem Canonical.linkAction (h : Canonical s) : Canonical (linkAction s l a) := by
  unfold linkAction
  refine .ite (.linkTo h) ?_
  refine .ite (.setLink (.linkTo (.endSession h))) ?_
  exact .ite (.linkTo (.setLink h)) (.ite (.startRenewal h) (.setLink h))

protected theorem Canonical.swlLinkCtrl (h : Canonical s) : Canonical (swlLinkCtrl j s) :=
  .ite (.dropWith h) (.ite (.dropWith h) (.okJob (.linkAction h)))

protected theorem Canonical.swlLinkInfo (h : Canonical s) : Canonical (swlLinkInfo j s) := .ite (.dropWith h) (.okJob h)

/-! ### Attestation (18) -/

protected theorem Canonical.placeIdentity (h : Canonical s) : Canonical (placeIdentity j s) :=
  .ite (.placeArith h) (.placeArith h)

protected theorem Canonical.identityStart {pre : String} (h : Canonical s) : Canonical (identityStart pre j s) :=
  .placeIdentity h

protected theorem Canonical.signatureMade {pre : String} {sigs : Nat} {fin : State → Job → Bytes → State}
    (h : Canonical s) (hfin : ∀ {u i bs}, Canonical u → Canonical (fin u i bs)) :
    Canonical (signatureMade pre sigs fin j s) :=
  .ite (.identityStart h) (hfin h)

protected theorem Canonical.attestEnd {stmt : Bytes} (h : Canonical s) : Canonical (attestEnd s j stmt) :=
  .writeAndEnd (.arithOk h)

protected theorem Canonical.attestGet (h : Canonical s) : Canonical (attestGet j s) := by
  unfold attestGet
  refine .ite ?_ ?_
  · refine .takeOrder h (fun h1 => .checked h1 ?_)
    split
    · exact .recordFailed h1
    · exact .identityStart h1
  · exact .ite (.placeIdentity h) (.signatureMade h Canonical.attestEnd)

protected theorem Canonical.failEnd {stmt : Bytes} (h : Canonical s) : Canonical (failEnd s j stmt) :=
  .writeAndEnd (.arithOk h)

protected theorem Canonical.failStatement (h : Canonical s) : Canonical (failStatement j s) := by
  unfold failStatement
  refine .ite ?_ (.ite (.placeIdentity h) (.signatureMade h Canonical.failEnd))
  split
  · exact .dropWith h
  · exact .ite (.identityStart h) (.failEnd h)

protected theorem Canonical.quartzDraw {b : Bytes} (e : quartzDraw s n = some (b, t)) (h : Canonical s) :
    Canonical t := by
  unfold quartzDraw at e
  split at e
  next hd =>
    cases e
    exact .draw hd h
  · cases e

protected theorem Canonical.signNow {pre : String} {p384 : Bool} {m rnd b : Bytes}
    (e : signNow s pre p384 m rnd = some (b, t)) (h : Canonical s) : Canonical t := by
  unfold signNow at e
  exact .signReqNow e h

protected theorem Canonical.signBoth {pre : String} {m rnd b : Bytes} (e : signBoth s pre m rnd = some (b, t))
    (h : Canonical s) : Canonical t := by
  obtain ⟨x, hx, e⟩ := Option.bind_eq_some_iff.1 e
  obtain ⟨y, hy, e⟩ := Option.map_eq_some_iff.1 e
  cases e
  exact .signNow hy (.signNow hx h)

protected theorem Canonical.failMctp {nonce : Bytes} (h : Canonical s) : Canonical (failMctp s nonce) := by
  unfold failMctp
  refine .ite h (.ite (.send h) ?_)
  have drawn : Canonical ((quartzDraw s 88).getD (s.freeBytes 88, s.tookFree 88)).2 := by
    cases e : quartzDraw s 88 with
    | none => exact .tookFree h
    | some x => exact .quartzDraw e h
  split
  next hx =>
    rw [hx] at drawn
    split
    next e => exact .send (.signBoth e drawn)
    · exact drawn

/-! ### The custody fabric (17) -/

protected theorem Canonical.takeLsa (h : Canonical s) : Canonical (takeLsa s l f) := by
  unfold takeLsa
  refine .ite h ?_
  exact .ite (.ite (.originate h) h) (.ite h (.ite (.recordEvent h) (.clash (.ite h (.flood h)))))

protected theorem Canonical.lsaExpire {id : Nat} (h : Canonical s) : Canonical (lsaExpire s id) :=
  .ite h (.timerTaken h)

protected theorem Canonical.takeHold (h : Canonical s) : Canonical (takeHold s f) := .ite h (.ite (.sendNak h) h)

protected theorem Canonical.noticeRange {uid : Nat} {r : IdxRange} (h : Canonical s) :
    Canonical (noticeRange s uid r).2 := by
  refine .foldl_snd h (fun h1 => ?_) _
  dsimp only
  split
  · exact h1
  · exact .supersedeExtents (.setTree h1)

protected theorem Canonical.takeNotice (h : Canonical s) : Canonical (takeNotice s f) := by
  unfold takeNotice
  refine .ite (.sendNak h) (.ite (.sendNet ?_) ?_)
  · split
    · exact .noticeRange h
    · exact h
  · split
    · exact .noticeRange h
    · exact h

protected theorem Canonical.takeAck {p : Bytes} (h : Canonical s) : Canonical (takeAck s p) := by
  unfold takeAck
  split
  · exact h
  · dsimp only
    split
    · exact h
    · exact .ite (.setJob h) (.ite (.okJob h) (.failJob h))

protected theorem Canonical.acceptReplica {a : Anchor} (h : Canonical s) : Canonical (acceptReplica s f a) :=
  .ite (.sendNak h) (.askWrite h)

protected theorem Canonical.takeAnchorPush (h : Canonical s) : Canonical (takeAnchorPush s f) := by
  unfold takeAnchorPush
  refine .ite (.sendNak h) (.ite (.sendNak h) (.ite (.sendNak (.recordEvent h)) (.ite (.sendNak h) ?_)))
  split
  · exact .acceptReplica h
  · exact .answerReplica h

protected theorem Canonical.takeRootPush (h : Canonical s) : Canonical (takeRootPush s f) := by
  unfold takeRootPush
  refine .ite (.sendNak h) (.ite (.sendNak h) (.ite (.sendNak h) (.ite (.sendNak h) ?_)))
  split
  · exact .ite h (.sendNak h)
  · exact .ite (.sendNak h) (.getD (.sendNak h) fun e => .startCfg e h)

protected theorem Canonical.takeRootDrop (h : Canonical s) : Canonical (takeRootDrop s f) :=
  .ite h (.getD h fun e => .startCfg e h)

protected theorem Canonical.takeRootFetch (h : Canonical s) : Canonical (takeRootFetch s f) := by
  unfold takeRootFetch
  refine .ite (.sendNak h) ?_
  split
  · exact .sendNet h
  · exact .sendNak h

protected theorem Canonical.takeRootData {p : Bytes} (h : Canonical s) : Canonical (takeRootData s p) := by
  unfold takeRootData
  split
  · exact .fetchDone h
  · exact h

protected theorem Canonical.takeImageFetch (h : Canonical s) : Canonical (takeImageFetch s f) := by
  unfold takeImageFetch
  refine .ite (.sendNak h) ?_
  split
  · exact .foldl h (fun h1 => .sendNet h1) _
  · exact .sendNak h

protected theorem Canonical.takeImageData {p : Bytes} (h : Canonical s) : Canonical (takeImageData s p) := by
  unfold takeImageData
  split
  · exact h
  · exact .ite h (.ite (.fetchDone h) h)

protected theorem Canonical.fabRootFetch (h : Canonical s) : Canonical (fabRootFetch j s) := by
  unfold fabRootFetch
  refine .ite ?_ (.writeAndEnd h)
  split
  · exact .dropWith h
  · exact .startFetch h

protected theorem Canonical.fabEnrolGrant (h : Canonical s) : Canonical (fabEnrolGrant j s) :=
  .ite (.dropWith h) (.okJob h)

protected theorem Canonical.enrolFrames {ty dst : Nat} {m : Bytes} (h : Canonical s) :
    Canonical (enrolFrames s l ty dst m) := by
  refine .foldl h (fun h1 => ?_) _
  exact .enqueue h1

protected theorem Canonical.enrolKeys {r b b' b'' : Bytes} (e : enrolKeys s o l r = some ((b, b', b''), t))
    (h : Canonical s) : Canonical t := by
  obtain ⟨x, hx, e⟩ := Option.bind_eq_some_iff.1 e
  obtain ⟨d, hd, e⟩ := Option.bind_eq_some_iff.1 e
  obtain ⟨y, hy, e⟩ := Option.map_eq_some_iff.1 e
  cases e
  exact .identitySigs hy (.keygenNow hd (.keygenNow hx h))

protected theorem Canonical.enrolSend {r : Bytes} (h : Canonical s) : Canonical (enrolSend s j l r) := by
  unfold enrolSend
  split
  · exact .dropWith h
  next e => exact .enrolFrames (.setJob (.update (.enrolKeys e h) rfl rfl))

protected theorem Canonical.fabEnrol (h : Canonical s) : Canonical (fabEnrol j s) := by
  unfold fabEnrol
  refine .ite ?_ (.ite (.reEnrol h) (.okJob (.foldl (.update (.keyVault h) rfl rfl) Canonical.startRenewal _)))
  split
  · exact .dropWith h
  · exact .ite h (.withDraw h Canonical.enrolSend)

protected theorem Canonical.enrolRefuse {src : Nat} (h : Canonical s) : Canonical (enrolRefuse s l src) :=
  .enrolFrames h

protected theorem Canonical.enrolAnswer {p r b : Bytes} (e : enrolAnswer s l p r = some (b, t)) (h : Canonical s) :
    Canonical t := by
  obtain ⟨x, hx, e⟩ := Option.bind_eq_some_iff.1 e
  obtain ⟨z, -, e⟩ := Option.map_eq_some_iff.1 e
  cases e
  exact .keygenNow hx h

protected theorem Canonical.takeEnrolReq {src : Nat} {p : Bytes} (h : Canonical s) :
    Canonical (takeEnrolReq s l src p) := by
  unfold takeEnrolReq
  refine .ite (.enrolRefuse h) ?_
  split
  next e =>
    split
    next e1 => exact .enrolFrames (.enrolAnswer e1 (.update (.draw e h) rfl rfl))
    · exact .enrolRefuse (.update (.draw e h) rfl rfl)
  · exact .enrolRefuse h

protected theorem Canonical.enrolReqPart (h : Canonical s) : Canonical (enrolReqPart s l f) := by
  unfold enrolReqPart
  split
  · exact h
  · split
    · exact .takeEnrolReq (.setLink h)
    · exact .setLink h

protected theorem Canonical.enrolEnd {st : Nat} (h : Canonical s) : Canonical (enrolEnd s st) := by
  unfold enrolEnd
  split
  · exact h
  · dsimp only
    split
    · exact .ite (.dropWith h) h
    · exact h

protected theorem Canonical.takeEnrolResp {p : Bytes} (h : Canonical s) : Canonical (takeEnrolResp s l p) := by
  unfold takeEnrolResp
  split
  · exact h
  · split
    · exact h
    · refine .ite h ?_
      split
      · exact .enrolEnd h
      · exact .reEnrol h

protected theorem Canonical.enrolRespPart {p : Bytes} (h : Canonical s) : Canonical (enrolRespPart s l p) := by
  unfold enrolRespPart
  split
  · exact h
  · split
    · exact .takeEnrolResp (.setLink h)
    · exact .setLink h

protected theorem Canonical.fabDomainSet (h : Canonical s) : Canonical (fabDomainSet j s) := by
  unfold fabDomainSet
  refine .ite ?_ (.okJob h)
  split
  · exact .dropWith h
  · exact .cfgThen h

protected theorem Canonical.resendRoot {p t : Nat} (h : Canonical s) : Canonical (resendRoot s p t) := by
  unfold resendRoot
  split
  · exact h
  · exact .pushTo h

protected theorem Canonical.resendEnd {r : Resend} (h : Canonical s) : Canonical (resendEnd s r) := by
  unfold resendEnd
  dsimp only
  split
  · exact .okJob h
  · exact h

protected theorem Canonical.fabReplResend (h : Canonical s) : Canonical (fabReplResend j s) := by
  unfold fabReplResend
  refine .ite (.dropWith h) ?_
  refine .ite ?_ ?_
  · exact .resendEnd (.setJob (.foldl h (fun h1 => .foldl h1 Canonical.resendRoot _) _))
  · exact .setJob (.foldl h (fun h1 => .foldl h1 Canonical.resendRoot _) _)

protected theorem Canonical.resendPace (h : Canonical s) : Canonical (resendPace s) := by
  unfold resendPace
  split
  · exact h
  · split
    · exact .resendEnd h
    · refine .ite (.resendEnd (.update ?_ rfl rfl)) (.update ?_ rfl rfl)
      · split
        · dsimp only
          exact .pushTo h
        · exact h
      · split
        · dsimp only
          exact .pushTo h
        · exact h

protected theorem Canonical.fabReplLogRead (h : Canonical s) : Canonical (fabReplLogRead j s) := by
  unfold fabReplLogRead
  dsimp only
  split
  · exact .dropWith h
  · exact .writeAndEnd h

protected theorem Canonical.fabWake (h : Canonical s) : Canonical (fabWake j s) := by
  unfold fabWake
  dsimp only
  split
  · exact .dropWith h
  · exact .okJob (.send h)

/-! ### The Quartz subsystem (18) -/

protected theorem Canonical.mgmtEntry {req : Bytes} (h : Canonical s) : Canonical (mgmtEntry s c req) := .capture h

protected theorem Canonical.mgmtIn {req : Bytes} {f : State → State} (h : Canonical s)
    (hf : ∀ {u}, Canonical u → Canonical (f u)) : Canonical (mgmtIn c req s f) :=
  .ite (hf (.mgmtEntry h)) h

protected theorem Canonical.i3cCcc {ccc addr : Nat} (h : Canonical s) : Canonical (i3cCcc s ccc addr) :=
  .ite h (.ite h (.ite h h))

protected theorem Canonical.setEndpointId {req : Bytes} (h : Canonical s) : Canonical (setEndpointId c req s) :=
  .send (.ite h h)

protected theorem Canonical.askDispatch (h : Canonical s) : Canonical (askDispatch s) := .hushExit (.crossing h)

protected theorem Canonical.requestDone {st : Nat} {res : Bytes} (h : Canonical s) :
    Canonical (requestDone s n st res) :=
  h

protected theorem Canonical.requestRefused (h : Canonical s) : Canonical (requestRefused s n) :=
  .requestDone (.recordStatusFree h)

protected theorem Canonical.requestSigned {len : Nat} {sign : State → Bytes → Option (Bytes × State)}
    (h : Canonical s) (hsign : ∀ {u bs b t}, Canonical u → sign u bs = some (b, t) → Canonical t) :
    Canonical (requestSigned s n len sign) := by
  refine .ite (.requestDone h) (.ite (.requestDone (.incRegField h)) (.ite h ?_))
  split
  · exact .requestDone h
  next e =>
    have h1 := Canonical.quartzDraw e h
    split
    next e1 => exact .requestDone (hsign h1 e1)
    · exact .requestDone (.incRegField h1)

protected theorem Canonical.statementSigned {pre : String} {sigs : Nat} {body r b : Bytes}
    (e : statementSigned s pre sigs body r = some (b, t)) (h : Canonical s) : Canonical t := by
  obtain ⟨x, hx, e⟩ := Option.map_eq_some_iff.1 e
  cases e
  split at hx
  · split at hx
    · exact .signBoth hx h
    · exact .signNow hx h
  · exact .signNow hx h

protected theorem Canonical.signSpdm {m r b : Bytes} (e : signSpdm s m r = some (b, t)) (h : Canonical s) :
    Canonical t := by
  unfold signSpdm at e
  exact .signReqNow e h

protected theorem Canonical.signAttest {d : Bytes} (h : Canonical s) : Canonical (signAttest s n d) := by
  unfold signAttest
  refine .ite (.requestRefused h) ?_
  split
  · exact .recordFailed h
  · exact .requestSigned h fun h1 e => .statementSigned e h1

protected theorem Canonical.quartzRequest {req : QuartzReq} {d : Bytes} {unreadable : Bool} (h : Canonical s) :
    Canonical (quartzRequest s n req d unreadable) := by
  unfold quartzRequest
  split
  · exact .signAttest h
  · exact .ite (.requestRefused h) (.requestSigned h fun h1 e => .statementSigned e h1)
  · exact .ite (.requestSigned h fun h1 e => .signSpdm e h1) (.requestRefused h)
  · exact .ite (.requestSigned h fun h1 e => .signNow e h1) (.requestRefused h)
  · exact .ite (.requestDone (.countUnread h)) (.requestRefused h)
  · refine .ite (.requestRefused h) ?_
    split
    · exact .requestDone h
    · exact .requestDone h
  · exact .requestRefused h

protected theorem Canonical.quartzWatchdog {unreadable : Bool} (h : Canonical s) :
    Canonical (quartzWatchdog s unreadable) :=
  .ite h (.ite (.haltStart (.countUnread (.recordEvent h))) (.recordEvent h))

protected theorem Canonical.setSensor {x : Sensor} (h : Canonical s) : Canonical (s.setSensor n x) := h

protected theorem Canonical.sampleOne {v : ℤ} (h : Canonical s) : Canonical (sampleOne s n v) :=
  .ite (.recordEvent (.capture (.setSensor h))) (.capture (.setSensor h))

protected theorem Canonical.sampleFrom {l : List Int} (h : Canonical s) : Canonical (sampleFrom s n l) := by
  induction l generalizing s n with
  | nil => exact h
  | cons x l ih => exact .ite h (ih (.sampleOne h))

protected theorem Canonical.vholdSample {values : List ℤ} (h : Canonical s) : Canonical (vholdSample s values) := by
  unfold vholdSample
  split
  · exact h
  · exact h

protected theorem Canonical.fwActivate (h : Canonical s) : Canonical (fwActivate j s) := by
  unfold fwActivate
  dsimp only
  split
  · exact .dropWith h
  · exact .okJob h

protected theorem Canonical.fwCommit (h : Canonical s) : Canonical (fwCommit j s) := .checked h (.setJob h)

protected theorem Canonical.commitDoneFw (h : Canonical s) : Canonical (commitDoneFw s j) :=
  .okJob (.ite (.extendFrom h) (.setImg (.extendFrom h)))

protected theorem Canonical.fuseBlowDone (h : Canonical s) : Canonical (fuseBlowDone s) := by
  unfold fuseBlowDone
  split
  · exact h
  · exact .ite (.commitDoneFw h) h

/-! ### The firmware's orders of the NOR controller and the refresh engine (21) -/

protected theorem Canonical.nvmCommand {op addr len src : Nat} {f : State → State} (h : Canonical s)
    (hf : ∀ {u}, Canonical u → Canonical (f u)) : Canonical (nvmCommand s op addr len src f) :=
  .ite h (hf (.setReg (.setReg h)))

protected theorem Canonical.nvmProgram {src : Nat} {data : Bytes} {s0 : State} (h : Canonical s0) :
    Canonical (nvmProgram a src data s0) := by
  have h1 : Canonical { s0 with nor := { s0.nor with sram := s0.nor.sram.putList 0 (src % 2 ^ 19) data } } :=
    canonical_iff.2 ⟨h.regs, h.raw, NMap.wf_putList _ h.sram _⟩
  exact .ite h1 (.ite (.setNvmLast h1) (.ite (.setNvmLast h1) (.norQueue h1)))

protected theorem Canonical.nvmErase (h : Canonical s) : Canonical (nvmErase a s) := .ite (.setNvmLast h) (.norQueue h)

protected theorem Canonical.nvmRead {len src : Nat} (h : Canonical s) : Canonical (nvmRead a len src s) :=
  .setNvmLast (canonical_iff.2 ⟨h.regs, h.raw, NMap.wf_putList _ h.sram _⟩)

protected theorem Canonical.ageEntry (h : Canonical s) : Canonical (ageEntry s) := .ite h (.refreshLog h)
protected theorem Canonical.refreshTick (h : Canonical s) : Canonical (refreshTick s) := .ageEntry h

protected theorem Canonical.refreshPassStart (h : Canonical s) : Canonical (refreshPassStart s) :=
  .ite h (.ite h (.passStart h))

protected theorem Canonical.trimRewrite {sector : Nat} (h : Canonical s) : Canonical (trimRewrite s sector) :=
  .ite h (.ite h h)

protected theorem Canonical.refreshSector (h : Canonical s) : Canonical (refreshSector s) :=
  .ite h (.ite (.passEnd h) (.refreshBegin (.trimRewrite h)))

/-! ### The SPDM responder (18) -/

protected theorem Canonical.setConn {k : SpdmConn} (h : Canonical s) : Canonical (s.setConn c k) := h
protected theorem Canonical.spdmSend {m : Bytes} (h : Canonical s) : Canonical (spdmSend s c m) := .send h
protected theorem Canonical.spdmError {code : Nat} (h : Canonical s) : Canonical (spdmError s c code) := .spdmSend h

protected theorem Canonical.spdmIn {req : Bytes} {stage : Nat} {f : SpdmConn → State → State} (h : Canonical s)
    (hf : ∀ {x u}, Canonical u → Canonical (f x u)) : Canonical (spdmIn c req stage s f) := by
  unfold spdmIn
  exact .mgmtIn h (fun h1 => .ite (.spdmError (.setConn h1)) (.ite (.spdmError (.setConn h1)) (hf (.setConn h1))))

protected theorem Canonical.getVersion {req : Bytes} {a1 : SpdmConn} (h : Canonical s) :
    Canonical (getVersion c req a1 s) :=
  .ite (.spdmError (.setConn h)) (.spdmSend (.setConn h))

protected theorem Canonical.getCapabilities {req : Bytes} {k : SpdmConn} (h : Canonical s) :
    Canonical (getCapabilities c req k s) :=
  .ite (.spdmError h) (.spdmSend (.setConn h))

protected theorem Canonical.negotiate {req : Bytes} {k : SpdmConn} (h : Canonical s) :
    Canonical (negotiate c req k s) :=
  .ite (.spdmError h) (.spdmSend (.setConn (.tookFree h)))

protected theorem Canonical.answerB {k : SpdmConn} {req ans : Bytes} (h : Canonical s) :
    Canonical (answerB s c k req ans) :=
  .spdmSend (.setConn h)

protected theorem Canonical.getDigests {req : Bytes} {k : SpdmConn} (h : Canonical s) :
    Canonical (getDigests c req k s) :=
  .ite (.spdmError h) (.answerB h)

protected theorem Canonical.getCertificate {req : Bytes} {k : SpdmConn} (h : Canonical s) :
    Canonical (getCertificate c req k s) :=
  .ite (.spdmError h) (.ite (.spdmError h) (.answerB h))

protected theorem Canonical.spdmAnswerSigned {k : SpdmConn} {context : String} {transcript ans rnd : Bytes}
    (h : Canonical s) : Canonical (spdmAnswerSigned s c k context transcript ans rnd) := by
  unfold spdmAnswerSigned
  dsimp only
  split
  next e => exact .spdmSend (.setConn (.signSpdm e h))
  · exact .spdmError h

protected theorem Canonical.challenge {req : Bytes} {k : SpdmConn} (h : Canonical s) :
    Canonical (challenge c req k s) := by
  unfold challenge
  refine .ite (.spdmError h) (.ite (.spdmError h) ?_)
  split
  · exact .spdmError (.askDispatch h)
  next e => exact .spdmAnswerSigned (.ite (.tookFree (.quartzDraw e (.askDispatch h))) (.quartzDraw e (.askDispatch h)))

protected theorem Canonical.getMeasurements {req : Bytes} {k : SpdmConn} (h : Canonical s) :
    Canonical (getMeasurements c req k s) := by
  unfold getMeasurements
  refine .ite (.spdmError h) (.ite (.spdmError h) ?_)
  split
  · exact .spdmError (.ite (.askDispatch h) h)
  next e =>
    refine .ite (.spdmAnswerSigned (.quartzDraw e (.ite (.askDispatch h) h))) ?_
    exact .spdmSend (.setConn (.quartzDraw e (.ite (.askDispatch h) h)))

protected theorem Canonical.vendorAnswer {k : SpdmConn} {p : Bytes} (h : Canonical s) :
    Canonical (vendorAnswer s c k p) :=
  .spdmSend h

protected theorem Canonical.vendorIn {req : Bytes} {op : Nat} {f : Bytes → SpdmConn → State → State} (h : Canonical s)
    (hf : ∀ {bs x u}, Canonical u → Canonical (f bs x u)) : Canonical (vendorIn c req op s f) := by
  unfold vendorIn
  refine .spdmIn h (fun h1 => ?_)
  dsimp only
  split
  · exact .ite (hf (.setConn h1)) (.spdmError (.setConn h1))
  · exact .spdmError (.setConn h1)

protected theorem Canonical.getPqCert {p : Bytes} {k : SpdmConn} (h : Canonical s) : Canonical (getPqCert c p k s) :=
  .ite (.spdmError h) (.ite (.spdmError h) (.vendorAnswer h))

protected theorem Canonical.cosign {a1 : Bytes} {k : SpdmConn} (h : Canonical s) : Canonical (cosign c a1 k s) := by
  unfold cosign
  split
  · exact .spdmError h
  · split
    · exact .spdmError (.askDispatch h)
    next e =>
      split
      next e1 => exact .vendorAnswer (.signNow e1 (.quartzDraw e (.askDispatch h)))
      · exact .spdmError (.quartzDraw e (.askDispatch h))

protected theorem Canonical.attest {p : Bytes} {k : SpdmConn} (h : Canonical s) : Canonical (attest c p k s) := by
  unfold attest
  refine .ite (.spdmError h) ?_
  refine .ite (.spdmError h) (.ite (.spdmError h) (.ite (.ite (.spdmError h) (.vendorAnswer h)) ?_))
  split
  · exact .spdmError (.askDispatch h)
  next e =>
    dsimp only
    split
    next e1 => exact .vendorAnswer (.setConn (.statementSigned e1 (.quartzDraw e (.askDispatch h))))
    · exact .spdmError (.quartzDraw e (.askDispatch h))

/-! ### PLDM (18, 12) -/

protected theorem Canonical.pldmAnswer {req : Bytes} {cc : Nat} {d : Bytes} (h : Canonical s) :
    Canonical (pldmAnswer s c req cc d) :=
  .send h

protected theorem Canonical.setTid {req : Bytes} (h : Canonical s) : Canonical (setTid c req s) :=
  .ite (.pldmAnswer h) (.pldmAnswer h)

protected theorem Canonical.getPldmVersion {req : Bytes} (h : Canonical s) : Canonical (getPldmVersion c req s) :=
  .ite (.pldmAnswer h) (.pldmAnswer h)

protected theorem Canonical.getPldmCommands {req : Bytes} (h : Canonical s) : Canonical (getPldmCommands c req s) :=
  .ite (.pldmAnswer h) (.pldmAnswer h)

protected theorem Canonical.getPdrRepositoryInfo {req : Bytes} (h : Canonical s) :
    Canonical (getPdrRepositoryInfo c req s) :=
  .pldmAnswer (.tookFree h)

protected theorem Canonical.getPdr {req : Bytes} (h : Canonical s) : Canonical (getPdr c req s) :=
  .ite (.pldmAnswer h) (.ite (.pldmAnswer h) (.pldmAnswer h))

protected theorem Canonical.sensorIn {req : Bytes} {f : Nat → State → State} (h : Canonical s)
    (hf : ∀ {m u}, Canonical u → Canonical (f m u)) : Canonical (sensorIn c req s f) :=
  .mgmtIn h (fun h1 => .ite (.pldmAnswer h1) (hf h1))

protected theorem Canonical.getSensorReading {req : Bytes} (h : Canonical s) : Canonical (getSensorReading c req n s) :=
  .pldmAnswer h

protected theorem Canonical.getSensorThresholds {req : Bytes} (h : Canonical s) :
    Canonical (getSensorThresholds c req n s) :=
  .pldmAnswer (.tookFree h)

protected theorem Canonical.setSensorThresholds {req : Bytes} (h : Canonical s) :
    Canonical (setSensorThresholds c req n s) :=
  .ite (.pldmAnswer h) (.pldmAnswer (.setSensor h))

protected theorem Canonical.setEventReceiver {req : Bytes} (h : Canonical s) : Canonical (setEventReceiver c req s) :=
  .ite (.pldmAnswer h) (.pldmAnswer h)

protected theorem Canonical.pollEvents {req : Bytes} (h : Canonical s) : Canonical (pollEvents c req s) := by
  unfold pollEvents
  dsimp only
  split
  · refine .pldmAnswer ?_
    split
    · exact .ite h h
    · exact h
  · refine .pldmAnswer ?_
    split
    · exact .ite h h
    · exact h

protected theorem Canonical.fdIn {req : Bytes} {f : State → State} (h : Canonical s)
    (hf : ∀ {u}, Canonical u → Canonical (f u)) : Canonical (fdIn c req s f) :=
  .ite (hf (.mgmtEntry h)) h

protected theorem Canonical.fdTo {st : Nat} (h : Canonical s) : Canonical (fdTo s st) := h

protected theorem Canonical.fdState {req : Bytes} {st : Nat} {f : State → State} (h : Canonical s)
    (hf : ∀ {u}, Canonical u → Canonical (f u)) : Canonical (fdState c req st s f) :=
  .fdIn h (fun h1 => .ite (hf h1) (.pldmAnswer h1))

protected theorem Canonical.getFirmwareParameters {req : Bytes} (h : Canonical s) :
    Canonical (getFirmwareParameters c req s) :=
  .pldmAnswer (.tookFree h)

protected theorem Canonical.requestUpdate {req : Bytes} (h : Canonical s) : Canonical (requestUpdate c req s) :=
  .ite (.pldmAnswer h) (.pldmAnswer h)

protected theorem Canonical.passComponentTable {req : Bytes} (h : Canonical s) :
    Canonical (passComponentTable c req s) :=
  .pldmAnswer (.ite (.fdTo h) h)

protected theorem Canonical.eraseImage {img : Nat} (h : Canonical s) : Canonical (eraseImage s img) :=
  .setImg (canonical_iff.2 ⟨h.regs, NMap.wf_filter h.raw _, h.sram⟩)

protected theorem Canonical.askPiece (h : Canonical s) : Canonical (askPiece s c) := .send h

protected theorem Canonical.updateComponent {req : Bytes} (h : Canonical s) : Canonical (updateComponent c req s) :=
  .ite (.pldmAnswer h) (.askPiece (.pldmAnswer (.tookFree (.update (.fdTo (.eraseImage h)) rfl rfl))))

protected theorem Canonical.imageStored {unreadable : Bool} (h : Canonical s) :
    Canonical (imageStored s c unreadable) := by
  unfold imageStored
  extract_lets x r s1 s2 s3 _ _ s4 _ s3'
  have h2 : Canonical s2 := .send (.send (.fdTo (.countUnread (.askDispatch h))))
  have h3 : Canonical s3 := .eraseImage h2
  have h4 : Canonical s4 := .extendFrom (.setImg h2)
  have h3' : Canonical s3' := .ite (.setImg h2) (.update h4 rfl rfl)
  exact .ite (.update h3 rfl rfl) (.fdTo (.fdTo (.send h3')))

protected theorem Canonical.pieceArrived {req : Bytes} {unreadable : Bool} (h : Canonical s) :
    Canonical (pieceArrived c req unreadable s) :=
  .ite (.askPiece h) (.ite (.imageStored (.norProgram h)) (.askPiece (.norProgram h)))

protected theorem Canonical.activateFirmware {req : Bytes} (h : Canonical s) : Canonical (activateFirmware c req s) :=
  .pldmAnswer (.fdTo (.fdTo h))

protected theorem Canonical.getStatus {req : Bytes} (h : Canonical s) : Canonical (getStatus c req s) := .pldmAnswer h

protected theorem Canonical.cancelUpdate {req : Bytes} (h : Canonical s) : Canonical (cancelUpdate c req s) :=
  .ite (.pldmAnswer h) (.pldmAnswer h)

/-! ### What the host sees of a port (02) -/

protected theorem Canonical.devControl {f v : Nat} (h : Canonical s) : Canonical (devControl s p f v) := .setFn h

protected theorem Canonical.devControl2 {f v : Nat} (h : Canonical s) : Canonical (devControl2 s p f v) :=
  .ite (.setFn h) h

/-! ### Host writes to registers (00) -/

protected theorem Canonical.schClrStats {s0 : State} (h : Canonical s0) : Canonical (schClrStats s0) :=
  .setRegField (.regEntry h)

protected theorem Canonical.setLock {s0 : State} (h : Canonical s0) : Canonical (setLock s0 a) :=
  .ite (.regEntry h) (.extendLock (.setReg (.regEntry h)))

protected theorem Canonical.loadReg (h : Canonical s) : Canonical (loadReg s p a w) := by
  unfold loadReg
  refine .ite (.setPort h) ?_
  refine .ite (.setPort h) ?_
  refine .ite h ?_
  refine .ite (.ite h (.setSensor h)) ?_
  exact .ite (.setLink h) (.ite (.setLink h) (.ite (.setWard h) (.setReg h)))

protected theorem Canonical.regWrite {off size v : Nat} (h : Canonical s) : Canonical (regWrite s p off size v) := by
  unfold regWrite
  dsimp only
  split
  · exact h
  · exact .loadReg h

protected theorem Canonical.sendPending {f : Nat} (h : Canonical s) : Canonical (sendPending s p f) :=
  .ite h (.foldl (.setFn h) Canonical.send _)

protected theorem Canonical.msixControl {f v : Nat} (h : Canonical s) : Canonical (msixControl s p f v) :=
  .sendPending (.setFn h)

protected theorem Canonical.tableDword {f off v : Nat} (h : Canonical s) : Canonical (tableDword s p f off v) :=
  .ite h (.ite (.ite (.setFn h) h) (.setFn h))

protected theorem Canonical.tableWrite {f off size v : Nat} (h : Canonical s) :
    Canonical (tableWrite s p f off size v) :=
  .ite (.tableDword (.tableDword h)) (.tableDword h)

protected theorem Canonical.pageWrite {off v : Nat} (h : Canonical s) : Canonical (pageWrite s b off v) :=
  .ite (.setIrq h) (.ite (.setMbx h) h)

protected theorem Canonical.doorbellWrite {off size v : Nat} (h : Canonical s) :
    Canonical (doorbellWrite s b off size v) :=
  .ite (.sizeError h) (.ite h (.cqHead (.sqTail h)))

protected theorem Canonical.controlWrite {off size v : Nat} (h : Canonical s) :
    Canonical (controlWrite s p off size v) :=
  .ite (.setErr h) (.ite (.ite h (.regWrite (.crossing (.mmio h)))) (.ite (.tableWrite h) h))

protected theorem Canonical.mailboxWrite {off size v : Nat} (h : Canonical s) :
    Canonical (mailboxWrite s b off size v) :=
  .ite h (.ite (.sizeError h) (.ite h (.pageWrite (.mmio h))))

protected theorem Canonical.barWrite {f off size v : Nat} (h : Canonical s) :
    Canonical (barWrite s p f off size v) := by
  unfold barWrite
  refine .ite h ?_
  split
  · exact .controlWrite h
  · exact .mailboxWrite h
  · exact .doorbellWrite h
  · exact .ite (.setErr h) (.tableWrite h)
  · exact .ite (.setErr h) h
  · exact .ite (.setErr h) h

protected theorem Canonical.registerWrite {t : RegTarget} {off size v : Nat} (h : Canonical s) :
    Canonical (registerWrite t off size v s) := by
  unfold registerWrite
  refine .ite h ?_
  split
  · exact .controlWrite h
  · exact .mailboxWrite h
  · exact .doorbellWrite h
  · exact .ite (.setErr h) (.tableWrite h)
  · exact .barWrite h
  · exact .msixControl h
  · exact .devControl h
  · exact .devControl2 h

end Sys2Proof.Machine
end

section
/-! Every command and the clock keep the form. -/

namespace Sys2Proof.Machine

variable {s t : State}

/-- Whatever state an outcome goes on to has the form. -/
def OutcomeCanonical (r : Host.Outcome State Fault Refusal) : Prop :=
  ∀ t, r = .next t → Canonical t

theorem outcomeCanonical_next (h : Canonical t) : OutcomeCanonical (.next t) := by
  rintro _ ⟨⟩
  exact h

theorem outcomeCanonical_replayEnd {pos : Nat} {run : List ReplayEvent} {absent : Option AbsentWinner} (h : Canonical s) :
    OutcomeCanonical (execReplayEnd pos run absent s) := by
  refine outcomeCanonical_next ?_
  split
  · exact .ite (.replayEnd h) h
  · exact h

/-- Every row of the table of operations keeps the form. -/
theorem outcomeCanonical_exec (h : Canonical s) : ∀ c, OutcomeCanonical (exec c s)
  | .mbxCmdWrite .. => outcomeCanonical_next (.mbxCmdWrite h)
  | .mbxGo .. => outcomeCanonical_next (.ctrlWrite h)
  | .mbxAck .. => outcomeCanonical_next (.ctrlWrite h)
  | .mbxAbort .. => outcomeCanonical_next (.ctrlWrite h)
  | .abortPointReached .. => outcomeCanonical_next (.abortPoint h)
  | .cmdUnknown .. => outcomeCanonical_next (.cmdUnknown h)
  | .sqTailDoorbell .. => outcomeCanonical_next (.sqTail h)
  | .cqHeadDoorbell .. => outcomeCanonical_next (.cqHead h)
  | .sqEntryFetch .. => outcomeCanonical_next (.sqFetch h)
  | .spoofLimitReached .. => outcomeCanonical_next (.spoofLimit h)
  | .schedJobStart .. => outcomeCanonical_next (.schedStart h)
  | .tenantBucketRefill .. => outcomeCanonical_next (.bucketRefill h)
  | .coalTimeExpire .. => outcomeCanonical_next (.coalExpire h)
  | .msixUnmask .. => outcomeCanonical_next (.msixUnmask h)
  | .hostDmaReadCompletion .. => outcomeCanonical_next (.hostDmaReadCompletion h)
  | .cplTimeout .. => outcomeCanonical_next (.cplTimeout h)
  | .orderingReadCompletion .. => outcomeCanonical_next (.orderingRead h)
  | .pcieLinkUp .. => outcomeCanonical_next (.linkUp h)
  | .pcieLinkDown .. => outcomeCanonical_next (.linkDown h)
  | .flr .. => outcomeCanonical_next (.flr h)
  | .perstAssert .. => outcomeCanonical_next (.capture (.perstAssert h))
  | .perstDeassert .. => outcomeCanonical_next (.perstDeassert h)
  | .bmeClear .. => outcomeCanonical_next (.bmeClear h)
  | .tenantCreate .. => outcomeCanonical_next (.runCommand h Canonical.tenantCreate)
  | .tenantSetGrant .. => outcomeCanonical_next (.runCommand h Canonical.tenantSetGrant)
  | .tenantBind .. => outcomeCanonical_next (.runCommand h Canonical.tenantBind)
  | .tenantUnbind .. => outcomeCanonical_next (.runCommand h Canonical.tenantUnbind)
  | .tenantQuiesce .. => outcomeCanonical_next (.runCommand h Canonical.tenantQuiesce)
  | .tenantQuiesced .. => outcomeCanonical_next (.tenantQuiesced h)
  | .tenantEnable .. => outcomeCanonical_next (.runCommand h Canonical.tenantEnable)
  | .tenantReset .. => outcomeCanonical_next (.runCommand h Canonical.tenantClear)
  | .tenantDestroy .. => outcomeCanonical_next (.runCommand h Canonical.tenantClear)
  | .tombstoneRetry .. => outcomeCanonical_next (.tombstoneRetry h)
  | .tenantInfo .. => outcomeCanonical_next (.runCommand h Canonical.tenantInfo)
  | .policyQuery .. => outcomeCanonical_next (.runCommand h Canonical.policyQuery)
  | .qpCreate .. => outcomeCanonical_next (.runCommand h Canonical.qpCreate)
  | .qpDelete .. => outcomeCanonical_next (.runCommand h Canonical.qpDelete)
  | .keyGenerate .. => outcomeCanonical_next (.runCommand h Canonical.keyGenerate)
  | .keyDerive .. => outcomeCanonical_next (.runCommand h Canonical.keyDerive)
  | .keyWrap .. => outcomeCanonical_next (.runCommand h Canonical.keyWrap)
  | .keyUnwrap .. => outcomeCanonical_next (.runCommand h Canonical.keyUnwrap)
  | .keyImportPublic .. => outcomeCanonical_next (.runCommand h Canonical.keyImportPublic)
  | .keyProve .. => outcomeCanonical_next (.runCommand h Canonical.keyProve)
  | .keyCommit .. => outcomeCanonical_next (.runCommand h Canonical.keyCommit)
  | .keyDiscard .. => outcomeCanonical_next (.runCommand h Canonical.keyDiscard)
  | .keyDestroy .. => outcomeCanonical_next (.runCommand h Canonical.keyDestroy)
  | .keyAttrRead .. => outcomeCanonical_next (.runCommand h Canonical.keyAttrRead)
  | .keyAttrSet .. => outcomeCanonical_next (.runCommand h Canonical.keyAttrSet)
  | .keyPublic .. => outcomeCanonical_next (.runCommand h Canonical.keyPublic)
  | .engineRevokeStop .. => outcomeCanonical_next (.revokeStop h)
  | .agateTreeCreate .. => outcomeCanonical_next (.runCommand h Canonical.agateTreeCreate)
  | .agateLoad .. => outcomeCanonical_next (.runCommand h Canonical.agateLoad)
  | .agateExport .. => outcomeCanonical_next (.runCommand h Canonical.agateExport)
  | .shredStage .. => outcomeCanonical_next (.runCommand h Canonical.shredStage)
  | .shredCommit .. => outcomeCanonical_next (.runCommand h Canonical.shredCommitCmd)
  | .anchorStatus .. => outcomeCanonical_next (.runCommand h Canonical.anchorStatus)
  | .anchorProgramDone .. => outcomeCanonical_next (.ite h (.anchorProgramDone h))
  | .journalTokenRefill .. => outcomeCanonical_next (.timerTaken (.tokenRefill h))
  | .journalCarryForward .. => outcomeCanonical_next (.carryForward h)
  | .seal .. => outcomeCanonical_next (.runCommand h Canonical.sealCmd)
  | .recall .. => outcomeCanonical_next (.runCommand h Canonical.recallCmd)
  | .verify .. => outcomeCanonical_next (.runCommand h Canonical.verifyCmd)
  | .digestOnly .. => outcomeCanonical_next (.runCommand h Canonical.digestOnlyCmd)
  | .sealEngineJobDone .. => outcomeCanonical_next (.sealJobDone h)
  | .reservedSlicePark .. => outcomeCanonical_next (.slicePark h)
  | .parkedJobResume .. => outcomeCanonical_next (.resumeParked h)
  | .engineAttemptFail .. => outcomeCanonical_next (.ite h (.attemptFail h))
  | .sealEngineWatchdog .. => outcomeCanonical_next (.ite (.timerTaken (.attemptFail h)) h)
  | .engineDrained .. => outcomeCanonical_next (.engineDrained h)
  | .engineTestDone .. => outcomeCanonical_next (.engineTestDone h)
  | .engineReadmit .. => outcomeCanonical_next (.runCommand h Canonical.engineReadmit)
  | .engineQuarantine .. => outcomeCanonical_next (.runCommand h Canonical.engineQuarantine)
  | .manifestOpen .. => outcomeCanonical_next (.runCommand h Canonical.manifestOpen)
  | .manifestClose .. => outcomeCanonical_next (.runCommand h Canonical.manifestClose)
  | .manifestHeaderForm .. => outcomeCanonical_next (.manHeaderForm h)
  | .digestMac .. => outcomeCanonical_next (.runCommand h Canonical.digestMac)
  | .digestJobDone .. => outcomeCanonical_next (.digestJobDone h)
  | .digestShort .. => outcomeCanonical_next (.digestShort h)
  | .dguContextYield .. => outcomeCanonical_next (.ctxYield h)
  | .measRead .. => outcomeCanonical_next (.runCommand h Canonical.measRead)
  | .measExtend .. => outcomeCanonical_next (.runCommand h Canonical.measExtend)
  | .measLogRead .. => outcomeCanonical_next (.runCommand h Canonical.measLogRead)
  | .dgtMrSelWrite .. => outcomeCanonical_next (.mrSelWrite h)
  | .sign .. => outcomeCanonical_next (.runCommand h Canonical.signCmd)
  | .sigVerify .. => outcomeCanonical_next (.runCommand h Canonical.sigVerify)
  | .deriveShared .. => outcomeCanonical_next (.runCommand h Canonical.deriveShared)
  | .encaps .. => outcomeCanonical_next (.runCommand h Canonical.encaps)
  | .decaps .. => outcomeCanonical_next (.runCommand h Canonical.decaps)
  | .arithJobDone .. => outcomeCanonical_next (.arithJobDone h)
  | .invStrikesClear .. => outcomeCanonical_next (.invStrikesClear h)
  | .arithEngineFault .. => outcomeCanonical_next (.arithEngineFault h)
  | .arithWatchdog .. => outcomeCanonical_next (.arithWatchdog h)
  | .ariTestDone .. => outcomeCanonical_next (.ariTestDone h)
  | .ariDrained .. => outcomeCanonical_next (.ariDrained h)
  | .ariReadmit .. => outcomeCanonical_next (.runCommand h Canonical.ariReadmit)
  | .ariQuarantine .. => outcomeCanonical_next (.runCommand h Canonical.ariQuarantine)
  | .rngGenerate .. => outcomeCanonical_next (.runCommand h Canonical.rngGenerate)
  | .conditionerBlock .. => outcomeCanonical_next (.serveWanted (.startResume (.conditionerBlock h)))
  | .rngStarvedTimeout .. => outcomeCanonical_next (.rngStarved h)
  | .noiseStartupTestDone .. => outcomeCanonical_next (.entropyHalt (.startupTestDone h))
  | .noiseSourceFail .. => outcomeCanonical_next (.entropyHalt (.sourceFail h))
  | .noiseSourceRetest .. => outcomeCanonical_next (.sourceRetest h)
  | .rngTestWrite .. => outcomeCanonical_next (.rngTestWrite h)
  | .rngRawRead .. => outcomeCanonical_next (.rngRawRead h)
  | .pwrHush .. => outcomeCanonical_next (.runCommand h Canonical.pwrHush)
  | .hushConditionMet .. => outcomeCanonical_next (.hushConditionMet h)
  | .hushWaitExpire .. => outcomeCanonical_next (.hushWaitExpire h)
  | .autoHushTimer .. => outcomeCanonical_next (.ite (.hushEnter (.timerTaken h)) h)
  | .pwrDormant .. => outcomeCanonical_next (.runCommand h Canonical.pwrDormant)
  | .doneTimeout .. => outcomeCanonical_next (.doneTimeout h)
  | .pwrImageRestore .. => outcomeCanonical_next (.runCommand h Canonical.imageRestore)
  | .pwrImageDiscard .. => outcomeCanonical_next (.runCommand h Canonical.imageDiscard)
  | .wakeInAssert .. => outcomeCanonical_next (.capture (.wakeSource h))
  | .rtcAlarm .. => outcomeCanonical_next (.ite h (.wakeSource (.timerTaken h)))
  | .i3cWakeCommand .. => outcomeCanonical_next (.ite (.qualify h) h)
  | .powerGood .. => outcomeCanonical_next (.powerGood h)
  | .startupEntropyTimeout .. => outcomeCanonical_next (.ite (.haltStart h) h)
  | .vddCoreLoss .. => outcomeCanonical_next (.vddCoreLoss h)
  | .vddAonLoss .. => outcomeCanonical_next (.vddAonLoss h)
  | .vbatSaltClear .. => outcomeCanonical_next (.ite h h)
  | .vbatLow .. => outcomeCanonical_next (.vbatReads h)
  | .xtalFail .. => outcomeCanonical_next (.ite h (.recordEvent h))
  | .lcsChallenge .. => outcomeCanonical_next (.runCommand h Canonical.lcsChallenge)
  | .challengeExpire .. => outcomeCanonical_next (.ite h (.timerTaken h))
  | .lcsTransition .. => outcomeCanonical_next (.runCommand h Canonical.lcsTransition)
  | .dbgChallenge .. => outcomeCanonical_next (.dbgChallenge h)
  | .dbgToken .. => outcomeCanonical_next (.dbgToken h)
  | .meshAlarm .. => outcomeCanonical_next (.ite (.alarm h) h)
  | .tloopAlarm .. => outcomeCanonical_next (.loopAlarm h)
  | .envAlarm .. => outcomeCanonical_next (.envAlarm h)
  | .clockAlarm .. => outcomeCanonical_next (.ite (.alarm h) h)
  | .tampInAssert .. => outcomeCanonical_next (.tampIn h)
  | .tmpZeroise .. => outcomeCanonical_next (.runCommand h Canonical.tmpZeroise)
  | .tmpMeshCfgWrite .. => outcomeCanonical_next (.meshCfgWrite h)
  | .tmpInCfgWrite .. => outcomeCanonical_next (.inCfgWrite h)
  | .thermtripAssert .. => outcomeCanonical_next (.ite h h)
  | .wpgRise .. => outcomeCanonical_next (.wpgRise h)
  | .wpgFall .. => outcomeCanonical_next (.wpgFall h)
  | .wardSettleDone .. => outcomeCanonical_next (.ite (.startVerify h) h)
  | .wardVerifyDone .. => outcomeCanonical_next (.verifyDone h)
  | .wardRecoveryDone .. => outcomeCanonical_next (.recoveryDone h)
  | .wardFlashTimeout .. => outcomeCanonical_next (.flashTimeout h)
  | .wardSpiCommand .. => outcomeCanonical_next (.spiCommand h)
  | .wardManifestSet .. => outcomeCanonical_next (.runCommand h Canonical.wardManifestSet)
  | .wardVerify .. => outcomeCanonical_next (.runCommand h Canonical.wardVerify)
  | .wardRecover .. => outcomeCanonical_next (.runCommand h Canonical.wardRecover)
  | .wardHold .. => outcomeCanonical_next (.runCommand h Canonical.wardHold)
  | .wardAux .. => outcomeCanonical_next (.runCommand h Canonical.wardAux)
  | .wardInfo .. => outcomeCanonical_next (.runCommand h Canonical.wardInfo)
  | .cardInsert .. => outcomeCanonical_next (.cardInsert h)
  | .cardRemove .. => outcomeCanonical_next (.cardRemove h)
  | .cardResponse .. => outcomeCanonical_next (.cardResponse h)
  | .cardBusyEnd .. => outcomeCanonical_next (.busyEnd h)
  | .socketIdleOff .. => outcomeCanonical_next (.socketIdleOff h)
  | .unlockDelay .. => outcomeCanonical_next (.unlockDelay h)
  | .tknScan .. => outcomeCanonical_next (.runCommand h Canonical.tknScan)
  | .ceremonyBegin .. => outcomeCanonical_next (.runCommand h Canonical.ceremonyBegin)
  | .ceremonyPresent .. => outcomeCanonical_next (.runCommand h Canonical.ceremonyPresent)
  | .ceremonyEnrol .. => outcomeCanonical_next (.runCommand h Canonical.ceremonyEnrol)
  | .ceremonyStatus .. => outcomeCanonical_next (.runCommand h Canonical.ceremonyStatus)
  | .ceremonyEnd .. => outcomeCanonical_next (.runCommand h Canonical.ceremonyEnd)
  | .ceremonyExpire .. => outcomeCanonical_next (.ceremonyExpire h)
  | .cardForceErase .. => outcomeCanonical_next (.runCommand h Canonical.cardForceErase)
  | .escrowStore .. => outcomeCanonical_next (.runCommand h Canonical.escrowStore)
  | .escrowFetch .. => outcomeCanonical_next (.runCommand h Canonical.escrowFetch)
  | .swlSignalDetect .. => outcomeCanonical_next (.signalDetect h)
  | .swlTrainingDone .. => outcomeCanonical_next (.trainingDone h)
  | .swlTrainingTimeout .. => outcomeCanonical_next (.trainingTimeout h)
  | .swlBeaconTimer .. => outcomeCanonical_next (.beaconTimer h)
  | .beacon .. => outcomeCanonical_next (.recvFrame h (fun h1 => .clash (.beaconLink h1)))
  | .hs .. => outcomeCanonical_next (.recvFrame h (fun h1 => .ite (.hsFragment h1) h1))
  | .swlHsTimeout .. => outcomeCanonical_next (.hsTimeout h)
  | .swlHsRetry .. => outcomeCanonical_next (.hsRetry h)
  | .swlRenewal .. => outcomeCanonical_next (.ite (.startRenewal (.timerTaken h)) h)
  | .swlOldKeyExpire .. => outcomeCanonical_next (.ite (.setLink (.timerTaken h)) h)
  | .rate .. => outcomeCanonical_next (.recvFrame h (fun h1 => .ite h1 (.takeRate h1)))
  | .kaBeacon .. => outcomeCanonical_next (.kaBeaconIn h)
  | .wake .. => outcomeCanonical_next (.ite (.wakeFrame h) (.recvFrame h (fun h1 => h1)))
  | .dormantNotice .. => outcomeCanonical_next (.recvFrame h Canonical.noticeIn)
  | .unreach .. => outcomeCanonical_next (.recvNet h Canonical.noticeUnreachable)
  | .swlSignalLoss .. => outcomeCanonical_next (.signalLoss h)
  | .swlSessionTimeout .. => outcomeCanonical_next (.sessionTimeout h)
  | .swlPartnerRestart .. => outcomeCanonical_next (.partnerRestart h)
  | .swlQuarantineRetrain .. => outcomeCanonical_next (.quarantineRetrain h)
  | .swlLinkCtrl .. => outcomeCanonical_next (.runCommand h Canonical.swlLinkCtrl)
  | .swlLinkInfo .. => outcomeCanonical_next (.runCommand h Canonical.swlLinkInfo)
  | .lsaTimer .. => outcomeCanonical_next (.ite (.originate (.timerTaken h)) h)
  | .lsa .. => outcomeCanonical_next (.recvFrame h Canonical.takeLsa)
  | .lsaExpire .. => outcomeCanonical_next (.lsaExpire h)
  | .addrOwned .. => outcomeCanonical_next (.ite (.timerTaken h) h)
  | .isolationEnter .. => outcomeCanonical_next (.ite h (.recordEvent (.timerTaken h)))
  | .hold .. => outcomeCanonical_next (.recvNet h Canonical.takeHold)
  | .holdDrop .. => outcomeCanonical_next (.recvNet h (fun h1 => h1))
  | .stageNotice .. => outcomeCanonical_next (.recvNet h Canonical.takeNotice)
  | .stageAck .. => outcomeCanonical_next (.recvNet h Canonical.takeAck)
  | .stageNoticeTimeout .. => outcomeCanonical_next (.ite (.noticeUnreachable (.timerTaken h)) h)
  | .anchorPush .. => outcomeCanonical_next (.recvNet h Canonical.takeAnchorPush)
  | .rootPush .. => outcomeCanonical_next (.recvNet h Canonical.takeRootPush)
  | .rootDrop .. => outcomeCanonical_next (.recvNet h Canonical.takeRootDrop)
  | .lateNak .. => outcomeCanonical_next (.recvNet h Canonical.takeNak)
  | .rootFetch .. => outcomeCanonical_next (.recvNet h Canonical.takeRootFetch)
  | .rootData .. => outcomeCanonical_next (.recvNet h Canonical.takeRootData)
  | .imageFetch .. => outcomeCanonical_next (.recvNet h Canonical.takeImageFetch)
  | .imageData .. => outcomeCanonical_next (.recvNet h Canonical.takeImageData)
  | .fabFetchTimeout .. => outcomeCanonical_next (.ite (.endFetch (.timerTaken h)) h)
  | .enrolReq .. => outcomeCanonical_next (.recvNet h Canonical.enrolReqPart)
  | .enrolResp .. => outcomeCanonical_next (.recvNet h Canonical.enrolRespPart)
  | .fabEnrolTimeout .. => outcomeCanonical_next (.ite h (.enrolEnd (.timerTaken h)))
  | .fabEnrolGrantExpire .. => outcomeCanonical_next (.ite h (.timerTaken h))
  | .fabDomainSet .. => outcomeCanonical_next (.runCommand h Canonical.fabDomainSet)
  | .fabReplResend .. => outcomeCanonical_next (.runCommand h Canonical.fabReplResend)
  | .fabReplLogRead .. => outcomeCanonical_next (.runCommand h Canonical.fabReplLogRead)
  | .fabRootFetch .. => outcomeCanonical_next (.runCommand h Canonical.fabRootFetch)
  | .fabEnrolGrant .. => outcomeCanonical_next (.runCommand h Canonical.fabEnrolGrant)
  | .fabEnrol .. => outcomeCanonical_next (.runCommand h Canonical.fabEnrol)
  | .fabWake .. => outcomeCanonical_next (.runCommand h Canonical.fabWake)
  | .attestGet .. => outcomeCanonical_next (.runCommand h Canonical.attestGet)
  | .failStatement _ none => outcomeCanonical_next (.runCommand h Canonical.failStatement)
  | .failStatement _ (some _) => outcomeCanonical_next (.failMctp h)
  | .fwActivate .. => outcomeCanonical_next (.runCommand h Canonical.fwActivate)
  | .fwCommit .. => outcomeCanonical_next (.runCommand h Canonical.fwCommit)
  | .quartzWatchdog .. => outcomeCanonical_next (.quartzWatchdog (.ite (.timerTaken h) h))
  | .sensorSample .. => outcomeCanonical_next (.ite h (.vholdSample (.sampleFrom h)))
  | .setEndpointId .. => outcomeCanonical_next (.mgmtIn h Canonical.setEndpointId)
  | .getVersion .. => outcomeCanonical_next (.spdmIn h Canonical.getVersion)
  | .getCapabilities .. => outcomeCanonical_next (.spdmIn h Canonical.getCapabilities)
  | .negotiateAlgorithms .. => outcomeCanonical_next (.spdmIn h Canonical.negotiate)
  | .getDigests .. => outcomeCanonical_next (.spdmIn h Canonical.getDigests)
  | .getCertificate .. => outcomeCanonical_next (.spdmIn h Canonical.getCertificate)
  | .challenge .. => outcomeCanonical_next (.spdmIn h Canonical.challenge)
  | .getMeasurements .. => outcomeCanonical_next (.spdmIn h Canonical.getMeasurements)
  | .getPqCert .. => outcomeCanonical_next (.vendorIn h Canonical.getPqCert)
  | .cosign .. => outcomeCanonical_next (.vendorIn h Canonical.cosign)
  | .attest .. => outcomeCanonical_next (.vendorIn h Canonical.attest)
  | .getTid .. => outcomeCanonical_next (.mgmtIn h Canonical.pldmAnswer)
  | .setTid .. => outcomeCanonical_next (.mgmtIn h Canonical.setTid)
  | .getPldmVersion .. => outcomeCanonical_next (.mgmtIn h Canonical.getPldmVersion)
  | .getPldmTypes .. => outcomeCanonical_next (.mgmtIn h Canonical.pldmAnswer)
  | .getPldmCommands .. => outcomeCanonical_next (.mgmtIn h Canonical.getPldmCommands)
  | .getTerminusUid .. => outcomeCanonical_next (.mgmtIn h Canonical.pldmAnswer)
  | .getPdrRepositoryInfo .. => outcomeCanonical_next (.mgmtIn h Canonical.getPdrRepositoryInfo)
  | .getPdr .. => outcomeCanonical_next (.mgmtIn h Canonical.getPdr)
  | .getSensorReading .. => outcomeCanonical_next (.sensorIn h Canonical.getSensorReading)
  | .getSensorThresholds .. => outcomeCanonical_next (.sensorIn h Canonical.getSensorThresholds)
  | .setSensorThresholds .. => outcomeCanonical_next (.sensorIn h Canonical.setSensorThresholds)
  | .setEventReceiver .. => outcomeCanonical_next (.mgmtIn h Canonical.setEventReceiver)
  | .eventMessageSupported .. => outcomeCanonical_next (.mgmtIn h Canonical.pldmAnswer)
  | .pollForPlatformEventMessage .. => outcomeCanonical_next (.mgmtIn h Canonical.pollEvents)
  | .queryDeviceIdentifiers .. => outcomeCanonical_next (.fdIn h Canonical.pldmAnswer)
  | .getFirmwareParameters .. => outcomeCanonical_next (.fdIn h Canonical.getFirmwareParameters)
  | .requestUpdate .. => outcomeCanonical_next (.fdIn h Canonical.requestUpdate)
  | .passComponentTable .. => outcomeCanonical_next (.fdState h Canonical.passComponentTable)
  | .updateComponent .. => outcomeCanonical_next (.fdState h Canonical.updateComponent)
  | .firmwareDataReceived .. => outcomeCanonical_next (.fdIn h (fun h1 => .ite (.pieceArrived h1) h1))
  | .activateFirmware .. => outcomeCanonical_next (.fdState h Canonical.activateFirmware)
  | .getStatus .. => outcomeCanonical_next (.fdIn h Canonical.getStatus)
  | .cancelUpdate .. => outcomeCanonical_next (.fdIn h Canonical.cancelUpdate)
  | .getPackageData .. => outcomeCanonical_next (.mgmtIn h Canonical.pldmAnswer)
  | .getDeviceMetaData .. => outcomeCanonical_next (.mgmtIn h Canonical.pldmAnswer)
  | .evrRead _ none => outcomeCanonical_next (.runCommand h Canonical.evrRead)
  | .evrRead _ (some _) => outcomeCanonical_next (.evrReadMctp h)
  | .evrConfigRead .. => outcomeCanonical_next (.runCommand h Canonical.evrConfigRead)
  | .evrClear .. => outcomeCanonical_next (.runCommand h Canonical.evrClear)
  | .evrRecordWriteDone .. => outcomeCanonical_next (.ite h (.recordWriteDone h))
  | .evrTokenRefill .. => outcomeCanonical_next (.ite h (.tokenBack (.timerTaken h)))
  | .evrCheckpointTimer .. => outcomeCanonical_next (.ite h (.checkpoint h))
  | .ambCfgWrite .. => outcomeCanonical_next (.ite h (.ambCfgWrite h))
  | .ambCtrlFreeze .. => outcomeCanonical_next (.ite h (.ambFreeze (.regEntry h)))
  | .ambCtrlRearm .. => outcomeCanonical_next (.ite h (.ambRestart (.regEntry h)))
  | .ambFreeze .. => outcomeCanonical_next (.ite (.ambFreeze h) h)
  | .ambExport .. => outcomeCanonical_next (.runCommand h Canonical.ambExport)
  | .ambReplay .. => outcomeCanonical_next (.runCommand h Canonical.ambReplay)
  | .replayEnd .. => outcomeCanonical_replayEnd h
  | .nvmProgram .. => outcomeCanonical_next (.nvmCommand h Canonical.nvmProgram)
  | .nvmErase .. => outcomeCanonical_next (.nvmCommand h Canonical.nvmErase)
  | .nvmRefresh .. => outcomeCanonical_next (.nvmCommand h (fun h1 => .ite h1 (.refreshBegin h1)))
  | .nvmReadProgramVerify .. => outcomeCanonical_next (.nvmCommand h Canonical.nvmRead)
  | .nvmReadEraseVerify .. => outcomeCanonical_next (.nvmCommand h Canonical.nvmRead)
  | .norOpDone .. => outcomeCanonical_next (.norOpDone h)
  | .norResume .. => outcomeCanonical_next (.norResume h)
  | .norRefreshTick .. => outcomeCanonical_next (.ite h (.refreshTick (.timerTaken h)))
  | .refreshPassStart .. => outcomeCanonical_next (.refreshPassStart h)
  | .refreshSector .. => outcomeCanonical_next (.refreshSector h)
  | .schClrStats .. => outcomeCanonical_next (.ite h (.schClrStats h))
  | .schLock .. => outcomeCanonical_next (.ite h (.setLock h))
  | .clrLock .. => outcomeCanonical_next (.ite h (.setLock h))
  | .registerWrite .. => outcomeCanonical_next (.stagingCheck (.registerWrite h))
  | .busMasterEnableSet .. => outcomeCanonical_next (.bmeSet h)
  | .vfEnableSet .. => outcomeCanonical_next (.vfEnable h)
  | .pcieFailedTraining .. => outcomeCanonical_next (.failedTraining h)
  | .cardResponseTimeout .. => outcomeCanonical_next (.ite (.cardTimeout (.timerTaken h)) h)
  | .sendOpCondPoll .. => outcomeCanonical_next (.ite (.opCondPoll (.timerTaken h)) h)
  | .swlTrainingRetry .. => outcomeCanonical_next (.trainingRetry h)
  | .i3cBroadcastCcc .. => outcomeCanonical_next (.ite (.i3cCcc h) h)
  | .quartzInternalRequest .. => outcomeCanonical_next (.ite (.quartzRequest (.askDispatch h)) h)
  | .quartzFirmwareEvent .. => outcomeCanonical_next (.ite (.takeEvent h) h)
  | .fuseBlowDone .. => outcomeCanonical_next (.fuseBlowDone h)
  | .onyxPatternPeriod .. => outcomeCanonical_next (.ite h (.patternPeriod (.timerTaken h)))
  | .tampInDeassert .. => outcomeCanonical_next (.ite h (.capture h))
  | .crystalRunsAgain .. => outcomeCanonical_next (h)
  | .dormantRailLoss .. => outcomeCanonical_next (.ite (.offState h) h)
  | .fabReplResendPace .. => outcomeCanonical_next (.ite h (.resendPace (.timerTaken h)))

theorem outcomeCanonical_step (h : Canonical s) : OutcomeCanonical (step s) := by
  unfold step
  split
  · exact outcomeCanonical_next (.tick h)
  · exact outcomeCanonical_exec (.update h rfl rfl) _

end Sys2Proof.Machine
end

section
open Sys2Proof.Machine

/-- Settles O4: the words of the state after reset are a short table, and its NOR is erased. -/
theorem resetHasInvariant : Obligations.ResetHasInvariant := canonical_reset

/-- Settles O5, by cases on the command at the front of the queue. -/
theorem stepKeepsInvariant : Obligations.StepKeepsInvariant :=
  fun _ t h e => outcomeCanonical_step h t e

end

section
/-! ### Command codes (R11): the codes of the command index, and the end of a command whose code has no row. -/

namespace Sys2Proof.Machine

variable {s : State}

theorem cmdTable_codes : ∀ x ∈ cmdTable, x.code ≠ 0 ∧ x.code / 256 < 0x0B := by decide

theorem cmdInfo?_eq_none {c : Nat} (hc : c = 0 ∨ 0x0B ≤ c / 256) : cmdInfo? c = none := by
  refine List.find?_eq_none.2 fun x hx => ?_
  obtain ⟨h0, hfam⟩ := cmdTable_codes x hx
  have hne : x.code ≠ c := by
    rintro rfl
    omega
  simpa using hne

theorem cmdUnknown_of_noRow {o : Origin} {j : Job} (hj : s.job? o = some j) (hcode : cmdInfo? j.code = none)
    (hstart : s.mode ≠ .startup) (hdorm : s.mode ≠ .dormant) : cmdUnknown s o = failJob s j S.E_CMD_UNKNOWN := by
  simp [cmdUnknown, hj, hcode, hstart, hdorm]

end Sys2Proof.Machine
end

section
/-! ### Host writes to registers (R5, R38, R83, R276): locks, the counters of SCH_DMD_STAT, and the write to a register
whose fields no write changes. -/

namespace Sys2Proof.Machine

variable {s : State} {p : PortId} {a size v : Nat} {d : RegDef}

theorem mrSource_lock {i : Nat} (h24 : 24 ≤ i) (h28 : i < 28) : mrSource i = 4 := by
  unfold mrSource
  rw [if_neg (by omega), if_neg (by omega), if_neg (by omega), if_pos h28]

/-- A lock's measurement is taken in one of its own registers, so no event is recorded and no register word changes. -/
@[simp] theorem extendLock_regs : (extendLock s).regs = s.regs := by
  have hlt : 24 + u8 (s.freeBytes 13) 0 % 4 < 28 := by omega
  simp [extendLock, extendFrom, extendNow, mrSource_lock, hlt, Nat.lt_trans hlt]

@[simp] theorem extendLock_reg (a : Nat) : (extendLock s).reg a = s.reg a := by simp [State.reg]

theorem setLock_of_locked (h : (s.reg a).testBit 0 = true) : setLock s a = regEntry s a 1 := by
  have h1 : ((regEntry s a 1).reg a).testBit 0 = true := by simpa [State.reg] using h
  exact if_pos h1

theorem reg_setLock_of_unlocked (h : (s.reg a).testBit 0 = false) : (setLock s a).reg a = 1 := by
  have h1 : ¬ ((regEntry s a 1).reg a).testBit 0 = true := by simpa [State.reg] using h
  simp only [setLock]
  rw [if_neg h1]
  simp

/-- Clearing all bits from 8 up of a 64-bit word leaves its low byte. -/
theorem withField_63_8_zero (w : Nat) : withField w 63 8 0 % 2 ^ 64 = w % 2 ^ 8 := by
  simp only [withField, field, place]
  omega

theorem reg_schClrStats_self : (schClrStats s).reg R.SCH_DMD_STAT = s.reg R.SCH_DMD_STAT % 2 ^ 8 := by
  simp only [schClrStats, State.setRegField, reg_setReg_self, withField_63_8_zero]
  simp [State.reg]

theorem reg_schClrStats_of_ne (h : a ≠ R.SCH_DMD_STAT) : (schClrStats s).reg a = s.reg a := by
  simp only [schClrStats, State.setRegField, reg_setReg_of_ne _ _ h]
  simp [State.reg]

theorem stagingCheck_of_ne_hush (h : s.mode ≠ .hush) : stagingCheck s = s := if_neg fun hs => h hs.1

/-- A field that no write changes: read-only, write-only, or locked (R5). -/
def FieldHeld (locked : Bool) (f : RegField) : Prop := f.acc = .ro ∨ f.acc = .wo ∨ f.acc = .rwl ∧ locked = true

theorem fieldWrite_of_held {lane w : Nat} {locked : Bool} {f : RegField} (h : FieldHeld locked f) :
    fieldWrite lane locked v w f = w := by
  rcases h with h | h | ⟨h, rfl⟩
  · simp [fieldWrite, h]
  · simp [fieldWrite, h]
  · simp [fieldWrite, h]

theorem foldl_fieldWrite_of_held {lane w : Nat} {locked : Bool} {fs : List RegField} (h : ∀ f ∈ fs, FieldHeld locked f) :
    fs.foldl (fieldWrite lane locked v) w = w := by
  induction fs with
  | nil => rfl
  | cons f fs ih =>
    rw [List.foldl_cons, fieldWrite_of_held (h f List.mem_cons_self)]
    exact ih fun g hg => h g (List.mem_cons_of_mem _ hg)

/-- The registers from the queue pairs' on whose fields a structure of the state holds. -/
def shownRegs : List Nat := [R.QTZ_ALERT, R.SNS_LIMIT, R.SWL_FRAME_COUNT, R.SWL_FEC_COUNT, R.WRD_BLOCK_COUNT]

theorem writeBase_of_word {portB : Bool} (hlow : 0x8000 ≤ a) (hword : a ∉ shownRegs) :
    writeBase s portB a = s.reg a := by
  have hw : ¬ (a < 0x8000 ∨ shownRegs.contains a = true) := by simp [hword, Nat.not_lt.2 hlow]
  exact if_neg hw

theorem loadReg_of_word {w : Nat} (hlow : 0x8000 ≤ a) (hword : a ∉ shownRegs) : loadReg s p a w = s.setReg a w := by
  have h1 : a ≠ R.HPT_LINK_STATUS := Nat.ne_of_gt (Nat.lt_of_lt_of_le (by decide) hlow)
  have h2 : a ≠ R.HPT_ERR_STATUS := Nat.ne_of_gt (Nat.lt_of_lt_of_le (by decide) hlow)
  simp only [shownRegs, List.mem_cons, not_or] at hword
  obtain ⟨h3, h4, h5, h6, h7, -⟩ := hword
  simp only [loadReg, if_neg h1, if_neg h2, if_neg h3, if_neg h4, if_neg h5, if_neg h6, if_neg h7]

/-- A write to a register whose fields are all held stores the word that it held. -/
theorem regWrite_of_held (hd : regAt a = some d) (hfields : ∀ f ∈ d.fields, FieldHeld (regLocked s a) f)
    (hal : a / 8 * 8 = a) (hlow : 0x8000 ≤ a) (hword : a ∉ shownRegs) : regWrite s p a size v = s.setReg a (s.reg a) := by
  simp only [regWrite, hal, hd]
  rw [foldl_fieldWrite_of_held hfields, writeBase_of_word hlow hword, loadReg_of_word hlow hword]

/-- The host's write as it is taken at the ports' merge, before it acts. -/
def writeTaken (s : State) (p : PortId) (off size v : Nat) : State :=
  crossing (mmio s p 0 off size (v % 2 ^ (8 * size))) 0x01 0 p.num 1

theorem execRegisterWrite_control (hdorm : s.mode ≠ .dormant) {off : Nat} :
    execRegisterWrite (.control p) off size v s = .next (stagingCheck (controlWrite s p off size v)) := by
  simp only [execRegisterWrite, registerWrite, if_neg hdorm]

theorem controlWrite_of_misaligned {off : Nat} (h : aligned off size = false) :
    controlWrite s p off size v = setErr s p errSize 0 := if_pos h

theorem controlWrite_of_register {off : Nat} (hal : aligned off size = true) (hoff : off < 0xF0000)
    (hown : ownRow off size = false) :
    controlWrite s p off size v = regWrite (writeTaken s p off size v) p off size v := by
  simp only [controlWrite, hal, hown, if_pos hoff, writeTaken]
  rfl

/-- A host write of 8 bytes to a register word whose fields are all held changes no state but the journal's. -/
theorem execRegisterWrite_of_held (hdorm : s.mode ≠ .dormant) (hhush : s.mode ≠ .hush) (hd : regAt a = some d)
    (hfields : ∀ f ∈ d.fields, FieldHeld (regLocked s a) f) (hal : a / 8 * 8 = a) (hlow : 0x8000 ≤ a)
    (hhigh : a < 0xF0000) (hown : ownRow a 8 = false) (hword : a ∉ shownRegs) :
    execRegisterWrite (.control p) a 8 v s = .next ((writeTaken s p a 8 v).setReg a (s.reg a)) := by
  have haligned : aligned a 8 = true := by
    simp only [aligned]
    have : a % 8 = 0 := by omega
    simp [this]
  have hlocked : regLocked (writeTaken s p a 8 v) a = regLocked s a := by simp [regLocked, writeTaken, State.reg]
  have hreg : (writeTaken s p a 8 v).reg a = s.reg a := by simp [writeTaken, State.reg]
  rw [execRegisterWrite_control hdorm, controlWrite_of_register haligned hhigh hown,
    regWrite_of_held hd (hlocked ▸ hfields) hal hlow hword, hreg, stagingCheck_of_ne_hush]
  simpa [writeTaken] using hhush

theorem fieldsHeld_classWeight (h : (s.reg R.SCH_CTRL).testBit 0 = true) :
    ∃ d, regAt R.SCH_CLASS_WEIGHT = some d ∧ ∀ f ∈ d.fields, FieldHeld (regLocked s R.SCH_CLASS_WEIGHT) f := by
  refine ⟨_, rfl, ?_⟩
  have hl : regLocked s R.SCH_CLASS_WEIGHT = true := h
  simp [FieldHeld, hl]

theorem fieldsHeld_memErrInfo :
    ∃ d, regAt R.MEM_ERR_INFO = some d ∧ ∀ f ∈ d.fields, FieldHeld (regLocked s R.MEM_ERR_INFO) f := by
  refine ⟨_, rfl, ?_⟩
  simp [FieldHeld]

theorem execSchLock_next (hdorm : s.mode ≠ .dormant) : execSchLock s = .next (setLock s R.SCH_CTRL) := by
  rw [execSchLock, if_neg hdorm]

theorem execClrLock_next (hdorm : s.mode ≠ .dormant) : execClrLock s = .next (setLock s R.CLR_CTRL) := by
  rw [execClrLock, if_neg hdorm]

/-- Setting a lock that is set already writes the journal only. -/
theorem setLock_frame_of_locked (h : (s.reg a).testBit 0 = true) :
    (setLock s a).regs = s.regs ∧ (setLock s a).meas = s.meas ∧ (setLock s a).jobs = s.jobs := by
  rw [setLock_of_locked h]
  simp

theorem schClrStats_next (hdorm : s.mode ≠ .dormant) :
    ∃ t, execSchClrStats s = .next t ∧ t.reg R.SCH_DMD_STAT = s.reg R.SCH_DMD_STAT % 2 ^ 8 ∧
      (∀ a, a ≠ R.SCH_DMD_STAT → t.reg a = s.reg a) ∧ t.slots = s.slots := by
  refine ⟨schClrStats s, by rw [execSchClrStats, if_neg hdorm], reg_schClrStats_self, fun _ => reg_schClrStats_of_ne, ?_⟩
  simp [schClrStats]

/-- The locked class weights keep their word. -/
theorem classWeight_next_of_locked (hdorm : s.mode ≠ .dormant) (hhush : s.mode ≠ .hush)
    (hlock : (s.reg R.SCH_CTRL).testBit 0 = true) :
    ∃ t, execRegisterWrite (.control p) R.SCH_CLASS_WEIGHT 8 v s = .next t ∧
      t.reg R.SCH_CLASS_WEIGHT % 2 ^ 24 = s.reg R.SCH_CLASS_WEIGHT % 2 ^ 24 := by
  obtain ⟨d, hd, hheld⟩ := fieldsHeld_classWeight hlock
  refine ⟨_, execRegisterWrite_of_held hdorm hhush hd hheld rfl (by decide) (by decide) (by decide) (by decide), ?_⟩
  rw [reg_setReg_self]
  omega

theorem memErrInfo_next (hdorm : s.mode ≠ .dormant) (hhush : s.mode ≠ .hush) :
    ∃ t, execRegisterWrite (.control p) R.MEM_ERR_INFO 8 v s = .next t ∧
      t.reg R.MEM_ERR_INFO = s.reg R.MEM_ERR_INFO % 2 ^ 64 ∧ t.slots = s.slots ∧ t.jobs = s.jobs := by
  obtain ⟨d, hd, hheld⟩ := fieldsHeld_memErrInfo (s := s)
  refine ⟨_, execRegisterWrite_of_held hdorm hhush hd hheld rfl (by decide) (by decide) (by decide) (by decide), ?_⟩
  simp [writeTaken]

theorem execRegisterWrite_of_misaligned {off : Nat} (hdorm : s.mode ≠ .dormant) (hhush : s.mode ≠ .hush)
    (hal : aligned off size = false) : execRegisterWrite (.control p) off size v s = .next (setErr s p errSize 0) := by
  rw [execRegisterWrite_control hdorm, controlWrite_of_misaligned hal, stagingCheck_of_ne_hush]
  simpa using hhush

end Sys2Proof.Machine
end

section
open Sys2Proof.Machine

/-- Settles O3: the writable fields of the register map are finitely many, and the state after reset is one value. -/
theorem resetValues : Obligations.ResetValues :=
  ⟨rfl, rfl, rfl, by decide +kernel⟩

/-- Settles O8: no row of the command index has code 0 or a family above 0x0A. -/
theorem unknownCodesEnd : Obligations.UnknownCodesEnd :=
  ⟨fun _ hc => cmdInfo?_eq_none hc, fun _ _ _ hj hcode hstart hdorm =>
    congrArg Host.Outcome.next (cmdUnknown_of_noRow hj hcode hstart hdorm)⟩

/-- Settles O15: a field that is read-only or locked keeps its bits in the word that a write stores. -/
theorem registerWritesFollowAccess : Obligations.RegisterWritesFollowAccess :=
  ⟨fun _ hdorm => schClrStats_next hdorm,
   fun _ hdorm hlock => ⟨_, execSchLock_next hdorm, setLock_frame_of_locked hlock⟩,
   fun _ hdorm hlock => ⟨_, execClrLock_next hdorm, setLock_frame_of_locked hlock⟩,
   fun _ hdorm hlock => ⟨_, execSchLock_next hdorm, reg_setLock_of_unlocked hlock⟩,
   fun _ hdorm hlock => ⟨_, execClrLock_next hdorm, reg_setLock_of_unlocked hlock⟩,
   fun _ _ _ hdorm hhush hlock => classWeight_next_of_locked hdorm hhush hlock,
   fun _ _ _ hdorm hhush => memErrInfo_next hdorm hhush,
   fun _ _ _ _ _ hdorm hhush hal => execRegisterWrite_of_misaligned hdorm hhush hal⟩

end

section
/-! ### Writes to a mailbox page (R38, R48, R50): what every write first does, and each act of MBX_CTRL. -/

namespace Sys2Proof.Machine

variable {s : State} {b : BindId} {irq : Bool}

@[simp] theorem dispatchMerge_jobs : (dispatchMerge s b).jobs = s.jobs := crossing_jobs ..
@[simp] theorem dispatchMerge_heldJobs : (dispatchMerge s b).heldJobs = s.heldJobs := crossing_heldJobs ..
@[simp] theorem dispatchMerge_slots : (dispatchMerge s b).slots = s.slots := crossing_slots ..
@[simp] theorem dispatchMerge_regs : (dispatchMerge s b).regs = s.regs := crossing_regs ..
@[simp] theorem dispatchMerge_qps : (dispatchMerge s b).qps = s.qps := crossing_qps ..
@[simp] theorem dispatchMerge_mode : (dispatchMerge s b).mode = s.mode := crossing_mode ..
@[simp] theorem dispatchMerge_clk : (dispatchMerge s b).clk = s.clk := crossing_clk ..
@[simp] theorem dispatchMerge_portA : (dispatchMerge s b).portA = s.portA := crossing_portA ..
@[simp] theorem dispatchMerge_portB : (dispatchMerge s b).portB = s.portB := crossing_portB ..
@[simp] theorem mbx_dispatchMerge (c : BindId) : (dispatchMerge s b).mbx c = s.mbx c := mbx_crossing ..
@[simp] theorem bindOf_dispatchMerge (c : BindId) : (dispatchMerge s b).bindOf c = s.bindOf c := bindOf_crossing ..
@[simp] theorem deferred_dispatchMerge : (dispatchMerge s b).moon.deferred = s.moon.deferred := deferred_capture ..
@[simp] theorem bindLive_dispatchMerge (c : BindId) : bindLive (dispatchMerge s b) c = bindLive s c := bindLive_capture ..

/-! #### MBX_CMD and the operand area -/

/-- A write of operand bytes is latched, or in BUSY marked. -/
theorem mbxCmdWrite_area {off : Nat} {bs : Bytes} (hlive : bindLive s b = true) (hne : bs ≠ []) (hlow : 0x100 ≤ off)
    (hhigh : off + bs.length ≤ 0x900) :
    mbxCmdWrite s b off bs =
      (dispatchMerge (mmio s b.port b.func off bs.length (leNat (bs.take 8))) b).setMbx b
        (if (s.mbx b).state = .busy then { s.mbx b with writeWhileBusy := true }
         else { s.mbx b with opArea := (s.mbx b).opArea.putList 0 (off - 0x100) bs }) := by
  have hlen : 0 < bs.length := List.length_pos_iff.2 hne
  have hcmd : ¬ off < 8 := by omega
  have hpage : 0x100 ≤ off ∧ off < 0x900 := by omega
  have htake : bs.take (0x900 - off) = bs := List.take_of_length_le (by omega)
  simp only [mbxCmdWrite, if_neg hne, hlive, hcmd, hpage, false_and, if_false, and_self, or_true, if_true, mbx_dispatchMerge,
    mbx_mmio, areaWrite, htake, Bool.true_eq_false]
  split <;> rfl

/-- A byte string written over one of its own length is that string. -/
theorem patch_zero {bs new : Bytes} (h : new.length = bs.length) : patch bs 0 new = new := by
  simp [patch, fit, slice, zeros, h.symm]

/-- The 8 bytes of MBX_CMD are taken whole. -/
theorem mbxCmdWrite_cmd {v : Bytes} (hlive : bindLive s b = true) (hv : v.length = 8) (hst : (s.mbx b).state ≠ .busy) :
    mbxCmdWrite s b 0 v = (dispatchMerge (mmio s b.port b.func 0 8 (leNat v)) b).setMbx b
      { s.mbx b with code := u16 v 0, tag := u16 v 2, oplen := u16 v 4 } := by
  have hne : v ≠ [] := by
    rintro rfl
    cases hv
  have hpatch : ∀ w, patch (leBytes 8 w) 0 v = v := fun w => patch_zero (by simp [hv])
  have htake : v.take 8 = v := List.take_of_length_le (by omega)
  simp [mbxCmdWrite, hne, hv, aligned, hlive, hst, cmdWrite, hpatch, htake]

/-! #### MBX_CTRL -/

/-- The state in which the acts of a write to MBX_CTRL begin: the write is journalled and numbered, and IRQ_EN has its value. -/
def ctrlTaken (s : State) (b : BindId) (ack abort go irq : Bool) : State :=
  setIrq (dispatchMerge (mmio s b.port b.func 8 8 (b2n go + 2 * b2n abort + 4 * b2n irq + 8 * b2n ack)) b) b irq

section
variable {ack abort go : Bool}

@[simp] theorem mbx_ctrlTaken : (ctrlTaken s b ack abort go irq).mbx b = { s.mbx b with irqEn := irq } := by
  simp [ctrlTaken, setIrq]
@[simp] theorem ctrlTaken_jobs : (ctrlTaken s b ack abort go irq).jobs = s.jobs := by simp [ctrlTaken, setIrq]
@[simp] theorem ctrlTaken_heldJobs : (ctrlTaken s b ack abort go irq).heldJobs = s.heldJobs := by simp [ctrlTaken, setIrq]
@[simp] theorem ctrlTaken_slots : (ctrlTaken s b ack abort go irq).slots = s.slots := by simp [ctrlTaken, setIrq]
@[simp] theorem ctrlTaken_regs : (ctrlTaken s b ack abort go irq).regs = s.regs := by simp [ctrlTaken, setIrq]
@[simp] theorem ctrlTaken_qps : (ctrlTaken s b ack abort go irq).qps = s.qps := by simp [ctrlTaken, setIrq]
@[simp] theorem ctrlTaken_mode : (ctrlTaken s b ack abort go irq).mode = s.mode := by simp [ctrlTaken, setIrq]
@[simp] theorem ctrlTaken_clk : (ctrlTaken s b ack abort go irq).clk = s.clk := by simp [ctrlTaken, setIrq]
@[simp] theorem bindOf_ctrlTaken : (ctrlTaken s b ack abort go irq).bindOf b = s.bindOf b := by simp [ctrlTaken, setIrq]
@[simp] theorem bindLive_ctrlTaken : bindLive (ctrlTaken s b ack abort go irq) b = bindLive s b := by simp [ctrlTaken, setIrq]
@[simp] theorem job?_ctrlTaken (o : Origin) : (ctrlTaken s b ack abort go irq).job? o = s.job? o := job?_congr (by simp) o
@[simp] theorem deferred_ctrlTaken : (ctrlTaken s b ack abort go irq).moon.deferred = s.moon.deferred := by
  simp [ctrlTaken, setIrq]

theorem ctrlWrite_of_live (hlive : bindLive s b = true) :
    ctrlWrite s b ack abort go irq =
      let s1 := ctrlTaken s b ack abort go irq
      let s2 := if ack then ackAct s1 b else s1
      let s3 := if abort then abortAct s2 b else s2
      if go && bindLive s3 b then goAct s3 b else s3 := by
  simp [ctrlWrite, ctrlTaken, hlive]

end

/-! ACK (R48). -/

theorem ackAct_of_noDeferral (hdef : s.moon.deferred = none) : ackAct s b = ackClear s b := by simp [ackAct, hdef]

theorem ackClear_of_done (hst : (s.mbx b).state = .done) :
    ackClear s b = s.setMbx b { s.mbx b with result := [], state := .idle } := if_pos hst

theorem ackClear_of_ne_done (hst : (s.mbx b).state ≠ .done) :
    ackClear s b = s.setMbx b { s.mbx b with ackNotDone := true } := if_neg hst

/-! GO (R48). -/

theorem goAct_of_ne_idle (hst : (s.mbx b).state ≠ .idle) : goAct s b = s.setMbx b { s.mbx b with goNotIdle := true } :=
  if_neg hst

/-- GO in IDLE outside HUSH, with no former command of the mailbox in flight. -/
theorem goAct_of_idle (hhush : s.mode ≠ .hush) (hst : (s.mbx b).state = .idle) (hfree : s.job? (.mailbox b) = none) :
    goAct s b = (s.setMbx b { s.mbx b with stTag := (s.mbx b).tag, aborted := false, approved := false, state := .busy }).addJob
      (latchJob s b (s.mbx b)) := by
  have horigin : (latchJob s b (s.mbx b)).origin = .mailbox b := rfl
  simp only [goAct, hst, if_true, passJob, horigin, job_setMbx, hfree, Option.isSome_none, Bool.false_eq_true, if_false]
  exact hushExit_of_ne (by simpa using hhush)

/-! ABORT (R50). -/

theorem abortAct_of_ne_busy (hst : (s.mbx b).state ≠ .busy) : abortAct s b = s := if_pos hst

theorem abortAct_of_uncommitted {j : Job} (hst : (s.mbx b).state = .busy) (hj : s.job? (.mailbox b) = some j)
    (hcommit : j.committed = false) (hheld : ∀ k ∈ s.heldJobs, k.origin ≠ .mailbox b) :
    abortAct s b = s.setJob { j with abortReq := true } := by
  have hany : (s.heldJobs.any fun k => k.origin == .mailbox b) = false := by simpa using hheld
  simp [abortAct, hst, hany, hj, hcommit]

/-! #### Each write of MBX_CTRL, with what it leaves as it was -/

theorem mbxGo_idle (hlive : bindLive s b = true) (hhush : s.mode ≠ .hush) (hst : (s.mbx b).state = .idle)
    (hfree : s.job? (.mailbox b) = none) :
    ∃ t, exec (.mbxGo b false false irq) s = .next t ∧ t.jobs = s.jobs ++ [latchJob s b (s.mbx b)] ∧
      t.mbx b = { s.mbx b with irqEn := irq, stTag := (s.mbx b).tag, aborted := false, approved := false, state := .busy } ∧
      t.slots = s.slots ∧ t.regs = s.regs ∧ t.qps = s.qps := by
  refine ⟨goAct (ctrlTaken s b false false true irq) b, ?_, ?_⟩
  · show Host.Outcome.next (ctrlWrite s b false false true irq) = _
    simp [ctrlWrite_of_live hlive, hlive]
  · rw [goAct_of_idle (by simpa using hhush) (by simpa using hst) (by simpa using hfree)]
    simp [latchJob]

theorem mbxGo_ne_idle (hlive : bindLive s b = true) (hst : (s.mbx b).state ≠ .idle) :
    ∃ t, exec (.mbxGo b false false irq) s = .next t ∧ t.jobs = s.jobs ∧
      t.mbx b = { s.mbx b with irqEn := irq, goNotIdle := true } ∧ t.slots = s.slots ∧ t.regs = s.regs ∧ t.qps = s.qps := by
  refine ⟨goAct (ctrlTaken s b false false true irq) b, ?_, ?_⟩
  · show Host.Outcome.next (ctrlWrite s b false false true irq) = _
    simp [ctrlWrite_of_live hlive, hlive]
  · rw [goAct_of_ne_idle (by simpa using hst)]
    simp

theorem exec_mbxAck (hlive : bindLive s b = true) (hdef : s.moon.deferred = none) :
    exec (.mbxAck b false irq) s = .next (ackClear (ctrlTaken s b true false false irq) b) := by
  show Host.Outcome.next (ctrlWrite s b true false false irq) = _
  simp [ctrlWrite_of_live hlive, ackAct_of_noDeferral, hdef]

theorem mbxAck_done (hlive : bindLive s b = true) (hdef : s.moon.deferred = none) (hst : (s.mbx b).state = .done) :
    ∃ t, exec (.mbxAck b false irq) s = .next t ∧ t.jobs = s.jobs ∧
      t.mbx b = { s.mbx b with irqEn := irq, result := [], state := .idle } ∧ t.slots = s.slots ∧ t.regs = s.regs := by
  refine ⟨_, exec_mbxAck hlive hdef, ?_⟩
  rw [ackClear_of_done (by simpa using hst)]
  simp

theorem mbxAck_ne_done (hlive : bindLive s b = true) (hdef : s.moon.deferred = none) (hst : (s.mbx b).state ≠ .done) :
    ∃ t, exec (.mbxAck b false irq) s = .next t ∧ t.jobs = s.jobs ∧
      t.mbx b = { s.mbx b with irqEn := irq, ackNotDone := true } ∧ t.slots = s.slots ∧ t.regs = s.regs := by
  refine ⟨_, exec_mbxAck hlive hdef, ?_⟩
  rw [ackClear_of_ne_done (by simpa using hst)]
  simp

/-- ACK with GO in DONE: the mailbox passes through IDLE and starts the next command. -/
theorem mbxGo_ack_done (hlive : bindLive s b = true) (hhush : s.mode ≠ .hush) (hdef : s.moon.deferred = none)
    (hst : (s.mbx b).state = .done) (hfree : s.job? (.mailbox b) = none) :
    ∃ t, exec (.mbxGo b true false irq) s = .next t ∧ (t.mbx b).state = .busy ∧
      t.jobs = s.jobs ++ [latchJob s b (s.mbx b)] := by
  have hack : ackAct (ctrlTaken s b true false true irq) b =
      (ctrlTaken s b true false true irq).setMbx b { s.mbx b with irqEn := irq, result := [], state := .idle } := by
    rw [ackAct_of_noDeferral (by simpa using hdef), ackClear_of_done (by simpa using hst), mbx_ctrlTaken]
  refine ⟨goAct (ackAct (ctrlTaken s b true false true irq) b) b, ?_, ?_⟩
  · show Host.Outcome.next (ctrlWrite s b true false true irq) = _
    simp [ctrlWrite_of_live hlive, hack, hlive]
  · rw [hack, goAct_of_idle (by simpa using hhush) (by simp) (by simpa using hfree)]
    simp [latchJob]

theorem exec_mbxAbort (hlive : bindLive s b = true) :
    exec (.mbxAbort b irq) s = .next (abortAct (ctrlTaken s b false true false irq) b) := by
  show Host.Outcome.next (ctrlWrite s b false true false irq) = _
  simp [ctrlWrite_of_live hlive]

theorem mbxAbort_uncommitted {j : Job} (hlive : bindLive s b = true) (hst : (s.mbx b).state = .busy)
    (hj : s.job? (.mailbox b) = some j) (hcommit : j.committed = false) (hheld : ∀ k ∈ s.heldJobs, k.origin ≠ .mailbox b) :
    ∃ t, exec (.mbxAbort b irq) s = .next t ∧ t.mbx b = { s.mbx b with irqEn := irq } ∧
      t.job? (.mailbox b) = some { j with abortReq := true } ∧ t.slots = s.slots ∧ t.regs = s.regs := by
  have ho := origin_of_job? hj
  refine ⟨_, exec_mbxAbort hlive, ?_⟩
  rw [abortAct_of_uncommitted (j := j) (by simpa using hst) (by simpa using hj) hcommit (by simpa using hheld)]
  refine ⟨by simp, job?_setJob_self (j := j) (by simpa using hj) ho, by simp, by simp⟩

theorem mbxAbort_ne_busy (hlive : bindLive s b = true) (hst : (s.mbx b).state ≠ .busy) :
    ∃ t, exec (.mbxAbort b irq) s = .next t ∧ t.mbx b = { s.mbx b with irqEn := irq } ∧ t.jobs = s.jobs ∧
      t.slots = s.slots ∧ t.regs = s.regs := by
  refine ⟨_, exec_mbxAbort hlive, ?_⟩
  rw [abortAct_of_ne_busy (by simpa using hst)]
  simp

end Sys2Proof.Machine
end

section
open Sys2Proof.Machine

/-- Settles O7, by the lemma of each write in each state of the mailbox. -/
theorem mailboxRegisters : Obligations.MailboxRegisters :=
  ⟨fun _ _ _ _ hlive hne hlow hhigh hst =>
      congrArg Host.Outcome.next ((mbxCmdWrite_area hlive hne hlow hhigh).trans (by rw [if_neg hst])),
   fun _ _ _ hlive hv hst => congrArg Host.Outcome.next (mbxCmdWrite_cmd hlive hv hst),
   fun _ _ _ _ hlive hne hlow hhigh hst =>
      congrArg Host.Outcome.next ((mbxCmdWrite_area hlive hne hlow hhigh).trans (by rw [if_pos hst])),
   fun _ _ _ hlive hhush hst hfree => mbxGo_idle hlive hhush hst hfree,
   fun _ _ _ hlive hst => mbxGo_ne_idle hlive hst,
   fun _ _ _ hlive hdef hst => mbxAck_done hlive hdef hst,
   fun _ _ _ hlive hdef hst => mbxAck_ne_done hlive hdef hst,
   fun _ _ _ hlive hhush hdef hst hfree => mbxGo_ack_done hlive hhush hdef hst hfree,
   fun _ _ _ _ hlive hst hj hcommit hheld => mbxAbort_uncommitted hlive hst hj hcommit hheld,
   fun _ _ _ hlive hst => mbxAbort_ne_busy hlive hst⟩

end

section
/-! ### The end of a command in its mailbox (R44, R48, R50): what the end writes, and what it leaves as it was. -/

namespace Sys2Proof.Machine

variable {s : State} {b : BindId} {j : Job} {st : Nat} {res : Bytes} {appr : Bool}

@[simp] theorem port_endState (p : PortId) : (endState s j b st).port p = s.port p :=
  port_congr (by simp [endState]) (by simp [endState]) p

@[simp] theorem mbx_endState (c : BindId) : (endState s j b st).mbx c = s.mbx c :=
  mbx_congr (by simp [endState]) (by simp [endState]) c

@[simp] theorem endState_jobs : (endState s j b st).jobs = s.jobs.filter (fun k => k.origin != .mailbox b) := by
  simp [endState, State.dropJob]

theorem reg_countSealErr_of_ne {a : Nat} (h : a ≠ R.SEAL_ERR_COUNT) : (countSealErr s st).reg a = s.reg a := by
  have hinc : ∀ m l, (s.incRegField R.SEAL_ERR_COUNT m l).reg a = s.reg a := fun m l => reg_setReg_of_ne s _ h
  unfold countSealErr
  split
  · exact hinc ..
  · split
    · exact hinc ..
    · split
      · exact hinc ..
      · rfl

/-- The end of a command leaves APPROVED_MODE (R308): no register that it counts in is RNG_TEST. -/
@[simp] theorem approvedMode_endState : (endState s j b st).approvedMode = s.approvedMode := by
  have hreg : (endState s j b st).reg R.RNG_TEST = s.reg R.RNG_TEST := by
    have hcount : (countSealErr (countEnded (manifestEntry s j st) j st) st).reg R.RNG_TEST = s.reg R.RNG_TEST := by
      rw [reg_countSealErr_of_ne (by decide)]
      simp [State.reg]
    exact hcount
  have hlcs : (endState s j b st).lcs = s.lcs := by simp [endState]
  have hboot : (endState s j b st).boot = s.boot := by simp [endState]
  simp only [State.approvedMode, State.regField, hreg, hlcs, hboot]

/-- A mailbox command that is not discarded leaves the device through its mailbox. -/
theorem finishJob_mailbox {n : Nat} (ho : j.origin = .mailbox b) (hd : j.discard = false) :
    finishJob s j st res n appr = mailboxDone (endState s j b st) b st res appr := by
  simp [finishJob, ho, hd, endState]

theorem mailboxDone_ends : Ends (mailboxDone (endState s j b st) b st res appr) b st res := by
  refine ⟨?_, ?_, ?_, ?_⟩
  · rw [job?_congr (mailboxDone_jobs ..)]
    exact job?_dropJob_self ..
  all_goals rw [mbx_mailboxDone]

/-- A command's end as its mailbox shows it. -/
theorem mbx_endJob (ho : j.origin = .mailbox b) (hp : Plain j) :
    (endJob s j st res appr).mbx b =
      { s.mbx b with result := res.take 1792, status := st, approved := appr && s.approvedMode, aborted := st == S.E_ABORTED,
                     state := .done, doneCount := ((s.mbx b).doneCount + 1) % 2 ^ 32 } := by
  rw [endJob_mailbox ho hp, mbx_mailboxDone, mbx_endState, approvedMode_endState]

theorem jobs_endJob (ho : j.origin = .mailbox b) (hp : Plain j) :
    (endJob s j st res appr).jobs = s.jobs.filter (fun k => k.origin != .mailbox b) := by
  rw [endJob_mailbox ho hp, mailboxDone_jobs, endState_jobs]

theorem abortPoint_of_uncommitted {o : Origin} (hj : s.job? o = some j) (habort : j.abortReq = true)
    (hcommit : j.committed = false) : abortPoint s o = dropWith s j S.E_ABORTED := by
  simp [abortPoint, hj, habort, hcommit]

/-- What a command ends early with: its mailbox is DONE, whatever the command held. -/
theorem mbx_dropWith (ho : j.origin = .mailbox b) (hp : Plain j) :
    (dropWith s j st).mbx b = { s.mbx b with
      result := [], status := st, approved := serviceApproved (releaseJob s j.origin) j && (releaseJob s j.origin).approvedMode,
      aborted := st == S.E_ABORTED, state := .done, doneCount := ((s.mbx b).doneCount + 1) % 2 ^ 32 } := by
  have hm : (releaseJob s j.origin).mbx b = s.mbx b := mbx_congr (by simp) (by simp) b
  rw [dropWith, failJob, mbx_endJob ho hp, hm]
  rfl

theorem abortPointReached_uncommitted (hj : s.job? (.mailbox b) = some j) (hp : Plain j) (habort : j.abortReq = true)
    (hcommit : j.committed = false) :
    ∃ u, exec (.abortPointReached (.mailbox b)) s = .next u ∧ Ends u b S.E_ABORTED [] ∧ (u.mbx b).aborted = true ∧
      (u.mbx b).doneCount = ((s.mbx b).doneCount + 1) % 2 ^ 32 := by
  have ho := origin_of_job? hj
  refine ⟨_, congrArg Host.Outcome.next (abortPoint_of_uncommitted hj habort hcommit), endJob_ends ho hp .., ?_⟩
  rw [mbx_dropWith ho hp]
  simp

end Sys2Proof.Machine
end

section
open Sys2Proof.Machine

/-- Settles O9, by what the end of a command writes to its mailbox. -/
theorem commandsEndInTheirMailbox : Obligations.CommandsEndInTheirMailbox := by
  refine ⟨fun _ _ _ hj hp habort hcommit => abortPointReached_uncommitted hj hp habort hcommit, ?_⟩
  intro s b j st res appr ho hwrote hdiscard
  have hp : Plain j := ⟨hwrote, hdiscard⟩
  dsimp only
  rw [mbx_endJob ho hp, jobs_endJob ho hp]
  simp

end

section
/-! ### Host reads of a command (R43, R44): the completions that carry data, and the failures that end the command. -/

namespace Sys2Proof.Machine

variable {s : State} {b : BindId} {j : Job} {st bit : Nat} {res : Bytes} {appr : Bool} {p : PortId}

/-- With no read that waits for a tag, a tag that is freed goes to none. -/
theorem readsGo_of_sent (h : ∀ k ∈ s.jobs, k.unsent = false) : readsGo s = s := by
  have hnone : s.jobs.filter (·.unsent) = [] := List.filter_eq_nil_iff.2 (by simpa using h)
  simp [readsGo, hnone]

theorem unsent_of_mem_filter {P : Job → Bool} (h : ∀ k ∈ s.jobs, k.unsent = false) :
    ∀ k ∈ s.jobs.filter P, k.unsent = false :=
  fun k hk => h k (List.mem_of_mem_filter hk)

/-! #### The error registers of a port -/

/-- HPT_ERR_STATUS and HPT_ERR_FUNC of a port. -/
def portErrs (s : State) (p : PortId) : BitVec 10 × Nat := ((s.port p).errStatus, (s.port p).errFunc)

theorem portErrs_congr {t : State} (hA : t.portA = s.portA) (hB : t.portB = s.portB) : portErrs t p = portErrs s p := by
  simp [portErrs, port_congr hA hB]

@[simp] theorem portErrs_setErr_self {f : Nat} : portErrs (setErr s p bit f) p = ((portErrs s p).1 ||| (1#10 <<< bit), f) := by
  simp [portErrs, setErr]

@[simp] theorem portErrs_setMbx (m : Mailbox) : portErrs (s.setMbx b m) p = portErrs s p := by
  by_cases h : p = b.port
  · subst h
    simp [portErrs, State.setMbx]
  · simp [portErrs, State.setMbx, port_setPort_of_ne _ _ h]

@[simp] theorem portErrs_setFn {q : PortId} {f : Nat} (v : FuncState) : portErrs (s.setFn q f v) p = portErrs s p := by
  by_cases h : p = q
  · subst h
    simp [portErrs, State.setFn]
  · simp [portErrs, State.setFn, port_setPort_of_ne _ _ h]

@[simp] theorem portErrs_raiseVector {q : PortId} {f v : Nat} : portErrs (raiseVector s q f v) p = portErrs s p := by
  unfold raiseVector
  dsimp only
  split
  · rfl
  · split
    · simp
    · exact portErrs_congr (by simp) (by simp)

@[simp] theorem portErrs_mailboxDone : portErrs (mailboxDone s b st res appr) p = portErrs s p := by
  have hcapture : ∀ (t : State) (l : List Nat), portErrs (capture t 0x14 14 l) p = portErrs t p := fun t l => by simp [portErrs]
  unfold mailboxDone
  dsimp only
  split <;> simp [hcapture]

@[simp] theorem portErrs_endState : portErrs (endState s j b st) p = portErrs s p := by simp [portErrs]

@[simp] theorem portErrs_releaseJob {o : Origin} : portErrs (releaseJob s o) p = portErrs s p :=
  portErrs_congr (by simp) (by simp)

/-! #### A read that brings bytes -/

@[simp] theorem journalRead_jobs {d : BindId} {bs : Bytes} : (journalRead s j d bs).jobs = s.jobs := by
  unfold journalRead
  split
  · rfl
  · split <;> simp [controlRead, journalPayload]

theorem unsent_of_mem_setJob (h : ∀ k ∈ s.jobs, k.unsent = false) (hj : j.unsent = false) :
    ∀ k ∈ (s.setJob j).jobs, k.unsent = false := by
  intro k hk
  obtain ⟨i, hi, rfl⟩ := List.mem_map.1 hk
  split
  · exact hj
  · exact h i hi

theorem readArrived_last {q : HostRef} {bs : Bytes} :
    readArrived s j q [] bs = readsGo ((journalRead s j (dmaBind s j q.port) bs).setJob
      { j with data := j.data ++ [bs], oob := j.oob || decide (s.clk - j.readSince > 200), reads := [], phase := j.afterReads,
               stage := j.stage + 1 }) := rfl

/-- The bytes of a command's last buffer. -/
theorem hostDmaReadCompletion_last {o : Origin} {q : HostRef} {bs : Bytes} (hj : s.job? o = some j) (hph : j.phase = .hostRead)
    (hun : j.unsent = false) (hreads : j.reads = [q]) (hlen : bs.length = q.len) (hsent : ∀ k ∈ s.jobs, k.unsent = false) :
    hostDmaReadCompletion s o (.data bs) = (journalRead s j (dmaBind s j q.port) bs).setJob
      { j with data := j.data ++ [bs], oob := j.oob || decide (s.clk - j.readSince > 200), reads := [], phase := j.afterReads,
               stage := j.stage + 1 } := by
  have harrives : hostDmaReadCompletion s o (.data bs) = readArrived s j q [] bs := by
    simp only [hostDmaReadCompletion, hj, hph, hun, hreads, hlen, if_true]
  rw [harrives, readArrived_last]
  exact readsGo_of_sent (unsent_of_mem_setJob (by simpa using hsent) hun)

/-! #### A read that fails -/

theorem readFailed_of_ne_ordering {d : BindId} (hbind : readBind s j = some d) (hph : j.phase ≠ .ordering) :
    readFailed s j bit =
      readsGo (failJob (releaseJob (setErr s d.port bit d.func) j.origin) { j with reads := [] } S.E_HOST_DMA) := by
  simp only [readFailed, hbind]
  exact if_neg hph

/-- No tag is freed for another read when a mailbox command ends with a failure. -/
theorem readsGo_failJob (ho : j.origin = .mailbox b) (hp : Plain j) (hsent : ∀ k ∈ s.jobs, k.unsent = false) :
    readsGo (failJob s j st) = failJob s j st := by
  refine readsGo_of_sent ?_
  rw [failJob, jobs_endJob ho hp]
  exact unsent_of_mem_filter hsent

theorem portErrs_failJob (ho : j.origin = .mailbox b) (hp : Plain j) : portErrs (failJob s j st) p = portErrs s p := by
  rw [failJob, endJob_mailbox ho hp]
  simp

/-- The front read of a command fails: the cause is recorded at the port that issued it, and the command ends. -/
theorem readFailed_hostRead {q : HostRef} {rest : List HostRef} (hj : s.job? (.mailbox b) = some j) (hp : Plain j)
    (hph : j.phase = .hostRead) (hreads : j.reads = q :: rest) (hsent : ∀ k ∈ s.jobs, k.unsent = false) :
    Ends (readFailed s j bit) b S.E_HOST_DMA [] ∧
      portErrs (readFailed s j bit) (dmaBind s j q.port).port =
        ((portErrs s (dmaBind s j q.port).port).1 ||| (1#10 <<< bit), (dmaBind s j q.port).func) := by
  have ho : j.origin = .mailbox b := origin_of_job? hj
  have hbind : readBind s j = some (dmaBind s j q.port) := by simp [readBind, hph, hreads]
  rw [readFailed_of_ne_ordering hbind (by simp [hph]),
    readsGo_failJob (j := { j with reads := [] }) ho hp (by simpa using hsent)]
  refine ⟨endJob_ends (j := { j with reads := [] }) ho hp .., ?_⟩
  rw [portErrs_failJob (j := { j with reads := [] }) ho hp]
  simp

/-- The ordering read of a command fails: FLUSH_FAIL is set beside the cause, and the command ends. -/
theorem readFailed_ordering {bs : Bytes} (hj : s.job? (.mailbox b) = some j) (hd : j.discard = false)
    (hph : j.phase = .ordering) (hfinal : j.final = some (st, bs, appr)) (hsent : ∀ k ∈ s.jobs, k.unsent = false) :
    Ends (readFailed s j bit) b S.E_HOST_DMA [] ∧
      (portErrs (readFailed s j bit) (dmaBind s j 1).port).1 =
        (portErrs s (dmaBind s j 1).port).1 ||| (1#10 <<< bit) ||| (1#10 <<< errFlushFail) := by
  have ho := origin_of_job? hj
  have hbind : readBind s j = some (dmaBind s j 1) := by simp [readBind, hph, hfinal]
  have hfail : readFailed s j bit =
      mailboxDone (endState (releaseJob (setErr (setErr s (dmaBind s j 1).port bit (dmaBind s j 1).func) (dmaBind s j 1).port
        errFlushFail (dmaBind s j 1).func) j.origin) j b S.E_HOST_DMA) b S.E_HOST_DMA [] appr := by
    simp only [readFailed, hbind, hph, hfinal, if_true, Option.map_some, Option.getD_some, finishJob_mailbox ho hd]
    refine readsGo_of_sent ?_
    rw [mailboxDone_jobs, endState_jobs]
    exact unsent_of_mem_filter (by simpa using hsent)
  rw [hfail]
  exact ⟨mailboxDone_ends, by simp⟩

theorem hostDmaReadCompletion_fails {q : HostRef} {rest : List HostRef} {r : DmaResult} {o : Origin} (hj : s.job? o = some j)
    (hph : j.phase = .hostRead) (hun : j.unsent = false) (hreads : j.reads = q :: rest)
    (hr : r = .ur ∧ bit = errUrCa ∨ r = .ca ∧ bit = errUrCa ∨ r = .poisoned ∧ bit = errPoisoned) :
    hostDmaReadCompletion s o r = readFailed s j bit := by
  rcases hr with ⟨rfl, rfl⟩ | ⟨rfl, rfl⟩ | ⟨rfl, rfl⟩
  all_goals simp only [hostDmaReadCompletion, hj, hph, hun, hreads]

theorem cplTimeout_of_hostRead {q : HostRef} {rest : List HostRef} {o : Origin} (hj : s.job? o = some j)
    (hph : j.phase = .hostRead) (hun : j.unsent = false) (hreads : j.reads = q :: rest) :
    cplTimeout s o = readFailed (timerTaken s 16) j errCplTimeout := by
  simp [cplTimeout, hj, hun, readBind, hph, hreads]

@[simp] theorem dmaBind_timerTaken {i x : Nat} : dmaBind (timerTaken s i) j x = dmaBind s j x := by simp [dmaBind, State.ten]

@[simp] theorem portErrs_timerTaken {i : Nat} : portErrs (timerTaken s i) p = portErrs s p := portErrs_congr (by simp) (by simp)

/-- The completion of a mailbox command that waited for its ordering read. -/
theorem orderingRead_ends {bs : Bytes} (hj : s.job? (.mailbox b) = some j) (hd : j.discard = false)
    (hph : j.phase = .ordering) (hfinal : j.final = some (st, bs, appr)) (hsent : ∀ k ∈ s.jobs, k.unsent = false) :
    Ends (orderingRead s (.mailbox b) true) b st (bs.drop 4) := by
  have ho := origin_of_job? hj
  have hdone : orderingRead s (.mailbox b) true = mailboxDone
      (endState s { j with oob := j.oob || decide (s.clk - j.readSince > 200) } b st) b st (bs.drop 4) appr := by
    simp only [orderingRead, hj, hph, hfinal, if_true]
    rw [finishJob_mailbox (by exact ho) (by exact hd)]
    refine readsGo_of_sent ?_
    rw [mailboxDone_jobs, endState_jobs]
    exact unsent_of_mem_filter hsent
  rw [hdone]
  exact mailboxDone_ends

theorem orderingRead_fails {o : Origin} {x : Nat × Bytes × Bool} (hj : s.job? o = some j) (hph : j.phase = .ordering)
    (hfinal : j.final = some x) : orderingRead s o false = readFailed s j errUrCa := by
  simp [orderingRead, hj, hph, hfinal]

end Sys2Proof.Machine
end

section
open Sys2Proof.Machine

/-- Settles O10, by what each completion does with the command whose read it answers. -/
theorem hostAccessesComplete : Obligations.HostAccessesComplete := by
  refine ⟨?_, ?_, ?_, ?_, ?_⟩
  · intro s o j q bs hj hph hun hreads hlen hsent
    exact congrArg Host.Outcome.next (hostDmaReadCompletion_last hj hph hun hreads hlen hsent)
  · intro s b j q rest r bit hj hp hph hun hreads hsent hr
    obtain ⟨hends, herrs⟩ := readFailed_hostRead (bit := bit) hj hp hph hreads hsent
    exact ⟨_, congrArg Host.Outcome.next (hostDmaReadCompletion_fails hj hph hun hreads hr), hends,
      congrArg Prod.fst herrs, congrArg Prod.snd herrs⟩
  · intro s b j q rest hj hp hph hun hreads hsent
    have hj' : (timerTaken s 16).job? (.mailbox b) = some j := (job?_congr (by simp) _).trans hj
    obtain ⟨hends, herrs⟩ := readFailed_hostRead (bit := errCplTimeout) hj' hp hph hreads (by simpa using hsent)
    rw [dmaBind_timerTaken, portErrs_timerTaken] at herrs
    exact ⟨_, congrArg Host.Outcome.next (cplTimeout_of_hostRead hj hph hun hreads), hends, congrArg Prod.fst herrs,
      congrArg Prod.snd herrs⟩
  · intro s b j st bs appr hj hd hph hfinal hsent
    exact ⟨_, rfl, orderingRead_ends hj hd hph hfinal hsent⟩
  · intro s b j st bs appr hj hd hph hfinal hsent
    obtain ⟨hends, herrs⟩ := readFailed_ordering (bit := errUrCa) hj hd hph hfinal hsent
    exact ⟨_, congrArg Host.Outcome.next (orderingRead_fails hj hph hfinal), hends, herrs⟩

end

section
/-! ### Tables of entries: an entry removed, an entry that a count leaves out, and a change of every entry. -/

namespace Sys2Proof.Machine

variable {α : Type} {m : NMap α} {k : Nat} {v : α}

theorem NMap.erase_sublist : (m.erase k).Sublist m := by
  induction m with
  | nil => exact List.Sublist.slnil
  | cons e r ih =>
    simp only [NMap.erase]
    split
    · exact ih.trans (List.sublist_cons_self ..)
    · exact ih.cons_cons _

theorem NMap.length_filter_insert_le {P : Nat × α → Bool} (hP : P (k, v) = false) :
    ((NMap.insert m k v).filter P).length ≤ (m.filter P).length := by
  induction m with
  | nil => simp [NMap.insert, hP]
  | cons e r ih =>
    simp only [NMap.insert]
    split
    · simp [List.filter_cons, hP]
    · split
      · simp only [List.filter_cons, hP, Bool.false_eq_true, if_false]
        split <;> simp
      · simp only [List.filter_cons]
        split
        · exact Nat.succ_le_succ ih
        · exact ih

/-- An entry that the count leaves out, written over another, does not raise the count. -/
theorem NMap.length_filter_put_le [DecidableEq α] {d : α} {P : Nat × α → Bool} (hP : P (k, v) = false) :
    ((m.put d k v).filter P).length ≤ (m.filter P).length := by
  unfold NMap.put
  split
  · exact (NMap.erase_sublist.filter P).length_le
  · exact NMap.length_filter_insert_le hP

/-- A change of every entry that keeps the default, read where it gives another value. -/
theorem NMap.get_mapVal [DecidableEq α] {d : α} {f : α → α} (hd : f d = d) (hne : f (m.get d k) ≠ d) :
    (m.mapVal d f).get d k = f (m.get d k) := by
  induction m with
  | nil => exact absurd hd hne
  | cons e r ih =>
    simp only [NMap.get, NMap.mapVal, List.map_cons, NMap.look?_cons, List.filter_cons] at hne ih ⊢
    by_cases hk : k = e.1
    · subst hk
      simp only [if_true, Option.getD_some] at hne
      simp [hne, NMap.look?_cons]
    · simp only [hk, if_false] at hne ⊢
      split
      · simpa [NMap.look?_cons, hk] using ih hne
      · exact ih hne

end Sys2Proof.Machine
end

section
/-! ### SQ reads (R62, R64 to R67, R71): what the start of a fetch changes, and when it issues a read. -/

namespace Sys2Proof.Machine

variable {s : State} {b : BindId} {n m v : Nat} {q : QueuePair}

@[simp] theorem qp_foldl_send (l : List Msg) : (l.foldl State.send s).qp m = s.qp m := by simp [State.qp]

theorem qp_issueFetch_self : (issueFetch s n).qp n = { s.qp n with reading := some s.clk } := by simp [issueFetch]

theorem qp_issueFetch_of_ne (h : m ≠ n) : (issueFetch s n).qp m = s.qp m := by simp [issueFetch, qp_setQp_of_ne s _ h]

/-- A queue pair's fetch touches its own context only, and there no more than what is known of its SQ read. -/
theorem qp_fetchStart_self : ∃ r h, (fetchStart s n).qp n = { s.qp n with reading := r, held := h } := by
  unfold fetchStart
  dsimp only
  split
  · exact ⟨_, _, rfl⟩
  · split
    · exact ⟨_, _, qp_setQp_self ..⟩
    · split
      · exact ⟨_, _, rfl⟩
      · exact ⟨_, _, qp_issueFetch_self⟩

theorem qp_fetchStart_of_ne (h : m ≠ n) : (fetchStart s n).qp m = s.qp m := by
  unfold fetchStart
  dsimp only
  split
  · rfl
  · split
    · exact qp_setQp_of_ne s _ h
    · split
      · rfl
      · exact qp_issueFetch_of_ne h

theorem fetchStart_of_tag (hreading : (s.qp n).reading = none) (hcan : canFetch s n = true)
    (hslots : (fetchSlots (s.qp n)).2 ≠ 0) (hcls : (s.qp n).cls ≠ 0)
    (htag : tagFree s (s.qp n).bind.port (s.qp n).cls = true) : fetchStart s n = issueFetch s n := by
  simp [fetchStart, hreading, hcan, hslots, atAllowance, hcls, htag]

/-- Slots that do not wrap are read in one piece. -/
theorem readMsg_mem_issueFetch {first count : Nat} (hslots : fetchSlots (s.qp n) = (first, count)) (hpos : 0 < count)
    (hwrap : count ≤ 2 ^ (s.qp n).sqLog2 - first) :
    readMsg s (s.qp n).bind ((s.qp n).sqBase + 64 * first) (64 * count) ∈ (issueFetch s n).out := by
  have hne : count ≠ 0 := by omega
  simp [issueFetch, hslots, slotReads, Nat.min_eq_left hwrap, hne]

theorem ringCount_of_lt {head tail size : Nat} (h : head ≤ tail) (ht : tail < size) :
    ringCount head tail size = tail - head := by
  have hsum : tail + size - head = tail - head + size := by omega
  rw [ringCount, hsum, Nat.add_mod_right, Nat.mod_eq_of_lt (by omega)]

theorem openReads_setQp_le {p : PortId} {sel : Nat → Bool} (hq : q.reading = none) :
    openReads (s.setQp n q) p sel ≤ openReads s p sel := by
  have hjobs : readPort (s.setQp n q) = readPort s := rfl
  refine Nat.add_le_add (by simp [hjobs]) ?_
  exact NMap.length_filter_put_le (by simp [hq])

/-- Tags free stay free when a context without an SQ read is written. -/
theorem tagFree_setQp {p : PortId} {c : Nat} (hq : q.reading = none) (h : tagFree s p c = true) :
    tagFree (s.setQp n q) p c = true := by
  have hle : ∀ sel, openReads (s.setQp n q) p sel ≤ openReads s p sel := fun _ => openReads_setQp_le hq
  simp only [tagFree, Bool.and_eq_true, Bool.or_eq_true, decide_eq_true_eq] at h ⊢
  exact ⟨Nat.lt_of_le_of_lt (hle _) h.1, h.2.imp_right (Nat.lt_of_le_of_lt (hle _))⟩

/-! #### Arrivals of class 0 entries (R82, R83) -/

@[simp] theorem class0Arrives_slots {t : Nat} : (class0Arrives s t).slots = s.slots := by
  unfold class0Arrives
  dsimp only
  split <;> rfl

@[simp] theorem class0Arrives_mode {t : Nat} : (class0Arrives s t).mode = s.mode := by
  unfold class0Arrives
  dsimp only
  split <;> rfl

/-- What a failed condition of R82 makes of a queue pair's context. -/
def outOfBound (q : QueuePair) : QueuePair :=
  if q.cls = 0 then { q with arrivals := q.arrivals.map fun a => { a with oob := true } } else q

theorem outOfBound_eq (h : q.arrivals ≠ []) : ∃ l, outOfBound q = { q with arrivals := l } ∧ l ≠ [] := by
  by_cases hc : q.cls = 0
  · exact ⟨_, if_pos hc, by simpa using h⟩
  · exact ⟨_, if_neg hc, h⟩

/-- A failed condition of R82 marks the arrivals of a queue pair, no other part of its context. -/
theorem qp_flagClass0 (h : (s.qp n).arrivals ≠ []) : ∃ l, (flagClass0 s).qp n = { s.qp n with arrivals := l } := by
  obtain ⟨l, hl, hne⟩ := outOfBound_eq h
  have hget : (flagClass0 s).qp n = outOfBound (s.qp n) := by
    refine NMap.get_mapVal (f := outOfBound) rfl ?_
    intro hd
    exact hne (congrArg QueuePair.arrivals (hl.symm.trans hd))
  exact ⟨l, hget.trans hl⟩

theorem qp_class0Arrives {t : Nat} (h : (s.qp n).arrivals ≠ []) :
    ∃ l, (class0Arrives s t).qp n = { s.qp n with arrivals := l } := by
  unfold class0Arrives
  dsimp only
  split
  · exact qp_flagClass0 (s := { s with sched := _ }) h
  · exact ⟨_, rfl⟩

end Sys2Proof.Machine
end

section
/-! ### Doorbells (R38, R45, R62, R64, R65) -/

namespace Sys2Proof.Machine

variable {s : State} {b : BindId} {q off v n : Nat}

/-- The state in which a doorbell acts: the write is journalled and numbered. -/
def doorbellTaken (s : State) (b : BindId) (q off v : Nat) : State :=
  dispatchMerge (mmio s b.port b.func (0x1000 + 8 * q + off) 4 v) b

@[simp] theorem doorbellTaken_qps : (doorbellTaken s b q off v).qps = s.qps := by simp [doorbellTaken]
@[simp] theorem doorbellTaken_jobs : (doorbellTaken s b q off v).jobs = s.jobs := by simp [doorbellTaken]
@[simp] theorem doorbellTaken_slots : (doorbellTaken s b q off v).slots = s.slots := by simp [doorbellTaken]
@[simp] theorem doorbellTaken_mode : (doorbellTaken s b q off v).mode = s.mode := by simp [doorbellTaken]
@[simp] theorem doorbellTaken_clk : (doorbellTaken s b q off v).clk = s.clk := by simp [doorbellTaken]
@[simp] theorem qp_doorbellTaken (m : Nat) : (doorbellTaken s b q off v).qp m = s.qp m := by simp [State.qp]
@[simp] theorem qpnOf_doorbellTaken : qpnOf (doorbellTaken s b q off v) b q = qpnOf s b q := by simp [qpnOf]
@[simp] theorem port_doorbellTaken (p : PortId) : (doorbellTaken s b q off v).port p = s.port p :=
  port_congr (by simp [doorbellTaken]) (by simp [doorbellTaken]) p

theorem dormantTaken_capture {ty i : Nat} {l : List Nat} : (capture s ty i l).moon.dormantTaken = s.moon.dormantTaken := by
  unfold capture ambAppend
  split <;> rfl

@[simp] theorem dormantTaken_doorbellTaken : (doorbellTaken s b q off v).moon.dormantTaken = s.moon.dormantTaken :=
  dormantTaken_capture.trans dormantTaken_capture

@[simp] theorem openReads_doorbellTaken {p : PortId} {sel : Nat → Bool} :
    openReads (doorbellTaken s b q off v) p sel = openReads s p sel := by
  have hport : readPort (doorbellTaken s b q off v) = readPort s := by
    funext j
    simp [readPort, dmaBind, State.ten, doorbellTaken, dispatchMerge]
  simp [openReads, hport]

@[simp] theorem tagFree_doorbellTaken {p : PortId} {c : Nat} :
    tagFree (doorbellTaken s b q off v) p c = tagFree s p c := by
  simp [tagFree]

/-- A doorbell of a queue pair that is not FAULTED, outside HUSH. -/
theorem doorbell_of_qp {act : State → Nat → State} (hlive : bindLive s b = true) (hq : qpnOf s b q = some n)
    (hst : (s.qp n).state ≠ .faulted) (hhush : (act (doorbellTaken s b q off v) n).mode ≠ .hush) :
    doorbell s b q off v act = fetchStart (act (doorbellTaken s b q off v) n) n := by
  have hq' : qpnOf (doorbellTaken s b q off v) b q = some n := by simpa using hq
  have hst' : ((doorbellTaken s b q off v).qp n).state ≠ .faulted := by simpa using hst
  rw [doorbell, if_neg (by simp [hlive])]
  simp only [doorbellTaken] at hq' hst' hhush ⊢
  simp only [hq', if_neg hst', hushExit_of_ne hhush]

/-- A doorbell of no queue pair, outside HUSH. -/
theorem doorbell_stray {act : State → Nat → State} (hlive : bindLive s b = true) (hhush : s.mode ≠ .hush)
    (hq : qpnOf s b q = none) :
    doorbell s b q off v act = setErr (doorbellTaken s b q off v) b.port errDbStray b.func := by
  have hq' : qpnOf (doorbellTaken s b q off v) b q = none := by simpa using hq
  rw [doorbell, if_neg (by simp [hlive])]
  simp only [doorbellTaken] at hq' ⊢
  simp only [hq']
  exact hushExit_of_ne (by simpa using hhush)

/-! #### What a doorbell changes: its own queue pair, which then fetches -/

theorem jobs_fetchStart_setQp {c : QueuePair} :
    (fetchStart ((doorbellTaken s b q off v).setQp n c) n).jobs = s.jobs := by simp

theorem qp_fetchStart_setQp_of_ne {m : Nat} {c : QueuePair} (h : m ≠ n) :
    (fetchStart ((doorbellTaken s b q off v).setQp n c) n).qp m = s.qp m := by
  rw [qp_fetchStart_of_ne h, qp_setQp_of_ne _ _ h, qp_doorbellTaken]

theorem qp_fetchStart_setQp_self {c : QueuePair} :
    ∃ r h, (fetchStart ((doorbellTaken s b q off v).setQp n c) n).qp n = { c with reading := r, held := h } := by
  obtain ⟨r, h, hqp⟩ := qp_fetchStart_self (s := (doorbellTaken s b q off v).setQp n c) (n := n)
  rw [qp_setQp_self] at hqp
  exact ⟨r, h, hqp⟩

/-! #### The submission tail -/

/-- A queue pair whose tail a doorbell has moved at a device time. -/
def tailMoved (s : State) (n v : Nat) : QueuePair :=
  { s.qp n with
    sqTail := v
    arrivals := (s.qp n).arrivals ++ [{ tail := v, time := s.clk, hush := s.mode == .hush, oob := dmdDegraded s }] }

theorem tailArrives_of_cls (hcls : (s.qp n).cls ≠ 0) : tailArrives s n v = s.setQp n (tailMoved s n v) :=
  if_neg fun h => hcls h.1

theorem tailArrives_frame : (tailArrives s n v).slots = s.slots ∧ (tailArrives s n v).mode = s.mode ∧
    ∃ l, (tailArrives s n v).qp n = { s.qp n with sqTail := v, arrivals := l } := by
  unfold tailArrives
  dsimp only
  split
  · obtain ⟨l, hl⟩ := qp_class0Arrives (s := s.setQp n (tailMoved s n v)) (n := n) (t := s.clk) (by simp [tailMoved])
    rw [qp_setQp_self] at hl
    exact ⟨by simp, by simp, l, hl⟩
  · exact ⟨rfl, rfl, _, qp_setQp_self ..⟩

theorem sqTail_of_lt (hlive : bindLive s b = true) (hhush : s.mode ≠ .hush) (hq : qpnOf s b q = some n)
    (hst : (s.qp n).state ≠ .faulted) (hv : v < 2 ^ (s.qp n).sqLog2) :
    sqTail s b q v = fetchStart (tailArrives (doorbellTaken s b q 0 v) n v) n := by
  have hge : ¬ v ≥ 2 ^ ((doorbellTaken s b q 0 v).qp n).sqLog2 := by simpa using hv
  obtain ⟨-, hmode, -⟩ := tailArrives_frame (s := doorbellTaken s b q 0 v) (n := n) (v := v)
  rw [sqTail, doorbell_of_qp hlive hq hst]
  · rw [if_neg hge]
  · rw [if_neg hge, hmode]
    simpa using hhush

/-- A tail in range is loaded. -/
theorem sqTailDoorbell_loads (hlive : bindLive s b = true) (hhush : s.mode ≠ .hush) (hq : qpnOf s b q = some n)
    (hst : (s.qp n).state ≠ .faulted) (hv : v < 2 ^ (s.qp n).sqLog2) :
    ∃ u, exec (.sqTailDoorbell b q v) s = .next u ∧ (u.qp n).sqTail = v ∧ (u.qp n).sqHead = (s.qp n).sqHead ∧
      (u.qp n).dbBad = (s.qp n).dbBad ∧ u.slots = s.slots ∧
      ((s.qp n).cls ≠ 0 → u.jobs = s.jobs ∧ ∀ m, m ≠ n → u.qp m = s.qp m) := by
  refine ⟨_, congrArg Host.Outcome.next (sqTail_of_lt hlive hhush hq hst hv), ?_⟩
  obtain ⟨hslots, -, l, hl⟩ := tailArrives_frame (s := doorbellTaken s b q 0 v) (n := n) (v := v)
  obtain ⟨r, h, hqp⟩ := qp_fetchStart_self (s := tailArrives (doorbellTaken s b q 0 v) n v) (n := n)
  rw [hl, qp_doorbellTaken] at hqp
  rw [hqp, fetchStart_slots, hslots]
  refine ⟨rfl, rfl, rfl, by simp, fun hcls => ?_⟩
  rw [tailArrives_of_cls (by simpa using hcls)]
  exact ⟨jobs_fetchStart_setQp, fun m hm => qp_fetchStart_setQp_of_ne hm⟩

theorem satInc_eight (c : Nat) : satInc 8 c = min 255 (c + 1) := by
  unfold satInc
  split <;> omega

theorem dbBad_doorbellTaken : dbBad (doorbellTaken s b q off v) n =
    (doorbellTaken s b q off v).setQp n { s.qp n with dbBad := min 255 ((s.qp n).dbBad + 1) } := by
  simp [dbBad, satInc_eight]

/-- A tail out of range is counted. -/
theorem sqTailDoorbell_bad (hlive : bindLive s b = true) (hhush : s.mode ≠ .hush) (hq : qpnOf s b q = some n)
    (hst : (s.qp n).state ≠ .faulted) (hv : 2 ^ (s.qp n).sqLog2 ≤ v) :
    ∃ u, exec (.sqTailDoorbell b q v) s = .next u ∧ (u.qp n).dbBad = min 255 ((s.qp n).dbBad + 1) ∧
      (u.qp n).sqTail = (s.qp n).sqTail ∧ u.jobs = s.jobs ∧ ∀ m, m ≠ n → u.qp m = s.qp m := by
  have hge : v ≥ 2 ^ ((doorbellTaken s b q 0 v).qp n).sqLog2 := by simpa using hv
  have heq : sqTail s b q v = fetchStart (dbBad (doorbellTaken s b q 0 v) n) n := by
    rw [sqTail, doorbell_of_qp hlive hq hst]
    · rw [if_pos hge]
    · rw [if_pos hge, dbBad_doorbellTaken]
      simpa using hhush
  rw [dbBad_doorbellTaken] at heq
  refine ⟨_, congrArg Host.Outcome.next heq, ?_⟩
  obtain ⟨r, h, hqp⟩ := qp_fetchStart_setQp_self (s := s) (b := b) (q := q) (off := 0) (v := v) (n := n)
    (c := { s.qp n with dbBad := min 255 ((s.qp n).dbBad + 1) })
  rw [hqp]
  exact ⟨rfl, rfl, jobs_fetchStart_setQp, fun m hm => qp_fetchStart_setQp_of_ne hm⟩

/-- The state in which a queue pair of class 1 to 3 fetches once a doorbell has moved its tail. -/
def tailLoaded (s : State) (b : BindId) (q n v : Nat) : State :=
  (doorbellTaken s b q 0 v).setQp n (tailMoved (doorbellTaken s b q 0 v) n v)

section
variable (s b q n v)

@[simp] theorem qp_tailLoaded_self : (tailLoaded s b q n v).qp n = tailMoved (doorbellTaken s b q 0 v) n v := qp_setQp_self ..
@[simp] theorem sqLog2_tailLoaded : ((tailLoaded s b q n v).qp n).sqLog2 = (s.qp n).sqLog2 := by simp [tailMoved]
@[simp] theorem tailLoaded_clk : (tailLoaded s b q n v).clk = s.clk := by simp [tailLoaded]
@[simp] theorem tailLoaded_mode : (tailLoaded s b q n v).mode = s.mode := by simp [tailLoaded]
@[simp] theorem dormantTaken_tailLoaded : (tailLoaded s b q n v).moon.dormantTaken = s.moon.dormantTaken := by
  simp [tailLoaded]
@[simp] theorem port_tailLoaded (p : PortId) : (tailLoaded s b q n v).port p = s.port p :=
  (port_congr (s := doorbellTaken s b q 0 v) rfl rfl p).trans (port_doorbellTaken p)
@[simp] theorem canDma_tailLoaded (c : BindId) : canDma (tailLoaded s b q n v) c = canDma s c := by simp [canDma, State.fn]
@[simp] theorem readMsg_tailLoaded (c : BindId) (addr len : Nat) :
    readMsg (tailLoaded s b q n v) c addr len = readMsg s c addr len := by
  simp [readMsg, maxRead, State.fn]
@[simp] theorem cqSpace_tailLoaded : cqSpace (tailLoaded s b q n v) n = cqSpace s n := by
  have hjobs : qpJobs (tailLoaded s b q n v) n = qpJobs s n := by simp [tailLoaded, qpJobs]
  simp [cqSpace, tailMoved, hjobs]

end

/-- The slots that a tail past the head shows: no more than 33, and none past the end of the ring. -/
theorem fetchSlots_tailLoaded (hkept : (s.qp n).keptHeader = none) (hv : v < 2 ^ (s.qp n).sqLog2) (hhead : (s.qp n).sqHead < v) :
    fetchSlots ((tailLoaded s b q n v).qp n) = ((s.qp n).sqHead, min (v - (s.qp n).sqHead) 33) := by
  simp [tailMoved, fetchSlots, hkept, ringCount_of_lt (Nat.le_of_lt hhead) hv]

theorem canFetch_tailLoaded (hmode : s.mode = .service) (hdorm : s.moon.dormantTaken = false) (hst : (s.qp n).state = .active)
    (hdma : canDma s (s.qp n).bind = true) (hspace : cqSpace s n = true) (hhead : (s.qp n).sqHead < v) :
    canFetch (tailLoaded s b q n v) n = true := by
  simp [canFetch, hspace, tailMoved, hst, hdma, Nat.ne_of_lt hhead, hmode, hdorm]

theorem tagFree_tailLoaded {p : PortId} {c : Nat} (hreading : (s.qp n).reading = none) (htag : tagFree s p c = true) :
    tagFree (tailLoaded s b q n v) p c = true :=
  tagFree_setQp (by simpa [tailMoved] using hreading) (by simpa using htag)

/-- The slots that a tail shows past the head, up to 33, are read. -/
theorem sqTailDoorbell_fetches (hlive : bindLive s b = true) (hmode : s.mode = .service) (hdorm : s.moon.dormantTaken = false)
    (hq : qpnOf s b q = some n) (hst : (s.qp n).state = .active) (hcls : (s.qp n).cls ≠ 0) (hkept : (s.qp n).keptHeader = none)
    (hreading : (s.qp n).reading = none) (hbind : (s.qp n).bind = b) (hdma : canDma s b = true) (hspace : cqSpace s n = true)
    (htag : tagFree s b.port (s.qp n).cls = true) (hv : v < 2 ^ (s.qp n).sqLog2) (hhead : (s.qp n).sqHead < v) :
    ∃ u, exec (.sqTailDoorbell b q v) s = .next u ∧ (u.qp n).reading = some s.clk ∧
      readMsg s b ((s.qp n).sqBase + 64 * (s.qp n).sqHead) (64 * min (v - (s.qp n).sqHead) 33) ∈ u.out := by
  have htail : sqTail s b q v = fetchStart (tailLoaded s b q n v) n := by
    rw [sqTail_of_lt hlive (by simp [hmode]) hq (by simp [hst]) hv, tailArrives_of_cls (by simpa using hcls), tailLoaded]
  have hslots := fetchSlots_tailLoaded (b := b) (q := q) hkept hv hhead
  have hissue : fetchStart (tailLoaded s b q n v) n = issueFetch (tailLoaded s b q n v) n := by
    have hcan := canFetch_tailLoaded (b := b) (q := q) hmode hdorm hst (hbind ▸ hdma) hspace hhead
    refine fetchStart_of_tag ?_ hcan ?_ ?_ (tagFree_tailLoaded hreading ?_)
    · simpa [tailMoved] using hreading
    · rw [hslots]
      show min (v - (s.qp n).sqHead) 33 ≠ 0
      omega
    · simpa [tailMoved] using hcls
    · simpa [tailMoved, hbind] using htag
  refine ⟨_, congrArg Host.Outcome.next (htail.trans hissue), ?_, ?_⟩
  · simp [qp_issueFetch_self]
  · have hmem := readMsg_mem_issueFetch hslots (by omega) (by rw [sqLog2_tailLoaded]; omega)
    simpa [tailMoved, hbind] using hmem

/-! #### The completion head -/

theorem cqHead_of_le (hlive : bindLive s b = true) (hhush : s.mode ≠ .hush) (hq : qpnOf s b q = some n)
    (hst : (s.qp n).state ≠ .faulted) (hv : v < 2 ^ (s.qp n).cqLog2)
    (hle : ringCount (s.qp n).cqHead v (2 ^ (s.qp n).cqLog2) ≤
      ringCount (s.qp n).cqHead (s.qp n).cqTail (2 ^ (s.qp n).cqLog2)) :
    cqHead s b q v = fetchStart ((doorbellTaken s b q 4 v).setQp n { s.qp n with cqHead := v }) n := by
  have hok : ¬ (v ≥ 2 ^ (s.qp n).cqLog2 ∨
      ringCount (s.qp n).cqHead v (2 ^ (s.qp n).cqLog2) > ringCount (s.qp n).cqHead (s.qp n).cqTail (2 ^ (s.qp n).cqLog2)) := by
    omega
  rw [cqHead, doorbell_of_qp hlive hq hst]
  · simp only [qp_doorbellTaken, if_neg hok]
  · simpa only [qp_doorbellTaken, if_neg hok, setQp_mode, doorbellTaken_mode] using hhush

/-- A head within the entries posted is loaded. -/
theorem cqHeadDoorbell_loads (hlive : bindLive s b = true) (hhush : s.mode ≠ .hush) (hq : qpnOf s b q = some n)
    (hst : (s.qp n).state ≠ .faulted) (hv : v < 2 ^ (s.qp n).cqLog2)
    (hle : ringCount (s.qp n).cqHead v (2 ^ (s.qp n).cqLog2) ≤
      ringCount (s.qp n).cqHead (s.qp n).cqTail (2 ^ (s.qp n).cqLog2)) :
    ∃ u, exec (.cqHeadDoorbell b q v) s = .next u ∧ (u.qp n).cqHead = v ∧ (u.qp n).dbBad = (s.qp n).dbBad ∧
      u.jobs = s.jobs ∧ ∀ m, m ≠ n → u.qp m = s.qp m := by
  refine ⟨_, congrArg Host.Outcome.next (cqHead_of_le hlive hhush hq hst hv hle), ?_⟩
  obtain ⟨r, h, hqp⟩ := qp_fetchStart_setQp_self (s := s) (b := b) (q := q) (off := 4) (v := v) (n := n)
    (c := { s.qp n with cqHead := v })
  rw [hqp]
  exact ⟨rfl, rfl, jobs_fetchStart_setQp, fun m hm => qp_fetchStart_setQp_of_ne hm⟩

/-- A head past the entries posted is counted. -/
theorem cqHeadDoorbell_bad (hlive : bindLive s b = true) (hhush : s.mode ≠ .hush) (hq : qpnOf s b q = some n)
    (hst : (s.qp n).state ≠ .faulted)
    (hgt : ringCount (s.qp n).cqHead (s.qp n).cqTail (2 ^ (s.qp n).cqLog2) <
      ringCount (s.qp n).cqHead v (2 ^ (s.qp n).cqLog2)) :
    ∃ u, exec (.cqHeadDoorbell b q v) s = .next u ∧ (u.qp n).cqHead = (s.qp n).cqHead ∧
      (u.qp n).dbBad = min 255 ((s.qp n).dbBad + 1) ∧ u.jobs = s.jobs ∧ ∀ m, m ≠ n → u.qp m = s.qp m := by
  have heq : cqHead s b q v = fetchStart (dbBad (doorbellTaken s b q 4 v) n) n := by
    rw [cqHead, doorbell_of_qp hlive hq hst]
    · simp only [qp_doorbellTaken, gt_iff_lt, if_pos (Or.inr hgt)]
    · simp only [qp_doorbellTaken, gt_iff_lt, if_pos (Or.inr hgt), dbBad_doorbellTaken]
      simpa using hhush
  rw [dbBad_doorbellTaken] at heq
  refine ⟨_, congrArg Host.Outcome.next heq, ?_⟩
  obtain ⟨r, h, hqp⟩ := qp_fetchStart_setQp_self (s := s) (b := b) (q := q) (off := 4) (v := v) (n := n)
    (c := { s.qp n with dbBad := min 255 ((s.qp n).dbBad + 1) })
  rw [hqp]
  exact ⟨rfl, rfl, jobs_fetchStart_setQp, fun m hm => qp_fetchStart_setQp_of_ne hm⟩

end Sys2Proof.Machine
end

section
/-! ### The entry that an SQ read brings (R66, R71, R72) -/

namespace Sys2Proof.Machine

variable {s : State} {n : Nat} {bs : Bytes}

/-- A field within the bytes kept of a string is the string's. -/
theorem u16_take {off k : Nat} (h : off + 2 ≤ k) : u16 (bs.take k) off = u16 bs off := by
  have hk : min 2 (k - off) = 2 := by omega
  simp [u16, slice, List.drop_take, List.take_take, hk]

theorem entrySlots_take : entrySlots (bs.take 64) = entrySlots bs := by simp [entrySlots, u16_take]

/-- The answer to an outstanding read of a queue pair that may fetch. -/
theorem sqFetch_of_reading {r : DmaResult} (hcan : canFetch s n = true) (hreading : (s.qp n).reading ≠ none)
    (hfault : rangeFault s.mem (qpLines n).1 (qpLines n).2 = none) : sqFetch s n r = fetchArrives s n r := by
  have hsome : (s.qp n).reading.isSome = true := Option.isSome_iff_ne_none.2 hreading
  simp [sqFetch, hfault, hcan, hsome]

theorem fetchFailed_of_sent {bit : Nat} (hsent : ∀ k ∈ s.jobs, k.unsent = false) :
    fetchFailed s n bit =
      setErr (s.setQp n { s.qp n with state := .faulted, reading := none }) (s.qp n).bind.port bit (s.qp n).bind.func :=
  readsGo_of_sent (by simpa using hsent)

theorem sqEntryFetch_fails {r : DmaResult} {bit : Nat} (hcan : canFetch s n = true) (hreading : (s.qp n).reading ≠ none)
    (hfault : rangeFault s.mem (qpLines n).1 (qpLines n).2 = none) (hsent : ∀ k ∈ s.jobs, k.unsent = false)
    (hr : r = .ur ∧ bit = errUrCa ∨ r = .ca ∧ bit = errUrCa ∨ r = .poisoned ∧ bit = errPoisoned) :
    sqFetch s n r =
      setErr (s.setQp n { s.qp n with state := .faulted, reading := none }) (s.qp n).bind.port bit (s.qp n).bind.func := by
  rw [sqFetch_of_reading hcan hreading hfault]
  rcases hr with ⟨rfl, rfl⟩ | ⟨rfl, rfl⟩ | ⟨rfl, rfl⟩ <;> exact fetchFailed_of_sent hsent

/-- The context of a queue pair from which an entry has been taken. -/
def entryTaken (s : State) (n : Nat) (e : Bytes) : QueuePair :=
  { s.qp n with sqHead := ((s.qp n).sqHead + entrySlots e) % 2 ^ (s.qp n).sqLog2, keptHeader := none,
                nextSeq := (s.qp n).nextSeq + 1, held := false, reading := none,
                arrivals := arrivalsAfter (s.qp n) (entrySlots e) }

/-- The state in which an entry taken is in flight: its read is journalled and its queue pair has moved on. -/
def entryPassed (s : State) (n : Nat) (e : Bytes) : State :=
  (controlRead (s.setQp n (entryTaken s n e)) (s.qp n).bind (e.take 65536)).addJob (entryJob s n (s.qp n) e)

theorem takeEntry_of_checked (hcls : (s.qp n).cls ≠ 0) (hcheck : entryCheck s (entryJob s n (s.qp n) bs) bs = none) :
    takeEntry s n bs = fetchStart (entryPassed s n bs) n := by
  have hcount : ∀ t a, countArrival t (entryJob s n (s.qp n) bs) a = t := fun t a => if_pos hcls
  simp only [takeEntry, hcheck, hcount, entryPassed, entryTaken]

/-- The bytes of a whole entry. -/
theorem sqBytes_whole (hkept : (s.qp n).keptHeader = none) (hframe : framingBad (s.qp n) (bs.take 64) = false)
    (hlen : bs.length = 64 * entrySlots (bs.take 64))
    (havail : entrySlots (bs.take 64) ≤ ringCount (s.qp n).sqHead (s.qp n).sqTail (2 ^ (s.qp n).sqLog2)) :
    sqBytes s n bs = takeEntry s n bs := by
  have hslot : 0 < entrySlots (bs.take 64) := by
    unfold entrySlots
    omega
  have hhead : ¬ (bs.take 64).length < 64 := by
    rw [List.length_take]
    omega
  simp only [sqBytes, hkept, if_neg hhead, hframe, Bool.false_eq_true, if_false, if_neg (Nat.not_lt.2 havail), if_pos hlen]

@[simp] theorem entryPassed_jobs : (entryPassed s n bs).jobs = s.jobs ++ [entryJob s n (s.qp n) bs] := by
  simp [entryPassed, controlRead]
@[simp] theorem entryPassed_slots : (entryPassed s n bs).slots = s.slots := by simp [entryPassed, controlRead]
@[simp] theorem entryPassed_tenants : (entryPassed s n bs).tenants = s.tenants := by simp [entryPassed, controlRead]
@[simp] theorem entryPassed_qps : (entryPassed s n bs).qps = s.qps.put {} n (entryTaken s n bs) := by
  simp [entryPassed, controlRead]

theorem qp_entryPassed_self : (entryPassed s n bs).qp n = entryTaken s n bs := by simp [State.qp]

theorem qp_entryPassed_of_ne {m : Nat} (h : m ≠ n) : (entryPassed s n bs).qp m = s.qp m := by
  simp [State.qp, NMap.get_put_of_ne _ _ _ h]

theorem sqEntryFetch_whole (hcan : canFetch s n = true) (hreading : (s.qp n).reading ≠ none)
    (hfault : rangeFault s.mem (qpLines n).1 (qpLines n).2 = none) (hsent : ∀ k ∈ s.jobs, k.unsent = false)
    (hcls : (s.qp n).cls ≠ 0) (hkept : (s.qp n).keptHeader = none) (hframe : framingBad (s.qp n) (bs.take 64) = false)
    (hlen : bs.length = 64 * entrySlots (bs.take 64))
    (havail : entrySlots (bs.take 64) ≤ ringCount (s.qp n).sqHead (s.qp n).sqTail (2 ^ (s.qp n).sqLog2))
    (hcheck : entryCheck s (entryJob s n (s.qp n) bs) bs = none) :
    ∃ t, exec (.sqEntryFetch n (.data bs)) s = .next t ∧ t.jobs = s.jobs ++ [entryJob s n (s.qp n) bs] ∧
      (t.qp n).sqHead = ((s.qp n).sqHead + entrySlots (bs.take 64)) % 2 ^ (s.qp n).sqLog2 ∧
      (t.qp n).nextSeq = (s.qp n).nextSeq + 1 ∧ (t.qp n).sqTail = (s.qp n).sqTail ∧
      (∀ m, m ≠ n → t.qp m = s.qp m) ∧ t.slots = s.slots ∧ t.tenants = s.tenants := by
  have hfetch : sqFetch s n (.data bs) = fetchStart (entryPassed s n bs) n := by
    rw [sqFetch_of_reading hcan hreading hfault]
    show readsGo (sqBytes s n bs) = _
    rw [sqBytes_whole hkept hframe hlen havail, takeEntry_of_checked hcls hcheck]
    refine readsGo_of_sent fun k hk => ?_
    rw [fetchStart_jobs, entryPassed_jobs, List.mem_append, List.mem_singleton] at hk
    rcases hk with hk | rfl
    · exact hsent k hk
    · rfl
  refine ⟨_, congrArg Host.Outcome.next hfetch, ?_⟩
  obtain ⟨r, h, hqp⟩ := qp_fetchStart_self (s := entryPassed s n bs) (n := n)
  rw [hqp, qp_entryPassed_self, entrySlots_take]
  refine ⟨by simp, rfl, rfl, rfl, fun m hm => ?_, by simp, by simp⟩
  rw [qp_fetchStart_of_ne hm, qp_entryPassed_of_ne hm]

end Sys2Proof.Machine
end

section
open Sys2Proof.Machine

/-- Settles O12, by the lemma of each doorbell and of each answer to an SQ read. -/
theorem queueRingsMove : Obligations.QueueRingsMove :=
  ⟨fun _ _ _ _ _ hlive hhush hq hst hv => sqTailDoorbell_loads hlive hhush hq hst hv,
   fun _ _ _ _ _ hlive hmode hdorm hq hst hcls hkept hreading hbind hdma hspace htag hv _ hhead =>
      sqTailDoorbell_fetches hlive hmode hdorm hq hst hcls hkept hreading hbind hdma hspace htag hv hhead,
   fun _ _ _ _ _ hlive hhush hq hst hv => sqTailDoorbell_bad hlive hhush hq hst hv,
   fun _ _ _ _ _ hlive hhush hq hst hv hle => cqHeadDoorbell_loads hlive hhush hq hst hv hle,
   fun _ _ _ _ _ hlive hhush hq hst _ hgt => cqHeadDoorbell_bad hlive hhush hq hst hgt,
   fun _ _ _ _ hlive hhush hq => congrArg Host.Outcome.next (doorbell_stray hlive hhush hq),
   fun _ _ _ _ hcan hreading hfault hsent hr =>
      congrArg Host.Outcome.next (sqEntryFetch_fails hcan hreading hfault hsent hr),
   fun _ _ _ hcan hreading hfault hsent hcls hkept hframe hlen havail hcheck =>
      sqEntryFetch_whole hcan hreading hfault hsent hcls hkept hframe hlen havail hcheck⟩

end

section
/-! ### Bus Master Enable cleared while the SQ read of a queue pair is outstanding (R44, R66) -/

namespace Sys2Proof.Machine

/-- A state in SERVICE in which an ACTIVE queue pair of PF0 of port A, whose link is up and whose Bus Master Enable is set, has
its SQ read outstanding; no command is in flight. -/
def fetchingState : State :=
  { State.reset with
    mode := .service
    portA := { dlUp := true, funcs := [(0, { bme := true })] }
    qps := [(0, { state := .active, sqLog2 := 6, cqLog2 := 6, sqTail := 1, reading := some 0 })] }

/-- The lost SQ read leaves the queue pair FAULTED. -/
theorem bmeClear_fetchingState_faulted : ((bmeClear fetchingState .a 0).qp 0).state = .faulted := rfl

theorem setFn_fetchingState_active (v : FuncState) : ((fetchingState.setFn .a 0 v).qp 0).state = .active := rfl

end Sys2Proof.Machine
end

section
open Sys2Proof.Machine

/-- Refutes O11: its clause on Bus Master Enable cleared asks that no command has a read outstanding, but not that no queue
pair has. In `fetchingState` the write loses an SQ read, so it changes the queue pair beside the enable. -/
theorem not_hostPortsFollowLinksAndResets : ¬ Obligations.HostPortsFollowLinksAndResets := by
  rintro ⟨-, -, -, -, -, hbme, -⟩
  have hclear : bmeClear fetchingState .a 0 = fetchingState.setFn .a 0 { fetchingState.fn .a 0 with bme := false } :=
    Host.Outcome.next.inj (hbme fetchingState .a 0 fun j hj => absurd hj List.not_mem_nil)
  have hstate := congrArg (fun t => (t.qp 0).state) hclear
  rw [bmeClear_fetchingState_faulted, setFn_fetchingState_active] at hstate
  cases hstate

end

section
/-! ### The start of a job (R73, R79 to R81, R84): what the start charges and holds, and when a job does not start. -/

namespace Sys2Proof.Machine

variable {s : State} {o : Origin} {i j : Job} {d : Nat}

/-! #### What a start charges -/

/-- The deficits are all that a start charges before the buckets. -/
theorem chargeDeficits_frame : ∃ c, chargeDeficits s j = { s with sched := c } := ⟨_, rfl⟩

@[simp] theorem ten_chargeDeficits (n : Nat) : (chargeDeficits s j).ten n = s.ten n := rfl

/-- The buckets that a start charges are the tenant's. -/
theorem chargeBuckets_frame : ∃ t, chargeBuckets s j = { s with tenants := t } := by
  unfold chargeBuckets
  split
  · exact ⟨_, rfl⟩
  · split
    · exact ⟨_, rfl⟩
    · exact ⟨_, rfl⟩

/-- A tenant's context from whose buckets one operation and a job's cost have been taken. -/
def chargedTen (c : Tenant) (j : Job) : Tenant :=
  { c with opBalance := c.opBalance - 1, byteBalance := c.byteBalance - costOf j }

theorem chargeBuckets_of_limited (howner : j.owner = false) (hcls : j.cls ≠ 0) (hext : ∀ n, j.origin ≠ .internal n)
    (hop : (s.ten j.tenant).grant.opRate ≠ 0) (hbyte : (s.ten j.tenant).grant.byteRate ≠ 0) :
    chargeBuckets s j = s.setTen j.tenant (chargedTen (s.ten j.tenant) j) := by
  unfold chargeBuckets
  split
  next h => simp [howner, hcls] at h
  next =>
    split
    next n hn => exact absurd hn (hext n)
    next => simp only [if_neg hop, if_neg hbyte, chargedTen]

/-! #### The state that a start leads to -/

/-- The state in which a job has started and been charged, and its dispatcher is still to be held. -/
def chargedStart (s : State) (j : Job) : State :=
  (chargeBuckets (chargeDeficits s j) j).setJob { j with phase := .started }

/-- A start writes the scheduler's record, the tenants' buckets and the job. -/
theorem chargedStart_frame :
    ∃ c t, chargedStart s j = { s with sched := c, tenants := t }.setJob { j with phase := .started } := by
  obtain ⟨c, hc⟩ := chargeDeficits_frame (s := s) (j := j)
  obtain ⟨t, ht⟩ := chargeBuckets_frame (s := { s with sched := c }) (j := j)
  exact ⟨c, t, by rw [chargedStart, hc, ht]⟩

theorem job?_chargedStart (hj : s.job? o = some j) : (chargedStart s j).job? o = some { j with phase := .started } := by
  obtain ⟨c, t, h⟩ := chargedStart_frame (s := s) (j := j)
  have ho : j.origin = o := origin_of_job? hj
  rw [h]
  exact job?_setJob_self (s := { s with sched := c, tenants := t }) hj ho

/-- A started job holds its dispatcher, and a class 0 job a credit at the vault arbiter. -/
def jobStarted (s : State) (o : Origin) (j : Job) (d : Nat) : State :=
  holdDispatcher (if j.cls = 0 then takeCredit (chargedStart s j) .vault o else chargedStart s j) d o

theorem jobStarted_of_cls (hcls : j.cls ≠ 0) : jobStarted s o j d = holdDispatcher (chargedStart s j) d o := by
  rw [jobStarted, if_neg hcls]

/-- Beside what the start charges, the job's dispatcher and its credit are all that the scheduler writes. -/
theorem jobStarted_frame : ∃ c, jobStarted s o j d = { chargedStart s j with sched := c } ∧ (d, o) ∈ c.dispatchers := by
  unfold jobStarted
  split
  · unfold takeCredit
    split
    · exact ⟨_, rfl, by simp⟩
    · exact ⟨_, rfl, by simp⟩
  · exact ⟨_, rfl, by simp⟩

/-- No class 0 job waits that could start, as the scheduler asks it. -/
theorem class0_any_eligible_eq_false (h : ∀ i ∈ s.jobs, i.cls = 0 → eligible s i = false) :
    (s.jobs.any fun i => i.cls == 0 && eligible s i) = false := by
  refine List.any_eq_false.2 fun i hi => ?_
  by_cases hc : i.cls = 0
  · simp [h i hi hc]
  · simp [hc]

theorem schedStart_starts (hj : s.job? o = some j) (he : eligible s j = true)
    (h0 : j.cls ≠ 0 → ∀ i ∈ s.jobs, i.cls = 0 → eligible s i = false) (hr : reached s j = true)
    (hcredit : j.cls = 0 → creditFree s .vault = true) (hd : dispatcherFor s j = some d) :
    schedStart s o = jobStarted s o j d := by
  have hclass0 : ¬ (j.cls ≠ 0 ∧ (s.jobs.any fun i => i.cls == 0 && eligible s i) = true) := by
    rintro ⟨hcls, hany⟩
    exact Bool.false_ne_true ((class0_any_eligible_eq_false (h0 hcls)).symm.trans hany)
  have hturn : ¬ (reached s j = false ∨ (j.cls = 0 ∧ creditFree s .vault = false)) := by
    rintro (h | ⟨hcls, h⟩)
    · exact Bool.false_ne_true (h.symm.trans hr)
    · exact Bool.false_ne_true (h.symm.trans (hcredit hcls))
  simp only [schedStart, hj, he, Bool.true_eq_false, if_false, if_neg hclass0, if_neg hturn, hd, jobStarted, chargedStart]

/-- An eligible job that the round robin has reached starts and holds its dispatcher. -/
theorem schedJobStart_starts (hj : s.job? o = some j) (he : eligible s j = true)
    (h0 : j.cls ≠ 0 → ∀ i ∈ s.jobs, i.cls = 0 → eligible s i = false) (hr : reached s j = true)
    (hcredit : j.cls = 0 → creditFree s .vault = true) (hd : dispatcherFor s j = some d) :
    ∃ t, exec (.schedJobStart o) s = .next t ∧ t.job? o = some { j with phase := .started } ∧ (d, o) ∈ t.sched.dispatchers ∧
      t.slots = s.slots ∧ t.qps = s.qps ∧ t.regs = s.regs ∧ t.mode = s.mode := by
  refine ⟨_, congrArg Host.Outcome.next (schedStart_starts hj he h0 hr hcredit hd), ?_⟩
  obtain ⟨c, hstart, hmem⟩ := jobStarted_frame (s := s) (o := o) (j := j) (d := d)
  obtain ⟨c', t, hcharged⟩ := chargedStart_frame (s := s) (j := j)
  have hjob : (jobStarted s o j d).job? o = some { j with phase := .started } := by
    rw [hstart]
    exact job?_chargedStart hj
  refine ⟨hjob, ?_⟩
  rw [hstart, hcharged]
  exact ⟨hmem, rfl, rfl, rfl, rfl⟩

/-- The start of a tenant's job of class 1 to 3 whose grant limits both buckets. -/
theorem schedJobStart_charges (hj : s.job? o = some j) (he : eligible s j = true) (howner : j.owner = false) (hcls : j.cls ≠ 0)
    (h0 : ∀ i ∈ s.jobs, i.cls = 0 → eligible s i = false) (hr : reached s j = true) (hd : dispatcherFor s j = some d)
    (hext : ∀ n, j.origin ≠ .internal n) (hop : (s.ten j.tenant).grant.opRate ≠ 0)
    (hbyte : (s.ten j.tenant).grant.byteRate ≠ 0) :
    ∃ t, exec (.schedJobStart o) s = .next t ∧
      t.ten j.tenant = { s.ten j.tenant with opBalance := (s.ten j.tenant).opBalance - 1,
                                             byteBalance := (s.ten j.tenant).byteBalance - costOf j } ∧
      (∀ n, n ≠ j.tenant → t.ten n = s.ten n) := by
  have hten : ∀ n, (jobStarted s o j d).ten n =
      ((chargeDeficits s j).setTen j.tenant (chargedTen (s.ten j.tenant) j)).ten n := by
    intro n
    rw [jobStarted_of_cls hcls, chargedStart,
      chargeBuckets_of_limited howner hcls hext (by simpa using hop) (by simpa using hbyte)]
    rfl
  refine ⟨_, congrArg Host.Outcome.next (schedStart_starts hj he (fun _ => h0) hr (absurd · hcls) hd), ?_, fun n hn => ?_⟩
  · rw [hten, ten_setTen_self]
    rfl
  · rw [hten, ten_setTen_of_ne _ _ hn, ten_chargeDeficits]

/-! #### When a job does not start -/

/-- Class 0 comes first (R79). -/
theorem schedStart_of_class0 (hj : s.job? o = some j) (hcls : j.cls ≠ 0) (hi : i ∈ s.jobs) (hi0 : i.cls = 0)
    (he : eligible s i = true) : schedStart s o = s := by
  have hclass0 : j.cls ≠ 0 ∧ (s.jobs.any fun i => i.cls == 0 && eligible s i) = true :=
    ⟨hcls, List.any_eq_true.2 ⟨i, hi, by simp [hi0, he]⟩⟩
  simp only [schedStart, hj, if_pos hclass0, ite_self]

/-- A job is not reached before the head of a participant of its class that needs fewer rounds (R80). -/
theorem reached_eq_false_of_fewer_rounds (hi : i ∈ s.jobs) (hcls : i.cls = j.cls) (he : eligible s i = true)
    (hhead : isHead s i = true) (hlt : tenantRounds s i < tenantRounds s j)
    (huniq : ∀ k ∈ s.jobs, k.origin = j.origin → k = j) : reached s j = false := by
  have hmem : i ∈ headsOf s j.cls := List.mem_filter.2 ⟨hi, by simp [hcls, he, hhead]⟩
  have hnone : ((nextOf s j.cls).any (·.origin == j.origin)) = false := by
    refine List.any_eq_false.2 fun k hk horigin => ?_
    obtain ⟨hkhead, hleast⟩ := List.mem_filter.1 hk
    have hkj : k = j := huniq k (List.mem_of_mem_filter hkhead) (by simpa using horigin)
    have hle : tenantRounds s k ≤ tenantRounds s i := by simpa using List.all_eq_true.1 hleast i hmem
    rw [hkj] at hle
    omega
  simp [reached, hnone]

theorem schedStart_of_not_reached (hj : s.job? o = some j) (hr : reached s j = false) : schedStart s o = s := by
  have hturn : reached s j = false ∨ (j.cls = 0 ∧ creditFree s .vault = false) := Or.inl hr
  simp only [schedStart, hj, if_pos hturn, ite_self]

end Sys2Proof.Machine
end

section
/-! ### A tenant's buckets and spoof limit, and the coalescing timer (R78, R81, R261, R269) -/

namespace Sys2Proof.Machine

variable {s : State} {n t us : Nat}

theorem bucketRefill_of_limited (hst : (s.ten t).state ≠ .free) (hop : (s.ten t).grant.opRate ≠ 0)
    (hbyte : (s.ten t).grant.byteRate ≠ 0) :
    bucketRefill s t us = (timerTaken s 14).setTen t { s.ten t with
      opBalance := min ((s.ten t).opBalance + ((s.ten t).grant.opRate * us / 1000000 : Nat)) (s.ten t).grant.opDepth,
      byteBalance := min ((s.ten t).byteBalance + ((s.ten t).grant.byteRate * us : Nat))
        ((s.ten t).grant.byteDepth * 1024 : Nat) } := by
  simp only [bucketRefill, if_neg hst, refilled, if_neg hop, if_neg hbyte]

@[simp] theorem ten_timerTaken (island : Nat) : (timerTaken s island).ten n = s.ten n := by simp [State.ten]

/-! #### The quiesce of a tenant with ABORT (R265) -/

/-- What a quiesce with ABORT makes of a job: a tenant's uncommitted work is to end at its next abort point. -/
def quiescedJob (t : Nat) (j : Job) : Job := if isTenantWork t j && !j.committed then { j with abortReq := true } else j

/-- A quiesced job that is the tenant's uncommitted work has been asked to end. -/
theorem abortReq_quiescedJob {j : Job} (hwork : isTenantWork t (quiescedJob t j) = true)
    (hcommit : (quiescedJob t j).committed = false) : (quiescedJob t j).abortReq = true := by
  by_cases h : (isTenantWork t j && !j.committed) = true
  · rw [quiescedJob, if_pos h]
  · rw [quiescedJob, if_neg h] at hwork hcommit
    exact absurd (by simp [hwork, hcommit]) h

/-- The context of an ACTIVE tenant whose quiesce begins. -/
def quiescingTen (c : Tenant) : Tenant := { c with state := .quiescing, jobsEnded := 0, jobsAborted := 0 }

theorem quiesceTenant_abort_of_active (hst : (s.ten t).state = .active) :
    (∀ n, (quiesceTenant s t true).ten n = (s.setTen t (quiescingTen (s.ten t))).ten n) ∧
      (quiesceTenant s t true).jobs = s.jobs.map (quiescedJob t) := by
  simp only [quiesceTenant, if_pos hst, if_true]
  exact ⟨fun _ => rfl, rfl⟩

theorem spoofLimit_of_reached (hst : (s.ten t).state = .active) (hlimit : (s.ten t).grant.spoofLimit ≠ 0)
    (hcount : (s.ten t).grant.spoofLimit ≤ (s.ten t).spoofCount) :
    spoofLimit s t = recordEvent (quiesceTenant s t true) 0x8D09 t (s.ten t).spoofCount 0 := if_pos ⟨hst, hlimit, hcount⟩

@[simp] theorem ten_recordEvent {c p0 p1 p2 : Nat} : (recordEvent s c p0 p1 p2).ten n = s.ten n := by simp [State.ten]

/-- A tenant whose spoofs reach its limit is quiesced. -/
theorem spoofLimitReached_quiesces (hst : (s.ten t).state = .active) (hlimit : (s.ten t).grant.spoofLimit ≠ 0)
    (hcount : (s.ten t).grant.spoofLimit ≤ (s.ten t).spoofCount) :
    ∃ u, exec (.spoofLimitReached t) s = .next u ∧ (u.ten t).state = .quiescing ∧ (u.ten t).spoofCount = (s.ten t).spoofCount ∧
      (∀ j ∈ u.jobs, isTenantWork t j = true → j.committed = false → j.abortReq = true) ∧
      (∀ n, n ≠ t → u.ten n = s.ten n) := by
  obtain ⟨hten, hjobs⟩ := quiesceTenant_abort_of_active hst
  refine ⟨_, congrArg Host.Outcome.next (spoofLimit_of_reached hst hlimit hcount), ?_⟩
  rw [ten_recordEvent, hten, ten_setTen_self, recordEvent_jobs, hjobs]
  refine ⟨rfl, rfl, fun j hj => ?_, fun n hn => ?_⟩
  · obtain ⟨k, -, rfl⟩ := List.mem_map.1 hj
    exact abortReq_quiescedJob
  · rw [ten_recordEvent, hten, ten_setTen_of_ne _ _ hn]

/-! #### The coalescing timer -/

/-- A vector that may be sent is sent (R46). -/
theorem msix_mem_raiseVector {p : PortId} {f v : Nat} (hmsix : (s.fn p f).msixEnable = true) (hup : (s.port p).dlUp = true)
    (hbme : (s.fn p f).bme = true) (hmask : (s.fn p f).funcMask = false) (hvec : (s.fn p f).unmasked.contains v = true) :
    .msix p f v ∈ (raiseVector s p f v).out := by
  have hissue : raiseVector s p f v = crossing (s.send (.msix p f v)) 0x0F p.num 1 1 := by
    simp only [raiseVector, hmsix, hup, hbme, hmask, hvec, Bool.true_eq_false, or_self, if_false, Bool.not_true, Bool.or_self,
      Bool.false_eq_true]
  simp [hissue]

/-- The state in which an expired coalescing timer raises the vector: a new count has begun. -/
def coalTaken (s : State) (n : Nat) : State := timerTaken (s.setQp n { s.qp n with uncoalesced := 0 }) 14

@[simp] theorem port_coalTaken (p : PortId) : (coalTaken s n).port p = s.port p :=
  port_congr (by simp [coalTaken]) (by simp [coalTaken]) p

@[simp] theorem fn_coalTaken (p : PortId) (f : Nat) : (coalTaken s n).fn p f = s.fn p f := by simp [State.fn]

theorem coalExpire_of_waiting (hst : (s.qp n).state ≠ .free) (hcount : (s.qp n).uncoalesced ≠ 0)
    (htime : (s.qp n).coalTime ≠ 0) :
    coalExpire s n = raiseVector (coalTaken s n) (s.qp n).bind.port (s.qp n).bind.func (s.qp n).vector := by
  have hwaits : ¬ ((s.qp n).state = .free ∨ (s.qp n).uncoalesced = 0 ∨ (s.qp n).coalTime = 0) := by
    simp [hst, hcount, htime]
  exact if_neg hwaits

/-- The coalescing timer starts a new count, and raises the vector where it may be sent. -/
theorem coalTimeExpire_raises (hst : (s.qp n).state ≠ .free) (hcount : (s.qp n).uncoalesced ≠ 0)
    (htime : (s.qp n).coalTime ≠ 0) :
    ∃ u, exec (.coalTimeExpire n) s = .next u ∧ u.qp n = { s.qp n with uncoalesced := 0 } ∧ u.jobs = s.jobs ∧
      ((s.fn (s.qp n).bind.port (s.qp n).bind.func).msixEnable = true → (s.port (s.qp n).bind.port).dlUp = true →
        (s.fn (s.qp n).bind.port (s.qp n).bind.func).bme = true → (s.fn (s.qp n).bind.port (s.qp n).bind.func).funcMask = false →
        (s.fn (s.qp n).bind.port (s.qp n).bind.func).unmasked.contains (s.qp n).vector = true →
        .msix (s.qp n).bind.port (s.qp n).bind.func (s.qp n).vector ∈ u.out) := by
  refine ⟨_, congrArg Host.Outcome.next (coalExpire_of_waiting hst hcount htime), ?_, ?_, ?_⟩
  · simp [State.qp, coalTaken]
  · simp [coalTaken]
  · intro hmsix hup hbme hmask hvec
    exact msix_mem_raiseVector (by simpa using hmsix) (by simpa using hup) (by simpa using hbme) (by simpa using hmask)
      (by simpa using hvec)

end Sys2Proof.Machine
end

section
open Sys2Proof.Machine

/-- Settles O13, by what a start of the scheduler writes, by the two reasons for which a job waits, and by the lemma of each
timer and limit. -/
theorem schedulerAndBuckets : Obligations.SchedulerAndBuckets :=
  ⟨fun _ _ _ _ hj he h0 hr hcredit hd => schedJobStart_starts hj he h0 hr hcredit hd,
   fun _ _ _ _ hj he howner hcls h0 hr hd hext hop hbyte =>
      schedJobStart_charges hj he howner hcls h0 hr hd hext hop hbyte,
   fun _ _ _ _ hj hcls hi hi0 he => congrArg Host.Outcome.next (schedStart_of_class0 hj hcls hi hi0 he),
   fun _ _ _ _ hj hi hcls he hhead hlt huniq =>
      congrArg Host.Outcome.next (schedStart_of_not_reached hj (reached_eq_false_of_fewer_rounds hi hcls he hhead hlt huniq)),
   fun _ _ _ hst hop hbyte =>
      ⟨_, congrArg Host.Outcome.next (bucketRefill_of_limited hst hop hbyte), ten_setTen_self ..,
       fun _ hn => (ten_setTen_of_ne _ _ hn).trans (ten_timerTaken ..), timerTaken_jobs .., timerTaken_slots ..⟩,
   fun _ _ hst hlimit hcount => spoofLimitReached_quiesces hst hlimit hcount,
   fun _ _ hst hcount htime => coalTimeExpire_raises hst hcount htime⟩

end

section
/-! ### QP_CREATE and QP_DELETE (R66, R68, R70) -/

namespace Sys2Proof.Machine

variable {s : State} {o : Origin} {b : BindId} {j : Job} {n : Nat}

/-- The end of a mailbox command changes no queue pair. -/
theorem qps_endJob_mailbox {st : Nat} {res : Bytes} {appr : Bool} (ho : j.origin = .mailbox b) (hp : Plain j) :
    (endJob s j st res appr).qps = s.qps := by
  rw [endJob_mailbox ho hp]
  simp [endState]

theorem qps_okJob_mailbox {res : Bytes} (ho : j.origin = .mailbox b) (hp : Plain j) : (okJob s j res).qps = s.qps :=
  qps_endJob_mailbox ho hp

theorem qps_dropWith_mailbox {st : Nat} (ho : j.origin = .mailbox b) (hp : Plain j) : (dropWith s j st).qps = s.qps := by
  rw [dropWith, failJob, qps_endJob_mailbox ho hp, releaseJob_qps]

/-! What QP_CREATE and QP_DELETE check does not depend on what the command holds of the scheduler. -/

theorem qpCreateCheck_freeSched : qpCreateCheck (freeSched s o) j = qpCreateCheck s j := rfl

theorem qpDeleteCheck_freeSched : qpDeleteCheck (freeSched s o) j = qpDeleteCheck s j := rfl

theorem qpCreate_of_checked (hcheck : qpCreateCheck s j = none) (hn : freeQpn s = some n) :
    qpCreate j s = okJob (openQp s n (newQp j)) j (leBytes 2 n ++ zeros 6) := by
  simp only [qpCreate, checked, hcheck, hn, Option.getD_some]

/-- A create that passes its checks writes the context that it took from the pool. -/
theorem qpCreate_creates (h : Runs s (.mailbox b) C.QP_CREATE 0 j) (hp : Plain j) (hcheck : qpCreateCheck s j = none)
    (hn : freeQpn s = some n) :
    ∃ u, exec (.qpCreate (.mailbox b)) s = .next u ∧ Ends u b S.OK (leBytes 2 n ++ zeros 6) ∧ u.qp n = newQp j ∧
      (∀ m, m ≠ n → u.qp m = s.qp m) ∧ u.slots = s.slots := by
  have hrun : runCommand C.QP_CREATE (.mailbox b) s qpCreate =
      okJob (openQp (freeSched s (.mailbox b)) n (newQp j)) j (leBytes 2 n ++ zeros 6) := by
    rw [runCommand_runs h, qpCreate_of_checked (qpCreateCheck_freeSched.trans hcheck) hn]
  have hqps : (okJob (openQp (freeSched s (.mailbox b)) n (newQp j)) j (leBytes 2 n ++ zeros 6)).qps =
      s.qps.put {} n (newQp j) := qps_okJob_mailbox h.origin hp
  refine ⟨_, congrArg Host.Outcome.next hrun, okJob_ends h.origin hp _, ?_, fun m hm => ?_, okJob_slots ..⟩
  · rw [State.qp, hqps, NMap.get_put_self]
  · rw [State.qp, hqps, NMap.get_put_of_ne _ _ _ hm, State.qp]

theorem qpDeleteCheck_of_idle (hst : (s.qp (u16 j.ops 0)).state ≠ .free) (hbind : (s.qp (u16 j.ops 0)).bind = j.bind)
    (hjobs : qpJobs s (u16 j.ops 0) = [])
    (hring : (s.qp (u16 j.ops 0)).state = .active → (s.qp (u16 j.ops 0)).sqHead = (s.qp (u16 j.ops 0)).sqTail) :
    qpDeleteCheck s j = none := by
  by_cases hactive : (s.qp (u16 j.ops 0)).state = .active
  · simp [qpDeleteCheck, firstFail, failIf, hbind, hjobs, hactive, hring hactive]
  · simp [qpDeleteCheck, firstFail, failIf, hst, hbind, hjobs, hactive]

theorem qpDeleteCheck_of_free (hst : (s.qp (u16 j.ops 0)).state = .free) : qpDeleteCheck s j = some S.E_NOT_OWNER := by
  simp [qpDeleteCheck, firstFail, failIf, hst]

theorem qpDelete_of_checked (hcheck : qpDeleteCheck s j = none) : qpDelete j s = okJob (closeQp s (u16 j.ops 0)) j [] := by
  simp only [qpDelete, checked, hcheck]

theorem qpDelete_of_refused {st : Nat} (hcheck : qpDeleteCheck s j = some st) : qpDelete j s = dropWith s j st := by
  simp only [qpDelete, checked, hcheck]

/-- A delete that passes its checks clears the context. -/
theorem qpDelete_clears (h : Runs s (.mailbox b) C.QP_DELETE 0 j) (hp : Plain j) (hcheck : qpDeleteCheck s j = none) :
    ∃ u, exec (.qpDelete (.mailbox b)) s = .next u ∧ Ends u b S.OK [] ∧ u.qp (u16 j.ops 0) = {} ∧
      (∀ m, m ≠ u16 j.ops 0 → u.qp m = s.qp m) ∧ u.slots = s.slots := by
  have hrun : runCommand C.QP_DELETE (.mailbox b) s qpDelete =
      okJob (closeQp (freeSched s (.mailbox b)) (u16 j.ops 0)) j [] := by
    rw [runCommand_runs h, qpDelete_of_checked (qpDeleteCheck_freeSched.trans hcheck)]
  have hqps : (okJob (closeQp (freeSched s (.mailbox b)) (u16 j.ops 0)) j []).qps = s.qps.put {} (u16 j.ops 0) {} :=
    qps_okJob_mailbox h.origin hp
  refine ⟨_, congrArg Host.Outcome.next hrun, okJob_ends h.origin hp _, ?_, fun m hm => ?_, okJob_slots ..⟩
  · rw [State.qp, hqps, NMap.get_put_self]
  · rw [State.qp, hqps, NMap.get_put_of_ne _ _ _ hm, State.qp]

/-- A delete that fails a check ends with its status and changes no queue pair. -/
theorem qpDelete_refused {st : Nat} (h : Runs s (.mailbox b) C.QP_DELETE 0 j) (hp : Plain j)
    (hcheck : qpDeleteCheck s j = some st) :
    ∃ u, exec (.qpDelete (.mailbox b)) s = .next u ∧ Ends u b st [] ∧ u.qps = s.qps := by
  have hrun : runCommand C.QP_DELETE (.mailbox b) s qpDelete = dropWith (freeSched s (.mailbox b)) j st := by
    rw [runCommand_runs h, qpDelete_of_refused (qpDeleteCheck_freeSched.trans hcheck)]
  exact ⟨_, congrArg Host.Outcome.next hrun, endJob_ends h.origin hp .., qps_dropWith_mailbox h.origin hp⟩

end Sys2Proof.Machine
end

section
open Sys2Proof.Machine

/-- Settles O14, by the checks of each command and the context that it writes. -/
theorem queuePairsCreatedAndDeleted : Obligations.QueuePairsCreatedAndDeleted :=
  ⟨fun _ _ _ _ hrun hp hcheck hn => qpCreate_creates hrun hp hcheck hn,
   fun _ _ _ hrun hp hst hbind hjobs hring => qpDelete_clears hrun hp (qpDeleteCheck_of_idle hst hbind hjobs hring),
   fun _ _ _ hrun hp hst => qpDelete_refused hrun hp (qpDeleteCheck_of_free hst)⟩

end

section
/-! ### The state beside the journal and one generator (R244, R245, R477): what a capture and a draw change. -/

namespace Sys2Proof.Machine

variable {s t : State} {j : Job} {n len : Nat}

/-- An entry of the journal changes the ring and the bytes staged for it. -/
theorem capture_frame {ty island : Nat} {body : List Nat} :
    ∃ a m, capture s ty island body = { s with amber := a, moon := m } := by
  unfold capture
  split
  · exact ⟨_, _, rfl⟩
  · exact ⟨_, _, rfl⟩

/-- The bytes that a generator gives to one request. -/
def drbgBytes (s : State) (n len : Nat) : Bytes := (List.range len).map (Config.drbgOut (s.drbgs.get {} n).kv len)

/-- The state after one request of a generator that needs no reseed. -/
def drawn (s : State) (n len : Nat) : State :=
  setDrbg (crossing s 0x07 0 n 1) n
    { s.drbgs.get {} n with requests := (s.drbgs.get {} n).requests + 1, kv := Config.drbgNext (s.drbgs.get {} n).kv len }

theorem drawn_frame : ∃ d a m, drawn s n len = { s with drbgs := d, amber := a, moon := m } := by
  obtain ⟨a, m, h⟩ : ∃ a m, crossing s 0x07 0 n 1 = { s with amber := a, moon := m } := capture_frame
  exact ⟨_, a, m, by rw [drawn, h]; rfl⟩

@[simp] theorem drawn_manifests : (drawn s n len).manifests = s.manifests := by simp [drawn, setDrbg]
@[simp] theorem drawn_nextManifest : (drawn s n len).nextManifest = s.nextManifest := by simp [drawn, setDrbg]

theorem request_of_lt (h : (s.drbgs.get {} n).requests < 2 ^ 19) :
    request (crossing s 0x07 0 n 1) n len = (drbgBytes s n len, drawn s n len) := by
  have hfar : ¬ ((s.drbgs.get {} n).requests + 1 ≥ 2 ^ 20 - 4096) := by omega
  simp only [request, crossing_drbgs, hfar, false_and, if_false, drbgBytes, drawn]

/-- A generator with requests left serves a draw of at most 65,536 bytes in one request. -/
theorem draw_of_inst {cls0 : Bool} (hinst : (s.drbgs.get {} n).inst = true) (hreq : (s.drbgs.get {} n).requests < 2 ^ 19)
    (hpos : 0 < len) (hlen : len ≤ 65536) : draw s n len cls0 = .ok (drbgBytes s n len) (drawn s n len) := by
  have hone : (len + 65535) / 65536 = 1 := by omega
  have hseed : ¬ ((s.drbgs.get {} n).requests ≥ 2 ^ 20) := by omega
  simp only [draw, hinst, hone, requests, crossing_drbgs, hseed, Nat.min_eq_left hlen, request_of_lt hreq, Bool.true_eq_false,
    if_false, List.nil_append]

theorem withDraw_of_inst {k : Bytes → State → State} (hinst : (s.drbgs.get {} n).inst = true)
    (hreq : (s.drbgs.get {} n).requests < 2 ^ 19) (hpos : 0 < len) (hlen : len ≤ 65536) :
    withDraw s j n len k = k (drbgBytes s n len) (drawn s n len) := by
  simp only [withDraw, draw_of_inst hinst hreq hpos hlen]

end Sys2Proof.Machine
end

section
/-! ### Orders that the vault arbiter takes at once (R174, R175): what a bound order changes. -/

namespace Sys2Proof.Machine

variable {s t u : State} {o : Origin} {j : Job} {names : List Nat}

theorem man_congr {h : Nat} (hm : t.manifests = s.manifests) : t.man h = s.man h := by rw [State.man, hm, State.man]

/-- `t` differs from `s` at most in the commands in flight, in the scheduler and in the journal. -/
def Arbitrated (s t : State) : Prop := ∃ l c a m, t = { s with jobs := l, sched := c, amber := a, moon := m }

theorem Arbitrated.refl : Arbitrated s s := ⟨_, _, _, _, rfl⟩

theorem Arbitrated.trans (h : Arbitrated s t) (h' : Arbitrated t u) : Arbitrated s u := by
  obtain ⟨_, _, _, _, rfl⟩ := h
  obtain ⟨l, c, a, m, rfl⟩ := h'
  exact ⟨l, c, a, m, rfl⟩

/-! What the arbiter leaves as it was. -/

theorem Arbitrated.qps (h : Arbitrated s t) : t.qps = s.qps := by
  obtain ⟨_, _, _, _, rfl⟩ := h
  rfl

theorem Arbitrated.sealEngines (h : Arbitrated s t) : t.sealEngines = s.sealEngines := by
  obtain ⟨_, _, _, _, rfl⟩ := h
  rfl

theorem Arbitrated.zeroised (h : Arbitrated s t) : t.zeroised = s.zeroised := by
  obtain ⟨_, _, _, _, rfl⟩ := h
  rfl

theorem Arbitrated.tree (h : Arbitrated s t) (m : Nat) : t.tree m = s.tree m := by
  obtain ⟨_, _, _, _, rfl⟩ := h
  rfl

theorem Arbitrated.mem (h : Arbitrated s t) : t.mem = s.mem := by
  obtain ⟨_, _, _, _, rfl⟩ := h
  rfl

theorem Arbitrated.leafCheck (h : Arbitrated s t) : leafCheck t = leafCheck s := by
  obtain ⟨_, _, _, _, rfl⟩ := h
  rfl

theorem Arbitrated.slotCheck (h : Arbitrated s t) : slotCheck t = slotCheck s := by
  obtain ⟨_, _, _, _, rfl⟩ := h
  rfl

theorem Arbitrated.manifests (h : Arbitrated s t) : t.manifests = s.manifests := by
  obtain ⟨_, _, _, _, rfl⟩ := h
  rfl

theorem Arbitrated.nextManifest (h : Arbitrated s t) : t.nextManifest = s.nextManifest := by
  obtain ⟨_, _, _, _, rfl⟩ := h
  rfl

theorem Arbitrated.drbgs (h : Arbitrated s t) : t.drbgs = s.drbgs := by
  obtain ⟨_, _, _, _, rfl⟩ := h
  rfl

/-! What changes no more than that. -/

theorem arbitrated_capture {ty island : Nat} {body : List Nat} : Arbitrated s (capture s ty island body) := by
  obtain ⟨a, m, h⟩ := capture_frame (s := s) (ty := ty) (island := island) (body := body)
  exact ⟨_, _, a, m, h⟩

theorem arbitrated_freeSched : Arbitrated s (freeSched s o) := ⟨_, _, _, _, rfl⟩

theorem arbitrated_bindOrder : Arbitrated s (bindOrder s j names).1 :=
  Arbitrated.trans ⟨_, _, _, _, rfl⟩ arbitrated_capture

theorem bindOrder_jobs {names : List Nat} : (bindOrder s j names).1.jobs = (s.setJob (bindOrder s j names).2).jobs := by
  simp [bindOrder, arbiterOutcome, State.setJob]

theorem commitOrder_of_none {k : State} (h : j.overtaken = none) : commitOrder s j k = k := by rw [commitOrder, h]

theorem Runs.code {c n : Nat} (h : Runs s o c n j) : j.code = c := by
  obtain ⟨-, hcode, -⟩ := h
  exact hcode

theorem Runs.phase {c n : Nat} (h : Runs s o c n j) : j.phase = .started := by
  obtain ⟨-, -, hphase, -⟩ := h
  exact hphase

theorem Runs.stage {c n : Nat} (h : Runs s o c n j) : j.stage = n := by
  obtain ⟨-, -, -, hstage, -⟩ := h
  exact hstage

theorem drbgBytes_freeSched {n len : Nat} : drbgBytes (freeSched s o) n len = drbgBytes s n len := rfl

theorem undisputed_freeSched (h : Undisputed s j) : Undisputed (freeSched s o) j := by
  obtain ⟨hcolour, hzero, horders, hcredits, hrest⟩ := h
  exact ⟨hcolour, hzero, horders, by simp [freeSched, hcredits], hrest⟩

end Sys2Proof.Machine
end

section
/-! ### Messages sent (R41, R48, R76): the end of a command adds messages and takes none back. -/

namespace Sys2Proof.Machine

variable {s t : State} {j k : Job} {n st : Nat} {b : BindId} {res : Bytes} {appr : Bool}

theorem out_grows_of_eq (h : t.out = s.out) : s.out <+: t.out := h ▸ ⟨[], List.append_nil _⟩

theorem out_grows_send {m : Msg} : s.out <+: (s.send m).out := ⟨[m], rfl⟩

theorem out_grows_ite {u : State} {c : Prop} [Decidable c] (ht : s.out <+: t.out) (hu : s.out <+: u.out) :
    s.out <+: (if c then t else u).out := by
  split
  · exact ht
  · exact hu

theorem out_grows_raiseVector {p : PortId} {f v : Nat} : s.out <+: (raiseVector s p f v).out := by
  unfold raiseVector
  dsimp only
  split
  · exact out_grows_of_eq rfl
  · split
    · exact out_grows_of_eq (setFn_out ..)
    · rw [crossing_out]
      exact out_grows_send

theorem out_grows_mailboxDone : s.out <+: (mailboxDone s b st res appr).out := by
  unfold mailboxDone
  dsimp only
  split
  · exact (out_grows_of_eq (by simp)).trans out_grows_raiseVector
  · exact out_grows_of_eq (by simp)

theorem out_grows_coalesce : s.out <+: (coalesce s n).out :=
  out_grows_ite ((out_grows_of_eq (t := s.setQp n _) (setQp_out ..)).trans out_grows_raiseVector)
    (out_grows_of_eq (setQp_out ..))

theorem out_grows_postCompletion {len : Nat} : s.out <+: (postCompletion s n j st res len appr).out := by
  unfold postCompletion
  dsimp only
  split
  · exact out_grows_of_eq rfl
  · split
    · exact out_grows_of_eq (setErr_out ..)
    · split
      · exact out_grows_of_eq (setQp_out ..)
      · refine List.IsPrefix.trans ?_ out_grows_coalesce
        rw [dmdStats_out, capture_out, crossing_out, setQp_out]
        exact out_grows_send

theorem out_grows_foldl {α : Type} {f : State → α → State} (hf : ∀ u x, u.out <+: (f u x).out) (l : List α) :
    s.out <+: (l.foldl f s).out := by
  induction l generalizing s with
  | nil => exact out_grows_of_eq rfl
  | cons x l ih => exact (hf s x).trans ih

theorem out_grows_fetchStart : s.out <+: (fetchStart s n).out := by
  unfold fetchStart
  dsimp only
  split
  · exact out_grows_of_eq rfl
  · split
    · exact out_grows_of_eq (setQp_out ..)
    · split
      · exact out_grows_of_eq rfl
      · exact (out_grows_of_eq (t := s.setQp n _) (setQp_out ..)).trans (out_grows_foldl (fun _ _ => out_grows_send) _)

theorem out_grows_fetchAll : s.out <+: (fetchAll s).out :=
  (out_grows_foldl (fun _ _ => out_grows_fetchStart) _).trans (out_grows_foldl (fun _ _ => out_grows_fetchStart) _)

theorem out_grows_finishJob : s.out <+: (finishJob s j st res n appr).out := by
  have hleft : s.out <+:
      ((freeSched (countSealErr (countEnded (manifestEntry s j st) j st) st) j.origin).dropJob j.origin).out :=
    out_grows_of_eq (by simp)
  unfold finishJob
  dsimp only
  split
  · exact hleft.trans (out_grows_of_eq (takeHeld_out ..))
  · split
    · exact hleft.trans out_grows_mailboxDone
    · split
      · exact hleft.trans (out_grows_postCompletion.trans out_grows_fetchAll)
      · exact hleft.trans (out_grows_postCompletion.trans out_grows_fetchStart)
    · exact hleft

theorem out_grows_orderAndFinish : s.out <+: (orderAndFinish s j st res n appr).out := by
  unfold orderAndFinish
  split
  · exact out_grows_finishJob
  · dsimp only
    split
    · exact (out_grows_of_eq (by simp)).trans out_grows_finishJob
    · exact out_grows_send

theorem out_grows_hostWrite {r : HostRef} {off : Nat} {bs : Bytes} {rel : Bool}
    (h : hostWrite s j r off bs rel = some (t, k)) : s.out <+: t.out := by
  unfold hostWrite at h
  split at h
  · cases h
    exact out_grows_of_eq rfl
  · dsimp only at h
    split at h
    · cases h
    · cases h
      exact out_grows_send

theorem out_grows_endJob : s.out <+: (endJob s j st res appr).out := by
  unfold endJob
  split
  · split
    · split
      next hw => exact (out_grows_hostWrite hw).trans ((out_grows_of_eq (capture_out ..)).trans out_grows_orderAndFinish)
      · exact (out_grows_of_eq (noteBlocked_out ..)).trans out_grows_orderAndFinish
    · exact out_grows_orderAndFinish
  · exact out_grows_orderAndFinish

end Sys2Proof.Machine
end

section
/-! ### Host DMA in states with the same ports and tenants (R41, R44): what may be issued, and what is issued. -/

namespace Sys2Proof.Machine

variable {s t u : State} {j : Job} {b : BindId} {r : HostRef} {off st : Nat} {bs res : Bytes} {rel appr : Bool}

/-- What the issue of host DMA depends on is alike in two states. -/
structure DmaAlike (s t : State) : Prop where
  portA : t.portA = s.portA
  portB : t.portB = s.portB
  tenants : t.tenants = s.tenants

namespace DmaAlike

protected theorem trans (h : DmaAlike s t) (h' : DmaAlike t u) : DmaAlike s u :=
  ⟨h'.portA.trans h.portA, h'.portB.trans h.portB, h'.tenants.trans h.tenants⟩

theorem fn (h : DmaAlike s t) (p : PortId) (f : Nat) : t.fn p f = s.fn p f := fn_congr h.portA h.portB p f

theorem canDma (h : DmaAlike s t) (b : BindId) : canDma t b = canDma s b := by
  rw [Machine.canDma, port_congr h.portA h.portB, h.fn, Machine.canDma]

theorem dmaBind (h : DmaAlike s t) (j : Job) (p : Nat) : dmaBind t j p = dmaBind s j p := by
  simp only [Machine.dmaBind, State.ten, h.tenants]

theorem writeMsg (h : DmaAlike s t) (b : BindId) (a : Nat) (bs : Bytes) (rel : Bool) :
    writeMsg t b a bs rel = writeMsg s b a bs rel := by
  simp only [Machine.writeMsg, maxPayload, h.fn]

theorem readMsg (h : DmaAlike s t) (b : BindId) (a n : Nat) : readMsg t b a n = readMsg s b a n := by
  simp only [Machine.readMsg, maxRead, h.fn]

end DmaAlike

theorem Arbitrated.dmaAlike (h : Arbitrated s t) : DmaAlike s t := by
  obtain ⟨_, _, _, _, rfl⟩ := h
  exact ⟨rfl, rfl, rfl⟩

theorem dmaAlike_capture {ty island : Nat} {body : List Nat} : DmaAlike s (capture s ty island body) :=
  ⟨capture_portA .., capture_portB .., capture_tenants ..⟩

theorem dmaAlike_send {m : Msg} : DmaAlike s (s.send m) := ⟨rfl, rfl, rfl⟩

/-! #### A command's writes -/

/-- The command of a write to a buffer: a write through the other port is marked (R43). -/
def wroteThrough (s : State) (j : Job) (r : HostRef) : Job :=
  if (dmaBind s j r.port).port = j.bind.port then j else { j with wroteOther := true }

/-- A buffer on the submitter's own port is written through that port. -/
theorem wroteThrough_own (h : r.port = 0) : wroteThrough s j r = j := by
  have hown : (dmaBind s j r.port).port = j.bind.port := by rw [dmaBind, if_pos h]
  exact if_pos hown

theorem wroteThrough_eq : ∃ w, wroteThrough s j r = { j with wroteOther := w } := by
  unfold wroteThrough
  split
  · exact ⟨_, rfl⟩
  · exact ⟨_, rfl⟩

theorem hostWrite_of_canDma (hbs : bs ≠ []) (hcan : canDma s (dmaBind s j r.port) = true) :
    hostWrite s j r off bs rel = some (s.send (writeMsg s (dmaBind s j r.port) (r.addr + off) bs rel), wroteThrough s j r) := by
  simp only [hostWrite, if_neg hbs, hcan, Bool.true_eq_false, if_false]
  rfl

/-- The state in which a queue command's result has been written to its RESULT buffer. -/
def resultSent (s : State) (j : Job) (res : Bytes) : State :=
  capture (s.send (writeMsg s (dmaBind s j j.result.port) j.result.addr res false)) 0x13 14 (digestBody 3 res)

/-- A queue command with a result longer than a completion entry holds writes it to RESULT (R76). -/
theorem endJob_result {q m : Nat} (ho : j.origin = .queue q m) (hlen : 16 < res.length) (hd : j.discard = false)
    (hcan : canDma s (dmaBind s j j.result.port) = true) :
    endJob s j st res appr = orderAndFinish (resultSent s j res) (wroteThrough s j j.result) st res res.length appr := by
  have hne : res ≠ [] := by
    rintro rfl
    cases hlen
  simp only [endJob, ho, if_pos (And.intro hlen hd), hostWrite_of_canDma hne hcan]
  rfl

theorem result_mem_endJob {q m : Nat} (ho : j.origin = .queue q m) (hlen : 16 < res.length) (hd : j.discard = false)
    (hcan : canDma s (dmaBind s j j.result.port) = true) :
    writeMsg s (dmaBind s j j.result.port) j.result.addr res false ∈ (endJob s j st res appr).out := by
  rw [endJob_result ho hlen hd hcan]
  refine out_grows_orderAndFinish.subset ?_
  simp [resultSent]

/-- A queue command that is not discarded is in flight no longer. -/
theorem job?_finishJob_queue {q m n : Nat} (ho : j.origin = .queue q m) (hd : j.discard = false) :
    (finishJob s j st res n appr).job? (.queue q m) = none := by
  have hjobs : (finishJob s j st res n appr).jobs = (s.dropJob (.queue q m)).jobs := by
    simp only [finishJob, hd, ho, Bool.false_eq_true, if_false]
    split <;> simp [State.dropJob]
  rw [job?_congr hjobs]
  exact job?_dropJob_self ..

/-- With RESULT on its own port and no byte written through the other, a queue command ends at once (R43). -/
theorem job?_endJob_result {q m : Nat} (ho : j.origin = .queue q m) (hlen : 16 < res.length) (hd : j.discard = false)
    (hcan : canDma s (dmaBind s j j.result.port) = true) (hown : j.result.port = 0) (hwrote : j.wroteOther = false) :
    (endJob s j st res appr).job? (.queue q m) = none := by
  rw [endJob_result ho hlen hd hcan, wroteThrough_own hown, orderAndFinish, if_pos (Or.inl hwrote)]
  exact job?_finishJob_queue ho hd

end Sys2Proof.Machine
end

section
/-! ### Tags (R27, R84): the reads outstanding where a command that reads nothing is set anew. -/

namespace Sys2Proof.Machine

variable {s t u : State} {o : Origin} {j k : Job} {p : PortId} {c : Nat}

/-- The command of a submission, where it is in flight, is at its dispatcher: it reads nothing. -/
def AtDispatcher (s : State) (o : Origin) : Prop := ∀ k ∈ s.jobs, k.origin = o → k.phase = .started

/-- Two states between which a command at its dispatcher is set anew, and host DMA stays as it was. -/
structure ReadsAlike (o : Origin) (s t : State) : Prop where
  dma : DmaAlike s t
  qps : t.qps = s.qps
  others : t.jobs.filter (·.origin != o) = s.jobs.filter (·.origin != o)
  before : AtDispatcher s o
  after : AtDispatcher t o

theorem others_setJob (ho : k.origin = o) : (s.setJob k).jobs.filter (·.origin != o) = s.jobs.filter (·.origin != o) := by
  simp only [State.setJob]
  induction s.jobs with
  | nil => rfl
  | cons i l ih =>
    by_cases hi : i.origin = o
    · simpa [hi, ho] using ih
    · simpa [hi, ho] using ih

theorem atDispatcher_setJob (h : AtDispatcher s o) (hk : k.phase = .started) : AtDispatcher (s.setJob k) o := by
  intro i hi hio
  obtain ⟨x, hx, rfl⟩ := List.mem_map.1 hi
  by_cases hxk : (x.origin == k.origin) = true
  · simpa only [if_pos hxk] using hk
  · rw [if_neg hxk] at hio ⊢
    exact h x hx hio

theorem readPort_of_started (h : j.phase = .started) : readPort s j = none := by simp only [readPort, h]

namespace ReadsAlike

protected theorem refl (h : AtDispatcher s o) : ReadsAlike o s s := ⟨⟨rfl, rfl, rfl⟩, rfl, rfl, h, h⟩

protected theorem setJob (h : ReadsAlike o s t) (ho : k.origin = o) (hk : k.phase = .started) : ReadsAlike o s (t.setJob k) :=
  ⟨h.dma.trans ⟨rfl, rfl, rfl⟩, h.qps, (others_setJob ho).trans h.others, h.before, atDispatcher_setJob h.after hk⟩

/-- A change of other parts of the state. -/
protected theorem of_jobs (h : ReadsAlike o s t) (hdma : DmaAlike t u) (hqps : u.qps = t.qps) (hjobs : u.jobs = t.jobs) :
    ReadsAlike o s u :=
  ⟨h.dma.trans hdma, hqps.trans h.qps, hjobs ▸ h.others, h.before, by
    intro i hi
    rw [hjobs] at hi
    exact h.after i hi⟩

theorem readPort (h : ReadsAlike o s t) : readPort t = readPort s := by
  funext j
  simp only [Machine.readPort, h.dma.dmaBind]

/-- The reads outstanding are those of the other commands. -/
theorem length_filter_reading {sel : Nat → Bool} (h : AtDispatcher s o) :
    (s.jobs.filter fun j => sel j.cls && Machine.readPort t j == some p).length =
      ((s.jobs.filter (·.origin != o)).filter fun j => sel j.cls && Machine.readPort t j == some p).length := by
  rw [List.filter_filter]
  congr 1
  refine List.filter_congr fun i hi => ?_
  by_cases hio : i.origin = o
  · simp [hio, readPort_of_started (h i hi hio)]
  · simp [hio]

theorem openReads (h : ReadsAlike o s t) (p : PortId) (sel : Nat → Bool) : openReads t p sel = openReads s p sel := by
  simp only [Machine.openReads]
  rw [length_filter_reading h.after, length_filter_reading h.before, h.others, h.readPort, h.qps]

theorem tagFree (h : ReadsAlike o s t) (p : PortId) (c : Nat) : tagFree t p c = tagFree s p c := by
  simp only [Machine.tagFree, h.openReads]

end ReadsAlike

end Sys2Proof.Machine
end

section
/-! ### A sealing job takes the engine that its lane or its class gives it (R119) -/

namespace Sys2Proof.Machine

variable {s : State} {o : Origin} {j : Job} {n : Nat}

/-- An engine is free for a sealing job that waits for one, and its lane is settled. -/
structure EngineReady (s : State) (j : Job) (n : Nat) : Prop where
  stage : j.stage = 50
  phase : j.phase = .started
  alone : ∀ k ∈ s.jobs, k.origin = j.origin → k = j
  usable : anyUsable s j.cls j = true
  lane : laneOf s j = j.lane
  engine : engineFor s j = some n

theorem setJob_of_alone (h : ∀ k ∈ s.jobs, k.origin = j.origin → k = j) : s.setJob j = s := by
  have hmap : s.jobs.map (fun k => if k.origin == j.origin then j else k) = s.jobs := by
    refine (List.map_congr_left fun k hk => ?_).trans (List.map_id _)
    by_cases hk' : k.origin = j.origin
    · simp [h k hk hk']
    · simp [hk']
  rw [State.setJob, hmap]

/-- The state in which an attempt starts: its order has left its lane, on which a credit returns, or its choice is journalled. -/
def laneLeft (s : State) (j : Job) (n : Nat) : State :=
  match j.lane with
  | some d => giveCredit s (.work d) j.origin
  | none => crossing s 0x08 (clusterOf n) 1 1

theorem arbitrated_laneLeft : Arbitrated s (laneLeft s j n) := by
  unfold laneLeft
  split
  · exact ⟨_, _, _, _, rfl⟩
  · exact arbitrated_capture

@[simp] theorem laneLeft_jobs : (laneLeft s j n).jobs = s.jobs := by
  unfold laneLeft
  split <;> simp

theorem placeSeal_of_engine {start : State → Job → Nat → State} (h : EngineReady s j n) :
    placeSeal s j start = start (laneLeft s j n) { j with lane := none } n := by
  have henter : enterLane s j = (s, j) := if_pos h.lane
  have hwaits : { j with stage := 50, phase := .started } = j := by
    rw [← h.stage, ← h.phase]
  have hleaves : { j with stage := 50, phase := .started, lane := none } = { j with lane := none } := by
    rw [← h.stage, ← h.phase]
  have husable : ¬ anyUsable s j.cls j = false := by simp [h.usable]
  simp only [placeSeal, if_neg husable, henter, hwaits, setJob_of_alone h.alone, h.engine, hleaves]
  rfl

end Sys2Proof.Machine
end

section
/-! ### The reads of an attempt (R96, R100, R119) -/

namespace Sys2Proof.Machine

variable {s t : State} {o : Origin} {j k : Job} {n : Nat} {w : SealWork} {r : HostRef} {rest : List HostRef}

/-- The first read of a command can be issued, and finds a tag. -/
structure ReadReady (s : State) (j : Job) (r : HostRef) : Prop where
  dma : canDma s (dmaBind s j r.port) = true
  tag : tagFree s (dmaBind s j r.port).port j.cls = true

theorem issueReads_of_ready (h : ReadReady s j r) : issueReads s j (r :: rest) =
    some (s.send (readMsg s (dmaBind s j r.port) r.addr r.len),
      { j with reads := r :: rest, readSince := s.clk, phase := .hostRead, unsent := false }) := by
  have hcan : ¬ canDma s (dmaBind s j r.port) = false := by simp [h.dma]
  have htag : ¬ tagFree s (dmaBind s j r.port).port j.cls = false := by simp [h.tag]
  simp only [issueReads, if_neg hcan, if_neg htag]

/-- The engine holds the work of the attempt, and the first of its reads is issued. -/
theorem sealReads_of_ready (h : ReadReady s j r) : ((sealReads s j n w (r :: rest)).seng n).work = some w ∧
    readMsg s (dmaBind s j r.port) r.addr r.len ∈ (sealReads s j n w (r :: rest)).out := by
  have h' : ReadReady (s.setSeng n { s.seng n with work := some w })
      { j with data := [], phase := .engine, afterReads := .engine } r := ⟨h.dma, h.tag⟩
  simp only [sealReads, issueReads_of_ready h']
  constructor
  · have hseng : ∀ e : SealEngine, ∀ m i, (((s.setSeng n e).send m).setJob i).seng n = e := fun e _ _ => seng_setSeng_self s n e
    rw [hseng]
  · rw [setJob_out, send_out]
    exact List.mem_append_right _ List.mem_cons_self

/-- A command whose fields that host DMA depends on are those of another reads as it does. -/
theorem ReadReady.of_alike (h : ReadReady s j r) (ht : ReadsAlike o s t) (hbind : k.bind = j.bind) (howner : k.owner = j.owner)
    (htenant : k.tenant = j.tenant) (hcls : k.cls = j.cls) : ReadReady t k r ∧ dmaBind t k r.port = dmaBind s j r.port := by
  have hd : dmaBind t k r.port = dmaBind s j r.port := by
    rw [ht.dma.dmaBind, dmaBind, dmaBind, hbind, howner, htenant]
  refine ⟨⟨?_, ?_⟩, hd⟩
  · rw [hd, ht.dma.canDma]
    exact h.dma
  · rw [hd, ht.tagFree, hcls]
    exact h.tag

end Sys2Proof.Machine
end

section
/-! ### The leaf of an attempt (R91, R96, R100, R190) -/

namespace Sys2Proof.Machine

variable {s t : State} {o : Origin} {j : Job} {n usage : Nat} {w : SealWork} {leaf : Bytes}

/-- The tree of a sealing job. -/
def treeOf (j : Job) : Nat := treeNum j.tenant (specOf j).epoch

/-- The order of a sealing job that has not been taken passes its checks, and the frontier holds the leaf's key. -/
structure LeafReady (s : State) (j : Job) (usage : Nat) (leaf : Bytes) : Prop where
  undisputed : Undisputed s j
  keep : j.keep = []
  tree : leafCheck s j (specOf j).epoch (specOf j).index = none
  pages : pagesFault s.mem (s.tree (treeOf j)).pages = none
  root : slotCheck s j .use (s.tree (treeOf j)).rootSlot (fun h => h.cls == 3) 1 usage = none
  key : leafKey (s.tree (treeOf j)).frontier (specOf j).index = some leaf

theorem stagedCheck_of_leafCheck {e x : Nat} (h : leafCheck s j e x = none) : stagedCheck s j e x = none := by
  unfold leafCheck at h
  split at h
  · cases h
  · assumption

/-- The job of a leaf order that has been taken: its tree and its extent stand in its arguments, its leaf is kept. -/
def leafJob (s : State) (j : Job) (leaf : Bytes) : Job :=
  { (bindOrder s j [(s.tree (treeOf j)).rootSlot]).2 with
    args := [treeOf j, (specOf j).index, attemptOf j, listGet 0 j.args 3, listGet 0 j.args 4], keep := [leaf] }

/-- The state in which the leaf of a taken order is delivered. -/
def leafTaken (s : State) (j : Job) (leaf : Bytes) : State :=
  (bindOrder s j [(s.tree (treeOf j)).rootSlot]).1.setJob (leafJob s j leaf)

/-- A leaf order that nothing disputes is taken, and its leaf is delivered. -/
theorem sealStart_of_leafReady (h : LeafReady s j (if j.code = C.SEAL then 1 else 2) leaf) :
    sealStart s j n = sealDeliver (leafTaken s j leaf) (leafJob s j leaf) n leaf := by
  obtain ⟨hundisputed, hkeep, htree, hpages, hslot, hkey⟩ := h
  have hbind : Arbitrated s (bindOrder s j [(s.tree (treeOf j)).rootSlot]).1 := arbitrated_bindOrder
  have hleaf : leafCheck (bindOrder s j [(s.tree (treeOf j)).rootSlot]).1 (bindOrder s j [(s.tree (treeOf j)).rootSlot]).2
      (specOf j).epoch (specOf j).index = none := by
    rw [hbind.leafCheck]
    exact htree
  have hroot : slotCheck (bindOrder s j [(s.tree (treeOf j)).rootSlot]).1 (bindOrder s j [(s.tree (treeOf j)).rootSlot]).2 .use
      (s.tree (treeOf j)).rootSlot (fun h => h.cls == 3) 1 (if j.code = C.SEAL then 1 else 2) = none := by
    rw [hbind.slotCheck]
    exact hslot
  have hstaged := stagedCheck_of_leafCheck hleaf
  simp only [treeOf] at hbind hleaf hroot hstaged hpages hkey
  simp only [sealStart, hkeep, takeOrder_undisputed hundisputed, hstaged, withFrontier, hbind.tree, hbind.mem, hpages, firstFail,
    hleaf, hroot, hkey]
  rfl

/-! #### The key and the nonce go to the engine -/

/-- The path cache of the job's tree holds its path. -/
def pathCached (s : State) (j : Job) : State :=
  s.setTree (treeOf j) { s.tree (treeOf j) with pathCache := some (specOf j).index }

/-- The work that an engine takes with a nonce. -/
def leafWork (j : Job) (leaf nonce : Bytes) : SealWork :=
  { origin := j.origin, attempt := attemptOf j, nonce := nonce, dk := dataKey leaf nonce, tree := treeOf j,
    extent := (specOf j).index, cls := j.cls }

/-- The buffer that an attempt reads first. -/
def firstRead (j : Job) : HostRef := if (specOf j).aad.len = 0 then (specOf j).src else (specOf j).aad

theorem reads_eq_firstRead {c : Prop} [Decidable c] :
    ∃ rest, (if (specOf j).aad.len = 0 then [] else [(specOf j).aad]) ++
      (if c then [(specOf j).src, (specOf j).src] else [(specOf j).src]) = firstRead j :: rest := by
  unfold firstRead
  by_cases h : (specOf j).aad.len = 0
  · by_cases hc : c
    · simp [h, hc]
    · simp [h, hc]
  · simp [h]

/-- An attempt begins with a nonce: its key and its first read, and the reads that follow. -/
def keyDelivered (s : State) (j : Job) (n : Nat) (leaf nonce : Bytes) (rest : List HostRef) : State :=
  sealReads (pathCached s j) { j with holds := [((pathCached s j).tree (treeOf j)).rootSlot] } n (leafWork j leaf nonce)
    (firstRead j :: rest)

/-- A SEAL takes its engine with a nonce drawn for the attempt. -/
theorem sealDeliver_seal (hcode : j.code = C.SEAL) (hinst : (s.drbgs.get {} (drbgOf j)).inst = true)
    (hreq : (s.drbgs.get {} (drbgOf j)).requests < 2 ^ 19) :
    ∃ rest, sealDeliver s j n leaf = keyDelivered (drawn s (drbgOf j) 12) j n leaf (drbgBytes s (drbgOf j) 12) rest := by
  obtain ⟨rest, hreads⟩ := reads_eq_firstRead (j := j) (c := j.code = C.SEAL ∧ (specOf j).mode = 1)
  refine ⟨rest, ?_⟩
  rw [keyDelivered, ← hreads]
  simp only [sealDeliver, drawIf, if_pos hcode, OfNat.ofNat_ne_zero, if_false,
    withDraw_of_inst hinst hreq (by decide : 0 < 12) (by decide : 12 ≤ 65536)]
  rfl

/-- A RECALL or VERIFY takes its engine with the nonce of its record. -/
theorem sealDeliver_record (hcode : j.code ≠ C.SEAL) :
    ∃ rest, sealDeliver s j n leaf = keyDelivered s j n leaf (slice (recordOf j) 32 12) rest := by
  obtain ⟨rest, hreads⟩ := reads_eq_firstRead (j := j) (c := j.code = C.SEAL ∧ (specOf j).mode = 1)
  refine ⟨rest, ?_⟩
  rw [keyDelivered, ← hreads]
  simp only [sealDeliver, drawIf, if_neg hcode, if_true]
  rfl

theorem keyDelivered_of_ready {nonce : Bytes} {rest : List HostRef} (h : ReadReady s j (firstRead j)) :
    ((keyDelivered s j n leaf nonce rest).seng n).work = some (leafWork j leaf nonce) ∧
      readMsg s (dmaBind s j (firstRead j).port) (firstRead j).addr (firstRead j).len ∈
        (keyDelivered s j n leaf nonce rest).out :=
  sealReads_of_ready (s := pathCached s j) ⟨h.dma, h.tag⟩

end Sys2Proof.Machine
end

section
/-! ### From the command's row to the engine (R91, R96, R100, R119) -/

namespace Sys2Proof.Machine

variable {s t : State} {o : Origin} {j k : Job} {n usage : Nat} {leaf : Bytes}

theorem EngineReady.atDispatcher (h : EngineReady s j n) : AtDispatcher s j.origin := by
  intro k hk hko
  rw [h.alone k hk hko, h.phase]

theorem EngineReady.freeSched (h : EngineReady s j n) : EngineReady (freeSched s o) j n :=
  ⟨h.stage, h.phase, h.alone, h.usable, h.lane, h.engine⟩

/-- The state in which a command's row starts an attempt. -/
def attemptState (s : State) (j : Job) (n : Nat) : State := laneLeft (freeSched s j.origin) j n

/-- The job of an attempt stands in no lane. -/
def attemptJob (j : Job) : Job := { j with lane := none }

theorem arbitrated_attemptState : Arbitrated s (attemptState s j n) := arbitrated_freeSched.trans arbitrated_laneLeft

theorem readsAlike_attemptState (h : AtDispatcher s j.origin) : ReadsAlike j.origin s (attemptState s j n) :=
  (ReadsAlike.refl h).of_jobs arbitrated_attemptState.dmaAlike arbitrated_attemptState.qps (by simp [attemptState])

theorem sched_laneLeft (horders : s.sched.orders = []) (hcredits : s.sched.credits = []) :
    (laneLeft s j n).sched.orders = [] ∧ (laneLeft s j n).sched.credits = [] := by
  unfold laneLeft
  split
  · exact ⟨horders, by simp [giveCredit, hcredits]⟩
  · simpa using ⟨horders, hcredits⟩

theorem undisputed_attempt (h : Undisputed s j) : Undisputed (attemptState s j n) (attemptJob j) := by
  obtain ⟨hcolour, hzero, horders, hcredits, hovertaken, hrevoked, hseq, hothers⟩ := undisputed_freeSched (o := j.origin) h
  obtain ⟨horders', hcredits'⟩ := sched_laneLeft (j := j) (n := n) horders hcredits
  refine ⟨hcolour, arbitrated_laneLeft.zeroised.trans hzero, horders', hcredits', hovertaken, hrevoked, hseq, fun k hk => ?_⟩
  rw [attemptState, laneLeft_jobs] at hk
  exact hothers k hk

theorem LeafReady.attempt (h : LeafReady s j usage leaf) : LeafReady (attemptState s j n) (attemptJob j) usage leaf := by
  have hfrom : Arbitrated s (attemptState s j n) := arbitrated_attemptState
  refine ⟨undisputed_attempt h.undisputed, h.keep, ?_, ?_, ?_, ?_⟩
  · rw [hfrom.leafCheck]
    exact h.tree
  · rw [hfrom.mem, hfrom.tree]
    exact h.pages
  · rw [hfrom.slotCheck, hfrom.tree]
    exact h.root
  · rw [hfrom.tree]
    exact h.key

/-! #### The state and the command in which a leaf is delivered to its engine -/

/-- The state in which the leaf of an attempt is delivered. -/
def leafState (s : State) (j : Job) (n : Nat) (leaf : Bytes) : State := leafTaken (attemptState s j n) (attemptJob j) leaf

/-- The job to which the leaf of an attempt is delivered. -/
def leafCommand (s : State) (j : Job) (n : Nat) (leaf : Bytes) : Job := leafJob (attemptState s j n) (attemptJob j) leaf

theorem readsAlike_leafTaken (h : ReadsAlike o s t) (ho : k.origin = o) : ReadsAlike o s (leafTaken t k leaf) := by
  have hbind : Arbitrated t (bindOrder t k [(t.tree (treeOf k)).rootSlot]).1 := arbitrated_bindOrder
  have hbound : ReadsAlike o s (t.setJob (bindOrder t k [(t.tree (treeOf k)).rootSlot]).2) := h.setJob ho rfl
  refine ReadsAlike.setJob (hbound.of_jobs ?_ hbind.qps bindOrder_jobs) ho rfl
  exact ⟨hbind.dmaAlike.portA, hbind.dmaAlike.portB, hbind.dmaAlike.tenants⟩

theorem readsAlike_leafState (h : AtDispatcher s j.origin) : ReadsAlike j.origin s (leafState s j n leaf) :=
  readsAlike_leafTaken (readsAlike_attemptState h) rfl

theorem ReadsAlike.drawn {i len : Nat} (h : ReadsAlike o s t) : ReadsAlike o s (drawn t i len) := by
  obtain ⟨_, _, _, hdrawn⟩ := drawn_frame (s := t) (n := i) (len := len)
  rw [hdrawn]
  exact h.of_jobs ⟨rfl, rfl, rfl⟩ rfl rfl

theorem drbgs_leafState : (leafState s j n leaf).drbgs = s.drbgs :=
  Arbitrated.drbgs (arbitrated_attemptState.trans (arbitrated_bindOrder.trans ⟨_, _, _, _, rfl⟩))

/-- The command's row starts the attempt on the engine that is free for it. -/
theorem placeSeal_starts (he : EngineReady s j n) (hl : LeafReady s j (if j.code = C.SEAL then 1 else 2) leaf) :
    placeSeal (freeSched s j.origin) j sealStart = sealDeliver (leafState s j n leaf) (leafCommand s j n leaf) n leaf := by
  rw [placeSeal_of_engine he.freeSched]
  exact sealStart_of_leafReady hl.attempt

/-- An attempt takes its engine with its nonce, and issues its first read. -/
theorem keyDelivered_attempt {nonce : Bytes} {rest : List HostRef} (ht : ReadsAlike j.origin s t)
    (hr : ReadReady s j (firstRead j)) :
    ∃ w, ((keyDelivered t (leafCommand s j n leaf) n leaf nonce rest).seng n).work = some w ∧ w.origin = j.origin ∧
      w.nonce = nonce ∧ w.dk = dataKey leaf w.nonce ∧ w.tree = treeOf j ∧ w.extent = (specOf j).index ∧
      readMsg s (dmaBind s j (firstRead j).port) (firstRead j).addr (firstRead j).len ∈
        (keyDelivered t (leafCommand s j n leaf) n leaf nonce rest).out := by
  obtain ⟨hr', hbind⟩ := hr.of_alike (k := leafCommand s j n leaf) ht rfl rfl rfl rfl
  obtain ⟨hwork, hread⟩ := keyDelivered_of_ready (n := n) (leaf := leaf) (nonce := nonce) (rest := rest) hr'
  refine ⟨_, hwork, rfl, rfl, rfl, rfl, rfl, ?_⟩
  rw [ht.dma.readMsg] at hread
  exact hbind ▸ hread

/-- SEAL draws the nonce of its attempt. -/
theorem seal_takes (h : Runs s o C.SEAL 50 j) (he : EngineReady s j n) (hl : LeafReady s j 1 leaf)
    (hinst : (s.drbgs.get {} (drbgOf j)).inst = true) (hreq : (s.drbgs.get {} (drbgOf j)).requests < 2 ^ 19)
    (hr : ReadReady s j (firstRead j)) :
    ∃ u w, exec (.seal o) s = .next u ∧ (u.seng n).work = some w ∧ w.origin = o ∧ w.nonce = drbgBytes s (drbgOf j) 12 ∧
      w.dk = dataKey leaf w.nonce ∧ w.tree = treeOf j ∧ w.extent = (specOf j).index ∧
      readMsg s (dmaBind s j (firstRead j).port) (firstRead j).addr (firstRead j).len ∈ u.out := by
  have ho := h.origin
  subst ho
  have hbytes : drbgBytes (leafState s j n leaf) (drbgOf j) 12 = drbgBytes s (drbgOf j) 12 := by
    rw [drbgBytes, drbgs_leafState, drbgBytes]
  have hrun : runCommand C.SEAL j.origin s sealCmd = placeSeal (freeSched s j.origin) j sealStart :=
    (runCommand_runs h _).trans (if_pos h.stage)
  obtain ⟨rest, hdeliver⟩ := sealDeliver_seal (s := leafState s j n leaf) (j := leafCommand s j n leaf) (n := n) (leaf := leaf)
    h.code (by rw [drbgs_leafState]; exact hinst) (by rw [drbgs_leafState]; exact hreq)
  obtain ⟨w, hwork, horigin, hnonce, hkey⟩ := keyDelivered_attempt (n := n) (leaf := leaf)
    (nonce := drbgBytes (leafState s j n leaf) (drbgOf j) 12) (rest := rest) (readsAlike_leafState he.atDispatcher).drawn hr
  have hstart := placeSeal_starts he (leaf := leaf) (by rwa [if_pos h.code])
  exact ⟨_, w, congrArg Host.Outcome.next (hrun.trans (hstart.trans hdeliver)), hwork, horigin, hnonce.trans hbytes, hkey⟩

/-- RECALL and VERIFY take the nonce of their record. -/
theorem recall_takes {i : Instr} (hi : i = .recall o ∧ Runs s o C.RECALL 50 j ∨ i = .verify o ∧ Runs s o C.VERIFY 50 j)
    (he : EngineReady s j n) (hl : LeafReady s j 2 leaf) (hr : ReadReady s j (firstRead j)) :
    ∃ u w, exec i s = .next u ∧ (u.seng n).work = some w ∧ w.origin = o ∧ w.nonce = slice (recordOf j) 32 12 ∧
      w.dk = dataKey leaf w.nonce ∧ w.tree = treeOf j ∧ w.extent = (specOf j).index ∧
      readMsg s (dmaBind s j (firstRead j).port) (firstRead j).addr (firstRead j).len ∈ u.out := by
  obtain ⟨hexec, ho, hcode⟩ : exec i s = .next (placeSeal (freeSched s o) j sealStart) ∧ j.origin = o ∧ j.code ≠ C.SEAL := by
    rcases hi with ⟨rfl, h⟩ | ⟨rfl, h⟩
    · exact ⟨congrArg Host.Outcome.next ((runCommand_runs h _).trans (if_pos h.stage)), h.origin, h.code ▸ by decide⟩
    · exact ⟨congrArg Host.Outcome.next ((runCommand_runs h _).trans (if_pos h.stage)), h.origin, h.code ▸ by decide⟩
  subst ho
  obtain ⟨rest, hdeliver⟩ := sealDeliver_record (s := leafState s j n leaf) (j := leafCommand s j n leaf) (n := n)
    (leaf := leaf) hcode
  obtain ⟨w, hwork, htakes⟩ := keyDelivered_attempt (n := n) (leaf := leaf) (nonce := slice (recordOf j) 32 12) (rest := rest)
    (readsAlike_leafState he.atDispatcher) hr
  rw [placeSeal_starts he (by rwa [if_neg hcode]), hdeliver] at hexec
  exact ⟨_, w, hexec, hwork, htakes⟩

/-- The job of a DIGEST_ONLY on its engine. -/
def digestCommand (j : Job) : Job := { attemptJob j with args := [0, 0, attemptOf j, 0, listGet 0 j.args 4] }

/-- The work of a DIGEST_ONLY: no key. -/
def digestWork (j : Job) : SealWork := { origin := j.origin, attempt := attemptOf j, cls := j.cls }

/-- DIGEST_ONLY takes its engine without a key. -/
theorem digestOnly_takes (h : Runs s o C.DIGEST_ONLY 50 j) (he : EngineReady s j n) (hlen : (hostRef j.ops 0).len ≠ 0)
    (hr : ReadReady s j (hostRef j.ops 0)) :
    ∃ u w, exec (.digestOnly o) s = .next u ∧ (u.seng n).work = some w ∧ w.origin = o ∧ w.dk = [] ∧
      readMsg s (dmaBind s j (hostRef j.ops 0).port) (hostRef j.ops 0).addr (hostRef j.ops 0).len ∈ u.out := by
  have ho := h.origin
  subst ho
  have hrun : runCommand C.DIGEST_ONLY j.origin s digestOnlyCmd = placeSeal (freeSched s j.origin) j digestStart :=
    (runCommand_runs h _).trans (if_pos h.stage)
  have hstart : digestStart (attemptState s j n) (attemptJob j) n =
      sealReads (attemptState s j n) (digestCommand j) n (digestWork j) [hostRef j.ops 0] :=
    congrArg (sealReads _ _ n _) (if_neg hlen)
  have halike : ReadsAlike j.origin s (attemptState s j n) := readsAlike_attemptState he.atDispatcher
  obtain ⟨hr', hbind⟩ := hr.of_alike (k := digestCommand j) halike rfl rfl rfl rfl
  obtain ⟨hwork, hread⟩ := sealReads_of_ready (n := n) (w := digestWork j) (rest := []) hr'
  rw [halike.dma.readMsg, hbind] at hread
  have hplace := placeSeal_of_engine (start := digestStart) (he.freeSched (o := j.origin))
  exact ⟨_, _, congrArg Host.Outcome.next (hrun.trans (hplace.trans hstart)), hwork, rfl, rfl, hread⟩

end Sys2Proof.Machine
end

section
open Sys2Proof.Machine

/-- Settles O21, by the placement that all sealing commands share, and by the nonce that each takes. -/
theorem sealingTakesAnEngine : Obligations.SealingTakesAnEngine := by
  refine ⟨?_, ?_, ?_⟩
  · rintro s o j n leaf _ h hu halone husable hlane hengine hkeep htree hpages hroot hkey hinst hreq rfl hdma htag
    exact seal_takes h ⟨h.stage, h.phase, h.origin ▸ halone, husable, hlane, hengine⟩
      ⟨hu, hkeep, htree, hpages, hroot, hkey⟩ hinst hreq ⟨hdma, htag⟩
  · rintro s o j n i leaf _ hi hu halone husable hlane hengine hkeep htree hpages hroot hkey rfl hdma htag
    have hrun : ∃ c, Runs s o c 50 j := hi.elim (fun h => ⟨_, h.2⟩) fun h => ⟨_, h.2⟩
    obtain ⟨c, h⟩ := hrun
    exact recall_takes hi ⟨h.stage, h.phase, h.origin ▸ halone, husable, hlane, hengine⟩ ⟨hu, hkeep, htree, hpages, hroot, hkey⟩
      ⟨hdma, htag⟩
  · intro s o j n h halone husable hlane hengine hlen hdma htag
    exact digestOnly_takes h ⟨h.stage, h.phase, h.origin ▸ halone, husable, hlane, hengine⟩ hlen ⟨hdma, htag⟩

end

section
/-! ### The end of a sealing job on its engine (R93, R97, R98, R101, R111) -/

namespace Sys2Proof.Machine

variable {s t : State} {o : Origin} {j : Job} {w : SealWork} {n q m : Nat} {src a ct t1 tag : Bytes}

/-! #### The engine that is left -/

theorem NMap.mem_mapVal {α : Type} [DecidableEq α] {d : α} {f : α → α} {l : NMap α} {e : Nat × α} (h : e ∈ l.mapVal d f) :
    ∃ x ∈ l, e.2 = f x.2 := by
  obtain ⟨x, hx, rfl⟩ := List.mem_map.1 (List.mem_of_mem_filter h)
  exact ⟨x, hx, rfl⟩

theorem work_freeSeng {e : SealEngine} : (freeSeng o e).work.map (·.origin) ≠ some o := by
  simp only [freeSeng]
  split
  · simp
  · assumption

/-- No engine works for a submission that has left its engine. -/
theorem work_leaveSeng : ∀ e ∈ (leaveSeng s o).sealEngines, e.2.work.map (·.origin) ≠ some o := by
  intro e he
  obtain ⟨x, -, hx⟩ := NMap.mem_mapVal he
  rw [hx]
  exact work_freeSeng

/-- The state in which a job that has left its engine ends. -/
def engineLeft (s : State) (o : Origin) (j : Job) (n : Nat) (w : SealWork) : State :=
  journalAad (journalPayload (sealOutcome (leaveSeng s o) o n (engineStatus j w) (s.seng n).lastCause) { j with holds := [] }
    (j.data.getLastD [])) j

theorem arbitrated_journalAad : Arbitrated s (journalAad s j) := by
  unfold journalAad
  split
  · exact .refl
  · exact arbitrated_capture

theorem arbitrated_journalPayload : Arbitrated s (journalPayload s j src) := arbitrated_capture.trans arbitrated_capture

theorem arbitrated_sealOutcome {st cause : Nat} : Arbitrated s (sealOutcome s o n st cause) :=
  arbitrated_capture.trans arbitrated_capture

theorem arbitrated_engineLeft : Arbitrated (leaveSeng s o) (engineLeft s o j n w) :=
  (arbitrated_sealOutcome.trans arbitrated_journalPayload).trans arbitrated_journalAad

theorem dmaAlike_engineLeft : DmaAlike s (engineLeft s o j n w) :=
  DmaAlike.trans (t := leaveSeng s o) ⟨rfl, rfl, rfl⟩ arbitrated_engineLeft.dmaAlike

theorem man_engineLeft {h : Nat} : (engineLeft s o j n w).man h = s.man h :=
  man_congr (s := leaveSeng s o) arbitrated_engineLeft.manifests

theorem sealRecord_engineLeft {i : Job} {p : SealSpec} {d : Bytes} {v : SealWork} :
    sealRecord (engineLeft s o j n w) i p v tag d = sealRecord s i p v tag d := by
  simp only [sealRecord, man_engineLeft]

theorem work_engineLeft : ∀ e ∈ (engineLeft s o j n w).sealEngines, e.2.work.map (·.origin) ≠ some o := by
  rw [arbitrated_engineLeft.sealEngines]
  exact work_leaveSeng

/-- The job whose engine has ended its microsequence ends by its command. -/
theorem sealJobDone_of_engine (hj : s.job? o = some j) (hphase : j.phase = .engine) (hrevoked : j.revokedBy = none)
    (hwork : sealWorkOf s o = some (n, w)) :
    sealJobDone s o =
      if j.code = C.SEAL then sealDone (engineLeft s o j n w) { j with holds := [] } w
      else if j.code = C.RECALL ∨ j.code = C.VERIFY then recallDone (engineLeft s o j n w) { j with holds := [] } w
      else if j.code = C.DIGEST_ONLY then digestOnlyDone (engineLeft s o j n w) { j with holds := [] } w else s := by
  have hends : ¬ (j.phase ≠ .engine ∨ j.revokedBy.isSome = true) := by simp [hphase, hrevoked]
  simp only [sealJobDone, hj, hwork, if_neg hends]
  rfl

theorem sealJobDone_of_seal (hj : s.job? o = some j) (hphase : j.phase = .engine) (hrevoked : j.revokedBy = none)
    (hwork : sealWorkOf s o = some (n, w)) (hcode : j.code = C.SEAL) :
    sealJobDone s o = sealDone (engineLeft s o j n w) { j with holds := [] } w := by
  rw [sealJobDone_of_engine hj hphase hrevoked hwork, if_pos hcode]

theorem sealJobDone_of_recall (hj : s.job? o = some j) (hphase : j.phase = .engine) (hrevoked : j.revokedBy = none)
    (hwork : sealWorkOf s o = some (n, w)) (hcode : j.code = C.RECALL) :
    sealJobDone s o = recallDone (engineLeft s o j n w) { j with holds := [] } w := by
  rw [sealJobDone_of_engine hj hphase hrevoked hwork, if_neg (by rw [hcode]; decide), if_pos (Or.inl hcode)]

theorem sealJobDone_of_digestOnly (hj : s.job? o = some j) (hphase : j.phase = .engine) (hrevoked : j.revokedBy = none)
    (hwork : sealWorkOf s o = some (n, w)) (hcode : j.code = C.DIGEST_ONLY) :
    sealJobDone s o = digestOnlyDone (engineLeft s o j n w) { j with holds := [] } w := by
  rw [sealJobDone_of_engine hj hphase hrevoked hwork, if_neg (by rw [hcode]; decide), if_neg (by rw [hcode]; decide),
    if_pos hcode]

/-! #### What the passes read -/

/-- The AAD, empty where there is none, and then the buffers of the passes. -/
def passInputs (j : Job) : List Bytes := if (specOf j).aad.len = 0 then [] :: j.data else j.data

theorem passInputs_eq {l : List Bytes} (hdata : j.data = (if (specOf j).aad.len = 0 then [] else [a]) ++ l) :
    passInputs j = (if (specOf j).aad.len = 0 then [] else a) :: l := by
  unfold passInputs
  split
  next h => rw [hdata, if_pos h, List.nil_append]
  next h => rw [hdata, if_neg h, List.singleton_append]

/-! #### SEAL -/

/-- The tag that the first pass of a GCM-SIV SEAL gives, and the key stream's tag of the second. -/
def firstTag (j : Job) (w : SealWork) : Bytes :=
  if (specOf j).mode = 1 then
    tagOf 1 w.dk (ivOf (specOf j)) (contextBlock (specOf j) ++ listGet [] (passInputs j) 0) [] (listGet [] (passInputs j) 1)
  else []

/-- The ciphertext of a SEAL. -/
def sealedText (j : Job) (w : SealWork) : Bytes :=
  cipher (specOf j).mode w.dk (ivOf (specOf j)) (firstTag j w)
    (if (specOf j).mode = 1 then listGet [] (passInputs j) 2 else listGet [] (passInputs j) 1)

/-- The tag of a SEAL. -/
def sealedTag (j : Job) (w : SealWork) : Bytes :=
  if (specOf j).mode = 1 then firstTag j w
  else tagOf 0 w.dk (ivOf (specOf j)) (contextBlock (specOf j) ++ listGet [] (passInputs j) 0) (sealedText j w)
    (listGet [] (passInputs j) 1)

/-- The record of a SEAL. -/
def sealedRecord (s : State) (j : Job) (w : SealWork) : Bytes :=
  sealRecord s j (specOf j) w (sealedTag j w) (digestOf (specOf j).alg (listGet [] (passInputs j) 1))

@[simp] theorem sealedRecord_length : (sealedRecord s j w).length = 128 := by simp [sealedRecord, sealRecord]

/-- The state in which a SEAL's ciphertext has been written to DST. -/
def sealedSent (s : State) (j : Job) (w : SealWork) : State :=
  capture (s.send (writeMsg s (dmaBind s j (specOf j).dst.port) (specOf j).dst.addr (sealedText j w) true)) 0x13 14
    (digestBody 1 (sealedText j w))

theorem sealOk_of_first (hattempt : w.attempt = 1) : sealOk s w = (S.OK, s) := if_neg (by simp [hattempt])

/-- A SEAL that its engine passes at the first attempt writes its ciphertext, and ends with its record. -/
theorem sealDone_of_ok (hst : sealStatus j w = S.OK) (hattempt : w.attempt = 1) (hne : sealedText j w ≠ [])
    (hcan : canDma s (dmaBind s j (specOf j).dst.port) = true) :
    sealDone s j w = sealEnd (sealedSent s j w)
      { wroteThrough s j (specOf j).dst with keep := [sha384 (sealedRecord s j w)] } S.OK
      (sealedRecord s j w) (specOf j).mode := by
  have hwrite := hostWrite_of_canDma (off := 0) (rel := true) hne hcan
  have hgo : ¬ sealStatus j w ≠ S.OK := not_not_intro hst
  simp only [sealedText, firstTag, passInputs] at hwrite
  simp only [sealDone, if_neg hgo, hwrite, sealOk_of_first hattempt]
  rfl

theorem sealStatus_eq : sealStatus j w =
    if (specOf j).mode = 1 ∧ Config.polyval w.dk (ivOf (specOf j)) (listGet [] (passInputs j) 1) ≠
      Config.polyval w.dk (ivOf (specOf j)) (listGet [] (passInputs j) 2) then S.E_SOURCE_CHANGED
    else S.OK := rfl

/-- The status, the ciphertext, the tag and the digested source of a SEAL whose passes have read one source. -/
theorem sealed_of_source (hin : passInputs j = a :: (if (specOf j).mode = 1 then [src, src] else [src]))
    (ht1 : t1 = tagOf 1 w.dk (ivOf (specOf j)) (contextBlock (specOf j) ++ a) [] src)
    (hct : ct = cipher (specOf j).mode w.dk (ivOf (specOf j)) (if (specOf j).mode = 1 then t1 else []) src)
    (htag : tag = (if (specOf j).mode = 1 then t1 else tagOf 0 w.dk (ivOf (specOf j)) (contextBlock (specOf j) ++ a) ct src)) :
    sealStatus j w = S.OK ∧ sealedText j w = ct ∧ sealedTag j w = tag ∧ listGet [] (passInputs j) 1 = src := by
  subst ht1 hct htag
  rw [sealStatus_eq, sealedTag, sealedText, firstTag, hin]
  by_cases hmode : (specOf j).mode = 1
  · simp [hmode, listGet]
  · simp [hmode, listGet]

theorem dmaAlike_sealedSent : DmaAlike s (sealedSent s j w) := dmaAlike_send.trans dmaAlike_capture

theorem sealEnd_sealEngines {st mode : Nat} {res : Bytes} : (sealEnd s j st res mode).sealEngines = s.sealEngines :=
  endJob_sealEngines ..

/-- A SEAL of a queue pair that has read one source sends its ciphertext to DST and its record to RESULT, and ends. -/
theorem sealDone_sends (ho : j.origin = .queue q m) (hdiscard : j.discard = false) (hwrote : j.wroteOther = false)
    (hattempt : w.attempt = 1) (hsrc : src ≠ [])
    (hin : passInputs j = a :: (if (specOf j).mode = 1 then [src, src] else [src]))
    (ht1 : t1 = tagOf 1 w.dk (ivOf (specOf j)) (contextBlock (specOf j) ++ a) [] src)
    (hct : ct = cipher (specOf j).mode w.dk (ivOf (specOf j)) (if (specOf j).mode = 1 then t1 else []) src)
    (htag : tag = (if (specOf j).mode = 1 then t1 else tagOf 0 w.dk (ivOf (specOf j)) (contextBlock (specOf j) ++ a) ct src))
    (hdst : canDma s (dmaBind s j (specOf j).dst.port) = true) (hresult : canDma s (dmaBind s j j.result.port) = true) :
    writeMsg s (dmaBind s j (specOf j).dst.port) (specOf j).dst.addr ct true ∈ (sealDone s j w).out ∧
      writeMsg s (dmaBind s j j.result.port) j.result.addr
        (sealRecord s j (specOf j) w tag (digestOf (specOf j).alg src)) false ∈ (sealDone s j w).out ∧
      ((specOf j).dst.port = 0 ∧ j.result.port = 0 → (sealDone s j w).job? (.queue q m) = none) ∧
      (sealDone s j w).sealEngines = s.sealEngines := by
  obtain ⟨hst, htext, htag', hsrc'⟩ := sealed_of_source hin ht1 hct htag
  have hne : ct ≠ [] := by
    rw [hct]
    simpa [cipher] using hsrc
  have hrecord : sealedRecord s j w = sealRecord s j (specOf j) w tag (digestOf (specOf j).alg src) := by
    rw [sealedRecord, htag', hsrc']
  have hsent : DmaAlike s (sealedSent s j w) := dmaAlike_sealedSent
  obtain ⟨x, hx⟩ := wroteThrough_eq (s := s) (j := j) (r := (specOf j).dst)
  rw [sealDone_of_ok hst hattempt (htext.symm ▸ hne) hdst, ← hrecord, ← htext]
  refine ⟨?_, ?_, ?_, ?_⟩
  · refine out_grows_endJob.subset ?_
    simp [sealedSent]
  · rw [hx]
    have hmem := result_mem_endJob (s := sealedSent s j w) (res := sealedRecord s j w) (st := S.OK)
      (appr := (specOf j).mode == 0) (j := { j with wroteOther := x, keep := [sha384 (sealedRecord s j w)] }) ho (by simp)
      hdiscard (by rw [hsent.canDma, hsent.dmaBind]; exact hresult)
    rw [hsent.writeMsg, hsent.dmaBind] at hmem
    exact hmem
  · rintro ⟨hown, hown'⟩
    rw [wroteThrough_own hown]
    exact job?_endJob_result (j := { j with keep := [sha384 (sealedRecord s j w)] }) ho (by simp) hdiscard
      (by rw [hsent.canDma, hsent.dmaBind]; exact hresult) hown' hwrote
  · rw [sealEnd_sealEngines]
    simp [sealedSent]

/-! #### RECALL -/

@[simp] theorem sealOk_out : (sealOk s w).2.out = s.out := by
  unfold sealOk
  split <;> simp

@[simp] theorem sealOk_sealEngines : (sealOk s w).2.sealEngines = s.sealEngines := by
  unfold sealOk
  split <;> simp

theorem dmaAlike_sealOk : DmaAlike s (sealOk s w).2 := by
  unfold sealOk
  split
  · exact ⟨incRegField_portA .., incRegField_portB .., incRegField_tenants ..⟩
  · exact ⟨rfl, rfl, rfl⟩

theorem out_grows_sealEnd {st mode : Nat} {res : Bytes} : s.out <+: (sealEnd s j st res mode).out := out_grows_endJob

theorem out_grows_recallFail {p : SealSpec} {st : Nat} : s.out <+: (recallFail s j p st).out := by
  unfold recallFail
  split
  · split
    next hwrite => exact (out_grows_hostWrite hwrite).trans ((out_grows_of_eq (capture_out ..)).trans out_grows_sealEnd)
    · exact (out_grows_of_eq (noteBlocked_out ..)).trans out_grows_sealEnd
  · exact out_grows_sealEnd

theorem recallFail_sealEngines {p : SealSpec} {st : Nat} : (recallFail s j p st).sealEngines = s.sealEngines := by
  unfold recallFail
  split
  · split
    next hwrite => rw [sealEnd_sealEngines, capture_sealEngines, hostWrite_sealEngines hwrite]
    · rw [sealEnd_sealEngines, noteBlocked_sealEngines]
  · exact sealEnd_sealEngines

/-- The plaintext of a RECALL. -/
def recalledText (j : Job) (w : SealWork) : Bytes :=
  cipher (specOf j).mode w.dk (ivOf (specOf j)) (slice (recordOf j) 48 16) (listGet [] (passInputs j) 1)

/-- The state in which a RECALL's plaintext has been written to DST. -/
def recalledSent (s : State) (j : Job) (w : SealWork) : State :=
  capture (s.send (writeMsg s (dmaBind s j (specOf j).dst.port) (specOf j).dst.addr (recalledText j w) true)) 0x13 14
    (digestBody 1 (recalledText j w))

/-- Once its plaintext is written, a RECALL ends as its tag and its digest give. -/
theorem recallDone_of_canDma (hcode : j.code = C.RECALL) (hne : recalledText j w ≠ [])
    (hcan : canDma s (dmaBind s j (specOf j).dst.port) = true) :
    recallDone s j w =
      if recallStatus j w ≠ S.OK then
        recallFail (recalledSent s j w) (wroteThrough s j (specOf j).dst) (specOf j) (recallStatus j w)
      else
        sealEnd (sealOk (recalledSent s j w) w).2 (wroteThrough s j (specOf j).dst) (sealOk (recalledSent s j w) w).1
          (if bitOf (u8 j.ops 48) 1 then fit 64 (digestOf (specOf j).alg (recalledText j w)) else []) (specOf j).mode := by
  have hwrite := hostWrite_of_canDma (off := 0) (rel := true) hne hcan
  simp only [recalledText, passInputs] at hwrite
  simp only [recallDone, if_pos hcode, hwrite, Option.map_some]
  rfl

/-- A RECALL sends its plaintext to DST, whatever becomes of its tag. -/
theorem recallDone_sends (hcode : j.code = C.RECALL) (hne : ct ≠ []) (hin : passInputs j = [a, ct])
    (hcan : canDma s (dmaBind s j (specOf j).dst.port) = true) :
    writeMsg s (dmaBind s j (specOf j).dst.port) (specOf j).dst.addr
        (cipher (specOf j).mode w.dk (ivOf (specOf j)) (slice (recordOf j) 48 16) ct) true ∈ (recallDone s j w).out ∧
      (recallDone s j w).sealEngines = s.sealEngines := by
  have htext : recalledText j w = cipher (specOf j).mode w.dk (ivOf (specOf j)) (slice (recordOf j) 48 16) ct := by
    rw [recalledText, hin]
    rfl
  have hne' : recalledText j w ≠ [] := by
    rw [htext]
    simpa [cipher] using hne
  have hsent : writeMsg s (dmaBind s j (specOf j).dst.port) (specOf j).dst.addr (recalledText j w) true ∈
      (recalledSent s j w).out := by simp [recalledSent]
  rw [recallDone_of_canDma hcode hne' hcan, ← htext]
  split
  · refine ⟨out_grows_recallFail.subset hsent, ?_⟩
    rw [recallFail_sealEngines]
    simp [recalledSent]
  · refine ⟨out_grows_sealEnd.subset (by simpa using hsent), ?_⟩
    rw [sealEnd_sealEngines]
    simp [recalledSent]

/-! #### DIGEST_ONLY -/

theorem digestOnlyDone_eq : digestOnlyDone s j w =
    endJob (sealOk s w).2 j (sealOk s w).1 (fit 64 (digestOf (u8 j.ops 16) (j.data.headD []))) true := rfl

/-- A DIGEST_ONLY of a queue pair sends its padded digest to RESULT. -/
theorem digestOnlyDone_sends (ho : j.origin = .queue q m) (hdiscard : j.discard = false)
    (hresult : canDma s (dmaBind s j j.result.port) = true) :
    writeMsg s (dmaBind s j j.result.port) j.result.addr (fit 64 (digestOf (u8 j.ops 16) (j.data.headD []))) false ∈
        (digestOnlyDone s j w).out ∧
      (digestOnlyDone s j w).sealEngines = s.sealEngines := by
  have hok : DmaAlike s (sealOk s w).2 := dmaAlike_sealOk
  rw [digestOnlyDone_eq]
  refine ⟨?_, (endJob_sealEngines ..).trans sealOk_sealEngines⟩
  rw [← hok.writeMsg, ← hok.dmaBind]
  exact result_mem_endJob ho (by simp) hdiscard (by rw [hok.canDma, hok.dmaBind]; exact hresult)

end Sys2Proof.Machine
end

section
open Sys2Proof.Machine

/-- Settles O22, by what each command sends as it ends, in the state in which its job has left the engine. -/
theorem sealingJobsEnd : Obligations.SealingJobsEnd := by
  refine ⟨?_, ?_, ?_⟩
  · intro s q m n j w src a t1 ct tag hj hphase hrevoked hdiscard hwrote hcode hwork hattempt _ hsrc hdata haad ht1 hct htag hdst
      hresult
    have ho : j.origin = .queue q m := origin_of_job? hj
    have hleft : DmaAlike s (engineLeft s (.queue q m) j n w) := dmaAlike_engineLeft
    have hin : passInputs j = a :: (if (specOf j).mode = 1 then [src, src] else [src]) := by
      rw [passInputs_eq hdata]
      split
      next h0 => rw [haad h0]
      next => rfl
    obtain ⟨htext, hrecord, hends, hengines⟩ := sealDone_sends (s := engineLeft s (.queue q m) j n w) (w := w)
      (j := { j with holds := [] }) ho hdiscard hwrote hattempt hsrc hin ht1 hct htag
      (by rw [hleft.canDma, hleft.dmaBind]; exact hdst) (by rw [hleft.canDma, hleft.dmaBind]; exact hresult)
    rw [hleft.writeMsg, hleft.dmaBind] at htext hrecord
    rw [sealRecord_engineLeft] at hrecord
    refine ⟨_, congrArg Host.Outcome.next (sealJobDone_of_seal hj hphase hrevoked hwork hcode), htext, hrecord, hends, ?_⟩
    rw [hengines]
    exact work_engineLeft
  · intro s q m n j w ct a hj hphase hrevoked hcode hwork hdata hne hdst
    have hleft : DmaAlike s (engineLeft s (.queue q m) j n w) := dmaAlike_engineLeft
    obtain ⟨htext, hengines⟩ := recallDone_sends (s := engineLeft s (.queue q m) j n w) (w := w) (j := { j with holds := [] })
      hcode hne (passInputs_eq hdata) (by rw [hleft.canDma, hleft.dmaBind]; exact hdst)
    rw [hleft.writeMsg, hleft.dmaBind] at htext
    refine ⟨_, congrArg Host.Outcome.next (sealJobDone_of_recall hj hphase hrevoked hwork hcode), htext, ?_⟩
    rw [hengines]
    exact work_engineLeft
  · intro s q m n j w hj hphase hrevoked hdiscard hcode hwork hresult
    have ho : j.origin = .queue q m := origin_of_job? hj
    have hleft : DmaAlike s (engineLeft s (.queue q m) j n w) := dmaAlike_engineLeft
    obtain ⟨hdigest, hengines⟩ := digestOnlyDone_sends (s := engineLeft s (.queue q m) j n w) (w := w)
      (j := { j with holds := [] }) ho hdiscard (by rw [hleft.canDma, hleft.dmaBind]; exact hresult)
    rw [hleft.writeMsg, hleft.dmaBind] at hdigest
    refine ⟨_, congrArg Host.Outcome.next (sealJobDone_of_digestOnly hj hphase hrevoked hwork hcode), hdigest, ?_⟩
    rw [hengines]
    exact work_engineLeft

end

section
/-! ### What the end of a command other than a SEAL makes of the manifests (R115) -/

namespace Sys2Proof.Machine

variable {s : State} {o : Origin} {j : Job} {st : Nat} {res : Bytes} {appr : Bool}

theorem manifestEntry_of_ne_seal (hc : j.code ≠ C.SEAL) : manifestEntry s j st = s := if_neg fun h => hc h.1

theorem finishJob_manifests (hc : j.code ≠ C.SEAL) {n : Nat} : (finishJob s j st res n appr).manifests = s.manifests := by
  unfold finishJob
  rw [manifestEntry_of_ne_seal hc]
  dsimp only
  split
  · simp
  · split
    · simp
    · split <;> simp
    · simp

theorem orderAndFinish_manifests (hc : j.code ≠ C.SEAL) {n : Nat} :
    (orderAndFinish s j st res n appr).manifests = s.manifests := by
  unfold orderAndFinish
  split
  · exact finishJob_manifests hc
  · dsimp only
    split
    · rw [finishJob_manifests hc]
      simp
    · simp

theorem code_hostWrite {t : State} {k : Job} {r : HostRef} {off : Nat} {bs : Bytes} {rel : Bool}
    (h : hostWrite s j r off bs rel = some (t, k)) : k.code = j.code := by
  unfold hostWrite at h
  split at h
  · cases h
    rfl
  · dsimp only at h
    split at h
    · cases h
    · cases h
      split <;> rfl

/-- Only the end of a SEAL writes an entry of its manifest. -/
theorem endJob_manifests (hc : j.code ≠ C.SEAL) : (endJob s j st res appr).manifests = s.manifests := by
  unfold endJob
  split
  · split
    · split
      next hw =>
        rw [orderAndFinish_manifests (by rwa [code_hostWrite hw])]
        simp [hostWrite_manifests hw]
      · rw [orderAndFinish_manifests hc]
        simp
    · exact orderAndFinish_manifests hc
  · exact orderAndFinish_manifests hc

/-- A command that ends early gives up the manifest that it was closing. -/
theorem dropWith_manifests (hc : j.code ≠ C.SEAL) :
    (dropWith s j st).manifests = s.manifests.mapVal {} (freeMan j.origin) := by
  rw [dropWith, failJob, endJob_manifests hc]
  simp [releaseJob]

end Sys2Proof.Machine
end

section
/-! ### MANIFEST_OPEN, and MANIFEST_CLOSE with ABANDON (R115, R117) -/

namespace Sys2Proof.Machine

variable {s t : State} {b : BindId} {j : Job} {bs : Bytes}

@[simp] theorem noteManifests_manifests : (noteManifests s).manifests = s.manifests := by
  unfold noteManifests
  dsimp only
  split
  · exact setRegField_manifests ..
  · rfl

theorem nextHandle_congr (hm : t.manifests = s.manifests) (n h : Nat) : nextHandle t n h = nextHandle s n h := by
  induction n generalizing h with
  | zero => rfl
  | succ n ih => simp only [nextHandle, ih, man_congr hm]

/-- The slots that the order of MANIFEST_OPEN names. -/
def openNames (j : Job) : List Nat := [u16 j.ops 0, u16 j.ops 2].filter (· != 0xFFFF)

/-- The handle that MANIFEST_OPEN assigns. -/
def openHandle (s : State) : Nat := nextHandle s 4097 s.nextManifest

/-- The manifest that MANIFEST_OPEN opens. -/
def openedManifest (j : Job) (bs : Bytes) : Manifest :=
  { state := .opened, tenant := manHolder j, id := u64 bs 0, p384Slot := u16 j.ops 0, mldsaSlot := u16 j.ops 2,
    capacity := u16 j.ops 4 }

/-- The state in which MANIFEST_OPEN ends. -/
def manifestOpened (s : State) (j : Job) (bs : Bytes) : State :=
  noteManifests { s.setMan (openHandle s) (openedManifest j bs) with
    nextManifest := openHandle s + 1
    mem := allocLines s.mem (manifestLines (openHandle s - 1)).1 (manifestLines (openHandle s - 1)).2 (manHolder j) }

theorem man_manifestOpened : (manifestOpened s j bs).man (openHandle s) = openedManifest j bs := by
  have hm : (manifestOpened s j bs).manifests = s.manifests.put {} (openHandle s) (openedManifest j bs) := by
    simp [manifestOpened]
  rw [State.man, hm, NMap.get_put_self]

theorem openHandle_congr (hm : t.manifests = s.manifests) (hnext : t.nextManifest = s.nextManifest) :
    openHandle t = openHandle s := by
  rw [openHandle, nextHandle_congr hm, hnext, openHandle]

theorem openHandle_freeSched {o : Origin} : openHandle (freeSched s o) = openHandle s := openHandle_congr rfl rfl

theorem manOpenSlots_bindOrder {names : List Nat} :
    manOpenSlots (bindOrder s j names).1 (bindOrder s j names).2 = manOpenSlots s j := by
  obtain ⟨_, _, _, _, h⟩ := arbitrated_bindOrder (s := s) (j := j) (names := names)
  rw [h]
  rfl

/-- An undisputed MANIFEST_OPEN that passes its checks opens its manifest with its bytes drawn. -/
theorem manifestOpen_undisputed (hu : Undisputed s j) (hcheck : manOpenCheck j = none) (hslots : manOpenSlots s j = none)
    (hinst : (s.drbgs.get {} (drbgOf j)).inst = true) (hreq : (s.drbgs.get {} (drbgOf j)).requests < 2 ^ 19) :
    ∃ t, openHandle t = openHandle s ∧
      manifestOpen j s = okJob (manifestOpened t j (drbgBytes s (drbgOf j) 8)) (bindOrder s j (openNames j)).2
        (leBytes 2 (openHandle s) ++ zeros 6 ++ leBytes 8 (u64 (drbgBytes s (drbgOf j) 8) 0)) := by
  obtain ⟨-, -, -, -, hovertaken, -⟩ := id hu
  have hbind : Arbitrated s (bindOrder s j (openNames j)).1 := arbitrated_bindOrder
  have hslots' : manOpenSlots (bindOrder s j (openNames j)).1 (bindOrder s j (openNames j)).2 = none :=
    manOpenSlots_bindOrder.trans hslots
  have hbytes : drbgBytes (bindOrder s j (openNames j)).1 (drbgOf j) 8 = drbgBytes s (drbgOf j) 8 := by
    rw [drbgBytes, hbind.drbgs, drbgBytes]
  have hhandle : openHandle (drawn (bindOrder s j (openNames j)).1 (drbgOf j) 8) = openHandle s :=
    openHandle_congr (by simp [hbind.manifests]) (by simp [hbind.nextManifest])
  refine ⟨_, hhandle, ?_⟩
  rw [manifestOpen, hcheck, checked, takeOrder_undisputed hu, ← openNames, hslots', checked,
    withDraw_of_inst (by rwa [hbind.drbgs]) (by rwa [hbind.drbgs]) (by decide) (by decide), ← hhandle, ← hbytes]
  exact commitOrder_of_none hovertaken

/-- MANIFEST_OPEN ends with the manifest that it opened. -/
theorem manifestOpen_opens (h : Runs s (.mailbox b) C.MANIFEST_OPEN 0 j) (hp : Plain j) (hu : Undisputed s j)
    (hcheck : manOpenCheck j = none) (hslots : manOpenSlots s j = none) (hinst : (s.drbgs.get {} (drbgOf j)).inst = true)
    (hreq : (s.drbgs.get {} (drbgOf j)).requests < 2 ^ 19) :
    ∃ u, exec (.manifestOpen (.mailbox b)) s = .next u ∧
      Ends u b S.OK (leBytes 2 (openHandle s) ++ zeros 6 ++ leBytes 8 (u64 (drbgBytes s (drbgOf j) 8) 0)) ∧
      u.man (openHandle s) = openedManifest j (drbgBytes s (drbgOf j) 8) := by
  obtain ⟨t, hhandle, hopen⟩ := manifestOpen_undisputed (s := freeSched s (.mailbox b)) (undisputed_freeSched hu) hcheck hslots
    hinst hreq
  rw [openHandle_freeSched] at hhandle hopen
  rw [drbgBytes_freeSched] at hopen
  refine ⟨_, congrArg Host.Outcome.next ((runCommand_runs h _).trans hopen), okJob_ends (by exact h.origin) (by exact hp) _, ?_⟩
  have hc : j.code ≠ C.SEAL := by
    rw [h.code]
    decide
  rw [← hhandle, okJob, man_congr (endJob_manifests (by exact hc))]
  exact man_manifestOpened

/-! #### MANIFEST_CLOSE -/

/-- The manifest of a close that has been taken: no further SEAL enters it. -/
def closingManifest (s : State) (j : Job) : Manifest := { s.man (u16 j.ops 0) with state := .closing, closer := some j.origin }

theorem withManifest_of_allowed {h : Nat} {k : State} (hallow : colourAllows s (manifestAccess j h) = true)
    (hlines : rangeFault s.mem (manifestLines (h - 1)).1 (manifestLines (h - 1)).2 = none) : withManifest s j h k = k := by
  simp only [withManifest, hallow, withLines, hlines, if_true]

/-- A close of a manifest without seals outstanding goes on at once. -/
theorem manifestClose_of_idle (hstage : j.stage = 0) (hcheck : manCloseCheck s j = none)
    (hallow : colourAllows s (manifestAccess j (u16 j.ops 0)) = true)
    (hlines : rangeFault s.mem (manifestLines (u16 j.ops 0 - 1)).1 (manifestLines (u16 j.ops 0 - 1)).2 = none)
    (hbusy : manBusy s (u16 j.ops 0) = false) :
    manifestClose j s = manForm (s.setMan (u16 j.ops 0) (closingManifest s j)) j := by
  have hbusy' : manBusy (s.setMan (u16 j.ops 0) (closingManifest s j)) (u16 j.ops 0) = false := hbusy
  simp only [manifestClose, hstage, OfNat.zero_ne_ofNat, if_false, hcheck, checked, withManifest_of_allowed hallow hlines]
  rw [← closingManifest, hbusy']
  rfl

theorem manForm_of_abandon (habandon : bitOf (u8 j.ops 2) 0 = true) :
    manForm s j = okJob (manFree s (u16 j.ops 0)) j (manResult (s.man (u16 j.ops 0)) 0) := if_pos habandon

theorem man_manFree_self {h : Nat} : (manFree s h).man h = {} := man_setMan_self s h {}

/-- A close with ABANDON frees its handle. -/
theorem manifestClose_abandons (h : Runs s (.mailbox b) C.MANIFEST_CLOSE 0 j) (hp : Plain j) (hcheck : manCloseCheck s j = none)
    (hallow : colourAllows s (manifestAccess j (u16 j.ops 0)) = true)
    (hlines : rangeFault s.mem (manifestLines (u16 j.ops 0 - 1)).1 (manifestLines (u16 j.ops 0 - 1)).2 = none)
    (habandon : bitOf (u8 j.ops 2) 0 = true) (hbusy : manBusy s (u16 j.ops 0) = false) :
    ∃ u, exec (.manifestClose (.mailbox b)) s = .next u ∧ Ends u b S.OK (manResult (s.man (u16 j.ops 0)) 0) ∧
      u.man (u16 j.ops 0) = {} := by
  have hclose := manifestClose_of_idle (s := freeSched s (.mailbox b)) h.stage hcheck hallow hlines hbusy
  rw [manForm_of_abandon habandon] at hclose
  refine ⟨_, congrArg Host.Outcome.next ((runCommand_runs h _).trans hclose), ?_, ?_⟩
  · rw [man_setMan_self]
    exact okJob_ends h.origin hp _
  · have hc : j.code ≠ C.SEAL := by
      rw [h.code]
      decide
    rw [okJob, man_congr (endJob_manifests hc)]
    exact man_manFree_self

end Sys2Proof.Machine
end

section
/-! ### The header of a closing manifest (R114, R115): whatever becomes of the close that formed it, the header stays. -/

namespace Sys2Proof.Machine

variable {s t : State} {j : Job} {o : Origin} {h n : Nat} {bs hd : Bytes}

/-- The manifest is CLOSING and holds a header. -/
def HeaderKept (h : Nat) (hd : Bytes) (s : State) : Prop := (s.man h).state = .closing ∧ (s.man h).header = some hd

namespace HeaderKept

protected theorem of_eq (hk : HeaderKept h hd s) (hm : t.manifests = s.manifests) : HeaderKept h hd t := by
  rw [HeaderKept, man_congr hm]
  exact hk

/-- A close that ends early gives a manifest up with its header. -/
theorem freeMan_of_header {m : Manifest} (hstate : m.state = .closing) (hhead : m.header = some hd) :
    (freeMan o m).state = .closing ∧ (freeMan o m).header = some hd := by
  unfold freeMan
  split
  · simp [hstate, hhead]
  · exact ⟨hstate, hhead⟩

protected theorem dropWith {st : Nat} (hk : HeaderKept h hd s) (hc : j.code ≠ C.SEAL) : HeaderKept h hd (dropWith s j st) := by
  obtain ⟨hstate, hhead⟩ := hk
  obtain ⟨hstate', hhead'⟩ := freeMan_of_header (o := j.origin) hstate hhead
  have hget : (dropWith s j st).man h = freeMan j.origin (s.man h) := by
    rw [State.man, dropWith_manifests hc]
    refine NMap.get_mapVal rfl fun hfree => ?_
    rw [State.man, hfree] at hhead'
    cases hhead'
  rw [HeaderKept, hget]
  exact ⟨hstate', hhead'⟩

/-! #### Draws -/

theorem takeBlock_manifests {i : Nat} : (takeBlock s i).2.manifests = s.manifests := by
  unfold takeBlock
  dsimp only
  split
  · split <;> rfl
  · exact capture_manifests ..

theorem reseedNow_manifests : (reseedNow s n).manifests = s.manifests := takeBlock_manifests

theorem request_manifests {len : Nat} : (request s n len).2.manifests = s.manifests := by
  unfold request
  dsimp only
  split
  · exact reseedNow_manifests
  · rfl

theorem requests_manifests {cls0 : Bool} {k len : Nat} {acc : Bytes} (e : requests n cls0 k len s acc = .ok bs t) :
    t.manifests = s.manifests := by
  induction k generalizing s len acc with
  | zero =>
    cases e
    rfl
  | succ k ih =>
    unfold requests at e
    dsimp only at e
    split at e
    · split at e
      next hd => exact absurd (hd.trans (congrArg some e)) seedGate_ne_ok
      · exact (ih e).trans (request_manifests.trans reseedNow_manifests)
    · exact (ih e).trans request_manifests

theorem draw_manifests {len : Nat} {cls0 : Bool} (e : draw s n len cls0 = .ok bs t) : t.manifests = s.manifests := by
  unfold draw at e
  split at e
  · cases e
  · exact (requests_manifests e).trans (crossing_manifests ..)

protected theorem withDraw {len : Nat} {k : Bytes → State → State} (hk : HeaderKept h hd s) (hc : j.code ≠ C.SEAL)
    (hnext : ∀ {bs u}, HeaderKept h hd u → HeaderKept h hd (k bs u)) : HeaderKept h hd (withDraw s j n len k) := by
  unfold withDraw
  split
  next e => exact hnext (hk.of_eq (draw_manifests e))
  · refine HeaderKept.dropWith (hk.of_eq ?_) hc
    split
    · exact incRegField_manifests ..
    · rfl
  · exact hk.of_eq (setJob_manifests ..)

protected theorem drawIf {len : Nat} {k : Bytes → State → State} (hk : HeaderKept h hd s) (hc : j.code ≠ C.SEAL)
    (hnext : ∀ {bs u}, HeaderKept h hd u → HeaderKept h hd (k bs u)) : HeaderKept h hd (drawIf s j n len k) := by
  unfold drawIf
  split
  · exact hnext hk
  · exact hk.withDraw hc hnext

/-! #### The arbiter and the key material -/

protected theorem takeOrder {names : List Nat} {k : State → Job → State} (hk : HeaderKept h hd s) (hc : j.code ≠ C.SEAL)
    (hnext : ∀ {u i}, HeaderKept h hd u → i.code = j.code → HeaderKept h hd (k u i)) :
    HeaderKept h hd (takeOrder s j names k) := by
  have hzero : HeaderKept h hd (orderZeroised s j) := hk.dropWith (by exact hc)
  have hfault : HeaderKept h hd (orderFault s j) := by
    refine HeaderKept.dropWith (hk.of_eq ?_) hc
    dsimp only
    split <;> simp
  have hhold : HeaderKept h hd (holdOrder s j names) := by
    refine hk.of_eq ?_
    unfold holdOrder
    dsimp only
    split
    · rfl
    · split <;> simp [arbiterOutcome]
  unfold takeOrder
  split
  · exact hzero
  · split
    · exact hfault
    · split
      · split
        · exact hnext hk rfl
        · exact hnext hk rfl
      · split
        · exact hhold
        · exact hnext (hk.of_eq arbitrated_bindOrder.manifests) rfl

protected theorem withMaterial {pend : Bool} {k : State → SlotHalf → State} (hk : HeaderKept h hd s) (hc : j.code ≠ C.SEAL)
    (hnext : ∀ {u v}, HeaderKept h hd u → HeaderKept h hd (k u v)) : HeaderKept h hd (withMaterial s j n pend k) := by
  have hfailed : ∀ v, HeaderKept h hd (recordFailed (materialStep s j n S.E_RECORD_FAIL) j n pend v) := by
    intro v
    refine HeaderKept.dropWith (hk.of_eq ?_) hc
    split <;> simp [recordFail, memError, materialStep]
  unfold withMaterial
  split
  · exact hk.dropWith hc
  · split
    · exact hnext (hk.of_eq (capture_manifests ..))
    · exact hfailed _

/-! #### The engine that signs -/

theorem operandUse_manifests {op : Nat} {key : Nat × Nat} : (operandUse s op key).2.manifests = s.manifests := by
  unfold operandUse
  dsimp only
  split
  · rfl
  · exact tookFree_manifests ..

protected theorem engineTakes {op : Nat} {key : Nat × Nat} {req : ArithReq} {seed rk : Bytes} {holds : List Nat}
    (hk : HeaderKept h hd s) (hc : j.code ≠ C.SEAL) : HeaderKept h hd (engineTakes s j n op key req seed rk holds) := by
  have huse : HeaderKept h hd (operandUse s op key).2 := hk.of_eq operandUse_manifests
  unfold engineTakes
  dsimp only
  split
  · exact huse.of_eq (by simp)
  · split
    next e => exact huse.of_eq (by simp [issueReads_manifests e])
    · exact HeaderKept.dropWith (huse.of_eq (by simp)) hc

protected theorem placeArith {op : Nat} {key : Nat × Nat} {rnd : Nat} {toVault : Bool} {holds : List Nat} {reads : List HostRef}
    (hk : HeaderKept h hd s) (hc : j.code ≠ C.SEAL) : HeaderKept h hd (placeArith s j op key rnd toVault holds reads) := by
  have hwaits : ∀ k, HeaderKept h hd (s.setJob k) := fun k => hk.of_eq (setJob_manifests ..)
  unfold placeArith
  dsimp only
  split
  · exact HeaderKept.dropWith (hk.of_eq (incRegField_manifests ..)) hc
  · split
    · exact hwaits _
    · split
      · exact hwaits _
      · exact (hwaits _).drawIf hc fun hk1 => hk1.drawIf hc fun hk2 => hk2.engineTakes hc

protected theorem manPlace (hk : HeaderKept h hd s) (hc : j.code ≠ C.SEAL) : HeaderKept h hd (manPlace s j) := hk.placeArith hc

protected theorem manSign (hk : HeaderKept h hd s) (hc : j.code ≠ C.SEAL) : HeaderKept h hd (manSign s j) := by
  refine hk.takeOrder hc fun hk1 hcode => ?_
  have hc1 := hcode ▸ hc
  unfold checked
  split
  · exact hk1.dropWith hc1
  · exact hk1.withMaterial hc1 fun hk2 => hk2.manPlace hc1

protected theorem manStep {step : Nat} {sigs : Bytes} (hk : HeaderKept h hd s) (hc : j.code ≠ C.SEAL) :
    HeaderKept h hd (manStep s j step sigs) :=
  HeaderKept.manSign (hk.of_eq (setJob_manifests ..)) hc

end HeaderKept

/-- A close without ABANDON forms the header. -/
theorem headerKept_manForm (hstate : (s.man (u16 j.ops 0)).state = .closing) (habandon : bitOf (u8 j.ops 2) 0 = false)
    (hc : j.code ≠ C.SEAL) :
    HeaderKept (u16 j.ops 0) ((s.man (u16 j.ops 0)).header.getD (manHeader s (s.man (u16 j.ops 0)))) (manForm s j) := by
  unfold manForm
  dsimp only
  rw [if_neg (by simp [habandon])]
  refine HeaderKept.manStep ?_ hc
  rw [HeaderKept, man_setMan_self]
  exact ⟨hstate, rfl⟩

theorem manifestClose_ne_seal : C.MANIFEST_CLOSE ≠ C.SEAL := by decide

/-- A close of a manifest without seals outstanding forms the header in its own step. -/
theorem manifestClose_forms (hr : Runs s o C.MANIFEST_CLOSE 0 j) (hcheck : manCloseCheck s j = none)
    (hallow : colourAllows s (manifestAccess j (u16 j.ops 0)) = true)
    (hlines : rangeFault s.mem (manifestLines (u16 j.ops 0 - 1)).1 (manifestLines (u16 j.ops 0 - 1)).2 = none)
    (hkeep : bitOf (u8 j.ops 2) 0 = false) (hbusy : manBusy s (u16 j.ops 0) = false) :
    ∃ u, exec (.manifestClose o) s = .next u ∧
      HeaderKept (u16 j.ops 0) ((s.man (u16 j.ops 0)).header.getD (manHeader s (s.man (u16 j.ops 0)))) u := by
  have hclose := manifestClose_of_idle (s := freeSched s o) hr.stage hcheck hallow hlines hbusy
  have hman := man_setMan_self (freeSched s o) (u16 j.ops 0) (closingManifest (freeSched s o) j)
  have hform := headerKept_manForm (s := (freeSched s o).setMan (u16 j.ops 0) (closingManifest (freeSched s o) j))
    (by rw [hman]; rfl) hkeep (hr.code ▸ manifestClose_ne_seal)
  rw [hman] at hform
  exact ⟨_, congrArg Host.Outcome.next ((runCommand_runs hr _).trans hclose), hform⟩

/-- The close that waited forms the header when the last seal has ended. -/
theorem manifestHeaderForm_forms (hcloser : (s.man h).closer = some o) (hj : s.job? o = some j)
    (hstate : (s.man h).state = .closing) (hphase : j.phase = .quiesce) (hcode : j.code = C.MANIFEST_CLOSE)
    (hhandle : u16 j.ops 0 = h) (hbusy : manBusy s h = false) (hkeep : bitOf (u8 j.ops 2) 0 = false) :
    ∃ u, exec (.manifestHeaderForm h) s = .next u ∧
      HeaderKept h ((s.man h).header.getD (manHeader s (s.man h))) u := by
  subst hhandle
  have hgo : manHeaderForm s (u16 j.ops 0) = manForm s { j with phase := .started } := by
    simp only [manHeaderForm, hcloser, Option.bind_some, hj, hstate, hphase, hcode, hbusy, and_self, if_true]
  refine ⟨_, congrArg Host.Outcome.next hgo, ?_⟩
  exact headerKept_manForm (j := { j with phase := .started }) hstate hkeep (by simp [hcode, manifestClose_ne_seal])

end Sys2Proof.Machine
end

section
open Sys2Proof.Machine

/-- Settles O24, by the state in which an open and an abandoning close end, and by the header that every way on from a close
keeps. -/
theorem manifestsOpenAndClose : Obligations.ManifestsOpenAndClose := by
  refine ⟨?_, ?_, ?_, ?_⟩
  · intro s b j h id hr hp hu hcheck hslots hinst hreq hhandle hid
    rw [← openHandle] at hhandle
    rw [← drbgBytes] at hid
    rw [hhandle, hid]
    exact manifestOpen_opens hr hp hu hcheck hslots hinst hreq
  · exact fun _ _ _ hr hp hcheck hallow hlines habandon hbusy =>
      manifestClose_abandons hr hp hcheck hallow hlines habandon hbusy
  · exact fun _ _ _ hr hcheck hallow hlines hkeep hbusy => manifestClose_forms hr hcheck hallow hlines hkeep hbusy
  · exact fun _ _ _ _ hcloser hj hstate hphase hcode hhandle hbusy hkeep =>
      manifestHeaderForm_forms hcloser hj hstate hphase hcode hhandle hbusy hkeep

end

section
/-! ### Engines and the commands that wait for them (R129): reading an engine table, and the waiter of a drain or of tests. -/

namespace Sys2Proof.Machine

variable {s t : State} {o : Origin} {j k : Job} {b : BindId} {n code st : Nat} {ph : Phase}

theorem aeng_congr (h : t.arith = s.arith) (n : Nat) : t.aeng n = s.aeng n := by rw [State.aeng, h, State.aeng]

theorem seng_congr (h : t.sealEngines = s.sealEngines) (n : Nat) : t.seng n = s.seng n := by rw [State.seng, h, State.seng]

theorem engineWaiter_congr (h : t.jobs = s.jobs) : engineWaiter t code n ph = engineWaiter s code n ph := by
  rw [engineWaiter, h, engineWaiter]

@[simp] theorem engineWaiter_recordEvent {c p0 p1 p2 : Nat} :
    engineWaiter (recordEvent s c p0 p1 p2) code n ph = engineWaiter s code n ph := engineWaiter_congr (recordEvent_jobs ..)

@[simp] theorem engineWaiter_setAeng {m : Nat} {e : ArithEngine} :
    engineWaiter (s.setAeng m e) code n ph = engineWaiter s code n ph := rfl

theorem engineWaiter_eq_none (h : ∀ k ∈ s.jobs, k.code ≠ code) : engineWaiter s code n ph = none := by
  refine List.find?_eq_none.2 fun k hk => ?_
  simp [h k hk]

theorem Runs.inFlight {c : Nat} (h : Runs s o c n j) : s.job? o = some j := by
  obtain ⟨hj, -⟩ := h
  exact hj

/-- A command in flight is found again after a change of every command that keeps the origins. -/
theorem job?_map {f : Job → Job} (hf : ∀ k, (f k).origin = k.origin) (hj : s.job? o = some j)
    (ht : t.jobs = s.jobs.map f) : t.job? o = some (f j) := by
  have hp : ((fun k : Job => k.origin == o) ∘ f) = fun k => k.origin == o := by
    funext k
    simp [hf]
  rw [State.job?, ht, List.find?_map, hp, ← State.job?, hj]
  rfl

theorem job?_setJob_of_ne (h : o ≠ k.origin) : (s.setJob k).job? o = s.job? o := by
  simp only [State.job?, State.setJob]
  induction s.jobs with
  | nil => rfl
  | cons i l ih =>
    rw [List.map_cons, List.find?_cons, List.find?_cons, ih]
    by_cases hi : i.origin = k.origin
    · have hk : (k.origin == o) = false := by simpa using h.symm
      simp [hi, hk]
    · simp [hi]

/-! #### Reads that wait for a tag (R27, R84) -/

theorem issueWaiting_arith {p : Origin} : (issueWaiting s p).arith = s.arith := by
  unfold issueWaiting
  split
  · split
    · dsimp only
      split
      · simp
      · rfl
    · rfl
  · rfl

/-- The reads that tags freed let go are those of the commands that wait for a tag. -/
theorem job?_issueWaiting {p : Origin} (hj : s.job? o = some j) (hu : j.unsent = false) :
    (issueWaiting s p).job? o = some j := by
  unfold issueWaiting
  split
  next i hi =>
    split
    next hunsent _ =>
      have hne : o ≠ p := by
        rintro rfl
        rw [hj, Option.some.injEq] at hi
        rw [← hi, hu] at hunsent
        cases hunsent
      dsimp only
      split
      · rw [job?_setJob_of_ne (by rw [origin_of_job? hi]; exact hne)]
        exact hj
      · exact hj
    · exact hj
  · exact hj

theorem readsGo_arith : (readsGo s).arith = s.arith :=
  List.foldlRecOn (motive := fun t : State => t.arith = s.arith) _ _ rfl fun _ ht _ _ => issueWaiting_arith.trans ht

theorem job?_readsGo (hj : s.job? o = some j) (hu : j.unsent = false) : (readsGo s).job? o = some j :=
  List.foldlRecOn (motive := fun t : State => t.job? o = some j) _ _ hj fun _ ht _ _ => job?_issueWaiting ht hu

/-! #### Commands refused by their own checks -/

theorem dropWith_ends (ho : j.origin = .mailbox b) (hp : Plain j) : Ends (dropWith s j st) b st [] := endJob_ends ho hp ..

end Sys2Proof.Machine
end

section
/-! ### Arith engines fault, drain, test and come back (R129, R233 to R235) -/

namespace Sys2Proof.Machine

variable {s t : State} {o : Origin} {j : Job} {b : BindId} {n m cause : Nat} {w : ArithWork} {r : ArithReq}

/-! #### Faults and the watchdog -/

/-- A quarantined arith engine: its job is gone, it is wiped, and its failure is counted. -/
def faultedArith (e : ArithEngine) (cause : Nat) : ArithEngine :=
  { restArith e with state := .quarantined, lastCause := cause, failCount := satInc 16 e.failCount }

/-- The state after an engine fault, before its job is run again. -/
def arithStopped (s : State) (n cause : Nat) : State :=
  recordEvent ((s.setAeng n { s.aeng n with failCount := satInc 16 (s.aeng n).failCount }).setAeng n
    (faultedArith (s.aeng n) cause)) 0x8D02 n cause 2

@[simp] theorem arithStopped_jobs : (arithStopped s n cause).jobs = s.jobs := by simp [arithStopped]

theorem aeng_arithStopped_self : (arithStopped s n cause).aeng n = faultedArith (s.aeng n) cause := by
  rw [arithStopped, aeng_congr (recordEvent_arith ..), aeng_setAeng_self]

theorem aeng_arithStopped_of_ne (h : m ≠ n) : (arithStopped s n cause).aeng m = s.aeng m := by
  rw [arithStopped, aeng_congr (recordEvent_arith ..), aeng_setAeng_of_ne _ _ h, aeng_setAeng_of_ne _ _ h]

theorem quarantineArith_of_noWaiter (h : ∀ k ∈ s.jobs, k.code ≠ C.ARI_QUARANTINE) : quarantineArith s n cause =
    recordEvent (s.setAeng n { restArith (s.aeng n) with state := .quarantined, lastCause := cause }) 0x8D02 n cause 2 := by
  simp only [quarantineArith, engineWaiter_recordEvent, engineWaiter_setAeng, engineWaiter_eq_none h]

/-- The command whose job a fault sends back: it is placed again from its own row, for another attempt (R233). -/
def rerunCommand (j : Job) : Job :=
  { j with arith := j.arith.map (fun r => { r with attempt := (j.arith.map (·.attempt)).getD 1 + 1 }), keep := j.keep.drop 1
           holds := [], data := [], reads := [], unsent := false, phase := .started, stage := 50 }

theorem rerunArith_of_attempt (hrevoked : j.revokedBy = none) (hr : j.arith = some r) (hattempt : r.attempt < 3)
    (hany : anyArith s = true) : rerunArith s j = readsGo (s.setJob (rerunCommand j)) := by
  have hgo : ¬ (r.attempt ≥ 3 ∨ anyArith s = false) := by simp [hany, hattempt]
  simp only [rerunArith, rerunCommand, hrevoked, hr, Option.map_some, Option.getD_some, if_neg hgo]

theorem anyArith_of_inService (hm : m < 24) (h : (s.aeng m).state = .inService) : anyArith s = true :=
  List.any_eq_true.2 ⟨m, List.mem_range.2 hm, by simp [h]⟩

section
variable (hstate : (s.aeng n).state = .inService ∨ (s.aeng n).state = .draining)
    (hwork : (s.aeng n).work = some w) (hj : s.job? w.origin = some j) (hrevoked : j.revokedBy = none) (hr : j.arith = some r)
    (hattempt : r.attempt < 3) (hm : m < 24) (hne : m ≠ n) (hserves : (s.aeng m).state = .inService)
    (hq : ∀ k ∈ s.jobs, k.code ≠ C.ARI_QUARANTINE)

include hstate hwork hj hrevoked hr hattempt hm hne hserves hq

/-- With another engine in service, a fault sends the engine's job back for another attempt. -/
theorem arithFault_reruns :
    arithFault s n cause = readsGo ((arithStopped s n cause).setJob (rerunCommand j)) := by
  have hgo : ¬ ((s.aeng n).state ≠ .inService ∧ (s.aeng n).state ≠ .draining) := by
    rcases hstate with h | h <;> simp [h]
  have hstop : quarantineArith (s.setAeng n { s.aeng n with failCount := satInc 16 (s.aeng n).failCount }) n cause =
      arithStopped s n cause := by
    rw [quarantineArith_of_noWaiter (by exact hq), aeng_setAeng_self]
    rfl
  have hj' : (arithStopped s n cause).job? w.origin = some j := (job?_congr arithStopped_jobs _).trans hj
  have hany : anyArith (arithStopped s n cause) = true :=
    anyArith_of_inService hm (by rw [aeng_arithStopped_of_ne hne, hserves])
  simp only [arithFault, if_neg hgo, hstop]
  simp only [hwork, Option.bind_some, hj', rerunArith_of_attempt hrevoked hr hattempt hany]

theorem arithFault_quarantines :
    (arithFault s n cause).aeng n = faultedArith (s.aeng n) cause ∧
      (arithFault s n cause).job? w.origin = some (rerunCommand j) := by
  rw [arithFault_reruns hstate hwork hj hrevoked hr hattempt hm hne hserves hq]
  constructor
  · rw [aeng_congr readsGo_arith, aeng_congr (setJob_arith ..), aeng_arithStopped_self]
  · have hj' : (arithStopped s n cause).job? w.origin = some j := (job?_congr arithStopped_jobs _).trans hj
    have ho : (rerunCommand j).origin = w.origin := (origin_of_job? hj :)
    exact job?_readsGo (job?_setJob_self hj' ho) rfl

end

/-- The rows of an engine fault and of the watchdog act as the fault itself; the watchdog's expiry is journalled. -/
theorem exec_arithFault {i : Instr}
    (hi : i = .arithEngineFault n cause ∧ (cause = 0x04 ∨ cause = 0x06 ∨ cause = 0x08 ∨ cause = 0x09) ∨
      i = .arithWatchdog n ∧ cause = 0x05) (hn : n < 24) (hwork : (s.aeng n).work = some w) :
    ∃ t, exec i s = .next (arithFault t n cause) ∧ t.arith = s.arith ∧ t.jobs = s.jobs := by
  rcases hi with ⟨rfl, hcause⟩ | ⟨rfl, rfl⟩
  · have hc : arithCause cause = true := by rcases hcause with rfl | rfl | rfl | rfl <;> decide
    exact ⟨s, congrArg Host.Outcome.next (if_pos ⟨hn, hc⟩), rfl, rfl⟩
  · exact ⟨timerTaken s 12, congrArg Host.Outcome.next (if_pos ⟨hn, by rw [hwork]; rfl⟩), timerTaken_arith .., timerTaken_jobs ..⟩

/-! #### Tests, readmission and draining -/

theorem ariTestDone_passes (hn : n < 24) (hstate : (s.aeng n).state = .testing)
    (hwaiter : ∀ k ∈ s.jobs, k.code ≠ C.ARI_READMIT) : ariTestDone s n 0 = s.setAeng n (arithServe (wiped (s.aeng n))) := by
  have hgo : ¬ (n ≥ 24 ∨ (s.aeng n).state ≠ .testing ∨ 0 ≥ 1024) := by simp [hstate, hn]
  have hserve : ¬ (arithServe (wiped (s.aeng n))).state = .retired := by simp [arithServe]
  simp only [ariTestDone, if_neg hgo, if_true, if_neg hserve, engineWaiter_setAeng, engineWaiter_eq_none hwaiter]

theorem ariDrained_quarantines (hn : n < 24) (hstate : (s.aeng n).state = .draining) (hwork : (s.aeng n).work = none)
    (hwaiter : ∀ k ∈ s.jobs, k.code ≠ C.ARI_QUARANTINE) : ariDrained s n =
      recordEvent (s.setAeng n { s.aeng n with state := .quarantined, lastCause := 0x20 }) 0x8D02 n 0x20 2 := by
  have hgo : ¬ (n ≥ 24 ∨ (s.aeng n).state ≠ .draining ∨ (s.aeng n).work ≠ none) := by simp [hstate, hn, hwork]
  simp only [ariDrained, if_neg hgo, engineWaiter_recordEvent, engineWaiter_setAeng, engineWaiter_eq_none hwaiter]

/-- The operand check of ARI_READMIT and ARI_QUARANTINE: an engine number, and bytes that are zero. -/
theorem engineNumber_ok {ops : Bytes} {c : Nat} (hn : u8 ops 0 < c) (hz : zeroAt ops 1 7 = true) :
    ¬ (!zeroAt ops 1 7 || decide (u8 ops 0 ≥ c)) = true := by simp [hz, hn]

theorem ariReadmit_tests (hn : u8 j.ops 0 < 24) (hz : zeroAt j.ops 1 7 = true)
    (hstate : (s.aeng (u8 j.ops 0)).state = .quarantined) : ariReadmit j s =
      (s.setAeng (u8 j.ops 0) { wiped (s.aeng (u8 j.ops 0)) with state := .testing }).setJob
        { j with phase := .engineTest, args := [u8 j.ops 0] } := by
  simp only [ariReadmit, if_neg (engineNumber_ok hn hz), hstate, ne_eq, not_true_eq_false, if_false]

theorem ariReadmit_refused (hn : u8 j.ops 0 < 24) (hz : zeroAt j.ops 1 7 = true)
    (hstate : (s.aeng (u8 j.ops 0)).state ≠ .quarantined) : ariReadmit j s = dropWith s j S.E_ARI_ENGINE_STATE := by
  simp only [ariReadmit, if_neg (engineNumber_ok hn hz), if_pos hstate]

theorem ariQuarantine_drains (hn : u8 j.ops 0 < 24) (hz : zeroAt j.ops 1 7 = true)
    (hstate : (s.aeng (u8 j.ops 0)).state = .inService) : ariQuarantine j s =
      (s.setAeng (u8 j.ops 0) { s.aeng (u8 j.ops 0) with state := .draining }).setJob
        { j with phase := .quiesce, committed := true, args := [u8 j.ops 0] } := by
  simp only [ariQuarantine, if_neg (engineNumber_ok hn hz), hstate, ne_eq, not_true_eq_false, if_false]

/-- A command that changes one arith engine and goes on waiting. -/
theorem job_aeng_setAeng_setJob {e : ArithEngine} {k : Job} (hj : s.job? o = some j) (hk : k.origin = o) :
    ((s.setAeng n e).setJob k).job? o = some k ∧ ((s.setAeng n e).setJob k).aeng n = e ∧
      ∀ m, m ≠ n → ((s.setAeng n e).setJob k).aeng m = s.aeng m :=
  ⟨job?_setJob_self (s := s.setAeng n e) hj hk, aeng_setAeng_self .., fun _ hm => aeng_setAeng_of_ne _ _ hm⟩

end Sys2Proof.Machine
end

section
open Sys2Proof.Machine

/-- Settles O27, by the state in which a fault leaves the engine and its job, and by what each engine row writes. -/
theorem arithEnginesMove : Obligations.ArithEnginesMove := by
  refine ⟨?_, ?_, ?_, ?_, ?_, ?_⟩
  · intro s n m cause w j r i hi hn hstate hwork hj hrevoked hr hattempt hm hne hserves hq
    obtain ⟨t, hexec, harith, hjobs⟩ := exec_arithFault hi hn hwork
    rw [← aeng_congr harith] at hstate hwork hserves ⊢
    obtain ⟨heng, hjob⟩ := arithFault_quarantines (cause := cause) hstate hwork ((job?_congr hjobs _).trans hj) hrevoked hr
      hattempt hm hne hserves (hjobs ▸ hq)
    refine ⟨_, _, hexec, ?_, ?_, ?_, ?_, hjob, rfl, rfl, ?_⟩
    · rw [heng]; rfl
    · rw [heng]; rfl
    · rw [heng]; rfl
    · rw [heng]; rfl
    · simp [rerunCommand, hr]
  · exact fun s n hn hstate hwaiter => congrArg Host.Outcome.next (ariTestDone_passes hn hstate hwaiter)
  · intro s b j h hn hz hstate
    obtain ⟨hjob, hself, hothers⟩ := job_aeng_setAeng_setJob (s := freeSched s (.mailbox b)) (n := u8 j.ops 0)
      (e := { wiped (s.aeng (u8 j.ops 0)) with state := .testing }) (k := { j with phase := .engineTest, args := [u8 j.ops 0] })
      h.inFlight h.origin
    exact ⟨_, _, congrArg Host.Outcome.next ((runCommand_runs h _).trans (ariReadmit_tests hn hz hstate)), hself, hjob, rfl, rfl,
      hothers⟩
  · exact fun s b j h hp hn hz hstate =>
      ⟨_, congrArg Host.Outcome.next ((runCommand_runs h _).trans (ariReadmit_refused hn hz hstate)), dropWith_ends h.origin hp⟩
  · exact fun s n hn hstate hwork hwaiter => congrArg Host.Outcome.next (ariDrained_quarantines hn hstate hwork hwaiter)
  · intro s b j h hn hz hstate
    obtain ⟨hjob, hself, hothers⟩ := job_aeng_setAeng_setJob (s := freeSched s (.mailbox b)) (n := u8 j.ops 0)
      (e := { s.aeng (u8 j.ops 0) with state := .draining })
      (k := { j with phase := .quiesce, committed := true, args := [u8 j.ops 0] }) h.inFlight h.origin
    exact ⟨_, _, congrArg Host.Outcome.next ((runCommand_runs h _).trans (ariQuarantine_drains hn hz hstate)), hself, hjob, rfl,
      rfl, rfl, hothers⟩

end

section
/-! ### Seal engines park, fail, rerun, drain, quarantine and come back (R121, R123 to R126, R129) -/

namespace Sys2Proof.Machine

variable {s t : State} {o : Origin} {j : Job} {b : BindId} {n m c cause failed : Nat} {w : SealWork} {e : SealEngine}

/-! #### Parking at a slice boundary -/

theorem slicePark_parks (hn : n < 144) (hwork : (s.seng n).work = some w) (hreserved : (s.seng n).reserved = true)
    (hcls : w.cls ≠ 0) (hparked : (s.seng n).parked = none) (hwaits : laneWaits s (n / 12) = true)
    (hj : s.job? w.origin = some j) (hslice : w.slice < sliceBoundaries j) :
    slicePark s n = s.setSeng n { s.seng n with work := none, parked := some { w with slice := w.slice + 1 } } := by
  have hgo : n < 144 ∧ (s.seng n).reserved = true ∧ w.cls ≠ 0 ∧ (s.seng n).parked = none ∧ laneWaits s (clusterOf n) = true ∧
      decide (w.slice < sliceBoundaries j) = true := ⟨hn, hreserved, hcls, hparked, hwaits, decide_eq_true hslice⟩
  rw [slicePark]
  dsimp only
  rw [hwork]
  dsimp only
  rw [hj]
  exact if_pos hgo

theorem resumeParked_resumes (hn : n < 144) (hwork : (s.seng n).work = none) (hparked : (s.seng n).parked = some w)
    (hwaits : laneWaits s (n / 12) = false) :
    resumeParked s n = s.setSeng n { s.seng n with work := some w, parked := none } := by
  have hgo : n < 144 ∧ (s.seng n).work = none ∧ (s.seng n).parked ≠ none ∧
      ((s.seng n).reserved = false ∨ laneWaits s (clusterOf n) = false) := ⟨hn, hwork, by simp [hparked], Or.inr hwaits⟩
  rw [resumeParked, if_pos hgo, hparked]

/-! #### The RESERVED role of a cluster (R123) -/

/-- A handover gives the role to an engine in service, and keeps the state of every engine. -/
theorem handover_cases : handover s c = s ∨ ∃ m r k, (s.seng m).state = .inService ∧
    handover s c = s.setSeng m { s.seng m with reserved := r, takesRole := k } := by
  unfold handover
  split
  · exact Or.inl rfl
  · split
    · exact Or.inl rfl
    next m hm =>
      have hserves : (s.seng m).state = .inService := by simpa using List.find?_some hm
      refine Or.inr ⟨m, ?_⟩
      dsimp only
      split
      · exact ⟨_, _, hserves, rfl⟩
      · exact ⟨_, _, hserves, rfl⟩

@[simp] theorem handover_jobs : (handover s c).jobs = s.jobs := by
  rcases handover_cases (s := s) (c := c) with h | ⟨m, r, k, -, h⟩
  · rw [h]
  · rw [h, setSeng_jobs]

theorem state_handover (n : Nat) : ((handover s c).seng n).state = (s.seng n).state := by
  rcases handover_cases (s := s) (c := c) with h | ⟨m, r, k, -, h⟩
  · rw [h]
  · rw [h]
    by_cases hn : n = m
    · rw [hn, seng_setSeng_self]
    · rw [seng_setSeng_of_ne _ _ hn]

theorem seng_handover_of_outOfService (hn : (s.seng n).state ≠ .inService) : (handover s c).seng n = s.seng n := by
  rcases handover_cases (s := s) (c := c) with h | ⟨m, r, k, hserves, h⟩
  · rw [h]
  · rw [h, seng_setSeng_of_ne]
    rintro rfl
    exact hn hserves

/-! #### The entry to QUARANTINED (R125, R129) -/

/-- A seal engine that has entered QUARANTINED. -/
def quarantinedSeal (e : SealEngine) (cause : Nat) : SealEngine :=
  { e with state := .quarantined, lastCause := cause, reserved := false, takesRole := false, work := none, parked := none }

/-- The state after the event and the handover of an engine's quarantine. -/
def roleGiven (s : State) (n cause : Nat) : State :=
  handover (recordEvent (s.setSeng n (quarantinedSeal (s.seng n) cause)) 0x8D01 n cause 2) (clusterOf n)

theorem seng_roleGiven_self : (roleGiven s n cause).seng n = quarantinedSeal (s.seng n) cause := by
  have hself : (recordEvent (s.setSeng n (quarantinedSeal (s.seng n) cause)) 0x8D01 n cause 2).seng n =
      quarantinedSeal (s.seng n) cause := by rw [seng_congr (recordEvent_sealEngines ..), seng_setSeng_self]
  rw [roleGiven, seng_handover_of_outOfService, hself]
  rw [hself]
  exact EngState.noConfusion

theorem state_roleGiven_of_ne (h : m ≠ n) : ((roleGiven s n cause).seng m).state = (s.seng m).state := by
  rw [roleGiven, state_handover, seng_congr (recordEvent_sealEngines ..), seng_setSeng_of_ne _ _ h]

@[simp] theorem roleGiven_jobs : (roleGiven s n cause).jobs = s.jobs := by simp [roleGiven]

/-- The state after an engine's quarantine: with fewer than 12 RESERVED engines the class 0 commands are out of bound (R82). -/
def sealQuarantined (s : State) (n cause : Nat) : State :=
  if dmdDegraded (roleGiven s n cause) then flagClass0 (roleGiven s n cause) else roleGiven s n cause

theorem seng_sealQuarantined (m : Nat) : (sealQuarantined s n cause).seng m = (roleGiven s n cause).seng m := by
  unfold sealQuarantined
  split
  · rfl
  · rfl

/-- The mark of class 0 commands changes no other command. -/
theorem job?_sealQuarantined (hj : s.job? o = some j) (hcls : j.cls ≠ 0) : (sealQuarantined s n cause).job? o = some j := by
  have hj' : (roleGiven s n cause).job? o = some j := (job?_congr roleGiven_jobs o).trans hj
  unfold sealQuarantined
  split
  · rw [job?_map (f := fun k => if k.cls = 0 then { k with oob := true } else k) (fun k => by split <;> rfl) hj' rfl,
      if_neg hcls]
  · exact hj'

theorem code_of_mem_sealQuarantined {code : Nat} (h : ∀ k ∈ s.jobs, k.code ≠ code) :
    ∀ k ∈ (sealQuarantined s n cause).jobs, k.code ≠ code := by
  unfold sealQuarantined
  split
  · intro k hk
    obtain ⟨i, hi, rfl⟩ := List.mem_map.1 hk
    rw [roleGiven_jobs] at hi
    split
    · exact h i hi
    · exact h i hi
  · rwa [roleGiven_jobs]

theorem quarantineSeal_of_noWaiter (h : ∀ k ∈ s.jobs, k.code ≠ C.ENGINE_QUARANTINE) :
    quarantineSeal s n cause = sealQuarantined s n cause := by
  have hnone : engineWaiter (sealQuarantined s n cause) C.ENGINE_QUARANTINE n .quiesce = none :=
    engineWaiter_eq_none (code_of_mem_sealQuarantined h)
  change (match engineWaiter (sealQuarantined s n cause) C.ENGINE_QUARANTINE n .quiesce with
    | some j => okJob (sealQuarantined s n cause) j []
    | none => sealQuarantined s n cause) = _
  rw [hnone]

/-! #### A failed attempt (R124, R125) -/

@[simp] theorem sealOutcome_jobs {st : Nat} : (sealOutcome s o n st cause).jobs = s.jobs := by simp [sealOutcome]

@[simp] theorem sealOutcome_sealEngines {st : Nat} : (sealOutcome s o n st cause).sealEngines = s.sealEngines := by
  simp [sealOutcome]

theorem hostWrite_job {k : Job} {r : HostRef} {off : Nat} {bs : Bytes} {rel : Bool}
    (h : hostWrite s j r off bs rel = some (t, k)) : ∃ x, k = { j with wroteOther := x } := by
  unfold hostWrite at h
  split at h
  · cases h
    exact ⟨_, rfl⟩
  · dsimp only at h
    split at h
    · cases h
    · cases h
      split
      · exact ⟨_, rfl⟩
      · exact ⟨_, rfl⟩

/-- What a failed attempt has written: nothing, or bytes at the start of DST. -/
theorem attemptWrites_cases : attemptWrites s j w = s ∨ ∃ bs u k,
    hostWrite (s.tookFree 5) j (specOf j).dst 0 bs true = some (u, k) ∧ attemptWrites s j w = u.setJob k := by
  unfold attemptWrites
  dsimp only
  generalize (if (specOf j).aad.len = 0 then [] :: j.data else j.data) = d
  split
  · exact Or.inl rfl
  · split
    next hw => exact Or.inr ⟨_, _, _, hw, rfl⟩
    · exact Or.inl rfl

@[simp] theorem attemptWrites_sealEngines : (attemptWrites s j w).sealEngines = s.sealEngines := by
  rcases attemptWrites_cases (s := s) (j := j) (w := w) with h | ⟨bs, u, k, hw, h⟩
  · rw [h]
  · rw [h, setJob_sealEngines, hostWrite_sealEngines hw, tookFree_sealEngines]

/-- What a failed attempt has written marks its command, at most as one with bytes on the other port (R43). -/
theorem job?_attemptWrites (hj : s.job? o = some j) :
    ∃ x, (attemptWrites s j w).job? o = some { j with wroteOther := x } := by
  rcases attemptWrites_cases (s := s) (j := j) (w := w) with h | ⟨bs, u, k, hw, h⟩
  · exact ⟨j.wroteOther, by rw [h, hj]⟩
  · obtain ⟨x, rfl⟩ := hostWrite_job hw
    have hj' : u.job? o = some j := (job?_congr (hostWrite_jobs hw) o).trans hj
    exact ⟨x, (congrArg (State.job? · o) h).trans (job?_setJob_self hj' (origin_of_job? hj :))⟩

theorem anyUsable_of_inService {k : Job} (hcls : c ≠ 0) (hm : m < 144) (h : (s.seng m).state = .inService) :
    anyUsable s c k = true := by
  rw [anyUsable, if_neg hcls]
  exact List.any_eq_true.2 ⟨m, List.mem_range.2 hm, by simp [h]⟩

/-- The command of a failed attempt, back at its row with the next attempt and the cluster that it leaves out. -/
def nextAttempt (j : Job) (w : SealWork) (n : Nat) : Job :=
  { j with args := [w.tree, w.extent, attemptOf j + 1, listGet 0 j.args 3, clusterOf n + 1], oob := j.oob || j.cls == 0
           reads := [], data := [], holds := [], phase := .started, stage := 50, lane := none }

theorem attemptOf_nextAttempt : attemptOf (nextAttempt j w n) = attemptOf j + 1 :=
  max_eq_right (Nat.le_add_left 1 (attemptOf j))

/-- A job of class 1 to 3 whose attempt failed goes back to its row, while an engine is in service. -/
theorem rerunSeal_reruns (hj : s.job? w.origin = some j) (hrevoked : j.revokedBy = none) (hattempt : attemptOf j < 3)
    (hcls : j.cls ≠ 0) (hm : m < 144) (hserves : (s.seng m).state = .inService) :
    (rerunSeal s n w).sealEngines = s.sealEngines ∧
      ∃ x, (rerunSeal s n w).job? w.origin = some (nextAttempt { j with wroteOther := x } w n) := by
  obtain ⟨x, hx⟩ := job?_attemptWrites (w := w) hj
  have hserves' : ((attemptWrites s j w).seng m).state = .inService := by rw [seng_congr attemptWrites_sealEngines, hserves]
  have hgo : ∀ k : Job, ¬ (attemptOf { j with wroteOther := x } ≥ 3 ∨ anyUsable (attemptWrites s j w) j.cls k = false) :=
    fun k hk => hk.elim (Nat.not_le.2 hattempt) (by simp [anyUsable_of_inService hcls hm hserves'])
  have hset : rerunSeal s n w = (attemptWrites s j w).setJob (nextAttempt { j with wroteOther := x } w n) := by
    simp only [rerunSeal, hj, hx, Option.getD_some, hrevoked, Option.isSome_none, Bool.false_eq_true, if_false]
    exact if_neg (hgo _)
  rw [hset, setJob_sealEngines, attemptWrites_sealEngines]
  exact ⟨rfl, x, job?_setJob_self hx (origin_of_job? hj :)⟩

/-- The state in which a failed attempt leaves its engine, before the job is run again. -/
def sealStopped (s : State) (n cause : Nat) (o : Origin) : State :=
  sealOutcome (sealQuarantined (s.setSeng n { s.seng n with failCount := satInc 32 (s.seng n).failCount }) n cause) o n
    S.E_ENGINE_FAIL cause

theorem seng_sealStopped_self : (sealStopped s n cause o).seng n =
    quarantinedSeal { s.seng n with failCount := satInc 32 (s.seng n).failCount } cause := by
  rw [sealStopped, seng_congr sealOutcome_sealEngines, seng_sealQuarantined, seng_roleGiven_self, seng_setSeng_self]

theorem state_sealStopped_of_ne (h : m ≠ n) : ((sealStopped s n cause o).seng m).state = (s.seng m).state := by
  rw [sealStopped, seng_congr sealOutcome_sealEngines, seng_sealQuarantined, state_roleGiven_of_ne h, seng_setSeng_of_ne _ _ h]

theorem job?_sealStopped {p : Origin} (hj : s.job? p = some j) (hcls : j.cls ≠ 0) :
    (sealStopped s n cause o).job? p = some j := by
  rw [sealStopped, job?_congr sealOutcome_jobs]
  exact job?_sealQuarantined hj hcls

theorem attemptFail_of_running (hn : n < 144) (hstate : (s.seng n).state = .inService) (hwork : (s.seng n).work = some w)
    (hparked : (s.seng n).parked = none) (hq : ∀ k ∈ s.jobs, k.code ≠ C.ENGINE_QUARANTINE) :
    attemptFail s n cause = rerunSeal (sealStopped s n cause w.origin) n w := by
  have hgo : ¬ (n ≥ 144 ∨ sealIdle (s.seng n) = true ∨ ¬ ((s.seng n).state = .inService ∨ (s.seng n).state = .draining)) := by
    simp [hn, hstate, sealIdle, hwork]
  have hstop : quarantineSeal (s.setSeng n { s.seng n with failCount := satInc 32 (s.seng n).failCount }) n cause =
      sealQuarantined (s.setSeng n { s.seng n with failCount := satInc 32 (s.seng n).failCount }) n cause :=
    quarantineSeal_of_noWaiter hq
  simp only [attemptFail, if_neg hgo, hstop, sealStopped]
  simp only [hwork, hparked]

/-- A failed attempt quarantines its engine, and its job, of class 1 to 3, is to be run again. -/
theorem attemptFail_reruns (hn : n < 144) (hstate : (s.seng n).state = .inService) (hwork : (s.seng n).work = some w)
    (hparked : (s.seng n).parked = none) (hj : s.job? w.origin = some j) (hrevoked : j.revokedBy = none)
    (hattempt : attemptOf j < 3) (hcls : j.cls ≠ 0) (hm : m < 144) (hne : m ≠ n) (hserves : (s.seng m).state = .inService)
    (hq : ∀ k ∈ s.jobs, k.code ≠ C.ENGINE_QUARANTINE) :
    (attemptFail s n cause).seng n = quarantinedSeal { s.seng n with failCount := satInc 32 (s.seng n).failCount } cause ∧
      ∃ x, (attemptFail s n cause).job? w.origin = some (nextAttempt { j with wroteOther := x } w n) := by
  obtain ⟨heng, hjob⟩ := rerunSeal_reruns (n := n) (job?_sealStopped (n := n) (cause := cause) (o := w.origin) hj hcls) hrevoked
    hattempt hcls hm ((state_sealStopped_of_ne hne).trans hserves)
  rw [attemptFail_of_running hn hstate hwork hparked hq, seng_congr heng, seng_sealStopped_self]
  exact ⟨rfl, hjob⟩

/-- The rows of a failed attempt and of the watchdog act as the failure itself; the watchdog's expiry is journalled. -/
theorem exec_attemptFail {i : Instr}
    (hi : i = .engineAttemptFail n cause ∧ 1 ≤ cause ∧ cause ≤ 6 ∧ cause ≠ 5 ∨ i = .sealEngineWatchdog n ∧ cause = 5)
    (hn : n < 144) (hwork : (s.seng n).work = some w) :
    ∃ u, exec i s = .next u ∧ u.sealEngines = (attemptFail s n cause).sealEngines ∧ u.jobs = (attemptFail s n cause).jobs := by
  rcases hi with ⟨rfl, hlow, hhigh, hne⟩ | ⟨rfl, rfl⟩
  · have hgo : ¬ (cause = 0 ∨ cause > 6 ∨ cause = 5) := by omega
    exact ⟨_, congrArg Host.Outcome.next (if_neg hgo), rfl, rfl⟩
  · have hbusy : n < 144 ∧ sealIdle (s.seng n) = false := ⟨hn, by simp [sealIdle, hwork]⟩
    exact ⟨_, congrArg Host.Outcome.next (if_pos hbusy), timerTaken_sealEngines .., timerTaken_jobs ..⟩

/-! #### Draining, tests and readmission (R129) -/

theorem engineDrained_quarantines (hn : n < 144) (hstate : (s.seng n).state = .draining) (hwork : (s.seng n).work = none)
    (hparked : (s.seng n).parked = none) (hq : ∀ k ∈ s.jobs, k.code ≠ C.ENGINE_QUARANTINE) :
    (engineDrained s n).seng n = quarantinedSeal (s.seng n) 0x20 := by
  have hgo : ¬ (n ≥ 144 ∨ (s.seng n).state ≠ .draining ∨ sealIdle (s.seng n) = false) := by
    simp [hn, hstate, sealIdle, hwork, hparked]
  rw [engineDrained, if_neg hgo, quarantineSeal_of_noWaiter hq, seng_sealQuarantined, seng_roleGiven_self]

/-- An engine whose readmission tests passed. -/
def readmittedSeal (e : SealEngine) : SealEngine := { e with state := .inService, reserved := false, takesRole := false }

/-- An engine whose readmission tests failed: the third time it is RETIRED. -/
def rejectedSeal (e : SealEngine) : SealEngine :=
  { e with readmitFails := e.readmitFails + 1, lastCause := 0x11
           state := if e.readmitFails + 1 ≥ 3 then .retired else .quarantined }

/-- With the tests passed the cluster's role is handed over, and the command that waits ends with the engine's new state. -/
theorem engineTestDone_passes (hn : n < 144) (hstate : (s.seng n).state = .testing)
    (hwaiter : engineWaiter s C.ENGINE_READMIT n .engineTest = some j) : engineTestDone s n 0 =
      endJob (handover (s.setSeng n (readmittedSeal (s.seng n))) (clusterOf n)) j S.OK
        (readmitResult (EngState.inService).num (s.seng n).readmitFails 0) false := by
  have hgo : ¬ (n ≥ 144 ∨ (s.seng n).state ≠ .testing ∨ 0 ≥ 128) := by simp [hn, hstate]
  have hw : engineWaiter (handover (s.setSeng n (readmittedSeal (s.seng n))) (clusterOf n)) C.ENGINE_READMIT n .engineTest =
      some j := (engineWaiter_congr (by simp)).trans hwaiter
  rw [engineTestDone]
  dsimp only
  rw [if_neg hgo, if_pos rfl, if_neg (EngState.noConfusion), ← readmittedSeal, hw]
  rfl

/-- With tests failed and no command that waits for them, the engine stays out of service. -/
theorem engineTestDone_fails (hn : n < 144) (hstate : (s.seng n).state = .testing) (hfailed : failed ≠ 0) (hlt : failed < 128)
    (hwaiter : ∀ k ∈ s.jobs, k.code ≠ C.ENGINE_READMIT) :
    (engineTestDone s n failed).seng n = rejectedSeal (s.seng n) := by
  have hgo : ¬ (n ≥ 144 ∨ (s.seng n).state ≠ .testing ∨ failed ≥ 128) := by simp [hn, hstate, hlt]
  have hnone : ∀ t : State, t.jobs = s.jobs → engineWaiter t C.ENGINE_READMIT n .engineTest = none := fun t ht =>
    engineWaiter_eq_none (ht ▸ hwaiter)
  have hout : (rejectedSeal (s.seng n)).state ≠ .inService := by
    rw [rejectedSeal]
    dsimp only
    split
    · exact EngState.noConfusion
    · exact EngState.noConfusion
  rw [engineTestDone]
  dsimp only
  rw [if_neg hgo, if_neg hfailed, ← rejectedSeal]
  by_cases hretired : (rejectedSeal (s.seng n)).state = .retired
  · rw [if_pos hretired, hnone _ (by simp)]
    exact (seng_congr (recordEvent_sealEngines ..) n).trans (seng_setSeng_self ..)
  · rw [if_neg hretired, hnone _ (by simp)]
    exact (seng_handover_of_outOfService (by rwa [seng_setSeng_self])).trans (seng_setSeng_self ..)

theorem engineReadmit_tests (hn : u8 j.ops 0 < 144) (hz : zeroAt j.ops 1 7 = true)
    (hstate : (s.seng (u8 j.ops 0)).state = .quarantined) : engineReadmit j s =
      (s.setSeng (u8 j.ops 0) { s.seng (u8 j.ops 0) with state := .testing }).setJob
        { j with phase := .engineTest, args := [u8 j.ops 0] } := by
  simp only [engineReadmit, if_neg (engineNumber_ok hn hz), hstate, ne_eq, not_true_eq_false, if_false]

/-- A command that changes one seal engine and goes on waiting. -/
theorem job_seng_setSeng_setJob {k : Job} (hj : s.job? o = some j) (hk : k.origin = o) :
    ((s.setSeng n e).setJob k).job? o = some k ∧ ((s.setSeng n e).setJob k).seng n = e ∧
      ∀ m, m ≠ n → ((s.setSeng n e).setJob k).seng m = s.seng m :=
  ⟨job?_setJob_self (s := s.setSeng n e) hj hk, seng_setSeng_self .., fun _ hm => seng_setSeng_of_ne _ _ hm⟩

/-- An engine that drains has given up its role. -/
def drainingSeal (e : SealEngine) : SealEngine := { e with state := .draining, reserved := false, takesRole := false }

theorem engineQuarantine_drains (hn : u8 j.ops 0 < 144) (hz : zeroAt j.ops 1 7 = true)
    (hstate : (s.seng (u8 j.ops 0)).state = .inService) : engineQuarantine j s =
      (handover (s.setSeng (u8 j.ops 0) (drainingSeal (s.seng (u8 j.ops 0)))) (clusterOf (u8 j.ops 0))).setJob
        { j with phase := .quiesce, committed := true, args := [u8 j.ops 0] } := by
  simp only [engineQuarantine, if_neg (engineNumber_ok hn hz), hstate, ne_eq, not_true_eq_false, if_false]
  rfl

theorem seng_handover_draining : (handover (s.setSeng n (drainingSeal e)) c).seng n = drainingSeal e := by
  rw [seng_handover_of_outOfService, seng_setSeng_self]
  rw [seng_setSeng_self]
  exact EngState.noConfusion

end Sys2Proof.Machine
end

section
open Sys2Proof.Machine

/-- Settles O23, by the engine that a failed attempt, a drain and the tests leave, which no handover of the RESERVED role
changes while it is out of service. -/
theorem sealEnginesMove : Obligations.SealEnginesMove := by
  refine ⟨?_, ?_, ?_, ?_, ?_, ?_, ?_, ?_⟩
  · exact fun s n w j hn hwork hreserved hcls hparked hwaits hj hslice =>
      congrArg Host.Outcome.next (slicePark_parks hn hwork hreserved hcls hparked hwaits hj hslice)
  · exact fun s n w hn hwork hparked hwaits => congrArg Host.Outcome.next (resumeParked_resumes hn hwork hparked hwaits)
  · intro s n m cause w j i hi hn hstate hwork hparked hj hrevoked hattempt hcls hm hne hserves hq
    obtain ⟨u, hexec, heng, hjobs⟩ := exec_attemptFail hi hn hwork
    obtain ⟨hself, x, hjob⟩ := attemptFail_reruns (cause := cause) hn hstate hwork hparked hj hrevoked hattempt hcls hm hne
      hserves hq
    refine ⟨u, _, hexec, ?_, ?_, ?_, ?_, ?_, (job?_congr hjobs _).trans hjob, rfl, rfl, attemptOf_nextAttempt, rfl⟩
    all_goals rw [seng_congr heng, hself]; rfl
  · intro s n hn hstate hwork hparked hq
    refine ⟨_, rfl, ?_, ?_⟩
    all_goals rw [engineDrained_quarantines hn hstate hwork hparked hq]; rfl
  · intro s n b j hn hstate hwaiter ho hwrote hdiscard
    refine ⟨_, congrArg Host.Outcome.next (engineTestDone_passes hn hstate hwaiter), ?_, endJob_ends ho ⟨hwrote, hdiscard⟩ ..⟩
    rw [seng_congr (endJob_sealEngines ..), state_handover, seng_setSeng_self]
    rfl
  · intro s n failed hn hstate hfailed hlt hwaiter
    refine ⟨_, rfl, ?_, ?_, ?_⟩
    all_goals rw [engineTestDone_fails hn hstate hfailed hlt hwaiter]; rfl
  · intro s b j h hn hz hstate
    obtain ⟨hjob, hself, hothers⟩ := job_seng_setSeng_setJob (s := freeSched s (.mailbox b)) (n := u8 j.ops 0)
      (e := { s.seng (u8 j.ops 0) with state := .testing }) (k := { j with phase := .engineTest, args := [u8 j.ops 0] })
      h.inFlight h.origin
    exact ⟨_, _, congrArg Host.Outcome.next ((runCommand_runs h _).trans (engineReadmit_tests hn hz hstate)), hself, hjob, rfl,
      rfl, hothers⟩
  · intro s b j h hn hz hstate
    have hself := seng_handover_draining (s := freeSched s (.mailbox b)) (n := u8 j.ops 0) (e := s.seng (u8 j.ops 0))
      (c := clusterOf (u8 j.ops 0))
    refine ⟨_, _, congrArg Host.Outcome.next ((runCommand_runs h _).trans (engineQuarantine_drains hn hz hstate)),
      congrArg SealEngine.state hself, congrArg SealEngine.reserved hself, job?_setJob_self (j := j) ?_ h.origin, rfl, rfl⟩
    rw [job?_congr handover_jobs]
    exact h.inFlight

end

section
/-! ### Reads outstanding where commands take no new tag (R27, R84): a read that can be issued can still be issued. -/

namespace Sys2Proof.Machine

variable {s t : State} {j k : Job} {r : HostRef} {o : Origin}

theorem openReads_congr (hdma : DmaAlike s t) (hjobs : t.jobs = s.jobs) (hqps : t.qps = s.qps) (p : PortId) (sel : Nat → Bool) :
    openReads t p sel = openReads s p sel := by
  have hport : readPort t = readPort s := by
    funext i
    simp only [readPort, hdma.dmaBind]
  rw [openReads, hjobs, hqps, hport, openReads]

/-- A command that is at its dispatcher has no read outstanding. -/
theorem openReads_setJob_le (hk : k.phase = .started) (p : PortId) (sel : Nat → Bool) :
    openReads (s.setJob k) p sel ≤ openReads s p sel := by
  have hport : readPort (s.setJob k) = readPort s := rfl
  have hjobs : (s.setJob k).jobs = s.jobs.map (fun i => if i.origin == k.origin then k else i) := rfl
  refine Nat.add_le_add_right ?_ _
  rw [← List.countP_eq_length_filter, ← List.countP_eq_length_filter, hport, hjobs, List.countP_map]
  refine List.countP_mono_left fun i _ hi => ?_
  by_cases ho : i.origin = k.origin
  · simp [ho, readPort_of_started hk] at hi
  · simpa [ho] using hi

/-- Between `s` and `t` the issue of host DMA stays as it was, and no more reads are outstanding. -/
structure ReadsFewer (s t : State) : Prop where
  dma : DmaAlike s t
  reads : ∀ p sel, openReads t p sel ≤ openReads s p sel

theorem ReadsFewer.trans {u : State} (h : ReadsFewer s t) (h' : ReadsFewer t u) : ReadsFewer s u :=
  ⟨h.dma.trans h'.dma, fun p sel => (h'.reads p sel).trans (h.reads p sel)⟩

theorem readsFewer_of_eq (hdma : DmaAlike s t) (hjobs : t.jobs = s.jobs) (hqps : t.qps = s.qps) : ReadsFewer s t :=
  ⟨hdma, fun p sel => (openReads_congr hdma hjobs hqps p sel).le⟩

theorem readsFewer_bindOrder {names : List Nat} : ReadsFewer s (bindOrder s j names).1 := by
  have hset : ReadsFewer s (s.setJob (bindOrder s j names).2) := ⟨⟨rfl, rfl, rfl⟩, openReads_setJob_le rfl⟩
  have hbind := arbitrated_bindOrder (s := s) (j := j) (names := names)
  refine hset.trans (readsFewer_of_eq ?_ bindOrder_jobs hbind.qps)
  exact ⟨hbind.dmaAlike.portA, hbind.dmaAlike.portB, hbind.dmaAlike.tenants⟩

/-- A command on whose issue of host DMA nothing new bears reads as it did. -/
theorem ReadReady.of_fewer (h : ReadReady s j r) (ht : ReadsFewer s t) (hbind : k.bind = j.bind) (howner : k.owner = j.owner)
    (htenant : k.tenant = j.tenant) (hcls : k.cls = j.cls) : ReadReady t k r ∧ dmaBind t k r.port = dmaBind s j r.port := by
  have hd : dmaBind t k r.port = dmaBind s j r.port := by
    rw [ht.dma.dmaBind, dmaBind, dmaBind, hbind, howner, htenant]
  obtain ⟨hcan, htag⟩ := h
  refine ⟨⟨?_, ?_⟩, hd⟩
  · rw [hd, ht.dma.canDma, hcan]
  · have hall := ht.reads (dmaBind s j r.port).port (fun _ => true)
    have hother := ht.reads (dmaBind s j r.port).port (· != 0)
    simp only [tagFree, Bool.and_eq_true, Bool.or_eq_true, decide_eq_true_eq] at htag ⊢
    obtain ⟨hfree, hclass⟩ := htag
    rw [hd, hcls]
    exact ⟨hall.trans_lt hfree, hclass.imp_right hother.trans_lt⟩

end Sys2Proof.Machine
end

section
/-! ### Contexts of the digest units (R134): the context that a job takes, and the read of its message. -/

namespace Sys2Proof.Machine

variable {s t : State} {o : Origin} {i j : Job} {b : BindId} {n : Nat} {c : DigestCtx} {r : HostRef}

/-- A digest job that takes a context changes the contexts and the journal alone. -/
theorem setCtx_frame : ∃ a m, setCtx s n c = { s with digests := s.digests.insert n c, amber := a, moon := m } := by
  unfold setCtx
  dsimp only
  split
  · obtain ⟨a, m, h⟩ : ∃ a m, crossing s 0x0C (n / 8) (b2n c.ward.isNone) 1 = { s with amber := a, moon := m } :=
      capture_frame
    exact ⟨a, m, by rw [h]⟩
  · exact ⟨_, _, rfl⟩

theorem readsFewer_setCtx : ReadsFewer s (setCtx s n c) := by
  obtain ⟨_, _, h⟩ := setCtx_frame (s := s) (n := n) (c := c)
  rw [h]
  exact readsFewer_of_eq ⟨rfl, rfl, rfl⟩ rfl rfl

theorem freeCtx_congr (h : t.digests = s.digests) (n fuel : Nat) : freeCtx t n fuel = freeCtx s n fuel := by
  induction fuel generalizing n with
  | zero => rfl
  | succ fuel ih => rw [freeCtx, h, ih, freeCtx]

theorem guardCtx_freeSched : guardCtx (freeSched s o) = guardCtx s := freeCtx_congr rfl 0 32

theorem quartzCtx_freeSched : quartzCtx (freeSched s o) = quartzCtx s := freeCtx_congr rfl 32 8

/-- A digest job has taken its context, and the read of its message is issued. -/
def contextReads (s : State) (n : Nat) (c : DigestCtx) (j : Job) (r : HostRef) : State :=
  ((setCtx s n c).send (readMsg s (dmaBind s j r.port) r.addr r.len)).setJob
    { j with reads := [r], readSince := s.clk, phase := .hostRead, unsent := false }

theorem issueReads_setCtx (h : ReadReady s j r) : issueReads (setCtx s n c) j [r] =
    some ((setCtx s n c).send (readMsg s (dmaBind s j r.port) r.addr r.len),
      { j with reads := [r], readSince := s.clk, phase := .hostRead, unsent := false }) := by
  have hctx : ReadsFewer s (setCtx s n c) := readsFewer_setCtx
  obtain ⟨hready, -⟩ := h.of_fewer (k := j) hctx rfl rfl rfl rfl
  have hclk : (setCtx s n c).clk = s.clk := by
    obtain ⟨_, _, hf⟩ := setCtx_frame (s := s) (n := n) (c := c)
    rw [hf]
  rw [issueReads_of_ready hready, hctx.dma.dmaBind, hctx.dma.readMsg, hclk]

theorem contextReads_digests : (contextReads s n c j r).digests.look? n = some c := by
  obtain ⟨_, _, h⟩ := setCtx_frame (s := s) (n := n) (c := c)
  rw [contextReads, setJob_digests, send_digests, h]
  exact NMap.look?_insert_self ..

theorem contextReads_sends : readMsg s (dmaBind s j r.port) r.addr r.len ∈ (contextReads s n c j r).out := by
  rw [contextReads, setJob_out, send_out]
  exact List.mem_append_right _ List.mem_cons_self

theorem contextReads_meas : (contextReads s n c j r).meas = s.meas := by
  obtain ⟨_, _, h⟩ := setCtx_frame (s := s) (n := n) (c := c)
  rw [contextReads, setJob_meas, send_meas, h]

theorem contextReads_job? (hi : s.job? o = some i) (ho : j.origin = o) : (contextReads s n c j r).job? o =
    some { j with reads := [r], readSince := s.clk, phase := .hostRead, unsent := false } := by
  have hi' : ((setCtx s n c).send (readMsg s (dmaBind s j r.port) r.addr r.len)).job? o = some i := by
    obtain ⟨_, _, h⟩ := setCtx_frame (s := s) (n := n) (c := c)
    rw [job?_congr (send_jobs ..), h]
    exact hi
  exact job?_setJob_self hi' ho

end Sys2Proof.Machine
end

section
/-! ### DIGEST_MAC (R132, R134, R136) -/

namespace Sys2Proof.Machine

variable {s t : State} {o : Origin} {j k : Job} {b : BindId} {n m : Nat} {c : DigestCtx} {h h' : SlotHalf} {key : Bytes}

/-- The context that a DIGEST_MAC takes. -/
def macContext (j : Job) : DigestCtx := { origin := j.origin, alg := u8 j.ops 16, declLen := (hostRef j.ops 0).len }

/-- A DIGEST_MAC with its key delivered. -/
def macCommand (j : Job) (key : Bytes) : Job :=
  { j with keep := [key], holds := slotNames [u16 j.ops 18], afterReads := .engine }

theorem digestMacStart_reads (hlen : (hostRef j.ops 0).len ≠ 0) (hr : ReadReady s j (hostRef j.ops 0)) :
    digestMacStart s j n key = contextReads s n (macContext j) (macCommand j key) (hostRef j.ops 0) := by
  have hr' : ReadReady s (macCommand j key) (hostRef j.ops 0) := ⟨hr.dma, hr.tag⟩
  rw [digestMacStart]
  dsimp only
  rw [if_neg hlen, ← macContext, ← macCommand, issueReads_setCtx hr']
  rfl

theorem digestMac_unkeyed (hctx : guardCtx s = some n) (hward : wardWaits s = false) (hslot : u16 j.ops 18 = 0xFFFF)
    (hcheck : digestMacCheck s j = none) : digestMac j s = digestMacStart s j n [] := by
  have hnot : ¬ wardWaits s = true := by simp [hward]
  rw [digestMac, hctx]
  dsimp only
  rw [if_neg hnot, if_pos hslot, hcheck, checked]

theorem digestMacCheck_bindOrder {names : List Nat} :
    digestMacCheck (bindOrder s j names).1 (bindOrder s j names).2 = digestMacCheck s j := by
  obtain ⟨_, _, _, _, hf⟩ := arbitrated_bindOrder (s := s) (j := j) (names := names)
  rw [hf]
  rfl

theorem withMaterial_of_open {g : State → SlotHalf → State} (hactive : (s.slot n).active = some h)
    (hopen : openHalf s h = some h') : withMaterial s j n false g = g (materialStep s j n S.OK) h' := by
  simp only [withMaterial, Bool.false_eq_true, if_false, hactive, hopen]

/-- The state in which an order's key is delivered, and the command of the order. -/
def keyTaken (s : State) (j : Job) (n : Nat) : State :=
  materialStep (bindOrder s j [n]).1 (bindOrder s j [n]).2 n S.OK
@[inherit_doc keyTaken] def keyedCommand (s : State) (j : Job) (n : Nat) : Job := (bindOrder s j [n]).2

theorem readsFewer_keyTaken : ReadsFewer s (keyTaken s j n) :=
  readsFewer_bindOrder.trans (readsFewer_of_eq dmaAlike_capture (capture_jobs ..) (capture_qps ..))

theorem keyTaken_job? (hj : s.job? o = some j) : (keyTaken s j n).job? o = some (keyedCommand s j n) := by
  have hjobs : (keyTaken s j n).jobs = (s.setJob (keyedCommand s j n)).jobs := (capture_jobs ..).trans bindOrder_jobs
  rw [job?_congr hjobs]
  exact job?_setJob_self hj (origin_of_job? hj :)

theorem digestMac_keyed (hu : Undisputed s j) (hctx : guardCtx s = some n) (hward : wardWaits s = false)
    (hslot : u16 j.ops 18 ≠ 0xFFFF) (hcheck : digestMacCheck s j = none) (hactive : (s.slot (u16 j.ops 18)).active = some h)
    (hopen : openHalf s h = some h') : digestMac j s =
      digestMacStart (keyTaken s j (u16 j.ops 18)) (keyedCommand s j (u16 j.ops 18)) n h'.material := by
  have hnot : ¬ wardWaits s = true := by simp [hward]
  obtain ⟨hactive', hopen'⟩ : ((bindOrder s j [u16 j.ops 18]).1.slot (u16 j.ops 18)).active = some h ∧
      openHalf (bindOrder s j [u16 j.ops 18]).1 h = some h' := by
    obtain ⟨_, _, _, _, hf⟩ := arbitrated_bindOrder (s := s) (j := j) (names := [u16 j.ops 18])
    rw [hf]
    exact ⟨hactive, hopen⟩
  rw [digestMac, hctx]
  dsimp only
  rw [if_neg hnot, if_neg hslot, takeOrder_undisputed hu, digestMacCheck_bindOrder, hcheck, checked,
    withMaterial_of_open hactive' hopen']
  rfl

/-- What a job that has a context ends with: the function of R136 over its message. -/
theorem digestJobDone_mac (hj : s.job? o = some j) (hcode : j.code = C.DIGEST_MAC) (hphase : j.phase = .engine)
    (hctx : ctxOf s o = some (n, c)) (hyield : c.yielded = false) : digestJobDone s o =
      endJob (dropCtx s o) j S.OK
        (macResult c.alg (u8 j.ops 17) (j.keep.headD []) (slice j.ops 32 (u16 j.ops 20)) (j.data.headD [])) true := by
  have hgo : ¬ (j.phase ≠ .engine ∨ c.yielded = true ∧ ((guardCtx s).isNone = true ∨ wardWaits s = true)) := by
    simp [hphase, hyield]
  simp only [digestJobDone, hj, hctx, if_neg hgo, if_pos hcode]

theorem origin_of_mem_dropCtx : ∀ e ∈ (dropCtx s o).digests, e.2.origin ≠ o := by
  intro e he
  simpa using (List.mem_filter.1 he).2

theorem ctxYield_yields (hctx : ctxOf s o = some (n, c)) (hn : n < 32) (hfull : guardCtx s = none) (hwaits : wardWaits s = true)
    (hward : c.ward = none) (hlen : 65536 < c.declLen) (hm : freeCtx s 64 64 = some m) :
    ctxYield s o = { s with digests := (s.digests.erase n).insert m { c with yielded := true } } := by
  have hgo : n < 32 ∧ (guardCtx s).isNone = true ∧ wardWaits s = true ∧ c.ward = none ∧ c.declLen > 65536 :=
    ⟨hn, by rw [hfull]; rfl, hwaits, hward, hlen⟩
  rw [ctxYield, hctx]
  dsimp only
  rw [if_pos hgo, hm]

end Sys2Proof.Machine
end

section
/-! ### Measurement registers (R137, R138, R140, R142, R143) -/

namespace Sys2Proof.Machine

variable {s t : State} {o : Origin} {j : Job} {b : BindId} {n i v a : Nat} {c : DigestCtx} {r : HostRef} {msg : Bytes}

/-! #### Reads -/

theorem measRead_returns (hn : u8 j.ops 0 < 32) (hz : zeroAt j.ops 1 7 = true) : measRead j s =
    okJob s j (bank3 (s.mr (u8 j.ops 0)) ++ bank384 (s.mr (u8 j.ops 0)) ++ leBytes 4 (s.mr (u8 j.ops 0)).count ++ zeros 12) := by
  have hgo : ¬ (!zeroAt j.ops 1 7 || decide (u8 j.ops 0 ≥ 32)) = true := by simp [hz, hn]
  rw [measRead]
  dsimp only
  rw [if_neg hgo]

theorem logEntryBytes_ne_nil (e : MeasLogEntry) : logEntryBytes e ≠ [] := by
  intro h
  simpa [logEntryBytes] using congrArg List.length h

/-- The log entries that MEAS_LOG_READ asks for. -/
def logRead (s : State) (j : Job) : List MeasLogEntry := (s.measLog.drop (u32 j.ops 0)).take (u16 j.ops 4)

/-- Their bytes (R142). -/
def logReadBytes (s : State) (j : Job) : Bytes := ((logRead s j).map logEntryBytes).flatten

/-- The result of MEAS_LOG_READ. -/
def logReadResult (s : State) (j : Job) : Bytes :=
  leBytes 2 (logRead s j).length ++ leBytes 2 s.measLog.length ++ leBytes 4 s.measNext ++ leBytes 1 (b2n s.measOverflow) ++ zeros 7

theorem logReadBytes_ne_nil (hcount : 1 ≤ u16 j.ops 4) (hstart : u32 j.ops 0 < s.measLog.length) : logReadBytes s j ≠ [] := by
  have hlen : 0 < (logRead s j).length := by
    rw [logRead, List.length_take, List.length_drop]
    omega
  obtain ⟨e, l, hl⟩ := List.exists_cons_of_length_pos hlen
  rw [logReadBytes, hl, List.map_cons, List.flatten_cons]
  exact List.append_ne_nil_of_left_ne_nil (logEntryBytes_ne_nil e) _

/-- MEAS_LOG_READ writes its entries to OUT and ends. -/
theorem measLogRead_writes (hz : zeroAt j.ops 6 10 = true) (hlow : 1 ≤ u16 j.ops 4) (hhigh : u16 j.ops 4 ≤ 1024)
    (hcheck : refCheck s j (hostRef j.ops 16) (128 * u16 j.ops 4) maxLen = none) (hstart : u32 j.ops 0 < s.measLog.length)
    (hcan : canDma s (dmaBind s j (hostRef j.ops 16).port) = true) : measLogRead j s =
      endJob (s.send (writeMsg s (dmaBind s j (hostRef j.ops 16).port) (hostRef j.ops 16).addr (logReadBytes s j) true))
        (wroteThrough s j (hostRef j.ops 16)) S.OK (logReadResult s j) false := by
  have hcount : u16 j.ops 4 ≠ 0 := by omega
  have hchecks : firstFail [failIf (!zeroAt j.ops 6 10 || u16 j.ops 4 == 0 || decide (u16 j.ops 4 > 1024)) S.E_BAD_OPERAND,
      refCheck s j (hostRef j.ops 16) (128 * u16 j.ops 4) maxLen,
      failIf (decide (u32 j.ops 0 ≥ s.measLog.length)) S.E_MEAS_LOG_RANGE] = none := by
    simp [failIf, firstFail, hz, hcount, hhigh.not_gt, hcheck, hstart.not_ge]
  have hwrite := hostWrite_of_canDma (off := 0) (rel := true) (logReadBytes_ne_nil hlow hstart) hcan
  rw [measLogRead]
  dsimp only
  rw [hchecks]
  dsimp only
  rw [writeAndEnd, ← logRead, ← logReadBytes, hwrite]
  rfl

/-! #### The snapshot (R143) -/

/-- Loads of registers that follow one another, 8 bytes apart. -/
theorem reg_foldl_setReg {f : Nat → Nat} (m : Nat) :
    (∀ i < m, ((List.range m).foldl (fun t k => t.setReg (a + 8 * k) (f k)) s).reg (a + 8 * i) = f i % 2 ^ 64) ∧
      ∀ x, (∀ i < m, x ≠ a + 8 * i) → ((List.range m).foldl (fun t k => t.setReg (a + 8 * k) (f k)) s).reg x = s.reg x := by
  induction m with
  | zero => exact ⟨fun i hi => absurd hi (Nat.not_lt_zero i), fun _ _ => rfl⟩
  | succ m ih =>
    obtain ⟨hin, hout⟩ := ih
    rw [List.range_succ, List.foldl_append]
    refine ⟨fun i hi => ?_, fun x hx => ?_⟩
    · by_cases him : i = m
      · rw [him]
        exact reg_setReg_self ..
      · exact (reg_setReg_of_ne _ _ (by omega)).trans (hin i (by omega))
    · exact (reg_setReg_of_ne _ _ (hx m (Nat.lt_succ_self m))).trans (hout x fun i hi => hx i (by omega))

theorem foldl_setReg_frame {f g : Nat → Nat} (l : List Nat) :
    (l.foldl (fun t k => t.setReg (f k) (g k)) s).meas = s.meas ∧ (l.foldl (fun t k => t.setReg (f k) (g k)) s).slots = s.slots :=
  List.foldlRecOn (motive := fun t : State => t.meas = s.meas ∧ t.slots = s.slots) l _ ⟨rfl, rfl⟩ fun _ ht _ _ => ht

/-- The bank that DGT_MR_SEL selects. -/
def selectedBank (s : State) (v : Nat) : Bytes :=
  if v.testBit 5 then bank3 (s.mr (v % 32)) else bank384 (s.mr (v % 32)) ++ zeros 16

theorem reg_mrSelWrite :
    (mrSelWrite s v).reg R.DGT_MR_SEL = v % 64 ∧ (mrSelWrite s v).reg R.DGT_MR_INFO = (s.mr (v % 32)).count % 2 ^ 32 ∧
      ∀ i, i < 8 → (mrSelWrite s v).reg (R.DGT_MR_WORD_k + 8 * i) = u64 (selectedBank s v) (8 * i) := by
  obtain ⟨hin, hout⟩ := reg_foldl_setReg (s := s.setReg R.DGT_MR_SEL (v % 64)) (a := R.DGT_MR_WORD_k)
    (f := fun k => u64 (selectedBank s v) (8 * k)) 8
  have hbelow : ∀ i < 8, R.DGT_MR_SEL ≠ R.DGT_MR_WORD_k + 8 * i := fun i _ =>
    (Nat.lt_add_right (8 * i) (by decide : R.DGT_MR_SEL < R.DGT_MR_WORD_k)).ne
  have habove : ∀ i < 8, R.DGT_MR_WORD_k + 8 * i ≠ R.DGT_MR_INFO := by decide
  refine ⟨?_, ?_, fun i hi => ?_⟩
  · refine (reg_setReg_of_ne _ _ (by decide)).trans ((hout _ hbelow).trans ((reg_setReg_self ..).trans ?_))
    omega
  · exact (reg_setReg_self ..).trans (by omega)
  · exact (reg_setReg_of_ne _ _ (habove i hi)).trans ((hin i hi).trans (Nat.mod_eq_of_lt (u64_lt _ _)))

theorem mrSelWrite_frame : (mrSelWrite s v).meas = s.meas ∧ (mrSelWrite s v).slots = s.slots := by
  obtain ⟨hmeas, hslots⟩ := foldl_setReg_frame (s := s.setReg R.DGT_MR_SEL (v % 64)) (f := fun k => R.DGT_MR_WORD_k + 8 * k)
    (g := fun k => u64 (selectedBank s v) (8 * k)) (List.range 8)
  exact ⟨(setReg_meas ..).trans (hmeas.trans (setReg_meas ..)), (setReg_slots ..).trans (hslots.trans (setReg_slots ..))⟩

/-! #### Extends -/

/-- The context that a MEAS_EXTEND takes. -/
def extendContext (j : Job) : DigestCtx := { origin := j.origin, declLen := (hostRef j.ops 16).len }

theorem measExtend_reads (hctx : quartzCtx s = some n) (hlow : zeroAt j.ops 1 3 = true) (hhigh : zeroAt j.ops 8 8 = true)
    (hcheck : refCheck s j (hostRef j.ops 16) 0 16777216 = none) (hmin : 28 ≤ u8 j.ops 0) (hmax : u8 j.ops 0 ≤ 31)
    (hlen : (hostRef j.ops 16).len ≠ 0) (hr : ReadReady s j (hostRef j.ops 16)) : measExtend j s =
      contextReads s n (extendContext j) { j with afterReads := .engine } (hostRef j.ops 16) := by
  have hchecks : firstFail [failIf (!zeroAt j.ops 1 3 || !zeroAt j.ops 8 8) S.E_BAD_OPERAND,
      refCheck s j (hostRef j.ops 16) 0 16777216,
      failIf (decide (u8 j.ops 0 < 28) || decide (u8 j.ops 0 > 31)) S.E_MEAS_INDEX] = none := by
    simp [failIf, firstFail, hlow, hhigh, hcheck, hmin.not_gt, hmax.not_gt]
  have hr' : ReadReady s { j with afterReads := .engine } (hostRef j.ops 16) := ⟨hr.dma, hr.tag⟩
  rw [measExtend, hctx]
  dsimp only
  rw [hchecks]
  dsimp only
  rw [if_neg hlen, ← extendContext, issueReads_setCtx hr']
  rfl

/-- A measurement register after an extend with two digests. -/
def extendedReg (m : MeasReg) (d384 d512 : Bytes) : MeasReg :=
  { sha384 := sha384 (fit 48 m.sha384 ++ d384), sha3 := sha3_512 (fit 64 m.sha3 ++ d512), count := m.count + 1 }

theorem mr_extendNow {ty : Nat} {trunc : Bool} {d384 d512 : Bytes} :
    (extendNow s i ty trunc d384 d512).mr n = if n = i then extendedReg (s.mr i) d384 d512 else s.mr n := by
  have hmeas : (extendNow s i ty trunc d384 d512).meas = s.meas.put {} i (extendedReg (s.mr i) d384 d512) :=
    congrArg (fun m : NMap MeasReg => NMap.put ({} : MeasReg) m i (extendedReg (s.mr i) d384 d512)) (crossing_meas ..)
  rw [State.mr, hmeas, NMap.get_put, ← State.mr]

theorem extendNow_log {ty : Nat} {trunc : Bool} {d384 d512 : Bytes} (hroom : s.measLog.length < 1024) :
    (extendNow s i ty trunc d384 d512).measLog = s.measLog ++
      [{ index := i, source := mrSource i, trunc := trunc, seq := s.measNext, eventType := ty, d384 := d384, d512 := d512 }] := by
  have hfull : decide (s.measLog.length ≥ 1024) = false := decide_eq_false (Nat.not_le.2 hroom)
  simp only [extendNow, hfull, Bool.false_eq_true, if_false]

theorem mr_congr (h : t.meas = s.meas) (i : Nat) : t.mr i = s.mr i := by rw [State.mr, h, State.mr]

/-- The state of a MEAS_EXTEND's extend, at which it commits. -/
def measExtended (s : State) (o : Origin) (j : Job) : State :=
  extendNow (dropCtx s o) (u8 j.ops 0) (u32 j.ops 4) false (sha384 (j.data.headD [])) (sha3_512 (j.data.headD []))

theorem mr_measExtended (n : Nat) : (measExtended s o j).mr n =
    if n = u8 j.ops 0 then extendedReg (s.mr (u8 j.ops 0)) (sha384 (j.data.headD [])) (sha3_512 (j.data.headD []))
    else s.mr n := mr_extendNow

theorem digestJobDone_extend (hj : s.job? o = some j) (hcode : j.code = C.MEAS_EXTEND) (hphase : j.phase = .engine)
    (hctx : ctxOf s o = some (n, c)) (hyield : c.yielded = false) : digestJobDone s o =
      okJob (measExtended s o j) j (leBytes 4 s.measNext ++ leBytes 4 ((s.mr (u8 j.ops 0)).count + 1)) := by
  have hgo : ¬ (j.phase ≠ .engine ∨ c.yielded = true ∧ ((guardCtx s).isNone = true ∨ wardWaits s = true)) := by
    simp [hphase, hyield]
  have hmac : ¬ j.code = C.DIGEST_MAC := by
    rw [hcode]
    decide
  have hcount : ((measExtended s o j).mr (u8 j.ops 0)).count = (s.mr (u8 j.ops 0)).count + 1 := by
    rw [mr_measExtended, if_pos rfl]
    rfl
  simp only [digestJobDone, hj, hctx, if_neg hgo, if_neg hmac, if_pos hcode, measExtendDone, ← hcount]
  rfl

end Sys2Proof.Machine
end

section
open Sys2Proof.Machine

/-- Settles O25, by the context and the read with which a digest job starts, and by the register that an extend leaves. -/
theorem digestsAndMeasurements : Obligations.DigestsAndMeasurements := by
  refine ⟨?_, ?_, ?_, ?_, ?_, ?_, ?_, ?_, ?_⟩
  · intro s b j k h hctx hward hslot hcheck hlen hcan htag
    have hmac := digestMac_unkeyed (s := freeSched s (.mailbox b)) (guardCtx_freeSched.trans hctx) hward hslot hcheck
    have hr : ReadReady (freeSched s (.mailbox b)) j (hostRef j.ops 0) := ⟨hcan, htag⟩
    exact ⟨_, _, congrArg Host.Outcome.next ((runCommand_runs h _).trans (hmac.trans (digestMacStart_reads hlen hr))),
      contextReads_digests, h.origin, rfl, rfl, contextReads_sends⟩
  · intro s b j k x x' h hu hctx hward hslot hcheck hactive hopen hlen hcan htag
    have hmac := digestMac_keyed (s := freeSched s (.mailbox b)) (undisputed_freeSched hu) (guardCtx_freeSched.trans hctx) hward
      hslot hcheck hactive hopen
    have hr : ReadReady (freeSched s (.mailbox b)) j (hostRef j.ops 0) := ⟨hcan, htag⟩
    have hfewer : ReadsFewer (freeSched s (.mailbox b)) (keyTaken (freeSched s (.mailbox b)) j (u16 j.ops 18)) :=
      readsFewer_keyTaken
    obtain ⟨hr', hbind⟩ := hr.of_fewer (k := keyedCommand (freeSched s (.mailbox b)) j (u16 j.ops 18)) hfewer rfl rfl rfl rfl
    refine ⟨_, _, _, congrArg Host.Outcome.next ((runCommand_runs h _).trans (hmac.trans (digestMacStart_reads hlen hr'))),
      contextReads_digests, h.origin, rfl, rfl, contextReads_job? (keyTaken_job? h.inFlight) h.origin, rfl, ?_⟩
    have hsent : readMsg s (dmaBind s j (hostRef j.ops 0).port) (hostRef j.ops 0).addr (hostRef j.ops 0).len =
        readMsg (keyTaken (freeSched s (.mailbox b)) j (u16 j.ops 18))
          (dmaBind (keyTaken (freeSched s (.mailbox b)) j (u16 j.ops 18))
            (macCommand (keyedCommand (freeSched s (.mailbox b)) j (u16 j.ops 18)) x'.material) (hostRef j.ops 0).port)
          (hostRef j.ops 0).addr (hostRef j.ops 0).len := by
      rw [hfewer.dma.readMsg]
      exact congrArg (readMsg s · _ _) hbind.symm
    rw [hsent]
    exact contextReads_sends
  · intro s b j k c hj hcode hphase hp hctx hyield
    refine ⟨_, congrArg Host.Outcome.next (digestJobDone_mac hj hcode hphase hctx hyield), endJob_ends (origin_of_job? hj) hp .., ?_⟩
    rw [endJob_digests]
    exact origin_of_mem_dropCtx
  · exact fun s o k m c hctx hk hfull hwaits hward hlen hm =>
      congrArg Host.Outcome.next (ctxYield_yields hctx hk hfull hwaits hward hlen hm)
  · intro s b j h hp hn hz
    exact ⟨_, congrArg Host.Outcome.next ((runCommand_runs h _).trans (measRead_returns hn hz)), okJob_ends h.origin hp _,
      endJob_meas ..⟩
  · intro s b j h hp hz hlow hhigh hcheck hstart hcan
    have hread := measLogRead_writes (s := freeSched s (.mailbox b)) hz hlow hhigh hcheck hstart hcan
    refine ⟨_, congrArg Host.Outcome.next ((runCommand_runs h _).trans hread), endJob_measLog .., endJob_meas .., ?_, ?_⟩
    · intro hown
      rw [wroteThrough_own hown]
      exact endJob_ends h.origin hp ..
    · exact out_grows_endJob.subset (List.mem_append_right _ List.mem_cons_self)
  · intro s v
    obtain ⟨hsel, hinfo, hwords⟩ := reg_mrSelWrite (s := s) (v := v)
    exact ⟨_, rfl, hsel, hinfo, hwords, mrSelWrite_frame⟩
  · intro s b j k h hctx hz hz' hcheck hmin hmax hlen hcan htag
    have hr : ReadReady (freeSched s (.mailbox b)) j (hostRef j.ops 16) := ⟨hcan, htag⟩
    have hread := measExtend_reads (quartzCtx_freeSched.trans hctx) hz hz' hcheck hmin hmax hlen hr
    exact ⟨_, _, congrArg Host.Outcome.next ((runCommand_runs h _).trans hread), contextReads_digests, h.origin, rfl,
      contextReads_sends, contextReads_meas⟩
  · intro s b j k c hj hcode hphase hp hctx hyield hroom
    refine ⟨_, congrArg Host.Outcome.next (digestJobDone_extend hj hcode hphase hctx hyield), ?_,
      okJob_ends (origin_of_job? hj) hp _, endJob_measNext .., (endJob_measLog ..).trans (extendNow_log hroom), fun i hi => ?_⟩
    · rw [okJob, mr_congr (endJob_meas ..), mr_measExtended, if_pos rfl]
      rfl
    · rw [okJob, mr_congr (endJob_meas ..), mr_measExtended, if_neg hi]

end

section
/-! ### What an operation makes of one ward (R361): the ward's new record, and no other ward changed. -/

namespace Sys2Proof.Machine

variable {s t u : State} {w st failed : Nat} {v : Ward}

/-- Of the wards, `t` differs from `s` at most in the ward `w`, which is now `v`. -/
def WardBecomes (s t : State) (w : Nat) (v : Ward) : Prop := t.ward w = v ∧ ∀ x, x ≠ w → t.ward x = s.ward x

theorem ward_congr (h : t.wards = s.wards) (x : Nat) : t.ward x = s.ward x := by rw [State.ward, h, State.ward]

theorem recManifest_congr (h : t.nor = s.nor) (x r : Nat) : recManifest t x r = recManifest s x r := by
  have hbyte : norByte t = norByte s := by
    funext a
    rw [norByte, h, norByte]
  have hbytes : norBytes t = norBytes s := by
    funext a n
    rw [norBytes, h, norBytes]
  rw [recManifest, hbyte, hbytes, recManifest]

/-- A ward's manifest is what its records in the NOR hold (R356). -/
theorem wardManifest_congr (h : t.nor = s.nor) (x : Nat) : wardManifest t x = wardManifest s x := by
  rw [wardManifest, wardRecord, recManifest_congr h, recManifest_congr h, wardManifest, wardRecord]

namespace WardBecomes

protected theorem refl : WardBecomes s s w (s.ward w) := ⟨rfl, fun _ _ => rfl⟩

/-- An operation that changes no ward. -/
protected theorem congr (h : WardBecomes s t w v) (hu : u.wards = t.wards) : WardBecomes s u w v := by
  obtain ⟨hself, hothers⟩ := h
  exact ⟨(ward_congr hu w).trans hself, fun x hx => (ward_congr hu x).trans (hothers x hx)⟩

protected theorem setWard {v' : Ward} (h : WardBecomes s t w v) : WardBecomes s (t.setWard w v') w v' := by
  obtain ⟨-, hothers⟩ := h
  exact ⟨ward_setWard_self .., fun x hx => (ward_setWard_of_ne _ _ hx).trans (hothers x hx)⟩

/-- The end of the command that waits for a ward changes nothing else of it. -/
protected theorem wardEnd (h : WardBecomes s t w v) : WardBecomes s (wardEnd t w st) w { v with cmd := none } := by
  obtain ⟨rfl, -⟩ := id h
  have hset : WardBecomes s (t.setWard w { t.ward w with cmd := none }) w { t.ward w with cmd := none } := h.setWard
  unfold wardEnd
  dsimp only
  split
  · split
    · exact hset.congr (endJob_wards ..)
    · exact hset
  · exact hset

end WardBecomes

theorem WardBecomes.dropCtx {o : Origin} (h : WardBecomes s t w v) : WardBecomes s (dropCtx t o) w v := h.congr rfl

/-- A ward whose work has ended in a state with a status (R361, R370). -/
def settledWard (v : Ward) (st : WardState) (status : Nat) : Ward :=
  { v with state := if v.holdPending then .held else st, holdPending := false, lastStatus := status, recStatus := 0, cmd := none }

theorem WardBecomes.settleWard {x : WardState} (h : WardBecomes s t w v) :
    WardBecomes s (settleWard t w x st) w (settledWard v x st) := by
  obtain ⟨rfl, -⟩ := id h
  exact h.dropCtx.setWard.wardEnd

/-- A ward whose verification begins its flash access (R362). -/
def verifyingWard (v : Ward) : Ward :=
  { v with state := .verifying, settling := false, rstHigh := false, auxHigh := false,
           verifications := satInc 32 v.verifications, failedRegions := 0 }

@[simp] theorem flashReset_wards : (flashReset s w).wards = s.wards :=
  List.foldlRecOn (motive := fun t : State => t.wards = s.wards) _ _ rfl fun _ ht _ _ => ht

@[simp] theorem setCtx_wards {k : Nat} {c : DigestCtx} : (setCtx s k c).wards = s.wards := by
  obtain ⟨_, _, h⟩ := setCtx_frame (s := s) (n := k) (c := c)
  rw [h]

theorem WardBecomes.startVerify (h : WardBecomes s t w v) : WardBecomes s (startVerify t w) w (verifyingWard v) := by
  have hflash : WardBecomes s (flashReset t w) w v := h.congr flashReset_wards
  obtain ⟨rfl, -⟩ := id hflash
  have hset : WardBecomes s ((flashReset t w).setWard w (verifyingWard ((flashReset t w).ward w))) w
      (verifyingWard ((flashReset t w).ward w)) := hflash.setWard
  unfold Machine.startVerify
  dsimp only
  split
  · split
    · exact hset
    · exact hset.congr setCtx_wards
  · exact hset

theorem WardBecomes.assertReset {cause : Nat} (h : WardBecomes s t w v) :
    WardBecomes s (assertReset t w cause) w { v with rstHigh := false, auxHigh := false } := by
  obtain ⟨rfl, -⟩ := id h
  unfold Machine.assertReset
  dsimp only
  split
  · exact h.setWard.congr (extendFrom_wards ..)
  · exact h.setWard

/-- With its automatic recovery used, a ward whose verification fails ends in FAILED, or in HELD (R361, R370). -/
theorem WardBecomes.verifyFail (h : WardBecomes s t w v) (hrecovered : v.recovered = true) (hrec : v.recStatus = 0) :
    WardBecomes s (verifyFail t w st failed) w (settledWard { v with failedRegions := failed } .failed st) := by
  obtain ⟨rfl, -⟩ := id h
  have hset : WardBecomes s (t.setWard w { t.ward w with failedRegions := failed }) w
      { t.ward w with failedRegions := failed } := h.setWard
  have hgo : ¬ ((mFlag (t.ward w).manifest 2 && mFlag (t.ward w).manifest 1 && !(t.ward w).recovered &&
      !(t.ward w).holdPending) = true) := by simp [hrecovered]
  unfold Machine.verifyFail
  dsimp only
  rw [if_neg hgo, if_pos hrec]
  exact (hset.congr (recordEvent_wards ..)).settleWard

/-- A ward that has been released (R365). -/
def releasedWard (v : Ward) : Ward :=
  { v with rstHigh := !v.holdPending, auxHigh := !v.holdPending && !mFlag v.manifest 3, addr4 := false, resetArmed := false }

theorem WardBecomes.wardRelease (h : WardBecomes s t w v) :
    ∃ status, WardBecomes s (wardRelease t w) w (settledWard (releasedWard v) .running status) := by
  obtain ⟨rfl, -⟩ := id h
  exact ⟨_, (h.congr (extendFrom_wards ..)).setWard.settleWard⟩

theorem WardBecomes.flashOutcome (h : WardBecomes s t w v) : WardBecomes s (flashOutcome t w st) w v :=
  h.congr (capture_wards ..)

/-! #### The run of a verification (R362 to R365) -/

@[simp] theorem ownerArith_wards : (ownerArith s).wards = s.wards := by
  unfold ownerArith arithNow
  split
  · rfl
  · cases freeEngine s with
    | none => rfl
    | some n => simp

@[simp] theorem extendFed_wards {src i ty n : Nat} {bs : Bytes} : (extendFed s src i ty n bs).wards = s.wards := by
  unfold extendFed
  split
  · exact incRegField_wards ..
  · dsimp only
    rw [extendFrom_wards]
    split
    · exact incRegField_wards ..
    · rfl

@[simp] theorem measureRegions_wards {rs : List Region} {cs : List Bytes} {k : Nat} :
    (measureRegions w rs cs k s).1.wards = s.wards := by
  induction rs generalizing cs k s with
  | nil => rfl
  | cons r rs ih =>
    unfold measureRegions
    split
    · rfl
    · exact ih.trans extendFed_wards

@[simp] theorem quadEnable_wards {sfdp : Bytes} : (quadEnable s w sfdp).wards = s.wards := by
  unfold quadEnable
  split
  · rfl
  · exact send_wards ..

/-- Of the wards a verification's run changes the kept SFDP alone (R352). -/
theorem wardBecomes_verifyRun {sfdp : Bytes} {cs : List Bytes} :
    ∃ x, WardBecomes s (verifyRun s w sfdp cs).1 w { s.ward w with sfdp := x } := by
  have hextend : WardBecomes s (extendFrom s 2 (8 + w) 0x100 false (s.ward w).manifest) w (s.ward w) :=
    WardBecomes.refl.congr (extendFrom_wards ..)
  have howner := hextend.congr ownerArith_wards
  obtain ⟨hself, -⟩ := id howner
  unfold verifyRun
  dsimp only
  split
  · exact ⟨_, hextend⟩
  · split
    · exact ⟨_, howner⟩
    · split
      · exact ⟨_, howner⟩
      · refine ⟨fit 512 sfdp, ?_⟩
        rw [hself]
        split
        · refine .congr (.congr (.congr ?_ quadEnable_wards) measureRegions_wards) (incRegField_wards ..)
          exact howner.setWard
        · refine .congr (.congr ?_ quadEnable_wards) measureRegions_wards
          exact howner.setWard

/-- A ward with a guard context, whose manifest's signature can be checked, ends its verification in SERVICE as its run tells. -/
theorem verifyDone_of_ready {sfdp : Bytes} {cs : List Bytes} {c : Nat × DigestCtx} (hw : w < 16)
    (hstate : (s.ward w).state = .verifying) (hsettled : (s.ward w).settling = false) (hctx : ctxOf s (wardOrigin w) = some c)
    (howner : ownerWaits s (mSlot (s.ward w).manifest) = false) (hgate : s.boot.gateOpen = true) (hmode : s.mode = .service) :
    verifyDone s w sfdp cs = if (verifyRun s w sfdp cs).2.1 = S.OK then wardRelease (flashOutcome (verifyRun s w sfdp cs).1 w S.OK) w
      else verifyFail (flashOutcome (verifyRun s w sfdp cs).1 w (verifyRun s w sfdp cs).2.1) w (verifyRun s w sfdp cs).2.1
        (verifyRun s w sfdp cs).2.2 := by
  have hgo : ¬ ((s.ward w).state ≠ .verifying ∨ (s.ward w).settling = true ∨ w ≥ 16) := by simp [hstate, hsettled, hw]
  have hready : ¬ ((ctxOf s (wardOrigin w)).isNone = true ∧ (guardCtx s).isNone = true ∨
      ownerWaits s (mSlot (s.ward w).manifest) = true) := by simp [hctx, howner]
  have hserves : s.boot.gateOpen = true ∧ (s.mode = .service ∨ s.mode = .hush) := ⟨hgate, Or.inl hmode⟩
  unfold verifyDone
  dsimp only
  rw [if_neg hgo, if_neg hready, if_pos hserves, ite_not]

/-- A short input and a silent flash end a verification with E_WARD_READ (R133, R362, R363). -/
theorem verification_cut {i : Instr} (hi : i = .digestShort w ∨ i = .wardFlashTimeout w) (hw : w < 16)
    (hstate : (s.ward w).state = .verifying) (hsettled : (s.ward w).settling = false)
    (hrecovered : (s.ward w).recovered = true) (hrec : (s.ward w).recStatus = 0) :
    ∃ u, exec i s = .next u ∧
      WardBecomes s u w (settledWard { s.ward w with failedRegions := 0 } .failed S.E_WARD_READ) := by
  have hwards : ¬ w ≥ 16 := Nat.not_le.2 hw
  rcases hi with rfl | rfl
  · have hexec : digestShort s w =
        verifyFail (flashOutcome (s.incRegField R.DGT_TRUNC_COUNT 31 0) w S.E_WARD_READ) w S.E_WARD_READ 0 := by
      rw [digestShort, if_neg hwards, if_pos ⟨hstate, hsettled⟩]
    refine ⟨_, congrArg Host.Outcome.next hexec, ?_⟩
    exact (WardBecomes.refl.congr (incRegField_wards ..)).flashOutcome.verifyFail hrecovered hrec
  · have hgo : ¬ (w ≥ 16 ∨ (s.ward w).settling = true) := by simp [hw, hsettled]
    have hexec : flashTimeout s w = verifyFail (flashOutcome (timerTaken s 18) w S.E_WARD_READ) w S.E_WARD_READ 0 := by
      rw [flashTimeout, if_neg hgo, if_pos hstate]
    refine ⟨_, congrArg Host.Outcome.next hexec, ?_⟩
    exact (WardBecomes.refl.congr (timerTaken_wards ..)).flashOutcome.verifyFail hrecovered hrec

/-! #### The end of a recovery (R366, R370) -/

/-- A ward whose recovery has ended with a status. -/
def recoveredWard (v : Ward) (st : Nat) : Ward := { v with recStatus := if st = S.OK then 0 else st, lastStatus := st }

/-- A recovery that has ended with no hold pending leads to the next verification, or to DISABLED without a manifest. -/
theorem WardBecomes.recoveryEnd (h : WardBecomes s t w v) (hnor : t.nor = s.nor) (hhold : v.holdPending = false) :
    ∃ v', WardBecomes s (recoveryEnd t w st) w v' ∧
      v'.state = (if (wardManifest s w).isSome then .verifying else .disabled) ∧ v'.lastStatus = st := by
  obtain ⟨rfl, -⟩ := id h
  have hnot : ¬ (t.ward w).holdPending = true := by simp [hhold]
  have hm : wardManifest (t.setWard w (recoveredWard (t.ward w) st)) w = wardManifest s w :=
    wardManifest_congr ((setWard_nor ..).trans hnor) w
  unfold Machine.recoveryEnd
  dsimp only
  rw [if_neg hnot, ← recoveredWard, hm, ward_setWard_self]
  cases wardManifest s w with
  | none => exact ⟨_, h.setWard.settleWard, by simp [settledWard, recoveredWard, hhold], rfl⟩
  | some m => exact ⟨_, h.setWard.setWard.startVerify, rfl, rfl⟩

@[simp] theorem rewriteRegion_wards {golden : Bool} {ts : List (Nat × Nat)} {e : Nat × Bytes} :
    (rewriteRegion w golden ts s e).wards = s.wards :=
  List.foldlRecOn (motive := fun t : State => t.wards = s.wards) _ _
    (List.foldlRecOn (motive := fun t : State => t.wards = s.wards) _ _ rfl fun _ ht _ _ => ht) fun _ ht _ _ => ht

@[simp] theorem rewriteRegion_nor {golden : Bool} {ts : List (Nat × Nat)} {e : Nat × Bytes} :
    (rewriteRegion w golden ts s e).nor = s.nor :=
  List.foldlRecOn (motive := fun t : State => t.nor = s.nor) _ _
    (List.foldlRecOn (motive := fun t : State => t.nor = s.nor) _ _ rfl fun _ ht _ _ => ht) fun _ ht _ _ => ht

theorem recoveryWrites_wards {golden : List Bytes} : (recoveryWrites s w golden).wards = s.wards :=
  (extendFrom_wards ..).trans
    (List.foldlRecOn (motive := fun t : State => t.wards = s.wards) _ _ rfl fun _ ht _ _ => rewriteRegion_wards.trans ht)

theorem recoveryWrites_nor {golden : List Bytes} : (recoveryWrites s w golden).nor = s.nor :=
  (extendFrom_nor ..).trans
    (List.foldlRecOn (motive := fun t : State => t.nor = s.nor) _ _ rfl fun _ ht _ _ => rewriteRegion_nor.trans ht)

/-- A recovery from an image ends with the status of its writes. -/
theorem recoveryDone_ends {golden : List Bytes} {ok : Bool} (hw : w < 16) (hstate : (s.ward w).state = .recovering)
    (hsettled : (s.ward w).settling = false) (hsource : (s.ward w).source ≠ 0) (hhold : (s.ward w).holdPending = false) :
    ∃ v', WardBecomes s (recoveryDone s w golden ok) w v' ∧
      v'.state = (if (wardManifest s w).isSome then .verifying else .disabled) ∧
      v'.lastStatus = if ok then S.OK else S.E_WARD_FLASH := by
  have hgo : ¬ (w ≥ 16 ∨ (s.ward w).state ≠ .recovering ∨ (s.ward w).settling = true) := by simp [hw, hstate, hsettled]
  have hgolden : ¬ ((s.ward w).source = 0 ∧ goldenOk (s.ward w).manifest golden = false) :=
    fun ⟨h, _⟩ => hsource h
  unfold recoveryDone
  dsimp only
  rw [if_neg hgo, if_neg hgolden]
  cases ok with
  | false =>
    rw [if_pos rfl, if_neg Bool.false_ne_true]
    exact WardBecomes.refl.flashOutcome.recoveryEnd (capture_nor ..) hhold
  | true =>
    rw [if_neg (nofun : ¬ true = false), if_pos rfl]
    exact (WardBecomes.refl.congr recoveryWrites_wards).flashOutcome.recoveryEnd ((capture_nor ..).trans recoveryWrites_nor) hhold

/-- A flash that stays silent in a recovery ends it with E_WARD_FLASH. -/
theorem flashTimeout_recovering (hw : w < 16) (hstate : (s.ward w).state = .recovering)
    (hsettled : (s.ward w).settling = false) (hhold : (s.ward w).holdPending = false) :
    ∃ v', WardBecomes s (flashTimeout s w) w v' ∧
      v'.state = (if (wardManifest s w).isSome then .verifying else .disabled) ∧ v'.lastStatus = S.E_WARD_FLASH := by
  have hgo : ¬ (w ≥ 16 ∨ (s.ward w).settling = true) := by simp [hw, hsettled]
  have hverify : ¬ (s.ward w).state = .verifying := by simp [hstate]
  unfold flashTimeout
  dsimp only
  rw [if_neg hgo, if_neg hverify, if_pos hstate]
  exact (WardBecomes.refl.congr (timerTaken_wards ..)).flashOutcome.recoveryEnd ((capture_nor ..).trans (timerTaken_nor ..)) hhold

/-! #### WPG (R361) -/

/-- A ward whose WPG has risen, before its manifest is looked up. -/
def poweredWard (v : Ward) : Ward :=
  { v with wpg := true, state := .off, verifications := 0, recovered := false, automatic := false, recStatus := 0,
           holdPending := false }

/-- The ward that begins in SERVICE: settling with its manifest, DISABLED without one. -/
def begunWard (v : Ward) (m : Option Bytes) : Ward :=
  match m with
  | some m => { v with state := .verifying, settling := true, manifest := m }
  | none => { v with state := .disabled }

theorem WardBecomes.wardBegin (h : WardBecomes s t w v) (hnor : t.nor = s.nor) (hwpg : v.wpg = true) (hoff : v.state = .off)
    (hmode : t.mode = .service) : WardBecomes s (wardBegin t w) w (begunWard v (wardManifest s w)) ∧
      (wardBegin t w).mode = .service := by
  obtain ⟨rfl, -⟩ := id h
  have hgo : ¬ ((t.ward w).wpg = false ∨ (t.ward w).state ≠ .off ∨ t.mode ≠ .service) := by simp [hwpg, hoff, hmode]
  unfold Machine.wardBegin
  dsimp only
  rw [if_neg hgo, wardManifest_congr hnor]
  cases wardManifest s w with
  | none => exact ⟨h.setWard, hmode⟩
  | some m => exact ⟨h.setWard, hmode⟩

theorem wpgRise_begins (hw : w < 16) (hlow : (s.ward w).wpg = false) (hmode : s.mode = .service) :
    WardBecomes s (wpgRise s w) w (begunWard (poweredWard (s.ward w)) (wardManifest s w)) ∧
      (wpgRise s w).mode = .service := by
  have hgo : ¬ (w ≥ 16 ∨ (s.ward w).wpg = true) := by simp [hw, hlow]
  have hawake : ¬ s.mode = .dormant := by simp [hmode]
  have hmode' : (capture (s.setWard w (poweredWard (s.ward w))) 0x22 18 [w * 2 + 33]).mode = .service := by
    rw [capture_mode, setWard_mode, hmode]
  have hexec : wpgRise s w = wardBegin (capture (s.setWard w (poweredWard (s.ward w))) 0x22 18 [w * 2 + 33]) w := by
    rw [wpgRise, if_neg hgo, if_neg hawake, ← poweredWard, hushExit_of_ne (by rw [hmode']; exact Mode.noConfusion)]
  rw [hexec]
  refine WardBecomes.wardBegin (WardBecomes.refl.setWard.congr (capture_wards ..)) ?_ rfl rfl hmode'
  rw [capture_nor, setWard_nor]

/-- A ward whose WPG fell: OFF with its resets low, and no command waits for it. -/
def offWard (v : Ward) (status : Nat) : Ward :=
  { v with rstHigh := false, auxHigh := false, wpg := false, state := .off, settling := false, holdPending := false
           recStatus := 0, lastStatus := status, cmd := none }

theorem wpgFall_ends (hw : w < 16) (hhigh : (s.ward w).wpg = true) :
    ∃ status, WardBecomes s (wpgFall s w) w (offWard (s.ward w) status) := by
  have hgo : ¬ (w ≥ 16 ∨ (s.ward w).wpg = false) := by simp [hw, hhigh]
  have hreset : WardBecomes s (capture (assertReset s w 1) 0x22 18 [w * 2 + 32]) w
      { s.ward w with rstHigh := false, auxHigh := false } := WardBecomes.refl.assertReset.congr (capture_wards ..)
  have hcount : ∀ c : Prop, [Decidable c] → WardBecomes s
      (if c then (capture (assertReset s w 1) 0x22 18 [w * 2 + 32]).incRegField R.DGT_TRUNC_COUNT 31 0
       else capture (assertReset s w 1) 0x22 18 [w * 2 + 32]) w { s.ward w with rstHigh := false, auxHigh := false } := by
    intro c _
    split
    · exact hreset.congr (incRegField_wards ..)
    · exact hreset
  obtain ⟨hself, -⟩ := id hreset
  unfold wpgFall
  dsimp only
  rw [if_neg hgo, hself]
  exact ⟨_, (hcount _).setWard.dropCtx.wardEnd⟩

theorem wardSettleDone_starts (hstate : (s.ward w).state = .verifying) (hsettling : (s.ward w).settling = true) :
    ∃ u, exec (.wardSettleDone w) s = .next u ∧ WardBecomes s u w (verifyingWard (s.ward w)) :=
  ⟨_, congrArg Host.Outcome.next (if_pos ⟨hstate, hsettling⟩), WardBecomes.refl.startVerify⟩

end Sys2Proof.Machine
end

section
open Sys2Proof.Machine

/-- Settles O41, by what each event makes of the ward's record, and that it changes no other ward. -/
theorem wardsFollowPowerAndVerification : Obligations.WardsFollowPowerAndVerification := by
  refine ⟨?_, ?_, ?_, ?_, ?_, ?_, ?_⟩
  · intro s w hw hlow hmode
    obtain ⟨⟨hself, hothers⟩, hmode'⟩ := wpgRise_begins hw hlow hmode
    refine ⟨_, rfl, ?_, ?_, ?_, ?_, ?_, hothers, hmode'⟩
    all_goals rw [hself]; cases wardManifest s w <;> rfl
  · intro s w hw hhigh
    obtain ⟨status, hself, hothers⟩ := wpgFall_ends hw hhigh
    refine ⟨_, rfl, ?_, ?_, ?_, ?_, ?_, hothers⟩
    all_goals rw [hself]; rfl
  · intro s w hstate hsettling
    obtain ⟨u, hexec, hself, hothers⟩ := wardSettleDone_starts hstate hsettling
    refine ⟨u, hexec, ?_, hothers⟩
    rw [hself, verifyingWard, ← hstate]
  · intro s w sfdp cs c hw hstate hsettled hctx howner hgate hmode hhold hrecovered hrec
    obtain ⟨x, hrun⟩ := wardBecomes_verifyRun (s := s) (w := w) (sfdp := sfdp) (cs := cs)
    refine ⟨_, congrArg Host.Outcome.next (verifyDone_of_ready hw hstate hsettled hctx howner hgate hmode), ?_⟩
    by_cases hpass : (verifyRun s w sfdp cs).2.1 = S.OK
    · obtain ⟨status, hself, hothers⟩ := hrun.flashOutcome.wardRelease
      rw [if_pos hpass, hself]
      exact ⟨hothers, fun _ => by simp [settledWard, releasedWard, hhold], fun hfail => absurd hpass hfail⟩
    · obtain ⟨hself, hothers⟩ := hrun.flashOutcome.verifyFail hrecovered hrec
      rw [if_neg hpass, hself]
      exact ⟨hothers, fun h => absurd h hpass, fun _ => by simp [settledWard, hhold]⟩
  · intro s w i hi hw hstate hsettled hhold hrecovered hrec
    obtain ⟨u, hexec, hself, hothers⟩ := verification_cut hi hw hstate hsettled hrecovered hrec
    refine ⟨u, hexec, ?_, ?_, hothers⟩
    all_goals rw [hself]; simp [settledWard, hhold]
  · intro s w g ok hw hstate hsettled hsource hhold
    obtain ⟨v, ⟨hself, hothers⟩, hnext, hlast⟩ := recoveryDone_ends (golden := g) (ok := ok) hw hstate hsettled hsource hhold
    exact ⟨_, rfl, by rw [hself, hnext], by rw [hself, hlast], hothers⟩
  · intro s w hw hstate hsettled hhold
    obtain ⟨v, ⟨hself, -⟩, hnext, hlast⟩ := flashTimeout_recovering hw hstate hsettled hhold
    exact ⟨_, rfl, by rw [hself, hlast], by rw [hself, hnext]⟩

end

section
/-! ### Orders on vault slots that the arbiter takes at once (R159, R174, R175): what a bound order sees, and a half whose key
is held inline. -/

namespace Sys2Proof.Machine

variable {s t : State} {o : Origin} {j : Job} {n st : Nat} {h : SlotHalf} {names : List Nat}

/-- The state in which the order of a command that runs has been bound. -/
def boundState (s : State) (o : Origin) (j : Job) (names : List Nat) : State := (bindOrder (freeSched s o) j names).1

/-- The command whose order has been bound in that state. -/
def boundJob (s : State) (o : Origin) (j : Job) (names : List Nat) : Job := (bindOrder (freeSched s o) j names).2

theorem takeOrder_bound (hu : Undisputed s j) (k : State → Job → State) :
    takeOrder (freeSched s o) j names k = k (boundState s o j names) (boundJob s o j names) :=
  takeOrder_undisputed (undisputed_freeSched hu) names k

theorem arbitrated_boundState : Arbitrated s (boundState s o j names) := arbitrated_freeSched.trans arbitrated_bindOrder

theorem arbitrated_materialStep : Arbitrated s (materialStep s j n st) := arbitrated_capture

theorem Arbitrated.slots (h : Arbitrated s t) : t.slots = s.slots := by
  obtain ⟨_, _, _, _, rfl⟩ := h
  rfl

theorem Arbitrated.slot (h : Arbitrated s t) (m : Nat) : t.slot m = s.slot m := by rw [State.slot, h.slots, State.slot]

theorem Arbitrated.keyed (h : Arbitrated s t) : t.keyed = s.keyed := by
  obtain ⟨_, _, _, _, rfl⟩ := h
  rfl

theorem Arbitrated.cdk (h : Arbitrated s t) : t.cdk = s.cdk := by
  obtain ⟨_, _, _, _, rfl⟩ := h
  rfl

theorem Arbitrated.slotNamed (h : Arbitrated s t) : slotNamed t = slotNamed s := by
  obtain ⟨_, _, _, _, rfl⟩ := h
  rfl

theorem Arbitrated.slotAccess (h : Arbitrated s t) : slotAccess t = slotAccess s := by
  obtain ⟨_, _, _, _, rfl⟩ := h
  rfl

theorem Arbitrated.accessCheck (h : Arbitrated s t) : accessCheck t = accessCheck s := by
  obtain ⟨_, _, _, _, rfl⟩ := h
  rfl

theorem openPublic_of_inline (hpub : h.pubRecord = none) : openPublic s h = some h.pubKey := by rw [openPublic, hpub]

/-- A half whose key no record holds is used as it stands (R149, R150). -/
theorem openHalf_of_inline (hrecord : h.record = none) (hpub : h.pubRecord = none) : openHalf s h = some h := by
  have hmaterial : openMaterial s h = some h.material := by rw [openMaterial, hrecord]
  simp only [openHalf, hmaterial, openPublic_of_inline hpub]

theorem withMaterial_of_inline {pend : Bool} {k : State → SlotHalf → State}
    (hhalf : (if pend then (s.slot n).pending else (s.slot n).active) = some h) (hrecord : h.record = none)
    (hpub : h.pubRecord = none) : withMaterial s j n pend k = k (materialStep s j n S.OK) h := by
  simp only [withMaterial, hhalf, openHalf_of_inline hrecord hpub]

theorem withPublic_of_inline {k : SlotHalf → State} (hactive : (s.slot n).active = some h) (hpub : h.pubRecord = none) :
    withPublic s j n false k = k h := by
  simp only [withPublic, Bool.false_eq_true, if_false, hactive, openPublic_of_inline hpub]

theorem activeHalf_of_act (hactive : (s.slot n).active = some h) (hact : h.act = true) : activeHalf s n = some h := by
  simp only [activeHalf, hactive, hact, if_true]

/-- In a keyed vault an order that also needs slot 3 or a tenant root passes the checks of the slot it names (R156, R159). -/
theorem slotCheckNeeding_of_keyed {kind : NameKind} {custody : Bool} {suits : SlotHalf → Bool} {dest usage : Nat}
    (hkeyed : s.keyed = true) :
    slotCheckNeeding s j kind n custody suits dest usage = slotCheck s j kind n suits dest usage := by
  simp only [slotCheck, slotCheckNeeding, hkeyed, Bool.not_true, Bool.and_false]

end Sys2Proof.Machine
end

section
/-! ### KEY_ATTR_READ, KEY_PUBLIC and KEY_WRAP (R149, R161, R165, R166), and the stop of a revoked job (R161, R177) -/

namespace Sys2Proof.Machine

variable {s t : State} {o : Origin} {b : BindId} {j : Job} {n st : Nat} {h : SlotHalf} {key bs res : Bytes} {r : HostRef}
  {appr : Bool}

/-- A read of the attributes that names a slot it may read returns both words. -/
theorem keyAttrRead_reads (hr : Runs s (.mailbox b) C.KEY_ATTR_READ 0 j) (hp : Plain j) (hu : Undisputed s j)
    (hrsvd : zeroAt j.ops 2 6 = true) (hnamed : slotNamed s j.owner .attrRead (u16 j.ops 0) = true)
    (haccess : slotAccess s j.owner j.tenant .attrRead (u16 j.ops 0) = true) :
    ∃ u, exec (.keyAttrRead (.mailbox b)) s = .next u ∧
      Ends u b S.OK (leBytes 8 (activeWord s (u16 j.ops 0)) ++ leBytes 8 (pendingWord s (u16 j.ops 0))) ∧
      u.slots = s.slots := by
  have hbound : Arbitrated s (boundState s (.mailbox b) j [u16 j.ops 0]) := arbitrated_boundState
  have hrun : runCommand C.KEY_ATTR_READ (.mailbox b) s keyAttrRead =
      okJob (boundState s (.mailbox b) j [u16 j.ops 0]) (boundJob s (.mailbox b) j [u16 j.ops 0])
        (leBytes 8 (activeWord s (u16 j.ops 0)) ++ leBytes 8 (pendingWord s (u16 j.ops 0))) := by
    rw [runCommand_runs hr, keyAttrRead, takeOrder_bound hu]
    simp only [hrsvd, hbound.slotNamed, hnamed, hbound.slotAccess, haccess, activeWord, pendingWord, hbound.slot, Bool.not_true,
      Bool.false_eq_true, Bool.true_eq_false, if_false]
  refine ⟨_, congrArg Host.Outcome.next hrun, okJob_ends (by exact hr.origin) (by exact hp) _, ?_⟩
  rw [okJob_slots, hbound.slots]

/-! #### A command that ends with one write to its submitter's own port -/

theorem writeAndEnd_of_own (hbs : bs ≠ []) (hport : r.port = 0) (hcan : canDma s j.bind = true) :
    writeAndEnd s j r bs st res appr = endJob (s.send (writeMsg s j.bind r.addr bs true)) j st res appr := by
  have hown : dmaBind s j r.port = j.bind := if_pos hport
  have hcan' : canDma s (dmaBind s j r.port) = true := by rwa [hown]
  simp only [writeAndEnd, hostWrite_of_canDma hbs hcan', wroteThrough_own hport, hown, Nat.add_zero]

/-- Where the arbiter alone has acted, the write is the one that the first state gives. -/
theorem writeAndEnd_delivers (hst : Arbitrated s t) (ho : j.origin = .mailbox b) (hp : Plain j) (hbs : bs ≠ [])
    (hport : r.port = 0) (hcan : canDma s j.bind = true) :
    Ends (writeAndEnd t j r bs st res appr) b st res ∧
      writeMsg s j.bind r.addr bs true ∈ (writeAndEnd t j r bs st res appr).out ∧
      (writeAndEnd t j r bs st res appr).slots = s.slots := by
  refine ⟨?_, ?_, by rw [writeAndEnd_slots, hst.slots]⟩
  all_goals rw [writeAndEnd_of_own hbs hport (by rwa [hst.dmaAlike.canDma]), hst.dmaAlike.writeMsg]
  · exact endJob_ends ho hp ..
  · exact out_grows_endJob.subset (by simp)

/-! #### KEY_PUBLIC -/

/-- A KEY_PUBLIC that passes its checks, of an active half whose public key no record holds. -/
structure PublicReadable (s : State) (j : Job) (h : SlotHalf) : Prop where
  rsvd : zeroAt j.ops 3 13 = true
  half : u8 j.ops 2 = 0
  buffer : refCheck s j (hostRef j.ops 16) 0 maxLen = none
  access : accessCheck s j .keyPublic (u16 j.ops 0) = none
  active : (s.slot (u16 j.ops 0)).active = some h
  act : h.act = true
  cls : 6 ≤ h.cls
  inline : h.pubRecord = none
  fits : h.pubKey.length ≤ (hostRef j.ops 16).len

/-- The result of KEY_PUBLIC. -/
def publicResult (h : SlotHalf) : Bytes := leBytes 4 h.pubKey.length ++ leBytes 2 h.version ++ zeros 2

theorem keyPublic_of_readable (hu : Undisputed s j) (hc : PublicReadable s j h) :
    keyPublic j (freeSched s o) = writeAndEnd (boundState s o j [u16 j.ops 0]) (boundJob s o j [u16 j.ops 0])
      (hostRef j.ops 16) h.pubKey S.OK (publicResult h) false := by
  have hbound : Arbitrated s (boundState s o j [u16 j.ops 0]) := arbitrated_boundState
  have hbuffer : refCheck (freeSched s o) j (hostRef j.ops 16) 0 maxLen = none := hc.buffer
  have haccess : accessCheck (boundState s o j [u16 j.ops 0]) (boundJob s o j [u16 j.ops 0]) .keyPublic (u16 j.ops 0) = none := by
    rw [hbound.accessCheck]
    exact hc.access
  have hactive : ((boundState s o j [u16 j.ops 0]).slot (u16 j.ops 0)).active = some h := by rw [hbound.slot, hc.active]
  have hcls : ¬ h.cls < 6 := Nat.not_lt.mpr hc.cls
  have hfits : ¬ (hostRef j.ops 16).len < h.pubKey.length := Nat.not_lt.mpr hc.fits
  simp only [keyPublic, hc.rsvd, hc.half, hbuffer, takeOrder_bound hu, haccess, activeHalf_of_act hactive hc.act, hcls,
    withPublic_of_inline hactive hc.inline, hfits, Bool.not_true, Bool.false_or, Nat.not_lt_zero, decide_false,
    Bool.false_eq_true, if_false, if_true, gt_iff_lt, Nat.reduceBEq, publicResult]

/-- KEY_PUBLIC writes the public encoding through the submitter's own port. -/
theorem keyPublic_delivers (hr : Runs s (.mailbox b) C.KEY_PUBLIC 0 j) (hp : Plain j) (hu : Undisputed s j)
    (hc : PublicReadable s j h) (hport : (hostRef j.ops 16).port = 0) (hcan : canDma s j.bind = true) (hpub : h.pubKey ≠ []) :
    ∃ u, exec (.keyPublic (.mailbox b)) s = .next u ∧ Ends u b S.OK (publicResult h) ∧
      writeMsg s j.bind (hostRef j.ops 16).addr h.pubKey true ∈ u.out ∧ u.slots = s.slots :=
  ⟨_, congrArg Host.Outcome.next ((runCommand_runs hr _).trans (keyPublic_of_readable hu hc)),
    writeAndEnd_delivers arbitrated_boundState (by exact hr.origin) (by exact hp) hpub hport hcan⟩

/-! #### KEY_WRAP under the CDK -/

/-- A KEY_WRAP of KIND 1 that passes its checks, of a tenant root whose key is held inline. -/
structure RootWrappable (s : State) (j : Job) (h : SlotHalf) (key : Bytes) : Prop where
  kind : u8 j.ops 2 = 1
  rsvd : zeroAt j.ops 3 1 = true
  wrapSlot : u16 j.ops 4 = 0xFFFF
  rsvdTail : zeroAt j.ops 6 10 = true
  buffer : refCheck s j (hostRef j.ops 16) 0 maxLen = none
  slot : slotCheck s j .wrapRoot (u16 j.ops 0) (fun h => h.cls == 4) 0 0 = none
  active : (s.slot (u16 j.ops 0)).active = some h
  inline : h.record = none ∧ h.pubRecord = none
  keyed : s.keyed = true
  cdk : s.cdk = some key
  fits : (blobOf 1 h key).length ≤ (hostRef j.ops 16).len

/-- In a keyed device the CDK wraps the tenant roots (R165). -/
theorem wrapKey_cdk {ws usage : Nat} (hkeyed : s.keyed = true) (hcdk : s.cdk = some key) :
    wrapKey s j 1 ws usage = (S.OK, key) := by
  simp only [wrapKey, hcdk, hkeyed, one_ne_zero, if_false, if_true]

theorem blobOf_ne_nil {kind : Nat} : blobOf kind h key ≠ [] := by simp [blobOf, blobHeader, leBytes]

/-- The slots that an order of KEY_WRAP names. -/
def wrapNames (j : Job) : List Nat := slotNames [u16 j.ops 0, u16 j.ops 4]

theorem keyWrap_of_wrappable (hu : Undisputed s j) (hc : RootWrappable s j h key) :
    ∃ t, Arbitrated s t ∧ keyWrap j (freeSched s o) = writeAndEnd t (boundJob s o j (wrapNames j)) (hostRef j.ops 16)
      (blobOf 1 h key) S.OK (leBytes 4 (blobOf 1 h key).length ++ zeros 4) false := by
  obtain ⟨hrecord, hpub⟩ := hc.inline
  have hbound : Arbitrated s (boundState s o j (wrapNames j)) := arbitrated_boundState
  have hread : Arbitrated s (materialStep (boundState s o j (wrapNames j)) (boundJob s o j (wrapNames j)) (u16 j.ops 0) S.OK) :=
    hbound.trans arbitrated_materialStep
  have hbuffer : refCheck (freeSched s o) j (hostRef j.ops 16) 0 maxLen = none := hc.buffer
  have hslot : slotCheck (boundState s o j (wrapNames j)) (boundJob s o j (wrapNames j)) .wrapRoot (u16 j.ops 0)
      (fun h => h.cls == 4) 0 0 = none := by
    rw [hbound.slotCheck]
    exact hc.slot
  have hactive : ((boundState s o j (wrapNames j)).slot (u16 j.ops 0)).active = some h := by rw [hbound.slot, hc.active]
  have hwrap : (u16 j.ops 4 != 0xFFFF) = false := by rw [hc.wrapSlot]; rfl
  have hnames : slotNames [u16 j.ops 0, u16 j.ops 4] = wrapNames j := rfl
  refine ⟨_, hread, ?_⟩
  simp [keyWrap, hc.rsvd, hc.rsvdTail, hc.kind, hwrap, hbuffer, takeOrder_bound hu, hnames,
    slotCheckNeeding_of_keyed (hbound.keyed.trans hc.keyed), hslot, withMaterial_of_inline (pend := false) hactive hrecord hpub,
    wrapKey_cdk (hread.keyed.trans hc.keyed) (hread.cdk.trans hc.cdk), hc.fits]

/-- KEY_WRAP under the CDK writes the root's blob through the submitter's own port. -/
theorem keyWrap_delivers (hr : Runs s (.mailbox b) C.KEY_WRAP 0 j) (hp : Plain j) (hu : Undisputed s j)
    (hc : RootWrappable s j h key) (hport : (hostRef j.ops 16).port = 0) (hcan : canDma s j.bind = true) :
    ∃ u, exec (.keyWrap (.mailbox b)) s = .next u ∧ Ends u b S.OK (leBytes 4 (blobOf 1 h key).length ++ zeros 4) ∧
      writeMsg s j.bind (hostRef j.ops 16).addr (blobOf 1 h key) true ∈ u.out ∧ u.slots = s.slots := by
  obtain ⟨t, hst, hwrap⟩ := keyWrap_of_wrappable (o := .mailbox b) hu hc
  exact ⟨_, congrArg Host.Outcome.next ((runCommand_runs hr _).trans hwrap),
    writeAndEnd_delivers hst (by exact hr.origin) (by exact hp) blobOf_ne_nil hport hcan⟩

/-! #### The stop of a revoked job -/

theorem revokeStop_of_revoked {c : Nat} (hj : s.job? o = some j) (hc : j.revokedBy = some c) :
    revokeStop s o = supersede s j c := by
  simp only [revokeStop, hj, hc]

end Sys2Proof.Machine
end

section
open Sys2Proof.Machine

/-- Settles O20, by the state in which a bound order has changed no slot, and by the one write with which KEY_PUBLIC and
KEY_WRAP end. -/
theorem keyReadsAndWraps : Obligations.KeyReadsAndWraps := by
  refine ⟨?_, ?_, ?_, ?_⟩
  · rintro s b j _ hr hp hu rfl hrsvd hnamed haccess
    exact keyAttrRead_reads hr hp hu hrsvd hnamed haccess
  · rintro s b j _ h hr hp hu rfl hrsvd hhalf hbuffer hport hcan haccess hactive hact hcls - hinline hpub hfits
    exact keyPublic_delivers hr hp hu ⟨hrsvd, hhalf, hbuffer, haccess, hactive, hact, hcls, hinline, hfits⟩ hport hcan hpub
  · rintro s b j _ h k hr hp hu rfl hkind hrsvd hwrap hrsvdTail hbuffer hport hcan hslot hactive hrecord hinline hkeyed hcdk
      hfits
    exact keyWrap_delivers hr hp hu
      ⟨hkind, hrsvd, hwrap, hrsvdTail, hbuffer, hslot, hactive, ⟨hrecord, hinline⟩, hkeyed, hcdk, hfits⟩ hport hcan
  · exact fun _ _ _ _ hj hc => congrArg Host.Outcome.next (revokeStop_of_revoked hj hc)

end

section
/-! ### A failed test of KEY_PROVE (R168, R172), and what the release of its command makes of the slots -/

namespace Sys2Proof.Machine

variable {s t : State} {o : Origin} {b : BindId} {j : Job} {p : SlotHalf} {n code seq st : Nat}

/-- A command that ends early gives up its reservations in every entry of the slots, and an entry that it leaves empty goes. -/
theorem dropWith_slots : (dropWith s j st).slots = s.slots.mapVal {} (freeSlot j.origin) := by
  rw [dropWith, failJob, endJob_slots]
  simp [releaseJob]

/-- The slot whose pending half an order has cleared. -/
def discardedSlot (v : Slot) (code : Nat) : Slot := { v with pending := none, lastOrder := code, changes := v.changes + 1 }

theorem clearPending_slots (hn : n < 16384) : (clearPending s n code seq).slots =
    (s.slots.put {} n { s.slot n with pending := none }).put {} n (discardedSlot (s.slot n) code) := by
  simp only [clearPending, touched, if_pos hn, setSlot_slots, recordsFree, slot_setSlot_self, discardedSlot]

/-- No later order has changed the slot since KEY_PROVE was bound to it. -/
theorem proveMoved_bound (hn : n < 16384) (hst : Arbitrated s t) : proveMoved t (boundJob s o j [n]) n = false := by
  have hnames : (boundJob s o j [n]).names = [(n, (s.slot n).changes)] := by
    simp only [boundJob, bindOrder, bindNames, List.map_cons, List.map_nil, if_pos hn]
    rfl
  simp [proveMoved, hnames, hst.slot]

/-- A KEY_PROVE that passes its checks, of a symmetric pending half whose key is held inline. -/
structure SymmetricPending (s : State) (j : Job) (n : Nat) (p : SlotHalf) : Prop where
  names : n = u16 j.ops 0
  range : n < 16384
  rsvd : zeroAt j.ops 2 6 = true
  slot : slotCheck s j .use n (fun _ => true) 0 0 = none
  pending : (s.slot n).pending = some p
  act : p.act = true
  inline : p.record = none ∧ p.pubRecord = none
  cls : p.cls ≤ 2

/-- A KEY_PROVE that expects another KCV clears the pending half. -/
theorem keyProve_of_mismatch (hstage : j.stage = 0) (hu : Undisputed s j) (hc : SymmetricPending s j n p)
    (hexpects : zeroAt j.ops 8 8 = false) (hkcv : slice j.ops 8 8 ≠ kcv p.material) :
    ∃ t, Arbitrated s t ∧ keyProve j (freeSched s o) =
      dropWith (clearPending t n j.code (boundJob s o j [n]).seq) (boundJob s o j [n]) S.E_PROVE_FAIL := by
  obtain ⟨hrecord, hpub⟩ := hc.inline
  obtain ⟨-, -, -, -, hovertaken, -⟩ := id hu
  have hbound : Arbitrated s (boundState s o j [n]) := arbitrated_boundState
  have hread : Arbitrated s (materialStep (boundState s o j [n]) (boundJob s o j [n]) n S.OK) :=
    hbound.trans arbitrated_materialStep
  have hslot : slotCheck (boundState s o j [n]) (boundJob s o j [n]) .use n (fun _ => true) 0 0 = none := by
    rw [hbound.slotCheck]
    exact hc.slot
  have hpending : ((boundState s o j [n]).slot n).pending = some p := by rw [hbound.slot, hc.pending]
  have hsym : ¬ p.cls ≥ 6 := by have := hc.cls; omega
  have hfails : ¬ (allZero (slice j.ops 8 8) = true ∨ slice j.ops 8 8 = kcv p.material) := by
    rw [← zeroAt, hexpects]
    simp [hkcv]
  refine ⟨_, hread, ?_⟩
  simp only [keyProve, ← hc.names, hstage, hc.rsvd, takeOrder_bound hu, hslot, hpending, hc.act, hsym, hc.cls, hfails,
    withMaterial_of_inline (pend := true) hpending hrecord hpub, proveFail, proveReport, proveMoved_bound hc.range hread,
    OfNat.zero_ne_ofNat, Bool.not_true, Bool.false_eq_true, Bool.true_eq_false, false_and, if_false, if_true]
  exact commitOrder_of_none hovertaken

/-! #### A table of slots that lists one number twice -/

/-- A key of 256 bits of the owner. -/
def macKey : SlotHalf := { material := zeros 32, colour := 0xF001, cls := 1, dest := 8, usage := 64, version := 1 }

/-- The owner's mailbox of port A. -/
def ownerMailbox : BindId := { port := .a, vf := false, n := 0 }

/-- KEY_PROVE of slot 64 from the owner's mailbox, with the KCV that it expects. -/
def proveJob (expected : Nat) : Job :=
  { origin := .mailbox ownerMailbox, bind := ownerMailbox, code := C.KEY_PROVE,
    ops := leBytes 2 64 ++ zeros 6 ++ leBytes 8 expected, owner := true, phase := .started }

/-- A table that is not in canonical form: it lists slot 65 twice, first empty but for a reservation of the command, then with
a key. -/
def listedTwice : NMap Slot :=
  [(64, { active := some macKey, pending := some macKey }), (65, { resActive := some (.mailbox ownerMailbox) }),
   (65, { active := some macKey })]

/-- The same table after the command has failed and been released. -/
def listedAfter : NMap Slot :=
  ((listedTwice.put {} 64 { active := some macKey }).put {} 64
    (discardedSlot { active := some macKey, pending := some macKey } C.KEY_PROVE)).mapVal {} (freeSlot (.mailbox ownerMailbox))

theorem listedTwice_slot65 : (listedTwice.get {} 65).active = none := rfl

theorem listedAfter_slot65 : (listedAfter.get {} 65).active = some macKey := by decide

/-- A state in SERVICE in which that command runs on these slots. -/
def provingState (expected : Nat) : State :=
  { State.reset with mode := .service, jobs := [proveJob expected], slots := listedTwice }

theorem exists_leBytes_ne (c : Bytes) : ∃ v, (v = 1 ∨ v = 2) ∧ leBytes 8 v ≠ c := by
  by_cases h : leBytes 8 1 = c
  · refine ⟨2, Or.inr rfl, fun h' => ?_⟩
    exact absurd (h.trans h'.symm) (by decide)
  · exact ⟨1, Or.inl rfl, h⟩

theorem provingState_runs {v : Nat} (hv : v = 1 ∨ v = 2) :
    Runs (provingState v) (.mailbox ownerMailbox) C.KEY_PROVE 0 (proveJob v) ∧ Undisputed (provingState v) (proveJob v) := by
  rcases hv with rfl | rfl <;> exact ⟨by unfold Runs; decide, by unfold Undisputed; decide⟩

theorem provingState_pending {v : Nat} (hv : v = 1 ∨ v = 2) : SymmetricPending (provingState v) (proveJob v) 64 macKey := by
  rcases hv with rfl | rfl <;> exact ⟨by decide, by decide, by decide, by decide, rfl, rfl, ⟨rfl, rfl⟩, by decide⟩

theorem proveJob_expects {v : Nat} (hv : v = 1 ∨ v = 2) :
    zeroAt (proveJob v).ops 8 8 = false ∧ slice (proveJob v).ops 8 8 = leBytes 8 v := by
  rcases hv with rfl | rfl <;> decide

end Sys2Proof.Machine
end

section
open Sys2Proof.Machine

/-- Refutes O19: its clause on a failed KEY_PROVE holds no table to its canonical form. In `provingState` slot 65 is listed twice.
The release of the command empties the entry that is read, so the other is read after it, and a slot empty before holds a key. -/
theorem not_keyStatesMove : ¬ Obligations.KeyStatesMove := by
  rintro ⟨-, hfails, -⟩
  obtain ⟨v, hv, hne⟩ := exists_leBytes_ne (kcv macKey.material)
  obtain ⟨hruns, hu⟩ := provingState_runs hv
  obtain ⟨hexpects, hslice⟩ := proveJob_expects hv
  have hc := provingState_pending hv
  have hkcv : slice (proveJob v).ops 8 8 ≠ kcv macKey.material := by rwa [hslice]
  obtain ⟨u, hexec, -, -, -, hothers⟩ := hfails (provingState v) ownerMailbox (proveJob v) 64 macKey hruns ⟨rfl, rfl⟩ hu
    hc.names hc.range hc.rsvd hc.slot hc.pending hc.act rfl rfl hc.cls hexpects hkcv
  obtain ⟨t, hst, hprove⟩ := keyProve_of_mismatch (o := .mailbox ownerMailbox) hruns.stage hu hc hexpects hkcv
  have hend := Host.Outcome.next.inj (hexec.symm.trans (congrArg Host.Outcome.next ((runCommand_runs hruns _).trans hprove)))
  have hslots : u.slots = listedAfter := by
    rw [hend, dropWith_slots, clearPending_slots hc.range, hst.slot, hst.slots]
    rfl
  have hread : (u.slot 65).active = (listedTwice.get {} 65).active := hothers 65 (by decide)
  rw [State.slot, hslots, listedAfter_slot65, listedTwice_slot65] at hread
  cases hread

end

section
/-! ### KEY_UNWRAP of a blob that has been read (R159, R167), in a device that is zeroised (R178) -/

namespace Sys2Proof.Machine

variable {s : State} {b : BindId} {j : Job} {kind ws usage : Nat} {blob key : Bytes}

/-- A zeroised vault gives no order the wrapping key of an EXPORT blob. -/
theorem wrapKey_export_zeroised (hz : s.zeroised = true) : wrapKey s j 3 ws usage = (S.E_ZEROISED, []) := by
  have hslot : slotCheck s j .use ws (fun h => h.cls == 1) 8 usage = some S.E_ZEROISED := by
    simp only [slotCheck, slotCheckNeeding, accessCheck, hz, if_true]
  simp only [wrapKey, OfNat.ofNat_ne_zero, OfNat.ofNat_ne_one, if_false, hslot]

/-- A well-formed blob opens to as many bytes as its header says, or does not open for a reason of its own. -/
theorem openBlob_of_format (hformat : blobFormatOk blob kind = true) :
    (∃ mat, openBlob blob key kind = (S.OK, mat) ∧ mat.length = u16 blob 6) ∨
      ∃ st, openBlob blob key kind = (st, []) ∧ (st = S.E_WRAP_KEY ∨ st = S.E_UNWRAP_FAIL) := by
  unfold openBlob
  rw [if_neg (by simp [hformat])]
  split
  · exact .inr ⟨_, rfl, .inl rfl⟩
  · split
    · exact .inr ⟨_, rfl, .inr rfl⟩
    · split
      · exact .inr ⟨_, rfl, .inr rfl⟩
      next p hp =>
        obtain ⟨-, hlength⟩ := not_or.mp hp
        exact .inl ⟨_, rfl, by rw [List.length_drop, not_not.mp hlength, Nat.add_sub_cancel_left]⟩

/-- The unwrap of an EXPORT blob that comes to the vault when it is zeroised ends with E_ZEROISED. -/
theorem keyUnwrap_zeroised (hr : Runs s (.mailbox b) C.KEY_UNWRAP 1 j) (hp : Plain j) (hz : s.zeroised = true)
    (hkind : u8 j.ops 3 = 3) (hformat : blobFormatOk (j.data.headD []) 3 = true) :
    ∃ u, exec (.keyUnwrap (.mailbox b)) s = .next u ∧ Ends u b S.E_ZEROISED [] := by
  have hkey : wrapKey (freeSched s (.mailbox b)) j 3 (u16 j.ops 4) 64 = (S.E_ZEROISED, []) := wrapKey_export_zeroised hz
  have hrun : runCommand C.KEY_UNWRAP (.mailbox b) s keyUnwrap = dropWith (freeSched s (.mailbox b)) j S.E_ZEROISED := by
    rw [runCommand_runs hr, keyUnwrap, if_neg (by simp [hr.stage]), keyUnwrapRead, hkind, hkey, if_neg (by rw [hformat]; decide)]
    exact if_pos (by decide)
  exact ⟨_, congrArg Host.Outcome.next hrun, endJob_ends hr.origin hp ..⟩

theorem status_of_ends {u : State} {st st' : Nat} {res res' : Bytes} (h : Ends u b st res) (h' : Ends u b st' res') :
    st = st' := by
  obtain ⟨-, -, hst, -⟩ := h
  obtain ⟨-, -, hst', -⟩ := h'
  exact hst.symm.trans hst'

/-! #### A device zeroised while a KEY_UNWRAP has its blob -/

/-- The wrapping key of EXPORT in slot 64. -/
def exportKey : SlotHalf := { material := zeros 32, colour := 0xF001, cls := 1, dest := 8, usage := 64, version := 1 }

/-- A well-formed EXPORT blob of a key of 256 bits. -/
def exportBlob : Bytes := [1, 3, 0x10, 8, 64, 0] ++ leBytes 2 32 ++ zeros 96

/-- KEY_UNWRAP into slot 65 from the owner's mailbox, when its blob has been read. -/
def unwrapJob : Job :=
  { origin := .mailbox ownerMailbox, bind := ownerMailbox, code := C.KEY_UNWRAP, stage := 1, owner := true, phase := .started,
    ops := leBytes 2 65 ++ [0, 3] ++ leBytes 2 64 ++ zeros 26, target := some (65, 0), data := [exportBlob] }

/-- A state in SERVICE in which that command runs, keyed and zeroised. -/
def zeroisedState : State :=
  { State.reset with
    mode := .service, jobs := [unwrapJob], slots := [(64, { active := some exportKey })], keyed := true, zeroised := true }

theorem zeroisedState_runs : Runs zeroisedState (.mailbox ownerMailbox) C.KEY_UNWRAP 1 unwrapJob := by
  unfold Runs
  decide

theorem exportBlob_format : blobFormatOk exportBlob 3 = true := by decide

end Sys2Proof.Machine
end

section
open Sys2Proof.Machine

/-- Refutes O18: its clause on KEY_UNWRAP does not ask that the device is not zeroised. In `zeroisedState` the command ends with
E_ZEROISED, which is the status of no well-formed blob, whether it opens or not. -/
theorem not_keysEnterSlots : ¬ Obligations.KeysEnterSlots := by
  rintro ⟨-, -, hunwrap, -⟩
  obtain ⟨u, hexec, -, hopens, hfails⟩ := hunwrap zeroisedState ownerMailbox unwrapJob 65 exportKey zeroisedState_runs
    ⟨rfl, rfl⟩ rfl rfl (by decide) (by decide) (by decide) (by decide) (by decide) rfl rfl rfl (by decide) rfl rfl rfl rfl rfl rfl
    rfl rfl exportBlob_format (by decide) (by decide) (by decide)
  obtain ⟨u', hexec', hends⟩ := keyUnwrap_zeroised zeroisedState_runs ⟨rfl, rfl⟩ rfl (by decide) exportBlob_format
  obtain rfl := Host.Outcome.next.inj (hexec.symm.trans hexec')
  rcases openBlob_of_format (key := exportKey.material) exportBlob_format with ⟨mat, hopen, hlength⟩ | ⟨st, hopen, hst⟩
  · obtain ⟨hok, -⟩ := hopens mat hopen (hlength.trans (by decide))
    exact absurd (status_of_ends hok hends) (by decide)
  · obtain ⟨hfail, -⟩ := hfails st [] hopen (by rcases hst with rfl | rfl <;> decide)
    have hzeroised := status_of_ends hfail hends
    rcases hst with rfl | rfl <;> exact absurd hzeroised (by decide)

end

section
/-! ### Writes of the anchor journal (R198, R201, R205): tokens, and a write that waits alone. -/

namespace Sys2Proof.Machine

variable {s : State} {w : AnchorWrite}

theorem serveToken_of_empty (h : s.agate.tokens = 0) : serveToken s = s := if_pos (.inr h)

theorem serveToken_of_idle (h : s.agate.writes = []) : serveToken s = s := by
  simp [serveToken, h, nextWrite]

theorem nextWrite_singleton (hw : tokenWaits w = true) : nextWrite [w] = some 0 := by
  by_cases hc : w.purpose = .carry
  · simp [nextWrite, hw, hc]
  · simp [nextWrite, hw, hc]

/-- A token leaves the bucket for the only write. -/
def tokenTaken (s : State) (w : AnchorWrite) : State :=
  { s with agate := { s.agate with tokens := s.agate.tokens - 1, writes := [{ w with token := true }] } }

theorem askWrite_alone (hkeyed : s.keyed = true) (hidle : s.agate.writes = []) (htokens : s.agate.tokens ≠ 0)
    (hw : tokenWaits w = true) :
    askWrite s w = if w.ready then startWrites (tokenTaken s w) else anchorWake (tokenTaken s w) w.origin := by
  have hask : askWrite s w = serveToken (setWrites s [w]) := by simp [askWrite, hidle]
  rw [hask, serveToken, if_neg (by simp [setWrites, hkeyed, htokens])]
  simp [setWrites, nextWrite_singleton hw, tokenTaken]

/-- The only write starts its program: nothing of its TREE_UID is being programmed, and no carry-forward holds it up. -/
theorem startWrites_alone (hkeyed : s.keyed = true) (hwrites : s.agate.writes = [w]) (htoken : w.token = true)
    (hready : w.ready = true) (hpos : w.pos = none) (hcarry : w.purpose = .carry ∨ carryNeeded s = false) :
    startWrites s = startWrite s 0 w := by
  have hplace : placeable s w = true := by
    rcases hcarry with h | h <;> simp [placeable, hwrites, htoken, hready, hpos, h]
  have hone : List.range s.agate.writes.length = [0] := by simp [hwrites]
  have hfind : s.agate.writes.findIdx? (placeable s) = some 0 := by simp [hwrites, hplace]
  rw [startWrites, if_neg (by simp [hkeyed]), hone, List.foldl_cons, List.foldl_nil, hfind]
  simp [hwrites]

/-! #### The carry-forward (R201) -/

/-- The copy of a live entry that the carry-forward writes. -/
def carryWrite (a : Anchor) : AnchorWrite := { purpose := .carry, anchor := a, ready := true, tree := a.treeNum }

/-- That copy, with its token. -/
def servedCopy (a : Anchor) : AnchorWrite := { carryWrite a with token := true }

/-- The entry of a write, without its MAC: the head's next JSEQ, MARK erased. -/
def freshEntry (s : State) (a : Anchor) : Anchor := { a with jseq := (s.agate.jseq + 1) % 2 ^ 32, mark := 0xFF }

/-- The entry that a write other than a tombstone places at the head. -/
def placedEntry (s : State) (a : Anchor) : Anchor := { freshEntry s a with mac := anchorMac s (freshEntry s a) }

theorem placeEntry_agate (hp : w.purpose ≠ .tombstone) : (placeEntry s w).2.agate =
    { s.agate with
      jseq := (s.agate.jseq + 1) % 2 ^ 32, head := (s.agate.head + 1) % 262144,
      journal := s.agate.journal.insert s.agate.head (placedEntry s w.anchor) } := by
  rw [placeEntry, if_neg hp]
  exact incRegField_agate ..

theorem carryForward_copies {a : Anchor} {l : List Anchor} {n : Nat} {ok : Bool} (hkeyed : s.keyed = true)
    (hidle : s.agate.writes = []) (htokens : s.agate.tokens ≠ 0) (hsector : oldestSector s = some n)
    (hlive : liveEntries s n = a :: l) :
    carryForward s ok = startWrite (tokenTaken s (carryWrite a)) 0 (servedCopy a) := by
  have hask : carryForward s ok = askWrite s (carryWrite a) := by
    rw [carryForward, if_neg (by simp [hkeyed, hidle]), hsector]
    simp only [hlive]
    rfl
  rw [hask, askWrite_alone hkeyed hidle htokens rfl]
  exact startWrites_alone hkeyed rfl rfl rfl rfl (.inl rfl)

/-- The write of a copy, CARRIED. -/
def carriedWrite (w : AnchorWrite) : AnchorWrite := { w with anchor := { w.anchor with flags := w.anchor.flags ||| 2 } }

theorem startWrite_carry {i : Nat} (hp : w.purpose = .carry)
    (hsame : (anchorOf s w.anchor.uid).map (fun x => (x.batch, x.root)) = some (w.anchor.batch, w.anchor.root)) :
    startWrite s i w =
      setWrites (placeEntry s (carriedWrite w)).2 (s.agate.writes.set i (placeEntry s (carriedWrite w)).1) := by
  cases w
  cases hp
  exact if_pos hsame

theorem setWrites_agate (ws : List AnchorWrite) : (setWrites s ws).agate = { s.agate with writes := ws } := rfl

/-! #### The end of a program (R198, R267) -/

/-- What the journal's capture shows of the end of an anchor entry's program. -/
def programSeen (s : State) (ok : Bool) : State :=
  capture s 0x15 19 [4 * 2 ^ 56 + 2 * 2 ^ 40 + (if ok then 0 else S.E_NVM_PROGRAM) * 2 ^ 24, 0]

theorem exec_anchorProgramDone {n : Nat} {ok : Bool} (hwrites : s.agate.writes = [w]) (hpos : w.pos = some n)
    (hfree : refreshing s (8192 + n / 64) = false) : exec (.anchorProgramDone ok) s = .next (anchorProgramDone s ok) := by
  have hwait : ((s.agate.writes.find? (·.pos.isSome)).bind (·.pos)).any (fun n => refreshing s (8192 + n / 64)) = false := by
    simp [hwrites, hpos, hfree]
  exact congrArg Host.Outcome.next (if_neg (by rw [hwait]; decide))

theorem anchorProgramDone_body {n : Nat} (hwrites : s.agate.writes = [w]) (hpos : w.pos = some n) (hbody : w.marking = false) :
    anchorProgramDone s true = setWrites (programSeen s true) [{ w with marking := true }] := by
  simp [anchorProgramDone, hwrites, hpos, hbody, programSeen]

/-- The write as it waits for a second attempt. -/
def secondAttempt (w : AnchorWrite) : AnchorWrite := { w with pos := none, marking := false, token := false, attempt := 1 }

/-- The failed entry is killed, and its write waits. -/
def entryKilled (s : State) (w : AnchorWrite) (n : Nat) : Agate :=
  { s.agate with journal := s.agate.journal.insert n { w.anchor with mark := 0 }, writes := [secondAttempt w] }

theorem anchorProgramDone_fails_agate {n : Nat} (hwrites : s.agate.writes = [w]) (hpos : w.pos = some n)
    (hfirst : w.attempt = 0) (htokens : s.agate.tokens = 0) : (anchorProgramDone s false).agate = entryKilled s w n := by
  simp only [anchorProgramDone, hwrites, hpos, hfirst, List.findIdx?_cons, Option.isSome_some, if_true, List.getElem?_cons_zero,
    Bool.false_eq_true, if_false]
  rw [serveToken_of_empty (by simp [setWrites, countProgram, htokens])]
  simp [setWrites, countProgram, entryKilled, secondAttempt, hwrites]

theorem tombstoneRetry_again {t : Nat} (hwrites : s.agate.writes = [w]) (hattempt : w.attempt = 2) (htree : w.tree / 16 = t)
    (hremap : s.nor.remapFull = false) (htokens : s.agate.tokens = 0) :
    tombstoneRetry s t = setWrites (timerTaken s 13) [{ w with attempt := 0 }] := by
  simp only [tombstoneRetry, hwrites, hattempt, htree, hremap, List.findIdx?_cons, BEq.rfl, Bool.and_self, if_true,
    List.getElem?_cons_zero, Bool.false_eq_true, false_and, if_false]
  exact serveToken_of_empty (by simp [setWrites, htokens])

theorem tokenRefill_idle (h : s.agate.writes = []) :
    tokenRefill s = { s with agate := { s.agate with tokens := min 32 (s.agate.tokens + 1) } } := serveToken_of_idle h

end Sys2Proof.Machine
end

section
open Sys2Proof.Machine

/-- Settles O28, by what a write that waits alone makes of the journal: a token refilled, an entry copied, a body and a MARK
programmed, an entry killed, a tombstone tried again. -/
theorem journalWritesFollowTokens : Obligations.JournalWritesFollowTokens := by
  refine ⟨fun s hidle => ?_, fun s ok a l n hkeyed hidle htokens hsector hlive hsame => ?_,
    fun s w n hwrites hpos hbody hfree => ?_, fun s w n hwrites hpos hfirst htokens hfree => ?_,
    fun s t w hwrites hattempt htree hremap htokens => ?_⟩
  · have hrefill := tokenRefill_idle hidle
    exact ⟨_, congrArg (fun t => Host.Outcome.next (timerTaken t 13)) hrefill, by simp, by simp, by simp, by simp⟩
  · have hcopy : carryForward s ok = setWrites (placeEntry (tokenTaken s (carryWrite a)) (carriedWrite (servedCopy a))).2 _ :=
      (carryForward_copies hkeyed hidle htokens hsector hlive).trans (startWrite_carry rfl hsame)
    refine ⟨_, placedEntry (tokenTaken s (carryWrite a)) (carriedWrite (servedCopy a)).anchor,
      congrArg Host.Outcome.next hcopy, ?_⟩
    rw [setWrites_agate, placeEntry_agate (show AnchorPurpose.carry ≠ .tombstone by decide)]
    exact ⟨rfl, rfl, rfl, NMap.look?_insert_self .., rfl, rfl, rfl, rfl, rfl, rfl, rfl⟩
  · refine ⟨_, (exec_anchorProgramDone hwrites hpos hfree).trans
      (congrArg Host.Outcome.next (anchorProgramDone_body hwrites hpos hbody)), ?_, ?_, ?_⟩ <;> simp [setWrites, programSeen]
  · refine ⟨_, exec_anchorProgramDone hwrites hpos hfree, ?_⟩
    rw [anchorProgramDone_fails_agate hwrites hpos hfirst htokens]
    exact ⟨htokens, NMap.look?_insert_self .., rfl⟩
  · refine ⟨_, congrArg Host.Outcome.next (tombstoneRetry_again hwrites hattempt htree hremap htokens), ?_, ?_, ?_⟩ <;>
      simp [setWrites]

end

section
/-! ### Commands that write an anchor alone (R176, R205, R207): the token, the complete anchor, and an order overtaken before its
entry is programmed. -/

namespace Sys2Proof.Machine

variable {s : State} {w : AnchorWrite} {i j : Job} {b : BindId} {c t : Nat}

/-- The write with which a command asks for its token. -/
def askedWrite (j : Job) (p : AnchorPurpose) (t : Nat) : AnchorWrite :=
  { purpose := p, origin := some j.origin, tree := t, seq := j.seq }

/-- A command that goes on with its token. -/
def servedJob (j : Job) : Job := { j with phase := .started, stage := j.stage + 1 }

/-- The state in which it goes on. -/
def tokenServed (s : State) (j : Job) (p : AnchorPurpose) (t : Nat) : State :=
  (tokenTaken (s.setJob { j with phase := .anchor }) (askedWrite j p t)).setJob (servedJob j)

theorem anchorWake_of_waiting {o : Origin} (hj : s.job? o = some j) (hphase : j.phase = .anchor) :
    anchorWake s (some o) = s.setJob (servedJob j) := by
  simp [anchorWake, hj, hphase, servedJob]

theorem withToken_of_served {p : AnchorPurpose} {k : State → Job → State} {u : State}
    (hask : askWrite (s.setJob { j with phase := .anchor }) (askedWrite j p t) = u) (hj : u.job? j.origin = some i)
    (hphase : i.phase ≠ .anchor) : withToken s j p t k = k u i := by
  subst hask
  unfold askedWrite at hj ⊢
  simp [withToken, hj, hphase]

theorem withToken_alone {p : AnchorPurpose} {k : State → Job → State} (hj : s.job? j.origin = some i) (hkeyed : s.keyed = true)
    (hidle : s.agate.writes = []) (htokens : s.agate.tokens ≠ 0) :
    withToken s j p t k = k (tokenServed s j p t) (servedJob j) := by
  have hjob : (tokenTaken (s.setJob { j with phase := .anchor }) (askedWrite j p t)).job? j.origin =
      some { j with phase := .anchor } := job?_setJob_self hj rfl
  have hask : askWrite (s.setJob { j with phase := .anchor }) (askedWrite j p t) = tokenServed s j p t :=
    (askWrite_alone (s := s.setJob _) hkeyed hidle htokens rfl).trans
      (anchorWake_of_waiting (j := { j with phase := .anchor }) hjob rfl)
  exact withToken_of_served hask (job?_setJob_self hjob rfl) (show Phase.started ≠ .anchor by decide)

/-- A write whose anchor is complete. -/
def filledWrite (w : AnchorWrite) (a : Anchor) (f : List Node) (ps : List Nat) : AnchorWrite :=
  { w with anchor := a, ready := true, frontier := f, pages := ps }

/-- The state in which the program of a complete anchor starts. -/
def anchorFilled (s : State) (j : Job) (w : AnchorWrite) (a : Anchor) (f : List Node) (ps : List Nat) : State :=
  setWrites (({ s with mem := writePages s.mem ps f } : State).setJob { j with phase := .anchor }) [filledWrite w a f ps]

theorem programAnchor_alone {a : Anchor} {f : List Node} {ps : List Nat} (hkeyed : s.keyed = true) (hwrites : s.agate.writes = [w])
    (horigin : w.origin = some j.origin) (hready : w.ready = false) (htoken : w.token = true) (hpos : w.pos = none)
    (hcarry : carryNeeded s = false) :
    programAnchor s j a f ps = startWrite (anchorFilled s j w a f ps) 0 (filledWrite w a f ps) := by
  have hfill : programAnchor s j a f ps = startWrites (anchorFilled s j w a f ps) := by
    simp [programAnchor, hwrites, horigin, hready, anchorFilled, filledWrite]
  rw [hfill]
  exact startWrites_alone hkeyed rfl htoken rfl hpos (.inr hcarry)

/-! #### An order overtaken (R176) -/

theorem startWrite_create_overtaken {n : Nat} (hp : w.purpose = .create) (hj : w.origin.bind (fun o => s.job? o) = some j)
    (hover : j.overtaken = some c) (huncommitted : j.committed = false) : startWrite s n w = supersede s j c := by
  have hlost : commitOrder s j s = supersede s j c := by rw [commitOrder, hover]
  rw [startWrite, hj, hp]
  exact (if_pos ⟨by simp [hover], huncommitted⟩).trans hlost

@[simp] theorem arbiterLost_agate : (arbiterLost s j c).agate = s.agate := by simp [arbiterLost, arbiterOutcome]

/-- The token of a position that is not written returns to the bucket (R205). -/
theorem supersede_returns_token (hwrites : s.agate.writes = [w]) (horigin : w.origin = some j.origin) (htoken : w.token = true)
    (hpos : w.pos = none) : (supersede s j c).agate.tokens = min 32 (s.agate.tokens + 1) := by
  simp [supersede, dropWith, releaseJob, dropWrites, hwrites, horigin, htoken, hpos]

/-! #### AGATE_TREE_CREATE, overtaken before it takes its token -/

theorem newPages_congr {u : State} {f : List Node} (hregs : u.regs = s.regs) (hframe : framePages u = framePages s)
    (hamb : u.ambCapacity = s.ambCapacity) : newPages u f = newPages s f := by
  have hlimit : pageLimit u = pageLimit s := by
    unfold pageLimit State.regField State.reg
    rw [hregs, hamb]
  unfold newPages pagesUsed
  rw [hframe, hlimit]

theorem newPages_tokenServed {p : AnchorPurpose} {f : List Node} (hidle : s.agate.writes = []) :
    newPages (tokenServed s j p t) f = newPages s f :=
  newPages_congr rfl (by simp [framePages, tokenServed, tokenTaken, askedWrite, hidle]) rfl

/-- The number of the tree that the command makes. -/
def createdTree (j : Job) : Nat := treeNum j.tenant (u8 j.ops 0)

/-- The write of a new tree, with its token. -/
def createWrite (j : Job) : AnchorWrite := { askedWrite j .create (createdTree j) with token := true }

/-- That write, its first anchor complete. -/
def firstWrite (j : Job) (ps : List Nat) : AnchorWrite := filledWrite (createWrite j) (firstAnchor j) (firstFrontier j) ps

/-- The state in which it is to start. -/
def firstFilled (s : State) (j : Job) (ps : List Nat) : State :=
  anchorFilled (tokenServed s j .create (createdTree j)) (servedJob j) (createWrite j) (firstAnchor j) (firstFrontier j) ps

/-- With a token at hand the command's next act is the start of its entry's program, and there it is superseded (R176). -/
theorem agateTreeCreate_overtaken {ps : List Nat} (hj : s.job? j.origin = some j) (hstage : j.stage = 1) (hkeyed : s.keyed = true)
    (hidle : s.agate.writes = []) (htokens : s.agate.tokens ≠ 0) (hcarry : carryNeeded s = false)
    (hpages : newPages s (firstFrontier j) = some ps) (hover : j.overtaken = some c) (huncommitted : j.committed = false) :
    agateTreeCreate j s = supersede (firstFilled s j ps) { servedJob j with phase := .anchor } c := by
  have htoken : agateTreeCreate j s = firstProgram (tokenServed s j .create (createdTree j)) (servedJob j) := by
    rw [agateTreeCreate, if_neg (by simp [hstage]), if_pos hstage]
    exact withToken_alone hj hkeyed hidle htokens
  have hfirst : newPages (tokenServed s j .create (createdTree j)) (firstFrontier (servedJob j)) = some ps :=
    (newPages_tokenServed hidle).trans hpages
  rw [htoken, firstProgram, hfirst]
  have hwaiting : (firstFilled s j ps).job? j.origin = some { servedJob j with phase := .anchor } :=
    job?_setJob_self (job?_setJob_self (job?_setJob_self hj rfl) rfl) rfl
  have hstart : startWrite (firstFilled s j ps) 0 (firstWrite j ps) = supersede (firstFilled s j ps) _ c :=
    startWrite_create_overtaken rfl hwaiting hover huncommitted
  have hprogram : programAnchor (tokenServed s j .create (createdTree j)) (servedJob j) (firstAnchor j) (firstFrontier j) ps =
      startWrite (firstFilled s j ps) 0 (firstWrite j ps) :=
    programAnchor_alone (w := createWrite j) hkeyed rfl rfl rfl rfl rfl hcarry
  exact hprogram.trans hstart

theorem agateTreeCreate_overtaken_tokens {ps : List Nat} (hr : Runs s (.mailbox b) C.AGATE_TREE_CREATE 1 j)
    (hkeyed : s.keyed = true) (hidle : s.agate.writes = []) (htokens : s.agate.tokens ≠ 0) (hcarry : carryNeeded s = false)
    (hpages : newPages s (firstFrontier j) = some ps) (hover : j.overtaken = some c) (huncommitted : j.committed = false) :
    ∃ u, exec (.agateTreeCreate (.mailbox b)) s = .next u ∧ u.agate.tokens = min 32 (s.agate.tokens - 1 + 1) := by
  have hj : s.job? j.origin = some j := hr.origin ▸ hr.1
  have hstage : j.stage = 1 := hr.stage
  have hlost := agateTreeCreate_overtaken (s := freeSched s (.mailbox b)) hj hstage hkeyed hidle htokens hcarry hpages hover
    huncommitted
  refine ⟨_, congrArg Host.Outcome.next ((runCommand_runs hr _).trans hlost), ?_⟩
  exact supersede_returns_token rfl rfl rfl rfl

/-- AGATE_TREE_CREATE of tenant 1 from a VF's mailbox, when its tenant record is written: the order of an AGATE_LOAD on the same
tree, taken earlier, has overtaken it. -/
def createJob : Job :=
  { origin := .mailbox { port := .a, vf := true, n := 1 }, bind := { port := .a, vf := true, n := 1 },
    code := C.AGATE_TREE_CREATE, stage := 1, tenant := 1, phase := .started, ops := zeros 32,
    keep := [zeros 32, zeros 32, leBytes 8 77], target := some (302, 0), seq := 2, names := [(treeName 16, 0)],
    overtaken := some C.AGATE_LOAD }

/-- A keyed state in SERVICE in which that command runs, the bucket full. -/
def overtakenState : State := { State.reset with mode := .service, jobs := [createJob], keyed := true }

theorem overtakenState_runs :
    Runs overtakenState (.mailbox { port := .a, vf := true, n := 1 }) C.AGATE_TREE_CREATE 1 createJob := by
  unfold Runs
  decide

end Sys2Proof.Machine
end

section
open Sys2Proof.Machine

/-- Refutes O29: its clause on AGATE_TREE_CREATE does not ask that no order has overtaken the command. In `overtakenState` the
command is superseded before its entry is programmed (R176), and its token returns to the bucket. -/
theorem not_agateCommands : ¬ Obligations.AgateCommands := by
  rintro ⟨hcreate, -⟩
  have hpages : newPages overtakenState (firstFrontier createJob) = some [0] := by decide
  obtain ⟨u, e, hexec, htaken, -⟩ := hcreate overtakenState _ createJob [0] overtakenState_runs rfl rfl (by decide) rfl hpages
  obtain ⟨u', hexec', hreturned⟩ := agateTreeCreate_overtaken_tokens overtakenState_runs rfl rfl (by decide) rfl hpages rfl rfl
  obtain rfl := Host.Outcome.next.inj (hexec.symm.trans hexec')
  exact absurd (htaken.symm.trans hreturned) (by decide)

end

section
/-! ### Draws of a command that is placed (R217, R244, R245): one from its own generator, then one from an internal one, which may
be the same. -/

namespace Sys2Proof.Machine

variable {s : State} {j : Job} {n m c len : Nat}

/-- A generator is instantiated and has served at most `c` requests since its last seed. -/
structure CanDraw (s : State) (n c : Nat) : Prop where
  inst : (s.drbgs.get {} n).inst = true
  served : (s.drbgs.get {} n).requests ≤ c

theorem draw_of_canDraw {cls0 : Bool} (h : CanDraw s n (2 ^ 19)) (hpos : 0 < len) (hlen : len ≤ 65536) :
    draw s n len cls0 = .ok (drbgBytes s n len) (drawn s n len) := by
  obtain ⟨hinst, hserved⟩ := h
  have hone : (len + 65535) / 65536 = 1 := by omega
  have hseed : ¬ (s.drbgs.get {} n).requests ≥ 2 ^ 20 := by omega
  have hfar : ¬ (s.drbgs.get {} n).requests + 1 ≥ 2 ^ 20 - 4096 := by omega
  simp only [draw, hinst, hone, requests, request, crossing_drbgs, hseed, hfar, Nat.min_eq_left hlen, drbgBytes, drawn,
    Bool.true_eq_false, false_and, if_false, List.nil_append]

theorem drbg_drawn_self : (drawn s n len).drbgs.get {} n =
    { s.drbgs.get {} n with requests := (s.drbgs.get {} n).requests + 1, kv := Config.drbgNext (s.drbgs.get {} n).kv len } :=
  NMap.get_put_self ..

theorem drbg_drawn_of_ne (h : m ≠ n) : (drawn s n len).drbgs.get {} m = s.drbgs.get {} m := by
  rw [drawn, setDrbg, NMap.get_put_of_ne _ _ _ h, crossing_drbgs]

theorem CanDraw.drawn (h : CanDraw s m c) : CanDraw (drawn s n len) m (c + 1) := by
  obtain ⟨hinst, hserved⟩ := h
  by_cases hm : m = n
  · subst hm
    exact ⟨by rw [drbg_drawn_self]; exact hinst, by rw [drbg_drawn_self]; exact Nat.succ_le_succ hserved⟩
  · exact ⟨by rw [drbg_drawn_of_ne hm, hinst], by rw [drbg_drawn_of_ne hm]; omega⟩

/-- The state after a draw of a command that may need no bytes. -/
def drawnIf (s : State) (n len : Nat) : State := if len = 0 then s else drawn s n len

theorem drawIf_of_canDraw {k : Bytes → State → State} (h : CanDraw s n (2 ^ 19)) (hlen : len ≤ 65536) :
    drawIf s j n len k = k (drbgBytes s n len) (drawnIf s n len) := by
  by_cases h0 : len = 0
  · subst h0
    rfl
  · simp only [drawIf, drawnIf, if_neg h0, withDraw, draw_of_canDraw h (Nat.pos_of_ne_zero h0) hlen]

theorem drawnIf_frame : ∃ d a w, drawnIf s n len = { s with drbgs := d, amber := a, moon := w } := by
  unfold drawnIf
  split
  · exact ⟨_, _, _, rfl⟩
  · exact drawn_frame

theorem CanDraw.drawnIf (h : CanDraw s m c) : CanDraw (drawnIf s n len) m (c + 1) := by
  unfold Machine.drawnIf
  split
  · exact ⟨h.inst, h.served.trans (Nat.le_succ c)⟩
  · exact h.drawn

end Sys2Proof.Machine
end

section
/-! ### An arith job takes its engine (R211, R216, R217) -/

namespace Sys2Proof.Machine

variable {s t u : State} {j k : Job} {n op rnd : Nat} {key : Nat × Nat} {seed rk : Bytes} {holds : List Nat}
  {req : ArithReq} {reads : List HostRef} {toVault : Bool}

/-- In `u` the engine `n` runs the operation `op` of the command `j`; the other engines and the slots are those of `s`. -/
structure JobPlaced (s u : State) (j : Job) (n op : Nat) : Prop where
  work : ∃ w, (u.aeng n).work = some w ∧ w.origin = j.origin ∧ w.operation = op
  keys : (u.aeng n).keys = keyOf j
  step : (u.aeng n).step = 1
  others : ∀ m, m ≠ n → u.aeng m = s.aeng m
  slots : u.slots = s.slots

/-- The state in which the engine has its slot table and its keys, and the placement is journalled. -/
def engineLoaded (s : State) (j : Job) (n op : Nat) (key : Nat × Nat) (rk : Bytes) : State :=
  let use := (operandUse s op key).1
  let s1 := (operandUse s op key).2
  crossing ((s1.setAeng n (startArith s1 (s1.aeng n) j op key use.1 use.2 rk)).tookFree 264) 0x09 0 n
    ((s.jobs.filter arithWaits).length + 1)

/-- The command whose job the engine runs. -/
def loadedCommand (s : State) (j : Job) (op : Nat) (key : Nat × Nat) (req : ArithReq) (seed : Bytes) (holds : List Nat) : Job :=
  { j with arith := some { req with slots := (operandUse s op key).1.1, words := (operandUse s op key).1.2 }
           keep := seed :: j.keep, holds := holds
           names := if op = 7 then j.names else j.names.filter fun e => !holds.contains e.1
           data := [], phase := .arith, afterReads := .arith }

theorem operandUse_frame : ∃ f, (operandUse s op key).2 = { s with freeIdx := f } := by
  unfold operandUse
  dsimp only
  split
  · exact ⟨_, rfl⟩
  · exact ⟨_, rfl⟩

theorem engineLoaded_frame : ∃ (t : State) (e : ArithEngine) (use : Nat × Nat) (f : Nat) (a : Amber) (w : Moonstone),
    engineLoaded s j n op key rk =
      { s.setAeng n (startArith t e j op key use.1 use.2 rk) with freeIdx := f, amber := a, moon := w } := by
  obtain ⟨f, huse⟩ := operandUse_frame (s := s) (op := op) (key := key)
  rw [engineLoaded, huse]
  obtain ⟨a, w, hcross⟩ := capture_frame
  exact ⟨_, _, _, _, a, w, hcross⟩

theorem jobPlaced_engineLoaded : JobPlaced s (engineLoaded s j n op key rk) j n op := by
  obtain ⟨t, e, use, f, a, w, hf⟩ := engineLoaded_frame (s := s) (j := j) (n := n) (op := op) (key := key) (rk := rk)
  have hself : (engineLoaded s j n op key rk).aeng n = startArith t e j op key use.1 use.2 rk := by
    rw [hf]
    exact aeng_setAeng_self ..
  refine ⟨⟨_, by rw [hself]; rfl, rfl, rfl⟩, by rw [hself]; rfl, by rw [hself]; rfl, fun m hm => ?_, by rw [hf]; rfl⟩
  rw [hf]
  exact aeng_setAeng_of_ne _ _ hm

theorem readsFewer_engineLoaded : ReadsFewer s (engineLoaded s j n op key rk) := by
  obtain ⟨t, e, use, f, a, w, hf⟩ := engineLoaded_frame (s := s) (j := j) (n := n) (op := op) (key := key) (rk := rk)
  rw [hf]
  exact readsFewer_of_eq ⟨rfl, rfl, rfl⟩ rfl rfl

theorem JobPlaced.of_eq (h : JobPlaced s t j n op) (harith : u.arith = t.arith) (hslots : u.slots = t.slots) :
    JobPlaced s u j n op := by
  obtain ⟨hwork, hkeys, hstep, hothers, hs⟩ := h
  simp only [← aeng_congr harith] at hwork hkeys hstep hothers
  exact ⟨hwork, hkeys, hstep, hothers, hslots.trans hs⟩

theorem JobPlaced.from_eq (h : JobPlaced t u k n op) (harith : t.arith = s.arith) (hslots : t.slots = s.slots)
    (ho : k.origin = j.origin) (hkey : keyOf k = keyOf j) : JobPlaced s u j n op := by
  obtain ⟨hwork, hkeys, hstep, hothers, hs⟩ := h
  exact ⟨ho ▸ hwork, hkeys.trans hkey, hstep, fun m hm => (hothers m hm).trans (aeng_congr harith m), hs.trans hslots⟩

theorem engineTakes_of_noReads (h : req.reads = []) : engineTakes s j n op key req seed rk holds =
    (engineLoaded s j n op key rk).setJob (loadedCommand s j op key req seed holds) := by
  cases req
  cases h
  rfl

theorem engineTakes_of_issued {r : HostRef} {rest : List HostRef} (h : req.reads = r :: rest)
    (hissued : issueReads (engineLoaded s j n op key rk) (loadedCommand s j op key req seed holds) (r :: rest) = some (t, k)) :
    engineTakes s j n op key req seed rk holds = t.setJob k := by
  cases req
  cases h
  unfold engineTakes
  dsimp only
  split
  next hi =>
    cases hi.symm.trans hissued
    rfl
  next hi => cases hi.symm.trans hissued

/-- An engine takes a job, and the first of its host reads, where it has one, is issued. -/
theorem engineTakes_places (hr : ∀ r ∈ req.reads.head?, ReadReady s j r) :
    JobPlaced s (engineTakes s j n op key req seed rk holds) j n op ∧
      ∀ r ∈ req.reads.head?, readMsg s (dmaBind s j r.port) r.addr r.len ∈ (engineTakes s j n op key req seed rk holds).out := by
  cases hreads : req.reads with
  | nil =>
    rw [engineTakes_of_noReads hreads]
    exact ⟨jobPlaced_engineLoaded.of_eq rfl rfl, by simp⟩
  | cons r rest =>
    have hfewer : ReadsFewer s (engineLoaded s j n op key rk) := readsFewer_engineLoaded
    obtain ⟨hready, hbind⟩ := (hr r (by simp [hreads])).of_fewer (k := loadedCommand s j op key req seed holds) hfewer
      rfl rfl rfl rfl
    rw [engineTakes_of_issued hreads (issueReads_of_ready hready), hbind, hfewer.dma.readMsg]
    exact ⟨jobPlaced_engineLoaded.of_eq rfl rfl, by simp⟩

/-! #### The placement (R216) -/

theorem freeEngine_inService (h : freeEngine s = some n) : n < 24 ∧ (s.aeng n).state = .inService := by
  unfold freeEngine at h
  split at h
  · cases h
  · have hfree := List.find?_some h
    simp only [Bool.and_eq_true, beq_iff_eq] at hfree
    obtain ⟨hserves, -⟩ := hfree
    exact ⟨List.mem_range.1 (List.mem_of_find?_eq_some h), hserves⟩

/-- An engine is free for an arith job, and the generators that it draws from serve it. -/
structure PlaceReady (s : State) (j : Job) (n : Nat) : Prop where
  engine : freeEngine s = some n
  share : mayPlace s j = true
  awake : s.mode ≠ .hush
  own : CanDraw s (drbgOf j) (2 ^ 19 - 1)
  internal : CanDraw s 4098 (2 ^ 19 - 1)

/-- The command as its engine takes it. -/
def placedCommand (j : Job) (op : Nat) (reads : List HostRef) : Job :=
  { j with arith := some (arithReq j op reads), stage := 50, phase := .started }

/-- The state in which the random input of a job and its return key are drawn. -/
def seedsDrawn (s : State) (j : Job) (rnd : Nat) (toVault : Bool) : State :=
  drawnIf (drawnIf (s.setJob j) (drbgOf j) rnd) 4098 (if toVault then 32 else 0)

theorem seedsDrawn_frame : ∃ d a w, seedsDrawn s j rnd toVault = { s.setJob j with drbgs := d, amber := a, moon := w } := by
  obtain ⟨d, a, w, h⟩ := drawnIf_frame (s := s.setJob j) (n := drbgOf j) (len := rnd)
  rw [seedsDrawn, h]
  exact drawnIf_frame

theorem readsFewer_seedsDrawn (hj : j.phase = .started) : ReadsFewer s (seedsDrawn s j rnd toVault) := by
  have hset : ReadsFewer s (s.setJob j) := ⟨⟨rfl, rfl, rfl⟩, openReads_setJob_le hj⟩
  obtain ⟨d, a, w, h⟩ := seedsDrawn_frame (s := s) (j := j) (rnd := rnd) (toVault := toVault)
  rw [h]
  exact hset.trans (readsFewer_of_eq ⟨rfl, rfl, rfl⟩ rfl rfl)

theorem placeArith_of_ready (h : PlaceReady s j n) (hrnd : rnd ≤ 65536) :
    ∃ seed rk, placeArith s j op key rnd toVault holds reads =
      engineTakes (seedsDrawn s (placedCommand j op reads) rnd toVault) (placedCommand j op reads) n op key
        (arithReq j op reads) seed rk holds := by
  obtain ⟨hn, hserves⟩ := freeEngine_inService h.engine
  have hany : ¬ anyArith s = false := by rw [anyArith_of_inService hn hserves]; decide
  have hgo : ¬ (mayPlace s j = false ∨ s.mode = .hush) := by simp [h.share, h.awake]
  have hown : CanDraw (s.setJob (placedCommand j op reads)) (drbgOf j) (2 ^ 19) := ⟨h.own.inst, h.own.served.trans (by decide)⟩
  have hinternal : CanDraw (s.setJob (placedCommand j op reads)) 4098 (2 ^ 19 - 1) := ⟨h.internal.inst, h.internal.served⟩
  have hrk : (if toVault then 32 else 0) ≤ 65536 := by split <;> decide
  refine ⟨drbgBytes (s.setJob (placedCommand j op reads)) (drbgOf j) rnd,
    drbgBytes (drawnIf (s.setJob (placedCommand j op reads)) (drbgOf j) rnd) 4098 (if toVault then 32 else 0), ?_⟩
  simp only [placeArith, if_neg hany, if_neg hgo, h.engine]
  exact (drawIf_of_canDraw hown hrnd).trans (drawIf_of_canDraw hinternal.drawnIf hrk)

/-- A command that waits to be placed takes the free engine, and the first of its host reads is issued. -/
theorem placeArith_places (h : PlaceReady s j n) (hrnd : rnd ≤ 65536) (hr : ∀ r ∈ reads.head?, ReadReady s j r) :
    JobPlaced s (placeArith s j op key rnd toVault holds reads) j n op ∧
      ∀ r ∈ reads.head?, readMsg s (dmaBind s j r.port) r.addr r.len ∈
        (placeArith s j op key rnd toVault holds reads).out := by
  obtain ⟨seed, rk, hplace⟩ := placeArith_of_ready (op := op) (key := key) (toVault := toVault) (holds := holds)
    (reads := reads) h hrnd
  have hfewer : ReadsFewer s (seedsDrawn s (placedCommand j op reads) rnd toVault) := readsFewer_seedsDrawn rfl
  have hready : ∀ r ∈ reads.head?, ReadReady (seedsDrawn s (placedCommand j op reads) rnd toVault) (placedCommand j op reads) r ∧
      dmaBind (seedsDrawn s (placedCommand j op reads) rnd toVault) (placedCommand j op reads) r.port = dmaBind s j r.port :=
    fun r hmem => (hr r hmem).of_fewer hfewer rfl rfl rfl rfl
  obtain ⟨hplaced, hsent⟩ := engineTakes_places (n := n) (op := op) (key := key) (seed := seed) (rk := rk) (holds := holds)
    (req := arithReq j op reads) fun r hmem => (hready r hmem).1
  obtain ⟨d, a, w, hframe⟩ := seedsDrawn_frame (s := s) (j := placedCommand j op reads) (rnd := rnd) (toVault := toVault)
  rw [hplace]
  refine ⟨hplaced.from_eq (by rw [hframe]; rfl) (by rw [hframe]; rfl) rfl rfl, fun r hmem => ?_⟩
  have hmsg := hsent r hmem
  rwa [(hready r hmem).2, hfewer.dma.readMsg] at hmsg

/-! #### The rows of the commands, at the stage where they wait for an engine -/

theorem signRandom_le (sc : Nat) : signRandom sc ≤ 74 := by
  unfold signRandom
  by_cases h : sc < 8
  · interval_cases sc <;> decide
  · rw [List.getD_eq_default _ _ (by simpa using h)]
    decide

theorem msgReads_eq_cons (sc flags : Nat) (r : HostRef) : ∃ rest, msgReads sc flags r = r :: rest := by
  unfold msgReads
  split
  · exact ⟨_, rfl⟩
  · exact ⟨_, rfl⟩

/-- What the row of an arith command that waits for an engine asks for: ENCAPS has its key, the others read their first buffer. -/
theorem exec_waiting {b : BindId} {code : Nat} {i : Instr} (h : Runs s (.mailbox b) code 50 j)
    (hi : i = .sign (.mailbox b) ∧ code = C.SIGN ∧ op = 1 ∨ i = .sigVerify (.mailbox b) ∧ code = C.SIG_VERIFY ∧ op = 2 ∨
     i = .deriveShared (.mailbox b) ∧ code = C.DERIVE_SHARED ∧ op = 4 ∨ i = .encaps (.mailbox b) ∧ code = C.ENCAPS ∧ op = 5 ∨
     i = .decaps (.mailbox b) ∧ code = C.DECAPS ∧ op = 6) :
    ∃ key rnd toVault holds reads,
      exec i s = .next (placeArith (freeSched s (.mailbox b)) j op key rnd toVault holds reads) ∧ rnd ≤ 65536 ∧
      (∀ r ∈ reads.head?, r = hostRef j.ops 16) ∧ (code ≠ C.ENCAPS → reads.head? = some (hostRef j.ops 16)) := by
  rcases hi with ⟨rfl, rfl, rfl⟩ | ⟨rfl, rfl, rfl⟩ | ⟨rfl, rfl, rfl⟩ | ⟨rfl, rfl, rfl⟩ | ⟨rfl, rfl, rfl⟩
  · obtain ⟨rest, hreads⟩ := msgReads_eq_cons (u8 j.ops 2) (u8 j.ops 3) (hostRef j.ops 16)
    refine ⟨_, _, _, _, _, congrArg Host.Outcome.next ((runCommand_runs h _).trans (if_pos h.stage)),
      (signRandom_le _).trans (by decide), ?_⟩
    simp [hreads]
  · obtain ⟨rest, hreads⟩ := msgReads_eq_cons (u8 j.ops 2) (u8 j.ops 3) (hostRef j.ops 16)
    refine ⟨_, _, _, _, _, congrArg Host.Outcome.next ((runCommand_runs h _).trans (if_pos h.stage)), by decide, ?_⟩
    simp [hreads]
  · exact ⟨_, _, _, _, _, congrArg Host.Outcome.next ((runCommand_runs h _).trans (if_pos h.stage)), by decide, by simp,
      fun _ => rfl⟩
  · exact ⟨_, _, _, _, _, congrArg Host.Outcome.next ((runCommand_runs h _).trans (if_pos h.stage)), by decide, by simp,
      fun hne => absurd rfl hne⟩
  · exact ⟨_, _, _, _, _, congrArg Host.Outcome.next ((runCommand_runs h _).trans (if_pos h.stage)), by decide, by simp,
      fun _ => rfl⟩

end Sys2Proof.Machine
end

section
/-! ### The end of an arith job (R213, R219, R220): a run without an error passes its check, and its engine is wiped and free. -/

namespace Sys2Proof.Machine

variable {s t : State} {o : Origin} {j : Job} {b : BindId} {n st : Nat} {r : HostRef} {bs res : Bytes} {e : ArithEnd}

/-- The state in which the outcome of a job's check is journalled. -/
def jobChecked (s : State) (j : Job) (n st : Nat) : State := crossing (arithOutcome s j n st) 0x05 0 12 1

theorem arbitrated_jobChecked : Arbitrated s (jobChecked s j n st) := arbitrated_capture.trans arbitrated_capture

theorem aeng_jobChecked (m : Nat) : (jobChecked s j n st).aeng m = s.aeng m := by
  obtain ⟨_, _, _, _, h⟩ := arbitrated_jobChecked (s := s) (j := j) (n := n) (st := st)
  rw [h]
  rfl

/-- A job that was not revoked, and neither reached a bound nor met a bad point, ends as its check says. -/
theorem arithJobDone_of_checked (hj : s.job? o = some j) (he : engineOf s o = some n) (hphase : j.phase = .arith)
    (hrevoked : j.revokedBy = none) (hbound : boundReached j = false) (hpoint : j.code = C.DERIVE_SHARED → sharedOk j = true) :
    let res := readResult (arithLane j) e.errs (arithOutput j)
    let good := invariantPasses j e.errs res
    let s1 := jobChecked s j n (if good then S.OK else S.E_INVARIANT)
    arithJobDone s o e =
      if good then arithLeaves s1 j n res e.wire
      else if j.code = C.KEY_PROVE then proveFail (goodArith (freeArith s1 n) n) j (u16 j.ops 0)
      else invariantFail s1 j n := by
  have hruns : ¬ j.phase ≠ .arith := not_not.2 hphase
  have hgoes : ¬ boundReached j = true := by simp [hbound]
  have hvalid : ¬ (j.code = C.DERIVE_SHARED ∧ sharedOk j = false) := by
    rintro ⟨hcode, hbad⟩
    rw [hpoint hcode] at hbad
    cases hbad
  dsimp only
  simp only [arithJobDone, hj, he, if_neg hruns, hrevoked, if_neg hgoes, if_neg hvalid]
  rfl

/-- The state in which a good result has left its engine. -/
def engineRested (s : State) (j : Job) (n : Nat) : State := goodArith (freeArith (jobChecked s j n S.OK) n) n

/-- An engine whose job has passed its check: wiped and free, the job counted. -/
def restedArith (e : ArithEngine) : ArithEngine :=
  { restArith e with goodJobs := if e.goodJobs < 1048576 then e.goodJobs + 1 else e.goodJobs }

theorem aeng_engineRested : (engineRested s j n).aeng n = restedArith (s.aeng n) := by
  rw [engineRested, goodArith, aeng_setAeng_self, freeArith, aeng_setAeng_self, aeng_jobChecked]
  rfl

theorem dmaAlike_setAeng {e : ArithEngine} : DmaAlike s (s.setAeng n e) := ⟨rfl, rfl, rfl⟩

theorem dmaAlike_engineRested : DmaAlike s (engineRested s j n) :=
  (arbitrated_jobChecked.dmaAlike.trans dmaAlike_setAeng).trans dmaAlike_setAeng

/-- Without an error in the operand memory the output of the operation is released; nothing of it is bound for the vault. -/
theorem arithJobDone_of_clean (hj : s.job? o = some j) (he : engineOf s o = some n) (hphase : j.phase = .arith)
    (hrevoked : j.revokedBy = none) (hbound : boundReached j = false) (hpoint : j.code = C.DERIVE_SHARED → sharedOk j = true)
    (hhost : vaultBound j (arithOutput j) = none) (wire : Bytes) :
    arithJobDone s o { wire := wire } = arithRelease (engineRested s j n) j (arithOutput j) [] := by
  have hread : readResult (arithLane j) [] (arithOutput j) = arithOutput j := if_pos rfl
  have hpass : invariantPasses j [] (arithOutput j) = true := rfl
  rw [arithJobDone_of_checked hj he hphase hrevoked hbound hpoint]
  simp only [hread, hpass, if_true, arithLeaves, hhost]
  rfl

/-! #### Releases to the host -/

theorem arithOk_status : (arithOk t j).1 = (arithOk s j).1 := by
  unfold arithOk
  split <;> rfl

theorem arithOk_arith : (arithOk s j).2.arith = s.arith := by
  unfold arithOk
  split
  · exact incRegField_arith ..
  · rfl

theorem dmaAlike_arithOk : DmaAlike s (arithOk s j).2 := by
  unfold arithOk
  split
  · exact ⟨incRegField_portA .., incRegField_portB .., incRegField_tenants ..⟩
  · exact ⟨rfl, rfl, rfl⟩

theorem agreeRelease_host {expKey appr : Bool} {secret stored : Bytes} :
    agreeRelease s j 0 expKey secret stored appr = endJob (arithOk s j).2 j (arithOk s j).1 secret appr := rfl

theorem u8_decisionWords (d : Bool) : (u8 (decisionWords d) 0 == 1) = d := by cases d <;> rfl

/-- A job of one of the commands that answer with their result and write no buffer: SIG_VERIFY, and DECAPS and DERIVE_SHARED of
OUT_KIND 0; `st` is its status and `res` its result. -/
def Answers (s : State) (j : Job) (st : Nat) (res : Bytes) : Prop :=
  j.code = C.SIG_VERIFY ∧ st = (if verifyDecision j then (arithOk s j).1 else S.E_SIG_INVALID) ∧ res = [] ∨
  j.code = C.DECAPS ∧ u8 j.ops 2 = 0 ∧ st = (arithOk s j).1 ∧ res = decapsKey j ∨
  j.code = C.DERIVE_SHARED ∧ u8 j.ops 2 = 0 ∧ sharedOk j = true ∧ st = (arithOk s j).1 ∧ res = sharedSecret j

namespace Answers

theorem sharedOk (h : Answers s j st res) : j.code = C.DERIVE_SHARED → sharedOk j = true := by
  intro hcode
  rcases h with ⟨h, -⟩ | ⟨h, -⟩ | ⟨-, -, hok, -⟩
  · exact absurd (h.symm.trans hcode) (by decide)
  · exact absurd (h.symm.trans hcode) (by decide)
  · exact hok

theorem boundReached (h : Answers s j st res) (hsign : signInputs j = none) : boundReached j = false := by
  have hcode : j.code ≠ C.KEY_GENERATE := by
    rcases h with ⟨h, -⟩ | ⟨h, -⟩ | ⟨h, -⟩ <;> rw [h] <;> decide
  simp [Machine.boundReached, signIts, hsign, hcode]

theorem vaultBound (h : Answers s j st res) (out : Bytes) : vaultBound j out = none := by
  rcases h with ⟨hcode, -⟩ | ⟨hcode, hkind, -⟩ | ⟨hcode, hkind, -⟩
  · simp [Machine.vaultBound, hcode, C.SIG_VERIFY, C.KEY_GENERATE, C.DERIVE_SHARED, C.ENCAPS, C.DECAPS]
  · simp [Machine.vaultBound, hcode, hkind, C.DECAPS, C.KEY_GENERATE]
  · simp [Machine.vaultBound, hcode, hkind, C.DERIVE_SHARED, C.KEY_GENERATE]

/-- The release of such a job ends its command. -/
theorem release (h : Answers s j st res) (hsign : signInputs j = none) (t : State) :
    ∃ appr, arithRelease t j (arithOutput j) [] = endJob (arithOk t j).2 j st res appr := by
  rcases h with ⟨hcode, rfl, rfl⟩ | ⟨hcode, hkind, rfl, rfl⟩ | ⟨hcode, hkind, -, rfl, rfl⟩
  · have hout : arithOutput j = decisionWords (verifyDecision j) := by
      simp [arithOutput, hsign, hcode, C.SIG_VERIFY, C.KEY_GENERATE, C.KEY_PROVE]
    have hrelease : arithRelease t j (arithOutput j) [] = verifyRelease t j (verifyDecision j) := by
      simp [arithRelease, hout, u8_decisionWords, hcode, C.SIG_VERIFY, C.KEY_GENERATE, C.KEY_PROVE, C.SIGN]
    exact ⟨true, by rw [hrelease, verifyRelease, arithOk_status (t := s) (s := t)]⟩
  · have hout : (arithOutput j).take 32 = decapsKey j := by
      simp [arithOutput, hsign, hcode, decapsKey, C.DECAPS, C.KEY_GENERATE, C.KEY_PROVE, C.SIG_VERIFY, C.DERIVE_SHARED, C.ENCAPS]
    have hrelease : arithRelease t j (arithOutput j) [] = agreeRelease t j 0 true (decapsKey j) [] true := by
      simp [arithRelease, hout, hcode, decapsRelease, hkind, C.DECAPS, C.KEY_GENERATE, C.KEY_PROVE, C.SIGN, C.SIG_VERIFY,
        C.DERIVE_SHARED, C.ENCAPS]
    exact ⟨true, by rw [hrelease, agreeRelease_host, arithOk_status (t := s) (s := t)]⟩
  · have hout : arithOutput j = sharedSecret j := by
      simp [arithOutput, hsign, hcode, C.KEY_GENERATE, C.KEY_PROVE, C.SIG_VERIFY, C.DERIVE_SHARED]
    have hrelease : arithRelease t j (arithOutput j) [] =
        agreeRelease t j 0 (listGet 0 j.args 3 == 1) (sharedSecret j) [] (listGet 0 j.args 1 == 6) := by
      simp [arithRelease, hout, hcode, sharedRelease, hkind, C.KEY_GENERATE, C.KEY_PROVE, C.SIGN, C.SIG_VERIFY, C.DERIVE_SHARED]
    exact ⟨listGet 0 j.args 1 == 6, by rw [hrelease, agreeRelease_host, arithOk_status (t := s) (s := t)]⟩

end Answers

/-- A job that answers with its result ends so, and its engine is wiped and free. -/
theorem arithJobDone_answers (hj : s.job? (.mailbox b) = some j) (he : engineOf s (.mailbox b) = some n)
    (hphase : j.phase = .arith) (hrevoked : j.revokedBy = none) (hp : Plain j) (hsign : signInputs j = none)
    (h : Answers s j st res) (wire : Bytes) :
    Ends (arithJobDone s (.mailbox b) { wire := wire }) b st res ∧
      (arithJobDone s (.mailbox b) { wire := wire }).aeng n = restedArith (s.aeng n) := by
  obtain ⟨appr, hrelease⟩ := h.release hsign (engineRested s j n)
  rw [arithJobDone_of_clean hj he hphase hrevoked (h.boundReached hsign) h.sharedOk (h.vaultBound _), hrelease]
  refine ⟨endJob_ends (origin_of_job? hj) hp .., ?_⟩
  rw [aeng_congr (endJob_arith ..), aeng_congr arithOk_arith, aeng_engineRested]

/-! #### SIGN -/

theorem signature_ne_nil {sc size : Nat} {pre : Bool} {priv ctx msg rnd : Bytes} :
    signature sc size pre priv ctx msg rnd ≠ [] := by
  have hlen : sigLen sc size ≠ 0 := by
    unfold sigLen
    repeat' split
    all_goals decide
  simpa [signature] using hlen

/-- A command that can write its buffer sends the write, whatever becomes of its end. -/
theorem writeAndEnd_sends {appr : Bool} (hbs : bs ≠ []) (hcan : canDma s (dmaBind s j r.port) = true) :
    writeMsg s (dmaBind s j r.port) r.addr bs true ∈ (writeAndEnd s j r bs st res appr).out := by
  simp only [writeAndEnd, hostWrite_of_canDma hbs hcan, Nat.add_zero]
  exact out_grows_endJob.subset (by simp)

theorem signRelease_sends {its : Nat} (hbs : bs ≠ []) (hcan : canDma s (dmaBind s j (hostRef j.ops 32).port) = true) :
    writeMsg s (dmaBind s j (hostRef j.ops 32).port) (hostRef j.ops 32).addr bs true ∈ (signRelease s j its bs).out := by
  have hok : DmaAlike s (arithOk s j).2 := dmaAlike_arithOk
  rw [← hok.writeMsg, ← hok.dmaBind]
  rw [← hok.canDma, ← hok.dmaBind] at hcan
  exact writeAndEnd_sends hbs hcan

/-- A SIGN below the bound of R222 writes its signature, and its engine is wiped and free. -/
theorem arithJobDone_signs {q : SignReq} (hj : s.job? o = some j) (he : engineOf s o = some n) (hphase : j.phase = .arith)
    (hrevoked : j.revokedBy = none) (hcode : j.code = C.SIGN) (hq : signInputs j = some q) (hits : signIts j ≤ 128)
    (hcan : canDma s (dmaBind s j (hostRef j.ops 32).port) = true) (wire : Bytes) :
    writeMsg s (dmaBind s j (hostRef j.ops 32).port) (hostRef j.ops 32).addr (signOut q (rndOf j)) true ∈
        (arithJobDone s o { wire := wire }).out ∧
      (arithJobDone s o { wire := wire }).aeng n = restedArith (s.aeng n) := by
  have hbound : boundReached j = false := by simp [boundReached, hits, hcode, C.SIGN, C.KEY_GENERATE]
  have hhost : ∀ out, vaultBound j out = none := by
    simp [vaultBound, hcode, C.SIGN, C.KEY_GENERATE, C.DERIVE_SHARED, C.ENCAPS, C.DECAPS]
  have hout : arithOutput j = signOut q (rndOf j) := by simp only [arithOutput, hq]
  have hrelease : arithRelease (engineRested s j n) j (arithOutput j) [] =
      signRelease (engineRested s j n) j (signIts j) (signOut q (rndOf j)) := by
    simp [arithRelease, hout, hcode, C.SIGN, C.KEY_GENERATE, C.KEY_PROVE]
  have hrest : DmaAlike s (engineRested s j n) := dmaAlike_engineRested
  rw [arithJobDone_of_clean hj he hphase hrevoked hbound (fun h => absurd (hcode.symm.trans h) (by decide)) (hhost _), hrelease]
  constructor
  · rw [← hrest.writeMsg, ← hrest.dmaBind]
    rw [← hrest.canDma, ← hrest.dmaBind] at hcan
    exact signRelease_sends signature_ne_nil hcan
  · have harith : (signRelease (engineRested s j n) j (signIts j) (signOut q (rndOf j))).arith = (engineRested s j n).arith :=
      (writeAndEnd_arith ..).trans arithOk_arith
    rw [aeng_congr harith, aeng_engineRested]

end Sys2Proof.Machine
end

section
/-! ### A failed invariant check (R228): what becomes of the engine while its command is ended. -/

namespace Sys2Proof.Machine

variable {s : State} {o : Origin} {j : Job} {b : BindId} {n st cause strikes : Nat}

/-- An engine without a job that has counted its strikes: at the second it is QUARANTINED. -/
structure Struck (e : ArithEngine) (strikes : Nat) : Prop where
  idle : e.work = none
  counted : e.invStrikes = strikes
  quarantined : 2 ≤ strikes → e.state = .quarantined

theorem aeng_stopTests : (stopTests s o).aeng n = s.aeng n ∨
    (stopTests s o).aeng n = { wiped (s.aeng n) with state := .quarantined } := by
  unfold stopTests
  split
  · exact .inl rfl
  next i _ =>
    dsimp only
    split
    · exact .inl rfl
    · split
      · by_cases hn : n = listGet 0 i.args 0
        · subst hn
          exact .inr (aeng_setAeng_self ..)
        · exact .inl (aeng_setAeng_of_ne _ _ hn)
      · split
        · exact .inl rfl
        · exact .inl rfl

theorem releaseJob_arith : (releaseJob s o).arith = (stopTests (freeSched s o) o).arith.mapVal {} (freeAeng o) := by
  simp [releaseJob]

theorem freeAeng_of_idle {e : ArithEngine} (h : e.work = none) : freeAeng o e = e := by simp [freeAeng, h]

/-- An idle engine with a strike keeps its strikes when a command that ends early releases what it holds. -/
theorem Struck.releaseJob (h : Struck (s.aeng n) (strikes + 1)) : Struck ((releaseJob s o).aeng n) (strikes + 1) := by
  have hstop : Struck ((stopTests (freeSched s o) o).aeng n) (strikes + 1) := by
    obtain ⟨hidle, hcounted, hquarantined⟩ := h
    rcases aeng_stopTests (s := freeSched s o) (o := o) (n := n) with he | he <;> rw [he]
    · exact ⟨hidle, hcounted, hquarantined⟩
    · exact ⟨hidle, hcounted, fun _ => rfl⟩
  have hkeeps := freeAeng_of_idle (o := o) hstop.idle
  have hlisted : (stopTests (freeSched s o) o).aeng n ≠ {} := by
    intro he
    have hzero := hstop.counted
    rw [he] at hzero
    cases hzero
  have hget : (Machine.releaseJob s o).aeng n = (stopTests (freeSched s o) o).aeng n := by
    rw [State.aeng, releaseJob_arith]
    refine (NMap.get_mapVal (freeAeng_of_idle rfl) ?_).trans hkeeps
    exact fun hd => hlisted (hkeeps.symm.trans hd)
  rwa [hget]

theorem Struck.dropWith (h : Struck (s.aeng n) (strikes + 1)) : Struck ((dropWith s j st).aeng n) (strikes + 1) := by
  have harith : (Machine.dropWith s j st).arith = (Machine.releaseJob s j.origin).arith := failJob_arith ..
  rw [aeng_congr harith]
  exact h.releaseJob

theorem aeng_quarantineArith : (quarantineArith s n cause).aeng n =
    { restArith (s.aeng n) with state := .quarantined, lastCause := cause } := by
  have harith : (quarantineArith s n cause).arith =
      (s.setAeng n { restArith (s.aeng n) with state := .quarantined, lastCause := cause }).arith := by
    unfold quarantineArith
    dsimp only
    split
    · exact (okJob_arith ..).trans (recordEvent_arith ..)
    · exact recordEvent_arith ..
  rw [aeng_congr harith, aeng_setAeng_self]

theorem struck_invariantFail : Struck ((invariantFail s j n).aeng n) ((s.aeng n).invStrikes + 1) := by
  have hcount : ∀ e : ArithEngine,
      (recordStatus ((s.setAeng n e).incRegField R.ARI_ERR_COUNT 63 48) S.E_INVARIANT j n).aeng n = e := by
    intro e
    rw [aeng_congr (recordStatus_arith ..), aeng_congr (incRegField_arith ..), aeng_setAeng_self]
  unfold invariantFail
  dsimp only
  refine Struck.dropWith ?_
  split
  · rw [aeng_quarantineArith, hcount]
    exact ⟨rfl, rfl, fun _ => rfl⟩
  next hfirst =>
    rw [hcount]
    exact ⟨rfl, rfl, fun hsecond => absurd hsecond hfirst⟩

theorem invariantFail_ends (ho : j.origin = .mailbox b) (hp : Plain j) : Ends (invariantFail s j n) b S.E_INVARIANT [] :=
  dropWith_ends ho hp

/-- The job of any command but KEY_PROVE whose check fails. -/
theorem arithJobDone_fails {e : ArithEnd} (hj : s.job? o = some j) (he : engineOf s o = some n) (hphase : j.phase = .arith)
    (hrevoked : j.revokedBy = none) (hcode : j.code ≠ C.KEY_PROVE) (hbound : boundReached j = false)
    (hpoint : j.code = C.DERIVE_SHARED → sharedOk j = true)
    (hfails : invariantPasses j e.errs (readResult (arithLane j) e.errs (arithOutput j)) = false) :
    arithJobDone s o e = invariantFail (jobChecked s j n S.E_INVARIANT) j n := by
  rw [arithJobDone_of_checked hj he hphase hrevoked hbound hpoint]
  simp only [hfails, Bool.false_eq_true, if_false, if_neg hcode]

end Sys2Proof.Machine
end

section
open Sys2Proof.Machine

/-- Settles O26, by the placement of a job that finds an engine free, the release of a job whose check passes, and the strikes
that a failed check leaves on its engine. -/
theorem arithJobsRun : Obligations.ArithJobsRun := by
  refine ⟨?_, ?_, ?_, ?_, ?_⟩
  · intro s b j n op code i h hi hfree hmay hmode hcan htag hinst hserved hinst' hserved'
    obtain ⟨key, rnd, toVault, holds, reads, hexec, hrnd, hread, hreads⟩ := exec_waiting h hi
    have hready : PlaceReady (freeSched s (.mailbox b)) j n :=
      ⟨hfree, hmay, hmode, ⟨hinst, Nat.le_pred_of_lt hserved⟩, ⟨hinst', Nat.le_pred_of_lt hserved'⟩⟩
    obtain ⟨hplaced, hsent⟩ := placeArith_places (op := op) (key := key) (toVault := toVault) (holds := holds) (reads := reads)
      hready hrnd fun r hmem => hread r hmem ▸ ⟨hcan, htag⟩
    obtain ⟨⟨w, hw, horigin, hop⟩, hkeys, hstep, hothers, hslots⟩ := hplaced
    exact ⟨_, w, hexec, hw, horigin.trans h.origin, hop, hkeys, hstep, fun hne => hsent _ (hreads hne), hothers, hslots⟩
  · intro s b j n st r res wire hj he hphase hrevoked hp hr hsign hcase
    have hnone : signInputs j = none := by simp [signInputs, hr, hsign]
    obtain ⟨hends, hrested⟩ := arithJobDone_answers hj he hphase hrevoked hp hnone hcase wire
    refine ⟨_, rfl, hends, ?_⟩
    rw [hrested]
    exact ⟨rfl, rfl, rfl, rfl, rfl, rfl, rfl⟩
  · intro s b j n q wire hj he hphase hrevoked hcode hq hits hcan
    obtain ⟨hsent, hrested⟩ := arithJobDone_signs hj he hphase hrevoked hcode hq hits hcan wire
    refine ⟨_, rfl, hsent, ?_⟩
    rw [hrested]
    exact ⟨rfl, rfl⟩
  · intro s b j n errs wire hj he hphase hrevoked hp hcode hbound hpoint hfails
    have hdone := arithJobDone_fails (e := { errs := errs, wire := wire }) hj he hphase hrevoked hcode hbound hpoint hfails
    have hstruck := struck_invariantFail (s := jobChecked s j n S.E_INVARIANT) (j := j) (n := n)
    rw [aeng_jobChecked] at hstruck
    obtain ⟨hidle, hcounted, hquarantined⟩ := hstruck
    exact ⟨_, congrArg Host.Outcome.next hdone, invariantFail_ends (origin_of_job? hj) hp, hidle, hcounted,
      fun hfirst => hquarantined (Nat.succ_le_succ hfirst)⟩
  · exact fun s n hn hgood => congrArg Host.Outcome.next (if_pos ⟨hn, hgood⟩)

end

section
/-! ### Fields of a register word: what a read gives after a write to the same and to another field (R4). -/

namespace Sys2Proof.Machine

variable {s : State} {a b w m l v m' l' i : Nat}

theorem testBit_field : (field w m l).testBit i = (decide (i < m + 1 - l) && w.testBit (i + l)) := by
  rw [field, Nat.testBit_mod_two_pow, Nat.testBit_div_two_pow]

/-- A word with a field replaced: the bits above the field, the field, the bits below it. -/
theorem withField_eq (h : l ≤ m) :
    withField w m l v = 2 ^ (m + 1) * (w / 2 ^ (m + 1)) + (2 ^ l * (v % 2 ^ (m + 1 - l)) + w % 2 ^ l) := by
  have hpow : 2 ^ (m + 1) = 2 ^ l * 2 ^ (m + 1 - l) := by rw [← Nat.pow_add, Nat.add_sub_of_le (Nat.le_succ_of_le h)]
  have hw : 2 ^ l * (w / 2 ^ l) + w % 2 ^ l = w := Nat.div_add_mod ..
  have hq : 2 ^ (m + 1) * (w / 2 ^ (m + 1)) + 2 ^ l * (w / 2 ^ l % 2 ^ (m + 1 - l)) = 2 ^ l * (w / 2 ^ l) := by
    rw [hpow, ← Nat.div_div_eq_div_mul, Nat.mul_assoc, ← Nat.mul_add, Nat.div_add_mod]
  rw [withField, field, place, Nat.mul_comm _ (2 ^ l), Nat.mul_comm _ (2 ^ l)]
  omega

theorem testBit_withField (h : l ≤ m) :
    (withField w m l v).testBit i = if l ≤ i ∧ i ≤ m then v.testBit (i - l) else w.testBit i := by
  have hlow : w % 2 ^ l < 2 ^ l := Nat.mod_lt _ (Nat.two_pow_pos l)
  have hfield : 2 ^ l * (v % 2 ^ (m + 1 - l)) + w % 2 ^ l < 2 ^ (m + 1) := by
    have hv : v % 2 ^ (m + 1 - l) + 1 ≤ 2 ^ (m + 1 - l) := Nat.mod_lt _ (Nat.two_pow_pos _)
    have hpow : 2 ^ l * 2 ^ (m + 1 - l) = 2 ^ (m + 1) := by rw [← Nat.pow_add, Nat.add_sub_of_le (Nat.le_succ_of_le h)]
    have := Nat.mul_le_mul_left (2 ^ l) hv
    rw [hpow, Nat.mul_add] at this
    omega
  rw [withField_eq h, Nat.testBit_two_pow_mul_add _ hfield, Nat.testBit_two_pow_mul_add _ hlow, Nat.testBit_mod_two_pow,
    Nat.testBit_mod_two_pow, Nat.testBit_div_two_pow]
  by_cases habove : i < m + 1
  · by_cases hbelow : i < l
    · simp [habove, hbelow]
    · have hin : l ≤ i ∧ i ≤ m := by omega
      have hwidth : i - l < m + 1 - l := by omega
      simp [habove, hbelow, hin, hwidth]
  · have hout : ¬ (l ≤ i ∧ i ≤ m) := by omega
    simp [habove, hout, Nat.sub_add_cancel (Nat.le_of_not_lt habove)]

/-- The word that a register stores has the same fields below bit 64. -/
theorem field_mod_two_pow (hm : m < 64) : field (w % 2 ^ 64) m l = field w m l := by
  refine Nat.eq_of_testBit_eq fun i => ?_
  rw [testBit_field, testBit_field, Nat.testBit_mod_two_pow]
  by_cases hi : i < m + 1 - l
  · simp [hi, show i + l < 64 by omega]
  · simp [hi]

theorem field_withField_self (h : l ≤ m) : field (withField w m l v) m l = v % 2 ^ (m + 1 - l) := by
  refine Nat.eq_of_testBit_eq fun i => ?_
  rw [testBit_field, testBit_withField h, Nat.testBit_mod_two_pow]
  by_cases hi : i < m + 1 - l
  · simp [hi, show i + l ≤ m by omega]
  · simp [hi]

theorem field_withField_of_disjoint (h : l ≤ m) (hd : m' < l ∨ m < l') : field (withField w m l v) m' l' = field w m' l' := by
  refine Nat.eq_of_testBit_eq fun i => ?_
  rw [testBit_field, testBit_field, testBit_withField h]
  by_cases hi : i < m' + 1 - l'
  · simp [show ¬ (l ≤ i + l' ∧ i + l' ≤ m) by omega]
  · simp [hi]

theorem regField_congr {t : State} (h : t.reg a = s.reg a) : t.regField a m l = s.regField a m l := by
  rw [State.regField, h, State.regField]

theorem regField_setRegField_self (h : l ≤ m) (hm : m < 64) :
    (s.setRegField a m l v).regField a m l = v % 2 ^ (m + 1 - l) := by
  rw [State.regField, State.setRegField, reg_setReg_self, field_mod_two_pow hm, field_withField_self h]

theorem regField_setRegField_of_disjoint (h : l ≤ m) (hd : m' < l ∨ m < l') (hm' : m' < 64) :
    (s.setRegField a m l v).regField a m' l' = s.regField a m' l' := by
  rw [State.regField, State.setRegField, reg_setReg_self, field_mod_two_pow hm', field_withField_of_disjoint h hd, State.regField]

theorem satInc_lt (n c : Nat) : satInc n c < 2 ^ n := by
  unfold satInc
  split
  · assumption
  · exact Nat.sub_lt (Nat.two_pow_pos n) Nat.one_pos

theorem regField_incRegField_self (h : l ≤ m) (hm : m < 64) :
    (s.incRegField a m l).regField a m l = satInc (m + 1 - l) (s.regField a m l) := by
  rw [State.incRegField, regField_setRegField_self h hm, Nat.mod_eq_of_lt (satInc_lt ..)]

theorem regField_incRegField_of_disjoint (h : l ≤ m) (hd : m' < l ∨ m < l') (hm' : m' < 64) :
    (s.incRegField a m l).regField a m' l' = s.regField a m' l' := regField_setRegField_of_disjoint h hd hm'

theorem reg_incRegField_of_ne (h : b ≠ a) : (s.incRegField a m l).reg b = s.reg b := reg_setReg_of_ne s _ h

end Sys2Proof.Machine
end

section
/-! ### Noise sources (R236, R237): the state that a start-up test or a failure gives a source, and the failures counted. -/

namespace Sys2Proof.Machine

variable {s t u : State} {n k test : Nat} {v : NoiseSource} {h : HealthTest} {bs raw : Bytes}

/-! #### The recorder -/

/-- The one register that the recorder counts in is EVR_DROP_COUNT. -/
theorem reg_recordEvent_of_ne {a c p0 p1 p2 : Nat} (ha : a ≠ R.EVR_DROP_COUNT) : (recordEvent s c p0 p1 p2).reg a = s.reg a := by
  have hinc : ∀ (t : State) m l, t.regs = s.regs → (t.incRegField R.EVR_DROP_COUNT m l).reg a = s.reg a := by
    intro t m l ht
    rw [reg_incRegField_of_ne ha, State.reg, ht, State.reg]
  unfold recordEvent takeEvent
  split
  · exact hinc _ _ _ rfl
  · unfold evrAdmit
    dsimp only
    split
    · exact hinc _ _ _ (by simp)
    · split
      · exact hinc _ _ _ (by simp)
      · split
        · exact hinc _ _ _ (by simp)
        · simp [State.reg]

/-! #### The state of a source -/

/-- Source `n` has the state `v` in `u`; the other sources, the queue, the generators and the slots are as in `s`. -/
structure SourceSet (s u : State) (n : Nat) (v : NoiseSource) : Prop where
  source : u.sources.get {} n = v
  others : ∀ m, m ≠ n → u.sources.get {} m = s.sources.get {} m
  entropy : u.entropy = s.entropy
  drbgs : u.drbgs = s.drbgs
  slots : u.slots = s.slots

/-- The first state may be replaced by one that agrees with it there. -/
theorem SourceSet.from_eq (hset : SourceSet t u n v) (hsources : t.sources = s.sources) (hentropy : t.entropy = s.entropy)
    (hdrbgs : t.drbgs = s.drbgs) (hslots : t.slots = s.slots) : SourceSet s u n v :=
  ⟨hset.source, fun m hm => (hset.others m hm).trans (by rw [hsources]), hset.entropy.trans hentropy,
    hset.drbgs.trans hdrbgs, hset.slots.trans hslots⟩

theorem noteEntropy_keeps {α : Type} (f : State → α) (hf : ∀ t c p0 p1 p2, f (recordEvent t c p0 p1 p2) = f t)
    {before : Nat} : f (noteEntropy before s) = f s := by
  unfold noteEntropy
  dsimp only
  split
  · rfl
  · exact hf ..

/-- Beside the table of the sources a new state of a source changes no more than its events do. -/
theorem setSource_keeps {α : Type} (f : State → α) (hf : ∀ t c p0 p1 p2, f (recordEvent t c p0 p1 p2) = f t) :
    f (setSource s n v test) = f { s with sources := s.sources.put {} n v } := (noteEntropy_keeps f hf).trans (hf ..)

@[simp] theorem setSource_sources : (setSource s n v test).sources = s.sources.put {} n v :=
  setSource_keeps (·.sources) recordEvent_sources

@[simp] theorem setSource_mode : (setSource s n v test).mode = s.mode := setSource_keeps (·.mode) recordEvent_mode

theorem sourceSet_setSource : SourceSet s (setSource s n v test) n v where
  source := by rw [setSource_sources, NMap.get_put_self]
  others m hm := by rw [setSource_sources, NMap.get_put_of_ne _ _ _ hm]
  entropy := setSource_keeps (·.entropy) recordEvent_entropy
  drbgs := setSource_keeps (·.drbgs) recordEvent_drbgs
  slots := setSource_keeps (·.slots) recordEvent_slots

theorem reg_setSource_of_ne {a : Nat} (ha : a ≠ R.EVR_DROP_COUNT) : (setSource s n v test).reg a = s.reg a :=
  setSource_keeps (·.reg a) fun _ _ _ _ _ => reg_recordEvent_of_ne ha

theorem entropyHalt_of_ne_startup (hmode : s.mode ≠ .startup) : entropyHalt s = s := by
  have hstart : starting s = false := by simp [starting, hmode]
  simp [entropyHalt, hstart]

/-! #### Tests that pass -/

/-- A source that has passed its start-up test. -/
def healthySource (v : NoiseSource) (h : HealthTest) : NoiseSource :=
  { v with state := .healthy, retestDue := false, testing := false, health := h }

theorem startupTest_passes (hstate : (s.sources.get {} n).state = .offline) (hbits : healthBits {} (bitsOf bs) = (h, none)) :
    startupTest s n bs = setSource s n (healthySource (s.sources.get {} n) h) 1 := by
  have hnew : ¬ (s.sources.get {} n).state = .healthy := by simp [hstate]
  simp only [startupTest, hbits, if_neg hnew]
  rfl

theorem startupTestDone_of_offline (hn : n < 8) (hstate : (s.sources.get {} n).state = .offline)
    (hdue : (s.sources.get {} n).retestDue = false) (hmode : s.mode ≠ .hush) (hlen : bs.length = 512) :
    startupTestDone s n bs = startupTest s n bs := by
  simp [startupTestDone, hn.not_ge, hstate, hdue, hmode, hlen]

theorem sourceRetest_of_due (hn : n < 8) (hstate : (s.sources.get {} n).state = .offline)
    (hdue : (s.sources.get {} n).retestDue = true) (hmode : s.mode ≠ .hush) (hlen : bs.length = 512) :
    sourceRetest s n bs = startupTest (timerTaken s 13) n bs := by
  simp [sourceRetest, hn.not_ge, hstate, hdue, hmode, hlen]

/-- An OFFLINE source whose start-up test passes is HEALTHY. -/
theorem exec_startupTest_passes (hn : n < 8) (hstate : (s.sources.get {} n).state = .offline)
    (hdue : (s.sources.get {} n).retestDue = false) (hstart : s.mode ≠ .startup) (hhush : s.mode ≠ .hush)
    (hlen : bs.length = 512) (hbits : healthBits {} (bitsOf bs) = (h, none)) :
    ∃ u, exec (.noiseStartupTestDone n bs) s = .next u ∧ SourceSet s u n (healthySource (s.sources.get {} n) h) := by
  have hdone : entropyHalt (startupTestDone s n bs) = setSource s n (healthySource (s.sources.get {} n) h) 1 := by
    rw [startupTestDone_of_offline hn hstate hdue hhush hlen, startupTest_passes hstate hbits]
    exact entropyHalt_of_ne_startup (by simpa using hstart)
  exact ⟨_, congrArg Host.Outcome.next hdone, sourceSet_setSource⟩

/-- So is one whose retest passes. -/
theorem exec_retest_passes (hn : n < 8) (hstate : (s.sources.get {} n).state = .offline)
    (hdue : (s.sources.get {} n).retestDue = true) (hhush : s.mode ≠ .hush) (hlen : bs.length = 512)
    (hbits : healthBits {} (bitsOf bs) = (h, none)) :
    ∃ u, exec (.noiseSourceRetest n bs) s = .next u ∧ SourceSet s u n (healthySource (s.sources.get {} n) h) := by
  have hdone : sourceRetest s n bs = setSource (timerTaken s 13) n (healthySource (s.sources.get {} n) h) 1 := by
    rw [sourceRetest_of_due hn hstate hdue hhush hlen, startupTest_passes (by simpa using hstate) hbits, timerTaken_sources]
  exact ⟨_, congrArg Host.Outcome.next hdone,
    sourceSet_setSource.from_eq (by simp) (by simp) (by simp) (by simp)⟩

/-! #### Tests that fail -/

/-- A source that has failed a test once more. -/
def failedSource (v : NoiseSource) : NoiseSource :=
  { state := if v.fails + 1 ≥ 3 then .retired else .offline, fails := v.fails + 1, retestDue := decide (v.fails + 1 < 3) }

/-- The failure of a test is counted: 2 is the repetition count, any other the adaptive proportion. -/
def failureCounted (s : State) (k : Nat) : State :=
  if k = 2 then s.incRegField R.RNG_HEALTH_COUNT 63 48 else s.incRegField R.RNG_HEALTH_COUNT 47 32

theorem sourceFails_eq : sourceFails s n test k = setSource (failureCounted s k) n (failedSource (s.sources.get {} n)) test := rfl

theorem sourceSet_failureCounted (hset : SourceSet (failureCounted s k) u n v) : SourceSet s u n v := by
  unfold failureCounted at hset
  split at hset
  · exact hset.from_eq (by simp) (by simp) (by simp) (by simp)
  · exact hset.from_eq (by simp) (by simp) (by simp) (by simp)

theorem sourceSet_sourceFails : SourceSet s (sourceFails s n test k) n (failedSource (s.sources.get {} n)) :=
  sourceSet_failureCounted sourceSet_setSource

@[simp] theorem sourceFails_mode : (sourceFails s n test k).mode = s.mode := by
  rw [sourceFails_eq, setSource_mode, failureCounted]
  split
  · exact incRegField_mode ..
  · exact incRegField_mode ..

theorem healthCount_sourceFails (m l : Nat) : (sourceFails s n test k).regField R.RNG_HEALTH_COUNT m l =
    (failureCounted s k).regField R.RNG_HEALTH_COUNT m l := regField_congr (reg_setSource_of_ne (by decide))

theorem rctFails_sourceFails (hk : k = 2) : (sourceFails s n test k).regField R.RNG_HEALTH_COUNT 63 48 =
    satInc 16 (s.regField R.RNG_HEALTH_COUNT 63 48) := by
  rw [healthCount_sourceFails, failureCounted, if_pos hk]
  exact regField_incRegField_self (by decide) (by decide)

theorem aptFails_sourceFails (hk : k ≠ 2) : (sourceFails s n test k).regField R.RNG_HEALTH_COUNT 47 32 =
    satInc 16 (s.regField R.RNG_HEALTH_COUNT 47 32) := by
  rw [healthCount_sourceFails, failureCounted, if_neg hk]
  exact regField_incRegField_self (by decide) (by decide)

/-- The failure of a source alone discards no block. -/
theorem discarded_sourceFails : (sourceFails s n test k).regField R.RNG_HEALTH_COUNT 15 0 =
    s.regField R.RNG_HEALTH_COUNT 15 0 := by
  rw [healthCount_sourceFails, failureCounted]
  split
  · exact regField_incRegField_of_disjoint (by decide) (by decide) (by decide)
  · exact regField_incRegField_of_disjoint (by decide) (by decide) (by decide)

theorem startupTestDone_fails (hn : n < 8) (hstate : (s.sources.get {} n).state = .offline)
    (hdue : (s.sources.get {} n).retestDue = false) (hhush : s.mode ≠ .hush) (hlen : bs.length = 512)
    (hbits : healthBits {} (bitsOf bs) = (h, some k)) : startupTestDone s n bs = sourceFails s n 1 k := by
  rw [startupTestDone_of_offline hn hstate hdue hhush hlen]
  simp only [startupTest, hbits]

/-- The state in which the failure of a source in operation finds the conditioner: a block that it was filling is discarded. -/
def blockDropped (s : State) : State := if s.filling then discardBlock s else s

theorem sourceFail_fails (hn : n < 8) (hstate : (s.sources.get {} n).state = .healthy) (hhush : s.mode ≠ .hush)
    (hdorm : s.mode ≠ .dormant) (hbits : healthBits (s.sources.get {} n).health (bitsOf bs) = (h, some k)) :
    sourceFail s n bs = sourceFails (blockDropped s) n k k := by
  have htaken : ¬ (n ≥ 8 ∨ (s.sources.get {} n).state ≠ .healthy ∨ s.mode = .hush ∨ s.mode = .dormant) := by
    simp [hn.not_ge, hstate, hhush, hdorm]
  simp only [sourceFail, if_neg htaken, hbits]
  rfl

/-- A discarded block changes DISCARDED_BLOCKS alone. -/
theorem blockDropped_frame : ∃ g, blockDropped s = { s with regs := g } := by
  unfold blockDropped
  split
  · exact ⟨_, rfl⟩
  · exact ⟨_, rfl⟩

theorem sourceSet_blockDropped (hset : SourceSet (blockDropped s) u n v) : SourceSet s u n v := by
  obtain ⟨g, hdrop⟩ := blockDropped_frame (s := s)
  rw [hdrop] at hset
  exact hset.from_eq rfl rfl rfl rfl

@[simp] theorem blockDropped_sources : (blockDropped s).sources = s.sources := by
  obtain ⟨g, hdrop⟩ := blockDropped_frame (s := s)
  rw [hdrop]

@[simp] theorem blockDropped_mode : (blockDropped s).mode = s.mode := by
  obtain ⟨g, hdrop⟩ := blockDropped_frame (s := s)
  rw [hdrop]

/-- DISCARDED_BLOCKS lies below the counts of the failures. -/
theorem healthCount_blockDropped {m l : Nat} (hl : 15 < l) (hm : m < 64) :
    (blockDropped s).regField R.RNG_HEALTH_COUNT m l = s.regField R.RNG_HEALTH_COUNT m l := by
  unfold blockDropped
  split
  · exact regField_incRegField_of_disjoint (by decide) (.inr hl) hm
  · rfl

theorem discarded_blockDropped (hfill : s.filling = true) : (blockDropped s).regField R.RNG_HEALTH_COUNT 15 0 =
    satInc 16 (s.regField R.RNG_HEALTH_COUNT 15 0) := by
  rw [blockDropped, if_pos hfill]
  exact regField_incRegField_self (by decide) (by decide)

/-- What the failure of a test leaves: the source's new state, and the failure counted by its test. -/
structure SourceFailed (s u : State) (n k : Nat) : Prop where
  set : SourceSet s u n (failedSource (s.sources.get {} n))
  rct : k = 2 → u.regField R.RNG_HEALTH_COUNT 63 48 = satInc 16 (s.regField R.RNG_HEALTH_COUNT 63 48)
  apt : k ≠ 2 → u.regField R.RNG_HEALTH_COUNT 47 32 = satInc 16 (s.regField R.RNG_HEALTH_COUNT 47 32)

/-- A start-up test that fails. -/
theorem exec_startupTest_fails (hn : n < 8) (hstate : (s.sources.get {} n).state = .offline)
    (hdue : (s.sources.get {} n).retestDue = false) (hstart : s.mode ≠ .startup) (hhush : s.mode ≠ .hush)
    (hlen : bs.length = 512) (hbits : healthBits {} (bitsOf bs) = (h, some k)) :
    ∃ u, exec (.noiseStartupTestDone n bs) s = .next u ∧ SourceFailed s u n k := by
  have hdone : entropyHalt (startupTestDone s n bs) = sourceFails s n 1 k := by
    rw [startupTestDone_fails hn hstate hdue hhush hlen hbits]
    exact entropyHalt_of_ne_startup (by simpa using hstart)
  exact ⟨_, congrArg Host.Outcome.next hdone, sourceSet_sourceFails, rctFails_sourceFails, aptFails_sourceFails⟩

/-- A HEALTHY source that fails in operation takes the block being filled with it. -/
theorem exec_sourceFail_fails (hn : n < 8) (hstate : (s.sources.get {} n).state = .healthy) (hstart : s.mode ≠ .startup)
    (hhush : s.mode ≠ .hush) (hdorm : s.mode ≠ .dormant)
    (hbits : healthBits (s.sources.get {} n).health (bitsOf bs) = (h, some k)) :
    ∃ u, exec (.noiseSourceFail n bs) s = .next u ∧ SourceFailed s u n k ∧
      (s.filling = true →
        u.regField R.RNG_HEALTH_COUNT 15 0 = satInc 16 (s.regField R.RNG_HEALTH_COUNT 15 0)) := by
  have hdone : entropyHalt (sourceFail s n bs) = sourceFails (blockDropped s) n k k := by
    rw [sourceFail_fails hn hstate hhush hdorm hbits]
    exact entropyHalt_of_ne_startup (by simpa using hstart)
  have hset := sourceSet_blockDropped (sourceSet_sourceFails (s := blockDropped s) (n := n) (test := k) (k := k))
  rw [blockDropped_sources] at hset
  refine ⟨_, congrArg Host.Outcome.next hdone, ⟨hset, fun hk => ?_, fun hk => ?_⟩, fun hfill => ?_⟩
  · rw [rctFails_sourceFails hk, healthCount_blockDropped (by decide) (by decide)]
  · rw [aptFails_sourceFails hk, healthCount_blockDropped (by decide) (by decide)]
  · rw [discarded_sourceFails, discarded_blockDropped hfill]

end Sys2Proof.Machine
end

section
/-! ### The conditioner (R239, R240) and the test registers (R250, R251) -/

namespace Sys2Proof.Machine

variable {s : State} {v x : Nat} {raw : Bytes} {srcs : NMap NoiseSource}

theorem startResume_of_ne_startup (hmode : s.mode ≠ .startup) : startResume s = s := by
  have hstart : starting s = false := by simp [starting, hmode]
  simp [startResume, hstart]

theorem serveWanted_of_none (h : ∀ e ∈ s.drbgs, e.2.wanted = false) : serveWanted s = s := by
  have hfind : s.drbgs.find? (fun e => e.2.wanted) = none := List.find?_eq_none.2 fun e he => by simp [h e he]
  simp only [serveWanted, hfind]

/-- Outside STARTUP, with no generator that waits for a block, the conditioner's row is the block alone. -/
theorem exec_conditionerBlock {u : State} (hblock : conditionerBlock s raw = u) (hmode : u.mode ≠ .startup)
    (h : ∀ e ∈ u.drbgs, e.2.wanted = false) : exec (.conditionerBlock raw) s = .next u := by
  refine congrArg Host.Outcome.next (?_ : serveWanted (startResume (conditionerBlock s raw)) = u)
  rw [hblock, startResume_of_ne_startup hmode, serveWanted_of_none h]

theorem conditionerBlock_of_stopped (hmode : s.mode = .dormant ∨ s.mode = .hush) : conditionerBlock s raw = s :=
  if_pos (.inr (.inr (hmode.imp_right .inl)))

/-- 1,024 raw bits that pass the tests make one block. -/
theorem conditionerBlock_pushes (hstate : entropyState s ≠ 2) (hfill : s.filling = true) (hdorm : s.mode ≠ .dormant)
    (hhush : s.mode ≠ .hush) (hlen : raw.length = 128) (hmode : rngMode s = 0)
    (htests : testInput s (bitsOf raw) = (srcs, [])) :
    conditionerBlock s raw = pushBlock { s with sources := srcs } (sha384 raw) := by
  have hruns : ¬ (entropyState s = 2 ∨ s.filling = false ∨ s.mode = .dormant ∨ s.mode = .hush ∨ raw.length ≠ 128) := by
    simp [hstate, hfill, hdorm, hhush, hlen]
  have hnormal : ¬ rngMode s = 1 ∧ ¬ rngMode s = 2 := by simp [hmode]
  obtain ⟨hlfsr, hpattern⟩ := hnormal
  simp only [conditionerBlock, if_neg hruns, if_neg hlfsr, if_neg hpattern, htests, if_true]

/-! #### RNG_TEST -/

theorem rngTestWrite_of_not_factory (h : s.lcs.state ≠ 1) : rngTestWrite s v = s := if_pos h

/-- The state in which MODE and SRC of RNG_TEST hold what was written. -/
def testLoaded (s : State) (v : Nat) : State := (s.setRegField R.RNG_TEST 1 0 (v % 4)).setRegField R.RNG_TEST 6 4 (v / 16 % 8)

theorem mode_testLoaded : (testLoaded s v).regField R.RNG_TEST 1 0 = v % 4 := by
  rw [testLoaded, regField_setRegField_of_disjoint (by decide) (by decide) (by decide),
    regField_setRegField_self (by decide) (by decide)]
  exact Nat.mod_mod ..

theorem src_testLoaded : (testLoaded s v).regField R.RNG_TEST 6 4 = v / 16 % 8 := by
  rw [testLoaded, regField_setRegField_self (by decide) (by decide)]
  exact Nat.mod_mod ..

theorem rngTestWrite_of_same_mode (h : s.lcs.state = 1) (hmode : v % 4 = s.regField R.RNG_TEST 1 0) :
    rngTestWrite s v = testLoaded s v := (if_neg (not_not.2 h)).trans (if_pos hmode)

theorem rngTestWrite_of_new_mode (h : s.lcs.state = 1) (hmode : v % 4 ≠ s.regField R.RNG_TEST 1 0) :
    rngTestWrite s v = rngModeChanged (testLoaded s v) := (if_neg (not_not.2 h)).trans (if_neg hmode)

@[simp] theorem testLoaded_sources : (testLoaded s v).sources = s.sources := by simp [testLoaded]
@[simp] theorem testLoaded_slots : (testLoaded s v).slots = s.slots := by simp [testLoaded]
@[simp] theorem testLoaded_entropy : (testLoaded s v).entropy = s.entropy := by simp [testLoaded]
@[simp] theorem testLoaded_drbgs : (testLoaded s v).drbgs = s.drbgs := by simp [testLoaded]

@[simp] theorem rngModeChanged_sources : (rngModeChanged s).sources = s.sources := rfl
@[simp] theorem rngModeChanged_slots : (rngModeChanged s).slots = s.slots := rfl

theorem regField_rngModeChanged {a m l : Nat} : (rngModeChanged s).regField a m l = s.regField a m l := rfl

theorem not_inst_of_rngModeChanged : ∀ e ∈ (rngModeChanged s).drbgs, e.2.inst = false := by
  intro e he
  obtain ⟨_, -, rfl⟩ := List.mem_map.1 he
  rfl

/-! #### RNG_RAW -/

theorem rngRawRead_of_locked (h : 1 < s.lcs.state) : rngRawRead s x = s.send (.readData 0) := if_neg (Nat.not_le.2 h)

theorem rngRawRead_of_sources (h : s.lcs.state ≤ 1) (hmode : rngMode s ≠ 1) :
    rngRawRead s x = s.send (.readData (x % 2 ^ 64)) := (if_pos h).trans (if_neg hmode)

theorem rngRawRead_of_lfsr (h : s.lcs.state = 1) (hmode : rngMode s = 1) :
    rngRawRead s x = { s with lfsr := (lfsrBits 64 s.lfsr).2 }.send
      (.readData (leNat (packBits 8 (lfsrBits 64 s.lfsr).1))) := (if_pos h.le).trans (if_pos hmode)

end Sys2Proof.Machine
end

section
open Sys2Proof.Machine

/-- Settles O32, by what a passed and a failed test make of a source, by the block that the conditioner adds, and by the fields
that a write to RNG_TEST loads. -/
theorem entropySources : Obligations.EntropySources := by
  refine ⟨?_, ?_, ?_, ?_, ?_, ?_, ?_, ?_, ?_, ?_⟩
  · rintro s n bs h i (⟨rfl, hstart, hdue⟩ | ⟨rfl, hdue⟩) hhush hn hstate hlen hbits
    · obtain ⟨u, hexec, hset⟩ := exec_startupTest_passes hn hstate hdue hstart hhush hlen hbits
      exact ⟨u, hexec, hset.source, hset.others, hset.entropy, hset.drbgs, hset.slots⟩
    · obtain ⟨u, hexec, hset⟩ := exec_retest_passes hn hstate hdue hhush hlen hbits
      exact ⟨u, hexec, hset.source, hset.others, hset.entropy, hset.drbgs, hset.slots⟩
  · rintro s n k bs h i hstart hhush hdorm (⟨rfl, hstate, hbits⟩ | ⟨rfl, hstate, hdue, hlen, hbits⟩) hn
    · obtain ⟨u, hexec, ⟨hset, hrct, hapt⟩, hdropped⟩ := exec_sourceFail_fails hn hstate hstart hhush hdorm hbits
      exact ⟨u, hexec, hset.source, hset.others, hrct, hapt, fun _ => hdropped, hset.entropy, hset.drbgs, hset.slots⟩
    · obtain ⟨u, hexec, hset, hrct, hapt⟩ := exec_startupTest_fails hn hstate hdue hstart hhush hlen hbits
      exact ⟨u, hexec, hset.source, hset.others, hrct, hapt, fun hi => (by cases hi), hset.entropy, hset.drbgs, hset.slots⟩
  · intro s raw srcs hstate hfill hmode hlen hrng hwanted htests
    have hblock := conditionerBlock_pushes hstate hfill (by simp [hmode]) (by simp [hmode]) hlen hrng htests
    exact exec_conditionerBlock hblock (by simp [hmode]) hwanted
  · intro s raw hmode hwanted
    refine exec_conditionerBlock (conditionerBlock_of_stopped hmode) ?_ hwanted
    rcases hmode with hmode | hmode <;> simp [hmode]
  · exact fun s v hstate => congrArg Host.Outcome.next (rngTestWrite_of_not_factory hstate)
  · intro s v hstate hmode
    refine ⟨_, congrArg Host.Outcome.next (rngTestWrite_of_new_mode hstate hmode), ?_, rfl, rfl, rfl,
      not_inst_of_rngModeChanged, by simp, by simp⟩
    rw [regField_rngModeChanged, mode_testLoaded]
  · exact fun s v hstate hmode => ⟨_, congrArg Host.Outcome.next (rngTestWrite_of_same_mode hstate hmode), mode_testLoaded,
      src_testLoaded, testLoaded_entropy, testLoaded_drbgs⟩
  · exact fun s x hstate => congrArg Host.Outcome.next (rngRawRead_of_locked hstate)
  · exact fun s x hstate hmode => congrArg Host.Outcome.next (rngRawRead_of_sources hstate hmode)
  · exact fun s x hstate hmode => congrArg Host.Outcome.next (rngRawRead_of_lfsr hstate hmode)

end

section
/-! ### Draws of any length (R245, R246): what a generator's requests leave, and what they give. -/

namespace Sys2Proof.Machine

variable {s t u : State} {n k i len : Nat} {cls0 : Bool} {acc : Bytes}

/-- Between `s` and `t` generator `n` has served `k` requests since the same seed; no other generator has, and nothing else
differs but the journal. -/
structure Served (s t : State) (n k : Nat) : Prop where
  frame : ∃ d a w, t = { s with drbgs := d, amber := a, moon := w }
  requests : (t.drbgs.get {} n).requests = (s.drbgs.get {} n).requests + k
  reseeds : (t.drbgs.get {} n).reseeds = (s.drbgs.get {} n).reseeds
  others : ∀ m, m ≠ n → t.drbgs.get {} m = s.drbgs.get {} m

namespace Served

protected theorem refl : Served s s n 0 := ⟨⟨_, _, _, rfl⟩, rfl, rfl, fun _ _ => rfl⟩

protected theorem trans (h : Served s t n k) (h' : Served t u n i) : Served s u n (k + i) := by
  obtain ⟨⟨_, _, _, rfl⟩, hreq, hseeds, hothers⟩ := h
  obtain ⟨⟨d, a, w, rfl⟩, hreq', hseeds', hothers'⟩ := h'
  exact ⟨⟨d, a, w, rfl⟩, by rw [hreq', hreq, Nat.add_assoc], hseeds'.trans hseeds,
    fun m hm => (hothers' m hm).trans (hothers m hm)⟩

theorem dmaAlike (h : Served s t n k) : DmaAlike s t := by
  obtain ⟨⟨_, _, _, rfl⟩, -⟩ := h
  exact ⟨rfl, rfl, rfl⟩

theorem entropy (h : Served s t n k) : t.entropy = s.entropy := by
  obtain ⟨⟨_, _, _, rfl⟩, -⟩ := h
  rfl

theorem slots (h : Served s t n k) : t.slots = s.slots := by
  obtain ⟨⟨_, _, _, rfl⟩, -⟩ := h
  rfl

end Served

theorem served_crossing {mp x y z : Nat} : Served s (crossing s mp x y z) n 0 := by
  obtain ⟨a, w, h⟩ : ∃ a w, crossing s mp x y z = { s with amber := a, moon := w } := capture_frame
  rw [h]
  exact ⟨⟨_, a, w, rfl⟩, rfl, rfl, fun _ _ => rfl⟩

/-- The state after one request of a generator that needs no reseed. -/
def requestServed (s : State) (n len : Nat) : State :=
  setDrbg s n
    { s.drbgs.get {} n with requests := (s.drbgs.get {} n).requests + 1, kv := Config.drbgNext (s.drbgs.get {} n).kv len }

theorem served_requestServed : Served s (requestServed s n len) n 1 where
  frame := ⟨_, _, _, rfl⟩
  requests := by simp [requestServed, setDrbg]
  reseeds := by simp [requestServed, setDrbg]
  others _ hm := NMap.get_put_of_ne _ _ _ hm

/-- Far from the bound of its counter a generator serves a request without a reseed. -/
theorem request_of_far (h : (s.drbgs.get {} n).requests + 1 < 2 ^ 20 - 4096) :
    request s n len = (drbgBytes s n len, requestServed s n len) := by
  have hfar : ¬ ((s.drbgs.get {} n).requests + 1 ≥ 2 ^ 20 - 4096) := Nat.not_le.2 h
  simp only [request, hfar, false_and, if_false, drbgBytes, requestServed]

/-- So it serves a draw in requests of 65,536 bytes at most. -/
theorem requests_of_far (h : (s.drbgs.get {} n).requests + k < 2 ^ 20 - 4096) :
    ∃ bs t, requests n cls0 k len s acc = .ok bs t ∧ bs.length = acc.length + min len (65536 * k) ∧ Served s t n k := by
  induction k generalizing s len acc with
  | zero => exact ⟨acc, s, rfl, by simp, .refl⟩
  | succ k ih =>
    have hone := served_requestServed (s := s) (n := n) (len := min len 65536)
    have hmandatory : ¬ (s.drbgs.get {} n).requests ≥ 2 ^ 20 := by omega
    obtain ⟨bs, t, hrest, hlen, hserved⟩ := ih (s := requestServed s n (min len 65536)) (len := len - min len 65536)
      (acc := acc ++ drbgBytes s n (min len 65536)) (by rw [hone.requests]; omega)
    refine ⟨bs, t, ?_, ?_, by simpa only [Nat.add_comm 1 k] using hone.trans hserved⟩
    · rw [requests, if_neg hmandatory, request_of_far (by omega)]
      exact hrest
    · rw [hlen, List.length_append, drbgBytes, List.length_map, List.length_range]
      omega

/-- A draw of an instantiated generator with requests left gives the bytes asked for. -/
theorem draw_serves (h : CanDraw s n (2 ^ 19)) (hlen : len ≤ 1048576) :
    ∃ bs t, draw s n len cls0 = .ok bs t ∧ bs.length = len ∧ Served s t n ((len + 65535) / 65536) := by
  obtain ⟨hinst, hserved⟩ := h
  have hcross := served_crossing (s := s) (n := n) (mp := 0x07) (x := 0) (y := n) (z := 1)
  obtain ⟨bs, t, hdraw, hbytes, hrequests⟩ := requests_of_far (s := crossing s 0x07 0 n 1) (n := n) (cls0 := cls0) (len := len)
    (k := (len + 65535) / 65536) (acc := []) (by rw [hcross.requests]; omega)
  refine ⟨bs, t, ?_, ?_, by simpa only [Nat.zero_add] using hcross.trans hrequests⟩
  · rw [draw, if_neg (by rw [hinst]; decide), hdraw]
  · rw [hbytes, List.length_nil, Nat.zero_add]
    omega

end Sys2Proof.Machine
end

section
/-! ### RNG_GENERATE (R245, R248): the bytes of its generator in OUT, a reseed that it asks for, and a draw that starves. -/

namespace Sys2Proof.Machine

variable {s : State} {o : Origin} {b : BindId} {j : Job} {n a st : Nat} {bs res : Bytes} {appr : Bool}

theorem firstFail_cons_eq_none {c : Option Nat} {l : List (Option Nat)} :
    firstFail (c :: l) = none ↔ c = none ∧ firstFail l = none := by
  cases c with
  | none => simp [firstFail]
  | some st => simp [firstFail]

theorem failIf_eq_none {c : Bool} : failIf c st = none ↔ c = false := by cases c <;> simp [failIf]

/-- A command that passes its checks asks for a number of bytes that it may ask for. -/
theorem rngGenerate_len (h : rngGenerateCheck s j = none) : 0 < u32 j.ops 0 ∧ u32 j.ops 0 ≤ 1048576 := by
  obtain ⟨hops, -⟩ := firstFail_cons_eq_none.1 h
  simp only [failIf_eq_none, Bool.or_eq_false_iff, beq_eq_false_iff_ne, decide_eq_false_iff_not] at hops
  obtain ⟨⟨-, hpos⟩, hmax⟩ := hops
  exact ⟨Nat.pos_of_ne_zero hpos, Nat.le_of_not_lt hmax⟩

/-- The result of RNG_GENERATE. -/
def generateResult (s : State) (j : Job) : Bytes :=
  leBytes 4 (u32 j.ops 0) ++ leBytes 4 (s.drbgs.get {} (drbgOf j)).reseeds

/-- `u` is the end of an RNG_GENERATE that draws `bs` from its generator as it is in `s`. -/
structure Generated (s u : State) (b : BindId) (j : Job) (bs : Bytes) : Prop where
  length : bs.length = u32 j.ops 0
  ends : (hostRef j.ops 16).port = 0 → Ends u b S.OK (generateResult s j)
  sent : writeMsg s (dmaBind s j (hostRef j.ops 16).port) (hostRef j.ops 16).addr bs true ∈ u.out
  requests : (u.drbgs.get {} (drbgOf j)).requests = (s.drbgs.get {} (drbgOf j)).requests + (u32 j.ops 0 + 65535) / 65536
  reseeds : (u.drbgs.get {} (drbgOf j)).reseeds = (s.drbgs.get {} (drbgOf j)).reseeds
  single : u32 j.ops 0 ≤ 65536 → bs = drbgBytes s (drbgOf j) (u32 j.ops 0) ∧
    (u.drbgs.get {} (drbgOf j)).kv = Config.drbgNext (s.drbgs.get {} (drbgOf j)).kv (u32 j.ops 0)
  others : ∀ m, m ≠ drbgOf j → u.drbgs.get {} m = s.drbgs.get {} m
  entropy : u.entropy = s.entropy
  slots : u.slots = s.slots

/-- The draw of RNG_GENERATE, from a generator with requests left, into a buffer that can be written. -/
theorem rngGenerateDraw_generates (ho : j.origin = .mailbox b) (hp : Plain j) (hpos : 0 < u32 j.ops 0)
    (hmax : u32 j.ops 0 ≤ 1048576) (hready : CanDraw s (drbgOf j) (2 ^ 19))
    (hcan : canDma s (dmaBind s j (hostRef j.ops 16).port) = true) : ∃ bs, Generated s (rngGenerateDraw j s) b j bs := by
  obtain ⟨bs, t, hdraw, hlen, hserved⟩ := draw_serves (cls0 := j.cls == 0) hready hmax
  have hne : bs ≠ [] := List.ne_nil_of_length_pos (hlen ▸ hpos)
  have hres : leBytes 4 (u32 j.ops 0) ++ leBytes 4 (t.drbgs.get {} (drbgOf j)).reseeds = generateResult s j := by
    rw [hserved.reseeds, generateResult]
  have hend : rngGenerateDraw j s = writeAndEnd t j (hostRef j.ops 16) bs S.OK (generateResult s j) true := by
    simp only [rngGenerateDraw, withDraw, hdraw, hres]
  have halike := hserved.dmaAlike
  rw [← halike.canDma, ← halike.dmaBind] at hcan
  refine ⟨bs, ?_⟩
  rw [hend]
  exact {
    length := hlen
    ends := fun hport => by
      have hown : dmaBind t j (hostRef j.ops 16).port = j.bind := if_pos hport
      rw [writeAndEnd_of_own hne hport (by rwa [← hown])]
      exact endJob_ends ho hp ..
    sent := by
      rw [← halike.writeMsg, ← halike.dmaBind]
      exact writeAndEnd_sends hne hcan
    requests := by rw [writeAndEnd_drbgs, hserved.requests]
    reseeds := by rw [writeAndEnd_drbgs, hserved.reseeds]
    single := fun hone => by
      obtain ⟨rfl, rfl⟩ := Draw.ok.inj (hdraw.symm.trans (draw_of_canDraw hready hpos hone))
      exact ⟨rfl, by rw [writeAndEnd_drbgs, drbg_drawn_self]⟩
    others := fun m hm => by rw [writeAndEnd_drbgs, hserved.others m hm]
    entropy := by rw [writeAndEnd_entropy, hserved.entropy]
    slots := by rw [writeAndEnd_slots, hserved.slots] }

theorem rngGenerate_draws (hcheck : rngGenerateCheck s j = none) (hflag : bitOf (u8 j.ops 4) 0 = false)
    (hinst : (s.drbgs.get {} (drbgOf j)).inst = true) : rngGenerate j s = rngGenerateDraw j s := by
  simp only [rngGenerate, checked, hcheck, hflag, hinst, Bool.true_eq_false, Bool.false_eq_true, if_false]

theorem rngGenerate_reseeds (hcheck : rngGenerateCheck s j = none) (hflag : bitOf (u8 j.ops 4) 0 = true)
    (hinst : (s.drbgs.get {} (drbgOf j)).inst = true) (hready : blockReady s (drbgOf j) false = true) :
    rngGenerate j s = rngGenerateDraw j (reseedNow s (drbgOf j)) := by
  simp only [rngGenerate, checked, hcheck, hflag, hinst, hready, Bool.true_eq_false, if_false, if_true]

/-! #### The reseed -/

theorem blockReady_of_queue (hmode : s.mode ≠ .replay) (hqueue : 85 < s.entropy.length) : blockReady s n false = true := by
  simp [blockReady, hmode, hqueue]

/-- The state in which the oldest block of the queue has been taken for a generator. -/
def blockTaken (s : State) (n : Nat) : State :=
  capture { s with entropy := s.entropy.drop 1, filling := s.filling || decide ((s.entropy.drop 1).length < 1024) } 0x25 13
    (n :: wordsOf (s.entropy.headD []))

theorem takeBlock_of_queue (hmode : s.mode ≠ .replay) : takeBlock s n = (s.entropy.headD [], blockTaken s n) := if_neg hmode

/-- A generator that a block has reseeded. -/
def reseededDrbg (d : Drbg) (block : Bytes) : Drbg :=
  { d with requests := 0, reseeds := satInc 32 d.reseeds, kv := Config.drbgReseed d.kv block }

theorem reseedNow_of_queue (hmode : s.mode ≠ .replay) :
    reseedNow s n = setDrbg (blockTaken s n) n (reseededDrbg (s.drbgs.get {} n) (s.entropy.headD [])) := by
  simp only [reseedNow, takeBlock_of_queue hmode, reseededDrbg]

/-- A reseed outside REPLAY takes its seed from the queue. -/
theorem drbg_reseedNow (hmode : s.mode ≠ .replay) :
    (reseedNow s n).drbgs.get {} n = reseededDrbg (s.drbgs.get {} n) (s.entropy.headD []) := by
  rw [reseedNow_of_queue hmode, setDrbg, NMap.get_put_self]

theorem reseedNow_entropy (hmode : s.mode ≠ .replay) : (reseedNow s n).entropy = s.entropy.drop 1 := by
  rw [reseedNow_of_queue hmode]
  exact capture_entropy ..

theorem dmaAlike_reseedNow (hmode : s.mode ≠ .replay) : DmaAlike s (reseedNow s n) := by
  rw [reseedNow_of_queue hmode]
  exact ⟨capture_portA .., capture_portB .., capture_tenants ..⟩

/-! #### The command -/

theorem exec_rngGenerate_draws (hr : Runs s (.mailbox b) C.RNG_GENERATE 0 j) (hp : Plain j) (hcheck : rngGenerateCheck s j = none)
    (hflag : bitOf (u8 j.ops 4) 0 = false) (hready : CanDraw s (drbgOf j) (2 ^ 19))
    (hcan : canDma s (dmaBind s j (hostRef j.ops 16).port) = true) :
    ∃ u bs, exec (.rngGenerate (.mailbox b)) s = .next u ∧ Generated (freeSched s (.mailbox b)) u b j bs := by
  obtain ⟨hpos, hmax⟩ := rngGenerate_len hcheck
  obtain ⟨bs, hgen⟩ := rngGenerateDraw_generates (s := freeSched s (.mailbox b)) hr.origin hp hpos hmax
    ⟨hready.inst, hready.served⟩ hcan
  exact ⟨_, bs, congrArg Host.Outcome.next ((runCommand_runs hr _).trans (rngGenerate_draws hcheck hflag hready.inst)), hgen⟩

/-- The state in which the generator of an RNG_GENERATE with RESEED_FIRST has been reseeded. -/
def reseededFirst (s : State) (o : Origin) (j : Job) : State := reseedNow (freeSched s o) (drbgOf j)

theorem drbg_reseededFirst (hmode : s.mode ≠ .replay) : (reseededFirst s o j).drbgs.get {} (drbgOf j) =
    reseededDrbg (s.drbgs.get {} (drbgOf j)) (s.entropy.headD []) := drbg_reseedNow (s := freeSched s o) hmode

theorem exec_rngGenerate_reseeds (hr : Runs s (.mailbox b) C.RNG_GENERATE 0 j) (hp : Plain j) (hmode : s.mode ≠ .replay)
    (hcheck : rngGenerateCheck s j = none) (hflag : bitOf (u8 j.ops 4) 0 = true)
    (hinst : (s.drbgs.get {} (drbgOf j)).inst = true) (hqueue : 85 < s.entropy.length)
    (hcan : canDma s (dmaBind s j (hostRef j.ops 16).port) = true) :
    ∃ u bs, exec (.rngGenerate (.mailbox b)) s = .next u ∧ Generated (reseededFirst s (.mailbox b) j) u b j bs := by
  obtain ⟨hpos, hmax⟩ := rngGenerate_len hcheck
  have halike : DmaAlike s (reseededFirst s (.mailbox b) j) := arbitrated_freeSched.dmaAlike.trans (dmaAlike_reseedNow hmode)
  have hseed := drbg_reseededFirst (o := .mailbox b) (j := j) hmode
  rw [← halike.canDma, ← halike.dmaBind] at hcan
  obtain ⟨bs, hgen⟩ := rngGenerateDraw_generates hr.origin hp hpos hmax
    ⟨by rw [hseed]; exact hinst, by rw [hseed]; exact Nat.zero_le _⟩ hcan
  exact ⟨_, bs, congrArg Host.Outcome.next ((runCommand_runs hr _).trans
    (rngGenerate_reseeds hcheck hflag hinst (blockReady_of_queue hmode hqueue))), hgen⟩

/-! #### A draw that starves -/

/-- The end of a mailbox command changes no register but SEAL_ERR_COUNT. -/
theorem reg_endJob_mailbox_of_ne (ho : j.origin = .mailbox b) (hp : Plain j) (ha : a ≠ R.SEAL_ERR_COUNT) :
    (endJob s j st res appr).reg a = s.reg a := by
  have hcount : (endState s j b st).reg a = (countSealErr (countEnded (manifestEntry s j st) j st) st).reg a := rfl
  rw [endJob_mailbox ho hp, State.reg, mailboxDone_regs, ← State.reg, hcount, reg_countSealErr_of_ne ha]
  simp [State.reg]

theorem reg_dropWith_mailbox_of_ne (ho : j.origin = .mailbox b) (hp : Plain j) (ha : a ≠ R.SEAL_ERR_COUNT) :
    (dropWith s j st).reg a = s.reg a := by
  rw [dropWith, failJob, reg_endJob_mailbox_of_ne ho hp ha, State.reg, releaseJob_regs, ← State.reg]

theorem rngStarved_of_waiting (hj : s.job? o = some j) (hphase : j.phase = .rng) : rngStarved s o =
    dropWith ((timerTaken s 13).incRegField R.RNG_HEALTH_COUNT 31 16) j S.E_RNG_STARVED := by
  simp only [rngStarved, hj, if_pos hphase]

theorem starved_dropWith (ho : j.origin = .mailbox b) (hp : Plain j) :
    (dropWith ((timerTaken s 13).incRegField R.RNG_HEALTH_COUNT 31 16) j st).regField R.RNG_HEALTH_COUNT 31 16 =
      satInc 16 (s.regField R.RNG_HEALTH_COUNT 31 16) := by
  have htimer : (timerTaken s 13).reg R.RNG_HEALTH_COUNT = s.reg R.RNG_HEALTH_COUNT := by simp [State.reg]
  rw [regField_congr (reg_dropWith_mailbox_of_ne ho hp (by decide)), regField_incRegField_self (by decide) (by decide),
    regField_congr htimer]

end Sys2Proof.Machine
end

section
open Sys2Proof.Machine

/-- Settles O33, by the requests that a draw is served in, by the seed that a reseed takes from the queue, and by the one
register that the end of a starved draw counts in. -/
theorem drawsFollowTheInstance : Obligations.DrawsFollowTheInstance := by
  refine ⟨?_, ?_, ?_⟩
  · rintro s b j _ hr hp hcheck hflag rfl hinst hserved hcan
    obtain ⟨u, bs, hexec, hgen⟩ := exec_rngGenerate_draws hr hp hcheck hflag ⟨hinst, hserved.le⟩ hcan
    exact ⟨u, bs, hexec, hgen.length, hgen.ends, hgen.sent, hgen.requests, hgen.single, hgen.others, hgen.entropy, hgen.slots⟩
  · rintro s b j _ hr hp hmode hcheck hflag rfl hinst hqueue hcan
    obtain ⟨u, bs, hexec, hgen⟩ := exec_rngGenerate_reseeds hr hp hmode hcheck hflag hinst hqueue hcan
    have hseed := drbg_reseededFirst (o := .mailbox b) (j := j) hmode
    refine ⟨u, hexec, fun hport => ?_, ?_, ?_, fun hone => ?_, ?_⟩
    · have hends := hgen.ends hport
      rwa [generateResult, hseed] at hends
    · rw [hgen.requests, hseed]
      exact Nat.zero_add _
    · rw [hgen.reseeds, hseed]
      rfl
    · obtain ⟨-, hkv⟩ := hgen.single hone
      rw [hkv, hseed]
      rfl
    · exact hgen.entropy.trans (reseedNow_entropy (s := freeSched s (.mailbox b)) hmode)
  · intro s b j hj hphase hp
    have ho := origin_of_job? hj
    exact ⟨_, congrArg Host.Outcome.next (rngStarved_of_waiting hj hphase), dropWith_ends ho hp, starved_dropWith ho hp⟩

end

section
/-! ### TENANT_SET_GRANT, TENANT_BIND and TENANT_UNBIND once the tenant record stands (R260, R261, R263, R264) -/

namespace Sys2Proof.Machine

variable {s t : State} {b c : BindId} {j : Job} {n : Nat} {ten : Tenant} {res : Bytes}

/-! #### What the end of an owner's command leaves as it was -/

theorem tenants_okJob_owner (ho : j.origin = .mailbox b) (hp : Plain j) (howner : j.owner = true) :
    (okJob s j res).tenants = s.tenants := by
  rw [okJob, endJob_mailbox ho hp, mailboxDone_tenants]
  simp [endState, countEnded_owner _ howner]

@[simp] theorem bindOf_endState {st : Nat} : (endState s j b st).bindOf c = s.bindOf c :=
  bindOf_congr (by simp [endState]) (by simp [endState]) c

theorem bindOf_okJob_mailbox (ho : j.origin = .mailbox b) (hp : Plain j) : (okJob s j res).bindOf c = s.bindOf c := by
  rw [okJob, endJob_mailbox ho hp, bindOf_mailboxDone, bindOf_endState]

theorem mbx_okJob_of_ne (ho : j.origin = .mailbox b) (hp : Plain j) (hne : c.port = b.port → c.key ≠ b.key) :
    (okJob s j res).mbx c = s.mbx c := by
  rw [okJob, endJob_mailbox ho hp, mailboxDone]
  split
  · rw [mbx_raiseVector, mbx_capture, mbx_setMbx_of_ne _ _ hne, mbx_endState]
  · rw [mbx_capture, mbx_setMbx_of_ne _ _ hne, mbx_endState]

/-! #### The end of a command that writes one context -/

/-- A mailbox command has ended with OK, and the context of tenant `n` is all it wrote of the contexts, slots and queue pairs. -/
structure ContextWritten (s u : State) (b : BindId) (n : Nat) (ten : Tenant) : Prop where
  ends : Ends u b S.OK []
  self : u.ten n = ten
  others : ∀ m, m ≠ n → u.ten m = s.ten m
  slots : u.slots = s.slots
  qps : u.qps = s.qps

/-- An owner's command that ends on a state with one context replaced. -/
theorem contextWritten_okJob (ho : j.origin = .mailbox b) (hp : Plain j) (howner : j.owner = true)
    (htenants : t.tenants = (s.setTen n ten).tenants) (hslots : t.slots = s.slots) (hqps : t.qps = s.qps) :
    ContextWritten s (okJob t j []) b n ten := by
  have hten : ∀ m, (okJob t j []).ten m = (s.setTen n ten).ten m := fun m => by
    rw [State.ten, State.ten, tenants_okJob_owner ho hp howner, htenants]
  exact {
    ends := okJob_ends ho hp []
    self := (hten n).trans (ten_setTen_self ..)
    others := fun m hm => (hten m).trans (ten_setTen_of_ne _ _ hm)
    slots := (okJob_slots ..).trans hslots
    qps := (qps_okJob_mailbox ho hp).trans hqps }

/-! #### TENANT_SET_GRANT -/

theorem tenantSetGrant_recorded (hstage : j.stage = 1) :
    tenantSetGrant j s = okJob (s.setTen (u16 j.ops 0) (regrant (s.ten (u16 j.ops 0)) (grantAt j.ops 8))) j [] := by
  simp [tenantSetGrant, hstage]

theorem exec_tenantSetGrant_writes (h : Runs s (.mailbox b) C.TENANT_SET_GRANT 1 j) (hp : Plain j) (howner : j.owner = true) :
    ∃ u, exec (.tenantSetGrant (.mailbox b)) s = .next u ∧
      ContextWritten s u b (u16 j.ops 0) (regrant (s.ten (u16 j.ops 0)) (grantAt j.ops 8)) := by
  have hrun := (runCommand_runs h tenantSetGrant).trans (tenantSetGrant_recorded h.stage)
  exact ⟨_, congrArg Host.Outcome.next hrun, contextWritten_okJob h.origin hp howner rfl rfl rfl⟩

/-! #### TENANT_BIND -/

/-- The entry that TENANT_BIND writes for the binding it names (R263). -/
def boundEntry (ops : Bytes) : BindEntry :=
  { valid := true, twin := u8 ops 4 == 1, tenant := u16 ops 0, pasid := bindPasid ops }

theorem tenantBind_recorded (hstage : j.stage = 1) :
    tenantBind j s =
      okJob ((s.setTen (u16 j.ops 0) (bound (s.ten (u16 j.ops 0)) j.ops)).setBind (namedBind j.ops) (boundEntry j.ops)) j [] := by
  simp [tenantBind, hstage, boundEntry]

theorem exec_tenantBind_binds (h : Runs s (.mailbox b) C.TENANT_BIND 1 j) (hp : Plain j) (howner : j.owner = true) :
    ∃ u, exec (.tenantBind (.mailbox b)) s = .next u ∧
      ContextWritten s u b (u16 j.ops 0) (bound (s.ten (u16 j.ops 0)) j.ops) ∧
      u.bindOf (namedBind j.ops) = boundEntry j.ops := by
  have hrun := (runCommand_runs h tenantBind).trans (tenantBind_recorded h.stage)
  refine ⟨_, congrArg Host.Outcome.next hrun, contextWritten_okJob h.origin hp howner ?_ ?_ ?_, ?_⟩
  · exact setBind_tenants ..
  · exact setBind_slots ..
  · exact setBind_qps ..
  · rw [bindOf_okJob_mailbox h.origin hp, bindOf_setBind_self]

theorem bound_primary {ops : Bytes} (hprimary : u8 ops 4 = 0) :
    bound ten ops = { ten with primary := some (namedBind ops), pasid := bindPasid ops } := if_pos hprimary

theorem bound_twin {ops : Bytes} (htwin : u8 ops 4 = 1) :
    bound ten ops = { ten with twin := some (namedBind ops), twinPasid := bindPasid ops } :=
  if_neg (by rw [htwin]; decide)

/-! #### TENANT_UNBIND -/

theorem dropBind_tenants : (dropBind s c).tenants = s.tenants := by
  unfold dropBind
  dsimp only
  split <;> simp

theorem dropBind_slots : (dropBind s c).slots = s.slots := by
  unfold dropBind
  dsimp only
  split <;> simp

theorem dropBind_qps : (dropBind s c).qps = s.qps := by
  unfold dropBind
  dsimp only
  split <;> simp

theorem bindOf_dropBind_self : (dropBind s c).bindOf c = {} := by
  unfold dropBind
  dsimp only
  split <;> simp

theorem mbx_dropBind_self : (dropBind s c).mbx c = {} := by
  unfold dropBind
  dsimp only
  split <;> simp

theorem tenantUnbind_recorded (hstage : j.stage = 1) :
    tenantUnbind j s =
      okJob (dropBind (s.setTen (u16 j.ops 0) (unbound (s.ten (u16 j.ops 0)) (namedBind j.ops))) (namedBind j.ops)) j [] := by
  simp [tenantUnbind, hstage]

theorem exec_tenantUnbind_unbinds (h : Runs s (.mailbox b) C.TENANT_UNBIND 1 j) (hp : Plain j) (howner : j.owner = true) :
    ∃ u, exec (.tenantUnbind (.mailbox b)) s = .next u ∧
      ContextWritten s u b (u16 j.ops 0) (unbound (s.ten (u16 j.ops 0)) (namedBind j.ops)) ∧
      u.bindOf (namedBind j.ops) = {} ∧
      (((namedBind j.ops).port = b.port → (namedBind j.ops).key ≠ b.key) → u.mbx (namedBind j.ops) = {}) := by
  have hrun := (runCommand_runs h tenantUnbind).trans (tenantUnbind_recorded h.stage)
  refine ⟨_, congrArg Host.Outcome.next hrun,
    contextWritten_okJob h.origin hp howner dropBind_tenants dropBind_slots dropBind_qps, ?_, fun hne => ?_⟩
  · rw [bindOf_okJob_mailbox h.origin hp, bindOf_dropBind_self]
  · rw [mbx_okJob_of_ne h.origin hp hne, mbx_dropBind_self]

theorem unbound_primary (h : ten.primary = some c) : unbound ten c = { ten with primary := none, pasid := 0 } := if_pos h

end Sys2Proof.Machine
end

section
open Sys2Proof.Machine

/-- Settles O16, by the one context that each command writes when its record stands, and by what it makes of the binding. -/
theorem tenantGrantsAndBindings : Obligations.TenantGrantsAndBindings := by
  refine ⟨fun s b j hrun hp howner => ?_, fun s b j hrun hp howner hprimary => ?_, fun s b j hrun hp howner htwin => ?_,
    fun s b j hrun hp howner hprimary => ?_⟩
  · obtain ⟨u, hexec, hw⟩ := exec_tenantSetGrant_writes hrun hp howner
    exact ⟨u, hexec, hw.ends, hw.self, hw.others, hw.slots, hw.qps⟩
  · obtain ⟨u, hexec, hw, hentry⟩ := exec_tenantBind_binds hrun hp howner
    refine ⟨u, hexec, hw.ends, hw.self.trans (bound_primary hprimary), ?_, hw.others, hw.slots, hw.qps⟩
    rw [hentry, boundEntry, hprimary]
    rfl
  · obtain ⟨u, hexec, hw, hentry⟩ := exec_tenantBind_binds hrun hp howner
    refine ⟨u, hexec, hw.ends, hw.self.trans (bound_twin htwin), ?_, hw.others, hw.slots, hw.qps⟩
    rw [hentry, boundEntry, htwin]
    rfl
  · obtain ⟨u, hexec, hw, hentry, hmbx⟩ := exec_tenantUnbind_unbinds hrun hp howner
    exact ⟨u, hexec, hw.ends, hw.self.trans (unbound_primary hprimary), hentry, hmbx, hw.others, hw.slots, hw.qps⟩

end

section
/-! ### The root key that the end of TENANT_CREATE writes (R150, R262): material of more than 64 bytes goes to an extended
record. -/

namespace Sys2Proof.Machine

variable {s : State} {b : BindId} {j : Job} {n m half code seq : Nat} {h : SlotHalf} {pend : Bool}

/-- An order that changes a slot's state leaves the active halves as they are. -/
theorem active_touched : ((touched s n pend code seq).slot m).active = (s.slot m).active := by
  by_cases hn : n < 16384
  · have hslots : (touched s n pend code seq).slot m =
        (s.setSlot n { s.slot n with lastOrder := code, changes := (s.slot n).changes + 1 }).slot m := by
      simp only [touched, if_pos hn]
      rfl
    rw [hslots]
    by_cases hm : m = n
    · rw [hm, slot_setSlot_self]
    · rw [slot_setSlot_of_ne _ _ hm]
  · simp only [touched, if_neg hn]
    rfl

theorem material_storeRecords_of_long (hlong : 64 < h.material.length) : (storeRecords s h).2.material = [] := by
  simp [storeRecords, hlong]

/-- A slot whose new key goes to an extended record holds no inline material. -/
theorem writeHalf_active_of_long (hn : 2 ≤ n) (hlong : 64 < h.material.length) :
    ∃ k, ((writeHalf s n 0 code seq h).slot n).active = some k ∧ k.material = [] := by
  refine ⟨(storeRecords s h).2, ?_, material_storeRecords_of_long hlong⟩
  have hpool : ¬ n < 2 := by omega
  simp only [writeHalf, if_neg hpool, active_touched, if_true, slot_setSlot_self]

theorem pushAll_of_no_peers {ty item batch : Nat} {mk : Nat → Bytes} (hpeers : s.fabric.peers = []) :
    pushAll s ty item batch mk = s := by
  simp [pushAll, hpeers]

theorem storeRecords_fabric : (storeRecords s h).1.fabric = s.fabric := by
  unfold storeRecords
  dsimp only
  split
  · split
    · rfl
    · rfl
  · split
    · rfl
    · rfl

theorem touched_fabric : (touched s n pend code seq).fabric = s.fabric := by
  unfold touched
  split <;> rfl

theorem writeHalf_fabric : (writeHalf s n half code seq h).fabric = s.fabric := by
  simp only [writeHalf, touched_fabric, setSlot_fabric]
  split
  · rfl
  · exact storeRecords_fabric

/-- The state in which TENANT_CREATE has written the tenant's context, with `n` its root slot. -/
def contextCreated (s : State) (j : Job) (n : Nat) : State :=
  let t := listGet 0 j.args 0
  { s.setTen t (fillBuckets { state := .quiesced, grant := grantAt j.ops 32, rootSlot := n }) with
    mem := allocLines s.mem (tenantLines t).1 (tenantLines t).2 t }

/-- The root key that TENANT_CREATE keeps for its commit (R262 step 3). -/
def keptRoot (j : Job) : SlotHalf :=
  rootHalf (listGet 0 j.args 0) (listGet [] j.keep 0) (listGet 0 j.args 2) (listGet 0 j.args 3)

/-- On a node without peers the commit changes slots by the write of the root key alone. -/
theorem createDone_slots (htarget : j.target = some (n, m)) (hpeers : s.fabric.peers = []) :
    (createDone s j).slots = (writeHalf (contextCreated s j n) n 0 j.code j.seq (keptRoot j)).slots := by
  have hnone : (writeHalf (contextCreated s j n) n 0 j.code j.seq (keptRoot j)).fabric.peers = [] := by
    rw [writeHalf_fabric]
    exact hpeers
  have hslot : (j.target.map (·.1)).getD 0 = n := by rw [htarget]; rfl
  rw [createDone, hslot]
  exact (okJob_slots ..).trans (congrArg State.slots (pushAll_of_no_peers hnone))

/-- TENANT_CREATE commits a root key that is too long to be held inline. -/
theorem exec_tenantCreate_long (hr : Runs s (.mailbox b) C.TENANT_CREATE 1 j) (hcommitted : j.committed = true)
    (htarget : j.target = some (n, m)) (hn : 2 ≤ n) (hpeers : s.fabric.peers = [])
    (hlong : 64 < (listGet [] j.keep 0).length) :
    ∃ u k, exec (.tenantCreate (.mailbox b)) s = .next u ∧ (u.slot n).active = some k ∧ k.material = [] := by
  have hrun : runCommand C.TENANT_CREATE (.mailbox b) s tenantCreate = createDone (freeSched s (.mailbox b)) j := by
    rw [runCommand_runs hr, tenantCreate, if_neg (by simp [hr.stage]), if_pos hcommitted]
  obtain ⟨k, hactive, hmaterial⟩ := writeHalf_active_of_long (s := contextCreated (freeSched s (.mailbox b)) j n)
    (code := j.code) (seq := j.seq) (h := keptRoot j) hn hlong
  refine ⟨_, k, congrArg Host.Outcome.next hrun, ?_, hmaterial⟩
  rw [State.slot, createDone_slots (s := freeSched s (.mailbox b)) htarget hpeers]
  exact hactive

/-- TENANT_CREATE from the owner's mailbox, its record written, which keeps a root key of 65 bytes for slot 300. -/
def longRootJob : Job :=
  { origin := .mailbox ownerMailbox, bind := ownerMailbox, code := C.TENANT_CREATE, stage := 1, owner := true, phase := .started,
    committed := true, ops := zeros 64, target := some (300, 0), args := [5, 1, 0, 1], keep := [zeros 65] }

/-- A keyed state in SERVICE in which that command runs, on a node without peers. -/
def longRootState : State := { State.reset with mode := .service, jobs := [longRootJob], keyed := true }

theorem longRootState_runs : Runs longRootState (.mailbox ownerMailbox) C.TENANT_CREATE 1 longRootJob := by
  unfold Runs
  decide

end Sys2Proof.Machine
end

section
open Sys2Proof.Machine

/-- Refutes O17: its clause on TENANT_CREATE does not ask that the root key kept for the commit is one of 32 bytes (R262). In
`longRootState` the key has 65 bytes, which no slot holds inline, so the slot written names an extended record (R150). -/
theorem not_tenantLifecycleAndQueries : ¬ Obligations.TenantLifecycleAndQueries := by
  rintro ⟨hcreate, -⟩
  obtain ⟨u, hexec, -, -, hinline⟩ := hcreate longRootState ownerMailbox longRootJob 300 0 longRootState_runs ⟨rfl, rfl⟩ rfl rfl rfl
  obtain ⟨u', k, hexec', hactive, hmaterial⟩ := exec_tenantCreate_long longRootState_runs rfl rfl (by decide) rfl (by decide)
  obtain rfl := Host.Outcome.next.inj (hexec.symm.trans hexec')
  obtain rfl := Option.some.inj (hactive.symm.trans hinline)
  exact absurd hmaterial (by decide)

end

section
/-! ### A tick of an idle device (R282, R286, R298): with no frame that waits no link sends, and outside HUSH nothing ends it. -/

namespace Sys2Proof.Machine

variable {s : State} {l : Nat}

theorem drainLink_of_empty (hqueue : (s.link l).queue = []) : drainLink s l = s := by simp [drainLink, hqueue]

theorem drainLinks_of_empty (hqueues : ∀ n, n < 8 → (s.link n).queue = []) : drainLinks s = s := by
  have hfold : ∀ ls : List Nat, (∀ n ∈ ls, n < 8) → ls.foldl drainLink s = s := by
    intro ls
    induction ls with
    | nil => intro _; rfl
    | cons n ls ih =>
      intro hls
      rw [List.foldl_cons, drainLink_of_empty (hqueues n (hls n (by simp)))]
      exact ih fun m hm => hls m (by simp [hm])
  unfold drainLinks
  split
  · rfl
  · exact hfold _ fun n hn => List.mem_range.1 hn

/-- The state in which the clocks have advanced by one tick. -/
def clocksOn (s : State) : State :=
  { s with clk := s.clk + 1, moon := { s.moon with opTime := opTimeAfter s }, regs := s.regs.put 0 R.PWR_RTC (rtcAfter s) }

theorem tick_of_idle (hmode : s.mode ≠ .hush) (hqueues : ∀ n, n < 8 → (s.link n).queue = []) : tick s = clocksOn s := by
  have hdrain : drainLinks (clocksOn s) = clocksOn s := drainLinks_of_empty hqueues
  have hmode' : (clocksOn s).mode ≠ .hush := hmode
  rw [tick, ← clocksOn, hdrain, stagingCheck_of_ne_hush hmode']

theorem reg_clocksOn (a : Nat) : (clocksOn s).reg a = if a = R.PWR_RTC then rtcAfter s else s.reg a := NMap.get_put ..

theorem step_of_idle (hidle : s.pending = []) : step s = .next (tick s) := by rw [step, hidle]

end Sys2Proof.Machine
end

section
open Sys2Proof.Machine

/-- Settles O2, by the state in which the clocks have advanced: no link has a frame to send. -/
theorem idleStepIsTick : Obligations.IdleStepIsTick := by
  intro s hidle hmode hqueues
  refine ⟨clocksOn s, by rw [step_of_idle hidle, tick_of_idle hmode hqueues], rfl, rfl, ?_, fun a ha => ?_, rfl, rfl, rfl, hidle⟩
  · rw [reg_clocksOn, if_pos rfl]
  · rw [reg_clocksOn, if_neg ha]

end

section
/-! ### MOONSTONE and the journal (R286): beside the count of the staging buffer no entry and no event changes it, and outside
HUSH not that count either. -/

namespace Sys2Proof.Machine

variable {s t : State} {j : Job} {b : BindId} {ty island c p0 p1 p2 st : Nat} {body : List Nat} {res : Bytes} {appr : Bool}

/-- MOONSTONE's state without the count of the staging buffer. -/
def State.store (s : State) : Moonstone := { s.moon with staging := 0 }

@[simp] theorem store_capture : (capture s ty island body).store = s.store := by
  obtain h | h : (capture s ty island body).moon = s.moon ∨ ∃ n, (capture s ty island body).moon = { s.moon with staging := n } := by
    unfold capture ambAppend
    split
    · exact .inl rfl
    · exact .inr ⟨_, rfl⟩
  · rw [State.store, h, State.store]
  · obtain ⟨n, h⟩ := h
    rw [State.store, h, State.store]

theorem capture_moon_of_ne_hush (hmode : s.mode ≠ .hush) : (capture s ty island body).moon = s.moon := by
  unfold capture
  split
  · rfl
  · simp [ambAppend, hmode]

@[simp] theorem store_takeEvent {params : List Nat} {firmware late : Bool} :
    (takeEvent s c params firmware late).store = s.store := by
  unfold takeEvent
  split
  · rfl
  · rw [State.store, evrAdmit_moon, ambTrigger_moon]
    exact store_capture

@[simp] theorem store_recordEvent : (recordEvent s c p0 p1 p2).store = s.store := store_takeEvent

theorem recordEvent_moon_of_ne_hush (hmode : s.mode ≠ .hush) : (recordEvent s c p0 p1 p2).moon = s.moon := by
  unfold recordEvent takeEvent
  split
  · rfl
  · rw [evrAdmit_moon, ambTrigger_moon]
    exact capture_moon_of_ne_hush hmode

theorem setMode_of_eq {m : Mode} (h : s.mode = m) : setMode s m = s := if_pos h

theorem setMode_of_ne {m : Mode} (h : s.mode ≠ m) : setMode s m =
    recordEvent { s with mode := m } 0x8C01 m.num s.mode.num (s.regField R.PWR_WAKE_CAUSE 6 0) := if_neg h

@[simp] theorem setMode_mode (m : Mode) : (setMode s m).mode = m := by
  unfold setMode
  split
  · assumption
  · simp

@[simp] theorem store_setMode (m : Mode) : (setMode s m).store = s.store := by
  unfold setMode
  split
  · rfl
  · exact store_recordEvent

theorem reg_setMode_of_ne {a : Nat} {m : Mode} (ha : a ≠ R.EVR_DROP_COUNT) : (setMode s m).reg a = s.reg a := by
  unfold setMode
  split
  · rfl
  · exact reg_recordEvent_of_ne ha

end Sys2Proof.Machine
end

section
/-! ### Waking (R285, R293, R294) -/

namespace Sys2Proof.Machine

variable {s t : State} {i : Instr} {bit a : Nat}

@[simp] theorem capture_reg {ty island : Nat} {body : List Nat} : (capture s ty island body).reg a = s.reg a := by
  rw [State.reg, capture_regs, State.reg]

/-- The register in which a wake source's bit is set, when its number is below 64. -/
theorem testBit_orBit {v : Nat} (hbit : bit < 64) : ((v ||| 2 ^ bit) % 2 ^ 64).testBit bit = true := by
  rw [Nat.testBit_mod_two_pow, Nat.testBit_or, Nat.testBit_two_pow_self]
  simp [hbit]

/-- The row of a wake source, with its bit in PWR_WAKE_CFG; for the RTC with an alarm set. -/
def WakeRow (s : State) (i : Instr) (bit : Nat) : Prop :=
  i = .wakeInAssert ∧ bit = 1 ∨ i = .rtcAlarm ∧ bit = 2 ∧ s.reg R.PWR_RTC_ALARM ≠ 0 ∨ i = .i3cWakeCommand ∧ bit = 3

theorem WakeRow.bit_lt (h : WakeRow s i bit) : bit < 64 := by
  obtain ⟨-, rfl⟩ | ⟨-, rfl, -⟩ | ⟨-, rfl⟩ := h <;> decide

theorem wakeSource_of_hush (hmode : s.mode = .hush) : wakeSource s bit = hushExit s := if_pos hmode

theorem wakeSource_of_ne_hush (hmode : s.mode ≠ .hush) : wakeSource s bit = qualify s bit := if_neg hmode

/-- Journal entries alone lead from `s` to `t`, in what a wake source reads and sets. -/
structure Journalled (s t : State) : Prop where
  mode : t.mode = s.mode
  regs : t.regs = s.regs
  boot : t.boot = s.boot
  slots : t.slots = s.slots
  moon : s.mode ≠ .hush → t.moon = s.moon

theorem journalled_refl : Journalled s s := ⟨rfl, rfl, rfl, rfl, fun _ => rfl⟩

theorem journalled_capture {ty island : Nat} {body : List Nat} : Journalled s (capture s ty island body) :=
  ⟨capture_mode .., capture_regs .., capture_boot .., capture_slots .., capture_moon_of_ne_hush⟩

theorem Journalled.reg (h : Journalled s t) (a : Nat) : t.reg a = s.reg a := by rw [State.reg, h.regs, State.reg]

/-- In DORMANT a wake source qualifies or does not: beside that its row writes journal entries only. -/
theorem exec_wakeRow (hrow : WakeRow s i bit) (hmode : s.mode = .dormant) :
    ∃ t u, exec i s = .next u ∧ Journalled s t ∧ Journalled (qualify t bit) u := by
  have hhush : s.mode ≠ .hush := by simp [hmode]
  obtain ⟨rfl, rfl⟩ | ⟨rfl, rfl, halarm⟩ | ⟨rfl, rfl⟩ := hrow
  · refine ⟨s, _, rfl, journalled_refl, ?_⟩
    rw [wakeSource_of_ne_hush hhush]
    exact journalled_capture
  · refine ⟨timerTaken s 20, _, congrArg Host.Outcome.next (if_neg halarm), journalled_capture, ?_⟩
    rw [wakeSource_of_ne_hush (by simpa using hhush)]
    exact journalled_refl
  · exact ⟨s, _, congrArg Host.Outcome.next (if_pos (.inl hmode)), journalled_refl, journalled_refl⟩

/-- The state in which a wake source has set its bit of PWR_WAKE_CAUSE. -/
def causeSet (s : State) (bit : Nat) : State := s.setReg R.PWR_WAKE_CAUSE (s.reg R.PWR_WAKE_CAUSE ||| 2 ^ bit)

theorem qualify_of_disabled (hcfg : (s.reg R.PWR_WAKE_CFG).testBit bit = false) : qualify s bit = s := if_pos (.inl hcfg)

theorem qualify_of_dormant (hmode : s.mode = .dormant) (hvbat : s.moon.onVbat = false) (hcore : s.moon.corePower = true)
    (hcfg : (s.reg R.PWR_WAKE_CFG).testBit bit = true) : qualify s bit = enterStartup (causeSet s bit) := by
  simp [qualify, causeSet, hcfg, hvbat, hmode, hcore]

theorem enterStartup_of_ne (hmode : s.mode ≠ .startup) : enterStartup s =
    recordEvent { s with boot := { s.boot with step := 1 }, mode := .startup } 0x8C01 1 s.mode.num
      (s.regField R.PWR_WAKE_CAUSE 6 0) := setMode_of_ne (s := { s with boot := { s.boot with step := 1 } }) hmode

@[simp] theorem enterStartup_mode : (enterStartup s).mode = .startup := setMode_mode _
@[simp] theorem enterStartup_slots : (enterStartup s).slots = s.slots := setMode_slots ..
@[simp] theorem enterStartup_jobs : (enterStartup s).jobs = s.jobs := setMode_jobs ..
@[simp] theorem enterStartup_fuses : (enterStartup s).fuses = s.fuses := setMode_fuses ..
@[simp] theorem store_enterStartup : (enterStartup s).store = s.store := store_setMode _
@[simp] theorem enterStartup_step : (enterStartup s).boot.step = 1 := by rw [enterStartup, setMode_boot]

theorem reg_enterStartup_of_ne (ha : a ≠ R.EVR_DROP_COUNT) : (enterStartup s).reg a = s.reg a := reg_setMode_of_ne ha

theorem enterStartup_moon_of_dormant (hmode : s.mode = .dormant) : (enterStartup s).moon = s.moon := by
  rw [enterStartup_of_ne (by simp [hmode])]
  exact recordEvent_moon_of_ne_hush (by simp)

/-- What a state of DORMANT becomes when an enabled wake source takes it to STARTUP. -/
structure Woken (s u : State) (bit : Nat) : Prop where
  mode : u.mode = .startup
  cause : (u.reg R.PWR_WAKE_CAUSE).testBit bit = true
  step : u.boot.step = 1
  slots : u.slots = s.slots
  moon : u.moon = s.moon

theorem woken_enterStartup (hmode : s.mode = .dormant) (hbit : bit < 64) : Woken s (enterStartup (causeSet s bit)) bit where
  mode := enterStartup_mode
  cause := by
    rw [reg_enterStartup_of_ne (by decide), causeSet, reg_setReg_self]
    exact testBit_orBit hbit
  step := enterStartup_step
  slots := by rw [enterStartup_slots, causeSet, setReg_slots]
  moon := enterStartup_moon_of_dormant (s := causeSet s bit) hmode

theorem exec_wakeRow_enabled (hrow : WakeRow s i bit) (hmode : s.mode = .dormant) (hvbat : s.moon.onVbat = false)
    (hcore : s.moon.corePower = true) (hcfg : (s.reg R.PWR_WAKE_CFG).testBit bit = true) :
    ∃ u, exec i s = .next u ∧ Woken s u bit := by
  obtain ⟨t, u, hexec, hfirst, hlast⟩ := exec_wakeRow hrow hmode
  have hmoon : t.moon = s.moon := hfirst.moon (by simp [hmode])
  have hdormant : t.mode = .dormant := hfirst.mode.trans hmode
  rw [qualify_of_dormant hdormant (by rw [hmoon, hvbat]) (by rw [hmoon, hcore]) (by rw [hfirst.reg, hcfg])] at hlast
  have hwoken := woken_enterStartup hdormant hrow.bit_lt
  refine ⟨u, hexec, hlast.mode.trans hwoken.mode, ?_, ?_, hlast.slots.trans (hwoken.slots.trans hfirst.slots),
    (hlast.moon (by simp)).trans (hwoken.moon.trans hmoon)⟩
  · rw [hlast.reg, hwoken.cause]
  · rw [hlast.boot, hwoken.step]

theorem exec_wakeRow_disabled (hrow : WakeRow s i bit) (hmode : s.mode = .dormant)
    (hcfg : (s.reg R.PWR_WAKE_CFG).testBit bit = false) :
    ∃ u, exec i s = .next u ∧ u.mode = .dormant ∧ u.reg R.PWR_WAKE_CAUSE = s.reg R.PWR_WAKE_CAUSE ∧ u.moon = s.moon := by
  obtain ⟨t, u, hexec, hfirst, hlast⟩ := exec_wakeRow hrow hmode
  have hdormant : t.mode = .dormant := hfirst.mode.trans hmode
  rw [qualify_of_disabled (by rw [hfirst.reg, hcfg])] at hlast
  refine ⟨u, hexec, hlast.mode.trans hdormant, ?_, (hlast.moon (by simp [hdormant])).trans (hfirst.moon (by simp [hmode]))⟩
  rw [hlast.reg, hfirst.reg]

/-- A source without its occasion, an RTC with no alarm set, changes nothing (R293). -/
theorem exec_rtcAlarm_unset (halarm : s.reg R.PWR_RTC_ALARM = 0) : exec .rtcAlarm s = .next s :=
  congrArg Host.Outcome.next (if_pos halarm)

/-! #### The exit from HUSH -/

/-- The state of SERVICE that an exit from HUSH leads to. -/
structure Unhushed (s u : State) : Prop where
  mode : u.mode = .service
  selfRefresh : u.mem.selfRefresh = false
  portA : u.portA.inL1 = false
  portB : u.portB.inL1 = false
  jobs : u.jobs = s.jobs
  slots : u.slots = s.slots

theorem hushExit_of_hush (hmode : s.mode = .hush) : hushExit s =
    let s1 := serviceEntered (askRate (setMode s .service) 0)
    fetchAll { s1 with portA := { s1.portA with inL1 := false }, portB := { s1.portB with inL1 := false },
                       mem := { s1.mem with selfRefresh := false }, sources := testSources s1.sources,
                       moon := { s1.moon with staging := 0 } } := if_neg (by simp [hmode])

@[simp] theorem askRate_jobs {r : Nat} : (askRate s r).jobs = s.jobs :=
  askRate_field (·.jobs) (fun t l r => by simp [sendRate, sendSealed]) ..

@[simp] theorem serviceEntered_jobs : (serviceEntered s).jobs = s.jobs := by
  unfold serviceEntered
  split <;> rfl

theorem unhushed_hushExit (hmode : s.mode = .hush) : Unhushed s (hushExit s) := by
  have heq := hushExit_of_hush hmode
  refine ⟨hushExit_mode hmode, ?_, ?_, ?_, ?_, hushExit_slots s⟩
  · rw [heq, fetchAll_mem]
  · rw [heq, fetchAll_portA]
  · rw [heq, fetchAll_portB]
  · rw [heq, fetchAll_jobs]
    simp

/-- WAKE_IN_N and a set RTC alarm end HUSH (R285). -/
theorem exec_wake_of_hush (hmode : s.mode = .hush) (hrow : i = .wakeInAssert ∨ i = .rtcAlarm ∧ s.reg R.PWR_RTC_ALARM ≠ 0) :
    ∃ u, exec i s = .next u ∧ Unhushed s u := by
  obtain rfl | ⟨rfl, halarm⟩ := hrow
  · refine ⟨_, rfl, ?_⟩
    rw [wakeSource_of_hush hmode]
    obtain ⟨hservice, hmem, hA, hB, hjobs, -⟩ := unhushed_hushExit hmode
    exact ⟨by simp [hservice], by simp [hmem], by simp [hA], by simp [hB], by simp [hjobs], by simp⟩
  · have hmode' : (timerTaken s 20).mode = .hush := by simpa using hmode
    have hexit := unhushed_hushExit hmode'
    refine ⟨_, congrArg Host.Outcome.next ((if_neg halarm).trans (wakeSource_of_hush hmode')), hexit.mode, hexit.selfRefresh,
      hexit.portA, hexit.portB, hexit.jobs.trans (timerTaken_jobs ..), hexit.slots.trans (timerTaken_slots ..)⟩

end Sys2Proof.Machine
end

section
/-! ### Losses of power (R280, R281, R333, R334, R518): what an interrupted operation of the NOR die can change, and the state
with every island other than MOONSTONE off. -/

namespace Sys2Proof.Machine

variable {s t u : State}

/-- `t` differs from `s` at most in what operations of the NOR die change. -/
def NorChanged (s t : State) : Prop :=
  ∃ r a c n l i, t = { s with recorder := r, agate := a, cfg := c, nor := n, lcs := l, freeIdx := i }

theorem NorChanged.refl : NorChanged s s := ⟨_, _, _, _, _, _, rfl⟩

theorem NorChanged.trans (h : NorChanged s t) (h' : NorChanged t u) : NorChanged s u := by
  obtain ⟨_, _, _, _, _, _, rfl⟩ := h
  obtain ⟨r, a, c, n, l, i, rfl⟩ := h'
  exact ⟨r, a, c, n, l, i, rfl⟩

theorem NorChanged.foldl {α : Type} {f : State → α → State} (h : ∀ t e, NorChanged t (f t e)) (es : List α) :
    ∀ t, NorChanged t (es.foldl f t) := by
  induction es with
  | nil => exact fun _ => .refl
  | cons e es ih => exact fun t => (h t e).trans (ih _)

theorem norChanged_interruptAnchor (w : AnchorWrite) : NorChanged s (interruptAnchor s w) := by
  unfold interruptAnchor
  split
  · exact .refl
  · exact ⟨_, _, _, _, _, _, rfl⟩

theorem norChanged_interruptNor (p : NorOp) : NorChanged s (interruptNor s p) := by
  unfold interruptNor
  dsimp only
  split
  · exact ⟨_, _, _, _, _, _, rfl⟩
  · exact ⟨_, _, _, _, _, _, rfl⟩
  · exact ⟨_, _, _, _, _, _, rfl⟩
  · exact ⟨_, _, _, _, _, _, rfl⟩
  · exact ⟨_, _, _, _, _, _, rfl⟩
  · exact ⟨_, _, _, _, _, _, rfl⟩
  · exact .refl

theorem norChanged_interruptRecord : NorChanged s (interruptRecord s) := by
  unfold interruptRecord
  dsimp only
  split
  · exact .refl
  · split
    · exact .refl
    · exact ⟨_, _, _, _, _, _, rfl⟩

theorem norChanged_interrupted : NorChanged s (interrupted s) :=
  norChanged_interruptRecord.trans
    ((NorChanged.foldl (fun _ w => norChanged_interruptAnchor w) _ _).trans
      (NorChanged.foldl (fun _ p => norChanged_interruptNor p) _ _))

/-- MOONSTONE keeps all but what waited for an ACK and the count of the staging buffer. -/
theorem offState_moon (warm : Bool) :
    (offState s warm).moon = { s.moon with deferred := none, dormantTaken := false, staging := 0 } := by
  obtain ⟨r, a, c, n, l, i, h⟩ := norChanged_interrupted (s := s)
  simp only [offState, h]

theorem offState_salt (warm : Bool) : (offState s warm).moon.salt = s.moon.salt := by rw [offState_moon]

theorem offState_fuses (warm : Bool) : (offState s warm).fuses = s.fuses := by
  obtain ⟨r, a, c, n, l, i, h⟩ := norChanged_interrupted (s := s)
  simp only [offState, h]

theorem offState_pufA (warm : Bool) : (offState s warm).boot.pufA = s.boot.pufA := by
  obtain ⟨r, a, c, n, l, i, h⟩ := norChanged_interrupted (s := s)
  simp only [offState, h]

theorem offState_regs (warm : Bool) : (offState s warm).regs = regsAfter warm s.regs := by
  obtain ⟨r, a, c, n, l, i, h⟩ := norChanged_interrupted (s := s)
  simp only [offState, h]

/-- After STARTUP a loss of power is DORMANT, in DORMANT as in every other mode. -/
theorem powerLost_of_ne_startup (hmode : s.mode ≠ .startup) : powerLost s = { offState s false with mode := .dormant } := by
  by_cases hdormant : s.mode = .dormant
  · simp [powerLost, hdormant]
  · simp [powerLost, hdormant, hmode]

theorem exec_vddCoreLoss_held (hhold : s.lcs.vholdOk = true) : exec .vddCoreLoss s = .next s :=
  congrArg Host.Outcome.next (if_pos hhold)

theorem exec_vddCoreLoss (hhold : s.lcs.vholdOk = false) (hmode : s.mode ≠ .startup) :
    ∃ u, exec .vddCoreLoss s = .next u ∧ u.mode = .dormant ∧ u.moon.corePower = false ∧ u.slots = [] ∧ u.jobs = [] ∧
      u.drbgs = [] ∧ u.moon.salt = s.moon.salt ∧ u.fuses = s.fuses ∧ u.boot.pufA = s.boot.pufA := by
  refine ⟨_, congrArg Host.Outcome.next (if_neg (by simp [hhold])), ?_⟩
  dsimp only
  rw [powerLost_of_ne_startup hmode]
  exact ⟨rfl, rfl, rfl, rfl, rfl, offState_salt false, offState_fuses false, offState_pufA false⟩

theorem exec_vddAonLoss_cell (hmode : s.mode ≠ .startup) :
    ∃ u, exec (.vddAonLoss true) s = .next u ∧ u.mode = .dormant ∧ u.moon.onVbat = true ∧ u.moon.aonPower = false ∧
      (u.reg R.PWR_STATUS).testBit 9 = true ∧ u.moon.salt = s.moon.salt ∧ u.slots = [] ∧ u.fuses = s.fuses := by
  refine ⟨_, rfl, ?_⟩
  rw [vddAonLoss, powerLost_of_ne_startup hmode]
  refine ⟨rfl, rfl, rfl, ?_, offState_salt false, rfl, offState_fuses false⟩
  exact (congrArg (·.testBit 9) (reg_setReg_self ..)).trans (testBit_orBit (by decide))

theorem exec_vddAonLoss_noCell (hmode : s.mode ≠ .startup) :
    ∃ u, exec (.vddAonLoss false) s = .next u ∧ u.mode = .dormant ∧
      u.moon = { saltLost := true, aonPower := false, corePower := false } ∧ u.regs = State.reset.regs ∧ u.slots = [] ∧
      u.fuses = s.fuses := by
  refine ⟨_, rfl, ?_⟩
  rw [vddAonLoss, powerLost_of_ne_startup hmode]
  exact ⟨rfl, rfl, rfl, rfl, offState_fuses false⟩

theorem exec_vbatSaltClear (hcell : s.moon.onVbat = true) :
    exec .vbatSaltClear s = .next { s with moon := { s.moon with salt := none, imageValid := false, saltLost := true } } :=
  congrArg Host.Outcome.next (if_pos hcell)

theorem exec_dormantRailLoss (hmode : s.mode = .dormant) :
    ∃ u, exec .dormantRailLoss s = .next u ∧ u.mode = .dormant ∧ u.moon.corePower = false ∧ u.moon.salt = s.moon.salt ∧
      u.regs = regsAfter false s.regs ∧ u.slots = [] ∧ u.fuses = s.fuses :=
  ⟨_, congrArg Host.Outcome.next (if_pos hmode), rfl, rfl, offState_salt false, offState_regs false, rfl, offState_fuses false⟩

end Sys2Proof.Machine
end

section
open Sys2Proof.Machine

/-- Settles O35, by what a wake source's row does in DORMANT and in HUSH, and by the state that a loss of power leaves. -/
theorem wakesAndPowerLosses : Obligations.WakesAndPowerLosses := by
  refine ⟨?_, ?_, ?_, fun _ hhold => exec_vddCoreLoss_held hhold, fun _ hhold hmode => exec_vddCoreLoss hhold hmode,
    fun _ hmode => exec_vddAonLoss_cell hmode, fun _ hmode => exec_vddAonLoss_noCell hmode,
    fun _ hcell => exec_vbatSaltClear hcell, fun _ hmode => exec_dormantRailLoss hmode⟩
  · intro s i bit hmode hvbat hcore hrow hcfg
    obtain ⟨u, hexec, hwoken⟩ := exec_wakeRow_enabled hrow hmode hvbat hcore hcfg
    exact ⟨u, hexec, hwoken.mode, hwoken.cause, hwoken.step, hwoken.slots, hwoken.moon⟩
  · intro s i bit hmode hrow hcfg
    obtain hwake | ⟨rfl, rfl⟩ | hwake := hrow
    · exact exec_wakeRow_disabled (.inl hwake) hmode hcfg
    · by_cases halarm : s.reg R.PWR_RTC_ALARM = 0
      · exact ⟨s, exec_rtcAlarm_unset halarm, hmode, rfl, rfl⟩
      · exact exec_wakeRow_disabled (.inr (.inl ⟨rfl, rfl, halarm⟩)) hmode hcfg
    · exact exec_wakeRow_disabled (.inr (.inr hwake)) hmode hcfg
  · intro s i hmode hrow
    obtain ⟨u, hexec, hexit⟩ := exec_wake_of_hush hmode hrow
    exact ⟨u, hexec, hexit.mode, hexit.selfRefresh, hexit.portA, hexit.portB, hexit.jobs, hexit.slots⟩

end

section
/-! ### HUSH is entered or abandoned (R278, R283) -/

namespace Sys2Proof.Machine

variable {s t u : State} {b : BindId} {o : Origin} {j k : Job} {st : Nat} {res : Bytes}

/-- The end of a command stands in every state with the same commands in flight and the same mailbox. -/
theorem Ends.congr (h : Ends s b st res) (hjobs : t.jobs = s.jobs) (hmbx : t.mbx b = s.mbx b) : Ends t b st res := by
  rw [Ends, hmbx, job?_congr hjobs]
  exact h

/-! #### The entry -/

/-- A checkpoint of the journal changes the journal and what counts its entries (R483). -/
theorem ambCheckpoint_field {α : Type} (f : State → α) (hcapture : ∀ t ty i w, f (capture t ty i w) = f t)
    (hamber : ∀ (t : State) a, f { t with amber := a } = f t) : f (ambCheckpoint s) = f s := by
  have hparts : ∀ (es : List (Nat × List Nat)) (t : State), f (es.foldl (fun t e => capture t 0x02 e.1 e.2) t) = f t := by
    intro es
    induction es with
    | nil => exact fun _ => rfl
    | cons e es ih => exact fun t => (ih _).trans (hcapture ..)
  unfold ambCheckpoint
  split
  · rfl
  · exact (hamber ..).trans ((hcapture ..).trans ((hparts ..).trans (hcapture ..)))

/-- The state in which the links have been asked for KEEP_ALIVE and the checkpoint is written. -/
def hushAsked (s : State) : State := ambCheckpoint (askRate (setMode s .hush) 1)

theorem hushAsked_field {α : Type} (f : State → α) (hcapture : ∀ t ty i w, f (capture t ty i w) = f t)
    (hamber : ∀ (t : State) a, f { t with amber := a } = f t) (hsend : ∀ t l r, f (sendRate t l r 0) = f t) :
    f (hushAsked s) = f (setMode s .hush) :=
  (ambCheckpoint_field f hcapture hamber).trans (askRate_field f hsend ..)

/-- What the entry to HUSH makes of a state. -/
structure Hushed (s u : State) : Prop where
  mode : u.mode = .hush
  selfRefresh : u.mem.selfRefresh = true
  jobs : u.jobs = s.jobs
  slots : u.slots = s.slots
  mbx : ∀ b, u.mbx b = s.mbx b

theorem hushed_hushEnter : Hushed s (hushEnter s) where
  mode := (hushAsked_field (·.mode) (by simp) (by simp) (by simp [sendRate, sendSealed])).trans (setMode_mode _)
  selfRefresh := rfl
  jobs := (hushAsked_field (·.jobs) (by simp) (by simp) (by simp [sendRate, sendSealed])).trans (setMode_jobs ..)
  slots := (hushAsked_field (·.slots) (by simp) (by simp) (by simp [sendRate, sendSealed])).trans (setMode_slots ..)
  mbx b := by
    have hA : (hushAsked s).portA = s.portA :=
      (hushAsked_field (·.portA) (by simp) (by simp) (by simp [sendRate, sendSealed])).trans (setMode_portA ..)
    have hB : (hushAsked s).portB = s.portB :=
      (hushAsked_field (·.portB) (by simp) (by simp) (by simp [sendRate, sendSealed])).trans (setMode_portB ..)
    rw [← mbx_congr hA hB b, State.mbx, State.mbx]
    cases b.port <;> rfl

/-! #### The condition and its wait -/

theorem hushConditionMet_of_holds (hj : s.job? o = some j) (hcode : j.code = C.PWR_HUSH) (hphase : j.phase = .hush)
    (hmode : s.mode = .service) (hcond : hushCondition s (some o) = true) :
    hushConditionMet s o = hushEnter (okJob s { j with committed := true } []) := by
  simp [hushConditionMet, hj, hcode, hphase, hmode, hcond]

theorem hushConditionMet_of_fails (hcond : hushCondition s (some o) = false) : hushConditionMet s o = s := by
  unfold hushConditionMet
  split
  · exact if_neg (by simp [hcond])
  · rfl

/-- A PWR_HUSH that waits ends with OK as HUSH is entered. -/
theorem hushConditionMet_enters (hj : s.job? (.mailbox b) = some j) (hcode : j.code = C.PWR_HUSH) (hphase : j.phase = .hush)
    (hp : Plain j) (hmode : s.mode = .service) (hcond : hushCondition s (some (.mailbox b)) = true) :
    ∃ u, Host.Outcome.next (hushConditionMet s (.mailbox b)) = (.next u : Host.Outcome State Fault Refusal) ∧ u.mode = .hush ∧
      u.mem.selfRefresh = true ∧ Ends u b S.OK [] ∧ u.slots = s.slots := by
  rw [hushConditionMet_of_holds hj hcode hphase hmode hcond]
  generalize hk : { j with committed := true } = k
  have ho : k.origin = .mailbox b := by rw [← hk, ← origin_of_job? hj]
  have hplain : Plain k := by rw [← hk]; exact hp
  obtain ⟨hhush, href, hjobs, hslots, hmbx⟩ := hushed_hushEnter (s := okJob s k [])
  exact ⟨_, rfl, hhush, href, (okJob_ends ho hplain []).congr hjobs (hmbx b), hslots.trans (okJob_slots ..)⟩

/-- A change of a command in flight that keeps its submission leaves the condition. -/
theorem hushCondition_setJob (q : Option Origin) : hushCondition (s.setJob k) q = hushCondition s q := by
  have hjobs : (s.setJob k).jobs.all (fun i => some i.origin == q) = s.jobs.all fun i => some i.origin == q := by
    rw [State.setJob, List.all_map]
    congr 1
    funext i
    by_cases hi : i.origin = k.origin
    · simp [hi]
    · simp [hi]
  rw [hushCondition, hjobs]
  rfl

theorem hushCondition_freeSched (q : Option Origin) : hushCondition (freeSched s o) q = hushCondition s q := rfl

/-- The state in which PWR_HUSH waits for the condition. -/
def hushWaiting (s : State) (o : Origin) (j : Job) : State := (freeSched s o).setJob { j with phase := .hush }

theorem job?_hushWaiting (hj : s.job? o = some j) : (hushWaiting s o j).job? o = some { j with phase := .hush } := by
  have ho := origin_of_job? hj
  exact job?_setJob_self (s := freeSched s o) (j := j) hj ho

theorem hushCondition_hushWaiting (q : Option Origin) : hushCondition (hushWaiting s o j) q = hushCondition s q :=
  (hushCondition_setJob q).trans (hushCondition_freeSched q)

/-- PWR_HUSH with operands in range waits in SERVICE for the condition, which may hold at once. -/
theorem exec_pwrHush (hr : Runs s o C.PWR_HUSH 0 j) (hmode : s.mode = .service) (hwait : u16 j.ops 0 ≤ 1000)
    (hzero : zeroAt j.ops 2 6 = true) : exec (.pwrHush o) s = .next (hushConditionMet (hushWaiting s o j) o) := by
  have hlimit : ¬ u16 j.ops 0 > 1000 := Nat.not_lt.2 hwait
  refine congrArg Host.Outcome.next ((runCommand_runs hr pwrHush).trans ?_)
  simp [pwrHush, firstFail, failIf, hmode, hlimit, hzero, hr.origin, hushWaiting]

theorem exec_pwrHush_enters (hr : Runs s (.mailbox b) C.PWR_HUSH 0 j) (hp : Plain j) (hmode : s.mode = .service)
    (hwait : u16 j.ops 0 ≤ 1000) (hzero : zeroAt j.ops 2 6 = true) (hcond : hushCondition s (some (.mailbox b)) = true) :
    ∃ u, exec (.pwrHush (.mailbox b)) s = .next u ∧ u.mode = .hush ∧ u.mem.selfRefresh = true ∧ Ends u b S.OK [] ∧
      u.slots = s.slots := by
  obtain ⟨hj, -⟩ := id hr
  rw [exec_pwrHush hr hmode hwait hzero]
  exact hushConditionMet_enters (job?_hushWaiting hj) hr.code rfl hp hmode ((hushCondition_hushWaiting _).trans hcond)

theorem exec_pwrHush_waits (hr : Runs s (.mailbox b) C.PWR_HUSH 0 j) (hmode : s.mode = .service)
    (hwait : u16 j.ops 0 ≤ 1000) (hzero : zeroAt j.ops 2 6 = true) (hcond : hushCondition s (some (.mailbox b)) = false) :
    ∃ u k, exec (.pwrHush (.mailbox b)) s = .next u ∧ u.mode = .service ∧ u.job? (.mailbox b) = some k ∧ k.phase = .hush ∧
      u.slots = s.slots := by
  obtain ⟨hj, -⟩ := id hr
  have hfails : hushConditionMet (hushWaiting s (.mailbox b) j) (.mailbox b) = hushWaiting s (.mailbox b) j :=
    hushConditionMet_of_fails ((hushCondition_hushWaiting _).trans hcond)
  exact ⟨_, _, (exec_pwrHush hr hmode hwait hzero).trans (congrArg Host.Outcome.next hfails), hmode, job?_hushWaiting hj, rfl, rfl⟩

theorem exec_hushWaitExpire (hj : s.job? (.mailbox b) = some j) (hcode : j.code = C.PWR_HUSH) (hphase : j.phase = .hush)
    (hp : Plain j) :
    ∃ u, exec (.hushWaitExpire (.mailbox b)) s = .next u ∧ u.mode = s.mode ∧ Ends u b S.I_HUSH_ABANDONED [] ∧
      u.slots = s.slots := by
  have hexpire : hushWaitExpire s (.mailbox b) = endJob (timerTaken s 14) j S.I_HUSH_ABANDONED [] false := by
    simp [hushWaitExpire, hj, hcode, hphase]
  refine ⟨_, congrArg Host.Outcome.next hexpire, ?_, endJob_ends (origin_of_job? hj) hp .., ?_⟩
  · rw [endJob_mode, timerTaken_mode]
  · rw [endJob_slots, timerTaken_slots]

/-! #### The AUTO_HUSH timer -/

theorem hushCondition_timerTaken {n : Nat} (q : Option Origin) : hushCondition (timerTaken s n) q = hushCondition s q := by
  simp [hushCondition, wardsBusy]

theorem exec_autoHushTimer (hmode : s.mode = .service) (hset : s.regField R.PWR_CTRL 7 0 ≠ 0)
    (hcond : hushCondition s none = true) :
    ∃ u, exec .autoHushTimer s = .next u ∧ u.mode = .hush ∧ u.mem.selfRefresh = true ∧ u.slots = s.slots := by
  obtain ⟨hhush, href, -, hslots, -⟩ := hushed_hushEnter (s := timerTaken s 14)
  exact ⟨_, congrArg Host.Outcome.next (if_pos ⟨hmode, hset, hcond⟩), hhush, href, hslots.trans (timerTaken_slots ..)⟩

theorem exec_autoHushTimer_off (hoff : s.regField R.PWR_CTRL 7 0 = 0) : exec .autoHushTimer s = .next s :=
  congrArg Host.Outcome.next (if_neg fun h => h.2.1 hoff)

end Sys2Proof.Machine
end

section
open Sys2Proof.Machine

/-- Settles O36, by what the entry to HUSH leaves as it was, and by the condition, which a PWR_HUSH that waits does not change. -/
theorem hushEntryAndAbandon : Obligations.HushEntryAndAbandon := by
  refine ⟨fun _ _ _ hr hp hmode hwait hzero hcond => exec_pwrHush_enters hr hp hmode hwait hzero hcond,
    fun _ _ _ hr hmode hwait hzero hcond => exec_pwrHush_waits hr hmode hwait hzero hcond, ?_,
    fun _ _ _ hj hcode hphase hp => exec_hushWaitExpire hj hcode hphase hp,
    fun _ hmode hset hcond => exec_autoHushTimer hmode hset hcond, fun _ hoff => exec_autoHushTimer_off hoff⟩
  intro s b j hj hcode hphase hp hmode hcond
  exact hushConditionMet_enters hj hcode hphase hp hmode hcond

end

section
/-! ### What the end of a command leaves of MOONSTONE -/

namespace Sys2Proof.Machine

variable {s t : State} {b : BindId} {o : Origin} {j : Job} {st p f v : Nat} {res : Bytes} {appr : Bool}

/-- States whose MOONSTONE differs in the staging buffer's count alone have the same fields of the dormant image. -/
structure ImageKept (s t : State) : Prop where
  valid : t.moon.imageValid = s.moon.imageValid
  dseq : t.moon.dseq = s.moon.dseq
  digest : t.moon.imageDigest = s.moon.imageDigest

theorem imageKept_of_store (h : t.store = s.store) : ImageKept s t :=
  ⟨congrArg (·.imageValid) h, congrArg (·.dseq) h, congrArg (·.imageDigest) h⟩

theorem ImageKept.trans {u : State} (h : ImageKept s t) (h' : ImageKept t u) : ImageKept s u :=
  ⟨h'.valid.trans h.valid, h'.dseq.trans h.dseq, h'.digest.trans h.digest⟩

theorem store_of_moon (h : t.moon = s.moon) : t.store = s.store := by rw [State.store, h, State.store]

@[simp] theorem store_raiseVector {p : PortId} : (raiseVector s p f v).store = s.store := by
  unfold raiseVector
  dsimp only
  split
  · rfl
  · split
    · exact store_of_moon (setFn_moon ..)
    · exact store_capture

@[simp] theorem store_mailboxDone : (mailboxDone s b st res appr).store = s.store := by
  have hset (m : Mailbox) : (s.setMbx b m).store = s.store := store_of_moon (setMbx_moon ..)
  unfold mailboxDone
  dsimp only
  split
  · rw [store_raiseVector, store_capture, hset]
  · rw [store_capture, hset]

theorem endState_moon : (endState s j b st).moon = s.moon := by simp [endState]

/-- The end of a mailbox command whose bytes all went through its own port keeps MOONSTONE. -/
theorem store_endJob (ho : j.origin = .mailbox b) (hp : Plain j) : (endJob s j st res appr).store = s.store := by
  rw [endJob_mailbox ho hp, store_mailboxDone, store_of_moon endState_moon]

theorem store_okJob (ho : j.origin = .mailbox b) (hp : Plain j) : (okJob s j res).store = s.store := store_endJob ho hp

/-- A command that ends early changes of MOONSTONE at most the refusals of a PWR_DORMANT (R288). -/
theorem imageKept_releaseJob : ImageKept s (releaseJob s o) := by
  have hundo (t : State) : ImageKept t (undoDormant t o) := by
    unfold undoDormant
    split
    · split <;> exact ⟨rfl, rfl, rfl⟩
    · exact ⟨rfl, rfl, rfl⟩
  have hmoon : (releaseJob s o).moon = (undoDormant (undoCreate (stopTests (freeSched s o) o) o) o).moon := by simp [releaseJob]
  have hfirst : (undoCreate (stopTests (freeSched s o) o) o).moon = s.moon := by simp
  have hlast := hundo (undoCreate (stopTests (freeSched s o) o) o)
  constructor
  · rw [hmoon, hlast.valid, hfirst]
  · rw [hmoon, hlast.dseq, hfirst]
  · rw [hmoon, hlast.digest, hfirst]

theorem imageKept_dropWith (ho : j.origin = .mailbox b) (hp : Plain j) : ImageKept s (dropWith s j st) :=
  imageKept_releaseJob.trans (imageKept_of_store (store_endJob ho hp))

end Sys2Proof.Machine
end

section
/-! ### The pending halves that DORMANT clears (R168, R288) -/

namespace Sys2Proof.Machine

variable {s : State} {n m code seq : Nat} {pend : Bool}

theorem NMap.mem_of_look? {α : Type} {l : NMap α} {k : Nat} {v : α} (h : l.look? k = some v) : (k, v) ∈ l := by
  induction l with
  | nil => cases h
  | cons e l ih =>
    rw [NMap.look?_cons] at h
    split at h
    · next hk =>
      obtain rfl : e = (k, v) := Prod.ext hk.symm (Option.some.inj h)
      exact List.mem_cons_self
    · exact List.mem_cons_of_mem _ (ih h)

/-- A slot that holds a pending half is listed with it. -/
theorem mem_slots_of_pending (h : (s.slot n).pending.isSome = true) : (n, s.slot n) ∈ s.slots := by
  cases hlook : s.slots.look? n with
  | none =>
    rw [State.slot, NMap.get, hlook] at h
    cases h
  | some v =>
    have hslot : s.slot n = v := by rw [State.slot, NMap.get, hlook, Option.getD_some]
    rw [hslot]
    exact NMap.mem_of_look? hlook

/-- An order that changes a slot's state leaves the pending halves as they are. -/
theorem pending_touched : ((touched s n pend code seq).slot m).pending = (s.slot m).pending := by
  by_cases hn : n < 16384
  · have hslots : (touched s n pend code seq).slot m =
        (s.setSlot n { s.slot n with lastOrder := code, changes := (s.slot n).changes + 1 }).slot m := by
      simp only [touched, if_pos hn]
      rfl
    rw [hslots]
    by_cases hm : m = n
    · rw [hm, slot_setSlot_self]
    · rw [slot_setSlot_of_ne _ _ hm]
  · simp only [touched, if_neg hn]
    rfl

theorem pending_clearPending_self : ((clearPending s n code seq).slot n).pending = none := by
  simp only [clearPending, pending_touched, slot_setSlot_self]

theorem pending_clearPending_of_none (h : (s.slot m).pending = none) : ((clearPending s n code seq).slot m).pending = none := by
  by_cases hm : m = n
  · rw [hm]
    exact pending_clearPending_self
  · simp only [clearPending, pending_touched, slot_setSlot_of_ne _ _ hm]
    exact h

/-- Once the entries of a list are cleared no half waits in any of their slots, nor where none waited before. -/
theorem pending_foldl_clearPending (es : List (Nat × Slot)) : ∀ s : State, (s.slot m).pending = none ∨ m ∈ es.map (·.1) →
    ((es.foldl (fun t e => clearPending t e.1 code 0) s).slot m).pending = none := by
  induction es with
  | nil => exact fun s h => h.resolve_right List.not_mem_nil
  | cons e es ih =>
    intro s h
    refine ih _ ?_
    obtain h | h := h
    · exact .inl (pending_clearPending_of_none h)
    · obtain rfl | h := List.mem_cons.1 h
      · exact .inl pending_clearPending_self
      · exact .inr h

theorem pending_allPendingGone : ((allPendingGone s code).slot m).pending = none := by
  refine pending_foldl_clearPending _ _ ?_
  cases hpending : (s.slot m).pending with
  | none => exact .inl rfl
  | some h =>
    have hsome : (s.slot m).pending.isSome = true := by rw [hpending, Option.isSome_some]
    exact .inr (List.mem_map.2 ⟨_, List.mem_filter.2 ⟨mem_slots_of_pending hsome, hsome⟩, rfl⟩)

theorem touched_mode : (touched s n pend code seq).mode = s.mode := by
  unfold touched
  split <;> rfl

theorem clearPending_mode : (clearPending s n code seq).mode = s.mode := touched_mode

theorem allPendingGone_mode : (allPendingGone s code).mode = s.mode := by
  unfold allPendingGone
  generalize s.slots.filter _ = es
  induction es generalizing s with
  | nil => rfl
  | cons e es ih => exact ih.trans clearPending_mode

end Sys2Proof.Machine
end
section
/-! ### The commit point of PWR_DORMANT (R287, R288) -/

namespace Sys2Proof.Machine

variable {s u : State} {b : BindId} {j : Job}

/-- The number of an image that is written next. -/
def nextDseq (s : State) : Nat := (s.moon.dseq + 1) % 2 ^ 32

/-- What MOONSTONE holds once DORMANT is committed: of a keyed device the record of the image just written. -/
def committedMoon (s : State) : Moonstone :=
  if s.keyed then { s.moon with imageValid := true, dseq := nextDseq s, imageDigest := sha384 (imageBytes s (nextDseq s)) }
  else { s.moon with imageValid := false }

theorem committedMoon_of_keyed (hkeyed : s.keyed = true) : committedMoon s =
    { s.moon with imageValid := true, dseq := nextDseq s, imageDigest := sha384 (imageBytes s (nextDseq s)) } := if_pos hkeyed

theorem committedMoon_of_unkeyed (hkeyed : s.keyed = false) : committedMoon s = { s.moon with imageValid := false } :=
  if_neg (by simp [hkeyed])

/-- The result of PWR_DORMANT: the size of the image, its entries, the number of the image that MOONSTONE holds. -/
def dormantResult (s : State) (dseq : Nat) : Bytes :=
  leBytes 8 (imageBytes s (nextDseq s)).length ++ leBytes 4 (imageSlots s).length ++ leBytes 4 dseq

/-- What the commit point of PWR_DORMANT makes of a state. -/
structure Committed (s u : State) (b : BindId) (j : Job) : Prop where
  store : u.store = { committedMoon s with deferred := some (j.bind, .dormant), staging := 0 }
  ends : Ends u b S.OK (dormantResult s (committedMoon s).dseq)
  pending : ∀ n, (u.slot n).pending = none
  mode : u.mode = s.mode

/-- The state in which the image record is stored and no half waits. -/
def dormantStored (s : State) (j : Job) : State :=
  { allPendingGone s C.PWR_DORMANT with moon := { committedMoon s with deferred := some (j.bind, .dormant) } }

theorem dormantCommit_eq :
    dormantCommit s j = okJob (dormantStored s j) { j with committed := true } (dormantResult s (committedMoon s).dseq) := rfl

theorem committed_dormantCommit (ho : j.origin = .mailbox b) (hp : Plain j) : Committed s (dormantCommit s j) b j := by
  rw [dormantCommit_eq]
  generalize hk : { j with committed := true } = k
  have hok : k.origin = .mailbox b := by rw [← hk, ← ho]
  have hkp : Plain k := by rw [← hk]; exact hp
  refine ⟨(store_okJob hok hkp).trans rfl, okJob_ends hok hkp _, fun n => ?_, ?_⟩
  · rw [State.slot, okJob_slots]
    exact pending_allPendingGone (s := s)
  · rw [okJob_mode]
    exact allPendingGone_mode (s := s)

theorem Committed.deferred (h : Committed s u b j) : u.moon.deferred = some (j.bind, .dormant) := congrArg (·.deferred) h.store

theorem Committed.imageValid (h : Committed s u b j) : u.moon.imageValid = (committedMoon s).imageValid :=
  congrArg (·.imageValid) h.store

theorem Committed.dormantTaken (h : Committed s u b j) : u.moon.dormantTaken = (committedMoon s).dormantTaken :=
  congrArg (·.dormantTaken) h.store

theorem Committed.dseq (h : Committed s u b j) : u.moon.dseq = (committedMoon s).dseq := congrArg (·.dseq) h.store

theorem Committed.imageDigest (h : Committed s u b j) : u.moon.imageDigest = (committedMoon s).imageDigest :=
  congrArg (·.imageDigest) h.store

/-- The state in which the refusals of R287 stand and the command goes on. -/
def dormantBegun (s : State) (o : Origin) : State :=
  { freeSched s o with moon := { s.moon with dormantTaken := true } }

/-- An unkeyed device without a buffer has no image to write. -/
theorem exec_pwrDormant_unkeyed (hr : Runs s (.mailbox b) C.PWR_DORMANT 0 j) (hp : Plain j)
    (hready : dormantReady s (.mailbox b) = true) (hkeyed : s.keyed = false)
    (href : refCheck s j (hostRef j.ops 0) 0 maxLen = none) (hlen : (hostRef j.ops 0).len = 0) :
    ∃ u, exec (.pwrDormant (.mailbox b)) s = .next u ∧ Committed (dormantBegun s (.mailbox b)) u b j := by
  refine ⟨_, ?_, committed_dormantCommit hr.origin hp⟩
  refine congrArg Host.Outcome.next ((runCommand_runs hr pwrDormant).trans ?_)
  have hready' : dormantReady (freeSched s (.mailbox b)) (.mailbox b) = true := hready
  have hkeyed' : (freeSched s (.mailbox b)).keyed = false := hkeyed
  have href' : refCheck (freeSched s (.mailbox b)) j (hostRef j.ops 0) 0 maxLen = none := href
  have hchecks : firstFail [failIf (!dormantReady (freeSched s (.mailbox b)) j.origin) S.E_NOT_QUIESCED,
      refCheck (freeSched s (.mailbox b)) j (hostRef j.ops 0) (if (freeSched s (.mailbox b)).keyed = false ∧
        (hostRef j.ops 0).len = 0 then 0 else imageSize (freeSched s (.mailbox b))) maxLen] = none := by
    rw [if_pos ⟨hkeyed', hlen⟩, href', hr.origin, hready']
    rfl
  simp only [pwrDormant, if_pos hr.stage, hchecks, if_pos hlen]
  rfl

/-- Of a keyed device the image is written once the ordering read of stage 1 has returned. -/
theorem exec_pwrDormant_written (hr : Runs s (.mailbox b) C.PWR_DORMANT 1 j) (hp : Plain j) :
    ∃ u, exec (.pwrDormant (.mailbox b)) s = .next u ∧ Committed (freeSched s (.mailbox b)) u b j := by
  refine ⟨_, ?_, committed_dormantCommit hr.origin hp⟩
  have hstage : ¬ j.stage = 0 := by simp [hr.stage]
  exact congrArg Host.Outcome.next ((runCommand_runs hr pwrDormant).trans (if_neg hstage))

end Sys2Proof.Machine
end
section
/-! ### The switch-off that follows the ACK (R288, R300) -/

namespace Sys2Proof.Machine

variable {s t u : State} {b : BindId} {i : Instr} {irq : Bool}

/-- From `s` to `t` the recorder has written: the fuses and MOONSTONE are as before. -/
structure Logged (s t : State) : Prop where
  fuses : t.fuses = s.fuses
  store : t.store = s.store

theorem Logged.salt (h : Logged s t) : t.moon.salt = s.moon.salt := congrArg (·.salt) h.store

theorem Logged.imageValid (h : Logged s t) : t.moon.imageValid = s.moon.imageValid := congrArg (·.imageValid) h.store

theorem Logged.wakeLatched (h : Logged s t) : t.moon.wakeLatched = s.moon.wakeLatched := congrArg (·.wakeLatched) h.store

theorem logged_refl : Logged s s := ⟨rfl, rfl⟩

theorem Logged.trans (h : Logged s t) (h' : Logged t u) : Logged s u := ⟨h'.fuses.trans h.fuses, h'.store.trans h.store⟩

theorem logged_recordEvent {c p0 p1 p2 : Nat} : Logged s (recordEvent s c p0 p1 p2) := ⟨recordEvent_fuses .., store_recordEvent⟩

theorem logged_foldl {α : Type} {f : State → α → State} (h : ∀ t e, Logged t (f t e)) (es : List α) :
    ∀ t, Logged t (es.foldl f t) := by
  induction es with
  | nil => exact fun _ => logged_refl
  | cons e es ih => exact fun t => (h t e).trans (ih _)

theorem Logged.recorder {r : Recorder} (h : Logged s t) : Logged s { t with recorder := r } := ⟨h.fuses, h.store⟩

theorem Logged.nor {n : Nor} (h : Logged s t) : Logged s { t with nor := n } := ⟨h.fuses, h.store⟩

theorem Logged.regs {r : NMap Nat} (h : Logged s t) : Logged s { t with regs := r } := ⟨h.fuses, h.store⟩

theorem logged_dropFull (e : EvEntry) : Logged s (dropFull s e) := logged_refl.recorder.regs

theorem logged_checkpoint : Logged s (checkpoint s) := by
  unfold checkpoint ctlWrite
  dsimp only
  split <;> exact logged_refl.recorder

theorem logged_headOn : Logged s (headOn s) := by
  have hdrop (es : List EvEntry) (t : State) : Logged t (es.foldl dropFull t) := logged_foldl (fun t e => logged_dropFull e) es t
  unfold headOn
  dsimp only
  split
  · exact (logged_refl.recorder.trans ((hdrop _ _).trans logged_recordEvent)).recorder
  · split
    · exact logged_refl.recorder.trans (hdrop _ _)
    · exact logged_refl.recorder

theorem logged_clearWake : Logged s (clearWake s) := by
  unfold clearWake
  split
  · exact ⟨rfl, rfl⟩
  · exact logged_refl

theorem logged_recordWriteDone : Logged s (recordWriteDone s true) := by
  unfold recordWriteDone
  dsimp only
  split
  · exact logged_refl
  · split
    · exact logged_refl
    · rw [if_pos rfl]
      split
      · exact (logged_refl.recorder.recorder.trans logged_headOn).trans logged_clearWake
      · exact logged_refl.recorder.recorder

theorem logged_flushRecords (n : Nat) : ∀ s, Logged s (flushRecords n s) := by
  induction n with
  | zero => exact fun _ => logged_refl
  | succ n ih =>
    intro s
    have hbody : Logged s (if s.recorder.bodyDone then s else recordWriteDone s true) := by
      split
      · exact logged_refl
      · exact logged_recordWriteDone
    unfold flushRecords
    split
    · exact logged_refl
    · exact hbody.trans (logged_recordWriteDone.trans (ih _))

/-- Without a latched wake no source qualifies as the islands go off. -/
theorem foldl_qualify_of_none (bs : List Nat) : ∀ t : State,
    bs.foldl (fun t bit => if (0 : Nat).testBit bit then qualify t bit else t) t = t := by
  induction bs with
  | nil => exact fun _ => rfl
  | cons bit bs ih => exact fun t => by rw [List.foldl_cons, Nat.zero_testBit, if_neg Bool.false_ne_true, ih]

/-- The recorder's last state before the islands go off. -/
def lastLogged (s : State) : State :=
  let s1 := recordEvent s 0x8C09 (stagedTotal s) 0 0
  let s2 := recordEvent s1 0x8C01 0 s.mode.num (s.regField R.PWR_WAKE_CAUSE 6 0)
  let s3 := refreshLog (checkpoint s2) { kind := 5, value := s2.reg R.PWR_RTC }
  flushRecords (if s3.recorder.compat then 50 else 20) s3

theorem logged_lastLogged : Logged s (lastLogged s) := by
  unfold lastLogged
  exact ((logged_recordEvent.trans logged_recordEvent).trans logged_checkpoint).nor.trans (logged_flushRecords _ _)

/-- The recorder's last state, with the address kept for KEEP_ALIVE. -/
def addressed (s : State) : State := (lastLogged s).setRegField R.PWR_KEEPALIVE 23 8 s.fabric.addr

/-- The state that goes off: the FIFO is empty. -/
def lastState (s : State) : State := { addressed s with recorder := { (addressed s).recorder with fifo := [], bodyDone := false } }

theorem logged_lastState : Logged s (lastState s) := logged_lastLogged.regs.recorder

/-- The state of DORMANT, with every island but MOONSTONE off. -/
def dormantOff (s : State) : State :=
  let t := offState (lastState s) true
  { t with mode := .dormant, moon := { t.moon with fifoLost := (lastLogged s).recorder.fifo.length, wakeLatched := 0,
                                                   idHash := idHash s, keepaliveUp := (addressed s).regField R.PWR_KEEPALIVE 7 0 } }

theorem enterDormant_eq : enterDormant s =
    (List.range 6).foldl (fun t bit => if s.moon.wakeLatched.testBit bit then qualify t bit else t) (dormantOff s) := by
  simp only [enterDormant, dormantOff, lastState, addressed, lastLogged]

theorem enterDormant_of_unlatched (hlatched : s.moon.wakeLatched = 0) : enterDormant s = dormantOff s := by
  rw [enterDormant_eq, hlatched, foldl_qualify_of_none]

/-- The state in which all islands but MOONSTONE are off, with what MOONSTONE and the fuses kept. -/
structure Off (s u : State) : Prop where
  deferred : u.moon.deferred = none
  slots : u.slots = []
  jobs : u.jobs = []
  salt : u.moon.salt = s.moon.salt
  imageValid : u.moon.imageValid = s.moon.imageValid
  fuses : u.fuses = s.fuses

theorem Off.of_logged (h : Logged s t) (h' : Off t u) : Off s u :=
  ⟨h'.deferred, h'.slots, h'.jobs, h'.salt.trans h.salt,
    h'.imageValid.trans h.imageValid, h'.fuses.trans h.fuses⟩

theorem off_offState {warm : Bool} : Off s (offState s warm) where
  deferred := by rw [offState_moon]
  slots := rfl
  jobs := rfl
  salt := by rw [offState_moon]
  imageValid := by rw [offState_moon]
  fuses := offState_fuses warm

theorem off_dormantOff : Off s (dormantOff s) where
  deferred := by simp only [dormantOff, offState_moon]
  slots := by simp only [dormantOff, off_offState.slots]
  jobs := by simp only [dormantOff, off_offState.jobs]
  salt := by
    simp only [dormantOff, offState_moon]
    exact logged_lastState.salt
  imageValid := by
    simp only [dormantOff, offState_moon]
    exact logged_lastState.imageValid
  fuses := by
    simp only [dormantOff, offState_fuses]
    exact logged_lastState.fuses

theorem dormantTaken_dormantOff : (dormantOff s).moon.dormantTaken = false := by
  simp only [dormantOff, offState_moon]

/-- A device restart enters STARTUP with every island but MOONSTONE switched off (R300). -/
theorem off_deviceRestart : Off s (deviceRestart s) := by
  have hoff : Off s { offState s true with mode := s.mode } :=
    let ⟨hdeferred, hslots, hjobs, hsalt, himage, hfuses⟩ := off_offState (s := s) (warm := true)
    ⟨hdeferred, hslots, hjobs, hsalt, himage, hfuses⟩
  have hstore : (deviceRestart s).store = State.store { offState s true with mode := s.mode } := store_enterStartup
  refine ⟨(congrArg (·.deferred) hstore).trans hoff.deferred, ?_, ?_, (congrArg (·.salt) hstore).trans hoff.salt,
    (congrArg (·.imageValid) hstore).trans hoff.imageValid, ?_⟩
  · rw [deviceRestart, enterStartup_slots, hoff.slots]
  · rw [deviceRestart, enterStartup_jobs, hoff.jobs]
  · rw [deviceRestart, enterStartup_fuses, hoff.fuses]

/-! #### The rows that begin what waited -/

/-- The row that ends a wait for an ACK: the ACK in DONE, or 100 ms without one. -/
def EndsWait (s : State) (i : Instr) (b : BindId) (irq : Bool) : Prop :=
  i = .doneTimeout ∨ i = .mbxAck b false irq ∧ bindLive s b = true ∧ (s.mbx b).state = .done

theorem logged_capture {ty island : Nat} {body : List Nat} : Logged s (capture s ty island body) :=
  ⟨capture_fuses .., store_capture⟩

theorem logged_setMbx {m : Mailbox} : Logged s (s.setMbx b m) := ⟨setMbx_fuses .., store_of_moon (setMbx_moon ..)⟩

theorem logged_ctrlTaken {ack abort go : Bool} : Logged s (ctrlTaken s b ack abort go irq) :=
  (logged_capture.trans logged_capture).trans logged_setMbx

theorem logged_ackClear : Logged s (ackClear s b) := by
  unfold ackClear
  dsimp only
  split <;> exact logged_setMbx

theorem exec_endsWait {w : AfterDone} (hwait : s.moon.deferred = some (b, w)) (hrow : EndsWait s i b irq) :
    ∃ t, exec i s = .next (runDeferred t w) ∧ Logged s t := by
  obtain rfl | ⟨rfl, hlive, hdone⟩ := hrow
  · have hexec : doneTimeout s = runDeferred (timerTaken s 14) w := by rw [doneTimeout, hwait]
    exact ⟨_, congrArg Host.Outcome.next hexec, timerTaken_fuses .., store_capture⟩
  · have hstate : ((ctrlTaken s b true false false irq).mbx b).state = .done := by rw [mbx_ctrlTaken]; exact hdone
    have hexec : ctrlWrite s b true false false irq = runDeferred (ackClear (ctrlTaken s b true false false irq) b) w := by
      have hact : ackAct (ctrlTaken s b true false false irq) b =
          runDeferred (ackClear (ctrlTaken s b true false false irq) b) w := by
        simp only [ackAct, deferred_ctrlTaken, hwait, hstate, and_self, if_true]
      simp [ctrlWrite_of_live hlive, hact]
    exact ⟨_, congrArg Host.Outcome.next hexec, logged_ctrlTaken.trans logged_ackClear⟩

/-- The state in which nothing waits for an ACK any more. -/
def undeferred (s : State) : State := { s with moon := { s.moon with deferred := none, dormantTaken := false } }

theorem exec_deferredDormant (hwait : s.moon.deferred = some (b, .dormant)) (hlatched : s.moon.wakeLatched = 0)
    (hrow : EndsWait s i b irq) : ∃ t, exec i s = .next (dormantOff t) ∧ Off s (dormantOff t) := by
  obtain ⟨t, hexec, ht⟩ := exec_endsWait hwait hrow
  have hlatched' : (undeferred t).moon.wakeLatched = 0 := ht.wakeLatched.trans hlatched
  obtain ⟨hdeferred, hslots, hjobs, hsalt, himage, hfuses⟩ := off_dormantOff (s := undeferred t)
  refine ⟨undeferred t, hexec.trans (congrArg Host.Outcome.next (enterDormant_of_unlatched hlatched')), .of_logged ht ?_⟩
  exact ⟨hdeferred, hslots, hjobs, hsalt, himage, hfuses⟩

theorem exec_deferredRestart (hwait : s.moon.deferred = some (b, .restart)) (hrow : EndsWait s i b irq) :
    ∃ u, exec i s = .next u ∧ u.mode = .startup ∧ Off s u := by
  obtain ⟨t, hexec, ht⟩ := exec_endsWait hwait hrow
  obtain ⟨hdeferred, hslots, hjobs, hsalt, himage, hfuses⟩ :=
    off_deviceRestart (s := { t with moon := { t.moon with deferred := none } })
  exact ⟨_, hexec, enterStartup_mode, .of_logged ht ⟨hdeferred, hslots, hjobs, hsalt, himage, hfuses⟩⟩

end Sys2Proof.Machine
end
section
/-! ### What an entry of the image restores (R297): of the state it reads the key store and the tenants alone. -/

namespace Sys2Proof.Machine

variable {s t : State} {j : Job} {n half code seq l : Nat} {f : LineFault} {h : SlotHalf} {pend : Bool}

/-- Two states with the same key store and the same tenants. -/
structure SameKeys (s t : State) : Prop where
  slots : t.slots = s.slots
  mem : t.mem = s.mem
  tenants : t.tenants = s.tenants

theorem sameKeys_refl : SameKeys s s := ⟨rfl, rfl, rfl⟩

theorem SameKeys.slot (hs : SameKeys s t) (n : Nat) : t.slot n = s.slot n := by rw [State.slot, hs.slots, State.slot]

theorem SameKeys.slotKey (hs : SameKeys s t) (n : Nat) : slotKey t n = slotKey s n := by
  rw [Machine.slotKey, hs.slot, Machine.slotKey]

theorem SameKeys.tenUsed (hs : SameKeys s t) (n : Nat) : tenUsed t n = tenUsed s n := by
  simp only [Machine.tenUsed, State.ten, hs.tenants]

theorem SameKeys.recordsUsed (hs : SameKeys s t) : recordsUsed t = recordsUsed s := by
  rw [Machine.recordsUsed, hs.slots, Machine.recordsUsed]

theorem SameKeys.recordFault (hs : SameKeys s t) (h : SlotHalf) : recordFault t h = recordFault s h := by
  simp only [Machine.recordFault, hs.mem]

theorem SameKeys.recordWrite (hs : SameKeys s t) (skip : List Nat) (bs hash : Bytes) :
    (recordWrite t skip bs hash).2 = (recordWrite s skip bs hash).2 ∧
      SameKeys (recordWrite s skip bs hash).1 (recordWrite t skip bs hash).1 := by
  have hused : handlesUsed t = handlesUsed s := by rw [handlesUsed, hs.slots, handlesUsed]
  simp only [Machine.recordWrite, hused, hs.mem, true_and]
  exact ⟨hs.slots, rfl, hs.tenants⟩

theorem SameKeys.storeRecords (hs : SameKeys s t) (h : SlotHalf) :
    (storeRecords t h).2 = (storeRecords s h).2 ∧ SameKeys (storeRecords s h).1 (storeRecords t h).1 := by
  have hkey : recordKey t = recordKey s := by rw [recordKey, hs.slot, recordKey]
  obtain ⟨hmat, hmatKeys⟩ := hs.recordWrite [] (kwpWrap (recordKey s) h.material) (sha384 (kwpWrap (recordKey s) h.material))
  by_cases hlong : h.material.length > 64
  · by_cases hpub : h.pubKey = []
    · simp [Machine.storeRecords, hkey, hlong, hpub, hmat, hmatKeys]
    · obtain ⟨hboth, hbothKeys⟩ := hmatKeys.recordWrite [(Machine.recordWrite s [] (kwpWrap (recordKey s) h.material)
        (sha384 (kwpWrap (recordKey s) h.material))).2.handle] h.pubKey []
      simp [Machine.storeRecords, hkey, hlong, hpub, hmat, hboth, hbothKeys]
  · by_cases hpub : h.pubKey = []
    · simp [Machine.storeRecords, hlong, hpub, hs]
    · obtain ⟨hpubRecord, hpubKeys⟩ := hs.recordWrite [] h.pubKey []
      simp [Machine.storeRecords, hlong, hpub, hpubRecord, hpubKeys]

theorem SameKeys.setSlot (hs : SameKeys s t) (n : Nat) (v : Slot) : SameKeys (s.setSlot n v) (t.setSlot n v) :=
  ⟨by rw [setSlot_slots, setSlot_slots, hs.slots], hs.mem, hs.tenants⟩

theorem SameKeys.touched (hs : SameKeys s t) : SameKeys (touched s n pend code seq) (touched t n pend code seq) := by
  unfold Machine.touched
  split
  · obtain ⟨hslots, hmem, htenants⟩ := hs.setSlot n { s.slot n with lastOrder := code, changes := (s.slot n).changes + 1 }
    rw [hs.slot]
    exact ⟨hslots, hmem, htenants⟩
  · exact ⟨hs.slots, hs.mem, hs.tenants⟩

theorem SameKeys.writeHalf (hs : SameKeys s t) : SameKeys (writeHalf s n half code seq h) (writeHalf t n half code seq h) := by
  obtain ⟨hhalf, hstored⟩ := hs.storeRecords h
  simp only [Machine.writeHalf]
  split
  · rw [hs.slot]
    exact (hs.setSlot n _).touched
  · rw [hhalf, hstored.slot]
    exact (hstored.setSlot n _).touched

theorem SameKeys.recordEvent {c p0 p1 p2 : Nat} (hs : SameKeys s t) :
    SameKeys (recordEvent s c p0 p1 p2) (recordEvent t c p0 p1 p2) := by
  constructor
  · simp [hs.slots]
  · simp [hs.mem]
  · simp [hs.tenants]

theorem SameKeys.memError (hs : SameKeys s t) : SameKeys (memError s j l f) (memError t j l f) := by
  constructor
  · simp [Machine.memError, hs.slots]
  · simp [Machine.memError, hs.mem]
  · simp [Machine.memError, hs.tenants]

/-- Two stages of a restore with the same counts, in states with the same key store and tenants. -/
def SameRestore (x y : State × Nat × Nat) : Prop := y.2 = x.2 ∧ SameKeys x.1 y.1

theorem SameKeys.restore (hs : SameKeys s t) (c : Nat × Nat) : SameRestore (s, c) (t, c) := ⟨rfl, hs⟩

theorem SameRestore.ite {c : Prop} [Decidable c] {x y x' y' : State × Nat × Nat} (h : SameRestore x y) (h' : SameRestore x' y') :
    SameRestore (if c then x else x') (if c then y else y') := by
  split
  · exact h
  · exact h'

theorem SameKeys.restoreEntry (hs : SameKeys s t) (ok bad : Nat) (e : Nat × Nat × Bytes) :
    SameRestore (restoreEntry j (s, ok, bad) e) (restoreEntry j (t, ok, bad) e) := by
  simp only [Machine.restoreEntry, hs.slot, hs.slotKey, hs.tenUsed, hs.recordsUsed, hs.recordFault, (hs.storeRecords _).1]
  refine .ite ?_ (hs.recordEvent.restore _)
  split
  · exact hs.memError.recordEvent.restore _
  · exact hs.writeHalf.restore _

/-- An image restores the same keys, and as many, whatever else the device holds. -/
theorem SameRestore.foldl (es : List (Nat × Nat × Bytes)) : ∀ {x y : State × Nat × Nat}, SameRestore x y →
    SameRestore (es.foldl (restoreEntry j) x) (es.foldl (restoreEntry j) y) := by
  induction es with
  | nil => exact id
  | cons e es ih =>
    rintro ⟨s, ok, bad⟩ ⟨t, -⟩ ⟨rfl, hkeys⟩
    exact ih (hkeys.restoreEntry ok bad e)

/-! #### MOONSTONE stays as it is -/

theorem store_storeRecords : (storeRecords s h).1.store = s.store := by
  unfold storeRecords
  dsimp only
  split <;> split <;> rfl

theorem store_touched : (touched s n pend code seq).store = s.store := by
  unfold touched
  split <;> rfl

theorem store_writeHalf : (writeHalf s n half code seq h).store = s.store := by
  by_cases hpool : n < 2
  · simp only [writeHalf, if_pos hpool, store_touched]
    rfl
  · simp only [writeHalf, if_neg hpool, store_touched]
    exact store_storeRecords

theorem store_memError : (memError s j l f).store = s.store := store_takeEvent

theorem store_restoreEntry (x : State × Nat × Nat) (e : Nat × Nat × Bytes) : (restoreEntry j x e).1.store = x.1.store := by
  unfold restoreEntry
  refine iteInduction (motive := fun y : State × Nat × Nat => y.1.store = x.1.store) (fun _ => ?_) (fun _ => store_recordEvent)
  split
  · exact store_recordEvent.trans store_memError
  · exact store_writeHalf

theorem store_restored (es : List (Nat × Nat × Bytes)) : ∀ x : State × Nat × Nat,
    (es.foldl (restoreEntry j) x).1.store = x.1.store := by
  induction es with
  | nil => exact fun _ => rfl
  | cons e es ih => exact fun x => (ih _).trans (store_restoreEntry x e)

end Sys2Proof.Machine
end

section
/-! ### PWR_IMAGE_RESTORE and PWR_IMAGE_DISCARD (R296, R297) -/

namespace Sys2Proof.Machine

variable {s u : State} {b : BindId} {j : Job} {es : List (Nat × Nat × Bytes)}

/-- The state in which the record of the image is gone. -/
def imageGone (s : State) : State := { s with moon := { s.moon with imageValid := false } }

theorem exec_imageRestore_stale (hr : Runs s (.mailbox b) C.PWR_IMAGE_RESTORE 1 j) (hp : Plain j)
    (hvalid : s.moon.imageValid = true) (hdigest : sha384 (j.data.headD []) ≠ s.moon.imageDigest) :
    ∃ u, exec (.pwrImageRestore (.mailbox b)) s = .next u ∧ Ends u b S.E_IMAGE_STALE [] ∧ u.moon.imageValid = true := by
  have hstage : ¬ j.stage = 0 := by simp [hr.stage]
  have hhas : ¬ (freeSched s (.mailbox b)).moon.imageValid = false := by simp [hvalid]
  have hstale : sha384 (j.data.headD []) ≠ (freeSched s (.mailbox b)).moon.imageDigest ∨
      u32 (j.data.headD []) 12 ≠ (freeSched s (.mailbox b)).moon.dseq := .inl (by simpa using hdigest)
  have hkept := imageKept_dropWith (s := freeSched s (.mailbox b)) (st := S.E_IMAGE_STALE) hr.origin hp
  have hexec : imageRestore j (freeSched s (.mailbox b)) = dropWith (freeSched s (.mailbox b)) j S.E_IMAGE_STALE := by
    simp only [imageRestore, if_neg hstage, if_neg hhas, if_pos hstale]
  exact ⟨_, congrArg Host.Outcome.next ((runCommand_runs hr imageRestore).trans hexec), dropWith_ends hr.origin hp,
    hkept.valid.trans hvalid⟩

/-- An image with the digest and the number held is restored, and its record is gone. -/
theorem exec_imageRestore_restores (hr : Runs s (.mailbox b) C.PWR_IMAGE_RESTORE 1 j) (hp : Plain j)
    (hvalid : s.moon.imageValid = true) (hseq : u32 (j.data.headD []) 12 = s.moon.dseq)
    (hdigest : sha384 (j.data.headD []) = s.moon.imageDigest) (hparse : imageParse s (j.data.headD []) = some es) :
    ∃ u, exec (.pwrImageRestore (.mailbox b)) s = .next u ∧
      Ends u b S.OK (leBytes 4 (es.foldl (restoreEntry j) (s, 0, 0)).2.1 ++
        leBytes 4 (es.foldl (restoreEntry j) (s, 0, 0)).2.2 ++ leBytes 4 s.moon.dseq ++ zeros 4) ∧
      u.moon.imageValid = false ∧ u.moon.dseq = s.moon.dseq ∧ u.slots = (es.foldl (restoreEntry j) (s, 0, 0)).1.slots := by
  have hstage : ¬ j.stage = 0 := by simp [hr.stage]
  have hhas : ¬ s.moon.imageValid = false := by simp [hvalid]
  have hfresh : ¬ (sha384 (j.data.headD []) ≠ s.moon.imageDigest ∨ u32 (j.data.headD []) 12 ≠ s.moon.dseq) :=
    fun h => h.elim (· hdigest) (· hseq)
  have hparse' : imageParse (freeSched s (.mailbox b)) (j.data.headD []) = some es := hparse
  obtain ⟨hcounts, hkeys⟩ := SameRestore.foldl (j := j) es
    (x := (s, 0, 0)) (y := (freeSched s (.mailbox b), 0, 0)) ⟨rfl, rfl, rfl, rfl⟩
  have hstore := store_restored (j := j) es (freeSched s (.mailbox b), 0, 0)
  generalize hx : es.foldl (restoreEntry j) (freeSched s (.mailbox b), 0, 0) = x at hcounts hkeys hstore
  generalize hk : { j with committed := true } = k
  have ho : k.origin = .mailbox b := by rw [← hk, ← hr.origin]
  have hkp : Plain k := by rw [← hk]; exact hp
  have hexec : imageRestore j (freeSched s (.mailbox b)) =
      okJob (imageGone x.1) k (leBytes 4 x.2.1 ++ leBytes 4 x.2.2 ++ leBytes 4 s.moon.dseq ++ zeros 4) := by
    simp only [imageRestore, if_neg hstage, freeSched_moon, if_neg hhas, if_neg hfresh, hparse', hx, hk, imageGone]
  have hend := imageKept_of_store (store_okJob (s := imageGone x.1)
    (res := leBytes 4 x.2.1 ++ leBytes 4 x.2.2 ++ leBytes 4 s.moon.dseq ++ zeros 4) ho hkp)
  refine ⟨_, congrArg Host.Outcome.next ((runCommand_runs hr imageRestore).trans hexec), ?_, ?_, ?_, ?_⟩
  · rw [← hcounts]
    exact okJob_ends ho hkp _
  · rw [hend.valid]
    rfl
  · rw [hend.dseq]
    exact (imageKept_of_store hstore).dseq
  · rw [okJob_slots, ← hkeys.slots]
    rfl

theorem exec_imageRestore_reads (hr : Runs s (.mailbox b) C.PWR_IMAGE_RESTORE 0 j) (hvalid : s.moon.imageValid = true)
    (hkeyed : s.keyed = true) (href : refCheck s j (hostRef j.ops 0) 64 maxLen = none) (hready : ReadReady s j (hostRef j.ops 0)) :
    ∃ u, exec (.pwrImageRestore (.mailbox b)) s = .next u ∧
      readMsg s (dmaBind s j (hostRef j.ops 0).port) (hostRef j.ops 0).addr (hostRef j.ops 0).len ∈ u.out ∧
      u.moon.imageValid = true ∧ u.slots = s.slots := by
  have href' : refCheck (freeSched s (.mailbox b)) j (hostRef j.ops 0) 64 maxLen = none := href
  have hready' : ReadReady (freeSched s (.mailbox b)) j (hostRef j.ops 0) := ⟨hready.dma, hready.tag⟩
  have hread : imageRestore j (freeSched s (.mailbox b)) = readOrEnd (freeSched s (.mailbox b)) j [hostRef j.ops 0] := by
    simp [imageRestore, hr.stage, hvalid, hkeyed, href', firstFail, failIf]
  refine ⟨_, congrArg Host.Outcome.next ((runCommand_runs hr imageRestore).trans hread), ?_⟩
  rw [readOrEnd, issueReads_of_ready hready']
  exact ⟨List.mem_append_right _ List.mem_cons_self, hvalid, rfl⟩

theorem exec_imageDiscard (hr : Runs s (.mailbox b) C.PWR_IMAGE_DISCARD 0 j) (hp : Plain j) (hvalid : s.moon.imageValid = true) :
    ∃ u, exec (.pwrImageDiscard (.mailbox b)) s = .next u ∧ Ends u b S.OK [] ∧
      u.moon.imageValid = false ∧ u.moon.dseq = s.moon.dseq ∧ u.slots = s.slots := by
  generalize hk : { j with committed := true } = k
  have ho : k.origin = .mailbox b := by rw [← hk, ← hr.origin]
  have hkp : Plain k := by rw [← hk]; exact hp
  have hexec : imageDiscard j (freeSched s (.mailbox b)) = okJob (imageGone (freeSched s (.mailbox b))) k [] := by
    rw [imageDiscard, if_pos (by simpa using hvalid), hk, imageGone]
  have hend := imageKept_of_store (store_okJob (s := imageGone (freeSched s (.mailbox b))) (res := []) ho hkp)
  exact ⟨_, congrArg Host.Outcome.next ((runCommand_runs hr imageDiscard).trans hexec), okJob_ends ho hkp [], hend.valid,
    hend.dseq, okJob_slots ..⟩

theorem exec_imageDiscard_none (hr : Runs s (.mailbox b) C.PWR_IMAGE_DISCARD 0 j) (hp : Plain j)
    (hvalid : s.moon.imageValid = false) :
    ∃ u, exec (.pwrImageDiscard (.mailbox b)) s = .next u ∧ Ends u b S.E_NO_IMAGE [] ∧ u.moon.dseq = s.moon.dseq := by
  have hexec : imageDiscard j (freeSched s (.mailbox b)) = dropWith (freeSched s (.mailbox b)) j S.E_NO_IMAGE :=
    if_neg (by simp [hvalid])
  have hkept := imageKept_dropWith (s := freeSched s (.mailbox b)) (st := S.E_NO_IMAGE) hr.origin hp
  exact ⟨_, congrArg Host.Outcome.next ((runCommand_runs hr imageDiscard).trans hexec), dropWith_ends hr.origin hp, hkept.dseq⟩

end Sys2Proof.Machine
end

section
open Sys2Proof.Machine

/-- Settles O37, by what the commit point stores in MOONSTONE and ends, by what the switch-off keeps of it, and by what of the
state an image's entries are restored from. -/
theorem dormantEntryAndImage : Obligations.DormantEntryAndImage := by
  refine ⟨?_, ?_, ?_, ?_, fun _ _ _ hr hp hvalid hdigest => exec_imageRestore_stale hr hp hvalid hdigest,
    fun _ _ _ _ hr hp hvalid hseq hdigest hparse => exec_imageRestore_restores hr hp hvalid hseq hdigest hparse,
    fun _ _ _ hr hvalid hkeyed href hdma htag => exec_imageRestore_reads hr hvalid hkeyed href ⟨hdma, htag⟩,
    fun _ _ _ hr hp hvalid => exec_imageDiscard hr hp hvalid, fun _ _ _ hr hp hvalid => exec_imageDiscard_none hr hp hvalid⟩
  · intro s b j hr hp hready hkeyed href hlen
    obtain ⟨u, hexec, hu⟩ := exec_pwrDormant_unkeyed hr hp hready hkeyed href hlen
    have hmoon := committedMoon_of_unkeyed (s := dormantBegun s (.mailbox b)) hkeyed
    have hends := hu.ends
    rw [hmoon] at hends
    refine ⟨u, hexec, hends, hu.deferred, ?_, ?_, hu.mode, hu.pending⟩
    · rw [hu.dormantTaken, hmoon]
      rfl
    · rw [hu.imageValid, hmoon]
  · intro s b j hr hp hkeyed
    obtain ⟨u, hexec, hu⟩ := exec_pwrDormant_written hr hp
    have hmoon := committedMoon_of_keyed (s := freeSched s (.mailbox b)) hkeyed
    have hends := hu.ends
    rw [hmoon] at hends
    refine ⟨u, hexec, hu.deferred, hends, ?_, ?_, ?_, hu.pending⟩
    · rw [hu.imageValid, hmoon]
    · rw [hu.dseq, hmoon]
      rfl
    · rw [hu.imageDigest, hmoon]
      rfl
  · intro s i b irq hwait hlatched hrow
    obtain ⟨t, hexec, hoff⟩ := exec_deferredDormant hwait hlatched hrow
    exact ⟨_, hexec, rfl, hoff.deferred, dormantTaken_dormantOff, hoff.slots, rfl, rfl, hoff.jobs, hoff.salt, hoff.imageValid,
      hoff.fuses⟩
  · intro s i b irq hwait hrow
    obtain ⟨u, hexec, hmode, hoff⟩ := exec_deferredRestart hwait hrow
    exact ⟨u, hexec, hmode, hoff.deferred, hoff.slots, hoff.jobs, hoff.salt, hoff.fuses⟩

end

section
/-! ### A link whose queue is empty (R405, R414, R416): the operations of the route engine on it are single writes of its
entry. -/

namespace Sys2Proof.Machine

variable {s t u : State} {l : Nat} {k k' : Link} {f g : Frame} {bad ev : Bool}

/-- From `s` to `t` link `l` becomes `k`: no other link changes, nor the fabric's state, the slots, the mode or a command. -/
structure LinkBecomes (s t : State) (l : Nat) (k : Link) : Prop where
  link : t.link l = k
  others : ∀ x, x ≠ l → t.link x = s.link x
  fabric : t.fabric = s.fabric
  slots : t.slots = s.slots
  mode : t.mode = s.mode
  jobs : t.jobs = s.jobs

theorem linkBecomes_refl : LinkBecomes s s l (s.link l) := ⟨rfl, fun _ _ => rfl, rfl, rfl, rfl, rfl⟩

theorem LinkBecomes.trans (h : LinkBecomes s t l k) (h' : LinkBecomes t u l k') : LinkBecomes s u l k' :=
  ⟨h'.link, fun x hx => (h'.others x hx).trans (h.others x hx), h'.fabric.trans h.fabric, h'.slots.trans h.slots,
    h'.mode.trans h.mode, h'.jobs.trans h.jobs⟩

theorem linkBecomes_setLink : LinkBecomes s (s.setLink l k) l k :=
  ⟨link_setLink_self .., fun _ hx => link_setLink_of_ne _ _ hx, rfl, rfl, rfl, rfl⟩

theorem linkBecomes_recordEvent {c p0 p1 p2 : Nat} : LinkBecomes s (recordEvent s c p0 p1 p2) l (s.link l) := by
  constructor <;> simp [State.link]

theorem linkBecomes_capture {ty island : Nat} {body : List Nat} : LinkBecomes s (capture s ty island body) l (s.link l) := by
  constructor <;> simp [State.link]

theorem linkBecomes_send {m : Msg} : LinkBecomes s (s.send m) l (s.link l) := ⟨rfl, fun _ _ => rfl, rfl, rfl, rfl, rfl⟩

/-- The entry of a link without a frame to hand back (R416). -/
def handedNone (k : Link) : Link := { k with handedBack := satAdd 16 k.handedBack 0 }

theorem handBack_of_empty (hqueue : (s.link l).queue = []) : handBack s l = s.setLink l (handedNone (s.link l)) := by
  simp [handBack, hqueue, handedNone]

theorem linkBecomes_handBack (hqueue : (s.link l).queue = []) : LinkBecomes s (handBack s l) l (handedNone (s.link l)) := by
  rw [handBack_of_empty hqueue]
  exact linkBecomes_setLink

theorem linkBecomes_linkTo {st : LinkState} (hqueue : (s.link l).queue = []) :
    LinkBecomes s (linkTo s l st ev) l (handedNone { s.link l with state := st }) := by
  have hset := linkBecomes_setLink (s := s) (l := l) (k := { s.link l with state := st })
  unfold linkTo
  cases ev with
  | false =>
    have hback := linkBecomes_handBack (s := s.setLink l { s.link l with state := st }) (l := l) (by simpa using hqueue)
    rw [hset.link] at hback
    exact hset.trans hback
  | true =>
    have hevent := hset.trans (linkBecomes_recordEvent (c := 0x8E01) (p0 := l) (p1 := st.num)
      (p2 := ((s.setLink l { s.link l with state := st }).link l).err))
    rw [hset.link] at hevent
    have hback := linkBecomes_handBack (by rw [hevent.link]; exact hqueue)
    rw [hevent.link] at hback
    exact hevent.trans hback

/-- An ACTIVE link enters QUARANTINED. -/
theorem linkBecomes_quarantineLink (hqueue : (s.link l).queue = []) :
    LinkBecomes s (quarantineLink s l) l (handedNone { s.link l with
      err := 256, goodBeacons := 0, quarTrained := false, quarantines := satInc 8 (s.link l).quarantines, state := .quarantined }) := by
  have hset := linkBecomes_setLink (s := s) (l := l) (k := { s.link l with
    err := 256, goodBeacons := 0, quarTrained := false, quarantines := satInc 8 (s.link l).quarantines })
  have hto := linkBecomes_linkTo (st := .quarantined) (ev := true) (by rw [hset.link]; exact hqueue)
  rw [hset.link] at hto
  exact hset.trans hto

/-- A link that runs well stays ACTIVE. -/
theorem settleLink_of_active (hstate : (s.link l).state = .active) (herr : (s.link l).err < 128)
    (hpartner : (s.link l).partnerState = 5) : settleLink s l = handBack s l := by
  have hquarantined : ¬ (s.link l).err ≥ 256 := by omega
  have hdegraded : ¬ (s.link l).err ≥ 128 := by omega
  simp [settleLink, hstate, hquarantined, hdegraded, hpartner]

/-! #### Error accounting -/

/-- The entry of an ACTIVE link after a frame is accounted for (R405, R414). -/
def accounted (k : Link) (f : Frame) (bad : Bool) : Link :=
  let k1 := { k with fecCorrected := satAdd 32 k.fecCorrected f.fec.1, fecUncorrectable := satAdd 32 k.fecUncorrectable f.fec.2,
                     bad := if bad then satInc 32 k.bad else k.bad,
                     err := if k.state = .quarantined then 256 else if bad then min 256 (k.err + 8) else k.err - 1,
                     goodBeacons := if bad && f.ty == 1 then 0 else k.goodBeacons }
  if bad || !f.sealed || k.level == 0 || f.ty == 2 then k1
  else if f.keyPhase = k.keyPhase then { k1 with rxLseq := f.lseq } else { k1 with oldRxLseq := f.lseq }

/-- `k'` differs from `k` in counters alone: FEC, BAD, the counter of R414, beacons, LSEQ received, frames handed back. -/
def Counted (k k' : Link) : Prop :=
  ∃ fc fu bd er gb rx ox hb, k' = { k with fecCorrected := fc, fecUncorrectable := fu, bad := bd, err := er, goodBeacons := gb,
                                           rxLseq := rx, oldRxLseq := ox, handedBack := hb }

theorem counted_accounted : Counted k (handedNone (accounted k f bad)) := by
  unfold accounted
  dsimp only
  split
  · exact ⟨_, _, _, _, _, _, _, _, rfl⟩
  · split
    · exact ⟨_, _, _, _, _, _, _, _, rfl⟩
    · exact ⟨_, _, _, _, _, _, _, _, rfl⟩

theorem accountFrame_eq : accountFrame s l f bad = settleLink (s.setLink l (accounted (s.link l) f bad)) l := rfl

theorem linkBecomes_accountFrame (hstate : (s.link l).state = .active) (hqueue : (s.link l).queue = [])
    (hpartner : (s.link l).partnerState = 5) (herr : (handedNone (accounted (s.link l) f bad)).err < 128) :
    LinkBecomes s (accountFrame s l f bad) l (handedNone (accounted (s.link l) f bad)) := by
  have hset := linkBecomes_setLink (s := s) (l := l) (k := accounted (s.link l) f bad)
  obtain ⟨_, _, _, _, _, _, _, _, heq⟩ := counted_accounted (k := s.link l) (f := f) (bad := bad)
  have hstate' : (accounted (s.link l) f bad).state = .active := (congrArg (·.state) heq).trans hstate
  have hqueue' : (accounted (s.link l) f bad).queue = [] := (congrArg (·.queue) heq).trans hqueue
  have hpartner' : (accounted (s.link l) f bad).partnerState = 5 := (congrArg (·.partnerState) heq).trans hpartner
  rw [accountFrame_eq, settleLink_of_active (by rw [hset.link, hstate']) (by rw [hset.link]; exact herr)
    (by rw [hset.link, hpartner'])]
  have hback := linkBecomes_handBack (by rw [hset.link, hqueue'])
  rw [hset.link] at hback
  exact hset.trans hback

theorem err_accounted_good (hstate : k.state = .active) (herr : k.err = 0) :
    (handedNone (accounted k f false)).err = 0 := by
  simp only [handedNone, accounted, hstate]
  split
  · simp [herr]
  · split
    · simp [herr]
    · simp [herr]

theorem accounted_bad (hstate : k.state = .active) (herr : k.err = 0) :
    (handedNone (accounted k f true)).err = 8 ∧ (handedNone (accounted k f true)).bad = satInc 32 k.bad ∧
      (handedNone (accounted k f true)).partner = k.partner := by
  simp [handedNone, accounted, hstate, herr]

/-! #### A frame on an undisturbed link -/

theorem Quiet.linkBecomes_good (h : Quiet s l) :
    ∃ k, LinkBecomes s (accountFrame s l f false) l k ∧ Counted (s.link l) k ∧ k.err = 0 := by
  obtain ⟨-, -, hstate, -, hqueue, herr, hpartner, -⟩ := h
  have hzero := err_accounted_good (f := f) hstate herr
  exact ⟨_, linkBecomes_accountFrame hstate hqueue hpartner (by rw [hzero]; decide), counted_accounted, hzero⟩

theorem Quiet.linkBecomes_bad (h : Quiet s l) :
    LinkBecomes s (accountFrame s l f true) l (handedNone (accounted (s.link l) f true)) := by
  obtain ⟨-, -, hstate, -, hqueue, herr, hpartner, -⟩ := h
  exact linkBecomes_accountFrame hstate hqueue hpartner (by rw [(accounted_bad hstate herr).1]; decide)

theorem Quiet.listens (h : Quiet s l) : linkListens s l = true := by
  obtain ⟨hl, hmode, hstate, -⟩ := h
  simp [linkListens, hl, hmode, hstate, LinkState.num]

theorem leaveIsolation_of_not (h : s.fabric.isolated = false) : leaveIsolation s = s := if_neg (by simp [h])

/-- What a good frame has made of a state when it is acted on: it is accounted for and journalled. -/
def heard (s : State) (l : Nat) (f g : Frame) : State :=
  capture (accountFrame s l f false) 0x20 15 (l :: wordsOf (headerBytes g ++ g.payload))

theorem Quiet.linkBecomes_heard (h : Quiet s l) :
    ∃ k, LinkBecomes s (heard s l f g) l k ∧ Counted (s.link l) k ∧ k.err = 0 := by
  obtain ⟨k, hk, hcounted, herr⟩ := h.linkBecomes_good (f := f)
  refine ⟨k, ?_, hcounted, herr⟩
  have hcapture : LinkBecomes s (heard s l f g) l _ := hk.trans linkBecomes_capture
  rw [hk.link] at hcapture
  exact hcapture

/-- A good frame of its row's TYPE is acted on, in SERVICE, once it is accounted for and journalled. -/
theorem recvFrame_of_quiet {act : Frame → State → State} (h : Quiet s l) (hopen : openFrame s l f = some g) :
    recvFrame s l f.ty f act = act g (heard s l f g) := by
  obtain ⟨k, hk, -, -⟩ := h.linkBecomes_heard (f := f) (g := g)
  have hlistens := h.listens
  obtain ⟨-, hmode, -, -, -, -, -, hisolated⟩ := h
  have hdormant : ¬ s.mode = .dormant := by simp [hmode]
  have htaken : ¬ (linkListens s l = false ∨ f.ty ≠ f.ty) := by simp [hlistens]
  have hreplay : ¬ (s.mode = .replay ∧ f.ty ≠ 1 ∧ f.ty ≠ 0x10) := by simp [hmode]
  have hleave : leaveIsolation (heard s l f g) = heard s l f g := leaveIsolation_of_not (by rw [hk.fabric, hisolated])
  have hexit : hushExit (heard s l f g) = heard s l f g := hushExit_of_ne (by rw [hk.mode, hmode]; decide)
  rw [heard] at hleave hexit
  simp only [recvFrame, if_neg hdormant, if_neg htaken, hopen, if_neg hreplay, hleave, hexit, ite_self, heard]

theorem recvFrame_of_bad {act : Frame → State → State} (h : Quiet s l) (hopen : openFrame s l f = none) :
    recvFrame s l f.ty f act = accountFrame s l f true := by
  have hlistens := h.listens
  obtain ⟨-, hmode, -⟩ := h
  have hdormant : ¬ s.mode = .dormant := by simp [hmode]
  have htaken : ¬ (linkListens s l = false ∨ f.ty ≠ f.ty) := by simp [hlistens]
  simp only [recvFrame, if_neg hdormant, if_neg htaken, hopen]

/-- A good clear frame of a TYPE that need not be sealed is opened as it came. -/
theorem openFrame_of_clearGood (h : clearGood f = true) (hty : mustSeal f.ty = false) : openFrame s l f = some f := by
  simp only [clearGood, Bool.and_eq_true, Bool.not_eq_true'] at h
  obtain ⟨⟨⟨hline, hlen⟩, hsealed⟩, hrsvd⟩ := h
  simp [openFrame, hline, hlen, hsealed, hty, hrsvd]

theorem openFrame_of_broken (h : f.lineOk = false) : openFrame s l f = none := if_pos (.inl h)

/-- A disabled link receives nothing. -/
theorem recvFrame_of_disabled {ty : Nat} {act : Frame → State → State} (hstate : (s.link l).state = .disabled)
    (hmode : s.mode = .service) : recvFrame s l ty f act = s := by
  have hdormant : ¬ s.mode = .dormant := by simp [hmode]
  have hdeaf : linkListens s l = false := by simp [linkListens, hstate, LinkState.num]
  simp only [recvFrame, if_neg hdormant, if_pos (Or.inl hdeaf)]

end Sys2Proof.Machine
end

section
/-! ### Beacons and rates received (R401, R404, R414) -/

namespace Sys2Proof.Machine

variable {s t u : State} {l : Nat} {k : Link} {f g : Frame}

/-- The partner's fields that a beacon gives (R404). -/
def beaconed (k : Link) (p : Bytes) : Link :=
  { k with partner := u64 p 0, partnerState := u8 p 8 % 16, partnerAddr := u16 p 32, partnerKcv := u64 p 16,
           partnerUnkeyed := bitOf (u8 p 9) 1 }

theorem beaconLink_of_active (hstate : (s.link l).state = .active) : beaconLink s l f =
    if bitOf (u8 f.payload 9) 2 then quarantineLink (s.setLink l (beaconed (s.link l) f.payload)) l
    else settleLink (s.setLink l (beaconed (s.link l) f.payload)) l := by
  simp [beaconLink, hstate, beaconed]

theorem clash_of_unaddressed {id addr : Nat} : clash s id addr 0 = s := by simp [clash]

/-- A beacon on an ACTIVE link gives the partner's fields, and quarantines the link when the partner asks. -/
theorem linkBecomes_beaconLink (hstate : (s.link l).state = .active) (hqueue : (s.link l).queue = [])
    (herr : (s.link l).err = 0) (hpartner : u8 f.payload 8 % 16 = 5) :
    ∃ k, LinkBecomes s (beaconLink s l f) l k ∧ k.partner = u64 f.payload 0 ∧ k.partnerState = 5 ∧
      k.partnerAddr = u16 f.payload 32 ∧ k.partnerKcv = u64 f.payload 16 ∧
      k.state = (if bitOf (u8 f.payload 9) 2 then .quarantined else .active) ∧ k.level = (s.link l).level := by
  have hset := linkBecomes_setLink (s := s) (l := l) (k := beaconed (s.link l) f.payload)
  have hempty : ((s.setLink l (beaconed (s.link l) f.payload)).link l).queue = [] := by rw [hset.link]; exact hqueue
  rw [beaconLink_of_active hstate]
  by_cases hask : bitOf (u8 f.payload 9) 2 = true
  · have hquarantine := linkBecomes_quarantineLink hempty
    rw [hset.link] at hquarantine
    rw [if_pos hask, if_pos hask]
    exact ⟨_, hset.trans hquarantine, rfl, hpartner, rfl, rfl, rfl, rfl⟩
  · have hback := linkBecomes_handBack hempty
    rw [hset.link] at hback
    rw [if_neg hask, if_neg hask, settleLink_of_active (by rw [hset.link]; exact hstate)
      (by rw [hset.link]; exact Nat.lt_of_le_of_lt (Nat.le_of_eq herr) (by decide)) (by rw [hset.link]; exact hpartner)]
    exact ⟨_, hset.trans hback, rfl, hpartner, rfl, rfl, hstate, rfl⟩

theorem exec_beacon_good (h : Quiet s l) (hty : f.ty = 1) (hgood : clearGood f = true) (haddr : u8 f.payload 34 = 0)
    (hpartner : u8 f.payload 8 % 16 = 5) :
    ∃ u k, exec (.beacon l f) s = .next u ∧ LinkBecomes s u l k ∧ k.partner = u64 f.payload 0 ∧ k.partnerState = 5 ∧
      k.partnerAddr = u16 f.payload 32 ∧ k.partnerKcv = u64 f.payload 16 ∧
      k.state = (if bitOf (u8 f.payload 9) 2 then .quarantined else .active) ∧ k.level = 2 := by
  obtain ⟨k, hk, ⟨_, _, _, _, _, _, _, _, hcounted⟩, herr⟩ := h.linkBecomes_heard (f := f) (g := f)
  have hrecv := recvFrame_of_quiet (act := fun g s1 => clash (beaconLink s1 l g) (u64 g.payload 0) (u16 g.payload 32)
    (u8 g.payload 34)) h (openFrame_of_clearGood hgood (by rw [hty]; rfl))
  rw [hty, haddr, clash_of_unaddressed] at hrecv
  obtain ⟨-, -, hstate, hlevel, hqueue, -⟩ := h
  have hactive : k.state = .active := (congrArg (·.state) hcounted).trans hstate
  have hempty : k.queue = [] := (congrArg (·.queue) hcounted).trans hqueue
  have hsession : k.level = 2 := (congrArg (·.level) hcounted).trans hlevel
  rw [← hk.link] at hactive hempty herr hsession
  obtain ⟨k', hk', hpart, hstate', hpaddr, hkcv, hown, hlevel'⟩ := linkBecomes_beaconLink (f := f) hactive hempty herr hpartner
  exact ⟨_, k', congrArg Host.Outcome.next hrecv, hk.trans hk', hpart, hstate', hpaddr, hkcv, hown, hlevel'.trans hsession⟩

theorem exec_beacon_bad (h : Quiet s l) (hty : f.ty = 1) (hline : f.lineOk = false) :
    ∃ u, exec (.beacon l f) s = .next u ∧ (u.link l).bad = satInc 32 (s.link l).bad ∧ (u.link l).err = 8 ∧
      (u.link l).partner = (s.link l).partner ∧ u.fabric = s.fabric := by
  have hk := h.linkBecomes_bad (f := f)
  have hrecv := recvFrame_of_bad (act := fun g s1 => clash (beaconLink s1 l g) (u64 g.payload 0) (u16 g.payload 32)
    (u8 g.payload 34)) h (openFrame_of_broken hline)
  rw [hty] at hrecv
  obtain ⟨-, -, hstate, -, -, herr, -⟩ := h
  obtain ⟨herr', hbad, hpartner⟩ := accounted_bad (f := f) hstate herr
  exact ⟨_, congrArg Host.Outcome.next hrecv, by rw [hk.link, hbad], by rw [hk.link, herr'], by rw [hk.link, hpartner],
    hk.fabric⟩

/-! #### A request for KEEP_ALIVE -/

/-- The answer to a request for KEEP_ALIVE on a link. -/
def rateAnswer (s : State) (l : Nat) : Frame :=
  sealFrame (slotKey s (16 + 2 * l)) { ty := 3, sealed := true, lseq := (s.link l).txLseq + 1, keyPhase := (s.link l).keyPhase,
                                       payload := [1, 1] ++ zeros 30 }

/-- The state in which the partner's request for KEEP_ALIVE is answered. -/
def rateAnswered (s : State) (l : Nat) : State := sendRate (s.setLink l { s.link l with partnerKa := true }) l 1 1

theorem linkBecomes_rateAnswered : ∃ k, LinkBecomes s (rateAnswered s l) l k ∧ k.partnerKa = true ∧
    k.queue = (s.link l).queue ∧ .frame l (rateAnswer s l) ∈ (rateAnswered s l).out := by
  simp only [rateAnswered, sendRate, sendSealed, link_setLink_self]
  exact ⟨_, (linkBecomes_setLink.trans linkBecomes_setLink).trans (linkBecomes_setLink.trans linkBecomes_send), by simp, by simp,
    List.mem_append_right _ List.mem_cons_self⟩

/-- A link whose queue is empty follows a request for KEEP_ALIVE, and answers it. -/
theorem takeRate_keepAlive {p : Bytes} (hask : u8 p 0 = 1) (hrequest : u8 p 1 = 0) (hqueue : (s.link l).queue = []) :
    ∃ k, LinkBecomes s (takeRate s l p) l k ∧ k.partnerKa = true ∧ k.keepAlive = true ∧
      .frame l (rateAnswer s l) ∈ (takeRate s l p).out := by
  obtain ⟨k, hk, hka, hsame, hout⟩ := linkBecomes_rateAnswered (s := s) (l := l)
  have hempty := hsame.trans hqueue
  have htake : takeRate s l p = applyRate (rateAnswered s l) l := by simp [takeRate, hask, hrequest, rateAnswered]
  rw [htake]
  generalize rateAnswered s l = t at hk hout
  cases hkeep : k.keepAlive with
  | true =>
    have hstays : applyRate t l = t := by simp [applyRate, hk.link, hka, hkeep]
    rw [hstays]
    exact ⟨k, hk, hka, hkeep, hout⟩
  | false =>
    have happly : applyRate t l = handBack (t.setLink l { k with keepAlive := true, fast := false }) l := by
      simp [applyRate, hk.link, hka, hkeep]
    rw [happly, handBack_of_empty (by simpa using hempty)]
    exact ⟨_, hk.trans (linkBecomes_setLink.trans linkBecomes_setLink), by simpa [handedNone] using hka,
      by simp [handedNone], hout⟩

theorem exec_rate_keepAlive (h : Hears s l f g) (hty : f.ty = 3) (hask : u8 g.payload 0 = 1) (hrequest : u8 g.payload 1 = 0) :
    ∃ u, exec (.rate l f) s = .next u ∧ (u.link l).partnerKa = true ∧ (u.link l).keepAlive = true ∧ u.mode = .service ∧
      .frame l (rateAnswer s l) ∈ u.out := by
  obtain ⟨hquiet, -, -, hopen⟩ := h
  obtain ⟨k, hk, ⟨_, _, _, _, _, _, _, _, hcounted⟩, -⟩ := hquiet.linkBecomes_heard (f := f) (g := g)
  have hrecv := recvFrame_of_quiet (act := fun g s1 => if (s1.link l).level = 0 then s1 else takeRate s1 l g.payload) hquiet hopen
  obtain ⟨-, hmode, -, hlevel, hqueue, -⟩ := hquiet
  have hsession : ¬ ((heard s l f g).link l).level = 0 := by
    rw [hk.link, (congrArg (·.level) hcounted).trans hlevel]
    decide
  have hempty : ((heard s l f g).link l).queue = [] := by rw [hk.link, (congrArg (·.queue) hcounted).trans hqueue]
  rw [hty, if_neg hsession] at hrecv
  obtain ⟨k', hk', hka, hkeep, hout⟩ := takeRate_keepAlive (s := heard s l f g) (l := l) hask hrequest hempty
  have hanswer : rateAnswer (heard s l f g) l = rateAnswer s l := by
    have hkey : slotKey (heard s l f g) (16 + 2 * l) = slotKey s (16 + 2 * l) := by
      rw [slotKey, State.slot, hk.slots, slotKey, State.slot]
    rw [rateAnswer, hkey, hk.link, hcounted, rateAnswer]
  refine ⟨_, congrArg Host.Outcome.next hrecv, ?_, ?_, (hk'.mode.trans hk.mode).trans hmode, hanswer ▸ hout⟩
  · rw [hk'.link, hka]
  · rw [hk'.link, hkeep]

end Sys2Proof.Machine
end

section
/-! ### Keep-alive frames received (R293, R413, R418) -/

namespace Sys2Proof.Machine

variable {s t u : State} {l n m code seq : Nat} {k : Link} {f g : Frame}

/-- A cleared slot holds no active key; the active halves of the other slots stay. -/
theorem active_clearSlot_self : ((clearSlot s n code seq).slot n).active = none := by
  simp only [clearSlot, active_touched, slot_setSlot_self]

theorem active_clearSlot_of_ne (hm : m ≠ n) : ((clearSlot s n code seq).slot m).active = (s.slot m).active := by
  simp only [clearSlot, active_touched, slot_setSlot_of_ne _ _ hm]
  rfl

theorem clearSlot_links : (clearSlot s n code seq).links = s.links := by
  simp only [clearSlot, touched]
  split <;> rfl

/-- The end of a session clears the link's two key slots, and no other link's entry. -/
theorem endSession_ends : ((endSession s l).link l).queue = (s.link l).queue ∧ ((endSession s l).link l).level = 0 ∧
    ((endSession s l).link l).partnerAddr = (s.link l).partnerAddr ∧ (∀ x, x ≠ l → (endSession s l).link x = s.link x) ∧
    ((endSession s l).slot (16 + 2 * l)).active = none ∧ ((endSession s l).slot (17 + 2 * l)).active = none := by
  have hlinks : (clearSlot (clearSlot s (16 + 2 * l) 0 0) (17 + 2 * l) 0 0).links = s.links := by
    rw [clearSlot_links, clearSlot_links]
  refine ⟨?_, ?_, ?_, fun x hx => ?_, ?_, ?_⟩
  · simp [endSession]
  · simp [endSession]
  · simp [endSession]
  · rw [endSession, link_setLink_of_ne _ _ hx, State.link, hlinks, State.link]
  · rw [endSession, slot_setLink, active_clearSlot_of_ne (by omega), active_clearSlot_self]
  · rw [endSession, slot_setLink, active_clearSlot_self]

/-- The state in which a link's partner has given its address. -/
def partnerAddressed (s : State) (l addr : Nat) : State := s.setLink l { s.link l with partnerAddr := addr }

theorem linkBecomes_partnerAddressed {addr : Nat} :
    LinkBecomes s (partnerAddressed s l addr) l { s.link l with partnerAddr := addr } := linkBecomes_setLink

theorem exec_kaBeacon_ends (h : Quiet s l) (hty : f.ty = 4) (hgood : clearGood f = true) :
    ∃ u, exec (.kaBeacon l f) s = .next u ∧ (u.link l).state = .peerDormant ∧ (u.link l).level = 0 ∧
      (u.link l).partnerAddr = u16 f.payload 8 ∧ (u.slot (16 + 2 * l)).active = none ∧ (u.slot (17 + 2 * l)).active = none ∧
      (∀ x, x ≠ l → u.link x = s.link x) := by
  obtain ⟨k, hk, ⟨_, _, _, _, _, _, _, _, hcounted⟩, -⟩ := h.linkBecomes_good (f := f)
  obtain ⟨hl, hmode, hstate, hlevel, hqueue, -⟩ := h
  have hexec : kaBeaconIn s l f =
      linkTo (endSession (partnerAddressed (accountFrame s l f false) l (u16 f.payload 8)) l) l .peerDormant false := by
    have hdormant : ¬ s.mode = .dormant := by simp [hmode]
    have htaken : ¬ (l ≥ 8 ∨ linksRun s = false ∨ f.ty ≠ 4 ∨ (s.link l).state.num < 2) := by
      simp [hl, linksRun, hmode, hty, hstate, LinkState.num]
    have hsession : ¬ (s.link l).level = 0 := by simp [hlevel]
    have hgood' : ¬ clearGood f = false := by simp [hgood]
    simp only [kaBeaconIn, if_neg hdormant, if_neg htaken, if_neg hgood', if_neg hsession, partnerAddressed]
  have hset := hk.trans (linkBecomes_partnerAddressed (addr := u16 f.payload 8))
  rw [hk.link] at hset
  obtain ⟨hsame, hended, haddr, hothers, hkey, hkey'⟩ := endSession_ends
    (s := partnerAddressed (accountFrame s l f false) l (u16 f.payload 8)) (l := l)
  have hempty := (congrArg (·.queue) hcounted).trans hqueue
  rw [hset.link] at hsame haddr
  generalize endSession (partnerAddressed (accountFrame s l f false) l (u16 f.payload 8)) l = t at *
  have hto := linkBecomes_linkTo (st := .peerDormant) (ev := false) (hsame.trans hempty)
  refine ⟨_, congrArg Host.Outcome.next hexec, ?_, ?_, ?_, ?_, ?_, fun x hx => ?_⟩
  · rw [hto.link, handedNone]
  · rw [hto.link, handedNone]
    exact hended
  · rw [hto.link, handedNone]
    exact haddr
  · rw [State.slot, hto.slots]
    exact hkey
  · rw [State.slot, hto.slots]
    exact hkey'
  · rw [hto.others x hx, hothers x hx, hset.others x hx]

/-! #### A WAKE -/

/-- The state in which a WAKE on a link has set the link's bit and is counted. -/
def wakeCounted (s : State) (l : Nat) : State :=
  let s1 := s.setReg R.PWR_WAKE_CAUSE (s.reg R.PWR_WAKE_CAUSE ||| 2 ^ (32 + l))
  { s1 with moon := { s1.moon with swlWakes := s.clk :: recentWakes s1 } }

theorem reg_wakeCounted {a : Nat} : (wakeCounted s l).reg a = (causeSet s (32 + l)).reg a := rfl

theorem exec_wake (hmode : s.mode = .dormant) (hl : l < 8) (hvbat : s.moon.onVbat = false) (hcore : s.moon.corePower = true)
    (hka : (s.regField R.PWR_KEEPALIVE 7 0).testBit l = true) (hgood : clearGood f = true) (hty : f.ty = 5)
    (hdst : f.dst = s.regField R.PWR_KEEPALIVE 23 8) (hcfg : (s.reg R.PWR_WAKE_CFG).testBit 0 = true)
    (hlimit : s.regField R.PWR_WAKE_CFG 15 8 = 0) :
    ∃ u, exec (.wake l f) s = .next u ∧ u.mode = .startup ∧ (u.reg R.PWR_WAKE_CAUSE).testBit 0 = true ∧
      (u.reg R.PWR_WAKE_CAUSE).testBit (32 + l) = true ∧ s.clk ∈ u.moon.swlWakes := by
  have hcfg' : ((wakeCounted s l).reg R.PWR_WAKE_CFG).testBit 0 = true := by
    rw [reg_wakeCounted, causeSet, reg_setReg_of_ne _ _ (by decide), hcfg]
  have hexec : wakeFrame s l f = enterStartup (causeSet (wakeCounted s l) 0) := by
    rw [← qualify_of_dormant (s := wakeCounted s l) hmode hvbat hcore hcfg']
    have hheard : ¬ (s.moon.onVbat = true ∨ l ≥ 8 ∨ (s.regField R.PWR_KEEPALIVE 7 0).testBit l = false ∨ clearGood f = false) := by
      simp [hvbat, hl, hka, hgood]
    have hmine : ¬ (f.ty ≠ 5 ∨ f.dst ≠ s.regField R.PWR_KEEPALIVE 23 8) := by simp [hty, hdst]
    have hon : ¬ (s.reg R.PWR_WAKE_CFG).testBit 0 = false := by simp [hcfg]
    have hfree : ¬ (s.regField R.PWR_WAKE_CFG 15 8 ≠ 0 ∧ (recentWakes s).length ≥ s.regField R.PWR_WAKE_CFG 15 8) := by
      simp [hlimit]
    simp only [wakeFrame, if_neg hheard, if_neg hmine, if_neg hon, if_neg hfree]
    rfl
  have hwoken := woken_enterStartup (s := wakeCounted s l) (bit := 0) hmode (by decide)
  refine ⟨_, congrArg Host.Outcome.next ((if_pos hmode).trans hexec), hwoken.mode, hwoken.cause, ?_, ?_⟩
  · rw [reg_enterStartup_of_ne (by decide), causeSet, reg_setReg_self, reg_wakeCounted, causeSet, reg_setReg_self,
      Nat.testBit_mod_two_pow, Nat.testBit_or, testBit_orBit (by omega)]
    simp
    omega
  · rw [hwoken.moon]
    exact List.mem_cons_self

/-! #### A DORMANT_NOTICE -/

theorem u8_nakPayload_reason {item batch ty reason addr tag : Nat} (hreason : reason < 256) :
    u8 (nakPayload item batch ty reason addr tag) 10 = reason := by
  simp [nakPayload, u8, slice, leBytes, leNat, zeros]
  omega

/-- The entry of a LATE_NAK stands in the log of late failures. -/
theorem mem_logNak {p : Bytes} {peer : Option Nat} : ∃ e ∈ (logNak s p peer).fabric.replLog, e.payload = p ∧ e.state = 1 := by
  refine ⟨{ payload := p, time := s.time, state := 1, peer := peer.getD 0xFFFF }, ?_, rfl, rfl⟩
  simp only [logNak, recordEvent_fabric, setRegField_fabric, incRegField_fabric]
  split
  · next hlong =>
    have hsome : s.fabric.replLog ≠ [] := by
      rintro hnil
      simp [hnil] at hlong
    obtain ⟨e, es, hlog⟩ := List.exists_cons_of_ne_nil hsome
    simp [hlog]
  · simp

/-- A command that ends early leaves the log of late failures. -/
theorem replLog_dropWith {j : Job} {st : Nat} : (dropWith s j st).fabric.replLog = s.fabric.replLog := by
  rw [dropWith, failJob_fabric]
  simp [releaseJob, freeFabric]

theorem replLog_endFetch {tag st : Nat} : (endFetch s tag st).fabric.replLog = s.fabric.replLog := by
  unfold endFetch
  split
  · rfl
  · dsimp only
    split
    · exact replLog_dropWith
    · rfl

/-- A frame of this node that its next hop, dormant, did not take is logged as a late failure. -/
theorem sendNak_own (hty : g.ty ≠ 0x23) (hsrc : g.src = s.fabric.addr) : ∃ e ∈ (sendNak s g 2).fabric.replLog,
    e.payload = nakPayload (itemOf g).1 (itemOf g).2 g.ty 2 s.fabric.addr g.tag ∧ e.state = 1 := by
  have hreason := u8_nakPayload_reason (item := (itemOf g).1) (batch := (itemOf g).2) (ty := g.ty) (addr := s.fabric.addr)
    (tag := g.tag) (reason := 2) (by decide)
  simp only [sendNak, if_neg hty, if_pos hsrc, takeNak, hreason]
  rw [if_neg (by decide), if_pos trivial, replLog_endFetch]
  exact mem_logNak

theorem exec_dormantNotice (h : Quiet s l) (hty : f.ty = 6) (hgood : clearGood f = true)
    (hsent : (s.link l).sent.find? (fun h => h.tag == u64 f.payload 12 && h.ty == u8 f.payload 10) = some g) (hnak : g.ty ≠ 0x23)
    (hsrc : g.src = s.fabric.addr) :
    ∃ u e, exec (.dormantNotice l f) s = .next u ∧ e ∈ u.fabric.replLog ∧
      e.payload = nakPayload (itemOf g).1 (itemOf g).2 g.ty 2 s.fabric.addr g.tag ∧ e.state = 1 := by
  obtain ⟨k, hk, ⟨_, _, _, _, _, _, _, _, hcounted⟩, -⟩ := h.linkBecomes_heard (f := f) (g := f)
  have hrecv := recvFrame_of_quiet (act := fun g s1 => noticeIn s1 l g.payload) h
    (openFrame_of_clearGood hgood (by rw [hty]; rfl))
  have hnotice : noticeIn (heard s l f f) l f.payload = sendNak (heard s l f f) g 2 := by
    have hsent' : ((heard s l f f).link l).sent = (s.link l).sent := by rw [hk.link, hcounted]
    rw [noticeIn, hsent', hsent]
  rw [hty, hnotice] at hrecv
  obtain ⟨e, hmem, hpayload, hstate⟩ := sendNak_own (s := heard s l f f) hnak (by rw [hk.fabric, hsrc])
  rw [hk.fabric] at hpayload
  exact ⟨_, e, congrArg Host.Outcome.next hrecv, hmem, hpayload, hstate⟩

/-! #### An UNREACH -/

/-- Unsealing keeps a frame's header. -/
theorem dst_of_openFrame (hsealed : f.sealed = true) (hopen : openFrame s l f = some g) : g.dst = f.dst := by
  simp only [openFrame, hsealed] at hopen
  split at hopen
  · cases hopen
  · rw [if_neg (by decide)] at hopen
    obtain ⟨key, -, hopen⟩ := Option.bind_eq_some_iff.1 hopen
    split at hopen
    · cases hopen
    · obtain ⟨x, hunseal, hopen⟩ := Option.bind_eq_some_iff.1 hopen
      split at hopen
      · cases hopen
      · obtain rfl : x = g := Option.some.inj hopen
        unfold unsealFrame at hunseal
        split at hunseal
        · obtain rfl := Option.some.inj hunseal
          rfl
        · cases hunseal

/-- A notice without a path ends the SHRED_STAGE that waits for it, which waits for no answer any more. -/
theorem noticeUnreachable_ends {tag : Nat} {n : Notice} {b : BindId} {j : Job}
    (hfind : s.fabric.notices.find? (fun m => m.tag == tag) = some n) (ho : n.origin = .mailbox b)
    (hj : s.job? (.mailbox b) = some j) (hp : Plain j) :
    Ends (noticeUnreachable s tag) b S.E_FAB_UNREACHABLE [] ∧
      ∀ m ∈ (noticeUnreachable s tag).fabric.notices, m.origin ≠ .mailbox b := by
  have heq : noticeUnreachable s tag = failJob { s with fabric := { s.fabric with
      notices := s.fabric.notices.filter (fun m => m.origin != .mailbox b) } } j S.E_FAB_UNREACHABLE := by
    simp only [noticeUnreachable, hfind, ho]
    have hj' : ({ s with fabric := { s.fabric with notices := s.fabric.notices.filter (fun m => m.origin != .mailbox b) } } :
        State).job? (.mailbox b) = some j := hj
    rw [hj']
  rw [heq, failJob_fabric]
  refine ⟨endJob_ends (origin_of_job? hj) hp .., fun m hm => ?_⟩
  simpa using (List.mem_filter.1 hm).2

/-- A network frame for this node is acted on, on a link with a DOMAIN session, once it is journalled at the route engine. -/
theorem recvNet_of_hears {act : Frame → State → State} (h : Hears s l f g) (hdst : f.dst = s.fabric.addr) :
    recvNet s l f.ty f act = act g (delivered (crossing (heard s l f g) 0x10 l 2 1) l f.ty) := by
  obtain ⟨hquiet, hsealed, -, hopen⟩ := h
  obtain ⟨k, hk, ⟨_, _, _, _, _, _, _, _, hcounted⟩, -⟩ := hquiet.linkBecomes_heard (f := f) (g := g)
  have hlevel : ((heard s l f g).link l).level = 2 := by
    obtain ⟨-, -, -, hlevel, -⟩ := hquiet
    rw [hk.link, (congrArg (·.level) hcounted).trans hlevel]
  have hmine : g.dst = (crossing (heard s l f g) 0x10 l 2 1).fabric.addr := by
    rw [dst_of_openFrame hsealed hopen, hdst, crossing_fabric, hk.fabric]
  rw [recvNet, recvFrame_of_quiet hquiet hopen]
  simp [hlevel, levelOk, hmine]

theorem exec_unreach {n : Notice} {b : BindId} {j : Job} (h : Hears s l f g) (hty : f.ty = 7) (hdst : f.dst = s.fabric.addr)
    (hfind : s.fabric.notices.find? (fun m => m.tag == u64 g.payload 0) = some n) (ho : n.origin = .mailbox b)
    (hj : s.job? (.mailbox b) = some j) (hp : Plain j) :
    ∃ u, exec (.unreach l f) s = .next u ∧ Ends u b S.E_FAB_UNREACHABLE [] ∧ ∀ m ∈ u.fabric.notices, m.origin ≠ .mailbox b := by
  have hrecv := recvNet_of_hears (act := fun g s1 => noticeUnreachable s1 (u64 g.payload 0)) h hdst
  obtain ⟨k, hk, -, -⟩ := h.1.linkBecomes_heard (f := f) (g := g)
  rw [hty] at hrecv
  have hfabric : (delivered (crossing (heard s l f g) 0x10 l 2 1) l 7).fabric = s.fabric := by
    simp [delivered, vaultFrame, crossing, hk.fabric]
  have hjob : (delivered (crossing (heard s l f g) 0x10 l 2 1) l 7).job? (.mailbox b) = some j :=
    (job?_congr (by simp [delivered, vaultFrame, crossing, hk.jobs]) _).trans hj
  obtain ⟨hends, hnotices⟩ := noticeUnreachable_ends (by rw [hfabric]; exact hfind) ho hjob hp
  exact ⟨_, congrArg Host.Outcome.next hrecv, hends, hnotices⟩

theorem exec_disabled (hstate : (s.link l).state = .disabled) (hmode : s.mode = .service) :
    exec (.hs l f) s = .next s ∧ exec (.beacon l f) s = .next s ∧ exec (.rate l f) s = .next s :=
  have hdeaf {ty : Nat} {act : Frame → State → State} := congrArg (Host.Outcome.next (φ := Fault) (ρ := Refusal))
    (recvFrame_of_disabled (f := f) (ty := ty) (act := act) hstate hmode)
  ⟨hdeaf, hdeaf, hdeaf⟩

end Sys2Proof.Machine
end

section
open Sys2Proof.Machine

/-- Settles O47, by what the accounting of a frame leaves of an undisturbed link, and by the act of each frame on it. -/
theorem linkFramesReceived : Obligations.LinkFramesReceived := by
  refine ⟨?_, fun _ _ _ h hty hline => exec_beacon_bad h hty hline,
    fun _ _ _ _ h hty hask hrequest => exec_rate_keepAlive h hty hask hrequest,
    fun _ _ _ h hty hgood => exec_kaBeacon_ends h hty hgood,
    fun _ _ _ hmode hl hvbat hcore hka hgood hty hdst hcfg hlimit =>
      exec_wake hmode hl hvbat hcore hka hgood hty hdst hcfg hlimit,
    fun _ _ _ _ h hty hgood hsent hnak hsrc => exec_dormantNotice h hty hgood hsent hnak hsrc,
    fun _ _ _ _ _ _ _ h hty hdst hfind ho hj hp => exec_unreach h hty hdst hfind ho hj hp,
    fun _ _ _ hstate hmode => exec_disabled hstate hmode⟩
  intro s l f h hty hgood haddr hpartner
  obtain ⟨u, k, hexec, hk, hpart, hpstate, hpaddr, hkcv, hstate, hlevel⟩ := exec_beacon_good h hty hgood haddr hpartner
  rw [← hk.link] at hpart hpstate hpaddr hkcv hstate hlevel
  exact ⟨u, hexec, hpart, hpstate, hpaddr, hkcv, hstate, hlevel, hk.others, hk.fabric, hk.slots⟩

end

section
/-! ### Requests of Quartz firmware (R285, R444) -/

namespace Sys2Proof.Machine

variable {s t u : State} {n m e len : Nat} {d r : Bytes} {q : SignReq} {ur : Bool}

theorem exec_quartzRequest {req : QuartzReq} (hgate : s.boot.gateOpen = true) (hfw : fwRuns s = true) :
    exec (.quartzInternalRequest n req d ur) s = .next (quartzRequest (askDispatch s) n req d ur) := by
  refine congrArg Host.Outcome.next (if_pos ?_)
  simp [hgate, hfw]

theorem exec_quartzRequest_closed {req : QuartzReq} (hgate : s.boot.gateOpen = false) :
    exec (.quartzInternalRequest n req d ur) s = .next s := by
  refine congrArg Host.Outcome.next (if_neg ?_)
  simp [hgate]

@[simp] theorem askDispatch_slots : (askDispatch s).slots = s.slots := by simp [askDispatch]
@[simp] theorem askDispatch_internalDone : (askDispatch s).internalDone = s.internalDone := by simp [askDispatch]
@[simp] theorem askDispatch_quartz : (askDispatch s).quartz = s.quartz := by simp [askDispatch]

theorem askDispatch_of_ne (hmode : s.mode ≠ .hush) : askDispatch s = crossing s 0x03 0 0 1 :=
  hushExit_of_ne (by simpa using hmode)

theorem askDispatch_mode_of_hush (hmode : s.mode = .hush) : (askDispatch s).mode = .service :=
  hushExit_mode (by simpa using hmode)

@[simp] theorem requestDone_slots {st : Nat} {res : Bytes} : (requestDone s n st res).slots = s.slots := rfl
@[simp] theorem requestDone_mode {st : Nat} {res : Bytes} : (requestDone s n st res).mode = s.mode := rfl
@[simp] theorem requestDone_internalDone {st : Nat} {res : Bytes} :
    (requestDone s n st res).internalDone = s.internalDone ++ [(n, st, res)] := rfl

/-- A refused request leaves its status for the firmware, and no key changed. -/
theorem requestRefused_ends : (requestRefused s n).internalDone = s.internalDone ++ [(n, S.E_COLOUR, [])] ∧
    (requestRefused s n).slots = s.slots ∧ (requestRefused s n).mode = s.mode := by
  refine ⟨?_, ?_, ?_⟩
  · simp [requestRefused]
  · simp [requestRefused]
  · simp [requestRefused]

/-! #### What a signature within a step depends on -/

/-- What the failure statement and an identity signature read of a state, and what a request leaves for the firmware. -/
structure SameBody (s t : State) : Prop where
  mode : t.mode = s.mode
  slots : t.slots = s.slots
  moon : t.moon = s.moon
  boot : t.boot = s.boot
  fuses : t.fuses = s.fuses
  lcs : t.lcs = s.lcs
  pins : t.pins = s.pins
  meas : t.meas = s.meas
  regs : t.regs = s.regs
  internalDone : t.internalDone = s.internalDone

theorem SameBody.trans (h : SameBody s t) (h' : SameBody t u) : SameBody s u :=
  ⟨h'.mode.trans h.mode, h'.slots.trans h.slots, h'.moon.trans h.moon, h'.boot.trans h.boot, h'.fuses.trans h.fuses,
    h'.lcs.trans h.lcs, h'.pins.trans h.pins, h'.meas.trans h.meas, h'.regs.trans h.regs,
    h'.internalDone.trans h.internalDone⟩

theorem sameBody_capture {ty island : Nat} {body : List Nat} (hmode : s.mode ≠ .hush) :
    SameBody s (capture s ty island body) :=
  ⟨capture_mode .., capture_slots .., capture_moon_of_ne_hush hmode, capture_boot .., capture_fuses .., capture_lcs ..,
    capture_pins .., capture_meas .., capture_regs .., capture_internalDone ..⟩

theorem sameBody_drawn (hmode : s.mode ≠ .hush) : SameBody s (drawn s n len) :=
  (sameBody_capture hmode).trans ⟨rfl, rfl, rfl, rfl, rfl, rfl, rfl, rfl, rfl, rfl⟩

theorem SameBody.slot (h : SameBody s t) (n : Nat) : t.slot n = s.slot n := by rw [State.slot, h.slots, State.slot]

theorem SameBody.identityKey (h : SameBody s t) (n : Nat) : identityKey t n = identityKey s n := by
  rw [Machine.identityKey, activeHalf, h.slot, Machine.identityKey, activeHalf]

theorem SameBody.hasIdentity (h : SameBody s t) : hasIdentity t = hasIdentity s := by
  rw [Machine.hasIdentity, h.identityKey, h.identityKey, Machine.hasIdentity]

theorem SameBody.identityReq (h : SameBody s t) (pre : String) (p384 : Bool) (m : Bytes) :
    identityReq t pre p384 m = identityReq s pre p384 m := by
  simp only [Machine.identityReq, h.slot]

theorem SameBody.failBody (h : SameBody s t) (d : Bytes) : failBody t d = failBody s d := by
  have hentry : mrEntry t = mrEntry s := by
    funext i
    simp only [mrEntry, State.mr, h.meas]
  simp only [Machine.failBody, h.hasIdentity, h.mode, h.fuses, h.lcs, h.pins, h.boot, State.time, h.moon, State.reg, h.regs,
    deviceFp, h.slot, hentry]

/-! #### An engine for a job within a step (R216) -/

theorem freeEngine_congr (hmode : t.mode = s.mode) (harith : t.arith = s.arith) : freeEngine t = freeEngine s := by
  simp only [freeEngine, hmode, harith, State.aeng]

/-- The lowest free engine, and what LOCKDOWN asks of the others. -/
theorem freeEngine_eq_some : freeEngine s = some e ↔ ¬ (s.mode = .lockdown ∧ s.arith.any (·.2.work.isSome) = true) ∧
    (List.range 24).find? (fun n => (s.aeng n).state == .inService && (s.aeng n).work.isNone) = some e := by
  unfold freeEngine
  split
  · next h => simp [h]
  · next h => exact ⟨fun hfind => ⟨h, hfind⟩, And.right⟩

/-- An engine that rests again in service is the lowest free one as before. -/
theorem freeEngine_setAeng {v : ArithEngine} (hfree : freeEngine s = some e) (hstate : v.state = .inService)
    (hwork : v.work = none) : freeEngine (s.setAeng e v) = some e := by
  obtain ⟨hlock, hfind⟩ := freeEngine_eq_some.1 hfree
  refine freeEngine_eq_some.2 ⟨fun ⟨hmode, hany⟩ => hlock ⟨hmode, ?_⟩, ?_⟩
  · obtain ⟨x, hx, hbusy⟩ := List.any_eq_true.1 hany
    have hput : x = (e, v) ∨ x ∈ s.arith := by
      rw [setAeng_arith, NMap.put] at hx
      split at hx
      · exact .inr (NMap.mem_erase hx).1
      · exact NMap.mem_insert hx
    obtain rfl | hmem := hput
    · rw [hwork] at hbusy
      cases hbusy
    · exact List.any_eq_true.2 ⟨x, hmem, hbusy⟩
  · have hfits := List.find?_some hfind
    rw [← hfind]
    congr 1
    funext n
    by_cases hn : n = e
    · rw [hn, aeng_setAeng_self, hstate, hwork]
      exact hfits.symm
    · rw [aeng_setAeng_of_ne _ _ hn]

/-- The state in which an engine has run a job within a step, and rests. -/
def engineUsed (s : State) (n : Nat) : State :=
  let s1 := crossing s 0x09 0 n ((s.jobs.filter arithWaits).length + 1)
  s1.setAeng n { restArith (s1.aeng n) with goodJobs := min ((s1.aeng n).goodJobs + 1) 1048576 }

theorem arithNow_eq (hmode : s.mode ≠ .hush) (hfree : freeEngine s = some e) : arithNow s = some (engineUsed s e) := by
  rw [arithNow, if_neg hmode, hfree, Option.map_some, engineUsed]

/-- A job within a step finds the lowest free engine, which is free again after it. -/
theorem arithNow_of_free (hmode : s.mode ≠ .hush) (hfree : freeEngine s = some e) :
    ∃ t, arithNow s = some t ∧ SameBody s t ∧ freeEngine t = some e := by
  have hcross : freeEngine (crossing s 0x09 0 e ((s.jobs.filter arithWaits).length + 1)) = some e :=
    (freeEngine_congr (crossing_mode ..) (crossing_arith ..)).trans hfree
  obtain ⟨-, hserves⟩ := freeEngine_inService hcross
  exact ⟨_, arithNow_eq hmode hfree, (sameBody_capture hmode).trans ⟨rfl, rfl, rfl, rfl, rfl, rfl, rfl, rfl, rfl, rfl⟩,
    freeEngine_setAeng hcross hserves rfl⟩

theorem signReqNow_makes (hmode : s.mode ≠ .hush) (hfree : freeEngine s = some e)
    (hits : iterations q.scheme q.priv q.ctx q.msg r ≤ 128) :
    ∃ t, signReqNow s q r = some (signOut q r, t) ∧ SameBody s t ∧ freeEngine t = some e := by
  obtain ⟨t, ht, hsame, hfree'⟩ := arithNow_of_free hmode hfree
  refine ⟨t, ?_, hsame, hfree'⟩
  rw [signReqNow, ht, Option.bind_some, if_neg (Nat.not_lt.2 hits)]

/-- Beyond the bound of R222 no signature is made. -/
theorem signReqNow_beyond (hits : 128 < iterations q.scheme q.priv q.ctx q.msg r) : signReqNow s q r = none := by
  cases h : arithNow s with
  | none => rw [signReqNow, h, Option.bind_none]
  | some t => rw [signReqNow, h, Option.bind_some, if_pos hits]

/-- A P-384 signature takes no iterations. -/
theorem iterations_p384 {pre : String} {msg : Bytes} :
    iterations (identityReq s pre true msg).scheme (identityReq s pre true msg).priv (identityReq s pre true msg).ctx msg r = 0 := rfl

/-- Both identity signatures are made within the step, up to the bound of R222. -/
theorem signBoth_makes {pre : String} (hmode : s.mode ≠ .hush) (hfree : freeEngine s = some e)
    (hits : iterations 6 (identityReq s pre false d).priv (ascii pre) d (r.drop 56) ≤ 128) :
    ∃ t, signBoth s pre d r = some (signOut (identityReq s pre true d) (r.take 56) ++
      signOut (identityReq s pre false d) (r.drop 56), t) ∧ SameBody s t := by
  obtain ⟨t, ht, hsame, hfree'⟩ := signReqNow_makes (q := identityReq s pre true d) (r := r.take 56) hmode hfree (Nat.zero_le _)
  obtain ⟨u, hu, hsame', -⟩ := signReqNow_makes (q := identityReq t pre false d) (r := r.drop 56) (by rw [hsame.mode]; exact hmode)
    hfree' (by rw [hsame.identityReq]; exact hits)
  rw [hsame.identityReq] at hu
  refine ⟨u, ?_, hsame.trans hsame'⟩
  rw [signBoth, signNow, ht, Option.bind_some, signNow, hsame.identityReq, hu, Option.map_some]

theorem signBoth_beyond {pre : String} (hits : 128 < iterations 6 (identityReq s pre false d).priv (ascii pre) d (r.drop 56))
    (hmode : s.mode ≠ .hush) (hfree : freeEngine s = some e) : signBoth s pre d r = none := by
  obtain ⟨t, ht, hsame, -⟩ := signReqNow_makes (q := identityReq s pre true d) (r := r.take 56) hmode hfree (Nat.zero_le _)
  rw [signBoth, signNow, ht, Option.bind_some, signNow, hsame.identityReq, signReqNow_beyond hits, Option.map_none]

/-! #### Requests that sign -/

/-- A request of Quartz finds the identity keys, a free engine, and generator 4,108 seeded. -/
structure CanSign (s : State) (e : Nat) : Prop where
  mode : s.mode ≠ .hush
  identity : hasIdentity s = true
  free : freeEngine s = some e
  inst : (s.drbgs.get {} 4108).inst = true
  requests : (s.drbgs.get {} 4108).requests < 2 ^ 19

theorem CanSign.anyArith (h : CanSign s e) : anyArith s = true := by
  obtain ⟨hlt, hserves⟩ := freeEngine_inService h.free
  exact List.any_eq_true.2 ⟨e, List.mem_range.2 hlt, by rw [hserves]; rfl⟩

theorem sameBody_askDispatch (hmode : s.mode ≠ .hush) : SameBody s (askDispatch s) := by
  rw [askDispatch_of_ne hmode]
  exact sameBody_capture hmode

theorem canSign_askDispatch (h : CanSign s e) : CanSign (askDispatch s) e := by
  have hsame := sameBody_askDispatch h.mode
  refine ⟨by rw [hsame.mode]; exact h.mode, by rw [hsame.hasIdentity]; exact h.identity, ?_, ?_, ?_⟩
  · exact (freeEngine_congr hsame.mode (by simp [askDispatch])).trans h.free
  · simpa [askDispatch] using h.inst
  · simpa [askDispatch] using h.requests

/-- Such a request passes the checks of one that signs, and draws its random input. -/
theorem CanSign.draws (h : CanSign s e) (hpos : 0 < len) (hlen : len ≤ 65536) : ¬ hasIdentity s = false ∧
    ¬ Machine.anyArith s = false ∧ ¬ (arithNow s).isNone = true ∧
    quartzDraw s len = some (drbgBytes s 4108 len, drawn s 4108 len) := by
  obtain ⟨t, ht, -⟩ := arithNow_of_free h.mode h.free
  refine ⟨by simp [h.identity], by simp [h.anyArith], by simp [ht], ?_⟩
  rw [quartzDraw, draw_of_inst h.inst h.requests hpos hlen]

theorem requestSigned_signs {sign : State → Bytes → Option (Bytes × State)} {out : Bytes} (h : CanSign s e) (hpos : 0 < len)
    (hlen : len ≤ 65536) (hsign : sign (drawn s 4108 len) (drbgBytes s 4108 len) = some (out, t)) :
    requestSigned s n len sign = requestDone t n S.OK out := by
  obtain ⟨hidentity, hserved, hengine, hdraw⟩ := h.draws hpos hlen
  simp only [requestSigned, if_neg hidentity, if_neg hserved, if_neg hengine, hdraw, hsign]

theorem requestSigned_beyond {sign : State → Bytes → Option (Bytes × State)} (h : CanSign s e) (hpos : 0 < len)
    (hlen : len ≤ 65536) (hsign : sign (drawn s 4108 len) (drbgBytes s 4108 len) = none) :
    requestSigned s n len sign =
      requestDone ((drawn s 4108 len).incRegField R.ARI_ERR_COUNT 15 0) n S.E_ITER_LIMIT [] := by
  obtain ⟨hidentity, hserved, hengine, hdraw⟩ := h.draws hpos hlen
  simp only [requestSigned, if_neg hidentity, if_neg hserved, if_neg hengine, hdraw, hsign]

theorem canSign_drawn (h : CanSign s e) : (drawn s 4108 len).mode ≠ .hush ∧ freeEngine (drawn s 4108 len) = some e :=
  have hsame := sameBody_drawn (n := 4108) (len := len) h.mode
  ⟨by rw [hsame.mode]; exact h.mode, (freeEngine_congr hsame.mode (crossing_arith ..)).trans h.free⟩

/-- The bytes that a request draws are those of generator 4,108 as it stands. -/
theorem drbgBytes_askDispatch : drbgBytes (askDispatch s) n len = drbgBytes s n len := by
  simp [drbgBytes, askDispatch]

theorem exec_signFail (h : CanSign s e) (hgate : s.boot.gateOpen = true) (hfw : fwRuns s = true) (hlen : d.length = 32)
    (hr : r = drbgBytes s 4108 88) :
    ∃ u, exec (.quartzInternalRequest n .signFail d ur) s = .next u ∧ u.slots = s.slots ∧
      (iterations 6 (identityReq s "" false []).priv (ascii "GV-FAIL") (failBody s d) (r.drop 56) ≤ 128 →
        u.internalDone = s.internalDone ++ [(n, S.OK, failBody s d ++
          (signOut (identityReq s "GV-FAIL" true (failBody s d)) (r.take 56) ++
            signOut (identityReq s "GV-FAIL" false (failBody s d)) (r.drop 56)))]) ∧
      (128 < iterations 6 (identityReq s "" false []).priv (ascii "GV-FAIL") (failBody s d) (r.drop 56) →
        u.internalDone = s.internalDone ++ [(n, S.E_ITER_LIMIT, [])]) := by
  have hcan := canSign_askDispatch h
  have hsame := (sameBody_askDispatch h.mode).trans (sameBody_drawn (n := 4108) (len := 88) hcan.mode)
  obtain ⟨hmode, hfree⟩ := canSign_drawn (len := 88) hcan
  have hrequest : quartzRequest (askDispatch s) n .signFail d ur = requestSigned (askDispatch s) n 88 fun s1 r =>
      statementSigned s1 "GV-FAIL" 3 (failBody s1 d) r := if_neg (by simp [hlen])
  have hstatement (s1 : State) (r : Bytes) : statementSigned s1 "GV-FAIL" 3 (failBody s1 d) r =
      (signBoth s1 "GV-FAIL" (failBody s1 d) r).map fun x => (failBody s1 d ++ x.1, x.2) := rfl
  have hpriv : (identityReq (drawn (askDispatch s) 4108 88) "GV-FAIL" false (failBody s d)).priv =
      (identityReq s "" false []).priv := by
    rw [hsame.identityReq]
    rfl
  have hbytes : drbgBytes (askDispatch s) 4108 88 = r := drbgBytes_askDispatch.trans hr.symm
  rw [exec_quartzRequest hgate hfw, hrequest]
  by_cases hits : 128 < iterations 6 (identityReq s "" false []).priv (ascii "GV-FAIL") (failBody s d) (r.drop 56)
  · have hnone := signBoth_beyond (pre := "GV-FAIL") (d := failBody s d) (by rw [hpriv]; exact hits) hmode hfree
    rw [requestSigned_beyond hcan (by decide) (by decide) (by rw [hbytes, hstatement, hsame.failBody, hnone]; rfl)]
    refine ⟨_, rfl, ?_, fun hle => absurd hits (Nat.not_lt.2 hle), fun _ => ?_⟩
    · rw [requestDone_slots, incRegField_slots, hsame.slots]
    · rw [requestDone_internalDone, incRegField_internalDone, hsame.internalDone]
  · obtain ⟨t, ht, hlast⟩ := signBoth_makes (pre := "GV-FAIL") (d := failBody s d) (r := r) hmode hfree
      (by rw [hpriv]; exact Nat.not_lt.1 hits)
    rw [hsame.identityReq, hsame.identityReq] at ht
    have hall := hsame.trans hlast
    rw [requestSigned_signs hcan (by decide) (by decide)
      (by rw [hbytes, hstatement, hsame.failBody, ht, Option.map_some])]
    refine ⟨_, rfl, ?_, fun _ => ?_, fun hgt => absurd hgt hits⟩
    · rw [requestDone_slots, hall.slots]
    · rw [requestDone_internalDone, hall.internalDone]

theorem exec_signSpdm (h : CanSign s e) (hgate : s.boot.gateOpen = true) (hfw : fwRuns s = true)
    (hkept : keptMessage s d = true) (hr : r = drbgBytes s 4108 56) :
    ∃ u, exec (.quartzInternalRequest n .signSpdm d ur) s = .next u ∧ u.slots = s.slots ∧
      u.internalDone = s.internalDone ++ [(n, S.OK, signOut { identityReq s "" true d with msg := d } r)] := by
  have hcan := canSign_askDispatch h
  have hsame := (sameBody_askDispatch h.mode).trans (sameBody_drawn (n := 4108) (len := 56) hcan.mode)
  obtain ⟨hmode, hfree⟩ := canSign_drawn (len := 56) hcan
  have hkept' : keptMessage (askDispatch s) d = true := by rw [keptMessage, askDispatch_quartz, ← hkept, keptMessage]
  have hrequest : quartzRequest (askDispatch s) n .signSpdm d ur = requestSigned (askDispatch s) n 56 fun s1 r =>
      signSpdm s1 d r := if_pos hkept'
  obtain ⟨t, ht, hlast, -⟩ := signReqNow_makes (q := { identityReq s "" true d with msg := d }) (r := r) hmode hfree
    (Nat.zero_le _)
  have hall := hsame.trans hlast
  rw [exec_quartzRequest hgate hfw, hrequest, requestSigned_signs hcan (by decide) (by decide)
    (by rw [drbgBytes_askDispatch, ← hr, signSpdm, hsame.identityReq, ht])]
  refine ⟨_, rfl, ?_, ?_⟩
  · rw [requestDone_slots, hall.slots]
  · rw [requestDone_internalDone, hall.internalDone]

/-- A message that no connection keeps is not signed. -/
theorem exec_signs_refused (hgate : s.boot.gateOpen = true) (hfw : fwRuns s = true) (hkept : keptMessage s d = false) :
    ∃ u v, exec (.quartzInternalRequest n .signSpdm d ur) s = .next u ∧
      exec (.quartzInternalRequest n .cosignSpdm d ur) s = .next v ∧
      u.internalDone = s.internalDone ++ [(n, S.E_COLOUR, [])] ∧ v.internalDone = s.internalDone ++ [(n, S.E_COLOUR, [])] := by
  have hkept' : ¬ keptMessage (askDispatch s) d = true := by
    rw [keptMessage, askDispatch_quartz, ← keptMessage, hkept]
    decide
  obtain ⟨hdone, -, -⟩ := requestRefused_ends (s := askDispatch s) (n := n)
  rw [askDispatch_internalDone] at hdone
  refine ⟨_, _, exec_quartzRequest hgate hfw, exec_quartzRequest hgate hfw, ?_, ?_⟩
  · rw [quartzRequest, if_neg hkept', hdone]
  · rw [quartzRequest, if_neg hkept', hdone]

/-- A request of no defined form is refused; from HUSH it leads to SERVICE as any other. -/
theorem exec_undefined_refused (hgate : s.boot.gateOpen = true) (hfw : fwRuns s = true) :
    ∃ u, exec (.quartzInternalRequest n .other d ur) s = .next u ∧
      u.internalDone = s.internalDone ++ [(n, S.E_COLOUR, [])] ∧ u.slots = s.slots ∧ (s.mode = .hush → u.mode = .service) := by
  obtain ⟨hdone, hslots, hmode⟩ := requestRefused_ends (s := askDispatch s) (n := n)
  exact ⟨_, exec_quartzRequest hgate hfw, hdone.trans (by rw [askDispatch_internalDone]), hslots.trans askDispatch_slots,
    fun hhush => hmode.trans (askDispatch_mode_of_hush hhush)⟩

end Sys2Proof.Machine
end

section
/-! ### Sensors (R446) -/

namespace Sys2Proof.Machine

variable {s t : State} {n m : Nat} {v : Int} {vs : List Int}

/-- What one sample makes of a state. -/
structure Sampled (s t : State) (n : Nat) (v : Int) : Prop where
  self : t.sensor n = (s.sensor n).take v s.clk
  others : ∀ m, m ≠ n → t.sensor m = s.sensor m
  clk : t.clk = s.clk
  slots : t.slots = s.slots
  kept : s.quartz.alertSensor = true → t.quartz.alertSensor = true
  alerts : ((s.sensor n).take v s.clk).out = true → t.quartz.alertSensor = true

theorem sensor_congr (h : t.quartz.sensors = s.quartz.sensors) (n : Nat) : t.sensor n = s.sensor n := by
  rw [State.sensor, h, State.sensor]

theorem sensor_setSensor_self {x : Sensor} : (s.setSensor n x).sensor n = x := NMap.get_put_self ..

theorem sensor_setSensor_of_ne {x : Sensor} (hm : m ≠ n) : (s.setSensor n x).sensor m = s.sensor m := NMap.get_put_of_ne _ _ _ hm

/-- A sample changes no more of the state than a sensor and what the journal and the recorder write. -/
theorem sampleOne_field {α : Type} (f : State → α) (hsensor : ∀ t x, f (State.setSensor t n x) = f t)
    (hcapture : ∀ t ty i w, f (capture t ty i w) = f t) (hevent : ∀ t c p0 p1 p2, f (recordEvent t c p0 p1 p2) = f t)
    (halert : ∀ t : State, f { t with quartz := { t.quartz with alertSensor := true } } = f t) : f (sampleOne s n v) = f s := by
  unfold sampleOne
  dsimp only
  split
  · exact (hevent ..).trans ((halert _).trans ((hcapture ..).trans (hsensor ..)))
  · exact (hcapture ..).trans (hsensor ..)

theorem sampled_sampleOne : Sampled s (sampleOne s n v) n v := by
  have hquartz : (sampleOne s n v).quartz = { (s.setSensor n ((s.sensor n).take v s.clk)).quartz with
      alertSensor := ((s.sensor n).take v s.clk).out || s.quartz.alertSensor } := by
    unfold sampleOne
    dsimp only
    split
    · next hout => rw [recordEvent_quartz, capture_quartz, hout, Bool.true_or]
    · next hout => rw [capture_quartz, Bool.eq_false_of_not_eq_true hout, Bool.false_or]; rfl
  have hsensors := congrArg (·.sensors) hquartz
  refine ⟨(sensor_congr hsensors n).trans sensor_setSensor_self,
    fun m hm => (sensor_congr hsensors m).trans (sensor_setSensor_of_ne hm),
    sampleOne_field (·.clk) (fun _ _ => rfl) capture_clk recordEvent_clk (fun _ => rfl),
    sampleOne_field (·.slots) (fun _ _ => rfl) capture_slots recordEvent_slots (fun _ => rfl), fun halert => ?_, fun hout => ?_⟩
  · rw [hquartz, halert, Bool.or_true]
  · rw [hquartz, hout, Bool.true_or]

theorem sampleFrom_cons (hn : n < 57) : sampleFrom s n (v :: vs) = sampleFrom (sampleOne s n v) (n + 1) vs :=
  if_neg (Nat.not_le.2 hn)

theorem sampleFrom_past (hn : 57 ≤ n) : sampleFrom s n vs = s := by
  cases vs with
  | nil => rfl
  | cons v vs => exact if_pos hn

/-- Samples from sensor `n` on take none below it, and keep an alert. -/
theorem sampleFrom_keeps (vs : List Int) : ∀ (s : State) (n : Nat), (sampleFrom s n vs).slots = s.slots ∧
    (s.quartz.alertSensor = true → (sampleFrom s n vs).quartz.alertSensor = true) ∧
    ∀ m, m < n ∨ n + vs.length ≤ m → (sampleFrom s n vs).sensor m = s.sensor m := by
  induction vs with
  | nil => exact fun s n => ⟨rfl, id, fun _ _ => rfl⟩
  | cons v vs ih =>
    intro s n
    by_cases hn : n < 57
    · have hone := sampled_sampleOne (s := s) (n := n) (v := v)
      obtain ⟨hslots, halert, hsensor⟩ := ih (sampleOne s n v) (n + 1)
      rw [sampleFrom_cons hn]
      refine ⟨hslots.trans hone.slots, fun h => halert (hone.kept h), fun m hm => ?_⟩
      rw [List.length_cons] at hm
      exact (hsensor m (by omega)).trans (hone.others m (by omega))
    · rw [sampleFrom_past (Nat.not_lt.1 hn)]
      exact ⟨rfl, id, fun _ _ => rfl⟩

/-- Each sensor takes its own sample, and one outside its limits alerts. -/
theorem sampleFrom_takes (vs : List Int) : ∀ (s : State) (n i : Nat) (v : Int), n + i < 57 → vs[i]? = some v →
    (sampleFrom s n vs).sensor (n + i) = (s.sensor (n + i)).take v s.clk ∧
      (((s.sensor (n + i)).take v s.clk).out = true → (sampleFrom s n vs).quartz.alertSensor = true) := by
  induction vs with
  | nil => exact fun s n i v _ hv => by simp at hv
  | cons x vs ih =>
    intro s n i v hn hv
    have hone := sampled_sampleOne (s := s) (n := n) (v := x)
    rw [sampleFrom_cons (by omega)]
    cases i with
    | zero =>
      obtain rfl : x = v := by simpa using hv
      obtain ⟨-, halert, hsensor⟩ := sampleFrom_keeps vs (sampleOne s n x) (n + 1)
      exact ⟨(hsensor n (.inl (Nat.lt_succ_self n))).trans hone.self, fun hout => halert (hone.alerts hout)⟩
    | succ i =>
      have htail := ih (sampleOne s n x) (n + 1) i v (by omega) (by simpa using hv)
      rw [Nat.add_right_comm, Nat.add_assoc, hone.others (n + (i + 1)) (by omega), hone.clk] at htail
      exact htail

theorem out_take {x : Sensor} {c : Nat} (hen : x.en = true) (hlimits : x.high < v ∨ v < x.low) : (x.take v c).out = true := by
  simp only [Sensor.take, hen, Bool.true_and, Bool.or_eq_true, decide_eq_true_eq]
  exact hlimits

/-- The reading of VHOLD is kept in the lifecycle state alone. -/
theorem vholdSample_frame : ∃ l, vholdSample s vs = { s with lcs := l } := by
  unfold vholdSample
  split
  · exact ⟨_, rfl⟩
  · exact ⟨s.lcs, rfl⟩

theorem exec_sensorSample (hmode : s.mode ≠ .dormant) :
    ∃ u, exec (.sensorSample vs) s = .next u ∧ u.slots = s.slots ∧
      (∀ n v, n < 57 → vs[n]? = some v → u.sensor n = (s.sensor n).take v s.clk) ∧
      (∀ n, vs.length ≤ n → u.sensor n = s.sensor n) ∧
      (∀ n v, n < 57 → vs[n]? = some v → (s.sensor n).en = true → ((s.sensor n).high < v ∨ v < (s.sensor n).low) →
        u.quartz.alertSensor = true) := by
  obtain ⟨l, hlast⟩ := vholdSample_frame (s := sampleFrom s 0 vs) (vs := vs)
  obtain ⟨hslots, -, hkeeps⟩ := sampleFrom_keeps vs s 0
  refine ⟨_, congrArg Host.Outcome.next ((if_neg hmode).trans hlast), hslots, fun n v hn hv => ?_, fun n hn => ?_,
    fun n v hn hv hen hlimits => ?_⟩
  · have htakes := (sampleFrom_takes vs s 0 n v (by omega) hv).1
    rw [Nat.zero_add] at htakes
    exact htakes
  · exact hkeeps n (.inr (by omega))
  · have halerts := (sampleFrom_takes vs s 0 n v (by omega) hv).2
    rw [Nat.zero_add] at halerts
    exact halerts (out_take hen hlimits)

end Sys2Proof.Machine
end

section
/-! ### The management bus (R447) -/

namespace Sys2Proof.Machine

variable {s : State} {c : MgmtConn} {req : Bytes} {a : Nat}

theorem exec_setEndpointId (hopen : mgmtOpen s c = true) (hop : u8 req 2 % 4 ≤ 1) (hzero : u8 req 3 ≠ 0)
    (hbroadcast : u8 req 3 ≠ 0xFF) (hlen : 4 ≤ req.length) :
    ∃ u, exec (.setEndpointId c req) s = .next u ∧ u.quartz = { s.quartz with eid := u8 req 3 } ∧
      .mctp c 0x00 (leBytes 1 (u8 req 0 % 32) ++ [0x01, 0x00, 0x00] ++ leBytes 1 (u8 req 3) ++ [0x00]) ∈ u.out := by
  have hok : decide (u8 req 2 % 4 ≤ 1 ∧ u8 req 3 ≠ 0 ∧ u8 req 3 ≠ 0xFF ∧ req.length ≥ 4) = true :=
    decide_eq_true ⟨hop, hzero, hbroadcast, hlen⟩
  refine ⟨_, congrArg Host.Outcome.next (if_pos hopen), ?_⟩
  simp only [setEndpointId, hok, if_true]
  refine ⟨?_, ?_⟩
  · rw [send_quartz, mgmtEntry, capture_quartz]
  · rw [send_out]
    refine List.mem_append_right _ (List.mem_singleton.2 ?_)
    simp

theorem exec_setEndpointId_closed (hclosed : mgmtOpen s c = false) : exec (.setEndpointId c req) s = .next s :=
  congrArg Host.Outcome.next (if_neg (by simp [hclosed]))

theorem exec_i3cCcc {ccc : Nat} (hopen : mgmtOpen s .port = true) : exec (.i3cBroadcastCcc ccc a) s = .next (i3cCcc s ccc a) :=
  congrArg Host.Outcome.next (if_pos (by simp [hopen]))

/-- ENTDAA gives an address to a port that has none. -/
theorem i3cCcc_entdaa (haddr : s.quartz.dynAddr = 0) :
    i3cCcc s 0x07 a = { s with quartz := { s.quartz with i3c := true, dynAddr := a % 128 } } := by
  simp [i3cCcc, haddr]

theorem i3cCcc_rstdaa : i3cCcc s 0x06 a = { s with quartz := { s.quartz with i3c := true, dynAddr := 0 } } := rfl

end Sys2Proof.Machine
end

section
open Sys2Proof.Machine

/-- Settles O56, by what a signature within a step reads, by one induction over the samples, and by the bus's two answers. -/
theorem quartzRequestsSensorsAndBus : Obligations.QuartzRequestsSensorsAndBus := by
  refine ⟨?_, ?_, ?_, fun _ _ _ _ hgate hfw hkept => exec_signs_refused hgate hfw hkept,
    fun _ _ _ _ _ hgate => exec_quartzRequest_closed hgate, fun _ _ hmode => exec_sensorSample hmode,
    fun _ _ _ hopen hop hzero hbroadcast hlen => exec_setEndpointId hopen hop hzero hbroadcast hlen,
    fun _ _ _ hclosed => exec_setEndpointId_closed hclosed, ?_, ?_, ?_⟩
  · intro s n d ur hgate hfw
    obtain ⟨u, hexec, hdone, hslots, -⟩ := exec_undefined_refused (s := s) (n := n) (d := d) (ur := ur) hgate hfw
    exact ⟨u, hexec, hdone, hslots⟩
  · intro s n e d r ur hgate hfw hlen hidentity hfree hmode hinst hrequests hr
    exact exec_signFail ⟨hmode, hidentity, hfree, hinst, hrequests⟩ hgate hfw hlen hr
  · intro s n e m r ur hgate hfw hkept hidentity hfree hmode hinst hrequests hr
    exact exec_signSpdm ⟨hmode, hidentity, hfree, hinst, hrequests⟩ hgate hfw hkept hr
  · intro s a hopen haddr
    rw [exec_i3cCcc hopen, i3cCcc_entdaa haddr]
  · intro s a hopen
    rw [exec_i3cCcc hopen, i3cCcc_rstdaa]
  · intro s n d ur hgate hfw hhush
    obtain ⟨u, hexec, hdone, hslots, hmode⟩ := exec_undefined_refused (s := s) (n := n) (d := d) (ur := ur) hgate hfw
    exact ⟨u, hexec, hmode hhush, hslots, hdone⟩

end
